-- ==== Sys2Proof/Word.lean ====
section
/-!
DEFINITION. The word types of the NX8: a 32-bit register word (00_scope R6), a byte, a 64-bit quantity,
and the plainest bit-field arithmetic on them. Bit fields are written [hi:lo] as in 00_scope.
-/
namespace Sys2Proof

/-- A 32-bit register or image word (R6). -/
abbrev Word := BitVec 32
/-- One byte. -/
abbrev Byte := BitVec 8
/-- A 64-bit quantity held in a _LO and _HI pair (R6), or the word accumulator of a Plumb engine. -/
abbrev DWord := BitVec 64

/-- The bits [hi:lo] of a word set, all others clear. -/
def Word.mask (hi lo : Nat) : Word := BitVec.ofNat 32 (2 ^ (hi + 1) - 2 ^ lo)

/-- The field [hi:lo] of a word, as a number. -/
def Word.fld (w : Word) (hi lo : Nat) : Nat := (w.toNat / 2 ^ lo) % 2 ^ (hi + 1 - lo)

/-- The word with the field [hi:lo] replaced by `v`, cut to the field. -/
def Word.setFld (w : Word) (hi lo v : Nat) : Word :=
  (w &&& ~~~(Word.mask hi lo)) ||| ((BitVec.ofNat 32 v <<< lo) &&& Word.mask hi lo)

/-- Bit `i` of a word. -/
def Word.bit (w : Word) (i : Nat) : Bool := w.getLsbD i

/-- The word with bit `i` set to `b`. -/
def Word.setBit (w : Word) (i : Nat) (b : Bool) : Word :=
  if b then w ||| BitVec.twoPow 32 i else w &&& ~~~(BitVec.twoPow 32 i)

/-- A word from a number, cut to 32 bits. -/
abbrev w32 (n : Nat) : Word := BitVec.ofNat 32 n

/-- The word that holds `b` in bit 0. -/
def ofBool (b : Bool) : Nat := if b then 1 else 0

/-- A word of two halves, as a number. -/
def pair64 (lo hi : Word) : Nat := hi.toNat * 2 ^ 32 + lo.toNat

/-- A count that stops at its largest value `max` (the counters that saturate). -/
def satAdd (max a b : Nat) : Nat := if a + b < max then a + b else max

/-- The number `n` read as a two's complement value of `bits` bits. -/
def signed (bits n : Nat) : Int :=
  let m := n % 2 ^ bits
  if m < 2 ^ (bits - 1) then (m : Int) else (m : Int) - (2 ^ bits : Nat)

/-- The two's complement pattern of `bits` bits of an integer. -/
def pattern (bits : Nat) (i : Int) : Nat := (i % (2 ^ bits : Nat)).toNat

/-- An integer held within [lo, hi]. -/
def clampInt (lo hi i : Int) : Int := if i < lo then lo else if hi < i then hi else i

end Sys2Proof
end

