-- ==== Sys2Proof/Syntax.lean ====
section
/-!
DEFINITION. The commands of the block: one constructor per row of the manual's table of operations and events, and the
records they carry (trajectory segments, Traverse frames, pair-link frames). A command's `dt` is the number of SCLK
clocks since the command before it (log 4). `m` is the ID of the master that makes an access (R12).
-/
namespace Sys2Proof

/-- A trajectory segment (R96, Table 5.1) as it stands in a queue. Positions and their derivatives are in 2^-32 units;
times are nanoseconds of PTP time. -/
structure Seg where
  t0    : Nat
  dur   : Nat
  seq   : Nat
  p0    : Nat
  v0    : Int
  a0    : Int
  j     : Int
  sj1   : Int
  sj2   : Int
  sd1   : Nat
  sd2   : Nat
  /-- the WRAPS that held at T0 (R97) -/
  wraps : Int := 0
  /-- sent mark per line port (R112), one bit each -/
  sent  : Nat := 0
  /-- the epoch it was received with, for an UPSTREAM datum (R108) -/
  epoch : Nat := 0
deriving DecidableEq, Repr, Inhabited

/-- The header of a Traverse frame (R143, Table 7.2) that its class does not fix, with the EtherType the frame came with and
the VID of its VLAN tag, if it has one. -/
structure Hdr where
  ver    : Nat := 1
  tsReq  : Bool := false
  slot   : Nat
  forced : Bool := false
  rept   : Bool := false
  src    : Nat
  dst    : Nat
  tag    : Nat := 0
  epoch  : Nat
  cycle  : Nat := 0
  etype  : Nat := 0x88B5
  vid    : Option Nat := none
deriving DecidableEq, Repr, Inhabited

/-- An entry of a DATUM frame (R145, Table 7.3). -/
structure DatumEntry where
  datum   : Nat
  state   : Nat
  horizon : Nat
  lastSeq : Nat
  actSeq  : Nat
  modulo  : Nat
  pos     : Nat
  wraps   : Int
  cycT0   : Nat
deriving DecidableEq, Repr, Inhabited

/-- A station block of an IMAGE frame from a module (R149). -/
structure ImgBlock where
  stn    : Nat
  outOfs : Nat
  bytes  : List Byte
  words  : List Word
deriving DecidableEq, Repr, Inhabited

/-- The input block of a station (R150). -/
structure InBlock where
  stn    : Nat
  state  : Nat
  inT    : Nat
  status : Word
  bytes  : List Byte
  words  : List Word
deriving DecidableEq, Repr, Inhabited

/-- A stream entry of an ACK frame (R156). -/
structure AckStream where
  stream    : Nat
  truncSeen : Bool
  heldSeq   : Nat
deriving DecidableEq, Repr, Inhabited

/-- An event entry of an ACK frame (R156). RESULT 0 held, 1 done, 2 late and discarded, 3 late and done, 4 refused. -/
structure AckEvent where
  evtId  : Nat
  result : Nat
  doneT  : Nat
deriving DecidableEq, Repr, Inhabited

/-- An entry of an EVENT frame (R153). -/
structure EvtEntry where
  stn   : Nat
  code  : Nat
  evtId : Nat
  act   : Int
deriving DecidableEq, Repr, Inhabited

/-- The payload of a Traverse frame, by class (R145-R158). -/
inductive Payload where
  | datum     (entries : List DatumEntry)
  | segment   (stream : Nat) (trunc : Option Nat) (segs : List Seg)
  | image     (cycT0 : Nat) (blocks : List ImgBlock)
  | input     (block : InBlock)
  | event     (entries : List EvtEntry)
  | ack       (stn state : Nat) (streams : List AckStream) (events : List AckEvent)
  | regacc    (mac : Nat) (bytes : List Byte)
  | heartbeat (role t : Nat)
  | stateCmd  (stn target : Nat)
  | discover
  | discoverResp (addr mac product state : Nat)
  | config    (words : List Word)
deriving DecidableEq, Repr, Inhabited

/-- What an IMAGE frame carries: the input block of a station (R150), or the output blocks of a pair (R149). -/
inductive ImgBody where
  | station (block : InBlock)
  | pair    (cycT0 : Nat) (blocks : List ImgBlock)
deriving DecidableEq, Repr, Inhabited

/-- A Traverse frame. -/
structure Frame where
  hdr  : Hdr
  body : Payload
deriving DecidableEq, Repr, Inhabited

/-- The header of a pair-link frame (R272, Table 12.3) that its type does not fix. -/
structure LinkHdr where
  lane  : Nat
  retx  : Bool := false
  /-- 0 in an unsequenced frame -/
  seq   : Nat
  epoch : Nat
  gen   : Nat := 0
deriving DecidableEq, Repr, Inhabited

/-- What one tile of a checked pair presents at an output port (R243): which port (0 the interconnect, 1 the snapshot memory,
2 the write buffer, 3 the constant copy, 4 the instance path), and every field of it. -/
structure PortOut where
  port    : Nat
  command : Nat
  addr    : Nat
  data    : Nat
  enables : Nat
  master  : Nat
deriving DecidableEq, Repr, Inhabited

/-- What a checkpoint record holds of a datum (R115, Table 5.5): its state, the SEQ count, the queue with WRAPS and sent
marks, the segment that ended last, the held position, PHASE with the ratio in force and whether the datum has engaged,
STOP_CMD and the truncation point. -/
structure DatQ where
  st      : Nat
  seq     : Nat
  segs    : List Seg
  ended   : Option Seg
  heldP   : Nat
  heldW   : Int
  phase   : Int
  ratio   : Int × Nat
  engaged : Bool
  stop    : Bool
  trunc   : Option Nat
  halts   : Nat
deriving DecidableEq, Repr, Inhabited

/-- What a checkpoint record holds of an axis stream, as of a datum's queue (R239): the SEQ count, the queue with sent marks, the
segment that ended last and the truncation point. -/
structure AxisQ where
  seq   : Nat
  segs  : List Seg
  ended : Option Seg
  trunc : Option Nat
deriving DecidableEq, Repr, Inhabited

/-- A record of a DELTA frame (R276, Table 12.5): KIND 0x01 to 0x0B in order; KIND 0x04 for datums and for axis streams,
KIND 0x09 for its four contents. -/
inductive DeltaRec where
  | image   (space task word : Nat) (ws : List Word)
  | input   (space word : Nat) (ws : List Word)
  | inst    (word : Nat) (ws : List Word)
  | datumQ  (d : Nat) (q : DatQ)
  | axisQ   (stream : Nat) (q : AxisQ)
  | stake   (entry st target count : Nat) (block : Bool) (lastXt : Int)
  | sent    (port stn code evtId : Nat) (act : Int)
  | config  (cat : Nat) (shadow : Bool) (item : Nat) (ws : List Word)
  | force   (sym : Nat) (value : Option Nat)
  | value   (sym value : Nat)
  | konst   (word : Nat) (ws : List Word)
  | mode    (m : Nat)
  | register (addr : Nat) (w : Word)
  | bank    (b ofs : Nat) (bytes : List Byte)
  | releaseEnd (task code snap : Nat)
deriving DecidableEq, Repr, Inhabited

/-- The payload of a pair-link frame, by type (R272, Table 12.4). A RESYNC block of state that has no internal address
is carried as the records that set it. -/
inductive LinkBody where
  | keepalive (role : Nat) (ready : Bool) (complete : Nat)
  | delta     (recs : List DeltaRec)
  | genClose  (gen count digest : Nat)
  | ack       (seq : Nat)
  | resync    (addr : Nat) (bytes : List Byte) (recs : List DeltaRec)
  | swap      (epoch t mask evtId : Nat)
  | role      (role cause : Nat)
  | time      (response : Bool) (t1 t2 t3 : Int)
  | program   (offset : Nat) (bytes : List Byte)
deriving DecidableEq, Repr, Inhabited

/-- A pair-link frame. -/
structure LinkFrame where
  hdr  : LinkHdr
  body : LinkBody
deriving DecidableEq, Repr, Inhabited

/-- A response that the MP posts: the host-to-MP mailbox of its command, and the digest that the trailing tile shows of the
command's closure (R248), where that is not the leading tile's. -/
structure MpPost where
  mailbox  : Nat
  trailing : Option Nat
deriving DecidableEq, Repr, Inhabited

/-- The way an announcement has come: the steps from the grandmaster, and the identity of the port that sent it. -/
structure AnnWay where
  steps  : Nat
  sender : Nat
deriving DecidableEq, Repr, Inhabited

/-- Where a PTP message arrives, and the domain it names. -/
structure PtpAt where
  port   : Nat
  domain : Nat
deriving DecidableEq, Repr, Inhabited

/-- What an SSI frame brings to a fit: its position bits, and the nanoseconds since its first falling clock edge. -/
structure SsiFrame where
  raw  : Nat
  back : Nat
deriving DecidableEq, Repr, Inhabited

/-- A received Ethernet frame: its EtherType, the VID of its tag, whether its FCS is right, and the bytes after the EtherType. -/
structure RawFrame where
  etype : Nat
  vid   : Option Nat
  fcs   : Bool
  bytes : List Byte
deriving DecidableEq, Repr, Inhabited

/-- The outputs of a pair that its comparator holds against each other. -/
structure PairPorts where
  pair  : Nat
  lead  : PortOut
  trail : PortOut
deriving DecidableEq, Repr, Inhabited

/-- The commands, in the order of the table. Each names its rule. -/
inductive Instr where
  /-- R24. A PCIe TLP from the host is performed as ascending 32-bit accesses and answered as a whole, stopping at the first refused or erroring access. -/
  | pcieTlp (dt : Nat) (write bar2 : Bool) (offset len : Nat) (data : List Byte)
  /-- R23. PERST# from the carrier resets the PCIe endpoint only. -/
  | perstReset (dt : Nat)
  /-- R21. The PCIe link trains or goes down, and SYS_PCIE_STS reports speed, width and link state. -/
  | pcieLinkChange (dt : Nat) (up : Bool) (speed width : Nat)
  /-- R26. The first clock with BME = 1 and the link up sends each unmasked vector whose pending bit is set. -/
  | bmeSet (dt : Nat) (on : Bool)
  /-- R26. Unmasking an MSI-X vector whose pending bit is set sends its message once. -/
  | msixVectorUnmask (dt v : Nat)
  /-- R157. A REGACC request frame on a line port is matched on DST and SLOT, performed under R28 and answered in the REGACC queue. -/
  | regacc (dt port : Nat) (hdr : Hdr) (mac : Nat) (payload : List Byte)
  /-- R28. A remote register access request on the service port is checked, performed register by register and answered with a status. -/
  | remoteRegisterAccess (dt dst etype mac : Nat) (payload : List Byte)
  /-- R32. A write to a register without a row of its own stores its value in the clock it reaches the block, unless refused or ignored. -/
  | registerWrite (dt m addr : Nat) (value : Word)
  /-- R34. A read of the _LO register of a 64-bit pair copies the _HI value into the reading master's latch. -/
  | loRead (dt m addr : Nat)
  /-- R35. A write of the _LO half of a writable 64-bit pair is held in the writing master's write latch. -/
  | loWrite (dt m addr : Nat) (value : Word)
  /-- R35. A write of the _HI half stores it together with the master's latched low half in one clock. -/
  | hiWrite (dt m addr : Nat) (value : Word)
  /-- R8. A read of an RC field returns the value and then sets the field to its reset value, subject to the latch rule. -/
  | rcRead (dt m addr : Nat)
  /-- R37. Every 1 ms a scrub votes every triplicated field. Operands: upsets that have struck since the last vote, each with its
  field (the register's address; 0x200000 + 32 n + w for word w of the item of task n) and the bits it flips in the three copies. -/
  | tmrScrub (dt : Nat) (upsets : List (Nat × Word × Word × Word))
  /-- R41. Writing 1 to SYS_VIOL_STS.VALID clears VALID and OVF. -/
  | violClear (dt m : Nat)
  /-- R412. SYS_RST_REQ with the correct key closes the recorder stretch, fences if running the line and resets the module with cause HOST. -/
  | moduleResetRequest (dt m : Nat) (value : Word)
  /-- R51. Host writes MBX_POST with GO = 1, storing LEN and setting GO of a host-to-MP mailbox. -/
  | mbxPost (dt m n : Nat) (value : Word)
  /-- R52. The MP takes a posted command into a free slot, clears GO and sets EMPTY. -/
  | mpTake (dt : Nat)
  /-- R54. The MP posts a completed response into the MP-to-host mailbox once its GO is 0, setting POSTED. -/
  | mpPostResponse (dt : Nat) (post : MpPost)
  /-- R55. Host writes MBX_TAKE.TAKE = 1 to clear GO of a response mailbox. -/
  | mbxTake (dt m n : Nat) (value : Word)
  /-- R57. Host-side reset of one mailbox clears its enables and events and acts on a posted message as in Table 3.2. -/
  | mbxHrst (dt m n : Nat) (value : Word)
  /-- R58. An MP restart ends taken commands, acts on mailboxes under Table 3.2 and drops MP_READY. -/
  | mpRestartBegin (dt : Nat)
  /-- R58. The restarted MP takes commands again and MP_READY returns to 1. -/
  | mpReady (dt : Nat)
  /-- R56. An L- or D-class command finishes its work and its response becomes ready for posting. -/
  | longCommandComplete (dt n found : Nat)
  /-- R71. Returns SYS_ID, SYS_FWREV and the serial number. -/
  | ident (dt n : Nat)
  /-- R71. Returns role, mode flags, epoch, set generation and retirement counts. -/
  | statusGet (dt n : Nat)
  /-- R71. Returns the parameter words unchanged. -/
  | echo (dt n : Nat)
  /-- R65. Opens the single editing session and returns its number. -/
  | cfgOpen (dt n : Nat)
  /-- R65. Ends the editing session keeping the shadow contents. -/
  | cfgClose (dt n : Nat)
  /-- R65. Ends the session and copies the active set into the shadow set. -/
  | cfgAbandon (dt n : Nat)
  /-- R71. Copies the masked active categories into the shadow set. -/
  | cfgCopy (dt n : Nat)
  /-- R71. Writes words of one item of a shadow category. -/
  | cfgWrite (dt n : Nat)
  /-- R71. Reads words of an item of the active or shadow set. -/
  | cfgRead (dt n : Nat)
  /-- R71. Replaces a whole shadow category from an MP-owned bank and returns the bank. -/
  | cfgBulk (dt n : Nat)
  /-- R67. Checks the resulting set for the masked categories under Table 3.7. -/
  | cfgCheck (dt n : Nat)
  /-- R68. Checks the resulting set and arms the swap on a TASK, DATUM or FIXED_END trigger. -/
  | cfgSwap (dt n : Nat)
  /-- R68. The armed swap makes the covered shadow categories active in one clock, raises the generation, copies back, ends the session and posts the response. -/
  | cfgSwapApply (dt : Nat)
  /-- R69. Disarms an armed swap before its trigger clock. -/
  | cfgSwapCancel (dt n : Nat)
  /-- R71. Returns the set generation, session and armed swap. -/
  | cfgStatus (dt n : Nat)
  /-- R71. Returns the program CRC, symbol and task counts and tool build. -/
  | prgInfo (dt n : Nat)
  /-- R287. Begins loading a new program of a given size and CRC. -/
  | prgLoadBegin (dt n : Nat)
  /-- R71. Copies a CRC-checked block of the program from an MP-owned bank and returns the bank. -/
  | prgLoadBlock (dt n : Nat)
  /-- R287. Checks the whole program, keeps its exchange set and builds the symbol map, setting MAPPED. -/
  | prgLoadEnd (dt n : Nat)
  /-- R71. Returns words filled from the named symbol and its successors, forced values included. -/
  | valRead (dt n : Nat)
  /-- R210. Writes a variable or a timer or counter preset as one change of the image store. -/
  | valWrite (dt n : Nat)
  /-- R211. Writes a constant into every pair's constant copy between releases. -/
  | constWrite (dt n : Nat)
  /-- R211. A pair applies a pending constant write between two of its releases. -/
  | constApply (dt p : Nat)
  /-- R71. The MP reads up to 32 bytes of LPDDR5 as master 0x01. -/
  | lpdRead (dt n : Nat)
  /-- R71. The MP writes up to 32 bytes of LPDDR5 as master 0x01. -/
  | lpdWrite (dt n : Nat)
  /-- R207. Sets or replaces a force on a forceable symbol in one force clock. -/
  | frcSet (dt n : Nat)
  /-- R207. Releases the force on one symbol. -/
  | frcRelease (dt n : Nat)
  /-- R71. Releases every force and returns how many. -/
  | frcReleaseAll (dt n : Nat)
  /-- R71. Returns up to three forces from a first index. -/
  | frcList (dt n : Nat)
  /-- R71. Returns the source, state, position and queue depth of a datum. -/
  | datStatus (dt n : Nat)
  /-- R114. Truncates a running datum's queue, informs the stations and runs the stop ramp. -/
  | datStop (dt n : Nat)
  /-- R71. Returns the armed stakes and the next stake of a datum. -/
  | stkStatus (dt n : Nat)
  /-- R71. Disarms every stake of a datum and returns how many. -/
  | stkCancelAll (dt n : Nat)
  /-- R71. Returns mode, state, status and value of a channel. -/
  | chStatus (dt n : Nat)
  /-- R317. Clears a retired channel's record and trip history; it returns to ACTIVE at the next I/O instant. -/
  | chRevive (dt n : Nat)
  /-- R326. Averages a channel for 100 ms and stores a zero or span trim with its temperature. -/
  | chTrimCapture (dt n : Nat)
  /-- R326. Removes both trims of a channel. -/
  | chTrimClear (dt n : Nat)
  /-- R328. Inverts a channel for 1 to 200 µs and checks that the measurement follows. -/
  | chPulseTest (dt n : Nat)
  /-- R71. Returns own and partner role, epoch and lane states. -/
  | pairStatus (dt n : Nat)
  /-- R289. Arms a planned hand-over to the standby's new program on a trigger. -/
  | pairExchange (dt n : Nat)
  /-- R289. Arms a planned hand-over keeping the program on a trigger. -/
  | pairHandover (dt n : Nat)
  /-- R71. Disarms an armed hand-over or exchange. -/
  | pairCancel (dt n : Nat)
  /-- R264. The module goes OUT_OF_SERVICE, after a hand-over if a READY standby exists. -/
  | pairWithdraw (dt n : Nat)
  /-- R280. Starts resynchronisation of a STANDBY. -/
  | pairResync (dt n : Nat)
  /-- R396. Returns the highest SEQ and valid record counts per area. -/
  | recInfo (dt n : Nat)
  /-- R389. Sets the summary period and closes the stretch with CAUSE NEW_PERIOD. -/
  | recPeriod (dt n : Nat)
  /-- R396. Copies recorder slots to an MP-owned bank and returns the bank. -/
  | recCopy (dt n : Nat)
  /-- R440. Returns slot states, security versions and slot builds. -/
  | updStatus (dt n : Nat)
  /-- R432. Writes the slot and activation time and arms the activation. -/
  | updSchedule (dt n : Nat)
  /-- R432. Clears an armed or deferred activation. -/
  | updCancel (dt n : Nat)
  /-- R332. Sends the controller image along the chain into the inactive slots of the masked controllers. -/
  | updChain (dt n : Nat)
  /-- R255. Runs the masked test groups, reviving passing retired pairs, banks and lanes. -/
  | selftestFull (dt n : Nat)
  /-- R71. Returns the counters of one unit. -/
  | diagCounters (dt n : Nat)
  /-- R256. Requests that a Plumb pair be split into two unchecked engines. -/
  | cmpSplit (dt n : Nat)
  /-- R258. Requests that a split pair be rejoined. -/
  | cmpJoin (dt n : Nat)
  /-- R58. With the key, schedules an MP restart 1 ms after its response is posted. -/
  | mpRestart (dt n : Nat)
  /-- R73. NS carries into SEC; a pending step is applied and SEC is copied into the backup clock. -/
  | ptpSecondCarry
  /-- R77. A write of TIM_INCR_HI stores the increment, clamped to ±500 ppm, from the next clock. -/
  | timIncrWrite (dt m : Nat) (value : Word)
  /-- R78. A write of TIM_STEP_HI arms the one step of this reset, or is a KIND 0x5 violation once used. -/
  | timStepArm (dt m : Nat) (value : Word)
  /-- R76. Reading TIM_NOW_LO captures the whole PTP clock for the reading master. -/
  | timNowRead (dt m : Nat)
  /-- R80. At each offset measurement the MP servo arms the first step or corrects the rate. -/
  | servoUpdate (dt : Nat)
  /-- R80. No Sync accepted for 3 intervals; the servo holds the increment and sets HOLDOVER. -/
  | holdover (dt : Nat)
  /-- R81. A received PTP Sync message is timestamped and used by the servo. -/
  | sync (dt port seq : Nat) (twoStep : Bool) (domain : Nat) (origin correction : Int)
  /-- R81. A received PTP Follow_Up message completes a two-step Sync. -/
  | followUp (dt port seq domain : Nat) (origin correction : Int)
  /-- R81. A received PTP Delay_Req is answered on a master port. -/
  | delayReq (dt port seq domain requester : Nat)
  /-- R81. A received PTP Delay_Resp completes an end-to-end delay measurement. -/
  | delayResp (dt port seq domain : Nat) (receipt correction : Int)
  /-- R81. A received PTP Pdelay_Req is answered two-step. -/
  | pdelayReq (dt port seq domain requester : Nat)
  /-- R81. A received PTP Pdelay_Resp feeds a peer delay measurement. -/
  | pdelayResp (dt port seq domain : Nat) (receipt correction : Int)
  /-- R81. A received PTP Pdelay_Resp_Follow_Up completes a peer delay measurement. -/
  | pdelayRespFollowUp (dt port seq domain : Nat) (origin correction : Int)
  /-- R81. A received PTP Announce feeds best master selection and may change the grandmaster. -/
  | announce (dt port domain prio1 cls accuracy variance prio2 gmId : Nat) (way : AnnWay)
  /-- R81. A received PTP Signaling message interval request is applied. -/
  | signaling (dt : Nat) (rx : PtpAt) (logSync logAnn logDelay : Int)
  /-- R81. A received PTP management message is dropped and counted in TIM_MGMT_DROP. -/
  | managementMessage (dt port : Nat)
  /-- R83. A port's PTP interval expires and it sends Sync, Announce or a delay request. -/
  | ptpMessageSend (dt port kind : Nat)
  /-- R86. Writing TIM_PORTn_TXQ_POP removes the head timestamp entry. -/
  | txqPop (dt m n : Nat) (value : Word)
  /-- R87. A comparator's target is reached; it delivers its action, advances or disables, and counts missed instants. -/
  | comparatorFire (dt k : Nat)
  /-- R98. The active segment ends; an abutting successor becomes active or the stop ramp begins. -/
  | segmentEnd (dt d : Nat)
  /-- R98. A queued segment's T0 arrives while STOPPING or STOPPED and it becomes active. -/
  | segmentStart (dt d : Nat)
  /-- R101. A stop ramp ends and the datum holds its position in STOPPED. -/
  | datumStopped (dt d : Nat)
  /-- R104. Writing DAT_APP_CTL.PUSH appends the staged segment or reports a refusal in DAT_APP_STS. -/
  | datAppPush (dt m d : Nat) (value : Word)
  /-- R105. A quadrature transition on the fast inputs, to the levels a and b of A and B, changes the encoder count or counts
  ILLEGAL. -/
  | encoderEdge (dt d : Nat) (a b : Bool)
  /-- R106. A Z edge homes the count the first time and is checked afterwards. -/
  | encoderZEdge (dt d : Nat)
  /-- R107. At a fit instant the NX8 fits and queues a cubic segment from the encoder and records the fit error. -/
  | encoderFit (dt d : Nat) (ssi : SsiFrame)
  /-- R109. No upstream segment for TIMEOUT cycles sets UP_LOST. -/
  | upstreamTimeout (dt d : Nat)
  /-- R112. A queued segment comes within the horizon and is handed to the publisher of each port. -/
  | segmentHandover (dt d : Nat)
  /-- R113. The queue end falls within HORIZON of now and HZ_SHORT rises. -/
  | hzShort (dt d : Nat)
  /-- R123. An armed entry's lookahead crosses its target; the crossing instant is found and the entry updated. -/
  | stakeFire (dt i : Nat)
  /-- R129. A decided stake action is dispatched at its fire instant. -/
  | stakeActionDispatch (dt : Nat)
  /-- R129. A queued fast-output edge is placed at its fire instant. -/
  | foEdgeApply (dt k : Nat)
  /-- R128. W7.ARM arms a disarmed stake entry. -/
  | arm (dt m j : Nat)
  /-- R128. W7.DISARM disarms a stake entry. -/
  | disarm (dt m j : Nat)
  /-- R128. W7.RELOAD returns the live target and count to the loaded values. -/
  | reload (dt m j : Nat)
  /-- R131. Reading STK_CAPk_INFO returns the latched capture and clears the slot if no newer capture arrived. -/
  | stkCapInfoRead (dt m k : Nat)
  /-- R161. A queued frame is sent when its gate is open and it ends before the gate closes. -/
  | frameTransmit (dt port : Nat)
  /-- R144. A received frame of another EtherType or failing the header checks is dropped and counted. -/
  | badFrameRx (dt port : Nat) (frame : RawFrame)
  /-- R145. A DATUM frame from an upstream pair is received under the epoch rules. -/
  | datumFrame (dt port : Nat) (hdr : Hdr) (entries : List DatumEntry)
  /-- R108. A SEGMENT frame is received and its segments enter, replace or are dropped from an UPSTREAM queue. -/
  | segmentFrame (dt port : Nat) (hdr : Hdr) (stream : Nat) (trunc : Option Nat) (segs : List Seg)
  /-- R151. A station's IMAGE frame is received and its input block written into the input image in one clock. -/
  | imageFrame (dt port : Nat) (hdr : Hdr) (body : ImgBody)
  /-- R156. A station ACK frame acknowledges segments, truncations and events. -/
  | traverseAck (dt port : Nat) (hdr : Hdr) (stn state : Nat) (streams : List AckStream) (events : List AckEvent)
  /-- R159. A HEARTBEAT is received, accepted as the partner's when SRC and SLOT fit, and its epoch checked. -/
  | heartbeat (dt port : Nat) (hdr : Hdr) (role t : Nat)
  /-- R168. A STATE_CMD from an upstream pair is accepted for the module's station role. -/
  | stateCmd (dt port : Nat) (hdr : Hdr) (stn target : Nat)
  /-- R168. A CONFIG from an upstream pair sets the module's subscription and offsets. -/
  | config (dt port : Nat) (hdr : Hdr) (words : List Word)
  /-- R158. A station's DISCOVER_RESP is collected. -/
  | discoverResp (dt port : Nat) (hdr : Hdr) (addr mac product state : Nat)
  /-- R158. Writing TRV_CTL.DISC = 1 sends DISCOVER and starts collecting answers. -/
  | discover (dt m n : Nat) (value : Word)
  /-- R158. Discovery ends after 10 ms and the answers pass to the MP. -/
  | discDone (dt port : Nat)
  /-- R152. A station's MISS_RUN reaches MISS_LIMIT and it becomes LOST. -/
  | stationLost (dt port stn : Nat)
  /-- R147. A segment is still unacknowledged after SEG_REPEAT cycles and is counted. -/
  | segNak (dt port : Nat)
  /-- R154. An event's ACT_TIME passes unacknowledged and is counted. -/
  | evtNak (dt port : Nat)
  /-- R138. A line port's 10GBASE-KR link comes up or goes down. -/
  | lineLinkChange (dt port : Nat) (up : Bool)
  /-- R199. A free pair starts its highest-priority pending task and takes the snapshot. -/
  | releaseStart (dt e : Nat)
  /-- R178. Does nothing. -/
  | plNop (e space addr : Nat)
  /-- R178. Loads a bit into ACC. -/
  | plLd (e space addr : Nat)
  /-- R178. Loads the inverted bit into ACC. -/
  | plLdn (e space addr : Nat)
  /-- R178. ANDs a bit into ACC. -/
  | plAnd (e space addr : Nat)
  /-- R178. ANDs the inverted bit into ACC. -/
  | plAndn (e space addr : Nat)
  /-- R178. ORs a bit into ACC. -/
  | plOr (e space addr : Nat)
  /-- R178. ORs the inverted bit into ACC. -/
  | plOrn (e space addr : Nat)
  /-- R178. XORs a bit into ACC. -/
  | plXor (e space addr : Nat)
  /-- R178. XORs the inverted bit into ACC. -/
  | plXorn (e space addr : Nat)
  /-- R178. Stores ACC to a bit. -/
  | plSt (e space addr : Nat)
  /-- R178. Stores the inverted ACC to a bit. -/
  | plStn (e space addr : Nat)
  /-- R178. Sets a bit when ACC = 1. -/
  | plSet (e space addr : Nat)
  /-- R178. Clears a bit when ACC = 1. -/
  | plRst (e space addr : Nat)
  /-- R178. Inverts ACC. -/
  | plNot (e space addr : Nat)
  /-- R178. Sets ACC to 1. -/
  | plSeta (e space addr : Nat)
  /-- R178. Sets ACC to 0. -/
  | plClra (e space addr : Nat)
  /-- R179. Pushes ACC with operation AND. -/
  | plPsha (e space addr : Nat)
  /-- R179. Pushes ACC with operation OR. -/
  | plPsho (e space addr : Nat)
  /-- R179. Pushes ACC with operation XOR. -/
  | plPshx (e space addr : Nat)
  /-- R179. Pushes ACC with operation NONE. -/
  | plPshn (e space addr : Nat)
  /-- R179. Pops the top LOGIC entry and joins it with ACC. -/
  | plPop (e space addr : Nat)
  /-- R179. Copies the top LOGIC entry's value into ACC without popping. -/
  | plPeek (e space addr : Nat)
  /-- R178. Jumps to an index. -/
  | plJmp (e space addr : Nat)
  /-- R178. Jumps when ACC = 1. -/
  | plJc (e space addr : Nat)
  /-- R178. Jumps when ACC = 0. -/
  | plJcn (e space addr : Nat)
  /-- R179. Pushes a RETURN entry and jumps. -/
  | plCall (e space addr : Nat)
  /-- R179. Pops a RETURN entry and jumps to it. -/
  | plRet (e space addr : Nat)
  /-- R179. Returns when ACC = 1. -/
  | plRetc (e space addr : Nat)
  /-- R189. Ends the release's execution and starts the closure. -/
  | plEnd (e space addr : Nat)
  /-- R178. Loads a sign-extended word into WA. -/
  | plLw (e space addr : Nat)
  /-- R178. Loads a zero-extended word into WA. -/
  | plLwu (e space addr : Nat)
  /-- R182. Loads a double word into WA. -/
  | plLwd (e space addr : Nat)
  /-- R178. Loads a 20-bit sign-extended immediate into WA. -/
  | plLwi (e space addr : Nat)
  /-- R178. Stores WA[31:0] to a word, setting OV when out of range. -/
  | plSw (e space addr : Nat)
  /-- R182. Stores WA to two words. -/
  | plSwd (e space addr : Nat)
  /-- R178. Stores a word when ACC = 1. -/
  | plSwc (e space addr : Nat)
  /-- R178. Stores two words when ACC = 1. -/
  | plSwdc (e space addr : Nat)
  /-- R180. Adds a sign-extended word to WA. -/
  | plAdd (e space addr : Nat)
  /-- R180. Subtracts a sign-extended word from WA. -/
  | plSub (e space addr : Nat)
  /-- R180. Multiplies WA[31:0] by a word into a 64-bit product. -/
  | plMul (e space addr : Nat)
  /-- R180. Adds a double word to WA. -/
  | plAddd (e space addr : Nat)
  /-- R180. Subtracts a double word from WA. -/
  | plSubd (e space addr : Nat)
  /-- R180. Negates WA. -/
  | plNeg (e space addr : Nat)
  /-- R178. ANDs a zero-extended word into WA. -/
  | plAndw (e space addr : Nat)
  /-- R178. ORs a zero-extended word into WA. -/
  | plOrw (e space addr : Nat)
  /-- R178. XORs a zero-extended word into WA. -/
  | plXorw (e space addr : Nat)
  /-- R180. Shifts WA left. -/
  | plShl (e space addr : Nat)
  /-- R182. Shifts WA right arithmetically. -/
  | plShr (e space addr : Nat)
  /-- R182. Shifts WA right logically. -/
  | plShru (e space addr : Nat)
  /-- R181. Copies a bit of WA into ACC. -/
  | plBtst (e space addr : Nat)
  /-- R178. Loads ACC into WA. -/
  | plLwb (e space addr : Nat)
  /-- R181. Compares WA equal to a word. -/
  | plCeq (e space addr : Nat)
  /-- R181. Compares WA not equal to a word. -/
  | plCne (e space addr : Nat)
  /-- R181. Compares WA less than a word, signed. -/
  | plClt (e space addr : Nat)
  /-- R181. Compares WA less or equal, signed. -/
  | plCle (e space addr : Nat)
  /-- R181. Compares WA greater, signed. -/
  | plCgt (e space addr : Nat)
  /-- R181. Compares WA greater or equal, signed. -/
  | plCge (e space addr : Nat)
  /-- R181. Compares WA[31:0] less than a word, unsigned. -/
  | plCltu (e space addr : Nat)
  /-- R181. Compares WA[31:0] greater or equal, unsigned. -/
  | plCgeu (e space addr : Nat)
  /-- R181. Compares WA equal to a double word. -/
  | plCeqd (e space addr : Nat)
  /-- R181. Compares WA less than a double word, signed. -/
  | plCltd (e space addr : Nat)
  /-- R181. Compares WA greater or equal to a double word, signed. -/
  | plCged (e space addr : Nat)
  /-- R181. Compares WA less than a double word, unsigned. -/
  | plCltdu (e space addr : Nat)
  /-- R181. Compares WA greater or equal to a double word, unsigned. -/
  | plCgedu (e space addr : Nat)
  /-- R180. Copies OV into ACC. -/
  | plLov (e space addr : Nat)
  /-- R180. Clears OV. -/
  | plCov (e space addr : Nat)
  /-- R178. Detects a rising edge of ACC against an edge memory. -/
  | plFp (e space addr : Nat)
  /-- R178. Detects a falling edge of ACC against an edge memory. -/
  | plFn (e space addr : Nat)
  /-- R183. Evaluates an on-delay timer with IN = ACC. -/
  | plTon (e space addr : Nat)
  /-- R183. Evaluates an off-delay timer with IN = ACC. -/
  | plTof (e space addr : Nat)
  /-- R183. Evaluates a pulse timer with IN = ACC. -/
  | plTp (e space addr : Nat)
  /-- R183. Sets a timer's PT from WA. -/
  | plTpt (e space addr : Nat)
  /-- R183. Resets a timer when ACC = 1. -/
  | plTrs (e space addr : Nat)
  /-- R184. Counts up on a rising ACC. -/
  | plCtu (e space addr : Nat)
  /-- R184. Counts down on a rising ACC. -/
  | plCtd (e space addr : Nat)
  /-- R184. Clears a counter's CV when ACC = 1. -/
  | plCrs (e space addr : Nat)
  /-- R184. Loads PV into CV when ACC = 1. -/
  | plClp (e space addr : Nat)
  /-- R184. Sets a counter's PV from WA. -/
  | plCpv (e space addr : Nat)
  /-- R185. Sets ACC when the datum's snapshot position lies in a constant window. -/
  | plDwin (e d space addr : Nat)
  /-- R186. Provisionally arms a stake entry when ACC = 1. -/
  | plStarm (e space addr : Nat)
  /-- R186. Provisionally disarms a stake entry when ACC = 1. -/
  | plStdis (e space addr : Nat)
  /-- R186. Provisionally sets a stake entry's live target from WA when ACC = 1. -/
  | plSttgt (e space addr : Nat)
  /-- R186. Provisionally reloads a stake entry when ACC = 1. -/
  | plStrld (e space addr : Nat)
  /-- R187. Calls a function block instance when ACC = 1 and stalls until return or deadline. -/
  | plCallb (e space addr : Nat)
  /-- R188. An instruction with an undefined opcode faults with OPCODE. -/
  | undefinedOpcode (e : Nat)
  /-- R202. After the closure phase the release commits its write buffer in one clock or is withheld. -/
  | releaseEndDecision (dt e : Nat) (trailing : Option Nat)
  /-- R202. A release's DEADLINE passes before END and it is withheld with END = 0x3. -/
  | taskDeadline (dt e : Nat)
  /-- R203. A fixed cycle starts at a multiple of PERIOD and runs the tasks in order, counting overruns. -/
  | fixedCycleStart (dt : Nat)
  /-- R204. PLM_MODE_REQ.TASK requests task mode at the next end of the fixed cycle. -/
  | modeReqTask (dt m : Nat)
  /-- R204. PLM_MODE_REQ.FIXED stops accepting releases and changes to fixed mode after the last running release. -/
  | modeReqFixed (dt m : Nat)
  /-- R418. After FIXED_MIN fixed cycles the MP requests task mode once. -/
  | autoTaskRequest (dt : Nat)
  /-- R223. A block call arrives at its serving pair and is queued. -/
  | blockCallArrival (dt e : Nat)
  /-- R223. A free block pair starts the next queued call or self-run. -/
  | blockServiceStart (dt p : Nat)
  /-- R221. The block call returns its OUT words and ENO to the caller. -/
  | blockReturn (dt p : Nat) (trailing : Option Nat)
  /-- R223. An instance deadline passes; the queued or running call is abandoned as late. -/
  | blockDeadline (dt i : Nat)
  /-- R226. A SELF instance's period instant arrives and a run is queued or skipped. -/
  | selfRunDue (dt i : Nat)
  /-- R226. A self-run writes its OUT copy, header and state and appends its segments in one clock. -/
  | selfRunEnd (dt p : Nat) (trailing : Option Nat)
  /-- R244. A pair's comparator finds differing outputs; the mismatch is contained in 4 clocks and classed. -/
  | coreMismatch (dt : Nat) (outs : PairPorts)
  /-- R252. The resynchronisation of a pair after a transient mismatch ends and the pair is free. -/
  | tileResyncDone (dt x : Nat)
  /-- R246. The tiles' synchronisers disagree on an asynchronous input; the previous value is delivered and counted. -/
  | agreementDisagree (dt x input : Nat)
  /-- R251. The MP injects a difference into a checker group and checks the rails and the pair's digest. -/
  | checkerTest (dt x rails : Nat) (same : Bool)
  /-- R256. The pair's running release ends and its trailing tile becomes a second engine. -/
  | splitComplete (dt x : Nat)
  /-- R258. Both releases end; banks and locks are handed back, the tile resynchronised and a checker test run. -/
  | joinComplete (dt x rails : Nat)
  /-- R264. At the end of start-up the module chooses ALONE, STANDBY or OUT_OF_SERVICE from what it hears. -/
  | roleDecision (dt : Nat) (sameOrder : Bool)
  /-- R272. Every 10 µs a KEEPALIVE is sent on every live lane. -/
  | keepaliveSend (dt : Nat)
  /-- R272. A KEEPALIVE from the partner is received with its role, readiness and generation. -/
  | pairKeepalive (dt : Nat) (hdr : LinkHdr) (role : Nat) (ready : Bool) (complete : Nat)
  /-- R278. A DELTA frame's records are applied, keeping undo records for generations. -/
  | pairDelta (dt : Nat) (hdr : LinkHdr) (recs : List DeltaRec)
  /-- R278. A GEN_CLOSE is received and the generation completes or the standby resynchronises. -/
  | pairGenClose (dt : Nat) (hdr : LinkHdr) (gen count digest : Nat)
  /-- R273. A pair-link ACK releases acknowledged sequenced frames. -/
  | pairAck (dt : Nat) (hdr : LinkHdr) (seq : Nat)
  /-- R280. A RESYNC frame's copied bytes are applied at its address. -/
  | pairResyncFrame (dt : Nat) (hdr : LinkHdr) (addr : Nat) (bytes : List Byte) (recs : List DeltaRec)
  /-- R290. A SWAP is received and the standby becomes TAKING_OVER for H. -/
  | pairSwap (dt : Nat) (hdr : LinkHdr) (epoch t mask evtId : Nat)
  /-- R283. A ROLE notice from a partner running the line makes the standby declare loss at once. -/
  | pairRoleNotice (dt : Nat) (hdr : LinkHdr) (role cause : Nat)
  /-- R275. A TIME frame's timing exchange feeds the servo of a module following its partner. -/
  | pairTime (dt : Nat) (hdr : LinkHdr) (response : Bool) (t1 t2 t3 : Int)
  /-- R280. A PROGRAM frame's image bytes are stored into the program store. -/
  | pairProgram (dt : Nat) (hdr : LinkHdr) (offset : Nat) (bytes : List Byte)
  /-- R274. A pair-link frame with a bad CRC is discarded and counted; 16 in 1 s retire the lane. -/
  | pairFrameCrcError (dt lane : Nat)
  /-- R273. 20 µs pass without acknowledgement and the sender resends from its oldest frame. -/
  | retransmit (dt : Nat)
  /-- R275. Every 1 ms a TIME delay request and response are sent. -/
  | timeExchange (dt : Nat)
  /-- R277. A generation boundary falls at a multiple of PAIR_GEN_CFG.PERIOD. -/
  | genBoundary (dt : Nat)
  /-- R277. Once a generation's boundary has passed and its releases have ended, GEN_CLOSE is sent. -/
  | genCloseSend (dt : Nat)
  /-- R280. The first generation completing after the copy makes the standby READY. -/
  | resyncReady (dt : Nat)
  /-- R283. 600 µs without partner frames; a READY standby takes over, raises its epoch and rolls back. -/
  | lossDeclared (dt : Nat)
  /-- R284. At R the module becomes ALONE, drives outputs and starts releases and dispatch. -/
  | takeoverResume (dt : Nat)
  /-- R268. A module with a fitted partner hears no frame for 600 µs and fences as ISOLATED. -/
  | isolationTimeout (dt : Nat)
  /-- R289. After the last running release, the module closes the generation and sends SWAP with H. -/
  | swapSend (dt : Nat)
  /-- R290. At H both modules take the raised epoch and swap roles. -/
  | handoverH (dt : Nat)
  /-- R264. Running releases have not ended 20 ms after the trigger; the former role returns with CANCELLED. -/
  | handoverTimeout (dt : Nat)
  /-- R323. At H + 100 µs the old module releases and the new one drives. -/
  | handoverOutputSwitch (dt : Nat)
  /-- R292. PRESENT lost for 100 µs; the module fences, sends ROLE with cause removal and closes the recorder. -/
  | moduleRemoval (dt : Nat)
  /-- R292. A module is inserted and PARTNER_PRESENT rises. -/
  | partnerInsertion (dt : Nat)
  /-- R301. A reconfigured channel takes up its new mode within 2 ms. -/
  | reconfigDone (dt n : Nat)
  /-- R303. At a group's I/O instant the channel unit reads the output values and takes the inputs. -/
  | ioInstant (dt g : Nat) (vals : List (Nat × Int))
  /-- R303. At I + 60 µs the group's input values are written in one change clock. -/
  | inputWrite (dt g : Nat)
  /-- R303. At I + 100 µs the controllers apply the output values together. -/
  | outputApply (dt g : Nat)
  /-- R304. A triggered conversion's results are written at start + CONV_T + 60 µs. -/
  | conversionDone (dt g : Nat) (vals : List (Nat × Int))
  /-- R306. A DI or DI_WB level stable for FILTER is taken as the new level. -/
  | diLevelChange (dt n : Nat) (level : Bool)
  /-- R313. A channel diagnostic condition persists for its time and sets or clears its flag. -/
  | channelDiagnostic (dt n flag : Nat) (on : Bool) (temp : Int)
  /-- R315. An overload or overtemperature trips the stage; a fifth trip in 60 s retires the channel. -/
  | channelTrip (dt n : Nat) (overtemp : Bool)
  /-- R315. A tripped channel retries its stage after 100 ms or 10 s. -/
  | tripRetry (dt n : Nat) (cool : Bool)
  /-- R318. VFLDn falls below 19.2 V or rises above 19.6 V. -/
  | vfldLow (dt g mv : Nat)
  /-- R318. 22 samples below 16.0 V switch off the group's outputs and enter SUPPLY_LOST. -/
  | supplyLost (dt g mv : Nat)
  /-- R319. 101 samples above 18.0 V end NO_SUPPLY or SUPPLY_LOST, to NORMAL or WAIT_ACK. -/
  | supplyRecovery (dt g mv : Nat)
  /-- R319. GRP_ACK.RESTORE_ACK makes a WAIT_ACK group NORMAL. -/
  | restoreAck (dt m g : Nat) (value : Word)
  /-- R319. A write of GRP_CTL.OUT_EN switches the outputs off within 2 µs or applies them at the next I/O instant. -/
  | outEn (dt m g : Nat) (value : Word)
  /-- R322. A controller hears nothing for 50 µs and releases or sets alarm currents. -/
  | barrierLinkSilence (dt c : Nat)
  /-- R327. Every 10 s a channel's ADC converts the internal reference and checks its drift. -/
  | benchmark (dt n : Nat) (dev : Int) (blocked : Bool)
  /-- R329. A fast input edge is timestamped, filtered, written to its I bit and queued. -/
  | fastInputEdge (dt k back : Nat) (rising : Bool)
  /-- R330. Writing FIk_EV_POP removes the head edge entry. -/
  | fiEvPop (dt m k : Nat) (value : Word)
  /-- R331. A fast output at its limit for 200 µs goes to high impedance and is counted. -/
  | foFault (dt k : Nat)
  /-- R331. A faulted fast output is retried after 100 ms. -/
  | foRetry (dt k : Nat)
  /-- R333. A channel controller restarts, holding outputs up to 80 ms. -/
  | controllerRestart (dt c phase : Nat)
  /-- R341. A write of CANn_CTL.MODE takes effect at the next bit boundary. -/
  | canModeWrite (dt m n : Nat) (value : Word)
  /-- R341. After 11 recessive bits the controller integrates and sets SYNC. -/
  | canSync (dt n : Nat)
  /-- R343. Writing CANn_TX_PUSH queues the staged frame in the FIFO or urgent slot or reports a refusal. -/
  | canTxPush (dt m n : Nat) (value : Word)
  /-- R346. A queued frame is sent and a transmit event is queued. -/
  | canFrameSent (dt n : Nat) (urgent : Bool) (back : Nat)
  /-- R347. A transmission attempt ends in a collision; a third consecutive one holds the entry. -/
  | idCollision (dt n : Nat) (urgent : Bool)
  /-- R349. A valid frame is stored into the matching receive object or counted unmatched. -/
  | canFrameRx (dt n : Nat) (id info : Word) (back : Nat) (bytes : List Byte)
  /-- R350. Writing CANn_RX_SEL copies an object into the read window and clears NEW and LOST. -/
  | canRxSel (dt m n : Nat) (value : Word)
  /-- R346. Writing CANn_TXE_POP removes the head transmit event. -/
  | txePop (dt m n : Nat) (value : Word)
  /-- R348. CANn_CMD.RELEASE offers a held entry again. -/
  | canRelease (dt m n : Nat)
  /-- R348. CANn_CMD.DISCARD removes a held entry with a DISCARDED event. -/
  | canDiscard (dt m n : Nat)
  /-- R348. CANn_CMD.FLUSH removes every FIFO entry not in transmission. -/
  | canFlush (dt m n : Nat)
  /-- R353. CANn_CMD.RECOVER starts bus-off recovery. -/
  | canRecover (dt m n : Nat)
  /-- R351. Writing CANn_TSC_CAP captures the timestamp counter with its PTP time. -/
  | canTscCap (dt m n : Nat) (value : Word)
  /-- R353. The controller enters bus-off and recovers at once with AUTO_REC = 1. -/
  | busOff (dt n : Nat)
  /-- R353. The standard's recovery sequence ends and the controller returns to error-active. -/
  | busOffRecovered (dt n : Nat)
  /-- R376. A master's memory access is checked for MPU, presence, ownership and retention, then performed with ECC. -/
  | sramAccess (dt m : Nat) (write : Bool) (addr size : Nat) (data : List Byte) (hits : List (Nat × Nat))
  /-- R379. A posted write is refused after the master went on and is captured in MPU_IMP. -/
  | impreciseNotice (dt : Nat)
  /-- R358. A write of BNK_OWN changes the owner after the writer's bank writes drain, or is a violation. -/
  | bnkOwnWrite (dt m n : Nat) (value : Word)
  /-- R368. BNK_CTL.RET = 1 stops new accesses and lowers the bank into retention. -/
  | bankRetention (dt m n : Nat) (value : Word)
  /-- R368. BNK_CTL.RET = 0 starts the 12 µs wake. -/
  | bankWake (dt m n : Nat) (value : Word)
  /-- R368. The bank returns to ON and WAKE is set. -/
  | wakeDone (dt n : Nat)
  /-- R364. The scrubber reads one word every 256 clocks and corrects or records a finding. -/
  | scrub (dt n : Nat) (hits : List (Nat × Nat))
  /-- R367. Every 64 µs the tester marches one region and restores it. -/
  | backgroundTest (dt n : Nat) (fails : Bool)
  /-- R371. Every 1 µs the patrol scrubber reads one LPDDR5 burst. -/
  | lpdPatrol (dt : Nat) (hits : List (Nat × Nat))
  /-- R369. A read of LCK_i grants a free lock or reports HELD or BUSY. -/
  | lckRead (dt m i : Nat)
  /-- R370. LCK_i.RELEASE by the holder frees the lock. -/
  | lockRelease (dt m i : Nat) (value : Word)
  /-- R370. LCK_i.FORCE by the MP frees the lock. -/
  | lockForce (dt m i : Nat) (value : Word)
  /-- R380. A read of MPU_SYNC returns the generation once accesses under earlier rules have drained. -/
  | mpuSync (dt m : Nat)
  /-- R19. A retirement is written to the MRAM persistent counters within 1 ms. -/
  | retirementRecord (dt : Nat)
  /-- R389. The summary period passes and the stretch closes with CAUSE PERIOD. -/
  | periodEnd (dt : Nat)
  /-- R396. Writing REC_SEL copies a slot into the window in one clock. -/
  | recSel (dt m : Nat) (value : Word)
  /-- R400. A logic feed below 19.2 V for 1 ms is LOW. -/
  | feedLow (dt feed mv : Nat)
  /-- R400. A logic feed below 16.0 V for 20 µs is lost. -/
  | feedLoss (dt feed mv : Nat)
  /-- R400. A feed above 18.0 V for 10 ms is good again. -/
  | feedGood (dt feed mv : Nat)
  /-- R406. VBAK falls below 2.5 V while a feed is good. -/
  | vbakLow (dt mv : Nat)
  /-- R410. Once every 24 h the hold-up bank is measured and the estimate updated. -/
  | holdupMeasure (dt bank est : Nat)
  /-- R403. A rail stays outside its window for 10 µs and the module resets. -/
  | brownout (dt rail mv : Nat)
  /-- R411. The watchdog is not served for 100 ms and the module resets. -/
  | watchdog (dt : Nat)
  /-- R419. The die rises above 110 °C or falls below 105 °C. -/
  | hot (dt : Nat) (die board : Int)
  /-- R419. The die at or above 125 °C for 1 ms causes a thermal reset. -/
  | thermal (dt : Nat) (die board : Int)
  /-- R412. The module resets, switching D1 to D9 off for 10 ms before start-up. -/
  | moduleReset (dt : Nat)
  /-- R414. A feed good for 10 ms releases the power-on reset and start-up begins. -/
  | powerOnReset (dt : Nat)
  /-- R433. The boot ROM chooses, verifies and loads a slot or enters ROM recovery mode. -/
  | boot (dt : Nat)
  /-- R416. Time settles; set-owned comparators load and ports begin cycles. -/
  | timeSettle (dt : Nat)
  /-- R405. A domain request switches D2, D3, D4 or D9 on an OUT_OF_SERVICE module, or is refused. -/
  | pwrDomReq (dt m : Nat) (value : Word)
  /-- R405. A requested domain change completes. -/
  | domainSwitchDone (dt : Nat)
  /-- R427. An OPEN opens the update session, erases the slot and answers when erased. -/
  | updOpen (dt dst etype slot tag mac len crc : Nat)
  /-- R428. A BLOCK part is stored; a completed block is checked and written. -/
  | updBlock (dt dst etype slot tag mac index part crc : Nat) (bytes : List Byte)
  /-- R430. A CLOSE checks completeness, CRC and header, making the slot COMPLETE. -/
  | updClose (dt dst etype slot tag mac : Nat)
  /-- R427. An ABORT ends the session leaving the slot PARTIAL. -/
  | updAbort (dt dst etype slot tag mac : Nat)
  /-- R427. An update session with no frame for 60 s is abandoned. -/
  | sessionTimeout (dt : Nat)
  /-- R435. In ROM recovery mode an ANNOUNCE is broadcast every 1 s. -/
  | recoveryAnnounce (dt : Nat)
  /-- R432. The activation time is reached and the module resets into the slot, hands over or defers. -/
  | activation (dt : Nat)
  /-- R437. A keyed UPD_FLOOR_REQ starts burning fuses to raise the floor, or is refused. -/
  | floorRequest (dt m : Nat) (value : Word)
  /-- R437. The fuse burn ends and FLOOR_DONE is set. -/
  | floorBurnDone (dt : Nat)
  /-- R252. CMP_Px_STS.WARN clears 10 s after the pair's last mismatch. -/
  | warnEnd (dt x : Nat)
  /-- R268. A module running the line hears nothing from its partner for 600 µs while other frames still arrive; it stays in service as ALONE and sets PAIR_IRQ_STS.LOSS. -/
  | partnerSilence (dt : Nat)
  /-- R271. A pair-link lane goes DOWN or completes TRAINING, and the traffic moves to the other lane if needed. -/
  | pairLaneLinkChange (dt lane : Nat) (up : Bool)
  /-- R47. The 1000BASE-T service port link comes up or goes down, changing SYS_SVC_STS.LINK_UP. -/
  | serviceLinkChange (dt : Nat) (up : Bool)
  /-- R353. The controller detects a bus error other than an identifier collision, updates TEC, REC and LEC, counts it, and may change between error-active and error-passive. -/
  | canBusError (dt n lec tec rec : Nat)
  /-- R37. A read of a triplicated field finds copies that disagree, rewrites them, counts in SYS_TMR_CNT and sets SYS_IRQ_STS.TMR. -/
  | votedRead (dt m addr : Nat) (x y z : Word)
  /-- R280. The module running the line finishes the resynchronisation copy; PAIR_STS.RESYNC clears and RESYNC_DONE is set. -/
  | resyncCopyEnd (dt : Nat)
  /-- R289. A datum crosses the trigger position of an armed PAIR_EXCHANGE or PAIR_HANDOVER, which starts the hand-over. -/
  | pairDatumTrigger (dt d : Nat)
  /-- R292. The partner module is removed and PARTNER_PRESENT falls, which changes the isolation condition of R268. -/
  | partnerPresentLoss (dt : Nat)
  /-- R400. A LOW logic feed rises above 19.6 V and LOW_x clears. -/
  | feedLowClear (dt feed mv : Nat)
  /-- R406. VBAK falls below 2.0 V while both logic feeds are absent, and D0 loses its contents, so the next start is COLD. -/
  | vbakLoss (dt mv : Nat)
  /-- R419. After a thermal reset the die falls below 100 °C and the module leaves reset and starts up. -/
  | thermalResetRelease (dt : Nat) (die board : Int)
  /-- R426. The erase of the slot named in an OPEN finishes, XFER leaves ERASING, and the OPEN is answered. -/
  | slotEraseDone (dt : Nat)
  /-- R315. 60 s pass without a trip, and the channel's trip sequence ends so that later retries start again at 100 ms. -/
  | tripSequenceEnd (dt n : Nat)
  /-- R140. The IEEE 802.3br verification on a line port succeeds or is lost, which changes TRV_STS.PREEMPT and whether preemptable queues are used. -/
  | preemptionVerified (dt port : Nat) (up : Bool)
deriving DecidableEq, Repr, Inhabited

end Sys2Proof
end

