-- ==== Sys2Proof/Decode.lean ====
section
/-!
DEFINITION. The reading of a table word. The manual's table of operations and events gives no row any bits (every row's
field list is empty), so no word spells a command.
-/
namespace Sys2Proof

/-- The command a word of the table spells: none, since the table gives no row any bits. -/
def decodeTableWord (_nbits _w : Nat) : Option Instr := none

end Sys2Proof
end

