-- ==== Sys2Proof/Machine/Regs.lean ====
section
/-!
DEFINITION. The register map: the address of every register of the chapters' block overviews (the tables of
R47, R72, R93, R119, R137, R172, R215, R241, R261, R296, R336, R355, R383, R384, R398, R421 and R440), and one
descriptor per overview row with the masks its field table gives: the bits a write stores (RW, RV), the bits that
writing 1 clears (W1C), the bits a read clears (RC), the bits that exist, and the reset value.
-/
namespace Sys2Proof.Machine

/-- One name per row of the block overviews. -/
inductive RegTag where
  | SYS_ID | SYS_FWREV | SYS_SERIAL_LO | SYS_SERIAL_HI | SYS_OPTIONS | SYS_SLOT | SYS_STATUS | SYS_SCRATCH
  | SYS_VIOL_STS | SYS_VIOL_SRC | SYS_VIOL_ADDR_LO | SYS_VIOL_ADDR_HI | SYS_VIOL_CNT | SYS_TMR_CNT | SYS_TMR_LAST
  | SYS_IRQ_STS | SYS_IRQ_EN | SYS_RST_REQ | SYS_PCIE_STS | SYS_PCIE_ERR | SYS_SVC_MAC_LO | SYS_SVC_MAC_HI
  | SYS_SVC_ETYPE | SYS_SVC_STS | SYS_RRA_CTL | SYS_RRA_DROP | MSIX_TABLE | MSIX_PBA | MBX_DATAi | MBX_POST
  | MBX_TAKE | MBX_STS | MBX_IRQ_EN | MBX_HRST | MBX_GLB_STS | MBX_GLB_MPRST | TIM_CTL | TIM_STS | TIM_NOW_LO
  | TIM_NOW_HI | TIM_NOW_EXT | TIM_NOW_FRAC | TIM_INCR_LO | TIM_INCR_HI | TIM_STEP_LO | TIM_STEP_HI | TIM_MEAS_OFS
  | TIM_MEAS_DELAY | TIM_MEAS_SEQ | TIM_IRQ_STS | TIM_IRQ_EN | TIM_GM_ID_LO | TIM_GM_ID_HI | TIM_PTP_CFG
  | TIM_MGMT_DROP | TIM_CMPk_CFG | TIM_CMPk_T_LO | TIM_CMPk_T_HI | TIM_CMPk_T_EXT | TIM_CMPk_PERIOD
  | TIM_CMPk_ACTION | TIM_CMPk_MISSED | TIM_PORTn_CFG | TIM_PORTn_STS | TIM_PORTn_LAT | TIM_PORTn_TXQ_TAG
  | TIM_PORTn_TXQ_NS | TIM_PORTn_TXQ_SEC_LO | TIM_PORTn_TXQ_SEC_HI | TIM_PORTn_TXQ_POP | TIM_PORTn_TXQ_OVF
  | DAT_CFG | DAT_STS | DAT_MOD_LO | DAT_MOD_HI | DAT_RATIO_NUM | DAT_RATIO_DEN | DAT_OFS_LO | DAT_OFS_HI
  | DAT_ENC_CFG | DAT_ENC_ZVAL | DAT_ENC_SCALE_LO | DAT_ENC_SCALE_HI | DAT_ENC_STOPJ_LO | DAT_ENC_STOPJ_HI
  | DAT_UP_CFG | DAT_POS_LO | DAT_POS_HI | DAT_VEL_LO | DAT_VEL_HI | DAT_ACC_LO | DAT_ACC_HI | DAT_WRAPS
  | DAT_ACT_SEQ | DAT_PHASE_LO | DAT_PHASE_HI | DAT_HZ_HELD | DAT_JUMP_CNT | DAT_JUMP_MAX | DAT_FIT_ERR
  | DAT_FIT_ERR_MAX | DAT_ENC_CNT | DAT_ENC_ERR | DAT_UP_DROP | DAT_APP_Wi | DAT_APP_CTL | DAT_APP_STS
  | DAT_IRQ_STS | DAT_IRQ_EN | DAT_GLB_STS | STK_STS | STK_PAGE | STK_LIVE_SEL | STK_LIVE_TGT_LO | STK_LIVE_TGT_HI
  | STK_NOTE_IDX | STK_FO_LATE | STK_FO_DROP | STK_EVT_LATE | STK_EVT_DROP | STK_DELAYED | STK_CANCELLED
  | STK_RESUME_SKIP | STK_PRED_CNT | STK_IRQ_STS | STK_IRQ_EN | STK_DNEXTd | STK_CAPk_NS | STK_CAPk_SEC
  | STK_CAPk_SEC_EXT | STK_CAPk_INFO | STK_LEADd_s | STK_HYSTd_LO | STK_HYSTd_HI | STK_Wi | STK_W6 | STK_W7
  | TRV_CTL | TRV_STS | TRV_CYC_CNT | TRV_ITEM0 | TRV_ITEM1 | TRV_QMAP | TRV_PREEMPT | TRV_VLAN | TRV_MAC_LO
  | TRV_MAC_HI | TRV_GMAC_LO | TRV_GMAC_HI | TRV_UPSTN | TRV_RX_FCS | TRV_RX_BAD | TRV_RX_OLD | TRV_RX_CONFLICT
  | TRV_TX_STALE | TRV_TX_FRAG | TRV_SEG_NAK | TRV_EVT_NAK | TRV_IRQ_STS | TRV_IRQ_EN | TRV_GCLg_GATES
  | TRV_GCLg_DUR | STN_STS | STN_EVT_LATE | STN_SEG_NAK | TRV_SW_ETYPE | TRV_SW_ADDR | TRV_SW_EPOCH_MAX
  | TRV_SW_HB_AGE | TRV_SW_STS | TRV_SW_DROP | PLM_MODE_REQ | PLM_STS | PLM_FIXED_CFG | PLM_FIXED_CNT
  | PLM_FIXED_OVR | PLM_FORCES | PLM_IRQ_STS | PLM_IRQ_EN | PLM_TASKn_BIND | PLM_TASKn_PERIOD | PLM_TASKn_PHASE
  | PLM_TASKn_CODE | PLM_TASKn_LEN | PLM_TASKn_ENTRY | PLM_TASKn_DEADLINE | PLM_TASKn_STS | PLM_TASKn_FPC
  | PLM_TASKn_REL | PLM_TASKn_OVR | PLM_TASKn_LAST | PLM_TASKn_MAX | PLM_TASKn_WITHHELD | PLM_PAIRp_STS | BLK_STS
  | BLK_MEM_USED | BLK_SEL | BLK_DIR_Wi | BLK_ISTS | BLK_ICALLS | BLK_ILATE | BLK_IMAX | BLK_WIN_OFS | BLK_WIN_DATA
  | BLK_PAIRp_STS | BLK_PAIRp_CALLS | BLK_PAIRp_MAXQ | BLK_LATE | BLK_PARAM | BLK_SKIP | BLK_APP_REF | BLK_IRQ_STS
  | BLK_IRQ_EN | CMP_STS | CMP_LAST_T_LO | CMP_LAST_T_HI | CMP_RETIRED | CMP_SPLIT_MAP | CMP_UNCH_W | CMP_IRQ_STS
  | CMP_IRQ_EN | CMP_Px_STS | CMP_Px_MIS | CMP_Px_TESTS | CMP_Px_AGREE | PAIR_ROLE | PAIR_EPOCH | PAIR_STS
  | PAIR_CTL | PAIR_GEN_CFG | PAIR_GEN_SENT | PAIR_GEN_DONE | PAIR_UNDO | PAIR_TXQ | PAIR_SILENCE | PAIR_LANES
  | PAIR_LANE0_CRC | PAIR_LANE1_CRC | PAIR_RETX | PAIR_TAKEOVERS | PAIR_LOSS_T_LO | PAIR_LOSS_T_HI | PAIR_RESUME_US
  | PAIR_H_LO | PAIR_H_HI | PAIR_MIRROR | PAIR_MAP_DROP | PAIR_IRQ_STS | PAIR_IRQ_EN | CH_CFG | CH_BIT | CH_WORDS
  | CH_SUBST | CH_STSW | CH_STS | CH_EVT | CH_VALUE | CH_CMD | CH_TEMP | CH_TRIPS | CH_TRIM_OFS | CH_TRIM_GAIN
  | CH_TRIM_T | CH_BENCH | GRP_ITEMi | GRP_CTL | GRP_CHEN | GRP_ACK | GRP_STS | GRP_VFLD | GRP_VFLD_MIN
  | GRP_VFLD_MAX | GRP_IDO | GRP_SAG_CNT | GRP_CONV_DROP | GRP_IRQ_STS | GRP_IRQ_EN | FIk_CFG | FOk_CFG | FIO_LEVEL
  | FIO_STS | FIO_FO_TRIPS | FIk_EV_NS | FIk_EV_SEC | FIk_EV_INFO | FIk_EV_POP | FIk_EV_DROP | CHN_STS | CHN_CCc
  | CANn_CTL | CANn_STS | CANn_NBT | CANn_DBT | CANn_ERR | CANn_ERRCNT | CANn_TSC | CANn_TSC_CAP | CANn_TSC_C
  | CANn_TSC_PTP_NS | CANn_TSC_PTP_SEC | CANn_TSC_PTP_EXT | CANn_TX_ID | CANn_TX_CTL | CANn_TX_PUSH | CANn_TX_STS
  | CANn_CMD | CANn_TXE_INFO | CANn_TXE_TS | CANn_TXE_POP | CANn_TXE_DROP | CANn_IDCOL_CNT | CANn_TX_DATAi
  | CANn_RX_SEL | CANn_RX_INFO | CANn_RX_ID | CANn_RX_TS | CANn_RX_DATAi | CANn_RX_NEW0 | CANn_RX_NEW1
  | CANn_RX_UNMATCHED | CANn_RX_LOSTCNT | CANn_IRQ_STS | CANn_IRQ_EN | CANn_OBJk_ID | CANn_OBJk_CFG | BNK_GLB_STS
  | BNK_RET_MAP | BNK_IRQ_STS | BNK_IRQ_EN | BNK_LPD_STS | BNK_LPD_CE | BNK_LPD_UE | BNK_LPD_UE_ADDR_LO
  | BNK_LPD_UE_ADDR_HI | BNK_LCK_BADREL | BNK_OWN | BNK_CTL | BNK_BSTS | BNK_CE | BNK_UE | BNK_FIND | BNK_UE_ADDR
  | BNK_BGT | LCK_i | MPU_SYNC | MPU_IMP_STS | MPU_IMP_ADDR_LO | MPU_IMP_ADDR_HI | MPU_IMP_CNT | MPU_BASE_LO
  | MPU_BASE_HI | MPU_ATTR | REC_STS | REC_SEQ_LO | REC_SEQ_HI | REC_PERIOD | REC_ELAPSED | REC_TORN | REC_IRQ_STS
  | REC_IRQ_EN | REC_SEL | REC_WIN_STS | REC_WINi | PWR_STS | PWR_RST_CAUSE | PWR_START_CFG | PWR_START_STS
  | PWR_START_T | PWR_DOM_STS | PWR_DOM_REQ | PWR_VLOG | PWR_VLOG_MIN | PWR_VLOG_MAX | PWR_VBAK | PWR_RAIL0
  | PWR_RAIL1 | PWR_TEMP | PWR_TEMP_MAX | PWR_HOLDUP | PWR_BKP_SEC_LO | PWR_BKP_SEC_HI | PWR_FEED_CNT | PWR_IRQ_STS
  | PWR_IRQ_EN | UPD_STS | UPD_CTL | UPD_SECVER | UPD_FWREV_A | UPD_FWREV_B | UPD_SETFMT | UPD_ACT_NS | UPD_ACT_SEC
  | UPD_ACT_EXT | UPD_XFER_STS | UPD_XFER_ERR | UPD_FLOOR_REQ | UPD_IRQ_STS | UPD_IRQ_EN
deriving DecidableEq, Repr

/-- A row of the register map: the first address, two index ranges with their strides (1 and 0 where the row has none),
and the masks of its fields. -/
structure RegDesc where
  tag   : RegTag
  base  : Nat
  n1    : Nat
  s1    : Nat
  n2    : Nat
  s2    : Nat
  /-- bits a write stores -/
  rw    : Word
  /-- bits that writing 1 clears -/
  w1c   : Word
  /-- bits a read sets to their reset value -/
  rc    : Word
  /-- bits that exist; the others read as zero -/
  live  : Word
  reset : Word
deriving DecidableEq, Repr

/-- The register map of SYS (chapter 02). -/
def regs02 : List RegDesc := [
  ⟨.SYS_ID, 0x0, 1, 0x0, 1, 0x0, 0x0, 0x0, 0x0, 0xFFFFFFFF, 0x8084201⟩,
  ⟨.SYS_FWREV, 0x4, 1, 0x0, 1, 0x0, 0x0, 0x0, 0x0, 0xFFFFFFFF, 0x4020000⟩,
  ⟨.SYS_SERIAL_LO, 0x8, 1, 0x0, 1, 0x0, 0x0, 0x0, 0x0, 0xFFFFFFFF, 0x0⟩,
  ⟨.SYS_SERIAL_HI, 0xC, 1, 0x0, 1, 0x0, 0x0, 0x0, 0x0, 0xFFFFFFFF, 0x0⟩,
  ⟨.SYS_OPTIONS, 0x10, 1, 0x0, 1, 0x0, 0x0, 0x0, 0x0, 0xFF, 0xFF⟩,
  ⟨.SYS_SLOT, 0x14, 1, 0x0, 1, 0x0, 0x0, 0x0, 0x0, 0x3, 0x0⟩,
  ⟨.SYS_STATUS, 0x18, 1, 0x0, 1, 0x0, 0x0, 0x0, 0x0, 0xF, 0x0⟩,
  ⟨.SYS_SCRATCH, 0x1C, 1, 0x0, 1, 0x0, 0xFFFFFFFF, 0x0, 0x0, 0xFFFFFFFF, 0x0⟩,
  ⟨.SYS_VIOL_STS, 0x20, 1, 0x0, 1, 0x0, 0x0, 0x1, 0x0, 0x3, 0x0⟩,
  ⟨.SYS_VIOL_SRC, 0x24, 1, 0x0, 1, 0x0, 0x0, 0x0, 0x0, 0x7FFF, 0x0⟩,
  ⟨.SYS_VIOL_ADDR_LO, 0x28, 1, 0x0, 1, 0x0, 0x0, 0x0, 0x0, 0xFFFFFFFF, 0x0⟩,
  ⟨.SYS_VIOL_ADDR_HI, 0x2C, 1, 0x0, 1, 0x0, 0x0, 0x0, 0x0, 0xFF, 0x0⟩,
  ⟨.SYS_VIOL_CNT, 0x30, 1, 0x0, 1, 0x0, 0x0, 0x0, 0x0, 0xFFFFFFFF, 0x0⟩,
  ⟨.SYS_TMR_CNT, 0x34, 1, 0x0, 1, 0x0, 0x0, 0x0, 0x0, 0xFFFFFFFF, 0x0⟩,
  ⟨.SYS_TMR_LAST, 0x38, 1, 0x0, 1, 0x0, 0x0, 0x0, 0x0, 0x1FFFFF, 0x0⟩,
  ⟨.SYS_IRQ_STS, 0x40, 1, 0x0, 1, 0x0, 0x0, 0x3, 0x0, 0x3, 0x0⟩,
  ⟨.SYS_IRQ_EN, 0x44, 1, 0x0, 1, 0x0, 0x3, 0x0, 0x0, 0x3, 0x0⟩,
  ⟨.SYS_RST_REQ, 0x50, 1, 0x0, 1, 0x0, 0x0, 0x0, 0x0, 0xFFFF0001, 0x0⟩,
  ⟨.SYS_PCIE_STS, 0x100, 1, 0x0, 1, 0x0, 0x0, 0x0, 0x0, 0xFF, 0x0⟩,
  ⟨.SYS_PCIE_ERR, 0x104, 1, 0x0, 1, 0x0, 0x0, 0x0, 0x0, 0xFFFF, 0x0⟩,
  ⟨.SYS_SVC_MAC_LO, 0x200, 1, 0x0, 1, 0x0, 0xFFFFFFFF, 0x0, 0x0, 0xFFFFFFFF, 0x0⟩,
  ⟨.SYS_SVC_MAC_HI, 0x204, 1, 0x0, 1, 0x0, 0xFFFF, 0x0, 0x0, 0xFFFF, 0x0⟩,
  ⟨.SYS_SVC_ETYPE, 0x208, 1, 0x0, 1, 0x0, 0xFFFF, 0x0, 0x0, 0xFFFF, 0x88B5⟩,
  ⟨.SYS_SVC_STS, 0x20C, 1, 0x0, 1, 0x0, 0x0, 0x0, 0x0, 0x1, 0x0⟩,
  ⟨.SYS_RRA_CTL, 0x300, 1, 0x0, 1, 0x0, 0x1F, 0x0, 0x0, 0x1F, 0x10⟩,
  ⟨.SYS_RRA_DROP, 0x304, 1, 0x0, 1, 0x0, 0x0, 0x0, 0x0, 0xFFFFFFFF, 0x0⟩,
  ⟨.MSIX_TABLE, 0x8000, 256, 0x4, 1, 0x0, 0xFFFFFFFF, 0x0, 0x0, 0xFFFFFFFF, 0x0⟩,
  ⟨.MSIX_PBA, 0x9000, 2, 0x4, 1, 0x0, 0x0, 0x0, 0x0, 0xFFFFFFFF, 0x0⟩]

/-- The register map of PWR (chapter 17). -/
def regs17 : List RegDesc := [
  ⟨.PWR_STS, 0x10000, 1, 0x0, 1, 0x0, 0x0, 0x0, 0x0, 0xFF, 0x3⟩,
  ⟨.PWR_RST_CAUSE, 0x10004, 1, 0x0, 1, 0x0, 0x0, 0x0, 0x0, 0xFFFF00FF, 0x1⟩,
  ⟨.PWR_START_CFG, 0x10008, 1, 0x0, 1, 0x0, 0x3FFF3F01, 0x0, 0x0, 0x3FFF3F01, 0x640201⟩,
  ⟨.PWR_START_STS, 0x1000C, 1, 0x0, 1, 0x0, 0x0, 0x0, 0x0, 0xFF, 0x1⟩,
  ⟨.PWR_START_T, 0x10010, 1, 0x0, 1, 0x0, 0x0, 0x0, 0x0, 0xFFFFFFFF, 0x0⟩,
  ⟨.PWR_DOM_STS, 0x10020, 1, 0x0, 1, 0x0, 0x0, 0x0, 0x0, 0x103FF, 0x1⟩,
  ⟨.PWR_DOM_REQ, 0x10024, 1, 0x0, 1, 0x0, 0x0, 0x0, 0x0, 0x1021C, 0x0⟩,
  ⟨.PWR_VLOG, 0x10030, 1, 0x0, 1, 0x0, 0x0, 0x0, 0x0, 0xFFFFFFFF, 0x0⟩,
  ⟨.PWR_VLOG_MIN, 0x10034, 1, 0x0, 1, 0x0, 0x0, 0x0, 0xFFFFFFFF, 0xFFFFFFFF, 0xFFFFFFFF⟩,
  ⟨.PWR_VLOG_MAX, 0x10038, 1, 0x0, 1, 0x0, 0x0, 0x0, 0xFFFFFFFF, 0xFFFFFFFF, 0x0⟩,
  ⟨.PWR_VBAK, 0x1003C, 1, 0x0, 1, 0x0, 0x0, 0x0, 0x0, 0xFFFF, 0x0⟩,
  ⟨.PWR_RAIL0, 0x10040, 1, 0x0, 1, 0x0, 0x0, 0x0, 0x0, 0xFFFFFFFF, 0x0⟩,
  ⟨.PWR_RAIL1, 0x10044, 1, 0x0, 1, 0x0, 0x0, 0x0, 0x0, 0xFFFFFFFF, 0x0⟩,
  ⟨.PWR_TEMP, 0x10050, 1, 0x0, 1, 0x0, 0x0, 0x0, 0x0, 0xFFFFFFFF, 0x0⟩,
  ⟨.PWR_TEMP_MAX, 0x10054, 1, 0x0, 1, 0x0, 0x0, 0x0, 0xFFFFFFFF, 0xFFFFFFFF, 0x80008000⟩,
  ⟨.PWR_HOLDUP, 0x10060, 1, 0x0, 1, 0x0, 0x0, 0x0, 0x0, 0xFFFFFFFF, 0x0⟩,
  ⟨.PWR_BKP_SEC_LO, 0x10070, 1, 0x0, 1, 0x0, 0x0, 0x0, 0x0, 0xFFFFFFFF, 0x0⟩,
  ⟨.PWR_BKP_SEC_HI, 0x10074, 1, 0x0, 1, 0x0, 0x0, 0x0, 0x0, 0xFFFF, 0x0⟩,
  ⟨.PWR_FEED_CNT, 0x10078, 1, 0x0, 1, 0x0, 0x0, 0x0, 0xFFFFFFFF, 0xFFFFFFFF, 0x0⟩,
  ⟨.PWR_IRQ_STS, 0x10080, 1, 0x0, 1, 0x0, 0x0, 0x7F, 0x0, 0x7F, 0x0⟩,
  ⟨.PWR_IRQ_EN, 0x10084, 1, 0x0, 1, 0x0, 0x7F, 0x0, 0x0, 0x7F, 0x0⟩]

/-- The register map of MBX (chapter 03). -/
def regs03 : List RegDesc := [
  ⟨.MBX_DATAi, 0x20000, 16, 0x100, 16, 0x4, 0xFFFFFFFF, 0x0, 0x0, 0xFFFFFFFF, 0x0⟩,
  ⟨.MBX_POST, 0x20040, 16, 0x100, 1, 0x0, 0x0, 0x0, 0x0, 0x11F, 0x0⟩,
  ⟨.MBX_TAKE, 0x20044, 16, 0x100, 1, 0x0, 0x0, 0x0, 0x0, 0x1, 0x0⟩,
  ⟨.MBX_STS, 0x20048, 16, 0x100, 1, 0x0, 0x0, 0x3010000, 0x0, 0x3031F01, 0x0⟩,
  ⟨.MBX_IRQ_EN, 0x2004C, 16, 0x100, 1, 0x0, 0x3, 0x0, 0x0, 0x3, 0x0⟩,
  ⟨.MBX_HRST, 0x20050, 16, 0x100, 1, 0x0, 0x0, 0x0, 0x0, 0x1, 0x0⟩,
  ⟨.MBX_GLB_STS, 0x21000, 1, 0x0, 1, 0x0, 0x0, 0x0, 0x0, 0x1FFFF, 0x0⟩,
  ⟨.MBX_GLB_MPRST, 0x21004, 1, 0x0, 1, 0x0, 0x0, 0x0, 0x0, 0xFFFF, 0x0⟩]

/-- The register map of TIM (chapter 04). -/
def regs04 : List RegDesc := [
  ⟨.TIM_CTL, 0x30000, 1, 0x0, 1, 0x0, 0x1F, 0x0, 0x0, 0x1F, 0x11⟩,
  ⟨.TIM_STS, 0x30004, 1, 0x0, 1, 0x0, 0x0, 0x0, 0x0, 0x7FF, 0x700⟩,
  ⟨.TIM_NOW_LO, 0x30008, 1, 0x0, 1, 0x0, 0x0, 0x0, 0x0, 0x3FFFFFFF, 0x0⟩,
  ⟨.TIM_NOW_HI, 0x3000C, 1, 0x0, 1, 0x0, 0x0, 0x0, 0x0, 0xFFFFFFFF, 0x0⟩,
  ⟨.TIM_NOW_EXT, 0x30010, 1, 0x0, 1, 0x0, 0x0, 0x0, 0x0, 0xFFFF, 0x0⟩,
  ⟨.TIM_NOW_FRAC, 0x30014, 1, 0x0, 1, 0x0, 0x0, 0x0, 0x0, 0xFFFFFFFF, 0x0⟩,
  ⟨.TIM_INCR_LO, 0x30020, 1, 0x0, 1, 0x0, 0xFFFFFFFF, 0x0, 0x0, 0xFFFFFFFF, 0x40000000⟩,
  ⟨.TIM_INCR_HI, 0x30024, 1, 0x0, 1, 0x0, 0xF, 0x0, 0x0, 0xF, 0x1⟩,
  ⟨.TIM_STEP_LO, 0x30030, 1, 0x0, 1, 0x0, 0xFFFFFFFF, 0x0, 0x0, 0xFFFFFFFF, 0x0⟩,
  ⟨.TIM_STEP_HI, 0x30034, 1, 0x0, 1, 0x0, 0xFFFFFFFF, 0x0, 0x0, 0xFFFFFFFF, 0x0⟩,
  ⟨.TIM_MEAS_OFS, 0x30040, 1, 0x0, 1, 0x0, 0x0, 0x0, 0x0, 0xFFFFFFFF, 0x0⟩,
  ⟨.TIM_MEAS_DELAY, 0x30044, 1, 0x0, 1, 0x0, 0x0, 0x0, 0x0, 0xFFFFFFFF, 0x0⟩,
  ⟨.TIM_MEAS_SEQ, 0x30048, 1, 0x0, 1, 0x0, 0x0, 0x0, 0x0, 0xFFFFFFFF, 0x0⟩,
  ⟨.TIM_IRQ_STS, 0x30050, 1, 0x0, 1, 0x0, 0x0, 0x3FFFFF, 0x0, 0x3FFFFF, 0x0⟩,
  ⟨.TIM_IRQ_EN, 0x30054, 1, 0x0, 1, 0x0, 0x3FFFFF, 0x0, 0x0, 0x3FFFFF, 0x0⟩,
  ⟨.TIM_GM_ID_LO, 0x30060, 1, 0x0, 1, 0x0, 0x0, 0x0, 0x0, 0xFFFFFFFF, 0x0⟩,
  ⟨.TIM_GM_ID_HI, 0x30064, 1, 0x0, 1, 0x0, 0x0, 0x0, 0x0, 0xFFFFFFFF, 0x0⟩,
  ⟨.TIM_PTP_CFG, 0x30068, 1, 0x0, 1, 0x0, 0xFFFFFFFF, 0x0, 0x0, 0xFFFFFFFF, 0xF8808000⟩,
  ⟨.TIM_MGMT_DROP, 0x3006C, 1, 0x0, 1, 0x0, 0x0, 0x0, 0x0, 0xFFFFFFFF, 0x0⟩,
  ⟨.TIM_CMPk_CFG, 0x30100, 16, 0x20, 1, 0x0, 0x35, 0x0, 0x0, 0x37, 0x0⟩,
  ⟨.TIM_CMPk_T_LO, 0x30104, 16, 0x20, 1, 0x0, 0x3FFFFFFF, 0x0, 0x0, 0x3FFFFFFF, 0x0⟩,
  ⟨.TIM_CMPk_T_HI, 0x30108, 16, 0x20, 1, 0x0, 0xFFFFFFFF, 0x0, 0x0, 0xFFFFFFFF, 0x0⟩,
  ⟨.TIM_CMPk_T_EXT, 0x3010C, 16, 0x20, 1, 0x0, 0xFFFF, 0x0, 0x0, 0xFFFF, 0x0⟩,
  ⟨.TIM_CMPk_PERIOD, 0x30110, 16, 0x20, 1, 0x0, 0xFFFFFFFF, 0x0, 0x0, 0xFFFFFFFF, 0x0⟩,
  ⟨.TIM_CMPk_ACTION, 0x30114, 16, 0x20, 1, 0x0, 0xFFFFFFFF, 0x0, 0x0, 0xFFFFFFFF, 0x0⟩,
  ⟨.TIM_CMPk_MISSED, 0x30118, 16, 0x20, 1, 0x0, 0x0, 0x0, 0xFFFF, 0xFFFF, 0x0⟩,
  ⟨.TIM_PORTn_CFG, 0x30400, 4, 0x40, 1, 0x0, 0xFFF7, 0x0, 0x0, 0xFFF7, 0xD0⟩,
  ⟨.TIM_PORTn_STS, 0x30404, 4, 0x40, 1, 0x0, 0x0, 0x0, 0x0, 0xF, 0x0⟩,
  ⟨.TIM_PORTn_LAT, 0x30408, 4, 0x40, 1, 0x0, 0xFFFFFFFF, 0x0, 0x0, 0xFFFFFFFF, 0x0⟩,
  ⟨.TIM_PORTn_TXQ_TAG, 0x30410, 4, 0x40, 1, 0x0, 0x0, 0x0, 0x0, 0x801FFFFF, 0x0⟩,
  ⟨.TIM_PORTn_TXQ_NS, 0x30414, 4, 0x40, 1, 0x0, 0x0, 0x0, 0x0, 0x3FFFFFFF, 0x0⟩,
  ⟨.TIM_PORTn_TXQ_SEC_LO, 0x30418, 4, 0x40, 1, 0x0, 0x0, 0x0, 0x0, 0xFFFFFFFF, 0x0⟩,
  ⟨.TIM_PORTn_TXQ_SEC_HI, 0x3041C, 4, 0x40, 1, 0x0, 0x0, 0x0, 0x0, 0xFFFF, 0x0⟩,
  ⟨.TIM_PORTn_TXQ_POP, 0x30420, 4, 0x40, 1, 0x0, 0x0, 0x0, 0x0, 0x1, 0x0⟩,
  ⟨.TIM_PORTn_TXQ_OVF, 0x30424, 4, 0x40, 1, 0x0, 0x0, 0x0, 0x0, 0xFFFFFFFF, 0x0⟩]

/-- The register map of DAT (chapter 05). -/
def regs05 : List RegDesc := [
  ⟨.DAT_CFG, 0x40000, 8, 0x200, 1, 0x0, 0x0, 0x0, 0x0, 0xFFFFFF77, 0x0⟩,
  ⟨.DAT_STS, 0x40004, 8, 0x200, 1, 0x0, 0x0, 0x0, 0x0, 0x1FFFF, 0x0⟩,
  ⟨.DAT_MOD_LO, 0x40008, 8, 0x200, 1, 0x0, 0x0, 0x0, 0x0, 0xFFFFFFFF, 0x0⟩,
  ⟨.DAT_MOD_HI, 0x4000C, 8, 0x200, 1, 0x0, 0x0, 0x0, 0x0, 0xFFFFFFFF, 0x0⟩,
  ⟨.DAT_RATIO_NUM, 0x40010, 8, 0x200, 1, 0x0, 0x0, 0x0, 0x0, 0xFFFFFFFF, 0x0⟩,
  ⟨.DAT_RATIO_DEN, 0x40014, 8, 0x200, 1, 0x0, 0x0, 0x0, 0x0, 0xFFFFFFFF, 0x0⟩,
  ⟨.DAT_OFS_LO, 0x40018, 8, 0x200, 1, 0x0, 0x0, 0x0, 0x0, 0xFFFFFFFF, 0x0⟩,
  ⟨.DAT_OFS_HI, 0x4001C, 8, 0x200, 1, 0x0, 0x0, 0x0, 0x0, 0xFFFFFFFF, 0x0⟩,
  ⟨.DAT_ENC_CFG, 0x40020, 8, 0x200, 1, 0x0, 0x0, 0x0, 0x0, 0x7FFFFFF, 0x0⟩,
  ⟨.DAT_ENC_ZVAL, 0x40024, 8, 0x200, 1, 0x0, 0x0, 0x0, 0x0, 0xFFFFFFFF, 0x0⟩,
  ⟨.DAT_ENC_SCALE_LO, 0x40028, 8, 0x200, 1, 0x0, 0x0, 0x0, 0x0, 0xFFFFFFFF, 0x0⟩,
  ⟨.DAT_ENC_SCALE_HI, 0x4002C, 8, 0x200, 1, 0x0, 0x0, 0x0, 0x0, 0xFFFFFFFF, 0x0⟩,
  ⟨.DAT_ENC_STOPJ_LO, 0x40030, 8, 0x200, 1, 0x0, 0x0, 0x0, 0x0, 0xFFFFFFFF, 0x0⟩,
  ⟨.DAT_ENC_STOPJ_HI, 0x40034, 8, 0x200, 1, 0x0, 0x0, 0x0, 0x0, 0xFFFFFFFF, 0x0⟩,
  ⟨.DAT_UP_CFG, 0x40038, 8, 0x200, 1, 0x0, 0x0, 0x0, 0x0, 0xFFFFFF1F, 0x0⟩,
  ⟨.DAT_POS_LO, 0x40040, 8, 0x200, 1, 0x0, 0x0, 0x0, 0x0, 0xFFFFFFFF, 0x0⟩,
  ⟨.DAT_POS_HI, 0x40044, 8, 0x200, 1, 0x0, 0x0, 0x0, 0x0, 0xFFFFFFFF, 0x0⟩,
  ⟨.DAT_VEL_LO, 0x40048, 8, 0x200, 1, 0x0, 0x0, 0x0, 0x0, 0xFFFFFFFF, 0x0⟩,
  ⟨.DAT_VEL_HI, 0x4004C, 8, 0x200, 1, 0x0, 0x0, 0x0, 0x0, 0xFFFFFFFF, 0x0⟩,
  ⟨.DAT_ACC_LO, 0x40050, 8, 0x200, 1, 0x0, 0x0, 0x0, 0x0, 0xFFFFFFFF, 0x0⟩,
  ⟨.DAT_ACC_HI, 0x40054, 8, 0x200, 1, 0x0, 0x0, 0x0, 0x0, 0xFFFFFFFF, 0x0⟩,
  ⟨.DAT_WRAPS, 0x40058, 8, 0x200, 1, 0x0, 0x0, 0x0, 0x0, 0xFFFFFFFF, 0x0⟩,
  ⟨.DAT_ACT_SEQ, 0x4005C, 8, 0x200, 1, 0x0, 0x0, 0x0, 0x0, 0xFFFFFFFF, 0x0⟩,
  ⟨.DAT_PHASE_LO, 0x40060, 8, 0x200, 1, 0x0, 0x0, 0x0, 0x0, 0xFFFFFFFF, 0x0⟩,
  ⟨.DAT_PHASE_HI, 0x40064, 8, 0x200, 1, 0x0, 0x0, 0x0, 0x0, 0xFFFFFFFF, 0x0⟩,
  ⟨.DAT_HZ_HELD, 0x40068, 8, 0x200, 1, 0x0, 0x0, 0x0, 0x0, 0xFFFFFFFF, 0x0⟩,
  ⟨.DAT_JUMP_CNT, 0x4006C, 8, 0x200, 1, 0x0, 0x0, 0x0, 0xFFFFFFFF, 0xFFFFFFFF, 0x0⟩,
  ⟨.DAT_JUMP_MAX, 0x40070, 8, 0x200, 1, 0x0, 0x0, 0x0, 0xFFFFFFFF, 0xFFFFFFFF, 0x0⟩,
  ⟨.DAT_FIT_ERR, 0x40074, 8, 0x200, 1, 0x0, 0x0, 0x0, 0x0, 0xFFFFFFFF, 0x0⟩,
  ⟨.DAT_FIT_ERR_MAX, 0x40078, 8, 0x200, 1, 0x0, 0x0, 0x0, 0xFFFFFFFF, 0xFFFFFFFF, 0x0⟩,
  ⟨.DAT_ENC_CNT, 0x4007C, 8, 0x200, 1, 0x0, 0x0, 0x0, 0x0, 0xFFFFFFFF, 0x0⟩,
  ⟨.DAT_ENC_ERR, 0x40080, 8, 0x200, 1, 0x0, 0x0, 0x0, 0xFFFFFFFF, 0xFFFFFFFF, 0x0⟩,
  ⟨.DAT_UP_DROP, 0x40084, 8, 0x200, 1, 0x0, 0x0, 0x0, 0xFFFFFFFF, 0xFFFFFFFF, 0x0⟩,
  ⟨.DAT_APP_Wi, 0x40100, 8, 0x200, 18, 0x4, 0xFFFFFFFF, 0x0, 0x0, 0xFFFFFFFF, 0x0⟩,
  ⟨.DAT_APP_CTL, 0x40148, 8, 0x200, 1, 0x0, 0x0, 0x0, 0x0, 0x1, 0x0⟩,
  ⟨.DAT_APP_STS, 0x4014C, 8, 0x200, 1, 0x0, 0x0, 0x0, 0x0, 0xFFFF0007, 0x0⟩,
  ⟨.DAT_IRQ_STS, 0x41000, 1, 0x0, 1, 0x0, 0x0, 0xFFFFFFFF, 0x0, 0xFFFFFFFF, 0x0⟩,
  ⟨.DAT_IRQ_EN, 0x41004, 1, 0x0, 1, 0x0, 0xFFFFFFFF, 0x0, 0x0, 0xFFFFFFFF, 0x0⟩,
  ⟨.DAT_GLB_STS, 0x41008, 1, 0x0, 1, 0x0, 0x0, 0x0, 0x0, 0xFFFF, 0x0⟩]

/-- The register map of STK (chapter 06). -/
def regs06 : List RegDesc := [
  ⟨.STK_STS, 0x50000, 1, 0x0, 1, 0x0, 0x0, 0x0, 0x0, 0x3FFF, 0x0⟩,
  ⟨.STK_PAGE, 0x50004, 1, 0x0, 1, 0x0, 0x3, 0x0, 0x0, 0x3, 0x0⟩,
  ⟨.STK_LIVE_SEL, 0x50008, 1, 0x0, 1, 0x0, 0xFFF, 0x0, 0x0, 0xFFF, 0x0⟩,
  ⟨.STK_LIVE_TGT_LO, 0x5000C, 1, 0x0, 1, 0x0, 0xFFFFFFFF, 0x0, 0x0, 0xFFFFFFFF, 0x0⟩,
  ⟨.STK_LIVE_TGT_HI, 0x50010, 1, 0x0, 1, 0x0, 0xFFFFFFFF, 0x0, 0x0, 0xFFFFFFFF, 0x0⟩,
  ⟨.STK_NOTE_IDX, 0x50014, 1, 0x0, 1, 0x0, 0x0, 0x0, 0x0, 0xFFF, 0x0⟩,
  ⟨.STK_FO_LATE, 0x50040, 1, 0x0, 1, 0x0, 0x0, 0x0, 0xFFFFFFFF, 0xFFFFFFFF, 0x0⟩,
  ⟨.STK_FO_DROP, 0x50044, 1, 0x0, 1, 0x0, 0x0, 0x0, 0xFFFFFFFF, 0xFFFFFFFF, 0x0⟩,
  ⟨.STK_EVT_LATE, 0x50048, 1, 0x0, 1, 0x0, 0x0, 0x0, 0xFFFFFFFF, 0xFFFFFFFF, 0x0⟩,
  ⟨.STK_EVT_DROP, 0x5004C, 1, 0x0, 1, 0x0, 0x0, 0x0, 0xFFFFFFFF, 0xFFFFFFFF, 0x0⟩,
  ⟨.STK_DELAYED, 0x50050, 1, 0x0, 1, 0x0, 0x0, 0x0, 0xFFFFFFFF, 0xFFFFFFFF, 0x0⟩,
  ⟨.STK_CANCELLED, 0x50054, 1, 0x0, 1, 0x0, 0x0, 0x0, 0xFFFFFFFF, 0xFFFFFFFF, 0x0⟩,
  ⟨.STK_RESUME_SKIP, 0x50058, 1, 0x0, 1, 0x0, 0x0, 0x0, 0xFFFFFFFF, 0xFFFFFFFF, 0x0⟩,
  ⟨.STK_PRED_CNT, 0x5005C, 1, 0x0, 1, 0x0, 0x0, 0x0, 0xFFFFFFFF, 0xFFFFFFFF, 0x0⟩,
  ⟨.STK_IRQ_STS, 0x50080, 1, 0x0, 1, 0x0, 0x0, 0xFF, 0x0, 0xFF, 0x0⟩,
  ⟨.STK_IRQ_EN, 0x50084, 1, 0x0, 1, 0x0, 0xFF, 0x0, 0x0, 0xFF, 0x0⟩,
  ⟨.STK_DNEXTd, 0x500C0, 8, 0x4, 1, 0x0, 0x0, 0x0, 0x0, 0x1FFF8FFF, 0x8000⟩,
  ⟨.STK_CAPk_NS, 0x50100, 16, 0x10, 1, 0x0, 0x0, 0x0, 0x0, 0x3FFFFFFF, 0x0⟩,
  ⟨.STK_CAPk_SEC, 0x50104, 16, 0x10, 1, 0x0, 0x0, 0x0, 0x0, 0xFFFFFFFF, 0x0⟩,
  ⟨.STK_CAPk_SEC_EXT, 0x50108, 16, 0x10, 1, 0x0, 0x0, 0x0, 0x0, 0xFFFF, 0x0⟩,
  ⟨.STK_CAPk_INFO, 0x5010C, 16, 0x10, 1, 0x0, 0x0, 0x0, 0xC0000FFF, 0xC0000FFF, 0x0⟩,
  ⟨.STK_LEADd_s, 0x50200, 8, 0x20, 8, 0x4, 0x0, 0x0, 0x0, 0x7FFFFFF, 0x0⟩,
  ⟨.STK_HYSTd_LO, 0x50300, 8, 0x8, 1, 0x0, 0x0, 0x0, 0x0, 0xFFFFFFFF, 0x0⟩,
  ⟨.STK_HYSTd_HI, 0x50304, 8, 0x8, 1, 0x0, 0x0, 0x0, 0x0, 0xFFFFFFFF, 0x0⟩,
  ⟨.STK_Wi, 0x58000, 1024, 0x20, 6, 0x4, 0x0, 0x0, 0x0, 0xFFFFFFFF, 0x0⟩,
  ⟨.STK_W6, 0x58018, 1024, 0x20, 1, 0x0, 0x0, 0x0, 0x0, 0xFFFF0007, 0x0⟩,
  ⟨.STK_W7, 0x5801C, 1024, 0x20, 1, 0x0, 0x0, 0x0, 0x0, 0x7, 0x0⟩]

/-- The register map of TRV (chapter 07). -/
def regs07 : List RegDesc := [
  ⟨.TRV_CTL, 0x60000, 4, 0x4000, 1, 0x0, 0xFF07, 0x0, 0x0, 0xFF07, 0x0⟩,
  ⟨.TRV_STS, 0x60004, 4, 0x4000, 1, 0x0, 0x0, 0x0, 0x0, 0x7, 0x0⟩,
  ⟨.TRV_CYC_CNT, 0x60008, 4, 0x4000, 1, 0x0, 0x0, 0x0, 0x0, 0xFFFFFFFF, 0x0⟩,
  ⟨.TRV_ITEM0, 0x6000C, 4, 0x4000, 1, 0x0, 0x0, 0x0, 0x0, 0xFFFFFFFF, 0x0⟩,
  ⟨.TRV_ITEM1, 0x60010, 4, 0x4000, 1, 0x0, 0x0, 0x0, 0x0, 0xFFFFFFFF, 0x0⟩,
  ⟨.TRV_QMAP, 0x60014, 4, 0x4000, 1, 0x0, 0x0, 0x0, 0x0, 0x7FFFFFF, 0x0⟩,
  ⟨.TRV_PREEMPT, 0x60018, 4, 0x4000, 1, 0x0, 0x0, 0x0, 0x0, 0x3FF, 0x0⟩,
  ⟨.TRV_VLAN, 0x6001C, 4, 0x4000, 1, 0x0, 0x0, 0x0, 0x0, 0x1FFF, 0x0⟩,
  ⟨.TRV_MAC_LO, 0x60020, 4, 0x4000, 1, 0x0, 0xFFFFFFFF, 0x0, 0x0, 0xFFFFFFFF, 0x0⟩,
  ⟨.TRV_MAC_HI, 0x60024, 4, 0x4000, 1, 0x0, 0xFFFF, 0x0, 0x0, 0xFFFF, 0x0⟩,
  ⟨.TRV_GMAC_LO, 0x60028, 4, 0x4000, 1, 0x0, 0x0, 0x0, 0x0, 0xFFFFFFFF, 0x0⟩,
  ⟨.TRV_GMAC_HI, 0x6002C, 4, 0x4000, 1, 0x0, 0x0, 0x0, 0x0, 0xFFFF, 0x0⟩,
  ⟨.TRV_UPSTN, 0x60030, 4, 0x4000, 1, 0x0, 0x0, 0x0, 0x0, 0xFFFF00FF, 0x0⟩,
  ⟨.TRV_RX_FCS, 0x60040, 4, 0x4000, 1, 0x0, 0x0, 0x0, 0xFFFFFFFF, 0xFFFFFFFF, 0x0⟩,
  ⟨.TRV_RX_BAD, 0x60044, 4, 0x4000, 1, 0x0, 0x0, 0x0, 0xFFFFFFFF, 0xFFFFFFFF, 0x0⟩,
  ⟨.TRV_RX_OLD, 0x60048, 4, 0x4000, 1, 0x0, 0x0, 0x0, 0xFFFFFFFF, 0xFFFFFFFF, 0x0⟩,
  ⟨.TRV_RX_CONFLICT, 0x6004C, 4, 0x4000, 1, 0x0, 0x0, 0x0, 0xFFFFFFFF, 0xFFFFFFFF, 0x0⟩,
  ⟨.TRV_TX_STALE, 0x60050, 4, 0x4000, 1, 0x0, 0x0, 0x0, 0xFFFFFFFF, 0xFFFFFFFF, 0x0⟩,
  ⟨.TRV_TX_FRAG, 0x60054, 4, 0x4000, 1, 0x0, 0x0, 0x0, 0xFFFFFFFF, 0xFFFFFFFF, 0x0⟩,
  ⟨.TRV_SEG_NAK, 0x60058, 4, 0x4000, 1, 0x0, 0x0, 0x0, 0xFFFFFFFF, 0xFFFFFFFF, 0x0⟩,
  ⟨.TRV_EVT_NAK, 0x6005C, 4, 0x4000, 1, 0x0, 0x0, 0x0, 0xFFFFFFFF, 0xFFFFFFFF, 0x0⟩,
  ⟨.TRV_IRQ_STS, 0x60080, 4, 0x4000, 1, 0x0, 0x0, 0x1FF, 0x0, 0x1FF, 0x0⟩,
  ⟨.TRV_IRQ_EN, 0x60084, 4, 0x4000, 1, 0x0, 0x1FF, 0x0, 0x0, 0x1FF, 0x0⟩,
  ⟨.TRV_GCLg_GATES, 0x60100, 4, 0x4000, 256, 0x8, 0x0, 0x0, 0x0, 0xFF, 0x0⟩,
  ⟨.TRV_GCLg_DUR, 0x60104, 4, 0x4000, 256, 0x8, 0x0, 0x0, 0x0, 0xFFFFFFFF, 0x0⟩,
  ⟨.STN_STS, 0x61000, 4, 0x4000, 256, 0x10, 0x0, 0x0, 0x0, 0xFF7F, 0x0⟩,
  ⟨.STN_EVT_LATE, 0x61004, 4, 0x4000, 256, 0x10, 0x0, 0x0, 0xFFFF, 0xFFFF, 0x0⟩,
  ⟨.STN_SEG_NAK, 0x61008, 4, 0x4000, 256, 0x10, 0x0, 0x0, 0xFFFF, 0xFFFF, 0x0⟩,
  ⟨.TRV_SW_ETYPE, 0x70000, 1, 0x0, 1, 0x0, 0xFFFF, 0x0, 0x0, 0xFFFF, 0x88B5⟩,
  ⟨.TRV_SW_ADDR, 0x70004, 1, 0x0, 1, 0x0, 0xFFFF, 0x0, 0x0, 0xFFFF, 0x0⟩,
  ⟨.TRV_SW_EPOCH_MAX, 0x70008, 1, 0x0, 1, 0x0, 0x0, 0x0, 0x0, 0xFFFFFFFF, 0x0⟩,
  ⟨.TRV_SW_HB_AGE, 0x7000C, 1, 0x0, 1, 0x0, 0x0, 0x0, 0x0, 0xFFFFFFFF, 0xFFFFFFFF⟩,
  ⟨.TRV_SW_STS, 0x70010, 1, 0x0, 1, 0x0, 0x0, 0x0, 0x0, 0xF, 0x7⟩,
  ⟨.TRV_SW_DROP, 0x70014, 1, 0x0, 1, 0x0, 0x0, 0x0, 0xFFFFFFFF, 0xFFFFFFFF, 0x0⟩]

/-- The register map of PLM (chapter 09). -/
def regs09 : List RegDesc := [
  ⟨.PLM_MODE_REQ, 0x80000, 1, 0x0, 1, 0x0, 0x0, 0x0, 0x0, 0x3, 0x0⟩,
  ⟨.PLM_STS, 0x80004, 1, 0x0, 1, 0x0, 0x0, 0x0, 0x0, 0x1F0F, 0x0⟩,
  ⟨.PLM_FIXED_CFG, 0x80008, 1, 0x0, 1, 0x0, 0x1FFFF, 0x0, 0x0, 0x1FFFF, 0x2710⟩,
  ⟨.PLM_FIXED_CNT, 0x8000C, 1, 0x0, 1, 0x0, 0x0, 0x0, 0x0, 0xFFFFFFFF, 0x0⟩,
  ⟨.PLM_FIXED_OVR, 0x80010, 1, 0x0, 1, 0x0, 0x0, 0x0, 0xFFFFFFFF, 0xFFFFFFFF, 0x0⟩,
  ⟨.PLM_FORCES, 0x80014, 1, 0x0, 1, 0x0, 0x0, 0x0, 0x0, 0x1FF, 0x0⟩,
  ⟨.PLM_IRQ_STS, 0x80020, 1, 0x0, 1, 0x0, 0x0, 0x7F, 0x0, 0x7F, 0x0⟩,
  ⟨.PLM_IRQ_EN, 0x80024, 1, 0x0, 1, 0x0, 0x7F, 0x0, 0x0, 0x7F, 0x0⟩,
  ⟨.PLM_TASKn_BIND, 0x80100, 32, 0x40, 1, 0x0, 0x0, 0x0, 0x0, 0xFFFFFFFF, 0x0⟩,
  ⟨.PLM_TASKn_PERIOD, 0x80104, 32, 0x40, 1, 0x0, 0x0, 0x0, 0x0, 0xFFFFFFFF, 0x0⟩,
  ⟨.PLM_TASKn_PHASE, 0x80108, 32, 0x40, 1, 0x0, 0x0, 0x0, 0x0, 0xFFFFFFFF, 0x0⟩,
  ⟨.PLM_TASKn_CODE, 0x8010C, 32, 0x40, 1, 0x0, 0x0, 0x0, 0x0, 0xFFFFFFFF, 0x0⟩,
  ⟨.PLM_TASKn_LEN, 0x80110, 32, 0x40, 1, 0x0, 0x0, 0x0, 0x0, 0xFFFFFFFF, 0x0⟩,
  ⟨.PLM_TASKn_ENTRY, 0x80114, 32, 0x40, 1, 0x0, 0x0, 0x0, 0x0, 0xFFFFFFFF, 0x0⟩,
  ⟨.PLM_TASKn_DEADLINE, 0x80118, 32, 0x40, 1, 0x0, 0x0, 0x0, 0x0, 0xFFFFFFFF, 0x0⟩,
  ⟨.PLM_TASKn_STS, 0x8011C, 32, 0x40, 1, 0x0, 0x0, 0x0, 0x0, 0xFFFF73, 0x0⟩,
  ⟨.PLM_TASKn_FPC, 0x80120, 32, 0x40, 1, 0x0, 0x0, 0x0, 0x0, 0xFFFFF, 0x0⟩,
  ⟨.PLM_TASKn_REL, 0x80124, 32, 0x40, 1, 0x0, 0x0, 0x0, 0x0, 0xFFFFFFFF, 0x0⟩,
  ⟨.PLM_TASKn_OVR, 0x80128, 32, 0x40, 1, 0x0, 0x0, 0x0, 0xFFFFFFFF, 0xFFFFFFFF, 0x0⟩,
  ⟨.PLM_TASKn_LAST, 0x8012C, 32, 0x40, 1, 0x0, 0x0, 0x0, 0x0, 0xFFFFFFFF, 0x0⟩,
  ⟨.PLM_TASKn_MAX, 0x80130, 32, 0x40, 1, 0x0, 0x0, 0x0, 0xFFFFFFFF, 0xFFFFFFFF, 0x0⟩,
  ⟨.PLM_TASKn_WITHHELD, 0x80134, 32, 0x40, 1, 0x0, 0x0, 0x0, 0xFFFFFFFF, 0xFFFFFFFF, 0x0⟩,
  ⟨.PLM_PAIRp_STS, 0x81000, 2, 0x10000, 9, 0x10, 0x0, 0x0, 0x0, 0x3F3F, 0x0⟩]

/-- The register map of BLK (chapter 10). -/
def regs10 : List RegDesc := [
  ⟨.BLK_STS, 0xA0000, 1, 0x0, 1, 0x0, 0x0, 0x0, 0x0, 0xFFF7F, 0x0⟩,
  ⟨.BLK_MEM_USED, 0xA0004, 1, 0x0, 1, 0x0, 0x0, 0x0, 0x0, 0x1FFFFF, 0x0⟩,
  ⟨.BLK_SEL, 0xA0010, 1, 0x0, 1, 0x0, 0x7FF, 0x0, 0x0, 0x7FF, 0x0⟩,
  ⟨.BLK_DIR_Wi, 0xA0014, 9, 0x4, 1, 0x0, 0x0, 0x0, 0x0, 0xFFFFFFFF, 0x0⟩,
  ⟨.BLK_ISTS, 0xA0040, 1, 0x0, 1, 0x0, 0x0, 0x0, 0x0, 0xFFFF07, 0x0⟩,
  ⟨.BLK_ICALLS, 0xA0044, 1, 0x0, 1, 0x0, 0x0, 0x0, 0x0, 0xFFFFFFFF, 0x0⟩,
  ⟨.BLK_ILATE, 0xA0048, 1, 0x0, 1, 0x0, 0x0, 0x0, 0xFFFFFFFF, 0xFFFFFFFF, 0x0⟩,
  ⟨.BLK_IMAX, 0xA004C, 1, 0x0, 1, 0x0, 0x0, 0x0, 0xFFFFFFFF, 0xFFFFFFFF, 0x0⟩,
  ⟨.BLK_WIN_OFS, 0xA0050, 1, 0x0, 1, 0x0, 0xFFFFF, 0x0, 0x0, 0xFFFFF, 0x0⟩,
  ⟨.BLK_WIN_DATA, 0xA0054, 1, 0x0, 1, 0x0, 0x0, 0x0, 0x0, 0xFFFFFFFF, 0x0⟩,
  ⟨.BLK_PAIRp_STS, 0xA0080, 6, 0x10, 1, 0x0, 0x0, 0x0, 0x0, 0x7FF007F, 0x0⟩,
  ⟨.BLK_PAIRp_CALLS, 0xA0084, 6, 0x10, 1, 0x0, 0x0, 0x0, 0x0, 0xFFFFFFFF, 0x0⟩,
  ⟨.BLK_PAIRp_MAXQ, 0xA0088, 6, 0x10, 1, 0x0, 0x0, 0x0, 0x1F, 0x1F, 0x0⟩,
  ⟨.BLK_LATE, 0xA0100, 1, 0x0, 1, 0x0, 0x0, 0x0, 0xFFFFFFFF, 0xFFFFFFFF, 0x0⟩,
  ⟨.BLK_PARAM, 0xA0104, 1, 0x0, 1, 0x0, 0x0, 0x0, 0xFFFFFFFF, 0xFFFFFFFF, 0x0⟩,
  ⟨.BLK_SKIP, 0xA0108, 1, 0x0, 1, 0x0, 0x0, 0x0, 0xFFFFFFFF, 0xFFFFFFFF, 0x0⟩,
  ⟨.BLK_APP_REF, 0xA010C, 1, 0x0, 1, 0x0, 0x0, 0x0, 0xFFFFFFFF, 0xFFFFFFFF, 0x0⟩,
  ⟨.BLK_IRQ_STS, 0xA0120, 1, 0x0, 1, 0x0, 0x0, 0xF, 0x0, 0xF, 0x0⟩,
  ⟨.BLK_IRQ_EN, 0xA0124, 1, 0x0, 1, 0x0, 0xF, 0x0, 0x0, 0xF, 0x0⟩]

/-- The register map of CMP (chapter 11). -/
def regs11 : List RegDesc := [
  ⟨.CMP_STS, 0xB0000, 1, 0x0, 1, 0x0, 0x0, 0x0, 0x0, 0xF1F, 0x0⟩,
  ⟨.CMP_LAST_T_LO, 0xB0004, 1, 0x0, 1, 0x0, 0x0, 0x0, 0x0, 0xFFFFFFFF, 0x0⟩,
  ⟨.CMP_LAST_T_HI, 0xB0008, 1, 0x0, 1, 0x0, 0x0, 0x0, 0x0, 0xFFFFFFFF, 0x0⟩,
  ⟨.CMP_RETIRED, 0xB000C, 1, 0x0, 1, 0x0, 0x0, 0x0, 0x0, 0x3FFFFFFF, 0x0⟩,
  ⟨.CMP_SPLIT_MAP, 0xB0010, 1, 0x0, 1, 0x0, 0x0, 0x0, 0x0, 0x7FFFE, 0x0⟩,
  ⟨.CMP_UNCH_W, 0xB0014, 1, 0x0, 1, 0x0, 0x3FFF1FFF, 0x0, 0x0, 0x3FFF1FFF, 0x0⟩,
  ⟨.CMP_IRQ_STS, 0xB0020, 1, 0x0, 1, 0x0, 0x0, 0x7F, 0x0, 0x7F, 0x0⟩,
  ⟨.CMP_IRQ_EN, 0xB0024, 1, 0x0, 1, 0x0, 0x7F, 0x0, 0x0, 0x7F, 0x0⟩,
  ⟨.CMP_Px_STS, 0xB0100, 30, 0x20, 1, 0x0, 0x0, 0x0, 0x0, 0xFFFF7F, 0x0⟩,
  ⟨.CMP_Px_MIS, 0xB0104, 30, 0x20, 1, 0x0, 0x0, 0x0, 0x0, 0xFFFFFFFF, 0x0⟩,
  ⟨.CMP_Px_TESTS, 0xB0108, 30, 0x20, 1, 0x0, 0x0, 0x0, 0x0, 0xFFFFFFFF, 0x0⟩,
  ⟨.CMP_Px_AGREE, 0xB010C, 30, 0x20, 1, 0x0, 0x0, 0x0, 0xFFFFFFFF, 0xFFFFFFFF, 0x0⟩]

/-- The register map of PAIR (chapter 12). -/
def regs12 : List RegDesc := [
  ⟨.PAIR_ROLE, 0xC0000, 1, 0x0, 1, 0x0, 0x0, 0x0, 0x0, 0x177, 0x70⟩,
  ⟨.PAIR_EPOCH, 0xC0004, 1, 0x0, 1, 0x0, 0x0, 0x0, 0x0, 0xFFFFFFFF, 0x0⟩,
  ⟨.PAIR_STS, 0xC0008, 1, 0x0, 1, 0x0, 0x0, 0x0, 0x0, 0x1FF, 0x0⟩,
  ⟨.PAIR_CTL, 0xC000C, 1, 0x0, 1, 0x0, 0x3, 0x0, 0x0, 0x3, 0x3⟩,
  ⟨.PAIR_GEN_CFG, 0xC0010, 1, 0x0, 1, 0x0, 0x1FFFF, 0x0, 0x0, 0x1FFFF, 0x3E8⟩,
  ⟨.PAIR_GEN_SENT, 0xC0014, 1, 0x0, 1, 0x0, 0x0, 0x0, 0x0, 0xFFFFFFFF, 0x0⟩,
  ⟨.PAIR_GEN_DONE, 0xC0018, 1, 0x0, 1, 0x0, 0x0, 0x0, 0x0, 0xFFFFFFFF, 0x0⟩,
  ⟨.PAIR_UNDO, 0xC001C, 1, 0x0, 1, 0x0, 0x0, 0x0, 0x0, 0x3FFFFF, 0x0⟩,
  ⟨.PAIR_TXQ, 0xC0020, 1, 0x0, 1, 0x0, 0x0, 0x0, 0x0, 0x7FFFFF, 0x0⟩,
  ⟨.PAIR_SILENCE, 0xC0024, 1, 0x0, 1, 0x0, 0x0, 0x0, 0x0, 0xFFFFFFFF, 0xFFFFFFFF⟩,
  ⟨.PAIR_LANES, 0xC0028, 1, 0x0, 1, 0x0, 0x0, 0x0, 0x0, 0x77, 0x0⟩,
  ⟨.PAIR_LANE0_CRC, 0xC002C, 1, 0x0, 1, 0x0, 0x0, 0x0, 0xFFFFFFFF, 0xFFFFFFFF, 0x0⟩,
  ⟨.PAIR_LANE1_CRC, 0xC0030, 1, 0x0, 1, 0x0, 0x0, 0x0, 0xFFFFFFFF, 0xFFFFFFFF, 0x0⟩,
  ⟨.PAIR_RETX, 0xC0034, 1, 0x0, 1, 0x0, 0x0, 0x0, 0xFFFFFFFF, 0xFFFFFFFF, 0x0⟩,
  ⟨.PAIR_TAKEOVERS, 0xC0038, 1, 0x0, 1, 0x0, 0x0, 0x0, 0x0, 0xFFFFFFFF, 0x0⟩,
  ⟨.PAIR_LOSS_T_LO, 0xC0040, 1, 0x0, 1, 0x0, 0x0, 0x0, 0x0, 0xFFFFFFFF, 0x0⟩,
  ⟨.PAIR_LOSS_T_HI, 0xC0044, 1, 0x0, 1, 0x0, 0x0, 0x0, 0x0, 0xFFFFFFFF, 0x0⟩,
  ⟨.PAIR_RESUME_US, 0xC0048, 1, 0x0, 1, 0x0, 0x0, 0x0, 0x0, 0xFFFFFFFF, 0x0⟩,
  ⟨.PAIR_H_LO, 0xC0050, 1, 0x0, 1, 0x0, 0x0, 0x0, 0x0, 0xFFFFFFFF, 0x0⟩,
  ⟨.PAIR_H_HI, 0xC0054, 1, 0x0, 1, 0x0, 0x0, 0x0, 0x0, 0xFFFFFFFF, 0x0⟩,
  ⟨.PAIR_MIRROR, 0xC0058, 1, 0x0, 1, 0x0, 0xFFFFFF, 0x0, 0x0, 0xFFFFFF, 0x0⟩,
  ⟨.PAIR_MAP_DROP, 0xC005C, 1, 0x0, 1, 0x0, 0x0, 0x0, 0xFFFFFFFF, 0xFFFFFFFF, 0x0⟩,
  ⟨.PAIR_IRQ_STS, 0xC0060, 1, 0x0, 1, 0x0, 0x0, 0xFF, 0x0, 0xFF, 0x0⟩,
  ⟨.PAIR_IRQ_EN, 0xC0064, 1, 0x0, 1, 0x0, 0xFF, 0x0, 0x0, 0xFF, 0x0⟩]

/-- The register map of CH (chapter 13). -/
def regs13 : List RegDesc := [
  ⟨.CH_CFG, 0xD0000, 32, 0x80, 1, 0x0, 0x0, 0x0, 0x0, 0xFFFFFFFF, 0x0⟩,
  ⟨.CH_BIT, 0xD0004, 32, 0x80, 1, 0x0, 0x0, 0x0, 0x0, 0xFFFFFFFF, 0x0⟩,
  ⟨.CH_WORDS, 0xD0008, 32, 0x80, 1, 0x0, 0x0, 0x0, 0x0, 0xFFFFFFFF, 0x0⟩,
  ⟨.CH_SUBST, 0xD000C, 32, 0x80, 1, 0x0, 0x0, 0x0, 0x0, 0xFFFFFFFF, 0x0⟩,
  ⟨.CH_STSW, 0xD0010, 32, 0x80, 1, 0x0, 0x0, 0x0, 0x0, 0xFFFFFFFF, 0x0⟩,
  ⟨.CH_STS, 0xD0020, 32, 0x80, 1, 0x0, 0x0, 0x0, 0x0, 0xFFFF, 0x0⟩,
  ⟨.CH_EVT, 0xD0024, 32, 0x80, 1, 0x0, 0x0, 0x1FF, 0x0, 0x1FF, 0x0⟩,
  ⟨.CH_VALUE, 0xD0028, 32, 0x80, 1, 0x0, 0x0, 0x0, 0x0, 0xFFFFFFFF, 0x0⟩,
  ⟨.CH_CMD, 0xD002C, 32, 0x80, 1, 0x0, 0x0, 0x0, 0x0, 0xFFFFFFFF, 0x0⟩,
  ⟨.CH_TEMP, 0xD0030, 32, 0x80, 1, 0x0, 0x0, 0x0, 0x0, 0xFFFF, 0x0⟩,
  ⟨.CH_TRIPS, 0xD0034, 32, 0x80, 1, 0x0, 0x0, 0x0, 0x0, 0xFFFFFFFF, 0x0⟩,
  ⟨.CH_TRIM_OFS, 0xD0038, 32, 0x80, 1, 0x0, 0x0, 0x0, 0x0, 0xFFFFFFFF, 0x0⟩,
  ⟨.CH_TRIM_GAIN, 0xD003C, 32, 0x80, 1, 0x0, 0x0, 0x0, 0x0, 0xFFFFFFFF, 0x0⟩,
  ⟨.CH_TRIM_T, 0xD0040, 32, 0x80, 1, 0x0, 0x0, 0x0, 0x0, 0x3FFFF, 0x0⟩,
  ⟨.CH_BENCH, 0xD0044, 32, 0x80, 1, 0x0, 0x0, 0x0, 0x0, 0xFFFF, 0x0⟩,
  ⟨.GRP_ITEMi, 0xD1000, 2, 0x100, 3, 0x4, 0x0, 0x0, 0x0, 0xFFFFFFFF, 0x0⟩,
  ⟨.GRP_CTL, 0xD1010, 2, 0x100, 1, 0x0, 0x1, 0x0, 0x0, 0x1, 0x0⟩,
  ⟨.GRP_CHEN, 0xD1014, 2, 0x100, 1, 0x0, 0xFFFF, 0x0, 0x0, 0xFFFF, 0xFFFF⟩,
  ⟨.GRP_ACK, 0xD1018, 2, 0x100, 1, 0x0, 0x0, 0x0, 0x0, 0x1, 0x0⟩,
  ⟨.GRP_STS, 0xD101C, 2, 0x100, 1, 0x0, 0x0, 0x0, 0x0, 0x3F, 0x0⟩,
  ⟨.GRP_VFLD, 0xD1020, 2, 0x100, 1, 0x0, 0x0, 0x0, 0x0, 0xFFFF, 0x0⟩,
  ⟨.GRP_VFLD_MIN, 0xD1024, 2, 0x100, 1, 0x0, 0x0, 0x0, 0xFFFF, 0xFFFF, 0xFFFF⟩,
  ⟨.GRP_VFLD_MAX, 0xD1028, 2, 0x100, 1, 0x0, 0x0, 0x0, 0xFFFF, 0xFFFF, 0x0⟩,
  ⟨.GRP_IDO, 0xD102C, 2, 0x100, 1, 0x0, 0x0, 0x0, 0x0, 0xFFFF, 0x0⟩,
  ⟨.GRP_SAG_CNT, 0xD1030, 2, 0x100, 1, 0x0, 0x0, 0x0, 0xFFFF, 0xFFFF, 0x0⟩,
  ⟨.GRP_CONV_DROP, 0xD1034, 2, 0x100, 1, 0x0, 0x0, 0x0, 0xFFFF, 0xFFFF, 0x0⟩,
  ⟨.GRP_IRQ_STS, 0xD1040, 2, 0x100, 1, 0x0, 0x0, 0xF3F, 0x0, 0xF3F, 0x0⟩,
  ⟨.GRP_IRQ_EN, 0xD1044, 2, 0x100, 1, 0x0, 0xFFF, 0x0, 0x0, 0xFFF, 0x0⟩,
  ⟨.FIk_CFG, 0xD1400, 8, 0x4, 1, 0x0, 0x0, 0x0, 0x0, 0xFFFFFFFF, 0x0⟩,
  ⟨.FOk_CFG, 0xD1420, 8, 0x4, 1, 0x0, 0x0, 0x0, 0x0, 0xFFFFFFFF, 0x0⟩,
  ⟨.FIO_LEVEL, 0xD1440, 1, 0x0, 1, 0x0, 0x0, 0x0, 0x0, 0xFFFFFF, 0x0⟩,
  ⟨.FIO_STS, 0xD1444, 1, 0x0, 1, 0x0, 0x0, 0x0, 0x0, 0xFFFF, 0x0⟩,
  ⟨.FIO_FO_TRIPS, 0xD1448, 1, 0x0, 1, 0x0, 0x0, 0x0, 0xFFFFFFFF, 0xFFFFFFFF, 0x0⟩,
  ⟨.FIk_EV_NS, 0xD1500, 8, 0x10, 1, 0x0, 0x0, 0x0, 0x0, 0x3FFFFFFF, 0x0⟩,
  ⟨.FIk_EV_SEC, 0xD1504, 8, 0x10, 1, 0x0, 0x0, 0x0, 0x0, 0xFFFFFFFF, 0x0⟩,
  ⟨.FIk_EV_INFO, 0xD1508, 8, 0x10, 1, 0x0, 0x0, 0x0, 0x0, 0x80FFFFFF, 0x0⟩,
  ⟨.FIk_EV_POP, 0xD150C, 8, 0x10, 1, 0x0, 0x0, 0x0, 0x0, 0x1, 0x0⟩,
  ⟨.FIk_EV_DROP, 0xD1580, 8, 0x4, 1, 0x0, 0x0, 0x0, 0xFFFFFFFF, 0xFFFFFFFF, 0x0⟩,
  ⟨.CHN_STS, 0xD1800, 1, 0x0, 1, 0x0, 0x0, 0x0, 0x0, 0x3FFFFFF, 0x0⟩,
  ⟨.CHN_CCc, 0xD1840, 16, 0x4, 1, 0x0, 0x0, 0x0, 0x0, 0xFFFFF, 0x0⟩]

/-- The register map of CAN (chapter 14). -/
def regs14 : List RegDesc := [
  ⟨.CANn_CTL, 0xE0000, 2, 0x4000, 1, 0x0, 0xF, 0x0, 0x0, 0xF, 0x4⟩,
  ⟨.CANn_STS, 0xE0004, 2, 0x4000, 1, 0x0, 0x0, 0x0, 0x0, 0x3F7F, 0x0⟩,
  ⟨.CANn_NBT, 0xE0008, 2, 0x4000, 1, 0x0, 0x7FFFFFF, 0x0, 0x0, 0x7FFFFFF, 0x0⟩,
  ⟨.CANn_DBT, 0xE000C, 2, 0x4000, 1, 0x0, 0x3FFFFFF, 0x0, 0x0, 0x3FFFFFF, 0x0⟩,
  ⟨.CANn_ERR, 0xE0010, 2, 0x4000, 1, 0x0, 0x0, 0x0, 0x0, 0x7FFFF, 0x0⟩,
  ⟨.CANn_ERRCNT, 0xE0014, 2, 0x4000, 1, 0x0, 0x0, 0x0, 0xFFFFFFFF, 0xFFFFFFFF, 0x0⟩,
  ⟨.CANn_TSC, 0xE0018, 2, 0x4000, 1, 0x0, 0x0, 0x0, 0x0, 0xFFFFFFFF, 0x0⟩,
  ⟨.CANn_TSC_CAP, 0xE001C, 2, 0x4000, 1, 0x0, 0x0, 0x0, 0x0, 0x1, 0x0⟩,
  ⟨.CANn_TSC_C, 0xE0020, 2, 0x4000, 1, 0x0, 0x0, 0x0, 0x0, 0xFFFFFFFF, 0x0⟩,
  ⟨.CANn_TSC_PTP_NS, 0xE0024, 2, 0x4000, 1, 0x0, 0x0, 0x0, 0x0, 0x3FFFFFFF, 0x0⟩,
  ⟨.CANn_TSC_PTP_SEC, 0xE0028, 2, 0x4000, 1, 0x0, 0x0, 0x0, 0x0, 0xFFFFFFFF, 0x0⟩,
  ⟨.CANn_TSC_PTP_EXT, 0xE002C, 2, 0x4000, 1, 0x0, 0x0, 0x0, 0x0, 0xFFFF, 0x0⟩,
  ⟨.CANn_TX_ID, 0xE0040, 2, 0x4000, 1, 0x0, 0x7FFFFFFF, 0x0, 0x0, 0x7FFFFFFF, 0x0⟩,
  ⟨.CANn_TX_CTL, 0xE0044, 2, 0x4000, 1, 0x0, 0xFFFF003F, 0x0, 0x0, 0xFFFF003F, 0x0⟩,
  ⟨.CANn_TX_PUSH, 0xE0048, 2, 0x4000, 1, 0x0, 0x0, 0x0, 0x0, 0x3, 0x0⟩,
  ⟨.CANn_TX_STS, 0xE004C, 2, 0x4000, 1, 0x0, 0x0, 0x0, 0x0, 0x3, 0x0⟩,
  ⟨.CANn_CMD, 0xE0050, 2, 0x4000, 1, 0x0, 0x0, 0x0, 0x0, 0xF, 0x0⟩,
  ⟨.CANn_TXE_INFO, 0xE0054, 2, 0x4000, 1, 0x0, 0x0, 0x0, 0x0, 0x80FFFFFF, 0x0⟩,
  ⟨.CANn_TXE_TS, 0xE0058, 2, 0x4000, 1, 0x0, 0x0, 0x0, 0x0, 0xFFFFFFFF, 0x0⟩,
  ⟨.CANn_TXE_POP, 0xE005C, 2, 0x4000, 1, 0x0, 0x0, 0x0, 0x0, 0x1, 0x0⟩,
  ⟨.CANn_TXE_DROP, 0xE0060, 2, 0x4000, 1, 0x0, 0x0, 0x0, 0xFFFFFFFF, 0xFFFFFFFF, 0x0⟩,
  ⟨.CANn_IDCOL_CNT, 0xE0064, 2, 0x4000, 1, 0x0, 0x0, 0x0, 0xFFFFFFFF, 0xFFFFFFFF, 0x0⟩,
  ⟨.CANn_TX_DATAi, 0xE0080, 2, 0x4000, 16, 0x4, 0xFFFFFFFF, 0x0, 0x0, 0xFFFFFFFF, 0x0⟩,
  ⟨.CANn_RX_SEL, 0xE0100, 2, 0x4000, 1, 0x0, 0x3F, 0x0, 0x0, 0x3F, 0x0⟩,
  ⟨.CANn_RX_INFO, 0xE0104, 2, 0x4000, 1, 0x0, 0x0, 0x0, 0x0, 0x3FF, 0x0⟩,
  ⟨.CANn_RX_ID, 0xE0108, 2, 0x4000, 1, 0x0, 0x0, 0x0, 0x0, 0xFFFFFFFF, 0x0⟩,
  ⟨.CANn_RX_TS, 0xE010C, 2, 0x4000, 1, 0x0, 0x0, 0x0, 0x0, 0xFFFFFFFF, 0x0⟩,
  ⟨.CANn_RX_DATAi, 0xE0140, 2, 0x4000, 16, 0x4, 0x0, 0x0, 0x0, 0xFFFFFFFF, 0x0⟩,
  ⟨.CANn_RX_NEW0, 0xE0180, 2, 0x4000, 1, 0x0, 0x0, 0x0, 0x0, 0xFFFFFFFF, 0x0⟩,
  ⟨.CANn_RX_NEW1, 0xE0184, 2, 0x4000, 1, 0x0, 0x0, 0x0, 0x0, 0xFFFFFFFF, 0x0⟩,
  ⟨.CANn_RX_UNMATCHED, 0xE0188, 2, 0x4000, 1, 0x0, 0x0, 0x0, 0xFFFFFFFF, 0xFFFFFFFF, 0x0⟩,
  ⟨.CANn_RX_LOSTCNT, 0xE018C, 2, 0x4000, 1, 0x0, 0x0, 0x0, 0xFFFFFFFF, 0xFFFFFFFF, 0x0⟩,
  ⟨.CANn_IRQ_STS, 0xE01C0, 2, 0x4000, 1, 0x0, 0x0, 0x3F, 0x0, 0x3F, 0x0⟩,
  ⟨.CANn_IRQ_EN, 0xE01C4, 2, 0x4000, 1, 0x0, 0x3F, 0x0, 0x0, 0x3F, 0x0⟩,
  ⟨.CANn_OBJk_ID, 0xE0400, 2, 0x4000, 64, 0x8, 0x3FFFFFFF, 0x0, 0x0, 0x3FFFFFFF, 0x0⟩,
  ⟨.CANn_OBJk_CFG, 0xE0404, 2, 0x4000, 64, 0x8, 0x3, 0x0, 0x0, 0x3, 0x0⟩]

/-- The register map of BNK and MPU (chapter 15). -/
def regs15 : List RegDesc := [
  ⟨.BNK_GLB_STS, 0xF0000, 1, 0x0, 1, 0x0, 0x0, 0x0, 0x0, 0xFFFFFF, 0x0⟩,
  ⟨.BNK_RET_MAP, 0xF0004, 1, 0x0, 1, 0x0, 0x0, 0x0, 0x0, 0xFFFFFF, 0x0⟩,
  ⟨.BNK_IRQ_STS, 0xF0010, 1, 0x0, 1, 0x0, 0x0, 0x3F, 0x0, 0x3F, 0x0⟩,
  ⟨.BNK_IRQ_EN, 0xF0014, 1, 0x0, 1, 0x0, 0x3F, 0x0, 0x0, 0x3F, 0x0⟩,
  ⟨.BNK_LPD_STS, 0xF0020, 1, 0x0, 1, 0x0, 0x0, 0x0, 0x0, 0x3, 0x0⟩,
  ⟨.BNK_LPD_CE, 0xF0024, 1, 0x0, 1, 0x0, 0x0, 0x0, 0xFFFFFFFF, 0xFFFFFFFF, 0x0⟩,
  ⟨.BNK_LPD_UE, 0xF0028, 1, 0x0, 1, 0x0, 0x0, 0x0, 0xFFFFFFFF, 0xFFFFFFFF, 0x0⟩,
  ⟨.BNK_LPD_UE_ADDR_LO, 0xF002C, 1, 0x0, 1, 0x0, 0x0, 0x0, 0x0, 0xFFFFFFFF, 0x0⟩,
  ⟨.BNK_LPD_UE_ADDR_HI, 0xF0030, 1, 0x0, 1, 0x0, 0x0, 0x0, 0x0, 0xFF, 0x0⟩,
  ⟨.BNK_LCK_BADREL, 0xF0040, 1, 0x0, 1, 0x0, 0x0, 0x0, 0xFFFFFFFF, 0xFFFFFFFF, 0x0⟩,
  ⟨.BNK_OWN, 0xF0100, 24, 0x20, 1, 0x0, 0xFF, 0x0, 0x0, 0xFF, 0x0⟩,
  ⟨.BNK_CTL, 0xF0104, 24, 0x20, 1, 0x0, 0x7, 0x0, 0x0, 0x7, 0x6⟩,
  ⟨.BNK_BSTS, 0xF0108, 24, 0x20, 1, 0x0, 0x0, 0x0, 0x0, 0xFF0F, 0x0⟩,
  ⟨.BNK_CE, 0xF010C, 24, 0x20, 1, 0x0, 0x0, 0x0, 0xFFFFFFFF, 0xFFFFFFFF, 0x0⟩,
  ⟨.BNK_UE, 0xF0110, 24, 0x20, 1, 0x0, 0x0, 0x0, 0xFFFFFFFF, 0xFFFFFFFF, 0x0⟩,
  ⟨.BNK_FIND, 0xF0114, 24, 0x20, 1, 0x0, 0x0, 0x0, 0x0, 0xFFFF37FF, 0x0⟩,
  ⟨.BNK_UE_ADDR, 0xF0118, 24, 0x20, 1, 0x0, 0x0, 0x0, 0x0, 0x1FFFFF, 0x0⟩,
  ⟨.BNK_BGT, 0xF011C, 24, 0x20, 1, 0x0, 0x0, 0x0, 0x0, 0xFFFF7FFF, 0x0⟩,
  ⟨.LCK_i, 0xF1000, 64, 0x4, 1, 0x0, 0xFF, 0x0, 0x0, 0xC00000FF, 0x0⟩,
  ⟨.MPU_SYNC, 0x100000, 1, 0x0, 1, 0x0, 0x0, 0x0, 0x0, 0xFFFFFFFF, 0x0⟩,
  ⟨.MPU_IMP_STS, 0x100004, 1, 0x0, 1, 0x0, 0x0, 0x1, 0x0, 0x7FF03, 0x0⟩,
  ⟨.MPU_IMP_ADDR_LO, 0x100008, 1, 0x0, 1, 0x0, 0x0, 0x0, 0x0, 0xFFFFFFFF, 0x0⟩,
  ⟨.MPU_IMP_ADDR_HI, 0x10000C, 1, 0x0, 1, 0x0, 0x0, 0x0, 0x0, 0xFF, 0x0⟩,
  ⟨.MPU_IMP_CNT, 0x100010, 1, 0x0, 1, 0x0, 0x0, 0x0, 0x0, 0xFFFFFFFF, 0x0⟩,
  ⟨.MPU_BASE_LO, 0x100000, 256, 0x100, 16, 0x10, 0x0, 0x0, 0x0, 0xFFFFFF00, 0x0⟩,
  ⟨.MPU_BASE_HI, 0x100004, 256, 0x100, 16, 0x10, 0x0, 0x0, 0x0, 0xFF, 0x0⟩,
  ⟨.MPU_ATTR, 0x100008, 256, 0x100, 16, 0x10, 0x0, 0x0, 0x0, 0x3FFFF7F, 0x0⟩]

/-- The register map of REC (chapter 16). -/
def regs16 : List RegDesc := [
  ⟨.REC_STS, 0x110000, 1, 0x0, 1, 0x0, 0x0, 0x0, 0x0, 0xF, 0x0⟩,
  ⟨.REC_SEQ_LO, 0x110004, 1, 0x0, 1, 0x0, 0x0, 0x0, 0x0, 0xFFFFFFFF, 0x0⟩,
  ⟨.REC_SEQ_HI, 0x110008, 1, 0x0, 1, 0x0, 0x0, 0x0, 0x0, 0xFFFFFFFF, 0x0⟩,
  ⟨.REC_PERIOD, 0x11000C, 1, 0x0, 1, 0x0, 0x0, 0x0, 0x0, 0x7FF, 0x3C⟩,
  ⟨.REC_ELAPSED, 0x110010, 1, 0x0, 1, 0x0, 0x0, 0x0, 0x0, 0x1FFFF, 0x0⟩,
  ⟨.REC_TORN, 0x110014, 1, 0x0, 1, 0x0, 0x0, 0x0, 0xFFFF, 0xFFFF, 0x0⟩,
  ⟨.REC_IRQ_STS, 0x110020, 1, 0x0, 1, 0x0, 0x0, 0x7, 0x0, 0x7, 0x0⟩,
  ⟨.REC_IRQ_EN, 0x110024, 1, 0x0, 1, 0x0, 0x7, 0x0, 0x0, 0x7, 0x0⟩,
  ⟨.REC_SEL, 0x110030, 1, 0x0, 1, 0x0, 0xFFF, 0x0, 0x0, 0xFFF, 0x0⟩,
  ⟨.REC_WIN_STS, 0x110034, 1, 0x0, 1, 0x0, 0x0, 0x0, 0x0, 0x7, 0x0⟩,
  ⟨.REC_WINi, 0x110080, 32, 0x4, 1, 0x0, 0x0, 0x0, 0x0, 0xFFFFFFFF, 0x0⟩]

/-- The register map of UPD (chapter 18). -/
def regs18 : List RegDesc := [
  ⟨.UPD_STS, 0x120000, 1, 0x0, 1, 0x0, 0x0, 0x0, 0x0, 0x3FFF, 0x0⟩,
  ⟨.UPD_CTL, 0x120004, 1, 0x0, 1, 0x0, 0x1, 0x0, 0x0, 0x1, 0x1⟩,
  ⟨.UPD_SECVER, 0x120008, 1, 0x0, 1, 0x0, 0x0, 0x0, 0x0, 0xFFFFFFFF, 0x0⟩,
  ⟨.UPD_FWREV_A, 0x12000C, 1, 0x0, 1, 0x0, 0x0, 0x0, 0x0, 0xFFFFFFFF, 0x0⟩,
  ⟨.UPD_FWREV_B, 0x120010, 1, 0x0, 1, 0x0, 0x0, 0x0, 0x0, 0xFFFFFFFF, 0x0⟩,
  ⟨.UPD_SETFMT, 0x120014, 1, 0x0, 1, 0x0, 0x0, 0x0, 0x0, 0xFFFFFFFF, 0x0⟩,
  ⟨.UPD_ACT_NS, 0x120020, 1, 0x0, 1, 0x0, 0x0, 0x0, 0x0, 0x3FFFFFFF, 0x0⟩,
  ⟨.UPD_ACT_SEC, 0x120024, 1, 0x0, 1, 0x0, 0x0, 0x0, 0x0, 0xFFFFFFFF, 0x0⟩,
  ⟨.UPD_ACT_EXT, 0x120028, 1, 0x0, 1, 0x0, 0x0, 0x0, 0x0, 0x3FFFF, 0x0⟩,
  ⟨.UPD_XFER_STS, 0x120030, 1, 0x0, 1, 0x0, 0x0, 0x0, 0x0, 0x1FFF03, 0x0⟩,
  ⟨.UPD_XFER_ERR, 0x120034, 1, 0x0, 1, 0x0, 0x0, 0x0, 0xFFFF, 0xFFFF, 0x0⟩,
  ⟨.UPD_FLOOR_REQ, 0x120038, 1, 0x0, 1, 0x0, 0x0, 0x0, 0x0, 0xFFFF00FF, 0x0⟩,
  ⟨.UPD_IRQ_STS, 0x120040, 1, 0x0, 1, 0x0, 0x0, 0xF, 0x0, 0xF, 0x0⟩,
  ⟨.UPD_IRQ_EN, 0x120044, 1, 0x0, 1, 0x0, 0xF, 0x0, 0x0, 0xF, 0x0⟩]

/-- The whole register map, in the order of Table 1.4. -/
def regMap : List RegDesc :=
  regs02 ++ regs17 ++ regs03 ++ regs04 ++ regs05 ++ regs06 ++ regs07 ++ regs09 ++ regs10 ++ regs11 ++ regs12 ++ regs13 ++ regs14 ++ regs15 ++ regs16 ++ regs18

/-- The indexes of an address within a row, if it lies on one of the row's registers. -/
def RegDesc.index (d : RegDesc) (a : Nat) : Option (Nat × Nat) :=
  if a < d.base then none
  else
    let off := a - d.base
    let i := if d.s1 = 0 then 0 else off / d.s1
    let r := if d.s1 = 0 then off else off % d.s1
    let j := if d.s2 = 0 then 0 else r / d.s2
    let q := if d.s2 = 0 then r else r % d.s2
    if q = 0 ∧ i < d.n1 ∧ j < d.n2 then some (i, j) else none

/-- The row and indexes of an address, in a list of rows. -/
def findIn : List RegDesc → Nat → Option (RegDesc × Nat × Nat)
  | [], _ => none
  | d :: rest, a =>
    match d.index a with
    | some (i, j) => some (d, i, j)
    | none => findIn rest a

/-- The rows of the block an address lies in (Table 1.4). -/
def blockRows (a : Nat) : List RegDesc :=
  match a / 0x10000 with
  | 0x0 => regs02
  | 0x1 => regs17
  | 0x2 => regs03
  | 0x3 => regs04
  | 0x4 => regs05
  | 0x5 => regs06
  | 0x6 => regs07
  | 0x7 => regs07
  | 0x8 => regs09
  | 0x9 => regs09
  | 0xA => regs10
  | 0xB => regs11
  | 0xC => regs12
  | 0xD => regs13
  | 0xE => regs14
  | 0xF => regs15
  | 0x10 => regs15
  | 0x11 => regs16
  | 0x12 => regs18
  | _ => []

/-- The register at an address: its row and its indexes. -/
def findReg (a : Nat) : Option (RegDesc × Nat × Nat) := findIn (blockRows a) a

/-- The reset value of the register at an address (zero where the address holds none). Every vector of the MSI-X table is
masked after reset (Table 2.8 'Per PCIe'; PRESUMED, log 32). -/
def regReset (a : Nat) : Word :=
  match findReg a with
  | some (d, i, _) => if d.tag = .MSIX_TABLE && i % 4 = 3 then 1 else d.reset
  | none => 0

/-! ### Addresses, by the manual's names -/

namespace Reg

def SYS_ID : Nat := 0x0
def SYS_FWREV : Nat := 0x4
def SYS_SERIAL_LO : Nat := 0x8
def SYS_SERIAL_HI : Nat := 0xC
def SYS_OPTIONS : Nat := 0x10
def SYS_SLOT : Nat := 0x14
def SYS_STATUS : Nat := 0x18
def SYS_SCRATCH : Nat := 0x1C
def SYS_VIOL_STS : Nat := 0x20
def SYS_VIOL_SRC : Nat := 0x24
def SYS_VIOL_ADDR_LO : Nat := 0x28
def SYS_VIOL_ADDR_HI : Nat := 0x2C
def SYS_VIOL_CNT : Nat := 0x30
def SYS_TMR_CNT : Nat := 0x34
def SYS_TMR_LAST : Nat := 0x38
def SYS_IRQ_STS : Nat := 0x40
def SYS_IRQ_EN : Nat := 0x44
def SYS_RST_REQ : Nat := 0x50
def SYS_PCIE_STS : Nat := 0x100
def SYS_PCIE_ERR : Nat := 0x104
def SYS_SVC_MAC_LO : Nat := 0x200
def SYS_SVC_MAC_HI : Nat := 0x204
def SYS_SVC_ETYPE : Nat := 0x208
def SYS_SVC_STS : Nat := 0x20C
def SYS_RRA_CTL : Nat := 0x300
def SYS_RRA_DROP : Nat := 0x304
def MSIX_TABLE (i : Nat) : Nat := 0x8000 + i * 0x4
def MSIX_PBA (i : Nat) : Nat := 0x9000 + i * 0x4
def MBX_DATAi (n i : Nat) : Nat := 0x20000 + n * 0x100 + i * 0x4
def MBX_POST (n : Nat) : Nat := 0x20040 + n * 0x100
def MBX_TAKE (n : Nat) : Nat := 0x20044 + n * 0x100
def MBX_STS (n : Nat) : Nat := 0x20048 + n * 0x100
def MBX_IRQ_EN (n : Nat) : Nat := 0x2004C + n * 0x100
def MBX_HRST (n : Nat) : Nat := 0x20050 + n * 0x100
def MBX_GLB_STS : Nat := 0x21000
def MBX_GLB_MPRST : Nat := 0x21004
def TIM_CTL : Nat := 0x30000
def TIM_STS : Nat := 0x30004
def TIM_NOW_LO : Nat := 0x30008
def TIM_NOW_HI : Nat := 0x3000C
def TIM_NOW_EXT : Nat := 0x30010
def TIM_NOW_FRAC : Nat := 0x30014
def TIM_INCR_LO : Nat := 0x30020
def TIM_INCR_HI : Nat := 0x30024
def TIM_STEP_LO : Nat := 0x30030
def TIM_STEP_HI : Nat := 0x30034
def TIM_MEAS_OFS : Nat := 0x30040
def TIM_MEAS_DELAY : Nat := 0x30044
def TIM_MEAS_SEQ : Nat := 0x30048
def TIM_IRQ_STS : Nat := 0x30050
def TIM_IRQ_EN : Nat := 0x30054
def TIM_GM_ID_LO : Nat := 0x30060
def TIM_GM_ID_HI : Nat := 0x30064
def TIM_PTP_CFG : Nat := 0x30068
def TIM_MGMT_DROP : Nat := 0x3006C
def TIM_CMPk_CFG (k : Nat) : Nat := 0x30100 + k * 0x20
def TIM_CMPk_T_LO (k : Nat) : Nat := 0x30104 + k * 0x20
def TIM_CMPk_T_HI (k : Nat) : Nat := 0x30108 + k * 0x20
def TIM_CMPk_T_EXT (k : Nat) : Nat := 0x3010C + k * 0x20
def TIM_CMPk_PERIOD (k : Nat) : Nat := 0x30110 + k * 0x20
def TIM_CMPk_ACTION (k : Nat) : Nat := 0x30114 + k * 0x20
def TIM_CMPk_MISSED (k : Nat) : Nat := 0x30118 + k * 0x20
def TIM_PORTn_CFG (n : Nat) : Nat := 0x30400 + n * 0x40
def TIM_PORTn_STS (n : Nat) : Nat := 0x30404 + n * 0x40
def TIM_PORTn_LAT (n : Nat) : Nat := 0x30408 + n * 0x40
def TIM_PORTn_TXQ_TAG (n : Nat) : Nat := 0x30410 + n * 0x40
def TIM_PORTn_TXQ_NS (n : Nat) : Nat := 0x30414 + n * 0x40
def TIM_PORTn_TXQ_SEC_LO (n : Nat) : Nat := 0x30418 + n * 0x40
def TIM_PORTn_TXQ_SEC_HI (n : Nat) : Nat := 0x3041C + n * 0x40
def TIM_PORTn_TXQ_POP (n : Nat) : Nat := 0x30420 + n * 0x40
def TIM_PORTn_TXQ_OVF (n : Nat) : Nat := 0x30424 + n * 0x40
def DAT_CFG (d : Nat) : Nat := 0x40000 + d * 0x200
def DAT_STS (d : Nat) : Nat := 0x40004 + d * 0x200
def DAT_MOD_LO (d : Nat) : Nat := 0x40008 + d * 0x200
def DAT_MOD_HI (d : Nat) : Nat := 0x4000C + d * 0x200
def DAT_RATIO_NUM (d : Nat) : Nat := 0x40010 + d * 0x200
def DAT_RATIO_DEN (d : Nat) : Nat := 0x40014 + d * 0x200
def DAT_OFS_LO (d : Nat) : Nat := 0x40018 + d * 0x200
def DAT_OFS_HI (d : Nat) : Nat := 0x4001C + d * 0x200
def DAT_ENC_CFG (d : Nat) : Nat := 0x40020 + d * 0x200
def DAT_ENC_ZVAL (d : Nat) : Nat := 0x40024 + d * 0x200
def DAT_ENC_SCALE_LO (d : Nat) : Nat := 0x40028 + d * 0x200
def DAT_ENC_SCALE_HI (d : Nat) : Nat := 0x4002C + d * 0x200
def DAT_ENC_STOPJ_LO (d : Nat) : Nat := 0x40030 + d * 0x200
def DAT_ENC_STOPJ_HI (d : Nat) : Nat := 0x40034 + d * 0x200
def DAT_UP_CFG (d : Nat) : Nat := 0x40038 + d * 0x200
def DAT_POS_LO (d : Nat) : Nat := 0x40040 + d * 0x200
def DAT_POS_HI (d : Nat) : Nat := 0x40044 + d * 0x200
def DAT_VEL_LO (d : Nat) : Nat := 0x40048 + d * 0x200
def DAT_VEL_HI (d : Nat) : Nat := 0x4004C + d * 0x200
def DAT_ACC_LO (d : Nat) : Nat := 0x40050 + d * 0x200
def DAT_ACC_HI (d : Nat) : Nat := 0x40054 + d * 0x200
def DAT_WRAPS (d : Nat) : Nat := 0x40058 + d * 0x200
def DAT_ACT_SEQ (d : Nat) : Nat := 0x4005C + d * 0x200
def DAT_PHASE_LO (d : Nat) : Nat := 0x40060 + d * 0x200
def DAT_PHASE_HI (d : Nat) : Nat := 0x40064 + d * 0x200
def DAT_HZ_HELD (d : Nat) : Nat := 0x40068 + d * 0x200
def DAT_JUMP_CNT (d : Nat) : Nat := 0x4006C + d * 0x200
def DAT_JUMP_MAX (d : Nat) : Nat := 0x40070 + d * 0x200
def DAT_FIT_ERR (d : Nat) : Nat := 0x40074 + d * 0x200
def DAT_FIT_ERR_MAX (d : Nat) : Nat := 0x40078 + d * 0x200
def DAT_ENC_CNT (d : Nat) : Nat := 0x4007C + d * 0x200
def DAT_ENC_ERR (d : Nat) : Nat := 0x40080 + d * 0x200
def DAT_UP_DROP (d : Nat) : Nat := 0x40084 + d * 0x200
def DAT_APP_Wi (d i : Nat) : Nat := 0x40100 + d * 0x200 + i * 0x4
def DAT_APP_CTL (d : Nat) : Nat := 0x40148 + d * 0x200
def DAT_APP_STS (d : Nat) : Nat := 0x4014C + d * 0x200
def DAT_IRQ_STS : Nat := 0x41000
def DAT_IRQ_EN : Nat := 0x41004
def DAT_GLB_STS : Nat := 0x41008
def STK_STS : Nat := 0x50000
def STK_PAGE : Nat := 0x50004
def STK_LIVE_SEL : Nat := 0x50008
def STK_LIVE_TGT_LO : Nat := 0x5000C
def STK_LIVE_TGT_HI : Nat := 0x50010
def STK_NOTE_IDX : Nat := 0x50014
def STK_FO_LATE : Nat := 0x50040
def STK_FO_DROP : Nat := 0x50044
def STK_EVT_LATE : Nat := 0x50048
def STK_EVT_DROP : Nat := 0x5004C
def STK_DELAYED : Nat := 0x50050
def STK_CANCELLED : Nat := 0x50054
def STK_RESUME_SKIP : Nat := 0x50058
def STK_PRED_CNT : Nat := 0x5005C
def STK_IRQ_STS : Nat := 0x50080
def STK_IRQ_EN : Nat := 0x50084
def STK_DNEXTd (d : Nat) : Nat := 0x500C0 + d * 0x4
def STK_CAPk_NS (k : Nat) : Nat := 0x50100 + k * 0x10
def STK_CAPk_SEC (k : Nat) : Nat := 0x50104 + k * 0x10
def STK_CAPk_SEC_EXT (k : Nat) : Nat := 0x50108 + k * 0x10
def STK_CAPk_INFO (k : Nat) : Nat := 0x5010C + k * 0x10
def STK_LEADd_s (d s : Nat) : Nat := 0x50200 + d * 0x20 + s * 0x4
def STK_HYSTd_LO (d : Nat) : Nat := 0x50300 + d * 0x8
def STK_HYSTd_HI (d : Nat) : Nat := 0x50304 + d * 0x8
def STK_Wi (j i : Nat) : Nat := 0x58000 + j * 0x20 + i * 0x4
def STK_W6 (j : Nat) : Nat := 0x58018 + j * 0x20
def STK_W7 (j : Nat) : Nat := 0x5801C + j * 0x20
def TRV_CTL (n : Nat) : Nat := 0x60000 + n * 0x4000
def TRV_STS (n : Nat) : Nat := 0x60004 + n * 0x4000
def TRV_CYC_CNT (n : Nat) : Nat := 0x60008 + n * 0x4000
def TRV_ITEM0 (n : Nat) : Nat := 0x6000C + n * 0x4000
def TRV_ITEM1 (n : Nat) : Nat := 0x60010 + n * 0x4000
def TRV_QMAP (n : Nat) : Nat := 0x60014 + n * 0x4000
def TRV_PREEMPT (n : Nat) : Nat := 0x60018 + n * 0x4000
def TRV_VLAN (n : Nat) : Nat := 0x6001C + n * 0x4000
def TRV_MAC_LO (n : Nat) : Nat := 0x60020 + n * 0x4000
def TRV_MAC_HI (n : Nat) : Nat := 0x60024 + n * 0x4000
def TRV_GMAC_LO (n : Nat) : Nat := 0x60028 + n * 0x4000
def TRV_GMAC_HI (n : Nat) : Nat := 0x6002C + n * 0x4000
def TRV_UPSTN (n : Nat) : Nat := 0x60030 + n * 0x4000
def TRV_RX_FCS (n : Nat) : Nat := 0x60040 + n * 0x4000
def TRV_RX_BAD (n : Nat) : Nat := 0x60044 + n * 0x4000
def TRV_RX_OLD (n : Nat) : Nat := 0x60048 + n * 0x4000
def TRV_RX_CONFLICT (n : Nat) : Nat := 0x6004C + n * 0x4000
def TRV_TX_STALE (n : Nat) : Nat := 0x60050 + n * 0x4000
def TRV_TX_FRAG (n : Nat) : Nat := 0x60054 + n * 0x4000
def TRV_SEG_NAK (n : Nat) : Nat := 0x60058 + n * 0x4000
def TRV_EVT_NAK (n : Nat) : Nat := 0x6005C + n * 0x4000
def TRV_IRQ_STS (n : Nat) : Nat := 0x60080 + n * 0x4000
def TRV_IRQ_EN (n : Nat) : Nat := 0x60084 + n * 0x4000
def TRV_GCLg_GATES (n g : Nat) : Nat := 0x60100 + n * 0x4000 + g * 0x8
def TRV_GCLg_DUR (n g : Nat) : Nat := 0x60104 + n * 0x4000 + g * 0x8
def STN_STS (n s : Nat) : Nat := 0x61000 + n * 0x4000 + s * 0x10
def STN_EVT_LATE (n s : Nat) : Nat := 0x61004 + n * 0x4000 + s * 0x10
def STN_SEG_NAK (n s : Nat) : Nat := 0x61008 + n * 0x4000 + s * 0x10
def TRV_SW_ETYPE : Nat := 0x70000
def TRV_SW_ADDR : Nat := 0x70004
def TRV_SW_EPOCH_MAX : Nat := 0x70008
def TRV_SW_HB_AGE : Nat := 0x7000C
def TRV_SW_STS : Nat := 0x70010
def TRV_SW_DROP : Nat := 0x70014
def PLM_MODE_REQ : Nat := 0x80000
def PLM_STS : Nat := 0x80004
def PLM_FIXED_CFG : Nat := 0x80008
def PLM_FIXED_CNT : Nat := 0x8000C
def PLM_FIXED_OVR : Nat := 0x80010
def PLM_FORCES : Nat := 0x80014
def PLM_IRQ_STS : Nat := 0x80020
def PLM_IRQ_EN : Nat := 0x80024
def PLM_TASKn_BIND (n : Nat) : Nat := 0x80100 + n * 0x40
def PLM_TASKn_PERIOD (n : Nat) : Nat := 0x80104 + n * 0x40
def PLM_TASKn_PHASE (n : Nat) : Nat := 0x80108 + n * 0x40
def PLM_TASKn_CODE (n : Nat) : Nat := 0x8010C + n * 0x40
def PLM_TASKn_LEN (n : Nat) : Nat := 0x80110 + n * 0x40
def PLM_TASKn_ENTRY (n : Nat) : Nat := 0x80114 + n * 0x40
def PLM_TASKn_DEADLINE (n : Nat) : Nat := 0x80118 + n * 0x40
def PLM_TASKn_STS (n : Nat) : Nat := 0x8011C + n * 0x40
def PLM_TASKn_FPC (n : Nat) : Nat := 0x80120 + n * 0x40
def PLM_TASKn_REL (n : Nat) : Nat := 0x80124 + n * 0x40
def PLM_TASKn_OVR (n : Nat) : Nat := 0x80128 + n * 0x40
def PLM_TASKn_LAST (n : Nat) : Nat := 0x8012C + n * 0x40
def PLM_TASKn_MAX (n : Nat) : Nat := 0x80130 + n * 0x40
def PLM_TASKn_WITHHELD (n : Nat) : Nat := 0x80134 + n * 0x40
def PLM_PAIRp_STS (n p : Nat) : Nat := 0x81000 + n * 0x10000 + p * 0x10
def BLK_STS : Nat := 0xA0000
def BLK_MEM_USED : Nat := 0xA0004
def BLK_SEL : Nat := 0xA0010
def BLK_DIR_Wi (i : Nat) : Nat := 0xA0014 + i * 0x4
def BLK_ISTS : Nat := 0xA0040
def BLK_ICALLS : Nat := 0xA0044
def BLK_ILATE : Nat := 0xA0048
def BLK_IMAX : Nat := 0xA004C
def BLK_WIN_OFS : Nat := 0xA0050
def BLK_WIN_DATA : Nat := 0xA0054
def BLK_PAIRp_STS (p : Nat) : Nat := 0xA0080 + p * 0x10
def BLK_PAIRp_CALLS (p : Nat) : Nat := 0xA0084 + p * 0x10
def BLK_PAIRp_MAXQ (p : Nat) : Nat := 0xA0088 + p * 0x10
def BLK_LATE : Nat := 0xA0100
def BLK_PARAM : Nat := 0xA0104
def BLK_SKIP : Nat := 0xA0108
def BLK_APP_REF : Nat := 0xA010C
def BLK_IRQ_STS : Nat := 0xA0120
def BLK_IRQ_EN : Nat := 0xA0124
def CMP_STS : Nat := 0xB0000
def CMP_LAST_T_LO : Nat := 0xB0004
def CMP_LAST_T_HI : Nat := 0xB0008
def CMP_RETIRED : Nat := 0xB000C
def CMP_SPLIT_MAP : Nat := 0xB0010
def CMP_UNCH_W : Nat := 0xB0014
def CMP_IRQ_STS : Nat := 0xB0020
def CMP_IRQ_EN : Nat := 0xB0024
def CMP_Px_STS (x : Nat) : Nat := 0xB0100 + x * 0x20
def CMP_Px_MIS (x : Nat) : Nat := 0xB0104 + x * 0x20
def CMP_Px_TESTS (x : Nat) : Nat := 0xB0108 + x * 0x20
def CMP_Px_AGREE (x : Nat) : Nat := 0xB010C + x * 0x20
def PAIR_ROLE : Nat := 0xC0000
def PAIR_EPOCH : Nat := 0xC0004
def PAIR_STS : Nat := 0xC0008
def PAIR_CTL : Nat := 0xC000C
def PAIR_GEN_CFG : Nat := 0xC0010
def PAIR_GEN_SENT : Nat := 0xC0014
def PAIR_GEN_DONE : Nat := 0xC0018
def PAIR_UNDO : Nat := 0xC001C
def PAIR_TXQ : Nat := 0xC0020
def PAIR_SILENCE : Nat := 0xC0024
def PAIR_LANES : Nat := 0xC0028
def PAIR_LANE0_CRC : Nat := 0xC002C
def PAIR_LANE1_CRC : Nat := 0xC0030
def PAIR_RETX : Nat := 0xC0034
def PAIR_TAKEOVERS : Nat := 0xC0038
def PAIR_LOSS_T_LO : Nat := 0xC0040
def PAIR_LOSS_T_HI : Nat := 0xC0044
def PAIR_RESUME_US : Nat := 0xC0048
def PAIR_H_LO : Nat := 0xC0050
def PAIR_H_HI : Nat := 0xC0054
def PAIR_MIRROR : Nat := 0xC0058
def PAIR_MAP_DROP : Nat := 0xC005C
def PAIR_IRQ_STS : Nat := 0xC0060
def PAIR_IRQ_EN : Nat := 0xC0064
def CH_CFG (n : Nat) : Nat := 0xD0000 + n * 0x80
def CH_BIT (n : Nat) : Nat := 0xD0004 + n * 0x80
def CH_WORDS (n : Nat) : Nat := 0xD0008 + n * 0x80
def CH_SUBST (n : Nat) : Nat := 0xD000C + n * 0x80
def CH_STSW (n : Nat) : Nat := 0xD0010 + n * 0x80
def CH_STS (n : Nat) : Nat := 0xD0020 + n * 0x80
def CH_EVT (n : Nat) : Nat := 0xD0024 + n * 0x80
def CH_VALUE (n : Nat) : Nat := 0xD0028 + n * 0x80
def CH_CMD (n : Nat) : Nat := 0xD002C + n * 0x80
def CH_TEMP (n : Nat) : Nat := 0xD0030 + n * 0x80
def CH_TRIPS (n : Nat) : Nat := 0xD0034 + n * 0x80
def CH_TRIM_OFS (n : Nat) : Nat := 0xD0038 + n * 0x80
def CH_TRIM_GAIN (n : Nat) : Nat := 0xD003C + n * 0x80
def CH_TRIM_T (n : Nat) : Nat := 0xD0040 + n * 0x80
def CH_BENCH (n : Nat) : Nat := 0xD0044 + n * 0x80
def GRP_ITEMi (g i : Nat) : Nat := 0xD1000 + g * 0x100 + i * 0x4
def GRP_CTL (g : Nat) : Nat := 0xD1010 + g * 0x100
def GRP_CHEN (g : Nat) : Nat := 0xD1014 + g * 0x100
def GRP_ACK (g : Nat) : Nat := 0xD1018 + g * 0x100
def GRP_STS (g : Nat) : Nat := 0xD101C + g * 0x100
def GRP_VFLD (g : Nat) : Nat := 0xD1020 + g * 0x100
def GRP_VFLD_MIN (g : Nat) : Nat := 0xD1024 + g * 0x100
def GRP_VFLD_MAX (g : Nat) : Nat := 0xD1028 + g * 0x100
def GRP_IDO (g : Nat) : Nat := 0xD102C + g * 0x100
def GRP_SAG_CNT (g : Nat) : Nat := 0xD1030 + g * 0x100
def GRP_CONV_DROP (g : Nat) : Nat := 0xD1034 + g * 0x100
def GRP_IRQ_STS (g : Nat) : Nat := 0xD1040 + g * 0x100
def GRP_IRQ_EN (g : Nat) : Nat := 0xD1044 + g * 0x100
def FIk_CFG (k : Nat) : Nat := 0xD1400 + k * 0x4
def FOk_CFG (k : Nat) : Nat := 0xD1420 + k * 0x4
def FIO_LEVEL : Nat := 0xD1440
def FIO_STS : Nat := 0xD1444
def FIO_FO_TRIPS : Nat := 0xD1448
def FIk_EV_NS (k : Nat) : Nat := 0xD1500 + k * 0x10
def FIk_EV_SEC (k : Nat) : Nat := 0xD1504 + k * 0x10
def FIk_EV_INFO (k : Nat) : Nat := 0xD1508 + k * 0x10
def FIk_EV_POP (k : Nat) : Nat := 0xD150C + k * 0x10
def FIk_EV_DROP (k : Nat) : Nat := 0xD1580 + k * 0x4
def CHN_STS : Nat := 0xD1800
def CHN_CCc (c : Nat) : Nat := 0xD1840 + c * 0x4
def CANn_CTL (n : Nat) : Nat := 0xE0000 + n * 0x4000
def CANn_STS (n : Nat) : Nat := 0xE0004 + n * 0x4000
def CANn_NBT (n : Nat) : Nat := 0xE0008 + n * 0x4000
def CANn_DBT (n : Nat) : Nat := 0xE000C + n * 0x4000
def CANn_ERR (n : Nat) : Nat := 0xE0010 + n * 0x4000
def CANn_ERRCNT (n : Nat) : Nat := 0xE0014 + n * 0x4000
def CANn_TSC (n : Nat) : Nat := 0xE0018 + n * 0x4000
def CANn_TSC_CAP (n : Nat) : Nat := 0xE001C + n * 0x4000
def CANn_TSC_C (n : Nat) : Nat := 0xE0020 + n * 0x4000
def CANn_TSC_PTP_NS (n : Nat) : Nat := 0xE0024 + n * 0x4000
def CANn_TSC_PTP_SEC (n : Nat) : Nat := 0xE0028 + n * 0x4000
def CANn_TSC_PTP_EXT (n : Nat) : Nat := 0xE002C + n * 0x4000
def CANn_TX_ID (n : Nat) : Nat := 0xE0040 + n * 0x4000
def CANn_TX_CTL (n : Nat) : Nat := 0xE0044 + n * 0x4000
def CANn_TX_PUSH (n : Nat) : Nat := 0xE0048 + n * 0x4000
def CANn_TX_STS (n : Nat) : Nat := 0xE004C + n * 0x4000
def CANn_CMD (n : Nat) : Nat := 0xE0050 + n * 0x4000
def CANn_TXE_INFO (n : Nat) : Nat := 0xE0054 + n * 0x4000
def CANn_TXE_TS (n : Nat) : Nat := 0xE0058 + n * 0x4000
def CANn_TXE_POP (n : Nat) : Nat := 0xE005C + n * 0x4000
def CANn_TXE_DROP (n : Nat) : Nat := 0xE0060 + n * 0x4000
def CANn_IDCOL_CNT (n : Nat) : Nat := 0xE0064 + n * 0x4000
def CANn_TX_DATAi (n i : Nat) : Nat := 0xE0080 + n * 0x4000 + i * 0x4
def CANn_RX_SEL (n : Nat) : Nat := 0xE0100 + n * 0x4000
def CANn_RX_INFO (n : Nat) : Nat := 0xE0104 + n * 0x4000
def CANn_RX_ID (n : Nat) : Nat := 0xE0108 + n * 0x4000
def CANn_RX_TS (n : Nat) : Nat := 0xE010C + n * 0x4000
def CANn_RX_DATAi (n i : Nat) : Nat := 0xE0140 + n * 0x4000 + i * 0x4
def CANn_RX_NEW0 (n : Nat) : Nat := 0xE0180 + n * 0x4000
def CANn_RX_NEW1 (n : Nat) : Nat := 0xE0184 + n * 0x4000
def CANn_RX_UNMATCHED (n : Nat) : Nat := 0xE0188 + n * 0x4000
def CANn_RX_LOSTCNT (n : Nat) : Nat := 0xE018C + n * 0x4000
def CANn_IRQ_STS (n : Nat) : Nat := 0xE01C0 + n * 0x4000
def CANn_IRQ_EN (n : Nat) : Nat := 0xE01C4 + n * 0x4000
def CANn_OBJk_ID (n k : Nat) : Nat := 0xE0400 + n * 0x4000 + k * 0x8
def CANn_OBJk_CFG (n k : Nat) : Nat := 0xE0404 + n * 0x4000 + k * 0x8
def BNK_GLB_STS : Nat := 0xF0000
def BNK_RET_MAP : Nat := 0xF0004
def BNK_IRQ_STS : Nat := 0xF0010
def BNK_IRQ_EN : Nat := 0xF0014
def BNK_LPD_STS : Nat := 0xF0020
def BNK_LPD_CE : Nat := 0xF0024
def BNK_LPD_UE : Nat := 0xF0028
def BNK_LPD_UE_ADDR_LO : Nat := 0xF002C
def BNK_LPD_UE_ADDR_HI : Nat := 0xF0030
def BNK_LCK_BADREL : Nat := 0xF0040
def BNK_OWN (n : Nat) : Nat := 0xF0100 + n * 0x20
def BNK_CTL (n : Nat) : Nat := 0xF0104 + n * 0x20
def BNK_BSTS (n : Nat) : Nat := 0xF0108 + n * 0x20
def BNK_CE (n : Nat) : Nat := 0xF010C + n * 0x20
def BNK_UE (n : Nat) : Nat := 0xF0110 + n * 0x20
def BNK_FIND (n : Nat) : Nat := 0xF0114 + n * 0x20
def BNK_UE_ADDR (n : Nat) : Nat := 0xF0118 + n * 0x20
def BNK_BGT (n : Nat) : Nat := 0xF011C + n * 0x20
def LCK_i (i : Nat) : Nat := 0xF1000 + i * 0x4
def MPU_SYNC : Nat := 0x100000
def MPU_IMP_STS : Nat := 0x100004
def MPU_IMP_ADDR_LO : Nat := 0x100008
def MPU_IMP_ADDR_HI : Nat := 0x10000C
def MPU_IMP_CNT : Nat := 0x100010
def MPU_BASE_LO (m r : Nat) : Nat := 0x100000 + m * 0x100 + r * 0x10
def MPU_BASE_HI (m r : Nat) : Nat := 0x100004 + m * 0x100 + r * 0x10
def MPU_ATTR (m r : Nat) : Nat := 0x100008 + m * 0x100 + r * 0x10
def REC_STS : Nat := 0x110000
def REC_SEQ_LO : Nat := 0x110004
def REC_SEQ_HI : Nat := 0x110008
def REC_PERIOD : Nat := 0x11000C
def REC_ELAPSED : Nat := 0x110010
def REC_TORN : Nat := 0x110014
def REC_IRQ_STS : Nat := 0x110020
def REC_IRQ_EN : Nat := 0x110024
def REC_SEL : Nat := 0x110030
def REC_WIN_STS : Nat := 0x110034
def REC_WINi (i : Nat) : Nat := 0x110080 + i * 0x4
def PWR_STS : Nat := 0x10000
def PWR_RST_CAUSE : Nat := 0x10004
def PWR_START_CFG : Nat := 0x10008
def PWR_START_STS : Nat := 0x1000C
def PWR_START_T : Nat := 0x10010
def PWR_DOM_STS : Nat := 0x10020
def PWR_DOM_REQ : Nat := 0x10024
def PWR_VLOG : Nat := 0x10030
def PWR_VLOG_MIN : Nat := 0x10034
def PWR_VLOG_MAX : Nat := 0x10038
def PWR_VBAK : Nat := 0x1003C
def PWR_RAIL0 : Nat := 0x10040
def PWR_RAIL1 : Nat := 0x10044
def PWR_TEMP : Nat := 0x10050
def PWR_TEMP_MAX : Nat := 0x10054
def PWR_HOLDUP : Nat := 0x10060
def PWR_BKP_SEC_LO : Nat := 0x10070
def PWR_BKP_SEC_HI : Nat := 0x10074
def PWR_FEED_CNT : Nat := 0x10078
def PWR_IRQ_STS : Nat := 0x10080
def PWR_IRQ_EN : Nat := 0x10084
def UPD_STS : Nat := 0x120000
def UPD_CTL : Nat := 0x120004
def UPD_SECVER : Nat := 0x120008
def UPD_FWREV_A : Nat := 0x12000C
def UPD_FWREV_B : Nat := 0x120010
def UPD_SETFMT : Nat := 0x120014
def UPD_ACT_NS : Nat := 0x120020
def UPD_ACT_SEC : Nat := 0x120024
def UPD_ACT_EXT : Nat := 0x120028
def UPD_XFER_STS : Nat := 0x120030
def UPD_XFER_ERR : Nat := 0x120034
def UPD_FLOOR_REQ : Nat := 0x120038
def UPD_IRQ_STS : Nat := 0x120040
def UPD_IRQ_EN : Nat := 0x120044

end Reg

end Sys2Proof.Machine
end

