-- ==== Sys2Proof/Config.lean ====
section
/-!
DEFINITION. What one module fixes (what its factory gave it), and the free values: the constants without a body that
stand for every value the manual leaves open. No proof can see what a free value is, so a claim that holds, holds
whatever it is. Each free value names the entry of the assumption log that declares it.
-/
namespace Sys2Proof

/-- A symbol of the application program (R71 VAL_READ, R207): a variable of 1 to 64 bits at a bit address of a space,
or a timer or counter (`bits = 0`, its number in `bit`). `name` stands for the symbol name by which an exchange maps it (R287). -/
structure Symbol where
  name  : Nat
  space : Nat
  bit   : Nat
  bits  : Nat
  /-- the task whose L space holds it -/
  task  : Nat := 0
  /-- its type: of a timer TYPE of Table 8.8 -/
  ty    : Nat := 0
deriving DecidableEq, Repr, Inhabited

/-- What the NX8 reads out of a program's bytes (R71, R287): the manual gives no layout of them (log 3). -/
structure Program where
  bytes  : Nat := 0
  crc    : Nat := 0
  tasks  : Nat := 0
  tool   : Nat := 0
  /-- code words by index in the code store; unlisted indexes hold zero -/
  code   : List (Nat × Word) := []
  /-- constants by K word address -/
  konst  : List (Nat × Word) := []
  syms   : List Symbol := []
  /-- initial values by symbol number -/
  init   : List (Nat × Nat) := []
  /-- the exchange set that a program carries: configuration words by key (R287) -/
  exset  : List (Nat × Word) := []
deriving DecidableEq, Repr, Inhabited

namespace Config

/-- Free value (log 1): how far an evaluated datum value lies from the exact value of its polynomial, in units of 2^-32
(R97 bounds it by 2): by datum, by quantity (0 position, 1 velocity, 2 acceleration) and by instant. -/
opaque evalError : Nat → Nat → Nat → Int

/-- Free value (log 2): the increment the MP servo writes at an offset measurement (R80), from the offset, the increment
in force and a counter. R77 clamps it. -/
opaque servoIncrement : Int → Nat → Nat → Nat

/-- Free value (log 8): which way a value that lies halfway between two steps is rounded where the manual rounds to the
nearest. -/
opaque tieUp : Int → Bool

/-- Free value (log 15): whether a value that is no whole number is rounded up, where the manual gives no rounding (outputs of
WIND, R238; DAT_JUMP_MAX, R99; an encoder count with an offset that is no whole count, R116). -/
opaque roundUp : Int → Bool

/-- Free value (log 16): the jerk phases that a VPROF plan has left, as jerks and durations in ns (R232 gives their limits and
their ends, not their course): from the command, its target velocity, target position, A_MAX and J_MAX, and the position,
velocity and acceleration they start from. -/
opaque vprofPlan : Nat → List Int → List Int → List (Int × Nat)

/-- Free value (log 23): a value the manual calls undefined or does not state, by what it is a value of (0 result of a
command, 1 alarm current, 2 conversion time, 3 level of an SSI clock, 4 measured level of an undriven fast output, 5 choice
of CAN arbitration, 6 CAN receive error count, 7 whether the partner holds a mapped program, 8 whether a hand-over is an
exchange, 9 result of a DWIN whose bounds do not lie within the modulo, 10 clocks to the
bit boundary at which a CAN mode takes effect, 11 words of a record whose write has
not ended, 12 clocks that the write of a record takes, 13 value read by a
narrow or misaligned register access, 14 SYS_TMR_LAST of a field without a register) and by a number that is another one at each use. -/
opaque freeValue : Nat → Nat → Nat

/-- Free value (log 21): by how many ns a timestamp of a line port is off (R84 bounds it by 2), by a number that is another one at
each use. -/
opaque stampError : Nat → Int

/-- Free value (log 64): what the MP sends to a station that reports a state (R158 says who may send, not when): 1 CONFIG, 2
STATE_CMD to CONFIGURED, 3 STATE_CMD to OPERATIONAL, anything else nothing; by the state and by a number that is another one at
each use. -/
opaque stationCommand : Nat → Nat → Nat

/-- Free value (log 26): whether the signature of an image verifies against the key in the fuses (R423): the algorithm is
FIPS 205's, and the key is the factory's. -/
opaque signatureGood : List Byte → Bool

/-- Free value (log 31): the words that the bytes of a CFG_BULK image give a category, by key: no layout of the image is
stated. -/
opaque bulkOf : Nat → List Byte → List (Nat × Word)

/-- Free value (log 43): where in LPDDR5 the program store begins (R356, R371). -/
opaque programStore : Nat

/-- Free value (log 43): where in the program store the code words of the program begin. -/
opaque codeOffset : Nat

/-- Free value (log 80): the space code and the word address that a word which the MP has written has in its closure digest: the
manual states them for the image spaces only. By what was written (0 active set, 1 shadow set, 2 register, 3 checkpoint
stream) and its key there. -/
opaque closurePlace : Nat → Nat → Nat × Nat

/-- Free value (log 3): the reading of a program's bytes. -/
opaque programOf : List Byte → Program

end Config
end Sys2Proof
end

