-- ==== Sys2Proof/Machine/Sparse.lean ====
section
/-!
DEFINITION. Sparse tables as plain data: a list of (key, value) pairs with the keys strictly rising and no entry
equal to what an unlisted key reads as. Every array, register file and memory of the model is one of these, so that
equal contents are equal lists.
-/
namespace Sys2Proof.Machine

/-- A sparse table from numbers to values. -/
abbrev Sparse (α : Type) := List (Nat × α)

/-- The value at a key; `d` where the key is not listed. -/
def sget {α : Type} (d : α) : Sparse α → Nat → α
  | [], _ => d
  | (k, v) :: rest, a => if a = k then v else sget d rest a

/-- The table without the key `a`. -/
def sdel {α : Type} : Sparse α → Nat → Sparse α
  | [], _ => []
  | (k, v) :: rest, a => if a = k then sdel rest a else (k, v) :: sdel rest a

/-- The table with the pair listed, whatever its value. -/
def sins {α : Type} : Sparse α → Nat → α → Sparse α
  | [], a, x => [(a, x)]
  | (k, v) :: rest, a, x =>
    if a < k then (a, x) :: (k, v) :: rest
    else if a = k then (a, x) :: rest
    else (k, v) :: sins rest a x

/-- A write that keeps the canonical form: writing what an unlisted key reads as removes the entry. -/
def sput {α : Type} [DecidableEq α] (d : α) (m : Sparse α) (a : Nat) (x : α) : Sparse α :=
  if x = d then sdel m a else sins m a x

/-- The keys are strictly rising and all at least `lo`. -/
def risingFrom {α : Type} : Nat → Sparse α → Bool
  | _, [] => true
  | lo, (k, _) :: rest => decide (lo ≤ k) && risingFrom (k + 1) rest

/-- The canonical form of a sparse table whose unlisted key `k` reads as `d k`. -/
def swf {α : Type} [DecidableEq α] (d : Nat → α) (m : Sparse α) : Bool :=
  risingFrom 0 m && m.all (fun p => decide (p.2 ≠ d p.1))

/-- The change of one entry by a function. -/
def smod {α : Type} [DecidableEq α] (d : α) (m : Sparse α) (a : Nat) (f : α → α) : Sparse α :=
  sput d m a (f (sget d m a))

end Sys2Proof.Machine
end

