-- ==== Sys2Proof/Machine/State.lean ====
section
/-!
DEFINITION. The state of the NX8 as plain data: what every chapter of the manual gives the module, one structure per
unit, and the queue of commands that wait. Registers stand in `State.regs` by their internal address (the map and the
reset values are in Machine/Regs.lean); what a register shows of other state is computed when it is read.
-/
namespace Sys2Proof.Machine

/-! ### Network time (04 R73-R92) -/

/-- An entry of a transmit timestamp queue (R85): the frame's tag and the time in whole nanoseconds. -/
structure TsEntry where
  tag : Nat
  ns  : Nat
deriving DecidableEq, Repr, Inhabited

/-- What an Announce message says of a grandmaster (R81, best master selection). -/
structure Announced where
  prio1    : Nat
  cls      : Nat
  accuracy : Nat
  variance : Nat
  prio2    : Nat
  ident    : Nat
  steps    : Nat
  /-- the port that sent it: clock identity and port number -/
  sender   : Nat := 0
deriving DecidableEq, Repr, Inhabited

/-- A PTP message on a line port (R81, R83): messageType of IEEE 1588, sequence number, domain, the two-step flag, the time it
carries (origin, receipt or precise origin), the correction field in ns, the requester that a response names, and what an
Announce says. -/
structure PtpMsg where
  kind      : Nat
  seq       : Nat
  domain    : Nat
  twoStep   : Bool := false
  t         : Int := 0
  corr      : Int := 0
  requester : Nat := 0
  ann       : Option Announced := none
deriving DecidableEq, Repr, Inhabited

/-- The PTP data of one line port (R81-R83). Instants are PTP times in nanoseconds. -/
structure PtpPort where
  /-- the best Announce heard on the port, none if none -/
  best     : Option Announced := none
  /-- sequence number and ingress time of a two-step Sync that waits for its Follow_Up -/
  syncWait : Option (Nat × Nat) := none
  /-- origin and ingress times of the last complete Sync -/
  lastSync : Option (Int × Int) := none
  /-- sequence number and egress time of the port's own delay request -/
  reqSent  : Option (Nat × Nat) := none
  /-- the peer's receive time and the own ingress time of a Pdelay_Resp that waits for its Follow_Up -/
  pdelay   : Option (Nat × Int × Int) := none
  /-- measured path delay of the port -/
  delay    : Int := 0
  /-- message intervals in force when a Signaling message has set them: Sync, Announce, delay -/
  logSync  : Option Int := none
  logAnn   : Option Int := none
  logDelay : Option Int := none
  /-- since when the port has waited for an Announce, in nanoseconds -/
  since    : Nat := 0
  /-- senders whose Announce messages the port has heard, with the PTP time in nanoseconds of the last one -/
  heard    : List (Nat × Nat) := []
  /-- next sequence number of the messages the port sends -/
  seq      : Nat := 0
deriving DecidableEq, Repr, Inhabited

/-- The clock servo of the MP (R80). -/
structure Servo where
  /-- an offset measurement the servo has not used yet -/
  meas      : Option Int := none
  /-- the first lock since reset is done -/
  locked    : Bool := false
  /-- PTP time of the last accepted Sync or partner timing exchange, none before the first -/
  lastSync  : Option Nat := none
  /-- the Sync interval of that source in nanoseconds -/
  every     : Nat := 0
deriving DecidableEq, Repr, Inhabited

/-! ### Datums (05 R94-R119) -/

/-- The states of a datum (DAT_STS.STATE). -/
inductive DatState where
  | undefined | stopped | running | stopping
deriving DecidableEq, Repr, Inhabited

/-- What the encoder of a datum holds (R105-R107). -/
structure Encoder where
  count    : Int := 0
  /-- levels of A and B at the last transition, or when the definition became active -/
  a : Bool := false
  b : Bool := false
  /-- PTP time in nanoseconds of the last count change; 0 before any (log 11) -/
  te       : Nat := 0
  /-- counts and times of the changes since the last fit instant, newest first -/
  steps    : List (Int × Nat) := []
  /-- the first Z edge has been seen, with the count it set -/
  homed    : Option Int := none
  /-- the counts per revolution that the first two Z edges at different counts establish (log 11) -/
  perRev   : Option Nat := none
  /-- PTP time in nanoseconds of the last Z edge -/
  zAt      : Option Nat := none
  /-- raw value of the last SSI frame -/
  raw      : Option Nat := none
  /-- count and time of the last change at each of the last fit instants, newest first -/
  hist     : List (Int × Nat) := []
  /-- fit instants passed since the definition became active, up to 9 -/
  fits     : Nat := 0
  /-- the count offset set at the first fit after a takeover, in 2^-32 units (R116) -/
  offset   : Int := 0
  /-- the next fit is the first one after a takeover -/
  realign  : Bool := false
  /-- the last fit instant, in nanoseconds -/
  lastFit  : Option Nat := none
deriving DecidableEq, Repr, Inhabited

/-- One datum. -/
structure Datum where
  st      : DatState := .undefined
  queue   : List Seg := []
  /-- the segment that ended last, whose stop ramp runs while STOPPING -/
  ended   : Option Seg := none
  /-- the position held while STOPPED, and its WRAPS -/
  heldP   : Nat := 0
  heldW   : Int := 0
  /-- SEQ last assigned, or last queued for an UPSTREAM datum -/
  seq     : Nat := 0
  /-- a stop ramp runs because no abutting successor was queued -/
  starved : Bool := false
  upLost  : Bool := false
  stopCmd : Bool := false
  /-- DAT_STOPs that the VPROF which feeds the datum has been told of (R230); its STATE holds how many it has left behind -/
  halts   : Nat := 0
  /-- the DAT_STOP that waits for the end of the ramp -/
  stopSlot : Option Nat := none
  /-- the truncation point of a DAT_STOP: the SEQ of the last segment kept (R115, R148) -/
  trunc   : Option Nat := none
  hzShort : Bool := false
  /-- FIT_VALID (R107) -/
  fitValid : Bool := false
  /-- PHASE of a GEARED datum and whether it has engaged (R111) -/
  phase   : Int := 0
  engaged : Bool := false
  /-- a change of NUM or DEN waits for the next source segment (R111): the ratio in force until then -/
  ratio   : Int × Nat := (0, 1)
  /-- cycles of its port since the last accepted UPSTREAM segment (R109) -/
  upAge   : Nat := 0
  enc     : Encoder := {}
deriving DecidableEq, Repr, Inhabited

/-! ### Stakes (06 R120-R137) -/

/-- The states of a stake entry (STK W6.STATE). -/
inductive StakeState where
  | disarmed | armed | prov
deriving DecidableEq, Repr, Inhabited

/-- The live part of a stake entry (R120). Positions are unwrapped, in 2^-32 units. -/
structure Stake where
  st     : StakeState := .disarmed
  target : Nat := 0
  count  : Nat := 0
  /-- hyst_block and last_xt (R127) -/
  block  : Bool := false
  lastXt : Int := 0
  /-- the reference u_prev, with the lookahead instant it was taken at in 2^-32 ns; none while ref_valid is false -/
  ref    : Option (Int × Nat) := none
  /-- the engine whose running release changed the entry (R132) -/
  prov   : Option Nat := none
deriving DecidableEq, Repr, Inhabited

/-- A decided action of a stake (R124, R126): the entry's index, its fire and crossing instants in nanoseconds, its kind
and operand, and the engine whose release holds it (R132). -/
structure Action where
  index  : Nat
  tf     : Int
  tcross : Int
  kind   : Nat
  operand : Word
  held   : Option Nat := none
  /-- SCLK count of the decision -/
  dec    : Nat := 0
  /-- taken from the actions held for a release, so that its time counts as passed (R132) -/
  freed  : Bool := false
deriving DecidableEq, Repr, Inhabited

/-- A station event (R130): station, CODE and act time. -/
structure StnEvent where
  port : Nat
  stn  : Nat
  code : Nat
  act  : Int
deriving DecidableEq, Repr, Inhabited

/-- An edge queued on a fast output (R129). Level 0 low, 1 high, 2 toggle. -/
structure FoEdge where
  tf    : Int
  level : Nat
deriving DecidableEq, Repr, Inhabited

/-- A capture slot (R131), and the latch of one (with the number of the capture it was taken from). -/
structure Capture where
  ns    : Nat := 0
  sec   : Nat := 0
  index : Nat := 0
  valid : Bool := false
  ovr   : Bool := false
  /-- NS has been read and INFO has not -/
  latched : Bool := false
  /-- the model's own number of the capture, by which a read finds whether a newer one has arrived -/
  stamp : Nat := 0
deriving DecidableEq, Repr, Inhabited

/-- What the stake unit holds beside its entries. -/
structure StakeUnit where
  entries : Sparse Stake := []
  /-- decided actions that wait for their dispatch, in order of decision -/
  actions : List Action := []
  /-- the decisions of the clocks whose actions still wait: clock, fire instant and index (R129) -/
  decided : List (Nat × Int × Nat) := []
  /-- decided actions held for a release's closure (R132) -/
  heldActs : List Action := []
  /-- edges pending on each fast output -/
  edges   : Sparse (List FoEdge) := []
  /-- events queued for each line port (64 each) -/
  events  : Sparse (List StnEvent) := []
  caps    : Sparse Capture := []
  /-- latches of the capture slots, keyed by slot * 256 + master -/
  capLat  : Sparse (Option Capture) := []
  /-- EVENT actions a standby keeps (R136), and the log of events sent -/
  kept    : List StnEvent := []
  sentLog : List StnEvent := []
  /-- on a standby or while taking over: fire instants of derived actions not dispatched (R136) -/
  undispatched : List Action := []
deriving DecidableEq, Repr, Inhabited

/-! ### Traverse (07 R138-R172) -/

/-- A segment due on a port (R147): its stream, how many cycles have sent it. -/
structure DueSeg where
  stream : Nat
  seg    : Seg
  sent   : Nat := 0
deriving DecidableEq, Repr, Inhabited

/-- An event due on a port (R154). -/
structure DueEvt where
  evt  : EvtEntry
  sent : Bool := false
  /-- counted as unacknowledged at its act time -/
  nak  : Bool := false
deriving DecidableEq, Repr, Inhabited

/-- A truncation a port tells the stations of (R148): cycles that have told it. -/
structure DueTrunc where
  stream : Nat
  seq    : Nat
  told   : Nat := 0
  /-- a frame of the running cycle has told it -/
  said   : Bool := false
deriving DecidableEq, Repr, Inhabited

/-- What a station of a port has shown (R147, R148, R152, R164). MISS_RUN, LOST and STATE stand in STN_STS. -/
structure Station where
  /-- a frame of it belongs to the running cycle, and the SCLK count of the last frame -/
  heard    : Bool := false
  heardAt  : Option Nat := none
  held     : Sparse (Option Nat) := []
  truncSeen : List Nat := []
deriving DecidableEq, Repr, Inhabited

/-- An upstream pair's adopted epoch and slot (R166). -/
structure UpEpoch where
  epoch : Nat := 0
  slot  : Nat := 0
deriving DecidableEq, Repr, Inhabited

/-- What this module is as a station of an upstream pair (R168): subscribed datums and axis streams, offsets, HOLD_CYC of its
item, and the state of Table 7.7 from LISTEN on. -/
structure StationRole where
  dsub    : Nat := 0
  axFirst : Nat := 0
  axCount : Nat := 0
  outOfs  : Nat := 0
  inOfs   : Nat := 0
  holdCyc : Nat := 2
  state   : Nat := 1
  /-- cycles without a valid frame of the pair -/
  silent  : Nat := 0
  /-- per subscribed stream that no datum follows: the highest SEQ up to which its segments have come without a gap -/
  held    : Sparse (Option Nat) := []
  /-- streams whose truncation by the upstream pair has been seen -/
  truncs  : List Nat := []
deriving DecidableEq, Repr, Inhabited

/-- What a frame on a line port carries after its EtherType. -/
inductive FrameBody where
  | trv (f : Frame)
  | ptp (m : PtpMsg)
deriving DecidableEq, Repr, Inhabited

/-- A frame as it leaves a line port: destination and source MAC address, EtherType, the 802.1Q tag as VID and PCP, and what it
carries (R139, R140, R142). -/
structure WireFrame where
  dmac  : Nat
  smac  : Nat
  etype : Nat
  tag   : Option (Nat × Nat) := none
  body  : FrameBody
deriving DecidableEq, Repr, Inhabited

/-- A frame on the wire, or held by a preemption (R140, R161): its queue, the bytes of the wire it still takes, the PTP time in ns
at which the present piece began, and after how many bytes the closing gate holds it. -/
structure Sending where
  q    : Nat
  w    : WireFrame
  left : Nat
  at_  : Nat
  stop : Option Nat := none
deriving DecidableEq, Repr, Inhabited

/-- One line port. -/
structure Port where
  /-- frames waiting in transmit queues 0-7, oldest first -/
  txq      : Sparse (List WireFrame) := []
  /-- the frame on the wire, and a preempted one that waits for its continuation -/
  tx       : Option Sending := none
  held     : Option Sending := none
  /-- running 16-bit frame count (R143 TAG) -/
  tagCount : Nat := 0
  /-- PTP time in nanoseconds of the last cycle start -/
  cycT0    : Option Nat := none
  dueSegs  : List DueSeg := []
  dueEvts  : List DueEvt := []
  truncs   : List DueTrunc := []
  /-- last EVT_ID given (R153) -/
  evtId    : Nat := 0
  /-- last SEQ handed over per stream (R145 LAST_SEQ) -/
  lastSeq  : Sparse Nat := []
  stns     : Sparse Station := []
  /-- adopted epochs of upstream pairs, by their address -/
  upEpochs : Sparse UpEpoch := []
  asStn    : StationRole := {}
  /-- the schedule in force until the first cycle start after a swap, with the SCLK count of the swap (R163) -/
  oldItem  : Option (Nat × Sparse Word) := none
  /-- raw timestamp of the last frame received, as its receive descriptor holds it (R84, R144) -/
  rxTs     : Option Nat := none
  /-- PTP time at which a running discovery ends, and the answers collected: address, MAC address, product code, STATE and receive
  timestamp (R144, R158) -/
  discEnd  : Option Nat := none
  answers  : List (Nat × Nat × Nat × Nat × Nat) := []
deriving DecidableEq, Repr, Inhabited

/-! ### Plumb engines, tasks and the image store (08 R173-R191, 09 R192-R214) -/

/-- How a LOGIC entry of the branch stack joins (R173, Table 8.4). -/
inductive JoinOp where
  | and | or | xor | none
deriving DecidableEq, Repr, Inhabited

/-- An entry of the branch stack (R173). -/
inductive StackEntry where
  | logic (op : JoinOp) (value : Bool)
  | ret   (index : Nat)
deriving DecidableEq, Repr, Inhabited

/-- Where a release stands (R200): it executes, waits in a CALLB, or has reached END. -/
inductive Phase where
  | run
  | call (inst : Nat)
  | done
deriving DecidableEq, Repr, Inhabited

/-- A force (R207). -/
structure Force where
  sym   : Nat
  value : Nat
deriving DecidableEq, Repr, Inhabited

/-- Words of a block instance as a call left them (R222): the directory item the call ran under, the first of the words, counted
from the header, and the words. -/
structure InstHold where
  inst  : Nat
  item  : List Word
  first : Nat
  words : List Word
deriving DecidableEq, Repr, Inhabited

/-- A segment that a block has produced (R228), with the item it ran under and the STATE words that stand once the segment is
accepted. -/
structure BlkSeg where
  inst : Nat
  item : List Word
  seg  : Seg
  st   : List Word
deriving DecidableEq, Repr, Inhabited

/-- A running release of one engine: the engine registers of Table 8.1, the snapshot, and the write buffer. -/
structure Release where
  task    : Nat
  /-- SCLK count and PTP time in 2^-32 ns of the start clock -/
  start   : Nat
  startT  : Nat
  /-- the binding item W0-W23 in force for the release (R212) -/
  binding : List Word
  pc      : Nat
  acc     : Bool := false
  wa      : DWord := 0
  ov      : Bool := false
  stack   : List StackEntry := []
  /-- N, the clocks the leading tile has spent (R200) -/
  clocks  : Nat := 0
  phase   : Phase := .run
  /-- the image store and force overlay, and the datum window, as they stood in the start clock -/
  snap    : Sparse Word
  datw    : List Word
  /-- the force overlay of the start clock -/
  forces  : List Force := []
  /-- write buffer: value and mask per word (R197) -/
  wbuf    : Sparse (Option (Word × Word)) := []
  /-- live states of the stake entries the release changed, as they were before (R132) -/
  saved   : List (Nat × Stake) := []
  /-- words of the block instances the release called (R222) -/
  insts   : List InstHold := []
  /-- segments its block calls produced, appended at its commit (R228) -/
  segs    : List BlkSeg := []
  /-- generation of its snapshot clock (R277) -/
  gen     : Nat := 0
deriving DecidableEq, Repr, Inhabited

/-- One Plumb engine: its running release, and the SCLK count of its last end decision. -/
structure Engine where
  rel    : Option Release := none
  lastEnd : Option Nat := none
deriving DecidableEq, Repr, Inhabited

/-- Modes of the task unit (PLM_STS.MODE). -/
inductive PlmMode where
  | idle | fixed | task
deriving DecidableEq, Repr, Inhabited

/-- A constant write that pairs have still to apply (R211): where, what, by whom, and whose command it answers. -/
structure ConstWrite where
  index : Nat
  value : List Word
  todo  : List Nat
  slot  : Nat
deriving DecidableEq, Repr, Inhabited

/-- The task unit. -/
structure Plm where
  mode    : PlmMode := .idle
  /-- the mode a request waits to reach -/
  request : Option PlmMode := none
  forces  : List Force := []
  consts  : List ConstWrite := []
  /-- in a running fixed cycle: the next task to start; none between cycles -/
  cycle   : Option Nat := none
  /-- in a running fixed cycle: the SCLK count of an end decision, from the clock after which the turn passes on (R203) -/
  turn    : Option Nat := none
  /-- SCLK count of the last end decision of task mode, after which fixed mode begins (R204) -/
  leave   : Option Nat := none
  /-- SCLK count of the end of a fixed cycle that made the mode TASK: releases are accepted from the next clock (R204) -/
  taskAt  : Option Nat := none
  /-- the task of the running fixed cycle that runs now -/
  cycTask : Option Nat := none
  /-- PTP time in nanoseconds of the start of the running or last fixed cycle -/
  cycT0   : Nat := 0
  /-- the overrun of the running cycle has been counted -/
  late    : Bool := false
  /-- PTP time in nanoseconds of the end of the last cycle, or of the entry into fixed mode -/
  since   : Nat := 0
  /-- PTP time in nanoseconds from which due instants of self-runs count: the mode left IDLE, or the module began to run (R226) -/
  selfFrom : Nat := 0
  /-- fixed cycles that have ended since start-up entered fixed mode, and whether the MP has made its request (R418) -/
  cycles  : Nat := 0
  autoDone : Bool := false
  /-- the period in force for the running cycle, in nanoseconds -/
  period  : Nat := 10000000
deriving DecidableEq, Repr, Inhabited

/-! ### Function blocks (10 R216-R241) -/

/-- A call or self-run queued at a block pair (R223): the engine that waits (none for a self-run), the IN words it
passed, its time S in whole microseconds of PTP time, the datum window it sees, and its arrival in 2^-32 ns. -/
structure BlkWork where
  inst    : Nat
  caller  : Option Nat := none
  ins     : List Word := []
  s       : Nat
  datw    : List Word := []
  arrival : Nat
  /-- SCLK count of the arrival -/
  clk     : Nat := 0
  /-- the directory item the work arrived under (R220) -/
  item    : List Word
  /-- for an exchange: the OUT copy and ENO as they stood at its arrival (R227) -/
  held    : Option (List Word × Bool) := none
deriving DecidableEq, Repr, Inhabited

/-- What a call or run computed. -/
structure BlkResult where
  eno    : Bool
  param  : Option Nat := none
  outs   : List Word := []
  /-- header, IN copy, OUT copy and STATE as the work leaves them before any segment is accepted -/
  words  : List Word := []
  segs   : List BlkSeg := []
  /-- the instance words the work changes, for its closure digest (R248): word of the instance and value -/
  changed : List (Nat × Word) := []
  /-- clocks of Table 10.3 -/
  clocks : Nat := 0
deriving DecidableEq, Repr, Inhabited

/-- One block pair: its queue, and the work it serves with its result and the SCLK count it started at. -/
structure BlkPair where
  queue   : List BlkWork := []
  serving : Option (BlkWork × BlkResult × Nat) := none
deriving DecidableEq, Repr, Inhabited

/-- What BLK shows of one instance beside its words. -/
structure InstStat where
  calls   : Nat := 0
  late    : Nat := 0
  maxClk  : Nat := 0
  /-- PTP time in nanoseconds of the last due instant of a SELF instance handled -/
  lastDue : Nat := 0
deriving DecidableEq, Repr, Inhabited

/-- The block cluster. -/
structure Blk where
  pairs   : Sparse BlkPair := []
  mem     : Sparse Word := []
  insts   : Sparse InstStat := []
  /-- by the address of the header: a call or run of the instance has completed since its words were zero-filled (R220) -/
  ran     : Sparse Bool := []
  /-- axis-stream queues of up to 32 segments (R217) -/
  streams : Sparse (List Seg) := []
  /-- SEQ last assigned to each axis stream -/
  axisSeq : Sparse Nat := []
  /-- the segment of each axis stream that ended last -/
  axisLast : Sparse (Option Seg) := []
  /-- the truncation point of each axis stream: the SEQ of the last segment kept (R146) -/
  axisTrunc : Sparse (Option Nat) := []
  /-- the 8 segments of each datum that ended most recently, newest first (R236) -/
  retained : Sparse (List Seg) := []
deriving DecidableEq, Repr, Inhabited

/-! ### Checked pairs (11 R242-R261) -/

/-- One checked pair beside its CMP registers. Instants are PTP times in nanoseconds. -/
structure Checked where
  /-- PTP time of the last mismatch, none if none is recorded (R252) -/
  lastMis  : Option Nat := none
  /-- SCLK count at which a running resynchronisation ends -/
  resync   : Option Nat := none
  /-- per asynchronous input: SCLK count of the last disagreement and how many consecutive clocks disagreed (R247) -/
  disagree : Sparse (Nat × Nat) := []
  /-- a requested split or join: the mailbox slot that waits, and the PTP time of the request -/
  change   : Option (Bool × Nat × Nat) := none
  /-- the CMP_Px_STS.STATE a running resynchronisation returns to -/
  prior    : Nat := 0
  /-- PTP time of the due instant of the last checker test (R251) -/
  tested   : Option Nat := none
  /-- a permanent event withdrew the module (R253); a retirement of this pair found no spare (R254) -/
  withdrawn : Bool := false
  noSpare  : Bool := false
deriving DecidableEq, Repr, Inhabited


/-! ### The redundant pair (12 R262-R296) -/

/-- A checkpoint generation that is open: its records in the order sent or received, the releases that run in it and
have ended in it, what a standby overwrote, newest first, and the GEN_CLOSE received for it (R277, R278). -/
structure GenLog where
  gen     : Nat
  recs    : List DeltaRec := []
  running : Nat := 0
  ended   : Nat := 0
  undo    : List DeltaRec := []
  /-- the boundary that ends it has passed -/
  past    : Bool := false
deriving DecidableEq, Repr, Inhabited

/-- The trigger of CFG_SWAP, PAIR_EXCHANGE and PAIR_HANDOVER (R68): a task's commit, a datum crossing a position in a
direction (with the position last seen), or the end of the fixed cycle. -/
inductive Trigger where
  | task (n : Nat)
  | datum (d pos : Nat) (down : Bool) (last : Int) (lastT : Nat)
  | fixedEnd
deriving DecidableEq, Repr, Inhabited

/-- Why a hand-over is made: the pending command slot that waits (if any), and whether it is an exchange, a withdrawal,
an activation of firmware, or a retirement without spare (Table 12.2). -/
inductive HandKind where
  | exchange | handover | withdraw | activation | noSpare
deriving DecidableEq, Repr, Inhabited

/-- A hand-over that is armed. -/
structure ArmedHand where
  kind : HandKind
  trig : Trigger
  slot : Nat
deriving DecidableEq, Repr, Inhabited

/-- A hand-over in progress on the module that gives up the line: the role it returns to, the trigger's PTP time in
nanoseconds, and the raised epoch and H once SWAP is sent. -/
structure HandOver where
  kind   : HandKind
  former : Nat
  at_    : Nat
  slot   : Option Nat := none
  swap   : Option (Nat × Nat) := none
deriving DecidableEq, Repr, Inhabited

/-- A program loaded but not run: declared size and CRC, bytes received so far, and after PRG_LOAD_END the program. -/
structure Loaded where
  size  : Nat
  crc   : Nat
  bytes : Sparse Byte := []
  got   : Nat := 0
  prog  : Option Program := none
deriving DecidableEq, Repr, Inhabited

/-- The pair unit. Instants of hearing are SCLK counts. -/
structure PairUnit where
  lastLink  : Option Nat := none
  lastAny   : Option Nat := none
  /-- since when the partner has been heard, and heard in STANDBY only -/
  heard     : Option Nat := none
  standby   : Option Nat := none
  /-- the epoch last heard from the partner -/
  heardEpoch : Option Nat := none
  /-- the copy of the epoch in MRAM (R266) -/
  epochMram : Nat := 0
  /-- sequenced frames not acknowledged, oldest first, with the SCLK count they were last sent at -/
  window    : List (LinkFrame × Nat) := []
  nextSeq   : Nat := 1
  rxSeq     : Nat := 0
  /-- arrival instants of CRC errors of the last second per lane, in nanoseconds -/
  crcTimes  : Sparse (List Nat) := []
  /-- the stream of deltas runs: a standby has joined and the window has not overflowed -/
  stream    : Bool := false
  /-- current generation (on a standby the last complete one, 0 while none is), and the open ones, oldest first -/
  gen       : Nat := 1
  gens      : List GenLog := []
  /-- input words changed since the last delta: space and word -/
  dirty     : List (Nat × Nat) := []
  /-- the multiple of PERIOD at which the last boundary of task mode fell -/
  genAt     : Nat := 0
  /-- on a standby: the copy has ended; and a generation has completed since -/
  copied    : Bool := false
  joined    : Bool := false
  /-- on a standby: the first frame of the copy has arrived -/
  joining   : Bool := false
  /-- on a standby: the mode held in the checkpoint (0 IDLE, 1 FIXED, 2 TASK), and program bytes received -/
  ckMode    : Nat := 0
  progIn    : Sparse Byte := []
  /-- the silence of the partner has been noticed -/
  silent    : Bool := false
  arm       : Option ArmedHand := none
  hand      : Option HandOver := none
  /-- the SWAP a standby received: epoch, H, task mask, EVT_ID count -/
  swapIn    : Option (Nat × Nat × Nat × Nat) := none
  /-- on a standby: the last instant in ns at which a comparator fired a release of a task -/
  firedAt   : Sparse (Option Nat) := []
  /-- PTP time of L while TAKING_OVER after a loss -/
  lossAt    : Option Nat := none
  loaded    : Option Loaded := none
  /-- PTP time of H of the hand-over whose outputs have not switched yet, and whether this module is the new one -/
  outputsAt : Option (Nat × Bool) := none
  /-- output values of both groups read at H (R323) -/
  outsAtH   : List (Nat × Word) := []
  /-- SCLK counts of the last KEEPALIVE and TIME sent -/
  kaSent    : Option Nat := none
  timeSent  : Option Nat := none
deriving DecidableEq, Repr, Inhabited


/-! ### Channels (13 R297-R336) -/

/-- A channel group beside its registers. Instants are PTP times in nanoseconds. -/
structure Group where
  /-- triggered conversions that run or whose results are not written yet, newest first: the end of the conversion and when
  its results are written, in PTP ns (R304) -/
  conv    : List (Nat × Nat) := []
  /-- the last I/O instant taken -/
  lastIo  : Nat := 0
  /-- output values read at I/O instants and not applied yet, oldest first: the instant, channel and word (R303) -/
  outs    : List (Nat × List (Nat × Word)) := []
  /-- input values taken at I/O instants and not written yet, oldest first: the instant, space, bit or word address, value -/
  ins     : List (Nat × List (Nat × Nat × Word)) := []
  /-- the words of the channel modes category before a swap, in force for what waits for the next I/O instant (R301) -/
  old     : Option (Sparse Word) := none
  /-- SCLK count of the last reported sample of VFLDn at or below 18.0 V, and of the last one from 16.0 V up (R318, R319) -/
  lowAt   : Option Nat := none
  okAt    : Option Nat := none
deriving DecidableEq, Repr, Inhabited

/-- A channel beside its registers (R301, R311, R315, R319). Instants are SCLK counts. -/
structure Chan where
  /-- the filtered level of DI and DI_WB -/
  level    : Bool := false
  reconf   : Bool := false
  /-- the new mode has been taken up in this clock; it acts from the first I/O instant after it (R301) -/
  fresh    : Option Nat := none
  /-- PTP ns at which a benchmark took the place of a conversion (R327) -/
  bench    : Option Nat := none
  retired  : Bool := false
  /-- CH_REVIVE has been given: ACTIVE at the next I/O instant (R317) -/
  reviving : Bool := false
  /-- while TRIPPED: when the stage is retried, and whether the trip was for temperature -/
  retry    : Option Nat := none
  hot      : Bool := false
  /-- the trips of the last 60 s, newest first, and the trips of the running sequence -/
  trips    : List Nat := []
  seq      : Nat := 0
  test     : Bool := false
  /-- the stage has taken up its command; the command in use; the last regulated current -/
  on       : Bool := false
  cmd      : Word := 0
  held     : Word := 0
  /-- last change of the command or of the channel's state -/
  changed  : Nat := 0
  /-- released by silence of the barrier link (R322) -/
  silent   : Bool := false
deriving DecidableEq, Repr, Inhabited

/-- A channel controller beside CHN_CCc: the build complete in its inactive slot (R332). -/
structure Ctl where
  other : Option Nat := none
deriving DecidableEq, Repr, Inhabited

/-- A fast input (R329, R330): the filtered level, the last 16 edges with the newest first (PTP ns, rising), and the host
queue of edges. -/
structure FastIn where
  level : Bool := false
  hist  : List (Nat × Bool) := []
  queue : List (Nat × Bool) := []
  /-- times of the newest rising and falling edges that have left the history -/
  goneUp : Nat := 0
  goneDown : Nat := 0
deriving DecidableEq, Repr, Inhabited

/-- A fast output (R331): the level its stake edges have set, and the SCLK count of a fault that stands. -/
structure FastOut where
  level : Bool := false
  fault : Option Nat := none
deriving DecidableEq, Repr, Inhabited


/-! ### CAN FD controllers (14 R337-R355) -/

/-- A frame that waits in the FIFO or the urgent slot: CANn_TX_ID, CANn_TX_CTL and the data words as staged, and its
consecutive collisions (R343, R347). -/
structure CanEntry where
  id   : Word
  ctl  : Word
  data : List Word
  hits : Nat := 0
deriving DecidableEq, Repr, Inhabited

/-- The frame a receive object keeps, as the window shows it, with NEW and LOST (R349, R350). -/
structure CanObj where
  info  : Word := 0
  id    : Word := 0
  ts    : Word := 0
  data  : List Word := []
  fresh : Bool := false
  lost  : Bool := false
deriving DecidableEq, Repr, Inhabited

/-- A transmit event (R346). -/
structure CanEvent where
  tag    : Nat
  status : Nat
  urgent : Bool
  ts     : Word
deriving DecidableEq, Repr, Inhabited

/-- A controller beside its registers. -/
structure Can where
  fifo   : List CanEntry := []
  urgent : Option CanEntry := none
  /-- SCLK count since which the urgent entry has been offered (R344) -/
  urgentAt : Nat := 0
  /-- a mode that takes effect at the next bit boundary: that clock, and the mode in effect up to it with FORCED_RO
  (R341, R342); SCLK count at which the mode in effect took effect -/
  pend   : Option (Nat × Nat × Bool) := none
  since  : Nat := 0
  events : List CanEvent := []
  objs   : Sparse CanObj := []
deriving DecidableEq, Repr, Inhabited


/-! ### SRAM banks and LPDDR5 (15 R356-R384) -/

/-- A posted write that has been refused and whose imprecise notice has not arrived yet (R379): master, KIND of Table 2.5
(0 for an uncorrectable word), first byte refused, and the SIZE code. -/
structure Notice where
  master : Nat
  kind   : Nat
  addr   : Nat
  size   : Nat
deriving DecidableEq, Repr, Inhabited

/-- The memories beside the BNK registers. Bytes are keyed by bank * 2^21 + offset, and by the offset in LPDDR5. -/
structure Memory where
  sram    : Sparse Byte := []
  lpd     : Sparse Byte := []
  /-- words of 64 bits whose check bits show an error: 1 single-bit, 2 uncorrectable (R363) -/
  sramEcc : Sparse Nat := []
  lpdEcc  : Sparse Nat := []
  /-- the scrubber's next word of each bank (R364), and the rows in which its running pass has found an uncorrectable word
  (R365) -/
  scrub   : Sparse Nat := []
  found   : Sparse (List Nat) := []
  /-- the patrol's next burst (R371) -/
  patrol  : Nat := 0
  /-- SCLK count at which the wake of a bank ends (R368) -/
  wake    : Sparse (Option Nat) := []
  notices : List Notice := []
deriving DecidableEq, Repr, Inhabited


/-! ### Event recorder (16 R385-R398) and the persistent counters in MRAM (R19) -/

/-- What the recorder counts of one task in the running stretch (Table 16.4). -/
structure TaskStat where
  fixed    : Bool := false
  task     : Bool := false
  execId   : Nat := 0
  bins     : Sparse Nat := []
  started  : Nat := 0
  overruns : Nat := 0
  faults   : Nat := 0
  deadlines : Nat := 0
  wbuf     : Nat := 0
  mismatch : Nat := 0
  respMin  : Option Nat := none
  respMax  : Nat := 0
  runMax   : Nat := 0
deriving DecidableEq, Repr, Inhabited

/-- A record that waits to be written: KIND, CAUSE, MINUTES and the words of its body (R391). -/
structure RecWrite where
  kind    : Nat
  cause   : Nat
  minutes : Nat
  body    : List Word
deriving DecidableEq, Repr, Inhabited

/-- The recorder. Slots: monument slot i at key i, running slot i at key 256 + i, 32 words each. Counts stand under the
byte offset that Table 16.5 gives them. -/
structure Recorder where
  /-- SEQ of the last record: the counter in D0 (R387) -/
  seq    : Nat := 0
  slots  : Sparse (Option (List Word)) := []
  counts : Sparse Nat := []
  life   : Sparse Nat := []
  tasks  : Sparse TaskStat := []
  /-- arrival of the release of each task that has not ended, in nanoseconds -/
  arrived : Sparse (Option Nat) := []
  /-- SCLK count at which the stretch began; no stretch is open before the START record -/
  began  : Option Nat := none
  /-- extremes of the stretch by offset in the body: minimum and maximum -/
  extremes : Sparse (Option (Int × Int)) := []
  /-- the records of a close in progress, the one being written first; whether its slot has been reached, and the SCLK count
  of the next step of the writing (R393) -/
  todo   : List RecWrite := []
  busy   : Bool := false
  next   : Nat := 0
deriving DecidableEq, Repr, Inhabited

/-- A retirement: pair, bank, channel or lane, with its index (R19). -/
inductive Retired where
  | pair (x : Nat) | bank (n : Nat) | channel (n : Nat) | lane (l : Nat)
deriving DecidableEq, Repr, Inhabited

/-- What MRAM keeps beside the recorder: the retirements recorded, and those that wait to be written (R19). -/
structure Mram where
  retired : List Retired := []
  waiting : List Retired := []
deriving DecidableEq, Repr, Inhabited



/-! ### Power, reset and start-up (17 R399-R421) -/

/-- The power manager and the start-up sequence beside the PWR registers. Instants are SCLK counts. -/
structure Power where
  /-- step 1 of the running start-up -/
  startAt  : Nat := 0
  /-- the boot ROM has loaded a slot; steps 4 to 6 are done -/
  booted   : Bool := false
  /-- SCLK count at which start-up step 2 began, when all LEDs light (R453) -/
  lampAt   : Option Nat := none
  /-- step 7 has begun: the module listens for its partner -/
  listenAt : Option Nat := none
  /-- the role decision of step 7 has been made, from which TIME_WAIT counts -/
  roleAt   : Option Nat := none
  /-- time has settled (R416) -/
  settled  : Bool := false
  /-- start-up has ended (R417): SYS_STATUS.READY -/
  ready    : Bool := false
  /-- host software has written PLM_MODE_REQ since the end of start-up (R418) -/
  hostMode : Bool := false
  /-- P: the hold-up sequence has begun (R408) -/
  holdup   : Option Nat := none
  /-- D0 has lost its contents (R406) -/
  lostD0   : Bool := false
  /-- the module holds in reset, with the cause it will start under -/
  held     : Option Nat := none
  /-- a reset that has been asked for and has not begun: its cause -/
  request  : Option Nat := none
  /-- a domain change in progress: mask and whether on (R405) -/
  domReq   : Option (Nat × Bool) := none
  /-- ROM recovery mode (R435) -/
  recovery : Bool := false
deriving DecidableEq, Repr, Inhabited


/-! ### Firmware update and recovery (18 R422-R440) -/

/-- What the NX8 reads of a container header (Table 18.1) and section table, with whether MAGIC, DEVICE, SIG_OFS, and the
section table are right. -/
structure ImgHdr where
  good    : Bool
  orders  : Nat
  secver  : Nat
  fwrev   : Nat
  setFmt  : Nat
  ccBuild : Nat
deriving DecidableEq, Repr, Inhabited

/-- A firmware slot: its state (Table 18.4), the blocks of 4 KiB it holds by index, the header of a closed image, and
whether it is the image the module was delivered with, whose bytes the model does not hold (log 20). -/
structure Slot where
  st        : Nat := 0
  len       : Nat := 0
  blocks    : Sparse (List Byte) := []
  hdr       : Option ImgHdr := none
  delivered : Bool := false
deriving DecidableEq, Repr, Inhabited

/-- An incomplete block: its BLOCK_CRC and the parts that have arrived. -/
structure PartBlock where
  index : Nat
  crc   : Nat
  parts : List (Nat × List Byte)
deriving DecidableEq, Repr, Inhabited

/-- An open transfer session (R427): slot, source MAC, IMG_LEN and IMG_CRC, the OPEN that waits for the erase (its TAG),
and the SCLK count of the last frame. -/
structure XferSession where
  slot    : Nat
  mac     : Nat
  len     : Nat
  crc     : Nat
  tag     : Nat
  erasing : Bool := true
  last    : Nat
  parts   : List PartBlock := []
deriving DecidableEq, Repr, Inhabited

/-- The application store (R415): the program and the stored active set with its generation. -/
structure AppStore where
  valid : Bool := false
  prog  : Program := {}
  bytes : Sparse Byte := []
  cfg   : Sparse Word := []
  gen   : Nat := 0
deriving DecidableEq, Repr, Inhabited

/-- The update and boot unit. Slot 0 is A and slot 1 is B. -/
structure Upd where
  slots    : Sparse Slot := []
  /-- boot selection in MRAM, and the slot that runs -/
  select   : Nat := 0
  run      : Option Nat := none
  session  : Option XferSession := none
  deferred : Bool := false
  /-- the burned fuses (R436), and a burn in progress: the floor asked for and the SCLK count of its begin (R437) -/
  floor    : Nat := 0
  burn     : Option (Nat × Nat) := none
  refused  : Bool := false
  /-- SET_FMT of the stored module settings -/
  setFmt   : Nat := 3
  /-- SCLK count of the last ANNOUNCE (R435) -/
  announced : Option Nat := none
  app      : AppStore := {}
  /-- the activation that a module reset carries out: the slot, for the channel controllers (R431) -/
  chain    : Option Nat := none
deriving DecidableEq, Repr, Inhabited

/-! ### Mailboxes, the MP and the configuration sets (03 R49-R72) -/

/-- Where a command that holds a slot stands (R53, R54). -/
inductive Stage where
  | taken | started | done
deriving DecidableEq, Repr, Inhabited

/-- A command that holds a slot of its mailbox pair (R53). `id` is the model's own number of the take. -/
structure Cmd where
  id       : Nat
  words    : List Word
  stage    : Stage := .taken
  /-- taken with SENDER_RESET set, by itself or by a retry it answers -/
  sreset   : Bool := false
  /-- a RETRY with its TAG arrived while it was held: the one response carries REPLAY (R62) -/
  replay   : Bool := false
  response : List Word := []
  /-- whether the response is a stored one posted again, which is not stored once more -/
  again    : Bool := false
  /-- what the command has written to registers, configuration sets and the checkpoint stream, for its closure digest (R248):
  space code, address and value -/
  wrote    : List (Nat × Nat × Word) := []
deriving DecidableEq, Repr, Inhabited

/-- One mailbox pair: its slots, the completed ones first in order of completion, the others in order of their take; and the responses of the last four completed commands, newest
first, with whether each has been posted (R62). -/
structure MbxPair where
  cmds   : List Cmd := []
  stored : List (List Word × Bool) := []
deriving DecidableEq, Repr, Inhabited

/-- An armed swap: mask, trigger, the slot that waits, word 4 of the command, and, while the swap has not taken effect yet,
the PTP time at which its trigger has fallen, the SCLK count of the clock in which it takes effect and the checkpoint
generation of the trigger (R68-R70). -/
structure ArmedSwap where
  mask   : Nat
  trig   : Trigger
  slot   : Nat
  word4  : Word
  fallen : Option Nat := none
  clk    : Nat := 0
  gen    : Nat := 0
deriving DecidableEq, Repr, Inhabited

/-- The MP: the mailbox it served last, the slots, a scheduled restart (SCLK count), and the configuration session. -/
structure Mp where
  served   : Nat := 7
  pairs    : Sparse MbxPair := []
  nextId   : Nat := 0
  restart  : Option Nat := none
  session  : Nat := 0
  sessions : Nat := 0
  gen      : Nat := 0
  swap     : Option ArmedSwap := none
deriving DecidableEq, Repr, Inhabited


/-! ### The machine -/

/-- The order codes (R1, R2). -/
inductive Order where
  | f | m | s
deriving DecidableEq, Repr, Inhabited

/-- The backup clock in D0 (R407): seconds, 2^-15 seconds, and whether it holds a valid time. -/
structure Backup where
  sec   : Nat := 0
  frac  : Nat := 0
  valid : Bool := false
deriving DecidableEq, Repr, Inhabited

/-- The violations decided in one SCLK clock (R41): the clock, whether VALID was 0 in it or was cleared in it, and the
master, SYS_VIOL_SRC and address of each. -/
structure ViolClock where
  clk    : Option Nat := none
  opened : Bool := false
  seen   : List (Nat × Word × Nat) := []
deriving DecidableEq, Repr, Inhabited

/-- What the tables of same-clock orders speak of (Tables 3.3, 4.3, 5.7, 6.3, 7.10, 8.10, 9.6, 10.12, 11.5, 12.11, 13.9,
14.4, 15.7, 16.6, 17.8 and 18.8): the events whose order within one clock the manual fixes. -/
inductive EvTag where
  -- mailboxes: by mailbox
  | mpTake | mpPost | mpRestart | mbxPost | mbxTake | mbxReset | mbxClear
  -- comparators, by comparator; a swap, by its mask
  | fire | cmpTarget | cmpOff | swap
  -- datums, by datum
  | push | datStop | segEnd | segStart | rampEnd | posRead | upSeg | upTimeout
  -- stake entries, by entry
  | arm | disarm | stakeFire | capture | capRead
  -- Traverse: by port, and by station
  | cycleStart | stnFrame | stnLost | segBuild | ackFrame | epochRaise | frameIn | txqPop | txqPush
  -- tasks: by task, commits and engine work by engine, forces and values
  | commit | relStart | force | valWrite | arrival | arrived | modeFixed | plEnd | deadline | plWork | busError | swapCancel
  -- blocks: by instance, calls to a pair by pair
  | blkReturn | blkDeadline | callArrival | selfDue | selfEnd
  -- checked pairs, by index
  | mismatch | checkTest | splitJoin | disagree
  -- the redundant pair
  | swapIn | genClose | lossDeclared | fence | trigger | handoverH | ready | laneRetired | laneFrame
  -- channels: by group or channel
  | ioInstant | fiPop | fiEdge | supplyLost | channelTrip | grpAck | outApply | outOff | resume | revive | pulseTest | benchmark | tripRetry
  -- CAN controllers, by controller and by object
  | rxSel | canRx | canSent | canPush | collision | discard | txePop
  -- banks, by bank; locks, by lock; words, by address of the 64-bit word
  | lockFree | lockRead | ownChange | access | bankAccess | retention | wordWrite | scrub | bankTest | mpuSync
  -- recorder, power, update
  | periodEnd | feedsLost | recPeriod | present | timeLock | timeWait | modeWrite | autoTask
  | activation | updCancel | pairTrigger | updOpen | updSchedule | blockDone | xferTimeout
deriving DecidableEq, Repr, Inhabited

/-- An event of one clock, with the numbers of what it happens to. -/
structure Ev where
  tag : EvTag
  a   : Nat := 0
  b   : Nat := 0
deriving DecidableEq, Repr, Inhabited

/-- The events that have taken place in the clock `clk`, and by how many clocks the model stands ahead of the sender's
count because events that came out of order were put into the next clock (log 45). -/
structure ClockLog where
  clk  : Option Nat := none
  evs  : List Ev := []
  lead : Nat := 0
deriving DecidableEq, Repr, Inhabited

/-- What the module sends across its boundary, newest first in `State.out`: the model's own record of it (log 6). -/
inductive Output where
  /-- an MSI-X message of a vector, with its table address and data (R26) -/
  | msix (vector : Nat) (addr : Nat) (data : Word)
  /-- the value a master's read returned, or the error response (R39) -/
  | readData (master addr : Nat) (value : Word)
  | errorResponse (master addr : Nat) (write : Bool)
  /-- the bytes a master read of SRAM or LPDDR5 -/
  | memData (master addr : Nat) (bytes : List Byte)
  /-- completion of a PCIe read: its bytes, or Completer Abort (R24) -/
  | pcieCompletion (bytes : Option (List Byte))
  /-- an advisory non-fatal error reported through AER (R39, Table 2.6) -/
  | pcieAdvisory
  /-- a remote access response on the service port, to a MAC address (R28) -/
  | serviceResponse (mac : Nat) (bytes : List Byte)
  /-- a frame begins on a line port -/
  | frame (port : Nat) (f : WireFrame)
  /-- the frame on the wire of a line port is preempted, or goes on (R140) -/
  | frameHeld (port : Nat)
  | frameOn (port : Nat)
  /-- the frame on the wire of a line port ends with a bad FCS (R244) -/
  | frameCut (port : Nat)
  /-- an edge on a fast output: its level and instant in nanoseconds (R124) -/
  | foEdge (k : Nat) (level : Bool) (t : Int)
  /-- a frame on a lane of the pair link -/
  | link (f : LinkFrame)
deriving DecidableEq, Repr, Inhabited

/-- What stops the machine: nothing. The manual gives every command an effect in every state, and a misuse whose result it
calls unpredictable (R5) leaves the unit with free values and the machine goes on (log 78). -/
inductive Fault where
deriving DecidableEq, Repr

/-- What the model refuses. -/
inductive Refusal where
  /-- Raised by `exec` for a command that has no meaning yet. Safe: the model stops. -/
  | notModelled (mnemonic : String)
deriving DecidableEq, Repr, Inhabited

/-- The state of the module: every piece of state the manual gives it, and the queue of waiting commands. -/
structure State where
  order   : Order := .f
  /-- SCLK clocks counted since the reset of the model's clock (the model's own count, log 4) -/
  sclk    : Nat := 0
  /-- the events of the present clock -/
  clk     : ClockLog := {}
  /-- the PTP clock (R73) as one number in 2^-32 ns: SEC, NS and FRAC are its digits -/
  ptp     : Nat := 0
  bkp     : Backup := {}
  /-- the direct registers, by internal address -/
  regs    : Sparse Word := []
  /-- upsets of the three copies of a triplicated field: what each copy differs by (R36) -/
  flips   : Sparse (Word × Word × Word) := []
  /-- read latches of the registers a read of another one captures (R34, R76, R119, R131, R330), and write latches of low
  halves (R35), by address * 256 + master -/
  rlat    : Sparse (Option Word) := []
  wlat    : Sparse (Option Word) := []
  /-- active and shadow configuration sets, by `cfgKey` -/
  cfgA    : Sparse Word := []
  cfgS    : Sparse Word := []
  /-- transmit timestamp queues per port (R85) -/
  tsq     : Sparse (List TsEntry) := []
  servo   : Servo := {}
  ptpPorts : Sparse PtpPort := []
  dats    : Sparse Datum := []
  stk     : StakeUnit := {}
  ports   : Sparse Port := []
  /-- PTP time in nanoseconds of the last accepted partner heartbeat (R74, R159) -/
  hbAt    : Option Nat := none
  /-- the image store, by `imgKey` (R192) -/
  img     : Sparse Word := []
  /-- constant copies, by pair ID * 16384 + K address (R193) -/
  konst   : Sparse Word := []
  prog    : Program := {}
  /-- the bytes the running program was loaded from -/
  progBytes : Sparse Byte := []
  engs    : Sparse Engine := []
  plm     : Plm := {}
  blk     : Blk := {}
  /-- the violations of the SCLK clock in which the last one was decided or cleared (R41) -/
  viols   : ViolClock := {}
  /-- the checked pairs by index x (R242) -/
  cmp     : Sparse Checked := []
  pair    : PairUnit := {}
  mp      : Mp := {}
  /-- channel groups A and B (R300) -/
  grps    : Sparse Group := []
  chans   : Sparse Chan := []
  cans    : Sparse Can := []
  ctls    : Sparse Ctl := []
  fis     : Sparse FastIn := []
  fos     : Sparse FastOut := []
  recd    : Recorder := {}
  mram    : Mram := {}
  mem     : Memory := {}

  pwr     : Power := {}
  /-- slot A holds the image the module was delivered with (log 20) -/
  upd     : Upd := { slots := [(0, { st := 5, hdr := some ⟨true, 7, 0, 0x04020000, 3, 0⟩, delivered := true })] }
  /-- the record of what crossed the module's boundary, newest first -/
  out     : List Output := []
  /-- the model's own count of free values used; no statement rests on it -/
  free    : Nat := 0
  /-- commands that wait, first in, first out -/
  pending : List Instr := []
deriving DecidableEq, Repr, Inhabited

/-- The module right after reset (R413, R414): start-up step 1. Every field stands at its default. -/
def State.reset : State := {}

end Sys2Proof.Machine

namespace Sys2Proof.Config

/-- Free value (log 78): a state of which a unit takes its part when a misuse leaves the unit unpredictable (R5), by the
number of the rule that calls the misuse so and by a number that is another one at each use. -/
opaque anyState : Nat → Nat → Machine.State

end Sys2Proof.Config
end

