-- ==== Sys2Proof/Machine/Ops.lean ====
section
/-!
DEFINITION. The operations every unit shares: reading and writing registers with their majority vote (R36, R37),
the configuration sets (R64), the image store's words (R175, R192), roles (R262), the PTP clock and the passing of time
(R73-R78), interrupt summaries and MSI-X messages (R25, R26), and the capture of access violations (R40).
-/
namespace Sys2Proof.Machine

/-! ### Registers -/

/-- What voting three copies that differ from the stored value by `x`, `y`, `z` adds to it: the bits at least two
copies agree on (R37). -/
def majority (t : Word × Word × Word) : Word := (t.1 &&& t.2.1) ||| (t.1 &&& t.2.2) ||| (t.2.1 &&& t.2.2)

/-- What the three copies of a field differ in from its value; nothing while they agree. -/
def State.flipsAt (s : State) (a : Nat) : Word × Word × Word := sget (0, 0, 0) s.flips a

/-- The value of the register at an address; of a triplicated one the value that its copies vote (R8 RV and ROV, R37). -/
def State.reg (s : State) (a : Nat) : Word := sget (regReset a) s.regs a

/-- A register's new value, stored in all three copies where it is triplicated (R36). -/
def State.setReg (s : State) (a : Nat) (v : Word) : State :=
  { s with regs := sput (regReset a) s.regs a v, flips := sput (0, 0, 0) s.flips a (0, 0, 0) }

/-- The field [hi:lo] of a register. -/
def State.regF (s : State) (a hi lo : Nat) : Nat := (s.reg a).fld hi lo

/-- One bit of a register. -/
def State.regB (s : State) (a i : Nat) : Bool := (s.reg a).bit i

/-- A register with its field [hi:lo] replaced. -/
def State.setRegF (s : State) (a hi lo v : Nat) : State := s.setReg a ((s.reg a).setFld hi lo v)

/-- A register with one bit replaced. -/
def State.setRegB (s : State) (a i : Nat) (b : Bool) : State := s.setReg a ((s.reg a).setBit i b)

/-- A counter field that counts by `n` and saturates at its largest value. -/
def State.countF (s : State) (a hi lo n : Nat) : State :=
  s.setRegF a hi lo (satAdd (2 ^ (hi + 1 - lo) - 1) (s.regF a hi lo) n)

/-- A 32-bit counter that counts by one and saturates. -/
def State.count (s : State) (a : Nat) : State := s.countF a 31 0 1

/-- A 32-bit counter that counts by one and wraps. -/
def State.countWrap (s : State) (a : Nat) : State := s.setReg a (s.reg a + 1)

/-- A 64-bit quantity of a _LO and _HI pair of registers. -/
def State.reg64 (s : State) (lo hi : Nat) : Nat := pair64 (s.reg lo) (s.reg hi)

/-- A 64-bit quantity written into a _LO and _HI pair of registers. -/
def State.setReg64 (s : State) (lo hi : Nat) (v : Nat) : State :=
  (s.setReg lo (w32 v)).setReg hi (w32 (v / 2 ^ 32))

/-- Something crosses the module's boundary. -/
def State.emit (s : State) (o : Output) : State := { s with out := o :: s.out }

/-! ### What the recorder counts (16 R391, Table 16.5) -/

/-- The lifetime counter that a count of the stretch adds to, by offset; 0 for none. -/
def lifeOf (off : Nat) : Nat :=
  match off with
  | 60 => 76 | 62 => 80 | 56 => 84 | 48 => 88 | 50 => 88 | 52 => 92 | 58 => 96 | _ => 0

/-- A count of the running stretch, and the lifetime counter that goes with it; both saturate. -/
def State.tally (s : State) (off n : Nat) : State :=
  let r := s.recd
  let r := { r with counts := smod 0 r.counts off (fun c => satAdd 0xFFFF c n) }
  { s with recd := if lifeOf off = 0 then r else { r with life := smod 0 r.life (lifeOf off) (fun c => satAdd 0xFFFFFFFF c n) } }

/-- A measured value joins the extremes of the stretch, by its offset in the SUMMARY body (Table 16.5). -/
def State.extreme (s : State) (off : Nat) (v : Int) : State :=
  { s with recd := { s.recd with extremes := smod none s.recd.extremes off (fun e => match e with
      | some (lo, hi) => some (min lo v, max hi v)
      | none => some (v, v)) } }

/-- What the recorder holds of a task, changed. -/
def State.taskStat (s : State) (n : Nat) (f : TaskStat → TaskStat) : State :=
  { s with recd := { s.recd with tasks := smod {} s.recd.tasks n f } }

/-- A retirement takes effect: it is counted, and its record waits to be written to MRAM (R19). -/
def State.noteRetired (s : State) (r : Retired) : State :=
  ({ s with mram := { s.mram with waiting := s.mram.waiting ++ [r] } } : State).tally 56 1

/-! ### Roles (Table 12.1), modes and domains -/

/-- PAIR_ROLE.ROLE. -/
def State.role (s : State) : Nat := s.regF Reg.PAIR_ROLE 2 0

/-- The module is ALONE or ACTIVE: it runs the application. -/
def State.runs (s : State) : Bool := s.role = 1 || s.role = 2

/-- The module dispatches stake actions: ALONE, ACTIVE or HANDING_OVER (Table 12.1). -/
def State.dispatches (s : State) : Bool := s.role = 1 || s.role = 2 || s.role = 5

/-- The module applies checkpoint deltas or waits to take over: STANDBY or TAKING_OVER. -/
def State.shadows (s : State) : Bool := s.role = 3 || s.role = 4

/-- SYS_ID with the ORDER byte of the order code. -/
def State.sysId (s : State) : Word :=
  (s.reg Reg.SYS_ID).setFld 7 0 (match s.order with | .f => 1 | .m => 2 | .s => 3)

/-- Channel group `g` is present: DLT-NX8-S has no group B (Table 1.5). -/
def State.hasGroup (s : State) (g : Nat) : Bool := decide (g = 0) || (decide (g = 1) && decide (s.order ≠ Order.s))

/-- Power domain Dd is on (PWR_DOM_STS.ON, R404). -/
def State.domainOn (s : State) (d : Nat) : Bool := s.regB Reg.PWR_DOM_STS d

/-! ### Configuration sets (R64) -/

/-- The key of a word of an item of a category. -/
def cfgKey (cat item word : Nat) : Nat := (cat * 8192 + item) * 1024 + word

/-- A word of the active set; zero where nothing was written (log 5). -/
def State.cw (s : State) (cat item word : Nat) : Word := sget 0 s.cfgA (cfgKey cat item word)

/-- A word of the shadow set. -/
def State.sw (s : State) (cat item word : Nat) : Word := sget 0 s.cfgS (cfgKey cat item word)

/-- The first `n` words of an item of the active set. -/
def State.citem (s : State) (cat item n : Nat) : List Word := (List.range n).map (s.cw cat item)

/-- Word `i` of an item held as a list. -/
def item (ws : List Word) (i : Nat) : Word := ws.getD i 0

/-! ### The image store (R175, R192) -/

/-- The key of a word of the image store: space code, task for the L space, word address. -/
def imgKey (space task word : Nat) : Nat := (space * 32 + task) * 0x100000 + word

/-- The words of each space of Table 8.2 that the image store or a constant copy holds. -/
def spaceWords (space : Nat) : Nat :=
  match space with
  | 1 => 1024 | 2 => 1024 | 3 => 4096 | 4 => 8192 | 5 => 8192 | 6 => 512 | 7 => 16384 | 8 => 8192 | 9 => 0x100000
  | 10 => 1024 | _ => 0

/-- The task index a key carries: only the L space is a space of its own for each task. -/
def taskOf (space task : Nat) : Nat := if space = 10 then task % 32 else 0

/-- The word of the image store, as stored; the store starts cleared (Table 17.6). -/
def State.imgW (s : State) (space task word : Nat) : Word := sget 0 s.img (imgKey space (taskOf space task) word)

/-- A word of the image store replaced. -/
def State.setImgW (s : State) (space task word : Nat) (v : Word) : State :=
  { s with img := sput 0 s.img (imgKey space (taskOf space task) word) v }

/-- A symbol of the running program. -/
def State.symbol (s : State) (i : Nat) : Option Symbol := s.prog.syms[i]?

/-- The bits of a word of a space that a symbol covers, with the bit of the symbol that lies at bit 0 of the word (an
integer, since the symbol may begin above it). -/
def symMask (y : Symbol) (word : Nat) : Word :=
  BitVec.ofNat 32 ((List.range 32).foldl (fun acc b =>
    if y.bit ≤ word * 32 + b ∧ word * 32 + b < y.bit + y.bits then acc + 2 ^ b else acc) 0)

/-- The symbol's value as it falls on a word. -/
def symBits (y : Symbol) (word v : Nat) : Word :=
  if word * 32 < y.bit then BitVec.ofNat 32 (v <<< (y.bit - word * 32))
  else BitVec.ofNat 32 (v >>> (word * 32 - y.bit))

/-- A value with the forces that stand on a word laid over it (R208). -/
def overlay (syms : List Symbol) (fs : List Force) (space task word : Nat) (w : Word) : Word :=
  fs.foldl (fun acc f =>
    match syms[f.sym]? with
    | some y =>
      if y.space = space ∧ taskOf space y.task = taskOf space task then
        let m := symMask y word
        (acc &&& ~~~m) ||| (symBits y word f.value &&& m)
      else acc
    | none => acc) w

/-- The word of the image store as every reader but the writer of a value sees it: forces laid over it (R208). -/
def State.imgRead (s : State) (space task word : Nat) : Word :=
  overlay s.prog.syms s.plm.forces space task word (s.imgW space task word)

/-- One byte of a space of the image store as readers see it (R175: word a holds bytes 4a to 4a + 3). -/
def State.imgByte (s : State) (space n : Nat) : Byte :=
  BitVec.ofNat 8 ((s.imgRead space 0 (n / 4)).fld (8 * (n % 4) + 7) (8 * (n % 4)))

/-- One byte of a space of the image store replaced. -/
def State.setImgByte (s : State) (space n : Nat) (b : Byte) : State :=
  s.setImgW space 0 (n / 4) ((s.imgW space 0 (n / 4)).setFld (8 * (n % 4) + 7) (8 * (n % 4)) b.toNat)

/-- Bytes written into a space from a byte offset on, in one change clock (R194). -/
def State.setImgBytes (s : State) (space : Nat) : Nat → List Byte → State
  | _, [] => s
  | n, b :: bs => (s.setImgByte space n b).setImgBytes space (n + 1) bs

/-- Words written into a space from a word address on. -/
def State.setImgWords (s : State) (space task : Nat) : Nat → List Word → State
  | _, [] => s
  | n, w :: ws => (s.setImgW space task n w).setImgWords space task (n + 1) ws

/-- One bit of the image store written by a unit (a station of status bits, a channel): R194. -/
def State.setImgBit (s : State) (space n : Nat) (b : Bool) : State :=
  s.setImgW space 0 (n / 32) ((s.imgW space 0 (n / 32)).setBit (n % 32) b)

/-- One bit of the image store as readers see it. -/
def State.imgBit (s : State) (space n : Nat) : Bool := (s.imgRead space 0 (n / 32)).bit (n % 32)

/-! ### Interrupts (R25, R26) -/

/-- The status and enable registers whose OR makes the summary of an MSI-X vector (Table 2.3). -/
def irqRegs (v : Nat) : Nat × Nat :=
  if v = 0 then (Reg.SYS_IRQ_STS, Reg.SYS_IRQ_EN)
  else if v ≤ 16 then (Reg.MBX_STS (v - 1), Reg.MBX_IRQ_EN (v - 1))
  else if v = 17 then (Reg.PWR_IRQ_STS, Reg.PWR_IRQ_EN)
  else if v = 18 then (Reg.TIM_IRQ_STS, Reg.TIM_IRQ_EN)
  else if v = 19 then (Reg.DAT_IRQ_STS, Reg.DAT_IRQ_EN)
  else if v = 20 then (Reg.STK_IRQ_STS, Reg.STK_IRQ_EN)
  else if v ≤ 24 then (Reg.TRV_IRQ_STS (v - 21), Reg.TRV_IRQ_EN (v - 21))
  else if v = 25 then (Reg.PLM_IRQ_STS, Reg.PLM_IRQ_EN)
  else if v = 26 then (Reg.BLK_IRQ_STS, Reg.BLK_IRQ_EN)
  else if v = 27 then (Reg.CMP_IRQ_STS, Reg.CMP_IRQ_EN)
  else if v = 28 then (Reg.PAIR_IRQ_STS, Reg.PAIR_IRQ_EN)
  else if v ≤ 30 then (Reg.GRP_IRQ_STS (v - 29), Reg.GRP_IRQ_EN (v - 29))
  else if v ≤ 32 then (Reg.CANn_IRQ_STS (v - 31), Reg.CANn_IRQ_EN (v - 31))
  else if v = 33 then (Reg.BNK_IRQ_STS, Reg.BNK_IRQ_EN)
  else if v = 34 then (Reg.REC_IRQ_STS, Reg.REC_IRQ_EN)
  else (Reg.UPD_IRQ_STS, Reg.UPD_IRQ_EN)

/-- The event bits of the status register of a vector that its enables mask: EMPTY and POSTED of a mailbox stand in
bits 24 and 25 and are enabled in bits 0 and 1 (Table 3.10). -/
def State.summary (s : State) (v : Nat) : Bool :=
  let sts := s.reg (irqRegs v).1
  let en := s.reg (irqRegs v).2
  if 1 ≤ v ∧ v ≤ 16 then decide ((sts >>> 24) &&& en &&& 3 ≠ 0) else decide (sts &&& en ≠ 0)

/-- MSI-X messages can be sent: the link is up and BME is 1 (R26). -/
def State.pcieReady (s : State) : Bool := s.regB Reg.SYS_PCIE_STS 0 && s.regB Reg.SYS_PCIE_STS 7

/-- The vector's mask bit in the MSI-X table: bit 0 of the fourth word of its entry. -/
def State.masked (s : State) (v : Nat) : Bool := s.regB (Reg.MSIX_TABLE (4 * v + 3)) 0

/-- Bit `v` of the MSI-X pending-bit array. -/
def State.pendingBit (s : State) (v : Nat) : Bool := s.regB (Reg.MSIX_PBA (v / 32)) (v % 32)

/-- The message of a vector. -/
def State.sendMsix (s : State) (v : Nat) : State :=
  s.emit (.msix v (s.reg64 (Reg.MSIX_TABLE (4 * v)) (Reg.MSIX_TABLE (4 * v + 1))) (s.reg (Reg.MSIX_TABLE (4 * v + 2))))

/-- An event that sends the vector's message, or sets its pending bit while it is masked or no message can be sent. -/
def State.signal (s : State) (v : Nat) : State :=
  if s.pcieReady && !s.masked v then s.sendMsix v
  else s.setRegB (Reg.MSIX_PBA (v / 32)) (v % 32) true

/-- A change of the unit's status or enables, with the message its summary's rise from zero sends (R26). -/
def State.irqChange (s : State) (v a : Nat) (w : Word) : State :=
  let t := s.setReg a w
  if !s.summary v && t.summary v then t.signal v else t

/-- Interrupt status bits of a unit set by an event. -/
def State.raise (s : State) (v : Nat) (bits : Word) : State :=
  s.irqChange v (irqRegs v).1 (s.reg (irqRegs v).1 ||| bits)

/-- One interrupt status bit of a unit set by an event. -/
def State.raiseBit (s : State) (v i : Nat) : State := s.raise v (BitVec.twoPow 32 i)

/-- A write of 1 bits to a unit's interrupt status register: they clear, and the message is sent again while the
summary is still non-zero (R26). -/
def State.clearSts (s : State) (v : Nat) (keep bits : Word) : State :=
  let a := (irqRegs v).1
  let t := s.setReg a (s.reg a &&& ~~~(bits &&& keep))
  if t.summary v then t.signal v else t

/-! ### Misuse (R5) -/

/-- The registers at the addresses from `lo` on and below `hi` as another state has them. -/
def State.takeRegs (s t : State) (lo hi : Nat) : State :=
  { s with regs := s.regs.filter (fun p => p.1 < lo) ++ t.regs.filter (fun p => lo ≤ p.1 && p.1 < hi) ++
      s.regs.filter (fun p => hi ≤ p.1) }

/-- The unit whose registers stand at `a`, as another state has it, with all that it keeps. What R5 protects stays: the
record of access violations, what the lockstep comparison goes by, roles and epoch, and the rules of access. -/
def State.takeUnit (s t : State) (a : Nat) : State :=
  match a / 0x10000 with
  | 0x0 => (s.takeRegs t 0x34 0x10000)
  | 0x1 => { s.takeRegs t 0x10000 0x20000 with pwr := t.pwr }
  | 0x2 => { s.takeRegs t 0x20000 0x30000 with mp := t.mp }
  | 0x3 => { s.takeRegs t 0x30000 0x40000 with ptp := t.ptp, tsq := t.tsq, servo := t.servo, ptpPorts := t.ptpPorts }
  | 0x4 => { s.takeRegs t 0x40000 0x50000 with dats := t.dats }
  | 0x5 => { s.takeRegs t 0x50000 0x60000 with stk := t.stk }
  | 0x6 | 0x7 => { s.takeRegs t 0x60000 0x80000 with ports := t.ports, hbAt := t.hbAt }
  | 0x8 | 0x9 => { s.takeRegs t 0x80000 0xA0000 with plm := t.plm }
  | 0xA => { s.takeRegs t 0xA0000 0xB0000 with blk := t.blk }
  | 0xB => s.takeRegs t Reg.CMP_UNCH_W (Reg.CMP_UNCH_W + 4)
  | 0xC => { s.takeRegs t 0xC0010 0xD0000 with pair := { t.pair with
      heardEpoch := s.pair.heardEpoch, epochMram := s.pair.epochMram, hand := s.pair.hand, swapIn := s.pair.swapIn } }
  | 0xD => { s.takeRegs t 0xD0000 0xE0000 with grps := t.grps, chans := t.chans, ctls := t.ctls, fis := t.fis, fos := t.fos }
  | 0xE => { s.takeRegs t 0xE0000 0xF0000 with cans := t.cans }
  | 0xF => s.takeRegs t 0xF0000 0x100000
  | 0x10 => s.takeRegs t 0x100000 0x100100
  | 0x11 => { s.takeRegs t 0x110000 0x120000 with recd := t.recd }
  | _ => { s.takeRegs t 0x120000 0x130000 with upd := t.upd }

/-- A misuse whose result rule `rule` calls unpredictable (R5): the unit whose registers stand at `a` holds free values, and
what it sends across the boundary is free (log 78). -/
def State.misused (s : State) (rule a : Nat) : State :=
  let t := Config.anyState rule s.free
  { s.takeUnit t a with out := t.out ++ s.out, free := s.free + 1 }

/-! ### The PTP clock (R73-R78) and the passing of time -/

/-- One second and one microsecond in 2^-32 ns. -/
def secondT : Nat := 1000000000 * 2 ^ 32
def microT : Nat := 1000 * 2 ^ 32
/-- SCLK clocks of one microsecond and one millisecond (800 MHz). -/
def usClk : Nat := 800
def msClk : Nat := 800000
/-- The range of the clock: SEC has 48 bits. -/
def ptpRange : Nat := 2 ^ 48 * secondT

/-- The PTP clock in whole nanoseconds: SEC * 1,000,000,000 + NS. -/
def State.now (s : State) : Nat := s.ptp / 2 ^ 32

/-- SEC, NS and FRAC (R73). -/
def secOf (t : Nat) : Nat := t / secondT
def nsOf (t : Nat) : Nat := t % secondT / 2 ^ 32
def fracOf (t : Nat) : Nat := t % 2 ^ 32

/-- The increment in force: TIM_INCR, unsigned 4.32 (R77). -/
def State.incr (s : State) : Nat := s.regF Reg.TIM_INCR_HI 3 0 * 2 ^ 32 + (s.reg Reg.TIM_INCR_LO).toNat

/-- Clocks to the next carry of NS into SEC. -/
def State.clocksToCarry (s : State) : Nat :=
  let left := secondT - s.ptp % secondT
  if s.incr = 0 then left else (left + s.incr - 1) / s.incr

/-- The count of a CAN timestamp counter: it runs at 80 MHz, one count for ten SCLK clocks (R351). -/
def State.tsc (s : State) : Nat := s.sclk / 10 % 2 ^ 32

/-- The counter of CAN controller `n` and the PTP time of this clock are stored together (R351). -/
def State.canCapture (s : State) (n : Nat) : State :=
  (((s.setReg (Reg.CANn_TSC_C n) (w32 s.tsc)).setReg (Reg.CANn_TSC_PTP_NS n) (w32 (nsOf s.ptp))).setReg
    (Reg.CANn_TSC_PTP_SEC n) (w32 (secOf s.ptp))).setReg (Reg.CANn_TSC_PTP_EXT n) (w32 (secOf s.ptp / 2 ^ 32 % 2 ^ 16))

/-- What each carry of NS into SEC does beside the carry itself: a pending step is applied (R78; one that carries the clock out of
its range is a misuse), SEC is copied into the
backup clock while the PTP clock runs (R75, from PHASE 0x3 on), and the CAN timestamp counters are captured with the PTP
time (R351). Before PHASE 0x3 the count stands for the backup clock itself, which goes on by its crystal (R407, log 27). -/
def State.carry (s : State) : State :=
  let s :=
    if s.regB Reg.TIM_STS 0 then
      let t : Int := (s.now : Int) + signed 64 (s.reg64 Reg.TIM_STEP_LO Reg.TIM_STEP_HI)
      if t < 0 || (2 ^ 48 * 1000000000 : Int) ≤ t then s.misused 78 0x30000
      else (({ s with ptp := t.toNat * 2 ^ 32 + s.ptp % 2 ^ 32 } : State).setRegB Reg.TIM_STS 0 false).raiseBit 18 16
    else s
  let s := if 3 ≤ s.regF Reg.PWR_START_STS 3 0 then { s with bkp := { sec := secOf s.ptp, frac := 0, valid := true } } else s
  if s.domainOn 6 then (s.canCapture 0).canCapture 1 else s

/-- `n` SCLK clocks pass with no carry of NS. -/
def State.tick (s : State) (n : Nat) : State :=
  { s with sclk := s.sclk + n, ptp := (s.ptp + n * s.incr) % ptpRange }

/-- `n` SCLK clocks pass, through at most `fuel` carries. -/
def State.advanceIn : Nat → Nat → State → State
  | 0, n, s => s.tick n
  | fuel + 1, n, s =>
    let c := s.clocksToCarry
    if n < c then s.tick n else State.advanceIn fuel (n - c) (s.tick c).carry

/-- `n` SCLK clocks pass (R73). A step moves the sub-second part at most twice, so the number of carries is bounded. -/
def State.run_ (s : State) (n : Nat) : State :=
  State.advanceIn (n * s.incr / secondT + 3) n s

/-! ### Events of one clock -/

/-- The events that have taken place in the present clock. -/
def State.evsNow (s : State) : List Ev := if s.clk.clk = some s.sclk then s.clk.evs else []

/-- Events take place in the present clock. -/
def State.note (s : State) (es : List Ev) : State :=
  { s with clk := { s.clk with clk := some s.sclk, evs := s.evsNow ++ es } }

/-- How a row of the tables of same-clock orders ties the numbers of its two events together. -/
inductive Tie where
  | any | sameA | sameAB | lessA
  /-- the second number of the first is the number of the second -/
  | bA
  /-- the number of the first, or of the second, is a mask of categories that has the given bit -/
  | maskA (bit : Nat) | maskB (bit : Nat)
deriving DecidableEq, Repr, Inhabited

/-- The tie holds between two events. -/
def Tie.holds (t : Tie) (x y : Ev) : Bool :=
  match t with
  | .any => true
  | .sameA => x.a = y.a
  | .sameAB => x.a = y.a && x.b = y.b
  | .lessA => x.a < y.a
  | .bA => x.b = y.a
  | .maskA i => x.a.testBit i
  | .maskB i => y.a.testBit i

/-! ### Access violations (R38-R41) -/

/-- The violations of this clock; a new clock starts with none, and with VALID as it stands. -/
def State.violClock (s : State) : ViolClock :=
  if s.viols.clk = some s.sclk then s.viols
  else { clk := some s.sclk, opened := !s.regB Reg.SYS_VIOL_STS 0, seen := [] }

/-- What the clock's violations leave in SYS_VIOL (R40, R41): where VALID was 0 or was cleared in this clock, the one with
the lowest master ID is captured and each other sets OVF; where it was 1, OVF is set. -/
def State.captureViol (s : State) : State :=
  match s.viols.seen with
  | [] => s
  | x :: rest =>
    if s.viols.opened then
      let y := rest.foldl (fun (y : Nat × Word × Nat) z => if z.1 < y.1 then z else y) x
      let s := ((s.setReg Reg.SYS_VIOL_SRC y.2.1).setReg Reg.SYS_VIOL_ADDR_LO (w32 y.2.2)).setReg
        Reg.SYS_VIOL_ADDR_HI (w32 (y.2.2 / 2 ^ 32 % 256))
      (s.setReg Reg.SYS_VIOL_STS (if rest = [] then 1 else 3)).raiseBit 0 0
    else s.setRegB Reg.SYS_VIOL_STS 1 true

/-- A decided access violation is captured while VALID is 0, sets OVF while it is 1, and is counted (R40). `size` is the
SIZE code of SYS_VIOL_SRC, `addr` the first byte that is not permitted. -/
def State.violation (s : State) (master kind : Nat) (write : Bool) (size addr : Nat) : State :=
  let s := (s.count Reg.SYS_VIOL_CNT).tally 70 1
  let src := w32 (master % 256 + kind % 8 * 2 ^ 8 + ofBool write * 2 ^ 11 + size % 8 * 2 ^ 12)
  let v := s.violClock
  State.captureViol { s with viols := { v with seen := v.seen ++ [(master, src, addr)] } }

/-- A write of 1 to SYS_VIOL_STS.VALID (R41): VALID and OVF are cleared, before the violations of the same clock are
captured. -/
def State.clearViol (s : State) : State :=
  State.captureViol { s.setReg Reg.SYS_VIOL_STS 0 with viols := { s.violClock with opened := true } }

/-- The SIZE code of an access of `n` bytes (Table 2.9). -/
def sizeCode (n : Nat) : Nat :=
  if n ≤ 1 then 0 else if n ≤ 2 then 1 else if n ≤ 4 then 2 else if n ≤ 8 then 3 else 4

/-! ### Command slots (R53, R60, R61) -/

/-- STATUS values of Table 3.5. -/
def stOk : Nat := 0
def stUnknown : Nat := 1
def stBadParam : Nat := 2
def stBadLength : Nat := 3
def stBusyService : Nat := 4
def stBusyEdit : Nat := 5
def stNoSession : Nat := 6
def stWrongRole : Nat := 7
def stNotPresent : Nat := 8
def stNoSpace : Nat := 9
def stCheckFailed : Nat := 10
def stCancelled : Nat := 11
def stNotFound : Nat := 12
def stViolation : Nat := 13
def stState : Nat := 14
def stDataError : Nat := 15

/-- The length of a response (R60): 4 words and the results, at least 8 and at most 16. -/
def responseLen (results : Nat) : Nat := min 16 (max 8 (4 + results))

/-- The words of a response (R60, Table 3.4), cut or padded to `len`. -/
def responseWords (c : Cmd) (len status detail : Nat) (results : List Word) : List Word :=
  let head := w32 ((item c.words 0).fld 15 0 + 2 * 2 ^ 16 + ofBool c.replay * 2 ^ 20 + ofBool c.sreset * 2 ^ 21)
  (([head, item c.words 1, w32 (status % 65536 + detail % 65536 * 65536), 0] ++ results) ++
    List.replicate 16 (0 : Word)).take len

/-- A command completes with its response, which waits in its slot and is stored among the last four (R54, R62). -/
def Cmd.complete (c : Cmd) (status detail : Nat) (results : List Word) : Cmd :=
  let len := if (item c.words 0).fld 15 0 = 3 then max 8 (min 16 c.words.length) else responseLen results.length
  { c with stage := .done, response := responseWords c len status detail results }

/-- The pair whose slot `id` completes: it stands behind the slots that completed before (R54). -/
def MbxPair.finish (p : MbxPair) (id status detail : Nat) (results : List Word) : MbxPair :=
  match p.cmds.find? (fun c => c.id = id) with
  | some c =>
    if c.stage = .done then p else
    let d := c.complete status detail results
    let before := p.cmds.filter (fun x => decide (x.stage = .done))
    let rest := p.cmds.filter (fun x => decide (x.stage ≠ .done) && decide (x.id ≠ id))
    { cmds := before ++ d :: rest, stored := ((d.response, false) :: p.stored).take 4 }
  | none => p

/-- The command in slot `id` completes with STATUS, DETAIL and result words; nothing where no slot has that number any
more (an MP restart ended it, R58). -/
def State.finish (s : State) (id status detail : Nat) (results : List Word) : State :=
  { s with mp := { s.mp with pairs := s.mp.pairs.map (fun e => (e.1, e.2.finish id status detail results)) } }

/-- The slot completes with OK and results. -/
def State.finishOk (s : State) (id : Nat) (results : List Word) : State := s.finish id stOk 0 results

/-- The slot completes with a STATUS that is not OK and no results. -/
def State.finishErr (s : State) (id status : Nat) : State := s.finish id status 0 []

/-! ### The checkpoint stream (R272, R273, R276, R277) -/

/-- KIND, UNIT, address and data of a record; the contents of a queue, a stake's live part and an event's log entry have
no layout in the manual: they stand as the words of their numbers (log 7). -/
def intWords (i : Int) : List Word := [w32 (pattern 64 i), w32 (pattern 64 i / 2 ^ 32)]

/-- A segment as it is carried in the stream. -/
def segWords (g : Seg) : List Word :=
  [w32 (g.t0 % 1000000000), w32 (g.t0 / 1000000000), w32 g.dur, w32 g.seq] ++ intWords (g.p0 : Int) ++ intWords g.v0 ++
  intWords g.a0 ++ intWords g.j ++ intWords g.sj1 ++ intWords g.sj2 ++ [w32 g.sd1, w32 g.sd2, w32 (pattern 32 g.wraps),
  w32 g.sent]

/-- KIND, UNIT, address and data words of a record (Table 12.5). -/
def recParts : DeltaRec → Nat × Nat × Nat × List Word
  | .image sp task w ws => (1, sp, w + task * 0x100000, ws)
  | .input sp w ws => (2, sp, w, ws)
  | .inst w ws => (3, 0, w, ws)
  | .datumQ d q =>
    (4, 0, d, [w32 (q.st + 256 * ofBool q.stop + 512 * ofBool q.engaged + 1024 * ofBool q.ended.isSome + 2048 * ofBool q.trunc.isSome),
      w32 q.seq, w32 (q.trunc.getD 0), w32 q.halts, w32 (pattern 32 q.ratio.1), w32 q.ratio.2] ++ intWords (q.heldP : Int) ++
      [w32 (pattern 32 q.heldW)] ++ intWords q.phase ++ (q.ended.toList ++ q.segs).flatMap segWords)
  | .axisQ k q =>
    (4, 0, 8 + k, [w32 q.seq, w32 (q.trunc.getD 0), w32 (ofBool q.ended.isSome + 2 * ofBool q.trunc.isSome)] ++
      (q.ended.toList ++ q.segs).flatMap segWords)
  | .stake i st tgt cnt b x =>
    (5, 0, i, [w32 st] ++ intWords (tgt : Int) ++ [w32 cnt, w32 (ofBool b)] ++ intWords x)
  | .sent p stn code evt act => (6, p, 0, [w32 stn, w32 code, w32 evt] ++ intWords act)
  | .config cat sh it ws => (7, cat + 16 * ofBool sh, it, ws)
  | .force y none => (8, 0, y, [])
  | .force y (some v) => (8, 0, y, intWords (v : Int))
  | .value y v => (9, 0, y, intWords (v : Int))
  | .konst w ws => (9, 1, w, ws)
  | .mode m => (9, 2, 0, [w32 m])
  | .register a w => (9, 3, a, [w])
  | .bank b o bs => (10, b, o, (List.range ((bs.length + 3) / 4)).map (fun i =>
      w32 ((bs.getD (4 * i) 0).toNat + (bs.getD (4 * i + 1) 0).toNat * 2 ^ 8 +
        (bs.getD (4 * i + 2) 0).toNat * 2 ^ 16 + (bs.getD (4 * i + 3) 0).toNat * 2 ^ 24)))
  | .releaseEnd t c snap => (11, t, 0, w32 c :: intWords (snap : Int))

/-- The words of a record: head (KIND, UNIT, COUNT), address, data. -/
def recWords (r : DeltaRec) : List Word :=
  let (k, u, a, ws) := recParts r
  [w32 (k + u % 256 * 2 ^ 8 + ws.length * 2 ^ 16), w32 a] ++ ws

/-- Byte `i` of a list; 0 past its end. -/
def byteOf (bs : List Byte) (i : Nat) : Nat := (bs.getD i 0).toNat
/-- A little-endian number of `n` bytes at byte `i`. -/
def leAt (bs : List Byte) (i n : Nat) : Nat := ((List.range n).map (fun k => byteOf bs (i + k) * 2 ^ (8 * k))).sum

/-- A number as `n` little-endian bytes. -/
def leBytes (n v : Nat) : List Byte := (List.range n).map (fun k => BitVec.ofNat 8 (v / 2 ^ (8 * k)))

/-- The four bytes of a word, little-endian. -/
def wordBytes (w : Word) : List Nat := [w.fld 7 0, w.fld 15 8, w.fld 23 16, w.fld 31 24]

/-- One byte of the CRC-64 of R248: polynomial 0x42F0_E1EB_A9EA_3693, no reflection. -/
def crc64Byte (crc b : Nat) : Nat :=
  (List.range 8).foldl (fun c _ =>
    if c / 2 ^ 63 = 1 then ((c * 2) % 2 ^ 64) ^^^ 0x42F0E1EBA9EA3693 else c * 2) (crc ^^^ (b * 2 ^ 56))

/-- The CRC-64 of R248 over bytes, from initial value zero. -/
def crc64 (bs : List Nat) : Nat := bs.foldl crc64Byte 0

/-- One byte of the CRC-32 of IEEE 802.3, bits least significant first. -/
def crc32Byte (crc b : Nat) : Nat :=
  (List.range 8).foldl (fun c _ => if c % 2 = 1 then (c / 2) ^^^ 0xEDB88320 else c / 2) (crc ^^^ b)

/-- The CRC-32 of IEEE 802.3 over bytes (R69 CFG_BULK, R391, R422): initial value and final inversion of all ones. -/
def crc32 (bs : List Nat) : Nat := (bs.foldl crc32Byte 0xFFFFFFFF) ^^^ 0xFFFFFFFF

/-- The digest of a generation (R277): the CRC-64 over its records in order. -/
def recDigest (rs : List DeltaRec) : Nat := crc64 ((rs.flatMap recWords).flatMap wordBytes)

/-- Payload bytes of a pair-link frame (R272, Table 12.4). -/
def bodyBytes : LinkBody → Nat
  | .keepalive .. => 8
  | .delta rs => ((rs.flatMap recWords).length) * 4
  | .genClose .. => 16
  | .ack _ => 4
  | .resync _ bs rs => 8 + bs.length + ((rs.flatMap recWords).length) * 4
  | .swap .. => 20
  | .role .. => 2
  | .time .. => 24
  | .program _ bs => 4 + bs.length

/-- A frame on the link: header, payload, CRC-32. -/
def frameBytes (f : LinkFrame) : Nat := 16 + bodyBytes f.body + 4

/-- The bytes that wait for acknowledgement. -/
def State.windowBytes (s : State) : Nat := (s.pair.window.map (fun f => frameBytes f.1)).foldl (· + ·) 0

/-- The state of a lane (R271). -/
def State.lane (s : State) (l : Nat) : Nat := if l = 0 then s.regF Reg.PAIR_LANES 2 0 else s.regF Reg.PAIR_LANES 6 4

/-- The lane that carries the traffic. -/
def State.carrying (s : State) : Option Nat :=
  if s.lane 0 = 2 then some 0 else if s.lane 1 = 2 then some 1 else none

/-- A frame handed to a lane: nothing leaves a lane that is DOWN or RETIRED. -/
def State.emitLink (s : State) (f : LinkFrame) : State :=
  if s.lane f.hdr.lane ≠ 0 && s.lane f.hdr.lane ≠ 4 then s.emit (.link f) else s

/-- An unsequenced frame on the carrying lane. -/
def State.sendPlain (s : State) (b : LinkBody) : State :=
  match s.carrying with
  | some l => s.emitLink ⟨⟨l, false, 0, (s.reg Reg.PAIR_EPOCH).toNat, 0⟩, b⟩
  | none => s

/-- A sequenced frame: it takes the next SEQ and is kept until it is acknowledged (R273). A window that would pass
4 MiB abandons the stream; a send queue above 2 MiB sets BEHIND (R282). -/
def State.sendSeq (s : State) (gen : Nat) (b : LinkBody) : State :=
  let f : LinkFrame := ⟨⟨s.carrying.getD 0, false, s.pair.nextSeq, (s.reg Reg.PAIR_EPOCH).toNat, gen⟩, b⟩
  let bytes := s.windowBytes + frameBytes f
  if 4 * 2 ^ 20 < bytes then { s with pair := { s.pair with stream := false } }
  else
    let s := { s with pair := { s.pair with window := s.pair.window ++ [(f, s.sclk)], nextSeq := s.pair.nextSeq + 1 } }
    let s := s.emitLink f
    if 2 * 2 ^ 20 < bytes && !s.regB Reg.PAIR_STS 2 then (s.setRegB Reg.PAIR_STS 2 true).raiseBit 28 6 else s

/-- The module streams deltas: it runs the line or hands it over, and a standby has joined (Table 12.1). -/
def State.streaming (s : State) : Bool := (s.runs || s.role = 5) && s.pair.stream

/-- The log of an open generation changed, made where it is not open yet. -/
def PairUnit.onGen (p : PairUnit) (g : Nat) (f : GenLog → GenLog) : PairUnit :=
  if p.gens.any (fun x => x.gen = g) then { p with gens := p.gens.map (fun x => if x.gen = g then f x else x) }
  else { p with gens := p.gens ++ [f { gen := g }] }

/-- The input words changed since the last delta, as records with their present values (R213). -/
def State.dirtyRecs (s : State) : List DeltaRec :=
  s.pair.dirty.map (fun p => .input p.1 p.2 [s.imgW p.1 0 p.2])

/-- Records laid into payloads of at most 2,048 bytes (R272), in order; one that is longer stands alone (log 7). -/
def packRecs : List DeltaRec → List (List DeltaRec)
  | [] => []
  | r :: rs =>
    match packRecs rs with
    | p :: ps => if bodyBytes (.delta (r :: p)) ≤ 2048 then (r :: p) :: ps else [r] :: p :: ps
    | [] => [[r]]

/-- DELTA frames that carry records, until the stream is abandoned. -/
def State.sendRecs (s : State) (g : Nat) (rs : List DeltaRec) : State :=
  (packRecs rs).foldl (fun (s : State) p => if s.streaming then s.sendSeq g (.delta p) else s) s

/-- Records formed in a clock (R276): they go out in order, those of a generation (`g` not 0) in its frame and its
digest, the rest as applied on arrival; the changed input words go with every delta. -/
def State.record (s : State) (g : Nat) (rs : List DeltaRec) : State :=
  if !s.streaming then s
  else
    let ins := s.dirtyRecs
    let s := { s with pair := { s.pair with dirty := [] } }
    let s := s.sendRecs 0 ins
    let s := if g = 0 then s
      else { s with pair := s.pair.onGen g (fun x => { x with recs := x.recs ++ rs }) }
    s.sendRecs g rs

/-- An input word written by a port engine or the channel unit: it goes with the next delta (R213). -/
def State.touchInput (s : State) (space word : Nat) : State :=
  if s.streaming && !s.pair.dirty.contains (space, word) then
    { s with pair := { s.pair with dirty := s.pair.dirty ++ [(space, word)] } } else s

/-! ### Free values -/

/-- The number of the next free value. -/
def State.fresh (s : State) : Nat × State := (s.free, { s with free := s.free + 1 })

end Sys2Proof.Machine
end

