-- ==== Sys2Proof/Machine/CanBus.lean ====
section
/-!
DEFINITION. The mode of a CAN FD controller, which changes at a bit boundary (14 R339-R342), and its error state (R353).
-/
namespace Sys2Proof.Machine

/-- The controllers are present and powered (R337, R404). -/
def State.hasCan (s : State) (n : Nat) : Bool := decide (n < 2) && s.order ≠ Order.s && s.domainOn 6

def State.can (s : State) (n : Nat) : Can := sget {} s.cans n
def State.setCan (s : State) (n : Nat) (c : Can) : State := { s with cans := sput {} s.cans n c }

/-- CANn_CTL.MODE: 0 OFF, 1 NORMAL, 2 RESTRICTED. -/
def State.canProg (s : State) (n : Nat) : Nat := s.regF (Reg.CANn_CTL n) 1 0

/-- NORMAL has to act as RESTRICTED: the module does not drive its outputs (R342). -/
def State.canForced (s : State) (n : Nat) : Bool := s.canProg n = 1 && s.regF (Reg.GRP_STS 0) 4 3 ≠ 2

/-- CANn_STS.FORCED_RO, which stands as long as the forced mode is in effect. -/
def State.forcedRo (s : State) (n : Nat) : Bool :=
  match (s.can n).pend with | some (_, _, f) => f | none => s.canForced n

/-- The mode in effect. -/
def State.canMode (s : State) (n : Nat) : Nat :=
  match (s.can n).pend with | some (_, m, _) => m | none => if s.canForced n then 2 else s.canProg n

/-- CANn_STS.STATE: 0 ERROR_ACTIVE, 1 ERROR_PASSIVE, 2 BUS_OFF, 3 RECOVERING. -/
def State.canBus (s : State) (n : Nat) : Nat := s.regF (Reg.CANn_STS n) 1 0

/-- STATE changes, with its interrupt. -/
def State.setCanBus (s : State) (n v : Nat) : State :=
  if s.canBus n = v then s else (s.setRegF (Reg.CANn_STS n) 1 0 v).raiseBit (31 + n) 5

/-- REC as the standard counts it: the field holds 0 to 127, RP that it has reached 128. -/
def State.canRec (s : State) (n : Nat) : Nat := if s.regB (Reg.CANn_ERR n) 15 then 128 else s.regF (Reg.CANn_ERR n) 14 8

/-- The controller enters bus-off; with AUTO_REC its recovery starts at once. -/
def State.enterBusOff (s : State) (n : Nat) : State :=
  let s := ((s.countF (Reg.CANn_ERRCNT n) 31 16 1).setRegF (Reg.CANn_ERR n) 7 0 255).setCanBus n 2
  if s.regB (Reg.CANn_CTL n) 2 then s.setCanBus n 3 else s

/-- TEC and REC set, with the error state they give: above 255 the controller is bus-off. -/
def State.setCounts (s : State) (n tec rec : Nat) : State :=
  let w := (((s.reg (Reg.CANn_ERR n)).setFld 7 0 (min 255 tec)).setFld 14 8 (min 127 rec)).setBit 15 (decide (128 ≤ rec))
  let s := s.setReg (Reg.CANn_ERR n) w
  if 2 ≤ s.canBus n then s
  else if 256 ≤ tec then s.enterBusOff n
  else s.setCanBus n (if 128 ≤ tec || 128 ≤ rec then 1 else 0)

/-- SCLK clocks of a nominal bit (R339): ten for each CAN clock. -/
def State.canBit (s : State) (n : Nat) : Nat :=
  let w := s.reg (Reg.CANn_NBT n)
  10 * (w.fld 4 0 + 1) * (w.fld 12 5 + w.fld 19 13 + 3)

/-- The mode in effect may have to change from `mode`: it does at the next bit boundary, which is somewhere within a bit: a
free value (log 24). -/
def State.canLater (s : State) (n mode : Nat) (forced : Bool) : State :=
  let c := s.can n
  let t := match c.pend with
    | some (t, _) => t
    | none => s.sclk + 1 + Config.freeValue 10 (s.free * 2 + n) % s.canBit n
  { (s.setCan n { c with pend := some (t, mode, forced) }) with free := s.free + 1 }

/-- The bit boundary has come: in OFF the error counters are cleared, and leaving OFF the controller has to integrate. -/
def State.canBoundary (s : State) (n : Nat) : State :=
  match (s.can n).pend with
  | some (t, m, _) =>
    if s.sclk < t then s
    else
      let s := s.setCan n { s.can n with pend := none, since := t }
      if s.canProg n = 0 then ((s.setRegB (Reg.CANn_STS n) 2 false).setCanBus n 0).setCounts n 0 0
      else if m = 0 then s.setRegB (Reg.CANn_STS n) 2 false
      else s
  | none => s

/-- The bit boundaries of both controllers. -/
def State.boundaries (s : State) : State := (s.canBoundary 0).canBoundary 1

/-- A change of what the module drives changes the mode of a controller whose MODE is NORMAL (R342). -/
def State.canDrive (s : State) (f : State → State) : State :=
  let t := f s
  [0, 1].foldl (fun (u : State) n =>
    if s.canProg n = 1 && s.canForced n ≠ u.canForced n then u.canLater n (s.canMode n) (s.forcedRo n) else u) t

end Sys2Proof.Machine
end

