-- ==== Sys2Proof/Machine/RecWrite.lean ====
section
/-!
DEFINITION. The writing of records in MRAM (16 R386, R391, R393): a close takes its time, and a record that is being written is
not valid.
-/
namespace Sys2Proof.Machine

/-! ### Slots (R386, R393) -/

/-- The slot of a sequence number: monument slot i at key i, running slot i at key 256 + i. -/
def recSlot (seq : Nat) : Nat := if seq ≤ 256 then seq - 1 else 256 + (seq - 257) % 2048

/-- MARK of a valid record. -/
def recMark : Word := 0x444C4156

/-- The CRC of a record's bytes 0-119. -/
def recCrc (ws : List Word) : Word := w32 (crc32 ((ws.take 30).flatMap wordBytes))

/-- A record is valid (R393). -/
def recGood (ws : List Word) : Bool := item ws 31 = recMark && item ws 30 = recCrc ws

/-- The words of a record: header and body (the words from byte 16 on), the CRC and MARK (R391). -/
def recWordsOf (seq kind role cause minutes : Nat) (body : List Word) : List Word :=
  let ws := [w32 seq, w32 (seq / 2 ^ 32), w32 (kind + 2 ^ 8 + role % 8 * 2 ^ 16 + cause * 2 ^ 24), w32 (minutes % 2 ^ 16)] ++
    (body ++ List.replicate 26 (0 : Word)).take 26
  ws ++ [recCrc ws, recMark]

/-- The words of a slot that a write has reached and not ended: MARK is zero, and how much of the rest has been written is
open (log 25). -/
def State.tornWords (s : State) : List Word :=
  (List.range 31).map (fun i => w32 (Config.freeValue 11 (s.free * 32 + i))) ++ [0]

/-- The writing of a record reaches its slot (step 1 of R393). -/
def State.recBegin (s : State) : State :=
  { s with recd := { s.recd with slots := sput none s.recd.slots (recSlot (s.recd.seq + 1)) (some s.tornWords), busy := true },
           free := s.free + 1 }

/-- A record stands in its slot under the next sequence number; the running area begins to overwrite at SEQ 2305. -/
def State.putRecord (s : State) (r : RecWrite) : State :=
  let seq := s.recd.seq + 1
  let ws := recWordsOf seq r.kind s.role r.cause r.minutes r.body
  let s := { s with recd := { s.recd with seq := seq, slots := sput none s.recd.slots (recSlot seq) (some ws), busy := false } }
  let s := if seq = 2305 then s.raiseBit 34 1 else s
  if r.kind = 3 then s.raiseBit 34 0 else s

/-- A record is being written: where none is, the next one begins. It takes up to 20 us: a free value (log 25). -/
def State.recReady (s : State) : State :=
  if s.recd.busy then s
  else
    let t := s.recBegin
    { t with recd := { t.recd with next := s.recd.next + (1 + Config.freeValue 12 s.free % (20 * usClk)) } }

/-- The steps of the writing that lie before this clock. -/
def State.recSteps : List RecWrite → State → State
  | [], s => s
  | r :: rest, s =>
    if s.sclk ≤ s.recd.next then s
    else
      let t := s.recReady
      if t.sclk ≤ t.recd.next then t
      else
        let u := t.putRecord r
        State.recSteps rest { u with recd := { u.recd with todo := rest } }

/-- What the recorder has written by now. -/
def State.recWork (s : State) : State := State.recSteps s.recd.todo s

/-- A close in progress runs on to its end. -/
def State.recFlush (s : State) : State :=
  let t := s.recd.todo.foldl State.putRecord s
  { t with recd := { t.recd with todo := [], busy := false } }

end Sys2Proof.Machine
end

