-- ==== Sys2Proof/Machine/Release.lean ====
section
/-!
DEFINITION. Which engine serves a task (R199, R252-R257), the arrival of a release (R198), the triggers of an armed swap
and of an armed hand-over (R68, R69, R289), and the changes of role and mode (R204, R264, R265).
-/
namespace Sys2Proof.Machine

/-! ### Checked pairs by master ID (Table 11.1) -/

/-- The index x of the pair with a master ID; 30 for an ID that names none. -/
def cmpIndex (id : Nat) : Nat :=
  if id = 0x01 then 0
  else if 0x10 ≤ id ∧ id ≤ 0x18 then 1 + (id - 0x10)
  else if 0x20 ≤ id ∧ id ≤ 0x28 then 10 + (id - 0x20)
  else if 0x30 ≤ id ∧ id ≤ 0x35 then 19 + (id - 0x30)
  else 30

/-- The master ID of pair x; 0 for the pairs without one. -/
def cmpId (x : Nat) : Nat :=
  if x = 0 then 0x01 else if x ≤ 9 then 0x10 + (x - 1) else if x ≤ 18 then 0x20 + (x - 10)
  else if x ≤ 24 then 0x30 + (x - 19) else if x = 25 then 0 else 0x40

/-- The master IDs of the cluster of a pair; none for the pairs without a spare. -/
def clusterOf (id : Nat) : List Nat :=
  if 0x10 ≤ id ∧ id ≤ 0x18 then (List.range 9).map (fun k => 0x10 + k)
  else if 0x20 ≤ id ∧ id ≤ 0x28 then (List.range 9).map (fun k => 0x20 + k)
  else if 0x30 ≤ id ∧ id ≤ 0x35 then (List.range 6).map (fun k => 0x30 + k) else []

/-- CMP_Px_STS.STATE: 0 in service, 1 spare, 2 spare serving, 3 split, 4 retired, 5 resynchronising, 6 joining. -/
def State.cmpState (s : State) (x : Nat) : Nat := s.regF (Reg.CMP_Px_STS x) 2 0

/-- CMP_Px_STS.SERVES. -/
def State.cmpServes (s : State) (x : Nat) : Nat := s.regF (Reg.CMP_Px_STS x) 15 8

/-- The state a pair is in, or returns to when its resynchronisation ends. -/
def State.cmpBase (s : State) (x : Nat) : Nat := if s.cmpState x = 5 then (sget {} s.cmp x : Checked).prior else s.cmpState x

/-- The pair that serves as the spare of a pair of its cluster (R252, R255). -/
def State.standIn (s : State) (id : Nat) : Option Nat :=
  (clusterOf id).find? (fun k => k ≠ id && s.cmpBase (cmpIndex k) = 2 && s.cmpServes (cmpIndex k) = id)

/-- A pair of the cluster that stands by as the spare. -/
def State.spareFor (s : State) (id : Nat) : Option Nat :=
  (clusterOf id).find? (fun k => k ≠ id && s.cmpBase (cmpIndex k) = 1)

/-- The engine that runs the work of a master ID: the spare that serves it, the second engine of a split pair, or the pair
itself (R252, R257); none where the pair is retired and no spare serves it (R254). -/
def State.servedBy (s : State) (id : Nat) : Option Nat :=
  let base := if 0x80 ≤ id then id - 0x80 else id
  let st := s.cmpState (cmpIndex base)
  match s.standIn base with
  | some k => some k
  | none =>
    if (s.reg Reg.CMP_RETIRED).bit (cmpIndex base) || st = 4 then none
    else if base < id ∧ (st = 3 ∨ st = 6) then some id
    else some base

/-! ### Task fields (Table 9.1) -/

def State.taskPair (s : State) (n : Nat) : Nat := (s.cw 4 n 0).fld 7 0
def State.taskKind (s : State) (n : Nat) : Nat := (s.cw 4 n 0).fld 9 8
def State.taskPrio (s : State) (n : Nat) : Nat := (s.cw 4 n 0).fld 20 16

/-- PLM_TASKn_STS.STATE: 0 idle, 1 pending, 2 running, 3 running and pending. -/
def State.taskState (s : State) (n : Nat) : Nat := s.regF (Reg.PLM_TASKn_STS n) 1 0

/-- The task's state replaced. -/
def State.setTaskState (s : State) (n v : Nat) : State := s.setRegF (Reg.PLM_TASKn_STS n) 1 0 v

/-! ### The arrival of a release (R198, Table 9.2) -/

/-- An overrun of task `n` counts. -/
def State.overrun (s : State) (n : Nat) : State :=
  (((s.count (Reg.PLM_TASKn_OVR n)).raiseBit 25 2).tally 74 1).taskStat n (fun t =>
    { t with overruns := satAdd 0xFFFFFFFF t.overruns 1 })

/-- The arrival that a release's response counts from (R392). -/
def State.setArrival (s : State) (n : Nat) (t : Option Nat) : State :=
  { s with recd := { s.recd with arrived := sput none s.recd.arrived n t } }

/-- Releases are accepted: task mode, entered in an earlier clock, no request for fixed mode, and the module runs the line or
hands it over (R198, R204, R265, R289). -/
def State.accepts (s : State) : Bool :=
  s.plm.mode = .task && s.plm.taskAt ≠ some s.sclk && s.plm.request ≠ some .fixed && (s.runs || s.role = 5)

/-- A release arrives for task `n`. Releases of one task in one clock are one release (R88). -/
def State.arrive (s : State) (n : Nat) : State :=
  if !s.accepts || s.taskKind n = 0 || 32 ≤ n || s.evsNow.any (fun e => e.tag = .arrived && e.a = n) then s
  else
    let s := s.note [⟨.arrived, n, 0⟩]
    match s.taskState n with
    | 0 => ((s.setTaskState n 1).setArrival n (some s.now)).countWrap (Reg.PLM_TASKn_REL n)
    | 1 => s.overrun n
    | 2 => (((s.setTaskState n 3).setArrival (32 + n) (some s.now)).countWrap (Reg.PLM_TASKn_REL n)).overrun n
    | _ => s.overrun n

/-- Releases of the tasks of a mask. -/
def State.arriveMask (s : State) (mask : Word) : State :=
  (List.range 32).foldl (fun s n => if mask.bit n then s.arrive n else s) s

/-! ### Role and mode -/

/-- The mode changes: PLM_IRQ_STS.MODE, SYS_STATUS.FIXED_MODE, and the record of it (R204, R213). -/
def State.setMode (s : State) (m : PlmMode) : State :=
  if s.plm.mode = m then { s with plm := { s.plm with request := none } }
  else
    let plm := { s.plm with mode := m, request := none, cycle := none, cycTask := none, turn := none, since := s.now,
                            selfFrom := if s.plm.mode = PlmMode.idle then s.now else s.plm.selfFrom }
    let s := { s with plm := { plm with leave := none, taskAt := none } }
    let s := s.raiseBit 25 5
    s.record 0 [.mode (match m with | .idle => 0 | .fixed => 1 | .task => 2)]

/-- Every pending release is discarded (R204, R265). -/
def State.dropPending (s : State) : State :=
  (List.range 32).foldl (fun s n =>
    match s.taskState n with | 1 => s.setTaskState n 0 | 3 => s.setTaskState n 2 | _ => s) s

/-- The trigger of an armed swap falls, and the swap takes effect `lag` clocks after this one. -/
def ArmedSwap.fall (w : ArmedSwap) (s : State) (lag : Nat) : ArmedSwap :=
  { w with fallen := some s.now, clk := s.sclk + lag, gen := s.pair.gen }

/-- A swap armed on TASK or FIXED_END takes effect in the clock in which the mode becomes IDLE: its trigger falls
(R68). -/
def State.idleTrigger (s : State) : State :=
  match s.mp.swap with
  | some w =>
    match w.trig with
    | .datum .. => s
    | _ => if w.fallen = none then { s with mp := { s.mp with swap := some (w.fall s 0) } } else s
  | none => s

/-- The module enters a role in which no task runs: pending releases go and the mode is IDLE (R265). -/
def State.goIdle (s : State) : State := ((s.dropPending).setMode .idle).idleTrigger

/-- PAIR_ROLE.ROLE changes, with its interrupt; the roles that run no task make the mode IDLE (R264, R265). -/
def State.setRole (s : State) (r : Nat) : State :=
  if s.role = r then s
  else
    let s := if s.runs then s else { s with plm := { s.plm with selfFrom := s.now } }
    let s := (s.setRegF Reg.PAIR_ROLE 2 0 r).raiseBit 28 0
    if r = 1 || r = 2 || r = 5 then s else s.goIdle

/-! ### Triggers (R68, R69, R289) -/

/-- The trigger of the armed swap falls in this clock, if it is one of those the test accepts; the swap takes effect `lag`
clocks later. -/
def State.swapTrigger (s : State) (lag : Nat) (hit : Trigger → Bool) : State :=
  match s.mp.swap with
  | some w =>
    if w.fallen = none && hit w.trig then
      { s with mp := { s.mp with swap := some (w.fall s lag) } } else s
  | none => s

/-- The role HANDING_OVER is entered (R289), on a command or on a cause of Table 12.2. -/
def State.startHand (s : State) (k : HandKind) (slot : Option Nat) : State :=
  let former := s.role
  let s := { s with pair := { s.pair with arm := none, hand := some ⟨k, former, s.now, slot, none⟩ } }
  (s.setRegB Reg.PAIR_STS 7 false).setRole 5

/-- Free value (log 47): whether the partner holds a mapped program, which no frame of Table 12.4 tells. -/
def State.partnerMapped (s : State) : Bool := Config.freeValue 7 s.free % 2 = 1

/-- An exchange that is decided takes a free value. -/
def State.asked (s : State) (k : HandKind) : State := if k = .exchange then { s with free := s.free + 1 } else s

/-- The trigger of an armed hand-over falls, if it is one of those the test accepts: with a READY partner (and for an
exchange one with a mapped program) the module becomes HANDING_OVER, otherwise the command is disarmed and answered
STATE (R289). -/
def State.pairTrigger (s : State) (hit : Trigger → Bool) : State :=
  match s.pair.arm with
  | some a =>
    if !hit a.trig || !s.runs then s
    else if s.regB Reg.PAIR_STS 0 && (a.kind ≠ .exchange || s.partnerMapped) then (s.asked a.kind).startHand a.kind (some a.slot)
    else (({ s.asked a.kind with pair := { s.pair with arm := none } } : State).setRegB Reg.PAIR_STS 7 false).finishErr a.slot stState
  | none => s

/-- The commit of a task in task mode triggers what is armed on it; a swap takes effect in the clock after it (R68). -/
def State.taskTrigger (s : State) (n : Nat) : State :=
  if s.plm.mode ≠ .task then s
  else (s.swapTrigger 1 (fun t => t = .task n)).pairTrigger (fun t => t = .task n)

/-- The end of a fixed cycle triggers what is armed on it, TASK triggers included (R68). -/
def State.cycleTrigger (s : State) : State :=
  let hit : Trigger → Bool := fun t => match t with | .datum .. => false | _ => true
  (s.swapTrigger 0 hit).pairTrigger hit

/-! ### The fixed cycle (R203) -/

/-- The generation after `g`, a 32-bit count in which 0 means none. -/
def nextGen (g : Nat) : Nat := if g + 1 = 2 ^ 32 then 1 else g + 1

/-- The next task from number `n` on that the cycle runs: KIND not UNUSED, its work served by a pair. -/
def State.nextTurn (s : State) (n : Nat) : Option Nat :=
  (List.range 32).find? (fun k => n ≤ k && s.taskKind k ≠ 0 && (s.servedBy (s.taskPair k)).isSome)

/-- The fixed cycle ends: the overrun is counted, what is armed on it triggers, and a request for task mode takes effect
(R203, R204). -/
def State.endCycle (s : State) : State :=
  let overran := s.plm.cycT0 + s.plm.period ≤ s.now && !s.plm.late
  let s := { s with plm := { s.plm with cycle := none, cycTask := none, turn := none, since := s.now, cycles := s.plm.cycles + 1 } }
  let s := if overran then (s.count Reg.PLM_FIXED_OVR).raiseBit 25 4 else s
  let s := s.cycleTrigger
  if s.plm.request = some .task then
    let t := s.setMode .task
    { t with plm := { t.plm with taskAt := some t.sclk } }
  else s

/-- The turn passes to the first task from `n` on that can run, or the cycle ends. -/
def State.turnTo (s : State) (n : Nat) : State :=
  match s.nextTurn n with
  | some k => { s with plm := { s.plm with cycle := some k, cycTask := none, turn := none } }
  | none => s.endCycle

/-- A task whose turn has come and whose work no pair serves any more is skipped (R203). -/
def State.skipUnserved (s : State) : State :=
  match s.plm.cycle, s.plm.cycTask, s.plm.turn with
  | some n, none, none => if s.plm.mode = .fixed && (s.servedBy (s.taskPair n)).isNone then s.turnTo n else s
  | _, _, _ => s

/-- The release of task `n` has ended in a running fixed cycle: the turn passes on in the next clock (R203). -/
def State.passTurn (s : State) (n : Nat) : State :=
  if s.plm.mode = .fixed && s.plm.cycTask = some n then
    { s with plm := { s.plm with cycle := some (n + 1), cycTask := none, turn := some s.sclk } }
  else s

/-- The releases that run, over all engines. -/
def State.running (s : State) : Nat := (s.engs.filter (fun e => e.2.rel.isSome)).length

/-- After the last running release of task mode, a request for fixed mode takes effect in the next clock (R204). -/
def State.lastEnded (s : State) : State :=
  if s.plm.request = some .fixed && s.running = 0 then { s with plm := { s.plm with leave := some s.sclk } } else s

/-- What an end decision of an earlier clock has left for this one: the turn of the fixed cycle passes, or its end comes
(R203), and fixed mode begins (R204). -/
def State.settle (s : State) : State :=
  let s := match s.plm.turn, s.plm.cycle with
    | some c, some n => if c < s.sclk then s.turnTo n else s
    | _, _ => s
  match s.plm.leave with
  | some c => if c < s.sclk then s.setMode .fixed else s
  | none => s

end Sys2Proof.Machine
end

