-- ==== Sys2Proof/Machine/Clock.lean ====
section
/-!
DEFINITION. Events of one clock: the tables of same-clock orders of the manual, row by row, and the passing of time up to a
command that takes part in them. An event that a table puts before one that has taken place in the same clock is not of that
clock: it takes place in the next one (log 45).
-/
namespace Sys2Proof.Machine

/-! ### The passing of time -/

/-- `n` clocks pass; what the last end decision has left is done in the first of them, a CAN controller whose bit boundary
has come changes its mode, and the recorder goes on with a close. -/
def State.go (s : State) (n : Nat) : State := if n = 0 then s else ((s.run_ 1).settle.run_ (n - 1)).boundaries.recWork

/-- The sender's count goes on by `n` clocks: the clocks by which the model stands ahead of it have passed already
(log 45). -/
def State.advance (s : State) (n : Nat) : State :=
  ({ s with clk := { s.clk with lead := s.clk.lead - n } } : State).go (n - s.clk.lead)

/-- `n` more clocks pass than the sender has counted. -/
def State.ahead (s : State) (n : Nat) : State := ({ s with clk := { s.clk with lead := s.clk.lead + n } } : State).go n

/-- The clock `c` comes, if it has not come yet. -/
def State.until_ (s : State) (c : Nat) : State := s.ahead (c - s.sclk)

/-! ### Order within a clock -/

/-- The rows of Tables 3.3 to 8.10. -/
def ordersA : List (EvTag × EvTag × Tie) := [
  -- Table 3.3
  (.mpTake, .mbxReset, .sameA), (.mbxPost, .mpRestart, .any), (.mpPost, .mbxReset, .sameA), (.mbxTake, .mpRestart, .any),
  (.mbxClear, .mpTake, .sameA), (.mbxClear, .mpPost, .sameA), (.mbxClear, .mpRestart, .any), (.mbxClear, .mbxReset, .sameA),
  -- R69
  (.commit, .swapCancel, .any), (.trigger, .swapCancel, .any),
  -- R86, Table 4.3
  (.txqPop, .txqPush, .sameA), (.cmpOff, .fire, .sameA),
  -- Table 5.7
  (.push, .segEnd, .sameA), (.segStart, .posRead, .sameA), (.segEnd, .posRead, .sameA), (.segStart, .rampEnd, .sameA),
  (.datStop, .push, .sameA), (.push, .swap, .maskB 1), (.upSeg, .upTimeout, .sameA),
  -- Table 6.3
  (.arm, .stakeFire, .sameA), (.disarm, .stakeFire, .sameA), (.swap, .stakeFire, .maskA 4),
  -- Table 7.10
  (.commit, .cycleStart, .any), (.valWrite, .cycleStart, .any), (.stnFrame, .stnLost, .sameAB), (.datStop, .cycleStart, .any),
  (.datStop, .segBuild, .any), (.epochRaise, .frameIn, .any), (.ackFrame, .segBuild, .sameA), (.ackFrame, .cycleStart, .sameA),
  -- Table 8.10
  (.mismatch, .plWork, .bA), (.mismatch, .plEnd, .bA), (.busError, .plEnd, .sameA)
  ]

/-- The rows of Tables 9.6 to 12.11. -/
def ordersB : List (EvTag × EvTag × Tie) := [
  -- Table 9.6
  (.commit, .relStart, .any), (.force, .relStart, .any), (.commit, .valWrite, .any), (.commit, .commit, .lessA),
  (.arrival, .relStart, .any), (.modeFixed, .arrival, .any), (.swap, .arrival, .maskA 3),
  -- Table 10.12
  (.callArrival, .selfDue, .sameA), (.selfEnd, .callArrival, .sameAB), (.swap, .callArrival, .maskA 5), (.commit, .selfDue, .any),
  -- Table 11.5
  (.mismatch, .commit, .bA), (.mismatch, .checkTest, .sameA), (.mismatch, .splitJoin, .sameA),
  (.mismatch, .mismatch, .lessA),
  -- Table 12.11
  (.swapIn, .lossDeclared, .any), (.genClose, .lossDeclared, .any), (.fence, .trigger, .any), (.handoverH, .arrival, .any),
  (.ready, .trigger, .any), (.laneRetired, .laneFrame, .sameA)
  ]

/-- The rows of Tables 13.9 to 18.8. -/
def ordersC : List (EvTag × EvTag × Tie) := [
  -- Table 13.9, R330
  (.commit, .ioInstant, .any), (.supplyLost, .channelTrip, .sameA), (.supplyLost, .grpAck, .sameA), (.fence, .outApply, .any),
  (.outOff, .resume, .sameA), (.channelTrip, .revive, .sameAB), (.pulseTest, .benchmark, .sameA), (.fiPop, .fiEdge, .sameA),
  (.swap, .tripRetry, .maskA 0),
  -- Table 14.4
  (.rxSel, .canRx, .sameAB), (.canSent, .canPush, .sameA), (.collision, .discard, .sameA), (.txePop, .canSent, .sameA),
  (.txePop, .discard, .sameA),
  -- Table 15.7
  (.lockFree, .lockRead, .sameA), (.ownChange, .bankAccess, .sameA), (.bankAccess, .retention, .sameA), (.wordWrite, .scrub, .sameA),
  (.scrub, .bankAccess, .bA), (.bankTest, .bankAccess, .sameA), (.mismatch, .bankAccess, .any), (.swap, .access, .maskA 6),
  (.swap, .mpuSync, .maskA 6),
  -- Tables 16.6, 17.8 and 18.8
  (.feedsLost, .periodEnd, .any), (.recPeriod, .periodEnd, .any), (.present, .feedsLost, .any),
  (.timeLock, .timeWait, .any), (.modeWrite, .autoTask, .any), (.activation, .updCancel, .any), (.pairTrigger, .activation, .any),
  (.fence, .activation, .any), (.feedsLost, .activation, .any), (.updOpen, .updSchedule, .sameA), (.blockDone, .xferTimeout, .any)
  ]

/-- The rows of the tables: the first event takes effect before the second where both meet in one clock. The number of a swap is
its mask: channel modes 0, datums 1, Traverse schedule 2, task bindings 3, stakes 4, blocks 5, MPU maps 6. -/
def orders : List (EvTag × EvTag × Tie) := ordersA ++ ordersB ++ ordersC

/-- The first event takes effect before the second where both meet in one clock. -/
def before (x y : Ev) : Bool := orders.any (fun r => r.1 = x.tag && r.2.1 = y.tag && r.2.2.holds x y)

/-- One of the events would have had to come before one that has taken place in this clock. -/
def State.tooLate (s : State) (es : List Ev) : Bool := s.evsNow.any (fun d => es.any (fun e => before e d))

/-- A command is these events: where one of them comes too late for the clock, one more clock passes before it. -/
def State.meet (s : State) (es : List Ev) : State := (if s.tooLate es then s.ahead 1 else s).note es

/-- `dt` clocks pass up to a command that is these events. -/
def State.clock (s : State) (dt : Nat) (es : List Ev) : State := (s.advance dt).meet es

/-- Clocks from now to the first one in which the PTP time has reached `t`, looked for over `n` clocks and through at most
`fuel` carries, at which a pending step moves the time (R74, R78). -/
def State.clocksTo : Nat → Nat → Nat → State → Nat
  | 0, n, _, _ => n
  | fuel + 1, n, t, s =>
    let c := s.clocksToCarry
    let k := if s.incr = 0 then n else (t - s.ptp + s.incr - 1) / s.incr
    if s.ptp ≥ t then 0 else if k < c || n ≤ c || s.incr = 0 then min k n else c + State.clocksTo fuel (n - c) t (s.tick c).carry

/-! ### Answers -/

/-- A command that always goes on. -/
abbrev Answer := Host.Outcome State Fault Refusal

/-- A command whose effect is `f` after `dt` clocks. -/
def after (dt : Nat) (s : State) (f : State → State) : Answer := .next (f (s.advance dt))

/-- A command that is events of the tables, whose effect is `f` after `dt` clocks. -/
def afterEv (dt : Nat) (es : List Ev) (s : State) (f : State → State) : Answer := .next (f (s.clock dt es))

end Sys2Proof.Machine
end

