-- ==== Sys2Proof/Machine/Datum.lean ====
section
/-!
DEFINITION. Datums and trajectory segments (05 R94-R119): evaluation of a datum at an instant, the queue, stop ramps, the
sources (host appends, encoder, upstream, geared), publishing and stops. Positions, velocities, accelerations and jerks
are exact rationals in 2^-32 of their unit until they are stored; instants are PTP time in 2^-32 ns.
-/
namespace Sys2Proof

/-! ### Evaluation (R97, R101) -/

/-- Unwrapped position, velocity and acceleration, exact, in 2^-32 of their unit. -/
structure Kin where
  u : Rat
  v : Rat := 0
  a : Rat := 0
deriving DecidableEq, Repr

/-- A cubic piece after `tau` seconds. -/
def Kin.after (k : Kin) (j tau : Rat) : Kin :=
  { u := k.u + k.v * tau + k.a * tau * tau / 2 + j * tau * tau * tau / 6
    v := k.v + k.a * tau + j * tau * tau / 2
    a := k.a + j * tau }

/-- Seconds from nanoseconds. -/
def nsSec (n : Int) : Rat := (n : Rat) / 1000000000

/-- Seconds between two instants in 2^-32 ns. -/
def tSec (t t0 : Int) : Rat := ((t - t0 : Int) : Rat) / ((2 ^ 32 * 1000000000 : Nat) : Rat)

/-- The end of a segment in nanoseconds. -/
def Seg.fin (g : Seg) : Nat := g.t0 + g.dur

/-- The state at T0. -/
def Seg.begin_ (m : Nat) (g : Seg) : Kin := { u := ((g.wraps * (m : Int) + (g.p0 : Int) : Int) : Rat), v := g.v0, a := g.a0 }

/-- The state at the end. -/
def Seg.ending (m : Nat) (g : Seg) : Kin := (g.begin_ m).after g.j (nsSec g.dur)

/-- The stop ramp of a segment (R101), `tau` seconds after the segment's end. -/
def Seg.ramp (m : Nat) (g : Seg) (tau : Rat) : Kin :=
  let e := g.ending m
  let d1 := nsSec g.sd1
  let d2 := nsSec g.sd2
  if tau < d1 then e.after g.sj1 tau
  else
    let e1 := e.after g.sj1 d1
    if tau < d1 + d2 then e1.after g.sj2 (tau - d1)
    else { u := (e1.after g.sj2 d2).u }

/-- The instant at which the stop ramp of a segment ends, in nanoseconds. -/
def Seg.rampEnd (g : Seg) : Nat := g.fin + g.sd1 + g.sd2

/-- One piece, in its segment or on its stop ramp; the held position before any. -/
def onPiece (m : Nat) (held : Kin) (t : Int) : Option Seg → Kin × Option Seg
  | some g =>
    if t < (g.fin : Int) * 2 ^ 32 then ((g.begin_ m).after g.j (tSec t ((g.t0 : Int) * 2 ^ 32)), some g)
    else (g.ramp m (tSec t ((g.fin : Int) * 2 ^ 32)), none)
  | none => (held, none)

/-- The path from a piece on: the last of the queued segments whose T0 has come, itself until its end and its stop ramp
afterwards; the held position while no piece has begun. -/
def pathFrom (m : Nat) (held : Kin) (t : Int) : Option Seg → List Seg → Kin × Option Seg
  | cur, g :: rest => if (g.t0 : Int) * 2 ^ 32 ≤ t then pathFrom m held t (some g) rest else onPiece m held t cur
  | cur, [] => onPiece m held t cur

end Sys2Proof

namespace Sys2Proof.Machine

/-! ### Fields of a definition (category 2) -/

def State.datCfg (s : State) (d : Nat) : Word := s.cw 2 d 0
def State.datSource (s : State) (d : Nat) : Nat := (s.datCfg d).fld 2 0
def State.datGsrc (s : State) (d : Nat) : Nat := (s.datCfg d).fld 6 4
def State.datPub (s : State) (d : Nat) : Nat := (s.datCfg d).fld 11 8
/-- HORIZON in nanoseconds. -/
def State.datHorizon (s : State) (d : Nat) : Nat := (s.datCfg d).fld 19 12 * 1000000
def State.datVprof (s : State) (d : Nat) : Nat := (s.datCfg d).fld 31 20
/-- MOD; 2^32 units where it is 0 (R95), in 2^-32 units. -/
def State.datMod (s : State) (d : Nat) : Nat :=
  let m := pair64 (s.cw 2 d 1) (s.cw 2 d 2)
  if m = 0 then 2 ^ 64 else m
def State.datRatio (s : State) (d : Nat) : Int × Nat := (signed 32 (s.cw 2 d 3).toNat, (s.cw 2 d 4).toNat)
def State.datOfs (s : State) (d : Nat) : Nat := pair64 (s.cw 2 d 5) (s.cw 2 d 6)
def State.dat (s : State) (d : Nat) : Datum := sget {} s.dats d
def State.setDat (s : State) (d : Nat) (x : Datum) : State := { s with dats := sput {} s.dats d x }
def State.modDat (s : State) (d : Nat) (f : Datum → Datum) : State := s.setDat d (f (s.dat d))

/-- The path of a datum at an instant, and its active segment. -/
def Datum.path (m : Nat) (x : Datum) (t : Int) : Kin × Option Seg :=
  let held : Kin := { u := ((x.heldW * (m : Int) + (x.heldP : Int) : Int) : Rat) }
  match x.st with
  | .undefined => ({ u := 0 }, none)
  | .stopped => pathFrom m held t none x.queue
  | _ => pathFrom m held t x.ended x.queue

/-- The value of a datum as the unit evaluates it: unwrapped position, velocity, acceleration in whole 2^-32 of the
unit, and the SEQ of the active segment, 0 while none is active (DESIGN CHOICE, log 79). -/
structure DatVal where
  u   : Int
  v   : Int
  a   : Int
  seq : Nat
deriving DecidableEq, Repr

/-- Rounding of an evaluated quantity: within 2 units of 2^-32 of the exact value (R97, log 1). -/
def evalRound (d q : Nat) (t : Int) (moving : Bool) (x : Rat) : Int :=
  x.floor + (if moving then clampInt (-1) 2 (Config.evalError d q t.toNat) else 0)

/-- The evaluation of datum `d` at an instant in 2^-32 ns. -/
def State.datEval (s : State) (d : Nat) (t : Int) : DatVal :=
  let x := s.dat d
  let (k, act) := x.path (s.datMod d) t
  let moving := x.st = .running || x.st = .stopping || act.isSome
  { u := evalRound d 0 t moving k.u, v := evalRound d 1 t moving k.v, a := evalRound d 2 t moving k.a,
    seq := match act with | some g => g.seq | none => 0 }

/-- Position in [0, MOD) and WRAPS of an unwrapped position (R95). -/
def wrapPos (m : Nat) (u : Int) : Nat × Int := ((u % (m : Int)).toNat, u / (m : Int))

/-- The unwrapped position of a datum now. -/
def State.datNow (s : State) (d : Nat) : DatVal := s.datEval d s.ptp

/-! ### DAT_STS, DAT_HZ_HELD and the window of tasks (R117) -/

def datStCode : DatState → Nat
  | .undefined => 0 | .stopped => 1 | .running => 2 | .stopping => 3

/-- ns from now to the end of the last queued segment (DAT_HZ_HELD), not cut. -/
def State.hzHeld (s : State) (d : Nat) : Int :=
  match (s.dat d).queue.getLast? with
  | some g => (g.fin : Int) - s.now
  | none => 0

/-- The condition of R113: a datum that runs out along a DAT_STOP does not show it. -/
def State.hzCond (s : State) (d : Nat) : Bool :=
  let x := s.dat d
  s.datPub d ≠ 0 && (x.st = .running || x.st = .stopping) && !x.stopCmd && s.hzHeld d < (s.datHorizon d : Int)

/-- DAT_STS. -/
def State.datSts (s : State) (d : Nat) : Word :=
  let x := s.dat d
  w32 (datStCode x.st + 8 * ofBool x.starved + 16 * ofBool (s.hzCond d) + 32 * ofBool x.upLost + 64 * ofBool x.stopCmd +
    128 * ofBool x.fitValid + 256 * x.queue.length)

/-- The eight words of a datum in the D space at the present clock (Table 5.6). -/
def State.datWindow (s : State) (d : Nat) : List Word :=
  let e := s.datNow d
  let (p, w) := wrapPos (s.datMod d) e.u
  [w32 p, w32 (p / 2 ^ 32), w32 (pattern 64 e.v), w32 (pattern 64 e.v / 2 ^ 32), w32 (pattern 32 w), s.datSts d, w32 e.seq, 0]

/-! ### Queue changes -/

/-- What the checkpoint holds of a datum (Table 5.5). -/
def Datum.ckpt (x : Datum) : DatQ :=
  { st := datStCode x.st, seq := x.seq, segs := x.queue, ended := x.ended, heldP := x.heldP, heldW := x.heldW,
    phase := x.phase, ratio := x.ratio, engaged := x.engaged, stop := x.stopCmd, trunc := x.trunc, halts := x.halts }

/-- The record of a datum's queue, sent on every change of it (R115). -/
def State.recordDat (s : State) (d : Nat) : State := s.record 0 [.datumQ d (s.dat d).ckpt]

/-- An interrupt status bit of datum `d`: 0 STARVED, 1 HZ_SHORT, 2 FAULT, 3 STOPPED. -/
def State.datIrq (s : State) (d i : Nat) : State := s.raiseBit 19 (4 * d + i)

/-- HZ_SHORT follows its condition, with the interrupt when it rises (R113). -/
def State.refreshHz (s : State) (d : Nat) : State :=
  let c := s.hzCond d
  let s' := s.modDat d (fun x => { x with hzShort := c })
  if c && !(s.dat d).hzShort then s'.datIrq d 1 else s'

/-- A free choice between the whole numbers on both sides (log 15). -/
def freeRound (x : Rat) : Int := if x.floor = x.ceil then x.floor else if Config.roundUp x.floor then x.ceil else x.floor

/-- A jump at a segment's start (R99): counted, and the largest kept in 16.16 (log 15). -/
def State.jump (s : State) (d : Nat) (g : Seg) (at_ : Rat) : State :=
  let diff := ((g.begin_ (s.datMod d)).u - at_).abs
  if diff ≤ 2 then s
  else
    let s := s.count (Reg.DAT_JUMP_CNT d)
    let j := min 0xFFFFFFFF (freeRound (diff / 65536)).toNat
    if (s.reg (Reg.DAT_JUMP_MAX d)).toNat < j then s.setReg (Reg.DAT_JUMP_MAX d) (w32 j) else s

/-- The nearest whole number, with a free choice on a tie (log 8). -/
def nearest (q : Rat) : Int :=
  let f := q.floor
  let r := q - f
  if r < 1 / 2 then f else if 1 / 2 < r then f + 1 else if Config.tieUp f then f + 1 else f

/-- The WRAPS that puts P0 nearest to an unwrapped position, the lower on a tie (R97). -/
def nearestWraps (m p0 : Nat) (u : Rat) : Int := ((u - (p0 : Rat)) / (m : Rat) - 1 / 2).ceil

/-- The derived segment of a geared datum (R110), from a source segment with its modulo. -/
def derive (phase : Int) (ratio : Int × Nat) (m msrc : Nat) (g : Seg) : Seg :=
  let r : Rat := (ratio.1 : Rat) / (ratio.2 : Rat)
  let p := ((phase : Rat) + r * (g.begin_ msrc).u).floor
  let (p0, w) := wrapPos m p
  { g with p0 := p0, wraps := w, v0 := nearest (r * g.v0), a0 := nearest (r * g.a0), j := nearest (r * g.j),
           sj1 := nearest (r * g.sj1), sj2 := nearest (r * g.sj2), sent := 0 }

/-- A segment that enters the empty queue of a datum with its T0 not after now is active at once (R100). -/
def State.startsNow (s : State) (d : Nat) (g : Seg) : Bool := (s.dat d).queue = [] && g.t0 * 2 ^ 32 ≤ s.ptp

/-- A segment enters the queue of a datum: reduced, with its WRAPS, and active at once if it starts now (R97, R100). `wraps`
is given for a derived segment. -/
def State.enqueue (s : State) (d : Nat) (g : Seg) (wraps : Option Int) (seq : Nat) : State :=
  let x := s.dat d
  let m := s.datMod d
  let path := (x.path m ((g.t0 : Int) * 2 ^ 32)).1.u
  let p0 := g.p0 % m
  let g := { g with p0 := p0, wraps := wraps.getD (nearestWraps m p0 path), seq := seq }
  let starts := s.startsNow d g
  let s := if starts && x.ended.isSome then s.jump d g (x.path m s.ptp).1.u else s
  let s := s.modDat d (fun x =>
    { x with queue := x.queue ++ [g], seq := seq, st := if starts then .running else x.st,
             starved := if starts then false else x.starved })
  (s.recordDat d).refreshHz d

/-- The unwrapped position at which the last segment of a datum ends; the held position where none was queued. -/
def Datum.lastEnd (x : Datum) (m : Nat) : Rat :=
  match x.queue.getLast?, x.ended with
  | some g, _ => (g.ending m).u
  | none, some g => (g.ending m).u
  | none, none => ((x.heldW * (m : Int) + (x.heldP : Int) : Int) : Rat)

/-- A change of NUM or DEN takes effect with the source segment `g`: the geared position continues (R111). -/
def State.newRatio (s : State) (src e : Nat) (g : Seg) : State :=
  let now := s.datRatio e
  let x := s.dat e
  if x.ratio = now then s
  else
    let r : Rat := (now.1 : Rat) / (now.2 : Rat)
    s.modDat e (fun y => { y with ratio := now, phase := (x.lastEnd (s.datMod e) - r * (g.begin_ (s.datMod src)).u).floor })

/-- The derived segment of source segment `g` enters the queue of geared datum `e` (R110). -/
def State.deriveInto (s : State) (src e : Nat) (g : Seg) : State :=
  let s := s.newRatio src e g
  let x := s.dat e
  let h := derive x.phase x.ratio (s.datMod e) (s.datMod src) g
  s.enqueue e h (some h.wraps) ((x.seq + 1) % 2 ^ 32)

/-- The datums geared from datum `d`, engaged or waiting for it to start. -/
def State.geared (s : State) (d : Nat) (engaged : Bool) : List Nat :=
  (List.range 8).filter (fun e => s.datSource e = 4 && s.datGsrc e = d && (s.dat e).engaged = engaged)

/-- The geared datums that follow datum `d` and have engaged. -/
def State.followers (s : State) (d : Nat) : List Nat := s.geared d true

/-- The datums that follow datum `d`, itself first, through at most `fuel` gears. -/
def State.chain : Nat → State → Nat → List Nat
  | 0, _, d => [d]
  | fuel + 1, s, d => d :: (s.followers d).flatMap (State.chain fuel s)

/-- A geared datum engages: PHASE takes DAT_OFS (R111). -/
def State.setEngaged (s : State) (e : Nat) : State :=
  (s.modDat e (fun x => { x with engaged := true, phase := (s.datOfs e : Int), ratio := s.datRatio e })).recordDat e

/-- The segments of datum `d` that have not begun, with the one of it that begins now. -/
def State.notBegun (s : State) (d : Nat) (now : Option Nat) : List Seg :=
  (s.dat d).queue.filter (fun g => s.ptp < g.t0 * 2 ^ 32 || now = some g.t0)

/-- What segment `g`, which has entered the queue of datum `d`, does to the datums geared from it (R110, R111): each that has
engaged queues its derived segment in the same clock, and where `g` starts the datum, each that waits for that engages.
Derivation runs through the datums geared from one another; no chain is longer than the datums. -/
def State.feed : Nat → State → Nat → Seg → Bool → State
  | 0, s, _, _, _ => s
  | fuel + 1, s, d, g, starts =>
    let into (s : State) (e : Nat) (h : Seg) : State :=
      let n := (s.dat e).queue.length
      let t := s.deriveInto d e h
      match (t.dat e).queue[n]? with
      | some k => t.feed fuel e k (s.startsNow e k)
      | none => t
    let t := (s.followers d).foldl (fun t e => into t e g) s
    if starts then
      (s.geared d false).foldl (fun t e => (t.notBegun d (some g.t0)).foldl (fun t h => into t e h) (t.setEngaged e)) t
    else t

/-- The module derives and engages: not on a standby, nor while it waits to take over (R116). -/
def State.derives (s : State) : Bool := !s.shadows

/-- A segment enters the queue of datum `d` with its SEQ, and its derived segments enter those of its followers in the
same clock (R110). -/
def State.append (s : State) (d : Nat) (g : Seg) (seq : Nat) : State :=
  let n := (s.dat d).queue.length
  let starts := s.startsNow d g
  let s := s.enqueue d g none seq
  match (s.dat d).queue[n]? with
  | some h => if s.derives then s.feed 8 d h starts else s
  | none => s

/-- The conditions of R100 beside DUR. -/
def State.fits (s : State) (d : Nat) (g : Seg) : Bool :=
  s.ptp < g.fin * 2 ^ 32 &&
  (match (s.dat d).queue.getLast? with | some l => l.fin ≤ g.t0 | none => true)

/-- A geared datum takes in the derived segment of source segment `h`, and the datums geared from it theirs. -/
def State.takeIn (s : State) (src e : Nat) (h : Seg) : State :=
  let n := (s.dat e).queue.length
  let t := s.deriveInto src e h
  match (t.dat e).queue[n]? with
  | some k => t.feed 8 e k (s.startsNow e k)
  | none => t

/-- A geared datum engages: it derives every source segment that has not begun, and the one that begins now (R111). -/
def State.engage (s : State) (e : Nat) (now : Option Nat) : State :=
  let src := s.datGsrc e
  (s.notBegun src now).foldl (fun t h => t.takeIn src e h) (s.setEngaged e)

/-- Geared datums that wait for datum `d` to start engage when it does, with its segment that begins at `t0` (R111). -/
def State.engageWaiting (s : State) (d t0 : Nat) : State :=
  if s.derives then (s.geared d false).foldl (fun t e => t.engage e (some t0)) s else s

/-! ### Segment change, stop ramps (R98, R101, R114) -/

/-- The datum holds its position with velocity and acceleration zero (R101). Where no kept segment is queued any more, a
DAT_STOP is over: STOP_CMD clears and the command is answered (R114). -/
def State.datStop (s : State) (d : Nat) : State :=
  let x := s.dat d
  let m := s.datMod d
  let u := match x.ended with | some g => (g.ramp m (nsSec (g.sd1 + g.sd2))).u | none => 0
  let (p, w) := wrapPos m u.floor
  let last := x.queue = []
  let s := s.modDat d (fun x => { x with st := .stopped, heldP := p, heldW := w, starved := false })
  let s := s.datIrq d 3
  let s := if last then
      let s := s.modDat d (fun x => { x with stopCmd := false, stopSlot := none, trunc := none })
      match x.stopSlot with | some id => s.finishOk id [] | none => s
    else s
  (s.recordDat d).refreshHz d

/-- The eight segments of a datum that ended most recently are kept (R236). -/
def State.retain (s : State) (d : Nat) (g : Seg) : State :=
  { s with blk := { s.blk with retained := smod [] s.blk.retained d (fun l => (g :: l).take 8) } }

/-- The active segment ends (R98). -/
def State.segmentEnd (s : State) (d : Nat) : State :=
  let x := s.dat d
  match x.st, x.queue with
  | .running, g :: rest =>
    if s.ptp < g.fin * 2 ^ 32 then s
    else
      let s := s.retain d g
      match rest with
      | h :: _ =>
        if h.t0 = g.fin then
          let s := (s.modDat d (fun x => { x with queue := rest, ended := some g })).jump d h (g.ending (s.datMod d)).u
          (s.recordDat d).refreshHz d
        else
          let s := (s.modDat d (fun x => { x with queue := rest, ended := some g, st := .stopping, starved := true })).datIrq d 0
          (s.recordDat d).refreshHz d
      | [] =>
        let s := (s.modDat d (fun x => { x with queue := [], ended := some g, st := .stopping, starved := true })).datIrq d 0
        if g.sd1 = 0 ∧ g.sd2 = 0 then s.datStop d else (s.recordDat d).refreshHz d
  | _, _ => s

/-- A queued segment whose T0 has arrived while the datum is STOPPING or STOPPED becomes active (R98). -/
def State.segmentStart (s : State) (d : Nat) : State :=
  let x := s.dat d
  match x.st, x.queue with
  | .stopped, g :: _ | .stopping, g :: _ =>
    if s.ptp < g.t0 * 2 ^ 32 then s
    else
      let m := s.datMod d
      let before := (Datum.path m { x with queue := [] } ((g.t0 : Int) * 2 ^ 32)).1.u
      let s := if x.ended.isSome then s.jump d g before else s
      let s := s.modDat d (fun x => { x with st := .running, starved := false })
      ((s.engageWaiting d g.t0).recordDat d).refreshHz d
  | _, _ => s

/-- A stop ramp ends with no segment begun (R101). -/
def State.datumStopped (s : State) (d : Nat) : State :=
  let x := s.dat d
  match x.st, x.ended with
  | .stopping, some g =>
    if s.ptp < g.rampEnd * 2 ^ 32 then s
    else match x.queue with
      | h :: _ => if h.t0 * 2 ^ 32 ≤ s.ptp then s else s.datStop d
      | [] => s.datStop d
  | _, _ => s

/-! ### Host appends (R104) -/

/-- Word `i` of the staging registers. -/
def State.appW (s : State) (d i : Nat) : Word := s.reg (Reg.DAT_APP_Wi d i)

/-- A 64-bit field of the staged record. -/
def State.app64 (s : State) (d i : Nat) : Nat := pair64 (s.appW d i) (s.appW d (i + 1))

/-- The staged segment. -/
def State.staged (s : State) (d : Nat) : Seg :=
  { t0 := s.app64 d 0, dur := (s.appW d 2).toNat, seq := 0, p0 := s.app64 d 4, v0 := signed 64 (s.app64 d 6),
    a0 := signed 64 (s.app64 d 8), j := signed 64 (s.app64 d 10), sj1 := signed 64 (s.app64 d 12),
    sj2 := signed 64 (s.app64 d 14), sd1 := (s.appW d 16).toNat, sd2 := (s.appW d 17).toNat }

/-- The result of a PUSH: the lowest code of the refusal causes that apply. -/
def State.pushResult (s : State) (d : Nat) : Nat :=
  let g := s.staged d
  if 256 ≤ (s.dat d).queue.length then 1
  else if ¬ (s.datSource d = 1 ∧ s.datVprof d = 0xFFF) then 2
  else if g.fin * 2 ^ 32 ≤ s.ptp then 3
  else if ¬ s.runs then 4
  else if (s.dat d).stopCmd then 5
  else if g.dur < 10000 then 6
  else 0

/-- A PUSH: the result is reported, and OK queues the segment with the next SEQ. A T0 before the end of the last queued
segment overlaps it, which the manual calls unpredictable (R100). -/
def State.push (s : State) (d : Nat) : State :=
  let r := s.pushResult d
  if r ≠ 0 then s.setRegF (Reg.DAT_APP_STS d) 2 0 r
  else if !s.fits d (s.staged d) then s.misused 100 0x40000
  else
    let seq := ((s.dat d).seq + 1) % 2 ^ 32
    let s' := s.append d (s.staged d) seq
    (s'.setRegF (Reg.DAT_APP_STS d) 2 0 0).setRegF (Reg.DAT_APP_STS d) 31 16 seq

/-! ### Encoders (R105-R107) -/

def State.encCfg (s : State) (d : Nat) : Word := s.cw 2 d 7
def State.modEnc (s : State) (d : Nat) (f : Encoder → Encoder) : State := s.modDat d (fun x => { x with enc := f x.enc })

/-- The place of a pair of levels in the quadrature sequence, A before B (log 11). -/
def quad (a b : Bool) : Nat := match a, b with | false, false => 0 | true, false => 1 | true, true => 2 | false, true => 3

/-- Fast input `k` of the module; its filtered level is what encoders take (R329). -/
def State.fi (s : State) (k : Nat) : FastIn := sget {} s.fis k

/-- PTP time in nanoseconds of the start of the last edge of a fast input; 0 before any. -/
def FastIn.last (x : FastIn) : Nat := match x.hist with | e :: _ => e.1 | [] => 0

/-- The fast inputs of A, B and Z of an encoder. -/
def State.pinA (s : State) (d : Nat) : FastIn := s.fi ((s.encCfg d).fld 4 2)
def State.pinB (s : State) (d : Nat) : FastIn := s.fi ((s.encCfg d).fld 7 5)
def State.pinZ (s : State) (d : Nat) : FastIn := s.fi ((s.encCfg d).fld 10 8)

/-- The encoder of a definition that becomes active: nothing counted, the levels of A and B as they stand. -/
def State.newEncoder (s : State) (d : Nat) : Encoder := { a := (s.pinA d).level, b := (s.pinB d).level }

/-- The count changes at an instant. -/
def Encoder.step (e : Encoder) (count : Int) (t : Nat) : Encoder :=
  { e with count := count, te := t, steps := (count, t) :: e.steps }

/-- A transition of A and B to the levels `a` and `b`, counted at the start of its later edge (R105). One that the fast inputs
do not show has not happened. -/
def State.encoderEdge (s : State) (d : Nat) (a b : Bool) : State :=
  let e := (s.dat d).enc
  if s.datSource d ≠ 2 || 1 < (s.encCfg d).fld 1 0 || (s.pinA d).level ≠ a || (s.pinB d).level ≠ b then s
  else
    let t := max (s.pinA d).last (s.pinB d).last
    let s' := s.modEnc d (fun e => { e with a := a, b := b })
    let up : Int := if (s.encCfg d).bit 11 then -1 else 1
    match (quad a b + 4 - quad e.a e.b) % 4 with
    | 0 => s'
    | 1 => s'.modEnc d (fun e => e.step (e.count + up) t)
    | 2 => (s'.countF (Reg.DAT_ENC_ERR d) 15 0 1).datIrq d 2
    | _ => s'.modEnc d (fun e => e.step (e.count - up) t)

/-- The count as it stands in the 32-bit register. -/
def encReg (e : Encoder) : Word := w32 (pattern 32 e.count)

/-- A Z edge (R106), the rise of its fast input (log 11): the first homes the count, the second establishes the counts per
revolution, later ones are checked. A second one at the very count of the first establishes nothing (log 11). -/
def State.encoderZ (s : State) (d : Nat) : State :=
  let e := (s.dat d).enc
  let z := s.pinZ d
  if s.datSource d ≠ 2 || (s.encCfg d).fld 1 0 ≠ 1 || !(s.encCfg d).bit 26 || !z.level || e.zAt = some z.last then s
  else
    let s := s.modEnc d (fun e => { e with zAt := some z.last })
    match e.homed with
    | none =>
      let c := signed 32 (s.cw 2 d 8).toNat
      s.modEnc d (fun e => { e.step c z.last with homed := some c })
    | some h =>
      let diff := e.count - h
      match e.perRev with
      | none => if diff = 0 then s else s.modEnc d (fun e => { e with perRev := some diff.natAbs })
      | some n =>
        let r := diff % (n : Int)
        if 1 < r && r < (n : Int) - 1 then (s.countF (Reg.DAT_ENC_ERR d) 31 16 1).datIrq d 2 else s

/-- The fit period in nanoseconds. -/
def State.fitT (s : State) (d : Nat) : Nat := 62500 * 2 ^ (s.encCfg d).fld 14 12

/-- The last fit instant at or before now: whole multiples of T counted from a second boundary (R107). -/
def State.fitInstant (s : State) (d : Nat) : Nat :=
  let sec := s.now / 1000000000 * 1000000000
  sec + (s.now - sec) / s.fitT d * s.fitT d

/-- Gray code to binary, over `n` bits. -/
def grayToBin : Nat → Nat → Nat
  | 0, _ => 0
  | n + 1, g => g ^^^ grayToBin n (g / 2)

/-- An SSI frame unwrapped into the count; `t` is the instant of its first falling clock edge (R105). -/
def Encoder.ssi (e : Encoder) (bits raw t : Nat) : Encoder :=
  match e.raw with
  | none => { e.step raw t with raw := some raw }
  | some r =>
    let diff := signed bits ((raw + 2 ^ bits - r) % 2 ^ bits)
    if diff = 0 then { e with raw := some raw } else { e.step (e.count + diff) t with raw := some raw }

/-- The count and the time of its last change at or before an instant. -/
def Encoder.at_ (e : Encoder) (t : Nat) : Int × Nat :=
  match e.steps.find? (fun p => decide (p.2 ≤ t)) with
  | some p => p
  | none => if e.steps = [] then (e.count, e.te) else e.hist.headD (0, 0)

/-- The smallest whole number not below a + √b, for rationals with b ≥ 0. -/
def ceilSqrt (a b : Rat) : Int :=
  let start := a.floor + (Nat.sqrt b.floor.toNat : Int)
  let ok (n : Int) : Bool := decide (a ≤ (n : Rat)) && decide (b ≤ ((n : Rat) - a) * ((n : Rat) - a))
  (List.range 4).foldr (fun (k : Nat) (acc : Int) => if ok (start + (k : Int)) then start + (k : Int) else acc) (start + 4)

/-- The stop ramp of R102 for an end state with v ≥ 0 and jerk magnitude Js: SJ1, SD1, SJ2, SD2. -/
def rampFor (v a js : Rat) : Rat × Int × Rat × Int :=
  let al := a / js
  let q := al * al / 2 + v / js
  if 0 ≤ al ∨ al * al ≤ q then
    (-js, ceilSqrt (al * 1000000000) (q * 1000000000000000000), js, ceilSqrt 0 (q * 1000000000000000000))
  else (0, 0, a * a / (2 * v), (-2 * v / a * 1000000000).ceil)

/-- Both durations fit in 32 bits. -/
def rampFits (r : Rat × Int × Rat × Int) : Bool := r.2.1 < 2 ^ 32 && r.2.2.2 < 2 ^ 32

/-- The smallest jerk magnitude at or above `lo` for which both durations fit, by halving an interval whose upper end
fits. -/
def raiseJs (v a : Rat) : Nat → Nat → Nat → Nat
  | 0, _, hi => hi
  | fuel + 1, lo, hi =>
    if hi ≤ lo then hi
    else
      let mid := (lo + hi) / 2
      if rampFits (rampFor v a mid) && mid ≠ 0 then raiseJs v a fuel lo mid else raiseJs v a fuel (mid + 1) hi

/-- The computed stop ramp (R102) of an end state: SJ1, SD1, SJ2, SD2. -/
def stopRamp (v a : Rat) (js : Nat) : Int × Nat × Int × Nat :=
  let neg := v < 0
  let v' := if neg then -v else v
  let a' := if neg then -a else a
  let r := rampFor v' a' js
  let r := if rampFits r && js ≠ 0 then r else rampFor v' a' (raiseJs v' a' 100 (js + 1) (2 ^ 96))
  let sg : Rat := if neg then -1 else 1
  (nearest (sg * r.1), r.2.1.toNat, nearest (sg * r.2.2.1), r.2.2.2.toNat)

/-- A value in 2^-32 units as whole steps of 2^-16 units, the nearest (log 15). -/
def fix16 (q : Rat) : Int := nearest (q / 65536)

/-- The velocity of a fit (R107) in 2^-32 units/s, from the count and its time now and n fits ago. -/
def fitVm (scale : Nat) (now : Int × Nat) (old : Option (Int × Nat)) : Rat :=
  match old with
  | none => 0
  | some p => if now.1 = p.1 then 0 else ((now.1 - p.1 : Int) : Rat) * (scale : Rat) / nsSec ((now.2 : Int) - (p.2 : Int))

/-- The lead of a fit in nanoseconds. -/
def State.fitLead (s : State) (d : Nat) : Nat :=
  let t := s.fitT d
  if s.datPub d = 0 then t else max t ((s.datHorizon d + t - 1) / t * t)

/-- An unwrapped position brought nearest to another by whole modulos (log 15). -/
def nearTo (m : Nat) (p ref : Rat) : Rat := p + (((ref - p) / (m : Rat) - 1 / 2).ceil : Rat) * (m : Rat)

/-- The segment a fit makes, from p1, v1 and the predecessor's end. -/
def fitSeg (m js t0 t : Nat) (p1 v1 : Rat) (pred : Option Kin) : Seg :=
  let tt := nsSec t
  let (p0, v0, a0, j) := match pred with
    | none => (p1 - v1 * tt, v1, 0, 0)
    | some k =>
      let p1 := nearTo m p1 k.u
      let d := p1 - k.u - k.v * tt
      let e := v1 - k.v
      (k.u, k.v, (6 * d - 2 * e * tt) / (tt * tt), (6 * e * tt - 12 * d) / (tt * tt * tt))
  let p := nearest p0
  let g : Seg := { t0 := t0, dur := t, seq := 0, p0 := (p % (m : Int)).toNat, v0 := nearest v0, a0 := nearest a0,
                   j := nearest j, sj1 := 0, sj2 := 0, sd1 := 0, sd2 := 0 }
  let k := (g.begin_ m).after g.j tt
  let (sj1, sd1, sj2, sd2) := stopRamp k.v k.a js
  { g with sj1 := sj1, sd1 := sd1, sj2 := sj2, sd2 := sd2 }

/-- The module fits: it runs the line, or hands it over (R116). -/
def State.fitsNow (s : State) : Bool := s.runs || s.role = 5

/-- The segment that a fitted one continues: the last that was queued. -/
def Datum.lastSeg (x : Datum) : Option Seg := match x.queue.getLast? with | some g => some g | none => x.ended

/-- The fit error at a fit instant is stored, and the largest kept (R107). -/
def State.fitError (s : State) (d : Nat) (q : Rat) : State :=
  let err := fix16 q
  let s := s.setReg (Reg.DAT_FIT_ERR d) (w32 (pattern 32 (clampInt (-(2 ^ 31)) (2 ^ 31 - 1) err)))
  let big := min 0xFFFFFFFF err.natAbs
  if (s.reg (Reg.DAT_FIT_ERR_MAX d)).toNat < big then s.setReg (Reg.DAT_FIT_ERR_MAX d) (w32 big) else s

/-- A fit instant (R107): the history advances, and a module that runs the line queues a segment and records the fit
error. `raw` is the SSI frame read at the instant, whose first falling clock edge lay `back` nanoseconds ago. -/
def State.encoderFit (s : State) (d raw back : Nat) : State :=
  let tk := s.fitInstant d
  let e := (s.dat d).enc
  if s.datSource d ≠ 2 || (match e.lastFit with | some l => decide (tk ≤ l) | none => false) then s
  else
    let kind := (s.encCfg d).fld 1 0
    let bits := (s.encCfg d).fld 22 18 + 1
    let e := if kind < 2 then e
      else e.ssi bits (if kind = 3 then grayToBin bits (raw % 2 ^ bits) else raw % 2 ^ bits) (min tk (s.now - back))
    let p := e.at_ tk
    let n := (s.encCfg d).fld 17 15 + 1
    let scale := pair64 (s.cw 2 d 9) (s.cw 2 d 10)
    let vm := fitVm scale p e.hist[n - 1]?
    let fits := min 9 (e.fits + 1)
    let pos := ((s.datEval d ((tk : Int) * 2 ^ 32)).u : Rat)
    let m0 : Rat := ((p.1 * (scale : Int) : Int) : Rat)
    let ofs : Int := if e.realign && s.fitsNow then (pos - m0).floor else e.offset
    let e := { e with hist := (p :: e.hist).take 9, fits := fits, lastFit := some tk, offset := ofs, 
                      realign := e.realign && !s.fitsNow, steps := e.steps.filter (fun q => decide (tk < q.2)) }
    let s := s.modDat d (fun x => { x with enc := e, fitValid := n + 1 ≤ fits })
    if !(n + 1 ≤ fits) || !s.fitsNow then s
    else
      let t := s.fitT d
      let mo := s.datMod d
      let t0 := tk + s.fitLead d
      let m := m0 + ofs
      let p1 := m + vm * nsSec ((t0 + t : Nat) - (p.2 : Int))
      let g := fitSeg mo (pair64 (s.cw 2 d 11) (s.cw 2 d 12)) t0 t p1 vm ((s.dat d).lastSeg.map (Seg.ending mo))
      let s := s.fitError d (nearTo mo (m + vm * nsSec ((tk : Int) - (p.2 : Int))) pos - pos)
      if s.fits d g && (s.dat d).queue.length < 256 then s.append d g (((s.dat d).seq + 1) % 2 ^ 32) else s

/-! ### Upstream datums (R108, R109) -/

/-- A received segment replaces the held one with its SEQ, in the place the path gives it, and the derived ones of the geared
datums likewise (log 10). -/
def State.replace : Nat → State → Nat → Seg → Option Int → Seg → State
  | 0, s, _, _, _, _ => s
  | fuel + 1, s, d, h, wraps, g =>
    let x := s.dat d
    let m := s.datMod d
    let path := (Datum.path m { x with queue := x.queue.filter (fun y => decide (y.t0 < h.t0)) } ((g.t0 : Int) * 2 ^ 32)).1.u
    let g := { g with p0 := g.p0 % m, wraps := wraps.getD (nearestWraps m (g.p0 % m) path), seq := h.seq, sent := h.sent }
    let s := (s.modDat d (fun x => { x with queue := x.queue.map (fun y => if y.seq = h.seq then g else y) })).recordDat d
    (s.followers d).foldl (fun s e =>
      let y := s.dat e
      match y.queue.find? (fun k => k.t0 = h.t0) with
      | some k =>
        let k' := derive y.phase y.ratio (s.datMod e) m g
        s.replace fuel e k (some k'.wraps) k'
      | none => s) (s.refreshHz d)

/-- A received segment for UPSTREAM datum `d`, under the epoch of its frame. -/
def State.upSeg (s : State) (d : Nat) (g : Seg) (epoch : Nat) : State :=
  let x := s.dat d
  let dropped (s : State) : State := (s.countF (Reg.DAT_UP_DROP d) 15 0 1).datIrq d 2
  let accept (s : State) : State := (s.modDat d (fun x => { x with upLost := false, upAge := 0 }))
  let g := { g with epoch := epoch, sent := 0 }
  if x.stopCmd then s
  else if x.queue = [] then
    if g.dur < 10000 || g.fin * 2 ^ 32 ≤ s.ptp then dropped s else (accept s).append d g g.seq
  else match x.queue.find? (fun h => h.seq = g.seq) with
    | some h =>
      if h.epoch = epoch then s
      else if h.epoch < epoch ∧ s.ptp < h.t0 * 2 ^ 32 then
        ((accept s).replace 8 d h none g).countF (Reg.DAT_UP_DROP d) 31 16 1
      else dropped s
    | none =>
      if g.seq = (x.seq + 1) % 2 ^ 32 ∧ 10000 ≤ g.dur ∧ s.fits d g = true ∧ x.queue.length < 256 then
        (accept s).append d g g.seq
      else dropped s

/-- No segment was accepted for TIMEOUT cycles (R109). -/
def State.upTimeout (s : State) (d : Nat) : State :=
  let x := s.dat d
  if s.datSource d = 3 && !x.upLost && (s.cw 2 d 13).fld 31 24 ≤ x.upAge then
    (s.modDat d (fun x => { x with upLost := true })).datIrq d 2
  else s

/-! ### Publishing (R112) and DAT_STOP (R114) -/

/-- The cycle time of a port in nanoseconds: CYCLE_NS of its item (Table 7.5). -/
def State.cycleNs (s : State) (port : Nat) : Nat := (s.cw 3 port 0).toNat

/-- The module hands segments over: it runs the line, or hands it over and has not sent SWAP (R116, R289). -/
def State.publishes (s : State) : Bool :=
  s.runs || (s.role = 5 && (match s.pair.hand with | some h => h.swap = none | none => true))

/-- Segments handed to a port's publisher: they are due, and the SEQ of the last is LAST_SEQ of the stream (R145). -/
def Port.hand (p : Port) (stream : Nat) (new : List DueSeg) : Port :=
  { p with dueSegs := p.dueSegs ++ new,
           lastSeq := match new.getLast? with | some g => sput 0 p.lastSeq stream g.seg.seq | none => p.lastSeq }

/-- The hand-over of what comes within the horizon of datum `d` to the publisher of each port in PUB. -/
def State.handSegments (s : State) (d : Nat) : State :=
  if !s.publishes then s
  else
    let pub := s.datPub d
    let lim := s.ptp + s.datHorizon d * 2 ^ 32
    let due (n : Nat) (g : Seg) : Bool := decide (pub / 2 ^ n % 2 = 1) && decide (g.sent / 2 ^ n % 2 = 0) && decide (g.t0 * 2 ^ 32 ≤ lim)
    let q := (s.dat d).queue
    let ports := [0, 1, 2, 3].foldl (fun ps n =>
      let new := (q.filter (due n)).map (fun g => ({ stream := d, seg := g } : DueSeg))
      if new = [] then ps else smod {} ps n (fun p => p.hand d new)) s.ports
    let mark (g : Seg) : Seg := [0, 1, 2, 3].foldl (fun (g : Seg) n => if due n g then { g with sent := g.sent + 2 ^ n } else g) g
    if q.any (fun g => due 0 g || due 1 g || due 2 g || due 3 g) then
      (({ s with ports := ports } : State).modDat d (fun x => { x with queue := x.queue.map mark })).recordDat d
    else s

/-- A datum's queue cut after the first segment that ends at or after `t` ns, with the SEQ of the last one kept. -/
def cutQueue (t : Nat) : List Seg → List Seg
  | [] => []
  | g :: rest => if t ≤ g.fin then [g] else g :: cutQueue t rest

/-- The queue of axis stream `a`. -/
def State.axisQ (s : State) (a : Nat) : List Seg := sget [] s.blk.streams a

/-- What the checkpoint holds of an axis stream (R239). -/
def State.axisCkpt (s : State) (a : Nat) : AxisQ :=
  ⟨sget 0 s.blk.axisSeq a, s.axisQ a, sget none s.blk.axisLast a, sget none s.blk.axisTrunc a⟩

/-- An axis-stream queue replaced, with its record. -/
def State.setAxis (s : State) (a : Nat) (q : List Seg) (seq : Nat) : State :=
  let s := { s with blk := { s.blk with streams := sput [] s.blk.streams a q, axisSeq := sput 0 s.blk.axisSeq a seq } }
  s.record 0 [.axisQ a (s.axisCkpt a)]

/-- The publishing ports of a stream told of its truncation to `q` (R148). -/
def State.cutPorts (s : State) (pub stream last : Nat) (q : List Seg) : State :=
  let cut (p : Port) : Port :=
    { p with truncs := p.truncs.filter (fun t => t.stream ≠ stream) ++ [{ stream := stream, seq := last }],
             dueSegs := p.dueSegs.filter (fun g => !(g.stream = stream && !(q.any (fun h => h.seq = g.seg.seq)))) }
  { s with ports := [0, 1, 2, 3].foldl (fun ps n => if pub / 2 ^ n % 2 = 1 then smod {} ps n cut else ps) s.ports }

/-- The queue of a datum cut to `q`: each publishing port keeps of its due segments those of the queue, and tells the
stations the SEQ of the last kept segment (R148). -/
def State.truncate (s : State) (d : Nat) (q : List Seg) : State :=
  let last := match q.getLast? with | some g => g.seq | none => (s.dat d).seq
  let s := (s.cutPorts (s.datPub d) d last q).modDat d (fun x => { x with queue := q, trunc := some last })
  (s.recordDat d).refreshHz d

/-- Items of the instances of GEAR and CAMT that feed an axis stream from datum `d`: word 0 of their IN copy names it. -/
def State.axisFrom (s : State) (d : Nat) : List Word :=
  (s.cfgA.filter (fun e => e.1 / (8192 * 1024) = 6 && e.1 % 1024 = 8 && e.2.bit 31)).filterMap (fun e =>
    let i := e.1 / 1024 % 8192
    let ty := (s.cw 6 i 0).fld 2 0
    if (ty = 3 || ty = 4) && (sget 0 s.blk.mem ((s.cw 6 i 1).fld 19 0 + 8)).fld 2 0 = d then some e.2 else none)

/-- The axis streams derived from a truncated datum lose what begins at or after `t` (R146). -/
def State.truncateAxes (s : State) (d t : Nat) : State :=
  (s.axisFrom d).foldl (fun s w =>
    let a := w.fld 9 0
    let q := (s.axisQ a).filter (fun g => decide (g.t0 < t))
    if q.length = (s.axisQ a).length then s
    else
      let last := match q.getLast? with | some g => g.seq | none => sget 0 s.blk.axisSeq a
      let s := { s with blk := { s.blk with axisTrunc := sput none s.blk.axisTrunc a (some last) } }
      (s.cutPorts (w.fld 13 10) (0x1000 + a) last q).setAxis a q (sget 0 s.blk.axisSeq a)) s

/-- The datums geared from a truncated one lose the segments derived from the discarded ones: those that begin after
`t0`, the begin of the last segment kept (R110, R148). -/
def State.truncateAll : Nat → State → Nat → List Seg → State
  | 0, s, d, q => s.truncate d q
  | fuel + 1, s, d, q =>
    let s := s.truncate d q
    match q.getLast? with
    | none => s
    | some l => (s.followers d).foldl (fun s e =>
        let p := (s.dat e).queue.filter (fun g => decide (g.t0 ≤ l.t0))
        if p.length = (s.dat e).queue.length then s else s.truncateAll fuel e p) (s.truncateAxes d l.fin)

/-- DAT_STOP on datum `d` (R114): the slot waits for the end of the stop ramp. -/
def State.stopDatum (s : State) (d id : Nat) : State :=
  let x := s.dat d
  if x.st ≠ .running || (s.datSource d ≠ 1 && s.datSource d ≠ 3) then s.finishErr id stState
  else
    let pub := s.datPub d
    let l := 2 * ([0, 1, 2, 3].foldl (fun m n => if pub / 2 ^ n % 2 = 1 then max m (s.cycleNs n) else m) 0)
    let s := s.modDat d (fun x => { x with stopCmd := true, stopSlot := some id, halts := (x.halts + 1) % 2 ^ 32 })
    s.truncateAll 8 d (cutQueue (s.now + l) x.queue)

/-! ### The commands -/

/-- The event of a segment that datum `d` queues, and those of the datums geared from it. -/
def State.pushEvs (s : State) (d : Nat) : List Ev := (State.chain 8 s d).map (fun e => ⟨.push, e, 0⟩)

/-- SEGMENT_START. -/
def execSegmentStart (dt d : Nat) (s : State) : Answer := afterEv dt [⟨.segStart, d % 8, 0⟩] s (fun s => s.segmentStart (d % 8))
/-- DATUM_STOPPED. -/
def execDatumStopped (dt d : Nat) (s : State) : Answer := afterEv dt [⟨.rampEnd, d % 8, 0⟩] s (fun s => s.datumStopped (d % 8))
/-- ENCODER_EDGE. -/
def execEncoderEdge (dt d : Nat) (a b : Bool) (s : State) : Answer := after dt s (fun s => s.encoderEdge (d % 8) a b)
/-- ENCODER_Z_EDGE. -/
def execEncoderZEdge (dt d : Nat) (s : State) : Answer := after dt s (fun s => s.encoderZ (d % 8))
/-- ENCODER_FIT. -/
def execEncoderFit (dt d : Nat) (ssi : SsiFrame) (s : State) : Answer :=
  afterEv dt (s.pushEvs (d % 8)) s (fun s => s.encoderFit (d % 8) ssi.raw ssi.back)
/-- UPSTREAM_TIMEOUT. -/
def execUpstreamTimeout (dt d : Nat) (s : State) : Answer := afterEv dt [⟨.upTimeout, d % 8, 0⟩] s (fun s => s.upTimeout (d % 8))
/-- HZ_SHORT. -/
def execHzShort (dt d : Nat) (s : State) : Answer := after dt s (fun s => s.refreshHz (d % 8))

end Sys2Proof.Machine
end

