-- ==== Sys2Proof/Machine/Stake.lean ====
section
/-!
DEFINITION. The stake unit (06 R120-R137): the crossing test, what a firing does, the dispatch of actions, arming by the
host and by task releases, and what commit and withhold do to provisional changes. Also the start of a conversion (R304),
which stakes and comparators cause. Positions are unwrapped, in 2^-32 units.
-/
namespace Sys2Proof.Machine

/-! ### Loaded parts (Table 6.1, R122) -/

def State.stkW (s : State) (i w : Nat) : Word := s.cw 5 i w
def State.stkDatum (s : State) (i : Nat) : Nat := (s.stkW i 0).fld 2 0
def State.stkDir (s : State) (i : Nat) : Nat := (s.stkW i 0).fld 4 3
def State.stkMode (s : State) (i : Nat) : Nat := (s.stkW i 0).fld 6 5
def State.stkTarget (s : State) (i : Nat) : Nat := pair64 (s.stkW i 1) (s.stkW i 2)
def State.stkCount (s : State) (i : Nat) : Nat := (s.stkW i 0).fld 31 16
/-- LEAD of the entry's slot, in nanoseconds. -/
def State.stkLead (s : State) (i : Nat) : Nat := (s.cw 5 (4096 + s.stkDatum i) ((s.stkW i 0).fld 10 8)).fld 26 0
def State.stkHyst (s : State) (d : Nat) : Nat := pair64 (s.cw 5 (4096 + d) 8) (s.cw 5 (4096 + d) 9)
def State.stake (s : State) (i : Nat) : Stake := sget {} s.stk.entries i
def State.setStake (s : State) (i : Nat) (e : Stake) : State :=
  { s with stk := { s.stk with entries := sput {} s.stk.entries i e } }

/-! ### Conversions (R304) -/

/-- Word `i` of item `k` of the channel modes category for what acts from the next I/O instant of group `g` (R301). -/
def State.ioW (s : State) (g k i : Nat) : Word :=
  match (sget {} s.grps g : Group).old with
  | some o => sget 0 o (cfgKey 1 k i)
  | none => s.cw 1 k i

/-- The group is TRIGGERED. -/
def State.triggered (s : State) (g : Nat) : Bool := (s.ioW g (32 + g) 0).bit 1

/-- Conversion time in nanoseconds; a CONV_T above 0x4 is a misuse, and its time a free value (log 23). -/
def convNs (c : Nat) : Nat :=
  match c with
  | 0 => 62500 | 1 => 125000 | 2 => 250000 | 3 => 1000000 | 4 => 20000000 | _ => Config.freeValue 2 c

/-- The conversion time of a group. -/
def State.convT (s : State) (g : Nat) : Nat := convNs ((s.ioW g (32 + g) 2).fld 2 0)

/-- A triggered conversion of the group runs. -/
def State.converting (s : State) (g : Nat) : Bool := (sget {} s.grps g : Group).conv.any (fun c => s.now < c.1)

/-- A converter start for group `g`: ignored by a FREE group, dropped and counted while a conversion runs. -/
def State.convStart (s : State) (g : Nat) : State :=
  if !s.hasGroup g || !s.domainOn 9 || !s.triggered g then s
  else if s.converting g then (s.countF (Reg.GRP_CONV_DROP g) 15 0 1).raiseBit (29 + g) 5
  else
    let e := s.now + s.convT g
    { s with grps := smod {} s.grps g (fun x => { x with conv := (e, e + 60000) :: x.conv }) }

/-- A converter start for a mask of groups. -/
def State.convStartMask (s : State) (mask : Nat) : State :=
  let s := if mask % 2 = 1 then s.convStart 0 else s
  if mask / 2 % 2 = 1 then s.convStart 1 else s

/-! ### Arming -/

/-- The instant an entry looks at: now + LEAD + 5 ns, in 2^-32 ns. -/
def State.lookahead (s : State) (i : Nat) : Nat := s.ptp + (s.stkLead i + 5) * 2 ^ 32

/-- The reference an entry takes in this clock (R123): its lookahead's position, and the lookahead. -/
def State.reference (s : State) (i : Nat) : Int × Nat :=
  ((s.datEval (s.stkDatum i) (s.lookahead i)).u, s.lookahead i)

/-- An entry that becomes armed takes its reference (R123), its hysteresis cleared (R186). -/
def State.armed (s : State) (i : Nat) (e : Stake) (prov : Option Nat) : Stake :=
  { e with st := if prov.isSome then .prov else .armed, ref := some (s.reference i), block := false, prov := prov }

/-- The live part as loaded (R133). -/
def State.loadedStake (s : State) (i : Nat) : Stake := { target := s.stkTarget i, count := s.stkCount i }

/-- The record of an entry's live part (R135). -/
def State.stakeRec (s : State) (i : Nat) : DeltaRec :=
  let e := s.stake i
  .stake i (match e.st with | .disarmed => 0 | .armed => 1 | .prov => 2) e.target e.count e.block e.lastXt

/-- A change by the host: the record goes with the next delta, applied on arrival. -/
def State.hostStake (s : State) (i : Nat) (e : Stake) : State :=
  let s := s.setStake i e
  s.record 0 [s.stakeRec i]

/-- W7.ARM (R128). -/
def State.armEntry (s : State) (i : Nat) : State :=
  if (s.stake i).st = .disarmed then s.hostStake i (s.armed i (s.stake i) none) else s

/-- W7.DISARM (R128). -/
def State.disarmEntry (s : State) (i : Nat) : State :=
  if (s.stake i).st = .disarmed then s else s.hostStake i { s.stake i with st := .disarmed, ref := none, block := false }

/-- W7.RELOAD (R128); on an armed entry its result is unpredictable. -/
def State.reloadEntry (s : State) (i : Nat) : State :=
  if (s.stake i).st = .disarmed then s.hostStake i { s.stake i with target := s.stkTarget i, count := s.stkCount i }
  else s.misused 128 0x50000

/-- A write of the live target (R128); on an armed entry its result is unpredictable. -/
def State.writeTarget (s : State) (i v : Nat) : State :=
  if (s.stake i).st = .disarmed then s.hostStake i { s.stake i with target := v } else s.misused 128 0x50000

/-- An entry at a swap (R133). -/
def State.swapEntry (s : State) (i : Nat) : State :=
  let e := s.loadedStake i
  s.setStake i (if (s.stkW i 0).bit 7 then s.armed i e none else e)

/-- Every entry at a swap: those the table lists are loaded, the others stand as an empty item is. What running releases had
changed of the old table is final, so that no withhold brings it back (log 79). -/
def State.swapStakes (s : State) : State :=
  let listed := (s.cfgA.filter (fun e => 5 * 8192 * 1024 ≤ e.1 ∧ e.1 < (5 * 8192 + 4096) * 1024)).map (fun e => e.1 / 1024 % 8192)
  let s := { s with stk := { s.stk with entries := [] },
                    engs := s.engs.map (fun e => (e.1, { e.2 with rel := e.2.rel.map (fun r => { r with saved := [] }) })) }
  listed.eraseDups.foldl (fun s i => s.swapEntry i) s

/-! ### Changes by a task release (R132, R186) -/

/-- STARM. -/
def State.provArm (s : State) (eng i : Nat) : State :=
  if (s.stake i).st = .disarmed then s.setStake i (s.armed i (s.stake i) (some eng)) else s

/-- STDIS. -/
def State.provDisarm (s : State) (eng i : Nat) : State :=
  if (s.stake i).st = .disarmed then s
  else s.setStake i { s.stake i with st := .disarmed, ref := none, block := false, prov := some eng }

/-- STTGT: on an armed entry a disarm, the write and an arm in one clock. -/
def State.provTarget (s : State) (eng i v : Nat) : State :=
  let e := { s.stake i with target := v, prov := some eng }
  s.setStake i (if e.st = .disarmed then e else s.armed i e (some eng))

/-- STRLD; on an armed entry its result is unpredictable. -/
def State.provReload (s : State) (eng i : Nat) : State :=
  if (s.stake i).st = .disarmed then
    s.setStake i { s.stake i with target := s.stkTarget i, count := s.stkCount i, prov := some eng }
  else s.misused 128 0x50000

/-- A decided action waits for its dispatch; the decisions of clocks none of whose actions waits are forgotten. -/
def StakeUnit.wait (u : StakeUnit) (a : Action) : StakeUnit :=
  let keep (p : Nat × Int × Nat) : Bool := decide (p.1 = a.dec) || u.actions.any (fun b => decide (b.dec = p.1))
  { u with actions := u.actions ++ [a], decided := u.decided.filter keep ++ [(a.dec, a.tf, a.index)] }

/-- The changes of a release become final: ARMED_PROV becomes ARMED, and held actions are dispatched (R132). -/
def State.commitStakes (s : State) (eng : Nat) (saved : List (Nat × Stake)) : State :=
  let s := saved.foldl (fun s p =>
    let e := s.stake p.1
    s.setStake p.1 { e with st := if e.st = .prov then .armed else e.st, prov := none }) s
  let mine := s.stk.heldActs.filter (fun a => a.held = some eng)
  let stk := { s.stk with heldActs := s.stk.heldActs.filter (fun a => a.held ≠ some eng) }
  { s with stk := (mine.map (fun a => { a with held := none, freed := true, dec := s.sclk })).foldl StakeUnit.wait stk }

/-- The changes of a release are undone, and its held actions cancelled and counted (R132). -/
def State.withholdStakes (s : State) (eng : Nat) (saved : List (Nat × Stake)) : State :=
  let s := saved.foldl (fun s p =>
    s.setStake p.1 (if p.2.st = .disarmed then p.2 else { p.2 with ref := some (s.reference p.1) })) s
  let n := (s.stk.heldActs.filter (fun a => a.held = some eng)).length
  let s := { s with stk := { s.stk with heldActs := s.stk.heldActs.filter (fun a => a.held ≠ some eng) } }
  if n = 0 then s else (s.countF Reg.STK_CANCELLED 31 0 n).raiseBit 20 5

/-! ### The crossing test (R123, R124, R125) -/

/-- The candidate nearest to `prev` among the occurrences k * m + target crossed on the way to `u`, with the one that
hysteresis blocks left out. -/
def crossing (m target : Nat) (up down : Bool) (block : Option Int) (prev u : Int) : Option Int :=
  let k := (prev - (target : Int)) / (m : Int)
  if up && prev < u then
    let x0 := (k + 1) * (m : Int) + (target : Int)
    let x := if block = some x0 then x0 + (m : Int) else x0
    if x ≤ u then some x else none
  else if down && u < prev then
    let x0 := k * (m : Int) + (target : Int)
    let x := if block = some x0 then x0 - (m : Int) else x0
    if u < x then some x else none
  else none

/-- The segments of the queue that begin within (a, b] with a jump, each as the positions before and after it (R99). -/
def jumpsIn (m : Nat) (x : Datum) (a b : Nat) : List (Rat × Rat) :=
  (x.queue.filter (fun g => decide (a < g.t0 * 2 ^ 32) && decide (g.t0 * 2 ^ 32 ≤ b))).filterMap (fun g =>
    let q := x.queue.takeWhile (fun h => decide (h.t0 < g.t0))
    let before := (Datum.path m { x with queue := q } ((g.t0 : Int) * 2 ^ 32)).1.u
    let at_ := (g.begin_ m).u
    if 2 < (at_ - before).abs then some (before, at_) else none)

/-- The first whole nanosecond in (lo, hi] at which the path is at or past `xt` in the direction, by halving. -/
def State.crossTime (s : State) (d : Nat) (xt : Int) (up : Bool) : Nat → Nat → Nat → Nat
  | 0, _, hi => hi
  | fuel + 1, lo, hi =>
    if hi ≤ lo + 1 then hi
    else
      let mid := (lo + hi) / 2
      let u := (s.datEval d ((mid : Int) * 2 ^ 32)).u
      if (if up then decide (xt ≤ u) else decide (u < xt ∨ u = xt)) then State.crossTime s d xt up fuel lo mid
      else State.crossTime s d xt up fuel mid hi

/-- The instant in ns at which the path of datum `d` reaches `xt` between two samples, `prev` at `tPrev` and `cur`: the later
sample where the path jumps between them or has been replaced (R124). -/
def State.crossInstant (s : State) (d : Nat) (xt prev : Int) (tPrev : Nat) (cur : Int × Nat) : Nat :=
  let hi := cur.2 / 2 ^ 32
  if jumpsIn (s.datMod d) (s.dat d) tPrev cur.2 ≠ [] || decide ((s.datEval d tPrev).u ≠ prev) then hi
  else s.crossTime d xt (decide (prev < cur.1)) 64 (tPrev / 2 ^ 32) hi

/-- What the crossing test with LEAD 0 looks at in this clock (R133): the unwrapped position at now + 5 ns, and that instant. -/
def State.watch (s : State) (d : Nat) : Int × Nat := ((s.datEval d (s.ptp + 5 * 2 ^ 32)).u, s.ptp + 5 * 2 ^ 32)

/-- A DATUM trigger with its reference taken in this clock. -/
def State.datumTrigger (s : State) (d pos : Nat) (down : Bool) : Trigger :=
  .datum d pos down (s.watch d).1 (s.watch d).2

/-- The instant in ns at which a datum crosses a position in a direction, since its last sample (R68, R133). -/
def State.crossedAt (s : State) (d pos : Nat) (down : Bool) (last : Int) (lastT : Nat) : Option Nat :=
  (crossing (s.datMod d) pos (!down) down none last (s.watch d).1).map (fun xt => s.crossInstant d xt last lastT (s.watch d))

/-- The lookahead lies past the end of the last queued segment, on a predicted stop ramp (R125). -/
def predicted (x : Datum) (t : Nat) : Bool :=
  match x.queue.getLast? with
  | some g => g.fin * 2 ^ 32 ≤ t && t < g.rampEnd * 2 ^ 32
  | none => match x.st, x.ended with
    | .stopping, some g => t < g.rampEnd * 2 ^ 32
    | _, _ => false

/-- What a firing leaves of the entry (R127). -/
def State.firedEntry (s : State) (i : Nat) (e : Stake) (xt : Int) : Stake :=
  let e := match s.stkMode i with
    | 1 => { e with block := true, lastXt := xt }
    | 2 =>
      let m : Int := s.datMod (s.stkDatum i)
      { e with target := (((e.target : Int) + signed 64 (pair64 (s.stkW i 3) (s.stkW i 4))) % m).toNat }
    | _ => { e with st := .disarmed, ref := none }
  if s.stkMode i = 0 || e.count = 0 then e
  else if e.count = 1 then { e with count := 0, st := .disarmed, ref := none }
  else { e with count := e.count - 1 }

/-- The station event that an EVENT action names: port, station, CODE and act time (R130). -/
def Action.event (a : Action) : StnEvent := ⟨a.operand.fld 1 0, a.operand.fld 9 2, a.operand.fld 31 16, a.tcross⟩

/-- The decided action goes to the dispatcher, is held for a release, or on a standby is kept or left (R126, R129, R132,
R136). -/
def State.decide_ (s : State) (a : Action) : State :=
  if s.shadows then
    let kept := if a.kind = 5 then s.stk.kept ++ [a.event] else s.stk.kept
    { s with stk := { s.stk with kept := kept, undispatched := s.stk.undispatched ++ [a] } }
  else
    match a.held with
    | some _ => { s with stk := { s.stk with heldActs := s.stk.heldActs ++ [a] } }
    | none => { s with stk := s.stk.wait a }

/-- An entry whose contents the manual leaves unpredictable: a TARGET at or above the modulo, no direction, a PITCH that is
zero, too large or opposite to the direction, a KIND or LEVEL without a meaning. -/
def State.badEntry (s : State) (i : Nat) : Bool :=
  let m : Int := s.datMod (s.stkDatum i)
  let p := signed 64 (pair64 (s.stkW i 3) (s.stkW i 4))
  let kind := (s.stkW i 0).fld 15 12
  decide (m ≤ ((s.stake i).target : Int)) || s.stkDir i = 0 || 5 < kind || (kind = 1 && (s.stkW i 5).fld 5 4 = 3) ||
    (s.stkMode i = 2 && (decide (m ≤ (p.natAbs : Int)) || p = 0 || s.stkDir i = 3 || (decide (0 < p) != (s.stkDir i = 1 : Bool))))

/-- The test of one entry in this clock (R123); while the evaluator resynchronises no entry is tested (R253). -/
def State.testStake (s : State) (i : Nat) : State :=
  let e := s.stake i
  let d := s.stkDatum i
  let r := s.reference i
  if e.st = .disarmed || s.role = 0 || s.role = 6 || s.cmpState 25 = 5 then s
  else if s.badEntry i then s.misused 123 0x50000
  else match e.ref with
    | none => s.setStake i { e with ref := some r }
    | some (prev, tPrev) =>
      let m := s.datMod d
      let dir := s.stkDir i
      let hit := crossing m e.target (dir % 2 = 1) (dir / 2 = 1) (if e.block then some e.lastXt else none) prev r.1
      let e1 := match hit with | some xt => s.firedEntry i e xt | none => e
      let e1 := if e1.block && decide ((s.stkHyst d : Int) ≤ ((r.1 - e1.lastXt).natAbs : Int)) then { e1 with block := false } else e1
      let e1 := { e1 with ref := if e1.st = .disarmed then none else some r }
      let s1 := s.setStake i e1
      match hit with
      | none => s1
      | some xt =>
        let x := s.dat d
        let jumps := jumpsIn m x tPrev r.2
        let across := jumps.any (fun p => decide (p.1 < (xt : Rat)) != decide (p.2 < (xt : Rat)))
        let tc := s.crossInstant d xt prev tPrev r
        let s1 := if (across || predicted x r.2) && !s.shadows then (s1.count Reg.STK_PRED_CNT).raiseBit 20 6 else s1
        s1.decide_ { index := i, tf := (tc : Int) - (s.stkLead i : Int), tcross := tc, kind := (s.stkW i 0).fld 15 12,
                     operand := s.stkW i 5, held := e.prov, dec := s.sclk }

/-! ### Dispatch (R124, R126, R129, R130, R131) -/

/-- The owner of fast output `k`: 0 off, 1 image, 2 stake, 3 SSI (Table 13.3). -/
def State.foOwner (s : State) (k : Nat) : Nat := (s.cw 1 32 (11 + k)).fld 1 0

/-- An edge placed on a fast output. -/
def State.placeEdge (s : State) (k level : Nat) (t : Int) : State :=
  let f : FastOut := sget {} s.fos k
  let l := match level with | 0 => false | 1 => true | _ => !f.level
  ({ s with fos := sput {} s.fos k { f with level := l } } : State).emit (.foEdge k l t)

/-- An edge into a queue in order of time; edges at one nanosecond stay in order of dispatch. -/
def insertEdge (e : FoEdge) : List FoEdge → List FoEdge
  | [] => [e]
  | h :: rest => if e.tf < h.tf then e :: h :: rest else h :: insertEdge e rest

/-- The edge queue of a fast output. -/
def State.edges (s : State) (k : Nat) : List FoEdge := sget [] s.stk.edges k
def State.setEdges (s : State) (k : Nat) (l : List FoEdge) : State :=
  { s with stk := { s.stk with edges := sput [] s.stk.edges k l } }

/-- FO_EDGE (R129). -/
def State.foEdge (s : State) (k level : Nat) (tf : Int) : State :=
  if s.foOwner k ≠ 2 then s
  else if tf < (s.now : Int) then ((s.placeEdge k level s.now).count Reg.STK_FO_LATE).raiseBit 20 1
  else if 8 ≤ (s.edges k).length then (s.count Reg.STK_FO_DROP).raiseBit 20 2
  else s.setEdges k (insertEdge ⟨tf, level⟩ (s.edges k))

/-- A capture (R131): OVR where the slot held one that had not been read, or a master has read NS and not INFO. -/
def State.capture (s : State) (k i : Nat) (t : Int) : State :=
  let c : Capture := sget {} s.stk.caps k
  let n := t.toNat
  let c' : Capture :=
    { ns := n % 1000000000, sec := n / 1000000000, index := i, valid := true, ovr := c.valid || c.latched, stamp := c.stamp + 1 }
  ({ s with stk := { s.stk with caps := sput {} s.stk.caps k c' } } : State).raiseBit 20 7

/-- EVENT (R130), with its fire instant; `passed` where it was held for a release until that instant had passed (R132). -/
def State.queueEvent (s : State) (e : StnEvent) (tf : Int) (passed : Bool) : State :=
  let q : List StnEvent := sget [] s.stk.events e.port
  if 64 ≤ q.length then (s.count Reg.STK_EVT_DROP).raiseBit 20 4
  else
    let s := { s with stk := { s.stk with events := sput [] s.stk.events e.port (q ++ [e]) } }
    if passed || e.act < tf + 2 * (s.cycleNs e.port : Int) then (s.count Reg.STK_EVT_LATE).raiseBit 20 3 else s

/-- An action is taken (Table 6.2). -/
def State.act (s : State) (a : Action) : State :=
  match a.kind with
  | 0 => (s.setReg Reg.STK_NOTE_IDX (w32 a.index)).raiseBit 20 0
  | 1 => s.foEdge (a.operand.fld 2 0) (a.operand.fld 5 4) a.tf
  | 2 => s.arrive (a.operand.fld 4 0)
  | 3 => s.convStartMask (a.operand.fld 1 0)
  | 4 => s.capture (a.operand.fld 3 0) a.index a.tcross
  | 5 => s.queueEvent a.event a.tf
      (a.freed && decide (a.tf < (s.now : Int)))
  | _ => s.misused 126 0x50000

/-- The H of a hand-over whose SWAP has been sent. -/
def State.handH (s : State) : Option Nat :=
  match s.pair.hand with
  | some h => h.swap.map (fun p => p.2)
  | none => none

/-- Whether this module still takes a decided action: after SWAP it queues no station event, and takes no action whose
fire instant is at or after H (R289). -/
def State.mine (s : State) (a : Action) : Bool :=
  match s.handH with
  | some h => a.kind ≠ 5 && decide (a.tf < (h : Int))
  | none => true

/-- How many of the actions decided in the clock of an action come before it in the order of R129. -/
def State.rank (s : State) (a : Action) : Nat :=
  (s.stk.decided.filter (fun p => p.1 = a.dec && (decide (p.2.1 < a.tf) || (p.2.1 = a.tf && decide (p.2.2 < a.index))))).length

/-- The SCLK count from which an action is dispatched: the dispatcher takes the first 16 of a clock's order in time, and four
more in each further clock; the fire instants lie four clocks after the decision (R124, R129). -/
def State.notBefore (s : State) (a : Action) : Nat :=
  if s.rank a < 16 then a.dec else a.dec + (if a.freed then 0 else 4) + (s.rank a - 16) / 4 + 1

/-- An action is due: an edge from its decision on, any other at its fire instant. -/
def State.due (s : State) (a : Action) : Bool :=
  s.mine a && (a.kind = 1 || decide (a.tf ≤ (s.now : Int))) && decide (s.notBefore a ≤ s.sclk)

/-- The earlier of two actions in the order of R129. -/
def firstAction (a b : Action) : Action :=
  if b.tf < a.tf ∨ (b.tf = a.tf ∧ b.index < a.index) then b else a

/-- The action that is dispatched next. -/
def State.nextAction (s : State) : Option Action :=
  if !s.dispatches then none
  else match s.stk.actions.filter s.due with
    | [] => none
    | a :: rest => some (rest.foldl firstAction a)

/-- The first due action is dispatched; one that others of its clock have delayed is counted (R129). -/
def State.dispatch (s : State) : State :=
  match s.nextAction with
  | none => s
  | some a =>
    let t := if 16 ≤ s.rank a then s.count Reg.STK_DELAYED else s
    ({ t with stk := { t.stk with actions := t.stk.actions.erase a } } : State).act a

/-- The events that the dispatch of the next action is. -/
def State.dispatchEvs (s : State) : List Ev :=
  match s.nextAction with
  | some a =>
    if a.kind = 4 then [⟨.capture, a.operand.fld 3 0, 0⟩] else if a.kind = 2 then [⟨.arrival, a.operand.fld 4 0, 0⟩] else []
  | none => []

/-- The head edge of a fast output whose instant has come is applied (R129). -/
def State.applyEdge (s : State) (k : Nat) : State :=
  match s.edges k with
  | e :: rest => if e.tf ≤ (s.now : Int) then (s.setEdges k rest).placeEdge k e.level e.tf else s
  | [] => s

/-! ### Views (R128, R131, R137) -/

/-- Armed entries, of one datum or of all. -/
def State.armedEntries (s : State) (p : Nat → Bool) : List (Nat × Stake) :=
  s.stk.entries.filter (fun e => e.2.st ≠ .disarmed && p (s.stkDatum e.1))

/-- STK_STS. -/
def State.stkSts (s : State) : Word :=
  w32 ((s.armedEntries (fun _ => true)).length + 8192 * ofBool (s.stk.heldActs ≠ []))

/-- STK_DNEXTd: the armed entry whose target the path reaches next in its present direction. -/
def State.stkNext (s : State) (d : Nat) : Word :=
  let es := s.armedEntries (fun x => x = d)
  let e := s.datNow d
  let m : Int := s.datMod d
  let dist (t : Nat) : Int := if e.v < 0 then (e.u - (t : Int)) % m else ((t : Int) - e.u) % m
  match es with
  | [] => w32 0x8000
  | a :: rest =>
    let b := rest.foldl (fun (b : Nat × Stake) c => if dist c.2.target < dist b.2.target then c else b) a
    w32 (b.1 + 65536 * es.length)

/-- W6 of an entry. -/
def State.stkW6 (s : State) (i : Nat) : Word :=
  let e := s.stake i
  w32 ((match e.st with | .disarmed => 0 | .armed => 1 | .prov => 2) + 4 * ofBool e.block + 65536 * e.count)

/-- INFO of a capture. -/
def capInfo (c : Capture) (ovr : Bool) : Word := w32 (c.index + 2 ^ 30 * ofBool ovr + 2 ^ 31 * ofBool c.valid)

/-- A capture slot replaced. -/
def State.setCap (s : State) (k : Nat) (c : Capture) : State := { s with stk := { s.stk with caps := sput {} s.stk.caps k c } }

/-- A read of STK_CAPk_NS latches the slot for the master. -/
def State.latchCapture (s : State) (m k : Nat) : State :=
  let c : Capture := sget {} s.stk.caps k
  let t := s.setCap k { c with latched := true }
  { t with stk := { t.stk with capLat := sput none t.stk.capLat (k * 256 + m) (some c) } }

/-- A read of STK_CAPk_INFO: the latched values, and the slot's INDEX, VALID and OVR cleared if no capture has arrived since
(R131, R34). Without a latch the slot itself is read and cleared. A capture of this very clock comes after the read (Table
6.3). -/
def State.readCapInfo (s : State) (m k : Nat) : Word × State :=
  let c : Capture := sget {} s.stk.caps k
  let clear := s.setCap k { c with index := 0, valid := false, ovr := false, latched := false }
  match sget none s.stk.capLat (k * 256 + m) with
  | some l =>
    if l.stamp = c.stamp then (capInfo l l.ovr, clear)
    else if l.stamp + 1 = c.stamp && s.evsNow.any (fun e => e.tag = .capture && e.a = k) then
      (capInfo l l.ovr, s.setCap k { c with ovr := false, latched := false })
    else (capInfo l true, s)
  | none => (capInfo c c.ovr, clear)

/-! ### The commands -/

/-- STAKE_FIRE: the test of entry `i`. -/
def execStakeFire (dt i : Nat) (s : State) : Answer := afterEv dt [⟨.stakeFire, i % 4096, s.stkDatum (i % 4096)⟩] s (fun s => s.testStake (i % 4096))
/-- STAKE_ACTION_DISPATCH. -/
def execStakeActionDispatch (dt : Nat) (s : State) : Answer := afterEv dt (s.advance dt).dispatchEvs s State.dispatch
/-- FO_EDGE_APPLY. -/
def execFoEdgeApply (dt k : Nat) (s : State) : Answer := after dt s (fun s => s.applyEdge (k % 8))

end Sys2Proof.Machine
end

