-- ==== Sys2Proof/Machine/Tasks.lean ====
section
/-!
DEFINITION. Releases from their start to their end (09 R195-R214): the binding, the snapshot, the choice of the next task,
what a commit publishes and what a withheld release leaves, fixed cycles, mode requests, and constants between releases.
-/
namespace Sys2Proof.Machine

/-! ### Bindings (Table 9.1) -/

def bindPair (b : List Word) : Nat := (item b 0).fld 7 0
def bindBase (b : List Word) : Nat := (item b 3).fld 19 0
def bindLen (b : List Word) : Nat := (item b 4).fld 19 0
def bindEntry (b : List Word) : Nat := (item b 5).fld 19 0
/-- DEADLINE in nanoseconds (0 = 10,000,000). -/
def bindDeadline (b : List Word) : Nat := if item b 6 = 0 then 10000000 else (item b 6).toNat
/-- Window w: space code, first word, words. -/
def bindWindow (b : List Word) (w : Nat) : Nat × Nat × Nat :=
  ((item b (8 + 2 * w)).fld 3 0, (item b (8 + 2 * w)).fld 31 12, (item b (9 + 2 * w)).toNat)
/-- B, the total of the read windows in bytes. -/
def bindBytes (b : List Word) : Nat := 4 * ((List.range 8).map (fun w => (bindWindow b w).2.2)).foldl (· + ·) 0
/-- A word lies in one of the read windows (R197). -/
def inWindow (b : List Word) (space word : Nat) : Bool :=
  (List.range 8).any (fun w =>
    let x := bindWindow b w
    x.1 = space && x.2.1 ≤ word && word < x.2.1 + x.2.2)

/-- Clocks of the snapshot copy (Table 9.3). -/
def copyClocks (b : List Word) : Nat := 4 + (bindBytes b + 7) / 8

/-! ### Engines -/

def State.eng (s : State) (e : Nat) : Engine := sget {} s.engs e
def State.setEng (s : State) (e : Nat) (x : Engine) : State := { s with engs := sput {} s.engs e x }
def State.setRel (s : State) (e : Nat) (r : Release) : State := s.setEng e { s.eng e with rel := some r }

/-- The pair of an engine: a second engine belongs to the pair whose ID lies 0x80 below (R256). -/
def pairOfEngine (e : Nat) : Nat := if 0x80 ≤ e then e - 0x80 else e

/-- An engine may start work: it runs none, its last end decision lies in an earlier clock, and its pair is in service or
serving, with no split or join asked for (R199, R252, R256, R258). -/
def State.engineFree (s : State) (e : Nat) : Bool :=
  let x := cmpIndex (pairOfEngine e)
  let st := s.cmpState x
  (s.eng e).rel.isNone && (s.eng e).lastEnd ≠ some s.sclk && (st = 0 || st = 1 || st = 2 || st = 3) &&
  ((sget {} s.cmp x : Checked).change).isNone

/-- The image store with the forces laid over it, as a snapshot copies it (R208). -/
def State.snapshot (s : State) : Sparse Word :=
  s.plm.forces.foldl (fun m f =>
    match s.prog.syms[f.sym]? with
    | some y =>
      (List.range ((y.bits + 31) / 32 + 1)).foldl (fun m k =>
        let w := y.bit / 32 + k
        let key := imgKey y.space (taskOf y.space y.task) w
        sput 0 m key (overlay s.prog.syms [f] y.space y.task w (sget 0 m key))) m
    | none => m) s.img

/-- The datum window of all eight datums now (R117). -/
def State.datWords (s : State) : List Word := (List.range 8).flatMap s.datWindow

/-! ### Closure digests (R248, Table 11.4) -/

/-- C_REG: the CRC-64 over the 35 words of a closure record. -/
def cReg (ws : List Word) : Nat := crc64 (((ws ++ List.replicate 35 0).take 35).flatMap wordBytes)

/-- The term of a write-buffer entry in C_BUF: space code, word address, value, and the mask of the bits written. -/
def cTerm (space word : Nat) (v m : Word) : Nat :=
  let a := space * 0x100000 + word
  if m = BitVec.allOnes 32 then crc64 (wordBytes (w32 a) ++ wordBytes v)
  else crc64 (wordBytes (w32 (a + 2 ^ 31)) ++ wordBytes (v &&& m) ++ wordBytes m)

/-- C_BUF: the XOR of the terms. -/
def cBuf (ts : List Nat) : Nat := ts.foldl (fun a t => a ^^^ t) 0

/-- The 24 bits of an entry of the branch stack: KIND in [23], OP in [22:21] and VALUE in [20] of a LOGIC entry, the index of a
RETURN entry in [19:0] (log 80). -/
def StackEntry.word : StackEntry → Word
  | .logic op v => w32 ((match op with | .and => 0 | .or => 1 | .xor => 2 | .none => 3) * 2 ^ 21 + ofBool v * 2 ^ 20)
  | .ret i => w32 (2 ^ 23 + i % 2 ^ 20)

/-- The closure digest of a release (R248). -/
def Release.digest (r : Release) : Nat :=
  let head := w32 (r.pc % 2 ^ 20 + ofBool r.acc * 2 ^ 20 + ofBool r.ov * 2 ^ 21 + r.stack.length * 2 ^ 24)
  let rec_ := [head, w32 r.wa.toNat, w32 (r.wa.toNat / 2 ^ 32)] ++ (r.stack.reverse.map StackEntry.word)
  cReg rec_ ^^^ cBuf (r.wbuf.filterMap (fun e => e.2.map (fun p => cTerm (e.1 / 0x100000 / 32) (e.1 % 0x100000) p.1 p.2)))

/-- Whether the trailing tile's digest is the leading tile's. The operand is the trailing tile's where its state has come to
differ; without one it is the leading tile's own. -/
def digestsAgree (d : Nat) : Option Nat → Bool
  | some t => t = d
  | none => true

/-! ### The end of a release (R201, R202) -/

/-- What a word of the write buffer leaves in the image store. -/
def mergeWord (old : Word) (p : Word × Word) : Word := (old &&& ~~~p.2) ||| (p.1 &&& p.2)

/-- Space, task and word address of a key of the image store. -/
def keyParts (k : Nat) : Nat × Nat × Nat := (k / 0x100000 / 32, k / 0x100000 % 32, k % 0x100000)

/-- The write buffer applied to the image store in one change clock. -/
def State.applyBuffer (s : State) (buf : Sparse (Option (Word × Word))) : State :=
  { s with img := buf.foldl (fun m e => match e.2 with
      | some p => sput 0 m e.1 (mergeWord (sget 0 m e.1) p)
      | none => m) s.img }

/-- The records of the words a write buffer changed. -/
def State.bufferRecs (s : State) (buf : Sparse (Option (Word × Word))) : List DeltaRec :=
  buf.map (fun e => let (sp, t, w) := keyParts e.1; .image sp t w [sget 0 s.img e.1])

/-- Words written into the instance memory. -/
def State.setInstWords (s : State) : Nat → List Word → State
  | _, [] => s
  | a, w :: ws => ({ s with blk := { s.blk with mem := sput 0 s.blk.mem a w } } : State).setInstWords (a + 1) ws

/-- Counts of IN, OUT and STATE words of a block type (Table 10.3). -/
def blkCounts (ty : Nat) : Nat × Nat × Nat :=
  match ty with
  | 1 => (11, 3, 8) | 2 => (12, 4, 16) | 3 => (10, 4, 16) | 4 => (11, 4, 20) | 5 => (9, 3, 12) | 6 => (8, 3, 8)
  | 7 => (11, 5, 12) | _ => (0, 0, 0)

/-- BASE of an instance. -/
def State.instBase (s : State) (i : Nat) : Nat := (s.cw 6 i 1).fld 19 0

/-- The datum a VPROF instance feeds. -/
def State.vprofDatum (s : State) (i : Nat) : Option Nat :=
  (List.range 8).find? (fun d => s.datSource d = 1 && s.datVprof d = i)

/-- The first word of an instance's words in instance memory, by its item. -/
def itemBase (it : List Word) : Nat := (item it 1).fld 19 0

/-- Words written into an instance; with its header, that a call or run has completed (R220). -/
def State.putInst (s : State) (base first : Nat) (ws : List Word) : State :=
  let s := s.setInstWords (base + first) ws
  if first = 0 && item ws 2 ≠ 0 then { s with blk := { s.blk with ran := sput false s.blk.ran base true } } else s

/-- Where the last segment accepted for datum `d` or axis stream `a` ends. -/
def State.streamEnd (s : State) (d : Option Nat) (a : Nat) : Option Seg :=
  match d with
  | some d => match (s.dat d).queue.getLast? with | some g => some g | none => (s.dat d).ended
  | none => match (s.axisQ a).getLast? with | some g => some g | none => sget none s.blk.axisLast a

/-- The datum that an instance of VPROF under an item feeds. -/
def State.itemDatum (s : State) (i : Nat) (it : List Word) : Option Nat :=
  if (item it 0).fld 2 0 = 2 then s.vprofDatum i else none

/-- One segment of a block appended to its datum or axis stream (R228): the result code, and the state. -/
def State.blkAppend (s : State) (x : BlkSeg) : Nat × State :=
  let g := x.seg
  match s.itemDatum x.inst x.item with
  | some d =>
    let y := s.dat d
    if 256 ≤ y.queue.length then (1, s)
    else if g.fin * 2 ^ 32 ≤ s.ptp || !s.fits d g then (3, s)
    else if y.stopCmd then (5, s)
    else if g.dur < 10000 then (6, s)
    else (0, s.append d g ((y.seq + 1) % 2 ^ 32))
  | none =>
    let a := (item x.item 8).fld 9 0
    let q := s.axisQ a
    if 32 ≤ q.length then (1, s)
    else if g.fin * 2 ^ 32 ≤ s.ptp || (match q.getLast? with | some l => decide (g.t0 < l.fin) | none => false) then (3, s)
    else if g.dur < 10000 then (6, s)
    else
      let seq := (sget 0 s.blk.axisSeq a + 1) % 2 ^ 32
      (0, s.setAxis a (q ++ [{ g with seq := seq }]) seq)

/-- What the appends of a work leave: the last result code, and the STATE words of the last segment accepted. -/
structure Appended where
  st   : State
  code : Nat := 0
  last : Option (List Word) := none

/-- One more append; a refusal is counted. -/
def Appended.add (x : Appended) (g : BlkSeg) : Appended :=
  let (code, s) := x.st.blkAppend g
  if code = 0 then { st := s, code := 0, last := some g.st }
  else { st := (s.count Reg.BLK_APP_REF).raiseBit 26 3, code := code, last := x.last }

/-- V_END of VPROF and POS_END of GEAR: words 1 and 2 of their OUT words, from the last segment accepted. -/
def State.endWords (s : State) (i : Nat) (it : List Word) : List Word :=
  match s.streamEnd (s.itemDatum i it) ((item it 8).fld 9 0) with
  | some g => if (item it 0).fld 2 0 = 2 then intWords (g.ending 1).v.floor else intWords (g.ending (2 ^ 64)).u.floor
  | none => [0, 0]

/-- The segments of a work of instance `i` appended in order (R228). The last result code stands in QRES, the STATE words are
those that stand after the last segment accepted, and V_END or POS_END is that segment's end. An instance that feeds neither a
datum nor an axis stream appends nothing (log 17). -/
def State.blkAppendAll (s : State) (i : Nat) (it : List Word) (gs : List BlkSeg) : State :=
  if gs = [] || ((s.itemDatum i it).isNone && !(item it 8).bit 31) then s
  else
    let x := gs.foldl Appended.add ⟨s, 0, none⟩
    let ty := (item it 0).fld 2 0
    let (ins, outs, _) := blkCounts ty
    let at_ := itemBase it + 8 + ins
    let s := x.st.setInstWords (at_ + 3) [w32 x.code]
    match x.last with
    | some ws =>
      let s := s.setInstWords (at_ + outs) ws
      if ty = 2 || ty = 3 then s.setInstWords (at_ + 1) (s.endWords i it) else s
    | none => s

/-- The words of an instance memory from an address on. -/
def State.instAt (s : State) (a n : Nat) : List Word := (List.range n).map (fun k => sget 0 s.blk.mem (a + k))

/-- A commit publishes everything the release wrote in one change clock (R201), and sends its records (R276). -/
def State.commit (s : State) (e : Nat) (r : Release) : State :=
  let s := s.applyBuffer r.wbuf
  let s := r.insts.foldl (fun s x => s.putInst (itemBase x.item) x.first x.words) s
  let s := s.commitStakes e r.saved
  let s := (r.segs.map (fun x => (x.inst, x.item))).eraseDups.foldl (fun s p =>
    s.blkAppendAll p.1 p.2 (r.segs.filter (fun x => x.inst = p.1 && x.item = p.2))) s
  let recs := s.bufferRecs r.wbuf ++
    r.insts.map (fun x => .inst (itemBase x.item + x.first) (s.instAt (itemBase x.item + x.first) x.words.length)) ++
    r.saved.map (fun p => s.stakeRec p.1)
  s.record r.gen recs

/-- The call an engine waits for is taken off its block pair (R244). -/
def State.dropCall (s : State) (e : Nat) : State :=
  { s with blk := { s.blk with pairs := s.blk.pairs.map (fun p =>
      (p.1, { queue := p.2.queue.filter (fun w => w.caller ≠ some e),
              serving := match p.2.serving with
                | some x => if x.1.caller = some e then none else p.2.serving
                | none => none })) } }

/-- Clocks from the start clock to the end decision: the snapshot copy, the clocks executed, and from END on the 2 clocks
of the trailing tile, the closure and the decision (Table 9.3). -/
def relClocks (r : Release) : Nat := copyClocks r.binding + r.clocks + (if r.phase = .done then 67 else 0)

/-- The interrupt of an end (Table 9.9). -/
def State.endIrq (s : State) (code : Nat) : State :=
  match code with
  | 2 => s.raiseBit 25 0
  | 3 => s.raiseBit 25 1
  | 4 => s.raiseBit 25 3
  | _ => s

/-- What the recorder takes of the end of a release (R392): its bin, response, clocks and end. The arrival of a release
that came while it ran is the next one's. -/
def State.recordEnd (s : State) (e : Nat) (r : Release) (code last : Nat) : State :=
  let n := r.task
  let arrival := (sget none s.recd.arrived n).getD (r.startT / 2 ^ 32)
  let resp := s.now - arrival
  let bin := min 15 (16 * resp / bindDeadline r.binding)
  let inc (c : Nat) (hit : Bool) : Nat := if hit then satAdd 0xFFFF c 1 else c
  let s := s.taskStat n (fun t =>
    { t with execId := e, bins := smod 0 t.bins bin (fun c => satAdd 0xFFFFFFFF c 1), faults := inc t.faults (code = 2),
             deadlines := inc t.deadlines (code = 3), wbuf := inc t.wbuf (code = 4), mismatch := inc t.mismatch (code = 5),
             respMin := some (match t.respMin with | some m => min m resp | none => resp), respMax := max t.respMax resp,
             runMax := max t.runMax last })
  (s.setArrival n (sget none s.recd.arrived (32 + n))).setArrival (32 + n) none

/-- The release of engine `e` ends with END = `code` (R202), fault code and PC for 0x2; only 0x1 commits. -/
def State.endRelease (s : State) (e code fault pc : Nat) : State :=
  match (s.eng e).rel with
  | none => s
  | some r =>
    let n := r.task
    let last := max (relClocks r) (s.sclk - r.start)
    let s := s.setEng e { rel := none, lastEnd := some s.sclk }
    let s := if code = 1 then s.commit e r else (s.withholdStakes e r.saved).count (Reg.PLM_TASKn_WITHHELD n)
    let s := s.dropCall e
    let st := if s.taskState n = 3 then 1 else 0
    let sts := s.reg (Reg.PLM_TASKn_STS n)
    let sts := ((sts.setFld 1 0 st).setFld 6 4 code).setFld 23 16 e
    let s := s.setReg (Reg.PLM_TASKn_STS n) (if code = 2 then sts.setFld 15 8 fault else sts)
    let s := if code = 2 then s.setReg (Reg.PLM_TASKn_FPC n) (w32 (pc % 2 ^ 20)) else s
    let s := s.setReg (Reg.PLM_TASKn_LAST n) (w32 last)
    let s := if (s.reg (Reg.PLM_TASKn_MAX n)).toNat < last then s.setReg (Reg.PLM_TASKn_MAX n) (w32 last) else s
    let s := (s.endIrq code).recordEnd e r code last
    let s := s.record r.gen [.releaseEnd n code (r.startT / 2 ^ 32)]
    let s := { s with pair := s.pair.onGen r.gen (fun g => { g with running := g.running - 1, ended := g.ended + 1 }) }
    let s := if code = 1 then s.taskTrigger n else s
    (s.passTurn n).lastEnded

/-! ### The start of a release (R199, R200) -/

/-- The task an engine starts next: in task mode the pending one with the lowest PRIO, then number; in fixed mode the one
whose turn it is. -/
def State.nextTask (s : State) (e : Nat) : Option Nat :=
  match s.plm.mode with
  | .task =>
    if !s.runs || s.plm.request = some .fixed then none
    else
      let ts := (List.range 32).filter (fun n => s.taskState n = 1 && s.servedBy (s.taskPair n) = some e)
      match ts with
      | [] => none
      | t :: rest => some (rest.foldl (fun a b => if s.taskPrio b < s.taskPrio a then b else a) t)
  | .fixed =>
    match s.plm.cycle, s.plm.cycTask, s.plm.turn with
    | some n, none, none => if s.runs && s.servedBy (s.taskPair n) = some e then some n else none
    | _, _, _ => none
  | .idle => none

/-- A free engine starts its next task: the snapshot clock (R200). An ENTRY at or above the code length is a PC fault
reported at ENTRY (R189). -/
def State.startRelease (s : State) (e : Nat) : State :=
  if !s.engineFree e then s
  else match s.nextTask e with
    | none => s
    | some n =>
      let b := s.citem 4 n 24
      let r : Release :=
        { task := n, start := s.sclk, startT := s.ptp, binding := b, pc := bindEntry b, snap := s.snapshot,
          datw := s.datWords, forces := s.plm.forces, gen := s.pair.gen }
      let fixed := s.plm.mode = .fixed
      let s := ((s.setRel e r).setTaskState n 2).taskStat n (fun t =>
        { t with started := satAdd 0xFFFFFFFF t.started 1, fixed := t.fixed || fixed, task := t.task || !fixed })
      let s := if fixed then s.setArrival n (some s.now) else s
      let s := { s with pair := s.pair.onGen r.gen (fun g => { g with running := g.running + 1 }) }
      let s := if s.plm.mode = .fixed then { s with plm := { s.plm with cycTask := some n } } else s
      if bindLen b ≤ bindEntry b then (s.until_ (r.start + copyClocks b)).endRelease e 2 8 (bindEntry b) else s

/-- The instruction at the PC of a release. -/
def State.codeWord (s : State) (r : Release) : Word := sget 0 s.prog.code (bindBase r.binding + r.pc)

/-- The SCLK count of the last clock of an instruction of `n` clocks that the release has next (R190, R200). -/
def Release.due (r : Release) (n : Nat) : Nat := r.start + copyClocks r.binding + r.clocks + n

/-- The PTP time at which a release has no more time (R202). -/
def Release.limit (r : Release) : Nat := r.startT + bindDeadline r.binding * 2 ^ 32

/-- Clocks from now to the deadline of a release, where it comes before its instruction that ends in clock `due` is done: END
may still end in the clock of the deadline (R202). -/
def State.outOfTime (s : State) (r : Release) (due : Nat) (fin : Bool) : Option Nat :=
  if s.sclk < due then
    let k := s.clocksTo 4 (due - s.sclk + 1) r.limit
    if k < due - s.sclk + ofBool (!fin) then some k else none
  else if r.limit + (s.sclk - due + ofBool fin) * s.incr ≤ s.ptp then some 0 else none

/-- The deadline of a release has passed before its END (R202); where END stands at its PC and is done in time, it counts. -/
def State.deadline (s : State) (e : Nat) : State :=
  match (s.eng e).rel with
  | some r =>
    if r.phase = .done || s.ptp < r.limit then s
    else if r.phase = .run && (s.codeWord r).fld 31 24 = 0x2F && (s.outOfTime r (r.due 1) true).isNone then s
    else s.endRelease e 3 0 0
  | none => s

/-! ### Fixed cycles and mode requests (R203, R204, R418) -/

/-- A fixed cycle starts at a multiple of PERIOD, or the multiple finds the last one still running and the overrun is
counted. -/
def State.fixedCycle (s : State) : State :=
  let period := (s.reg Reg.PLM_FIXED_CFG).fld 16 0 * 1000
  if s.plm.mode ≠ .fixed || !s.runs || period = 0 then s
  else match s.plm.cycle with
    | some _ =>
      if s.plm.cycT0 + s.plm.period ≤ s.now && !s.plm.late then
        (({ s with plm := { s.plm with late := true } } : State).count Reg.PLM_FIXED_OVR).raiseBit 25 4
      else s
    | none =>
      let t := s.now / period * period
      if t ≤ s.plm.since || (s.plm.cycT0 = t && s.plm.cycles ≠ 0) then s
      else
        let s := s.countWrap Reg.PLM_FIXED_CNT
        let s := { s with plm := { s.plm with cycT0 := t, late := false, period := period } }
        let s := { s with pair := { (s.pair.onGen s.pair.gen (fun g => { g with past := true })) with gen := nextGen s.pair.gen } }
        s.turnTo 0

/-- A write of PLM_MODE_REQ (Table 9.4); with both bits set it is a misuse. Where no release runs, fixed mode begins at once:
the clock after the last end decision has passed. -/
def State.modeReq (s : State) (task fixed : Bool) : State :=
  if task && fixed then s.misused 204 Reg.PLM_MODE_REQ
  else if task && s.plm.mode = .fixed then { s with plm := { s.plm with request := some .task } }
  else if fixed && s.plm.mode = .task && s.plm.request ≠ some .fixed then
    let t := ({ s with plm := { s.plm with request := some .fixed } } : State).dropPending
    if t.running = 0 then t.setMode .fixed else t
  else s

/-! ### Constants (R211) -/

/-- Every pair that must apply a constant write: those in service, split or serving, and the spares. -/
def State.constPairs (s : State) : List Nat :=
  ((List.range 18).map (fun k => cmpId (k + 1))).filter (fun id => s.cmpState (cmpIndex id) ≠ 4 && s.domainOn (if id < 0x20 then 2 else 3) && (id < 0x20 || s.order = .f))

/-- Words written into a pair's constant copy. -/
def State.setKonst (s : State) (p : Nat) : Nat → List Word → State
  | _, [] => s
  | a, w :: ws => ({ s with konst := sput 0 s.konst (p * 16384 + a) w } : State).setKonst p (a + 1) ws

/-- A constant write does not wait for pair `p` any longer; the command is answered when it waits for none. -/
def State.constDone (s : State) (c : ConstWrite) (p : Nat) : State :=
  let c' := { c with todo := c.todo.filter (fun x => x ≠ p) }
  if c'.todo = [] then
    (({ s with plm := { s.plm with consts := s.plm.consts.erase c } } : State).record 0 [.konst c.index c.value]).finishOk c.slot []
  else { s with plm := { s.plm with consts := s.plm.consts.map (fun x => if x = c then c' else x) } }

/-- A pair applies its oldest pending constant write between two of its releases; the command is answered when every
pair has. -/
def State.applyConst (s : State) (p : Nat) : State :=
  if (s.eng p).rel.isSome || (s.eng (p + 0x80)).rel.isSome then s
  else match s.plm.consts.find? (fun c => c.todo.contains p) with
    | none => s
    | some c =>
      let s := s.setKonst p c.index c.value
      let s := if s.cmpState (cmpIndex p) = 3 then s.setKonst (p + 0x80) c.index c.value else s
      s.constDone c p

/-- A pair that is retired, or whose domain is off, applies nothing any more: the constant writes do not wait for it. -/
def State.constGone (s : State) (p : Nat) : State :=
  s.plm.consts.foldl (fun s c => if c.todo.contains p then s.constDone c p else s) s

/-! ### Views -/

/-- PLM_STS. -/
def State.plmSts (s : State) : Word :=
  w32 ((match s.plm.mode with | .idle => 0 | .fixed => 1 | .task => 2) + 4 * ofBool s.plm.request.isSome +
    8 * ofBool (s.plm.forces ≠ []) + 256 * s.running)

/-- PLM_PAIRp_STS of pair `id`. -/
def State.plmPairSts (s : State) (id : Nat) : Word :=
  let pend := ((List.range 32).filter (fun n => (s.taskState n = 1 || s.taskState n = 3) && s.servedBy (s.taskPair n) = some id)).length
  match (s.eng id).rel with
  | some r => w32 (r.task + 32 + 256 * pend)
  | none => w32 (256 * pend)

/-! ### The commands -/

/-- RELEASE_START. -/
def execReleaseStart (dt e : Nat) (s : State) : Answer := afterEv dt [⟨.relStart, e, 0⟩] s (fun s => s.startRelease e)
/-- TASK_DEADLINE. -/
def execTaskDeadline (dt e : Nat) (s : State) : Answer := afterEv dt [⟨.deadline, e, 0⟩] s (fun s => s.deadline e)
/-- CONST_APPLY. -/
def execConstApply (dt p : Nat) (s : State) : Answer := after dt s (fun s => s.applyConst p)

end Sys2Proof.Machine
end

