-- ==== Sys2Proof/Machine/PairOps.lean ====
section
/-!
DEFINITION. What other units make the pair unit do (12 R264-R270, R282, R289): raising the epoch, fencing, leaving
service, READY, and the start of resynchronisation.
-/
namespace Sys2Proof.Machine

/-- The module's epoch. -/
def State.epoch (s : State) : Nat := (s.reg Reg.PAIR_EPOCH).toNat

/-- The epoch set, its MRAM copy first (R266). -/
def State.setEpoch (s : State) (e : Nat) : State :=
  { (s.setReg Reg.PAIR_EPOCH (w32 e)) with pair := { s.pair with epochMram := e % 2 ^ 32 } }

/-- PAIR_STS.READY changes, with its interrupt (Table 12.13). -/
def State.setReady (s : State) (b : Bool) : State :=
  if s.regB Reg.PAIR_STS 0 = b then s else (s.setRegB Reg.PAIR_STS 0 b).raiseBit 28 2

/-- A standby is no longer able to take over, and a resynchronisation begins at once if AUTO_RESYNC is 1 (R280). -/
def State.unready (s : State) : State :=
  let s := s.setReady false
  let s := { s with pair := { s.pair with copied := false, joining := false, gens := [] } }
  if s.regB Reg.PAIR_CTL 1 then s.setRegB Reg.PAIR_STS 1 true else s

/-- GRP_STS.DRIVE of both groups changes, with its interrupt (R320), and the CAN controllers follow (R342). -/
def State.setDrive (s : State) (v : Nat) : State :=
  s.canDrive (fun s => [0, 1].foldl (fun s g =>
    if s.regF (Reg.GRP_STS g) 4 3 = v then s else (s.setRegF (Reg.GRP_STS g) 4 3 v).raiseBit (29 + g) 4) s)

/-- The outputs of the channels and the fast outputs are released (R320, R322). -/
def State.releaseOutputs (s : State) : State :=
  let s := s.setDrive 0
  { s with chans := s.chans.map (fun c => (c.1, { c.2 with on := false })) }

/-- The running releases are abandoned: each ends with END = 0x6 (R269). -/
def State.abandonReleases (s : State) : State :=
  (s.engs.filter (fun e => e.2.rel.isSome)).foldl (fun s e => s.endRelease e.1 6 0 0) s

/-- Held stake actions are cancelled and counted, the edge queues and the event queues emptied (R269). -/
def State.emptyStakes (s : State) : State :=
  let n := s.stk.heldActs.length
  let s := { s with stk := { s.stk with heldActs := [], actions := [], edges := [], events := [] } }
  if n = 0 then s else (s.countF Reg.STK_CANCELLED 31 0 n).raiseBit 20 5

/-- Nanoseconds for a number of bytes at 10 Gb/s, rounded up. -/
def wireNs (bytes : Nat) : Nat := (bytes * 4 + 4) / 5

/-- What the wire of a port has done up to now: the frame on it has ended, or the closing of its gate holds it, which counts as a
preemption (R161, R169). The rest of a held frame goes out with a preamble, a gap and a check of its own. -/
def State.wire (s : State) (n : Nat) : State :=
  let p : Port := sget {} s.ports n
  match p.tx with
  | none => s
  | some x =>
    let put (p : Port) : State := { s with ports := sput {} s.ports n p }
    match x.stop with
    | some b =>
      if s.now < x.at_ + wireNs b then s
      else ((put { p with tx := none, held := some { x with left := x.left - b + 24, stop := none } }).emit (.frameHeld n)).count
        (Reg.TRV_TX_FRAG n)
    | none => if s.now < x.at_ + wireNs x.left then s else put { p with tx := none }

/-- A frame on the wire of a port, or held there, ends with a bad FCS (R244, R269). -/
def State.cutWire (s : State) (n : Nat) : State :=
  let s := s.wire n
  let p : Port := sget {} s.ports n
  if p.tx.isNone && p.held.isNone then s
  else ({ s with ports := sput {} s.ports n { p with tx := none, held := none } } : State).emit (.frameCut n)

/-- The port engines keep only REGACC responses (R269). -/
def keepRegacc (p : Port) : Port :=
  let isReg (w : WireFrame) : Bool := match w.body with | .trv f => (match f.body with | .regacc .. => true | _ => false) | .ptp _ => false
  let q := (p.txq.map (fun q => (q.1, q.2.filter isReg))).filter (fun q => q.2 ≠ [])
  { p with txq := q, dueSegs := [], dueEvts := [] }

/-- Work ends and outputs are released when a module that runs the line stops running it without a hand-over. -/
def State.stopWork (s : State) : State :=
  let s := (s.abandonReleases).emptyStakes
  ({ s with ports := s.ports.map (fun p => (p.1, keepRegacc p.2)),
            blk := { s.blk with pairs := [] } } : State).releaseOutputs

/-- An armed or running hand-over is answered with CANCELLED (R294). -/
def State.cancelHand (s : State) : State :=
  let s := match s.pair.arm with
    | some a => ({ s with pair := { s.pair with arm := none } } : State).finishErr a.slot stCancelled
    | none => s
  let s := match s.pair.hand with
    | some h => match h.slot with | some id => s.finishErr id stCancelled | none => s
    | none => s
  ({ s with pair := { s.pair with hand := none } } : State).setRegB Reg.PAIR_STS 7 false

/-- The module fences itself (R269): OUT_OF_SERVICE in this clock, its work abandoned, and a ROLE notice sent with the
cause given; for failing power it carries the last generation closed, in GEN (R293, log 29). -/
def State.fence (s : State) (cause : Nat) : State :=
  let s := s.cancelHand
  let s := (s.setRegB Reg.PAIR_STS 8 true).raiseBit 28 4
  let s := [0, 1, 2, 3].foldl State.cutWire s.stopWork
  let s := s.sendSeq (if cause = 3 then (s.reg Reg.PAIR_GEN_SENT).toNat else 0) (.role 6 cause)
  s.setRole 6

/-- The module leaves service without a hand-over, as at the completion of PAIR_WITHDRAW (Table 12.2, R253). -/
def State.leaveService (s : State) : State :=
  if s.role = 6 then s
  else
    let s := if s.runs || s.role = 5 then (s.cancelHand).stopWork else s.releaseOutputs
    let s := s.sendSeq 0 (.role 6 2)
    s.setRole 6

/-- A withdrawal: a hand-over first if the module runs the line with a READY standby (Table 12.2). The slot, if any, is
answered when the module is out of service. -/
def State.withdraw (s : State) (slot : Option Nat) : State :=
  if s.runs && s.regB Reg.PAIR_STS 0 then s.startHand .withdraw slot
  else
    let s := s.leaveService
    match slot with | some id => s.finishOk id [] | none => s

/-- A frame with a higher epoch than the module's own has been received (R268, R270). -/
def State.higherEpoch (s : State) : State :=
  let clr (s : State) : State := s.setRegB Reg.TRV_SW_STS 3 false
  if s.runs || s.role = 5 then clr (s.fence 1)
  else if s.role = 3 then clr s.unready
  else if s.role = 4 then
    clr ((({ s with pair := { s.pair with lossAt := none, swapIn := none } } : State).setRole 3).unready)
  else s

end Sys2Proof.Machine
end

