-- ==== Sys2Proof/Machine/MbxOps.lean ====
section
/-!
DEFINITION. The mailboxes as registers (03 R51-R59): posting, taking, resets of either side, and the MP restart.
-/
namespace Sys2Proof.Machine

/-- GO and LEN of mailbox `n`. -/
def State.mbxGo (s : State) (n : Nat) : Bool := s.regB (Reg.MBX_STS n) 0
def State.mbxLen (s : State) (n : Nat) : Nat := s.regF (Reg.MBX_STS n) 12 8

/-- The words of the message a mailbox holds. -/
def State.mbxWords (s : State) (n len : Nat) : List Word := (List.range (min len 16)).map (fun k => s.reg (Reg.MBX_DATAi n k))

/-- Words laid into the data registers of a mailbox. -/
def State.setMbxWords (s : State) (n : Nat) : Nat → List Word → State
  | _, [] => s
  | k, w :: ws => (s.setReg (Reg.MBX_DATAi n k) w).setMbxWords n (k + 1) ws

/-- An event bit of MBX_STS set: EMPTY (24) or POSTED (25). -/
def State.mbxEvent (s : State) (n bit : Nat) : State :=
  s.irqChange (n + 1) (Reg.MBX_STS n) ((s.reg (Reg.MBX_STS n)).setBit bit true)

/-- GO is cleared, and SENDER_RESET with it (R55, R57). -/
def State.mbxClearGo (s : State) (n : Nat) : State :=
  (s.setRegB (Reg.MBX_STS n) 0 false).setRegB (Reg.MBX_STS n) 17 false

/-- The mailbox is cleared by a reset of its receiver (Table 3.2): GO, LEN and the data, with ABORTED set. -/
def State.mbxAbort (s : State) (n : Nat) : State :=
  (((s.mbxClearGo n).setRegF (Reg.MBX_STS n) 12 8 0).setMbxWords n 0 (List.replicate 16 0)).setRegB (Reg.MBX_STS n) 16 true

/-- A write of MBX_POST of mailboxes 0-7 (R51): with GO = 0 nothing; with LEN outside 8 to 16, or over a message that
stands, the result is unpredictable. -/
def State.mbxPost (s : State) (n : Nat) (v : Word) : State :=
  if !v.bit 8 then s
  else if v.fld 4 0 < 8 || 16 < v.fld 4 0 || s.mbxGo n then s.misused 51 0x20000
  else (s.setRegF (Reg.MBX_STS n) 12 8 (v.fld 4 0)).setRegB (Reg.MBX_STS n) 0 true

/-- A write of MBX_TAKE of mailboxes 8-15 (R55). -/
def State.mbxTake (s : State) (n : Nat) (v : Word) : State := if v.bit 0 then s.mbxClearGo n else s

/-- A host-side reset of mailbox `n` (R57, Table 3.2). -/
def State.mbxHostReset (s : State) (n : Nat) (v : Word) : State :=
  if !v.bit 0 then s
  else
    let s := s.setReg (Reg.MBX_IRQ_EN n) 0
    let s := (s.setRegB (Reg.MBX_STS n) 24 false).setRegB (Reg.MBX_STS n) 25 false
    if !s.mbxGo n then s
    else if n < 8 then s.setRegB (Reg.MBX_STS n) 17 true
    else s.mbxAbort n

/-- MBX_GLB_STS: GO of all mailboxes, and MP_READY. -/
def State.mbxGlb (s : State) : Word :=
  w32 ((List.range 16).foldl (fun a n => a + ofBool (s.mbxGo n) * 2 ^ n) 0 + 2 ^ 16 * s.regF Reg.MBX_GLB_STS 16 16)

/-- The MP takes commands. -/
def State.mpReady (s : State) : Bool := s.regB Reg.MBX_GLB_STS 16

/-- What an MP restart does to the message of a mailbox (Table 3.2). -/
def State.mbxMpReset (s : State) (n : Nat) : State :=
  if !s.mbxGo n then s
  else if n < 8 then (s.mbxAbort n).mbxEvent n 24
  else s.setRegB (Reg.MBX_STS n) 17 true

/-- A controller that was receiving an image goes on with the one it runs (Table 13.11). -/
def State.ctlReceived (s : State) (c : Nat) : State :=
  if s.regF (Reg.CHN_CCc c) 18 16 = 2 then s.setRegF (Reg.CHN_CCc c) 18 16 1 else s

/-- What commands that have not completed were doing ends with them (R58): an armed PAIR_HANDOVER, constant writes that pairs
have still to apply, splits and joins asked for, pulse tests, a chain transfer. An armed CFG_SWAP or PAIR_EXCHANGE stays. -/
def State.endCommands (s : State) : State :=
  let s : State := match s.pair.arm with
    | some a => if a.kind = HandKind.exchange then s else ({ s with pair := { s.pair with arm := none } } : State).setRegB Reg.PAIR_STS 7 false
    | none => s
  let joining := s.cmp.filter (fun e => match e.2.change with | some (true, _, _) => true | _ => false)
  let s := joining.foldl (fun s e => s.setRegF (Reg.CMP_Px_STS e.1) 2 0 3) s
  let s := ((List.range 16).foldl State.ctlReceived s).setRegB Reg.CHN_STS 17 false
  { s with plm := { s.plm with consts := [] }, cmp := s.cmp.map (fun e => (e.1, { e.2 with change := none })),
           chans := s.chans.map (fun e => (e.1, { e.2 with test := false })) }

/-- An MP restart (R58): commands not completed end without a response, posted stored responses go, messages are reset
as Table 3.2 says, and the MP takes no command until it is ready again. -/
def State.mpRestart (s : State) : State :=
  let s := (List.range 16).foldl State.mbxMpReset s.endCommands
  let s := { s with mp := { s.mp with restart := none, pairs := s.mp.pairs.map (fun (p : Nat × MbxPair) =>
    (p.1, { cmds := p.2.cmds.filter (fun c => decide (c.stage = Stage.done)), stored := p.2.stored.filter (fun r => !r.2) })) } }
  (s.setRegB Reg.MBX_GLB_STS 16 false).countF Reg.MBX_GLB_MPRST 15 0 1

end Sys2Proof.Machine
end

