-- ==== Sys2Proof/Machine/Lockstep.lean ====
section
/-!
DEFINITION. Checked pairs (11 R242-R261): what a mismatch or a checker fault does to the pair's work and to the pair, the
checker test, agreement, split and rejoin.
-/
namespace Sys2Proof.Machine

/-- Pair x exists in the order code (Table 1.5): DLT-NX8-M lacks cluster B, DLT-NX8-S cluster B and the
ports L2 and L3. -/
def State.pairPresent (s : State) (x : Nat) : Bool :=
  match s.order with
  | .f => x < 30
  | .m => x < 30 && !(10 ≤ x && x ≤ 18)
  | .s => x < 28 && !(10 ≤ x && x ≤ 18)

def State.chk (s : State) (x : Nat) : Checked := sget {} s.cmp x
def State.modChk (s : State) (x : Nat) (f : Checked → Checked) : State := { s with cmp := smod {} s.cmp x f }
def State.setCmpState (s : State) (x v : Nat) : State := s.setRegF (Reg.CMP_Px_STS x) 2 0 v

/-! ### Ownership that passes from one master to another (R258, R359) -/

/-- The owner of a bank set, with the record of it (R381). -/
def State.setOwner (s : State) (n o : Nat) : State :=
  let s := s.setReg (Reg.BNK_OWN n) (w32 (o % 256))
  s.record 0 [.register (Reg.BNK_OWN n) (w32 (o % 256))]

/-- Every bank of master `a` passes to `b`. -/
def State.passBanks (s : State) (a b : Nat) : State :=
  (List.range 24).foldl (fun s n => if s.regF (Reg.BNK_OWN n) 7 0 = a then s.setOwner n b else s) s

/-- The locks a master holds. -/
def State.locksOf (s : State) (a : Nat) : List Nat := (List.range 64).filter (fun i => s.regF (Reg.LCK_i i) 7 0 = a)

/-- Every lock of master `a` passes to `b`; 0 frees them. -/
def State.passLocks (s : State) (a b : Nat) : State :=
  (s.locksOf a).foldl (fun s i => s.setRegF (Reg.LCK_i i) 7 0 b) s

/-! ### Work that a mismatch withholds (R244, R250, R253) -/

def State.blkPair (s : State) (p : Nat) : BlkPair := sget {} s.blk.pairs p
def State.setBlkPair (s : State) (p : Nat) (b : BlkPair) : State := { s with blk := { s.blk with pairs := sput {} s.blk.pairs p b } }

/-- The work of block pair `p` in service is lost: a call ends its caller's release with END = 0x5, a self-run is
discarded (R225, R250). -/
def State.dropService (s : State) (p : Nat) : State :=
  match (s.blkPair p).serving with
  | none => s
  | some (w, _, _) =>
    let s := s.setBlkPair p { s.blkPair p with serving := none }
    match w.caller with
    | some e => s.endRelease e 5 0 0
    | none => s

/-- A frame that a port engine builds for its cycle and that counts in TRV_TX_STALE when it is not sent. -/
def staleClass (w : WireFrame) : Bool :=
  match w.body with | .trv f => (match f.body with | .datum _ => true | .image .. => true | _ => false) | .ptp _ => false

/-- The frames of a port that are not sent yet are dropped (R253), and the frame on the wire ends with a bad FCS (R244). -/
def State.dropFrames (s : State) (n : Nat) : State :=
  let s := s.cutWire n
  let p : Port := sget {} s.ports n
  let stale := ((p.txq.flatMap (fun q => q.2)).filter staleClass).length
  let s := { s with ports := sput {} s.ports n { p with txq := [] } }
  if stale = 0 then s else s.countF (Reg.TRV_TX_STALE n) 31 0 stale

/-- The command that the MP works on is lost, and no response is posted for it (R250). -/
def State.dropStarted (s : State) : State :=
  { s with mp := { s.mp with pairs := s.mp.pairs.map (fun (p : Nat × MbxPair) =>
      (p.1, { p.2 with cmds := p.2.cmds.filter (fun c => decide (c.stage ≠ Stage.started)) })) } }

/-- The work that pair x had in progress is withheld. -/
def State.withholdWork (s : State) (x : Nat) : State :=
  if x = 0 then s.dropStarted
  else if x ≤ 18 then s.endRelease (cmpId x) 5 0 0
  else if x ≤ 24 then s.dropService (cmpId x)
  else if x = 25 then
    let es := s.stk.entries.map (fun e => (e.1, if e.2.st = .disarmed then e.2 else { e.2 with ref := none }))
    { s with stk := { s.stk with actions := s.stk.actions.filter (fun a => a.dec ≠ s.sclk), entries := es } }
  else s.dropFrames (x - 26)

/-! ### Classing (R252-R254) -/

/-- CMP_STS and CMP_LAST_T take an event: pair, cause, and whether it is permanent and found no spare. -/
def State.cmpEvent (s : State) (x cause : Nat) (perm noSpare : Bool) : State :=
  (s.setReg Reg.CMP_STS (w32 (x + cause * 2 ^ 8 + ofBool perm * 2 ^ 10 + ofBool noSpare * 2 ^ 11))).setReg64
    Reg.CMP_LAST_T_LO Reg.CMP_LAST_T_HI s.now

/-- The queue of a retired block pair moves to the spare, in its order (R225). -/
def State.moveQueue (s : State) (a b : Nat) : State :=
  let q := (s.blkPair a).queue
  if q = [] then s
  else
    let s := s.setBlkPair a { s.blkPair a with queue := [] }
    let n := (s.blkPair b).queue.length + q.length
    let s := s.setBlkPair b { s.blkPair b with queue := (s.blkPair b).queue ++ q }
    let d := Reg.BLK_PAIRp_MAXQ (b - 0x30)
    if s.regF d 4 0 < n then s.setRegF d 4 0 (min 31 n) else s

/-- A Plumb or block pair is retired (R252, R254): its cluster's spare serves its work from the next release, and its
banks and locks pass to the spare. -/
def State.retirePair (s : State) (x cause : Nat) : State :=
  let id := cmpId x
  let was := s.cmpBase x
  let spare := s.spareFor id
  let lost := was ≠ 1 && spare.isNone
  let s := (s.cmpEvent x cause true lost).setRegB Reg.CMP_RETIRED x true
  let s := ((s.setCmpState x 4).setRegB Reg.CMP_SPLIT_MAP x false).modChk x (fun c => { c with resync := none, change := none, noSpare := lost })
  let s := (s.noteRetired (.pair x)).raiseBit 27 3
  let s := (s.constGone id).constGone (id + 0x80)
  let work := if was = 2 then s.cmpServes x else id
  State.skipUnserved <| match was, spare with
  | 1, _ => s
  | _, some k =>
    let s := if s.cmpState (cmpIndex k) = 5 then s.modChk (cmpIndex k) (fun c => { c with prior := 2 }) else s.setCmpState (cmpIndex k) 2
    ((((s.setRegF (Reg.CMP_Px_STS (cmpIndex k)) 15 8 work).passBanks id k).passLocks id k).moveQueue id k)
  | _, none =>
    let s := s.raiseBit 27 4
    if s.role = 2 && s.regB Reg.PAIR_STS 0 then s.startHand .noSpare none else s

/-- A pair resynchronises (R252, R253). -/
def State.startResync (s : State) (x : Nat) : State :=
  let prior := s.cmpBase x
  ((s.setCmpState x 5).modChk x (fun c => { c with prior := prior, resync := some s.sclk })).setRegB (Reg.CMP_Px_STS x) 3 true

/-- A mismatch of pair x, CAUSE 0x1 core or 0x3 closure, is classed: permanent less than 10 s after the last one (R252,
R253). A change asked for the pair is answered STATE (R259). -/
def State.classify (s : State) (x cause : Nat) : State :=
  let c := s.chk x
  let perm := match c.lastMis with | some t => decide (s.now < t + 10000000000) | none => false
  let s := s.modChk x (fun c => { c with lastMis := some s.now, change := none })
  let s := match c.change with | some (_, slot, _) => s.finishErr slot stState | none => s
  let s := (s.countF (Reg.CMP_Px_MIS x) (if cause = 1 then 15 else 31) (if cause = 1 then 0 else 16) 1).tally
    (if cause = 1 then 48 else 50) 1
  let s := s.raiseBit 27 (if cause = 1 then 0 else 1)
  if !perm then
    let s := (s.cmpEvent x cause false false).startResync x
    if x = 0 then s.mpRestart else s
  else if 1 ≤ x && x ≤ 24 then s.retirePair x cause
  else (((s.cmpEvent x cause true false).modChk x (fun c => { c with withdrawn := true })).raiseBit 27 6).withdraw none

/-- A mismatch of pair x that withholds its work. -/
def State.mismatch (s : State) (x cause : Nat) : State := (s.withholdWork x).classify x cause

/-- A checker fault of pair x: permanent at once, and a release that runs on the pair is withheld (R251, R252). -/
def State.checkerFault (s : State) (x : Nat) : State :=
  let c := s.chk x
  let s := s.modChk x (fun c => { c with change := none })
  let s := match c.change with | some (_, slot, _) => s.finishErr slot stState | none => s
  let s := ((s.withholdWork x).raiseBit 27 2).tally 52 1
  if 1 ≤ x && x ≤ 24 then s.retirePair x 2
  else (((s.cmpEvent x 2 true false).modChk x (fun c => { c with withdrawn := true })).raiseBit 27 6).withdraw none

/-- Pair x compares: it is present and neither split nor joining nor retired nor resynchronising. -/
def State.comparing (s : State) (x : Nat) : Bool :=
  s.pairPresent x && (s.cmpState x = 0 || s.cmpState x = 1 || s.cmpState x = 2)

/-- A core mismatch (R243, R244): the trailing tile presents an output that differs from the leading tile's delayed one in
some field. An output on which both agree goes on, and is what the commands of that unit say. -/
def State.coreMismatch (s : State) (x : Nat) (lead trail : PortOut) : State :=
  if s.comparing x && lead ≠ trail then s.mismatch x 1 else s

/-- The resynchronisation of pair x ends (R252, R253): the stake evaluator's entries take new references. The MP's ends
with its restart. -/
def State.resyncDone (s : State) (x : Nat) : State :=
  let c := s.chk x
  if s.cmpState x ≠ 5 || x = 0 || (x = 25 && s.sclk < (c.resync.getD 0) + 64) then s
  else
    let s := (s.setCmpState x c.prior).modChk x (fun c => { c with resync := none })
    if x = 25 then
      s.stk.entries.foldl (fun s e =>
        if e.2.st = .disarmed then s else s.setStake e.1 { e.2 with ref := some (s.reference e.1) }) s
    else s

/-- WARN clears 10 s after the mismatch. -/
def State.warnEnd (s : State) (x : Nat) : State :=
  match (s.chk x).lastMis with
  | some t => if t + 10000000000 ≤ s.now then s.setRegB (Reg.CMP_Px_STS x) 3 false else s
  | none => s

/-- The restarted MP takes commands again (R58). -/
def State.mpStart (s : State) : State :=
  if s.mpReady || s.regF Reg.PWR_START_STS 3 0 < 3 then s
  else
    let s := if s.cmpState 0 = 5 then (s.setCmpState 0 (s.chk 0).prior).modChk 0 (fun c => { c with resync := none }) else s
    s.setRegB Reg.MBX_GLB_STS 16 true

/-! ### Agreement and checker tests (R246, R247, R251) -/

/-- A mismatch of pair x has been found in this clock. -/
def State.mismatchNow (s : State) (x : Nat) : Bool := s.evsNow.any (fun e => e.tag = .mismatch && e.a = x)

/-- An agreement stage's samples differ: counted; 16 consecutive clocks of it are a core mismatch (R247). One that meets a
mismatch of the pair is counted (R259). -/
def State.disagree (s : State) (x i : Nat) : State :=
  if s.mismatchNow x then s.count (Reg.CMP_Px_AGREE x)
  else if !s.comparing x then s
  else
    let d := sget (0, 0) (s.chk x).disagree i
    let n := if d.2 ≠ 0 && d.1 + 1 = s.sclk then d.2 + 1 else 1
    let s := (s.count (Reg.CMP_Px_AGREE x)).modChk x (fun c => { c with disagree := sput (0, 0) c.disagree i (s.sclk, n) })
    if n = 16 then (s.modChk x (fun c => { c with disagree := sput (0, 0) c.disagree i (0, 0) })).mismatch x 1 else s

/-- The instant the last checker test of pair x fell due: a PTP millisecond boundary plus x * 25 us. -/
def State.testDue (s : State) (x : Nat) : Option Nat :=
  if s.now < x * 25000 then none else some ((s.now - x * 25000) / 1000000 * 1000000 + x * 25000)

/-- The pair of rails of a two-rail checker shows a mismatch: it is no code word (R243). -/
def railsMismatch (rails : Nat) : Bool := rails % 4 = 0 || rails % 4 = 3

/-- A checker test that shows the injected difference passes and counts; GROUP is the group of the next. -/
def State.testPassed (s : State) (x : Nat) : State :=
  let s := s.countWrap (Reg.CMP_Px_TESTS x)
  s.setRegF (Reg.CMP_Px_STS x) 6 4 (s.regF (Reg.CMP_Px_TESTS x) 2 0)

/-- One checker test (R251): `rails` are the checker's with the difference injected into the group the test is for, and `same`
tells whether the tiles' digests of the state they keep between works are the same (R249; the manual gives no record of
these). -/
def State.checkerTest (s : State) (x rails : Nat) (same : Bool) : State :=
  if !s.comparing x || s.testDue x = none || (s.chk x).tested = s.testDue x then s
  else
    let s := s.modChk x (fun c => { c with tested := s.testDue x })
    if !railsMismatch rails then s.checkerFault x
    else if same then s.testPassed x else (s.testPassed x).classify x 3

/-! ### Split and rejoin (R256-R258) -/

/-- CMP_SPLIT on the pair with a master ID. -/
def State.askSplit (s : State) (id slot : Nat) : State :=
  let x := cmpIndex id
  let ok := (0x10 ≤ id ∧ id ≤ 0x17) ∨ (0x20 ≤ id ∧ id ≤ 0x27)
  if ¬ ok ∨ s.cmpState x ≠ 0 ∨ (s.reg (Reg.CMP_Px_STS x)).bit 3 ∨ (s.chk x).change.isSome ∨ ¬ s.pairPresent x then s.finishErr slot stState
  else s.modChk x (fun c => { c with change := some (false, slot, s.now) })

/-- CMP_JOIN. -/
def State.askJoin (s : State) (id slot : Nat) : State :=
  let x := cmpIndex id
  let ok := (0x10 ≤ id ∧ id ≤ 0x17) ∨ (0x20 ≤ id ∧ id ≤ 0x27)
  if ¬ ok ∨ s.cmpState x ≠ 3 ∨ (s.chk x).change.isSome then s.finishErr slot stState
  else (s.setCmpState x 6).modChk x (fun c => { c with change := some (true, slot, s.now) })

/-- The constant copy of an engine is gone. -/
def State.dropKonst (s : State) (b : Nat) : State :=
  { s with konst := s.konst.filter (fun e => !(decide (b * 16384 ≤ e.1) && decide (e.1 < (b + 1) * 16384))) }

/-- The copy of the constants that the second engine of a split pair starts with (R256). -/
def State.copyKonst (s : State) (a b : Nat) : State :=
  let ws := (s.konst.filter (fun e => a * 16384 ≤ e.1 && e.1 < (a + 1) * 16384)).map (fun e => (e.1 % 16384, e.2))
  ws.foldl (fun s e => { s with konst := sput 0 s.konst (b * 16384 + e.1) e.2 }) (s.dropKonst b)

/-- A split completes when the pair runs no release; 1 ms after the request it is refused instead. -/
def State.splitDone (s : State) (x : Nat) : State :=
  match (s.chk x).change with
  | some (false, slot, t) =>
    let id := cmpId x
    if s.now < t + 1000000 && (s.eng id).rel.isNone then
      let s := s.modChk x (fun c => { c with change := none })
      let s := ((s.setCmpState x 3).setRegB Reg.CMP_SPLIT_MAP x true).copyKonst id (id + 0x80)
      (s.raiseBit 27 5).finishOk slot []
    else if t + 1000000 ≤ s.now then (s.modChk x (fun c => { c with change := none })).finishErr slot stState
    else s
  | _ => s

/-- A join completes when neither engine runs a release (R258): banks pass, locks are released and counted, the trailing
tile is resynchronised, and one checker test runs; `rails` are its result. 1 ms after the request it is refused. -/
def State.joinDone (s : State) (x rails : Nat) : State :=
  match (s.chk x).change with
  | some (true, slot, t) =>
    let id := cmpId x
    if s.now < t + 1000000 && (s.eng id).rel.isNone && (s.eng (id + 0x80)).rel.isNone then
      let locks := (s.locksOf (id + 0x80)).length
      let s := (s.passBanks (id + 0x80) id).passLocks (id + 0x80) 0
      let s := s.setRegF (Reg.CMP_Px_STS x) 23 16 (min 255 locks)
      let s := s.modChk x (fun c => { c with change := none })
      let s := ((s.setCmpState x 0).setRegB Reg.CMP_SPLIT_MAP x false).dropKonst (id + 0x80)
      if railsMismatch rails then ((s.testPassed x).raiseBit 27 5).finishOk slot []
      else (s.checkerFault x).finishErr slot stState
    else if t + 1000000 ≤ s.now then
      ((s.modChk x (fun c => { c with change := none })).setCmpState x 3).finishErr slot stState
    else s
  | _ => s

/-- BLK_STS.RETIRED. -/
def State.blkRetired (s : State) : Nat := s.regF Reg.CMP_RETIRED 24 19

/-! ### The commands -/

/-- CORE_MISMATCH. -/
def execCoreMismatch (dt : Nat) (outs : PairPorts) (s : State) : Answer :=
  afterEv dt (⟨.mismatch, outs.pair, cmpId outs.pair⟩ :: if outs.pair = 0 then [⟨.mpRestart, 0, 0⟩] else []) s
    (fun s => s.coreMismatch outs.pair outs.lead outs.trail)
/-- TILE_RESYNC_DONE. -/
def execTileResyncDone (dt x : Nat) (s : State) : Answer := after dt s (fun s => s.resyncDone x)
/-- WARN_END. -/
def execWarnEnd (dt x : Nat) (s : State) : Answer := after dt s (fun s => s.warnEnd x)
/-- AGREEMENT_DISAGREE. -/
def execAgreementDisagree (dt x input : Nat) (s : State) : Answer := afterEv dt [⟨.disagree, x, 0⟩] s (fun s => s.disagree x input)
/-- CHECKER_TEST. -/
def execCheckerTest (dt x rails : Nat) (same : Bool) (s : State) : Answer :=
  afterEv dt [⟨.checkTest, x, 0⟩] s (fun s => s.checkerTest x rails same)
/-- SPLIT_COMPLETE. -/
def execSplitComplete (dt x : Nat) (s : State) : Answer := afterEv dt [⟨.splitJoin, x, 0⟩] s (fun s => s.splitDone x)
/-- JOIN_COMPLETE. -/
def execJoinComplete (dt x rails : Nat) (s : State) : Answer := afterEv dt [⟨.splitJoin, x, 0⟩] s (fun s => s.joinDone x rails)
/-- MP_READY. -/
def execMpReady (dt : Nat) (s : State) : Answer := after dt s State.mpStart
/-- MP_RESTART_BEGIN: 1 ms after the response of MP_RESTART was posted (R58, R71). -/
def execMpRestartBegin (dt : Nat) (s : State) : Answer :=
  afterEv dt [⟨.mpRestart, 0, 0⟩] s (fun s => match s.mp.restart with | some t => if t ≤ s.sclk then s.mpRestart else s | none => s)

end Sys2Proof.Machine
end

