-- ==== Sys2Proof/Machine/Memory.lean ====
section
/-!
DEFINITION. SRAM banks, LPDDR5, locks and the MPU (15 R356-R384): the checks of an access in their order, ECC, findings
and retirement, retention, scrubbing, the background test and imprecise notices. Also the record of retirements (R19).
-/
namespace Sys2Proof.Machine

/-! ### The map (Table 1.4) -/

def sramBase : Nat := 0x10000000
def sramEnd : Nat := 0x13000000
def lpdBase : Nat := 0x100000000
def lpdEnd : Nat := 0x300000000
/-- Addresses of SRAM, and of LPDDR5. -/
def inSram (a : Nat) : Bool := sramBase ≤ a && a < sramEnd
def inLpd (a : Nat) : Bool := lpdBase ≤ a && a < lpdEnd
/-- The program store (R356, R371): it begins within the first 4 GiB of LPDDR5 (log 43). -/
def storeBase : Nat := lpdBase + Config.programStore % 2 ^ 32
/-- The bank of an SRAM address, and the byte within the bank. -/
def bankOf (a : Nat) : Nat := (a - sramBase) / 2 ^ 21
def bankOfs (a : Nat) : Nat := (a - sramBase) % 2 ^ 21
/-- The register range of Table 1.4. -/
def regEnd : Nat := 0x130000

/-- The master IDs of Table 1.3. -/
def masterId (id : Nat) : Bool :=
  id = 1 || (0x10 ≤ id && id ≤ 0x18) || (0x20 ≤ id && id ≤ 0x28) || (0x30 ≤ id && id ≤ 0x35) || (0x40 ≤ id && id ≤ 0x48) ||
  (0x90 ≤ id && id ≤ 0x97) || (0xA0 ≤ id && id ≤ 0xA7)

/-- The power domain of a master (Table 1.2). -/
def masterDomain (m : Nat) : Nat :=
  if (0x10 ≤ m && m ≤ 0x18) || (0x90 ≤ m && m ≤ 0x97) then 2
  else if (0x20 ≤ m && m ≤ 0x28) || (0xA0 ≤ m && m ≤ 0xA7) then 3
  else if 0x30 ≤ m && m ≤ 0x35 then 4
  else if m = 0x44 then 9
  else if m = 0x47 then 7
  else if m = 0x01 || m = 0x46 then 1
  else 6

/-- The PCIe registers of the SYS map, which belong to the endpoint. -/
def pcieReg (a : Nat) : Bool := (0x100 ≤ a && a < 0x108) || (0x8000 ≤ a && a < 0x8400) || (0x9000 ≤ a && a < 0x9008)

/-- The power domain of a checked pair (R10). -/
def pairDomain (x : Nat) : Nat :=
  if x = 0 then 1 else if x ≤ 9 then 2 else if x ≤ 18 then 3 else if x ≤ 24 then 4 else if x = 25 then 5 else 6

/-- The power domain that the register at an address belongs to (R11, Tables 1.2 and 1.4). -/
def regDomain (a : Nat) : Nat :=
  match a / 0x10000 with
  | 0x0 => if pcieReg a then 6 else 1
  | 0x1 => 0
  | 0x3 | 0x4 | 0x5 => 5
  | 0x6 | 0x7 | 0xC | 0xE => 6
  | 0x8 => 2
  | 0x9 => 3
  | 0xA => 4
  | 0xB => if 0xB0100 ≤ a && a < 0xB0100 + 30 * 0x20 then pairDomain ((a - 0xB0100) / 0x20) else 1
  | 0xD => 9
  | 0xF => 7
  | 0x10 => if masterId ((a - 0x100000) / 0x100) then masterDomain ((a - 0x100000) / 0x100) else 1
  | _ => 1

/-! ### The MPU (R372-R376) -/

/-- The privilege class of a master (Table 15.4). -/
def privileged (m : Nat) : Bool := m = 0x01 || (0x40 ≤ m && m ≤ 0x48)

/-- A host path, which is never granted LPDDR5. -/
def hostPath (m : Nat) : Bool := m = 0x40 || m = 0x42 || m = 0x43

/-- The region file a master is checked against: a spare that serves uses that of the ID it serves (R359). -/
def State.mpuFile (s : State) (m : Nat) : Nat :=
  if s.cmpBase (cmpIndex m) = 2 && (clusterOf m).contains m then s.cmpServes (cmpIndex m) else m

/-- Words of region `r` of a region file. -/
def State.regionBase (s : State) (m r : Nat) : Nat := (s.cw 7 m (3 * r)).fld 31 8 * 256 + (s.cw 7 m (3 * r + 1)).fld 7 0 * 2 ^ 32
def State.regionAttr (s : State) (m r : Nat) : Word := s.cw 7 m (3 * r + 2)

/-- Region `r` matches a byte (R373). -/
def State.regionHits (s : State) (m r a : Nat) : Bool :=
  let at_ := s.regionAttr m r
  let b := s.regionBase m r
  let n := at_.fld 6 1
  at_.bit 0 && b ≤ a && a < b + 2 ^ n && !at_.bit (8 + (a - b) * 8 / 2 ^ n)

/-- The region that governs a byte: the highest-numbered one that matches. -/
def State.governing (s : State) (m a : Nat) : Option Nat :=
  (List.range 16).reverse.find? (fun r => s.regionHits (s.mpuFile m) r a)

/-- The right of the default map (Table 15.5): 0 read, 1 write, 2 execute. -/
def defaultRight (m a right : Nat) : Bool :=
  if inSram a then true
  else if inLpd a then !hostPath m
  else right < 2

/-- The MPU of master `m` grants a right on a byte. -/
def State.grants (s : State) (m a right : Nat) : Bool :=
  if hostPath m && inLpd a then false
  else match s.governing m a with
    | some r => (s.regionAttr (s.mpuFile m) r).bit ((if privileged m then 16 else 19) + right)
    | none => privileged m && defaultRight m a right

/-- The first byte of a span that the MPU refuses. -/
def State.mpuRefuses (s : State) (m right addr len : Nat) : Option Nat :=
  (((List.range len).map (fun k => addr + k)).find? (fun a => !s.grants m a right))

/-- ORDER of a byte: 0 strict, 1 relaxed, 2 device. -/
def State.orderOf (s : State) (m a : Nat) : Nat :=
  match s.governing m a with
  | some r => (s.regionAttr (s.mpuFile m) r).fld 25 24
  | none => if inSram a || inLpd a then 1 else 2

/-- A write over a span is posted: it comes from the PCIe host, or every byte is RELAXED and it does not come over the remote
register path, which issues every access STRICT (R378, R379). -/
def State.posted (s : State) (m addr len : Nat) : Bool :=
  m = 0x42 || (m ≠ 0x40 && m ≠ 0x43 && (List.range len).all (fun k => s.orderOf m (addr + k) = 1))

/-! ### Banks -/

def State.bankState (s : State) (n : Nat) : Nat := s.regF (Reg.BNK_BSTS n) 1 0
def State.owner (s : State) (n : Nat) : Nat := s.regF (Reg.BNK_OWN n) 7 0
/-- The bank is selected in PAIR_MIRROR and watched by the snooper (R281, R366). -/
def State.mirrored (s : State) (n : Nat) : Bool := s.regB Reg.PAIR_MIRROR n && s.bankState n ≠ 3

/-- A master may access a byte of SRAM: the bank's owner, or an exempt master within its exemption (Table 15.2). -/
def State.mayAccess (s : State) (m a : Nat) (write : Bool) : Bool :=
  let n := bankOf a
  s.bankState n ≠ 3 &&
  ((s.owner n = m && m ≠ 0) ||
   (m = 0x47 && s.bankState n = 0 && bankOfs a / 64 = s.regF (Reg.BNK_BGT n) 14 0) ||
   (m = 0x48 && !write && s.mirrored n) ||
   (m = 0x41 && !write && (s.runs || s.role = 5)) ||
   (m = 0x41 && write && s.shadows && s.mirrored n))

/-- A violation of a memory access: its KIND and the first byte that is not permitted (R376). -/
def State.memViolation (s : State) (m : Nat) (write : Bool) (addr len : Nat) : Option (Nat × Nat) :=
  match s.mpuRefuses m (if write then 1 else 0) addr len with
  | some a => some (1, a)
  | none =>
    let bytes := (List.range len).map (fun k => addr + k)
    let present (a : Nat) : Bool := (inSram a && s.domainOn 7) || (inLpd a && s.domainOn 8)
    match bytes.find? (fun a => !present a) with
    | some a => some (3, a)
    | none =>
      match bytes.find? (fun a => inSram a && !s.mayAccess m a write) with
      | some a => some (2, a)
      | none =>
        match bytes.find? (fun a => inSram a && s.bankState (bankOf a) ≠ 0 &&
            !(m = 0x41 && write && s.bankState (bankOf a) = 1)) with
        | some a => some (4, a)
        | none => none

/-! ### Bytes -/

/-- A byte of SRAM or LPDDR5; no access reads a byte of another address. -/
def State.byteAt (s : State) (a : Nat) : Byte :=
  if inSram a then sget 0 s.mem.sram (a - sramBase) else if inLpd a then sget 0 s.mem.lpd (a - lpdBase) else 0

/-- A byte replaced. No byte is stored at an address that neither memory has. -/
def Memory.setByte (x : Memory) (a : Nat) (b : Byte) : Memory :=
  if inSram a then { x with sram := sput 0 x.sram (a - sramBase) b }
  else if inLpd a then { x with lpd := sput 0 x.lpd (a - lpdBase) b } else x

/-- Bytes laid from an address on. -/
def Memory.setBytes (x : Memory) : Nat → List Byte → Memory
  | _, [] => x
  | a, b :: bs => (x.setByte a b).setBytes (a + 1) bs

/-- The bytes of a span. -/
def State.bytesAt (s : State) (a n : Nat) : List Byte := (List.range n).map (fun k => s.byteAt (a + k))

/-- The canonical form of the memories: addresses strictly rising, no byte equal to what an unlisted address reads as, and
only addresses that exist. -/
def Memory.wf (x : Memory) : Bool :=
  swf (fun _ => (0 : Byte)) x.sram && swf (fun _ => (0 : Byte)) x.lpd &&
  x.sram.all (fun p => p.1 < sramEnd - sramBase) && x.lpd.all (fun p => p.1 < lpdEnd - lpdBase)

/-! ### ECC (R363) -/

/-- The state of the check bits of the 64-bit word that holds a byte: 0 good, 1 single-bit error, 2 uncorrectable. -/
def State.eccAt (s : State) (a : Nat) : Nat :=
  if inSram a then sget 0 s.mem.sramEcc ((a - sramBase) / 8) else sget 0 s.mem.lpdEcc ((a - lpdBase) / 8)

/-- The check bits of a word set. -/
def State.setEcc (s : State) (a v : Nat) : State :=
  { s with mem := if inSram a then { s.mem with sramEcc := sput 0 s.mem.sramEcc ((a - sramBase) / 8) v }
                  else { s.mem with lpdEcc := sput 0 s.mem.lpdEcc ((a - lpdBase) / 8) v } }

/-- Upsets that have struck words of the memories: address and state of the check bits. -/
def State.strike (s : State) (hits : List (Nat × Nat)) : State :=
  hits.foldl (fun s h =>
    if inSram h.1 || inLpd h.1 then s.setEcc h.1 (min 2 h.2) else s) s

/-- A corrected error: counted; a bank writes the corrected word back (R363, R371). -/
def State.corrected (s : State) (a : Nat) : State :=
  if inSram a then ((s.count (Reg.BNK_CE (bankOf a))).setEcc a 0).tally 72 1
  else s.count Reg.BNK_LPD_CE

/-- An uncorrectable error is answered: counted, with its address, and the interrupt set. -/
def State.uncorrectable (s : State) (a : Nat) : State :=
  if inSram a then
    (((s.count (Reg.BNK_UE (bankOf a))).setReg (Reg.BNK_UE_ADDR (bankOf a)) (w32 (bankOfs a))).raiseBit 33 0)
  else
    ((s.count Reg.BNK_LPD_UE).setReg64 Reg.BNK_LPD_UE_ADDR_LO Reg.BNK_LPD_UE_ADDR_HI a).raiseBit 33 5

/-- The 64-bit words a span touches, by the address of their first byte, lower first. -/
def spanWords (addr len : Nat) : List Nat :=
  (List.range ((addr + len + 7) / 8 - addr / 8)).map (fun k => (addr / 8 + k) * 8)

/-- What a memory access answers: data, a violation that has been decided, or the error response (R363). -/
inductive MemAnswer where
  | data (bytes : List Byte)
  | violation (kind addr : Nat)
  | error (addr : Nat)
deriving DecidableEq, Repr

/-- Words read one after the other through ECC: single-bit errors are corrected, the first uncorrectable word ends it. -/
def State.readWords (s : State) : List Nat → State × Option Nat
  | [] => (s, none)
  | w :: ws =>
    match s.eccAt w with
    | 0 => s.readWords ws
    | 1 => (s.corrected w).readWords ws
    | _ => (s.uncorrectable w, some w)

/-- A read by master `m` (R361-R363, R376). -/
def State.memRead (s : State) (m addr len : Nat) : State × MemAnswer :=
  match s.memViolation m false addr len with
  | some (k, a) => (s, .violation k a)
  | none =>
    match s.readWords (spanWords addr len) with
    | (t, none) => (t, .data (s.bytesAt addr len))
    | (t, some a) => (t, .error a)

/-- The part of a span that lies in the 64-bit word at `w`: its offset in the data, and its length. -/
def spanPart (addr len w : Nat) : Nat × Nat :=
  let lo := max addr w
  let hi := min (addr + len) (w + 8)
  (lo - addr, hi - lo)

/-- One word of a write: a partial write of a word with a single-bit error corrects it (R363). -/
def State.memWord (s : State) (addr : Nat) (bytes : List Byte) (w : Nat) : State :=
  let (o, n) := spanPart addr bytes.length w
  let put (s : State) : State := { s with mem := s.mem.setBytes (addr + o) ((bytes.drop o).take n) }
  if n = 8 then (put s).setEcc w 0
  else if s.eccAt w = 0 then put s
  else (put (s.corrected w)).setEcc w 0

/-- The words of a write. A partial write of an uncorrectable word is refused (R363), and nothing of the write is done. -/
def State.writeWords (s : State) (addr : Nat) (bytes : List Byte) (ws : List Nat) : State × Option Nat :=
  match ws.find? (fun w => decide ((spanPart addr bytes.length w).2 ≠ 8) && decide (2 ≤ s.eccAt w)) with
  | some w => (s.uncorrectable w, some w)
  | none => (ws.foldl (fun s w => s.memWord addr bytes w) s, none)

/-- The 64-byte regions that a span touches, by their first byte. -/
def regions (addr len : Nat) : List Nat :=
  (List.range ((addr + len + 63) / 64 - addr / 64)).map (fun k => (addr / 64 + k) * 64)

/-- The snooper reads a region that has been written and sends it (R281). -/
def State.snoopRegion (s : State) (a : Nat) : State :=
  match s.memRead 0x48 a 64 with
  | (t, .data bs) => t.record 0 [.bank (bankOf a) (bankOfs a) bs]
  | (t, .violation k x) => t.violation 0x48 k false (sizeCode 64) x
  | (t, .error _) => t

/-- The snooper follows a write to a mirrored bank of a module that streams (R281). -/
def State.snoop (s : State) (addr : Nat) (bytes : List Byte) : State :=
  if inSram addr && s.mirrored (bankOf addr) && s.streaming then
    (regions addr bytes.length).foldl State.snoopRegion s else s

/-- The wake of a bank begins: it is ready 12 us later (R368). -/
def State.wakeBank (s : State) (n : Nat) : State :=
  let s := s.setRegF (Reg.BNK_BSTS n) 1 0 2
  { s with mem := { s.mem with wake := sput none s.mem.wake n (some (s.sclk + 12 * usClk)) } }

/-- An admitted write of the pair-link DMA to a bank in retention wakes the bank (R368); it is performed then, which no access
can tell from now, since every other access to the bank is refused until the wake has ended. -/
def State.wakeFor (s : State) (addr : Nat) : State :=
  if inSram addr && s.bankState (bankOf addr) = 1 then s.wakeBank (bankOf addr) else s

/-- A write by master `m`. -/
def State.memWrite (s : State) (m addr : Nat) (bytes : List Byte) : State × MemAnswer :=
  match s.memViolation m true addr bytes.length with
  | some (k, a) => (s, .violation k a)
  | none =>
    match (s.wakeFor addr).writeWords addr bytes (spanWords addr bytes.length) with
    | (t, none) => (t.snoop addr bytes, .data [])
    | (t, some a) => (t, .error a)

/-- A memory access as its master sees it: a refused posted write becomes an imprecise notice, any other violation is
captured at once (R40, R379). -/
def State.memAccess (s : State) (m : Nat) (write : Bool) (addr len : Nat) (data : List Byte) : State × MemAnswer :=
  let bytes := (data ++ List.replicate len (0 : Byte)).take len
  let (t, x) := if write then s.memWrite m addr bytes else s.memRead m addr len
  match x with
  | .data _ => (t, x)
  | .violation k a =>
    if write && k ≠ 1 && s.posted m addr len then
      ({ t with mem := { t.mem with notices := t.mem.notices ++ [⟨m, k, a, sizeCode len⟩] } }, x)
    else (t.violation m k write (sizeCode len) a, x)
  | .error a =>
    if write && s.posted m addr len then
      ({ t with mem := { t.mem with notices := t.mem.notices ++ [⟨m, 0, a, sizeCode len⟩] } }, x)
    else (t, x)

/-- A size and alignment that an access may have (R361, R362). -/
def goodSpan (addr len : Nat) : Bool :=
  len = 1 || len = 2 || len = 4 || len = 8 ||
  (addr % 8 = 0 && len % 8 = 0 && 16 ≤ len && len ≤ 256 && addr / 4096 = (addr + len - 1) / 4096)

/-! ### Imprecise notices (R379) -/

/-- The release that a bus error of master `m` ends: its own, or the one whose call its block pair serves. -/
def State.busError (s : State) (m : Nat) : State :=
  let fail (s : State) (e : Nat) : State :=
    match (s.eng e).rel with | some r => s.endRelease e 2 9 r.pc | none => s
  if 0x30 ≤ m && m ≤ 0x35 then
    match (s.blkPair m).serving with
    | some (w, _, _) =>
      match w.caller with
      | some e => fail (s.setBlkPair m { s.blkPair m with serving := none }) e
      | none => s
    | none => s
  else fail s m

/-- The oldest refused posted write is notified: captured in SYS_VIOL if it is a violation, and in MPU_IMP. -/
def State.imprecise (s : State) : State :=
  match s.mem.notices with
  | [] => s
  | x :: rest =>
    let s := { s with mem := { s.mem with notices := rest } }
    let s := if x.kind = 0 then s else s.violation x.master x.kind true x.size x.addr
    let s := s.count Reg.MPU_IMP_CNT
    let s := if s.regB Reg.MPU_IMP_STS 0 then s.setRegB Reg.MPU_IMP_STS 1 true
      else (s.setReg Reg.MPU_IMP_STS (w32 (1 + x.master % 256 * 2 ^ 8 + x.kind * 2 ^ 16))).setReg64
        Reg.MPU_IMP_ADDR_LO Reg.MPU_IMP_ADDR_HI x.addr
    (s.raiseBit 33 4).busError x.master

/-! ### Ownership, retention, locks (R358, R368-R370) -/

/-- A write of BNK_OWN by master `m`: it takes effect, or it is a violation of KIND 0x2 (none). A value that is no master
ID is unpredictable. -/
def State.ownWrite (s : State) (m n : Nat) (v : Word) : Option State :=
  let o := s.owner n
  if s.bankState n = 3 || !(o = m || m = 1 || (o = 0 && v.fld 7 0 = m)) then none
  else some (s.setOwner n (v.fld 7 0))

/-- The master IDs of Table 1.3 that are issued in the order code, with NONE. The ID + 0x80 of a pair is issued while the pair
is split, until its rejoin has ended (R13). -/
def State.issued (s : State) (id : Nat) : Bool :=
  id = 0 || id = 1 || (0x10 ≤ id && id ≤ 0x18) || (0x20 ≤ id && id ≤ 0x28 && s.order = .f) || (0x30 ≤ id && id ≤ 0x35) ||
  (0x40 ≤ id && id ≤ 0x48 && !(id = 0x42 && s.order ≠ .f) && !(id = 0x45 && s.order = .s)) ||
  (((0x90 ≤ id && id ≤ 0x97) || (0xA0 ≤ id && id ≤ 0xA7 && s.order = .f)) && s.regB Reg.CMP_SPLIT_MAP (cmpIndex (id - 0x80)))

/-- A master that makes accesses: its ID is issued (R12, R13, R17) and its domain is on (R10). -/
def State.issues (s : State) (m : Nat) : Bool := m ≠ 0 && s.issued m && s.domainOn (masterDomain m)

/-- A write of BNK_CTL by master `m`; none where it is a violation. -/
def State.bankCtl (s : State) (m n : Nat) (v : Word) : Option State :=
  if !(s.owner n = m && m ≠ 0) && m ≠ 1 then none
  else
    let st := s.bankState n
    let v := if st = 3 then v.setBit 0 (s.regB (Reg.BNK_CTL n) 0) else v
    let s := s.setReg (Reg.BNK_CTL n) (v &&& 7)
    if st = 3 then some s
    else if v.bit 0 then
      some (((s.setRegF (Reg.BNK_BSTS n) 1 0 1).setRegB Reg.BNK_RET_MAP n true))
    else if st = 1 then
      some (s.wakeBank n)
    else some s

/-- The wake of a bank ends. -/
def State.wakeDone (s : State) (n : Nat) : State :=
  match s.bankState n, sget none s.mem.wake n with
  | 2, some t =>
    if t ≤ s.sclk then
      (({ s with mem := { s.mem with wake := sput none s.mem.wake n none } } : State).setRegF (Reg.BNK_BSTS n) 1 0 0
        |>.setRegB Reg.BNK_RET_MAP n false).raiseBit 33 3
    else s
  | _, _ => s

/-- A performed read of LCK_i by master `m` (R369). -/
def State.lockRead (s : State) (m i : Nat) : Word × State :=
  let h := s.regF (Reg.LCK_i i) 7 0
  if h = 0 then (w32 (m + 2 ^ 30), s.setReg (Reg.LCK_i i) (w32 m))
  else if h = m then (w32 (m + 3 * 2 ^ 30), s)
  else (w32 (h + 2 * 2 ^ 30), s)

/-- A write of LCK_i by master `m` (R370). -/
def State.lockWrite (s : State) (m i : Nat) (v : Word) : State :=
  let h := s.regF (Reg.LCK_i i) 7 0
  if (v.bit 0 && h = m && h ≠ 0) || (v.bit 1 && m = 1) then s.setReg (Reg.LCK_i i) 0
  else s.count Reg.BNK_LCK_BADREL

/-! ### Findings, scrub, background test, patrol (R364-R367, R371) -/

/-- The entries of a store of a unit a bank that are not of bank `n`. -/
def offBank {α : Type} (n unit : Nat) (m : Sparse α) : Sparse α :=
  m.filter (fun p => !(decide (n * unit ≤ p.1) && decide (p.1 < (n + 1) * unit)))

/-- The memories without what bank `n` holds. -/
def Memory.dropBank (x : Memory) (n : Nat) : Memory :=
  { x with sram := offBank n (2 ^ 21) x.sram, sramEcc := offBank n (2 ^ 18) x.sramEcc }

/-- A bank is retired (R366). -/
def State.retireBank (s : State) (n : Nat) : State :=
  let o := s.owner n
  let s := ((s.setRegF (Reg.BNK_BSTS n) 1 0 3).setRegF (Reg.BNK_BSTS n) 15 8 o).setRegB Reg.BNK_RET_MAP n false
  let s := (s.setOwner n 0).setRegB Reg.BNK_GLB_STS n true
  let s := { s with mem := s.mem.dropBank n }
  (s.noteRetired (.bank n)).raiseBit 33 2

/-- A finding in a row (R365): SOURCE 1 scrubber, 2 background tester. -/
def State.finding (s : State) (n row source : Nat) : State :=
  if s.regB (Reg.BNK_BSTS n) 2 && s.regF (Reg.BNK_FIND n) 10 0 = row then s.retireBank n
  else
    let c := satAdd 0xFFFF (s.regF (Reg.BNK_FIND n) 31 16) 1
    let s := (s.setReg (Reg.BNK_FIND n) (w32 (row + source * 2 ^ 12 + c * 2 ^ 16))).setRegB (Reg.BNK_BSTS n) 2 true
    (s.raiseBit 33 1).tally 68 1

/-- An uncorrectable word that the scrubber has found is noted for the pass and is a finding. -/
def State.scrubFinding (s : State) (n row : Nat) : State :=
  ({ s with mem := { s.mem with found := smod [] s.mem.found n (fun rs => row :: rs) } } : State).finding n row 1

/-- What the scrubber of bank `n` does with the word at `a` (R365). -/
def State.scrubRead (s : State) (n a : Nat) : State :=
  match s.eccAt a with
  | 0 => s
  | 1 => s.corrected a
  | _ => s.scrubFinding n ((a - (sramBase + n * 2 ^ 21)) / 1024)

/-- The end of a pass of the scrubber of bank `n`: the mark of a finding goes where the pass has found no uncorrectable word
in the recorded row (R365). -/
def State.scrubPassed (s : State) (n : Nat) : State :=
  let rows := sget [] s.mem.found n
  let t := { s with mem := { s.mem with found := sput [] s.mem.found n [] } }
  if rows.contains (s.regF (Reg.BNK_FIND n) 10 0) then t else t.setRegB (Reg.BNK_BSTS n) 2 false

/-- One word read by the scrubber of bank `n`. -/
def State.scrubWord (s : State) (n : Nat) : State :=
  if s.bankState n ≠ 0 || !s.regB (Reg.BNK_CTL n) 2 || !s.domainOn 7 then s
  else
    let w := sget 0 s.mem.scrub n
    let t := ({ s with mem := { s.mem with scrub := sput 0 s.mem.scrub n ((w + 1) % 262144) } } : State).scrubRead n
      (sramBase + n * 2 ^ 21 + 8 * w)
    if w + 1 < 262144 then t else t.scrubPassed n

/-- The background tester reads the region at `a` into its buffer through ECC (R363, R367): single-bit errors are corrected,
an uncorrectable word is answered with the error response and stays as it is (log 67). -/
def State.readRegion (s : State) (a : Nat) : State :=
  (List.range 8).foldl (fun s k => match s.eccAt (a + 8 * k) with
    | 0 => s
    | 1 => s.corrected (a + 8 * k)
    | _ => s.uncorrectable (a + 8 * k)) s

/-- One region tested by the background tester; `fails` when its march fails. -/
def State.testRegion (s : State) (n : Nat) (fails : Bool) : State :=
  if s.bankState n ≠ 0 || !s.regB (Reg.BNK_CTL n) 1 || !s.domainOn 7 then s
  else
    let g := s.regF (Reg.BNK_BGT n) 14 0
    let s := s.readRegion (sramBase + n * 2 ^ 21 + 64 * g)
    let s := s.setRegF (Reg.BNK_BGT n) 14 0 ((g + 1) % 32768)
    let s := if g + 1 < 32768 then s else s.setRegF (Reg.BNK_BGT n) 31 16 ((s.regF (Reg.BNK_BGT n) 31 16 + 1) % 65536)
    if fails then s.finding n (g / 16) 2 else s

/-- The bytes of a word of LPDDR5 as the application store has them, where the word lies in the program store. -/
def State.storedWord (s : State) (a : Nat) : Option (List Byte) :=
  if s.upd.app.valid && storeBase ≤ a && a < storeBase + s.upd.app.prog.bytes then
    some ((List.range 8).map (fun k => sget 0 s.upd.app.bytes (a - storeBase + k)))
  else none

/-- The patrol finds an uncorrectable word: it is reported, and the MP rewrites a word of the program store from the
application store (R371). -/
def State.patrolFinds (s : State) (a : Nat) : State :=
  let s := s.uncorrectable a
  match s.storedWord a with
  | some bs => ({ s with mem := s.mem.setBytes a bs } : State).setEcc a 0
  | none => s

/-- One burst of the LPDDR5 patrol. -/
def State.patrolBurst (s : State) : State :=
  if !s.regB Reg.BNK_LPD_STS 1 || !s.domainOn 8 then s
  else
    let p := s.mem.patrol
    let s := { s with mem := { s.mem with patrol := (p + 1) % 2 ^ 27 } }
    (List.range 8).foldl (fun s k =>
      let a := lpdBase + p * 64 + k * 8
      match s.eccAt a with
      | 0 => s
      | 1 => (s.corrected a).setEcc a 0
      | _ => s.patrolFinds a) s

/-- The oldest retirement that waits is written to MRAM (R19). -/
def State.writeRetirement (s : State) : State :=
  match s.mram.waiting with
  | [] => s
  | r :: rest => { s with mram := { retired := s.mram.retired ++ [r], waiting := rest } }

/-- What an access to a span of memory by master `m` is to the tables of same-clock orders. -/
def memEvs (m : Nat) (write : Bool) (addr len : Nat) : List Ev :=
  [⟨.access, m, 0⟩] ++
  (if inSram addr then [⟨.bankAccess, bankOf addr, m⟩, ⟨.bankAccess, bankOf (addr + len - 1), m⟩] else []) ++
  (if write then (spanWords addr len).map (fun w => ⟨.wordWrite, w, 0⟩) else [])

/-- A misuse of the memories (R362) leaves what they hold free, in their canonical form. -/
def State.misusedMemory (s : State) (rule : Nat) : State :=
  let t := Config.anyState rule s.free
  { s with mem := if t.mem.wf then t.mem else s.mem, out := t.out ++ s.out, free := s.free + 1 }

/-- The error response of Table 2.6: a write from the PCIe host is dropped, a read from it completes with Completer Abort, which
is counted and reported as advisory; any other master gets a bus error, which ends the release it works for (Table 8.9). -/
def State.errorAnswer (s : State) (m addr : Nat) (write : Bool) : State :=
  if m ≠ 0x42 then (s.emit (.errorResponse m addr write)).busError m
  else if write then s
  else ((s.countF Reg.SYS_PCIE_ERR 15 0 1).emit (.errorResponse m addr write)).emit .pcieAdvisory

/-- An access by a master that issues accesses (R12). A span that R361 and R362 do not allow is a misuse where no check
refuses it (R5). A posted write that is refused is answered by its imprecise notice. -/
def State.sramAccess (s : State) (m : Nat) (write : Bool) (addr size : Nat) (data : List Byte) (hits : List (Nat × Nat)) : State :=
  if !s.issues m then s
  else if !goodSpan addr size && s.memViolation m write addr size = none then s.misusedMemory 362
  else
    let (t, x) := (s.strike hits).memAccess m write addr size data
    match x with
    | .data bs => if write then t else t.emit (.memData m addr bs)
    | _ => if t.mem.notices = s.mem.notices then t.errorAnswer m addr write else t

/-! ### The commands -/

/-- SRAM_ACCESS: an access by master `m` to SRAM or LPDDR5; `hits` are upsets that have struck words before it. -/
def execSramAccess (dt m : Nat) (write : Bool) (addr size : Nat) (data : List Byte) (hits : List (Nat × Nat)) (s : State) : Answer :=
  afterEv dt (memEvs m write addr size) s (fun s => s.sramAccess m write addr size data hits)
/-- IMPRECISE_NOTICE. -/
def execImpreciseNotice (dt : Nat) (s : State) : Answer := after dt s State.imprecise
/-- WAKE_DONE. -/
def execWakeDone (dt n : Nat) (s : State) : Answer := after dt s (fun s => s.wakeDone (n % 24))
/-- SCRUB. -/
def execScrub (dt n : Nat) (hits : List (Nat × Nat)) (s : State) : Answer := 
  afterEv dt [⟨.scrub, sramBase + n % 24 * 2 ^ 21 + 8 * sget 0 s.mem.scrub (n % 24), n % 24⟩] s (fun s => (s.strike hits).scrubWord (n % 24))
/-- BACKGROUND_TEST. -/
def execBackgroundTest (dt n : Nat) (fails : Bool) (s : State) : Answer := 
  afterEv dt [⟨.bankTest, n % 24, 0⟩] s (fun s => s.testRegion (n % 24) fails)
/-- LPD_PATROL. -/
def execLpdPatrol (dt : Nat) (hits : List (Nat × Nat)) (s : State) : Answer := after dt s (fun s => (s.strike hits).patrolBurst)
/-- RETIREMENT_RECORD. -/
def execRetirementRecord (dt : Nat) (s : State) : Answer := after dt s State.writeRetirement

end Sys2Proof.Machine
end

