-- ==== Sys2Proof/Machine/BlockTypes.lean ====
section
/-!
DEFINITION. The seven block types (10 R224, R228-R238): what each computes from its IN words, its instance words, the
datum windows and the segments of its source. Intermediate values are exact; the layouts of STATE words that the manual
does not give are the model's (log 17).
-/
namespace Sys2Proof.Machine

/-- What a block computes from. -/
structure BlkEnv where
  s    : State
  inst : Nat
  it   : List Word
  /-- header, IN copy, OUT copy and STATE as they stand -/
  old  : List Word
  ins  : List Word
  /-- S in whole microseconds of PTP time -/
  us   : Nat
  datw : List Word
  /-- segments the calling release has produced for the instance and not appended yet -/
  pend : List BlkSeg
  /-- no call or run of the instance has completed yet (R220) -/
  first : Bool
  /-- the pair that serves -/
  server : Nat

/-- What a type computes: ENO, OUT words, STATE words, segments, and what Table 10.3 counts clocks by. -/
structure BlkOut where
  eno   : Bool := true
  /-- an IN word out of range that leaves the rest computed (R235) -/
  param : Option Nat := none
  outs  : List Word
  /-- the STATE words before any segment is accepted -/
  st    : List Word
  /-- segments, each with the STATE words that stand once it is accepted -/
  segs  : List (Seg × List Word) := []
  units : Nat := 0

namespace BlkEnv

def type (e : BlkEnv) : Nat := (item e.it 0).fld 2 0
def inp (e : BlkEnv) (k : Nat) : Word := item e.ins k
/-- IN words as signed numbers of 32 and 64 bits. -/
def sin (e : BlkEnv) (k : Nat) : Int := (e.inp k).toInt
def sin64 (e : BlkEnv) (k : Nat) : Int := signed 64 (pair64 (e.inp k) (e.inp (k + 1)))
def nin64 (e : BlkEnv) (k : Nat) : Nat := pair64 (e.inp k) (e.inp (k + 1))
/-- OUT and STATE words of the last call or run. -/
def out (e : BlkEnv) (k : Nat) : Word := item e.old (8 + (blkCounts e.type).1 + k)
def st (e : BlkEnv) (k : Nat) : Word := item e.old (8 + (blkCounts e.type).1 + (blkCounts e.type).2.1 + k)
def st64 (e : BlkEnv) (k : Nat) : Int := signed 64 (pair64 (e.st k) (e.st (k + 1)))
def st96 (e : BlkEnv) (k : Nat) : Int := signed 96 (pair64 (e.st k) (e.st (k + 1)) + (e.st (k + 2)).toNat * 2 ^ 64)
/-- The time step in microseconds (R220, R221): 0 at the first call or run. -/
def dt (e : BlkEnv) : Nat := if e.first then 0 else (e.us + 2 ^ 32 - (item e.old 3).toNat) % 2 ^ 32
/-- S in nanoseconds. -/
def ns (e : BlkEnv) : Nat := e.us * 1000
/-- Position, velocity and WRAPS of a datum in the window the block sees. -/
def datP (e : BlkEnv) (d : Nat) : Nat := pair64 (item e.datw (8 * d)) (item e.datw (8 * d + 1))
def datV (e : BlkEnv) (d : Nat) : Int := signed 64 (pair64 (item e.datw (8 * d + 2)) (item e.datw (8 * d + 3)))
def datW (e : BlkEnv) (d : Nat) : Int := (item e.datw (8 * d + 4)).toInt

end BlkEnv

/-- A value cut to a signed 32-bit word, saturating. -/
def sat32 (i : Int) : Word := w32 (pattern 32 (clampInt (-(2 ^ 31)) (2 ^ 31 - 1) i))
/-- A number as 64 and 96 bits of words. -/
def int64 (i : Int) : List Word := intWords i
def int96 (i : Int) : List Word := let p := pattern 96 i; [w32 p, w32 (p / 2 ^ 32), w32 (p / 2 ^ 64)]
/-- A rational held within limits. -/
def clampRat (lo hi x : Rat) : Rat := if x < lo then lo else if hi < x then hi else x
/-- Opposite signs. -/
def opposite (a b : Rat) : Bool := (decide (a < 0) && decide (0 < b)) || (decide (0 < a) && decide (b < 0))
/-- A 32.32 number as a rational. -/
def q32 (i : Int) : Rat := (i : Rat) / 4294967296
/-- A rational as a 32.32 number, saturating at 64 bits. -/
def toQ32 (x : Rat) : Int := clampInt (-(2 ^ 63)) (2 ^ 63 - 1) (nearest (x * 4294967296))

/-! ### Ranges of IN words (R224): the index of the first word out of range -/

/-- The first failing check of a list. -/
def firstBad (cs : List (Bool × Nat)) : Option Nat := (cs.find? (fun c => !c.1)).map (fun c => c.2)

/-- SEG_DUR of a producing instance. -/
def segDurOk (w : Word) : Bool := 100000 ≤ w.toNat && w.toNat ≤ 100000000

/-- The check of the IN words of a type. -/
def BlkEnv.bad (e : BlkEnv) : Option Nat :=
  match e.type with
  | 1 => firstBad [((e.inp 0).fld 31 3 = 0, 0), (e.sin 8 ≤ e.sin 9, 8)]
  | 2 => firstBad [(0 < e.nin64 5, 5), (0 < e.nin64 7, 7), (segDurOk (e.inp 9), 9), (0 < e.nin64 10, 10)]
  | 3 => firstBad [((e.inp 0).fld 4 3 ≠ 3, 0), (1 ≤ (e.inp 2).toNat, 2),
      ((e.inp 0).fld 4 3 ≠ 2 || 0 < e.nin64 5, 5), (segDurOk (e.inp 7), 7), (e.inp 8 = 0, 8), (e.inp 9 = 0, 9)]
  | 4 => firstBad [(pair64 (e.s.cw 2 ((e.inp 0).fld 2 0) 1) (e.s.cw 2 ((e.inp 0).fld 2 0) 2) ≠ 0, 0), ((e.inp 1).fld 4 0 < 24, 1), ((e.inp 2).toNat % 16 = 0, 2),
      (2 ≤ (e.inp 3).toNat && (e.inp 3).toNat ≤ 65536, 3), (segDurOk (e.inp 9), 9), (e.inp 10 = 0, 10)]
  | 5 => firstBad [(pair64 (e.s.cw 2 ((e.inp 0).fld 6 4) 1) (e.s.cw 2 ((e.inp 0).fld 6 4) 2) ≠ 0, 0),
      (e.nin64 1 < e.s.datMod ((e.inp 0).fld 6 4), 1), (1 ≤ (e.inp 8).toNat && (e.inp 8).toNat ≤ 8, 8)]
  | 6 => firstBad [((e.inp 5).toNat ≤ 0x8000, 5)]
  | 7 => firstBad [(0 < (e.inp 2).toNat, 2), (0 < (e.inp 4).toNat, 4), ((e.inp 6).toNat ≤ 0x10000, 6)]
  | _ => some 0

/-! ### PIDB (R231) -/

/-- PIDB. -/
def BlkEnv.pidb (e : BlkEnv) : BlkOut :=
  let man := (e.inp 0).bit 0
  let rev := (e.inp 0).bit 1
  let dt : Rat := (e.dt : Rat)
  let pv : Rat := (e.sin 2 : Rat)
  let err0 : Rat := (e.sin 1 : Rat) - pv
  let err := if rev then -err0 else err0
  let kp : Rat := (e.sin 4 : Rat) / 65536
  let ti : Rat := ((e.inp 5).toNat : Rat)
  let td : Rat := ((e.inp 6).toNat : Rat)
  let tf : Rat := ((e.inp 7).toNat : Rat)
  let ff : Rat := (e.sin 3 : Rat)
  let lo : Rat := (e.sin 8 : Rat)
  let hi : Rat := (e.sin 9 : Rat)
  let i0 := q32 (e.st64 0)
  let df0 := q32 (e.st64 3)
  let (u, out, i, df) :=
    if man then
      let u : Rat := (e.sin 10 : Rat)
      let out := clampRat lo hi u
      (u, out, out - kp * err - ff - df0, df0)
    else
      let dd1 := -kp * td * (pv - ((e.st 2).toInt : Rat)) / dt
      let dd := if e.dt = 0 then df0 else if rev then -dd1 else dd1
      let df := if e.dt = 0 then df0 else df0 + (dd - df0) * dt / (tf + dt)
      let iNew := if ti ≠ 0 ∧ (e.inp 0).bit 2 = false then i0 + kp * err * dt / ti else i0
      let u := kp * err + iNew + df + ff
      let out := clampRat lo hi u
      (u, out, if u = out ∨ opposite (iNew - i0) (u - out) = true then iNew else i0, df)
  { outs := [sat32 (nearest out), sat32 err.floor, w32 (ofBool (decide (u < lo)) + 2 * ofBool (decide (hi < u)))]
    st := int64 (toQ32 i) ++ [e.inp 2] ++ int64 (toQ32 df) }

/-! ### TENS (R237) -/

/-- TENS. -/
def BlkEnv.tens (e : BlkEnv) : BlkOut :=
  let err0 := e.sin 1 - e.sin 2
  let err : Rat := if (e.inp 0).bit 0 then -(err0 : Rat) else (err0 : Rat)
  let kp : Rat := (e.sin 3 : Rat) / 65536 / 65536
  let ti : Rat := ((e.inp 4).toNat : Rat)
  let lim : Rat := ((e.inp 5).toNat : Rat) / 65536
  let low := q32 (e.datV ((e.inp 0).fld 5 3)) < ((e.inp 6).toNat : Rat) / 65536
  let i0 := q32 (e.st64 0)
  let (clip, out, i) :=
    if (e.inp 0).bit 1 then
      let out : Rat := (e.sin 7 : Rat) / 65536
      (false, out, out - kp * err)
    else
      let iNew := if ti ≠ 0 ∧ (e.inp 0).bit 2 = false ∧ low = false then i0 + kp * err * (e.dt : Rat) / ti else i0
      let u := kp * err + iNew
      let out := clampRat (-lim) lim u
      (decide (u ≠ out), out, if u = out ∨ opposite (iNew - i0) (u - out) = true then iNew else i0)
  { outs := [sat32 (nearest (out * 65536)), sat32 err.floor, w32 (ofBool clip + 2 * ofBool low)], st := int64 (toQ32 i) }

/-! ### WIND (R238) -/

/-- The number pi, to 36 digits. -/
def piQ : Rat := 3141592653589793238462643383279502884 / 1000000000000000000000000000000000000

/-- WIND. S1 and S2 hold the diameter and S3 and S4 the velocity to 2^-32, below O0 and S0. -/
def BlkEnv.wind (e : BlkEnv) : BlkOut :=
  let v := q32 (e.datV ((e.inp 0).fld 2 0))
  let dt : Rat := (e.dt : Rat) / 1000000
  let omega : Rat := (e.sin 1 : Rat) / 65536
  let core : Rat := ((e.inp 2).toNat : Rat)
  let unit : Rat := ((e.inp 10).toNat : Rat)
  let thick : Rat := ((e.inp 4).toNat : Rat) / 1000
  let low := omega.abs < 5 / 100
  let d0 := if (e.inp 0).bit 4 then ((e.inp 3).toNat : Rat) else q32 (e.st64 1)
  let meas := v * unit / (piQ * omega)
  let change := if low then 0 else if (e.inp 0).bit 3 then (if meas < d0 then meas - d0 else 0) else (if d0 < meas then meas - d0 else 0)
  let lim := 2 * thick * omega.abs * dt
  let cut := clampRat (-lim) lim change
  let d := d0 + cut
  let tOut := ((e.sin 5 : Int) : Rat) * (1 - ((e.inp 6).toNat : Rat) / 65536 * (d - core) / d)
  let acc := if e.dt = 0 then 0 else (v - q32 (e.st64 3)) / dt
  let four (x : Rat) : Rat := x * x * x * x
  let inertia := ((e.inp 7).toNat : Rat) / 65536 +
    piQ / 32 * ((e.inp 9).toNat : Rat) * ((e.inp 8).toNat : Rat) * (four d - four core) / 1000000000000000000000000
  let tq := tOut * d / 2 / 1000 + inertia * 2 * acc * unit / d
  { outs := [w32 (freeRound d).toNat, sat32 (freeRound tOut), sat32 (freeRound tq), sat32 (freeRound (unit / (piQ * d) * 65536)),
      w32 (ofBool (decide (cut ≠ change)) + 2 * ofBool low)]
    st := [sat32 (v * 65536).floor] ++ int64 (toQ32 d) ++ int64 (toQ32 v) }

/-! ### REGC (R236) -/

/-- The path of a datum through its retained segments and its queue; none before the oldest segment retained. Before its
first segment the datum holds its position. -/
def State.pastPos (s : State) (d t : Nat) : Option Rat :=
  let x := s.dat d
  let m := s.datMod d
  let held : Kin := { u := ((x.heldW * (m : Int) + (x.heldP : Int) : Int) : Rat) }
  match (sget [] s.blk.retained d).reverse with
  | [] => some (pathFrom m held ((t : Int) * 2 ^ 32) none x.queue).1.u
  | g :: rest => if t < g.t0 then none else some (pathFrom m held ((t : Int) * 2 ^ 32) none (g :: rest ++ x.queue)).1.u

/-- An error reduced into (-m/2, m/2]. -/
def reduceErr (m : Nat) (e : Rat) : Rat :=
  let r := e - ((e / (m : Rat)).floor : Rat) * (m : Rat)
  if (m : Rat) / 2 < r then r - (m : Rat) else r

/-- What REGC carries from edge to edge. -/
structure RegSt where
  hist   : List Int
  corr   : Int
  err    : Int
  missed : Bool
  limit  : Bool
  valid  : Bool

/-- One edge of REGC. -/
def BlkEnv.regEdge (e : BlkEnv) (x : RegSt) (t : Nat) : RegSt :=
  let d := (e.inp 0).fld 6 4
  match e.s.pastPos d t with
  | none => { x with missed := true }
  | some u =>
    let err := (reduceErr (e.s.datMod d) (u - (e.nin64 1 : Rat))).floor
    let x := { x with err := err }
    if ((e.inp 3).toNat : Int) < (err.natAbs : Int) then { x with missed := true }
    else
      let h := x.hist ++ [err]
      if h.length < (e.inp 8).toNat then { x with hist := h }
      else
        let m : Rat := ((h.foldl (· + ·) 0 : Int) : Rat) / (h.length : Rat)
        let x := { x with hist := [] }
        if m.abs ≤ ((e.inp 6).toNat : Rat) then x
        else
          let ms : Rat := ((e.inp 5).toNat : Rat)
          let step := nearest (clampRat (-ms) ms (-((e.sin 4 : Rat) / 65536) * m))
          let l : Int := ((e.inp 7).toNat : Int)
          let c := clampInt (-l) l (x.corr + step)
          { x with corr := c, limit := x.limit || decide (c ≠ x.corr + step), valid := true }

/-- REGC: the edges after LAST_T and up to S, the 8 latest of them taken. -/
def BlkEnv.regc (e : BlkEnv) : BlkOut :=
  let last := (e.st 0).toNat
  let from_ := if e.ns % 2 ^ 32 < last then (e.ns / 2 ^ 32 - 1) * 2 ^ 32 + last else e.ns / 2 ^ 32 * 2 ^ 32 + last
  let rising := !(e.inp 0).bit 3
  let fi : FastIn := sget {} e.s.fis ((e.inp 0).fld 2 0)
  let es := (fi.hist.filter (fun h => h.2 = rising && from_ < h.1 && h.1 ≤ e.ns)).map (fun h => h.1)
  let gone := if rising then fi.goneUp else fi.goneDown
  let taken := (es.take 8).reverse
  let n := min 8 (e.st 9).toNat
  let x0 : RegSt := {
    hist := (List.range n).map (fun k => (e.st (1 + k)).toInt), corr := if (e.inp 0).bit 7 then 0 else (e.out 0).toInt,
    err := (e.out 1).toInt, missed := decide (8 < es.length) || decide (from_ < gone), limit := false, valid := false }
  let x := taken.foldl e.regEdge x0
  let hist := ((x.hist.map sat32) ++ List.replicate 8 (0 : Word)).take 8
  { eno := x.valid
    outs := [sat32 x.corr, sat32 x.err,
      w32 (ofBool x.valid + 2 * ofBool x.missed + 4 * ofBool x.limit + 256 * taken.length)]
    st := [match es with | t :: _ => w32 t | [] => e.st 0] ++ hist ++ [w32 x.hist.length]
    units := taken.length }

/-! ### Producing segments (R228, R229) -/

/-- The datum or axis stream an instance feeds, and its modulo: 2^64 for an axis stream. -/
def BlkEnv.feeds (e : BlkEnv) : Option Nat := e.s.itemDatum e.inst e.it
def BlkEnv.modulo (e : BlkEnv) : Nat := match e.feeds with | some d => e.s.datMod d | none => 2 ^ 64
def BlkEnv.axis (e : BlkEnv) : Nat := (item e.it 8).fld 9 0

/-- The last segment accepted, or produced and pending. -/
def BlkEnv.last (e : BlkEnv) : Option Seg :=
  match e.pend.getLast? with
  | some x => some x.seg
  | none => e.s.streamEnd e.feeds e.axis

/-- The last segment queued or pending. -/
def BlkEnv.tail (e : BlkEnv) : Option Seg :=
  match e.pend.getLast?, e.feeds with
  | some x, _ => some x.seg
  | none, some d => (e.s.dat d).queue.getLast?
  | none, none => (e.s.axisQ e.axis).getLast?

/-- Where the datum or stream stands at an instant in ns while nothing is queued. -/
def BlkEnv.rest (e : BlkEnv) (t : Nat) : Kin :=
  match e.feeds with
  | some d => ((e.s.dat d).path (e.s.datMod d) ((t : Int) * 2 ^ 32)).1
  | none => match sget none e.s.blk.axisLast e.axis with
    | some g => g.ramp (2 ^ 64) (nsSec ((t : Int) - (g.fin : Int)))
    | none => { u := 0 }

/-- No more segments are generated: the last one ends at `until_` or later (R229). -/
def enough (until_ : Nat) : Option Nat → Bool
  | some t => until_ ≤ t
  | none => false

/-- L of R229: how far past S an instance generates. -/
def BlkEnv.reach (e : BlkEnv) (segDur : Nat) : Nat :=
  let (pub, hz) := match e.feeds with
    | some d => (e.s.datPub d, e.s.datHorizon d)
    | none => ((item e.it 8).fld 13 10, (item e.it 8).fld 21 14 * 1000000)
  if pub = 0 then 2 * segDur
  else hz + 2 * [0, 1, 2, 3].foldl (fun m n => if pub / 2 ^ n % 2 = 1 then max m (e.s.cycleNs n) else m) 0

/-- A segment with a given start state and jerk. -/
def mkSeg (m t0 dur : Nat) (k : Kin) (j : Rat) (ramp : Int × Nat × Int × Nat) : Seg :=
  let p := nearest k.u
  { t0 := t0, dur := dur, seq := 0, p0 := (p % (m : Int)).toNat, wraps := p / (m : Int), v0 := nearest k.v, a0 := nearest k.a,
    j := nearest j, sj1 := ramp.1, sd1 := ramp.2.1, sj2 := ramp.2.2.1, sd2 := ramp.2.2.2 }

/-- The cubic that meets two positions and velocities over `dur` ns. -/
def hermite (m t0 dur : Nat) (y0 v0 y1 v1 : Rat) (ramp : Int × Nat × Int × Nat) : Seg :=
  let t := nsSec dur
  let d := y1 - y0 - v0 * t
  let w := v1 - v0
  mkSeg m t0 dur { u := y0, v := v0, a := (6 * d - 2 * w * t) / (t * t) } ((6 * w * t - 12 * d) / (t * t * t)) ramp

/-- The stop ramp of a source segment scaled by the slope at the piece's end (log 17). -/
def scaledRamp (g : Seg) (slope : Rat) : Int × Nat × Int × Nat :=
  (nearest (slope * g.sj1), g.sd1, nearest (slope * g.sj2), g.sd2)

/-- The end of the piece of a source segment that begins at `c` and lasts at most `segDur`. -/
def pieceEnd (g : Seg) (c segDur : Nat) : Nat :=
  let left := g.fin - c
  c + left / ((left + segDur - 1) / segDur)

/-- A source segment's state at an instant in ns. -/
def srcAt (m : Nat) (g : Seg) (t : Nat) : Kin := (g.begin_ m).after g.j (nsSec ((t : Int) - (g.t0 : Int)))

/-! ### VPROF (R232, R233) -/

/-- A VPROF plan: command (0 none, 1 velocity, 2 position, 3 stop), accepted CMD_ID, STATE, target velocity and position,
limits, and the DAT_STOPs it has left behind. -/
structure VpSt where
  cmd    : Nat
  id     : Nat
  state  : Nat
  vT     : Int
  target : Int
  aMax   : Nat
  jMax   : Nat
  halts  : Nat

/-- A jerk phase of a plan: its jerk and its duration in ns. -/
abbrev JerkPhase := Int × Nat

/-- A value stays within a limit, or comes nearer to it. -/
def within (lim old new : Rat) : Bool := new.abs ≤ lim || new.abs ≤ old.abs

/-- A jerk phase keeps J_MAX, A_MAX and, where there is one, the speed limit, and lasts 10,000 ns or more (R232, R233). -/
def phaseOk (aMax jMax : Nat) (vMax : Option Nat) (k : Kin) (p : JerkPhase) : Bool :=
  let e := k.after p.1 (nsSec p.2)
  let peak := if opposite k.a e.a then k.v - k.a * k.a / (2 * (p.1 : Rat)) else e.v
  10000 ≤ p.2 && p.1.natAbs ≤ jMax && within aMax k.a e.a &&
    (match vMax with | some v => within v k.v e.v && within v k.v peak | none => true)

/-- The state in which jerk phases end. -/
def phasesEnd (k : Kin) (ps : List JerkPhase) : Kin := ps.foldl (fun k p => k.after p.1 (nsSec p.2)) k

/-- Every jerk phase keeps the limits. -/
def phasesOk (aMax jMax : Nat) (vMax : Option Nat) : Kin → List JerkPhase → Bool
  | _, [] => true
  | k, p :: ps => phaseOk aMax jMax vMax k p && phasesOk aMax jMax vMax (k.after p.1 (nsSec p.2)) ps

/-- The state after `t` seconds of jerk phases. -/
def phasesAt (t : Rat) : Kin → List JerkPhase → Kin
  | k, [] => k.after 0 t
  | k, p :: ps => if t ≤ nsSec p.2 then k.after p.1 t else phasesAt (t - nsSec p.2) (k.after p.1 (nsSec p.2)) ps

/-- The square root of a rational, to 2^-40. -/
def sqrtQ (q : Rat) : Rat := (Nat.sqrt (q * 1208925819614629174706176).floor.toNat : Rat) / 1099511627776

/-- The quickest stop from a state under A_MAX and J_MAX: how long it takes, and where it ends. -/
def quickStop (aMax jMax : Nat) (k : Kin) : Rat × Rat :=
  let j : Rat := jMax
  let sg : Rat := if k.v + k.a * k.a.abs / (2 * j) < 0 then 1 else -1
  let top := min (aMax : Rat) (sqrtQ ((k.a * k.a - 2 * sg * j * k.v) / 2))
  let t1 := max 0 ((sg * top - k.a) * sg / j)
  let tc := if top = 0 then 0 else max 0 ((-k.v - (2 * top * top - k.a * k.a) / (2 * sg * j)) / (sg * top))
  (t1 + tc + top / j, (((k.after (sg * j) t1).after 0 tc).after (-sg * j) (top / j)).u)

/-- What a command leads to (R232): V_T, rest at the target to 2 units of 2^-32, or rest. -/
def VpSt.met (x : VpSt) (k : Kin) : Bool :=
  match x.cmd with
  | 1 => (k.v - (x.vT : Rat)).abs ≤ 1 && k.a.abs ≤ 1
  | 2 => k.v.abs ≤ 1 && k.a.abs ≤ 1 && (k.u - (x.target : Rat)).abs ≤ 2
  | _ => k.v.abs ≤ 1 && k.a.abs ≤ 1

/-- A plan that cannot stop at its target stops as early as the limits allow (R232): 40,000 ns are left for phases of 10,000 ns
and whole nanoseconds. -/
def VpSt.early (x : VpSt) (k : Kin) (ps : List JerkPhase) : Bool :=
  let (t, u) := quickStop x.aMax x.jMax k
  let sg : Rat := if k.v < 0 then -1 else 1
  x.cmd ≠ 2 || (u - (x.target : Rat)) * sg ≤ 0 || (phasesAt (t + 4 / 100000) k ps).v * sg ≤ 1

/-- The jerk phase that a plan goes on with: the first of those the free course has left, if they keep the limits and lead to
what the command asks for (log 16). -/
def VpSt.phase (x : VpSt) (k : Kin) : Option JerkPhase :=
  let ps := Config.vprofPlan x.cmd [x.vT, x.target, x.aMax, x.jMax] [k.u.floor, k.v.floor, k.a.floor]
  let vMax := if x.cmd = 2 then some x.vT.natAbs else none
  if phasesOk x.aMax x.jMax vMax k ps && x.met (phasesEnd k ps) && x.early k ps then ps.head? else none

/-- A jerk phase cut into equal pieces of at most SEG_DUR: the first of them. -/
def cutPhase (segDur : Nat) (p : JerkPhase) : JerkPhase := (p.1, p.2 / ((p.2 + segDur - 1) / segDur))

/-- The next piece from a start state, with the state it is made in. -/
def VpSt.piece (x : VpSt) (segDur : Nat) (k : Kin) : VpSt × Option JerkPhase :=
  let go := (x.phase k).map (cutPhase segDur)
  match x.cmd with
  | 1 => if x.met k then ({ x with state := 2 }, some (0, segDur)) else ({ x with state := 1 }, go)
  | 2 => if x.met k then ({ x with state := 3 }, none) else ({ x with state := 1 }, go)
  | 3 => if x.met k then ({ x with state := 0 }, none) else ({ x with state := 4 }, go)
  | _ => (x, none)

/-- The start state of a piece: exact where it holds V_T. -/
def VpSt.start (x : VpSt) (k : Kin) : Kin := if x.cmd = 1 && x.met k then { k with v := x.vT, a := 0 } else k

/-- Up to `fuel` segments from an instant on, each with the state of the plan after it; `last` is the end of the last
segment. -/
def VpSt.run (m segDur stopJ until_ : Nat) : Nat → VpSt → Nat → Option Nat → Kin → VpSt × List (Seg × VpSt)
  | 0, x, _, _, _ => (x, [])
  | fuel + 1, x, t, last, k =>
    if enough until_ last then (x, [])
    else match x.piece segDur k with
      | (x, none) => (x, [])
      | (x, some (j, dur)) =>
        let g := mkSeg m t dur (x.start k) (j : Rat) (0, 0, 0, 0)
        let e := g.ending m
        let (sj1, sd1, sj2, sd2) := stopRamp e.v e.a stopJ
        let g := { g with sj1 := sj1, sd1 := sd1, sj2 := sj2, sd2 := sd2 }
        let (y, rest) := VpSt.run m segDur stopJ until_ fuel x (t + dur) (some (t + dur)) e
        (y, (g, x) :: rest)

/-- STATE words of VPROF. -/
def VpSt.words (x : VpSt) : List Word :=
  [w32 (x.state + 256 * x.id + 65536 * x.cmd)] ++ int96 x.target ++ int64 x.vT ++ int64 x.aMax ++ int64 x.jMax ++
    List.replicate 5 (0 : Word) ++ [w32 x.halts]

/-- VPROF. -/
def BlkEnv.vprof (e : BlkEnv) : BlkOut :=
  let halts := match e.feeds with | some d => (e.s.dat d).halts | none => 0
  let x : VpSt := {
    cmd := (e.st 0).fld 17 16, id := (e.st 0).fld 15 8, state := (e.st 0).fld 2 0, target := e.st96 1,
    vT := e.st64 4, aMax := pair64 (e.st 6) (e.st 7), jMax := pair64 (e.st 8) (e.st 9), halts := (e.st 15).toNat }
  let segDur := (e.inp 9).toNat
  let t0 := match e.tail with | some g => g.fin | none => (e.us + 1000) * 1000
  let k := match e.tail with | some g => g.ending e.modulo | none => e.rest t0
  let stopped := match e.feeds with | some d => decide ((e.s.dat d).st = .stopped) | none => true
  let id := (e.inp 0).fld 15 8
  let fresh := id ≠ x.id
  let pack (x0 x : VpSt) (segs : List (Seg × VpSt)) : BlkOut :=
    { outs := [w32 (x.state + 256 * x.id)] ++ e.s.endWords e.inst e.it ++ [e.out 3]
      st := x0.words, segs := segs.map (fun p => (p.1, p.2.words)), units := segs.length }
  if x.halts ≠ halts && !(stopped && fresh) then let x := { x with state := 5 }; pack x x []
  else
    let x := { x with halts := halts }
    let x := if !fresh then x else
      let c := (e.inp 0).fld 1 0
      let x := { x with id := id, aMax := e.nin64 5, jMax := e.nin64 7 }
      if c = 0 then x else { x with cmd := c, vT := e.sin64 1, target := nearest k.u + e.sin64 3 }
    let (y, segs) := VpSt.run e.modulo segDur (e.nin64 10) (e.ns + e.reach segDur) 16 x t0 (e.tail.map Seg.fin) k
    pack (if segs = [] then y else x) y segs

/-! ### The next source segment (R230, R234, R235) -/

/-- The source segment derived next, and from which instant: what is left of the one of which a part has been derived (its SEQ),
or the first that begins at or after `c`, the end of the stream's last segment. One that engages, or follows no segment, has
not begun by S. -/
def BlkEnv.nextSrc (e : BlkEnv) (d : Nat) (part : Option Nat) (c : Option Nat) (waits : Bool) : Option (Seg × Nat) :=
  let q : List Seg := (e.s.dat d).queue
  let inside : Option Seg := match part, c with
    | some n, some t => q.find? (fun g => g.seq = n && decide (g.t0 < t) && decide (t < g.fin))
    | _, _ => none
  match inside, c with
  | some g, some t => some (g, t)
  | _, _ =>
    (q.find? (fun g => (match c with | some t => decide (t ≤ g.t0) | none => true) &&
      (!(waits || c.isNone) || decide (e.ns < g.t0)))).map (fun g => (g, g.t0))

/-! ### GEAR (R234) -/

/-- A GEAR: mode (0 out, 1 and 2 waiting to engage and to engage over a distance, 3 engaging over it, 4 engaged, 5 an
offset change being added), PHASE, ratio and OFFSET in force, where the blend began, and the SEQ of a source segment of which a
part has been derived. -/
structure GearSt where
  mode  : Nat
  phase : Int
  num   : Int
  den   : Nat
  ofs   : Int
  xs    : Int
  y0    : Int
  dofs  : Int
  part  : Option Nat

/-- The ratio. -/
def GearSt.r (x : GearSt) : Rat := (x.num : Rat) / (x.den : Rat)

/-- Axis position and slope at an unwrapped source position, over ENG_DIST `ed`. -/
def GearSt.at_ (x : GearSt) (ed : Rat) (u : Rat) : Rat × Rat :=
  let d := u - (x.xs : Rat)
  let sg : Rat := if d < 0 then -1 else 1
  let a := d.abs
  match x.mode with
  | 3 =>
    if a < ed then ((x.y0 : Rat) + x.r * sg * a * a / (2 * ed), x.r * a / ed)
    else ((x.y0 : Rat) + x.r * sg * (ed / 2 + (a - ed)), x.r)
  | 5 =>
    if a < ed then ((x.phase : Rat) + x.r * u + (x.dofs : Rat) * a / ed, x.r + sg * (x.dofs : Rat) / ed)
    else ((x.phase : Rat) + x.r * u + (x.dofs : Rat), x.r)
  | _ => ((x.phase : Rat) + x.r * u, x.r)

/-- A new ratio at a source position: the axis position continues (R111, R234). -/
def GearSt.ratio (x : GearSt) (num : Int) (den : Nat) (ed u : Rat) : GearSt :=
  if x.num = num ∧ x.den = den then x
  else
    let y := { x with num := num, den := den }
    let by_ := (x.at_ ed u).1 - (y.at_ ed u).1
    if x.mode = 3 then { y with y0 := y.y0 + by_.floor } else { y with phase := y.phase + by_.floor }

/-- A change of OFFSET at a source position: it is added over ENG_DIST, together with what an earlier change has still to add
(log 17). -/
def GearSt.offset (x : GearSt) (ofs : Int) (ed : Nat) (u : Rat) : GearSt :=
  if x.ofs = ofs then x
  else
    let added := if x.mode = 5 then ((x.at_ ed u).1 - (x.phase : Rat) - x.r * u).floor else 0
    let left := (if x.mode = 5 then x.dofs - added else 0) + (ofs - x.ofs)
    if ed = 0 then { x with mode := 4, phase := x.phase + added + left, ofs := ofs, dofs := 0 }
    else { x with mode := 5, phase := x.phase + added, xs := u.floor, dofs := left, ofs := ofs }

/-- What a GEAR does at the start of a source segment: it engages, takes up a new ratio or begins to add an offset. -/
def GearSt.begin_ (x : GearSt) (num : Int) (den : Nat) (ofs : Int) (ed : Nat) (u : Rat) (pos : Rat) : GearSt :=
  match x.mode with
  | 1 =>
    let new : Rat := (num : Rat) / (den : Rat)
    { x with mode := 4, num := num, den := den, ofs := ofs, phase := (pos - new * u + (ofs : Rat)).floor }
  | 2 => { x with mode := 3, num := num, den := den, ofs := ofs, xs := u.floor, y0 := pos.floor }
  | 3 => x.ratio num den ed u
  | 4 | 5 => (x.ratio num den ed u).offset ofs ed u
  | _ => x

/-- A blend that is complete at a source position. -/
def GearSt.done (x : GearSt) (ed : Nat) (u : Rat) : GearSt :=
  if (ed : Rat) ≤ (u - (x.xs : Rat)).abs then
    match x.mode with
    | 3 => let (y, _) := x.at_ ed u; { x with mode := 4, phase := (y - x.r * u).floor }
    | 5 => { x with mode := 4, phase := x.phase + x.dofs }
    | _ => x
  else x

/-- Up to `fuel` segments, each with the GEAR after it. `c` is where the stream's last segment ends, `pos` its position
there. -/
def BlkEnv.gearRun (e : BlkEnv) (segDur until_ : Nat) : Nat → GearSt → Option Nat → Rat → GearSt × List (Seg × GearSt)
  | 0, x, _, _ => (x, [])
  | fuel + 1, x, c, pos =>
    let d := (e.inp 0).fld 2 0
    let m := e.s.datMod d
    if x.mode = 0 || enough until_ c then (x, [])
    else match e.nextSrc d x.part c (x.mode = 1 || x.mode = 2) with
    | none => (x, [])
    | some (g, t) =>
      let k := srcAt m g t
      let ed := e.nin64 5
      let x := if t = g.t0 then x.begin_ (e.sin 1) (e.inp 2).toNat (e.sin64 3) ed k.u pos else x
      let whole := x.mode = 4 && t = g.t0
      let t1 := if whole then g.fin else pieceEnd g t segDur
      let k1 := srcAt m g t1
      let (y0, s0) := x.at_ ed k.u
      let (y1, s1) := x.at_ ed k1.u
      let h := if whole then derive x.phase (x.num, x.den) (2 ^ 64) m g
        else hermite (2 ^ 64) t (t1 - t) y0 (s0 * k.v) y1 (s1 * k1.v) (scaledRamp g s1)
      let x := { x.done ed k1.u with part := if t1 < g.fin then some g.seq else none }
      let (y, rest) := e.gearRun segDur until_ fuel x (some t1) y1
      (y, (h, x) :: rest)

/-- STATE words of GEAR. -/
def GearSt.words (x : GearSt) : List Word :=
  [w32 (x.mode + 8 * ofBool x.part.isSome)] ++ int96 x.phase ++ [sat32 x.num, w32 x.den] ++ int64 x.ofs ++ int96 x.xs ++
    int64 x.y0 ++ int64 x.dofs ++ [w32 (x.part.getD 0)]

/-- GEAR. -/
def BlkEnv.gear (e : BlkEnv) : BlkOut :=
  let x : GearSt := {
    mode := (e.st 0).fld 2 0, phase := e.st96 1, num := (e.st 4).toInt, den := (e.st 5).toNat, ofs := e.st64 6,
    xs := e.st96 8, y0 := e.st64 11, dofs := e.st64 13, part := if (e.st 0).bit 3 then some (e.st 15).toNat else none }
  let id := (e.inp 0).fld 15 8
  let x := if id ≠ (e.out 0).fld 15 8 then { x with mode := (e.inp 0).fld 4 3, part := none } else x
  let pos := match e.last with | some g => (g.ending (2 ^ 64)).u | none => 0
  let segDur := (e.inp 7).toNat
  let (y, segs) := e.gearRun segDur (e.ns + e.reach segDur) 16 x (e.last.map Seg.fin) pos
  let code := match y.mode with | 0 => 0 | 4 => 2 | 5 => 2 | _ => 1
  { outs := [w32 (code + 256 * id)] ++ e.s.endWords e.inst e.it ++ [e.out 3]
    st := x.words, segs := segs.map (fun p => (p.1, p.2.words)), units := segs.length }

/-! ### CAMT (R235) -/

/-- The points of a table: X and Y. -/
abbrev CamTable := List (Nat × Int)

/-- A table read from a bank. -/
def State.camTable (s : State) (bank ofs n : Nat) : CamTable :=
  let word (a : Nat) : Nat := (s.bytesAt (sramBase + bank * 2 ^ 21 + a) 8).foldr (fun b acc => b.toNat + 256 * acc) 0
  (List.range n).map (fun k => (word (ofs + 16 * k), signed 64 (word (ofs + 16 * k + 8))))

/-- X starts at 0, rises strictly and stays below MOD. -/
def camRises (m : Nat) : Option Nat → CamTable → Bool
  | last, [] => last.isSome
  | none, p :: rest => p.1 = 0 && camRises m (some 0) rest
  | some l, p :: rest => l < p.1 && p.1 < m && camRises m (some p.1) rest

/-- The check of a table: it lies in a bank of the serving pair, and its points rise. -/
def BlkEnv.camOk (e : BlkEnv) (bank ofs n m : Nat) : Bool :=
  bank < 24 && ofs % 16 = 0 && 2 ≤ n && n ≤ 65536 && ofs + 16 * n ≤ 2 ^ 21 && e.s.owner bank = e.server &&
  e.s.bankState bank = 0 && camRises m none (e.s.camTable bank ofs n)

/-- Point `k` of a table, counted around it: X unwrapped by MOD. -/
def camPoint (t : CamTable) (m : Nat) (k : Int) : Rat × Rat :=
  let n : Int := t.length
  let p := t.getD (k % n).toNat (0, 0)
  (((p.1 : Int) + k / n * (m : Int) : Int), (p.2 : Rat))

/-- The slope of the chord after point `k`. -/
def camSecant (t : CamTable) (m : Nat) (k : Int) : Rat :=
  let a := camPoint t m k
  let b := camPoint t m (k + 1)
  (b.2 - a.2) / (b.1 - a.1)

/-- The slope at point `k` before it is limited. -/
def camRaw (t : CamTable) (m : Nat) (k : Int) : Rat :=
  let a := camSecant t m (k - 1)
  let b := camSecant t m k
  if a * b ≤ 0 then 0 else (a + b) / 2

/-- The factor by which the slopes at both ends of chord `k` are limited (Fritsch-Carlson). -/
def camFactor (t : CamTable) (m : Nat) (k : Int) : Rat :=
  let s := camSecant t m k
  if s = 0 then 1
  else
    let a := camRaw t m k / s
    let b := camRaw t m (k + 1) / s
    let q := a * a + b * b
    if q ≤ 9 then 1 else 3 / sqrtQ q

/-- The slope at point `k`: limited for the chords on both sides (log 17). -/
def camSlope (t : CamTable) (m : Nat) (k : Int) : Rat := camRaw t m k * min (camFactor t m (k - 1)) (camFactor t m k)

/-- f and f' at x in [0, MOD). -/
def camAt (t : CamTable) (m : Nat) (cubic : Bool) (x : Rat) : Rat × Rat :=
  let k : Int := ((t.takeWhile (fun p => decide ((p.1 : Rat) ≤ x))).length : Int) - 1
  let (x0, y0) := camPoint t m k
  let (x1, y1) := camPoint t m (k + 1)
  let h := x1 - x0
  let s := (y1 - y0) / h
  let z := x - x0
  if !cubic then (y0 + s * z, s)
  else
    let m0 := camSlope t m k
    let m1 := camSlope t m (k + 1)
    let c2 := (3 * s - 2 * m0 - m1) / h
    let c3 := (m0 + m1 - 2 * s) / (h * h)
    (y0 + m0 * z + c2 * z * z + c3 * z * z * z, m0 + 2 * c2 * z + 3 * c3 * z * z)

/-- The table that CAMT uses and the one it will use from the first upward wrap above `wrap` on: bank, offset, points,
cubic; and the SEQ of a source segment of which a part has been derived. -/
structure CamSt where
  run   : Bool
  cur   : Nat × Nat × Nat × Bool
  next  : Option (Nat × Nat × Nat × Bool)
  wrap  : Int
  w0    : Int
  part  : Option Nat
  mid   : Nat
  failed : Bool := false
  units : Nat := 0

/-- Slave position and slope at an unwrapped master position. -/
def BlkEnv.camPos (e : BlkEnv) (x : CamSt) (t : CamTable) (m : Nat) (u : Rat) : Rat × Rat :=
  let w := (u / (m : Rat)).floor
  let (f, f') := camAt t m x.cur.2.2.2 (u - (w : Rat) * (m : Rat))
  let sc : Rat := (e.sin 4 : Rat) / 65536
  ((e.sin64 5 : Rat) + sc * (f + ((e.sin64 7 * (w - x.w0) : Int) : Rat)), sc * f')

/-- The table in use at a master position: a change is checked and applied at the first upward wrap after it; a table that
fails leaves the old one in use. -/
def BlkEnv.camSwitch (e : BlkEnv) (x : CamSt) (m : Nat) (u : Rat) : CamSt :=
  match x.next with
  | some c =>
    if x.wrap < (u / (m : Rat)).floor then
      if e.camOk c.1 c.2.1 c.2.2.1 m then { x with cur := c, next := none, units := x.units + c.2.2.1 }
      else { x with next := none, failed := true }
    else x
  | none => x

/-- The first whole nanosecond in (lo, hi] at which a source segment is past the upward wrap to turn `w`, by halving. -/
def wrapInstant (m : Nat) (g : Seg) (w : Int) : Nat → Nat → Nat → Nat
  | 0, _, hi => hi
  | fuel + 1, lo, hi =>
    if hi ≤ lo + 1 then hi
    else
      let mid := (lo + hi) / 2
      if w ≤ ((srcAt m g mid).u / (m : Rat)).floor then wrapInstant m g w fuel lo mid else wrapInstant m g w fuel mid hi

/-- The end of a piece: where a table waits for the next upward wrap, a piece ends at it, and lasts 10,000 ns or more. -/
def CamSt.cut (x : CamSt) (m : Nat) (g : Seg) (t t1 : Nat) : Nat :=
  let w := max (((srcAt m g t).u / (m : Rat)).floor + 1) (x.wrap + 1)
  if x.next.isSome && decide (w ≤ ((srcAt m g t1).u / (m : Rat)).floor) then
    min t1 (max (t + 10000) (wrapInstant m g w 64 t t1))
  else t1

/-- Up to `fuel` segments, each with the CAMT after it. -/
def BlkEnv.camRun (e : BlkEnv) (segDur until_ : Nat) : Nat → CamSt → Option Nat → CamSt × List (Seg × CamSt)
  | 0, x, _ => (x, [])
  | fuel + 1, x, c =>
    let d := (e.inp 0).fld 2 0
    let m := e.s.datMod d
    if !x.run || enough until_ c then (x, [])
    else match e.nextSrc d x.part c false with
    | none => (x, [])
    | some (g, t) =>
      let k0 := srcAt m g t
      let x := e.camSwitch x m k0.u
      let t1 := x.cut m g t (pieceEnd g t segDur)
      let k1 := srcAt m g t1
      let tb := e.s.camTable x.cur.1 x.cur.2.1 x.cur.2.2.1
      let (y0, s0) := e.camPos x tb m k0.u
      let (y1, s1) := e.camPos x tb m k1.u
      let h := hermite (2 ^ 64) t (t1 - t) y0 (s0 * k0.v) y1 (s1 * k1.v) (scaledRamp g s1)
      let tm := t + (t1 - t) / 2
      let ym := (e.camPos x tb m (srcAt m g tm).u).1
      let dev := (((srcAt (2 ^ 64) h tm).u - ym).abs).ceil.toNat
      let x := { x with mid := min 0xFFFFFFFF (max x.mid dev), part := if t1 < g.fin then some g.seq else none }
      let (y, rest) := e.camRun segDur until_ fuel x (some t1)
      (y, (h, x) :: rest)

/-- A table as one word of bank and interpolation, its offset and its points. -/
def camWords (c : Nat × Nat × Nat × Bool) : List Word := [w32 (c.1 + 32 * ofBool c.2.2.2), w32 c.2.1, w32 c.2.2.1]

/-- STATE words of CAMT. -/
def CamSt.words (x : CamSt) : List Word :=
  [w32 (ofBool x.run + 2 * ofBool x.next.isSome + 4 * ofBool x.part.isSome)] ++ camWords x.cur ++
    camWords (x.next.getD (0, 0, 0, false)) ++ [w32 (pattern 32 x.wrap), w32 (pattern 32 x.w0), w32 (x.part.getD 0)]

/-- The turn of datum `d` that has been derived, or has begun: the later of that at an instant on its queue and its WRAPS. -/
def BlkEnv.turn (e : BlkEnv) (d : Nat) (c : Option Nat) : Int :=
  match c with
  | some t => max (e.datW d) ((((e.s.dat d).path (e.s.datMod d) ((t : Int) * 2 ^ 32)).1.u / (e.s.datMod d : Rat)).floor)
  | none => e.datW d

/-- CAMT. -/
def BlkEnv.camt (e : BlkEnv) : BlkOut :=
  let d := (e.inp 0).fld 2 0
  let m := e.s.datMod d
  let tbl (k : Nat) : Nat × Nat × Nat × Bool := ((e.st k).fld 4 0, (e.st (k + 1)).toNat, (e.st (k + 2)).toNat, (e.st k).bit 5)
  let x : CamSt := {
    run := (e.st 0).bit 0, cur := tbl 1, next := if (e.st 0).bit 1 then some (tbl 4) else none,
    wrap := (e.st 7).toInt, w0 := (e.st 8).toInt, part := if (e.st 0).bit 2 then some (e.st 9).toNat else none,
    mid := (e.out 2).toNat }
  let id := (e.inp 0).fld 15 8
  let run := if id ≠ (e.out 0).fld 15 8 then (e.inp 0).bit 3 else x.run
  let want := ((e.inp 1).fld 4 0, (e.inp 2).toNat, (e.inp 3).toNat, (e.inp 0).bit 4)
  let starts := run && !x.run
  let bad := starts && !e.camOk want.1 want.2.1 want.2.2.1 m
  let fin := e.last.map Seg.fin
  let x : CamSt := { x with run := run && !bad, failed := bad }
  let x : CamSt := if bad then x
    else if starts then { x with cur := want, next := none, w0 := e.datW d, part := none, units := want.2.2.1 }
    else if x.cur = want then { x with next := none }
    else if x.next = some want then x
    else { x with next := some want, wrap := e.turn d fin }
  let segDur := (e.inp 9).toNat
  let from_ := if starts then fin.map (fun t => max t (e.ns + 1)) else fin
  let (y, segs) := e.camRun segDur (e.ns + e.reach segDur) 16 x from_
  { eno := !y.failed, param := if y.failed then some 1 else none
    outs := [w32 (ofBool y.run + 256 * id), w32 y.cur.2.1, w32 y.mid, e.out 3]
    st := x.words, segs := segs.map (fun p => (p.1, p.2.words)), units := 500 * segs.length + 2 * y.units }

/-! ### One call or run -/

/-- What a type computes. -/
def BlkEnv.compute (e : BlkEnv) : BlkOut :=
  match e.type with
  | 1 => e.pidb
  | 2 => e.vprof
  | 3 => e.gear
  | 4 => e.camt
  | 5 => e.regc
  | 6 => e.tens
  | 7 => e.wind
  | _ => { outs := [], st := [] }

/-- Clocks of Table 10.3. -/
def blkClocks (ty units : Nat) : Nat :=
  match ty with
  | 1 => 180 | 2 => 400 + 600 * units | 3 => 120 + 350 * units | 4 => 200 + units | 5 => 150 + 90 * units | 6 => 160 | 7 => 260
  | _ => 0

/-- A list of words cut or padded to a length. -/
def fit (n : Nat) (ws : List Word) : List Word := (ws ++ List.replicate n (0 : Word)).take n

/-- H1: ENO, PARAM and PARAM_WORD. -/
def headH1 (eno : Bool) (param : Option Nat) : Word :=
  w32 (ofBool eno + match param with | some k => 2 + 256 * k | none => 0)

/-- A call or run (R219, R221, R224): the header, the copies and STATE as it leaves them. -/
def BlkEnv.run (e : BlkEnv) : BlkResult :=
  let (ni, no, ns) := blkCounts e.type
  let h0 := w32 (e.type + e.inst * 65536)
  match e.bad with
  | some k =>
    { eno := false, param := some k,
      words := [h0, headH1 false (some k)] ++ fit (6 + ni + no + ns) (e.old.drop 2), clocks := blkClocks e.type 0 }
  | none =>
    let x := e.compute
    let outs := fit no x.outs
    { eno := x.eno, param := x.param, outs := outs,
      words := [h0, headH1 x.eno x.param, item e.old 2 + 1, w32 e.us, 0, 0, 0, 0] ++ fit ni e.ins ++ outs ++ fit ns x.st,
      segs := x.segs.map (fun p => ⟨e.inst, e.it, p.1, fit ns p.2⟩), clocks := blkClocks e.type x.units }

end Sys2Proof.Machine
end

