-- ==== Sys2Proof/Machine/Operands.lean ====
section
/-!
DEFINITION. The operands of the Plumb engine (08 R174-R177, R182, 09 R197): reads of bits, words and double words through
the write buffer, the read windows, the constant copy and the datum window; writes into the write buffer; and the reading
of the code store.
-/
namespace Sys2Proof.Machine

/-- How an instruction ends its release: a fault of Table 8.9, or a write that needs a 4,097th buffer word (R202). -/
inductive PlEnd where
  | fault (code : Nat)
  | wbuf
deriving DecidableEq, Repr

/-- Fault codes of Table 8.9. -/
def flOpcode : Nat := 1
def flSpace : Nat := 2
def flRange : Nat := 3
def flStackOvf : Nat := 4
def flStackUnf : Nat := 5
def flStackKind : Nat := 6
def flStackOpen : Nat := 7
def flPc : Nat := 8
def flStakeLimit : Nat := 10
def flBlock : Nat := 11

/-- A RANGE fault. -/
def rangeFault {α : Type} : Except PlEnd α := .error (.fault flRange)

/-- Space codes an instruction of each kind allows (Tables 8.3 to 8.7). -/
def spNone : List Nat := [0]
def spBit : List Nat := [1, 2, 3, 4, 5, 6, 8, 9, 10]
def spBitStore : List Nat := [2, 3, 6, 8, 10]
def spWord : List Nat := [1, 2, 3, 4, 5, 7, 8, 9, 10]
def spWordStore : List Nat := [2, 3, 8, 10]
def spEdge : List Nat := [6]
def spTimer : List Nat := [4]
def spCounter : List Nat := [5]
def spConst : List Nat := [7]

/-- Bit addresses of a space (Table 8.2). -/
def spaceBits (space : Nat) : Nat :=
  match space with
  | 4 => 2048 | 5 => 2048 | 6 => 16384 | 9 => 0x100000 | _ => 32 * spaceWords space

/-- The word and bit that a bit address names: STATE.Q of a timer or counter (Table 8.8), else bit b mod 32 of word
b div 32. -/
def bitPlace (space b : Nat) : Nat × Nat :=
  match space with
  | 4 => (4 * b + 2, 3)
  | 5 => (4 * b + 2, 2)
  | _ => (b / 32, b % 32)

/-- The key of a word of the image store as a release of `r` names it. -/
def Release.key (r : Release) (space word : Nat) : Nat := imgKey space (taskOf space r.task) word

/-- The bits of a word that the release has written, and their values. -/
def Release.written (r : Release) (space word : Nat) : Word × Word :=
  (sget none r.wbuf (r.key space word)).getD (0, 0)

/-- A word as the release sees it where it may: what it wrote over its snapshot, with the force overlay of the snapshot
on top (R174, R208). -/
def State.relWord (s : State) (r : Release) (space word : Nat) : Word :=
  let p := r.written space word
  overlay s.prog.syms r.forces space r.task word (mergeWord (sget 0 r.snap (r.key space word)) p)

/-- The bits of a word the release may read: those in a read window, and those it has written (R197). -/
def Release.readable (r : Release) (space word : Nat) : Word :=
  if inWindow r.binding space word then 0xFFFFFFFF#32 else (r.written space word).2

/-- A read of one word (R174, R176, R197). -/
def State.readWord (s : State) (e : Nat) (r : Release) (space a : Nat) : Except PlEnd Word :=
  match space with
  | 7 => if a < 16384 then .ok (sget 0 s.konst (e * 16384 + a)) else rangeFault
  | 9 => .ok (if a < 64 then r.datw.getD a 0 else 0)
  | _ => if a < spaceWords space ∧ r.readable space a = 0xFFFFFFFF#32 then .ok (s.relWord r space a) else rangeFault

/-- A read of one bit. -/
def State.readBit (s : State) (r : Release) (space b : Nat) : Except PlEnd Bool :=
  if spaceBits space ≤ b then rangeFault
  else
    let p := bitPlace space b
    if space = 9 then .ok (if p.1 < 64 then (r.datw.getD p.1 0).bit p.2 else false)
    else if (r.readable space p.1).bit p.2 then .ok ((s.relWord r space p.1).bit p.2) else rangeFault

/-- A read of a double word: X[a + 1] : X[a] (R182). -/
def State.readDouble (s : State) (e : Nat) (r : Release) (space a : Nat) : Except PlEnd DWord := do
  let lo ← s.readWord e r space a
  let hi ← s.readWord e r space (a + 1)
  return hi.setWidth 64 <<< 32 ||| lo.setWidth 64

/-- The engine is one of a split pair (R256, R257). -/
def State.unchecked (s : State) (e : Nat) : Bool := s.cmpState (cmpIndex (pairOfEngine e)) = 3 || s.cmpState (cmpIndex (pairOfEngine e)) = 6

/-- A word that an engine may write: on a split engine only its L space and the W words of CMP_UNCH_W (R257). -/
def State.mayWrite (s : State) (e space word : Nat) : Bool :=
  let c := s.reg Reg.CMP_UNCH_W
  !s.unchecked e || space = 10 || (space = 8 && c.fld 12 0 ≤ word && word < c.fld 12 0 + c.fld 29 16)

/-- A write of the masked bits of a word into the write buffer of 4,096 words (R193, R197, R202). -/
def State.bufWrite (s : State) (e : Nat) (r : Release) (space word : Nat) (v m : Word) : Except PlEnd Release :=
  if !s.mayWrite e space word then rangeFault
  else if (sget none r.wbuf (r.key space word)).isNone && 4096 ≤ r.wbuf.length then .error .wbuf
  else
    let p := r.written space word
    .ok { r with wbuf := sput none r.wbuf (r.key space word) (some ((p.1 &&& ~~~m) ||| (v &&& m), p.2 ||| m)) }

/-- A store of a whole word. -/
def State.writeWord (s : State) (e : Nat) (r : Release) (space a : Nat) (v : Word) : Except PlEnd Release :=
  if spaceWords space ≤ a then rangeFault else s.bufWrite e r space a v 0xFFFFFFFF#32

/-- A store of one bit. -/
def State.writeBit (s : State) (e : Nat) (r : Release) (space b : Nat) (v : Bool) : Except PlEnd Release :=
  if spaceBits space ≤ b then rangeFault
  else
    let p := bitPlace space b
    s.bufWrite e r space p.1 (if v then 0xFFFFFFFF#32 else 0) (BitVec.twoPow 32 p.2)

/-- The store of SW and SWC. -/
def State.storeWord (s : State) (e : Nat) (r : Release) (space a : Nat) : Except PlEnd Release :=
  s.writeWord e r space a (r.wa.setWidth 32)

/-- The store of SWD and SWDC: both words lie in the space (R182). -/
def State.storeDouble (s : State) (e : Nat) (r : Release) (space a : Nat) : Except PlEnd Release :=
  if spaceWords space ≤ a + 1 then rangeFault
  else do
    let r' ← s.writeWord e r space a (r.wa.setWidth 32)
    s.writeWord e r' space (a + 1) ((r.wa >>> 32).setWidth 32)

/-! ### Encoding (R177) and the code store -/

/-- An instruction word: OPCODE, SPACE, ADDR. -/
def plWord (op space addr : Nat) : Word := w32 (op * 2 ^ 24 + space * 2 ^ 20 + addr)

/-- The opcodes of Tables 8.3 to 8.7. -/
def plDefined (op : Nat) : Bool :=
  op ≤ 0x15 || op = 0x18 || op = 0x19 || (0x20 ≤ op && op ≤ 0x25) || op = 0x2F || (0x30 ≤ op && op ≤ 0x45) ||
  (0x48 ≤ op && op ≤ 0x56) || (0x60 ≤ op && op ≤ 0x64) || (0x68 ≤ op && op ≤ 0x6C) || (0x70 ≤ op && op ≤ 0x77) ||
  (0x80 ≤ op && op ≤ 0x83) || op = 0x90

/-! ### The branch stack (R179) -/

/-- A push. -/
def Release.push (r : Release) (x : StackEntry) : Except PlEnd Release :=
  if 32 ≤ r.stack.length then .error (.fault flStackOvf) else .ok { r with stack := x :: r.stack }

/-- The top LOGIC entry, and the stack below it. -/
def Release.topLogic (r : Release) : Except PlEnd (JoinOp × Bool × List StackEntry) :=
  match r.stack with
  | [] => .error (.fault flStackUnf)
  | .logic op v :: rest => .ok (op, v, rest)
  | .ret _ :: _ => .error (.fault flStackKind)

/-- The top RETURN entry, and the stack below it. -/
def Release.topReturn (r : Release) : Except PlEnd (Nat × List StackEntry) :=
  match r.stack with
  | [] => .error (.fault flStackUnf)
  | .ret n :: rest => .ok (n, rest)
  | .logic .. :: _ => .error (.fault flStackKind)

/-- VALUE OP ACC of a POP. -/
def join (op : JoinOp) (v acc : Bool) : Bool :=
  match op with
  | .and => v && acc
  | .or => v || acc
  | .xor => v != acc
  | .none => v

end Sys2Proof.Machine
end

