-- ==== Sys2Proof/Machine/Flags.lean ====
section
/-!
DEFINITION. What the word operations, timers and counters of the Plumb engine compute (08 R180, R183-R185): results,
the sticky overflow flag OV, timer and counter evaluation, and the datum window compare.
-/
namespace Sys2Proof.Machine

/-- A word sign-extended and zero-extended to the word accumulator. -/
def sx (w : Word) : DWord := w.signExtend 64
def zx (w : Word) : DWord := w.setWidth 64

/-- A true signed result lies outside -2^63 to 2^63 - 1 (R180). -/
def ov64 (i : Int) : Bool := decide (i < -(2 ^ 63) ∨ 2 ^ 63 ≤ i)

/-- WA lies outside -2^31 to 2^31 - 1 (MUL). -/
def ov32 (w : DWord) : Bool := decide (w.toInt < -(2 ^ 31) ∨ 2 ^ 31 ≤ w.toInt)

/-- WA lies outside -2^31 to 2^32 - 1 (SW). -/
def ovStore (w : DWord) : Bool := decide (w.toInt < -(2 ^ 31) ∨ 2 ^ 32 ≤ w.toInt)

/-- The accumulator and OV after a sum. -/
def Release.sum (r : Release) (x : DWord) : Release := { r with wa := r.wa + x, ov := r.ov || ov64 (r.wa.toInt + x.toInt) }

/-- The accumulator and OV after a difference. -/
def Release.diff (r : Release) (x : DWord) : Release := { r with wa := r.wa - x, ov := r.ov || ov64 (r.wa.toInt - x.toInt) }

/-- NEG. -/
def Release.neg (r : Release) : Release := { r with wa := -r.wa, ov := r.ov || ov64 (-r.wa.toInt) }

/-- MUL: WA[31:0] times a word, both signed. -/
def Release.mul (r : Release) (x : Word) : Release :=
  { r with wa := BitVec.ofInt 64 ((r.wa.setWidth 32 : Word).toInt * x.toInt), ov := r.ov || ov32 r.wa }

/-- SHL. -/
def Release.shl (r : Release) (n : Nat) : Release :=
  { r with wa := r.wa <<< n, ov := r.ov || decide ((r.wa <<< n).toInt ≠ r.wa.toInt * 2 ^ n) }

/-! ### Timers (R183, R205) -/

/-- A timer as its four words hold it. -/
structure Timer where
  et      : Nat
  pt      : Nat
  type    : Nat
  running : Bool
  q       : Bool
  prevIn  : Bool
  ref     : Nat
deriving DecidableEq, Repr

/-- A timer from its four words. -/
def timerOf (et pt st ref : Word) : Timer :=
  { et := et.toNat, pt := pt.toNat, type := st.fld 1 0, running := st.bit 2, q := st.bit 3, prevIn := st.bit 4, ref := ref.toNat }

/-- STATE of a timer. -/
def Timer.state (t : Timer) : Word :=
  w32 (t.type + 4 * ofBool t.running + 8 * ofBool t.q + 16 * ofBool t.prevIn)

/-- The scan: a changed type resets the timer and takes no advance; else the advance is (S - REF) mod 2^32 (R205). The
timer and its advance. -/
def Timer.scan (t : Timer) (type now : Nat) : Timer × Nat :=
  if t.type = type then ({ t with ref := now }, (now + 2 ^ 32 - t.ref) % 2 ^ 32)
  else ({ t with type := type, et := 0, running := false, q := false, ref := now }, 0)

/-- TON. -/
def Timer.ton (t : Timer) (inp : Bool) (delta : Nat) : Timer :=
  let t := if !inp then { t with et := 0, running := false, q := false }
    else if !t.running then { t with running := true, et := 0 }
    else { t with et := min (t.et + delta) t.pt }
  { t with q := inp && t.running && decide (t.pt ≤ t.et), prevIn := inp }

/-- TOF. -/
def Timer.tof (t : Timer) (inp : Bool) (delta : Nat) : Timer :=
  let t := if inp then { t with et := 0, running := false, q := true }
    else if t.q then
      let t := if !t.running then { t with running := true, et := 0 } else { t with et := min (t.et + delta) t.pt }
      if t.pt ≤ t.et then { t with running := false, q := false } else t
    else t
  { t with prevIn := inp }

/-- TP. -/
def Timer.tp (t : Timer) (inp : Bool) (delta : Nat) : Timer :=
  let t := if !t.running && inp && !t.prevIn then { t with running := true, et := 0, q := true }
    else if t.running then { t with et := min (t.et + delta) t.pt }
    else t
  let t := if t.running && decide (t.pt ≤ t.et) then { t with running := false, q := false } else t
  { t with prevIn := inp }

/-! ### Counters (R184) -/

/-- CTU on CV, PV and STATE: the new CV and STATE. -/
def countUp (cv pv st : Word) (inp : Bool) : Word × Word :=
  let cv' := if inp && !st.bit 0 then BitVec.ofInt 32 (min (cv.toInt + 1) (2 ^ 31 - 1)) else cv
  (cv', (st.setBit 0 inp).setBit 2 (decide (pv.toInt ≤ cv'.toInt)))

/-- CTD. -/
def countDown (cv st : Word) (inp : Bool) : Word × Word :=
  let cv' := if inp && !st.bit 1 then BitVec.ofInt 32 (max (cv.toInt - 1) (-(2 ^ 31))) else cv
  (cv', (st.setBit 1 inp).setBit 2 (decide (cv'.toInt ≤ 0)))

/-! ### Datum window (R185) -/

/-- DWIN: the position lies in the window from LO to HI, unsigned. -/
def inDwin (lo hi p : DWord) : Bool :=
  if lo.toNat < hi.toNat then decide (lo.toNat ≤ p.toNat ∧ p.toNat < hi.toNat)
  else if hi.toNat < lo.toNat then decide (lo.toNat ≤ p.toNat ∨ p.toNat < hi.toNat)
  else false

end Sys2Proof.Machine
end

