-- ==== Sys2Proof/Machine/Plumb.lean ====
section
/-!
DEFINITION. The Plumb instructions (08 R178-R191), one meaning each. A command names an engine and the operand of the
instruction word that stands at its PC; where the engine does not stand at that instruction, nothing happens (log 14). An
instruction takes effect in its last clock, which the model awaits.
-/
namespace Sys2Proof.Machine

/-- What an instruction leaves: the state (stake instructions change it), the release, and the target of a taken jump. -/
structure PlStep where
  st     : State
  rel    : Release
  target : Option Nat := none

/-- The release of an engine ends at an instruction (R188, R202). -/
def State.plEnd (s : State) (e pc : Nat) : PlEnd → State
  | .fault c => s.endRelease e 2 c pc
  | .wbuf => s.endRelease e 4 0 0

/-- The address of the instruction a release fetches next (log 43). -/
def Release.codeAt (r : Release) : Nat := storeBase + (Config.codeOffset + 4 * (bindBase r.binding + r.pc)) % 2 ^ 24

/-- The fetch of the next instruction from LPDDR5, and whether it received the error response (R189, R363, R371). -/
def State.fetch (s : State) (r : Release) : State × Bool :=
  if !s.domainOn 8 then (s, true)
  else match s.eccAt r.codeAt with
    | 0 => (s, false)
    | 1 => (s.corrected r.codeAt, false)
    | _ => (s.uncorrectable r.codeAt, true)

/-- What an instruction of engine `e` is to the tables of same-clock orders. -/
def plEvs (op e addr : Nat) (r : Release) : List Ev :=
  ⟨.plWork, e, 0⟩ ::
    (if op = 0x2F then [⟨.plEnd, e, 0⟩] else if !r.acc then [] else if op = 0x80 || op = 0x82 then [⟨.arm, addr, 0⟩]
      else if op = 0x81 then [⟨.disarm, addr, 0⟩] else [])

/-- One instruction (R189): its space, its operands and its next index are checked, where the lowest code is reported; then it
is performed, with its clocks counted. END is not held to the next index. -/
def State.perform1 (s : State) (op : Nat) (spaces : List Nat) (body : State → Release → Except PlEnd PlStep) (e space : Nat)
    (r : Release) : State :=
  let len := bindLen r.binding
  let stop (x : PlEnd) : State := s.plEnd e r.pc x
  if !spaces.contains space then stop (.fault flSpace)
  else match body s r with
    | .error x =>
      let before := match x with | .fault c => decide (flPc < c) | .wbuf => true
      if before && len ≤ r.pc + 1 then stop (.fault flPc) else stop x
    | .ok t =>
      let next := t.target.getD (r.pc + 1)
      if op ≠ 0x2F && len ≤ next then stop (.fault flPc)
      else t.st.setRel e { t.rel with pc := if op = 0x2F || t.rel.phase ≠ .run then r.pc else next }

/-- The clocks of an instruction pass: it is fetched, and the release ends there by a bus error of the fetch, or earlier by its
deadline (R202); otherwise `f` follows in the instruction's last clock. -/
def State.inClock (s : State) (op clocks e addr : Nat) (r : Release) (f : State → Release → State) : State :=
  match s.outOfTime r (r.due clocks) (op = 0x2F) with
  | some k => (s.ahead k).endRelease e 3 0 0
  | none =>
    let (t, failed) := s.fetch r
    let x := { r with clocks := r.clocks + clocks }
    let t := ((t.until_ (r.due clocks)).meet (plEvs op e addr r)).setRel e x
    if failed then t.plEnd e r.pc (.fault 9) else f t x

/-- One instruction of engine `e`, where the word at its PC is it. -/
def plumb (op clocks : Nat) (spaces : List Nat) (body : State → Release → Except PlEnd PlStep) (e space addr : Nat)
    (s : State) : Answer :=
  .next (match (s.eng e).rel with
    | none => s
    | some r =>
      if r.phase ≠ .run || s.codeWord r ≠ plWord op space addr then s
      else s.inClock op clocks e addr r (fun s r => s.perform1 op spaces body e space r))

/-- An instruction that only changes the engine's registers. -/
def plReg (f : Release → Release) (s : State) (r : Release) : Except PlEnd PlStep := .ok ⟨s, f r, none⟩

/-- An instruction that takes a bit. -/
def plBit (space addr : Nat) (f : Release → Bool → Release) (s : State) (r : Release) : Except PlEnd PlStep := do
  let b ← s.readBit r space addr
  return ⟨s, f r b, none⟩

/-- An instruction that takes a word. -/
def plOnWord (e space addr : Nat) (f : Release → Word → Release) (s : State) (r : Release) : Except PlEnd PlStep := do
  let w ← s.readWord e r space addr
  return ⟨s, f r w, none⟩

/-- An instruction that takes a double word. -/
def plOnDouble (e space addr : Nat) (f : Release → DWord → Release) (s : State) (r : Release) : Except PlEnd PlStep := do
  let w ← s.readDouble e r space addr
  return ⟨s, f r w, none⟩

/-- An instruction that stores. -/
def plStore (f : State → Release → Except PlEnd Release) (s : State) (r : Release) : Except PlEnd PlStep := do
  let r' ← f s r
  return ⟨s, r', none⟩

/-- A store of one bit, made when `cond` holds; the address is checked in any case. -/
def plBitStore (e space addr : Nat) (cond v : Release → Bool) (s : State) (r : Release) : Except PlEnd PlStep :=
  if spaceBits space ≤ addr then rangeFault
  else if cond r then plStore (fun s r => s.writeBit e r space addr (v r)) s r else .ok ⟨s, r, none⟩

/-- A store of one or two words, made when `cond` holds; the addresses are checked in any case. -/
def plWordStore (e space addr words : Nat) (cond : Release → Bool) (s : State) (r : Release) : Except PlEnd PlStep :=
  if spaceWords space < addr + words then rangeFault
  else if cond r then
    if words = 1 then do
      let r' ← s.storeWord e r space addr
      return ⟨s, { r' with ov := r.ov || ovStore r.wa }, none⟩
    else plStore (fun s r => s.storeDouble e r space addr) s r
  else .ok ⟨s, r, none⟩

/-- A push of ACC. -/
def plPush (op : JoinOp) (s : State) (r : Release) : Except PlEnd PlStep := do
  let r' ← r.push (.logic op r.acc)
  return ⟨s, r', none⟩

/-- A jump taken when `cond` holds. -/
def plJump (cond : Release → Bool) (addr : Nat) (s : State) (r : Release) : Except PlEnd PlStep :=
  .ok ⟨s, r, if cond r then some addr else none⟩

/-- A return. -/
def plReturn (s : State) (r : Release) : Except PlEnd PlStep := do
  let (n, rest) ← r.topReturn
  return ⟨s, { r with stack := rest }, some n⟩

/-- A shift or bit count n, a RANGE fault above 63 (R182). -/
def plCount (n : Nat) (f : Release → Release) (s : State) (r : Release) : Except PlEnd PlStep :=
  if 63 < n then rangeFault else .ok ⟨s, f r, none⟩

/-- The time S of a release: its snapshot clock in whole microseconds, mod 2^32 (R205). -/
def Release.stamp (r : Release) : Nat := r.startT / microT % 2 ^ 32

/-- A scan of timer `t` by TON, TOF or TP (R183). -/
def plTimer (e t type : Nat) (f : Timer → Bool → Nat → Timer) (s : State) (r : Release) : Except PlEnd PlStep := do
  if 2048 ≤ t then rangeFault else
  let et ← s.readWord e r 4 (4 * t)
  let pt ← s.readWord e r 4 (4 * t + 1)
  let st ← s.readWord e r 4 (4 * t + 2)
  let rf ← s.readWord e r 4 (4 * t + 3)
  let (x, delta) := (timerOf et pt st rf).scan type r.stamp
  let y := f x r.acc delta
  let r1 ← s.writeWord e r 4 (4 * t) (w32 y.et)
  let r2 ← s.writeWord e r1 4 (4 * t + 2) y.state
  let r3 ← s.writeWord e r2 4 (4 * t + 3) (w32 y.ref)
  return ⟨s, { r3 with acc := y.q }, none⟩

/-- A count by CTU or CTD (R184). -/
def plCounter (e c : Nat) (f : Word → Word → Word → Bool → Word × Word) (s : State) (r : Release) : Except PlEnd PlStep := do
  if 2048 ≤ c then rangeFault else
  let cv ← s.readWord e r 5 (4 * c)
  let pv ← s.readWord e r 5 (4 * c + 1)
  let st ← s.readWord e r 5 (4 * c + 2)
  let (cv', st') := f cv pv st r.acc
  let r1 ← s.writeWord e r 5 (4 * c) cv'
  let r2 ← s.writeWord e r1 5 (4 * c + 2) st'
  return ⟨s, { r2 with acc := st'.bit 2 }, none⟩

/-- FP and FN: the edge memory takes ACC, and ACC the edge. -/
def plEdge (e a : Nat) (f : Bool → Bool → Bool) (s : State) (r : Release) : Except PlEnd PlStep := do
  let old ← s.readBit r 6 a
  let r' ← s.writeBit e r 6 a r.acc
  return ⟨s, { r' with acc := f r.acc old }, none⟩

/-- A stake instruction on entry `i` (R186): performed when ACC = 1; a split engine may perform none (R257). `would` says that it
changes the entry, and counts towards the 64 of the release. An entry that a running release of another engine has changed is
a misuse (R191's chapter). -/
def plStake (e i : Nat) (would : Stake → Bool) (f : State → State) (s : State) (r : Release) : Except PlEnd PlStep :=
  if 4096 ≤ i then rangeFault
  else if !r.acc then .ok ⟨s, r, none⟩
  else if s.unchecked e then rangeFault
  else
    let x := s.stake i
    if !would x then .ok ⟨s, r, none⟩
    else if x.prov.isSome && x.prov ≠ some e then .ok ⟨s.misused 191 0x50000, r, none⟩
    else if r.saved.any (fun p => p.1 = i) then .ok ⟨f s, r, none⟩
    else if 64 ≤ r.saved.length then .error (.fault flStakeLimit)
    else .ok ⟨f s, { r with saved := r.saved ++ [(i, x)] }, none⟩

/-- The cluster of an engine calls instance `i` (R187): TYPE is not 0 and CALLERS names the cluster. -/
def State.callable (s : State) (e i : Nat) : Bool :=
  let w := s.cw 6 i 0
  w.fld 2 0 ≠ 0 && w.bit (if pairOfEngine e < 0x20 then 16 else 17)

/-- IN_SPACE and IN_FIRST, OUT_SPACE and OUT_FIRST of an item (Table 10.1). -/
def itemIn (w : List Word) : Nat × Nat := ((item w 5).fld 3 0, (item w 5).fld 23 4)
def itemOut (w : List Word) : Nat × Nat := ((item w 6).fld 3 0, (item w 6).fld 23 4)

/-- The IN words of a call, read by the engine (R221). -/
def State.callIns (s : State) (e : Nat) (r : Release) (it : List Word) : Except PlEnd (List Word) :=
  (List.range (blkCounts ((item it 0).fld 2 0)).1).mapM (fun k => s.readWord e r (itemIn it).1 ((itemIn it).2 + k))

/-- CALLB (R187): the engine stalls in the call until it returns or is late. -/
def plCall (e i : Nat) (s : State) (r : Release) : Except PlEnd PlStep :=
  if 2048 ≤ i then rangeFault
  else if !r.acc then .ok ⟨s, r, none⟩
  else if s.unchecked e || !s.callable e i then .error (.fault flBlock)
  else do
    let _ ← s.callIns e r (s.citem 6 i 9)
    return ⟨s, { r with phase := .call i }, none⟩

/-! ### The instructions -/

/-- NOP: nothing. -/
def execPlNop (e space addr : Nat) (s : State) : Answer :=
  plumb 0x0 1 spNone (plReg id) e space addr s

/-- LD X:b: ACC = X[b]. -/
def execPlLd (e space addr : Nat) (s : State) : Answer :=
  plumb 0x1 1 spBit (plBit space addr (fun r b => { r with acc := b })) e space addr s

/-- LDN X:b: ACC = not X[b]. -/
def execPlLdn (e space addr : Nat) (s : State) : Answer :=
  plumb 0x2 1 spBit (plBit space addr (fun r b => { r with acc := !b })) e space addr s

/-- AND X:b: ACC and X[b]. -/
def execPlAnd (e space addr : Nat) (s : State) : Answer :=
  plumb 0x3 1 spBit (plBit space addr (fun r b => { r with acc := r.acc && b })) e space addr s

/-- ANDN X:b: ACC and not X[b]. -/
def execPlAndn (e space addr : Nat) (s : State) : Answer :=
  plumb 0x4 1 spBit (plBit space addr (fun r b => { r with acc := r.acc && !b })) e space addr s

/-- OR X:b: ACC or X[b]. -/
def execPlOr (e space addr : Nat) (s : State) : Answer :=
  plumb 0x5 1 spBit (plBit space addr (fun r b => { r with acc := r.acc || b })) e space addr s

/-- ORN X:b: ACC or not X[b]. -/
def execPlOrn (e space addr : Nat) (s : State) : Answer :=
  plumb 0x6 1 spBit (plBit space addr (fun r b => { r with acc := r.acc || !b })) e space addr s

/-- XOR X:b: ACC xor X[b]. -/
def execPlXor (e space addr : Nat) (s : State) : Answer :=
  plumb 0x7 1 spBit (plBit space addr (fun r b => { r with acc := r.acc != b })) e space addr s

/-- XORN X:b: ACC xor not X[b]. -/
def execPlXorn (e space addr : Nat) (s : State) : Answer :=
  plumb 0x8 1 spBit (plBit space addr (fun r b => { r with acc := r.acc != !b })) e space addr s

/-- ST X:b: X[b] = ACC. -/
def execPlSt (e space addr : Nat) (s : State) : Answer :=
  plumb 0x9 1 spBitStore (plBitStore e space addr (fun _ => true) (fun r => r.acc)) e space addr s

/-- STN X:b: X[b] = not ACC. -/
def execPlStn (e space addr : Nat) (s : State) : Answer :=
  plumb 0xa 1 spBitStore (plBitStore e space addr (fun _ => true) (fun r => !r.acc)) e space addr s

/-- SET X:b: if ACC = 1, X[b] = 1. -/
def execPlSet (e space addr : Nat) (s : State) : Answer :=
  plumb 0xb 1 spBitStore (plBitStore e space addr (fun r => r.acc) (fun _ => true)) e space addr s

/-- RST X:b: if ACC = 1, X[b] = 0. -/
def execPlRst (e space addr : Nat) (s : State) : Answer :=
  plumb 0xc 1 spBitStore (plBitStore e space addr (fun r => r.acc) (fun _ => false)) e space addr s

/-- NOT. -/
def execPlNot (e space addr : Nat) (s : State) : Answer :=
  plumb 0xd 1 spNone (plReg (fun r => { r with acc := !r.acc })) e space addr s

/-- SETA. -/
def execPlSeta (e space addr : Nat) (s : State) : Answer :=
  plumb 0xe 1 spNone (plReg (fun r => { r with acc := true })) e space addr s

/-- CLRA. -/
def execPlClra (e space addr : Nat) (s : State) : Answer :=
  plumb 0xf 1 spNone (plReg (fun r => { r with acc := false })) e space addr s

/-- PSHA: push ACC with AND. -/
def execPlPsha (e space addr : Nat) (s : State) : Answer :=
  plumb 0x10 1 spNone (plPush .and) e space addr s

/-- PSHO: push ACC with OR. -/
def execPlPsho (e space addr : Nat) (s : State) : Answer :=
  plumb 0x11 1 spNone (plPush .or) e space addr s

/-- PSHX: push ACC with XOR. -/
def execPlPshx (e space addr : Nat) (s : State) : Answer :=
  plumb 0x12 1 spNone (plPush .xor) e space addr s

/-- PSHN: push ACC with NONE. -/
def execPlPshn (e space addr : Nat) (s : State) : Answer :=
  plumb 0x13 1 spNone (plPush .none) e space addr s

/-- POP: the top LOGIC entry joined with ACC. -/
def execPlPop (e space addr : Nat) (s : State) : Answer :=
  plumb 0x14 1 spNone (fun s r => do
    let (op, v, rest) ← r.topLogic
    return ⟨s, { r with acc := join op v r.acc, stack := rest }, none⟩) e space addr s

/-- PEEK: the value of the top LOGIC entry. -/
def execPlPeek (e space addr : Nat) (s : State) : Answer :=
  plumb 0x15 1 spNone (fun s r => do
    let (_, v, _) ← r.topLogic
    return ⟨s, { r with acc := v }, none⟩) e space addr s

/-- FP E:e: a rising edge of ACC. -/
def execPlFp (e space addr : Nat) (s : State) : Answer :=
  plumb 0x18 1 spEdge (plEdge e addr (fun acc old => acc && !old)) e space addr s

/-- FN E:e: a falling edge of ACC. -/
def execPlFn (e space addr : Nat) (s : State) : Answer :=
  plumb 0x19 1 spEdge (plEdge e addr (fun acc old => old && !acc)) e space addr s

/-- JMP n. -/
def execPlJmp (e space addr : Nat) (s : State) : Answer :=
  plumb 0x20 1 spNone (plJump (fun _ => true) addr) e space addr s

/-- JC n. -/
def execPlJc (e space addr : Nat) (s : State) : Answer :=
  plumb 0x21 1 spNone (plJump (fun r => r.acc) addr) e space addr s

/-- JCN n. -/
def execPlJcn (e space addr : Nat) (s : State) : Answer :=
  plumb 0x22 1 spNone (plJump (fun r => !r.acc) addr) e space addr s

/-- CALL n. -/
def execPlCall (e space addr : Nat) (s : State) : Answer :=
  plumb 0x23 1 spNone (fun s r => do
    let r' ← r.push (.ret (r.pc + 1))
    return ⟨s, r', some addr⟩) e space addr s

/-- RET. -/
def execPlRet (e space addr : Nat) (s : State) : Answer :=
  plumb 0x24 1 spNone (plReturn) e space addr s

/-- RETC: as RET if ACC = 1. -/
def execPlRetc (e space addr : Nat) (s : State) : Answer :=
  plumb 0x25 1 spNone (fun s r => if r.acc then plReturn s r else .ok ⟨s, r, none⟩) e space addr s

/-- END: execution ends; the closure and the end decision follow. -/
def execPlEnd (e space addr : Nat) (s : State) : Answer :=
  plumb 0x2f 1 spNone (fun s r => if r.stack = [] then .ok ⟨s, { r with phase := .done }, none⟩ else .error (.fault flStackOpen)) e space addr s

/-- LW X:a. -/
def execPlLw (e space addr : Nat) (s : State) : Answer :=
  plumb 0x30 1 spWord (plOnWord e space addr (fun r w => { r with wa := sx w })) e space addr s

/-- LWU X:a. -/
def execPlLwu (e space addr : Nat) (s : State) : Answer :=
  plumb 0x31 1 spWord (plOnWord e space addr (fun r w => { r with wa := zx w })) e space addr s

/-- LWD X:a. -/
def execPlLwd (e space addr : Nat) (s : State) : Answer :=
  plumb 0x32 1 spWord (plOnDouble e space addr (fun r w => { r with wa := w })) e space addr s

/-- LWI i: a 20-bit two's complement immediate. -/
def execPlLwi (e space addr : Nat) (s : State) : Answer :=
  plumb 0x33 1 spNone (plReg (fun r => { r with wa := (BitVec.ofNat 20 addr).signExtend 64 })) e space addr s

/-- SW X:a. -/
def execPlSw (e space addr : Nat) (s : State) : Answer :=
  plumb 0x34 1 spWordStore (plWordStore e space addr 1 (fun _ => true)) e space addr s

/-- SWD X:a. -/
def execPlSwd (e space addr : Nat) (s : State) : Answer :=
  plumb 0x35 1 spWordStore (plWordStore e space addr 2 (fun _ => true)) e space addr s

/-- SWC X:a: if ACC = 1, as SW. -/
def execPlSwc (e space addr : Nat) (s : State) : Answer :=
  plumb 0x36 1 spWordStore (plWordStore e space addr 1 (fun r => r.acc)) e space addr s

/-- SWDC X:a: if ACC = 1, as SWD. -/
def execPlSwdc (e space addr : Nat) (s : State) : Answer :=
  plumb 0x37 1 spWordStore (plWordStore e space addr 2 (fun r => r.acc)) e space addr s

/-- ADD X:a. -/
def execPlAdd (e space addr : Nat) (s : State) : Answer :=
  plumb 0x38 1 spWord (plOnWord e space addr (fun r w => r.sum (sx w))) e space addr s

/-- SUB X:a. -/
def execPlSub (e space addr : Nat) (s : State) : Answer :=
  plumb 0x39 1 spWord (plOnWord e space addr (fun r w => r.diff (sx w))) e space addr s

/-- MUL X:a. -/
def execPlMul (e space addr : Nat) (s : State) : Answer :=
  plumb 0x3a 1 spWord (plOnWord e space addr Release.mul) e space addr s

/-- ADDD X:a. -/
def execPlAddd (e space addr : Nat) (s : State) : Answer :=
  plumb 0x3b 1 spWord (plOnDouble e space addr Release.sum) e space addr s

/-- SUBD X:a. -/
def execPlSubd (e space addr : Nat) (s : State) : Answer :=
  plumb 0x3c 1 spWord (plOnDouble e space addr Release.diff) e space addr s

/-- NEG. -/
def execPlNeg (e space addr : Nat) (s : State) : Answer :=
  plumb 0x3d 1 spNone (plReg Release.neg) e space addr s

/-- ANDW X:a. -/
def execPlAndw (e space addr : Nat) (s : State) : Answer :=
  plumb 0x3e 1 spWord (plOnWord e space addr (fun r w => { r with wa := r.wa &&& zx w })) e space addr s

/-- ORW X:a. -/
def execPlOrw (e space addr : Nat) (s : State) : Answer :=
  plumb 0x3f 1 spWord (plOnWord e space addr (fun r w => { r with wa := r.wa ||| zx w })) e space addr s

/-- XORW X:a. -/
def execPlXorw (e space addr : Nat) (s : State) : Answer :=
  plumb 0x40 1 spWord (plOnWord e space addr (fun r w => { r with wa := r.wa ^^^ zx w })) e space addr s

/-- SHL n. -/
def execPlShl (e space addr : Nat) (s : State) : Answer :=
  plumb 0x41 1 spNone (plCount addr (fun r => r.shl addr)) e space addr s

/-- SHR n: arithmetic. -/
def execPlShr (e space addr : Nat) (s : State) : Answer :=
  plumb 0x42 1 spNone (plCount addr (fun r => { r with wa := r.wa.sshiftRight addr })) e space addr s

/-- SHRU n: logical. -/
def execPlShru (e space addr : Nat) (s : State) : Answer :=
  plumb 0x43 1 spNone (plCount addr (fun r => { r with wa := r.wa >>> addr })) e space addr s

/-- BTST n. -/
def execPlBtst (e space addr : Nat) (s : State) : Answer :=
  plumb 0x44 1 spNone (plCount addr (fun r => { r with acc := r.wa.getLsbD addr })) e space addr s

/-- LWB. -/
def execPlLwb (e space addr : Nat) (s : State) : Answer :=
  plumb 0x45 1 spNone (plReg (fun r => { r with wa := if r.acc then 1 else 0 })) e space addr s

/-- CEQ X:a. -/
def execPlCeq (e space addr : Nat) (s : State) : Answer :=
  plumb 0x48 1 spWord (plOnWord e space addr (fun r w => { r with acc := decide (r.wa = sx w) })) e space addr s

/-- CNE X:a. -/
def execPlCne (e space addr : Nat) (s : State) : Answer :=
  plumb 0x49 1 spWord (plOnWord e space addr (fun r w => { r with acc := decide (r.wa ≠ sx w) })) e space addr s

/-- CLT X:a. -/
def execPlClt (e space addr : Nat) (s : State) : Answer :=
  plumb 0x4a 1 spWord (plOnWord e space addr (fun r w => { r with acc := decide (r.wa.toInt < w.toInt) })) e space addr s

/-- CLE X:a. -/
def execPlCle (e space addr : Nat) (s : State) : Answer :=
  plumb 0x4b 1 spWord (plOnWord e space addr (fun r w => { r with acc := decide (r.wa.toInt ≤ w.toInt) })) e space addr s

/-- CGT X:a. -/
def execPlCgt (e space addr : Nat) (s : State) : Answer :=
  plumb 0x4c 1 spWord (plOnWord e space addr (fun r w => { r with acc := decide (w.toInt < r.wa.toInt) })) e space addr s

/-- CGE X:a. -/
def execPlCge (e space addr : Nat) (s : State) : Answer :=
  plumb 0x4d 1 spWord (plOnWord e space addr (fun r w => { r with acc := decide (w.toInt ≤ r.wa.toInt) })) e space addr s

/-- CLTU X:a. -/
def execPlCltu (e space addr : Nat) (s : State) : Answer :=
  plumb 0x4e 1 spWord (plOnWord e space addr (fun r w => { r with acc := decide ((r.wa.setWidth 32 : Word).toNat < w.toNat) })) e space addr s

/-- CGEU X:a. -/
def execPlCgeu (e space addr : Nat) (s : State) : Answer :=
  plumb 0x4f 1 spWord (plOnWord e space addr (fun r w => { r with acc := decide (w.toNat ≤ (r.wa.setWidth 32 : Word).toNat) })) e space addr s

/-- CEQD X:a. -/
def execPlCeqd (e space addr : Nat) (s : State) : Answer :=
  plumb 0x50 1 spWord (plOnDouble e space addr (fun r w => { r with acc := decide (r.wa = w) })) e space addr s

/-- CLTD X:a. -/
def execPlCltd (e space addr : Nat) (s : State) : Answer :=
  plumb 0x51 1 spWord (plOnDouble e space addr (fun r w => { r with acc := decide (r.wa.toInt < w.toInt) })) e space addr s

/-- CGED X:a. -/
def execPlCged (e space addr : Nat) (s : State) : Answer :=
  plumb 0x52 1 spWord (plOnDouble e space addr (fun r w => { r with acc := decide (w.toInt ≤ r.wa.toInt) })) e space addr s

/-- CLTDU X:a. -/
def execPlCltdu (e space addr : Nat) (s : State) : Answer :=
  plumb 0x53 1 spWord (plOnDouble e space addr (fun r w => { r with acc := decide (r.wa.toNat < w.toNat) })) e space addr s

/-- CGEDU X:a. -/
def execPlCgedu (e space addr : Nat) (s : State) : Answer :=
  plumb 0x54 1 spWord (plOnDouble e space addr (fun r w => { r with acc := decide (w.toNat ≤ r.wa.toNat) })) e space addr s

/-- LOV. -/
def execPlLov (e space addr : Nat) (s : State) : Answer :=
  plumb 0x55 1 spNone (plReg (fun r => { r with acc := r.ov })) e space addr s

/-- COV. -/
def execPlCov (e space addr : Nat) (s : State) : Answer :=
  plumb 0x56 1 spNone (plReg (fun r => { r with ov := false })) e space addr s

/-- TON T:t. -/
def execPlTon (e space addr : Nat) (s : State) : Answer :=
  plumb 0x60 2 spTimer (plTimer e addr 1 Timer.ton) e space addr s

/-- TOF T:t. -/
def execPlTof (e space addr : Nat) (s : State) : Answer :=
  plumb 0x61 2 spTimer (plTimer e addr 2 Timer.tof) e space addr s

/-- TP T:t. -/
def execPlTp (e space addr : Nat) (s : State) : Answer :=
  plumb 0x62 2 spTimer (plTimer e addr 3 Timer.tp) e space addr s

/-- TPT T:t: PT = WA[31:0]. -/
def execPlTpt (e space addr : Nat) (s : State) : Answer :=
  plumb 0x63 2 spTimer (fun s r =>
    if 2048 ≤ addr then rangeFault else plStore (fun s r => s.writeWord e r 4 (4 * addr + 1) (r.wa.setWidth 32)) s r) e space addr s

/-- TRS T:t: if ACC = 1, ET = 0, RUNNING = 0 and Q = 0. -/
def execPlTrs (e space addr : Nat) (s : State) : Answer :=
  plumb 0x64 2 spTimer (fun s r =>
    if 2048 ≤ addr then rangeFault else if !r.acc then .ok ⟨s, r, none⟩ else do
      let r1 ← s.writeWord e r 4 (4 * addr) 0
      let r2 ← s.bufWrite e r1 4 (4 * addr + 2) 0 12
      return ⟨s, r2, none⟩) e space addr s

/-- CTU C:c. -/
def execPlCtu (e space addr : Nat) (s : State) : Answer :=
  plumb 0x68 2 spCounter (plCounter e addr countUp) e space addr s

/-- CTD C:c. -/
def execPlCtd (e space addr : Nat) (s : State) : Answer :=
  plumb 0x69 2 spCounter (plCounter e addr (fun cv _ st inp => countDown cv st inp)) e space addr s

/-- CRS C:c: if ACC = 1, CV = 0. -/
def execPlCrs (e space addr : Nat) (s : State) : Answer :=
  plumb 0x6a 2 spCounter (fun s r =>
    if 2048 ≤ addr then rangeFault else if !r.acc then .ok ⟨s, r, none⟩ else plStore (fun s r => s.writeWord e r 5 (4 * addr) 0) s r) e space addr s

/-- CLP C:c: if ACC = 1, CV = PV. -/
def execPlClp (e space addr : Nat) (s : State) : Answer :=
  plumb 0x6b 2 spCounter (fun s r =>
    if 2048 ≤ addr then rangeFault else if !r.acc then .ok ⟨s, r, none⟩ else do
      let pv ← s.readWord e r 5 (4 * addr + 1)
      let r1 ← s.writeWord e r 5 (4 * addr) pv
      return ⟨s, r1, none⟩) e space addr s

/-- CPV C:c: PV = WA[31:0]. -/
def execPlCpv (e space addr : Nat) (s : State) : Answer :=
  plumb 0x6c 2 spCounter (fun s r =>
    if 2048 ≤ addr then rangeFault else plStore (fun s r => s.writeWord e r 5 (4 * addr + 1) (r.wa.setWidth 32)) s r) e space addr s

/-- DWIN d, K:k. -/
def execPlDwin (e d space addr : Nat) (s : State) : Answer :=
  plumb (0x70 + d % 8) 1 spConst (fun s r => do
    let lo ← s.readDouble e r 7 addr
    let hi ← s.readDouble e r 7 (addr + 2)
    let p : DWord := (r.datw.getD (8 * (d % 8) + 1) 0).setWidth 64 <<< 32 ||| (r.datw.getD (8 * (d % 8)) 0).setWidth 64
    if s.datMod (d % 8) ≤ lo.toNat || s.datMod (d % 8) ≤ hi.toNat then
      let (n, t) := s.fresh
      return ⟨t, { r with acc := Config.freeValue 9 n % 2 = 1 }, none⟩
    else return ⟨s, { r with acc := inDwin lo hi p }, none⟩) e space addr s

/-- STARM s. -/
def execPlStarm (e space addr : Nat) (s : State) : Answer :=
  plumb 0x80 4 spNone (plStake e addr (fun x => x.st = .disarmed) (fun s => s.provArm e addr)) e space addr s

/-- STDIS s. -/
def execPlStdis (e space addr : Nat) (s : State) : Answer :=
  plumb 0x81 4 spNone (plStake e addr (fun x => x.st ≠ .disarmed) (fun s => s.provDisarm e addr)) e space addr s

/-- STTGT s: the live target is WA. -/
def execPlSttgt (e space addr : Nat) (s : State) : Answer :=
  plumb 0x82 4 spNone (fun s r =>
    plStake e addr (fun x => x.st ≠ .disarmed || x.target ≠ r.wa.toNat) (fun s => s.provTarget e addr r.wa.toNat) s r) e space addr s

/-- STRLD s: reload of a disarmed entry; on an armed one the result is unpredictable (R128, R186). -/
def execPlStrld (e space addr : Nat) (s : State) : Answer :=
  plumb 0x83 4 spNone (fun s r =>
    plStake e addr (fun x => x.st ≠ .disarmed || x.target ≠ s.stkTarget addr || x.count ≠ s.stkCount addr)
      (fun s => s.provReload e addr) s r) e space addr s

/-- CALLB i. -/
def execPlCallb (e space addr : Nat) (s : State) : Answer :=
  plumb 0x90 2 spNone (plCall e addr) e space addr s

/-- UNDEFINED_OPCODE: an opcode outside Tables 8.3 to 8.7 at the PC of engine `e` ends its release (R188). -/
def execUndefinedOpcode (e : Nat) (s : State) : Answer :=
  .next (match (s.eng e).rel with
    | none => s
    | some r =>
      if r.phase ≠ .run || plDefined ((s.codeWord r).fld 31 24) then s
      else s.inClock 0xFF 1 e 0 r (fun s r => s.plEnd e r.pc (.fault flOpcode)))

end Sys2Proof.Machine
end

