-- ==== Sys2Proof/Machine/Blocks.lean ====
section
/-!
DEFINITION. Block pairs at work (10 R216-R229, R241): arrival of calls, service, return, late calls, self-runs, the
exchange with a self-running instance, and what a swap of the allocation leaves of an instance.
-/
namespace Sys2Proof.Machine

def State.instStat (s : State) (i : Nat) : InstStat := sget {} s.blk.insts i
def State.modInst (s : State) (i : Nat) (f : InstStat → InstStat) : State :=
  { s with blk := { s.blk with insts := smod {} s.blk.insts i f } }

/-- Words of header, copies and STATE of a type. -/
def blkSize (ty : Nat) : Nat := let (a, b, c) := blkCounts ty; 8 + a + b + c

/-- The block pair at which work of a directory item queues: the one that serves its PAIR, or PAIR itself where none does
(R225, R254). -/
def State.blkServer (s : State) (it : List Word) : Nat :=
  let p := (item it 0).fld 15 8
  (s.servedBy p).getD p

/-- DEADLINE of an item in nanoseconds. -/
def blkDeadline (it : List Word) : Nat := if item it 3 = 0 then 1000000 else (item it 3).toNat

/-- The order in which a work stands among those of its clock: lowest caller first, self-runs last (R223). -/
def callerKey (w : BlkWork) : Nat := w.caller.getD 0x1000

/-- A work enters a queue in order of arrival. -/
def insertWork (w : BlkWork) : List BlkWork → List BlkWork
  | [] => [w]
  | x :: rest => if w.clk < x.clk ∨ (w.clk = x.clk ∧ callerKey w < callerKey x) then w :: x :: rest else x :: insertWork w rest

/-- A work queues at a pair; the deepest queue is kept in BLK_PAIRp_MAXQ. -/
def State.queueWork (s : State) (p : Nat) (w : BlkWork) : State :=
  let b := s.blkPair p
  let q := insertWork w b.queue
  let s := s.setBlkPair p { b with queue := q }
  let k := p - 0x30
  if s.regF (Reg.BLK_PAIRp_MAXQ k) 4 0 < q.length then s.setRegF (Reg.BLK_PAIRp_MAXQ k) 4 0 (min 31 q.length) else s

/-- The work that an instance or an engine has queued or in service. -/
def State.blkWorks (s : State) : List BlkWork :=
  s.blk.pairs.flatMap (fun p => p.2.queue ++ (match p.2.serving with | some x => [x.1] | none => []))

/-- An instance has a call or run queued or running (BLK_ISTS.BUSY). -/
def State.instBusy (s : State) (i : Nat) : Bool := s.blkWorks.any (fun w => w.inst = i)

/-- SELF of an item. -/
def itemSelf (it : List Word) : Bool := (item it 0).bit 18

/-- A call of engine `e` arrives at its serving pair, 2 clocks after its CALLB began (R221, R223). -/
def State.callArrival (s : State) (e : Nat) : State :=
  match (s.eng e).rel with
  | some r =>
    match r.phase with
    | .call i =>
      if s.sclk < r.due 0 || s.blkWorks.any (fun w => w.caller = some e) then s
      else
        let it := s.citem 6 i 9
        let (ni, no, _) := blkCounts ((item it 0).fld 2 0)
        let ins := match s.callIns e r it with | .ok ws => ws | .error _ => []
        let copy := s.instAt (itemBase it) (8 + ni + no)
        let w : BlkWork := {
          inst := i, caller := some e, ins := ins, s := r.startT / microT, datw := r.datw, arrival := s.ptp, clk := s.sclk,
          item := it, held := if itemSelf it then some (copy.drop (8 + ni), (item copy 1).bit 0) else none }
        s.queueWork (s.blkServer it) w
    | _ => s
  | none => s

/-- The arrival of the call of engine `e` as an event: the pair it queues at, and the instance. -/
def State.callEvs (s : State) (e : Nat) : List Ev :=
  match (s.eng e).rel with
  | some r => match r.phase with
    | .call i => [⟨.callArrival, s.blkServer (s.citem 6 i 9), i⟩]
    | _ => []
  | none => []

/-- The words of an instance as a release sees them: as its last call under the same item left them, else as committed (R222);
with the segments of its calls that are not appended yet, as if they had been accepted. -/
def State.callWords (s : State) (r : Release) (i : Nat) (it : List Word) : List Word :=
  let ty := (item it 0).fld 2 0
  let (ni, no, ns) := blkCounts ty
  let mem := s.instAt (itemBase it) (blkSize ty)
  let ws := match (r.insts.filter (fun x => x.inst = i && x.item = it && x.first = 0)).getLast? with
    | some x => x.words
    | none => mem
  match (r.segs.filter (fun x => x.inst = i && x.item = it)).getLast? with
  | some g => ws.take (8 + ni + no) ++ (g.st ++ List.replicate ns (0 : Word)).take ns
  | none => ws

/-- The words of an instance that a work changes, by their place in instance memory. -/
def changedWords (base : Nat) (old new : List Word) : List (Nat × Word) :=
  ((List.range new.length).filter (fun k => item old k ≠ item new k)).map (fun k => (base + k, item new k))

/-- What a call or run of an instance computes from its words. -/
def State.runBlock (s : State) (p : Nat) (w : BlkWork) (old ins datw : List Word) (pend : List BlkSeg) : BlkResult :=
  let base := itemBase w.item
  let x := BlkEnv.run ⟨s, w.inst, w.item, old, ins, w.s, datw, pend, item old 2 = 0 && !sget false s.blk.ran base, p⟩
  { x with changed := changedWords base old x.words }

/-- What a work computes at a pair. -/
def State.blkResult (s : State) (p : Nat) (w : BlkWork) : BlkResult :=
  let ty := (item w.item 0).fld 2 0
  let (ni, _, _) := blkCounts ty
  let base := itemBase w.item
  match w.caller, w.held with
  | some _, some (outs, eno) =>
    { eno := eno, outs := outs, changed := changedWords (base + 8) (s.instAt (base + 8) ni) w.ins, clocks := 0 }
  | some e, none =>
    match (s.eng e).rel with
    | some r => s.runBlock p w (s.callWords r w.inst w.item) w.ins w.datw (r.segs.filter (fun x => x.inst = w.inst && x.item = w.item))
    | none => { eno := false }
  | none, _ =>
    let old := s.instAt base (blkSize ty)
    s.runBlock p w old ((old.drop 8).take ni) s.datWords []

/-- The closure digest of a block pair's work (R248): TYPE, ENO and instance, the OUT words, and the instance words it changes
(log 80). -/
def blkDigest (w : BlkWork) (x : BlkResult) : Nat :=
  let head := w32 ((item w.item 0).fld 2 0 + ofBool x.eno * 2 ^ 8 + w.inst * 2 ^ 16)
  cReg (head :: x.outs) ^^^ cBuf (x.changed.map (fun p => cTerm 0 p.1 p.2 (BitVec.allOnes 32)))

/-- Clocks from the start of service to the return: the IN words pass, the block computes, the OUT words pass (R221,
R227); a self-run only computes. -/
def serviceClocks (w : BlkWork) (x : BlkResult) : Nat :=
  let (ni, no, _) := blkCounts ((item w.item 0).fld 2 0)
  match w.caller with
  | some _ => (8 + ni) + x.clocks + (4 + no)
  | none => x.clocks

/-- A caller goes on in the clock after its call, with ACC and at the next index; the stall counts among its clocks. -/
def State.resume (s : State) (e : Nat) (acc : Bool) : State :=
  match (s.eng e).rel with
  | some r => s.setRel e { r with acc := acc, phase := .run, pc := r.pc + 1, clocks := s.sclk - (r.start + copyClocks r.binding) }
  | none => s

/-- A work is late (R223): counted; a caller goes on with ACC = 0. -/
def State.lateWork (s : State) (w : BlkWork) : State :=
  let s := (s.modInst w.inst (fun x => { x with late := satAdd 0xFFFFFFFF x.late 1 }))
  let s := (s.count Reg.BLK_LATE).raiseBit 26 0
  match w.caller with
  | some e => s.resume e false
  | none => s

/-- The instance deadline of a work has passed; where its return is due, in an earlier clock than that (Table 10.12). -/
def State.isLate (s : State) (w : BlkWork) (ret : Option Nat) : Bool :=
  let limit := w.arrival + blkDeadline w.item * 2 ^ 32
  match ret with
  | some c => if s.sclk < c then limit ≤ s.ptp else limit + (s.sclk - c + 1) * s.incr ≤ s.ptp
  | none => limit ≤ s.ptp

/-- The work that a pair serves is late. -/
def State.servedLate (s : State) (w : BlkWork) (x : BlkResult) (t : Nat) : Bool := s.isLate w (some (t + serviceClocks w x))

/-- Late works of an instance are dropped from the queue and the service of every pair. -/
def State.expire (s : State) (i : Nat) : State :=
  s.blk.pairs.foldl (fun s p =>
    let b := s.blkPair p.1
    let late := b.queue.filter (fun w => w.inst = i && s.isLate w none)
    let t := s.setBlkPair p.1 { b with queue := b.queue.filter (fun w => !(w.inst = i && s.isLate w none)) }
    let t := late.foldl State.lateWork t
    match b.serving with
    | some (w, x, c) =>
      if w.inst = i && s.servedLate w x c then (t.setBlkPair p.1 { t.blkPair p.1 with serving := none }).lateWork w else t
    | none => t) s

/-- A block pair may serve: it is in service or serves as the spare, and has nothing in service. -/
def State.blkFree (s : State) (p : Nat) : Bool :=
  let x := cmpIndex p
  19 ≤ x && x ≤ 24 && (s.cmpState x = 0 || s.cmpState x = 2) && (s.blkPair p).serving.isNone

/-- A free pair takes the first work of its queue whose deadline has not passed (R223). -/
def State.serve (s : State) (p : Nat) : State :=
  if !s.blkFree p then s
  else match (s.blkPair p).queue.find? (fun w => !s.isLate w none) with
    | some w =>
      let b := s.blkPair p
      s.setBlkPair p { queue := b.queue.erase w, serving := some (w, s.blkResult p w, s.sclk) }
    | none => s

/-- The start of service at a pair as an event: a self-run reads what a commit of its clock has left (Table 10.12). -/
def State.serveEvs (s : State) (p : Nat) : List Ev :=
  match (s.blkPair p).queue.find? (fun w => !s.isLate w none) with
  | some w => if w.caller.isNone then [⟨.selfDue, p, w.inst⟩] else []
  | none => []

/-- What the registers count of a call or run that completes. -/
def State.countWork (s : State) (p : Nat) (w : BlkWork) (x : BlkResult) : State :=
  let clk := s.sclk - w.clk
  let s := s.modInst w.inst (fun i => { i with calls := (i.calls + 1) % 2 ^ 32, maxClk := max i.maxClk (min clk 0xFFFFFFFF) })
  let s := s.countWrap (Reg.BLK_PAIRp_CALLS (p - 0x30))
  match x.param with
  | some _ => (s.count Reg.BLK_PARAM).raiseBit 26 1
  | none => s

/-- OUT words written into the caller's write buffer. -/
def State.putOuts (s : State) (e : Nat) (r : Release) (space : Nat) : Nat → List Word → Except PlEnd Release
  | _, [] => .ok r
  | a, w :: ws =>
    match s.writeWord e r space a w with
    | .ok r' => s.putOuts e r' space (a + 1) ws
    | .error x => .error x

/-- The instance data a call holds with its release: all of its words, or the IN copy of an exchange (R222, R227). -/
def heldWords (w : BlkWork) (x : BlkResult) : InstHold :=
  if w.held.isSome then ⟨w.inst, w.item, 8, w.ins⟩ else ⟨w.inst, w.item, 0, x.words⟩

/-- What a returning call leaves with its caller: the OUT words in the write buffer, the instance data and the segments. -/
def State.giveBack (s : State) (e : Nat) (w : BlkWork) (x : BlkResult) : State :=
  match (s.eng e).rel with
  | none => s
  | some r =>
    match s.putOuts e r (itemOut w.item).1 (itemOut w.item).2 x.outs with
    | .error y => s.plEnd e r.pc y
    | .ok r' => (s.setRel e { r' with insts := r'.insts ++ [heldWords w x], segs := r'.segs ++ x.segs }).resume e x.eno

/-- A call returns (R221, R222); tiles whose digests differ make it a closure mismatch (R249, R250). -/
def State.blkReturn (s : State) (p : Nat) (trailing : Option Nat) : State :=
  match (s.blkPair p).serving with
  | some (w, x, t) =>
    match w.caller with
    | some e =>
      if s.servedLate w x t then (s.setBlkPair p { s.blkPair p with serving := none }).lateWork w
      else if s.sclk < t + serviceClocks w x then s
      else if !digestsAgree (blkDigest w x) trailing then s.mismatch (cmpIndex p) 3
      else ((s.setBlkPair p { s.blkPair p with serving := none }).countWork p w x).giveBack e w x
    | none => s
  | none => s

/-- What a self-run leaves: header, OUT copy and STATE written in one clock, its segments appended, and the records of what
stands then (R226, R228, R239). -/
def State.selfLeaves (s : State) (w : BlkWork) (x : BlkResult) : State :=
  let ni := (blkCounts ((item w.item 0).fld 2 0)).1
  let base := itemBase w.item
  let rest := x.words.drop (8 + ni)
  let s := (s.putInst base 0 (x.words.take 8)).setInstWords (base + 8 + ni) rest
  let s := s.blkAppendAll w.inst w.item x.segs
  s.record 0 [.inst base (s.instAt base 8), .inst (base + 8 + ni) (s.instAt (base + 8 + ni) rest.length)]

/-- A self-run ends; one that is late is discarded (R226). -/
def State.selfEnd (s : State) (p : Nat) (trailing : Option Nat) : State :=
  match (s.blkPair p).serving with
  | some (w, x, t) =>
    match w.caller with
    | some _ => s
    | none =>
      if s.servedLate w x t then (s.setBlkPair p { s.blkPair p with serving := none }).lateWork w
      else if s.sclk < t + serviceClocks w x then s
      else if !digestsAgree (blkDigest w x) trailing then s.mismatch (cmpIndex p) 3
      else ((s.setBlkPair p { s.blkPair p with serving := none }).countWork p w x).selfLeaves w x
  | none => s

/-- The end of a self-run as an event: its pair, and the instance. -/
def State.selfEvs (s : State) (p : Nat) : List Ev :=
  match (s.blkPair p).serving with
  | some (w, _, _) => if w.caller.isNone then [⟨.selfEnd, p, w.inst⟩] else []
  | none => []

/-- The due instant of a SELF instance (R226): a run is queued, or skipped and counted while the last one is queued or
runs. -/
def State.selfDue (s : State) (i : Nat) : State :=
  let it := s.citem 6 i 9
  let period := (item it 4).fld 16 0 * 1000
  let t := s.now / period * period
  if (item it 0).fld 2 0 = 0 || !itemSelf it || period = 0 || !s.runs || s.plm.mode = .idle || t < s.plm.selfFrom ||
    (s.instStat i).lastDue = t then s
  else
    let s := s.modInst i (fun x => { x with lastDue := t })
    if s.blkWorks.any (fun w => w.inst = i && w.caller.isNone) then (s.count Reg.BLK_SKIP).raiseBit 26 2
    else s.queueWork (s.blkServer it) { inst := i, s := t / 1000, arrival := s.ptp, clk := s.sclk, item := it }

/-- An instance at a swap of the allocation (R220): kept if TYPE, BASE and SIZE are unchanged, else zero-filled with its
H0. -/
def State.swapInst (s : State) (old : List Word) (i : Nat) : State :=
  let it := s.citem 6 i 9
  let ty := (item it 0).fld 2 0
  if ty = 0 || (ty = (item old 0).fld 2 0 && item it 1 = item old 1 && item it 2 = item old 2) then s
  else
    let n := (item it 2).fld 19 0
    let base := itemBase it
    let keep : Sparse Word := s.blk.mem.filter (fun e => !(decide (base ≤ e.1) && decide (e.1 < base + n)))
    ({ s with blk := { s.blk with mem := keep, ran := sput false s.blk.ran base false } } : State).setInstWords base
      [w32 (ty + i * 65536)]

/-! ### Axis streams (R146, R217, R229) -/

/-- PUB and HORIZON (ns) of the instance that feeds an axis stream. -/
def State.axisOut (s : State) (a : Nat) : Nat × Nat :=
  let feeds := s.cfgA.filter (fun e => e.1 / (8192 * 1024) = 6 && e.1 % 1024 = 8 && e.2.bit 31 && e.2.fld 9 0 = a &&
    (s.cw 6 (e.1 / 1024 % 8192) 0).fld 2 0 ≠ 0)
  match feeds with
  | e :: _ => (e.2.fld 13 10, e.2.fld 21 14 * 1000000)
  | [] => (0, 0)

/-- Segments of an axis stream whose end has come leave its queue. -/
def State.axisEnd (s : State) (a : Nat) : State :=
  match s.axisQ a with
  | g :: rest =>
    if g.fin * 2 ^ 32 ≤ s.ptp then
      let s := { s with blk := { s.blk with axisLast := sput none s.blk.axisLast a (some g) } }
      s.setAxis a rest (sget 0 s.blk.axisSeq a)
    else s
  | [] => s

/-- The hand-over of what comes within the horizon of an axis stream to its ports (R112, R229). -/
def State.handAxis (s : State) (a : Nat) : State :=
  if !s.publishes then s
  else
    let (pub, hz) := s.axisOut a
    let lim := s.ptp + hz * 2 ^ 32
    let due (n : Nat) (g : Seg) : Bool := decide (pub / 2 ^ n % 2 = 1) && decide (g.sent / 2 ^ n % 2 = 0) && decide (g.t0 * 2 ^ 32 ≤ lim)
    let q := s.axisQ a
    let ports := [0, 1, 2, 3].foldl (fun ps n =>
      let new := (q.filter (due n)).map (fun g => ({ stream := 0x1000 + a, seg := g } : DueSeg))
      if new = [] then ps else smod {} ps n (fun p => p.hand (0x1000 + a) new)) s.ports
    let mark (g : Seg) : Seg := [0, 1, 2, 3].foldl (fun (g : Seg) n => if due n g then { g with sent := g.sent + 2 ^ n } else g) g
    if q.any (fun g => due 0 g || due 1 g || due 2 g || due 3 g) then
      ({ s with ports := ports } : State).setAxis a (q.map mark) (sget 0 s.blk.axisSeq a)
    else s

/-! ### Views (Table 10.14) -/

/-- Allocated instances and the words they take. -/
def State.allocated (s : State) : List Nat :=
  (s.cfgA.filter (fun e => e.1 / (8192 * 1024) = 6 && e.1 % 1024 = 0 && e.2.fld 2 0 ≠ 0)).map (fun e => e.1 / 1024 % 8192)

/-- BLK_STS. -/
def State.blkSts (s : State) : Word :=
  w32 (s.blkRetired + 64 * ofBool (s.cmpBase 24 = 2) + 256 * s.allocated.length)

/-- BLK_MEM_USED. -/
def State.blkUsed (s : State) : Word := w32 ((s.allocated.map (fun i => (s.cw 6 i 2).fld 19 0)).foldl (· + ·) 0)

/-- BLK_ISTS of an instance. -/
def State.blkIsts (s : State) (i : Nat) : Word :=
  let h := if (s.cw 6 i 0).fld 2 0 = 0 then 0 else sget 0 s.blk.mem (s.instBase i + 1)
  w32 (h.fld 1 0 + 4 * ofBool (s.instBusy i) + h.fld 15 8 * 2 ^ 8 + s.blkServer (s.citem 6 i 9) * 2 ^ 16)

/-- BLK_WIN_DATA: a word of the instance shown, zero at or beyond SIZE. -/
def State.blkWin (s : State) (i ofs : Nat) : Word :=
  if (s.cw 6 i 2).fld 19 0 ≤ ofs then 0 else sget 0 s.blk.mem (s.instBase i + ofs)

/-- BLK_PAIRp_STS. -/
def State.blkPairSts (s : State) (p : Nat) : Word :=
  let b := s.blkPair (0x30 + p)
  w32 (min 31 b.queue.length + 32 * ofBool b.serving.isSome + 64 * ofBool ((s.reg Reg.CMP_RETIRED).bit (19 + p)) +
    65536 * (match b.serving with | some x => x.1.inst | none => 0))

/-! ### The commands -/

/-- BLOCK_CALL_ARRIVAL. -/
def execBlockCallArrival (dt e : Nat) (s : State) : Answer := afterEv dt ((s.advance dt).callEvs e) s (fun s => s.callArrival e)
/-- BLOCK_SERVICE_START. -/
def execBlockServiceStart (dt p : Nat) (s : State) : Answer := afterEv dt ((s.advance dt).serveEvs p) s (fun s => s.serve p)
/-- BLOCK_RETURN. -/
def execBlockReturn (dt p : Nat) (trailing : Option Nat) (s : State) : Answer := after dt s (fun s => s.blkReturn p trailing)
/-- BLOCK_DEADLINE. -/
def execBlockDeadline (dt i : Nat) (s : State) : Answer := after dt s (fun s => s.expire i)
/-- SELF_RUN_DUE. -/
def execSelfRunDue (dt i : Nat) (s : State) : Answer :=
  afterEv dt [⟨.selfDue, s.blkServer (s.citem 6 i 9), i⟩] s (fun s => s.selfDue i)
/-- SELF_RUN_END. -/
def execSelfRunEnd (dt p : Nat) (trailing : Option Nat) (s : State) : Answer :=
  afterEv dt ((s.advance dt).selfEvs p) s (fun s => s.selfEnd p trailing)
/-- SEGMENT_END: of datum `d`, or of axis stream `d` - 8. -/
def execSegmentEnd (dt d : Nat) (s : State) : Answer :=
  afterEv dt [⟨.segEnd, d, 0⟩] s (fun s => if d < 8 then s.segmentEnd d else s.axisEnd (d - 8))
/-- SEGMENT_HANDOVER: of datum `d`, or of axis stream `d` - 8. -/
def execSegmentHandover (dt d : Nat) (s : State) : Answer :=
  afterEv dt [⟨.segBuild, 0x100 + d, 0⟩] s (fun s => if d < 8 then s.handSegments d else s.handAxis (d - 8))

/-- The end decision of engine `e` (R201, R202, R249): 67 clocks after END the release commits if the tiles' digests agree and
every write it posted has been answered (R379); digests that differ are a closure mismatch, which a split engine never has
(R257). -/
def State.endDecision (s : State) (e : Nat) (trailing : Option Nat) : State :=
  match (s.eng e).rel with
  | some r =>
    if r.phase ≠ .done || s.sclk < r.start + relClocks r || s.mem.notices.any (fun n => n.master = e) then s
    else if digestsAgree r.digest trailing || s.unchecked e then s.endRelease e 1 0 0
    else s.mismatch (cmpIndex e) 3
  | none => s

/-- RELEASE_END_DECISION. -/
def execReleaseEndDecision (dt e : Nat) (trailing : Option Nat) (s : State) : Answer :=
  afterEv dt [⟨.commit, e, 0⟩] s (fun s => s.endDecision e trailing)

end Sys2Proof.Machine
end

