-- ==== Sys2Proof/Machine/Traverse.lean ====
section
/-!
DEFINITION. The Traverse line ports (07 R138-R172): the cycle and the frames it builds, the transmit queues and gates, the
reception of station frames and of an upstream pair's frames under the epoch rules, heartbeats, and discovery.
-/
namespace Sys2Proof.Machine

/-! ### Items and fields (Tables 7.5, 7.6, 7.14) -/

def State.port (s : State) (n : Nat) : Port := sget {} s.ports n
def State.modPort (s : State) (n : Nat) (f : Port → Port) : State := { s with ports := smod {} s.ports n f }

/-- The line ports of the module's order (Table 1.5): DLT-NX8-S has no L2 and L3. -/
def State.hasPort (s : State) (n : Nat) : Bool := decide (n < 2) || (decide (n < 4) && decide (s.order ≠ Order.s))

/-- A word of the port item in force: the old one until the first cycle start after a swap (R163). -/
def State.portW (s : State) (n w : Nat) : Word :=
  match (s.port n).oldItem with
  | some (_, ws) => sget 0 ws (cfgKey 3 n w)
  | none => s.cw 3 n w

/-- The item index of station `k` on port `n`, and a word of it: in the clock of a swap still the old one (Table 7.10), after it the
new one (R163). -/
def stnItem (n k : Nat) : Nat := 16 + n * 255 + (k - 1)
def State.stnW (s : State) (n k w : Nat) : Word :=
  match (s.port n).oldItem with
  | some (c, ws) => if c = s.sclk then sget 0 ws (cfgKey 3 (stnItem n k) w) else s.cw 3 (stnItem n k) w
  | none => s.cw 3 (stnItem n k) w
/-- The stations of a port: those whose item is in use. -/
def State.stations (s : State) (n : Nat) : List Nat := ((List.range 255).map (· + 1)).filter (fun k => s.stnW n k 0 ≠ 0)
def State.stn (s : State) (n k : Nat) : Station := sget {} (s.port n).stns k
def State.modStn (s : State) (n k : Nat) (f : Station → Station) : State :=
  s.modPort n (fun p => { p with stns := smod {} p.stns k f })

def State.missLimit (s : State) (n : Nat) : Nat := let v := (s.portW n 1).fld 11 4; if v = 0 then 3 else v
def State.segRepeat (s : State) (n : Nat) : Nat := let v := (s.portW n 1).fld 15 12; if v = 0 then 4 else v
/-- The queue of class `c` in the order of TRV_QMAP: 0 HEARTBEAT, 1 DATUM, 2 SEGMENT, 3 IMAGE, 4 EVENT, 5 ACK, 6 REGACC,
7 other MGMT, 8 PTP. -/
def State.queueOf (s : State) (n c : Nat) : Nat := (s.portW n 2).fld (3 * c + 2) (3 * c)
def State.upAddr (s : State) (n : Nat) : Nat := (s.portW n 7).fld 31 16
def State.upStn (s : State) (n : Nat) : Nat := (s.portW n 7).fld 7 0
def State.ownAddr (s : State) : Nat := s.regF Reg.TRV_SW_ADDR 15 0
def State.slotId (s : State) : Nat := s.regF Reg.SYS_SLOT 0 0

/-- Stream `x` is among the subscription of a station item (Table 7.6 W9, W10). -/
def subscribes (w9 w10 : Word) (x : Nat) : Bool :=
  if x < 8 then w9.bit x
  else decide (0x1000 ≤ x) && decide (w10.fld 15 0 ≤ x - 0x1000) && decide (x - 0x1000 < w10.fld 15 0 + w10.fld 31 16)

/-- The stations of a port subscribed to a stream. -/
def State.subscribers (s : State) (n x : Nat) : List Nat :=
  (s.stations n).filter (fun k => subscribes (s.stnW n k 9) (s.stnW n k 10) x)

/-- An interrupt status bit of port `n`. -/
def State.trvIrq (s : State) (n i : Nat) : State := s.raiseBit (21 + n) i

/-- The port runs cycles: its item is in use and TRV_CTL.EN is 1 (R160). -/
def State.cycles (s : State) (n : Nat) : Bool := s.hasPort n && s.regB (Reg.TRV_CTL n) 0 && s.cw 3 n 0 ≠ 0

/-! ### Building frames (R143, R162) -/

/-- CLASS of a payload. -/
def classOf : Payload → Nat
  | .datum _ => 1 | .segment .. => 2 | .image .. => 3 | .input _ => 3 | .event _ => 4 | .ack .. => 5 | .regacc .. => 6
  | .heartbeat .. => 7 | .stateCmd .. => 7 | .discover => 7 | .discoverResp .. => 7 | .config _ => 7

/-- The place of a payload's class in TRV_QMAP. -/
def qmapOf : Payload → Nat
  | .heartbeat .. => 0 | .datum _ => 1 | .segment .. => 2 | .image .. => 3 | .input _ => 3 | .event _ => 4 | .ack .. => 5
  | .regacc .. => 6 | _ => 7

/-- `n` up to a multiple of 4. -/
def pad4 (n : Nat) : Nat := (n + 3) / 4 * 4

/-- PAYLEN of a payload. -/
def paylen : Payload → Nat
  | .datum es => 4 + 40 * es.length
  | .segment _ _ gs => 8 + 72 * gs.length
  | .image _ bs => 12 + (bs.map (fun b => 8 + pad4 (b.bytes.length + 4 * b.words.length))).foldl (· + ·) 0
  | .input b => 16 + b.bytes.length + 4 * b.words.length
  | .event es => 4 + 16 * es.length
  | .ack _ _ ss es => 4 + 8 * ss.length + 16 * es.length
  | .regacc _ bs => bs.length
  | .heartbeat .. => 16
  | .stateCmd .. => 6
  | .discover => 4
  | .discoverResp .. => 17
  | .config ws => 4 + 4 * ws.length

/-- A frame's header as this module fills it in (Table 7.2); TAG and FORCED are given when the frame is sent. -/
def State.ownHdr (s : State) (n dst : Nat) (rept : Bool) (b : Payload) : Hdr :=
  { tsReq := (s.reg (Reg.TRV_CTL n)).bit (8 + classOf b), slot := s.slotId, forced := decide (s.plm.forces ≠ []), rept := rept,
    src := s.ownAddr, dst := dst, epoch := s.epoch, cycle := (s.reg (Reg.TRV_CYC_CNT n)).toNat,
    etype := s.regF Reg.TRV_SW_ETYPE 15 0, vid := if (s.portW n 4).bit 12 then some ((s.portW n 4).fld 11 0) else none }

/-- The group MAC address of a port, and its own (Tables 7.5 and 7.14). -/
def State.gmac (s : State) (n : Nat) : Nat := pair64 (s.portW n 5) (s.portW n 6) % 2 ^ 48
def State.portMac (s : State) (n : Nat) : Nat := s.reg64 (Reg.TRV_MAC_LO n) (Reg.TRV_MAC_HI n) % 2 ^ 48

/-- A frame enters queue `q` of a port, tagged with a PCP equal to the queue where the port tags (R140). -/
def State.enqueueWire (s : State) (n q dmac etype : Nat) (b : FrameBody) : State :=
  let w : WireFrame := { dmac := dmac, smac := s.portMac n, etype := etype,
                         tag := if (s.portW n 4).bit 12 then some ((s.portW n 4).fld 11 0, q) else none, body := b }
  s.modPort n (fun p => { p with txq := smod [] p.txq q (fun l => l ++ [w]) })

/-- A Traverse frame enters the queue of its class (R140). -/
def State.queueTo (s : State) (n dmac : Nat) (h : Hdr) (b : Payload) : State :=
  s.enqueueWire n (s.queueOf n (qmapOf b)) dmac h.etype (.trv ⟨h, b⟩)

/-- A frame to all nodes of the port: to its group MAC address, with DST 0xFFFF (R142). -/
def State.queueFrame (s : State) (n : Nat) (rept : Bool) (b : Payload) : State :=
  s.queueTo n (s.gmac n) (s.ownHdr n 0xFFFF rept b) b

/-- A frame to one station, at its MAC address (R142). -/
def State.queueStn (s : State) (n k : Nat) (b : Payload) : State :=
  s.queueTo n (pair64 (s.stnW n k 1) (s.stnW n k 2) % 2 ^ 48) (s.ownHdr n ((s.stnW n k 0).fld 31 16) false b) b

/-- A list cut into pieces that each satisfy a limit: a piece ends before the entry that would break it. -/
def chunk {α : Type} (ok : List α → Bool) : List α → List α → List (List α)
  | cur, [] => if cur.isEmpty then [] else [cur]
  | cur, x :: rest =>
    if cur.isEmpty || ok (cur ++ [x]) then chunk ok (cur ++ [x]) rest else cur :: chunk ok [x] rest

/-- The DATUM entry of a datum in this clock (Table 7.3). -/
def State.datumEntry (s : State) (n t0 d : Nat) : DatumEntry :=
  let e := s.datNow d
  let (p, w) := wrapPos (s.datMod d) e.u
  { datum := d, state := (s.datSts d).fld 2 0, horizon := (s.datCfg d).fld 19 12, lastSeq := sget 0 (s.port n).lastSeq d,
    actSeq := e.seq, modulo := pair64 (s.cw 2 d 1) (s.cw 2 d 2), pos := p, wraps := w, cycT0 := t0 }

/-- The streams with something due on a port, in order. -/
def Port.streams (p : Port) : List Nat :=
  ((p.dueSegs.map (·.stream)) ++ (p.truncs.map (·.stream))).eraseDups.mergeSort (fun a b => decide (a ≤ b))

/-- The SEGMENT frames of one stream (R146-R148): repeats first, since they carry the lower SEQs. -/
def State.segmentFrames (s : State) (n x : Nat) : State :=
  let p := s.port n
  let lim := s.segRepeat n + 1
  let trunc := (p.truncs.find? (fun t => t.stream = x && t.told < lim)).map (·.seq)
  let due := p.dueSegs.filter (fun g => g.stream = x && g.sent < lim)
  let pieces (l : List DueSeg) : List (List Seg) := (chunk (fun c => decide (c.length ≤ 20)) [] l).map (fun c => c.map (·.seg))
  let old := pieces (due.filter (fun g => g.sent ≠ 0))
  let new := pieces (due.filter (fun g => g.sent = 0))
  let s := old.foldl (fun s c => s.queueFrame n true (.segment x trunc c)) s
  let s := new.foldl (fun s c => s.queueFrame n false (.segment x trunc c)) s
  if due.isEmpty && trunc.isSome then s.queueFrame n false (.segment x trunc []) else s

/-- The events queued for a port take their EVT_IDs and become due (R153). -/
def State.takeEvents (s : State) (n : Nat) : State :=
  let q : List StnEvent := sget [] s.stk.events n
  let s := { s with stk := { s.stk with events := sput [] s.stk.events n [] } }
  q.foldl (fun s e => s.modPort n (fun p =>
    let i := (p.evtId + 1) % 2 ^ 32
    { p with evtId := i, dueEvts := p.dueEvts ++ [{ evt := ⟨e.stn, e.code, i, e.act⟩ }] })) s

/-- The EVENT frames: events not sent yet, and repeats until the act time (R154). -/
def State.eventFrames (s : State) (n : Nat) : State :=
  let p := s.port n
  let pieces (l : List DueEvt) : List (List EvtEntry) := (chunk (fun c => decide (c.length ≤ 32)) [] l).map (fun c => c.map (·.evt))
  let old := pieces (p.dueEvts.filter (fun e => e.sent && decide ((s.now : Int) < e.evt.act)))
  let new := pieces (p.dueEvts.filter (fun e => !e.sent))
  let s := old.foldl (fun s c => s.queueFrame n true (.event c)) s
  new.foldl (fun s c => s.queueFrame n false (.event c)) s

/-- The outputs of a station as they stand in this clock (R149, R151). -/
def State.outBlock (s : State) (n k : Nat) : ImgBlock :=
  let q := s.stnW n k 3
  let w := s.stnW n k 4
  { stn := k, outOfs := (s.stnW n k 7).toNat,
    bytes := (List.range (q.fld 31 16)).map (fun i => s.imgByte 2 (q.fld 15 0 + i)),
    words := (List.range (w.fld 31 16)).map (fun i => s.imgRead 8 0 (w.fld 15 0 + i)) }

/-- The IMAGE frames, in station order. -/
def State.imageFrames (s : State) (n t0 : Nat) : State :=
  let blocks := (s.stations n).map (s.outBlock n)
  (chunk (fun c => decide (paylen (.image t0 c) ≤ 1480) && decide (c.length ≤ 255)) [] blocks).foldl
    (fun s c => s.queueFrame n false (.image t0 c)) s

/-- The UPSTREAM datums of a port. -/
def State.upDatums (s : State) (n : Nat) : List Nat :=
  (List.range 8).filter (fun d => s.datSource d = 3 && (s.cw 2 d 13).fld 1 0 = n)

/-- The datums that follow the upstream pair at address `up` on a port. -/
def State.follows (s : State) (n up : Nat) : List Nat := (s.upDatums n).filter (fun d => (s.cw 2 d 13).fld 23 8 = up)

/-- The streams for which this module, as a station of the upstream pair, answers with ACK (R156, R168): those it follows and those
it has subscribed to. -/
def State.ownStreams (s : State) (n : Nat) : List Nat :=
  let a := (s.port n).asStn
  let followed := (s.follows n (s.upAddr n)).map (fun d => (s.cw 2 d 13).fld 4 2)
  let subs := (List.range 8).filter (fun x => followed.contains x || a.dsub.testBit x)
  subs ++ (List.range a.axCount).map (fun k => 0x1000 + a.axFirst + k)

/-- The ACK frames of this module as a station of the upstream pair, with SLOT 0 and the adopted epoch (R143, R166, R168). -/
def State.ackFrame (s : State) (n : Nat) : State :=
  let up := s.upAddr n
  let a := (s.port n).asStn
  if up = 0 then s
  else
    let entry (x : Nat) : AckStream :=
      let seq := match (s.follows n up).find? (fun d => (s.cw 2 d 13).fld 4 2 = x) with
        | some d => (s.dat d).seq
        | none => ((sget none a.held x : Option Nat).getD 0)
      { stream := x, truncSeen := a.truncs.contains x, heldSeq := seq }
    (chunk (fun c => decide (8 * c.length ≤ 1472)) [] ((s.ownStreams n).map entry)).foldl (fun s es =>
      let b : Payload := .ack (s.upStn n) a.state es []
      let h := { s.ownHdr n up false b with slot := 0, epoch := (sget ({} : UpEpoch) (s.port n).upEpochs up).epoch }
      s.queueTo n (s.gmac n) h b) s

/-! ### The cycle (R152, R160, R162) -/

/-- What the last cycle left unsent: DATUM and IMAGE frames are discarded and counted; SEGMENT, EVENT and ACK frames are
built anew from what is still due. -/
def State.clearStale (s : State) (n : Nat) : State :=
  let rebuilt (w : WireFrame) : Bool := staleClass w || (match w.body with
    | .trv f => (match f.body with | .segment .. => true | .event _ => true | .ack .. => true | _ => false)
    | .ptp _ => false)
  let p := s.port n
  let stale := ((p.txq.flatMap (·.2)).filter staleClass).length
  let q := (p.txq.map (fun q => (q.1, q.2.filter (fun w => !rebuilt w)))).filter (fun q => q.2 ≠ [])
  (s.modPort n (fun p => { p with txq := q })).countF (Reg.TRV_TX_STALE n) 31 0 stale

/-- The state of this module as a station of the upstream pair when a cycle starts (Table 7.7): HOLD_CYC cycles without a valid
frame lead to HOLDING, and the end of the last stop ramp to STOPPED. -/
def State.ownStation (s : State) (n : Nat) : State :=
  let a := (s.port n).asStn
  let silent := a.silent + 1
  let rest := (s.follows n (s.upAddr n)).all (fun d => (s.dat d).st = .stopped || (s.dat d).st = .undefined)
  let st := if a.state = 3 && a.holdCyc < silent then 4 else if a.state = 4 && rest then 5 else a.state
  s.modPort n (fun p => { p with asStn := { a with silent := silent, state := st } })

/-- A cycle has ended: stations not heard in it count a miss (R152), and a segment whose repeats are used up is overdue. A frame of
this very clock belongs to the new cycle (Table 7.10). -/
def State.closeCycle (s : State) (n : Nat) : State :=
  let s := (s.stations n).foldl (fun s k =>
    let now := decide ((s.stn n k).heardAt = some s.sclk)
    let s := if (s.stn n k).heard || now then s else s.countF (Reg.STN_STS n k) 15 8 1
    s.modStn n k (fun x => { x with heard := now })) s
  let lim := s.segRepeat n + 1
  let s := s.modPort n (fun p => { p with
    dueSegs := p.dueSegs.map (fun g => if g.sent = lim then { g with sent := lim + 1 } else g)
    truncs := (p.truncs.map (fun t => if t.said then { t with told := t.told + 1, said := false } else t)).filter
      (fun t => t.told < lim) })
  let s := s.ownStation n
  (s.upDatums n).foldl (fun s d => s.modDat d (fun x => { x with upAge := x.upAge + 1 })) s

/-- The schedule that a port's new cycle runs under: what a swap before this clock has brought (R163, Table 7.10). A port that
becomes the station of another pair begins in LISTEN. -/
def State.takeSchedule (s : State) (n : Nat) : State :=
  match (s.port n).oldItem with
  | some (c, ws) =>
    if c = s.sclk then s
    else s.modPort n (fun p => { p with
      oldItem := none, asStn := if sget 0 ws (cfgKey 3 n 7) = s.cw 3 n 7 then p.asStn else {} })
  | none => s

/-- A cycle of port `n` starts at `t0` ns (R162). -/
def State.cycleStart (s : State) (n t0 : Nat) : State :=
  let s := if (s.port n).cycT0.isSome then s.closeCycle n else s
  let s := (s.clearStale n).takeSchedule n
  let s := s.modPort n (fun p => { p with cycT0 := some t0 })
  let s := s.setReg (Reg.TRV_CYC_CNT n) (w32 (t0 / (s.portW n 0).toNat))
  let s := if 1 ≤ s.role && s.role ≤ 5 && s.regB (Reg.TRV_CTL n) 1 then s.queueFrame n false (.heartbeat s.role s.now) else s
  if !(s.runs || s.role = 5) then s
  else
    let ds := (List.range 8).filter (fun d => s.datPub d / 2 ^ n % 2 = 1)
    let s := if ds.isEmpty then s else s.queueFrame n false (.datum (ds.map (s.datumEntry n t0)))
    let s := (s.port n).streams.foldl (fun s x => s.segmentFrames n x) s
    let s := (s.takeEvents n).eventFrames n
    (s.imageFrames n t0).ackFrame n

/-- A swap covers the schedule: each port keeps the old contents until its next cycle start (R163). -/
def State.keepItems (s : State) (old : Sparse Word) : State :=
  let ws := old.filter (fun e => decide (e.1 / (8192 * 1024) = 3))
  [0, 1, 2, 3].foldl (fun s n => s.modPort n (fun p => { p with
    oldItem := match p.oldItem with
      | some (c, o) => if c = s.sclk then some (c, o) else some (s.sclk, o)
      | none => some (s.sclk, ws) })) s

/-! ### Gates and transmission (R161) -/

/-- The gate entries of the item in force: GATES and DURATION. -/
def State.gcl (s : State) (n : Nat) : List (Word × Nat) :=
  (List.range ((s.portW n 1).fld 24 16)).map (fun g => (s.portW n (8 + 2 * g), (s.portW n (9 + 2 * g)).toNat))

/-- How long from `ofs` ns into the cycle the gate of queue `q` stays open, walking the list: none where it is closed at
`ofs`; the bound is the end of the cycle, up to which the last entry holds. -/
def gateOpen (q cycle : Nat) : List (Word × Nat) → Nat → Nat → Option Nat
  | [], _, _ => none
  | (g, d) :: rest, start, ofs =>
    let till := if rest.isEmpty then cycle else min cycle (start + d)
    if till ≤ ofs then gateOpen q cycle rest till ofs
    else if !g.bit q then none
    else match (if till = cycle then none else gateOpen q cycle rest till till) with
      | some more => some (till - ofs + more)
      | none => some (till - ofs)

/-- Nanoseconds for which the gate of queue `q` of port `n` stays open from now on: none where it is closed. A gate that is open at
the cycle's end goes on as the list of the next cycle begins. Without a list, or with no cycle running, no gate closes (log 61). -/
def State.openFor (s : State) (n q : Nat) : Option Nat :=
  match (s.port n).cycT0, s.gcl n with
  | some t0, e :: es =>
    let cyc := (s.portW n 0).toNat
    match gateOpen q cyc (e :: es) 0 (s.now - t0) with
    | some left =>
      if left = cyc - (s.now - t0) then some (left + (gateOpen q cyc (e :: es) 0 0).getD 0) else some left
    | none => none
  | _, _ => some 4000000

/-- Bytes after the EtherType of a PTP message (IEEE 1588). -/
def ptpLen (kind : Nat) : Nat := if kind = 2 || kind = 3 || kind = 9 || kind = 10 then 54 else if kind = 11 then 64 else 44

/-- Bytes of a frame with its Ethernet header and FCS, the tag, and padding to 64. -/
def etherBytes (tagged : Bool) (len : Nat) : Nat := max 64 (14 + (if tagged then 4 else 0) + len + 4)

/-- Bytes a frame takes on the wire, with preamble and gap of 20. -/
def wireBytes (w : WireFrame) : Nat :=
  20 + etherBytes w.tag.isSome (match w.body with | .trv f => 20 + paylen f.body | .ptp m => ptpLen m.kind)

/-- Queue `q` of port `n` is preemptable, and preemption is active (R140). -/
def State.preempts (s : State) (n q : Nat) : Bool := s.regB (Reg.TRV_STS n) 1 && (s.portW n 3).bit q

/-- The smallest first fragment: preamble, gap and 64 bytes for each step of addFragSize. -/
def State.fragMin (s : State) (n : Nat) : Nat := 20 + 64 * ((s.portW n 3).fld 9 8 + 1)

/-- How a piece of `left` bytes may go out of queue `q` now (R161): not at all, whole before the gate closes, or, of a preemptable
frame, up to a fragment boundary before that, of which the rest is 64 bytes or more. -/
def State.piece (s : State) (n q left : Nat) : Option (Option Nat) :=
  match s.openFor n q with
  | none => none
  | some t =>
    let b := min (t * 5 / 4) (left - 64)
    if wireNs left ≤ t then some none
    else if s.preempts n q && s.fragMin n ≤ b then some (some b) else none

/-- A port that runs no cycle sends no Traverse frame but REGACC responses (R160). -/
def State.mayLeave (s : State) (n : Nat) (w : WireFrame) : Bool :=
  match w.body with
  | .ptp _ => true
  | .trv f => (match f.body with | .regacc .. => true | _ => s.cycles n)

/-- The frame of the highest queue that may begin now; only of an express queue where `express` asks so. -/
def State.nextFrame (s : State) (n : Nat) (express : Bool) : Option (Nat × WireFrame × Option Nat) :=
  [7, 6, 5, 4, 3, 2, 1, 0].findSome? (fun q =>
    if express && s.preempts n q then none
    else match (sget [] (s.port n).txq q : List WireFrame).find? (s.mayLeave n) with
      | some w => (s.piece n q (wireBytes w)).map (fun stop => (q, w, stop))
      | none => none)

/-- What a sent frame marks: segments and truncations count the cycle, events are sent and enter the log (R135, R147,
R148, R153). A segment of a stream without subscribers counts as acknowledged. -/
def State.markSent (s : State) (n : Nat) (f : Frame) : State :=
  match f.body with
  | .segment x trunc gs =>
    let alone := (s.subscribers n x).isEmpty
    let hit (g : DueSeg) : Bool := g.stream = x && gs.any (fun h => h.seq = g.seg.seq)
    s.modPort n (fun p => { p with
      dueSegs := (p.dueSegs.map (fun g => if hit g then { g with sent := g.sent + 1 } else g)).filter (fun g => !(alone && hit g))
      truncs := (p.truncs.map (fun t => if t.stream = x && trunc = some t.seq then { t with said := true } else t)).filter
        (fun t => !(alone && t.stream = x && t.said)) })
  | .event es =>
    let new : List EvtEntry := es.filter (fun e => (s.port n).dueEvts.any (fun d => d.evt = e && !d.sent))
    let s := s.modPort n (fun p => { p with
      dueEvts := (p.dueEvts.map (fun d => if es.contains d.evt then { d with sent := true } else d)).filter
        (fun d => !(d.sent && d.nak)) })
    let s := { s with stk := { s.stk with sentLog := s.stk.sentLog ++ new.map (fun (e : EvtEntry) => (⟨n, e.stn, e.code, e.act⟩ : StnEvent)) } }
    s.record 0 (new.map (fun (e : EvtEntry) => DeltaRec.sent n e.stn e.code e.evtId e.act))
  | _ => s

/-- A transmit timestamp enters the queue of its port (R85, R86): 16 entries, the newest dropped where it is full. -/
def State.pushTs (s : State) (n tag ts : Nat) : State :=
  let s := s.note [⟨.txqPush, n, 0⟩]
  let q : List TsEntry := sget [] s.tsq n
  if 16 ≤ q.length then (s.count (Reg.TIM_PORTn_TXQ_OVF n)).raiseBit 18 18
  else
    let s' : State := { s with tsq := sput [] s.tsq n (q ++ [⟨tag, ts⟩]) }
    if q.isEmpty then s'.raiseBit 18 17 else s'

/-- The profile of a port: 1 default, 2 gPTP (Table 4.5). -/
def State.ptpMode (s : State) (n : Nat) : Nat := s.regF (Reg.TIM_PORTn_CFG n) 1 0
def State.ptpPort (s : State) (n : Nat) : PtpPort := sget {} s.ptpPorts n
def State.modPtp (s : State) (n : Nat) (f : PtpPort → PtpPort) : State := { s with ptpPorts := smod {} s.ptpPorts n f }

/-- Messages a port sends and receives: the messageType of IEEE 1588. -/
def msgSync : Nat := 0x0
def msgDelayReq : Nat := 0x1
def msgPdelayReq : Nat := 0x2
def msgPdelayResp : Nat := 0x3
def msgFollowUp : Nat := 0x8
def msgDelayResp : Nat := 0x9
def msgPdelayFollow : Nat := 0xA
def msgAnnounce : Nat := 0xB

/-- A PTP message enters its queue (R81, R140). A module in NONE or OUT_OF_SERVICE sends only REGACC responses (Table 12.1). -/
def State.queuePtp (s : State) (n : Nat) (m : PtpMsg) : State :=
  if 1 ≤ s.role && s.role ≤ 5 then
    s.enqueueWire n (s.queueOf n 8) (if s.ptpMode n = 2 then 0x0180C200000E else 0x011B19000000) 0x88F7 (.ptp m)
  else s

/-- A timestamp of this clock (R84): raw, and off by at most 2 ns. -/
def State.stamp (s : State) (ns : Nat) : Nat × State :=
  let (i, s) := s.fresh
  (((ns : Int) + clampInt (-2) 2 (Config.stampError i)).toNat, s)

/-- A PTP message leaves at the raw time `ts` (R83, R84): the egress time on the line goes into the one-step Sync, or into the
message that follows, or is kept for the answer. -/
def State.ptpLeft (s : State) (n : Nat) (m : PtpMsg) (ts : Nat) : State :=
  let at_ := ts + s.regF (Reg.TIM_PORTn_LAT n) 15 0
  if m.kind = msgSync && m.twoStep then s.queuePtp n { m with kind := msgFollowUp, twoStep := false, t := at_ }
  else if m.kind = msgDelayReq || m.kind = msgPdelayReq then
    s.modPtp n (fun p => { p with reqSent := some (m.seq, at_) })
  else if m.kind = msgPdelayResp then s.queuePtp n { m with kind := msgPdelayFollow, twoStep := false, t := at_ }
  else s

/-- A frame as it leaves: TAG where a timestamp is requested (R143), FORCED as it stands now (R209), and the egress time of a
one-step Sync: the raw time in originTimestamp, and what is missing to the line in correctionField (R83, log 21). -/
def State.leaving (s : State) (n tag ts : Nat) (w : WireFrame) : WireFrame :=
  match w.body with
  | .trv f => { w with body := .trv { f with hdr := { f.hdr with
      forced := decide (s.plm.forces ≠ []), tag := if f.hdr.tsReq then tag else 0 } } }
  | .ptp m =>
    if m.kind = msgSync && !m.twoStep then
      { w with body := .ptp { m with t := ts, corr := m.corr + s.regF (Reg.TIM_PORTn_LAT n) 15 0 } }
    else w

/-- Frame `w` of queue `q` begins, to be held after `stop` bytes where its gate closes before its end (R161). -/
def State.begin_ (s : State) (n q : Nat) (w : WireFrame) (stop : Option Nat) : State :=
  let tag := ((s.port n).tagCount + 1) % 2 ^ 16
  let (ts, s) := s.stamp s.now
  let v := s.leaving n tag ts w
  let s := s.modPort n (fun p => { p with
    txq := smod [] p.txq q (fun l => l.erase w), tagCount := tag,
    tx := some { q := q, w := v, left := wireBytes v, at_ := s.now, stop := stop } })
  let s := s.emit (.frame n v)
  match v.body with
  | .trv f => (if f.hdr.tsReq then s.pushTs n tag ts else s).markSent n f
  | .ptp m => s.ptpLeft n m ts

/-- An express frame preempts the preemptable one on the wire at a fragment boundary (R140). -/
def State.preemptWire (s : State) (n : Nat) (x : Sending) : State :=
  let b := (s.now - x.at_) * 5 / 4
  match s.nextFrame n true with
  | some (q, w, stop) =>
    if s.preempts n x.q && s.fragMin n ≤ b && b + 64 ≤ x.left then
      let s := s.modPort n (fun p => { p with held := some { x with left := x.left - b + 24, stop := none } })
      ((s.emit (.frameHeld n)).count (Reg.TRV_TX_FRAG n)).begin_ n q w stop
    else s
  | none => s

/-- A queued frame goes out (R161). A held frame goes on when no express frame begins, and no other preemptable frame begins before
its end. -/
def State.transmit (s : State) (n : Nat) : State :=
  if !s.hasPort n || !s.regB (Reg.TRV_STS n) 0 then s
  else
    let s := s.wire n
    match (s.port n).tx, (s.port n).held with
    | some x, _ => s.preemptWire n x
    | none, none => (match s.nextFrame n false with | some (q, w, stop) => s.begin_ n q w stop | none => s)
    | none, some x =>
      match s.nextFrame n true, s.piece n x.q x.left with
      | some (q, w, stop), _ => s.begin_ n q w stop
      | none, some stop =>
        (s.modPort n (fun p => { p with held := none, tx := some { x with at_ := s.now, stop := stop } })).emit (.frameOn n)
      | none, none => s

/-! ### Reception (R139, R142, R144, R166, R167) -/

/-- The epoch check of R167 on a frame of this pair, or of a station to it: a higher epoch is signalled to the pair unit. -/
def State.checkEpoch (s : State) (n : Nat) (h : Hdr) (station : Bool) : State :=
  if (h.src = s.ownAddr || (station && h.dst = s.ownAddr)) && s.epoch < h.epoch then
    let s := (s.setRegB Reg.TRV_SW_STS 3 true).trvIrq n 7
    let s := if (s.reg Reg.TRV_SW_EPOCH_MAX).toNat < h.epoch then s.setReg Reg.TRV_SW_EPOCH_MAX (w32 h.epoch) else s
    s.higherEpoch
  else s

/-- A port accepts a frame's tag (R140). -/
def State.tagOk (s : State) (n : Nat) (h : Hdr) : Bool :=
  match h.vid with
  | none => true
  | some v => (s.portW n 4).bit 12 && decide (v = (s.portW n 4).fld 11 0)

/-- Any frame that reaches an enabled port is a frame heard (R268). -/
def State.hearPort (s : State) (n : Nat) : State :=
  if s.regB (Reg.TRV_CTL n) 0 then { s with pair := { s.pair with lastAny := some s.sclk } } else s

/-- A frame has been received whole in this clock, with `len` bytes after its EtherType: its receive descriptor takes its
timestamp, of the octet after the start frame delimiter (R84, R144). -/
def State.received (s : State) (n : Nat) (tagged : Bool) (len : Nat) : State :=
  let (ts, s) := s.stamp (s.now - wireNs (etherBytes tagged len))
  (s.hearPort n).modPort n (fun p => { p with rxTs := some ts })

/-- The front of every Traverse frame: EtherType, tag, VER, the length rule of its class (`good`), the epoch check of R167, and DST
(R142). The rest sees the frame if it is for this module. -/
def State.rxFrame (s : State) (n : Nat) (h : Hdr) (b : Payload) (station good : Bool) (f : State → State) : State :=
  if !s.hasPort n || !s.regB (Reg.TRV_STS n) 0 then s
  else
    let s := s.received n h.vid.isSome (20 + paylen b)
    if h.etype ≠ s.regF Reg.TRV_SW_ETYPE 15 0 then s.count Reg.TRV_SW_DROP
    else if !s.tagOk n h then s
    else if h.ver ≠ 1 || !good || 1480 < paylen b then s.count (Reg.TRV_RX_BAD n)
    else
      let s := s.checkEpoch n h station
      if h.dst = 0xFFFF || h.dst = s.ownAddr then f s else s

/-! ### Station frames (R150-R156, R164) -/

/-- The station of a port that a frame comes from: its number names an item with the frame's source address. -/
def State.isStation (s : State) (n k : Nat) (h : Hdr) : Bool :=
  1 ≤ k && k ≤ 255 && s.stnW n k 0 ≠ 0 && (s.stnW n k 0).fld 31 16 = h.src && h.dst = s.ownAddr

/-- The MP answers a new state of a station with CONFIG or STATE_CMD, or not (R158, log 64): only an ALONE or ACTIVE module does. -/
def State.commandStn (s : State) (n k st : Nat) : State :=
  if !s.runs then s
  else
    let (i, s) := s.fresh
    match Config.stationCommand st i with
    | 1 => s.queueStn n k (.config ((List.range 11).map (s.stnW n k)))
    | 2 => s.queueStn n k (.stateCmd k 2)
    | 3 => s.queueStn n k (.stateCmd k 3)
    | _ => s

/-- A frame of station `k` has arrived (R152, R164, R167). -/
def State.heardStn (s : State) (n k st epoch : Nat) : State :=
  let a := Reg.STN_STS n k
  let s := s.modStn n k (fun x => { x with heard := true, heardAt := some s.sclk })
  let behind := decide (epoch < s.epoch)
  let s := if behind then s.count (Reg.TRV_RX_OLD n) else s
  let s := (s.setRegF a 15 8 0).setRegB a 5 behind
  let s := if s.regB a 4 then (s.setRegB a 4 false).trvIrq n 2 else s
  if s.regF a 2 0 = st % 8 then s else ((s.setRegF a 2 0 st).trvIrq n 3).commandStn n k (st % 8)

/-- The station's inputs are written into the input image in one clock (R151); a module that does not run the line writes
no image (R170). -/
def State.writeInputs (s : State) (n : Nat) (b : InBlock) : State :=
  if !(s.runs || s.role = 5) then s
  else
    let i := s.stnW n b.stn 5
    let w := s.stnW n b.stn 6
    let s := s.setImgBytes 1 (i.fld 15 0) b.bytes
    let s := s.setImgWords 8 0 (w.fld 15 0) b.words
    let iw := (List.range b.bytes.length).map (fun k => (i.fld 15 0 + k) / 4)
    let s := iw.eraseDups.foldl (fun s x => s.touchInput 1 x) s
    (List.range b.words.length).foldl (fun s k => s.touchInput 8 (w.fld 15 0 + k)) s

/-- An IMAGE frame of a station (R150). The lengths of its block must be those of the station item. -/
def State.stnImageRx (s : State) (n : Nat) (h : Hdr) (b : InBlock) : State :=
  s.rxFrame n h (.input b) true (decide (b.bytes.length + 4 * b.words.length ≤ 1024)) (fun s =>
    if !s.isStation n b.stn h then s
    else if b.bytes.length ≠ (s.stnW n b.stn 5).fld 31 16 || b.words.length ≠ (s.stnW n b.stn 6).fld 31 16 then
      s.count (Reg.TRV_RX_BAD n)
    else (s.heardStn n b.stn b.state h.epoch).writeInputs n b)

/-- SEQ `held` is at or past `seq` (they count modulo 2^32). -/
def seqPast (held seq : Nat) : Bool := decide (0 ≤ signed 32 (held + 2 ^ 32 - seq % 2 ^ 32))

/-- The station has acknowledged a segment. -/
def State.acked (s : State) (n k x seq : Nat) : Bool :=
  match (sget none (s.stn n k).held x : Option Nat) with | some h => seqPast h seq | none => false

/-- What every subscribed station has acknowledged is due no more (R147, R148). -/
def State.settleAcks (s : State) (n : Nat) : State :=
  let p := s.port n
  let segs := p.dueSegs.filter (fun g => !(g.sent ≠ 0 && (s.subscribers n g.stream).all (fun k => s.acked n k g.stream g.seg.seq)))
  let seen (t : DueTrunc) : Bool := (t.said || t.told ≠ 0) && (s.subscribers n t.stream).all (fun k => (s.stn n k).truncSeen.contains t.stream)
  let gone := (p.truncs.filter seen).map (·.stream)
  s.modPort n (fun p => { p with
    dueSegs := segs, truncs := p.truncs.filter (fun t => !seen t)
    stns := p.stns.map (fun e => (e.1, { e.2 with truncSeen := e.2.truncSeen.filter (fun x => !gone.contains x) })) })

/-- The station has acknowledged everything its port has handed over to it: SEG_NAK clears (STN_STS [6]). -/
def State.fullAck (s : State) (n k : Nat) : State :=
  let all := (s.port n).lastSeq.all (fun e => !subscribes (s.stnW n k 9) (s.stnW n k 10) e.1 || s.acked n k e.1 e.2)
  if all then s.setRegB (Reg.STN_STS n k) 6 false else s

/-- An ACK frame of a station (R156). -/
def State.ackRx (s : State) (n : Nat) (h : Hdr) (k st : Nat) (ss : List AckStream) (es : List AckEvent) : State :=
  s.rxFrame n h (.ack k st ss es) true (decide (8 * ss.length + 16 * es.length ≤ 1472)) (fun s =>
    if !s.isStation n k h then s
    else
      let s := s.heardStn n k st h.epoch
      let s := s.modStn n k (fun x => { x with
        held := ss.foldl (fun m e => sput none m e.stream (some e.heldSeq)) x.held
        truncSeen := ss.foldl (fun l e =>
          if e.truncSeen && (s.port n).truncs.any (fun t => t.stream = e.stream && (t.said || t.told ≠ 0)) && !l.contains e.stream
          then l ++ [e.stream] else l) x.truncSeen })
      let s := (s.settleAcks n).fullAck n k
      let s := s.modPort n (fun p => { p with dueEvts := p.dueEvts.filter (fun d => !es.any (fun e => e.evtId = d.evt.evtId)) })
      let late := (es.filter (fun e => e.result = 2 || e.result = 3)).length
      s.countF (Reg.STN_EVT_LATE n k) 15 0 late)

/-- A station whose MISS_RUN has reached MISS_LIMIT is LOST (R152). -/
def State.stationLost (s : State) (n k : Nat) : State :=
  let a := Reg.STN_STS n k
  if s.hasPort n && 1 ≤ k && k ≤ 255 && s.stnW n k 0 ≠ 0 && s.missLimit n ≤ s.regF a 15 8 && !s.regB a 4 then
    (s.setRegB a 4 true).trvIrq n 1
  else s

/-- Segments still unacknowledged after their repeats (R147). -/
def State.segNak (s : State) (n : Nat) : State :=
  let lim := s.segRepeat n + 1
  let spent := (s.port n).dueSegs.filter (fun g => lim < g.sent)
  let s := s.modPort n (fun p => { p with dueSegs := p.dueSegs.filter (fun g => g.sent ≤ lim) })
  spent.foldl (fun s g =>
    let s := (s.count (Reg.TRV_SEG_NAK n)).trvIrq n 4
    ((s.subscribers n g.stream).filter (fun k => !s.acked n k g.stream g.seg.seq)).foldl (fun s k =>
      (s.setRegB (Reg.STN_STS n k) 6 true).countF (Reg.STN_SEG_NAK n k) 15 0 1) s) s

/-- Events unacknowledged when their act time has passed (R154). -/
def State.evtNak (s : State) (n : Nat) : State :=
  let missed (d : DueEvt) : Bool := decide (d.evt.act ≤ (s.now : Int)) && !d.nak
  let k := ((s.port n).dueEvts.filter missed).length
  if k = 0 then s
  else
    let s := s.modPort n (fun p => { p with
      dueEvts := (p.dueEvts.map (fun d => if missed d then { d with nak := true } else d)).filter (fun d => !(d.sent && d.nak)) })
    (s.countF (Reg.TRV_EVT_NAK n) 31 0 k).trvIrq n 5

/-! ### An upstream pair's frames (R108, R166, R168) -/

/-- The frame is of an upstream pair followed on the port: as its station, or for an UPSTREAM datum. -/
def State.isUpstream (s : State) (n src : Nat) : Bool :=
  src ≠ 0 && src ≠ s.ownAddr && (s.upAddr n = src || (s.upDatums n).any (fun d => (s.cw 2 d 13).fld 23 8 = src))

/-- A valid frame of the pair that this module is a station of: the silence ends (Table 7.7). -/
def State.heardUp (s : State) (n src : Nat) : State :=
  if s.upAddr n = src then s.modPort n (fun p => { p with asStn := { p.asStn with silent := 0 } }) else s

/-- The epoch rules of Table 7.8 on a frame of an upstream pair. -/
def State.upFrame (s : State) (n : Nat) (h : Hdr) (f : State → State) : State :=
  if !s.isUpstream n h.src then s
  else
    let u : UpEpoch := sget {} (s.port n).upEpochs h.src
    let adopt (s : State) : State :=
      s.modPort n (fun p => { p with upEpochs := sput {} p.upEpochs h.src ⟨h.epoch, h.slot⟩ })
    if h.epoch < u.epoch then s.count (Reg.TRV_RX_OLD n)
    else if u.epoch < h.epoch || u.epoch = 0 then f ((adopt s).heardUp n h.src)
    else if h.slot = u.slot then f (s.heardUp n h.src)
    else (s.count (Reg.TRV_RX_CONFLICT n)).trvIrq n 6

/-- A DATUM or IMAGE frame of the pair that this module is a station of ends HOLDING (Table 7.7). -/
def State.leaveHolding (s : State) (n src : Nat) : State :=
  if s.upAddr n = src && (s.port n).asStn.state = 4 then
    s.modPort n (fun p => { p with asStn := { p.asStn with state := 3 } }) else s

/-- What the module holds, as a station, of a subscribed stream that no datum follows: the highest SEQ without a gap, cut by a
truncation (R148, R156). -/
def heldAfter (h : Option Nat) (trunc : Option Nat) (gs : List Seg) : Option Nat :=
  let h := gs.foldl (fun (h : Option Nat) g => match h with
    | none => some g.seq
    | some k => if g.seq = (k + 1) % 2 ^ 32 then some g.seq else some k) h
  match h, trunc with
  | some k, some t => if seqPast k t then some t else some k
  | h, _ => h

/-- A SEGMENT frame of an upstream pair (R108, R148): each segment enters the queue of the datums that follow the stream,
and a truncation discards what follows TRUNC_SEQ. A standby accepts none (R116). -/
def State.segmentRx (s : State) (n : Nat) (h : Hdr) (x : Nat) (trunc : Option Nat) (gs : List Seg) : State :=
  s.rxFrame n h (.segment x trunc gs) false (decide (gs.length ≤ 20)) (fun s => s.upFrame n h (fun s =>
    if !(s.runs || s.role = 5) then s
    else
      let s := if s.upAddr n ≠ h.src then s else s.modPort n (fun p => { p with asStn := { p.asStn with
        held := smod none p.asStn.held x (fun k => heldAfter k trunc gs)
        truncs := (p.asStn.truncs.filter (· ≠ x)) ++ (if trunc.isSome then [x] else []) } })
      ((s.follows n h.src).filter (fun d => (s.cw 2 d 13).fld 4 2 = x)).foldl (fun s d =>
        let s := gs.foldl (fun s g => s.upSeg d g h.epoch) s
        match trunc with
        | none => s
        | some t =>
          let q := (s.dat d).queue.filter (fun g => seqPast t g.seq)
          if q.length = (s.dat d).queue.length then s
          else (s.truncateAll 8 d q).modDat d (fun y => { y with seq := t % 2 ^ 32 })) s))

/-- A DATUM frame of an upstream pair is received under the epoch rules; nothing of it is kept (R145, R166). -/
def State.datumRx (s : State) (n : Nat) (h : Hdr) (es : List DatumEntry) : State :=
  s.rxFrame n h (.datum es) false (decide (1 ≤ es.length) && decide (es.length ≤ 8)) (fun s =>
    s.upFrame n h (fun s => s.leaveHolding n h.src))

/-- An IMAGE frame of an upstream pair is received under the epoch rules; the manual gives a module no place for the outputs it
carries (R168, log 64). -/
def State.pairImageRx (s : State) (n : Nat) (h : Hdr) (t0 : Nat) (bs : List ImgBlock) : State :=
  s.rxFrame n h (.image t0 bs) false (decide (bs.length ≤ 255) && bs.all (fun b => decide (b.bytes.length + 4 * b.words.length ≤ 1024)))
    (fun s => s.upFrame n h (fun s => s.leaveHolding n h.src))

/-- An IMAGE frame. -/
def State.imageRx (s : State) (n : Nat) (h : Hdr) : ImgBody → State
  | .station b => s.stnImageRx n h b
  | .pair t0 bs => s.pairImageRx n h t0 bs

/-- When, in PTP time, and where the partner's heartbeat was last accepted. -/
def State.noteBeat (s : State) (n : Nat) : State := ({ s with hbAt := some s.now } : State).setRegF Reg.TRV_SW_STS 2 0 n

/-- A HEARTBEAT (R159): the partner's is one with the own pair address and the other SLOT; the pair unit then does `f`. -/
def State.heartbeatRx (s : State) (n : Nat) (h : Hdr) (role t : Nat) (f : State → State) : State :=
  s.rxFrame n h (.heartbeat role t) false true (fun s =>
    if h.src = s.ownAddr && h.slot ≠ s.slotId then
      f (s.noteBeat n)
    else s.upFrame n h (fun s => s))

/-- STATE_CMD of the upstream pair for this module's station number (R168): CONFIGURED from OPERATIONAL, OPERATIONAL from CONFIGURED
or STOPPED (Table 7.7). -/
def State.stateCmdRx (s : State) (n : Nat) (h : Hdr) (k target : Nat) : State :=
  s.rxFrame n h (.stateCmd k target) false true (fun s => s.upFrame n h (fun s =>
    let st := (s.port n).asStn.state
    if s.upAddr n = h.src && h.dst = s.ownAddr && s.upStn n = k &&
        ((target = 2 && st = 3) || (target = 3 && (st = 2 || st = 5))) then
      s.modPort n (fun p => { p with asStn := { p.asStn with state := target } })
    else s))

/-- CONFIG of the upstream pair: the subscription and the offsets (R168); LISTEN becomes CONFIGURED (Table 7.7). -/
def State.configRx (s : State) (n : Nat) (h : Hdr) (ws : List Word) : State :=
  s.rxFrame n h (.config ws) false (decide (ws.length = 11)) (fun s => s.upFrame n h (fun s =>
    if s.upAddr n = h.src && h.dst = s.ownAddr && s.upStn n = (item ws 0).fld 9 2 then
      s.modPort n (fun p => { p with asStn := { p.asStn with
        dsub := (item ws 9).fld 7 0, axFirst := (item ws 10).fld 15 0, axCount := (item ws 10).fld 31 16
        outOfs := (item ws 7).toNat, inOfs := (item ws 8).toNat
        holdCyc := if (item ws 2).fld 23 16 = 0 then 2 else (item ws 2).fld 23 16
        state := if p.asStn.state = 1 then 2 else p.asStn.state } })
    else s))

/-! ### Frames of no row of their own (R139, R144) -/

/-- Bytes of the blocks of an IMAGE frame of a pair, walked from byte `pos`: none where a block breaks its length. -/
def imageEnd (p : List Byte) : Nat → Nat → Option Nat
  | 0, pos => some pos
  | k + 1, pos =>
    let len := leAt p (pos + 2) 2
    if 1024 < len then none else imageEnd p k (pos + 8 + pad4 len)

/-- The payload keeps the length rule of its class (R145-R158). -/
def lengthGood (cls dst : Nat) (p : List Byte) (len : Nat) : Bool :=
  let n := byteOf p 0
  match cls with
  | 1 => 1 ≤ n && n ≤ 8 && len = 4 + 40 * n
  | 2 => byteOf p 2 ≤ 20 && len = 8 + 72 * byteOf p 2
  | 3 => if dst = 0xFFFF then imageEnd p n 12 = some len else leAt p 2 2 ≤ 1024 && len = 16 + leAt p 2 2
  | 4 => 1 ≤ n && n ≤ 32 && len = 4 + 16 * n
  | 5 => len = 4 + 8 * byteOf p 2 + 16 * byteOf p 3 && len ≤ 1476
  | 6 => true
  | _ =>
    match n with
    | 1 => len = 16 | 2 => len = 6 | 3 => len = 4 | 4 => len = 17 | 5 => len = 48
    | _ => 4 ≤ len

/-- The header checks of R144 on the bytes after the EtherType. -/
def headerGood (bs : List Byte) : Bool :=
  let cls := byteOf bs 0 % 16
  let len := leAt bs 16 2
  20 ≤ bs.length && byteOf bs 0 / 16 = 1 && 1 ≤ cls && cls ≤ 7 && len + 20 ≤ bs.length && len ≤ 1480 &&
    lengthGood cls (leAt bs 4 2) (bs.drop 20) len

/-- A frame given by its bytes: one with a bad FCS, of another EtherType, or that fails the header checks is dropped and counted. An
EVENT or DISCOVER frame, which no other row of the table brings, meets the epoch rules (R166, R167). -/
def State.badFrame (s : State) (n etype : Nat) (vid : Option Nat) (fcs : Bool) (bs : List Byte) : State :=
  if !s.hasPort n || !s.regB (Reg.TRV_STS n) 0 then s
  else if !fcs then s.count (Reg.TRV_RX_FCS n)
  else
    let s := s.received n vid.isSome bs.length
    let cls := byteOf bs 0 % 16
    let h : Hdr := { ver := byteOf bs 0 / 16, slot := byteOf bs 1 / 2 % 2, src := leAt bs 2 2, dst := leAt bs 4 2,
                     epoch := leAt bs 8 4, etype := etype, vid := vid }
    if etype = 0x88F7 then s
    else if etype ≠ s.regF Reg.TRV_SW_ETYPE 15 0 then s.count Reg.TRV_SW_DROP
    else if !s.tagOk n h then s
    else if !headerGood bs then s.count (Reg.TRV_RX_BAD n)
    else if cls = 4 || (cls = 7 && byteOf bs 20 = 3) then
      let s := s.checkEpoch n h false
      if h.dst = 0xFFFF || h.dst = s.ownAddr then s.upFrame n h (fun s => s) else s
    else s

/-! ### Discovery and links (R158, R138, R140) -/

/-- Ten milliseconds in nanoseconds. -/
def discNs : Nat := 10000000

/-- A write of TRV_CTL of port `n` (R158, R160): DISC rising sends DISCOVER and opens the collection, and EN = 0 ends the
cycle. -/
def State.trvCtl (s : State) (n : Nat) (v : Word) : State :=
  let disc := s.regB (Reg.TRV_CTL n) 2
  let s := s.setReg (Reg.TRV_CTL n) (if disc then v.setBit 2 true else v)
  let s := if v.bit 0 then s else s.modPort n (fun p => { p with cycT0 := none })
  if v.bit 2 && !disc then
    let s := s.modPort n (fun p => { p with discEnd := some (s.now + discNs), answers := [] })
    if s.cycles n && (s.runs || s.role = 5) then s.queueFrame n false .discover else s
  else s

/-- The station of a port with an address. -/
def State.stnAt (s : State) (n addr : Nat) : Option Nat := (s.stations n).find? (fun k => (s.stnW n k 0).fld 31 16 = addr)

/-- A DISCOVER_RESP is a frame of its station (R152, R164), and is collected with its receive timestamp while the discovery runs
(R144, R158). -/
def State.discoverRx (s : State) (n : Nat) (h : Hdr) (addr mac product st : Nat) : State :=
  s.rxFrame n h (.discoverResp addr mac product st) true true (fun s =>
    let s := match s.stnAt n h.src with
      | some k => if h.dst = s.ownAddr then s.heardStn n k st h.epoch else s
      | none => s
    match (s.port n).discEnd with
    | some t =>
      if s.now < t then
        s.modPort n (fun p => { p with answers := p.answers ++ [(addr, mac, product, st, p.rxTs.getD 0)] }) else s
    | none => s)

/-- The collection ends (R158); the answers stay with the MP. -/
def State.discDone (s : State) (n : Nat) : State :=
  match (s.port n).discEnd with
  | some t =>
    if t ≤ s.now then
      ((s.modPort n (fun p => { p with discEnd := none })).setRegB (Reg.TRV_CTL n) 2 false).trvIrq n 8
    else s
  | none => s

/-- A line port's link changes (R138): the frame on the wire is lost, and preemption is verified anew on a new link. -/
def State.lineLink (s : State) (n : Nat) (up : Bool) : State :=
  if !s.hasPort n || s.regB (Reg.TRV_STS n) 0 = up then s
  else
    let s := s.wire n
    let s := s.modPort n (fun p => { p with tx := none, held := none })
    ((s.setRegB (Reg.TRV_STS n) 0 up).setRegB (Reg.TRV_STS n) 1 false).trvIrq n 0

/-- The 802.3br verification succeeds or is lost (R140). -/
def State.preempt (s : State) (n : Nat) (ok : Bool) : State :=
  if s.hasPort n then s.setRegB (Reg.TRV_STS n) 1 (ok && s.regB (Reg.TRV_STS n) 0) else s

/-! ### Views (Table 7.14) -/

/-- TRV_SW_HB_AGE: ns of PTP time since the last partner heartbeat, saturating (R74, R159). -/
def State.hbAge (s : State) : Word :=
  match s.hbAt with
  | some t => w32 (min 0xFFFFFFFF (s.now - t))
  | none => 0xFFFFFFFF

/-- STN_STS with PRESENT. -/
def State.stnSts (s : State) (n k : Nat) : Word :=
  (s.reg (Reg.STN_STS n k)).setBit 3 (decide (1 ≤ k) && decide (s.stnW n k 0 ≠ 0))

/-! ### The commands -/

/-- The events of a frame received on port `n` (Table 7.10). -/
def rxEvs (n : Nat) : List Ev := [⟨.frameIn, n, 0⟩]
/-- The events of an IMAGE frame: one of a station counts as a frame of it (R152). -/
def imageEvs (n : Nat) : ImgBody → List Ev
  | .station b => rxEvs n ++ [⟨.stnFrame, n, b.stn⟩]
  | .pair .. => rxEvs n

/-- FRAME_TRANSMIT. -/
def execFrameTransmit (dt port : Nat) (s : State) : Answer := after dt s (fun s => s.transmit port)
/-- BAD_FRAME_RX. -/
def execBadFrameRx (dt port : Nat) (frame : RawFrame) (s : State) : Answer :=
  afterEv dt (rxEvs port) s (fun s => s.badFrame port frame.etype frame.vid frame.fcs frame.bytes)
/-- DATUM. -/
def execDatumFrame (dt port : Nat) (hdr : Hdr) (entries : List DatumEntry) (s : State) : Answer :=
  afterEv dt (rxEvs port) s (fun s => s.datumRx port hdr entries)
/-- SEGMENT. Its segments are queued on the datums that follow the stream, and on those geared from them. -/
def execSegmentFrame (dt port : Nat) (hdr : Hdr) (stream : Nat) (trunc : Option Nat) (segs : List Seg) (s : State) : Answer :=
  let ds := (s.follows port hdr.src).filter (fun d => (s.cw 2 d 13).fld 4 2 = stream)
  afterEv dt (rxEvs port ++ ds.flatMap s.pushEvs ++ ds.map (fun d => ⟨.upSeg, d, 0⟩)) s (fun s => s.segmentRx port hdr stream trunc segs)
/-- IMAGE. -/
def execImageFrame (dt port : Nat) (hdr : Hdr) (body : ImgBody) (s : State) : Answer :=
  afterEv dt (imageEvs port body) s (fun s => s.imageRx port hdr body)
/-- TRAVERSE_ACK. -/
def execTraverseAck (dt port : Nat) (hdr : Hdr) (stn state : Nat) (streams : List AckStream) (events : List AckEvent)
    (s : State) : Answer :=
  afterEv dt (rxEvs port ++ [⟨.stnFrame, port, stn⟩, ⟨.ackFrame, port, 0⟩]) s (fun s => s.ackRx port hdr stn state streams events)
/-- STATE_CMD. -/
def execStateCmd (dt port : Nat) (hdr : Hdr) (stn target : Nat) (s : State) : Answer :=
  afterEv dt (rxEvs port) s (fun s => s.stateCmdRx port hdr stn target)
/-- CONFIG. -/
def execConfig (dt port : Nat) (hdr : Hdr) (words : List Word) (s : State) : Answer :=
  afterEv dt (rxEvs port) s (fun s => s.configRx port hdr words)
/-- DISCOVER_RESP. -/
def execDiscoverResp (dt port : Nat) (hdr : Hdr) (addr mac product state : Nat) (s : State) : Answer :=
  let stn := (s.stnAt port hdr.src).getD 0
  afterEv dt (rxEvs port ++ [⟨.stnFrame, port, stn⟩]) s (fun s => s.discoverRx port hdr addr mac product state)
/-- DISC_DONE. -/
def execDiscDone (dt port : Nat) (s : State) : Answer := after dt s (fun s => s.discDone port)
/-- STATION_LOST. -/
def execStationLost (dt port stn : Nat) (s : State) : Answer := afterEv dt [⟨.stnLost, port, stn⟩] s (fun s => s.stationLost port stn)
/-- SEG_NAK. -/
def execSegNak (dt port : Nat) (s : State) : Answer := after dt s (fun s => s.segNak port)
/-- EVT_NAK. -/
def execEvtNak (dt port : Nat) (s : State) : Answer := after dt s (fun s => s.evtNak port)
/-- PREEMPTION_VERIFIED. -/
def execPreemptionVerified (dt port : Nat) (up : Bool) (s : State) : Answer := after dt s (fun s => s.preempt port up)

end Sys2Proof.Machine
end

