-- ==== Sys2Proof/Machine/Time.lean ====
section
/-!
DEFINITION. Network time (04 R73-R92): the rate, the step and the servo, PTP messages and best master selection, the
transmit timestamp queues, and the sixteen comparators with the loading of set-owned ones. The MP adds TIM_PORTn_LAT to the raw
timestamps of reception and egress (R84, log 21).
-/
namespace Sys2Proof.Machine

/-! ### Rate and step (R77-R79) -/

/-- The limits of the increment and its nominal value, in 2^-32 ns (R77). -/
def incrMin : Nat := 0x13FD70A3E
def incrMax : Nat := 0x14028F5C2
def incrNom : Nat := 0x140000000

/-- TIM_INCR stored, clamped to its limits. -/
def State.storeIncr (s : State) (v : Nat) : State :=
  let c := max incrMin (min incrMax v)
  let s := (s.setReg Reg.TIM_INCR_LO (w32 c)).setReg Reg.TIM_INCR_HI (w32 (c / 2 ^ 32))
  let s := s.setRegB Reg.TIM_STS 5 (decide (c ≠ v))
  if c ≠ v then s.raiseBit 18 21 else s

/-- The step is armed (R78). -/
def State.armStep (s : State) (ofs : Int) : State :=
  let s := s.setReg64 Reg.TIM_STEP_LO Reg.TIM_STEP_HI (pattern 64 ofs)
  (s.setRegB Reg.TIM_STS 0 true).setRegB Reg.TIM_STS 1 true

/-- A set-owned comparator is enabled. -/
def State.ownedCmp (s : State) : Bool :=
  (List.range 16).any (fun k => s.regB (Reg.TIM_CMPk_CFG k) 0 && s.regB (Reg.TIM_CMPk_CFG k) 1)

/-- A write of TIM_INCR_HI by master `m`, with the low half its latch holds (R77). While a step is pending, or while the MP
servo owns the increment, the result is unpredictable. -/
def State.writeIncr (s : State) (m lo : Nat) (hi : Word) : State :=
  if m ≠ 1 && s.regB Reg.TIM_STS 0 then s.misused 77 0x30000
  else if m ≠ 1 && !s.regB Reg.TIM_CTL 2 then s.misused 80 0x30000
  else s.storeIncr (hi.fld 3 0 * 2 ^ 32 + lo)

/-- A write of TIM_STEP_HI by master `m` while STEP_USED is 0 (R78): unpredictable while the MP servo owns the step, while a datum
runs, or while a set-owned comparator is enabled. -/
def State.writeStep (s : State) (m lo : Nat) (hi : Word) : State :=
  if m ≠ 1 && !s.regB Reg.TIM_CTL 2 then s.misused 80 0x30000
  else if (List.range 8).any (fun d => (s.dat d).st = .running || (s.dat d).st = .stopping) || s.ownedCmp then s.misused 78 0x30000
  else s.armStep (signed 64 (hi.toNat * 2 ^ 32 + lo))

/-! ### Ports and messages (R81-R84) -/

def State.ptpRole (s : State) : Nat := s.regF Reg.TIM_CTL 1 0
def State.ptpState (s : State) (n : Nat) : Nat := s.regF (Reg.TIM_PORTn_STS n) 2 0
/-- The time at which the frame received now passed the line: the timestamp of its receive descriptor with LAT.RX added (R84). -/
def State.ingress (s : State) (n : Nat) : Int := ((s.port n).rxTs.getD s.now : Int) + s.regF (Reg.TIM_PORTn_LAT n) 31 16

/-- PTP runs on the port: it has a profile, and TIM_CTL.ROLE is not OFF (R82). MODE 0x3 has no meaning in Table 4.5: the port then
has no PTP (log 22). -/
def State.ptpOn (s : State) (n : Nat) : Bool :=
  s.hasPort n && (s.ptpMode n = 1 || s.ptpMode n = 2) && s.ptpRole ≠ 0

/-- A message interval in nanoseconds: 2^log seconds. -/
def logNs (l : Int) : Nat := if l < 0 then 1000000000 / 2 ^ l.natAbs else 1000000000 * 2 ^ l.natAbs

/-- The intervals in force: what a Signaling message has set, else TIM_PORTn_CFG. -/
def State.syncNs (s : State) (n : Nat) : Nat := logNs ((s.ptpPort n).logSync.getD (signed 4 (s.regF (Reg.TIM_PORTn_CFG n) 7 4)))
def State.annNs (s : State) (n : Nat) : Nat := logNs ((s.ptpPort n).logAnn.getD (s.regF (Reg.TIM_PORTn_CFG n) 11 8 : Int))

/-- The first of two lists of numbers is smaller at the first place where they differ. -/
def lexLt : List Nat → List Nat → Bool
  | x :: xs, y :: ys => decide (x < y) || (decide (x = y) && lexLt xs ys)
  | _, _ => false

/-- What an announcement says of its grandmaster's clock, and how far and through whom it came. -/
def Announced.clock (a : Announced) : List Nat := [a.prio1, a.cls, a.accuracy, a.variance, a.prio2, a.ident]
def Announced.way (a : Announced) : List Nat := [a.steps, a.sender]

/-- The announcement is the better one: the data set comparison of IEEE 1588-2019, where two of one grandmaster differ only by their
way, or on gPTP ports the priority vectors of IEEE 802.1AS-2020 (R81, log 22). -/
def Announced.better (gptp : Bool) (a b : Announced) : Bool :=
  if gptp then lexLt (a.clock ++ a.way) (b.clock ++ b.way)
  else if a.ident = b.ident then lexLt a.way b.way else lexLt a.clock b.clock

/-- What the module announces of itself as grandmaster (TIM_PTP_CFG); its identity is the serial number (log 22). -/
def State.ownAnnounce (s : State) : Announced :=
  { sender := s.reg64 Reg.SYS_SERIAL_LO Reg.SYS_SERIAL_HI * 2 ^ 16, prio1 := s.regF Reg.TIM_PTP_CFG 15 8, cls := if s.ptpRole = 2 then 255 else s.regF Reg.TIM_PTP_CFG 31 24,
    accuracy := 0xFE, variance := 0xFFFF, prio2 := s.regF Reg.TIM_PTP_CFG 23 16,
    ident := s.reg64 Reg.SYS_SERIAL_LO Reg.SYS_SERIAL_HI, steps := 0 }

/-- The best announcement heard on port `n`: none where PTP does not run there or its link is down. -/
def State.heardBest (s : State) (n : Nat) : Option Announced :=
  if s.ptpOn n && s.regB (Reg.TRV_STS n) 0 then (s.ptpPort n).best else none

/-- The port with the best announcement heard. -/
def State.bestPort (s : State) : Option (Nat × Announced) :=
  [0, 1, 2, 3].foldl (fun b n =>
    match s.heardBest n, b with
    | some a, some (k, x) => if a.better (s.ptpMode n = 2 && s.ptpMode k = 2) x then some (n, a) else b
    | some a, none => some (n, a)
    | none, _ => b) none

/-- The port has waited three intervals for an announcement, or has heard one. -/
def State.ripe (s : State) (n : Nat) : Bool :=
  (s.ptpPort n).best.isSome || decide ((s.ptpPort n).since + 3 * s.annNs n ≤ s.now)

/-- The module may be master where nothing better is heard: it is AUTO (R82), and on a gPTP port its priority1 is not 255. -/
def State.mayLead (s : State) (n : Nat) : Bool := s.ptpRole = 1 && !(s.ptpMode n = 2 && s.regF Reg.TIM_PTP_CFG 15 8 = 255)

/-- The state of port `n` under best master selection (TIM_PORTn_STS.STATE), by the state decision of its profile. A port whose
link is down is FAULTY, and under SRC_PARTNER the port that would follow is PASSIVE (log 22); under GM_ONLY every enabled port is
MASTER (R82). -/
def State.portState (s : State) (n : Nat) (best : Option (Nat × Announced)) : Nat :=
  let gptp := decide (s.ptpMode n = 2)
  let own := s.ownAnnounce
  let lead := if s.mayLead n && s.ripe n then 2 else 1
  if !s.ptpOn n then 0
  else if s.ptpRole = 3 then 2
  else if !s.regB (Reg.TRV_STS n) 0 then 5
  else if !gptp && s.mayLead n && 1 ≤ own.cls && own.cls ≤ 127 then
    (match s.heardBest n with | some x => if own.better false x then 2 else 4 | none => lead)
  else match best with
    | none => lead
    | some (b, a) =>
      if s.mayLead n && own.better gptp a then lead
      else if n = b then (if s.regB Reg.TIM_CTL 3 then 4 else 3)
      else match s.heardBest n with
        | some x =>
          if gptp then (if x.better true { a with steps := a.steps + 1, sender := own.sender + n + 1 } then 4 else 2)
          else if x.ident = a.ident && x.steps ≤ a.steps + 1 then 4 else 2
        | none => if s.ripe n then 2 else 1

/-- Best master selection runs (R81, R82): port states, the port followed, the grandmaster; LOCKED clears where no master is
followed any more. Under SRC_PARTNER no grandmaster is shown (log 22). -/
def State.selectMaster (s : State) : State :=
  let best := s.bestPort
  let states := [0, 1, 2, 3].map (fun n => (n, s.portState n best))
  let follow := (states.find? (fun p => p.2 = 3)).map (·.1)
  let partner := s.regB Reg.TIM_CTL 3 && s.ptpRole ≠ 0
  let gm := follow.isNone && !partner && states.any (fun p => p.2 = 2)
  let ident := if gm then s.ownAnnounce.ident
    else match follow, best with
      | some _, some (_, a) => a.ident
      | _, _ => 0
  let s := states.foldl (fun s p => if s.hasPort p.1 then s.setRegF (Reg.TIM_PORTn_STS p.1) 2 0 p.2 else s) s
  let s := s.setRegF Reg.TIM_STS 10 8 (if partner then 4 else follow.getD 7)
  let s := if follow.isNone && !partner then s.setRegB Reg.TIM_STS 2 false else s
  let s := s.setRegB Reg.TIM_STS 7 gm
  if s.reg64 Reg.TIM_GM_ID_LO Reg.TIM_GM_ID_HI = ident % 2 ^ 64 then s
  else (s.setReg64 Reg.TIM_GM_ID_LO Reg.TIM_GM_ID_HI ident).raiseBit 18 20

/-- A PTP message that the port accepts: PTP runs on it, the link is up and the domain is the port's (Table 4.1). -/
def State.ptpRx (s : State) (n kind domain : Nat) (f : State → State) : State :=
  if !s.hasPort n || !s.regB (Reg.TRV_STS n) 0 then s
  else
    let s := s.received n false (ptpLen kind)
    if s.ptpOn n && domain = (if s.ptpMode n = 2 then 0 else s.regF Reg.TIM_PTP_CFG 7 0) then f s else s

/-- The domain of the messages a port sends. -/
def State.ptpDomain (s : State) (n : Nat) : Nat := if s.ptpMode n = 2 then 0 else s.regF Reg.TIM_PTP_CFG 7 0

/-- An offset measurement (R80) of a source whose Sync comes every `every` ns: published, with LOCKED, and handed to the servo. -/
def State.measured (s : State) (ofs delay : Int) (every : Nat) : State :=
  let c := clampInt (-(2 ^ 31 - 1)) (2 ^ 31 - 1) ofs
  let s := (s.setReg Reg.TIM_MEAS_OFS (w32 (pattern 32 c))).setReg Reg.TIM_MEAS_DELAY (w32 (pattern 32 delay))
  let s := ((s.countWrap Reg.TIM_MEAS_SEQ).setRegB Reg.TIM_STS 4 false).setRegB Reg.TIM_STS 2 (decide (ofs.natAbs ≤ 1000))
  { s with servo := { s.servo with meas := some ofs, lastSync := some s.now, every := every } }

/-- A complete Sync on the port followed: origin (with its correction) and ingress. -/
def State.syncDone (s : State) (n : Nat) (origin t : Int) : State :=
  let s := s.modPtp n (fun p => { p with lastSync := some (origin, t), syncWait := none })
  let d := (s.ptpPort n).delay
  s.measured (t - origin - d) d (s.syncNs n)

/-- A Sync (R81): used on the port that is FOLLOWER. -/
def State.syncRx (s : State) (n seq : Nat) (twoStep : Bool) (domain : Nat) (origin corr : Int) : State :=
  s.ptpRx n msgSync domain (fun s =>
    if s.ptpState n ≠ 3 || (s.ptpMode n = 2 && !s.regB (Reg.TIM_PORTn_STS n) 3) then s
    else if twoStep then s.modPtp n (fun p => { p with syncWait := some (seq, (s.ingress n - corr).toNat) })
    else s.syncDone n (origin + corr) (s.ingress n))

/-- A Follow_Up completes the two-step Sync of its sequence number. -/
def State.followUpRx (s : State) (n seq domain : Nat) (origin corr : Int) : State :=
  s.ptpRx n msgFollowUp domain (fun s =>
    match (s.ptpPort n).syncWait with
    | some (q, t) => if q = seq && s.ptpState n = 3 then s.syncDone n (origin + corr) t else s
    | none => s)

/-- A Delay_Req is answered on a MASTER port of the default profile, to its requester. -/
def State.delayReqRx (s : State) (n seq domain requester : Nat) : State :=
  s.ptpRx n msgDelayReq domain (fun s =>
    if s.ptpMode n = 1 && s.ptpState n = 2 then
      s.queuePtp n { kind := msgDelayResp, seq := seq, domain := domain, t := s.ingress n, requester := requester }
    else s)

/-- A Delay_Resp completes the end-to-end measurement: half the sum of both directions. -/
def State.delayRespRx (s : State) (n seq domain : Nat) (receipt corr : Int) : State :=
  s.ptpRx n msgDelayResp domain (fun s =>
    match (s.ptpPort n).reqSent, (s.ptpPort n).lastSync with
    | some (q, t3), some (t1, t2) =>
      if q = seq && s.ptpMode n = 1 && s.ptpState n = 3 then
        s.modPtp n (fun p => { p with reqSent := none, delay := ((t2 - t1) + (receipt - corr - (t3 : Int))) / 2 })
      else s
    | _, _ => s)

/-- A Pdelay_Req is answered two-step, to its requester (R83): the Follow_Up is queued as the response leaves. -/
def State.pdelayReqRx (s : State) (n seq domain requester : Nat) : State :=
  s.ptpRx n msgPdelayReq domain (fun s =>
    if s.ptpMode n = 2 then
      s.queuePtp n { kind := msgPdelayResp, seq := seq, domain := domain, twoStep := true, t := s.ingress n, requester := requester }
    else s)

/-- A Pdelay_Resp to the port's request. -/
def State.pdelayRespRx (s : State) (n seq domain : Nat) (receipt corr : Int) : State :=
  s.ptpRx n msgPdelayResp domain (fun s =>
    match (s.ptpPort n).reqSent with
    | some (q, _) =>
      if q = seq && s.ptpMode n = 2 then s.modPtp n (fun p => { p with pdelay := some (seq, receipt, s.ingress n - corr) }) else s
    | none => s)

/-- Its Follow_Up completes the peer delay: half of the round trip less the peer's residence. The port is then asCapable
(log 22). -/
def State.pdelayFollowRx (s : State) (n seq domain : Nat) (origin corr : Int) : State :=
  s.ptpRx n msgPdelayFollow domain (fun s =>
    match (s.ptpPort n).pdelay, (s.ptpPort n).reqSent with
    | some (q, t2, t4), some (_, t1) =>
      if q = seq && s.ptpMode n = 2 then
        (s.modPtp n (fun p => { p with
          pdelay := none, reqSent := none, delay := ((t4 - (t1 : Int)) - (origin + corr - t2)) / 2 })).setRegB
          (Reg.TIM_PORTn_STS n) 3 true
      else s
    | _, _ => s)

/-- An Announce that takes part in the selection: not the module's own, fewer than 255 steps away, and on a default-profile port the
second of its sender within four intervals (R81, log 22). -/
def State.qualified (s : State) (n : Nat) (a : Announced) : Bool :=
  a.ident ≠ s.ownAnnounce.ident && a.sender / 2 ^ 16 ≠ s.ownAnnounce.ident && a.steps < 255 &&
    (if s.ptpMode n = 2 then s.regB (Reg.TIM_PORTn_STS n) 3
     else (s.ptpPort n).heard.any (fun e => e.1 = a.sender && decide (s.now ≤ e.2 + 4 * s.annNs n)))

/-- An Announce feeds best master selection. -/
def State.announceRx (s : State) (n domain : Nat) (a : Announced) : State :=
  s.ptpRx n msgAnnounce domain (fun s =>
    let good := s.qualified n a
    let s := s.modPtp n (fun p => { p with heard := (a.sender, s.now) :: p.heard.filter (fun e => e.1 ≠ a.sender) })
    if !good then s
    else
      let keep := match (s.ptpPort n).best with
        | some b => if b.sender ≠ a.sender && b.better (s.ptpMode n = 2) a then b else a
        | none => a
      (s.modPtp n (fun p => { p with best := some keep, since := s.now })).selectMaster)

/-- An interval a Signaling message asks for: -128 leaves it, 126 returns it to the port's setting (IEEE 802.1AS). -/
def askLog (old : Option Int) (v : Int) : Option Int := if v = -128 then old else if v = 126 then none else some v

/-- A Signaling message with a message interval request. -/
def State.signalingRx (s : State) (n domain : Nat) (ls la ld : Int) : State :=
  s.ptpRx n 0xC domain (fun s => s.modPtp n (fun p => { p with
    logSync := askLog p.logSync ls, logAnn := askLog p.logAnn la, logDelay := askLog p.logDelay ld }))

/-- A management message is dropped and counted (Table 4.1). -/
def State.managementRx (s : State) (n : Nat) : State :=
  if !s.hasPort n || !s.regB (Reg.TRV_STS n) 0 || s.ptpRole = 0 then s
  else (s.received n false 48).count Reg.TIM_MGMT_DROP

/-- What port `n` announces: the grandmaster it follows, one step further, or the module itself; FOLLOWER_ONLY announces clockClass
255 (R82). -/
def State.announces (s : State) (n : Nat) : Announced :=
  let own := s.ownAnnounce
  let a := match (if s.regB Reg.TIM_STS 7 || s.ptpRole = 3 then none else s.bestPort) with
    | some (_, a) => { a with steps := a.steps + 1 }
    | none => own
  { a with sender := own.sender + n + 1, cls := if s.ptpRole = 2 then 255 else a.cls }

/-- A message interval of the port ends (R83): kind 0 Sync, 1 Announce, 2 a delay request. At an Announce interval a port
that has heard none for three intervals forgets the last one. -/
def State.ptpSend (s : State) (n kind : Nat) : State :=
  if !s.ptpOn n || !s.regB (Reg.TRV_STS n) 0 then s
  else
    let seq := (s.ptpPort n).seq
    let used (s : State) : State := s.modPtp n (fun p => { p with seq := (p.seq + 1) % 2 ^ 16 })
    let m : PtpMsg := { kind := msgSync, seq := seq, domain := s.ptpDomain n }
    match kind with
    | 0 =>
      if s.ptpState n ≠ 2 then s
      else (used s).queuePtp n { m with twoStep := !s.regB (Reg.TIM_PORTn_CFG n) 2 }
    | 1 =>
      let p := s.ptpPort n
      let s := if p.since + 3 * s.annNs n ≤ s.now then (s.modPtp n (fun p => { p with best := none })).selectMaster else s
      if s.ptpState n = 2 then (used s).queuePtp n { m with kind := msgAnnounce, ann := some (s.announces n) } else s
    | _ =>
      if s.ptpMode n = 2 then
        ((used s).modPtp n (fun p => { p with reqSent := none, pdelay := none })).queuePtp n { m with kind := msgPdelayReq }
      else if s.ptpState n = 3 then
        ((used s).modPtp n (fun p => { p with reqSent := none })).queuePtp n { m with kind := msgDelayReq }
      else s

/-- A change of TIM_CTL, of a port's profile or of its link: ports newly enabled listen, and the selection runs. -/
def State.ptpChanged (s : State) (was : Nat → Bool) : State :=
  ([0, 1, 2, 3].foldl (fun s n =>
    if s.ptpOn n && !was n then s.modPtp n (fun p => { p with best := none, since := s.now })
    else if !s.ptpOn n then (s.modPtp n (fun _ => {})).setRegB (Reg.TIM_PORTn_STS n) 3 false else s) s).selectMaster

/-! ### The servo (R80) -/

/-- The servo takes the offset measured last: the first lock may arm the one step, and from then on TIM_INCR is written at each
measurement, within its limits. -/
def State.servoUpdate (s : State) : State :=
  match s.servo.meas with
  | none => s
  | some ofs =>
    let s := { s with servo := { s.servo with meas := none } }
    if s.regB Reg.TIM_CTL 2 then s
    else
      let first := !s.servo.locked
      let s := { s with servo := { s.servo with locked := true } }
      if first && 1000 < ofs.natAbs && s.regB Reg.TIM_CTL 4 && !s.regB Reg.TIM_STS 1 then s.armStep (-ofs)
      else
        let slew := decide (10000 < ofs.natAbs) && s.regB Reg.TIM_STS 1
        let (i, s) := s.fresh
        let want := if slew then (if 0 < ofs then incrMin else incrMax) else Config.servoIncrement ofs s.incr i
        (s.storeIncr (max incrMin (min incrMax want))).setRegB Reg.TIM_STS 3 slew

/-- Three intervals have passed without an accepted Sync while the module may follow one (R80). -/
def State.holdover (s : State) : State :=
  match s.servo.lastSync with
  | some t =>
    if t + 3 * s.servo.every ≤ s.now && !s.regB Reg.TIM_STS 4 && !s.regB Reg.TIM_CTL 2 && s.ptpRole ≠ 0 && s.ptpRole ≠ 3 then
      ((s.setRegB Reg.TIM_STS 4 true).setRegB Reg.TIM_STS 2 false).raiseBit 18 19
    else s
  | none => s

/-! ### Transmit timestamps (R86) -/

/-- The head of a queue. -/
def State.txqHead (s : State) (n : Nat) : Option TsEntry := (sget [] s.tsq n : List TsEntry).head?

/-- TIM_PORTn_TXQ_TAG. -/
def State.txqTag (s : State) (n : Nat) : Word :=
  let q : List TsEntry := sget [] s.tsq n
  match q with
  | e :: _ => w32 (e.tag % 2 ^ 16 + q.length * 2 ^ 16 + 2 ^ 31)
  | [] => 0

/-- TIM_PORTn_TXQ_POP = 1. -/
def State.txqPop (s : State) (n : Nat) (v : Word) : State :=
  if v.bit 0 then { s with tsq := smod [] s.tsq n (fun q => q.drop 1) } else s

/-! ### Comparators (R87-R90) -/

/-- The target of comparator `k` in nanoseconds. -/
def State.cmpTarget (s : State) (k : Nat) : Nat :=
  (s.regF (Reg.TIM_CMPk_T_EXT k) 15 0 * 2 ^ 32 + (s.reg (Reg.TIM_CMPk_T_HI k)).toNat) * 1000000000 + s.regF (Reg.TIM_CMPk_T_LO k) 29 0

/-- The target replaced. -/
def State.setCmpTarget (s : State) (k t : Nat) : State :=
  ((s.setReg (Reg.TIM_CMPk_T_LO k) (w32 (t % 1000000000))).setReg (Reg.TIM_CMPk_T_HI k) (w32 (t / 1000000000))).setReg
    (Reg.TIM_CMPk_T_EXT k) (w32 (t / 1000000000 / 2 ^ 32 % 2 ^ 16))

/-- The action of a comparator (Table 4.2), with the instant that has come. -/
def State.cmpAct (s : State) (k t : Nat) : State :=
  let a := s.reg (Reg.TIM_CMPk_ACTION k)
  match s.regF (Reg.TIM_CMPk_CFG k) 5 4 with
  | 1 => [0, 1, 2, 3].foldl (fun s n => if a.bit n && s.cycles n && s.pwr.settled then s.cycleStart n t else s) s
  | 2 => s.arriveMask a
  | 3 => s.convStartMask (a.fld 1 0)
  | _ => s

/-- A release that a standby does not deliver: it is noted for a hand-over (R290). -/
def State.firedHeld (s : State) (k t : Nat) : State :=
  let a := s.reg (Reg.TIM_CMPk_ACTION k)
  (List.range 32).foldl (fun (s : State) n =>
    if a.bit n then { s with pair := { s.pair with firedAt := sput none s.pair.firedAt n (some t) } } else s) s

/-- Comparator `k` is enabled and its target has come: it fires (R87). A set-owned one delivers no action on a standby,
and counts no missed instant (R90); its port engines run their cycle all the same (R170). -/
def State.cmpFire (s : State) (k : Nat) : State :=
  let cfg := Reg.TIM_CMPk_CFG k
  let t := s.cmpTarget k
  if !s.regB cfg 0 || s.now < t then s
  else
    let hold := s.regB cfg 1 && s.shadows
    let per := (s.reg (Reg.TIM_CMPk_PERIOD k)).toNat
    let skip := if per = 0 || s.now < t + per then 0 else (s.now - (t + per)) / per + 1
    let s := if s.regB cfg 2 then s.raiseBit 18 k else s
    let s := if !hold || s.regF cfg 5 4 = 1 then s.cmpAct k (t + skip * per) else if s.regF cfg 5 4 = 2 then s.firedHeld k t else s
    if per = 0 then s.setRegB cfg 0 false
    else
      let s := s.setCmpTarget k (t + (skip + 1) * per)
      if hold then s else s.countF (Reg.TIM_CMPk_MISSED k) 15 0 skip

/-- The bits of a mask over the numbers below `n` that satisfy a test. -/
def maskOf (n : Nat) (p : Nat → Bool) : Nat := ((List.range n).filter p).foldl (fun a i => a + 2 ^ i) 0

/-- Comparator `k` fires in this clock. -/
def State.cmpDue (s : State) (k : Nat) : Bool := s.regB (Reg.TIM_CMPk_CFG k) 0 && s.cmpTarget k ≤ s.now

/-- The events of a fire of comparator `k` (Tables 4.3, 7.10 and 9.6). -/
def State.fireEvs (s : State) (k : Nat) : List Ev :=
  let a := s.reg (Reg.TIM_CMPk_ACTION k)
  let kind := s.regF (Reg.TIM_CMPk_CFG k) 5 4
  if !s.cmpDue k then []
  else
    ⟨.fire, k, 0⟩ :: (
      if kind = 1 then ([0, 1, 2, 3].filter (fun n => a.bit n && s.cycles n)).map (fun n => ⟨.cycleStart, n, 0⟩)
      else if kind = 2 && !(s.regB (Reg.TIM_CMPk_CFG k) 1 && s.shadows) then
        ((List.range 32).filter (fun n => a.bit n)).map (fun n => ⟨.arrival, n, 0⟩)
      else [])

/-- A comparator that is due in this clock fires before what replaces its target: a write of TIM_CMPk_T_HI, or a swap that loads it
(Table 4.3). -/
def State.fireFirst (s : State) (k : Nat) : State := if s.cmpDue k then (s.note (s.fireEvs k)).cmpFire k else s

/-- Port `n`, task `n` or group `g` names comparator `k` in the active set (R89). -/
def State.portNames (s : State) (k n : Nat) : Bool := s.hasPort n && s.cw 3 n 0 ≠ 0 && (s.cw 3 n 1).fld 3 0 = k
def State.taskNames (s : State) (k n : Nat) : Bool := (s.taskKind n = 1 || s.taskKind n = 3) && (s.cw 4 n 0).fld 13 10 = k
def State.groupNames (s : State) (k g : Nat) : Bool := s.hasGroup g && (s.cw 1 (32 + g) 0).bit 6 && (s.cw 1 (32 + g) 0).fld 5 2 = k

/-- What the active set gives comparator `k`: its category, KIND, period, phase and action (R160, R196, R300); none where
no item names it. -/
def State.cmpSpec (s : State) (k : Nat) : Option (Nat × Nat × Nat × Nat × Nat) :=
  match (List.range 4).find? (s.portNames k), (List.range 32).find? (s.taskNames k), (List.range 2).find? (s.groupNames k) with
  | some n, _, _ => some (3, 1, s.cycleNs n, 0, maskOf 4 (s.portNames k))
  | none, some n, _ => some (4, 2, (s.cw 4 n 1).toNat, (s.cw 4 n 2).toNat, maskOf 32 (s.taskNames k))
  | none, none, some g => some (1, 3, (s.cw 1 (32 + g) 1).toNat, 0, maskOf 2 (s.groupNames k))
  | none, none, none => none

/-- The first instant strictly after `now` equal to a multiple of `per` plus `ph`. -/
def firstAfter (now per ph : Nat) : Nat :=
  if per = 0 then now + 1 else if now < ph % per then ph % per else ((now - ph % per) / per + 1) * per + ph % per

/-- Comparator `k` is loaded in this clock (R89), enabled once time has settled; IRQ is kept. -/
def State.loadCmp (s : State) (k kind per ph act : Nat) : State :=
  let irq := s.regB (Reg.TIM_CMPk_CFG k) 2
  let s := s.setReg (Reg.TIM_CMPk_CFG k) (w32 (ofBool s.pwr.settled + 2 + 4 * ofBool irq + 16 * kind))
  ((s.setCmpTarget k (firstAfter s.now per ph)).setReg (Reg.TIM_CMPk_PERIOD k) (w32 per)).setReg (Reg.TIM_CMPk_ACTION k) (w32 act)

/-- Items of two categories name comparator `k`. -/
def State.cmpClash (s : State) (k : Nat) : Bool :=
  let p := (List.range 4).any (s.portNames k)
  let t := (List.range 32).any (s.taskNames k)
  let g := (List.range 2).any (s.groupNames k)
  (p && t) || (p && g) || (t && g)

/-- The comparators after a change of the active set in the categories of a mask, or when time settles (R89): those that
an item of a changed category names are loaded, and those no longer named are given back disabled. Items of two categories that
name one comparator are a misuse. -/
def State.loadComparators (s : State) (changed : Nat → Bool) : State :=
  (List.range 16).foldl (fun s k =>
    if s.cmpClash k then s.misused 89 0x30000
    else match s.cmpSpec k with
    | some (cat, kind, per, ph, act) => if changed cat || !s.regB (Reg.TIM_CMPk_CFG k) 1 then s.loadCmp k kind per ph act else s
    | none =>
      if s.regB (Reg.TIM_CMPk_CFG k) 1 then
        (s.setRegB (Reg.TIM_CMPk_CFG k) 1 false).setRegB (Reg.TIM_CMPk_CFG k) 0 false
      else s) s

/-- A host write of TIM_CMPk_CFG: IRQ always, EN and KIND where the host owns it (R89). -/
def State.writeCmpCfg (s : State) (k : Nat) (v : Word) : State :=
  let a := Reg.TIM_CMPk_CFG k
  if s.regB a 1 then s.setRegB a 2 (v.bit 2)
  else ((s.setRegB a 0 (v.bit 0)).setRegB a 2 (v.bit 2)).setRegF a 5 4 (v.fld 5 4)

/-- Time has settled by itself (R416). -/
def State.timeLocked (s : State) : Bool :=
  let sts := s.reg Reg.TIM_STS
  let ctl := s.reg Reg.TIM_CTL
  (sts.bit 1 && !sts.bit 0) || sts.bit 2 || sts.bit 7 || ctl.fld 1 0 = 3 || ctl.fld 1 0 = 0 || ctl.bit 2

/-- An operation by which time settles by itself is an event of Table 17.8. -/
def State.lockEvs (s : State) (f : State → State) : List Ev :=
  if !s.timeLocked && (f s).timeLocked then [⟨.timeLock, 0, 0⟩] else []

/-- A command that may bring the lock. -/
def afterLock (dt : Nat) (s : State) (f : State → State) : Answer := afterEv dt ((s.advance dt).lockEvs f) s f

/-! ### The commands -/

/-- PTP_SECOND_CARRY: the clocks to the next carry pass, and the carry takes place (R73). -/
def execPtpSecondCarry (s : State) : Answer := .next (s.advance s.clocksToCarry)
/-- SERVO_UPDATE. -/
def execServoUpdate (dt : Nat) (s : State) : Answer := afterLock dt s State.servoUpdate
/-- HOLDOVER. -/
def execHoldover (dt : Nat) (s : State) : Answer := afterLock dt s State.holdover
/-- SYNC. -/
def execSync (dt port seq : Nat) (twoStep : Bool) (domain : Nat) (origin correction : Int) (s : State) : Answer :=
  after dt s (fun s => s.syncRx port seq twoStep domain origin correction)
/-- FOLLOW_UP. -/
def execFollowUp (dt port seq domain : Nat) (origin correction : Int) (s : State) : Answer :=
  after dt s (fun s => s.followUpRx port seq domain origin correction)
/-- DELAY_REQ. -/
def execDelayReq (dt port seq domain requester : Nat) (s : State) : Answer :=
  after dt s (fun s => s.delayReqRx port seq domain requester)
/-- DELAY_RESP. -/
def execDelayResp (dt port seq domain : Nat) (receipt correction : Int) (s : State) : Answer :=
  after dt s (fun s => s.delayRespRx port seq domain receipt correction)
/-- PDELAY_REQ. -/
def execPdelayReq (dt port seq domain requester : Nat) (s : State) : Answer :=
  after dt s (fun s => s.pdelayReqRx port seq domain requester)
/-- PDELAY_RESP. -/
def execPdelayResp (dt port seq domain : Nat) (receipt correction : Int) (s : State) : Answer :=
  after dt s (fun s => s.pdelayRespRx port seq domain receipt correction)
/-- PDELAY_RESP_FOLLOW_UP. -/
def execPdelayRespFollowUp (dt port seq domain : Nat) (origin correction : Int) (s : State) : Answer :=
  after dt s (fun s => s.pdelayFollowRx port seq domain origin correction)
/-- ANNOUNCE. -/
def execAnnounce (dt port domain prio1 cls accuracy variance prio2 ident : Nat) (way : AnnWay) (s : State) : Answer :=
  afterLock dt s (fun s =>
    s.announceRx port domain ⟨prio1, cls, accuracy, variance, prio2, ident, way.steps, way.sender⟩)
/-- SIGNALING. -/
def execSignaling (dt : Nat) (rx : PtpAt) (logSync logAnn logDelay : Int) (s : State) : Answer :=
  after dt s (fun s => s.signalingRx rx.port rx.domain logSync logAnn logDelay)
/-- MANAGEMENT_MESSAGE. -/
def execManagementMessage (dt port : Nat) (s : State) : Answer := after dt s (fun s => s.managementRx port)
/-- PTP_MESSAGE_SEND. -/
def execPtpMessageSend (dt port kind : Nat) (s : State) : Answer := after dt s (fun s => s.ptpSend port kind)
/-- COMPARATOR_FIRE. -/
def execComparatorFire (dt k : Nat) (s : State) : Answer :=
  afterEv dt ((s.advance dt).fireEvs (k % 16)) s (fun s => s.cmpFire (k % 16))
/-- LINE_LINK_CHANGE. -/
def execLineLinkChange (dt port : Nat) (up : Bool) (s : State) : Answer :=
  afterLock dt s (fun s => (s.lineLink port up).ptpChanged s.ptpOn)

end Sys2Proof.Machine
end

