-- ==== Sys2Proof/Machine/Channels.lean ====
section
/-!
DEFINITION. The universal channels and the fast inputs and outputs (13 R297-R336): instants and conversions, output
drive, diagnostics, trips and retirement, field supply, calibration, the controller chain.
-/
namespace Sys2Proof.Machine

/-! ### Items (Tables 13.2, 13.3) and the state of a channel -/

/-- Word `i` of the item of channel `n`. -/
def State.chW (s : State) (n i : Nat) : Word := s.cw 1 n i

/-- Word `i` of the item of group `g`. -/
def State.grpW (s : State) (g i : Nat) : Word := s.cw 1 (32 + g) i

/-- MODE: 0 OFF, 1 DI, 2 DI_WB, 3 DO, 4 AI_I, 5 AI_V, 6 AO_I, 7 AO_LOOP. -/
def State.chMode (s : State) (n : Nat) : Nat := (s.chW n 0).fld 3 0

/-- The group of a channel (Table 13.1). -/
def grpOf (n : Nat) : Nat := n / 16

/-- The channels of a group. -/
def grpChans (g : Nat) : List Nat := (List.range 16).map (fun j => 16 * g + j)

/-- The channel is present in the order and its unit is powered (R297, R404). -/
def State.hasChan (s : State) (n : Nat) : Bool := decide (n < 32) && s.hasGroup (grpOf n) && s.domainOn 9

/-- The modes whose stage is an output: DO, AO_I and AO_LOOP. -/
def outMode (m : Nat) : Bool := m = 3 || m = 6 || m = 7

def State.chan (s : State) (n : Nat) : Chan := sget {} s.chans n
def State.modChan (s : State) (n : Nat) (f : Chan → Chan) : State := { s with chans := smod {} s.chans n f }
def State.grp (s : State) (g : Nat) : Group := sget {} s.grps g
def State.modGrp (s : State) (g : Nat) (f : Group → Group) : State := { s with grps := smod {} s.grps g f }

/-- GRP_STS.SUPPLY: 0 NO_SUPPLY, 1 NORMAL, 2 SUPPLY_LOST, 3 WAIT_ACK. -/
def State.supply (s : State) (g : Nat) : Nat := s.regF (Reg.GRP_STS g) 1 0

/-- GRP_STS.DRIVE: 0 RELEASED, 1 TAKE_UP, 2 DRIVING. -/
def State.drive (s : State) (g : Nat) : Nat := s.regF (Reg.GRP_STS g) 4 3

/-- The terminals of the channel are released (R320, R322). -/
def State.chReleased (s : State) (n : Nat) : Bool :=
  let m := s.chMode n
  let par := (s.chW n 0).bit 8
  (outMode m || ((m = 2 || m = 4) && par)) && (s.drive (grpOf n) ≠ 2 || (s.chan n).silent)

/-- CH_STS.STATE (Table 13.11): the first that applies. -/
def State.chState (s : State) (n : Nat) : Nat :=
  let c := s.chan n
  if s.chMode n = 0 then 0
  else if c.retired then 3
  else if c.reconf then 6
  else if s.chReleased n then 4
  else if c.retry.isSome then 2
  else if outMode (s.chMode n) && s.supply (grpOf n) ≠ 1 then 5
  else if c.test then 7
  else 1

/-- The mode of the channel is not in force yet: it is RECONFIG, or its new mode acts from the next I/O instant (R301). -/
def State.notYet (s : State) (n : Nat) : Bool := (s.chan n).reconf || (s.chan n).fresh.isSome

/-- The output of the channel may stand (R319); a pulse test does not take its command away (R328). -/
def State.mayStand (s : State) (n : Nat) : Bool :=
  let g := grpOf n
  let st := s.chState n
  outMode (s.chMode n) && s.drive g = 2 && s.regB (Reg.GRP_CTL g) 0 && s.regB (Reg.GRP_CHEN g) (n % 16) &&
  s.supply g = 1 && (st = 1 || st = 7) && !s.notYet n

/-- The output of the channel stands. -/
def State.standing (s : State) (n : Nat) : Bool := s.mayStand n && (s.chan n).on

/-- The channel's controller is not restarting (R333) and answers. -/
def State.ctlRuns (s : State) (n : Nat) : Bool :=
  let st := s.regF (Reg.CHN_CCc (n / 2)) 18 16
  st = 1 || st = 2

/-- CH_STS: the flags and the state. SUBST stands while the channel is retired or its broken wire substitutes BIT (R306,
R316), ALARM_OUT while the alarm current is output (R312). -/
def State.chSts (s : State) (n : Nat) : Word :=
  let w := s.reg (Reg.CH_STS n)
  let sub := s.chMode n ≠ 0 && ((s.chan n).retired || (s.chMode n = 2 && w.bit 5))
  (((w.setBit 11 sub).setBit 10 (w.bit 10 && s.standing n && s.chState n = 1))).setFld 2 0 (s.chState n)

/-- A CH_EVT bit set; its rise is an event of the group. -/
def State.chEvt (s : State) (n i : Nat) : State :=
  if s.regB (Reg.CH_EVT n) i then s else (s.setRegB (Reg.CH_EVT n) i true).raiseBit (29 + grpOf n) 0

/-- The CH_EVT bit of a CH_STS flag that rises (Table 13.11). -/
def flagEvt (f : Nat) : Option Nat :=
  match f with
  | 4 => some 3 | 5 => some 2 | 6 => some 4 | 7 => some 5 | 8 => some 6 | 9 => some 6 | 12 => some 8 | 13 => some 7
  | _ => none

/-- A flag of CH_STS set or cleared, with the event of its rise. -/
def State.setFlag (s : State) (n f : Nat) (b : Bool) : State :=
  let old := s.regB (Reg.CH_STS n) f
  let s := s.setRegB (Reg.CH_STS n) f b
  match flagEvt f with
  | some e => if b && !old then s.chEvt n e else s
  | none => s

/-- Of the output values read and not applied yet, those of channels that may not stand are never applied: what comes back
takes the values of its next I/O instant (R319). -/
def State.dropOuts (s : State) (g : Nat) : State :=
  s.modGrp g (fun x => { x with outs := x.outs.map (fun o => (o.1, o.2.filter (fun c => s.mayStand c.1))) })

/-- The stage of a channel leaves its command: it is switched off. -/
def State.stageOff (s : State) (n : Nat) : State :=
  s.modChan n (fun c => { c with on := false, changed := s.sclk })

/-! ### I/O instants (R303, R305) -/

/-- IO_PERIOD in nanoseconds. -/
def State.ioPeriod (s : State) (g : Nat) : Nat := (s.grpW g 0).fld 21 8 * 1000

/-- The word a measured value is carried in: image units, signed (R302). -/
def valueWord (i : Int) : Word := w32 (pattern 32 i)

/-- An AI of a FREE group that holds its value: the conversion that would have served this instant was a benchmark (R327). -/
def State.holdsValue (s : State) (n t : Nat) : Bool :=
  match (s.chan n).bench with
  | some b => (s.chMode n = 4 || s.chMode n = 5) && !s.triggered (grpOf n) && b ≤ t && t < b + s.convT (grpOf n)
  | none => false

/-- A measured value, as CH_VALUE shows it, with NE 43 on a 4-20 mA input (R308). -/
def State.measure (s : State) (n : Nat) (v : Int) : State :=
  let s := s.setReg (Reg.CH_VALUE n) (valueWord v)
  if s.chMode n = 4 && (s.chW n 0).bit 4 then (s.setFlag n 8 (v ≤ 3600000)).setFlag n 9 (21000000 ≤ v) else s

/-- Measured values of channels of a group; `t` is the instant they belong to. In RECONFIG and under a benchmark a value
holds, and a controller that restarts measures nothing (R301, R327, R333). -/
def State.chMeasured (s : State) (g t : Nat) (vals : List (Nat × Int)) : State :=
  vals.foldl (fun s v =>
    if grpOf v.1 = g && s.hasChan v.1 && s.ctlRuns v.1 && s.chMode v.1 ≠ 0 && !s.notYet v.1 && !s.holdsValue v.1 t then
      s.measure v.1 v.2
    else s) s

/-- The output values of a group read from the image store: the Q bit of a DO, the W word of an AO (R302). -/
def State.readOutputs (s : State) (g : Nat) : List (Nat × Word) :=
  (grpChans g).flatMap (fun n =>
    if s.chMode n = 3 && (s.chW n 1).bit 15 then [(n, w32 (ofBool (s.imgBit 2 ((s.chW n 1).fld 14 0))))]
    else if outMode (s.chMode n) && s.chMode n ≠ 3 && (s.chW n 2).bit 15 then
      [(n, s.imgRead 8 0 ((s.chW n 2).fld 12 0))]
    else [])

/-- Word `i` of 1 to 4 of the item of channel `n`, whose addresses and substitute act from the next I/O instant (R301). -/
def State.chIo (s : State) (n i : Nat) : Word := s.ioW (grpOf n) n i

/-- What the value of channel `n` puts into the image: space 8 (W words), address, value; SUBST of a retired channel. -/
def State.wordIn (s : State) (n : Nat) : List (Nat × Nat × Word) :=
  let v := if (s.chan n).retired then s.chIo n 3 else s.reg (Reg.CH_VALUE n)
  if (s.chIo n 2).bit 15 then [(8, (s.chIo n 2).fld 12 0, v)] else []

/-- The input values of channel `n` at an I/O instant (R303, R306, R316). -/
def State.chanIns (s : State) (n : Nat) : List (Nat × Nat × Word) :=
  let m := s.chMode n
  let c := s.chan n
  let sub := s.chW n 3
  let sts := if (s.chW n 4).bit 15 then [(8, (s.chW n 4).fld 12 0, s.chSts n)] else []
  if !s.ctlRuns n || (c.test && !c.retired) then []
  else if s.notYet n && !c.retired then sts
  else
    let bit := if c.retired || (m = 2 && s.regB (Reg.CH_STS n) 5) then sub.bit 0 else c.level
    let bits := if (m = 1 || m = 2) && (s.chW n 1).bit 15 then [(1, (s.chW n 1).fld 14 0, w32 (ofBool bit))] else []
    let word := if m = 1 || m = 2 || ((m = 4 || m = 5) && !s.triggered (grpOf n)) then s.wordIn n else []
    let rb := if outMode m && (s.chW n 2).bit 31 then
        [(8, (s.chW n 2).fld 28 16, if c.retired then sub else s.reg (Reg.CH_VALUE n))] else []
    bits ++ word ++ rb ++ sts

/-- A channel that CH_REVIVE has revived is ACTIVE again (R317). -/
def State.revived (s : State) (g : Nat) : State :=
  (grpChans g).foldl (fun s n =>
    if (s.chan n).reviving then s.modChan n (fun c => { c with retired := false, reviving := false, changed := s.sclk })
    else s) s

/-- What the I/O instant brings into force: the items of a swap, the new mode of a channel that took it up before this
clock, and the link of a controller that answers (R301, R322). -/
def State.atInstant (s : State) (g i : Nat) : State :=
  (grpChans g).foldl (fun s n => s.modChan n (fun c =>
    { c with fresh := c.fresh.filter (fun t => decide (s.sclk ≤ t)), silent := c.silent && !s.ctlRuns n }))
    (s.modGrp g (fun x => { x with lastIo := i, old := none }))

/-- An I/O instant (R303): the output values are read and the inputs taken, by a module that runs the line (R305). Values
are read for the outputs that may stand at the instant (R319). -/
def State.ioInstant (s : State) (g : Nat) (vals : List (Nat × Int)) : State :=
  let p := s.ioPeriod g
  let i := if p = 0 then 0 else s.now / p * p
  if p = 0 || !s.hasChan (16 * g) || (s.grp g).lastIo = i then s
  else
    let s := ((s.atInstant g i).revived g).chMeasured g i vals
    if !s.dispatches then s
    else s.modGrp g (fun x =>
      { x with outs := x.outs ++ [(i, (s.readOutputs g).filter (fun o => s.mayStand o.1))],
               ins := x.ins ++ [(i, (grpChans g).flatMap s.chanIns)] })

/-- One input value written into the image store by the channel unit (R194), and noted for the checkpoint (R213). -/
def State.writeIn (s : State) (x : Nat × Nat × Word) : State :=
  if x.1 = 1 then (s.setImgBit 1 x.2.1 (x.2.2.bit 0)).touchInput 1 (x.2.1 / 32)
  else (s.setImgW 8 0 x.2.1 x.2.2).touchInput 8 x.2.1

/-- The inputs taken at I are written in one change clock at I + 60 us. -/
def State.inputWrite (s : State) (g : Nat) : State :=
  match (s.grp g).ins with
  | (i, xs) :: rest =>
    if s.now < i + 60000 then s
    else
      let s := s.modGrp g (fun x => { x with ins := rest })
      if s.dispatches && s.domainOn 9 then xs.foldl State.writeIn s else s
  | [] => s

/-! ### Outputs (R309, R310, R312, R319) -/

/-- The range that an alarm current and a clamp go by: 4-20 mA, which AO_LOOP always has. -/
def State.live420 (s : State) (n : Nat) : Bool := s.chMode n = 7 || (s.chW n 0).bit 4

/-- The alarm current in nA (Table 13.5). ALARM = 0x3 is a misuse, and its current a free value (log 23). -/
def State.alarmNa (s : State) (n : Nat) : Word :=
  match (s.chW n 0).fld 6 5 with
  | 0 => if s.live420 n then 3500000 else 0
  | 1 => 21500000
  | 2 => (s.chan n).held
  | _ => w32 (Config.freeValue 1 (s.free * 32 + n))

/-- The command in use for a value read from the image, and whether it is the alarm current. -/
def State.outCmd (s : State) (n : Nat) (w : Word) : Word × Bool :=
  if s.chMode n = 3 then (w &&& 1, false)
  else if w = 0x80000000 then (s.alarmNa n, true)
  else
    let (lo, hi) := if s.live420 n then (3800000, 20500000) else (0, 21500000)
    (valueWord (clampInt lo hi w.toInt), false)

/-- A channel takes up a command, where its output may stand; else its stage stays off. -/
def State.takeUp (s : State) (n : Nat) (w : Word) : State :=
  if !s.mayStand n || !s.ctlRuns n then s
  else
    let (c, alarm) := s.outCmd n w
    let s := s.setRegB (Reg.CH_STS n) 10 alarm
    s.modChan n (fun x =>
      { x with on := true, cmd := c, held := if alarm then x.held else c,
               changed := if x.on && x.cmd = c then x.changed else s.sclk })

/-- The controllers of a group that answer hear the barrier link again and apply output values together (R303, R322). -/
def State.applyOutputs (s : State) (g : Nat) (outs : List (Nat × Word)) : State :=
  let s := (grpChans g).foldl (fun s n => s.modChan n (fun c => { c with silent := c.silent && !s.ctlRuns n })) s
  let s := { s with free := s.free + 1 }
  outs.foldl (fun s o => s.takeUp o.1 o.2) s

/-- The values read at I are applied at I + 100 us +- 1 us; nothing is applied by a module that no longer drives. -/
def State.outputApply (s : State) (g : Nat) : State :=
  match (s.grp g).outs with
  | (i, outs) :: rest =>
    if s.now < i + 99000 then s
    else
      let s := s.modGrp g (fun x => { x with outs := rest })
      if s.domainOn 9 && s.drive g = 2 then s.applyOutputs g outs else s
  | [] => s

/-- GRP_CTL.OUT_EN and GRP_CHEN written: an output that may not stand any more is switched off, and comes back only at an
I/O instant (R319). -/
def State.grpEnables (s : State) (g ctl chen : Nat) : State :=
  let s := (s.setReg (Reg.GRP_CTL g) (w32 (ctl % 2))).setReg (Reg.GRP_CHEN g) (w32 (chen % 2 ^ 16))
  ((grpChans g).foldl (fun s n => if (s.chan n).on && !s.mayStand n then s.stageOff n else s) s).dropOuts g

/-! ### Conversions (R304) -/

/-- The results of a triggered conversion are written in one change clock, at its start + CONV_T + 60 us. -/
def State.conversionDone (s : State) (g : Nat) (vals : List (Nat × Int)) : State :=
  match (s.grp g).conv.getLast? with
  | some (e, due) =>
    if s.now < due then s
    else
      let s := s.modGrp g (fun x => { x with conv := x.conv.dropLast })
      if !s.hasChan (16 * g) then s
      else
        let ai := fun n => s.chMode n = 4 || s.chMode n = 5
        let s := s.chMeasured g e (vals.filter (fun v => ai v.1))
        if !s.dispatches then s
        else
          let ns := (grpChans g).filter (fun n =>
            ai n && s.ctlRuns n && ((s.chan n).retired || (!s.notYet n && !(s.chan n).test)))
          (ns.flatMap s.wordIn).foldl State.writeIn s
  | none => s

/-! ### Diagnostics (R306-R313, R326) -/

/-- The group is NORMAL without VFLD_LOW: neither the readback comparison nor open-wire detection is suppressed. -/
def State.steady (s : State) (g : Nat) : Bool := s.supply g = 1 && !s.regB (Reg.GRP_STS g) 2

/-- The readback comparison of a channel runs (R311). -/
def State.comparesRb (s : State) (n : Nat) : Bool :=
  s.steady (grpOf n) && (s.chW n 0).bit 7 && outMode (s.chMode n) && s.chState n = 1 && !s.regB (Reg.CH_STS n) 6 &&
  (s.chan n).changed + 20 * msClk ≤ s.sclk

/-- A diagnostic may set its flag on this channel now (Table 13.6, R308, R310, R311, R321). -/
def State.diagRuns (s : State) (n f : Nat) : Bool :=
  let w := s.chW n 0
  let m := s.chMode n
  match f with
  | 5 => s.steady (grpOf n) && (m = 2 || (m = 4 && w.bit 4) || (m = 3 && w.bit 10 && s.standing n) ||
      (m = 6 && w.bit 10 && s.standing n) || m = 7)
  | 6 => m = 7
  | 7 => s.comparesRb n
  | 8 => m = 4 && w.bit 4
  | 9 => m = 4 && w.bit 4
  | 15 => s.drive (grpOf n) = 1
  | _ => false

/-- The absence of a condition for its time may clear its flag: of open wire and readback only while they are looked at. -/
def State.diagClears (s : State) (n f : Nat) : Bool :=
  match f with
  | 5 => s.steady (grpOf n)
  | 7 => s.comparesRb n
  | _ => 3 ≤ f && f ≤ 9

/-- CAL_STALE of a channel: the present temperature is more than 20 degrees from that of its trim (R326). -/
def State.calStale (s : State) (n : Nat) : State :=
  let t := s.reg (Reg.CH_TRIM_T n)
  let now := signed 16 (s.regF (Reg.CH_TEMP n) 15 0)
  let d := now - signed 16 (t.fld 15 0)
  s.setFlag n 12 ((t.bit 16 || t.bit 17) && (d < -2000 || 2000 < d))

/-- The temperature of a channel's controller, in 0.01 degrees, measured every 10 ms (R325): both its channels show it. -/
def State.ctlTemp (s : State) (n : Nat) (temp : Int) : State :=
  [2 * (n / 2), 2 * (n / 2) + 1].foldl (fun s k =>
    (s.setRegF (Reg.CH_TEMP k) 15 0 (pattern 16 temp)).calStale k) (s.extreme 40 temp)

/-- A diagnostic condition has stood, or been absent, for its time. Overload and overtemperature rise only with a trip. -/
def State.diagnostic (s : State) (n f : Nat) (on : Bool) (temp : Int) : State :=
  if !s.hasChan n || !s.ctlRuns n then s
  else
    let s := s.ctlTemp n temp
    if s.chMode n = 0 || s.notYet n then s
    else if on then
      if !s.diagRuns n f then s
      else
        let s := s.setFlag n f true
        if f = 5 && s.chMode n = 7 then s.setFlag n 6 true else s
    else if s.diagClears n f then s.setFlag n f false
    else s

/-! ### Trips and retirement (R315-R317) -/

/-- 60 s in SCLK clocks. -/
def minuteClk : Nat := 60000 * msClk

/-- The trips of a channel in the last 60 s. -/
def State.tripWindow (s : State) (n : Nat) : List Nat := (s.chan n).trips.filter (fun t => s.sclk < t + minuteClk)

/-- The trips of the running sequence: none once 60 s have passed without a trip. -/
def State.tripSeq (s : State) (n : Nat) : Nat :=
  match (s.chan n).trips with
  | t :: _ => if s.sclk < t + minuteClk then (s.chan n).seq else 0
  | [] => 0

/-- CH_TRIPS. -/
def State.chTrips (s : State) (n : Nat) : Word :=
  w32 (min 255 (s.tripWindow n).length + min 255 (s.tripSeq n) * 2 ^ 8 + s.regF (Reg.CH_TRIPS n) 31 16 * 2 ^ 16)

/-- The stage concerned can trip (Table 13.6): an output that stands, which it does in a NORMAL group only, or a loop supply. -/
def State.canTrip (s : State) (n : Nat) : Bool :=
  let m := s.chMode n
  let st := s.chState n
  s.hasChan n && (st = 1 || st = 7) && !s.notYet n &&
  (((m = 3 || m = 6) && (s.chan n).on) || (m = 4 && (s.chW n 0).bit 9))

/-- The time from the `k`-th trip of a sequence to the retry of the stage (R315). -/
def retryAfter (k : Nat) : Nat := if k ≤ 3 then 100 * msClk else 10000 * msClk

/-- A loop supply trips while its group is not NORMAL: it is off until its retry, and the trip is not counted (R315, R318). -/
def State.looseTrip (s : State) (n : Nat) (hot : Bool) : State :=
  let t := ((s.setFlag n (if hot then 4 else 3) true).chEvt n 0).stageOff n
  t.modChan n (fun c => { c with retry := some (t.sclk + retryAfter (s.tripSeq n + 1)), hot := hot, test := false })

/-- A trip (R315): the stage is off until its retry; the fifth within 60 s retires the channel (R316). -/
def State.chTrip (s : State) (n : Nat) (hot : Bool) : State :=
  if !s.canTrip n then s
  else if s.supply (grpOf n) ≠ 1 then s.looseTrip n hot
  else
    let seq := s.tripSeq n + 1
    let trips := s.sclk :: s.tripWindow n
    let s := (s.setFlag n (if hot then 4 else 3) true).chEvt n 0
    let s := (s.countF (Reg.CH_TRIPS n) 31 16 1).tally 64 1
    let s := s.stageOff n
    if 5 ≤ trips.length then
      let s := s.modChan n (fun c => { c with trips := trips, seq := seq, retired := true, retry := none, hot := false, test := false })
      (s.noteRetired (.channel n)).chEvt n 1
    else
      s.modChan n (fun c =>
        { c with trips := trips, seq := seq, retry := some (s.sclk + retryAfter seq), hot := hot, test := false })

/-- A tripped channel retries its stage; after an overtemperature only once it is below 130 degrees. The stage takes up
the command it had. -/
def State.tripRetry (s : State) (n : Nat) (cool : Bool) : State :=
  let c := s.chan n
  match c.retry with
  | some t =>
    if s.sclk < t || (c.hot && !cool) || !s.domainOn 9 then s
    else
      let s := s.modChan n (fun c => { c with retry := none, hot := false, changed := s.sclk })
      if s.mayStand n then s.modChan n (fun c => { c with on := true }) else s
  | none => s

/-- 60 s have passed without a trip. -/
def State.tripSeqEnd (s : State) (n : Nat) : State :=
  if s.tripSeq n = 0 then s.modChan n (fun c => { c with seq := 0, trips := [] }) else s

/-- A retirement record of a channel cleared (R317): it takes effect at its group's next I/O instant. -/
def State.revive (s : State) (n : Nat) : State :=
  let keep := fun r => r ≠ Retired.channel n
  let s := { s with mram := { retired := s.mram.retired.filter keep, waiting := s.mram.waiting.filter keep } }
  s.modChan n (fun c => { c with trips := [], seq := 0, reviving := true })

/-! ### Field supply (R318, R319) -/

/-- 100 us in SCLK clocks, from one sample of VFLDn to the next. -/
def sampleClk : Nat := 100 * usClk

/-- A sample of VFLDn, with the flag of low voltage. -/
def State.vfld (s : State) (g mv : Nat) : State :=
  let s := (s.setRegF (Reg.GRP_VFLD g) 15 0 (min 65535 mv)).extreme (24 + 4 * g) (min 65535 mv : Nat)
  let s := s.modGrp g (fun x => { x with lowAt := if mv ≤ 18000 then some s.sclk else x.lowAt
                                         okAt := if 16000 ≤ mv then some s.sclk else x.okAt })
  let s := if mv < s.regF (Reg.GRP_VFLD_MIN g) 15 0 then s.setRegF (Reg.GRP_VFLD_MIN g) 15 0 mv else s
  let s := if s.regF (Reg.GRP_VFLD_MAX g) 15 0 < mv then s.setRegF (Reg.GRP_VFLD_MAX g) 15 0 (min 65535 mv) else s
  if mv < 19200 && !s.regB (Reg.GRP_STS g) 2 then (s.setRegB (Reg.GRP_STS g) 2 true).raiseBit (29 + g) 1
  else if 19600 < mv then s.setRegB (Reg.GRP_STS g) 2 false
  else s

/-- SUPPLY changes; every output channel's state may change with it. -/
def State.setSupply (s : State) (g v : Nat) : State :=
  let s := s.setRegF (Reg.GRP_STS g) 1 0 v
  (((grpChans g).filter (fun n => outMode (s.chMode n))).foldl (fun s n =>
    s.modChan n (fun c => { c with on := c.on && v = 1, changed := s.sclk })) s).dropOuts g

/-- The sample is the `n`-th in a row past a threshold, the last sample on its other side having been taken at `t`. -/
def State.nthSample (s : State) (n : Nat) (t : Option Nat) : Bool := t.all (fun t => decide (t + n * sampleClk ≤ s.sclk))

/-- The 22nd consecutive sample below 16.0 V: the outputs of the group are off. -/
def State.supplyLost (s : State) (g mv : Nat) : State :=
  if !s.hasChan (16 * g) then s
  else
    let s := s.vfld g mv
    if 16000 ≤ mv || !s.nthSample 22 (s.grp g).okAt || (s.supply g ≠ 1 && s.supply g ≠ 3) then s
    else (((s.setSupply g 2).countF (Reg.GRP_SAG_CNT g) 15 0 1).tally 66 1).raiseBit (29 + g) 2

/-- The 101st consecutive sample above 18.0 V. -/
def State.supplyBack (s : State) (g mv : Nat) : State :=
  if !s.hasChan (16 * g) then s
  else
    let s := s.vfld g mv
    if mv ≤ 18000 || !s.nthSample 101 (s.grp g).lowAt then s
    else match s.supply g with
      | 0 => s.setSupply g 1
      | 2 => (s.setSupply g (if (s.grpW g 0).bit 0 then 3 else 1)).raiseBit (29 + g) 3
      | _ => s

/-- A write of GRP_ACK. -/
def State.restoreAck (s : State) (g : Nat) (v : Word) : State :=
  if v.bit 0 && s.supply g = 3 then s.setSupply g 1 else s

/-! ### The barrier link and the controllers (R322, R332, R333) -/

/-- A controller hears nothing for 50 us: PAR = 1 channels are released, PAR = 0 DO channels are off, and PAR = 0 AO
channels that stand output their alarm current. -/
def State.silence (s : State) (c : Nat) : State :=
  [2 * c, 2 * c + 1].foldl (fun s n =>
    if !s.hasChan n then s
    else if (s.chW n 0).bit 8 then s.modChan n (fun x => { x with silent := true, on := false, changed := s.sclk })
    else if s.chMode n = 3 then s.stageOff n
    else if s.standing n then
      let s := { s with free := s.free + 1 }
      let a := s.alarmNa n
      (s.setRegB (Reg.CH_STS n) 10 true).modChan n (fun x =>
        { x with cmd := a, changed := s.sclk })
    else s) s

/-- The controllers of the order. -/
def State.hasCtl (s : State) (c : Nat) : Bool := decide (c < 16) && s.hasGroup (c / 8)

/-- CHN_STS: the controllers that answer, MIXED, and the course of a chain transfer. -/
def State.chnSts (s : State) : Word :=
  let cs := (List.range 16).filter (fun c => s.hasCtl c && s.ctlRuns (2 * c))
  let builds := cs.map (fun c => s.regF (Reg.CHN_CCc c) 15 0)
  let mixed := match builds with | b :: rest => rest.any (fun x => x ≠ b) | [] => false
  (((s.reg Reg.CHN_STS).setFld 15 0 (cs.map (fun c => 2 ^ c)).sum).setBit 16 mixed)

/-- A change of the chain's state, with its interrupt when CHN_STS changes. -/
def State.chainChange (s : State) (f : State → State) : State :=
  let t := f s
  if t.chnSts = s.chnSts then t else t.raiseBit 29 11

/-- A controller restarts: `phase` 0 at the beginning, 1 when it lasts longer than 80 ms, 2 at its end. -/
def State.ctlRestart (s : State) (c phase : Nat) : State :=
  if !s.hasCtl c || !s.domainOn 9 then s
  else
    let st := s.regF (Reg.CHN_CCc c) 18 16
    match phase with
    | 0 => if st = 1 || st = 2 then s.chainChange (fun s => s.setRegF (Reg.CHN_CCc c) 18 16 3) else s
    | 1 => if st = 3 then s.silence c else s
    | _ => if st = 3 then s.chainChange (fun s => s.setRegF (Reg.CHN_CCc c) 18 16 1) else s

/-! ### Benchmark (R327) -/

/-- A benchmark ends with a deviation in ppm of span, or finds no slot for 60 s in a TRIGGERED group. One whose conversion a
converter start has met is abandoned, and a pulse test comes before it (Table 13.9). -/
def State.benchmark (s : State) (n : Nat) (dev : Int) (blocked : Bool) : State :=
  if !s.hasChan n || s.chMode n = 0 || s.notYet n || !s.ctlRuns n || (s.chan n).test then s
  else if blocked then if s.triggered (grpOf n) then s.setFlag n 14 true else s
  else if s.triggered (grpOf n) && s.converting (grpOf n) then s
  else
    let s := (s.setRegF (Reg.CH_BENCH n) 15 0 (pattern 16 dev)).setFlag n 14 false
    let s := s.modChan n (fun c => { c with bench := some s.now })
    s.setFlag n 13 (dev < -500 || 500 < dev)

/-! ### Fast inputs (R329, R330) -/

/-- Fast input `k` changes. -/
def State.setFi (s : State) (k : Nat) (x : FastIn) : State := { s with fis := sput {} s.fis k x }

/-- Word W3 + k of the item of group A. -/
def State.fiCfg (s : State) (k : Nat) : Word := s.grpW 0 (3 + k)

/-- A filtered edge, which began `back` nanoseconds ago. -/
def State.fiEdge (s : State) (k back : Nat) (rising : Bool) : State :=
  let x := s.fi k
  if 8 ≤ k || !s.domainOn 9 || x.level = rising then s
  else
    let t := s.now - back
    let w := s.fiCfg k
    let gone : Option (Nat × Bool) := x.hist[15]?
    let s := s.setFi k { x with
      level := rising, hist := ((t, rising) :: x.hist).take 16,
      goneUp := (gone.filter (fun g => g.2)).elim x.goneUp (fun g => g.1),
      goneDown := (gone.filter (fun g => !g.2)).elim x.goneDown (fun g => g.1) }
    let s := if w.bit 15 && s.dispatches then s.writeIn (1, w.fld 14 0, w32 (ofBool rising)) else s
    if !w.bit 23 then s
    else if 64 ≤ x.queue.length then (s.count (Reg.FIk_EV_DROP k)).raiseBit 29 9
    else
      let s := s.setFi k { s.fi k with queue := x.queue ++ [(t, rising)] }
      if x.queue = [] then s.raiseBit 29 8 else s

/-- A write of FIk_EV_POP. -/
def State.fiPop (s : State) (k : Nat) (v : Word) : State :=
  if v.bit 0 then s.setFi k { s.fi k with queue := (s.fi k).queue.tail } else s

/-- FIk_EV_NS, FIk_EV_SEC and FIk_EV_INFO of the head edge. -/
def State.fiHead (s : State) (k : Nat) : Word × Word × Word :=
  let q := (s.fi k).queue
  match q with
  | (t, r) :: _ =>
    let sec := t / 1000000000
    (w32 (t % 1000000000), w32 sec,
      w32 (sec / 2 ^ 32 % 2 ^ 16 + ofBool (!r) * 2 ^ 16 + q.length * 2 ^ 17 + 2 ^ 31))
  | [] => (0, 0, 0)

/-! ### Fast outputs (R331) -/

def State.fo (s : State) (k : Nat) : FastOut := sget {} s.fos k

/-- The level a fast output is commanded to: its Q bit with forces, or the last edge; the clock of an SSI output at an
instant is a free value (log 23). -/
def State.foCmd (s : State) (k : Nat) : Bool :=
  match s.foOwner k with
  | 0 => false
  | 1 => s.imgBit 2 ((s.grpW 0 (11 + k)).fld 16 2)
  | 2 => (s.fo k).level
  | _ => Config.freeValue 3 (s.sclk * 8 + k) % 2 = 1

/-- The fast output drives: it has an owner, the module drives, and no fault stands. -/
def State.foDrives (s : State) (k : Nat) : Bool := s.foOwner k ≠ 0 && s.drive 0 = 2 && (s.fo k).fault.isNone

/-- FIO_LEVEL; the measured level of an output at high impedance is the wiring's: a free value (log 23). -/
def State.fioLevel (s : State) : Word :=
  let bits (f : Nat → Bool) : Nat := ((List.range 8).map (fun k => if f k then 2 ^ k else 0)).sum
  let meas (k : Nat) : Bool := if s.foDrives k then s.foCmd k else Config.freeValue 4 (s.sclk * 8 + k) % 2 = 1
  w32 (bits (fun k => (s.fi k).level) + bits s.foCmd * 2 ^ 8 + bits meas * 2 ^ 16)

/-- FIO_STS. -/
def State.fioSts (s : State) : Word :=
  let bits (f : Nat → Bool) : Nat := ((List.range 8).map (fun k => if f k then 2 ^ k else 0)).sum
  w32 (bits (fun k => (s.fo k).fault.isSome) + bits (fun k => (s.fi k).queue ≠ []) * 2 ^ 8)

/-- A fast output has stood at its limit for 200 us. -/
def State.foFault (s : State) (k : Nat) : State :=
  if 8 ≤ k || !s.domainOn 9 || !s.foDrives k then s
  else
    let s := { s with fos := smod {} s.fos k (fun x => { x with fault := some s.sclk }) }
    (s.count Reg.FIO_FO_TRIPS).raiseBit 29 10

/-- A faulted output is retried after 100 ms. -/
def State.foRetry (s : State) (k : Nat) : State :=
  match (s.fo k).fault with
  | some t =>
    if s.sclk < t + 100 * msClk then s
    else { s with fos := smod {} s.fos k (fun x => { x with fault := none }) }
  | none => s

/-! ### A swap of the channel modes category (R301) -/

/-- A channel whose W0 has changed reconfigures; its trip history goes on. -/
def State.swapChan (s : State) (old : Sparse Word) (n : Nat) : State :=
  if sget 0 old (cfgKey 1 n 0) = s.chW n 0 then s
  else
    let s := s.setReg (Reg.CH_STS n) (s.reg (Reg.CH_STS n) &&& ~~~(Word.mask 10 3))
    s.modChan n (fun c =>
      { c with reconf := true, fresh := none, on := false, retry := none, hot := false, test := false, changed := s.sclk })

/-- An output that leaves STAKE loses its pending edges; one that comes to STAKE is low until its first edge. -/
def State.swapFo (s : State) (old : Sparse Word) (k : Nat) : State :=
  let was := (sget 0 old (cfgKey 1 32 (11 + k))).fld 1 0
  if was = s.foOwner k then s
  else
    let n := (s.edges k).length
    let s := s.setEdges k []
    let s := if n = 0 then s else (s.countF Reg.STK_FO_DROP 31 0 n).raiseBit 20 2
    { s with fos := smod {} s.fos k (fun x => { x with level := false }) }

/-- The words of the category before the swap, kept for what waits for the next I/O instant. -/
def State.keepIo (s : State) (old : Sparse Word) : State :=
  let ws := old.filter (fun e => decide (e.1 / (8192 * 1024) = 1))
  [0, 1].foldl (fun s g => s.modGrp g (fun x => { x with old := some (x.old.getD ws) })) s

/-- What a swap of the category does beside the new items, given the old active set. -/
def State.swapChannels (s : State) (old : Sparse Word) : State :=
  let s := (List.range 32).foldl (fun s n => s.swapChan old n) (s.keepIo old)
  let s := [0, 1].foldl (fun s g => s.dropOuts g) s
  (List.range 8).foldl (fun s k => s.swapFo old k) s

/-- Item words of a channel that are not checked and must not stand: MODE from 0x8 up, ALARM = 0x3. -/
def State.badChan (s : State) (n : Nat) : Bool := s.hasGroup (grpOf n) && (8 ≤ s.chMode n || (s.chW n 0).fld 6 5 = 3)

/-- The same of a group item: IO_PERIOD outside 100 to 10,000 us (an item of zeros is one that nobody has written), CONV_T
above 0x4, and a comparator period shorter than CONV_T + 60 us. -/
def State.badGroup (s : State) (g : Nat) : Bool :=
  let io := (s.grpW g 0).fld 21 8
  let t := (s.grpW g 2).fld 2 0
  s.hasGroup g && ((s.grpW g 0 ≠ 0 && (io < 100 || 10000 < io)) || 4 < t ||
    ((s.grpW g 0).bit 6 && (s.grpW g 1).toNat < convNs t + 60000))

/-- An SSI datum clocks fast output `k`. -/
def State.ssiClock (s : State) (k : Nat) : Bool :=
  (List.range 8).any (fun d => s.datSource d = 2 && 2 ≤ (s.encCfg d).fld 1 0 && (s.encCfg d).fld 7 5 = k)

/-- Addresses that the channel unit writes: space and bit or word. -/
def State.chanAddrs (s : State) (n : Nat) : List (Nat × Nat) :=
  let m := s.chMode n
  (if (m = 1 || m = 2) && (s.chW n 1).bit 15 then [(1, (s.chW n 1).fld 14 0)] else []) ++
  (if (m = 1 || m = 2 || m = 4 || m = 5) && (s.chW n 2).bit 15 then [(8, (s.chW n 2).fld 12 0)] else []) ++
  (if outMode m && (s.chW n 2).bit 31 then [(8, (s.chW n 2).fld 28 16)] else []) ++
  (if (s.chW n 4).bit 15 then [(8, (s.chW n 4).fld 12 0)] else [])

/-- The host has activated items that chapter 13 leaves unchecked and calls unpredictable; addresses are held against one
another among the channels and fast inputs (log 23). -/
def State.badChannels (s : State) : Bool :=
  let as := (List.range 32).flatMap s.chanAddrs ++
    (List.range 8).flatMap (fun k => if (s.fiCfg k).bit 15 then [(1, (s.fiCfg k).fld 14 0)] else [])
  (List.range 32).any s.badChan || s.badGroup 0 || s.badGroup 1 ||
  (List.range 8).any (fun k => s.ssiClock k ≠ decide (s.foOwner k = 3)) || decide (as.eraseDups.length ≠ as.length)

/-- Active items that chapter 13 calls unpredictable leave the channel unit in a state of its own (R5). -/
def State.checkChannels (s : State) : State := if s.badChannels then s.misused 299 0xD0000 else s

/-- A reconfigured channel has taken up its new mode, which acts from the first I/O instant after this clock. -/
def State.reconfigDone (s : State) (n : Nat) : State :=
  if (s.chan n).reconf then
    s.modChan n (fun c => { c with reconf := false, fresh := some s.sclk, changed := s.sclk })
  else s

/-! ### Views -/

/-- GRP_STS; OVERCURRENT stands while the DO total is above 6.0 A (R307). -/
def State.doTotal (s : State) (g : Nat) : Nat :=
  (((grpChans g).filter (fun n => s.chMode n = 3 && s.standing n)).map (fun n =>
    (clampInt 0 2000000000 (s.reg (Reg.CH_VALUE n)).toInt).toNat)).sum / 1000000
def State.grpSts (s : State) (g : Nat) : Word := (s.reg (Reg.GRP_STS g)).setBit 5 (decide (6000 < s.doTotal g))

/-! ### The commands -/

/-- IO_INSTANT. -/
def execIoInstant (dt g : Nat) (vals : List (Nat × Int)) (s : State) : Answer :=
  afterEv dt [⟨.ioInstant, g, 0⟩] s (fun s => s.ioInstant g vals)
/-- INPUT_WRITE. -/
def execInputWrite (dt g : Nat) (s : State) : Answer := after dt s (fun s => s.inputWrite g)
/-- OUTPUT_APPLY. -/
def execOutputApply (dt g : Nat) (s : State) : Answer :=
  afterEv dt [⟨.outApply, g, 0⟩] s (fun s => s.outputApply g)
/-- CONVERSION_DONE. -/
def execConversionDone (dt g : Nat) (vals : List (Nat × Int)) (s : State) : Answer :=
  after dt s (fun s => s.conversionDone g vals)
/-- DI_LEVEL_CHANGE: a level has been stable for FILTER (R306). -/
def execDiLevelChange (dt n : Nat) (level : Bool) (s : State) : Answer :=
  after dt s (fun s =>
    if s.hasChan n && s.ctlRuns n && (s.chMode n = 1 || s.chMode n = 2) then s.modChan n (fun c => { c with level := level })
    else s)
/-- CHANNEL_DIAGNOSTIC. -/
def execChannelDiagnostic (dt n flag : Nat) (on : Bool) (temp : Int) (s : State) : Answer :=
  after dt s (fun s => s.diagnostic n flag on temp)
/-- CHANNEL_TRIP. -/
def execChannelTrip (dt n : Nat) (overtemp : Bool) (s : State) : Answer :=
  afterEv dt [⟨.channelTrip, grpOf n, n⟩] s (fun s => s.chTrip n overtemp)
/-- TRIP_RETRY. -/
def execTripRetry (dt n : Nat) (cool : Bool) (s : State) : Answer :=
  afterEv dt [⟨.tripRetry, n, 0⟩] s (fun s => s.tripRetry n cool)
/-- TRIP_SEQUENCE_END. -/
def execTripSequenceEnd (dt n : Nat) (s : State) : Answer := after dt s (fun s => s.tripSeqEnd n)
/-- VFLD_LOW. -/
def execVfldLow (dt g mv : Nat) (s : State) : Answer :=
  after dt s (fun s => if s.hasChan (16 * g) then s.vfld g mv else s)
/-- SUPPLY_LOST. -/
def execSupplyLost (dt g mv : Nat) (s : State) : Answer :=
  afterEv dt [⟨.supplyLost, g, 0⟩] s (fun s => s.supplyLost g mv)
/-- SUPPLY_RECOVERY. -/
def execSupplyRecovery (dt g mv : Nat) (s : State) : Answer := after dt s (fun s => s.supplyBack g mv)
/-- BARRIER_LINK_SILENCE. -/
def execBarrierLinkSilence (dt c : Nat) (s : State) : Answer := after dt s (fun s => s.silence c)
/-- BENCHMARK. -/
def execBenchmark (dt n : Nat) (dev : Int) (blocked : Bool) (s : State) : Answer :=
  afterEv dt [⟨.benchmark, n, 0⟩] s (fun s => s.benchmark n dev blocked)
/-- FAST_INPUT_EDGE. -/
def execFastInputEdge (dt k back : Nat) (rising : Bool) (s : State) : Answer :=
  afterEv dt [⟨.fiEdge, k, 0⟩] s (fun s => s.fiEdge k back rising)
/-- FO_FAULT. -/
def execFoFault (dt k : Nat) (s : State) : Answer := after dt s (fun s => s.foFault k)
/-- FO_RETRY. -/
def execFoRetry (dt k : Nat) (s : State) : Answer := after dt s (fun s => s.foRetry k)
/-- CONTROLLER_RESTART. -/
def execControllerRestart (dt c phase : Nat) (s : State) : Answer := after dt s (fun s => s.ctlRestart c phase)
/-- RECONFIG_DONE. -/
def execReconfigDone (dt n : Nat) (s : State) : Answer := after dt s (fun s => s.reconfigDone n)

end Sys2Proof.Machine
end

