-- ==== Sys2Proof/Machine/Can.lean ====
section
/-!
DEFINITION. The CAN FD controllers (14 R337-R355): modes, transmission, identifier collisions, reception, timestamps and
bus state. What the bus does (arbitration, errors, the start of a frame) comes with the commands.
-/
namespace Sys2Proof.Machine

/-- The controller takes part in the bus: integrated and not bus-off. -/
def State.canOn (s : State) (n : Nat) : Bool :=
  s.hasCan n && s.canMode n ≠ 0 && s.regB (Reg.CANn_STS n) 2 && decide (s.canBus n < 2)

/-- The controller transmits: in NORMAL mode only (R345). -/
def State.canSends (s : State) (n : Nat) : Bool := s.canOn n && s.canMode n = 1

/-- A detected error: counted, its code kept, and the counters raised by what the standard adds for it. -/
def State.canError (s : State) (n lec tec rec : Nat) : State :=
  let s := (s.countF (Reg.CANn_ERRCNT n) 15 0 1).setRegF (Reg.CANn_ERR n) 18 16 lec
  s.setCounts n (s.regF (Reg.CANn_ERR n) 7 0 + tec) (s.canRec n + rec)

/-! ### Modes (R341) -/

/-- Bit timing that is not checked and must not stand while the controller is not OFF (Table 14.2): a nominal TSEG1 below
2, an SJW above TSEG2, and in CAN FD a data phase above 8 Mbit/s, which is ten CAN clocks a bit. -/
def State.badTiming (s : State) (n : Nat) : Bool :=
  let a := s.reg (Reg.CANn_NBT n)
  let d := s.reg (Reg.CANn_DBT n)
  a.fld 12 5 = 0 || a.fld 19 13 < a.fld 26 20 ||
  (s.regB (Reg.CANn_CTL n) 3 && (d.fld 13 10 < d.fld 17 14 || (d.fld 4 0 + 1) * (d.fld 9 5 + d.fld 13 10 + 3) < 10))

/-- A write of CANn_CTL: the mode takes effect at the next bit boundary. MODE = 0x3 and bit timing outside Table 14.2 are not
checked. -/
def State.canCtl (s : State) (n : Nat) (v : Word) : State :=
  let t := s.setReg (Reg.CANn_CTL n) (v &&& 0xF)
  if v.fld 1 0 = 3 then t.misused 341 (Reg.CANn_CTL n)
  else if v.fld 1 0 ≠ 0 && t.badTiming n then t.misused 339 (Reg.CANn_CTL n)
  else if t.canProg n = s.canProg n then t
  else t.canLater n (s.canMode n) (s.forcedRo n)

/-- 11 consecutive recessive bits have been seen. -/
def State.canSync (s : State) (n : Nat) : State :=
  if s.hasCan n && s.canMode n ≠ 0 then s.setRegB (Reg.CANn_STS n) 2 true else s

/-! ### The transmit event queue (R346) -/

/-- An entry that leaves its queue returns an event. -/
def State.canEvent (s : State) (n : Nat) (e : CanEntry) (status : Nat) (urgent : Bool) (ts : Word) : State :=
  let c := s.can n
  if 16 ≤ c.events.length then (s.count (Reg.CANn_TXE_DROP n)).raiseBit (31 + n) 3
  else
    let s := s.setCan n { c with events := c.events ++ [⟨e.ctl.fld 31 16, status, urgent, ts⟩] }
    if c.events = [] then s.raiseBit (31 + n) 2 else s

/-- A write of CANn_TXE_POP. -/
def State.txePop (s : State) (n : Nat) (v : Word) : State :=
  if v.bit 0 then s.setCan n { s.can n with events := (s.can n).events.tail } else s

/-- CANn_TXE_INFO. -/
def State.txeInfo (s : State) (n : Nat) : Word :=
  match (s.can n).events with
  | e :: rest => w32 (e.tag % 2 ^ 16 + e.status % 4 * 2 ^ 16 + ofBool e.urgent * 2 ^ 18 + (rest.length + 1) * 2 ^ 19 + 2 ^ 31)
  | [] => 0

/-- CANn_TXE_TS. -/
def State.txeTs (s : State) (n : Nat) : Word := match (s.can n).events with | e :: _ => e.ts | [] => 0

/-! ### Transmitting (R343, R344) -/

/-- A write of CANn_TX_PUSH: the staged frame is queued, or the result says why not. -/
def State.canPush (s : State) (n : Nat) (v : Word) : State :=
  if !v.bit 0 then s
  else
    let c := s.can n
    let id := s.reg (Reg.CANn_TX_ID n)
    let ctl := s.reg (Reg.CANn_TX_CTL n)
    let fdf := ctl.bit 4
    let full := if v.bit 1 then c.urgent.isSome else decide (32 ≤ c.fifo.length)
    let bad := (id.bit 30 && fdf) || (ctl.bit 5 && !fdf) || (decide (8 < ctl.fld 3 0) && !fdf)
    let e : CanEntry := { id := id, ctl := ctl, data := (List.range 16).map (fun i => s.reg (Reg.CANn_TX_DATAi n i)) }
    let s := s.setReg (Reg.CANn_TX_STS n) (if full then 1 else if bad then 2 else 0)
    if full || bad then s
    else s.setCan n (if v.bit 1 then { c with urgent := some e, urgentAt := s.sclk } else { c with fifo := c.fifo ++ [e] })

/-- An entry is held after three consecutive collisions (R347). -/
def CanEntry.held (e : CanEntry) : Bool := decide (3 ≤ e.hits)

/-- The entry of the urgent slot or the head of the FIFO. -/
def Can.head (c : Can) (urgent : Bool) : Option CanEntry := if urgent then c.urgent else c.fifo.head?

/-- That entry replaced, or removed. -/
def Can.setHead (c : Can) (urgent : Bool) (e : Option CanEntry) : Can :=
  if urgent then { c with urgent := e }
  else { c with fifo := match e with | some e => e :: c.fifo.tail | none => c.fifo.tail }

/-- The entry that can be on the bus: not held, and an FD frame only with FD_EN. -/
def State.canOffered (s : State) (n : Nat) (urgent : Bool) : Option CanEntry :=
  if !s.canSends n then none
  else match (s.can n).head urgent with
    | some e => if e.held || (e.ctl.bit 4 && !s.regB (Reg.CANn_CTL n) 3) then none else some e
    | none => none

/-- The frame that ends now began while its entry was the one offered: in the mode in effect, and a frame of the FIFO not
while an urgent entry was offered in its place (R341, R344). `back` is the age of its start in CAN clocks. -/
def State.canBegan (s : State) (n : Nat) (urgent : Bool) (back : Nat) : Bool :=
  let c := s.can n
  let up := c.urgent.any (fun e => !e.held)
  c.since + 10 * back ≤ s.sclk && (urgent || !up || s.sclk < c.urgentAt + 10 * back)

/-- A frame has been sent; a successful transmission lowers TEC (R337: the standard's counters). -/
def State.frameSent (s : State) (n : Nat) (urgent : Bool) (back : Nat) : State :=
  match s.canOffered n urgent with
  | some e =>
    if !s.canBegan n urgent back then s
    else
      let s := s.setCan n ((s.can n).setHead urgent none)
      let s := s.canEvent n e 1 urgent (w32 (s.sclk / 10 - back))
      s.setCounts n (s.regF (Reg.CANn_ERR n) 7 0 - 1) (s.canRec n)
  | none => s

/-- An attempt has ended in a collision (R347): the third in a row holds the entry. It is a bit error of the sender. -/
def State.idCollision (s : State) (n : Nat) (urgent : Bool) : State :=
  match s.canOffered n urgent with
  | some e =>
    let s := (s.count (Reg.CANn_IDCOL_CNT n)).setCan n ((s.can n).setHead urgent (some { e with hits := e.hits + 1 }))
    let s := if e.hits = 2 then s.raiseBit (31 + n) 4 else s
    s.canError n 4 8 0
  | none => s

/-- A frame of the FIFO is in transmission: a matter of the bus, so a free value while the head is offered (log 24). -/
def State.canTx (s : State) (n : Nat) (urgent : Bool) : Bool :=
  (s.canOffered n urgent).isSome && Config.freeValue 5 (s.sclk * 16 + 4 * n + ofBool urgent) % 2 = 1

/-- Which head RELEASE and DISCARD act on: the urgent entry first (R348). -/
def Can.heldHead (c : Can) : Option (Bool × CanEntry) :=
  match c.urgent.filter CanEntry.held, c.fifo.head?.filter CanEntry.held with
  | some e, _ => some (true, e)
  | none, some e => some (false, e)
  | none, none => none

/-- CANn_CMD.RELEASE. -/
def State.canRelease (s : State) (n : Nat) : State :=
  match (s.can n).heldHead with
  | some (u, e) =>
    let c := (s.can n).setHead u (some { e with hits := 0 })
    s.setCan n { c with urgentAt := if u then s.sclk else c.urgentAt }
  | none => s

/-- CANn_CMD.DISCARD. -/
def State.canDiscard (s : State) (n : Nat) : State :=
  match (s.can n).heldHead with
  | some (u, e) => (s.setCan n ((s.can n).setHead u none)).canEvent n e 2 u 0
  | none => s

/-- CANn_CMD.FLUSH. -/
def State.canFlush (s : State) (n : Nat) : State :=
  let c := s.can n
  let (stay, go) := if s.canTx n false then (c.fifo.take 1, c.fifo.drop 1) else ([], c.fifo)
  go.foldl (fun s e => s.canEvent n e 3 false 0) (s.setCan n { c with fifo := stay })

/-- CANn_CMD.RECOVER: the standard's recovery begins (R353). -/
def State.canRecover (s : State) (n : Nat) : State := if s.canBus n = 2 then s.setCanBus n 3 else s

/-- A write of CANn_CMD; more than one bit is not checked. -/
def State.canCmd (s : State) (n : Nat) (v : Word) : State :=
  match v.fld 3 0 with
  | 0 => s
  | 1 => s.canRelease n
  | 2 => s.canDiscard n
  | 4 => s.canFlush n
  | 8 => s.canRecover n
  | _ => s.misused 348 (Reg.CANn_CMD n)

/-! ### Receiving (R349, R350) -/

/-- Data bytes of a frame of a DLC. -/
def canLen (fdf : Bool) (dlc : Nat) : Nat :=
  if dlc ≤ 8 then dlc
  else if !fdf then 8
  else match dlc with
    | 9 => 12 | 10 => 16 | 11 => 20 | 12 => 24 | 13 => 32 | 14 => 48 | _ => 64

/-- The words of the data bytes of a frame, zero beyond its length. -/
def canWords (bytes : List Byte) (len : Nat) : List Word :=
  let b (i : Nat) : Nat := if i < len then (bytes.getD i 0).toNat else 0
  (List.range 16).map (fun i => w32 (b (4 * i) + b (4 * i + 1) * 2 ^ 8 + b (4 * i + 2) * 2 ^ 16 + b (4 * i + 3) * 2 ^ 24))

/-- The enabled object of an identifier with the lowest index. -/
def State.rxObj (s : State) (n key : Nat) : Option Nat :=
  (List.range 64).find? (fun k => s.regB (Reg.CANn_OBJk_CFG n k) 0 && s.regF (Reg.CANn_OBJk_ID n k) 29 0 = key)

/-- A valid frame: the enabled object of its identifier with the lowest index takes it. -/
def State.frameRx (s : State) (n : Nat) (id info : Word) (back : Nat) (bytes : List Byte) : State :=
  let fdf := info.bit 4
  if !s.canOn n || (fdf && !s.regB (Reg.CANn_CTL n) 3) || s.sclk < (s.can n).since + 10 * back then s
  else
    let key := id.fld 29 0
    let rec_ := s.canRec n
    let down := if 128 ≤ rec_ then 119 + Config.freeValue 6 s.free % 9 else rec_ - 1
    let s := ({ s with free := s.free + 1 } : State).setCounts n (s.regF (Reg.CANn_ERR n) 7 0) down
    match s.rxObj n key with
    | none => s.count (Reg.CANn_RX_UNMATCHED n)
    | some k =>
      let c := s.can n
      let old := sget {} c.objs k
      let len := if info.bit 7 then 0 else canLen fdf (info.fld 3 0)
      let x : CanObj := { info := info &&& 0xFF, id := w32 key, ts := w32 (s.sclk / 10 - back), data := canWords bytes len,
                          fresh := true, lost := old.lost || old.fresh }
      let s := s.setCan n { c with objs := sput {} c.objs k x }
      let s := if old.fresh then (s.count (Reg.CANn_RX_LOSTCNT n)).raiseBit (31 + n) 1 else s
      if s.regB (Reg.CANn_OBJk_CFG n k) 1 then s.raiseBit (31 + n) 0 else s

/-- A write of CANn_RX_SEL: the object is copied into the window, and its NEW and LOST clear. -/
def State.rxSel (s : State) (n : Nat) (v : Word) : State :=
  let k := v.fld 5 0
  let c := s.can n
  let x := sget {} c.objs k
  let s := s.setReg (Reg.CANn_RX_SEL n) (w32 k)
  let s := s.setReg (Reg.CANn_RX_INFO n) ((x.info.setBit 8 x.fresh).setBit 9 x.lost)
  let s := (s.setReg (Reg.CANn_RX_ID n) x.id).setReg (Reg.CANn_RX_TS n) x.ts
  let s := (List.range 16).foldl (fun s i => s.setReg (Reg.CANn_RX_DATAi n i) (item x.data i)) s
  s.setCan n { c with objs := sput {} c.objs k { x with fresh := false, lost := false } }

/-- CANn_RX_NEW0 and CANn_RX_NEW1. -/
def State.rxNew (s : State) (n half : Nat) : Word :=
  w32 ((List.range 32).map (fun j => if (sget {} (s.can n).objs (32 * half + j) : CanObj).fresh then 2 ^ j else 0)).sum

/-! ### Bus state (R353) -/

/-- The controller enters bus-off. -/
def State.busOff (s : State) (n : Nat) : State :=
  if !s.hasCan n || s.canMode n = 0 || 2 ≤ s.canBus n then s else s.enterBusOff n

/-- 128 occurrences of 11 recessive bits have been seen. -/
def State.busBack (s : State) (n : Nat) : State :=
  if s.hasCan n && s.canBus n = 3 then (s.setCanBus n 0).setCounts n 0 0 else s

/-- A bus error other than a collision. -/
def State.busError_ (s : State) (n lec tec rec : Nat) : State :=
  if s.canOn n && 1 ≤ lec && lec ≤ 6 then s.canError n lec tec rec else s

/-! ### Views and captures -/

/-- CANn_STS. -/
def State.canSts (s : State) (n : Nat) : Word :=
  let c := s.can n
  let w := s.reg (Reg.CANn_STS n)
  let w := ((w.setBit 3 (s.forcedRo n)).setBit 4 c.heldHead.isSome).setBit 5 c.urgent.isSome
  (w.setBit 6 (s.canTx n false || s.canTx n true)).setFld 13 8 c.fifo.length

/-- A write of CANn_TSC_CAP (R351). -/
def State.tscCap (s : State) (n : Nat) (v : Word) : State := if v.bit 0 then s.canCapture n else s

/-! ### The commands of the bus -/

/-- CAN_SYNC. -/
def execCanSync (dt n : Nat) (s : State) : Answer := after dt s (fun s => s.canSync n)
/-- CAN_FRAME_SENT. -/
def execCanFrameSent (dt n : Nat) (urgent : Bool) (back : Nat) (s : State) : Answer :=
  afterEv dt [⟨.canSent, n, 0⟩] s (fun s => s.frameSent n urgent back)
/-- ID_COLLISION. -/
def execIdCollision (dt n : Nat) (urgent : Bool) (s : State) : Answer :=
  afterEv dt [⟨.collision, n, 0⟩] s (fun s => s.idCollision n urgent)
/-- CAN_FRAME_RX. -/
def execCanFrameRx (dt n : Nat) (id info : Word) (back : Nat) (bytes : List Byte) (s : State) : Answer :=
  afterEv dt (((s.advance dt).rxObj n (id.fld 29 0)).toList.map (fun k => ⟨.canRx, n, k⟩)) s
    (fun s => s.frameRx n id info back bytes)
/-- BUS_OFF. -/
def execBusOff (dt n : Nat) (s : State) : Answer := after dt s (fun s => s.busOff n)
/-- BUS_OFF_RECOVERED. -/
def execBusOffRecovered (dt n : Nat) (s : State) : Answer := after dt s (fun s => s.busBack n)
/-- CAN_BUS_ERROR. -/
def execCanBusError (dt n lec tec rec : Nat) (s : State) : Answer := after dt s (fun s => s.busError_ n lec tec rec)

end Sys2Proof.Machine
end

