-- ==== Sys2Proof/Machine/Recorder.lean ====
section
/-!
DEFINITION. The event recorder (16 R385-R398): sequence numbers and slots, the record kinds, closing a stretch, and the
window (log 25).
-/
namespace Sys2Proof.Machine

/-- The highest SEQ among the valid records in MRAM. -/
def State.topSeq (s : State) : Nat :=
  (s.recd.slots.map (fun e => match e.2 with
    | some ws => if recGood ws then pair64 (item ws 0) (item ws 1) else 0
    | none => 0)).foldl max 0

/-- Slots that are not valid though they have been written. -/
def State.tornSlots (s : State) : Nat :=
  (s.recd.slots.filter (fun e => match e.2 with | some ws => !recGood ws | none => false)).length

/-- At start-up the next SEQ is one more than the higher of the counter in D0 and the highest SEQ in MRAM (R387), and REC_TORN
counts the slots found not valid. -/
def State.startSeq (s : State) : State :=
  let s := { s with recd := { s.recd with seq := max s.recd.seq s.topSeq } }
  if s.tornSlots = 0 then s else (s.setReg Reg.REC_TORN (w32 (min 0xFFFF s.tornSlots))).raiseBit 34 2

/-! ### Record bodies (Tables 16.3-16.5) -/

/-- Every retirement that has taken effect. -/
def State.retirements (s : State) : List Retired := s.mram.retired ++ s.mram.waiting

/-- BANKS_RET: banks retired and lanes retired. -/
def State.banksRet (s : State) : Word :=
  w32 ((List.range 24).map (fun n => if s.retirements.contains (.bank n) then 2 ^ n else 0)).sum +
  w32 ((List.range 2).map (fun l => if s.retirements.contains (.lane l) then 2 ^ (24 + l) else 0)).sum

/-- CH_RET. -/
def State.chRet (s : State) : Word :=
  w32 ((List.range 32).map (fun n => if s.retirements.contains (.channel n) then 2 ^ n else 0)).sum

/-- The body of a START record. -/
def State.startBody (s : State) : List Word :=
  [w32 (s.regF Reg.PWR_RST_CAUSE 7 0 + s.regF Reg.SYS_SLOT 1 0 * 2 ^ 8 + s.sysId.fld 7 0 * 2 ^ 16),
   s.reg Reg.SYS_FWREV, s.reg Reg.CMP_RETIRED, s.banksRet, s.chRet]

/-- The body of a TASK record. -/
def State.taskBody (s : State) (n : Nat) : List Word :=
  let t : TaskStat := sget {} s.recd.tasks n
  [w32 (n + (s.taskKind n + 4 * ofBool t.fixed + 8 * ofBool t.task) * 2 ^ 8 + t.execId % 256 * 2 ^ 16),
   w32 (bindDeadline (s.citem 4 n 24))] ++
  (List.range 16).map (fun b => w32 (sget 0 t.bins b)) ++
  [w32 t.started, w32 t.overruns, w32 (t.faults + t.deadlines * 2 ^ 16), w32 (t.wbuf + t.mismatch * 2 ^ 16),
   w32 (t.respMin.getD 0), w32 t.respMax, w32 t.runMax]

/-- Minimum and maximum of a measured value in the stretch, in the two halves of a word. -/
def State.extremeWord (s : State) (off : Nat) : Word :=
  match sget none s.recd.extremes off with
  | some (lo, hi) => w32 (pattern 16 lo + pattern 16 hi * 2 ^ 16)
  | none => 0

/-- A count of the stretch, by its offset in the body. -/
def State.countOf (s : State) (off : Nat) : Nat := sget 0 s.recd.counts off
/-- A lifetime counter, by its offset in the body. -/
def State.lifeCount (s : State) (off : Nat) : Nat := sget 0 s.recd.life off

/-- The body of a SUMMARY record. -/
def State.summaryBody (s : State) : List Word :=
  let two (off : Nat) : Word := w32 (s.countOf off + s.countOf (off + 2) * 2 ^ 16)
  [s.extremeWord 16, s.extremeWord 20, s.extremeWord 24, s.extremeWord 28, s.extremeWord 32 &&& 0xFFFF,
   s.extremeWord 36, s.extremeWord 40, s.extremeWord 44] ++
  [48, 52, 56, 60, 64, 68, 72].map two ++
  [76, 80, 84, 88, 92, 96, 100, 104].map (fun off => w32 (s.lifeCount off)) ++
  [s.reg Reg.CMP_RETIRED, s.banksRet, s.chRet]

/-! ### Stretches (R388-R390) -/

/-- A stretch begins: nothing counted, the extremes at the present values. -/
def State.beginStretch (s : State) : State :=
  let v (off a hi lo : Nat) (s : State) : State := s.extreme off (s.regF a hi lo : Nat)
  let t (off a hi lo : Nat) (s : State) : State := s.extreme off (signed 16 (s.regF a hi lo))
  let s := { s with recd := { s.recd with counts := [], tasks := [], extremes := [], began := some s.sclk } }
  let s := (v 16 Reg.PWR_VLOG 15 0 s) |> v 20 Reg.PWR_VLOG 31 16 |> v 24 (Reg.GRP_VFLD 0) 15 0
  let s := if s.hasGroup 1 then v 28 (Reg.GRP_VFLD 1) 15 0 s else s
  let s := (v 32 Reg.PWR_VBAK 15 0 s) |> t 36 Reg.PWR_TEMP 15 0 |> t 44 Reg.PWR_TEMP 31 16
  ((List.range 16).filter s.hasCtl).foldl (fun s c => t 40 (Reg.CH_TEMP (2 * c)) 15 0 s) s

/-- The START record of a start-up (R390). -/
def State.startRecord (s : State) : State := (s.putRecord ⟨1, 0, 0, s.startBody⟩).beginStretch

/-- A lifetime counter counts; it saturates. -/
def State.lifeAdd (s : State) (off n : Nat) : State :=
  { s with recd := { s.recd with life := smod 0 s.recd.life off (fun c => satAdd 0xFFFFFFFF c n) } }

/-- The records of a stretch that closes with a cause of Table 16.1: its TASK records in ascending task number, then its
SUMMARY (R388). -/
def State.closing (s : State) (cause minutes : Nat) : List RecWrite :=
  let tasks := (List.range 32).filter (fun n => decide (0 < (sget {} s.recd.tasks n : TaskStat).started))
  tasks.map (fun n => ⟨2, 0, minutes, s.taskBody n⟩) ++ [⟨3, cause, minutes, s.summaryBody⟩]

/-- The stretch closes: its records are written one after the other, and the next stretch begins. No stretch is open before
the START record. The loss of PRESENT or of both feeds makes no second close of one that is in progress (Table 16.6). -/
def State.closeStretch (s : State) (cause : Nat) : State :=
  match s.recd.began with
  | none => s
  | some b =>
    if s.recd.todo ≠ [] && (cause = 2 || cause = 3) then s
    else
      let minutes := min 0xFFFF ((s.sclk - b) / minuteClk)
      let s := s.lifeAdd 104 minutes
      let s := if cause = 2 then s.lifeAdd 100 1 else s
      let next := if s.recd.todo = [] then s.sclk else s.recd.next
      ({ s with recd := { s.recd with todo := s.recd.todo ++ s.closing cause minutes, next := next } } : State).beginStretch

/-- The summary period passes (R389). -/
def State.periodEnd (s : State) : State :=
  match s.recd.began with
  | some b =>
    let p := s.regF Reg.REC_PERIOD 10 0
    if p = 0 || s.sclk < b + p * minuteClk then s else s.closeStretch 1
  | none => s

/-! ### The window and the views (R396, R398) -/

/-- The words of a slot, if it has ever been written. -/
def State.slotWords (s : State) (area index : Nat) : Option (List Word) :=
  if area = 0 && 256 ≤ index then none else sget none s.recd.slots (area * 256 + index)

/-- A write of REC_SEL: the slot is copied into the window. -/
def State.recSel (s : State) (v : Word) : State :=
  let w := s.slotWords (v.fld 11 11) (v.fld 10 0)
  let sts : Word := match w with
    | some ws => if recGood ws then 1 else if item ws 31 = recMark then 2 else 0
    | none => 4
  let ws := w.getD []
  let s := (s.setReg Reg.REC_SEL (v &&& 0xFFF)).setReg Reg.REC_WIN_STS sts
  (List.range 32).foldl (fun s i => s.setReg (Reg.REC_WINi i) (item ws i)) s

/-- REC_STS. -/
def State.recSts (s : State) : Word :=
  w32 (ofBool s.recd.began.isSome + 2 * ofBool (decide (s.recd.todo ≠ [])) + 4 * ofBool (decide (256 ≤ s.recd.seq)) + 8 * ofBool (decide (2305 ≤ s.recd.seq)))

/-- REC_ELAPSED. -/
def State.recElapsed (s : State) : Word :=
  match s.recd.began with
  | some b => w32 (min 86400 ((s.sclk - b) / (1000 * msClk)))
  | none => 0

/-- The number of valid records of an area, for REC_INFO. -/
def State.recValid (s : State) (area : Nat) : Nat :=
  (s.recd.slots.filter (fun e => (if area = 0 then e.1 < 256 else 256 ≤ e.1) &&
    (match e.2 with | some ws => recGood ws | none => false))).length

/-- PERIOD_END. -/
def execPeriodEnd (dt : Nat) (s : State) : Answer := afterEv dt [⟨.periodEnd, 0, 0⟩] s State.periodEnd

end Sys2Proof.Machine
end

