-- ==== Sys2Proof/Machine/Unchecked.lean ====
section
/-!
DEFINITION. Items of the active set that pass the check of Table 3.7 and break a rule that their chapter leaves unchecked
(Table 2.10): when a swap makes one active, the unit is left unpredictable (R5, log 78).
-/
namespace Sys2Proof.Machine

/-- The half-open spans [a, a + n) and [b, b + m) share a word. -/
def meets (a n b m : Nat) : Bool := decide (a < b + m) && decide (b < a + n) && decide (0 < n) && decide (0 < m)

/-- Some two of the spans meet. -/
def anyMeet : List (Nat × Nat) → Bool
  | [] => false
  | p :: ps => ps.any (fun q => meets p.1 p.2 q.1 q.2) || anyMeet ps

/-- Two elements of a list are the same. -/
def anyTwice {α : Type} [DecidableEq α] : List α → Bool
  | [] => false
  | x :: xs => xs.contains x || anyTwice xs

/-! ### Datums (chapter 05) -/

/-- The datum that a chain of `fuel` gearings reaches from `d`; none where it ends at a datum that is not GEARED. -/
def State.gearEnd (s : State) : Nat → Nat → Option Nat
  | 0, d => some d
  | fuel + 1, d => if s.datSource d = 4 then State.gearEnd s fuel (s.datGsrc d) else none

/-- A datum definition that chapter 05 leaves unchecked: DEN = 0, a cycle of gearings, HORIZON, SSI_BITS, FIT_T or SSI_RATE out
of range, a VPROF that another datum names. -/
def State.badDatum (s : State) (d : Nat) : Bool :=
  let src := s.datSource d
  let h := (s.datCfg d).fld 19 12
  let enc := s.encCfg d
  (src ≠ 0 && (h < 4 || 128 < h)) || (src = 4 && ((s.datRatio d).2 = 0 || (s.gearEnd 8 d).isSome)) ||
  (src = 2 && (5 < enc.fld 14 12 || (2 ≤ enc.fld 1 0 && (enc.fld 22 18 < 9 || 4 < enc.fld 25 23)))) ||
  (src = 1 && s.datVprof d ≠ 0xFFF && (List.range 8).any (fun k => k ≠ d && s.datSource k = 1 && s.datVprof k = s.datVprof d))

/-! ### Traverse (chapter 07) -/

/-- The items of stations in use, by their number. -/
def State.stnItems (s : State) : List Nat := ((List.range 1020).map (· + 16)).filter (fun k => s.cw 3 k 0 ≠ 0)

/-- A range [15:0] with the length [31:16] as a span. -/
def rangeOf (w : Word) : Nat × Nat := (w.fld 15 0, w.fld 31 16)

/-- A port's item: CYCLE_NS, DURATION, or a class whose queue's gate never opens. -/
def State.badPort (s : State) (n : Nat) : Bool :=
  let c := (s.cw 3 n 0).toNat
  let len := (s.cw 3 n 1).fld 24 16
  c ≠ 0 && (c < 62500 || 4000000 < c || c % 500 ≠ 0 ||
    (List.range len).any (fun g => (s.cw 3 n (9 + 2 * g)).toNat < 100) ||
    (List.range 9).any (fun k =>
      !(List.range len).any (fun g => (s.cw 3 n (8 + 2 * g)).bit ((s.cw 3 n 2).fld (3 * k + 2) (3 * k)))))

/-- A station's item: its image ranges and its LEN. -/
def State.badStation (s : State) (k : Nat) : Bool :=
  let r (w : Nat) : Nat × Nat := rangeOf (s.cw 3 k w)
  let past (p : Nat × Nat) (size : Nat) : Bool := p.2 ≠ 0 && size < p.1 + p.2
  past (r 3) (4 * spaceWords 2) || past (r 4) (spaceWords 8) || past (r 5) (4 * spaceWords 1) || past (r 6) (spaceWords 8) ||
  1024 < (r 3).2 + 4 * (r 4).2 || 1024 < (r 5).2 + 4 * (r 6).2

/-- The Traverse schedule: its items, two stations of one number or one address on a port, output ranges that meet. -/
def State.badTraverse (s : State) : Bool :=
  let ks := s.stnItems
  (List.range 4).any s.badPort || ks.any s.badStation ||
  anyTwice (ks.map (fun k => (s.cw 3 k 0).fld 9 0)) ||
  anyTwice (ks.map (fun k => ((s.cw 3 k 0).fld 1 0, (s.cw 3 k 0).fld 31 16))) ||
  anyMeet (ks.map (fun k => rangeOf (s.cw 3 k 3))) || anyMeet (ks.map (fun k => rangeOf (s.cw 3 k 4)))

/-! ### Tasks (chapter 09) -/

/-- The read windows of a task in use: space, first word and count. -/
def State.taskWindows (s : State) (n : Nat) : List (Nat × Nat × Nat) :=
  ((List.range 8).map (fun w => ((s.cw 4 n (8 + 2 * w)).fld 3 0, (s.cw 4 n (8 + 2 * w)).fld 31 12, (s.cw 4 n (9 + 2 * w)).toNat))).filter
    (fun x => x.2.2 ≠ 0)

/-- A task binding: its windows, its code, its period. -/
def State.badTask (s : State) (n : Nat) : Bool :=
  let ws := s.taskWindows n
  let len := (s.cw 4 n 4).fld 19 0
  s.taskKind n ≠ 0 && (
    8192 < (ws.map (fun x => x.2.2)).sum ||
    ws.any (fun x => !([1, 2, 3, 4, 5, 6, 8, 10].contains x.1) || spaceWords x.1 < x.2.1 + x.2.2) ||
    anyMeet (ws.map (fun x => (x.1 * 2 ^ 32 + x.2.1, x.2.2))) ||
    2 ^ 20 < (s.cw 4 n 3).fld 19 0 + len || len ≤ (s.cw 4 n 5).fld 19 0 ||
    (s.taskKind n ≠ 2 && ((s.cw 4 n 1).toNat < 10000 || (s.cw 4 n 1).toNat ≤ (s.cw 4 n 2).toNat ||
      (List.range 32).any (fun k => (s.taskKind k = 1 || s.taskKind k = 3) && (s.cw 4 k 0).fld 13 10 = (s.cw 4 n 0).fld 13 10 &&
        (s.cw 4 k 1, s.cw 4 k 2) ≠ (s.cw 4 n 1, s.cw 4 n 2)))))

/-! ### Blocks (chapter 10) -/

/-- An item of the instance directory: SIZE, PAIR, HORIZON. -/
def State.badInst (s : State) (i : Nat) : Bool :=
  let w (k : Nat) : Word := s.cw 6 i k
  (w 2).fld 19 0 < blkSize ((w 0).fld 2 0) || (w 0).fld 15 8 < 0x30 || 0x34 < (w 0).fld 15 8 ||
  ((w 8).bit 31 && ((w 8).fld 21 14 < 4 || 128 < (w 8).fld 21 14))

/-- The instance directory: its items, instance words that meet, and one axis stream fed twice. -/
def State.badInsts (s : State) : Bool :=
  let is := s.allocated
  is.any s.badInst || anyMeet (is.map (fun i => ((s.cw 6 i 1).fld 19 0, (s.cw 6 i 2).fld 19 0))) ||
  anyTwice ((is.filter (fun i => (s.cw 6 i 8).bit 31)).map (fun i => (s.cw 6 i 8).fld 9 0))

/-! ### At a swap -/

/-- Each unit of a covered category whose active items break an unchecked rule is left unpredictable. -/
def State.checkItems (s : State) (covered : Nat → Bool) : State :=
  let s := if covered 2 && (List.range 8).any s.badDatum then s.misused 112 0x40000 else s
  let s := if covered 3 && s.badTraverse then s.misused 163 0x60000 else s
  let s := if covered 4 && (List.range 32).any s.badTask then s.misused 195 0x80000 else s
  let s := if covered 6 && s.badInsts then s.misused 218 0xA0000 else s
  if covered 1 || covered 2 then s.checkChannels else s

end Sys2Proof.Machine
end

