-- ==== Sys2Proof/Machine/Vote.lean ====
section
/-!
DEFINITION. Triplicated fields (02 R36, R37): which fields have three copies, upsets of the copies, the vote and the scrub.
-/
namespace Sys2Proof.Machine

/-- The register at an address: the region file of an ID that is no master, MBX_POST of mailboxes 8-15 and MBX_TAKE of
mailboxes 0-7 hold none. -/
def regAt (a : Nat) : Option (RegDesc × Nat × Nat) :=
  match findReg a with
  | some (d, i, j) =>
    match d.tag with
    | .MPU_BASE_LO | .MPU_BASE_HI | .MPU_ATTR => if masterId i then some (d, i, j) else none
    | .MBX_POST => if i < 8 then some (d, i, j) else none
    | .MBX_TAKE => if 8 ≤ i then some (d, i, j) else none
    | _ => some (d, i, j)
  | none => none

/-- The bits of a register that are triplicated and voted (R36, R195). -/
def votedBits (t : RegTag) : Word :=
  match t with
  | .PAIR_ROLE => 7
  | .PAIR_EPOCH => 0xFFFFFFFF
  | .BNK_OWN => 0xFF
  | .LCK_i => 0xFF
  | .MPU_ATTR => 1
  | .GRP_CTL => 1
  | .GRP_CHEN => 0xFFFF
  | .CH_CFG => 0xF
  | .PLM_TASKn_BIND => 0x1F3FFF
  | .PLM_TASKn_PERIOD | .PLM_TASKn_PHASE | .PLM_TASKn_DEADLINE => 0xFFFFFFFF
  | .PLM_TASKn_CODE | .PLM_TASKn_LEN | .PLM_TASKn_ENTRY => 0xFFFFF
  | .UPD_ACT_NS => 0x3FFFFFFF
  | .UPD_ACT_SEC => 0xFFFFFFFF
  | .UPD_ACT_EXT => 0x3FFFF
  | _ => 0

/-- The word of the active set that a voted register shows, by key. -/
def votedKey (t : RegTag) (i j : Nat) : Option Nat :=
  match t with
  | .MPU_ATTR => some (cfgKey 7 i (3 * j + 2))
  | .CH_CFG => some (cfgKey 1 i 0)
  | .PLM_TASKn_BIND => some (cfgKey 4 i 0)
  | .PLM_TASKn_PERIOD => some (cfgKey 4 i 1)
  | .PLM_TASKn_PHASE => some (cfgKey 4 i 2)
  | .PLM_TASKn_CODE => some (cfgKey 4 i 3)
  | .PLM_TASKn_LEN => some (cfgKey 4 i 4)
  | .PLM_TASKn_ENTRY => some (cfgKey 4 i 5)
  | .PLM_TASKn_DEADLINE => some (cfgKey 4 i 6)
  | _ => none

/-- The number under which word `w` of the item of task `n` stands among the triplicated fields: the read windows W8-W23 are
fields that no register shows (R195, log 81). -/
def windowField (n w : Nat) : Nat := 0x200000 + n * 32 + w

/-- The triplicated bits of a field, and the word of the active set that holds it; none where a register does. The field is
given by its register's address, or as `windowField` numbers it. -/
def votedField (a : Nat) : Option (Word × Option Nat) :=
  if 0x200000 ≤ a then
    let n := (a - 0x200000) / 32
    let w := (a - 0x200000) % 32
    if n < 32 && 8 ≤ w && w < 24 then some (if w % 2 = 0 then 0xFFFFF00F else 0xFFFFFFFF, some (cfgKey 4 n w)) else none
  else match regAt a with
    | some (d, i, j) => some (votedBits d.tag, votedKey d.tag i j)
    | none => none

/-- Upsets of the three copies of a field, in the bits that are triplicated. What two copies agree on is the field's value
from then on, and each copy is held as its difference from that value. -/
def State.upset (s : State) (a : Nat) (x y z : Word) : State :=
  match votedField a with
  | some (k, key) =>
    let (p, q, r) := s.flipsAt a
    let f := (p ^^^ (x &&& k), q ^^^ (y &&& k), r ^^^ (z &&& k))
    let v := majority f
    let s : State := if v = 0 then s else match key with
      | some c => { s with cfgA := sput 0 s.cfgA c (sget 0 s.cfgA c ^^^ v) }
      | none => { s with regs := sput (regReset a) s.regs a (s.reg a ^^^ v) }
    { s with flips := sput (0, 0, 0) s.flips a (f.1 ^^^ v, f.2.1 ^^^ v, f.2.2 ^^^ v) }
  | none => s

/-- What SYS_TMR_LAST takes for a field: its register's address; for a field that no register shows the manual states none
(log 81). -/
def State.fieldAddr (s : State) (a : Nat) : Word × State :=
  if a < 0x200000 then (w32 a, s) else let (i, t) := s.fresh; (w32 (Config.freeValue 14 i), t)

/-- A vote of a field (R37): copies that disagree are rewritten with the voted value, and the disagreement is counted, located and
signalled. -/
def State.vote (s : State) (a : Nat) : State :=
  if s.flipsAt a = (0, 0, 0) then s
  else
    let (w, s) := ({ s with flips := sput (0, 0, 0) s.flips a (0, 0, 0) } : State).fieldAddr a
    (((s.count Reg.SYS_TMR_CNT).setReg Reg.SYS_TMR_LAST w).tally 54 1).raiseBit 0 1

/-- The scrub votes every triplicated field (R37). -/
def State.scrubVotes (s : State) : State := (s.flips.map (·.1)).foldl State.vote s

/-- The fields of the categories of a mask have been written with their three copies. -/
def State.rewritten (s : State) (covered : Nat → Bool) : State :=
  { s with flips := s.flips.filter (fun e => match votedField e.1 with
      | some (_, some k) => !covered (k / (8192 * 1024))
      | _ => true) }

end Sys2Proof.Machine
end

