-- ==== Sys2Proof/Machine/ConfigSets.lean ====
section
/-!
DEFINITION. The configuration sets (03 R64-R70): the categories and their items, the check of Table 3.7, and what a swap
does to every unit in its clock.
-/
namespace Sys2Proof.Machine

/-! ### Categories and items (Table 3.6) -/

/-- The category of a key. -/
def keyCat (k : Nat) : Nat := k / (8192 * 1024)
/-- The item of a key. -/
def keyItem (k : Nat) : Nat := k / 1024 % 8192

/-- The words of an item by the layout of its owning chapter; 0 for an item outside the category. Item numbers of the MPU
maps are master IDs, of which the check refuses the wrong ones. -/
def itemWords (cat it : Nat) : Nat :=
  match cat with
  | 1 => if it < 32 then 5 else if it < 34 then 19 else 0
  | 2 => if it < 8 then 14 else 0
  | 3 => if it < 4 then 520 else if 16 ≤ it ∧ it < 16 + 4 * 255 then 11 else 0
  | 4 => if it < 32 then 24 else 0
  | 5 => if it < 4096 then 6 else if it < 4104 then 10 else 0
  | 6 => if it < 2048 then 9 else 0
  | 7 => if it < 256 then 48 else 0
  | _ => 0

/-- A mask covers a category (R64). -/
def covers (mask cat : Nat) : Bool := 1 ≤ cat && cat ≤ 7 && mask / 2 ^ (cat - 1) % 2 = 1

/-- The set that takes the covered categories from `b` and the rest from `a`. -/
def mergeSets (mask : Nat) (a b : Sparse Word) : Sparse Word :=
  (List.range 8).flatMap (fun c => (if covers mask c then b else a).filter (fun e => keyCat e.1 = c))

/-- The items of a category that a set lists. -/
def listed (cfg : Sparse Word) (cat : Nat) : List Nat :=
  ((cfg.filter (fun e => keyCat e.1 = cat)).map (fun e => keyItem e.1)).eraseDups

/-! ### The check (R67, Table 3.7) -/

/-- A word of an item of a set. -/
def cfgWord (c : Sparse Word) (cat it w : Nat) : Word := sget 0 c (cfgKey cat it w)

/-- A pair of a Plumb cluster, or the second engine of one that can split (Tables 9.1, 11.1). -/
def plumbId (id : Nat) : Bool :=
  let b := id % 0x80
  (b / 16 = 1 || b / 16 = 2) && (b % 16 < 8 || (b % 16 = 8 && id < 0x80))

/-- An item refers to a unit that is absent in the order code (Table 1.5). -/
def State.refersAbsent (s : State) (c : Sparse Word) (cat it : Nat) : Bool :=
  let w (i : Nat) : Word := cfgWord c cat it i
  let small := s.order = Order.s
  let ports := if small then 0xC else 0
  match cat with
  | 1 => small && ((16 ≤ it && it < 32 && (w 0).fld 3 0 ≠ 0) || it = 33)
  | 2 => small && ((w 0).fld 11 8 &&& ports ≠ 0 || ((w 0).fld 2 0 = 3 && 2 ≤ (w 13).fld 1 0))
  | 3 => small && (it = 2 || it = 3 || (16 ≤ it && w 0 ≠ 0 && 2 ≤ (w 0).fld 1 0))
  | 4 => (w 0).fld 9 8 ≠ 0 && s.order ≠ Order.f && 0x20 ≤ (w 0).fld 6 0 && (w 0).fld 6 0 ≤ 0x28
  | 5 => it < 4096 && small && (((w 0).fld 15 12 = 3 && (w 5).bit 1) || ((w 0).fld 15 12 = 5 && 2 ≤ (w 5).fld 1 0))
  | 6 => (w 0).fld 2 0 ≠ 0 && small && (w 8).bit 31 && (w 8).fld 13 10 &&& ports ≠ 0
  | 7 => masterId it && (if 0x80 ≤ it then 0xA0 ≤ it && s.order ≠ Order.f else !s.issued it)
  | _ => false

/-- An item refers to a retired unit: a channel in any mode but OFF, or a pair whose work no spare serves. -/
def State.refersRetired (s : State) (c : Sparse Word) (cat it : Nat) : Bool :=
  let w := cfgWord c cat it 0
  match cat with
  | 1 => it < 32 && w.fld 3 0 ≠ 0 && (s.chan it).retired && !(s.chan it).reviving
  | 4 => w.fld 9 8 ≠ 0 && s.cmpBase (cmpIndex (w.fld 6 0)) = 4 && (s.servedBy (w.fld 7 0)).isNone
  | 6 => w.fld 2 0 ≠ 0 && s.cmpBase (cmpIndex (w.fld 15 8)) = 4 && (s.servedBy (w.fld 15 8)).isNone
  | _ => false

/-- The datum an item names is defined in the set. -/
def datDefined (c : Sparse Word) (d : Nat) : Bool := (cfgWord c 2 d 0).fld 2 0 ≠ 0

/-- A reference of Table 3.7 that does not hold. -/
def badReference (c : Sparse Word) (cat it : Nat) : Bool :=
  let w (i : Nat) : Word := cfgWord c cat it i
  match cat with
  | 2 => (w 0).fld 2 0 = 4 && ((w 0).fld 6 4 = it || !datDefined c ((w 0).fld 6 4))
  | 3 => it < 4 && w 0 ≠ 0 && (List.range 4).any (fun n =>
      cfgWord c 3 n 0 ≠ 0 && (cfgWord c 3 n 1).fld 3 0 = (w 1).fld 3 0 && cfgWord c 3 n 0 ≠ w 0)
  | 4 => (w 0).fld 9 8 ≠ 0 && !(plumbId ((w 0).fld 7 0))
  | 5 => it < 4096 && w 0 ≠ 0 && (!datDefined c ((w 0).fld 2 0) ||
      ((w 0).fld 15 12 = 2 && (cfgWord c 4 ((w 5).fld 4 0) 0).fld 9 8 = 0))
  | 6 => (w 0).fld 2 0 ≠ 0 && !(0x30 ≤ (w 0).fld 15 8 && (w 0).fld 15 8 ≤ 0x35)
  | _ => false

/-- More than a unit holds (Table 3.7): a gate list, the stations of a port or of the module, instance data. -/
def badCapacity (c : Sparse Word) (cat it : Nat) : Bool :=
  let w (i : Nat) : Word := cfgWord c cat it i
  let onPort (p : Nat) : Nat := ((listed c 3).filter (fun k => 16 ≤ k && cfgWord c 3 k 0 ≠ 0 && (k - 16) / 255 = p)).length
  match cat with
  | 3 => if it < 4 then 256 < (w 1).fld 24 16 else
      w 0 ≠ 0 && (255 < onPort ((it - 16) / 255) || 512 < onPort 0 + onPort 1 + onPort 2 + onPort 3)
  | 6 =>
    let held := (listed c 6).filter (fun k => k ≤ it && (cfgWord c 6 k 0).fld 2 0 ≠ 0)
    (w 0).fld 2 0 ≠ 0 && (0x100000 < (w 1).fld 19 0 + (w 2).fld 19 0 ||
      0x100000 < (held.map (fun k => (cfgWord c 6 k 2).fld 19 0)).sum)
  | _ => false

/-- The first item, in the order of the categories, that fails the check of a set covered by a mask. -/
def State.checkSet (s : State) (mask : Nat) (c : Sparse Word) : Option (Nat × Nat) :=
  let changed (cat it : Nat) : Bool := covers mask cat &&
    (List.range (itemWords cat it)).any (fun w => cfgWord c cat it w ≠ s.cw cat it w)
  let bad (cat it : Nat) : Bool :=
    s.refersAbsent c cat it || (changed cat it && s.refersRetired c cat it) || badReference c cat it ||
    badCapacity c cat it || (cat = 7 && !masterId it)
  ((List.range 8).flatMap (fun cat => (listed c cat).map (fun it => (cat, it)))).find? (fun p => bad p.1 p.2)

/-- The set that a swap of a mask would make active. -/
def State.resulting (s : State) (mask : Nat) : Sparse Word := mergeSets mask s.cfgA s.cfgS

/-! ### What a swap does in its clock -/

/-- The words of a definition that a running datum may not change: all but PUB, HORIZON, NUM and DEN. -/
def datFixed (c : Sparse Word) (d : Nat) : List Word :=
  let w (i : Nat) : Word := cfgWord c 2 d i
  [(w 0) &&& ~~~(Word.mask 19 8), w 1, w 2] ++ (List.range 9).map (fun i => w (5 + i))

/-- The definition of datum `d` at a swap (R95, R96, R105-R107, R111): one that first becomes active stands at position 0; the
change of a STOPPED one starts its SEQ count, its encoder and its gearing afresh; UNDEFINED loses everything. -/
def State.swapDatum (s : State) (old : Sparse Word) (d : Nat) : State :=
  if datFixed old d = datFixed s.cfgA d then s
  else if s.datSource d = 0 then s.setDat d {}
  else if (cfgWord old 2 d 0).fld 2 0 = 0 then s.setDat d { st := .stopped, enc := s.newEncoder d }
  else s.modDat d (fun x =>
    { x with heldP := x.heldP % s.datMod d, seq := 0, engaged := false, enc := s.newEncoder d, fitValid := false })

/-- A swap reconfigures a running datum, which is not checked (chapter 05). -/
def State.datMisused (s : State) (old : Sparse Word) : Bool :=
  (List.range 8).any (fun d => ((s.dat d).st = .running || (s.dat d).st = .stopping) && datFixed old d ≠ datFixed s.cfgA d)

/-- The geared datums whose definition has become active engage at once where their source is not STOPPED (R111). -/
def State.engageDefined (s : State) : State :=
  if !s.derives then s
  else (List.range 8).foldl (fun s d =>
    let src := (s.dat (s.datGsrc d)).st
    if s.datSource d = 4 && !(s.dat d).engaged && (src = .running || src = .stopping) then s.engage d none else s) s

/-- The bindings at a swap (R212): a task that becomes UNUSED loses its pending release. -/
def State.swapTasks (s : State) : State :=
  (List.range 32).foldl (fun s n =>
    if s.taskKind n ≠ 0 then s
    else match s.taskState n with | 1 => s.setTaskState n 0 | 3 => s.setTaskState n 2 | _ => s) s

/-- The instances at a swap (R220). -/
def State.swapInstances (s : State) (old : Sparse Word) : State :=
  s.allocated.foldl (fun s i => s.swapInst ((List.range 9).map (fun w => sget 0 old (cfgKey 6 i w))) i) s

/-- A set becomes active in the categories of a mask (R68): what each unit does with it in that clock. -/
def State.activate (s : State) (mask : Nat) (c : Sparse Word) : State :=
  let old := s.cfgA
  let s := ({ s with cfgA := c } : State).rewritten (covers mask)
  let s := if covers mask 1 then s.swapChannels old else s
  let s := if covers mask 2 then ((List.range 8).foldl (fun s d => s.swapDatum old d) s).engageDefined else s
  let s := if covers mask 3 then s.keepItems old else s
  let s := if covers mask 4 then s.swapTasks else s
  let s := if covers mask 5 then s.swapStakes else s
  let s := if covers mask 6 then s.swapInstances old else s
  (s.loadComparators (covers mask)).checkItems (covers mask)

/-- Comparators that the active set owns and that are due in this clock fire before a swap loads them anew (Table 4.3). -/
def State.fireOwned (s : State) : State :=
  (List.range 16).foldl (fun s k => if s.regB (Reg.TIM_CMPk_CFG k) 1 then s.fireFirst k else s) s

/-- The application store takes the program and the active set that have come to stand (log 30). -/
def State.keepApp (s : State) : State :=
  { s with upd := { s.upd with app :=
    { valid := decide (s.progBytes ≠ []), prog := s.prog, bytes := s.progBytes, cfg := s.cfgA, gen := s.mp.gen } } }

/-- The numbers that belong to the sets, as a record (log 7). -/
def State.numbersRec (s : State) : DeltaRec := .config 0 false 0 [w32 s.mp.gen, w32 s.mp.session, w32 s.mp.sessions]

/-- The records of the items of the covered categories, with the numbers that belong to the sets (log 7): the pseudo
category 0 carries generation, session and count. -/
def State.setRecs (s : State) (mask : Nat) (old : Sparse Word) : List DeltaRec :=
  ((List.range 8).filter (covers mask)).flatMap (fun cat =>
    ((listed old cat ++ listed s.cfgA cat).eraseDups).map (fun it => .config cat false it (s.citem cat it (itemWords cat it)))) ++
  [s.numbersRec]

/-- The record of the armed swap, or of none: word 4, position and direction (log 7). -/
def State.armRec (s : State) : DeltaRec :=
  match s.mp.swap with
  | some w =>
    let (p, d) := match w.trig with | .datum _ p d _ _ => (p, d) | _ => (0, false)
    .config 0 false 1 [w.word4, w32 p, w32 (p / 2 ^ 32), w32 (ofBool d)]
  | none => .config 0 false 1 []

/-- The armed swap takes effect (R68, R69): generation, shadow, session and response. It belongs to the checkpoint generation
of its trigger (R70). One that reconfigures a running datum is not checked (R119). -/
def State.swapNow (s : State) (w : ArmedSwap) : State :=
  let s := s.fireOwned
  let c := s.resulting w.mask
  let old := s.cfgA
  let bad := covers w.mask 2 && ({ s with cfgA := c } : State).datMisused old
  let s := s.activate w.mask c
  let s := if bad then s.misused 119 0x40000 else s
  let s := { s with cfgS := mergeSets w.mask s.cfgS c,
                    mp := { s.mp with swap := none, session := 0, gen := (s.mp.gen + 1) % 2 ^ 32 } }
  let s := s.record w.gen (s.setRecs w.mask old ++ [s.armRec])
  s.keepApp.finishOk w.slot [w32 s.mp.gen, w32 (nsOf s.ptp), w32 (secOf s.ptp)]

/-- The DATUM trigger of the armed swap is tested in this clock: it falls in the clock that contains the crossing, up to four
clocks on (R124, R133). -/
def State.testSwap (s : State) : State :=
  match s.mp.swap with
  | some w =>
    match w.trig with
    | .datum d pos down last lastT =>
      if w.fallen.isSome then s
      else match s.crossedAt d pos down last lastT with
        | some t => { s with mp := { s.mp with swap := some (w.fall s (State.clocksTo 2 8 (t * 2 ^ 32) s)) } }
        | none => { s with mp := { s.mp with swap := some { w with trig := s.datumTrigger d pos down } } }
    | _ => s
  | none => s

/-- The armed swap whose trigger has fallen. -/
def State.dueSwap (s : State) : Option ArmedSwap :=
  if s.shadows then none else s.mp.swap.filter (fun w => w.fallen.isSome)

/-- The DATUM trigger is tested where the module does not shadow its partner. -/
def State.testTrigger (s : State) : State := if s.shadows then s else s.testSwap

/-- The trigger is tested, and an armed swap whose trigger has fallen takes effect, in its clock. -/
def State.swapApply (s : State) : State :=
  let s := s.testTrigger
  match s.dueSwap with
  | some w => (s.until_ w.clk).swapNow w
  | none => s

/-- The events of a swap that is applied: its trigger, where a datum crosses now, and the swap by its mask. -/
def State.swapEvs (s : State) : List Ev :=
  match s.dueSwap, s.testTrigger.dueSwap with
  | some w, _ => [⟨.swap, w.mask, 0⟩]
  | none, some w => [⟨.trigger, 0, 0⟩, ⟨.swap, w.mask, 0⟩]
  | none, none => []

/-- CFG_SWAP_APPLY. -/
def execCfgSwapApply (dt : Nat) (s : State) : Answer := afterEv dt (s.advance dt).swapEvs s State.swapApply

end Sys2Proof.Machine
end

