-- ==== Sys2Proof/Machine/Boot.lean ====
section
/-!
DEFINITION. Firmware images, slots and the boot ROM (18 R422-R425, R433-R436), and the module settings (R434).
-/
namespace Sys2Proof.Machine

/-! ### The container (R422) -/

/-- Bytes of the signature. -/
def sigLen : Nat := 29792
/-- The largest IMG_LEN. -/
def imgMax : Nat := 25165824

/-- The header of an image of `len` bytes. `good` says that MAGIC, DEVICE and SIG_OFS are right. -/
def imgHdr (bs : List Byte) (len : Nat) : ImgHdr :=
  { good := leAt bs 0 4 = 0x46544C44 && leAt bs 8 2 = 0x0808 && leAt bs 24 4 + sigLen = len,
    orders := byteOf bs 10, secver := byteOf bs 11, fwrev := leAt bs 12 4, setFmt := leAt bs 16 2, ccBuild := leAt bs 18 2 }

/-- The entries of the section table: TYPE, OFFSET, LENGTH, CRC. -/
def sections (bs : List Byte) : List (Nat × Nat × Nat × Nat) :=
  (List.range (leAt bs 6 2)).map (fun k =>
    let a := 64 + 16 * k
    (byteOf bs a, leAt bs (a + 4) 4, leAt bs (a + 8) 4, leAt bs (a + 12) 4))

/-- The section table is right: 4 to 8 entries, each of the TYPE values 0x1 to 0x4 exactly once, inside the signed part. -/
def sectionsOk (bs : List Byte) (len : Nat) : Bool :=
  let xs := sections bs
  4 ≤ leAt bs 6 2 && leAt bs 6 2 ≤ 8 && [1, 2, 3, 4].all (fun ty => (xs.filter (fun x => x.1 = ty)).length = 1) &&
  xs.all (fun x => x.2.1 + x.2.2.1 + sigLen ≤ len)

/-- The sections' CRCs match. -/
def sectionCrcs (bs : List Byte) : Bool :=
  (sections bs).all (fun x => crc32 (((bs.drop x.2.1).take x.2.2.1).map (fun b => b.toNat)) = x.2.2.2)

/-! ### Slots (R425) -/

def State.slot (s : State) (k : Nat) : Slot := sget {} s.upd.slots k
def State.setSlot (s : State) (k : Nat) (x : Slot) : State := { s with upd := { s.upd with slots := sput {} s.upd.slots k x } }

/-- The bytes a slot holds. -/
def Slot.bytes (x : Slot) : List Byte := (List.range (x.len / 4096)).flatMap (fun i => sget [] x.blocks i)

/-- Bit of ORDER_MASK for an order code. -/
def orderBit : Order → Nat
  | .f => 0 | .m => 1 | .s => 2

/-- The fuses burned so far: a burn in progress writes one fuse each millisecond (R436, R437). -/
def State.floorNow (s : State) : Nat :=
  match s.upd.burn with
  | some (target, begin_) => min target (s.upd.floor + (s.sclk - begin_) / msClk)
  | none => s.upd.floor

/-- A burn in progress ends early, after `more` further fuses (R437, R438). -/
def State.endBurn (s : State) (more : Nat) : State :=
  match s.upd.burn with
  | some (target, _) => { s with upd := { s.upd with floor := min target (s.floorNow + more), burn := none } }
  | none => s

/-- An image suits the module: header right, its order code named, SECVER not below the floor. -/
def State.suits (s : State) (h : ImgHdr) : Bool := h.good && h.orders / 2 ^ orderBit s.order % 2 = 1 && s.floorNow ≤ h.secver

/-- The ROM accepts the image of a slot (R433). The image the module was delivered with is whole and signed (log 20). -/
def State.accepts_ (s : State) (k : Nat) : Bool :=
  let x := s.slot k
  match x.hdr with
  | none => false
  | some h =>
    let bs := x.bytes
    s.suits h && (x.delivered || (sectionsOk bs x.len && Config.signatureGood bs && sectionCrcs bs))

/-- The ROM tries a slot: those that hold no complete image are skipped; a refused one is marked BAD. -/
def State.trySlot (s : State) (k : Nat) : State × Bool :=
  let x := s.slot k
  if ¬ (x.st = 2 ∨ x.st = 3 ∨ x.st = 5) then (s, false)
  else if s.accepts_ k then (s, true)
  else (s.setSlot k { x with st := 4 }, false)

/-- A slot's image runs: SYS_FWREV, the start-up flags, and the states of both slots. -/
def State.runSlot (s : State) (k first : Nat) : State :=
  let s := s.setSlot k { s.slot k with st := 3 }
  let other := s.slot (1 - k)
  let s := if other.st = 3 then s.setSlot (1 - k) { other with st := 5 } else s
  let s := { s with upd := { s.upd with run := some k }, pwr := { s.pwr with booted := true } }
  let s := match (s.slot k).hdr with | some h => s.setReg Reg.SYS_FWREV (w32 h.fwrev) | none => s
  ((s.setRegB Reg.PWR_START_STS 4 (k = 1)).setRegB Reg.PWR_START_STS 5 (k ≠ first)).setRegF Reg.PWR_START_STS 3 0 2

/-- The boot ROM (R433): the boot selection first, then the other slot, else the recovery mode, which powers D0, D1 and
D6 (R435). -/
def State.boot (s : State) : State :=
  let first := s.upd.select
  let s : State := { (s.setRegB Reg.PWR_DOM_STS 1 true) with pwr := { s.pwr with lampAt := some s.sclk } }
  let (s, ok) := s.trySlot first
  if ok then s.runSlot first first
  else
    let (s, ok) := s.trySlot (1 - first)
    if ok then s.runSlot (1 - first) first
    else { (s.setRegF Reg.PWR_DOM_STS 9 0 0x43) with pwr := { s.pwr with recovery := true } }

/-! ### Module settings (Table 18.7) -/

/-- The registers that hold the module settings. -/
def settingRegs : List Nat :=
  [Reg.SYS_SVC_MAC_LO, Reg.SYS_SVC_MAC_HI, Reg.SYS_SVC_ETYPE, Reg.SYS_RRA_CTL, Reg.TRV_SW_ETYPE, Reg.TRV_SW_ADDR,
   Reg.REC_PERIOD, Reg.PWR_START_CFG] ++
  (List.range 4).flatMap (fun n => [Reg.TRV_MAC_LO n, Reg.TRV_MAC_HI n])

/-- The settings return to their defaults at the first start-up of an image of another format (R434). -/
def State.checkSettings (s : State) : State :=
  match s.upd.run with
  | some k =>
    match (s.slot k).hdr with
    | some h =>
      if h.setFmt = s.upd.setFmt then s
      else { settingRegs.foldl (fun s a => s.setReg a (regReset a)) s with upd := { s.upd with setFmt := h.setFmt } }
    | none => s
  | none => s

/-- Start-up step 1 is due or under way, and the module is not held in reset. -/
def State.inRom (s : State) : Bool := s.pwr.held.isNone && s.pwr.startAt ≤ s.sclk && !s.pwr.recovery && s.regF Reg.PWR_START_STS 3 0 = 1

/-- BOOT. -/
def execBoot (dt : Nat) (s : State) : Answer := after dt s (fun s => if s.inRom then s.boot else s)

end Sys2Proof.Machine
end

