-- ==== Sys2Proof/Machine/Power.lean ====
section
/-!
DEFINITION. Supplies, domains, hold-up, resets and start-up (17 R399-R421). Measured values come with the commands. The
hold-up sequence and each reset are performed in the clock of their cause (log 27).
-/
namespace Sys2Proof.Machine

/-! ### What a module reset keeps (R413, Table 17.6) -/

/-- The registers that outlive a module reset: identity, carrier pins, module settings, measured values, the cause of the
last reset, and what the channel controllers keep. -/
def keptRegs : List Nat :=
  settingRegs ++
  [Reg.SYS_ID, Reg.SYS_FWREV, Reg.SYS_SERIAL_LO, Reg.SYS_SERIAL_HI, Reg.SYS_OPTIONS, Reg.SYS_SLOT, Reg.PWR_STS,
   Reg.PWR_RST_CAUSE, Reg.PWR_VLOG, Reg.PWR_VBAK, Reg.PWR_RAIL0, Reg.PWR_RAIL1, Reg.PWR_TEMP] ++
  (List.range 32).flatMap (fun n => [Reg.CH_TRIM_OFS n, Reg.CH_TRIM_GAIN n, Reg.CH_TRIM_T n]) ++
  (List.range 16).map Reg.CHN_CCc

/-- The part of the state that a module reset keeps, with the 10 ms for which the domains are off (R412). -/
def State.kept (s : State) : State :=
  { order := s.order, sclk := s.sclk, clk := s.clk, ptp := s.ptp, bkp := s.bkp, regs := s.regs.filter (fun e => keptRegs.contains e.1),
    recd := { seq := s.recd.seq, slots := s.recd.slots, life := s.recd.life }, mram := { retired := s.mram.retired },
    upd := { slots := s.upd.slots, select := s.upd.select, floor := s.upd.floor, setFmt := s.upd.setFmt,
             app := s.upd.app, chain := s.upd.chain },
    ctls := s.ctls, pair := { epochMram := s.pair.epochMram }, pwr := { lostD0 := s.pwr.lostD0, startAt := s.sclk + 10 * msClk },
    out := s.out, free := s.free, pending := s.pending }

/-- The channel controllers are unpowered, but keep what CHN_CCc shows of their images. -/
def State.ctlsDown (s : State) : State := (List.range 16).foldl (fun r c => r.setRegF (Reg.CHN_CCc c) 18 16 0) s

/-- Everything but D0 and the non-volatile stores loses its state; the module holds in reset until it starts. A floor burn in progress ends with the fuse it is writing (R438). -/
def State.shutDown (s : State) : State :=
  (((s.endBurn 1).kept.ctlsDown.setReg Reg.PAIR_EPOCH (w32 s.pair.epochMram)).setRegB Reg.PWR_STS 6 false).setRegB Reg.PWR_STS 7 false

/-- COUNT of a start under that cause: the resets since the last COLD start. -/
def State.resetCount (s : State) (cause : Nat) : Nat :=
  if cause = 1 then 0 else min 0xFFFF (s.regF Reg.PWR_RST_CAUSE 31 16 + 1)

/-- Start-up begins at step 1 under a cause of Table 17.5, now or when the domains have been off for their time. -/
def State.startUnder (s : State) (cause : Nat) : State :=
  { (s.setReg Reg.PWR_RST_CAUSE (w32 (cause + s.resetCount cause * 2 ^ 16))) with
    pwr := { s.pwr with held := none, startAt := max s.sclk s.pwr.startAt, lostD0 := false } }

/-- A module reset (R411). -/
def State.moduleReset (s : State) (cause : Nat) : State := s.shutDown.startUnder cause

/-- A fence of a module that runs the line. -/
def State.fenceEvs (s : State) : List Ev := if s.runs || s.role = 5 then [⟨.fence, 0, 0⟩] else []

/-- Hold-up runs: no feed is good. -/
def State.noFeed (s : State) : Bool := !s.regB Reg.PWR_STS 0 && !s.regB Reg.PWR_STS 1

/-- The module is on: not held in reset. -/
def State.isOn (s : State) : Bool := s.pwr.held.isNone

/-! ### Feeds (R400, R408, R409) -/

/-- A sample of a feed, 0 for A and 1 for B, with its extremes. -/
def State.feedMv (s : State) (feed mv : Nat) : State :=
  let v := min 65535 mv
  let hi := if feed = 0 then 15 else 31
  let lo := if feed = 0 then 0 else 16
  let s := (s.setRegF Reg.PWR_VLOG hi lo v).extreme (if feed = 0 then 16 else 20) v
  let s := if v < s.regF Reg.PWR_VLOG_MIN hi lo then s.setRegF Reg.PWR_VLOG_MIN hi lo v else s
  if s.regF Reg.PWR_VLOG_MAX hi lo < v then s.setRegF Reg.PWR_VLOG_MAX hi lo v else s

/-- A feed below 19.2 V for 1 ms. -/
def State.feedLow (s : State) (feed mv : Nat) : State :=
  let s := s.feedMv feed mv
  if 1 < feed || 19200 ≤ mv || s.regB Reg.PWR_STS (2 + feed) then s
  else (s.setRegB Reg.PWR_STS (2 + feed) true).raiseBit 17 1

/-- A LOW feed above 19.6 V. -/
def State.feedLowClear (s : State) (feed mv : Nat) : State :=
  let s := s.feedMv feed mv
  if feed ≤ 1 && 19600 < mv then s.setRegB Reg.PWR_STS (2 + feed) false else s

/-- A close in progress runs to its end, and the retirement records that wait are written (Table 17.4, R19). -/
def State.recordsOut (s : State) : State :=
  let s := s.recFlush
  { s with mram := { retired := s.mram.retired ++ s.mram.waiting, waiting := [] } }

/-- The recorder closes with hold-up as the cause. -/
def State.closeRecords (s : State) : State := (s.closeStretch 2).recordsOut

/-- What a module that is on does from P until its domains go off: the fence, or the release of the outputs and the ROLE
notice, then its records. -/
def State.lastSteps (s : State) : State :=
  if !s.isOn then s
  else if s.runs || s.role = 5 then (s.fence 3).closeRecords
  else ((s.releaseOutputs).sendSeq 0 (.role s.role 3)).closeRecords

/-- The module holds in reset for want of a feed, and no start comes before the hold-up sequence has run to its end, 2 ms
after P (R409). -/
def State.holdUp (s : State) : State :=
  { s with pwr := { s.pwr with held := some 2, holdup := some s.sclk, startAt := s.sclk + 2 * msClk } }

/-- The sequence of Table 17.4 from P. A floor burn ends with the fuses written by then (R437). -/
def State.powerFail (s : State) : State := ((s.lastSteps.endBurn 0).shutDown).holdUp

/-- A sample of a feed finds it lost. -/
def State.feedGoes (s : State) (feed mv : Nat) : Bool := feed ≤ 1 && decide (mv < 16000) && s.regB Reg.PWR_STS feed

/-- What the loss of the last feed is to the tables of same-clock orders. -/
def State.feedEvs (s : State) (feed mv : Nat) : List Ev :=
  if s.feedGoes feed mv && !s.regB Reg.PWR_STS (1 - feed) then [⟨.feedsLost, 0, 0⟩] ++ s.fenceEvs else []

/-- A feed below 16.0 V for 20 us is lost. The loss of one feed changes nothing else. -/
def State.feedLoss (s : State) (feed mv : Nat) : State :=
  let s := s.feedMv feed mv
  if !s.feedGoes feed mv then s
  else
    let s := s.setRegB Reg.PWR_STS feed false
    let s := (s.countF Reg.PWR_FEED_CNT (if feed = 0 then 15 else 31) (if feed = 0 then 0 else 16) 1).raiseBit 17 0
    if s.noFeed then s.powerFail else s

/-- A feed above 18.0 V for 10 ms is good again: the module starts, if it held in reset for want of a feed. The feed returned
during hold-up if it rose above 18.0 V, 10 ms ago, before the sequence of Table 17.4 had ended (log 27). -/
def State.feedGood (s : State) (feed mv : Nat) : State :=
  let s := s.feedMv feed mv
  if 1 < feed || mv ≤ 18000 || s.regB Reg.PWR_STS feed then s
  else
    let s := (s.setRegB Reg.PWR_STS feed true).raiseBit 17 0
    match s.pwr.held, s.pwr.holdup with
    | some 2, some p =>
      let cause := if s.pwr.lostD0 then 1 else if s.sclk < p + 12 * msClk then 3 else 2
      s.startUnder cause
    | _, _ => s

/-! ### Backup supply (R406) -/

/-- VBAK below or above 2.5 V. -/
def State.vbak (s : State) (mv : Nat) : State :=
  let s := (s.setRegF Reg.PWR_VBAK 15 0 (min 65535 mv)).extreme 32 (min 65535 mv : Nat)
  if 2500 < mv then s.setRegB Reg.PWR_STS 4 true
  else if mv < 2500 then
    let was := s.regB Reg.PWR_STS 4
    let s := s.setRegB Reg.PWR_STS 4 false
    if was && !s.noFeed then s.raiseBit 17 2 else s
  else s

/-- VBAK below 2.0 V while both feeds are absent: D0 loses its contents. -/
def State.vbakLoss (s : State) (mv : Nat) : State :=
  let s := s.vbak mv
  if 2000 ≤ mv || !s.noFeed then s
  else { s with bkp := {}, recd := { s.recd with seq := 0 }, pwr := { s.pwr with lostD0 := true } }

/-- The daily measurement of the hold-up bank (R410): bank voltage in 10 mV, estimate in 10 us. -/
def State.holdupMeasure (s : State) (bank est : Nat) : State :=
  if !s.regB Reg.PWR_STS 0 || !s.regB Reg.PWR_STS 1 then s
  else
    let was := s.regB Reg.PWR_STS 6
    let s := s.setReg Reg.PWR_HOLDUP (w32 (min 65535 bank + min 65535 est * 2 ^ 16))
    let s := s.setRegB Reg.PWR_STS 6 (est < 1000)
    if est < 1000 && !was then s.raiseBit 17 4 else s

/-! ### Rails, watchdog, temperature (R403, R411, R419) -/

/-- The good window of a rail in mV: VCORE, VIO18, VIO33, VANA. -/
def railWindow (r : Nat) : Nat × Nat :=
  match r with | 0 => (675, 825) | 1 => (1620, 1980) | 2 => (2970, 3630) | _ => (1620, 1980)

/-- A measurement of a rail. -/
def State.railMv (s : State) (rail mv : Nat) : State :=
  s.setRegF (if rail < 2 then Reg.PWR_RAIL0 else Reg.PWR_RAIL1) (if rail % 2 = 0 then 15 else 31) (if rail % 2 = 0 then 0 else 16)
    (min 65535 mv)

/-- A rail outside its window for 10 us after step 2 resets the module at once; no stretch is closed. -/
def State.brownout (s : State) (rail mv : Nat) : State :=
  if 3 < rail then s
  else
    let t := s.railMv rail mv
    if (railWindow rail).1 ≤ mv && mv ≤ (railWindow rail).2 then t
    else if t.isOn && t.regB Reg.PWR_DOM_STS 1 && !t.noFeed then t.moduleReset 6 else t

/-- The firmware has not served the watchdog for 100 ms. -/
def State.watchdog (s : State) : State :=
  if s.isOn && s.pwr.booted && !s.noFeed then s.moduleReset 5 else s

/-- Both temperatures measured, in 0.01 degrees. -/
def State.temps (s : State) (die board : Int) : State :=
  let s := s.setReg Reg.PWR_TEMP (w32 (pattern 16 die + pattern 16 board * 2 ^ 16))
  let s := (s.extreme 36 die).extreme 44 board
  let m := s.reg Reg.PWR_TEMP_MAX
  let top (lo : Nat) (t : Int) : Nat := pattern 16 (max t (signed 16 (m.fld (lo + 15) lo)))
  let s := s.setReg Reg.PWR_TEMP_MAX (w32 (top 0 die + top 16 board * 2 ^ 16))
  if 11000 < die then
    if s.regB Reg.PWR_STS 7 then s else (s.setRegB Reg.PWR_STS 7 true).raiseBit 17 3
  else if die < 10500 then s.setRegB Reg.PWR_STS 7 false
  else s

/-- The module is held in reset until the die has cooled. -/
def State.holdHot (s : State) : State := { s with pwr := { s.pwr with held := some 7 } }

/-- The die at or above 125 degrees for 1 ms: the module resets and holds until the die is below 100 degrees. -/
def State.thermal (s : State) (die board : Int) : State :=
  let s := s.temps die board
  if die < 12500 || !s.isOn || s.noFeed then s
  else s.shutDown.holdHot

/-- The die has cooled after a thermal reset. -/
def State.thermalRelease (s : State) (die board : Int) : State :=
  let s := s.temps die board
  if die < 10000 && s.pwr.held = some 7 && !s.noFeed then s.startUnder 7 else s

/-! ### Requests (R405, R412) -/

/-- A write of SYS_RST_REQ: with the key, the stretch closes, a module that runs the line fences, and the reset follows
within 2 ms. During hold-up it is not acted on. -/
def State.rstReq (s : State) (v : Word) : State :=
  if v.fld 31 16 ≠ 0x5A5A || !v.bit 0 || s.noFeed || s.pwr.request.isSome then s
  else
    let s := s.closeStretch 4
    let s := if s.runs || s.role = 5 then s.fence 2 else s
    { s with pwr := { s.pwr with request := some 4 } }

/-- The reset that has been asked for. -/
def State.requestedReset (s : State) : State :=
  match s.pwr.request with
  | some c => s.recordsOut.moduleReset c
  | none => s

/-- The pairs x of a domain. -/
def domainPairs (d : Nat) : List Nat := (List.range 30).filter (fun x => pairDomain x = d)

/-- A domain that is off holds no state (R404), neither the registers of its units nor the split control of its pairs (R10);
the channel controllers, across the barrier, keep theirs. -/
def State.domainOff (s : State) (d : Nat) : State :=
  let gone (a : Nat) : Bool := regDomain a = d && !keptRegs.contains a
  let s := { s with regs := s.regs.filter (fun e => !gone e.1), flips := s.flips.filter (fun e => !gone e.1),
                    cmp := s.cmp.filter (fun e => !(domainPairs d).contains e.1) }
  let s := (domainPairs d).foldl (fun s x => s.setRegB Reg.CMP_SPLIT_MAP x false) s
  let ids := (domainPairs d).map cmpId
  let mine (e : Nat) : Bool := ids.contains (pairOfEngine e)
  match d with
  | 2 => { s with img := [], plm := {}, engs := s.engs.filter (fun e => !mine e.1), konst := s.konst.filter (fun e => !mine (e.1 / 16384)) }
  | 3 => { s with engs := s.engs.filter (fun e => !mine e.1), konst := s.konst.filter (fun e => !mine (e.1 / 16384)) }
  | 4 => { s with blk := {} }
  | 9 => { s with grps := [], chans := [], fis := [], fos := [] }
  | _ => s

/-- A recorded retirement applied (R19): the unit is out of service, and the spare of its cluster serves its work. -/
def State.applyRetired (s : State) (r : Retired) : State :=
  match r with
  | .pair x =>
    if s.cmpState x = 4 then s
    else
      let id := cmpId x
      let was := s.cmpState x
      let spare := s.spareFor id
      let s := (s.setRegB Reg.CMP_RETIRED x true).setCmpState x 4
      match was, spare with
      | 1, _ => s
      | _, some k => (s.setCmpState (cmpIndex k) 2).setRegF (Reg.CMP_Px_STS (cmpIndex k)) 15 8 id
      | _, none => s.modChk x (fun c => { c with noSpare := true })
  | .bank n => (s.setRegF (Reg.BNK_BSTS n) 1 0 3).setRegB Reg.BNK_GLB_STS n true
  | .channel n => s.modChan n (fun c => { c with retired := true })
  | .lane l => s.setRegF Reg.PAIR_LANES (4 * l + 2) (4 * l) 4

/-- The spares of Table 11.1 that serve nobody stand as SPARE (R254). -/
def State.markSpares (s : State) : State :=
  [9, 18, 24].foldl (fun s x => if s.pairPresent x && s.cmpState x = 0 then s.setCmpState x 1 else s) s

/-- The spares stand by, and every recorded retirement is applied (R19). -/
def State.applyRetirements (s : State) : State := s.retirements.foldl State.applyRetired s.markSpares

/-- A pair passes the checker test it takes before it is used (R405, Table 17.7). -/
def State.firstTest (s : State) (x : Nat) : State :=
  if !s.comparing x then s
  else
    let s := s.countWrap (Reg.CMP_Px_TESTS x)
    s.setRegF (Reg.CMP_Px_STS x) 6 4 (s.regF (Reg.CMP_Px_TESTS x) 2 0)

/-- A controller changes to the image in its inactive slot if that is complete and of the build named (R431). -/
def State.changeCtl (s : State) (build c : Nat) : State :=
  let old := s.regF (Reg.CHN_CCc c) 15 0
  if (sget {} s.ctls c).other = some build then
    let s := { s with ctls := sput {} s.ctls c { other := some old } }
    (s.setRegF (Reg.CHN_CCc c) 15 0 build).setRegB (Reg.CHN_CCc c) 19 (!s.regB (Reg.CHN_CCc c) 19)
  else s

/-- The controllers of the order run again, each its build (Table 17.7 step 6); those that an activation carries along
change first. -/
def State.startCtls (s : State) : State :=
  let cs := (List.range 16).filter s.hasCtl
  let s := match s.upd.chain.bind (fun k => (s.slot k).hdr) with
    | some h => cs.foldl (fun (t : State) c => t.changeCtl h.ccBuild c) s
    | none => s
  let s := { s with upd := { s.upd with chain := none } }
  cs.foldl (fun s c => s.setRegF (Reg.CHN_CCc c) 18 16 1) s

/-- A write of PWR_DOM_REQ (R405). One that names no domain or sets a reserved bit is a misuse. -/
def State.domReq (s : State) (v : Word) : State :=
  let mask := (v &&& 0x21C).toNat
  if mask = 0 || v &&& ~~~(0x1021C : Word) ≠ 0 then s.misused 405 0x10000
  else if s.role ≠ 6 || (v.bit 3 && s.order ≠ Order.f) then s.setRegB Reg.PWR_DOM_STS 16 true
  else { (s.setRegB Reg.PWR_DOM_STS 16 false) with pwr := { s.pwr with domReq := some (mask, v.bit 16) } }

/-- A requested change completes. -/
def State.domDone (s : State) : State :=
  match s.pwr.domReq with
  | some (mask, on) =>
    let ds := [2, 3, 4, 9].filter (fun d => mask / 2 ^ d % 2 = 1 && s.domainOn d ≠ on)
    let s := { s with pwr := { s.pwr with domReq := none } }
    let s := ds.foldl (fun s d =>
      let s := s.setRegB Reg.PWR_DOM_STS d on
      if on then
        let s := ((domainPairs d).foldl State.firstTest (s.applyRetirements))
        if d = 9 then s.startCtls else s
      else s.domainOff d) s
    s.raiseBit 17 5
  | none => s

/-! ### Start-up (R407, R414-R418) -/

/-- A value laid into the image store: of a variable its bits, of a timer or counter its word 1 (PT or PV, R210). -/
def State.putSymbol (s : State) (y : Symbol) (v : Nat) : State :=
  if y.bits = 0 then s.setImgW y.space 0 (4 * y.bit + 1) (w32 v) else
  (List.range ((y.bits + 31) / 32 + 1)).foldl (fun s k =>
    let w := y.bit / 32 + k
    let m := symMask y w
    if m = 0 then s
    else s.setImgW y.space y.task w ((s.imgW y.space y.task w &&& ~~~m) ||| (symBits y w v &&& m))) s

/-- A program takes effect: its constants in every Plumb pair's copy, and image data at its initial values. -/
def State.startProgram (s : State) (p : Program) : State :=
  let s := { s with prog := p, img := [], konst := [] }
  let s := s.constPairs.foldl (fun s id =>
    p.konst.foldl (fun s c => { s with konst := sput 0 s.konst (id * 16384 + c.1) c.2 }) s) s
  p.init.foldl (fun s i => match p.syms[i.1]? with | some y => s.putSymbol y i.2 | none => s) s

/-- Program and stored active set restored from the application store (R415), as at a swap of every category. -/
def State.restoreApp (s : State) : State :=
  let a := s.upd.app
  if !a.valid then s.setRegB Reg.PWR_START_STS 6 true
  else
    let s := { s.startProgram a.prog with progBytes := a.bytes }
    let s := s.activate 0x7F a.cfg
    { s with cfgS := a.cfg, mp := { s.mp with session := 0, gen := a.gen } }

/-- The fraction of the backup clock. -/
def State.bkpFrac (s : State) : Nat := nsOf s.ptp * 32768 / 1000000000

/-- The time that SEC and fraction of the backup clock give, NS rounded down (R407). -/
def State.bkpTime (s : State) : Nat := secOf s.ptp * secondT + s.bkpFrac * 1000000000 / 32768 * 2 ^ 32

/-- The PTP clock starts from the backup clock (R407). -/
def State.startClock (s : State) : State :=
  if s.bkp.valid then
    (({ s with ptp := s.bkpTime, bkp := { sec := secOf s.ptp, frac := s.bkpFrac, valid := true } } : State).setRegB
      Reg.PWR_STS 5 true).setRegB Reg.TIM_STS 6 false
  else (({ s with ptp := 0, bkp := {} } : State).setRegB Reg.PWR_STS 5 false).setRegB Reg.TIM_STS 6 true

/-- Steps 4 to 6 of Table 17.7 and PHASE 0x5, after the ROM has loaded an image. -/
def State.initialise (s : State) : State :=
  let s := s.setRegF Reg.PWR_START_STS 3 0 3
  let s := s.startClock
  let all := if s.order = Order.f then 0x3FF else 0x3F7
  let s := ((s.setRegF Reg.PWR_DOM_STS 9 0 all).setReg Reg.BNK_LPD_STS 3).setRegB Reg.MBX_GLB_STS 16 true
  let s := s.checkSettings.applyRetirements
  let s := (List.range 30).foldl State.firstTest s
  let s := s.startSeq.startRecord
  let s := (s.setRegF Reg.PWR_START_STS 3 0 4).restoreApp
  let s := (s.startCtls).setRegF Reg.PWR_START_STS 3 0 5
  let train (l : Nat) (s : State) : State := if s.lane l = 0 then s.setRegF Reg.PAIR_LANES (4 * l + 2) (4 * l) 1 else s
  train 1 (train 0 { s with pwr := { s.pwr with listenAt := some s.sclk } })

/-- POWER_ON_RESET: a feed is good and start-up runs from step 1 (R414), through the ROM where it has not run yet. -/
def State.powerOn (s : State) : State :=
  if !s.isOn || s.noFeed || s.pwr.recovery || s.sclk < s.pwr.startAt || 2 < s.regF Reg.PWR_START_STS 3 0 then s
  else
    let s := if s.pwr.booted then s else s.boot
    if s.pwr.booted then s.initialise else s

/-- The end of start-up (R417). -/
def State.startDone (s : State) : State :=
  if s.pwr.ready then s
  else
    let s := { s with pwr := { s.pwr with ready := true } }
    let s := (s.setRegF Reg.PWR_START_STS 3 0 7).setReg Reg.PWR_START_T (w32 ((s.sclk - s.pwr.startAt) / msClk))
    s.raiseBit 17 6

/-- TIME_WAIT has passed since the role decision of step 7. -/
def State.timeWaited (s : State) : Bool :=
  match s.pwr.roleAt with
  | some t => t + s.regF Reg.PWR_START_CFG 13 8 * 1000 * msClk ≤ s.sclk
  | none => false

/-- Time counts as settled; without a lock the wait has run out, which the module notes. -/
def State.timeNoted (s : State) : State :=
  let t := if s.timeLocked then s else (s.setRegB Reg.TIM_CTL 4 false).setRegB Reg.PWR_START_STS 7 true
  { t with pwr := { t.pwr with settled := true } }

/-- What follows the settling of time, by role (R416, R417). -/
def State.timeFollow (s : State) : State :=
  let t := s.loadComparators (fun _ => true)
  let u := if t.runs && t.plm.mode = .idle then t.setMode .fixed else t
  if u.role == 3 then u.startDone else u

/-- Time settles (R416, R417): the set-owned comparators are loaded, ALONE enters FIXED, STANDBY has started up. -/
def State.timeSettle (s : State) : State :=
  if s.pwr.settled || s.pwr.roleAt.isNone || !(s.timeLocked || s.timeWaited) then s else s.timeNoted.timeFollow

/-- Time that settles by the wait is an event of Table 17.8. -/
def State.settleEvs (s : State) : List Ev :=
  if !s.pwr.settled && s.timeWaited && !s.timeLocked then [⟨.timeWait, 0, 0⟩] else []

/-- The first fixed cycle ends the start-up of a module that runs the line (step 9). -/
def State.firstCycle (s : State) : State :=
  let t := s.fixedCycle
  if t.pwr.settled && t.plm.cycT0 ≠ s.plm.cycT0 && t.runs then t.startDone else t

/-- The MP's own request for task mode is due (R418). -/
def State.autoDue (s : State) : Bool :=
  s.regB Reg.PWR_START_CFG 0 && s.runs && s.plm.mode = .fixed && !s.plm.autoDone && !s.pwr.hostMode &&
    s.regF Reg.PWR_START_CFG 29 16 ≤ s.plm.cycles

/-- The MP's own request for task mode (R418). -/
def State.autoTask (s : State) : State :=
  if s.autoDue then { s with plm := { s.plm with request := some .task, autoDone := true } } else s

/-- The request as an event of Table 17.8. -/
def State.autoEvs (s : State) : List Ev := if s.autoDue then [⟨.autoTask, 0, 0⟩] else []

/-! ### The commands -/

/-- FEED_LOW. -/
def execFeedLow (dt feed mv : Nat) (s : State) : Answer := after dt s (fun s => s.feedLow feed mv)
/-- FEED_LOW_CLEAR. -/
def execFeedLowClear (dt feed mv : Nat) (s : State) : Answer := after dt s (fun s => s.feedLowClear feed mv)
/-- FEED_LOSS. -/
def execFeedLoss (dt feed mv : Nat) (s : State) : Answer :=
  afterEv dt ((s.advance dt).feedEvs feed mv) s (fun s => s.feedLoss feed mv)
/-- FEED_GOOD. -/
def execFeedGood (dt feed mv : Nat) (s : State) : Answer := after dt s (fun s => s.feedGood feed mv)
/-- VBAK_LOW. -/
def execVbakLow (dt mv : Nat) (s : State) : Answer := after dt s (fun s => s.vbak mv)
/-- VBAK_LOSS. -/
def execVbakLoss (dt mv : Nat) (s : State) : Answer := after dt s (fun s => s.vbakLoss mv)
/-- HOLDUP_MEASURE. -/
def execHoldupMeasure (dt bank est : Nat) (s : State) : Answer := after dt s (fun s => s.holdupMeasure bank est)
/-- BROWNOUT. -/
def execBrownout (dt rail mv : Nat) (s : State) : Answer := after dt s (fun s => s.brownout rail mv)
/-- WATCHDOG. -/
def execWatchdog (dt : Nat) (s : State) : Answer := after dt s State.watchdog
/-- HOT. -/
def execHot (dt : Nat) (die board : Int) (s : State) : Answer := after dt s (fun s => s.temps die board)
/-- THERMAL. -/
def execThermal (dt : Nat) (die board : Int) (s : State) : Answer := after dt s (fun s => s.thermal die board)
/-- THERMAL_RESET_RELEASE. -/
def execThermalResetRelease (dt : Nat) (die board : Int) (s : State) : Answer :=
  after dt s (fun s => s.thermalRelease die board)
/-- MODULE_RESET. -/
def execModuleReset (dt : Nat) (s : State) : Answer := after dt s State.requestedReset
/-- POWER_ON_RESET. -/
def execPowerOnReset (dt : Nat) (s : State) : Answer := after dt s State.powerOn
/-- DOMAIN_SWITCH_DONE. -/
def execDomainSwitchDone (dt : Nat) (s : State) : Answer := after dt s State.domDone
/-- TIME_SETTLE. -/
def execTimeSettle (dt : Nat) (s : State) : Answer := afterEv dt (s.advance dt).settleEvs s State.timeSettle
/-- FIXED_CYCLE_START. -/
def execFixedCycleStart (dt : Nat) (s : State) : Answer := after dt s State.firstCycle
/-- AUTO_TASK_REQUEST. -/
def execAutoTaskRequest (dt : Nat) (s : State) : Answer := afterEv dt (s.advance dt).autoEvs s State.autoTask

end Sys2Proof.Machine
end

