-- ==== Sys2Proof/Machine/Update.lean ====
section
/-!
DEFINITION. Image transfer, activation, anti-rollback and the recovery mode's announcements (18 R426-R440).
-/
namespace Sys2Proof.Machine

/-! ### Frames (R426, R435) -/

/-- The EtherType of the recovery mode. -/
def recoveryEtype : Nat := 0x88B5

/-- A frame addressed to the module on the service port: to SYS_SVC_MAC with SYS_SVC_ETYPE, or in recovery mode to the
factory address with EtherType 0x88B5 (R30, R435). The module must run an image or its ROM's recovery mode. -/
def State.svcTakes (s : State) (dst etype : Nat) : Bool :=
  if s.pwr.recovery then
    dst = pair64 (regReset Reg.SYS_SVC_MAC_LO) (regReset Reg.SYS_SVC_MAC_HI) % 2 ^ 48 && etype = recoveryEtype
  else s.isOn && s.pwr.booted && dst = s.reg64 Reg.SYS_SVC_MAC_LO Reg.SYS_SVC_MAC_HI % 2 ^ 48 &&
    etype = s.regF Reg.SYS_SVC_ETYPE 15 0

/-- The answer to an update transfer frame (R426): STATUS in byte 4, VALUE in bytes 8 to 11. -/
def State.updAnswer (s : State) (op slot tag mac status value : Nat) : State :=
  s.emit (.serviceResponse mac
    (leBytes 1 (op + 0x80) ++ leBytes 1 slot ++ leBytes 2 tag ++ leBytes 1 status ++ leBytes 3 0 ++ leBytes 4 value))

/-- STATUS values of Table 18.6. -/
def xfOk : Nat := 0
def xfBusy : Nat := 1
def xfCrc : Nat := 2
def xfRange : Nat := 3
def xfIncomplete : Nat := 4
def xfImage : Nat := 5
def xfDisabled : Nat := 6
def xfDup : Nat := 7
def xfNoSession : Nat := 8

/-! ### The session (R427, R428) -/

/-- The open session of a slot and a source MAC. -/
def State.sessionOf (s : State) (slot mac : Nat) : Option XferSession :=
  s.upd.session.filter (fun x => x.slot = slot && x.mac = mac)

def State.setSession (s : State) (x : Option XferSession) : State := { s with upd := { s.upd with session := x } }

/-- Blocks a slot holds. -/
def State.stored (s : State) (slot : Nat) : Nat := (s.slot slot).blocks.length

/-- The slot runs or is armed for activation. -/
def State.slotBusy (s : State) (slot : Nat) : Bool :=
  s.upd.run = some slot || (s.regB Reg.UPD_ACT_EXT 17 && ofBool (s.regB Reg.UPD_ACT_EXT 16) = slot)

/-- A session of another source MAC is open. -/
def State.otherSession (s : State) (mac : Nat) : Bool :=
  match s.upd.session with | some x => x.mac ≠ mac | none => false

/-- OPEN: the session opens, the erase of the slot begins and the slot is PARTIAL. A SLOT other than A and B names none,
and the frame is dropped (log 28). -/
def State.updOpen (s : State) (slot tag mac len crc : Nat) : State :=
  if 1 < slot then s
  else if !s.regB Reg.UPD_CTL 0 then s.updAnswer 0x20 slot tag mac xfDisabled 0
  else if s.slotBusy slot || s.otherSession mac then s.updAnswer 0x20 slot tag mac xfBusy 0
  else if imgMax < len || len % 4096 ≠ 0 then s.updAnswer 0x20 slot tag mac xfRange 0
  else
    let s := s.setSlot slot { st := 1, len := len }
    s.setSession (some { slot := slot, mac := mac, len := len, crc := crc, tag := tag, last := s.sclk })

/-- The erase of the session's slot ends: OPEN is answered. -/
def State.eraseDone (s : State) : State :=
  match s.upd.session with
  | some x =>
    if x.erasing then (s.setSession (some { x with erasing := false })).updAnswer 0x20 x.slot x.tag x.mac xfOk 0 else s
  | none => s

/-- The four parts of a block in order, once all have arrived. -/
def PartBlock.whole (b : PartBlock) : Option (List Byte) :=
  if b.parts.length < 4 then none else some ((List.range 4).flatMap (fun p => ((b.parts.find? (fun x => x.1 = p)).map (·.2)).getD []))

/-- A complete block is checked: a good one is stored, once. -/
def State.blockCheck (s : State) (x : XferSession) (b : PartBlock) (data : List Byte) (tag : Nat) : State :=
  let answer (s : State) (st : Nat) : State :=
    s.updAnswer 0x21 x.slot tag x.mac st (if st = xfOk then s.stored x.slot else 0)
  let sl := s.slot x.slot
  let old := sget [] sl.blocks b.index
  if old ≠ [] then
    answer s (if crc32 (old.map (fun y => y.toNat)) = b.crc then xfOk else xfDup)
  else if crc32 (data.map (fun y => y.toNat)) = b.crc then
    answer (s.setSlot x.slot { sl with blocks := sput [] sl.blocks b.index data }) xfOk
  else answer (s.countF Reg.UPD_XFER_ERR 15 0 1) xfCrc

/-- A part joins a block of the session; the fourth completes it. -/
def State.joinPart (s : State) (x : XferSession) (b : PartBlock) (part tag : Nat) (bytes : List Byte) : State :=
  let b : PartBlock := { b with parts := (b.parts.filter (fun q => q.1 ≠ part)) ++ [(part, bytes)] }
  let rest := x.parts.filter (fun y => y.index ≠ b.index)
  match b.whole with
  | none => s.setSession (some { x with parts := rest ++ [b] })
  | some data => (s.setSession (some { x with parts := rest })).blockCheck x b data tag

/-- BLOCK: a part of a block arrives. A seventeenth incomplete block is dropped without an answer. PART above 3, or a BLOCK_CRC
other than that of the block's earlier parts, is a misuse (18, unchecked host errors). -/
def State.updBlock (s : State) (slot tag mac index part crc : Nat) (bytes : List Byte) : State :=
  if !s.regB Reg.UPD_CTL 0 then s.updAnswer 0x21 slot tag mac xfDisabled 0
  else
    match s.sessionOf slot mac with
    | none => s.updAnswer 0x21 slot tag mac xfNoSession 0
    | some x0 =>
      let x := { x0 with last := s.sclk }
      let s := s.setSession (some x)
      if 3 < part then s.misused 428 0x120000
      else if x.len / 4096 ≤ index then s.updAnswer 0x21 slot tag mac xfRange 0
      else if bytes.length ≠ 1024 then s
      else
        match x.parts.find? (fun b => b.index = index) with
        | none => if 16 ≤ x.parts.length then s else s.joinPart x ⟨index, crc, []⟩ part tag bytes
        | some b => if b.crc ≠ crc then s.misused 428 0x120000 else s.joinPart x b part tag bytes

/-- The first block of the image that the slot does not hold. -/
def State.firstMissing (s : State) (x : XferSession) : Option Nat :=
  (List.range (x.len / 4096)).find? (fun i => sget [] (s.slot x.slot).blocks i = [])

/-- CLOSE: the checks of R430. In recovery mode the slot becomes the boot selection and the module resets with cause
RECOVERY (R435). -/
def State.updClose (s : State) (slot tag mac : Nat) : State :=
  if !s.regB Reg.UPD_CTL 0 then s.updAnswer 0x22 slot tag mac xfDisabled 0
  else
    match s.sessionOf slot mac with
    | none => s.updAnswer 0x22 slot tag mac xfNoSession 0
    | some x =>
      let s := s.setSession (some { x with last := s.sclk })
      match s.firstMissing x with
      | some i => (s.updAnswer 0x22 slot tag mac xfIncomplete i).raiseBit 35 1
      | none =>
        let sl := s.slot slot
        let bs := sl.bytes
        let h := imgHdr bs x.len
        if crc32 (bs.map (fun y => y.toNat)) = x.crc && s.suits h then
          let s := (s.setSlot slot { sl with st := 2, hdr := some h }).setSession none
          let s := (s.updAnswer 0x22 slot tag mac xfOk (s.stored slot)).raiseBit 35 0
          if s.pwr.recovery then
            { s with upd := { s.upd with select := slot }, pwr := { s.pwr with request := some 8 } }
          else s
        else (s.updAnswer 0x22 slot tag mac xfImage 0).raiseBit 35 1

/-- ABORT: the session ends and its slot stays PARTIAL. -/
def State.updAbort (s : State) (slot tag mac : Nat) : State :=
  if !s.regB Reg.UPD_CTL 0 then s.updAnswer 0x23 slot tag mac xfDisabled 0
  else
    match s.sessionOf slot mac with
    | none => s.updAnswer 0x23 slot tag mac xfNoSession 0
    | some _ => (s.updAnswer 0x23 slot tag mac xfOk (s.stored slot)).setSession none

/-- A session that received no frame for 60 s is abandoned. -/
def State.sessionTimeout (s : State) : State :=
  match s.upd.session with
  | some x => if x.last + 60000 * msClk ≤ s.sclk then s.setSession none else s
  | none => s

/-- The timeout of the session as an event of Table 18.8. -/
def State.timeoutEvs (s : State) : List Ev :=
  match s.upd.session with
  | some x => if x.last + 60000 * msClk ≤ s.sclk then [⟨.xferTimeout, 0, 0⟩] else []
  | none => []

/-- A second has passed since the last announcement. -/
def State.announceDue (s : State) : Bool :=
  match s.upd.announced with | some t => t + 1000 * msClk ≤ s.sclk | none => true

/-- Every second the recovery mode announces itself to the broadcast address, with SYS_ID and the serial number. -/
def State.recoveryAnnounce (s : State) : State :=
  if !s.pwr.recovery || !s.announceDue then s
  else
    let s := { s with upd := { s.upd with announced := some s.sclk } }
    s.emit (.serviceResponse (2 ^ 48 - 1) (leBytes 4 0x2F ++ leBytes 4 s.sysId.toNat ++
      leBytes 8 (s.reg64 Reg.SYS_SERIAL_LO Reg.SYS_SERIAL_HI)))

/-! ### Activation (R431, R432) -/

/-- The slot an armed activation names, and its time in PTP nanoseconds. -/
def State.actSlot (s : State) : Nat := ofBool (s.regB Reg.UPD_ACT_EXT 16)
def State.actTime (s : State) : Nat :=
  ((s.reg Reg.UPD_ACT_SEC).toNat + s.regF Reg.UPD_ACT_EXT 15 0 * 2 ^ 32) * 1000000000 + s.regF Reg.UPD_ACT_NS 29 0

/-- ARMED and DEFERRED are cleared. -/
def State.disarm (s : State) : State :=
  let s := s.setRegB Reg.UPD_ACT_EXT 17 false
  { s with upd := { s.upd with deferred := false } }

/-- The module activates: the slot becomes the boot selection, and the MP asks for a module reset. -/
def State.activateNow (s : State) : State :=
  let k := s.actSlot
  let s := s.disarm
  ({ s with upd := { s.upd with select := k, chain := some k } } : State).rstReq 0x5A5A0001

/-- The activation waits. -/
def State.deferAct (s : State) : State :=
  if s.upd.deferred then s
  else ({ s with upd := { s.upd with deferred := true } } : State).raiseBit 35 2

/-- The armed activation's time has come, or one of its cases has come to apply: by role (R432). -/
def State.activation (s : State) : State :=
  if !s.regB Reg.UPD_ACT_EXT 17 || s.now < s.actTime || s.noFeed then s
  else if s.role = 0 || s.role = 3 || s.role = 6 then s.activateNow
  else if s.role = 2 && s.regB Reg.PAIR_STS 0 && s.pair.arm.isNone && s.pair.hand.isNone then s.startHand .activation none
  else match s.pair.hand with
    | some h => if h.kind = .activation then s else s.deferAct
    | none => s.deferAct

/-- An activation that is due, as an event of Table 18.8. -/
def State.activationEvs (s : State) : List Ev :=
  if s.regB Reg.UPD_ACT_EXT 17 && !s.upd.deferred && s.actTime ≤ s.now then [⟨.activation, 0, 0⟩] else []

/-! ### The floor (R436, R437) -/

/-- SECVER of the running image. -/
def State.runSecver (s : State) : Nat :=
  match s.upd.run.bind (fun k => (s.slot k).hdr) with | some h => h.secver | none => 0

/-- A write of UPD_FLOOR_REQ: a burn begins, or the write is ignored. -/
def State.floorReq (s : State) (v : Word) : State :=
  let n := v.fld 7 0
  if v.fld 31 16 = 0xA5C3 && s.upd.floor < n && n ≤ s.runSecver && s.upd.burn.isNone then
    { s with upd := { s.upd with burn := some (n, s.sclk), refused := false } }
  else { s with upd := { s.upd with refused := true } }

/-- A burn ends when its last fuse is written, 1 ms for each. -/
def State.burnDone (s : State) : State :=
  match s.upd.burn with
  | some (n, b) =>
    if b + (n - s.upd.floor) * msClk ≤ s.sclk then
      ({ s with upd := { s.upd with floor := n, burn := none } } : State).raiseBit 35 3
    else s
  | none => s

/-! ### Register views (R440) -/

/-- What a slot's header holds, 0 where the slot is EMPTY or PARTIAL. -/
def Slot.shown (x : Slot) (f : ImgHdr → Nat) : Nat :=
  if x.st ≤ 1 then 0 else match x.hdr with | some h => f h | none => 0

/-- UPD_STS. CLOSE is one step, so XFER never reads CHECKING. -/
def State.updSts (s : State) : Word :=
  let xfer := match s.upd.session with | some x => if x.erasing then 1 else 2 | none => 0
  w32 ((s.upd.run.getD 0) % 2 + s.upd.select % 2 * 2 + (s.slot 0).st % 8 * 4 + (s.slot 1).st % 8 * 2 ^ 5 + xfer * 2 ^ 8 +
    ofBool (s.regB Reg.UPD_ACT_EXT 17) * 2 ^ 10 + ofBool s.upd.deferred * 2 ^ 11 + ofBool s.upd.burn.isSome * 2 ^ 12 +
    ofBool s.upd.refused * 2 ^ 13)

/-- UPD_SECVER. -/
def State.updSecver (s : State) : Word :=
  w32 (s.floorNow % 256 + s.runSecver % 256 * 2 ^ 8 + (s.slot 0).shown (·.secver) % 256 * 2 ^ 16 +
    (s.slot 1).shown (·.secver) % 256 * 2 ^ 24)

/-- UPD_FWREV_A and UPD_FWREV_B. -/
def State.updFwrev (s : State) (k : Nat) : Word := w32 ((s.slot k).shown (·.fwrev))

/-- UPD_SETFMT. -/
def State.updSetfmt (s : State) : Word :=
  let img := match s.upd.run.bind (fun k => (s.slot k).hdr) with | some h => h.setFmt | none => 0
  w32 (s.upd.setFmt % 2 ^ 16 + img % 2 ^ 16 * 2 ^ 16)

/-- UPD_XFER_STS. -/
def State.xferSts (s : State) : Word :=
  match s.upd.session with
  | some x => w32 (x.slot % 2 + 2 + s.stored x.slot % 2 ^ 13 * 2 ^ 8)
  | none => 0

/-! ### The commands -/

/-- An update transfer frame arrives and is addressed to the module. -/
def State.onSvc (s : State) (dst etype : Nat) (f : State → State) : State := if s.svcTakes dst etype then f s else s

/-- OPEN. -/
def execUpdOpen (dt dst etype slot tag mac len crc : Nat) (s : State) : Answer :=
  afterEv dt [⟨.updOpen, slot, 0⟩] s (fun s => s.onSvc dst etype (fun s => s.updOpen slot tag mac len crc))
/-- BLOCK. -/
def execUpdBlock (dt dst etype slot tag mac index part crc : Nat) (bytes : List Byte) (s : State) : Answer :=
  afterEv dt [⟨.blockDone, slot, 0⟩] s (fun s => s.onSvc dst etype (fun s => s.updBlock slot tag mac index part crc bytes))
/-- CLOSE. -/
def execUpdClose (dt dst etype slot tag mac : Nat) (s : State) : Answer :=
  after dt s (fun s => s.onSvc dst etype (fun s => s.updClose slot tag mac))
/-- ABORT. -/
def execUpdAbort (dt dst etype slot tag mac : Nat) (s : State) : Answer :=
  after dt s (fun s => s.onSvc dst etype (fun s => s.updAbort slot tag mac))
/-- SLOT_ERASE_DONE. -/
def execSlotEraseDone (dt : Nat) (s : State) : Answer := after dt s State.eraseDone
/-- SESSION_TIMEOUT. -/
def execSessionTimeout (dt : Nat) (s : State) : Answer := afterEv dt (s.advance dt).timeoutEvs s State.sessionTimeout
/-- RECOVERY_ANNOUNCE. -/
def execRecoveryAnnounce (dt : Nat) (s : State) : Answer := after dt s State.recoveryAnnounce
/-- ACTIVATION. -/
def execActivation (dt : Nat) (s : State) : Answer := afterEv dt (s.advance dt).activationEvs s State.activation
/-- FLOOR_BURN_DONE. -/
def execFloorBurnDone (dt : Nat) (s : State) : Answer := after dt s State.burnDone

end Sys2Proof.Machine
end

