-- ==== Sys2Proof/Machine/Leds.lean ====
section
/-!
DEFINITION. The LEDs (19 R453, Table 19.10): what each of them shows, as a function of the state, and SYS_STATUS with its
FAULT bit.
-/
namespace Sys2Proof.Machine

/-- What an LED shows. -/
inductive LedShow where
  | off | steady | blinking
deriving DecidableEq, Repr

/-- The ROLE LED has two colours, and shows them in turn in one state. -/
inductive RoleShow where
  | off | green | yellow | yellowBlinking | alternating
deriving DecidableEq, Repr

/-- PWR_START_STS.PHASE. -/
def State.startPhase (s : State) : Nat := s.regF Reg.PWR_START_STS 3 0

/-- All LEDs light, whatever they would show: for 0.5 s from the beginning of start-up step 2. -/
def State.lampTest (s : State) : Bool := s.pwr.lampAt.any (fun t => decide (s.sclk < t + 500 * msClk))

/-- RUN: green in mode TASK, blinking in start-up and in mode FIXED. -/
def State.ledRun (s : State) : LedShow :=
  if s.pwr.held.isSome || s.pwr.recovery || s.startPhase = 1 then .off
  else if s.plm.mode = .task then .steady
  else if !s.pwr.ready || s.plm.mode = .fixed then .blinking
  else .off

/-- ROLE. -/
def State.ledRole (s : State) : RoleShow :=
  match s.role with
  | 1 => .green
  | 2 => .green
  | 3 => if s.regB Reg.PAIR_STS 0 then .yellow else .yellowBlinking
  | 4 => .alternating
  | 5 => .alternating
  | _ => .off

/-- FORCE. -/
def State.ledForce (s : State) : LedShow := if s.plm.forces = [] then .off else .steady

/-- The causes of the steady FAULT LED: a permanent event in a pair without spare, NO_SPARE, FENCED, ROM recovery mode. -/
def State.faultSteady (s : State) : Bool :=
  s.cmp.any (fun c => c.2.withdrawn || c.2.noSpare) || s.regB Reg.PAIR_STS 8 || s.pwr.recovery

/-- The causes of the blinking FAULT LED: a retirement recorded, HOLDUP_LOW, HOT. -/
def State.faultBlinks (s : State) : Bool :=
  decide (s.mram.retired ++ s.mram.waiting ≠ []) || s.regB Reg.PWR_STS 6 || s.regB Reg.PWR_STS 7

/-- FAULT. -/
def State.ledFault (s : State) : LedShow :=
  if s.faultSteady then .steady else if s.faultBlinks then .blinking else .off

/-- SYNC. -/
def State.ledSync (s : State) : LedShow :=
  if s.regB Reg.TIM_STS 3 || s.regB Reg.TIM_STS 4 || s.regB Reg.PWR_START_STS 7 then .blinking
  else if !s.pwr.settled then .off
  else if s.regB Reg.TIM_STS 2 || s.regB Reg.TIM_STS 7 then .steady
  else .off

/-- What a channel LED shows: its colour is red for the first two. -/
inductive ChanShow where
  | off | green | red | redBlinking
deriving DecidableEq, Repr

/-- The LED of channel `n`: red for a channel retired, blinking red for one tripped or with a wire or signal flag up, green
for a DI at 1, a DO that is on, or an active analogue channel. -/
def State.ledChan (s : State) (n : Nat) : ChanShow :=
  let sts := s.chSts n
  let st := sts.fld 2 0
  let m := s.chMode n
  if st = 3 then .red
  else if st = 2 || sts.bit 5 || sts.bit 6 || sts.bit 8 || sts.bit 9 then .redBlinking
  else if st = 1 && (((m = 1 || m = 2) && (s.chan n).level) || (m = 3 && s.standing n) || 4 ≤ m) then .green
  else .off

/-- SYS_STATUS (R47): READY, FIXED_MODE, FORCES, FAULT. -/
def State.sysStatus (s : State) : Word :=
  w32 (ofBool s.pwr.ready + 2 * ofBool (s.plm.mode = .fixed) + 4 * ofBool (s.plm.forces ≠ []) +
    8 * ofBool (decide (s.ledFault ≠ .off)))

end Sys2Proof.Machine
end

