-- ==== Sys2Proof/Machine/Pair.lean ====
section
/-!
DEFINITION. The redundant pair (12 R262-R296): the link, roles and their decision, the checkpoint stream and its
generations, resynchronisation, loss and takeover, hand-over and program exchange, and the module's own removal.
-/
namespace Sys2Proof.Machine

/-! ### Hearing the partner (R263, R268, R270, R283) -/

/-- 600 us in SCLK clocks: the silence of R268 and R283. -/
def silenceClk : Nat := 600 * usClk

/-- The partner's last role heard (PAIR_ROLE.PARTNER). -/
def State.partner (s : State) : Nat := s.regF Reg.PAIR_ROLE 6 4

/-- A role that runs the line. -/
def runningRole (r : Nat) : Bool := r = 1 || r = 2 || r = 5

/-- An instant lies at least `n` clocks back; one that never was does. -/
def State.agoAtLeast (s : State) (t : Option Nat) (n : Nat) : Bool :=
  match t with | some x => decide (x + n ≤ s.sclk) | none => true

/-- The change between ALONE and ACTIVE (R263), with the copy of the partner's readiness. -/
def State.follow (s : State) (ready : Bool) : State :=
  if !(s.runs || s.role = 5) then s
  else
    let t := s.setReady ready
    if t.role = 5 then t else t.setRole (if ready then 2 else 1)

/-! ### The state as records (R276, R280) -/

def datStOf (n : Nat) : DatState :=
  match n with | 0 => .undefined | 1 => .stopped | 2 => .running | _ => .stopping

def stakeStOf (n : Nat) : StakeState :=
  match n with | 0 => .disarmed | 1 => .armed | _ => .prov

/-- The mode as a number. -/
def modeCode : PlmMode → Nat
  | .idle => 0 | .fixed => 1 | .task => 2

/-- What the standby holds where a record will write: its undo record (R278). -/
def State.undoOf (s : State) : DeltaRec → DeltaRec
  | .image sp t w ws => .image sp t w ((List.range ws.length).map (fun k => s.imgW sp t (w + k)))
  | .inst w ws => .inst w ((List.range ws.length).map (fun k => sget 0 s.blk.mem (w + k)))
  | .stake i .. => s.stakeRec i
  | .config 0 _ 0 _ => .config 0 false 0 [w32 s.mp.gen, w32 s.mp.session, w32 s.mp.sessions]
  | .config 0 _ _ _ => s.armRec
  | .config cat sh it ws => .config cat sh it ((List.range ws.length).map (fun k => if sh then s.sw cat it k else s.cw cat it k))
  | r => r

/-- A force set or released, as every force clock does (R207, R209). -/
def State.putForce (s : State) (y : Nat) (v : Option Nat) : State :=
  let rest := s.plm.forces.filter (fun f => f.sym ≠ y)
  let fs : List Force := match v with | some x => rest ++ [⟨y, x⟩] | none => rest
  if fs = s.plm.forces then s else ({ s with plm := { s.plm with forces := fs } } : State).raiseBit 25 6

/-- The slot number of a swap that no command of this module waits for. -/
def noSlot : Nat := 2 ^ 64

/-- The trigger that words 4 to 7 of a command name (R68). -/
def State.triggerOf (s : State) (w4 : Word) (pos : Nat) (down : Bool) : Trigger :=
  match w4.fld 11 8 with
  | 1 => .task (w4.fld 20 16)
  | 2 => s.datumTrigger (w4.fld 23 21) pos down
  | _ => .fixedEnd

/-- Words written into an item of a configuration set. -/
def putCfg (c : Sparse Word) (cat it : Nat) (ws : List Word) : Sparse Word :=
  (List.range ws.length).foldl (fun c k => sput 0 c (cfgKey cat it k) (item ws k)) c

/-- A datum as the checkpoint holds it (R115); the publishing ports are told of a new truncation point, for the module that goes
on with the line (R148). -/
def State.putDatum (s : State) (d : Nat) (q : DatQ) : State :=
  let was := (s.dat d).trunc
  let s := s.modDat d (fun x => { x with
    st := datStOf q.st, seq := q.seq, queue := q.segs, ended := q.ended, heldP := q.heldP, heldW := q.heldW, phase := q.phase,
    ratio := q.ratio, engaged := q.engaged, stopCmd := q.stop, trunc := q.trunc, halts := q.halts })
  match q.trunc with
  | some n => if was = q.trunc then s else s.cutPorts (s.datPub d) d n q.segs
  | none => s

/-- An axis stream as the checkpoint holds it (R239). -/
def State.putAxis (s : State) (a : Nat) (q : AxisQ) : State :=
  let was := sget none s.blk.axisTrunc a
  let s := { s with blk := { s.blk with
    streams := sput [] s.blk.streams a q.segs, axisSeq := sput 0 s.blk.axisSeq a q.seq,
    axisLast := sput none s.blk.axisLast a q.ended, axisTrunc := sput none s.blk.axisTrunc a q.trunc } }
  match q.trunc with
  | some n => if was = q.trunc then s else s.cutPorts (s.axisOut a).1 (0x1000 + a) n q.segs
  | none => s

/-- Instance words of the checkpoint; with a header whose RUNS is not zero the instance has completed a run (R220). -/
def State.putInstRec (s : State) (a : Nat) (ws : List Word) : State :=
  let s := s.setInstWords a ws
  if (s.allocated.map s.instBase).contains a then
    { s with blk := { s.blk with ran := sput false s.blk.ran a (decide (item ws 2 ≠ 0)) } } else s

/-- A write by the pair-link DMA (R368). One to a bank that is retired on this module is dropped with no access (R381). -/
def State.dmaWrite (s : State) (a : Nat) (bs : List Byte) : State :=
  if bs = [] || (inSram a && s.bankState (bankOf a) = 3) then s else (s.memAccess 0x41 true a bs.length bs).1

/-- A register of the checkpoint; the owner of a bank that is retired on this module is left (R381). -/
def State.putRegister (s : State) (a : Nat) (w : Word) : State :=
  if (List.range 24).any (fun n => a = Reg.BNK_OWN n && s.bankState n = 3) then s else s.setReg a w

/-- A record that is no configuration item of the active set, applied (R278). -/
def State.putRec (s : State) : DeltaRec → State
  | .image sp t w ws => s.setImgWords sp t w ws
  | .input sp w ws => s.setImgWords sp 0 w ws
  | .inst w ws => s.putInstRec w ws
  | .datumQ d q => s.putDatum d q
  | .axisQ a q => s.putAxis a q
  | .stake i st tgt cnt b x =>
    s.setStake i { s.stake i with st := stakeStOf st, target := tgt, count := cnt, block := b, lastXt := x, ref := none, prov := none }
  | .sent p stn code evt act =>
    let e : StnEvent := ⟨p, stn, code, act⟩
    ({ s with stk := { s.stk with sentLog := s.stk.sentLog ++ [e], kept := s.stk.kept.filter (fun x => x ≠ e) } } : State).modPort p
      (fun q => { q with evtId := max q.evtId evt })
  | .config 0 _ 0 ws => { s with mp := { s.mp with gen := (item ws 0).toNat, session := (item ws 1).toNat, sessions := (item ws 2).toNat } }
  | .config 0 _ _ ws =>
    if ws = [] then { s with mp := { s.mp with swap := none } }
    else { s with mp := { s.mp with swap := some {
      mask := (item ws 0).fld 6 0, trig := s.triggerOf (item ws 0) (pair64 (item ws 1) (item ws 2)) ((item ws 3).bit 0),
      slot := noSlot, word4 := item ws 0 } } }
  | .config cat true it ws => { s with cfgS := putCfg s.cfgS cat it ws }
  | .config _ false _ _ => s
  | .force y v => s.putForce y v
  | .value y v => match s.symbol y with | some x => s.putSymbol x v | none => s
  | .konst w ws => s.constPairs.foldl (fun s p => s.setKonst p w ws) s
  | .mode m => { s with pair := { s.pair with ckMode := m } }
  | .register a w => s.putRegister a w
  | .bank b o bs => s.dmaWrite (sramBase + b * 2 ^ 21 + o) bs
  | .releaseEnd .. => s

/-- An item of the active set, with its category. -/
def activeItem : DeltaRec → Option (Nat × Nat × List Word)
  | .config 0 _ _ _ => none
  | .config cat false it ws => some (cat, it, ws)
  | _ => none

/-- Records applied: the items of the active set in one clock first, as a swap applies them, then the rest in order. -/
def State.putRecs (s : State) (rs : List DeltaRec) : State :=
  let items := rs.filterMap activeItem
  let mask := [1, 2, 3, 4, 5, 6, 7].foldl (fun m c => if items.any (fun x => x.1 = c) then m + 2 ^ (c - 1) else m) 0
  let s := if items = [] then s else s.activate mask (items.foldl (fun c x => putCfg c x.1 x.2.1 x.2.2) s.cfgA)
  let s := rs.foldl State.putRec s
  if items = [] then s else s.keepApp

/-- The runs of consecutive keys of a table, as first key and values. -/
def runsOf {α : Type} : List (Nat × α) → List (Nat × List α)
  | [] => []
  | (k, v) :: rest =>
    match runsOf rest with
    | (j, vs) :: more => if j = k + 1 ∧ vs.length < 400 then (k, v :: vs) :: more else (k, [v]) :: (j, vs) :: more
    | [] => [(k, [v])]

/-- An entry as a copy carries it: without the changes of a release that has not committed (R135). -/
def State.stakeCopy (s : State) (i : Nat) : DeltaRec :=
  let saved := (s.engs.filterMap (fun e => e.2.rel)).flatMap (fun r => r.saved)
  match saved.find? (fun p => p.1 = i) with
  | some p => (s.setStake i { p.2 with prov := none }).stakeRec i
  | none => s.stakeRec i

/-- The axis streams that have ever carried a segment. -/
def State.axes (s : State) : List Nat := (s.blk.axisSeq.map (·.1) ++ s.blk.streams.map (·.1)).eraseDups

/-- The state that a resynchronisation copies (R280), as records: both sets, the image store, instance memory, constants,
queues, stakes, forces, the mode and PLM_FIXED_CFG, the owners of the banks, and the mirrored banks. -/
def State.copyRecs (s : State) : List DeltaRec :=
  let items (c : Sparse Word) (sh : Bool) : List DeltaRec := (List.range 8).flatMap (fun cat => (listed c cat).map (fun it =>
    .config cat sh it ((List.range (itemWords cat it)).map (fun w => cfgWord c cat it w))))
  items s.cfgA false ++ items s.cfgS true ++
  [.config 0 false 0 [w32 s.mp.gen, w32 s.mp.session, w32 s.mp.sessions], s.armRec] ++
  (runsOf s.img).map (fun r => let (sp, t, w) := keyParts r.1; .image sp t w r.2) ++
  (runsOf s.blk.mem).map (fun r => .inst r.1 r.2) ++
  (runsOf (s.konst.filter (fun e => e.1 / 16384 = (s.constPairs.headD 0)))).map (fun r => .konst (r.1 % 16384) r.2) ++
  ((s.allocated.map s.instBase).filter (sget false s.blk.ran)).map (fun a => .inst a (s.instAt a 8)) ++
  (List.range 8).map (fun d => .datumQ d (s.dat d).ckpt) ++
  s.axes.map (fun a => .axisQ a (s.axisCkpt a)) ++
  ((s.stk.entries.map (·.1) ++ (listed s.cfgA 5).filter (· < 4096)).eraseDups).map s.stakeCopy ++
  s.plm.forces.map (fun f => .force f.sym (some f.value)) ++
  [.mode (modeCode s.plm.mode), .register Reg.PLM_FIXED_CFG (s.reg Reg.PLM_FIXED_CFG)] ++
  (List.range 24).map (fun n => .register (Reg.BNK_OWN n) (s.reg (Reg.BNK_OWN n))) ++
  ((List.range 24).filter s.mirrored).flatMap (fun n =>
    (runsOf (s.mem.sram.filter (fun e => e.1 / 2 ^ 21 = n))).map (fun r => .bank n (r.1 % 2 ^ 21) r.2))

/-! ### The copy on the module that runs the line (R280, R282) -/

/-- A sequenced frame of a copy: the copy is paced by the link, so it never overflows the window. -/
def State.sendCopy (s : State) (b : LinkBody) : State :=
  let f : LinkFrame := ⟨⟨s.carrying.getD 0, false, s.pair.nextSeq, s.epoch, 0⟩, b⟩
  ({ s with pair := { s.pair with window := s.pair.window ++ [(f, s.sclk)], nextSeq := s.pair.nextSeq + 1 } } : State).emitLink f

/-- The bytes of the running program in PROGRAM frames. -/
def State.programFrames (s : State) : List LinkBody := (runsOf s.progBytes).map (fun r => .program r.1 r.2)

/-- A copy begins: program bytes first, then the state; deltas follow in the same sequence, and open generations are
counted afresh for the partner (log 29). -/
def State.startCopy (s : State) : State :=
  let s := (s.setRegB Reg.PAIR_STS 1 true).setRegB Reg.PAIR_STS 2 false
  let s := { s with pair := { s.pair with
    stream := true, dirty := [], gens := s.pair.gens.map (fun (g : GenLog) => { g with recs := [], ended := 0 }) } }
  let s := s.programFrames.foldl State.sendCopy s
  s.copyRecs.foldl (fun s r => s.sendCopy (.resync 0 [] [r])) s

/-- The copy ends (RESYNC_COPY_END): on either module RESYNC clears and RESYNC_DONE is set. -/
def State.copyEnd (s : State) : State :=
  if !s.regB Reg.PAIR_STS 1 || !(s.runs || s.role = 5 || s.role = 3) then s
  else
    let t := (s.setRegB Reg.PAIR_STS 1 false).raiseBit 28 5
    if t.role = 3 then { t with pair := { t.pair with copied := true, joined := false, joining := false } } else t

/-- A joined standby has completed a generation since its copy ended: it is READY (R280). -/
def State.resyncReady (s : State) : State :=
  if s.role = 3 && s.pair.copied && s.pair.joined then (s.keepApp.setRegB Reg.PAIR_STS 4 false).setReady true else s

/-! ### Loss (R279, R283, R284) -/

/-- The generations that are not complete are rolled back, the newest first. -/
def State.rollback (s : State) : State :=
  let undo := (s.pair.gens.reverse).flatMap (fun g => g.undo)
  let t := undo.foldl (fun (s : State) r => s.putRecs [r]) s
  { t with pair := { t.pair with gens := [] } }

/-- A loaded program and its map are discarded. -/
def State.dropLoaded (s : State) : State := ({ s with pair := { s.pair with loaded := none } } : State).setRegB Reg.PAIR_STS 6 false

/-- A STANDBY that declares loss shows it. -/
def State.noteLoss (s : State) : State := ({ s with pair := { s.pair with silent := true } } : State).raiseBit 28 1

/-- The instant at which a STANDBY has declared loss. -/
def State.noteLossAt (s : State) : State :=
  { (s.setReg64 Reg.PAIR_LOSS_T_LO Reg.PAIR_LOSS_T_HI s.now) with pair := { s.pair with lossAt := some s.now } }

/-- A STANDBY begins to take over, under a raised epoch. -/
def State.beginTakeover (s : State) : State := ((s.setRole 4).setEpoch (s.epoch + 1)).noteLossAt

/-- A STANDBY declares loss: READY and allowed to take over, it becomes TAKING_OVER under a raised epoch and rolls back,
and its controllers begin take-up (R321); otherwise it stays, and LOST_UNREADY is set. -/
def State.declareLoss (s : State) : State :=
  if s.role ≠ 3 then s
  else
    let s := s.noteLoss
    if s.regB Reg.PAIR_STS 0 && s.regB Reg.PAIR_CTL 0 then (s.beginTakeover.rollback.dropLoaded).setDrive 1
    else s.setRegB Reg.PAIR_STS 4 true

/-- What a role heard from the partner leaves in the pair unit. -/
def State.noteHeard (s : State) (was r : Nat) : State :=
  { s with pair := { s.pair with
    silent := false, heard := if was = r then (match s.pair.heard with | some t => some t | none => some s.sclk) else some s.sclk,
    standby := if r = 3 then (match s.pair.standby with | some t => some t | none => some s.sclk) else none,
    rxSeq := if r = 0 then 0 else s.pair.rxSeq } }

/-- The partner's role is heard, in a KEEPALIVE, a HEARTBEAT or a ROLE notice: a partner that leaves the running roles
without a SWAP is lost to its STANDBY (R283); one that has started up as ALONE makes its STANDBY resynchronise (Table 12.2). -/
def State.heardRole (s : State) (r : Nat) : State :=
  let was := s.partner
  let s := (s.setRegF Reg.PAIR_ROLE 6 4 r).noteHeard was r
  let s := if r = 3 then s else s.follow false
  if s.role = 3 && runningRole was && !runningRole r then s.declareLoss
  else if s.role = 3 && was = 0 && r = 1 then s.unready else s

/-! ### The link (R271-R275) -/

/-- A frame can be received on a lane. -/
def State.laneUp (s : State) (l : Nat) : Bool := s.lane l = 2 || s.lane l = 3

/-- A good frame arrives: the partner is heard, and its epoch is checked (R268, R270). -/
def State.hearLink (s : State) (h : LinkHdr) : State :=
  let s := { s with pair := { s.pair with lastLink := some s.sclk, lastAny := some s.sclk, silent := false, heardEpoch := some h.epoch } }
  if s.epoch < h.epoch then s.higherEpoch else s

/-- An unsequenced frame. -/
def State.rxPlain (s : State) (h : LinkHdr) (f : State → State) : State := if s.laneUp h.lane then f (s.hearLink h) else s

/-- A standby takes the stream while it is READY or resynchronises; one that does neither leaves the sender to repeat
(log 29). -/
def State.takesStream (s : State) : Bool :=
  s.role ≠ 3 || s.regB Reg.PAIR_STS 0 || s.regB Reg.PAIR_STS 1 || s.pair.copied

/-- The number of the last sequenced frame accepted. -/
def State.acceptSeq (s : State) (q : Nat) : State := { s with pair := { s.pair with rxSeq := q } }

/-- A sequenced frame (R273): in order it is accepted and acknowledged, out of order it is discarded, with an ACK. -/
def State.rxSeqd (s : State) (h : LinkHdr) (f : State → State) : State :=
  s.rxPlain h (fun s =>
    if !s.takesStream then s
    else if h.seq = s.pair.rxSeq + 1 || s.pair.rxSeq = 0 then
      (f (s.acceptSeq h.seq)).sendPlain (.ack h.seq)
    else s.sendPlain (.ack s.pair.rxSeq))

/-- Every frame that waits for acknowledgement is sent again from the oldest on, with RETX = 1. -/
def State.resend (s : State) : State :=
  let l := s.carrying.getD 0
  let w := s.pair.window.map (fun p => (({ p.1 with hdr := { p.1.hdr with retx := true, lane := l } } : LinkFrame), s.sclk))
  let s := { s with pair := { s.pair with window := w } }
  w.foldl (fun (s : State) p => s.emitLink p.1) s

/-- RETRANSMIT: 20 us without the acknowledgement of the oldest frame. -/
def State.retransmit (s : State) : State :=
  match s.pair.window with
  | [] => s
  | p :: _ =>
    if p.2 + 20 * usClk ≤ s.sclk && s.carrying.isSome then (s.countF Reg.PAIR_RETX 31 0 s.pair.window.length).resend else s

/-- An ACK releases the frames up to its number; BEHIND goes with its cause (log 29). -/
def State.ackUpTo (s : State) (n : Nat) : State :=
  let s := { s with pair := { s.pair with window := s.pair.window.filter (fun p => n < p.1.hdr.seq) } }
  if s.windowBytes ≤ 2 * 2 ^ 20 then s.setRegB Reg.PAIR_STS 2 false else s

/-- A lane's state changes (R271): with its interrupt. -/
def State.setLane (s : State) (l v : Nat) : State :=
  if s.lane l = v then s else (s.setRegF Reg.PAIR_LANES (4 * l + 2) (4 * l) v).raiseBit 28 3

/-- The traffic moves to the other lane if the carrying one is gone, starting with the oldest frame (R274). -/
def State.moveTraffic (s : State) : State :=
  if s.carrying.isSome then s
  else if s.lane 0 = 3 && s.lane 1 ≠ 2 then (s.setLane 0 2).resend
  else if s.lane 1 = 3 && s.lane 0 ≠ 1 then (s.setLane 1 2).resend
  else s

/-- A lane goes DOWN or ends its TRAINING; at start-up lane 0 carries. -/
def State.laneLink (s : State) (l : Nat) (up : Bool) : State :=
  if 1 < l || s.lane l = 4 then s
  else if !up then (s.setLane l 0).moveTraffic
  else if 2 ≤ s.lane l then s
  else (s.setLane l (if s.carrying.isNone && (l = 0 || s.lane 0 ≠ 1) then 2 else 3)).moveTraffic

/-- A frame with a bad CRC is discarded and counted; 16 within 1 s retire the lane (R274). -/
def State.crcError (s : State) (l : Nat) : State :=
  if 1 < l || !s.laneUp l then s
  else
    let s := s.countF (if l = 0 then Reg.PAIR_LANE0_CRC else Reg.PAIR_LANE1_CRC) 31 0 1
    let ts := (s.now :: (sget [] s.pair.crcTimes l).filter (fun t => s.now < t + 1000000000)).take 16
    let s := { s with pair := { s.pair with crcTimes := sput [] s.pair.crcTimes l ts } }
    if ts.length < 16 then s else ((s.setLane l 4).noteRetired (.lane l)).moveTraffic

/-- Every 10 us a KEEPALIVE on every lane that is not DOWN or RETIRED. -/
def State.keepalive (s : State) : State :=
  if !s.agoAtLeast s.pair.kaSent (10 * usClk) then s
  else
    let s := { s with pair := { s.pair with kaSent := some s.sclk } }
    let body : LinkBody := .keepalive s.role (s.regB Reg.PAIR_STS 0) (s.reg Reg.PAIR_GEN_DONE).toNat
    [0, 1].foldl (fun (s : State) l => s.emitLink ⟨⟨l, false, 0, s.epoch, 0⟩, body⟩) s

/-- Every 1 ms a delay request on every such lane (R275). -/
def State.timeExchange (s : State) : State :=
  if !s.agoAtLeast s.pair.timeSent (1000 * usClk) then s
  else
    let s := { s with pair := { s.pair with timeSent := some s.sclk } }
    [0, 1].foldl (fun (s : State) l => s.emitLink ⟨⟨l, false, 0, s.epoch, 0⟩, .time false (s.now : Int) 0 0⟩) s

/-- A TIME frame: a request is answered at once; a response gives offset and delay, which feed the servo of a module that
follows its partner (R82). -/
def State.timeRx (s : State) (l : Nat) (response : Bool) (t1 t2 t3 : Int) : State :=
  let t := (s.now : Int)
  if !response then s.emitLink ⟨⟨l, false, 0, s.epoch, 0⟩, .time true t1 t t⟩
  else if s.regB Reg.TIM_CTL 3 && s.ptpRole ≠ 0 then
    let delay := ((t - t1) - (t3 - t2)) / 2
    s.measured (t - (t3 + delay)) delay 1000000
  else s

/-! ### Frames of the stream -/

/-- KEEPALIVE: role, readiness and the last complete generation. A module that runs the line and hears a standby that it
does not stream to, or that is no longer READY, copies its state to it (R280, R282). -/
def State.keepaliveRx (s : State) (r : Nat) (ready : Bool) (complete : Nat) : State :=
  let s := s.heardRole r
  if !(s.runs || s.role = 5) || r ≠ 3 then s
  else
    let was := s.regB Reg.PAIR_STS 0
    let s := (s.setReg Reg.PAIR_GEN_DONE (w32 complete)).follow ready
    if !s.pair.stream || (!ready && was) then s.startCopy else s

/-- Records are applied by a STANDBY, and by a module that waits for H. -/
def State.appliesRecs (s : State) : Bool := s.role = 3 || (s.role = 4 && s.pair.swapIn.isSome)

/-- Bytes of undo records held (PAIR_UNDO). -/
def State.undoBytes (s : State) : Nat := (s.pair.gens.map (fun g => (g.undo.flatMap recWords).length * 4)).sum

/-- A record of a generation, kept with its undo record. -/
def State.noteGen (s : State) (gen : Nat) (r : DeltaRec) : State :=
  { s with pair := s.pair.onGen gen (fun g => { g with undo := s.undoOf r :: g.undo, recs := g.recs ++ [r] }) }

/-- A record of a generation: kept, and applied unless it waits for the rest. -/
def State.genRec (gen : Nat) (s : State) (r : DeltaRec) : State :=
  if (activeItem r).isSome then s.noteGen gen r else (s.noteGen gen r).putRec r

/-- What the items of a swap will overwrite beside themselves: the live parts of the stakes, and instance data (R278). -/
def State.swapUndo (s : State) (rs : List DeltaRec) : List DeltaRec :=
  let items := rs.filterMap activeItem
  let stakes := if items.any (fun x => x.1 = 5) then
    ((s.stk.entries.map (·.1) ++ (items.filter (fun x => x.1 = 5 && x.2.1 < 4096)).map (fun x => x.2.1)).eraseDups).map s.stakeRec else []
  let insts := (items.filter (fun x => x.1 = 6)).map (fun x =>
    DeltaRec.inst (itemBase x.2.2) (s.instAt (itemBase x.2.2) ((item x.2.2 2).fld 19 0)))
  stakes ++ insts

/-- Undo records kept for a generation. -/
def State.keepUndo (s : State) (gen : Nat) (us : List DeltaRec) : State :=
  if us = [] then s else { s with pair := s.pair.onGen gen (fun g => { g with undo := us ++ g.undo }) }

/-- DELTA: applied on arrival, or in a generation with undo records (R278). -/
def State.deltaRx (s : State) (gen : Nat) (rs : List DeltaRec) : State :=
  if !s.appliesRecs then s
  else if gen = 0 then s.putRecs rs
  else
    let s := s.keepUndo gen (s.swapUndo rs)
    let t := (rs.foldl (State.genRec gen) s).putRecs (rs.filter (fun r => (activeItem r).isSome))
    if 2 ^ 21 < t.undoBytes then t.unready else t

/-- RELEASE_END records of a generation. -/
def endsOf (rs : List DeltaRec) : Nat := (rs.filter (fun r => match r with | .releaseEnd .. => true | _ => false)).length

/-- GEN_CLOSE: the generation completes if count, digest and predecessor fit; otherwise the standby is no longer READY
(R278). -/
def State.genCloseRx (s : State) (g count digest : Nat) : State :=
  if !s.appliesRecs then s
  else
    let rs := match s.pair.gens.find? (fun x => x.gen = g) with | some x => x.recs | none => []
    if endsOf rs = count && recDigest rs = digest && (s.pair.gen = 0 || g = nextGen s.pair.gen) then
      { (s.setReg Reg.PAIR_GEN_DONE (w32 g)) with pair := { s.pair with
          gens := s.pair.gens.filter (fun x => x.gen ≠ g), gen := g, joined := s.pair.copied } }
    else { s.unready with pair := { s.unready.pair with gen := 0 } }

/-- The bytes of a program are the running program. -/
def State.installProgram (s : State) (bs : Sparse Byte) : State :=
  let n := match bs.getLast? with | some e => e.1 + 1 | none => 0
  { s with prog := Config.programOf ((List.range n).map (sget 0 bs)), progBytes := bs }

/-- What a copy replaces goes: both sets, the image store, block state, stakes, forces and the mirrored banks. A copy carries no
entry for what is empty on the other module. -/
def State.clearCopied (s : State) : State :=
  let banks := (List.range 24).filter s.mirrored
  { s with cfgA := [], cfgS := [], img := [], stk := { s.stk with entries := [] }, plm := { s.plm with forces := [] },
           blk := { s.blk with mem := [], ran := [], streams := [], axisSeq := [], axisLast := [], axisTrunc := [] },
           mp := { s.mp with swap := none }, mem := banks.foldl Memory.dropBank s.mem }

/-- The copy begins anew: no generation has come. -/
def State.joinAnew (s : State) : State :=
  let s := s.setRegB Reg.PAIR_STS 1 true
  { s with pair := { s.pair with copied := false, joined := false, joining := true, gens := [], gen := 0 } }

/-- The program that has come from the active module is installed, where it is another one. -/
def State.takeProgram (s : State) : State :=
  if s.pair.progIn = [] then s
  else
    let t : State := if s.pair.progIn = s.progBytes then s else s.installProgram s.pair.progIn
    { t with pair := { t.pair with progIn := [] } }

/-- The first RESYNC frame of a copy: the standby is not READY while it lasts, takes the epoch of the module it joins
(R267, R280), and runs on the program received before. -/
def State.beginJoin (s : State) (epoch : Nat) : State :=
  let s := (if s.regB Reg.PAIR_STS 0 then s.setReady false else s).clearCopied.joinAnew
  (if s.epoch < epoch then s.setEpoch epoch else s).takeProgram

/-- RESYNC: bytes at an internal address of memory, and state without an address as its records. -/
def State.resyncRx (s : State) (epoch addr : Nat) (bs : List Byte) (rs : List DeltaRec) : State :=
  if s.role ≠ 3 then s
  else
    let s := if !s.pair.joining || s.pair.progIn ≠ [] || s.epoch < epoch then s.beginJoin epoch else s
    (if inSram addr || inLpd addr then s.dmaWrite addr bs else s).putRecs rs

/-- PROGRAM: bytes of the program. -/
def State.programRx (s : State) (ofs : Nat) (bs : List Byte) : State :=
  if s.role ≠ 3 then s
  else { s with pair := { s.pair with progIn := (List.range bs.length).foldl (fun m k => sput 0 m (ofs + k) (bs.getD k 0)) s.pair.progIn } }

/-- SWAP: a READY standby becomes TAKING_OVER for H (R290). -/
def State.swapRx (s : State) (epoch t mask evtId : Nat) : State :=
  if s.role = 3 && s.regB Reg.PAIR_STS 0 then
    let s := { s with pair := { s.pair with swapIn := some (epoch, t, mask, evtId) } }
    ((s.setReg64 Reg.PAIR_H_LO Reg.PAIR_H_HI t).setRegF Reg.PAIR_ROLE 6 4 5).setRole 4
  else s

/-! ### Generations on the module that runs the line (R277) -/

/-- A boundary at a multiple of PERIOD has passed in task mode. -/
def State.genBoundary (s : State) : State :=
  let per := s.regF Reg.PAIR_GEN_CFG 16 0 * 1000
  let k := s.now / per
  if per = 0 || !(s.runs || s.role = 5) || s.plm.mode ≠ .task || k = s.pair.genAt then s
  else { s with pair := { (s.pair.onGen s.pair.gen (fun g => { g with past := true })) with gen := nextGen s.pair.gen, genAt := k } }

/-- The oldest generation is closed: GEN_CLOSE goes out with its count and digest. -/
def State.closeGen (s : State) (g : GenLog) : State :=
  let s := { s with pair := { s.pair with gens := s.pair.gens.filter (fun x => x.gen ≠ g.gen) } }
  let s := s.setReg Reg.PAIR_GEN_SENT (w32 g.gen)
  if s.streaming then s.sendSeq 0 (.genClose g.gen g.ended (recDigest g.recs)) else s

/-- GEN_CLOSE_SEND: the boundary of the oldest open generation has passed and its releases have ended. -/
def State.genCloseSend (s : State) : State :=
  match s.pair.gens with
  | g :: _ => if (s.runs || s.role = 5) && g.past && g.running = 0 then s.closeGen g else s
  | [] => s

/-- Every open generation is closed at once, the current one with them (R289). -/
def State.closeAll (s : State) : State :=
  let s := { s with pair := s.pair.onGen s.pair.gen (fun g => g) }
  let t := s.pair.gens.foldl State.closeGen s
  { t with pair := { t.pair with gen := nextGen t.pair.gen } }

/-! ### Taking up work (R116, R136, R265, R284, R290) -/

/-- The mode held in the checkpoint takes effect. -/
def State.resumeMode (s : State) : State :=
  match s.pair.ckMode with
  | 1 => s.setMode .fixed
  | 2 => s.setMode .task
  | _ => s

/-- The releases and generations of the new module start afresh: task states cleared, the next generation open. -/
def State.freshWork (s : State) : State :=
  let s := (List.range 32).foldl (fun (s : State) n => s.setTaskState n 0) s
  let s := (List.range 8).foldl (fun (s : State) d => if s.datSource d = 2 then s.modEnc d (fun e => { e with realign := true }) else s) s
  { s with engs := s.engs.map (fun e => (e.1, { e.2 with rel := none })), blk := { s.blk with pairs := [] },
           pair := { s.pair with
             gens := [], gen := nextGen s.pair.gen, genAt := s.now / (max 1 (s.regF Reg.PAIR_GEN_CFG 16 0 * 1000)), stream := false,
             copied := false, joined := false, joining := false, lossAt := none, swapIn := none, firedAt := [] } }

/-- A datum's position lies past a position in a direction (R70): with a modulo, by less than half of it. -/
def State.liesPast (s : State) (d pos : Nat) (down : Bool) : Bool :=
  let m := s.datMod d
  let p := (wrapPos m (s.datNow d).u).1
  if pair64 (s.cw 2 d 1) (s.cw 2 d 2) = 0 then (if down then p < pos else pos < p)
  else
    let past := if down then (pos + m - p) % m else (p + m - pos) % m
    past ≠ 0 && 2 * past < m

/-- A swap found armed on a DATUM takes effect at resumption if the position already lies past its own (R70). -/
def State.resumeSwap (s : State) : State :=
  match s.mp.swap with
  | some w =>
    match w.trig with
    | .datum d pos down _ _ => if s.liesPast d pos down then s.swapNow (w.fall s 0) else s
    | _ => s
  | none => s

/-- What the stake unit does with the actions derived while the module stood by, at resumption after a loss (R136). A kept EVENT
that its port can still send in time is queued; one that it cannot, and every other action whose fire instant lay between loss
and resumption, is not taken and counted. One whose fire instant is still to come is neither (log 79). -/
def State.resumeStakes (s : State) (loss : Nat) : State :=
  let now : Int := s.now
  let live := s.stk.kept.filter (fun e => now < e.act && !s.stk.sentLog.contains e)
  let take := live.filter (fun e => now + 2 * (s.cycleNs e.port : Int) ≤ e.act)
  let other := s.stk.undispatched.filter (fun a => decide ((loss : Int) ≤ a.tf) && decide (a.tf < now) &&
    (a.kind ≠ 5 || (!s.stk.sentLog.contains a.event && decide (a.event.act ≤ now))))
  let skip := (live.length - take.length) + other.length
  let s := { s with stk := { s.stk with kept := [], undispatched := [], actions := [] } }
  let s := take.foldl (fun (s : State) e => s.queueEvent e now false) s
  if skip = 0 then s else s.countF Reg.STK_RESUME_SKIP 31 0 skip

/-- Both groups' output values as the image holds them. -/
def State.allOutputs (s : State) : List (Nat × Word) := [0, 1].flatMap (fun g => if s.hasGroup g then s.readOutputs g else [])

/-- The module's stages drive, with the values given. -/
def State.driveAll (s : State) (outs : List (Nat × Word)) : State :=
  let s := s.setDrive 2
  [0, 1].foldl (fun (s : State) g => if s.hasGroup g then s.applyOutputs g (outs.filter (fun o => grpOf o.1 = g)) else s) s

/-- TAKEOVER_RESUME: R, at least 200 us after L (R284). -/
def State.resumeLoss (s : State) : State :=
  match s.pair.lossAt with
  | some l =>
    if s.role ≠ 4 || s.now < l + 200000 then s
    else
      let s := s.freshWork
      let s := ((s.setRole 1).setReady false).setReg Reg.PAIR_RESUME_US (w32 ((s.now - l) / 1000))
      let s := (s.countF Reg.PAIR_TAKEOVERS 15 0 1).tally 60 1
      let s := (s.resumeMode.resumeStakes l).resumeSwap
      s.driveAll s.allOutputs
  | none => s

/-! ### Planned hand-over (R289-R291) -/

/-- SWAP_SEND: the clock after the last running release ended. H is the first whole us at least 20 us later. -/
def State.swapSend (s : State) : State :=
  match s.pair.hand with
  | some h =>
    if s.role ≠ 5 || h.swap.isSome || s.running ≠ 0 then s
    else
      let s := s.closeAll
      let e := s.epoch + 1
      let t := (s.now + 20000 + 999) / 1000 * 1000
      let mask := maskOf 32 (fun n => s.taskState n = 1 || s.taskState n = 3)
      let evt := ([0, 1, 2, 3].map (fun n => (s.port n).evtId)).foldl max 0
      let s := { s with pair := { s.pair with hand := some { h with swap := some (e, t) } } }
      (s.setReg64 Reg.PAIR_H_LO Reg.PAIR_H_HI t).sendSeq 0 (.swap e t mask evt)
  | none => s

/-- Every action that is due is dispatched. -/
def State.dispatchAll (s : State) : State := (List.range s.stk.actions.length).foldl (fun (s : State) _ => s.dispatch) s

/-- A hand-over reached H: counted and signalled. -/
def State.reachedH (s : State) : State := ((s.countF Reg.PAIR_TAKEOVERS 31 16 1).tally 62 1).raiseBit 28 7

/-- The command that asked for a hand-over is answered with the raised epoch. -/
def State.answerHand (s : State) (h : HandOver) : State :=
  match h.slot with
  | some id => if h.kind = .withdraw then s.finishOk id [] else s.finishOk id [w32 s.epoch]
  | none => s

/-- H on the module that gives up the line. -/
def State.handedOver (s : State) (h : HandOver) (e t : Nat) : State :=
  let s := s.dispatchAll
  let last := s.pair.gen
  let mode := modeCode s.plm.mode
  let s := { s with stk := { s.stk with actions := [], heldActs := [], events := [], kept := [], undispatched := [] },
                    ports := s.ports.map (fun (p : Nat × Port) => (p.1, keepRegacc p.2)) }
  let s := ((s.setEpoch e).setRole 3).reachedH
  let s := { s with pair := { s.pair with
    hand := none, outputsAt := some (t, false), stream := false, gens := [], gen := last - 1, copied := true, joined := true,
    ckMode := mode } }
  let s := s.answerHand h
  match h.kind with
  | .exchange => s.unready
  | .handover | .noSpare => s
  | .withdraw => s.leaveService
  | .activation => s.activateNow

/-! ### The map of an exchange (R287, R288) -/

/-- The symbol of a program that has a name. -/
def progNamed (p : Program) (name : Nat) : Option Symbol := p.syms.find? (fun y => y.name = name)
def progIndex (p : Program) (name : Nat) : Option Nat := (List.range p.syms.length).find? (fun i => (p.syms.getD i default).name = name)

/-- A symbol that holds a value of the image store: a variable in Q, M, E, W or L. -/
def isVar (y : Symbol) : Bool := y.bits ≠ 0 && [2, 3, 6, 8, 10].contains y.space

/-- A symbol that can be forced (R207). -/
def canForce (y : Symbol) : Bool := [1, 8, 16, 32, 64].contains y.bits && [1, 2, 3, 8, 10].contains y.space

/-- The value of a variable as it is stored, under any force. -/
def State.symValue (s : State) (y : Symbol) : Nat :=
  (List.range y.bits).foldl (fun a b =>
    let n := y.bit + b
    if (s.imgW y.space y.task (n / 32)).bit (n % 32) then a + 2 ^ b else a) 0

/-- A variable of the old program is kept by the new one: size, type and kind of space unchanged. -/
def keeps (old new : Symbol) : Bool :=
  isVar old && isVar new && old.bits = new.bits && old.ty = new.ty && (old.space = 6) = (new.space = 6)

/-- A timer or counter carried over (Table 12.9): with TYPE unchanged ET, RUNNING, Q and REF, or CV and the edge bits, and
the new PT or PV. A timer of another TYPE is reset as in R183 and does not run. -/
def State.carryTimer (old : State) (s : State) (yo yn : Symbol) : State :=
  let w (k : Nat) : Word := old.imgW yo.space 0 (4 * yo.bit + k)
  let put (s : State) (k : Nat) (v : Word) : State := s.setImgW yn.space 0 (4 * yn.bit + k) v
  if yn.space = 4 && yo.ty ≠ yn.ty then put (put (put s 0 0) 2 (w32 (yn.ty % 4 + (w 2).fld 4 4 * 16))) 3 (w 3)
  else put (put (put s 0 (w 0)) 2 (w 2)) 3 (w 3)

/-- The declared value of a constant of a program. -/
def konstAt (p : Program) (k : Nat) : Word := sget 0 p.konst k

/-- State carried by symbol from the old program, in `old`, to the new one (R288). Symbols of the new program only, and
changed ones, keep the initial values that `startProgram` laid. -/
def State.carrySymbol (old : State) (s : State) (yn : Symbol) : State :=
  match progNamed old.prog yn.name with
  | none => s
  | some yo =>
    if keeps yo yn then s.putSymbol yn (old.symValue yo)
    else if yo.bits = 0 && yn.bits = 0 && yo.space = yn.space then old.carryTimer s yo yn
    else if yo.space = 7 && yn.space = 7 then
      (List.range ((yn.bits + 31) / 32)).foldl (fun (s : State) k =>
        let a := yo.bit / 32 + k
        let b := yn.bit / 32 + k
        if konstAt old.prog a = konstAt s.prog b then
          s.constPairs.foldl (fun (s : State) p => s.setKonst p b [sget 0 old.konst (p * 16384 + a)]) s
        else s) s
    else s

/-- The forces that the new program keeps, by the numbers of its symbols. -/
def mapForces (old new : Program) (fs : List Force) : List Force :=
  fs.filterMap (fun f =>
    match old.syms[f.sym]? with
    | some yo =>
      match progNamed new yo.name, progIndex new yo.name with
      | some yn, some i => if yo.bits = yn.bits && canForce yn then some ⟨i, f.value⟩ else none
      | _, _ => none
    | none => none)

/-- Symbols of the old program that the new one does not have. -/
def droppedSyms (old new : Program) : Nat := (old.syms.filter (fun y => (progNamed new y.name).isNone)).length

/-- Instance data that an exchange keeps: TYPE unchanged, moved to the new BASE (Table 12.9). -/
def State.carryInst (old : State) (s : State) (i : Nat) : State :=
  let ty (s : State) : Nat := (s.cw 6 i 0).fld 2 0
  if ty s = 0 || ty old ≠ ty s then s
  else
    let n := min ((old.cw 6 i 2).fld 19 0) ((s.cw 6 i 2).fld 19 0)
    s.putInstRec (s.instBase i) (old.instAt (old.instBase i) n)

/-- The categories a program's exchange set names. -/
def exMask (c : List (Nat × Word)) : Nat :=
  [1, 2, 3, 4, 5, 6, 7].foldl (fun m cat => if c.any (fun e => keyCat e.1 = cat) then m + 2 ^ (cat - 1) else m) 0

/-- The exchange set laid over a set: the categories it names are replaced. -/
def overSet (c : Sparse Word) (ex : List (Nat × Word)) : Sparse Word :=
  mergeSets (exMask ex) c (ex.foldl (fun (m : Sparse Word) e => sput 0 m e.1 e.2) [])

/-- The exchange set becomes active as at a CFG_SWAP (R68, R290), and instances of unchanged TYPE keep their data (R288). -/
def State.exchangeSet (s old : State) (mask : Nat) (c : Sparse Word) : State :=
  let t := s.activate mask c
  let t := if covers mask 6 then t.allocated.foldl (fun t i => old.carryInst t i) t else t
  { t with cfgS := mergeSets mask t.cfgS c, mp := { t.mp with session := 0, gen := (t.mp.gen + 1) % 2 ^ 32 } }

/-- The module goes over to a loaded program with the state the map carries (R287, R288, R290). -/
def State.exchange (s : State) (l : Loaded) (p : Program) : State :=
  let old := s
  let inputs := s.img.filter (fun e => e.1 / 0x100000 / 32 = 1)
  let fs := mapForces s.prog p s.plm.forces
  let t := { (s.startProgram p) with progBytes := l.bytes }
  let t := { t with img := inputs ++ t.img.filter (fun e => e.1 / 0x100000 / 32 ≠ 1), plm := { t.plm with forces := fs } }
  let t := p.syms.foldl (fun t y => old.carrySymbol t y) t
  (if p.exset = [] then t else (t.fireOwned).exchangeSet old (exMask p.exset) (overSet t.cfgA p.exset)).keepApp.dropLoaded

/-- The program at H on a standby that holds a loaded one (R287, R290): it goes over to a mapped one in an exchange, which no
field of SWAP tells from a hand-over (log 47); else it drops what it has loaded. -/
def State.programAtH (s : State) (l : Loaded) : State :=
  match l.prog with
  | some p =>
    let t : State := { s with free := s.free + 1 }
    if s.regB Reg.PAIR_STS 6 && Config.freeValue 8 s.free % 2 = 1 then t.exchange l p else t.dropLoaded
  | none => s.dropLoaded

/-- H on the module that takes the line (R290). The SWAP was sent 20 us to 21 us before H, so that a task that fired in the first
of these is in the mask or among those that fired; a task is started once. -/
def State.tookOver (s : State) (e t mask evt : Nat) : State :=
  let sent := t - 20000
  let fired := maskOf 32 (fun n => match sget none s.pair.firedAt n with | some x => t - 21000 ≤ x | none => false)
  let mine := s.stk.undispatched
  let between (a : Action) : Bool := decide ((sent : Int) ≤ a.tf) && decide (a.tf < (t : Int))
  let ckMode := s.pair.ckMode
  let s := s.freshWork
  let was := s.prog
  let s := match s.pair.loaded with
    | some l => s.programAtH l
    | none => s
  let s := (((s.setEpoch e).setRole 1).setReady false).reachedH
  let s := { s with ports := [0, 1, 2, 3].foldl (fun ps n => smod {} ps n (fun (p : Port) => { p with evtId := evt })) s.ports,
                    stk := { s.stk with kept := [], undispatched := [], actions := mine.filter (fun a => decide ((t : Int) ≤ a.tf)) },
                    pair := { s.pair with outputsAt := some (t, true), outsAtH := s.allOutputs, stream := decide (s.prog = was) } }
  let s := s.resumeMode
  let s := if ckMode = 2 then (s.arriveMask (w32 mask ||| w32 fired)) else s
  (mine.filter between).foldl (fun (s : State) a => if a.kind = 5 || (a.kind = 2 && ckMode = 2) then s.act a else s) s

/-- HANDOVER_H: H has come, on either module. -/
def State.handoverH (s : State) : State :=
  match s.pair.hand, s.pair.swapIn with
  | some h, _ =>
    (match h.swap with
     | some (e, t) => if s.role = 5 && t ≤ s.now then s.handedOver h e t else s
     | none => s)
  | none, some (e, t, mask, evt) => if s.role = 4 && t ≤ s.now then s.tookOver e t mask evt else s
  | none, none => s

/-- HANDOVER_TIMEOUT: releases have not ended 20 ms after the trigger; the former role returns (Table 12.2). -/
def State.handTimeout (s : State) : State :=
  match s.pair.hand with
  | some h =>
    if s.role ≠ 5 || h.swap.isSome || s.running = 0 || s.now < h.at_ + 20000000 then s
    else
      let s := ({ s with pair := { s.pair with hand := none } } : State).setRole h.former
      let s := match h.slot with | some id => s.finishErr id stCancelled | none => s
      if h.kind = .activation then s.deferAct else s
  | none => s

/-- HANDOVER_OUTPUT_SWITCH: at H + 100 us the old module releases and the new one drives (R323). -/
def State.outputSwitch (s : State) : State :=
  match s.pair.outputsAt with
  | some (t, mine) =>
    if s.now < t + 100000 then s
    else
      let outs := s.pair.outsAtH
      let s := { s with pair := { s.pair with outputsAt := none, outsAtH := [] } }
      if mine then (if s.runs then s.driveAll outs else s) else s.releaseOutputs
  | none => s

/-! ### Silence, isolation, presence (R268, R283, R292) -/

/-- Neither link frame nor HEARTBEAT from the partner for 600 us. -/
def State.partnerSilent (s : State) : Bool :=
  s.agoAtLeast s.pair.lastLink silenceClk && (match s.hbAt with | some t => decide (t + 600000 ≤ s.now) | none => true)

/-- LOSS_DECLARED. -/
def State.lossDeclared (s : State) : State :=
  if s.role = 3 && s.partnerSilent && !s.pair.silent then s.declareLoss else s

/-- No frame at all for 600 us, counted from the role decision where none ever came. -/
def State.allSilent (s : State) : Bool :=
  match s.pair.lastAny with
  | some t => decide (t + silenceClk ≤ s.sclk)
  | none => match s.pwr.roleAt with | some t => decide (t + silenceClk ≤ s.sclk) | none => false

/-- ISOLATION_TIMEOUT: with a fitted partner and no frame for 600 us a module that runs the line fences. -/
def State.isolation (s : State) : State :=
  if (s.runs || s.role = 5) && s.regB Reg.SYS_SLOT 1 && s.allSilent then (s.setRegB Reg.PAIR_STS 3 true).fence 1 else s

/-- PARTNER_SILENCE: the partner alone is silent; the module stays in service as ALONE, and the stream ends. -/
def State.partnerSilence (s : State) : State :=
  if !(s.runs || s.role = 5) || !s.partnerSilent || s.pair.silent || (s.regB Reg.SYS_SLOT 1 && s.allSilent) then s
  else
    let s := ({ s with pair := { s.pair with silent := true, stream := false, window := [] } } : State).raiseBit 28 1
    (s.setRegB Reg.PAIR_STS 1 false).follow false

/-- MODULE_REMOVAL: PRESENT lost for 100 us. -/
def State.removal (s : State) : State :=
  if !s.isOn then s
  else
    let t := if s.runs || s.role = 5 then s.fence 4 else s.sendSeq 0 (.role s.role 4)
    t.closeStretch 3

/-! ### The role decision (R264, R267) -/

/-- The module becomes ALONE under a raised epoch and drives its outputs. -/
def State.decideAlone (s : State) : State :=
  let e := max s.pair.epochMram (max (s.reg Reg.TRV_SW_EPOCH_MAX).toNat (s.pair.heardEpoch.getD 0)) + 1
  ((s.setEpoch e).setRole 1).setDrive 2

/-- The module joins as STANDBY: the partner's epoch, and resynchronisation if AUTO_RESYNC is 1. -/
def State.decideStandby (s : State) : State := ((s.setEpoch (s.pair.heardEpoch.getD s.epoch)).setRole 3).unready

/-- OUT_OF_SERVICE, with which start-up ends (R417). -/
def State.decideOut (s : State) (mismatch : Bool) : State :=
  ((s.setRegB Reg.PAIR_STS 5 mismatch).setRole 6).startDone

/-- The decision where one is possible; `same` says that the partner has the same order code (R4). -/
def State.decision (s : State) (same : Bool) : Option (State → State) :=
  let past (t : Option Nat) (n : Nat) : Bool := match t with | some x => decide (x + n ≤ s.sclk) | none => false
  match s.pair.lastLink with
  | none => if past s.pwr.listenAt (50 * msClk) then some State.decideAlone else none
  | some _ =>
    match s.partner with
    | 0 =>
      if s.slotId = 0 then some State.decideAlone
      else if !same then some (fun s => s.decideOut true)
      else if past s.pair.heard (5000 * msClk) then some (fun s => s.decideOut false) else none
    | 1 => some (if same then State.decideStandby else fun s => s.decideOut true)
    | 2 => some (if same then State.decideStandby else fun s => s.decideOut true)
    | 6 => some State.decideAlone
    | _ =>
      if past s.pair.standby (5000 * msClk) then some State.decideAlone
      else if same then none else some (fun s => s.decideOut true)

/-- ROLE_DECISION: step 7 of start-up ends and step 8 begins. -/
def State.roleDecision (s : State) (same : Bool) : State :=
  if s.role ≠ 0 || s.regF Reg.PWR_START_STS 3 0 ≠ 5 || s.pwr.roleAt.isSome then s
  else match s.decision same with
    | some f =>
      f (({ s with pwr := { s.pwr with roleAt := some s.sclk } } : State).setRegF Reg.PWR_START_STS 3 0 6)
    | none => s

/-! ### The DATUM trigger -/

/-- PAIR_DATUM_TRIGGER: the crossing test of an armed hand-over, which triggers in the clock that contains the crossing. -/
def State.pairDatum (s : State) (d : Nat) : State :=
  match s.pair.arm with
  | some a =>
    (match a.trig with
     | .datum k pos down last lastT =>
       if k ≠ d then s
       else match s.crossedAt k pos down last lastT with
         | some x => (s.ahead (State.clocksTo 2 8 (x * 2 ^ 32) s)).pairTrigger (fun t => match t with | .datum .. => true | _ => false)
         | none => { s with pair := { s.pair with arm := some { a with trig := s.datumTrigger k pos down } } }
     | _ => s)
  | none => s

/-! ### Views -/

/-- PAIR_ROLE, with the carrier's SLOT. -/
def State.pairRole (s : State) : Word := (s.reg Reg.PAIR_ROLE).setBit 8 (s.slotId = 1)
/-- PAIR_SILENCE. -/
def State.pairSilence (s : State) : Word :=
  match s.pair.lastLink with | some t => w32 (min 0xFFFFFFFF ((s.sclk - t) / usClk)) | none => 0xFFFFFFFF
/-- PAIR_UNDO and PAIR_TXQ. -/
def State.pairUndo (s : State) : Word := w32 (min 0x200000 s.undoBytes)
def State.pairTxq (s : State) : Word := w32 (min 0x400000 s.windowBytes)

/-! ### Events of one clock (Tables 7.10, 12.11 and 18.8) -/

/-- The epoch is raised. -/
def State.raiseEvs (s : State) (f : State → State) : List Ev := if s.epoch < (f s).epoch then [⟨.epochRaise, 0, 0⟩] else []

/-- A STANDBY declares loss. -/
def State.lossEvs (s : State) (f : State → State) : List Ev :=
  if s.role = 3 && !s.pair.silent && (f s).pair.silent then [⟨.lossDeclared, 0, 0⟩] else []

/-- The module fences. -/
def State.fencedEvs (s : State) (f : State → State) : List Ev :=
  if !s.regB Reg.PAIR_STS 8 && (f s).regB Reg.PAIR_STS 8 then [⟨.fence, 0, 0⟩] else []

/-- A hand-over triggers: the armed one is armed no more. -/
def State.triggerEvs (s : State) (f : State → State) : List Ev :=
  if s.pair.arm.isSome && (f s).pair.arm.isNone then [⟨.trigger, 0, 0⟩, ⟨.pairTrigger, 0, 0⟩] else []

/-- What a command of the pair is beside its own event. -/
def State.pairEvs (s : State) (f : State → State) : List Ev := s.raiseEvs f ++ s.lossEvs f ++ s.fencedEvs f

/-- A frame on the link: one of its lane, and one whose epoch is checked. -/
def State.linkEvs (s : State) (h : LinkHdr) (f : State → State) : List Ev :=
  [⟨.laneFrame, h.lane, 0⟩, ⟨.frameIn, 4, 0⟩] ++ s.pairEvs f

/-- An unsequenced frame of the link. -/
def plainFrame (dt : Nat) (h : LinkHdr) (s : State) (f : State → State) : Answer :=
  afterEv dt ((s.advance dt).linkEvs h (fun s => s.rxPlain h f)) s (fun s => s.rxPlain h f)

/-- A sequenced frame of the link, which is an event `es` as well. -/
def seqFrame (dt : Nat) (h : LinkHdr) (es : List Ev) (s : State) (f : State → State) : Answer :=
  afterEv dt (es ++ (s.advance dt).linkEvs h (fun s => s.rxSeqd h f)) s (fun s => s.rxSeqd h f)

/-- A command of the pair's own. -/
def afterPair (dt : Nat) (s : State) (f : State → State) : Answer := afterEv dt ((s.advance dt).pairEvs f) s f

/-- READY gained by the partner, as it is heard. -/
def State.readyEvs (s : State) (ready : Bool) : List Ev :=
  if ready && (s.runs || s.role = 5) && !s.regB Reg.PAIR_STS 0 then [⟨.ready, 0, 0⟩] else []

/-- A lane that its CRC errors retire. -/
def State.laneEvs (s : State) (l : Nat) : List Ev :=
  if s.lane l ≠ 4 && (s.crcError l).lane l = 4 then [⟨.laneRetired, l, 0⟩] else []

/-! ### The commands -/

/-- ROLE_DECISION. -/
def execRoleDecision (dt : Nat) (same : Bool) (s : State) : Answer := afterPair dt s (fun s => s.roleDecision same)
/-- KEEPALIVE_SEND. -/
def execKeepaliveSend (dt : Nat) (s : State) : Answer := after dt s State.keepalive
/-- RETRANSMIT. -/
def execRetransmit (dt : Nat) (s : State) : Answer := after dt s State.retransmit
/-- TIME_EXCHANGE. -/
def execTimeExchange (dt : Nat) (s : State) : Answer := after dt s State.timeExchange
/-- GEN_BOUNDARY. -/
def execGenBoundary (dt : Nat) (s : State) : Answer := after dt s State.genBoundary
/-- GEN_CLOSE_SEND. -/
def execGenCloseSend (dt : Nat) (s : State) : Answer := after dt s State.genCloseSend
/-- RESYNC_READY. -/
def execResyncReady (dt : Nat) (s : State) : Answer := after dt s State.resyncReady
/-- RESYNC_COPY_END. -/
def execResyncCopyEnd (dt : Nat) (s : State) : Answer := after dt s State.copyEnd
/-- LOSS_DECLARED. -/
def execLossDeclared (dt : Nat) (s : State) : Answer := afterPair dt s State.lossDeclared
/-- TAKEOVER_RESUME. -/
def execTakeoverResume (dt : Nat) (s : State) : Answer := after dt s State.resumeLoss
/-- ISOLATION_TIMEOUT. -/
def execIsolationTimeout (dt : Nat) (s : State) : Answer := afterPair dt s State.isolation
/-- PARTNER_SILENCE. -/
def execPartnerSilence (dt : Nat) (s : State) : Answer := after dt s State.partnerSilence
/-- SWAP_SEND. -/
def execSwapSend (dt : Nat) (s : State) : Answer := after dt s State.swapSend
/-- HANDOVER_H. -/
def execHandoverH (dt : Nat) (s : State) : Answer :=
  afterEv dt ([⟨.handoverH, 0, 0⟩] ++ (s.advance dt).pairEvs State.handoverH) s State.handoverH
/-- HANDOVER_TIMEOUT. -/
def execHandoverTimeout (dt : Nat) (s : State) : Answer := after dt s State.handTimeout
/-- HANDOVER_OUTPUT_SWITCH. -/
def execHandoverOutputSwitch (dt : Nat) (s : State) : Answer := after dt s State.outputSwitch
/-- MODULE_REMOVAL. -/
def execModuleRemoval (dt : Nat) (s : State) : Answer :=
  afterEv dt ([⟨.present, 0, 0⟩] ++ (s.advance dt).pairEvs State.removal) s State.removal
/-- PARTNER_INSERTION. -/
def execPartnerInsertion (dt : Nat) (s : State) : Answer := after dt s (fun s => s.setRegB Reg.SYS_SLOT 1 true)
/-- PARTNER_PRESENT_LOSS. -/
def execPartnerPresentLoss (dt : Nat) (s : State) : Answer := after dt s (fun s => s.setRegB Reg.SYS_SLOT 1 false)
/-- KEEPALIVE. -/
def execPairKeepalive (dt : Nat) (h : LinkHdr) (role : Nat) (ready : Bool) (complete : Nat) (s : State) : Answer :=
  afterEv dt ((s.advance dt).readyEvs ready ++ (s.advance dt).linkEvs h (fun s => s.rxPlain h (fun s => s.keepaliveRx role ready complete)))
    s (fun s => s.rxPlain h (fun s => s.keepaliveRx role ready complete))
/-- DELTA. -/
def execPairDelta (dt : Nat) (h : LinkHdr) (rs : List DeltaRec) (s : State) : Answer := seqFrame dt h [] s (fun s => s.deltaRx h.gen rs)
/-- GEN_CLOSE. -/
def execPairGenClose (dt : Nat) (h : LinkHdr) (gen count digest : Nat) (s : State) : Answer :=
  seqFrame dt h [⟨.genClose, 0, 0⟩] s (fun s => s.genCloseRx gen count digest)
/-- ACK. -/
def execPairAck (dt : Nat) (h : LinkHdr) (seq : Nat) (s : State) : Answer := plainFrame dt h s (fun s => s.ackUpTo seq)
/-- RESYNC. -/
def execPairResyncFrame (dt : Nat) (h : LinkHdr) (addr : Nat) (bytes : List Byte) (rs : List DeltaRec) (s : State) : Answer :=
  seqFrame dt h [] s (fun s => s.resyncRx h.epoch addr bytes rs)
/-- SWAP. -/
def execPairSwap (dt : Nat) (h : LinkHdr) (epoch t mask evtId : Nat) (s : State) : Answer :=
  seqFrame dt h [⟨.swapIn, 0, 0⟩] s (fun s => s.swapRx epoch t mask evtId)
/-- ROLE. -/
def execPairRoleNotice (dt : Nat) (h : LinkHdr) (role _cause : Nat) (s : State) : Answer :=
  seqFrame dt h [] s (fun s => s.heardRole role)
/-- TIME. -/
def execPairTime (dt : Nat) (h : LinkHdr) (response : Bool) (t1 t2 t3 : Int) (s : State) : Answer :=
  plainFrame dt h s (fun s => s.timeRx h.lane response t1 t2 t3)
/-- PROGRAM. -/
def execPairProgram (dt : Nat) (h : LinkHdr) (offset : Nat) (bytes : List Byte) (s : State) : Answer :=
  seqFrame dt h [] s (fun s => s.programRx offset bytes)
/-- PAIR_FRAME_CRC_ERROR. -/
def execPairFrameCrcError (dt lane : Nat) (s : State) : Answer :=
  afterEv dt ((s.advance dt).laneEvs lane) s (fun s => s.crcError lane)
/-- PAIR_LANE_LINK_CHANGE. -/
def execPairLaneLinkChange (dt lane : Nat) (up : Bool) (s : State) : Answer := after dt s (fun s => s.laneLink lane up)
/-- PAIR_DATUM_TRIGGER. -/
def execPairDatumTrigger (dt d : Nat) (s : State) : Answer :=
  afterEv dt ((s.advance dt).triggerEvs (fun s => s.pairDatum d)) s (fun s => s.pairDatum d)
/-- HEARTBEAT: the partner's role is heard in it. -/
def State.beatRx (s : State) (n : Nat) (h : Hdr) (role t : Nat) : State :=
  s.heartbeatRx n h (role % 8) t (fun s => s.heardRole (role % 8))
/-- HEARTBEAT. -/
def execHeartbeat (dt n : Nat) (h : Hdr) (role t : Nat) (s : State) : Answer :=
  afterEv dt (rxEvs n ++ (s.advance dt).pairEvs (fun s => s.beatRx n h role t)) s (fun s => s.beatRx n h role t)

end Sys2Proof.Machine
end

