-- ==== Sys2Proof/Machine/Mp.lean ====
section
/-!
DEFINITION. How the MP takes commands, performs them and posts their responses (03 R52-R62): what is common to every
command of Table 3.8.
-/
namespace Sys2Proof.Machine

/-! ### Slots -/

def State.mpPair (s : State) (n : Nat) : MbxPair := sget {} s.mp.pairs n
def State.modMpPair (s : State) (n : Nat) (f : MbxPair → MbxPair) : State :=
  { s with mp := { s.mp with pairs := smod {} s.mp.pairs n f } }

/-- Word `i` of a command, and as a number. -/
def Cmd.w (c : Cmd) (i : Nat) : Word := item c.words i
def Cmd.n (c : Cmd) (i : Nat) : Nat := (c.w i).toNat
/-- CODE, TYPE and SESSION of the header (Table 3.4). -/
def Cmd.code (c : Cmd) : Nat := (c.w 0).fld 15 0
def Cmd.type (c : Cmd) : Nat := (c.w 0).fld 19 16
def Cmd.session (c : Cmd) : Nat := (c.w 3).fld 7 0
/-- Words 5 and 6 as one number: value or position, low and high. -/
def Cmd.pos (c : Cmd) : Nat := pair64 (c.w 5) (c.w 6)

/-- What a command answers when it has been started: its response, or nothing yet. -/
inductive Reply where
  | done (status detail : Nat) (results : List Word)
  | goesOn
deriving DecidableEq, Repr

def Reply.ok (rs : List Word) : Reply := .done stOk 0 rs
def Reply.err (status : Nat) : Reply := .done status 0 []
/-- BAD_PARAM with the word index in DETAIL (Table 3.4). -/
def Reply.bad (word : Nat) : Reply := .done stBadParam word []
/-- CHECK_FAILED with category and item in DETAIL. -/
def Reply.failed (cat it : Nat) : Reply := .done stCheckFailed (cat * 8192 + it) []

/-- The response of a command, if it has one now. -/
def State.reply (s : State) (c : Cmd) : Reply → State
  | .done st d rs => s.finish c.id st d rs
  | .goesOn => s

/-- The slot's command is started. -/
def State.startCmd (s : State) (n id : Nat) : State :=
  s.modMpPair n (fun p => { p with cmds := p.cmds.map (fun c => if c.id = id then { c with stage := .started } else c) })

/-! ### The closure of a command (R248, R249) -/

/-- What differs between two tables of words, as closure entries of kind `k`. -/
def wordChanges (k : Nat) (a b : Sparse Word) : List (Nat × Nat × Word) :=
  (b.filter (fun e => sget 0 a e.1 ≠ e.2)).map (fun e => (k, e.1, e.2)) ++
  (a.filter (fun e => sget 0 b e.1 ≠ e.2 && sget 0 b e.1 = 0)).map (fun e => (k, e.1, 0))

/-- The words that a command which led from `s` to `t` wrote to the configuration sets, the registers and the checkpoint
stream. -/
def wroteBy (s t : State) : List (Nat × Nat × Word) :=
  let sent := (t.pair.window.filter (fun f => decide (s.pair.nextSeq ≤ f.1.hdr.seq))).flatMap (fun f =>
    match f.1.body with | .delta rs => (rs.flatMap recWords).map (fun w => (3, f.1.hdr.seq, w)) | _ => [])
  wordChanges 0 s.cfgA t.cfgA ++ wordChanges 1 s.cfgS t.cfgS ++ wordChanges 2 s.regs t.regs ++ sent

/-- The closure digest of a completed command (Table 11.4): code, TAG, STATUS and DETAIL, result words, and what it wrote. -/
def Cmd.digest (c : Cmd) : Nat :=
  cReg ([w32 ((item c.response 0).fld 15 0), item c.response 1, item c.response 2] ++ (c.response.drop 4)) ^^^
  cBuf (c.wrote.map (fun e =>
    let p := Config.closurePlace e.1 e.2.1
    cTerm p.1 p.2 e.2.2 (BitVec.allOnes 32)))

/-- What the slot's command has written is noted for its closure digest. -/
def State.noteWrites (t : State) (n id : Nat) (ws : List (Nat × Nat × Word)) : State :=
  t.modMpPair n (fun p => { p with cmds := p.cmds.map (fun c => if c.id = id then { c with wrote := c.wrote ++ ws } else c) })

/-! ### Performing -/

/-- The oldest command of pair `n` that is taken and not started, where the MP takes commands and it has the CODE given (R54). -/
def State.nextCmd (s : State) (n code : Nat) : Option Cmd :=
  if s.mpReady then ((s.mpPair n).cmds.find? (fun c => c.stage = .taken)).filter (fun c => c.code = code) else none

/-- The MP performs the oldest command of mailbox pair `n` that it has taken and not started, where that command has the
CODE given (R54); a command shorter than 4 words and the `need` parameter words it needs is answered BAD_LENGTH (R60). -/
def State.perform (s : State) (n code need : Nat) (f : Cmd → State → State × Reply) : State :=
  match s.nextCmd n code with
  | none => s
  | some c =>
    let s := s.startCmd n c.id
    if c.words.length < 4 + need then s.finish c.id stBadLength 0 []
    else
      let (t, r) := f c s
      (t.noteWrites n c.id (wroteBy s t)).reply c r

/-- A command of the catalogue after `dt` clocks. -/
def performAt (dt n code need : Nat) (s : State) (f : Cmd → State → State × Reply) : Answer :=
  after dt s (fun s => s.perform n code need f)

/-- A command of the catalogue that is events of the tables `es`, where it is performed. -/
def performEv (dt n code need : Nat) (s : State) (es : Cmd → State → List Ev) (f : Cmd → State → State × Reply) : Answer :=
  afterEv dt (((s.advance dt).nextCmd n code).elim [] (fun c => es c (s.advance dt))) s (fun s => s.perform n code need f)

/-- The oldest command of pair `n` that goes on and is ended by LONG_COMMAND_COMPLETE, with CODE among those given. -/
def State.longRunning (s : State) (n : Nat) (codes : List Nat) : Option Cmd :=
  (s.mpPair n).cmds.find? (fun c => c.stage = .started && codes.contains c.code)

/-! ### Taking (R52, R53, R62) -/

/-- The codes of Table 3.8. -/
def catalogue : List Nat :=
  [0x0001, 0x0002, 0x0003, 0x0101, 0x0102, 0x0103, 0x0104, 0x0105, 0x0106, 0x0107, 0x0108, 0x0110, 0x0111, 0x0112,
   0x0201, 0x0202, 0x0203, 0x0204, 0x0210, 0x0211, 0x0212, 0x0220, 0x0221, 0x0301, 0x0302, 0x0303, 0x0304, 0x0401,
   0x0402, 0x0410, 0x0411, 0x0501, 0x0502, 0x0503, 0x0504, 0x0505, 0x0601, 0x0602, 0x0603, 0x0604, 0x0605, 0x0606,
   0x0701, 0x0702, 0x0703, 0x0801, 0x0802, 0x0803, 0x0804, 0x0901, 0x0902, 0x0903, 0x0904, 0x0910]

/-- The mailbox served next: the first after the one served last that holds a command and has a free slot (R52, R53). After a
module reset, when none has been served, the rotation begins with mailbox 0 (DESIGN CHOICE, log 31). -/
def State.nextMailbox (s : State) : Option Nat :=
  ((List.range 8).map (fun k => (s.mp.served + 1 + k) % 8)).find? (fun n => s.mbxGo n && decide ((s.mpPair n).cmds.length < 4))

/-- A stored response as it is posted again: with REPLAY, and SENDER_RESET of the retry's own take (Table 3.4). -/
def replayed (ws : List Word) (sr : Bool) : List Word :=
  match ws with
  | w :: rest => ((w.setBit 20 true).setBit 21 sr) :: rest
  | [] => []

/-- A completed slot placed behind those that completed before it. -/
def MbxPair.place (p : MbxPair) (d : Cmd) : MbxPair :=
  { p with cmds := p.cmds.filter (fun x => decide (x.stage = .done)) ++ d :: p.cmds.filter (fun x => decide (x.stage ≠ .done)) }

/-- The message `ws` of mailbox `n`, taken: a retry of a stored response posts it again, a retry of a held command marks
it, everything else takes a slot; what is no command of the catalogue is answered UNKNOWN_CODE (R61, R62), at its take and ahead
of commands of the pair that wait to be started (DESIGN CHOICE, log 31). -/
def State.accept (s : State) (n : Nat) (ws : List Word) (sr : Bool) : State :=
  let p := s.mpPair n
  let tag := item ws 1
  let retry := (item ws 0).bit 20 && (item ws 0).fld 19 16 = 1
  let id := s.mp.nextId
  let t : State := { s with mp := { s.mp with nextId := id + 1 } }
  match (if retry then p.stored.find? (fun r => item r.1 1 = tag) else none) with
  | some r => t.modMpPair n (fun p => p.place { id := id, words := ws, stage := .done, response := replayed r.1 sr, again := true })
  | none =>
    match (if retry then p.cmds.find? (fun c => decide (c.stage ≠ .done) && decide (c.w 1 = tag)) else none) with
    | some h => s.modMpPair n (fun p => { p with cmds := p.cmds.map (fun c =>
        if c.id = h.id then { c with replay := true, sreset := c.sreset || sr } else c) })
    | none =>
      let c : Cmd := { id := id, words := ws, sreset := sr }
      let t := t.modMpPair n (fun p => { p with cmds := p.cmds ++ [c] })
      if c.type ≠ 1 || !catalogue.contains c.code then t.finish id stUnknown 0 [] else t

/-- MP_TAKE (R52): LEN words are copied, then GO is cleared and EMPTY set. -/
def State.mpTake (s : State) : State :=
  if !s.mpReady then s
  else match s.nextMailbox with
    | none => s
    | some n =>
      let ws := s.mbxWords n (s.mbxLen n)
      let sr := s.regB (Reg.MBX_STS n) 17
      let s := (s.mbxClearGo n).mbxEvent n 24
      ({ s with mp := { s.mp with served := n } } : State).accept n ws sr

/-! ### Posting (R54, R55, R62) -/

/-- The oldest stored response that has not been posted is marked as posted; the list is oldest first. -/
def markPosted : List (List Word × Bool) → List (List Word × Bool)
  | [] => []
  | (r, true) :: rest => (r, true) :: markPosted rest
  | (r, false) :: rest => (r, true) :: rest

/-- A posted response is one of MP_RESTART that was performed: the restart begins 1 ms later (R71). -/
def startsRestart (c : Cmd) : Bool :=
  !c.again && (item c.response 0).fld 15 0 = 0x0910 && (item c.response 2).fld 15 0 = stOk

/-- The response of pair `n` that is posted next: the one that completed first, once GO of mailbox n + 8 is 0. -/
def State.nextResponse (s : State) (n : Nat) : Option Cmd :=
  if 7 < n || !s.mpReady || s.mbxGo (n + 8) then none else (s.mpPair n).cmds.find? (fun c => c.stage = .done)

/-- A command whose closure digests differ is withheld: it holds no slot any more, and its response is not stored (R249). -/
def State.dropCmd (s : State) (n : Nat) (c : Cmd) : State :=
  s.modMpPair n (fun p => { cmds := p.cmds.filter (fun x => x.id ≠ c.id),
                            stored := if c.again then p.stored else p.stored.filter (fun r => r.1 ≠ c.response) })

/-- The MP pair's closure at the end of a command shows no difference: the digest of the trailing tile is that of the leading
one (R249); a stored response is no work. -/
def State.closes (s : State) (c : Cmd) (trailing : Option Nat) : Bool :=
  c.again || !s.comparing 0 || digestsAgree c.digest trailing

/-- MP_POST_RESPONSE of pair `n`. -/
def State.postResponse (s : State) (n : Nat) (trailing : Option Nat) : State :=
  match s.nextResponse n with
  | none => s
  | some c =>
    if !s.closes c trailing then (s.dropCmd n c).mismatch 0 3
    else
      let s := s.modMpPair n (fun p =>
        { cmds := p.cmds.filter (fun x => x.id ≠ c.id),
          stored := if c.again then p.stored else (markPosted p.stored.reverse).reverse })
      let s := if startsRestart c then { s with mp := { s.mp with restart := some (s.mp.restart.getD (s.sclk + msClk)) } } else s
      let s := s.setMbxWords (n + 8) 0 c.response
      let s := (s.setRegF (Reg.MBX_STS (n + 8)) 12 8 c.response.length).setRegB (Reg.MBX_STS (n + 8)) 0 true
      s.mbxEvent (n + 8) 25

/-! ### Accesses that the MP makes for a command (R71) -/

/-- A memory access by master 0x01, with the STATUS that its failure gives. -/
def State.mpAccess (s : State) (write : Bool) (addr len : Nat) (data : List Byte) : State × Except Nat (List Byte) :=
  match s.memAccess 1 write addr len data with
  | (t, .data bs) => (t, .ok bs)
  | (t, .violation _ _) => (t, .error stViolation)
  | (t, .error _) => (t, .error stDataError)

/-- A store by master 0x01, and the reply it gives. -/
def State.storeReply (s : State) (addr len : Nat) (data : List Byte) : State × Reply :=
  match s.mpAccess true addr len data with
  | (t, .error st) => (t, .err st)
  | (t, .ok _) => (t, .ok [])

/-- The address of a byte of a bank. -/
def bankAddr (n ofs : Nat) : Nat := sramBase + n * 2 ^ 21 + ofs

/-- A bank that a command names, with bytes of it and the ID it is returned to: the words of each are checked, then the
bank must be owned by 0x01 (log 31). The numbers are the word indexes of bank, offset, length and ID. -/
def State.bankCheck (s : State) (n ofs len id wBank wOfs wLen wId : Nat) : Option Reply :=
  if 23 < n then some (.bad wBank)
  else if 2 ^ 21 ≤ ofs then some (.bad wOfs)
  else if 2 ^ 21 < ofs + len then some (.bad wLen)
  else if !s.issued id then some (.bad wId)
  else if s.owner n ≠ 1 then some (.err stState)
  else none

/-- The MP writes BNK_OWN to the return ID when the command is done or failed. -/
def State.returnBank (s : State) (n id : Nat) : State :=
  if 23 < n || !s.issued id || s.owner n ≠ 1 then s
  else (s.ownWrite 1 n (w32 id)).getD s

/-- The bank is returned with any answer. -/
def returning (n id : Nat) (x : State × Reply) : State × Reply :=
  match x.2 with
  | .goesOn => x
  | r => (x.1.returnBank n id, r)

/-- `n` free values, as words (log 23). -/
def State.freeWords (s : State) (n : Nat) : List Word × State :=
  ((List.range n).map (fun k => w32 (Config.freeValue 0 (s.free + k))), { s with free := s.free + n })

/-! ### The commands -/

/-- A take, as an event of its mailbox. -/
def State.takeEvs (s : State) : List Ev :=
  if s.mpReady then s.nextMailbox.elim [] (fun n => [⟨.mpTake, n, 0⟩]) else []

/-- A post, as an event of its mailbox, or the mismatch that its closure shows. -/
def State.postEvs (s : State) (n : Nat) (trailing : Option Nat) : List Ev :=
  (s.nextResponse n).elim [] (fun c => if s.closes c trailing then [⟨.mpPost, n + 8, 0⟩] else [⟨.mismatch, 0, 1⟩, ⟨.mpRestart, 0, 0⟩])

/-- MP_TAKE. -/
def execMpTake (dt : Nat) (s : State) : Answer := afterEv dt (s.advance dt).takeEvs s State.mpTake
/-- MP_POST_RESPONSE. -/
def execMpPostResponse (dt : Nat) (post : MpPost) (s : State) : Answer :=
  afterEv dt ((s.advance dt).postEvs post.mailbox post.trailing) s (fun s => s.postResponse post.mailbox post.trailing)

end Sys2Proof.Machine
end

