-- ==== Sys2Proof/Machine/MpConfig.lean ====
section
/-!
DEFINITION. The commands of Table 3.8 on the module, the configuration sets, the program, values, constants, LPDDR5 and
forces (03 R64-R71, 09 R207-R211, 12 R287).
-/
namespace Sys2Proof.Machine

/-! ### The module -/

/-- IDENT. -/
def cmdIdent (_ : Cmd) (s : State) : State × Reply :=
  (s, .ok [s.sysId, s.reg Reg.SYS_FWREV, s.reg Reg.SYS_SERIAL_LO, s.reg Reg.SYS_SERIAL_HI])

/-- The retirements in force by kind: pairs in [4:0], banks in [12:8], channels in [21:16], lanes in [25:24]. -/
def State.retiredCounts (s : State) : Word :=
  let count (f : Retired → Bool) : Nat := (s.retirements.filter f).length
  w32 (count (fun r => match r with | .pair _ => true | _ => false) % 32 +
    2 ^ 8 * (count (fun r => match r with | .bank _ => true | _ => false) % 32) +
    2 ^ 16 * (count (fun r => match r with | .channel _ => true | _ => false) % 64) +
    2 ^ 24 * (count (fun r => match r with | .lane _ => true | _ => false) % 4))

/-- STATUS_GET. -/
def cmdStatusGet (_ : Cmd) (s : State) : State × Reply :=
  let w := s.role + 8 * ofBool (decide (s.plm.mode = .fixed)) + 16 * ofBool (decide (s.plm.forces ≠ [])) + 32 * ofBool s.pwr.ready
  (s, .ok [w32 w, s.reg Reg.PAIR_EPOCH, w32 s.mp.gen, s.retiredCounts])

/-- ECHO: words 4 to LEN - 1 come back. -/
def cmdEcho (c : Cmd) (s : State) : State × Reply := (s, .ok (c.words.drop 4))

/-! ### The editing session (R65, R66) -/

/-- The roles in which configuration commands are accepted: ALONE, ACTIVE, OUT_OF_SERVICE. -/
def State.configRole (s : State) : Bool := s.role = 1 || s.role = 2 || s.role = 6

/-- A configuration command in a role that accepts it. -/
def inConfigRole (f : Cmd → State → State × Reply) (c : Cmd) (s : State) : State × Reply :=
  if s.configRole then f c s else (s, .err stWrongRole)

/-- The command carries the number of the open session. -/
def State.inSession (s : State) (c : Cmd) : Bool := s.mp.session ≠ 0 && c.session = s.mp.session

/-- A change of the shadow set: it needs the session, and no swap may be armed (R65, R69). -/
def State.editCheck (s : State) (c : Cmd) : Option Reply :=
  if !s.inSession c then some (.err stNoSession) else if s.mp.swap.isSome then some (.err stState) else none

/-- The session changes, and the checkpoint learns it. -/
def State.setSess (s : State) (n : Nat) : State :=
  let s := { s with mp := { s.mp with session := n, sessions := if n = 0 then s.mp.sessions else n } }
  s.record 0 [s.numbersRec]

/-- The shadow set changes; the changed items go with the first delta (R70). -/
def State.setShadow (s : State) (c : Sparse Word) : State :=
  let old := s.cfgS
  let s := { s with cfgS := c }
  let items := (List.range 8).flatMap (fun cat => ((listed old cat ++ listed c cat).eraseDups).map (fun it => (cat, it)))
  let moved := items.filter (fun p => (List.range (itemWords p.1 p.2)).any (fun w => cfgWord old p.1 p.2 w ≠ cfgWord c p.1 p.2 w))
  s.record 0 (moved.map (fun p => .config p.1 true p.2 ((List.range (itemWords p.1 p.2)).map (s.sw p.1 p.2))))

/-- CFG_OPEN: numbers are counted on and skip 0. -/
def cmdCfgOpen (_ : Cmd) (s : State) : State × Reply :=
  if s.mp.session ≠ 0 then (s, .err stBusyEdit)
  else
    let n := if 255 ≤ s.mp.sessions then 1 else s.mp.sessions + 1
    (s.setSess n, .ok [w32 n])

/-- CFG_CLOSE. -/
def cmdCfgClose (c : Cmd) (s : State) : State × Reply :=
  match s.editCheck c with
  | some r => (s, r)
  | none => (s.setSess 0, .ok [])

/-- CFG_ABANDON: any host may issue it. -/
def cmdCfgAbandon (_ : Cmd) (s : State) : State × Reply :=
  if s.mp.session = 0 || s.mp.swap.isSome then (s, .err stState)
  else ((s.setShadow s.cfgA).setSess 0, .ok [w32 s.mp.session])

/-- CFG_COPY. -/
def cmdCfgCopy (c : Cmd) (s : State) : State × Reply :=
  match s.editCheck c with
  | some r => (s, r)
  | none => (s.setShadow (mergeSets ((c.w 4).fld 6 0) s.cfgS s.cfgA), .ok [])

/-- Category, item and first word that word 4 of CFG_WRITE and CFG_READ names. -/
def itemRef (w : Word) : Nat × Nat × Nat := (w.fld 3 0, w.fld 20 8, w.fld 31 22)

/-- `n` words of an item from `first` on lie inside its category. -/
def inItem (cat it first n : Nat) : Bool := first + n ≤ itemWords cat it

/-- A category code of Table 3.6. -/
def goodCat (cat : Nat) : Bool := 1 ≤ cat && cat ≤ 7

/-- CFG_WRITE. -/
def cmdCfgWrite (c : Cmd) (s : State) : State × Reply :=
  let (cat, it, first) := itemRef (c.w 4)
  let ws := c.words.drop 5
  match s.editCheck c with
  | some r => (s, r)
  | none =>
    if !goodCat cat then (s, .bad 4)
    else if !inItem cat it first ws.length then (s, .err stNotFound)
    else (s.setShadow ((List.range ws.length).foldl (fun m k => sput 0 m (cfgKey cat it (first + k)) (item ws k)) s.cfgS), .ok [])

/-- CFG_READ. -/
def cmdCfgRead (c : Cmd) (s : State) : State × Reply :=
  let (cat, it, first) := itemRef (c.w 4)
  let n := c.n 5
  if !goodCat cat then (s, .bad 4)
  else if n = 0 || 11 < n then (s, .bad 5)
  else if !inItem cat it first n then (s, .err stNotFound)
  else (s, .ok ((List.range n).map (fun k => if (c.w 4).bit 4 then s.sw cat it (first + k) else s.cw cat it (first + k))))

/-! ### CFG_BULK -/

/-- What stands against a CFG_BULK. -/
def State.bulkCheck (s : State) (c : Cmd) : Option Reply :=
  if !s.configRole then some (.err stWrongRole)
  else match s.editCheck c with
    | some r => some r
    | none =>
      if !goodCat ((c.w 4).fld 3 0) then some (.bad 4)
      else s.bankCheck ((c.w 4).fld 12 8) (c.n 5) (c.n 6) ((c.w 7).fld 7 0) 4 5 6 7

/-- CFG_BULK: checked when it starts. -/
def cmdCfgBulk (c : Cmd) (s : State) : State × Reply :=
  returning ((c.w 4).fld 12 8) ((c.w 7).fld 7 0) (s, (s.bulkCheck c).getD .goesOn)

/-- CFG_BULK ends: the bytes of the bank replace the whole shadow category (log 31). -/
def endCfgBulk (c : Cmd) (s : State) : State × Reply :=
  let cat := (c.w 4).fld 3 0
  returning ((c.w 4).fld 12 8) ((c.w 7).fld 7 0) (
    match s.bulkCheck c with
    | some r => (s, r)
    | none =>
      match s.mpAccess false (bankAddr ((c.w 4).fld 12 8) (c.n 5)) (c.n 6) [] with
      | (t, .error st) => (t, .err st)
      | (t, .ok bs) =>
        let ws := (Config.bulkOf cat bs).filter (fun e => keyCat e.1 = cat && e.1 % 1024 < itemWords cat (keyItem e.1))
        let rest := t.cfgS.filter (fun e => keyCat e.1 ≠ cat)
        (t.setShadow (ws.foldl (fun m e => sput 0 m e.1 e.2) rest), .ok []))

/-! ### The check and the swap (R67-R69) -/

/-- CFG_CHECK starts. -/
def cmdCfgCheck (_ : Cmd) (s : State) : State × Reply := (s, .goesOn)

/-- The check's answer on a mask. -/
def State.checkReply (s : State) (mask : Nat) : Option Reply :=
  (s.checkSet mask (s.resulting mask)).map (fun p => .failed p.1 p.2)

/-- CFG_CHECK ends. -/
def endCfgCheck (c : Cmd) (s : State) : State × Reply := (s, (s.checkReply ((c.w 4).fld 6 0)).getD (.ok []))

/-- A role exchange is armed or runs. -/
def State.handArmed (s : State) : Bool := s.pair.arm.isSome || s.pair.hand.isSome

/-- What stands against the trigger that words 4 to 7 name (R68). -/
def State.triggerCheck (s : State) (c : Cmd) : Option Reply :=
  match (c.w 4).fld 11 8 with
  | 1 => none
  | 2 => if c.pos < s.datMod ((c.w 4).fld 23 21) then none else some (.bad 5)
  | 3 => if s.plm.mode = .task then some (.err stState) else none
  | _ => some (.bad 4)

/-- A TASK or FIXED_END trigger accepted in IDLE mode falls at once, and takes effect in the clock after (R68). -/
def State.fallsNow (s : State) (t : Trigger) : Bool :=
  match t with
  | .datum .. => false
  | _ => decide (s.plm.mode = .idle)

/-- CFG_SWAP. -/
def cmdCfgSwap (c : Cmd) (s : State) : State × Reply :=
  let mask := (c.w 4).fld 6 0
  if !s.inSession c then (s, .err stNoSession)
  else if s.mp.swap.isSome || s.handArmed then (s, .err stState)
  else match s.triggerCheck c with
    | some r => (s, r)
    | none =>
      match s.checkReply mask with
      | some r => (s, r)
      | none =>
        let trig := s.triggerOf (c.w 4) c.pos ((c.w 7).bit 0)
        let w : ArmedSwap := { mask := mask, trig := trig, slot := c.id, word4 := c.w 4 }
        let s := { s with mp := { s.mp with swap := some (if s.fallsNow trig then w.fall s 1 else w) } }
        (s.record 0 [s.armRec], .goesOn)

/-- CFG_SWAP_CANCEL: it disarms a swap whose trigger has not fallen (R69). -/
def cmdCfgSwapCancel (_ : Cmd) (s : State) : State × Reply :=
  let s := s.testTrigger
  match s.mp.swap with
  | none => (s, .err stState)
  | some w =>
    if w.fallen.isSome then (s, .err stState)
    else
      let s := { s with mp := { s.mp with swap := none } }
      ((s.record 0 [s.armRec]).finishErr w.slot stCancelled, .ok [])

/-- CFG_STATUS. -/
def cmdCfgStatus (_ : Cmd) (s : State) : State × Reply :=
  (s, .ok [w32 s.mp.gen, w32 (s.mp.session + 256 * ofBool s.mp.swap.isSome),
    match s.mp.swap with | some w => w.word4 | none => 0])

/-! ### The program (R71, R287) -/

/-- PRG_INFO. -/
def cmdPrgInfo (_ : Cmd) (s : State) : State × Reply :=
  (s, .ok [w32 s.prog.crc, w32 s.prog.syms.length, w32 s.prog.tasks, w32 s.prog.tool])

/-- A program may be loaded: STANDBY, OUT_OF_SERVICE, or ALONE in fixed mode. -/
def State.loadRole (s : State) : Bool := s.role = 3 || s.role = 6 || (s.role = 1 && s.plm.mode = .fixed)

/-- The bytes that the program store takes: those of the application store it is restored from (Table 18.3, log 31). -/
def storeBytes : Nat := 0xFC0000

/-- PRG_LOAD_BEGIN. -/
def cmdPrgLoadBegin (c : Cmd) (s : State) : State × Reply :=
  if !s.loadRole then (s, .err stWrongRole)
  else if storeBytes < c.n 4 then (s, .err stNoSpace)
  else
    let s := s.dropLoaded
    ({ s with pair := { s.pair with loaded := some { size := c.n 4, crc := c.n 5 } } }, .ok [])

/-- What stands against a PRG_LOAD_BLOCK. -/
def State.blockLoadCheck (s : State) (c : Cmd) : Option Reply :=
  match s.pair.loaded with
  | none => some (.err stState)
  | some l =>
    if l.prog.isSome then some (.err stState)
    else if l.size < l.got + c.n 6 then some (.bad 6)
    else s.bankCheck ((c.w 4).fld 4 0) (c.n 5) (c.n 6) ((c.w 8).fld 7 0) 4 5 6 8

/-- PRG_LOAD_BLOCK starts. -/
def cmdPrgLoadBlock (c : Cmd) (s : State) : State × Reply :=
  returning ((c.w 4).fld 4 0) ((c.w 8).fld 7 0) (s, (s.blockLoadCheck c).getD .goesOn)

/-- PRG_LOAD_BLOCK ends: a block whose CRC matches follows the bytes received before (log 31). -/
def endPrgLoadBlock (c : Cmd) (s : State) : State × Reply :=
  returning ((c.w 4).fld 4 0) ((c.w 8).fld 7 0) (
    match s.blockLoadCheck c with
    | some r => (s, r)
    | none =>
      match s.mpAccess false (bankAddr ((c.w 4).fld 4 0) (c.n 5)) (c.n 6) [] with
      | (t, .error st) => (t, .err st)
      | (t, .ok bs) =>
        if crc32 (bs.map (fun b => b.toNat)) ≠ c.n 7 then (t, .failed 0 0)
        else
          let put (l : Loaded) : Loaded :=
            { l with bytes := (List.range bs.length).foldl (fun m k => sput 0 m (l.got + k) (bs.getD k 0)) l.bytes,
                     got := l.got + bs.length }
          ({ t with pair := { t.pair with loaded := t.pair.loaded.map put } }, .ok []))

/-- PRG_LOAD_END starts. -/
def cmdPrgLoadEnd (_ : Cmd) (s : State) : State × Reply :=
  (s, if s.pair.loaded.isNone then .err stState else .goesOn)

/-- A whole program takes effect: a STANDBY keeps it with its exchange set and the map (R287); on any other module it is
the program from now on, with no force standing (log 31). -/
def State.useProgram (s : State) (l : Loaded) (p : Program) : State × Reply :=
  if s.role = 3 then
    match (if p.exset = [] then none else s.checkSet (exMask p.exset) (overSet s.cfgA p.exset)) with
    | some (cat, it) => (s, .failed cat it)
    | none =>
      let drops := s.plm.forces.length - (mapForces s.prog p s.plm.forces).length
      let s := { s with pair := { s.pair with loaded := some { l with prog := some p } } }
      let s := (s.setRegB Reg.PAIR_STS 6 true).setReg Reg.PAIR_MAP_DROP
        (w32 (min 0xFFFF drops + 2 ^ 16 * min 0xFFFF (droppedSyms s.prog p)))
      (if drops = 0 then s else s.tally 58 drops, .ok [w32 l.crc])
  else
    let had := s.plm.forces ≠ []
    let s := { (s.startProgram p) with progBytes := l.bytes }
    let s := { s with plm := { s.plm with forces := [] } }
    let s := if had then s.raiseBit 25 6 else s
    (s.dropLoaded.keepApp, .ok [w32 l.crc])

/-- PRG_LOAD_END ends: the CRC of the whole is checked. Where the check fails, the load stands as it was (R61). -/
def endPrgLoadEnd (_ : Cmd) (s : State) : State × Reply :=
  match s.pair.loaded with
  | none => (s, .err stState)
  | some l =>
    let bs := (List.range l.size).map (sget 0 l.bytes)
    if l.got ≠ l.size || crc32 (bs.map (fun b => b.toNat)) ≠ l.crc then (s, .failed 0 0)
    else if !s.loadRole then (s, .err stWrongRole)
    else s.useProgram l (Config.programOf bs)

/-! ### Values (R71, R210) -/

/-- The value of a symbol as readers see it, forces laid over it (R208). A constant is read from a copy in use. -/
def State.readSymbol (s : State) (y : Symbol) : Nat :=
  let w (k : Nat) : Word :=
    if y.space = 7 then sget 0 s.konst (s.constPairs.headD 0 * 16384 + k) else s.imgRead y.space y.task k
  (List.range y.bits).foldl (fun a b => if (w ((y.bit + b) / 32)).bit ((y.bit + b) % 32) then a + 2 ^ b else a) 0

/-- The result words that a symbol gives VAL_READ: one up to 32 bits, two for 64, four for a timer or counter. -/
def State.symWords (s : State) (i : Nat) : List Word :=
  match s.symbol i with
  | none => []
  | some y =>
    if y.bits = 0 then (List.range 4).map (fun k => s.imgRead y.space 0 (4 * y.bit + k))
    else if y.bits ≤ 32 then [w32 (s.readSymbol y)]
    else [w32 (s.readSymbol y), w32 (s.readSymbol y / 2 ^ 32)]

/-- VAL_READ. -/
def cmdValRead (c : Cmd) (s : State) : State × Reply :=
  let n := c.n 5
  if n = 0 || 11 < n then (s, .bad 5)
  else if (s.symbol (c.n 4)).isNone then (s, .err stNotFound)
  else (s, .ok (((List.range n).flatMap (fun k => s.symWords (c.n 4 + k)) ++ List.replicate n (0 : Word)).take n))

/-- The value in words 5 and 6, cut to a symbol's bits; of a timer or counter word 5 (R210). -/
def Cmd.value (c : Cmd) (y : Symbol) : Nat := if y.bits = 0 then c.n 5 else c.pos % 2 ^ y.bits

/-- A word of the W space lies in the input range of a station or channel. -/
def State.inputWord (s : State) (k : Nat) : Bool :=
  let inR (w : Word) : Bool := w.fld 15 0 ≤ k && k < w.fld 15 0 + w.fld 31 16
  let chan (n : Nat) : Bool :=
    s.chMode n ≠ 0 && ((!outMode (s.chMode n) && (s.chW n 2).bit 15 && (s.chW n 2).fld 12 0 = k) ||
      (outMode (s.chMode n) && (s.chW n 2).bit 31 && (s.chW n 2).fld 28 16 = k) ||
      ((s.chW n 4).bit 15 && (s.chW n 4).fld 12 0 = k))
  (List.range 4).any (fun p => (s.stations p).any (fun j => inR (s.stnW p j 6))) || (List.range 32).any chan

/-- A symbol that VAL_WRITE writes (R210): a variable in Q, M, W or L outside the input ranges, or a timer or counter. -/
def State.mayWriteVal (s : State) (y : Symbol) : Bool :=
  if y.bits = 0 then y.space = 4 || y.space = 5
  else [2, 3, 8, 10].contains y.space &&
    !(y.space = 8 && (List.range ((y.bit + y.bits + 31) / 32 - y.bit / 32)).any (fun k => s.inputWord (y.bit / 32 + k)))

/-- VAL_WRITE. -/
def cmdValWrite (c : Cmd) (s : State) : State × Reply :=
  if !s.runs then (s, .err stWrongRole)
  else match s.symbol (c.n 4) with
    | none => (s, .err stNotFound)
    | some y =>
      if !s.mayWriteVal y then (s, .err stState)
      else ((s.putSymbol y (c.value y)).record 0 [.value (c.n 4) (c.value y)], .ok [])

/-- The words of the constant at a K address; none where the program has no constant there. -/
def State.constWords (s : State) (k : Nat) : Option Nat :=
  match s.prog.syms.find? (fun y => decide (y.space = 7) && decide (y.bit = 32 * k)) with
  | some y => some ((y.bits + 31) / 32)
  | none => if s.prog.konst.any (fun e => e.1 = k) then some 1 else none

/-- CONST_WRITE: answered when every pair has applied the write (R211). -/
def cmdConstWrite (c : Cmd) (s : State) : State × Reply :=
  if !s.runs then (s, .err stWrongRole)
  else match s.constWords (c.n 4) with
    | none => (s, .err stNotFound)
    | some n =>
      let ws := [c.w 5, c.w 6].take n
      if s.constPairs = [] then (s, .ok [])
      else ({ s with plm := { s.plm with consts := s.plm.consts ++ [⟨c.n 4, ws, s.constPairs, c.id⟩] } }, .goesOn)

/-! ### LPDDR5 -/

/-- The address in words 4 and 5. -/
def Cmd.addr (c : Cmd) : Nat := c.n 4 + (c.w 5).fld 7 0 * 2 ^ 32

/-- What stands against an access of the LPDDR5 commands. -/
def lpdCheck (c : Cmd) : Option Reply :=
  if c.n 6 = 0 || 32 < c.n 6 then some (.bad 6)
  else if c.addr < lpdBase || lpdEnd < c.addr + c.n 6 || 0xFF < c.n 5 then some (.bad 4)
  else none

/-- Bytes as words, little-endian. -/
def packBytes (bs : List Byte) : List Word :=
  (List.range ((bs.length + 3) / 4)).map (fun k => w32 (leAt bs (4 * k) 4))

/-- LPD_READ. -/
def cmdLpdRead (c : Cmd) (s : State) : State × Reply :=
  match lpdCheck c with
  | some r => (s, r)
  | none =>
    match s.mpAccess false c.addr (c.n 6) [] with
    | (t, .error st) => (t, .err st)
    | (t, .ok bs) => (t, .ok (packBytes bs))

/-- LPD_WRITE: its data are words 7 to 14, as many as the length needs. -/
def cmdLpdWrite (c : Cmd) (s : State) : State × Reply :=
  match lpdCheck c with
  | some r => (s, r)
  | none =>
    if c.words.length < 7 + (c.n 6 + 3) / 4 then (s, .err stBadLength)
    else
      let bs := ((c.words.drop 7).flatMap wordBytes).map (fun b => (BitVec.ofNat 8 b : Byte))
      s.storeReply c.addr (c.n 6) (bs.take (c.n 6))

/-! ### Forces (R207) -/

/-- A force is set or released, in one clock. -/
def State.setForce (s : State) (y : Nat) (v : Option Nat) : State := (s.putForce y v).record 0 [.force y v]

/-- FRC_SET. -/
def cmdFrcSet (c : Cmd) (s : State) : State × Reply :=
  if !s.runs then (s, .err stWrongRole)
  else match s.symbol (c.n 4) with
    | none => (s, .err stNotFound)
    | some y =>
      if !canForce y then (s, .err stState)
      else if !(s.plm.forces.any (fun f => f.sym = c.n 4)) && 256 ≤ s.plm.forces.length then (s, .err stNoSpace)
      else (s.setForce (c.n 4) (some (c.pos % 2 ^ y.bits)), .ok [])

/-- FRC_RELEASE. -/
def cmdFrcRelease (c : Cmd) (s : State) : State × Reply :=
  if (s.symbol (c.n 4)).isNone then (s, .err stNotFound)
  else if !(s.plm.forces.any (fun f => f.sym = c.n 4)) then (s, .err stState)
  else (s.setForce (c.n 4) none, .ok [])

/-- FRC_RELEASE_ALL. -/
def cmdFrcReleaseAll (_ : Cmd) (s : State) : State × Reply :=
  (s.plm.forces.foldl (fun (t : State) f => t.setForce f.sym none) s, .ok [w32 s.plm.forces.length])

/-- FRC_LIST. -/
def cmdFrcList (c : Cmd) (s : State) : State × Reply :=
  let fs := (s.plm.forces.drop (c.n 4)).take 3
  (s, .ok ([w32 s.plm.forces.length, w32 fs.length] ++ fs.flatMap (fun f => [w32 f.sym, w32 f.value, w32 (f.value / 2 ^ 32)])))

/-! ### The commands -/

/-- IDENT. -/
def execIdent (dt n : Nat) (s : State) : Answer := performAt dt n 0x0001 0 s cmdIdent
/-- STATUS_GET. -/
def execStatusGet (dt n : Nat) (s : State) : Answer := performAt dt n 0x0002 0 s cmdStatusGet
/-- ECHO. -/
def execEcho (dt n : Nat) (s : State) : Answer := performAt dt n 0x0003 0 s cmdEcho
/-- CFG_OPEN. -/
def execCfgOpen (dt n : Nat) (s : State) : Answer := performAt dt n 0x0101 0 s (inConfigRole cmdCfgOpen)
/-- CFG_CLOSE. -/
def execCfgClose (dt n : Nat) (s : State) : Answer := performAt dt n 0x0102 0 s (inConfigRole cmdCfgClose)
/-- CFG_ABANDON. -/
def execCfgAbandon (dt n : Nat) (s : State) : Answer := performAt dt n 0x0103 0 s (inConfigRole cmdCfgAbandon)
/-- CFG_COPY. -/
def execCfgCopy (dt n : Nat) (s : State) : Answer := performAt dt n 0x0104 1 s (inConfigRole cmdCfgCopy)
/-- CFG_WRITE. -/
def execCfgWrite (dt n : Nat) (s : State) : Answer := performAt dt n 0x0105 1 s (inConfigRole cmdCfgWrite)
/-- CFG_READ. -/
def execCfgRead (dt n : Nat) (s : State) : Answer := performAt dt n 0x0106 2 s cmdCfgRead
/-- CFG_BULK. -/
def execCfgBulk (dt n : Nat) (s : State) : Answer := performAt dt n 0x0107 4 s cmdCfgBulk
/-- CFG_CHECK. -/
def execCfgCheck (dt n : Nat) (s : State) : Answer := performAt dt n 0x0108 1 s (inConfigRole cmdCfgCheck)
/-- CFG_SWAP. -/
def execCfgSwap (dt n : Nat) (s : State) : Answer := performAt dt n 0x0110 4 s (inConfigRole cmdCfgSwap)
/-- CFG_SWAP_CANCEL. -/
def execCfgSwapCancel (dt n : Nat) (s : State) : Answer :=
  performEv dt n 0x0111 0 s (fun _ _ => [⟨.swapCancel, 0, 0⟩]) (inConfigRole cmdCfgSwapCancel)
/-- CFG_STATUS. -/
def execCfgStatus (dt n : Nat) (s : State) : Answer := performAt dt n 0x0112 0 s cmdCfgStatus
/-- PRG_INFO. -/
def execPrgInfo (dt n : Nat) (s : State) : Answer := performAt dt n 0x0201 0 s cmdPrgInfo
/-- PRG_LOAD_BEGIN. -/
def execPrgLoadBegin (dt n : Nat) (s : State) : Answer := performAt dt n 0x0202 2 s cmdPrgLoadBegin
/-- PRG_LOAD_BLOCK. -/
def execPrgLoadBlock (dt n : Nat) (s : State) : Answer := performAt dt n 0x0203 5 s cmdPrgLoadBlock
/-- PRG_LOAD_END. -/
def execPrgLoadEnd (dt n : Nat) (s : State) : Answer := performAt dt n 0x0204 0 s cmdPrgLoadEnd
/-- VAL_READ. -/
def execValRead (dt n : Nat) (s : State) : Answer := performAt dt n 0x0210 2 s cmdValRead
/-- VAL_WRITE. -/
def execValWrite (dt n : Nat) (s : State) : Answer := performEv dt n 0x0211 3 s (fun _ _ => [⟨.valWrite, 0, 0⟩]) cmdValWrite
/-- CONST_WRITE. -/
def execConstWrite (dt n : Nat) (s : State) : Answer := performAt dt n 0x0212 3 s cmdConstWrite
/-- LPD_READ. -/
def execLpdRead (dt n : Nat) (s : State) : Answer := performAt dt n 0x0220 3 s cmdLpdRead
/-- LPD_WRITE. -/
def execLpdWrite (dt n : Nat) (s : State) : Answer := performAt dt n 0x0221 3 s cmdLpdWrite
/-- FRC_SET. -/
def execFrcSet (dt n : Nat) (s : State) : Answer := performEv dt n 0x0301 3 s (fun _ _ => [⟨.force, 0, 0⟩]) cmdFrcSet
/-- FRC_RELEASE. -/
def execFrcRelease (dt n : Nat) (s : State) : Answer := performEv dt n 0x0302 1 s (fun _ _ => [⟨.force, 0, 0⟩]) cmdFrcRelease
/-- FRC_RELEASE_ALL. -/
def execFrcReleaseAll (dt n : Nat) (s : State) : Answer :=
  performEv dt n 0x0303 0 s (fun _ _ => [⟨.force, 0, 0⟩]) cmdFrcReleaseAll
/-- FRC_LIST. -/
def execFrcList (dt n : Nat) (s : State) : Answer := performAt dt n 0x0304 1 s cmdFrcList

end Sys2Proof.Machine
end

