-- ==== Sys2Proof/Machine/MpUnits.lean ====
section
/-!
DEFINITION. The commands of Table 3.8 on datums, stakes, channels, the pair, the recorder, firmware, self-test, lockstep
and the MP itself, and the end of the long commands (03 R56, R71).
-/
namespace Sys2Proof.Machine

/-! ### Datums and stakes -/

/-- DAT_STATUS. -/
def cmdDatStatus (c : Cmd) (s : State) : State × Reply :=
  let d := c.n 4
  if 7 < d then (s, .bad 4)
  else
    let p := (wrapPos (s.datMod d) (s.datNow d).u).1
    (s, .ok [w32 (s.datSource d + 256 * (s.datSts d).fld 7 0), w32 p, w32 (p / 2 ^ 32), w32 (s.dat d).queue.length])

/-- DAT_STOP: answered at the end of the stop ramp (R114). -/
def cmdDatStop (c : Cmd) (s : State) : State × Reply :=
  if 7 < c.n 4 then (s, .bad 4) else (s.stopDatum (c.n 4) c.id, .goesOn)

/-- STK_STATUS. -/
def cmdStkStatus (c : Cmd) (s : State) : State × Reply :=
  let d := c.n 4
  if 7 < d then (s, .bad 4)
  else (s, .ok [w32 (s.armedEntries (fun e => e = d)).length, s.stkNext d])

/-- STK_CANCEL_ALL. -/
def cmdStkCancelAll (c : Cmd) (s : State) : State × Reply :=
  let d := c.n 4
  if 7 < d then (s, .bad 4)
  else
    let es := s.armedEntries (fun e => e = d)
    (es.foldl (fun (t : State) e => t.disarmEntry e.1) s, .ok [w32 es.length])

/-! ### Channels -/

/-- What stands against a command on a channel: its number, its group in the order, the domain of the channel unit (an
access of master 0x01 to an absent unit, R11). -/
def State.chanCheck (s : State) (n : Nat) : State × Option Reply :=
  if 31 < n then (s, some (.bad 4))
  else if !s.hasGroup (grpOf n) then (s, some (.err stNotPresent))
  else if !s.domainOn 9 then (s.violation 1 3 false 2 (Reg.CH_STS n), some (.err stViolation))
  else (s, none)

/-- A command on a channel that is there. -/
def onChannel (f : Nat → Cmd → State → State × Reply) (c : Cmd) (s : State) : State × Reply :=
  match s.chanCheck (c.n 4) with
  | (t, some r) => (t, r)
  | (t, none) => f (c.n 4) c t

/-- CH_STATUS. -/
def cmdChStatus (n : Nat) (_ : Cmd) (s : State) : State × Reply :=
  (s, .ok [w32 (s.chMode n), w32 (s.chState n), s.chSts n, s.reg (Reg.CH_VALUE n)])

/-- CH_REVIVE. -/
def cmdChRevive (n : Nat) (_ : Cmd) (s : State) : State × Reply :=
  if !(s.chan n).retired then (s, .err stState) else (s.revive n, .ok [])

/-- A trim cannot be captured: the channel is OFF or RETIRED, or an AO that is not driving (R326). -/
def State.noTrim (s : State) (n : Nat) : Bool :=
  s.chMode n = 0 || (s.chan n).retired || ((s.chMode n = 6 || s.chMode n = 7) && !s.standing n)

/-- CH_TRIM_CAPTURE starts. -/
def cmdChTrimCapture (n : Nat) (_ : Cmd) (s : State) : State × Reply :=
  (s, if s.noTrim n then .err stState else .goesOn)

/-- CH_TRIM_CAPTURE ends: the trim that makes the corrected value the reference (a free value, log 23: it depends on raw
converter counts that nothing shows) and the capture temperature. -/
def endChTrimCapture (n : Nat) (c : Cmd) (s : State) : State × Reply :=
  if s.noTrim n then (s, .err stState)
  else
    let (ws, s) := s.freeWords 1
    let temp := s.regF (Reg.CH_TEMP n) 15 0
    let span := (c.w 5).bit 0
    let s := s.setReg (if span then Reg.CH_TRIM_GAIN n else Reg.CH_TRIM_OFS n) (item ws 0)
    let s := (s.setRegF (Reg.CH_TRIM_T n) 15 0 temp).setRegB (Reg.CH_TRIM_T n) (if span then 17 else 16) true
    (s.calStale n, .ok [w32 (pattern 32 (signed 16 temp))])

/-- CH_TRIM_CLEAR. -/
def cmdChTrimClear (n : Nat) (_ : Cmd) (s : State) : State × Reply :=
  let s := ((s.setReg (Reg.CH_TRIM_OFS n) 0).setReg (Reg.CH_TRIM_GAIN n) 0).setRegF (Reg.CH_TRIM_T n) 17 16 0
  (s.calStale n, .ok [])

/-- CH_PULSE_TEST starts: NOT_DONE where the group is not NORMAL or the channel not ACTIVE (R328). -/
def cmdChPulseTest (n : Nat) (c : Cmd) (s : State) : State × Reply :=
  if c.n 5 = 0 || 200 < c.n 5 then (s, .bad 5)
  else if s.supply (grpOf n) ≠ 1 || s.chState n ≠ 1 then (s, .ok [2])
  else (s.modChan n (fun x => { x with test := true, changed := s.sclk }), .goesOn)

/-- CH_PULSE_TEST ends: the measurement followed, or not. -/
def endChPulseTest (n found : Nat) (s : State) : State × Reply :=
  (s.modChan n (fun x => { x with test := false, changed := s.sclk }), .ok [w32 (ofBool (decide (found ≠ 0)))])

/-! ### The pair -/

/-- PAIR_STATUS. -/
def cmdPairStatus (_ : Cmd) (s : State) : State × Reply :=
  (s, .ok [w32 s.role, w32 s.partner, s.reg Reg.PAIR_EPOCH, s.reg Reg.PAIR_LANES])

/-- PAIR_EXCHANGE and PAIR_HANDOVER arm a hand-over on a trigger (R289). -/
def State.armHand (s : State) (k : HandKind) (c : Cmd) : State × Reply :=
  if s.role ≠ 2 then (s, .err stWrongRole)
  else if s.mp.swap.isSome || s.handArmed then (s, .err stState)
  else match s.triggerCheck c with
    | some r => (s, r)
    | none =>
      let trig := s.triggerOf (c.w 4) c.pos ((c.w 7).bit 0)
      let s := ({ s with pair := { s.pair with arm := some ⟨k, trig, c.id⟩ } } : State).setRegB Reg.PAIR_STS 7 true
      (if s.fallsNow trig then s.pairTrigger (fun _ => true) else s, .goesOn)

/-- PAIR_EXCHANGE. -/
def cmdPairExchange (c : Cmd) (s : State) : State × Reply := s.armHand .exchange c
/-- PAIR_HANDOVER. -/
def cmdPairHandover (c : Cmd) (s : State) : State × Reply := s.armHand .handover c

/-- PAIR_CANCEL. -/
def cmdPairCancel (_ : Cmd) (s : State) : State × Reply :=
  match s.pair.arm with
  | none => (s, .err stState)
  | some a =>
    let s := ({ s with pair := { s.pair with arm := none } } : State).setRegB Reg.PAIR_STS 7 false
    (s.finishErr a.slot stCancelled, .ok [])

/-- PAIR_WITHDRAW: answered when the module is OUT_OF_SERVICE (R264). -/
def cmdPairWithdraw (c : Cmd) (s : State) : State × Reply := (s.withdraw (some c.id), .goesOn)

/-- PAIR_RESYNC starts a resynchronisation (R280). -/
def cmdPairResync (_ : Cmd) (s : State) : State × Reply :=
  if s.role ≠ 3 then (s, .err stWrongRole)
  else
    let s := s.setReady false
    let s := { s with pair := { s.pair with copied := false, joining := false, gens := [] } }
    (s.setRegB Reg.PAIR_STS 1 true, .goesOn)

/-- PAIR_RESYNC ends with the copy. -/
def endPairResync (s : State) : State × Reply :=
  if s.role ≠ 3 then (s, .err stWrongRole) else (s, if s.regB Reg.PAIR_STS 1 then .goesOn else .ok [])

/-! ### The recorder (R389, R396) -/

/-- REC_INFO. -/
def cmdRecInfo (_ : Cmd) (s : State) : State × Reply :=
  (s, .ok [w32 s.recd.seq, w32 (s.recd.seq / 2 ^ 32), w32 (s.recValid 0), w32 (s.recValid 1)])

/-- REC_PERIOD: the stretch closes with CAUSE NEW_PERIOD. -/
def cmdRecPeriod (c : Cmd) (s : State) : State × Reply :=
  if c.n 4 = 0 || 1440 < c.n 4 then (s, .bad 4)
  else ((s.setReg Reg.REC_PERIOD (c.w 4)).closeStretch 5, .ok [])

/-- What stands against a REC_COPY. -/
def State.recCheck (s : State) (c : Cmd) : Option Reply :=
  let size := if c.n 4 = 0 then 256 else 2048
  if 1 < c.n 4 then some (.bad 4)
  else if size ≤ c.n 5 then some (.bad 5)
  else if c.n 6 = 0 || size < c.n 5 + c.n 6 then some (.bad 6)
  else s.bankCheck (c.n 7) (c.n 8) (128 * c.n 6) ((c.w 9).fld 7 0) 7 8 8 9

/-- REC_COPY starts. -/
def cmdRecCopy (c : Cmd) (s : State) : State × Reply :=
  returning (c.n 7) ((c.w 9).fld 7 0) (s, (s.recCheck c).getD .goesOn)

/-- REC_COPY ends: the slots as stored, 128 bytes each. -/
def endRecCopy (c : Cmd) (s : State) : State × Reply :=
  returning (c.n 7) ((c.w 9).fld 7 0) (
    match s.recCheck c with
    | some r => (s, r)
    | none =>
      let slots := (List.range (c.n 6)).flatMap (fun k =>
        let ws := (s.slotWords (c.n 4) (c.n 5 + k)).getD []
        (List.range 32).map (item ws))
      let bs := (slots.flatMap wordBytes).map (fun b => (BitVec.ofNat 8 b : Byte))
      s.storeReply (bankAddr (c.n 7) (c.n 8)) (128 * c.n 6) bs)

/-! ### Firmware (R431, R432, R440) -/

/-- UPD_STATUS. -/
def cmdUpdStatus (_ : Cmd) (s : State) : State × Reply := (s, .ok [s.updSts, s.updSecver, s.updFwrev 0, s.updFwrev 1])

/-- The slot holds a complete image: COMPLETE, RUNNING or GOOD (Table 18.4). -/
def State.holdsImage (s : State) (k : Nat) : Bool :=
  let st := (s.slot k).st
  st = 2 || st = 3 || st = 5

/-- UPD_SCHEDULE. -/
def cmdUpdSchedule (c : Cmd) (s : State) : State × Reply :=
  if 1 < c.n 4 then (s, .bad 4)
  else if 1000000000 ≤ c.n 5 then (s, .bad 5)
  else if 0xFFFF < c.n 7 then (s, .bad 7)
  else if !s.holdsImage (c.n 4) then (s, .err stState)
  else
    let s := (s.setReg Reg.UPD_ACT_NS (c.w 5)).setReg Reg.UPD_ACT_SEC (c.w 6)
    (s.setReg Reg.UPD_ACT_EXT (w32 (c.n 7 + 2 ^ 16 * c.n 4 + 2 ^ 17)), .ok [])

/-- UPD_CANCEL: an activation whose time has come takes place first (Table 18.8). -/
def cmdUpdCancel (_ : Cmd) (s : State) : State × Reply :=
  if s.activationEvs ≠ [] then (s.activation, .err stState)
  else if !s.regB Reg.UPD_ACT_EXT 17 then (s, .err stState) else (s.disarm, .ok [])

/-- The controllers of a mask. -/
def Cmd.ctls (c : Cmd) : List Nat := (List.range 16).filter (fun k => (c.w 4).bit k)

/-- A running controller begins to receive an image (Table 13.11). -/
def State.ctlReceives (s : State) (c : Nat) : State :=
  if s.regF (Reg.CHN_CCc c) 18 16 = 1 then s.setRegF (Reg.CHN_CCc c) 18 16 2 else s

/-- UPD_CHAIN starts: CHN_STS.UPDATING, no break known, and the controllers of the mask receive. -/
def cmdUpdChain (c : Cmd) (s : State) : State × Reply :=
  if c.ctls.any (fun k => !s.hasCtl k) then (s, .err stNotPresent)
  else
    let s := c.ctls.foldl State.ctlReceives s
    (s.chainChange (fun s => (s.setRegF Reg.CHN_STS 25 18 0xFF).setRegB Reg.CHN_STS 17 true), .goesOn)

/-- UPD_CHAIN ends. `found` is where chain A broke in [3:0] and chain B in [7:4]: 0 for nowhere, k + 1 for position k.
Masked controllers before a break hold the image of the slot named for the next boot in their inactive slot (R332, R431). -/
def endUpdChain (c : Cmd) (found : Nat) (s : State) : State × Reply :=
  let brk (chain : Nat) : Nat := found / 16 ^ chain % 16
  let reached (k : Nat) : Bool := brk (k / 8) = 0 || k % 8 + 1 < brk (k / 8)
  let slot := if s.regB Reg.UPD_ACT_EXT 17 then some s.actSlot else s.upd.run
  let build := match slot.bind (fun k => (s.slot k).hdr) with | some h => h.ccBuild | none => 0
  let done := c.ctls.filter reached
  let s := done.foldl (fun (s : State) k =>
    { s with ctls := sput {} s.ctls k { sget {} s.ctls k with other := some build } }) s
  let s := (List.range 16).foldl State.ctlReceived s
  let pos (b : Nat) : Nat := if b = 0 then 0xF else b - 1
  (s.chainChange (fun s => (s.setRegF Reg.CHN_STS 25 18 (pos (brk 0) + 16 * pos (brk 1))).setRegB Reg.CHN_STS 17 false),
    .ok [w32 done.length])

/-! ### Self-test (R255, R274, R328, R366) -/

/-- A full self-test is accepted: STANDBY, OUT_OF_SERVICE, or ALONE in fixed mode. -/
def State.testRole (s : State) : Bool := s.role = 3 || s.role = 6 || (s.role = 1 && s.plm.mode = .fixed)

/-- SELFTEST_FULL starts. -/
def cmdSelftestFull (_ : Cmd) (s : State) : State × Reply := (s, if s.testRole then .goesOn else .err stBusyService)

/-- A retirement record is cleared. -/
def State.clearRetired (s : State) (r : Retired) : State :=
  { s with mram := { retired := s.mram.retired.filter (fun x => x ≠ r), waiting := s.mram.waiting.filter (fun x => x ≠ r) } }

/-- A retired unit passes the test of its group: a pair becomes its cluster's spare with the constants of the others, a
bank is ON and owned by NONE, a lane is SPARE. A channel stays retired. -/
def State.revived_ (s : State) (r : Retired) : State :=
  match r with
  | .pair x =>
    let s := s.clearRetired r
    let other := s.constPairs.head?
    let s := (s.setRegB Reg.CMP_RETIRED x false).setCmpState x 1
    let s := s.setRegF (Reg.CMP_Px_STS x) 15 8 0
    let s := s.modChk x (fun c => { c with noSpare := false, withdrawn := false })
    match other with | some o => if o = cmpId x || 18 < x then s else s.copyKonst o (cmpId x) | none => s
  | .bank n =>
    let s := (s.clearRetired r).setRegF (Reg.BNK_BSTS n) 1 0 0
    (s.setOwner n 0).setRegB Reg.BNK_GLB_STS n false
  | .lane l => ((s.clearRetired r).setLane l 3).moveTraffic
  | .channel _ => s

/-- The test group of a retirement, and the bit of `found` that says its unit fails the test: groups in [7:0], pair x at
8 + x, bank n at 40 + n, lane l at 64 + l. -/
def groupOf : Retired → Nat
  | .bank _ => 2 | .pair _ => 3 | .channel _ => 4 | .lane _ => 6
def failBit : Retired → Nat
  | .pair x => 8 + x | .bank n => 40 + n | .lane l => 64 + l | .channel _ => 4

/-- SELFTEST_FULL ends. `found` says which groups and retired units failed. -/
def endSelftestFull (c : Cmd) (found : Nat) (s : State) : State × Reply :=
  let bit (n : Nat) : Bool := found / 2 ^ n % 2 = 1
  let rs := s.retirements.filter (fun r => (c.w 4).bit (groupOf r))
  let bad := rs.filter (fun r => bit (failBit r))
  let failed : Word := (List.range 8).foldl (fun (w : Word) g =>
    if (c.w 4).bit g && (bit g || bad.any (fun r => groupOf r = g)) then w.setBit g true else w) 0
  ((rs.filter (fun r => !bit (failBit r))).foldl State.revived_ s, .ok [failed])

/-! ### Counters, lockstep, the MP -/

/-- A counter of a unit: the registers whose fields [hi:lo] add up to it. -/
abbrev CounterSum := List Nat × Nat × Nat

/-- A counter with one register for each of `n` datums, ports, tasks and so on. -/
def counterOf (n : Nat) (f : Nat → Nat) (hi lo : Nat) : CounterSum := ((List.range n).map f, hi, lo)

/-- The counters of units 0 to 8 of Table 1.4, in the order of their register maps (DESIGN CHOICE, log 23). -/
def countersLow : Nat → List CounterSum
  | 0 => [([Reg.SYS_VIOL_CNT], 31, 0), ([Reg.SYS_TMR_CNT], 31, 0), ([Reg.SYS_PCIE_ERR], 15, 0), ([Reg.SYS_RRA_DROP], 31, 0)]
  | 1 => [([Reg.PWR_RST_CAUSE], 31, 16), ([Reg.PWR_FEED_CNT], 15, 0), ([Reg.PWR_FEED_CNT], 31, 16)]
  | 2 => [([Reg.MBX_GLB_MPRST], 15, 0)]
  | 3 => [([Reg.TIM_MEAS_SEQ], 31, 0), ([Reg.TIM_MGMT_DROP], 31, 0), counterOf 16 Reg.TIM_CMPk_MISSED 15 0,
          counterOf 4 Reg.TIM_PORTn_TXQ_OVF 31 0]
  | 4 => [counterOf 8 Reg.DAT_JUMP_CNT 31 0, counterOf 8 Reg.DAT_ENC_ERR 31 0, counterOf 8 Reg.DAT_UP_DROP 31 0]
  | 5 => (List.range 8).map (fun k => ([Reg.STK_FO_LATE + 4 * k], 31, 0))
  | 6 => (List.range 8).map (fun k => counterOf 4 (fun n => Reg.TRV_RX_FCS n + 4 * k) 31 0)
  | 7 => [([Reg.PLM_FIXED_CNT], 31, 0), ([Reg.PLM_FIXED_OVR], 31, 0), counterOf 32 Reg.PLM_TASKn_REL 31 0,
          counterOf 32 Reg.PLM_TASKn_OVR 31 0, counterOf 32 Reg.PLM_TASKn_WITHHELD 31 0]
  | 8 => [counterOf 6 Reg.BLK_PAIRp_CALLS 31 0, ([Reg.BLK_LATE], 31, 0), ([Reg.BLK_PARAM], 31, 0), ([Reg.BLK_SKIP], 31, 0),
          ([Reg.BLK_APP_REF], 31, 0)]
  | _ => []

/-- The counters of units 9 to 16. -/
def countersHigh : Nat → List CounterSum
  | 9 => [counterOf 30 Reg.CMP_Px_MIS 15 0, counterOf 30 Reg.CMP_Px_MIS 31 16, counterOf 30 Reg.CMP_Px_TESTS 31 0,
          counterOf 30 Reg.CMP_Px_AGREE 31 0]
  | 10 => [([Reg.PAIR_LANE0_CRC], 31, 0), ([Reg.PAIR_LANE1_CRC], 31, 0), ([Reg.PAIR_RETX], 31, 0), ([Reg.PAIR_TAKEOVERS], 15, 0),
           ([Reg.PAIR_TAKEOVERS], 31, 16), ([Reg.PAIR_MAP_DROP], 15, 0), ([Reg.PAIR_MAP_DROP], 31, 16)]
  | 11 => [counterOf 2 Reg.GRP_SAG_CNT 15 0, counterOf 2 Reg.GRP_CONV_DROP 15 0, ([Reg.FIO_FO_TRIPS], 31, 0),
           counterOf 8 Reg.FIk_EV_DROP 31 0]
  | 12 => [counterOf 2 Reg.CANn_ERRCNT 15 0, counterOf 2 Reg.CANn_ERRCNT 31 16, counterOf 2 Reg.CANn_TXE_DROP 31 0,
           counterOf 2 Reg.CANn_IDCOL_CNT 31 0, counterOf 2 Reg.CANn_RX_UNMATCHED 31 0, counterOf 2 Reg.CANn_RX_LOSTCNT 31 0]
  | 13 => [([Reg.BNK_LPD_CE], 31, 0), ([Reg.BNK_LPD_UE], 31, 0), ([Reg.BNK_LCK_BADREL], 31, 0), counterOf 24 Reg.BNK_CE 31 0,
           counterOf 24 Reg.BNK_UE 31 0, counterOf 24 Reg.BNK_FIND 31 16]
  | 14 => [([Reg.MPU_IMP_CNT], 31, 0)]
  | 15 => [([Reg.REC_TORN], 15, 0)]
  | 16 => [([Reg.UPD_XFER_ERR], 15, 0)]
  | _ => []

/-- A counter's value, cut at the largest word. -/
def State.counterSum (s : State) (c : CounterSum) : Word := w32 (min 0xFFFFFFFF (c.1.map (fun a => s.regF a c.2.1 c.2.2)).sum)

/-- The oldest discovery answer that the MP holds and host software has not read, by its port (R158). -/
def State.nextAnswer (s : State) : Option (Nat × (Nat × Nat × Nat × Nat × Nat)) :=
  (List.range 4).findSome? (fun n => if (s.port n).discEnd.isSome then none else (s.port n).answers.head?.map (fun a => (n, a)))

/-- Words 12 to 15 of DIAG_COUNTERS of TRV: a discovery answer as its address, STATE in [23:16], port in [26:24] and bit 31 set,
its MAC address and its product code. Each answer is read once (DESIGN CHOICE, log 23). -/
def State.readAnswer (s : State) : State × List Word :=
  match s.nextAnswer with
  | some (n, addr, mac, product, st, _) =>
    (s.modPort n (fun p => { p with answers := p.answers.tail }),
     [w32 (addr % 65536 + st % 256 * 2 ^ 16 + n * 2 ^ 24 + 2 ^ 31), w32 mac, w32 (mac / 2 ^ 32), w32 product])
  | none => (s, List.replicate 4 0)

/-- The base address of a unit of Table 1.4. -/
def unitBase (u : Nat) : Nat :=
  [0x00000, 0x10000, 0x20000, 0x30000, 0x40000, 0x50000, 0x60000, 0x80000, 0xA0000, 0xB0000, 0xC0000, 0xD0000, 0xE0000, 0xF0000,
   0x100000, 0x110000, 0x120000].getD u 0

/-- DIAG_COUNTERS: the counters of a unit, and of TRV a discovery answer (R71, R158). Reading them so clears none. -/
def cmdDiagCounters (c : Cmd) (s : State) : State × Reply :=
  let u := c.n 4
  if 16 < u then (s, .bad 4)
  else if u = 12 && s.order = Order.s then (s, .err stNotPresent)
  else if !s.domainOn (regDomain (unitBase u)) then (s.violation 1 3 false 2 (unitBase u), .err stViolation)
  else
    let ws := (((countersLow u ++ countersHigh u).map s.counterSum) ++ List.replicate 12 (0 : Word)).take 12
    if u = 6 then (fun (p : State × List Word) => (p.1, .ok (ws.take 8 ++ p.2))) s.readAnswer else (s, .ok ws)

/-- CMP_SPLIT and CMP_JOIN: answered at the end (R256-R258). -/
def cmdCmpSplit (c : Cmd) (s : State) : State × Reply := (s.askSplit (c.n 4) c.id, .goesOn)
def cmdCmpJoin (c : Cmd) (s : State) : State × Reply := (s.askJoin (c.n 4) c.id, .goesOn)

/-- MP_RESTART. -/
def cmdMpRestart (c : Cmd) (s : State) : State × Reply := (s, if c.w 4 = 0x00004D50 then .ok [] else .bad 4)

/-! ### The end of the long commands (R56) -/

/-- The commands that LONG_COMMAND_COMPLETE ends; the others that go on end with an event of their own. -/
def longCodes : List Nat := [0x0107, 0x0108, 0x0203, 0x0204, 0x0503, 0x0505, 0x0606, 0x0703, 0x0804, 0x0901]

/-- The effect and the response at the end of a long command. -/
def State.endLong (s : State) (c : Cmd) (found : Nat) : State × Reply :=
  match c.code with
  | 0x0107 => endCfgBulk c s
  | 0x0108 => endCfgCheck c s
  | 0x0203 => endPrgLoadBlock c s
  | 0x0204 => endPrgLoadEnd c s
  | 0x0503 => onChannel endChTrimCapture c s
  | 0x0505 => onChannel (fun n _ s => endChPulseTest n found s) c s
  | 0x0606 => endPairResync s
  | 0x0703 => endRecCopy c s
  | 0x0804 => endUpdChain c found s
  | _ => endSelftestFull c found s

/-- LONG_COMMAND_COMPLETE on pair `n`. -/
def State.longComplete (s : State) (n found : Nat) : State :=
  if !s.mpReady then s
  else match s.longRunning n longCodes with
    | none => s
    | some c =>
      let (t, r) := s.endLong c found
      t.reply c r

/-! ### The commands -/

/-- LONG_COMMAND_COMPLETE. -/
def execLongCommandComplete (dt n found : Nat) (s : State) : Answer := after dt s (fun s => s.longComplete n found)
/-- DAT_STATUS. -/
def execDatStatus (dt n : Nat) (s : State) : Answer := performAt dt n 0x0401 1 s cmdDatStatus
/-- DAT_STOP. -/
def execDatStop (dt n : Nat) (s : State) : Answer := performEv dt n 0x0402 1 s (fun c _ => [⟨.datStop, c.n 4, 0⟩]) cmdDatStop
/-- STK_STATUS. -/
def execStkStatus (dt n : Nat) (s : State) : Answer := performAt dt n 0x0410 1 s cmdStkStatus
/-- STK_CANCEL_ALL. -/
def execStkCancelAll (dt n : Nat) (s : State) : Answer :=
  performEv dt n 0x0411 1 s (fun c s => (s.armedEntries (fun e => e = c.n 4)).map (fun e => ⟨.disarm, e.1, 0⟩)) cmdStkCancelAll
/-- CH_STATUS. -/
def execChStatus (dt n : Nat) (s : State) : Answer := performAt dt n 0x0501 1 s (onChannel cmdChStatus)
/-- CH_REVIVE. -/
def execChRevive (dt n : Nat) (s : State) : Answer :=
  performEv dt n 0x0502 1 s (fun c _ => [⟨.revive, grpOf (c.n 4), c.n 4⟩]) (onChannel cmdChRevive)
/-- CH_TRIM_CAPTURE. -/
def execChTrimCapture (dt n : Nat) (s : State) : Answer :=
  performAt dt n 0x0503 3 s (onChannel cmdChTrimCapture)
/-- CH_TRIM_CLEAR. -/
def execChTrimClear (dt n : Nat) (s : State) : Answer := performAt dt n 0x0504 1 s (onChannel cmdChTrimClear)
/-- CH_PULSE_TEST. -/
def execChPulseTest (dt n : Nat) (s : State) : Answer :=
  performEv dt n 0x0505 2 s (fun c _ => [⟨.pulseTest, c.n 4, 0⟩]) (onChannel cmdChPulseTest)
/-- PAIR_STATUS. -/
def execPairStatus (dt n : Nat) (s : State) : Answer := performAt dt n 0x0601 0 s cmdPairStatus
/-- PAIR_EXCHANGE. -/
def execPairExchange (dt n : Nat) (s : State) : Answer := performAt dt n 0x0602 4 s cmdPairExchange
/-- PAIR_HANDOVER. -/
def execPairHandover (dt n : Nat) (s : State) : Answer := performAt dt n 0x0603 4 s cmdPairHandover
/-- PAIR_CANCEL. -/
def execPairCancel (dt n : Nat) (s : State) : Answer := performAt dt n 0x0604 0 s cmdPairCancel
/-- PAIR_WITHDRAW. -/
def execPairWithdraw (dt n : Nat) (s : State) : Answer := performAt dt n 0x0605 0 s cmdPairWithdraw
/-- PAIR_RESYNC. -/
def execPairResync (dt n : Nat) (s : State) : Answer := performAt dt n 0x0606 0 s cmdPairResync
/-- REC_INFO. -/
def execRecInfo (dt n : Nat) (s : State) : Answer := performAt dt n 0x0701 0 s cmdRecInfo
/-- REC_PERIOD. -/
def execRecPeriod (dt n : Nat) (s : State) : Answer := performEv dt n 0x0702 1 s (fun _ _ => [⟨.recPeriod, 0, 0⟩]) cmdRecPeriod
/-- REC_COPY. -/
def execRecCopy (dt n : Nat) (s : State) : Answer := performAt dt n 0x0703 6 s cmdRecCopy
/-- UPD_STATUS. -/
def execUpdStatus (dt n : Nat) (s : State) : Answer := performAt dt n 0x0801 0 s cmdUpdStatus
/-- UPD_SCHEDULE. -/
def execUpdSchedule (dt n : Nat) (s : State) : Answer :=
  performEv dt n 0x0802 4 s (fun c _ => [⟨.updSchedule, c.n 4, 0⟩]) cmdUpdSchedule
/-- UPD_CANCEL. -/
def execUpdCancel (dt n : Nat) (s : State) : Answer :=
  performEv dt n 0x0803 0 s (fun _ s => s.activationEvs ++ [⟨.updCancel, 0, 0⟩]) cmdUpdCancel
/-- UPD_CHAIN. -/
def execUpdChain (dt n : Nat) (s : State) : Answer := performAt dt n 0x0804 1 s cmdUpdChain
/-- SELFTEST_FULL. -/
def execSelftestFull (dt n : Nat) (s : State) : Answer := performAt dt n 0x0901 1 s cmdSelftestFull
/-- DIAG_COUNTERS. -/
def execDiagCounters (dt n : Nat) (s : State) : Answer := performAt dt n 0x0902 1 s cmdDiagCounters
/-- CMP_SPLIT. -/
def execCmpSplit (dt n : Nat) (s : State) : Answer := performAt dt n 0x0903 1 s cmdCmpSplit
/-- CMP_JOIN. -/
def execCmpJoin (dt n : Nat) (s : State) : Answer := performAt dt n 0x0904 1 s cmdCmpJoin
/-- MP_RESTART. -/
def execMpRestart (dt n : Nat) (s : State) : Answer := performAt dt n 0x0910 1 s cmdMpRestart

end Sys2Proof.Machine
end

