-- ==== Sys2Proof/Machine/Views.lean ====
section
/-!
DEFINITION. What each register shows (the register tables of every chapter): the stored word, a word of the active
configuration set (R44), or what the register derives from other state.
-/
namespace Sys2Proof.Machine

/-! ### The order code (R2, R17) -/

/-- SYS_OPTIONS of the order code. -/
def State.sysOptions (s : State) : Word := match s.order with | .f => 0xFF | .m => 0xBD | .s => 0x15

/-! ### Times and counts -/

/-- The backup clock's seconds (R407, log 27): until PHASE 0x3 the count of the backup clock itself. -/
def State.backupSec (s : State) : Nat := if s.startPhase < 3 then secOf s.ptp else s.bkp.sec

/-- DAT_ENC_CNT: the count with the offset of R116, which stands in position units; where it is no whole number of counts,
which way it is rounded is free (log 15). -/
def State.encCount (s : State) (d : Nat) : Word :=
  let e := (s.dat d).enc
  let scale : Int := pair64 (s.cw 2 d 9) (s.cw 2 d 10)
  let whole := if scale = 0 then 0 else e.offset / scale
  let part := if scale = 0 || e.offset % scale = 0 then 0 else (ofBool (Config.roundUp (e.offset % scale)) : Int)
  w32 (pattern 32 (e.count + whole + part))

/-- DAT_HZ_HELD, saturating; a queue whose end has passed holds nothing ahead. -/
def State.hzReg (s : State) (d : Nat) : Word := w32 (clampInt 0 0xFFFFFFFF (s.hzHeld d)).toNat

/-- DAT_GLB_STS: two bits of each datum's state. -/
def State.datGlb (s : State) : Word := w32 ((List.range 8).map (fun d => datStCode (s.dat d).st * 4 ^ d)).sum

/-- The eight words that DAT_POS_LO and its captured registers show: POS, VEL, ACC, WRAPS, SEQ. -/
def State.datPos (s : State) (d i : Nat) : Word :=
  let e := s.datNow d
  let (p, w) := wrapPos (s.datMod d) e.u
  match i with
  | 0 => w32 p
  | 1 => w32 (p / 2 ^ 32)
  | 2 => w32 (pattern 64 e.v)
  | 3 => w32 (pattern 64 e.v / 2 ^ 32)
  | 4 => w32 (pattern 64 e.a)
  | 5 => w32 (pattern 64 e.a / 2 ^ 32)
  | 6 => w32 (pattern 32 w)
  | _ => w32 e.seq

/-- DAT_PHASE. -/
def State.phaseWord (s : State) (d half : Nat) : Word := w32 (pattern 64 (s.dat d).phase / 2 ^ (32 * half))

/-- The live target of the entry selected by STK_LIVE_SEL. -/
def State.liveTarget (s : State) : Nat := (s.stake (s.regF Reg.STK_LIVE_SEL 11 0)).target

/-- The entry that slot `j` of the table window shows (R137). -/
def State.windowEntry (s : State) (j : Nat) : Nat := s.regF Reg.STK_PAGE 1 0 * 1024 + j

/-- TRV_STS: CYCLING while the port's comparator is loaded and EN = 1. -/
def State.trvSts (s : State) (n : Nat) : Word :=
  (s.reg (Reg.TRV_STS n)).setBit 2
    (s.regB (Reg.TRV_CTL n) 0 && s.cw 3 n 0 ≠ 0 && s.regB (Reg.TIM_CMPk_CFG ((s.cw 3 n 1).fld 3 0)) 1)

/-- Entry `g` of a port's gate list, as the active set has it (R172). -/
def State.gclWord (s : State) (n g half : Nat) : Word :=
  s.cw 3 n (8 + 2 * g + half)

/-! ### Views by block -/

/-- SYS and PWR. -/
def State.viewSys (s : State) (t : RegTag) (a : Nat) : Word :=
  match t with
  | .SYS_ID => s.sysId
  | .SYS_OPTIONS => s.sysOptions
  | .SYS_STATUS => s.sysStatus
  | .PWR_BKP_SEC_LO => w32 s.backupSec
  | .PWR_BKP_SEC_HI => w32 (s.backupSec / 2 ^ 32 % 2 ^ 16)
  | _ => s.reg a

/-- TIM. -/
def State.viewTim (s : State) (t : RegTag) (i a : Nat) : Word :=
  match t with
  | .TIM_NOW_LO => w32 (nsOf s.ptp)
  | .TIM_NOW_HI => w32 (secOf s.ptp)
  | .TIM_NOW_EXT => w32 (secOf s.ptp / 2 ^ 32 % 2 ^ 16)
  | .TIM_NOW_FRAC => w32 (fracOf s.ptp)
  | .TIM_PORTn_TXQ_TAG => s.txqTag i
  | .TIM_PORTn_TXQ_NS => match s.txqHead i with | some e => w32 (e.ns % 1000000000) | none => 0
  | .TIM_PORTn_TXQ_SEC_LO => match s.txqHead i with | some e => w32 (e.ns / 1000000000) | none => 0
  | .TIM_PORTn_TXQ_SEC_HI => match s.txqHead i with | some e => w32 (e.ns / 1000000000 / 2 ^ 32 % 2 ^ 16) | none => 0
  | _ => s.reg a

/-- DAT. -/
def State.viewDat (s : State) (t : RegTag) (i a : Nat) : Word :=
  match t with
  | .DAT_CFG => s.cw 2 i 0
  | .DAT_STS => s.datSts i
  | .DAT_MOD_LO => s.cw 2 i 1
  | .DAT_MOD_HI => s.cw 2 i 2
  | .DAT_RATIO_NUM => s.cw 2 i 3
  | .DAT_RATIO_DEN => s.cw 2 i 4
  | .DAT_OFS_LO => s.cw 2 i 5
  | .DAT_OFS_HI => s.cw 2 i 6
  | .DAT_ENC_CFG => s.cw 2 i 7
  | .DAT_ENC_ZVAL => s.cw 2 i 8
  | .DAT_ENC_SCALE_LO => s.cw 2 i 9
  | .DAT_ENC_SCALE_HI => s.cw 2 i 10
  | .DAT_ENC_STOPJ_LO => s.cw 2 i 11
  | .DAT_ENC_STOPJ_HI => s.cw 2 i 12
  | .DAT_UP_CFG => s.cw 2 i 13
  | .DAT_POS_LO => s.datPos i 0
  | .DAT_POS_HI => s.datPos i 1
  | .DAT_VEL_LO => s.datPos i 2
  | .DAT_VEL_HI => s.datPos i 3
  | .DAT_ACC_LO => s.datPos i 4
  | .DAT_ACC_HI => s.datPos i 5
  | .DAT_WRAPS => s.datPos i 6
  | .DAT_ACT_SEQ => s.datPos i 7
  | .DAT_PHASE_LO => s.phaseWord i 0
  | .DAT_PHASE_HI => s.phaseWord i 1
  | .DAT_HZ_HELD => s.hzReg i
  | .DAT_ENC_CNT => s.encCount i
  | .DAT_GLB_STS => s.datGlb
  | _ => s.reg a

/-- STK. `i` is the datum, the capture slot or the window entry, `j` the lead slot or the word. -/
def State.viewStk (s : State) (t : RegTag) (i j a : Nat) : Word :=
  let c : Capture := sget {} s.stk.caps i
  match t with
  | .STK_STS => s.stkSts
  | .STK_LIVE_TGT_LO => w32 s.liveTarget
  | .STK_LIVE_TGT_HI => w32 (s.liveTarget / 2 ^ 32)
  | .STK_DNEXTd => s.stkNext i
  | .STK_CAPk_NS => w32 c.ns
  | .STK_CAPk_SEC => w32 c.sec
  | .STK_CAPk_SEC_EXT => w32 (c.sec / 2 ^ 32 % 2 ^ 16)
  | .STK_LEADd_s => s.cw 5 (4096 + i) j
  | .STK_HYSTd_LO => s.cw 5 (4096 + i) 8
  | .STK_HYSTd_HI => s.cw 5 (4096 + i) 9
  | .STK_Wi => s.stkW (s.windowEntry i) j
  | .STK_W6 => s.stkW6 (s.windowEntry i)
  | _ => s.reg a

/-- TRV. -/
def State.viewTrv (s : State) (t : RegTag) (i j a : Nat) : Word :=
  match t with
  | .TRV_STS => s.trvSts i
  | .TRV_ITEM0 => s.cw 3 i 0
  | .TRV_ITEM1 => s.cw 3 i 1
  | .TRV_QMAP => s.cw 3 i 2
  | .TRV_PREEMPT => s.cw 3 i 3
  | .TRV_VLAN => s.cw 3 i 4
  | .TRV_GMAC_LO => s.cw 3 i 5
  | .TRV_GMAC_HI => s.cw 3 i 6
  | .TRV_UPSTN => s.cw 3 i 7
  | .TRV_GCLg_GATES => s.gclWord i j 0
  | .TRV_GCLg_DUR => s.gclWord i j 1
  | .STN_STS => s.stnSts i j
  | .TRV_SW_HB_AGE => s.hbAge
  | _ => s.reg a

/-- PLM: the words of a task's binding, the unit's state, and the pairs of both clusters. -/
def State.viewPlm (s : State) (t : RegTag) (i j a : Nat) : Word :=
  match t with
  | .PLM_STS => s.plmSts
  | .PLM_FORCES => w32 (s.plm.forces.length)
  | .PLM_TASKn_BIND => s.cw 4 i 0
  | .PLM_TASKn_PERIOD => s.cw 4 i 1
  | .PLM_TASKn_PHASE => s.cw 4 i 2
  | .PLM_TASKn_CODE => s.cw 4 i 3
  | .PLM_TASKn_LEN => s.cw 4 i 4
  | .PLM_TASKn_ENTRY => s.cw 4 i 5
  | .PLM_TASKn_DEADLINE => s.cw 4 i 6
  | .PLM_PAIRp_STS => s.plmPairSts (0x10 + 0x10 * i + j)
  | _ => s.reg a

/-- BLK: most registers show the instance that BLK_SEL selects. -/
def State.viewBlk (s : State) (t : RegTag) (i a : Nat) : Word :=
  let k := s.regF Reg.BLK_SEL 10 0
  match t with
  | .BLK_STS => s.blkSts
  | .BLK_MEM_USED => s.blkUsed
  | .BLK_DIR_Wi => s.cw 6 k i
  | .BLK_ISTS => s.blkIsts k
  | .BLK_ICALLS => w32 (s.instStat k).calls
  | .BLK_ILATE => w32 (s.instStat k).late
  | .BLK_IMAX => w32 (s.instStat k).maxClk
  | .BLK_WIN_DATA => s.blkWin k (s.regF Reg.BLK_WIN_OFS 19 0)
  | .BLK_PAIRp_STS => s.blkPairSts i
  | _ => s.reg a

/-- PAIR. -/
def State.viewPair (s : State) (t : RegTag) (a : Nat) : Word :=
  match t with
  | .PAIR_ROLE => s.pairRole
  | .PAIR_UNDO => s.pairUndo
  | .PAIR_TXQ => s.pairTxq
  | .PAIR_SILENCE => s.pairSilence
  | _ => s.reg a

/-- CH. -/
def State.viewCh (s : State) (t : RegTag) (i j a : Nat) : Word :=
  match t with
  | .CH_CFG => s.chW i 0
  | .CH_BIT => s.chW i 1
  | .CH_WORDS => s.chW i 2
  | .CH_SUBST => s.chW i 3
  | .CH_STSW => s.chW i 4
  | .CH_STS => s.chSts i
  | .CH_CMD => (s.chan i).cmd
  | .CH_TRIPS => s.chTrips i
  | .GRP_ITEMi => s.grpW i j
  | .GRP_STS => s.grpSts i
  | .GRP_IDO => w32 (min 0xFFFF (s.doTotal i))
  | .FIk_CFG => s.grpW 0 (3 + i)
  | .FOk_CFG => s.grpW 0 (11 + i)
  | .FIO_LEVEL => s.fioLevel
  | .FIO_STS => s.fioSts
  | .FIk_EV_NS => (s.fiHead i).1
  | .FIk_EV_SEC => (s.fiHead i).2.1
  | .FIk_EV_INFO => (s.fiHead i).2.2
  | .CHN_STS => s.chnSts
  | _ => s.reg a

/-- CAN. -/
def State.viewCan (s : State) (t : RegTag) (i a : Nat) : Word :=
  match t with
  | .CANn_STS => s.canSts i
  | .CANn_TSC => w32 s.tsc
  | .CANn_TXE_INFO => s.txeInfo i
  | .CANn_TXE_TS => s.txeTs i
  | .CANn_RX_NEW0 => s.rxNew i 0
  | .CANn_RX_NEW1 => s.rxNew i 1
  | _ => s.reg a

/-- BNK and MPU; `i` is the bank or the master, `j` the region. -/
def State.viewMem (s : State) (t : RegTag) (i j a : Nat) : Word :=
  match t with
  | .BNK_BSTS => (s.reg a).setBit 3 (s.mirrored i)
  | .MPU_SYNC => w32 s.mp.gen
  | .MPU_BASE_LO => s.cw 7 i (3 * j)
  | .MPU_BASE_HI => s.cw 7 i (3 * j + 1)
  | .MPU_ATTR => s.regionAttr i j
  | _ => s.reg a

/-- REC, UPD and MBX. -/
def State.viewRest (s : State) (t : RegTag) (a : Nat) : Word :=
  match t with
  | .MBX_GLB_STS => s.mbxGlb
  | .REC_STS => s.recSts
  | .REC_SEQ_LO => w32 s.recd.seq
  | .REC_SEQ_HI => w32 (s.recd.seq / 2 ^ 32)
  | .REC_ELAPSED => s.recElapsed
  | .UPD_STS => s.updSts
  | .UPD_SECVER => s.updSecver
  | .UPD_FWREV_A => s.updFwrev 0
  | .UPD_FWREV_B => s.updFwrev 1
  | .UPD_SETFMT => s.updSetfmt
  | .UPD_XFER_STS => s.xferSts
  | _ => s.reg a

/-- What the register at an address shows, before latches and read effects. -/
def State.view (s : State) (d : RegDesc) (i j a : Nat) : Word :=
  (match a / 0x10000 with
  | 0x0 | 0x1 => s.viewSys d.tag a
  | 0x3 => s.viewTim d.tag i a
  | 0x4 => s.viewDat d.tag i a
  | 0x5 => s.viewStk d.tag i j a
  | 0x6 | 0x7 => s.viewTrv d.tag i j a
  | 0x8 | 0x9 => s.viewPlm d.tag i j a
  | 0xA => s.viewBlk d.tag i a
  | 0xC => s.viewPair d.tag a
  | 0xD => s.viewCh d.tag i j a
  | 0xE => s.viewCan d.tag i a
  | 0xF | 0x10 => s.viewMem d.tag i j a
  | 0x2 | 0x11 | 0x12 => s.viewRest d.tag a
  | _ => s.reg a) &&& d.live

end Sys2Proof.Machine
end

