-- ==== Sys2Proof/Machine/Access.lean ====
section
/-!
DEFINITION. Register access (02 R31-R45, R8, R11, R15-R17): which registers are present, latches, read effects, writes
and violations; and the commands that are accesses to one register.
-/
namespace Sys2Proof.Machine

/-! ### Presence (R3, R11, R15, R17) -/

/-- The MSI-X table and pending-bit array. -/
def msixReg (a : Nat) : Bool := (0x8000 ≤ a && a < 0x8400) || (0x9000 ≤ a && a < 0x9008)

/-- The order code has the register at an address, and master `m` may reach it. -/
def State.exists_ (s : State) (m a : Nat) : Bool :=
  match a / 0x10000 with
  | 0x0 => !pcieReg a || (s.order = .f && (!msixReg a || m = 0x42))
  | 0x3 => !(s.order = .s && 0x30480 ≤ a && a < 0x30500)
  | 0x6 => !(s.order = .s && 0x68000 ≤ a)
  | 0x9 => s.order = .f
  | 0xB => !(0xB0100 ≤ a && a < 0xB0100 + 30 * 0x20) || s.pairPresent ((a - 0xB0100) / 0x20)
  | 0xD => !(s.order = .s && ((0xD0800 ≤ a && a < 0xD1000) || (0xD1100 ≤ a && a < 0xD1200)))
  | 0xE => s.order ≠ .s
  | _ => decide (a < regEnd)

/-- The unit an address belongs to is present and powered, for master `m`. -/
def State.present (s : State) (m a : Nat) : Bool := s.exists_ m a && s.domainOn (regDomain a)

/-! ### Latches (R34, R35) -/

/-- The addresses that a read of a register captures for the reading master (R34, R76, R119, R131, R330, R351, R440). -/
def captured (t : RegTag) (a : Nat) : List Nat :=
  match t with
  | .SYS_SERIAL_LO | .SYS_VIOL_ADDR_LO | .SYS_SVC_MAC_LO | .TIM_INCR_LO | .TIM_STEP_LO | .TIM_GM_ID_LO | .TIM_CMPk_T_LO
  | .TIM_PORTn_TXQ_SEC_LO | .DAT_MOD_LO | .DAT_OFS_LO | .DAT_ENC_SCALE_LO | .DAT_ENC_STOPJ_LO | .DAT_PHASE_LO
  | .STK_LIVE_TGT_LO | .STK_HYSTd_LO | .TRV_MAC_LO | .TRV_GMAC_LO | .CMP_LAST_T_LO | .PAIR_LOSS_T_LO | .PAIR_H_LO
  | .BNK_LPD_UE_ADDR_LO | .MPU_IMP_ADDR_LO | .MPU_BASE_LO | .REC_SEQ_LO | .PWR_BKP_SEC_LO => [a + 4]
  | .STK_CAPk_NS | .FIk_EV_NS | .UPD_ACT_NS => [a + 4, a + 8]
  | .TIM_NOW_LO | .CANn_TSC_C => [a + 4, a + 8, a + 12]
  | .DAT_POS_LO => [a + 4, a + 8, a + 12, a + 16, a + 20, a + 24, a + 28]
  | _ => []

/-- The key of a latch: one for each register and master. -/
def latchKey (m a : Nat) : Nat := a * 256 + m % 256

/-- What an address shows now. -/
def State.viewAt (s : State) (a : Nat) : Word :=
  match regAt a with
  | some (d, i, j) => s.view d i j a
  | none => 0

/-- The captured registers take their present values into the master's latches. -/
def State.latch (s : State) (m : Nat) (as : List Nat) : State :=
  as.foldl (fun (s : State) b => { s with rlat := sput none s.rlat (latchKey m b) (some (s.viewAt b)) }) s

/-- The low half that master `m` wrote last; zero if it has written none since reset (R35). -/
def State.lowHalf (s : State) (m a : Nat) : Word := (sget none s.wlat (latchKey m a)).getD 0

/-- A write held in the master's write latch (R35). -/
def State.holdWrite (s : State) (m a : Nat) (v : Word) : State :=
  { s with wlat := sput none s.wlat (latchKey m a) (some v) }

/-! ### Reading -/

/-- Posted writes whose refusal has not been answered yet, of those `p` selects, are answered now, in their order. -/
def State.answerNotices (s : State) (p : Notice → Bool) : State :=
  let mine := s.mem.notices.filter p
  let rest := s.mem.notices.filter (fun n => !p n)
  let t := mine.foldl (fun (s : State) _ => s.imprecise) { s with mem := { s.mem with notices := mine } }
  { t with mem := { t.mem with notices := rest ++ t.mem.notices } }

/-- A performed read by master `m` (R8, R34): the value, and the state after the read's effects. -/
def State.readReg (s0 : State) (m : Nat) (d : RegDesc) (i j a : Nat) : Word × State :=
  let s := s0.vote a
  match d.tag with
  | .LCK_i => s.lockRead m i
  | .STK_CAPk_INFO => s.readCapInfo m i
  | .STK_CAPk_NS => (s.view d i j a, (s.latchCapture m i).latch m (captured d.tag a))
  | .MPU_SYNC => let t := s.answerNotices (fun _ => true); (t.view d i j a, t)
  | .BLK_WIN_DATA => (s.view d i j a, s.setRegF Reg.BLK_WIN_OFS 19 0 ((s.regF Reg.BLK_WIN_OFS 19 0 + 1) % 2 ^ 20))
  | .BLK_ILATE => (s.view d i j a, s.modInst (s.regF Reg.BLK_SEL 10 0) (fun x => { x with late := 0 }))
  | .BLK_IMAX => (s.view d i j a, s.modInst (s.regF Reg.BLK_SEL 10 0) (fun x => { x with maxClk := 0 }))
  | _ =>
    let s := if d.tag = .TRV_TX_FRAG then s.wire i else s
    let v := (sget none s.rlat (latchKey m a)).getD (s.view d i j a)
    let s := s.latch m (captured d.tag a)
    (v, if d.rc = 0 then s else s.setReg a ((s.reg a &&& ~~~d.rc) ||| (d.reset &&& d.rc)))

/-! ### Writing -/

/-- The interrupt vector whose status or enable register a tag is; none for the other registers. -/
def irqStatus (t : RegTag) (i : Nat) : Option Nat :=
  match t with
  | .SYS_IRQ_STS => some 0 | .MBX_STS => some (i + 1) | .PWR_IRQ_STS => some 17 | .TIM_IRQ_STS => some 18
  | .DAT_IRQ_STS => some 19 | .STK_IRQ_STS => some 20 | .TRV_IRQ_STS => some (21 + i) | .PLM_IRQ_STS => some 25
  | .BLK_IRQ_STS => some 26 | .CMP_IRQ_STS => some 27 | .PAIR_IRQ_STS => some 28 | .GRP_IRQ_STS => some (29 + i)
  | .CANn_IRQ_STS => some (31 + i) | .BNK_IRQ_STS => some 33 | .REC_IRQ_STS => some 34 | .UPD_IRQ_STS => some 35
  | _ => none

/-- The interrupt vector whose enable register a tag is. -/
def irqEnable (t : RegTag) (i : Nat) : Option Nat :=
  match t with
  | .SYS_IRQ_EN => some 0 | .MBX_IRQ_EN => some (i + 1) | .PWR_IRQ_EN => some 17 | .TIM_IRQ_EN => some 18
  | .DAT_IRQ_EN => some 19 | .STK_IRQ_EN => some 20 | .TRV_IRQ_EN => some (21 + i) | .PLM_IRQ_EN => some 25
  | .BLK_IRQ_EN => some 26 | .CMP_IRQ_EN => some 27 | .PAIR_IRQ_EN => some 28 | .GRP_IRQ_EN => some (29 + i)
  | .CANn_IRQ_EN => some (31 + i) | .BNK_IRQ_EN => some 33 | .REC_IRQ_EN => some 34 | .UPD_IRQ_EN => some 35
  | _ => none

/-- A register with no effect but what its access codes say (R8, R32): RW bits are stored, W1C bits cleared. -/
def State.plainWrite (s : State) (d : RegDesc) (i a : Nat) (v : Word) : State :=
  match irqStatus d.tag i, irqEnable d.tag i with
  | some vec, _ => s.clearSts vec d.w1c v
  | none, some vec => s.irqChange vec a (v &&& d.rw)
  | none, none => s.setReg a ((s.reg a &&& ~~~d.rw &&& ~~~(v &&& d.w1c)) ||| (v &&& d.rw))

/-- The registers that show the active configuration set: writes to them are ignored (R44). -/
def showsSet (t : RegTag) : Bool :=
  match t with
  | .DAT_CFG | .DAT_MOD_LO | .DAT_MOD_HI | .DAT_RATIO_NUM | .DAT_RATIO_DEN | .DAT_OFS_LO | .DAT_OFS_HI | .DAT_ENC_CFG
  | .DAT_ENC_ZVAL | .DAT_ENC_SCALE_LO | .DAT_ENC_SCALE_HI | .DAT_ENC_STOPJ_LO | .DAT_ENC_STOPJ_HI | .DAT_UP_CFG
  | .STK_LEADd_s | .STK_HYSTd_LO | .STK_HYSTd_HI | .STK_Wi | .TRV_ITEM0 | .TRV_ITEM1 | .TRV_QMAP | .TRV_PREEMPT | .TRV_VLAN
  | .TRV_GMAC_LO | .TRV_GMAC_HI | .TRV_UPSTN | .TRV_GCLg_GATES | .TRV_GCLg_DUR | .PLM_TASKn_BIND | .PLM_TASKn_PERIOD
  | .PLM_TASKn_PHASE | .PLM_TASKn_CODE | .PLM_TASKn_LEN | .PLM_TASKn_ENTRY | .PLM_TASKn_DEADLINE | .BLK_DIR_Wi | .CH_CFG
  | .CH_BIT | .CH_WORDS | .CH_SUBST | .CH_STSW | .GRP_ITEMi | .FIk_CFG | .FOk_CFG | .MPU_BASE_LO | .MPU_BASE_HI
  | .MPU_ATTR => true
  | _ => false

/-- A signed field that lies in a range. -/
def inRange (bits n : Nat) (lo hi : Int) : Bool := decide (lo ≤ signed bits n) && decide (signed bits n ≤ hi)

/-- The NX8 is not asked to check a value (R5): it is stored where it is good, and otherwise rule `rule` leaves the unit open. -/
def State.checked (s : State) (good : Bool) (rule : Nat) (d : RegDesc) (i a : Nat) (v : Word) : State :=
  if good then s.plainWrite d i a v else s.misused rule a

/-- Writes of SYS and PWR with an effect of their own. -/
def State.writeSys (s : State) (m : Nat) (d : RegDesc) (i a : Nat) (v : Word) : State :=
  match d.tag with
  | .SYS_VIOL_STS => if v.bit 0 then s.clearViol else s
  | .SYS_RST_REQ => s.rstReq v
  | .SYS_SVC_MAC_LO => s.holdWrite m a v
  | .SYS_SVC_MAC_HI => (s.setReg Reg.SYS_SVC_MAC_LO (s.lowHalf m Reg.SYS_SVC_MAC_LO)).setReg a v
  | .SYS_SVC_ETYPE => s.checked (0x600 ≤ v.fld 15 0) 48 d i a v
  | .MSIX_TABLE =>
    let vec := i / 4
    let t := s.plainWrite d i a v
    if i % 4 = 3 && s.regB a 0 && !v.bit 0 && t.pendingBit vec && t.pcieReady then
      (t.setRegB (Reg.MSIX_PBA (vec / 32)) (vec % 32) false).sendMsix vec
    else t
  | .PWR_START_CFG =>
    s.checked (1 ≤ v.fld 13 8 && v.fld 13 8 ≤ 60 && 1 ≤ v.fld 29 16 && v.fld 29 16 ≤ 10000) 416 d i a v
  | .PWR_DOM_REQ => s.domReq v
  | _ => s.plainWrite d i a v

/-- Writes of MBX. -/
def State.writeMbx (s : State) (d : RegDesc) (i a : Nat) (v : Word) : State :=
  match d.tag with
  | .MBX_POST => s.mbxPost i v
  | .MBX_TAKE => s.mbxTake i v
  | .MBX_DATAi => if 8 ≤ i then s else s.checked (!s.mbxGo i) 51 d i a v
  | .MBX_HRST => s.mbxHostReset i v
  | _ => s.plainWrite d i a v

/-- The target of comparator `i`, of its low half and its extension as master `m` wrote them last, takes effect with the high
half; a comparator that is due in this clock fires first (Table 4.3). -/
def State.writeTargetCmp (s : State) (m i a : Nat) (v : Word) : State :=
  let s := s.fireFirst i
  ((s.setReg (Reg.TIM_CMPk_T_LO i) (s.lowHalf m (Reg.TIM_CMPk_T_LO i))).setReg a v).setReg (Reg.TIM_CMPk_T_EXT i)
    (s.lowHalf m (Reg.TIM_CMPk_T_EXT i))

/-- Writes of TIM. A set-owned comparator takes IRQ only (R89). -/
def State.writeTim (s : State) (m : Nat) (d : RegDesc) (i a : Nat) (v : Word) : State :=
  let owned := s.regB (Reg.TIM_CMPk_CFG i) 1
  match d.tag with
  | .TIM_CTL => (s.plainWrite d i a v).ptpChanged s.ptpOn
  | .TIM_PTP_CFG => (s.plainWrite d i a v).selectMaster
  | .TIM_PORTn_CFG =>
    if inRange 4 (v.fld 7 4) (-7) 1 && v.fld 11 8 ≤ 3 && inRange 4 (v.fld 15 12) (-7) 5 then
      (s.plainWrite d i a v).ptpChanged s.ptpOn
    else s.misused 93 a
  | .TIM_INCR_LO => s.holdWrite m a v
  | .TIM_INCR_HI => s.writeIncr m (s.lowHalf m Reg.TIM_INCR_LO).toNat v
  | .TIM_STEP_LO => s.holdWrite m a v
  | .TIM_STEP_HI => s.writeStep m (s.lowHalf m Reg.TIM_STEP_LO).toNat v
  | .TIM_CMPk_CFG => s.writeCmpCfg i v
  | .TIM_CMPk_T_LO => if owned then s else s.holdWrite m a v
  | .TIM_CMPk_T_EXT => if owned then s else s.holdWrite m a v
  | .TIM_CMPk_T_HI => if owned then s else s.writeTargetCmp m i a v
  | .TIM_CMPk_PERIOD => if owned then s else s.checked (v.toNat = 0 || 1000 ≤ v.toNat) 87 d i a v
  | .TIM_CMPk_ACTION => if owned then s else s.plainWrite d i a v
  | .TIM_PORTn_TXQ_POP => s.txqPop i v
  | _ => s.plainWrite d i a v

/-- A write of W7 of entry `e` (R128): more than one of ARM, DISARM and RELOAD is not checked. -/
def State.writeW7 (s : State) (e : Nat) (v : Word) : State :=
  match v.fld 2 0 with
  | 0 => s
  | 1 => s.armEntry e
  | 2 => s.disarmEntry e
  | 4 => s.reloadEntry e
  | _ => s.misused 128 0x50000

/-- Writes of DAT, STK, TRV. -/
def State.writeLine (s : State) (m : Nat) (d : RegDesc) (i a : Nat) (v : Word) : State :=
  match d.tag with
  | .DAT_APP_CTL => if v.bit 0 then s.push i else s
  | .STK_LIVE_TGT_LO => s.holdWrite m a v
  | .STK_LIVE_TGT_HI =>
    s.writeTarget (s.regF Reg.STK_LIVE_SEL 11 0) (v.toNat * 2 ^ 32 + (s.lowHalf m Reg.STK_LIVE_TGT_LO).toNat)
  | .STK_W7 => s.writeW7 (s.windowEntry i) v
  | .TRV_CTL => s.trvCtl i v
  | .TRV_MAC_LO => s.holdWrite m a v
  | .TRV_MAC_HI => (s.setReg (Reg.TRV_MAC_LO i) (s.lowHalf m (Reg.TRV_MAC_LO i))).setReg a v
  | .TRV_SW_ETYPE => s.checked (0x600 ≤ v.fld 15 0 && v.fld 15 0 ≠ 0x88F7) 139 d i a v
  | _ => s.plainWrite d i a v

/-- A write of PLM_MODE_REQ by host software, which the automatic request of R418 yields to once start-up has ended. -/
def State.modeWrite (s : State) (v : Word) : State :=
  let t := s.modeReq (v.bit 0) (v.bit 1)
  { t with pwr := { t.pwr with hostMode := t.pwr.hostMode || t.pwr.ready } }

/-- Writes of PLM, CMP and PAIR. -/
def State.writePlm (s : State) (d : RegDesc) (i a : Nat) (v : Word) : State :=
  match d.tag with
  | .PLM_MODE_REQ => s.modeWrite v
  | .PLM_FIXED_CFG =>
    if 100 ≤ v.toNat && v.toNat ≤ 100000 then (s.plainWrite d i a v).record 0 [.register a v] else s.misused 203 a
  | .CMP_UNCH_W => s.checked (s.reg Reg.CMP_SPLIT_MAP = 0) 257 d i a v
  | .PAIR_GEN_CFG => s.checked (100 ≤ v.toNat && v.toNat ≤ 100000) 277 d i a v
  | .PAIR_MIRROR => s.checked (!s.regB Reg.PAIR_STS 1 || s.reg a = v) 281 d i a v
  | _ => s.plainWrite d i a v

/-- Writes of CH and CAN. -/
def State.writeCh (s : State) (d : RegDesc) (i j a : Nat) (v : Word) : State :=
  match d.tag with
  | .GRP_CTL => s.grpEnables i v.toNat (s.reg (Reg.GRP_CHEN i)).toNat
  | .GRP_CHEN => s.grpEnables i (s.reg (Reg.GRP_CTL i)).toNat v.toNat
  | .GRP_ACK => s.restoreAck i v
  | .FIk_EV_POP => s.fiPop i v
  | .CANn_CTL => s.canCtl i v
  | .CANn_NBT | .CANn_DBT => s.checked (s.canProg i = 0) 340 d i a v
  | .CANn_TSC_CAP => s.tscCap i v
  | .CANn_TX_PUSH => s.canPush i v
  | .CANn_CMD => s.canCmd i v
  | .CANn_TXE_POP => s.txePop i v
  | .CANn_RX_SEL => s.rxSel i v
  | .CANn_OBJk_ID => s.checked (!s.regB (Reg.CANn_OBJk_CFG i j) 0) 349 d i a v
  | _ => s.plainWrite d i a v

/-- An owner that BNK_OWN may be given: NONE, or a master ID that is issued and whose pair is not retired (R358). -/
def State.goodOwner (s : State) (id : Nat) : Bool := s.issued id && !(clusterOf id ≠ [] && s.cmpState (cmpIndex id) = 4)

/-- A write of BNK_OWN (R358): it waits until the writer's posted writes to the bank have been answered. -/
def State.writeOwner (s : State) (m n a : Nat) (v : Word) : State :=
  if !s.goodOwner (v.fld 7 0) then s.misused 358 a
  else
    let t := s.answerNotices (fun x => x.master = m && inSram x.addr && bankOf x.addr = n)
    (t.ownWrite m n v).getD t

/-- Writes of BNK, MPU, REC and UPD. -/
def State.writeMem (s : State) (m : Nat) (d : RegDesc) (i a : Nat) (v : Word) : State :=
  match d.tag with
  | .BNK_OWN => s.writeOwner m i a v
  | .BNK_CTL => (s.bankCtl m i v).getD s
  | .LCK_i => s.lockWrite m i v
  | .MPU_IMP_STS => if v.bit 0 then s.setReg a (s.reg a &&& ~~~(3 : Word)) else s
  | .REC_SEL => s.recSel v
  | .UPD_FLOOR_REQ => s.floorReq v
  | _ => s.plainWrite d i a v

/-- A write as the unit that holds the register takes it. -/
def State.writeUnit (s : State) (m : Nat) (d : RegDesc) (i j a : Nat) (v : Word) : State :=
  match a / 0x10000 with
  | 0x0 | 0x1 => s.writeSys m d i a v
  | 0x2 => s.writeMbx d i a v
  | 0x3 => s.writeTim m d i a v
  | 0x4 | 0x5 | 0x6 | 0x7 => s.writeLine m d i a v
  | 0x8 | 0x9 | 0xB | 0xC => s.writePlm d i a v
  | 0xD | 0xE => s.writeCh d i j a v
  | 0xF | 0x10 | 0x11 | 0x12 => s.writeMem m d i a v
  | _ => s.plainWrite d i a v

/-- The KIND of the violation that the unit decides on a write (R38): a step while STEP_USED is 1 (R78), and a write of
BNK_OWN or BNK_CTL that its master may not make (R358, R368). -/
def State.unitRefuses (s : State) (m : Nat) (d : RegDesc) (i : Nat) (v : Word) : Option Nat :=
  match d.tag with
  | .TIM_STEP_HI => if s.regB Reg.TIM_STS 1 then some 5 else none
  | .BNK_OWN => if (s.ownWrite m i v).isNone then some 2 else none
  | .BNK_CTL => if (s.bankCtl m i v).isNone then some 2 else none
  | _ => none

/-- A performed write by master `m`. A register that shows the active set ignores every write (R44). A non-zero value in a
reserved field is not checked (R7). -/
def State.writeReg (s : State) (m : Nat) (d : RegDesc) (i j a : Nat) (v : Word) : State :=
  if showsSet d.tag then s
  else if v &&& ~~~d.live ≠ 0 then s.misused 7 a
  else s.writeUnit m d i j a v

/-! ### One access (R31, R38-R40, R376) -/

/-- What comes of an access: it is performed, with the value read, or it gets the error response, for a violation or not. -/
inductive Access where
  | done (s : State) (value : Word)
  | refused (s : State) (violation : Bool)

/-- A violation of a register access. A PCIe write refused after the MPU, by the presence of the target or the ownership of a bank, is
answered late, as an imprecise notice (R379). -/
def State.refuse (s : State) (m kind : Nat) (write : Bool) (a : Nat) : Access :=
  if write && m = 0x42 && (kind = 2 || kind = 3) then
    .refused { s with mem := { s.mem with notices := s.mem.notices ++ [⟨m, kind, a, 2⟩] } } true
  else .refused (s.violation m kind write 2 a) true

/-- A write of a register that is present. An offset without a register takes no write (R16). -/
def State.writeAt (s : State) (m a : Nat) (v : Word) : Access :=
  match regAt a with
  | some (d, i, j) => match s.unitRefuses m d i v with
    | some k => s.refuse m k true a
    | none => .done (s.writeReg m d i j a v) 0
  | none => .done (s.misused 16 a) 0

/-- A read of a register that is present. An offset without a register reads zero (R16). -/
def State.readAt (s : State) (m a : Nat) : Access :=
  match regAt a with
  | some (d, i, j) => let (w, t) := s.readReg m d i j a; .done t w
  | none => .done s 0

/-- A narrow or misaligned access to a register: the unit is left open, and so is the value a read returns (R31, R5). -/
def State.narrow (s : State) (a : Nat) : Access := .done (s.misused 31 a) (w32 (Config.freeValue 13 s.free))

/-- The violation of an access to `n` bytes of register space: the MPU's first, then an absent or unpowered target (R376). -/
def State.barred (s : State) (m : Nat) (write : Bool) (a n : Nat) : Option (Nat × Nat) :=
  match s.mpuRefuses m (if write then 1 else 0) a n with
  | some b => some (1, b)
  | none => (((List.range n).map (fun k => a + k)).find? (fun b => !s.present m b)).map (fun b => (3, b))

/-- One 32-bit access by master `m`. Violations are decided before a misuse (R5). -/
def State.access (s : State) (m : Nat) (write : Bool) (a : Nat) (v : Word) : Access :=
  if inSram a || inLpd a then
    let (t, x) := s.memAccess m write a 4 (wordBytes v |>.map (BitVec.ofNat 8))
    match x with
    | .data bs => .done t (w32 (byteOf bs 0 + byteOf bs 1 * 2 ^ 8 + byteOf bs 2 * 2 ^ 16 + byteOf bs 3 * 2 ^ 24))
    | .violation _ _ => .refused t true
    | .error _ => .refused t false
  else match s.barred m write a 4 with
    | some (k, b) => s.refuse m k write b
    | none => if a % 4 ≠ 0 then s.narrow a else if write then s.writeAt m a v else s.readAt m a

/-- An access as a command of its own: the master receives the value read, or the error response (R39); a posted write that is refused is
answered by its imprecise notice. A master that issues no accesses makes none (R13, R17). -/
def State.single (s : State) (m : Nat) (write : Bool) (a : Nat) (v : Word) : State :=
  if !s.issues m then s
  else match s.access m write a v with
  | .done t w => if write then t else t.emit (.readData m a w)
  | .refused t _ => if t.mem.notices = s.mem.notices then t.errorAnswer m a write else t

/-! ### Accesses in the tables of same-clock orders -/

/-- What a write is to the tables. -/
def State.writeEvs (s : State) (m a : Nat) (v : Word) : List Ev :=
  match regAt a with
  | none => []
  | some (d, i, j) => match d.tag with
    | .MBX_POST => [⟨.mbxPost, i, 0⟩]
    | .MBX_TAKE => [⟨.mbxTake, i, 0⟩]
    | .MBX_HRST => [⟨.mbxReset, i, 0⟩]
    | .MBX_STS => if v &&& d.w1c = 0 then [] else [⟨.mbxClear, i, 0⟩]
    | .TIM_CTL => s.lockEvs (fun s => s.writeReg m d i j a v)
    | .TIM_PORTn_TXQ_POP => [⟨.txqPop, i, 0⟩]
    | .TIM_CMPk_CFG => if v.bit 0 then [] else [⟨.cmpOff, i, 0⟩]
    | .DAT_APP_CTL => s.pushEvs i
    | .STK_W7 => if v.fld 2 0 = 1 then [⟨.arm, s.windowEntry i, 0⟩] else if v.fld 2 0 = 2 then [⟨.disarm, s.windowEntry i, 0⟩] else []
    | .PLM_MODE_REQ => ⟨.modeWrite, 0, 0⟩ :: (if v.bit 1 then [⟨.modeFixed, 0, 0⟩] else [])
    | .GRP_ACK => [⟨.grpAck, i, 0⟩]
    | .GRP_CTL => if v.bit 0 then [] else [⟨.outOff, i, 0⟩]
    | .FIk_EV_POP => [⟨.fiPop, i, 0⟩]
    | .CANn_RX_SEL => [⟨.rxSel, i, v.fld 5 0⟩]
    | .CANn_TX_PUSH => [⟨.canPush, i, 0⟩]
    | .CANn_CMD => if v.fld 3 0 = 2 || v.fld 3 0 = 4 then [⟨.discard, i, 0⟩] else []
    | .CANn_TXE_POP => [⟨.txePop, i, 0⟩]
    | .LCK_i => [⟨.lockFree, i, 0⟩]
    | .BNK_OWN => [⟨.ownChange, i, 0⟩]
    | .BNK_CTL => if v.bit 0 then [⟨.retention, i, 0⟩] else []
    | _ => []

/-- What a read is to the tables. -/
def readEvs (a : Nat) : List Ev :=
  match regAt a with
  | none => []
  | some (d, i, _) => match d.tag with
    | .DAT_POS_LO => [⟨.posRead, i, 0⟩]
    | .LCK_i => [⟨.lockRead, i, 0⟩]
    | .MPU_SYNC => [⟨.mpuSync, 0, 0⟩]
    | _ => []

/-- What a 32-bit access by master `m` is to the tables. -/
def State.accessEvs (s : State) (m : Nat) (write : Bool) (a : Nat) (v : Word) : List Ev :=
  if inSram a || inLpd a then memEvs m write a 4
  else ⟨.access, m, 0⟩ :: (if write then s.writeEvs m a v else readEvs a)

/-- `dt` clocks pass, and master `m` reads an address. -/
def readAfter (dt m a : Nat) (s : State) : Answer :=
  afterEv dt ((s.advance dt).accessEvs m false a 0) s (fun s => s.single m false a 0)

/-- `dt` clocks pass, and master `m` writes an address. -/
def writeAfter (dt m a : Nat) (v : Word) (s : State) : Answer :=
  afterEv dt ((s.advance dt).accessEvs m true a v) s (fun s => s.single m true a v)

/-! ### The commands -/

/-- REGISTER_WRITE (R32). -/
def execRegisterWrite (dt m addr : Nat) (value : Word) (s : State) : Answer := writeAfter dt m addr value s
/-- LO_READ (R34). -/
def execLoRead (dt m addr : Nat) (s : State) : Answer := readAfter dt m addr s
/-- LO_WRITE (R35). -/
def execLoWrite (dt m addr : Nat) (value : Word) (s : State) : Answer := writeAfter dt m addr value s
/-- HI_WRITE (R35). -/
def execHiWrite (dt m addr : Nat) (value : Word) (s : State) : Answer := writeAfter dt m addr value s
/-- RC_READ (R8). -/
def execRcRead (dt m addr : Nat) (s : State) : Answer := readAfter dt m addr s
/-- VOTED_READ (R37): copies of the field have been upset by `x`, `y` and `z`. -/
def execVotedRead (dt m addr : Nat) (x y z : Word) (s : State) : Answer :=
  afterEv dt ((s.advance dt).accessEvs m false addr 0) s (fun s => (s.upset addr x y z).single m false addr 0)
/-- TMR_SCRUB (R37): upsets that have struck since the last vote, and the scrub. -/
def execTmrScrub (dt : Nat) (upsets : List (Nat × Word × Word × Word)) (s : State) : Answer :=
  after dt s (fun s => (upsets.foldl (fun (s : State) u => s.upset u.1 u.2.1 u.2.2.1 u.2.2.2) s).scrubVotes)
/-- VIOL_CLEAR (R41). -/
def execViolClear (dt m : Nat) (s : State) : Answer := writeAfter dt m Reg.SYS_VIOL_STS 1 s
/-- MODULE_RESET_REQUEST (R412). -/
def execModuleResetRequest (dt m : Nat) (value : Word) (s : State) : Answer := writeAfter dt m Reg.SYS_RST_REQ value s
/-- MBX_POST (R51). -/
def execMbxPost (dt m n : Nat) (value : Word) (s : State) : Answer := writeAfter dt m (Reg.MBX_POST n) value s
/-- MBX_TAKE (R55). -/
def execMbxTake (dt m n : Nat) (value : Word) (s : State) : Answer := writeAfter dt m (Reg.MBX_TAKE n) value s
/-- MBX_HRST (R57). -/
def execMbxHrst (dt m n : Nat) (value : Word) (s : State) : Answer := writeAfter dt m (Reg.MBX_HRST n) value s
/-- TIM_INCR_WRITE (R77). -/
def execTimIncrWrite (dt m : Nat) (value : Word) (s : State) : Answer := writeAfter dt m Reg.TIM_INCR_HI value s
/-- TIM_STEP_ARM (R78, R79). -/
def execTimStepArm (dt m : Nat) (value : Word) (s : State) : Answer := writeAfter dt m Reg.TIM_STEP_HI value s
/-- TIM_NOW_READ (R76). -/
def execTimNowRead (dt m : Nat) (s : State) : Answer := readAfter dt m Reg.TIM_NOW_LO s
/-- TXQ_POP (R86). -/
def execTxqPop (dt m n : Nat) (value : Word) (s : State) : Answer := writeAfter dt m (Reg.TIM_PORTn_TXQ_POP n) value s
/-- DAT_APP_PUSH (R104). -/
def execDatAppPush (dt m d : Nat) (value : Word) (s : State) : Answer := writeAfter dt m (Reg.DAT_APP_CTL d) value s
/-- ARM (R128): W7.ARM of slot `j` of the table window. -/
def execArm (dt m j : Nat) (s : State) : Answer := writeAfter dt m (Reg.STK_W7 j) 1 s
/-- DISARM (R128). -/
def execDisarm (dt m j : Nat) (s : State) : Answer := writeAfter dt m (Reg.STK_W7 j) 2 s
/-- RELOAD (R128). -/
def execReload (dt m j : Nat) (s : State) : Answer := writeAfter dt m (Reg.STK_W7 j) 4 s
/-- STK_CAP_INFO_READ (R131). -/
def execStkCapInfoRead (dt m k : Nat) (s : State) : Answer := readAfter dt m (Reg.STK_CAPk_INFO k) s
/-- DISCOVER (R158). -/
def execDiscover (dt m n : Nat) (value : Word) (s : State) : Answer := writeAfter dt m (Reg.TRV_CTL n) value s
/-- MODE_REQ_TASK (R204). -/
def execModeReqTask (dt m : Nat) (s : State) : Answer := writeAfter dt m Reg.PLM_MODE_REQ 1 s
/-- MODE_REQ_FIXED (R204). -/
def execModeReqFixed (dt m : Nat) (s : State) : Answer := writeAfter dt m Reg.PLM_MODE_REQ 2 s
/-- RESTORE_ACK (R319). -/
def execRestoreAck (dt m g : Nat) (value : Word) (s : State) : Answer := writeAfter dt m (Reg.GRP_ACK g) value s
/-- OUT_EN (R319). -/
def execOutEn (dt m g : Nat) (value : Word) (s : State) : Answer := writeAfter dt m (Reg.GRP_CTL g) value s
/-- FI_EV_POP (R330). -/
def execFiEvPop (dt m k : Nat) (value : Word) (s : State) : Answer := writeAfter dt m (Reg.FIk_EV_POP k) value s
/-- CAN_MODE_WRITE (R341). -/
def execCanModeWrite (dt m n : Nat) (value : Word) (s : State) : Answer := writeAfter dt m (Reg.CANn_CTL n) value s
/-- CAN_TX_PUSH (R343). -/
def execCanTxPush (dt m n : Nat) (value : Word) (s : State) : Answer := writeAfter dt m (Reg.CANn_TX_PUSH n) value s
/-- CAN_RX_SEL (R350). -/
def execCanRxSel (dt m n : Nat) (value : Word) (s : State) : Answer := writeAfter dt m (Reg.CANn_RX_SEL n) value s
/-- TXE_POP (R346). -/
def execTxePop (dt m n : Nat) (value : Word) (s : State) : Answer := writeAfter dt m (Reg.CANn_TXE_POP n) value s
/-- RELEASE (R348). -/
def execCanRelease (dt m n : Nat) (s : State) : Answer := writeAfter dt m (Reg.CANn_CMD n) 1 s
/-- DISCARD (R348). -/
def execCanDiscard (dt m n : Nat) (s : State) : Answer := writeAfter dt m (Reg.CANn_CMD n) 2 s
/-- FLUSH (R348). -/
def execCanFlush (dt m n : Nat) (s : State) : Answer := writeAfter dt m (Reg.CANn_CMD n) 4 s
/-- RECOVER (R353). -/
def execCanRecover (dt m n : Nat) (s : State) : Answer := writeAfter dt m (Reg.CANn_CMD n) 8 s
/-- CAN_TSC_CAP (R351). -/
def execCanTscCap (dt m n : Nat) (value : Word) (s : State) : Answer := writeAfter dt m (Reg.CANn_TSC_CAP n) value s
/-- BNK_OWN_WRITE (R358). -/
def execBnkOwnWrite (dt m n : Nat) (value : Word) (s : State) : Answer := writeAfter dt m (Reg.BNK_OWN n) value s
/-- BANK_RETENTION (R368). -/
def execBankRetention (dt m n : Nat) (value : Word) (s : State) : Answer := writeAfter dt m (Reg.BNK_CTL n) value s
/-- BANK_WAKE (R368). -/
def execBankWake (dt m n : Nat) (value : Word) (s : State) : Answer := writeAfter dt m (Reg.BNK_CTL n) value s
/-- LCK_READ (R369). -/
def execLckRead (dt m i : Nat) (s : State) : Answer := readAfter dt m (Reg.LCK_i i) s
/-- LOCK_RELEASE (R370). -/
def execLockRelease (dt m i : Nat) (value : Word) (s : State) : Answer := writeAfter dt m (Reg.LCK_i i) value s
/-- LOCK_FORCE (R370). -/
def execLockForce (dt m i : Nat) (value : Word) (s : State) : Answer := writeAfter dt m (Reg.LCK_i i) value s
/-- MPU_SYNC (R380). -/
def execMpuSync (dt m : Nat) (s : State) : Answer := readAfter dt m Reg.MPU_SYNC s
/-- REC_SEL (R396). -/
def execRecSel (dt m : Nat) (value : Word) (s : State) : Answer := writeAfter dt m Reg.REC_SEL value s
/-- PWR_DOM_REQ (R405). -/
def execPwrDomReq (dt m : Nat) (value : Word) (s : State) : Answer := writeAfter dt m Reg.PWR_DOM_REQ value s
/-- FLOOR_REQUEST (R437). -/
def execFloorRequest (dt m : Nat) (value : Word) (s : State) : Answer := writeAfter dt m Reg.UPD_FLOOR_REQ value s

end Sys2Proof.Machine
end

