-- ==== Sys2Proof/Machine/Host.lean ====
section
/-!
DEFINITION. The host paths (02 R20-R30, 07 R157): the PCIe endpoint and its TLPs, MSI-X unmasking, and remote register
access on the service port and on Traverse.
-/
namespace Sys2Proof.Machine

/-! ### PCIe (R21-R26) -/

/-- The one physical function (Table 2.2): its class code and device ID, the sizes of its BARs, and the longest payload and read
request. The configuration space holds them; no command reads it (log 42). -/
def pcieClassCode : Nat := 0x118000
def pcieDeviceId : Nat := 0x0808
def bar0Size : Nat := 32 * 2 ^ 20
def bar2Size : Nat := 64 * 2 ^ 20
def maxPayload : Nat := 256
def maxReadRequest : Nat := 512

/-- The accesses of a run of registers in ascending order: the internal address of each and the bytes of the data it carries. -/
def tlpWords (base offset len : Nat) (data : List Byte) : List (Nat × Word) :=
  (List.range (len / 4)).map (fun k =>
    (base + offset + 4 * k, w32 (byteOf data (4 * k) + byteOf data (4 * k + 1) * 2 ^ 8 + byteOf data (4 * k + 2) * 2 ^ 16 +
      byteOf data (4 * k + 3) * 2 ^ 24)))

/-- What became of a run of accesses: the state, the words read in order, and, where the run stopped, whether a violation
stopped it. -/
abbrev Run := State × List Word × Option Bool

/-- The accesses performed one after the other, up to the first that is refused (R24, R28). -/
def State.run (s : State) (m : Nat) (write : Bool) : List (Nat × Word) → List Word → Run
  | [], got => (s, got, none)
  | (a, v) :: rest, got =>
    match s.access m write a v with
    | .done t w => t.run m write rest (got ++ [w])
    | .refused t x => (t, got, some x)

/-- A TLP to registers covers whole registers: the result of any other size or alignment is unpredictable (R31). -/
def tlpGood (offset len : Nat) : Bool := offset % 4 = 0 && len % 4 = 0

/-- The PCIe endpoint is in the module and powered. -/
def State.pcieThere (s : State) : Bool := s.order = .f && s.domainOn 6

/-- The end of a TLP: a read completes with its data, or with Completer Abort, which is counted and reported as advisory
(Table 2.6); of a refused write the rest is dropped. -/
def State.completeTlp (s : State) (write : Bool) (data : Option (List Byte)) : State :=
  if write then s
  else match data with
    | some bs => s.emit (.pcieCompletion (some bs))
    | none => ((s.countF Reg.SYS_PCIE_ERR 15 0 1).emit (.pcieCompletion none)).emit .pcieAdvisory

/-- A TLP of more than 8 bytes that bursts can carry (R362). -/
def burstGood (addr len : Nat) : Bool := addr % 8 = 0 && len % 8 = 0 && addr / 4096 = (addr + len - 1) / 4096

/-- The accesses to SRAM of a TLP through BAR2: one access of up to 8 bytes (R361), or bursts of at most 256 bytes (R362). -/
def sramSpans (addr len : Nat) : List (Nat × Nat) :=
  if 8 < len && burstGood addr len then
    (List.range ((len + 255) / 256)).map (fun k => (addr + 256 * k, min 256 (len - 256 * k)))
  else [(addr, len)]

/-- The registers a TLP touches, whole or in part. -/
def tlpTouches (offset len : Nat) : List Nat :=
  (List.range ((offset + len + 3) / 4 - offset / 4)).map (fun k => (offset / 4 + k) * 4)

/-- The spans of a TLP in SRAM, one after the other, up to the first that is refused; the bytes read. -/
def State.runSram (s : State) (write : Bool) (first : Nat) (data : List Byte) : List (Nat × Nat) → List Byte → State × Option (List Byte)
  | [], got => (s, some got)
  | (a, n) :: rest, got =>
    match s.memAccess 0x42 write a n ((data.drop (a - first)).take n) with
    | (t, .data bs) => t.runSram write first data rest (got ++ bs)
    | (t, _) => (t, none)

/-- Bytes that a read delivers whose value is open (R5). -/
def State.anyBytes (s : State) (n : Nat) : List Byte :=
  (List.range n).map (fun k => BitVec.ofNat 8 (Config.freeValue 13 (s.free * 1024 + k)))

/-- A TLP through BAR2: a span that no burst can carry is a misuse where no check refuses it. -/
def State.tlpSram (s : State) (write : Bool) (addr len : Nat) (data : List Byte) : State :=
  if 8 < len && !burstGood addr len && s.memViolation 0x42 write addr len = none then
    (s.misusedMemory 362).completeTlp write (some (s.anyBytes len))
  else
    let (t, bs) := s.runSram write addr data (sramSpans addr len) []
    t.completeTlp write bs

/-- A TLP through BAR0: one that covers parts of registers is a misuse where no check refuses it (R31). -/
def State.tlpRegs (s : State) (write : Bool) (offset len : Nat) (data : List Byte) : State :=
  if tlpGood offset len then
    let (t, ws, stop) := s.run 0x42 write (tlpWords 0 offset len data) []
    t.completeTlp write (if stop = none then some (ws.flatMap wordBytes |>.map (BitVec.ofNat 8)) else none)
  else match s.barred 0x42 write offset len with
    | some (k, b) => match s.refuse 0x42 k write b with
      | .refused t _ => t.completeTlp write none
      | .done t _ => t
    | none => ((tlpTouches offset len).foldl (fun s a => s.misused 31 a) s).completeTlp write (some (s.anyBytes len))

/-- A TLP from the PCIe host (R21, R24): one outside the BARs or longer than the function takes does not reach it. -/
def State.tlp (s : State) (write bar2 : Bool) (offset len : Nat) (data : List Byte) : State :=
  if !s.pcieThere || (if bar2 then bar2Size else bar0Size) < offset + len || (if write then maxPayload else maxReadRequest) < len then s
  else if bar2 then s.tlpSram write (sramBase + offset) len data
  else s.tlpRegs write offset len data

/-- What a TLP is to the tables of same-clock orders. -/
def State.tlpEvs (s : State) (write bar2 : Bool) (offset len : Nat) (data : List Byte) : List Ev :=
  if bar2 then memEvs 0x42 write (sramBase + offset) len
  else (tlpWords 0 offset len data).flatMap (fun e => s.accessEvs 0x42 write e.1 e.2)

/-- The reset of the PCIe endpoint (R23): its configuration, the link state it reports, the MSI-X table and its pending
bits. -/
def State.perst (s : State) : State :=
  let s := (s.setReg Reg.SYS_PCIE_STS 0).setReg Reg.SYS_PCIE_ERR 0
  let s := (List.range 256).foldl (fun (s : State) i => s.setReg (Reg.MSIX_TABLE i) (regReset (Reg.MSIX_TABLE i))) s
  (s.setReg (Reg.MSIX_PBA 0) 0).setReg (Reg.MSIX_PBA 1) 0

/-- Every unmasked vector whose pending bit is set sends its message once (R26). -/
def State.sendPending (s : State) : State :=
  (List.range 64).foldl (fun (s : State) v =>
    if s.pcieReady && s.pendingBit v && !s.masked v then (s.setRegB (Reg.MSIX_PBA (v / 32)) (v % 32) false).sendMsix v else s) s

/-- The link trains at Gen1 to Gen4 and at x1, x2 or x4, or goes down (R21): a link that is down has no speed and no width, and
BME is cleared with it. -/
def State.pcieLink (s : State) (up : Bool) (speed width : Nat) : State :=
  if !s.pcieThere then s
  else if !up then s.setReg Reg.SYS_PCIE_STS 0
  else if speed = 0 || 4 < speed || !(width = 1 || width = 2 || width = 4) then s
  else
    (s.setReg Reg.SYS_PCIE_STS (w32 (1 + speed * 2 + width * 16 + 128 * ofBool (s.regB Reg.SYS_PCIE_STS 7)))).sendPending

/-- The PCIe host sets or clears bus master enable. -/
def State.bme (s : State) (on : Bool) : State :=
  if !s.pcieThere then s else (s.setRegB Reg.SYS_PCIE_STS 7 on).sendPending

/-! ### Remote register access (R27-R30, R157) -/

/-- A request as its payload gives it; bytes the request does not hold are zero. -/
structure RraReq where
  op    : Nat
  count : Nat
  tag   : Nat
  addr  : Nat
  data  : List Byte
  len   : Nat
deriving DecidableEq, Repr

/-- Table 2.4. -/
def rraReq (p : List Byte) : RraReq :=
  { op := byteOf p 0, count := byteOf p 1, tag := leAt p 2 2, addr := leAt p 4 5, data := p.drop 12, len := p.length }

/-- The bytes a request requires. -/
def RraReq.needs (r : RraReq) : Nat := if r.op = 2 then 12 + 4 * r.count else 12

/-- Nothing is performed of a request that is malformed. -/
def RraReq.malformed (r : RraReq) : Bool :=
  !(r.op = 1 || r.op = 2) || r.count = 0 || decide (64 < r.count) || decide (r.addr % 4 ≠ 0) || decide (r.len < r.needs)

/-- The response: the head copied from the request, STATUS, FAIL_INDEX, and the data of a read of 1 to 64 registers. -/
def rraResponse (r : RraReq) (status fail : Nat) (words : List Word) : List Byte :=
  let head := leBytes 1 (if r.op < 128 then r.op + 128 else r.op) ++ leBytes 1 r.count ++ leBytes 2 r.tag ++ leBytes 5 r.addr ++
    leBytes 1 status ++ leBytes 1 fail ++ leBytes 1 0
  let data := (words ++ List.replicate 64 (0 : Word)).take r.count
  if r.op = 1 && 1 ≤ r.count && r.count ≤ 64 then head ++ (data.flatMap wordBytes).map (BitVec.ofNat 8) else head

/-- A request that is answered with a STATUS that is not OK is counted. -/
def State.countDrop (s : State) (status : Nat) : State := if status = 0 then s else s.count Reg.SYS_RRA_DROP

/-- A request of master `m` is handled (R28): the state, and the response. -/
def State.rra (s : State) (m : Nat) (enabled : Bool) (p : List Byte) : State × List Byte :=
  let r := rraReq p
  if !enabled then (s.countDrop 2, rraResponse r 2 0 [])
  else if r.malformed then (s.countDrop 3, rraResponse r 3 0 [])
  else match s.run m (r.op = 2) (tlpWords 0 r.addr (4 * r.count) r.data) [] with
    | (t, ws, none) => (t, rraResponse r 0 r.count ws)
    | (t, ws, some v) =>
      let st := if v then 1 else 4
      (t.countDrop st, rraResponse r st ws.length ws)

/-- What a request that is performed is to the tables of same-clock orders. -/
def State.rraEvs (s : State) (m : Nat) (p : List Byte) : List Ev :=
  let r := rraReq p
  if r.malformed then []
  else (tlpWords 0 r.addr (4 * r.count) r.data).flatMap (fun e => s.accessEvs m (r.op = 2) e.1 e.2)

/-- A request on the service port (R30): addressed to SYS_SVC_MAC, with the EtherType of SYS_SVC_ETYPE. -/
def State.svcRequest (s : State) (dst etype mac : Nat) (p : List Byte) : State :=
  if !s.svcTakes dst etype || s.pwr.recovery then s
  else
    let (t, bs) := s.rra 0x43 (s.regB Reg.SYS_RRA_CTL 4) p
    t.emit (.serviceResponse mac bs)

/-- A REGACC frame on line port `n` (R157): performed where DST and SLOT are the module's own, whatever its epoch. The
response goes to the requester, at its source address and its MAC address. -/
def State.regaccRx (s : State) (n : Nat) (h : Hdr) (mac : Nat) (p : List Byte) : State :=
  if !s.hasPort n || !s.regB (Reg.TRV_STS n) 0 then s
  else
    let s := s.received n h.vid.isSome (20 + p.length)
    if h.etype ≠ s.regF Reg.TRV_SW_ETYPE 15 0 then s.count Reg.TRV_SW_DROP
    else if !s.tagOk n h then s
    else if h.ver ≠ 1 then s.count (Reg.TRV_RX_BAD n)
    else if h.dst ≠ s.ownAddr || h.slot ≠ s.slotId then s
    else
      let (t, bs) := s.rra 0x40 (s.regB Reg.SYS_RRA_CTL n) p
      t.queueTo n mac (t.ownHdr n h.src false (.regacc mac bs)) (.regacc mac bs)

/-! ### The commands -/

/-- PCIE_TLP. -/
def execPcieTlp (dt : Nat) (write bar2 : Bool) (offset len : Nat) (data : List Byte) (s : State) : Answer :=
  afterEv dt ((s.advance dt).tlpEvs write bar2 offset len data) s (fun s => s.tlp write bar2 offset len data)
/-- PERST_RESET. -/
def execPerstReset (dt : Nat) (s : State) : Answer := after dt s (fun s => if s.pcieThere then s.perst else s)
/-- PCIE_LINK_CHANGE. -/
def execPcieLinkChange (dt : Nat) (up : Bool) (speed width : Nat) (s : State) : Answer :=
  after dt s (fun s => s.pcieLink up speed width)
/-- BME_SET. -/
def execBmeSet (dt : Nat) (on : Bool) (s : State) : Answer := after dt s (fun s => s.bme on)
/-- The PCIe host clears the mask bit of vector `v` in the MSI-X table. -/
def State.unmask (s : State) (v : Nat) : State :=
  s.single 0x42 true (Reg.MSIX_TABLE (4 * v + 3)) ((s.reg (Reg.MSIX_TABLE (4 * v + 3))).setBit 0 false)
/-- MSIX_VECTOR_UNMASK. -/
def execMsixVectorUnmask (dt v : Nat) (s : State) : Answer :=
  afterEv dt [⟨.access, 0x42, 0⟩] s (fun s => s.unmask v)
/-- REMOTE_REGISTER_ACCESS. -/
def execRemoteRegisterAccess (dt dst etype mac : Nat) (payload : List Byte) (s : State) : Answer :=
  afterEv dt ((s.advance dt).rraEvs 0x43 payload) s (fun s => s.svcRequest dst etype mac payload)
/-- REGACC. -/
def execRegacc (dt port : Nat) (hdr : Hdr) (mac : Nat) (payload : List Byte) (s : State) : Answer :=
  afterEv dt ((s.advance dt).rraEvs 0x40 payload) s (fun s => s.regaccRx port hdr mac payload)
/-- SERVICE_LINK_CHANGE. -/
def execServiceLinkChange (dt : Nat) (up : Bool) (s : State) : Answer := after dt s (fun s => s.setRegB Reg.SYS_SVC_STS 0 up)

end Sys2Proof.Machine
end

