-- ==== Sys2Proof/Machine/Dispatch.lean ====
section
/-!
DEFINITION. The dispatch: one arm for each command of the table, each a direct call of its meaning.
-/
namespace Sys2Proof.Machine

/-- The effect of a command on everything but the queue. -/
def exec (i : Instr) (s : State) : Host.Outcome State Fault Refusal :=
  match i with
  | .pcieTlp dt write bar2 offset len data => Sys2Proof.Machine.execPcieTlp dt write bar2 offset len data s
  | .perstReset dt => Sys2Proof.Machine.execPerstReset dt s
  | .pcieLinkChange dt up speed width => Sys2Proof.Machine.execPcieLinkChange dt up speed width s
  | .bmeSet dt on => Sys2Proof.Machine.execBmeSet dt on s
  | .msixVectorUnmask dt v => Sys2Proof.Machine.execMsixVectorUnmask dt v s
  | .regacc dt port hdr mac payload => Sys2Proof.Machine.execRegacc dt port hdr mac payload s
  | .remoteRegisterAccess dt dst etype mac payload => Sys2Proof.Machine.execRemoteRegisterAccess dt dst etype mac payload s
  | .registerWrite dt m addr value => Sys2Proof.Machine.execRegisterWrite dt m addr value s
  | .loRead dt m addr => Sys2Proof.Machine.execLoRead dt m addr s
  | .loWrite dt m addr value => Sys2Proof.Machine.execLoWrite dt m addr value s
  | .hiWrite dt m addr value => Sys2Proof.Machine.execHiWrite dt m addr value s
  | .rcRead dt m addr => Sys2Proof.Machine.execRcRead dt m addr s
  | .tmrScrub dt upsets => Sys2Proof.Machine.execTmrScrub dt upsets s
  | .violClear dt m => Sys2Proof.Machine.execViolClear dt m s
  | .moduleResetRequest dt m value => Sys2Proof.Machine.execModuleResetRequest dt m value s
  | .mbxPost dt m n value => Sys2Proof.Machine.execMbxPost dt m n value s
  | .mpTake dt => Sys2Proof.Machine.execMpTake dt s
  | .mpPostResponse dt post => Sys2Proof.Machine.execMpPostResponse dt post s
  | .mbxTake dt m n value => Sys2Proof.Machine.execMbxTake dt m n value s
  | .mbxHrst dt m n value => Sys2Proof.Machine.execMbxHrst dt m n value s
  | .mpRestartBegin dt => Sys2Proof.Machine.execMpRestartBegin dt s
  | .mpReady dt => Sys2Proof.Machine.execMpReady dt s
  | .longCommandComplete dt n found => Sys2Proof.Machine.execLongCommandComplete dt n found s
  | .ident dt n => Sys2Proof.Machine.execIdent dt n s
  | .statusGet dt n => Sys2Proof.Machine.execStatusGet dt n s
  | .echo dt n => Sys2Proof.Machine.execEcho dt n s
  | .cfgOpen dt n => Sys2Proof.Machine.execCfgOpen dt n s
  | .cfgClose dt n => Sys2Proof.Machine.execCfgClose dt n s
  | .cfgAbandon dt n => Sys2Proof.Machine.execCfgAbandon dt n s
  | .cfgCopy dt n => Sys2Proof.Machine.execCfgCopy dt n s
  | .cfgWrite dt n => Sys2Proof.Machine.execCfgWrite dt n s
  | .cfgRead dt n => Sys2Proof.Machine.execCfgRead dt n s
  | .cfgBulk dt n => Sys2Proof.Machine.execCfgBulk dt n s
  | .cfgCheck dt n => Sys2Proof.Machine.execCfgCheck dt n s
  | .cfgSwap dt n => Sys2Proof.Machine.execCfgSwap dt n s
  | .cfgSwapApply dt => Sys2Proof.Machine.execCfgSwapApply dt s
  | .cfgSwapCancel dt n => Sys2Proof.Machine.execCfgSwapCancel dt n s
  | .cfgStatus dt n => Sys2Proof.Machine.execCfgStatus dt n s
  | .prgInfo dt n => Sys2Proof.Machine.execPrgInfo dt n s
  | .prgLoadBegin dt n => Sys2Proof.Machine.execPrgLoadBegin dt n s
  | .prgLoadBlock dt n => Sys2Proof.Machine.execPrgLoadBlock dt n s
  | .prgLoadEnd dt n => Sys2Proof.Machine.execPrgLoadEnd dt n s
  | .valRead dt n => Sys2Proof.Machine.execValRead dt n s
  | .valWrite dt n => Sys2Proof.Machine.execValWrite dt n s
  | .constWrite dt n => Sys2Proof.Machine.execConstWrite dt n s
  | .constApply dt p => Sys2Proof.Machine.execConstApply dt p s
  | .lpdRead dt n => Sys2Proof.Machine.execLpdRead dt n s
  | .lpdWrite dt n => Sys2Proof.Machine.execLpdWrite dt n s
  | .frcSet dt n => Sys2Proof.Machine.execFrcSet dt n s
  | .frcRelease dt n => Sys2Proof.Machine.execFrcRelease dt n s
  | .frcReleaseAll dt n => Sys2Proof.Machine.execFrcReleaseAll dt n s
  | .frcList dt n => Sys2Proof.Machine.execFrcList dt n s
  | .datStatus dt n => Sys2Proof.Machine.execDatStatus dt n s
  | .datStop dt n => Sys2Proof.Machine.execDatStop dt n s
  | .stkStatus dt n => Sys2Proof.Machine.execStkStatus dt n s
  | .stkCancelAll dt n => Sys2Proof.Machine.execStkCancelAll dt n s
  | .chStatus dt n => Sys2Proof.Machine.execChStatus dt n s
  | .chRevive dt n => Sys2Proof.Machine.execChRevive dt n s
  | .chTrimCapture dt n => Sys2Proof.Machine.execChTrimCapture dt n s
  | .chTrimClear dt n => Sys2Proof.Machine.execChTrimClear dt n s
  | .chPulseTest dt n => Sys2Proof.Machine.execChPulseTest dt n s
  | .pairStatus dt n => Sys2Proof.Machine.execPairStatus dt n s
  | .pairExchange dt n => Sys2Proof.Machine.execPairExchange dt n s
  | .pairHandover dt n => Sys2Proof.Machine.execPairHandover dt n s
  | .pairCancel dt n => Sys2Proof.Machine.execPairCancel dt n s
  | .pairWithdraw dt n => Sys2Proof.Machine.execPairWithdraw dt n s
  | .pairResync dt n => Sys2Proof.Machine.execPairResync dt n s
  | .recInfo dt n => Sys2Proof.Machine.execRecInfo dt n s
  | .recPeriod dt n => Sys2Proof.Machine.execRecPeriod dt n s
  | .recCopy dt n => Sys2Proof.Machine.execRecCopy dt n s
  | .updStatus dt n => Sys2Proof.Machine.execUpdStatus dt n s
  | .updSchedule dt n => Sys2Proof.Machine.execUpdSchedule dt n s
  | .updCancel dt n => Sys2Proof.Machine.execUpdCancel dt n s
  | .updChain dt n => Sys2Proof.Machine.execUpdChain dt n s
  | .selftestFull dt n => Sys2Proof.Machine.execSelftestFull dt n s
  | .diagCounters dt n => Sys2Proof.Machine.execDiagCounters dt n s
  | .cmpSplit dt n => Sys2Proof.Machine.execCmpSplit dt n s
  | .cmpJoin dt n => Sys2Proof.Machine.execCmpJoin dt n s
  | .mpRestart dt n => Sys2Proof.Machine.execMpRestart dt n s
  | .ptpSecondCarry => Sys2Proof.Machine.execPtpSecondCarry s
  | .timIncrWrite dt m value => Sys2Proof.Machine.execTimIncrWrite dt m value s
  | .timStepArm dt m value => Sys2Proof.Machine.execTimStepArm dt m value s
  | .timNowRead dt m => Sys2Proof.Machine.execTimNowRead dt m s
  | .servoUpdate dt => Sys2Proof.Machine.execServoUpdate dt s
  | .holdover dt => Sys2Proof.Machine.execHoldover dt s
  | .sync dt port seq twoStep domain origin correction => Sys2Proof.Machine.execSync dt port seq twoStep domain origin correction s
  | .followUp dt port seq domain origin correction => Sys2Proof.Machine.execFollowUp dt port seq domain origin correction s
  | .delayReq dt port seq domain requester => Sys2Proof.Machine.execDelayReq dt port seq domain requester s
  | .delayResp dt port seq domain receipt correction => Sys2Proof.Machine.execDelayResp dt port seq domain receipt correction s
  | .pdelayReq dt port seq domain requester => Sys2Proof.Machine.execPdelayReq dt port seq domain requester s
  | .pdelayResp dt port seq domain receipt correction => Sys2Proof.Machine.execPdelayResp dt port seq domain receipt correction s
  | .pdelayRespFollowUp dt port seq domain origin correction => Sys2Proof.Machine.execPdelayRespFollowUp dt port seq domain origin correction s
  | .announce dt port domain prio1 cls accuracy variance prio2 gmId way => Sys2Proof.Machine.execAnnounce dt port domain prio1 cls accuracy variance prio2 gmId way s
  | .signaling dt rx logSync logAnn logDelay => Sys2Proof.Machine.execSignaling dt rx logSync logAnn logDelay s
  | .managementMessage dt port => Sys2Proof.Machine.execManagementMessage dt port s
  | .ptpMessageSend dt port kind => Sys2Proof.Machine.execPtpMessageSend dt port kind s
  | .txqPop dt m n value => Sys2Proof.Machine.execTxqPop dt m n value s
  | .comparatorFire dt k => Sys2Proof.Machine.execComparatorFire dt k s
  | .segmentEnd dt d => Sys2Proof.Machine.execSegmentEnd dt d s
  | .segmentStart dt d => Sys2Proof.Machine.execSegmentStart dt d s
  | .datumStopped dt d => Sys2Proof.Machine.execDatumStopped dt d s
  | .datAppPush dt m d value => Sys2Proof.Machine.execDatAppPush dt m d value s
  | .encoderEdge dt d a b => Sys2Proof.Machine.execEncoderEdge dt d a b s
  | .encoderZEdge dt d => Sys2Proof.Machine.execEncoderZEdge dt d s
  | .encoderFit dt d ssi => Sys2Proof.Machine.execEncoderFit dt d ssi s
  | .upstreamTimeout dt d => Sys2Proof.Machine.execUpstreamTimeout dt d s
  | .segmentHandover dt d => Sys2Proof.Machine.execSegmentHandover dt d s
  | .hzShort dt d => Sys2Proof.Machine.execHzShort dt d s
  | .stakeFire dt k => Sys2Proof.Machine.execStakeFire dt k s
  | .stakeActionDispatch dt => Sys2Proof.Machine.execStakeActionDispatch dt s
  | .foEdgeApply dt k => Sys2Proof.Machine.execFoEdgeApply dt k s
  | .arm dt m j => Sys2Proof.Machine.execArm dt m j s
  | .disarm dt m j => Sys2Proof.Machine.execDisarm dt m j s
  | .reload dt m j => Sys2Proof.Machine.execReload dt m j s
  | .stkCapInfoRead dt m k => Sys2Proof.Machine.execStkCapInfoRead dt m k s
  | .frameTransmit dt port => Sys2Proof.Machine.execFrameTransmit dt port s
  | .badFrameRx dt port frame => Sys2Proof.Machine.execBadFrameRx dt port frame s
  | .datumFrame dt port hdr entries => Sys2Proof.Machine.execDatumFrame dt port hdr entries s
  | .segmentFrame dt port hdr stream trunc segs => Sys2Proof.Machine.execSegmentFrame dt port hdr stream trunc segs s
  | .imageFrame dt port hdr body => Sys2Proof.Machine.execImageFrame dt port hdr body s
  | .traverseAck dt port hdr stn state streams events => Sys2Proof.Machine.execTraverseAck dt port hdr stn state streams events s
  | .heartbeat dt port hdr role t => Sys2Proof.Machine.execHeartbeat dt port hdr role t s
  | .stateCmd dt port hdr stn target => Sys2Proof.Machine.execStateCmd dt port hdr stn target s
  | .config dt port hdr words => Sys2Proof.Machine.execConfig dt port hdr words s
  | .discoverResp dt port hdr addr mac product state => Sys2Proof.Machine.execDiscoverResp dt port hdr addr mac product state s
  | .discover dt m n value => Sys2Proof.Machine.execDiscover dt m n value s
  | .discDone dt port => Sys2Proof.Machine.execDiscDone dt port s
  | .stationLost dt port stn => Sys2Proof.Machine.execStationLost dt port stn s
  | .segNak dt port => Sys2Proof.Machine.execSegNak dt port s
  | .evtNak dt port => Sys2Proof.Machine.execEvtNak dt port s
  | .lineLinkChange dt port up => Sys2Proof.Machine.execLineLinkChange dt port up s
  | .releaseStart dt e => Sys2Proof.Machine.execReleaseStart dt e s
  | .plNop e space addr => Sys2Proof.Machine.execPlNop e space addr s
  | .plLd e space addr => Sys2Proof.Machine.execPlLd e space addr s
  | .plLdn e space addr => Sys2Proof.Machine.execPlLdn e space addr s
  | .plAnd e space addr => Sys2Proof.Machine.execPlAnd e space addr s
  | .plAndn e space addr => Sys2Proof.Machine.execPlAndn e space addr s
  | .plOr e space addr => Sys2Proof.Machine.execPlOr e space addr s
  | .plOrn e space addr => Sys2Proof.Machine.execPlOrn e space addr s
  | .plXor e space addr => Sys2Proof.Machine.execPlXor e space addr s
  | .plXorn e space addr => Sys2Proof.Machine.execPlXorn e space addr s
  | .plSt e space addr => Sys2Proof.Machine.execPlSt e space addr s
  | .plStn e space addr => Sys2Proof.Machine.execPlStn e space addr s
  | .plSet e space addr => Sys2Proof.Machine.execPlSet e space addr s
  | .plRst e space addr => Sys2Proof.Machine.execPlRst e space addr s
  | .plNot e space addr => Sys2Proof.Machine.execPlNot e space addr s
  | .plSeta e space addr => Sys2Proof.Machine.execPlSeta e space addr s
  | .plClra e space addr => Sys2Proof.Machine.execPlClra e space addr s
  | .plPsha e space addr => Sys2Proof.Machine.execPlPsha e space addr s
  | .plPsho e space addr => Sys2Proof.Machine.execPlPsho e space addr s
  | .plPshx e space addr => Sys2Proof.Machine.execPlPshx e space addr s
  | .plPshn e space addr => Sys2Proof.Machine.execPlPshn e space addr s
  | .plPop e space addr => Sys2Proof.Machine.execPlPop e space addr s
  | .plPeek e space addr => Sys2Proof.Machine.execPlPeek e space addr s
  | .plJmp e space addr => Sys2Proof.Machine.execPlJmp e space addr s
  | .plJc e space addr => Sys2Proof.Machine.execPlJc e space addr s
  | .plJcn e space addr => Sys2Proof.Machine.execPlJcn e space addr s
  | .plCall e space addr => Sys2Proof.Machine.execPlCall e space addr s
  | .plRet e space addr => Sys2Proof.Machine.execPlRet e space addr s
  | .plRetc e space addr => Sys2Proof.Machine.execPlRetc e space addr s
  | .plEnd e space addr => Sys2Proof.Machine.execPlEnd e space addr s
  | .plLw e space addr => Sys2Proof.Machine.execPlLw e space addr s
  | .plLwu e space addr => Sys2Proof.Machine.execPlLwu e space addr s
  | .plLwd e space addr => Sys2Proof.Machine.execPlLwd e space addr s
  | .plLwi e space addr => Sys2Proof.Machine.execPlLwi e space addr s
  | .plSw e space addr => Sys2Proof.Machine.execPlSw e space addr s
  | .plSwd e space addr => Sys2Proof.Machine.execPlSwd e space addr s
  | .plSwc e space addr => Sys2Proof.Machine.execPlSwc e space addr s
  | .plSwdc e space addr => Sys2Proof.Machine.execPlSwdc e space addr s
  | .plAdd e space addr => Sys2Proof.Machine.execPlAdd e space addr s
  | .plSub e space addr => Sys2Proof.Machine.execPlSub e space addr s
  | .plMul e space addr => Sys2Proof.Machine.execPlMul e space addr s
  | .plAddd e space addr => Sys2Proof.Machine.execPlAddd e space addr s
  | .plSubd e space addr => Sys2Proof.Machine.execPlSubd e space addr s
  | .plNeg e space addr => Sys2Proof.Machine.execPlNeg e space addr s
  | .plAndw e space addr => Sys2Proof.Machine.execPlAndw e space addr s
  | .plOrw e space addr => Sys2Proof.Machine.execPlOrw e space addr s
  | .plXorw e space addr => Sys2Proof.Machine.execPlXorw e space addr s
  | .plShl e space addr => Sys2Proof.Machine.execPlShl e space addr s
  | .plShr e space addr => Sys2Proof.Machine.execPlShr e space addr s
  | .plShru e space addr => Sys2Proof.Machine.execPlShru e space addr s
  | .plBtst e space addr => Sys2Proof.Machine.execPlBtst e space addr s
  | .plLwb e space addr => Sys2Proof.Machine.execPlLwb e space addr s
  | .plCeq e space addr => Sys2Proof.Machine.execPlCeq e space addr s
  | .plCne e space addr => Sys2Proof.Machine.execPlCne e space addr s
  | .plClt e space addr => Sys2Proof.Machine.execPlClt e space addr s
  | .plCle e space addr => Sys2Proof.Machine.execPlCle e space addr s
  | .plCgt e space addr => Sys2Proof.Machine.execPlCgt e space addr s
  | .plCge e space addr => Sys2Proof.Machine.execPlCge e space addr s
  | .plCltu e space addr => Sys2Proof.Machine.execPlCltu e space addr s
  | .plCgeu e space addr => Sys2Proof.Machine.execPlCgeu e space addr s
  | .plCeqd e space addr => Sys2Proof.Machine.execPlCeqd e space addr s
  | .plCltd e space addr => Sys2Proof.Machine.execPlCltd e space addr s
  | .plCged e space addr => Sys2Proof.Machine.execPlCged e space addr s
  | .plCltdu e space addr => Sys2Proof.Machine.execPlCltdu e space addr s
  | .plCgedu e space addr => Sys2Proof.Machine.execPlCgedu e space addr s
  | .plLov e space addr => Sys2Proof.Machine.execPlLov e space addr s
  | .plCov e space addr => Sys2Proof.Machine.execPlCov e space addr s
  | .plFp e space addr => Sys2Proof.Machine.execPlFp e space addr s
  | .plFn e space addr => Sys2Proof.Machine.execPlFn e space addr s
  | .plTon e space addr => Sys2Proof.Machine.execPlTon e space addr s
  | .plTof e space addr => Sys2Proof.Machine.execPlTof e space addr s
  | .plTp e space addr => Sys2Proof.Machine.execPlTp e space addr s
  | .plTpt e space addr => Sys2Proof.Machine.execPlTpt e space addr s
  | .plTrs e space addr => Sys2Proof.Machine.execPlTrs e space addr s
  | .plCtu e space addr => Sys2Proof.Machine.execPlCtu e space addr s
  | .plCtd e space addr => Sys2Proof.Machine.execPlCtd e space addr s
  | .plCrs e space addr => Sys2Proof.Machine.execPlCrs e space addr s
  | .plClp e space addr => Sys2Proof.Machine.execPlClp e space addr s
  | .plCpv e space addr => Sys2Proof.Machine.execPlCpv e space addr s
  | .plDwin e d space addr => Sys2Proof.Machine.execPlDwin e d space addr s
  | .plStarm e space addr => Sys2Proof.Machine.execPlStarm e space addr s
  | .plStdis e space addr => Sys2Proof.Machine.execPlStdis e space addr s
  | .plSttgt e space addr => Sys2Proof.Machine.execPlSttgt e space addr s
  | .plStrld e space addr => Sys2Proof.Machine.execPlStrld e space addr s
  | .plCallb e space addr => Sys2Proof.Machine.execPlCallb e space addr s
  | .undefinedOpcode e => Sys2Proof.Machine.execUndefinedOpcode e s
  | .releaseEndDecision dt e trailing => Sys2Proof.Machine.execReleaseEndDecision dt e trailing s
  | .taskDeadline dt e => Sys2Proof.Machine.execTaskDeadline dt e s
  | .fixedCycleStart dt => Sys2Proof.Machine.execFixedCycleStart dt s
  | .modeReqTask dt m => Sys2Proof.Machine.execModeReqTask dt m s
  | .modeReqFixed dt m => Sys2Proof.Machine.execModeReqFixed dt m s
  | .autoTaskRequest dt => Sys2Proof.Machine.execAutoTaskRequest dt s
  | .blockCallArrival dt e => Sys2Proof.Machine.execBlockCallArrival dt e s
  | .blockServiceStart dt p => Sys2Proof.Machine.execBlockServiceStart dt p s
  | .blockReturn dt p trailing => Sys2Proof.Machine.execBlockReturn dt p trailing s
  | .blockDeadline dt k => Sys2Proof.Machine.execBlockDeadline dt k s
  | .selfRunDue dt k => Sys2Proof.Machine.execSelfRunDue dt k s
  | .selfRunEnd dt p trailing => Sys2Proof.Machine.execSelfRunEnd dt p trailing s
  | .coreMismatch dt outs => Sys2Proof.Machine.execCoreMismatch dt outs s
  | .tileResyncDone dt x => Sys2Proof.Machine.execTileResyncDone dt x s
  | .agreementDisagree dt x input => Sys2Proof.Machine.execAgreementDisagree dt x input s
  | .checkerTest dt x rails same => Sys2Proof.Machine.execCheckerTest dt x rails same s
  | .splitComplete dt x => Sys2Proof.Machine.execSplitComplete dt x s
  | .joinComplete dt x rails => Sys2Proof.Machine.execJoinComplete dt x rails s
  | .roleDecision dt sameOrder => Sys2Proof.Machine.execRoleDecision dt sameOrder s
  | .keepaliveSend dt => Sys2Proof.Machine.execKeepaliveSend dt s
  | .pairKeepalive dt hdr role ready complete => Sys2Proof.Machine.execPairKeepalive dt hdr role ready complete s
  | .pairDelta dt hdr recs => Sys2Proof.Machine.execPairDelta dt hdr recs s
  | .pairGenClose dt hdr gen count digest => Sys2Proof.Machine.execPairGenClose dt hdr gen count digest s
  | .pairAck dt hdr seq => Sys2Proof.Machine.execPairAck dt hdr seq s
  | .pairResyncFrame dt hdr addr bytes recs => Sys2Proof.Machine.execPairResyncFrame dt hdr addr bytes recs s
  | .pairSwap dt hdr epoch t mask evtId => Sys2Proof.Machine.execPairSwap dt hdr epoch t mask evtId s
  | .pairRoleNotice dt hdr role cause => Sys2Proof.Machine.execPairRoleNotice dt hdr role cause s
  | .pairTime dt hdr response t1 t2 t3 => Sys2Proof.Machine.execPairTime dt hdr response t1 t2 t3 s
  | .pairProgram dt hdr offset bytes => Sys2Proof.Machine.execPairProgram dt hdr offset bytes s
  | .pairFrameCrcError dt lane => Sys2Proof.Machine.execPairFrameCrcError dt lane s
  | .retransmit dt => Sys2Proof.Machine.execRetransmit dt s
  | .timeExchange dt => Sys2Proof.Machine.execTimeExchange dt s
  | .genBoundary dt => Sys2Proof.Machine.execGenBoundary dt s
  | .genCloseSend dt => Sys2Proof.Machine.execGenCloseSend dt s
  | .resyncReady dt => Sys2Proof.Machine.execResyncReady dt s
  | .lossDeclared dt => Sys2Proof.Machine.execLossDeclared dt s
  | .takeoverResume dt => Sys2Proof.Machine.execTakeoverResume dt s
  | .isolationTimeout dt => Sys2Proof.Machine.execIsolationTimeout dt s
  | .swapSend dt => Sys2Proof.Machine.execSwapSend dt s
  | .handoverH dt => Sys2Proof.Machine.execHandoverH dt s
  | .handoverTimeout dt => Sys2Proof.Machine.execHandoverTimeout dt s
  | .handoverOutputSwitch dt => Sys2Proof.Machine.execHandoverOutputSwitch dt s
  | .moduleRemoval dt => Sys2Proof.Machine.execModuleRemoval dt s
  | .partnerInsertion dt => Sys2Proof.Machine.execPartnerInsertion dt s
  | .reconfigDone dt n => Sys2Proof.Machine.execReconfigDone dt n s
  | .ioInstant dt g vals => Sys2Proof.Machine.execIoInstant dt g vals s
  | .inputWrite dt g => Sys2Proof.Machine.execInputWrite dt g s
  | .outputApply dt g => Sys2Proof.Machine.execOutputApply dt g s
  | .conversionDone dt g vals => Sys2Proof.Machine.execConversionDone dt g vals s
  | .diLevelChange dt n level => Sys2Proof.Machine.execDiLevelChange dt n level s
  | .channelDiagnostic dt n flag on temp => Sys2Proof.Machine.execChannelDiagnostic dt n flag on temp s
  | .channelTrip dt n overtemp => Sys2Proof.Machine.execChannelTrip dt n overtemp s
  | .tripRetry dt n cool => Sys2Proof.Machine.execTripRetry dt n cool s
  | .vfldLow dt g mv => Sys2Proof.Machine.execVfldLow dt g mv s
  | .supplyLost dt g mv => Sys2Proof.Machine.execSupplyLost dt g mv s
  | .supplyRecovery dt g mv => Sys2Proof.Machine.execSupplyRecovery dt g mv s
  | .restoreAck dt m g value => Sys2Proof.Machine.execRestoreAck dt m g value s
  | .outEn dt m g value => Sys2Proof.Machine.execOutEn dt m g value s
  | .barrierLinkSilence dt c => Sys2Proof.Machine.execBarrierLinkSilence dt c s
  | .benchmark dt n dev blocked => Sys2Proof.Machine.execBenchmark dt n dev blocked s
  | .fastInputEdge dt k back rising => Sys2Proof.Machine.execFastInputEdge dt k back rising s
  | .fiEvPop dt m k value => Sys2Proof.Machine.execFiEvPop dt m k value s
  | .foFault dt k => Sys2Proof.Machine.execFoFault dt k s
  | .foRetry dt k => Sys2Proof.Machine.execFoRetry dt k s
  | .controllerRestart dt c phase => Sys2Proof.Machine.execControllerRestart dt c phase s
  | .canModeWrite dt m n value => Sys2Proof.Machine.execCanModeWrite dt m n value s
  | .canSync dt n => Sys2Proof.Machine.execCanSync dt n s
  | .canTxPush dt m n value => Sys2Proof.Machine.execCanTxPush dt m n value s
  | .canFrameSent dt n urgent back => Sys2Proof.Machine.execCanFrameSent dt n urgent back s
  | .idCollision dt n urgent => Sys2Proof.Machine.execIdCollision dt n urgent s
  | .canFrameRx dt n id info back bytes => Sys2Proof.Machine.execCanFrameRx dt n id info back bytes s
  | .canRxSel dt m n value => Sys2Proof.Machine.execCanRxSel dt m n value s
  | .txePop dt m n value => Sys2Proof.Machine.execTxePop dt m n value s
  | .canRelease dt m n => Sys2Proof.Machine.execCanRelease dt m n s
  | .canDiscard dt m n => Sys2Proof.Machine.execCanDiscard dt m n s
  | .canFlush dt m n => Sys2Proof.Machine.execCanFlush dt m n s
  | .canRecover dt m n => Sys2Proof.Machine.execCanRecover dt m n s
  | .canTscCap dt m n value => Sys2Proof.Machine.execCanTscCap dt m n value s
  | .busOff dt n => Sys2Proof.Machine.execBusOff dt n s
  | .busOffRecovered dt n => Sys2Proof.Machine.execBusOffRecovered dt n s
  | .sramAccess dt m write addr size data hits => Sys2Proof.Machine.execSramAccess dt m write addr size data hits s
  | .impreciseNotice dt => Sys2Proof.Machine.execImpreciseNotice dt s
  | .bnkOwnWrite dt m n value => Sys2Proof.Machine.execBnkOwnWrite dt m n value s
  | .bankRetention dt m n value => Sys2Proof.Machine.execBankRetention dt m n value s
  | .bankWake dt m n value => Sys2Proof.Machine.execBankWake dt m n value s
  | .wakeDone dt n => Sys2Proof.Machine.execWakeDone dt n s
  | .scrub dt n hits => Sys2Proof.Machine.execScrub dt n hits s
  | .backgroundTest dt n fails => Sys2Proof.Machine.execBackgroundTest dt n fails s
  | .lpdPatrol dt hits => Sys2Proof.Machine.execLpdPatrol dt hits s
  | .lckRead dt m k => Sys2Proof.Machine.execLckRead dt m k s
  | .lockRelease dt m k value => Sys2Proof.Machine.execLockRelease dt m k value s
  | .lockForce dt m k value => Sys2Proof.Machine.execLockForce dt m k value s
  | .mpuSync dt m => Sys2Proof.Machine.execMpuSync dt m s
  | .retirementRecord dt => Sys2Proof.Machine.execRetirementRecord dt s
  | .periodEnd dt => Sys2Proof.Machine.execPeriodEnd dt s
  | .recSel dt m value => Sys2Proof.Machine.execRecSel dt m value s
  | .feedLow dt feed mv => Sys2Proof.Machine.execFeedLow dt feed mv s
  | .feedLoss dt feed mv => Sys2Proof.Machine.execFeedLoss dt feed mv s
  | .feedGood dt feed mv => Sys2Proof.Machine.execFeedGood dt feed mv s
  | .vbakLow dt mv => Sys2Proof.Machine.execVbakLow dt mv s
  | .holdupMeasure dt bank est => Sys2Proof.Machine.execHoldupMeasure dt bank est s
  | .brownout dt rail mv => Sys2Proof.Machine.execBrownout dt rail mv s
  | .watchdog dt => Sys2Proof.Machine.execWatchdog dt s
  | .hot dt die board => Sys2Proof.Machine.execHot dt die board s
  | .thermal dt die board => Sys2Proof.Machine.execThermal dt die board s
  | .moduleReset dt => Sys2Proof.Machine.execModuleReset dt s
  | .powerOnReset dt => Sys2Proof.Machine.execPowerOnReset dt s
  | .boot dt => Sys2Proof.Machine.execBoot dt s
  | .timeSettle dt => Sys2Proof.Machine.execTimeSettle dt s
  | .pwrDomReq dt m value => Sys2Proof.Machine.execPwrDomReq dt m value s
  | .domainSwitchDone dt => Sys2Proof.Machine.execDomainSwitchDone dt s
  | .updOpen dt dst etype slot tag mac len crc => Sys2Proof.Machine.execUpdOpen dt dst etype slot tag mac len crc s
  | .updBlock dt dst etype slot tag mac index part crc bytes => Sys2Proof.Machine.execUpdBlock dt dst etype slot tag mac index part crc bytes s
  | .updClose dt dst etype slot tag mac => Sys2Proof.Machine.execUpdClose dt dst etype slot tag mac s
  | .updAbort dt dst etype slot tag mac => Sys2Proof.Machine.execUpdAbort dt dst etype slot tag mac s
  | .sessionTimeout dt => Sys2Proof.Machine.execSessionTimeout dt s
  | .recoveryAnnounce dt => Sys2Proof.Machine.execRecoveryAnnounce dt s
  | .activation dt => Sys2Proof.Machine.execActivation dt s
  | .floorRequest dt m value => Sys2Proof.Machine.execFloorRequest dt m value s
  | .floorBurnDone dt => Sys2Proof.Machine.execFloorBurnDone dt s
  | .warnEnd dt x => Sys2Proof.Machine.execWarnEnd dt x s
  | .partnerSilence dt => Sys2Proof.Machine.execPartnerSilence dt s
  | .pairLaneLinkChange dt lane up => Sys2Proof.Machine.execPairLaneLinkChange dt lane up s
  | .serviceLinkChange dt up => Sys2Proof.Machine.execServiceLinkChange dt up s
  | .canBusError dt n lec tec rec => Sys2Proof.Machine.execCanBusError dt n lec tec rec s
  | .votedRead dt m addr x y z => Sys2Proof.Machine.execVotedRead dt m addr x y z s
  | .resyncCopyEnd dt => Sys2Proof.Machine.execResyncCopyEnd dt s
  | .pairDatumTrigger dt d => Sys2Proof.Machine.execPairDatumTrigger dt d s
  | .partnerPresentLoss dt => Sys2Proof.Machine.execPartnerPresentLoss dt s
  | .feedLowClear dt feed mv => Sys2Proof.Machine.execFeedLowClear dt feed mv s
  | .vbakLoss dt mv => Sys2Proof.Machine.execVbakLoss dt mv s
  | .thermalResetRelease dt die board => Sys2Proof.Machine.execThermalResetRelease dt die board s
  | .slotEraseDone dt => Sys2Proof.Machine.execSlotEraseDone dt s
  | .tripSequenceEnd dt n => Sys2Proof.Machine.execTripSequenceEnd dt n s
  | .preemptionVerified dt port up => Sys2Proof.Machine.execPreemptionVerified dt port up s

end Sys2Proof.Machine
end

