-- ==== Sys2Proof/WellFormed.lean ====
section
/-!
DEFINITION. Which commands are well formed: every index lies in the range the manual gives the thing it names, every field
of a frame fits its width. A command that is not well formed stands for nothing that can reach the block.
-/
namespace Sys2Proof

/-- The master IDs of Table 1.2, those of a split pair's second engine (R256) included. -/
def isMaster (m : Nat) : Bool :=
  m = 0x01 || (0x10 ≤ m && m ≤ 0x18) || (0x20 ≤ m && m ≤ 0x28) || (0x30 ≤ m && m ≤ 0x35) || (0x40 ≤ m && m ≤ 0x48) ||
    (0x90 ≤ m && m ≤ 0x97) || (0xA0 ≤ m && m ≤ 0xA7)

/-- The Plumb pairs of Table 11.1. -/
def isPlumbPair (p : Nat) : Bool := (0x10 ≤ p && p ≤ 0x18) || (0x20 ≤ p && p ≤ 0x28)

/-- The block pairs of Table 11.1. -/
def isBlockPair (p : Nat) : Bool := 0x30 ≤ p && p ≤ 0x35

/-- The engines that run Plumb code: the Plumb pairs, and the second engines of split pairs (R256). -/
def isEngine (e : Nat) : Bool := isPlumbPair e || (0x90 ≤ e && e ≤ 0x97) || (0xA0 ≤ e && e ≤ 0xA7)

/-- The header fields of Table 7.2 fit their widths. -/
def Hdr.wf (h : Hdr) : Bool :=
  h.ver < 16 && h.slot < 2 && h.src < 2 ^ 16 && h.dst < 2 ^ 16 && h.tag < 2 ^ 16 && h.epoch < 2 ^ 32 && h.cycle < 2 ^ 32 &&
    h.etype < 2 ^ 16 && h.vid.all (· < 4096)

/-- The header fields of Table 12.3 fit their widths. -/
def LinkHdr.wf (h : LinkHdr) : Bool := h.lane < 2 && h.seq < 2 ^ 32 && h.epoch < 2 ^ 32 && h.gen < 2 ^ 32

/-- A command as it can reach the block. -/
def Instr.wf : Instr → Bool
  | .pcieTlp _ _ _ offset len data => offset < 2 ^ 26 && len ≤ 512 && data.length ≤ 256
  | .perstReset _ => true
  | .pcieLinkChange _ up speed width => !up || (1 ≤ speed && speed ≤ 4 && (width = 1 || width = 2 || width = 4))
  | .bmeSet _ _ => true
  | .msixVectorUnmask _ v => v < 64
  | .regacc _ port hdr mac payload => port < 4 && hdr.wf && mac < 2 ^ 48 && payload.length ≤ 1480
  | .remoteRegisterAccess _ dst etype mac payload => dst < 2 ^ 48 && etype < 2 ^ 16 && mac < 2 ^ 48 && payload.length ≤ 1500
  | .registerWrite _ m addr _ => isMaster m && addr < 2 ^ 40 && addr % 4 = 0
  | .loRead _ m addr => isMaster m && addr < 2 ^ 40 && addr % 4 = 0
  | .loWrite _ m addr _ => isMaster m && addr < 2 ^ 40 && addr % 4 = 0
  | .hiWrite _ m addr _ => isMaster m && addr < 2 ^ 40 && addr % 4 = 0
  | .rcRead _ m addr => isMaster m && addr < 2 ^ 40 && addr % 4 = 0
  | .tmrScrub _ upsets => upsets.all (fun u => u.1 < 2 ^ 22)
  | .violClear _ m => isMaster m
  | .moduleResetRequest _ m _ => isMaster m
  | .mbxPost _ m n _ => isMaster m && n < 8
  | .mpTake _ => true
  | .mpPostResponse _ post => post.mailbox < 8 && post.trailing.all (· < 2 ^ 64)
  | .mbxTake _ m n _ => isMaster m && 8 ≤ n && n < 16
  | .mbxHrst _ m n _ => isMaster m && n < 16
  | .mpRestartBegin _ => true
  | .mpReady _ => true
  | .longCommandComplete _ n _ => n < 8
  | .ident _ n => n < 8
  | .statusGet _ n => n < 8
  | .echo _ n => n < 8
  | .cfgOpen _ n => n < 8
  | .cfgClose _ n => n < 8
  | .cfgAbandon _ n => n < 8
  | .cfgCopy _ n => n < 8
  | .cfgWrite _ n => n < 8
  | .cfgRead _ n => n < 8
  | .cfgBulk _ n => n < 8
  | .cfgCheck _ n => n < 8
  | .cfgSwap _ n => n < 8
  | .cfgSwapApply _ => true
  | .cfgSwapCancel _ n => n < 8
  | .cfgStatus _ n => n < 8
  | .prgInfo _ n => n < 8
  | .prgLoadBegin _ n => n < 8
  | .prgLoadBlock _ n => n < 8
  | .prgLoadEnd _ n => n < 8
  | .valRead _ n => n < 8
  | .valWrite _ n => n < 8
  | .constWrite _ n => n < 8
  | .constApply _ p => isPlumbPair p
  | .lpdRead _ n => n < 8
  | .lpdWrite _ n => n < 8
  | .frcSet _ n => n < 8
  | .frcRelease _ n => n < 8
  | .frcReleaseAll _ n => n < 8
  | .frcList _ n => n < 8
  | .datStatus _ n => n < 8
  | .datStop _ n => n < 8
  | .stkStatus _ n => n < 8
  | .stkCancelAll _ n => n < 8
  | .chStatus _ n => n < 8
  | .chRevive _ n => n < 8
  | .chTrimCapture _ n => n < 8
  | .chTrimClear _ n => n < 8
  | .chPulseTest _ n => n < 8
  | .pairStatus _ n => n < 8
  | .pairExchange _ n => n < 8
  | .pairHandover _ n => n < 8
  | .pairCancel _ n => n < 8
  | .pairWithdraw _ n => n < 8
  | .pairResync _ n => n < 8
  | .recInfo _ n => n < 8
  | .recPeriod _ n => n < 8
  | .recCopy _ n => n < 8
  | .updStatus _ n => n < 8
  | .updSchedule _ n => n < 8
  | .updCancel _ n => n < 8
  | .updChain _ n => n < 8
  | .selftestFull _ n => n < 8
  | .diagCounters _ n => n < 8
  | .cmpSplit _ n => n < 8
  | .cmpJoin _ n => n < 8
  | .mpRestart _ n => n < 8
  | .ptpSecondCarry => true
  | .timIncrWrite _ m _ => isMaster m
  | .timStepArm _ m _ => isMaster m
  | .timNowRead _ m => isMaster m
  | .servoUpdate _ => true
  | .holdover _ => true
  | .sync _ port seq _ domain _ _ => port < 4 && seq < 2 ^ 16 && domain < 256
  | .followUp _ port seq domain _ _ => port < 4 && seq < 2 ^ 16 && domain < 256
  | .delayReq _ port seq domain requester => port < 4 && seq < 2 ^ 16 && domain < 256 && requester < 2 ^ 80
  | .delayResp _ port seq domain _ _ => port < 4 && seq < 2 ^ 16 && domain < 256
  | .pdelayReq _ port seq domain requester => port < 4 && seq < 2 ^ 16 && domain < 256 && requester < 2 ^ 80
  | .pdelayResp _ port seq domain _ _ => port < 4 && seq < 2 ^ 16 && domain < 256
  | .pdelayRespFollowUp _ port seq domain _ _ => port < 4 && seq < 2 ^ 16 && domain < 256
  | .announce _ port domain prio1 cls accuracy variance prio2 gmId way => way.sender < 2 ^ 80 && port < 4 && domain < 256 && prio1 < 256 && cls < 256 && accuracy < 256 && variance < 2 ^ 16 && prio2 < 256 && gmId < 2 ^ 64 && way.steps < 2 ^ 16
  | .signaling _ rx _ _ _ => rx.port < 4 && rx.domain < 256
  | .managementMessage _ port => port < 4
  | .ptpMessageSend _ port kind => port < 4 && kind < 3
  | .txqPop _ m n _ => isMaster m && n < 4
  | .comparatorFire _ k => k < 16
  | .segmentEnd _ d => d < 8
  | .segmentStart _ d => d < 8
  | .datumStopped _ d => d < 8
  | .datAppPush _ m d _ => isMaster m && d < 8
  | .encoderEdge _ d _ _ => d < 8
  | .encoderZEdge _ d => d < 8
  | .encoderFit _ d ssi => d < 8 && ssi.raw < 2 ^ 32
  | .upstreamTimeout _ d => d < 8
  | .segmentHandover _ d => d < 8
  | .hzShort _ d => d < 8
  | .stakeFire _ i => i < 4096
  | .stakeActionDispatch _ => true
  | .foEdgeApply _ k => k < 8
  | .arm _ m j => isMaster m && j < 1024
  | .disarm _ m j => isMaster m && j < 1024
  | .reload _ m j => isMaster m && j < 1024
  | .stkCapInfoRead _ m k => isMaster m && k < 16
  | .frameTransmit _ port => port < 4
  | .badFrameRx _ port frame => port < 4 && frame.etype < 2 ^ 16 && frame.vid.all (· < 4096) && frame.bytes.length ≤ 1500
  | .datumFrame _ port hdr entries => port < 4 && hdr.wf && 1 ≤ entries.length && entries.length ≤ 8
  | .segmentFrame _ port hdr stream trunc segs => port < 4 && hdr.wf && stream < 2 ^ 16 && trunc.all (· < 2 ^ 32) && segs.length ≤ 20
  | .imageFrame _ port hdr _ => port < 4 && hdr.wf
  | .traverseAck _ port hdr stn state _ _ => port < 4 && hdr.wf && 1 ≤ stn && stn < 256 && state < 8
  | .heartbeat _ port hdr role _ => port < 4 && hdr.wf && role < 7
  | .stateCmd _ port hdr stn target => port < 4 && hdr.wf && 1 ≤ stn && stn < 256 && target < 8
  | .config _ port hdr words => port < 4 && hdr.wf && words.length = 11
  | .discoverResp _ port hdr addr mac _ state => port < 4 && hdr.wf && addr < 2 ^ 16 && mac < 2 ^ 48 && state < 8
  | .discover _ m n _ => isMaster m && n < 4
  | .discDone _ port => port < 4
  | .stationLost _ port stn => port < 4 && 1 ≤ stn && stn < 256
  | .segNak _ port => port < 4
  | .evtNak _ port => port < 4
  | .lineLinkChange _ port _ => port < 4
  | .releaseStart _ e => isEngine e
  | .plNop e space addr => isEngine e && space < 16 && addr < 2 ^ 20
  | .plLd e space addr => isEngine e && space < 16 && addr < 2 ^ 20
  | .plLdn e space addr => isEngine e && space < 16 && addr < 2 ^ 20
  | .plAnd e space addr => isEngine e && space < 16 && addr < 2 ^ 20
  | .plAndn e space addr => isEngine e && space < 16 && addr < 2 ^ 20
  | .plOr e space addr => isEngine e && space < 16 && addr < 2 ^ 20
  | .plOrn e space addr => isEngine e && space < 16 && addr < 2 ^ 20
  | .plXor e space addr => isEngine e && space < 16 && addr < 2 ^ 20
  | .plXorn e space addr => isEngine e && space < 16 && addr < 2 ^ 20
  | .plSt e space addr => isEngine e && space < 16 && addr < 2 ^ 20
  | .plStn e space addr => isEngine e && space < 16 && addr < 2 ^ 20
  | .plSet e space addr => isEngine e && space < 16 && addr < 2 ^ 20
  | .plRst e space addr => isEngine e && space < 16 && addr < 2 ^ 20
  | .plNot e space addr => isEngine e && space < 16 && addr < 2 ^ 20
  | .plSeta e space addr => isEngine e && space < 16 && addr < 2 ^ 20
  | .plClra e space addr => isEngine e && space < 16 && addr < 2 ^ 20
  | .plPsha e space addr => isEngine e && space < 16 && addr < 2 ^ 20
  | .plPsho e space addr => isEngine e && space < 16 && addr < 2 ^ 20
  | .plPshx e space addr => isEngine e && space < 16 && addr < 2 ^ 20
  | .plPshn e space addr => isEngine e && space < 16 && addr < 2 ^ 20
  | .plPop e space addr => isEngine e && space < 16 && addr < 2 ^ 20
  | .plPeek e space addr => isEngine e && space < 16 && addr < 2 ^ 20
  | .plJmp e space addr => isEngine e && space < 16 && addr < 2 ^ 20
  | .plJc e space addr => isEngine e && space < 16 && addr < 2 ^ 20
  | .plJcn e space addr => isEngine e && space < 16 && addr < 2 ^ 20
  | .plCall e space addr => isEngine e && space < 16 && addr < 2 ^ 20
  | .plRet e space addr => isEngine e && space < 16 && addr < 2 ^ 20
  | .plRetc e space addr => isEngine e && space < 16 && addr < 2 ^ 20
  | .plEnd e space addr => isEngine e && space < 16 && addr < 2 ^ 20
  | .plLw e space addr => isEngine e && space < 16 && addr < 2 ^ 20
  | .plLwu e space addr => isEngine e && space < 16 && addr < 2 ^ 20
  | .plLwd e space addr => isEngine e && space < 16 && addr < 2 ^ 20
  | .plLwi e space addr => isEngine e && space < 16 && addr < 2 ^ 20
  | .plSw e space addr => isEngine e && space < 16 && addr < 2 ^ 20
  | .plSwd e space addr => isEngine e && space < 16 && addr < 2 ^ 20
  | .plSwc e space addr => isEngine e && space < 16 && addr < 2 ^ 20
  | .plSwdc e space addr => isEngine e && space < 16 && addr < 2 ^ 20
  | .plAdd e space addr => isEngine e && space < 16 && addr < 2 ^ 20
  | .plSub e space addr => isEngine e && space < 16 && addr < 2 ^ 20
  | .plMul e space addr => isEngine e && space < 16 && addr < 2 ^ 20
  | .plAddd e space addr => isEngine e && space < 16 && addr < 2 ^ 20
  | .plSubd e space addr => isEngine e && space < 16 && addr < 2 ^ 20
  | .plNeg e space addr => isEngine e && space < 16 && addr < 2 ^ 20
  | .plAndw e space addr => isEngine e && space < 16 && addr < 2 ^ 20
  | .plOrw e space addr => isEngine e && space < 16 && addr < 2 ^ 20
  | .plXorw e space addr => isEngine e && space < 16 && addr < 2 ^ 20
  | .plShl e space addr => isEngine e && space < 16 && addr < 2 ^ 20
  | .plShr e space addr => isEngine e && space < 16 && addr < 2 ^ 20
  | .plShru e space addr => isEngine e && space < 16 && addr < 2 ^ 20
  | .plBtst e space addr => isEngine e && space < 16 && addr < 2 ^ 20
  | .plLwb e space addr => isEngine e && space < 16 && addr < 2 ^ 20
  | .plCeq e space addr => isEngine e && space < 16 && addr < 2 ^ 20
  | .plCne e space addr => isEngine e && space < 16 && addr < 2 ^ 20
  | .plClt e space addr => isEngine e && space < 16 && addr < 2 ^ 20
  | .plCle e space addr => isEngine e && space < 16 && addr < 2 ^ 20
  | .plCgt e space addr => isEngine e && space < 16 && addr < 2 ^ 20
  | .plCge e space addr => isEngine e && space < 16 && addr < 2 ^ 20
  | .plCltu e space addr => isEngine e && space < 16 && addr < 2 ^ 20
  | .plCgeu e space addr => isEngine e && space < 16 && addr < 2 ^ 20
  | .plCeqd e space addr => isEngine e && space < 16 && addr < 2 ^ 20
  | .plCltd e space addr => isEngine e && space < 16 && addr < 2 ^ 20
  | .plCged e space addr => isEngine e && space < 16 && addr < 2 ^ 20
  | .plCltdu e space addr => isEngine e && space < 16 && addr < 2 ^ 20
  | .plCgedu e space addr => isEngine e && space < 16 && addr < 2 ^ 20
  | .plLov e space addr => isEngine e && space < 16 && addr < 2 ^ 20
  | .plCov e space addr => isEngine e && space < 16 && addr < 2 ^ 20
  | .plFp e space addr => isEngine e && space < 16 && addr < 2 ^ 20
  | .plFn e space addr => isEngine e && space < 16 && addr < 2 ^ 20
  | .plTon e space addr => isEngine e && space < 16 && addr < 2 ^ 20
  | .plTof e space addr => isEngine e && space < 16 && addr < 2 ^ 20
  | .plTp e space addr => isEngine e && space < 16 && addr < 2 ^ 20
  | .plTpt e space addr => isEngine e && space < 16 && addr < 2 ^ 20
  | .plTrs e space addr => isEngine e && space < 16 && addr < 2 ^ 20
  | .plCtu e space addr => isEngine e && space < 16 && addr < 2 ^ 20
  | .plCtd e space addr => isEngine e && space < 16 && addr < 2 ^ 20
  | .plCrs e space addr => isEngine e && space < 16 && addr < 2 ^ 20
  | .plClp e space addr => isEngine e && space < 16 && addr < 2 ^ 20
  | .plCpv e space addr => isEngine e && space < 16 && addr < 2 ^ 20
  | .plDwin e d space addr => isEngine e && d < 8 && space < 16 && addr < 2 ^ 20
  | .plStarm e space addr => isEngine e && space < 16 && addr < 2 ^ 20
  | .plStdis e space addr => isEngine e && space < 16 && addr < 2 ^ 20
  | .plSttgt e space addr => isEngine e && space < 16 && addr < 2 ^ 20
  | .plStrld e space addr => isEngine e && space < 16 && addr < 2 ^ 20
  | .plCallb e space addr => isEngine e && space < 16 && addr < 2 ^ 20
  | .undefinedOpcode e => isEngine e
  | .releaseEndDecision _ e trailing => isEngine e && trailing.all (· < 2 ^ 64)
  | .taskDeadline _ e => isEngine e
  | .fixedCycleStart _ => true
  | .modeReqTask _ m => isMaster m
  | .modeReqFixed _ m => isMaster m
  | .autoTaskRequest _ => true
  | .blockCallArrival _ e => isEngine e
  | .blockServiceStart _ p => isBlockPair p
  | .blockReturn _ p trailing => isBlockPair p && trailing.all (· < 2 ^ 64)
  | .blockDeadline _ i => i < 2048
  | .selfRunDue _ i => i < 2048
  | .selfRunEnd _ p trailing => isBlockPair p && trailing.all (· < 2 ^ 64)
  | .coreMismatch _ outs => outs.pair < 30 && outs.lead.port < 5 && outs.lead.port = outs.trail.port
  | .tileResyncDone _ x => x < 30
  | .agreementDisagree _ x input => x < 30 && input < 6
  | .checkerTest _ x rails _ => x < 30 && rails < 4
  | .splitComplete _ x => x < 30
  | .joinComplete _ x rails => x < 30 && rails < 4
  | .roleDecision _ _ => true
  | .keepaliveSend _ => true
  | .pairKeepalive _ hdr role _ complete => hdr.wf && role < 7 && complete < 2 ^ 32
  | .pairDelta _ hdr _ => hdr.wf
  | .pairGenClose _ hdr gen count digest => hdr.wf && gen < 2 ^ 32 && count < 2 ^ 32 && digest < 2 ^ 32
  | .pairAck _ hdr seq => hdr.wf && seq < 2 ^ 32
  | .pairResyncFrame _ hdr addr bytes _ => hdr.wf && addr < 2 ^ 40 && bytes.length ≤ 1500
  | .pairSwap _ hdr epoch _ mask evtId => hdr.wf && epoch < 2 ^ 32 && mask < 2 ^ 32 && evtId < 2 ^ 32
  | .pairRoleNotice _ hdr role _ => hdr.wf && role < 7
  | .pairTime _ hdr _ _ _ _ => hdr.wf
  | .pairProgram _ hdr offset bytes => hdr.wf && offset < 2 ^ 26 && bytes.length ≤ 1500
  | .pairFrameCrcError _ lane => lane < 2
  -- Events of the pair that carry nothing but their distance in time.
  | .retransmit _ | .timeExchange _ | .resyncReady _ => true
  | .genBoundary _ | .genCloseSend _ => true
  | .lossDeclared _ | .takeoverResume _ | .isolationTimeout _ | .partnerInsertion _ => true
  | .swapSend _ | .moduleRemoval _ => true
  | .handoverH _ | .handoverTimeout _ | .handoverOutputSwitch _ => true
  | .reconfigDone _ n => n < 32
  | .ioInstant _ g vals => g < 2 && vals.all (fun v => v.1 < 32)
  | .inputWrite _ g => g < 2
  | .outputApply _ g => g < 2
  | .conversionDone _ g vals => g < 2 && vals.all (fun v => v.1 < 32)
  | .diLevelChange _ n _ => n < 32
  | .channelDiagnostic _ n flag _ _ => n < 32 && flag < 16
  | .channelTrip _ n _ => n < 32
  | .tripRetry _ n _ => n < 32
  | .vfldLow _ g _ => g < 2
  | .supplyLost _ g _ => g < 2
  | .supplyRecovery _ g _ => g < 2
  | .restoreAck _ m g _ => isMaster m && g < 2
  | .outEn _ m g _ => isMaster m && g < 2
  | .barrierLinkSilence _ c => c < 16
  | .benchmark _ n _ _ => n < 32
  | .fastInputEdge _ k _ _ => k < 8
  | .fiEvPop _ m k _ => isMaster m && k < 8
  | .foFault _ k => k < 8
  | .foRetry _ k => k < 8
  | .controllerRestart _ c phase => c < 16 && phase < 3
  | .canModeWrite _ m n _ => isMaster m && n < 2
  | .canSync _ n => n < 2
  | .canTxPush _ m n _ => isMaster m && n < 2
  | .canFrameSent _ n _ _ => n < 2
  | .idCollision _ n _ => n < 2
  | .canFrameRx _ n _ _ _ bytes => n < 2 && bytes.length ≤ 64
  | .canRxSel _ m n _ => isMaster m && n < 2
  | .txePop _ m n _ => isMaster m && n < 2
  | .canRelease _ m n => isMaster m && n < 2
  | .canDiscard _ m n => isMaster m && n < 2
  | .canFlush _ m n => isMaster m && n < 2
  | .canRecover _ m n => isMaster m && n < 2
  | .canTscCap _ m n _ => isMaster m && n < 2
  | .busOff _ n => n < 2
  | .busOffRecovered _ n => n < 2
  | .sramAccess _ m _ addr size data _ => isMaster m && addr < 2 ^ 40 && 1 ≤ size && size ≤ 256 && data.length ≤ 256
  | .impreciseNotice _ => true
  | .bnkOwnWrite _ m n _ => isMaster m && n < 24
  | .bankRetention _ m n _ => isMaster m && n < 24
  | .bankWake _ m n _ => isMaster m && n < 24
  | .wakeDone _ n => n < 24
  | .scrub _ n _ => n < 24
  | .backgroundTest _ n _ => n < 24
  | .lpdPatrol _ _ => true
  | .lckRead _ m i => isMaster m && i < 64
  | .lockRelease _ m i _ => isMaster m && i < 64
  | .lockForce _ m i _ => isMaster m && i < 64
  | .mpuSync _ m => isMaster m
  | .retirementRecord _ => true
  | .periodEnd _ => true
  | .recSel _ m _ => isMaster m
  | .feedLow _ feed _ => feed < 2
  | .feedLoss _ feed _ => feed < 2
  | .feedGood _ feed _ => feed < 2
  | .vbakLow _ _ => true
  | .holdupMeasure _ _ _ => true
  | .brownout _ rail _ => rail < 4
  | .watchdog _ => true
  | .hot _ _ _ => true
  | .thermal _ _ _ => true
  | .moduleReset _ => true
  | .powerOnReset _ => true
  | .boot _ => true
  | .timeSettle _ => true
  | .pwrDomReq _ m _ => isMaster m
  | .domainSwitchDone _ => true
  | .updOpen _ dst etype slot tag mac len crc => dst < 2 ^ 48 && etype < 2 ^ 16 && slot < 256 && tag < 2 ^ 16 && mac < 2 ^ 48 && len < 2 ^ 32 && crc < 2 ^ 32
  | .updBlock _ dst etype slot tag mac index part crc bytes => dst < 2 ^ 48 && etype < 2 ^ 16 && slot < 256 && tag < 2 ^ 16 && mac < 2 ^ 48 && index < 2 ^ 16 && part < 4 && crc < 2 ^ 32 && bytes.length ≤ 1024
  | .updClose _ dst etype slot tag mac => dst < 2 ^ 48 && etype < 2 ^ 16 && slot < 256 && tag < 2 ^ 16 && mac < 2 ^ 48
  | .updAbort _ dst etype slot tag mac => dst < 2 ^ 48 && etype < 2 ^ 16 && slot < 256 && tag < 2 ^ 16 && mac < 2 ^ 48
  | .sessionTimeout _ => true
  | .recoveryAnnounce _ => true
  | .activation _ => true
  | .floorRequest _ m _ => isMaster m
  | .floorBurnDone _ => true
  | .warnEnd _ x => x < 30
  | .partnerSilence _ => true
  | .pairLaneLinkChange _ lane _ => lane < 2
  | .serviceLinkChange _ _ => true
  | .canBusError _ n lec tec rec => n < 2 && lec < 8 && tec < 512 && rec < 256
  | .votedRead _ m addr _ _ _ => isMaster m && addr < 2 ^ 40 && addr % 4 = 0
  | .resyncCopyEnd _ => true
  | .pairDatumTrigger _ d => d < 8
  | .partnerPresentLoss _ => true
  | .feedLowClear _ feed _ => feed < 2
  | .vbakLoss _ _ => true
  | .thermalResetRelease _ _ _ => true
  | .slotEraseDone _ => true
  | .tripSequenceEnd _ n => n < 32
  | .preemptionVerified _ port _ => port < 4

end Sys2Proof
end

