-- ==== Sys2Proof/Safety.lean ====
section
/-!
DEFINITION. The terms in which statements about the module are made: a command that completes, what no command may touch,
the canonical form of the memories, and the invariants of the machine.
-/
namespace Sys2Proof.Machine

/-- Command `c` completes in `s`: it answers a next state, and `P` holds of that state. -/
def Completes (c : Instr) (s : State) (P : State → Prop) : Prop := ∃ t, exec c s = .next t ∧ P t

/-- Command `c` is a misuse that rule `r` calls unpredictable (R5): it completes, `u` being the state in which it finds the unit at
`a`, and the unit holds free values (log 78). -/
def Misused (c : Instr) (s u : State) (r a : Nat) : Prop := exec c s = .next (u.misused r a)

/-- What no command may touch: the order code (R1, R2) and the queue of the commands that wait. -/
def State.fixed (s : State) : Order × List Instr := (s.order, s.pending)

/-- The invariant of every step: SRAM and LPDDR5 stand in their canonical form. -/
def State.inv (s : State) : Prop := s.mem.wf = true

/-- SRAM and LPDDR5 read the same in two states, at every address. -/
def SameMemory (s t : State) : Prop := ∀ a, t.byteAt a = s.byteAt a

/-- Every register reads as stored the same in two states, but those whose address `p` selects. -/
def SameRegs (s t : State) (p : Nat → Bool) : Prop := ∀ a, p a = false → t.reg a = s.reg a

/-- The state in which a write of `v` by master `m` at `a`, sent `dt` clocks later, finds the module. -/
def State.toWrite (s : State) (dt m a : Nat) (v : Word) : State := s.clock dt ((s.advance dt).accessEvs m true a v)

/-- The state in which a read by master `m` at `a`, sent `dt` clocks later, finds the module. -/
def State.toRead (s : State) (dt m a : Nat) : State := s.clock dt ((s.advance dt).accessEvs m false a 0)

/-- A register access by master `m` gets through (R38): the master issues accesses, the MPU grants it, its unit is present, the
address is aligned. -/
def State.opens (s : State) (m : Nat) (write : Bool) (a : Nat) : Bool :=
  s.issues m && decide (a < sramBase) && (s.barred m write a 4).isNone && decide (a % 4 = 0)

/-- The MP performs command `c`, which has CODE `code` and at least `need` parameter words, next on mailbox pair `n`: the MP
is ready, and `c` is the oldest command that the pair has taken and not started (R54). `v` is the state in which it has been
started. -/
def State.starts (s : State) (n : Nat) (c : Cmd) (code need : Nat) (v : State) : Prop :=
  s.nextCmd n code = some c ∧ 4 + need ≤ c.words.length ∧ s.startCmd n c.id = v

/-- The state `t` to which command `c`, started in `v`, has led, with what it wrote noted for its closure digest (R248). -/
def State.noted (t v : State) (n : Nat) (c : Cmd) : State := t.noteWrites n c.id (wroteBy v t)

/-- Line port `n` takes a PTP message of a domain: PTP runs on it, its link is up, and the domain is the port's (R81, R82). -/
def State.takesPtp (s : State) (n domain : Nat) : Bool :=
  s.ptpOn n && s.regB (Reg.TRV_STS n) 0 && decide (domain = if s.ptpMode n = 2 then 0 else s.regF Reg.TIM_PTP_CFG 7 0)

/-- Line port `n` takes a Traverse frame with that header and payload for this module (R139, R140, R142, R143, R167): the link is
up, EtherType, tag, version and length are right, the frame shows no higher epoch of this pair, and DST is the module or all. -/
def State.takesFrame (s : State) (n : Nat) (h : Hdr) (b : Payload) (station : Bool) : Bool :=
  s.hasPort n && s.regB (Reg.TRV_STS n) 0 && decide (h.etype = s.regF Reg.TRV_SW_ETYPE 15 0) && s.tagOk n h && decide (h.ver = 1) &&
  decide (paylen b ≤ 1480) && !((h.src = s.ownAddr || (station && h.dst = s.ownAddr)) && decide (s.epoch < h.epoch)) &&
  (decide (h.dst = 0xFFFF) || decide (h.dst = s.ownAddr))

/-- The frame is of an upstream pair followed on port `n`, under the epoch and slot last adopted for it (Table 7.8). -/
def State.fromUpstream (s : State) (n : Nat) (h : Hdr) : Bool :=
  s.isUpstream n h.src && decide (h.epoch ≠ 0) && decide ((sget {} (s.port n).upEpochs h.src : UpEpoch) = ⟨h.epoch, h.slot⟩)

/-- Engine `e` stands in a release at an instruction word of that opcode, SPACE and ADDR, of that many clocks, and the next index
lies within its code; the fetch is answered and the release is in time; `r` is the release with those clocks counted, and `u` the
state in the clock in which the instruction takes effect, with that release (R177, R189, R202). -/
def State.atOp (s : State) (e op clocks space addr : Nat) (r : Release) (u : State) : Prop :=
  ∃ x : Release, (s.eng e).rel = some x ∧ x.phase = .run ∧ s.codeWord x = plWord op space addr ∧ x.pc + 1 < bindLen x.binding ∧
  s.domainOn 8 = true ∧ s.eccAt x.codeAt = 0 ∧ s.outOfTime x (x.due clocks) (decide (op = 0x2F)) = none ∧
  { x with clocks := x.clocks + clocks } = r ∧ ((s.until_ (x.due clocks)).meet (plEvs op e addr x)).setRel e r = u

/-- The registers whose writes do more than store RW bits and clear W1C bits. -/
def actsOnWrite (t : RegTag) : Bool :=
  match t with
  | .SYS_VIOL_STS | .SYS_RST_REQ | .SYS_SVC_MAC_LO | .SYS_SVC_MAC_HI | .SYS_SVC_ETYPE | .MSIX_TABLE | .PWR_START_CFG
  | .PWR_DOM_REQ | .MBX_POST | .MBX_TAKE | .MBX_DATAi | .MBX_HRST | .TIM_CTL | .TIM_PTP_CFG | .TIM_PORTn_CFG | .TIM_INCR_LO
  | .TIM_INCR_HI | .TIM_STEP_LO | .TIM_STEP_HI | .TIM_CMPk_CFG | .TIM_CMPk_T_LO | .TIM_CMPk_T_EXT | .TIM_CMPk_T_HI
  | .TIM_CMPk_PERIOD | .TIM_CMPk_ACTION | .TIM_PORTn_TXQ_POP | .DAT_APP_CTL | .STK_LIVE_TGT_LO | .STK_LIVE_TGT_HI | .STK_W7
  | .TRV_CTL | .TRV_MAC_LO | .TRV_MAC_HI | .TRV_SW_ETYPE | .PLM_MODE_REQ | .PLM_FIXED_CFG | .CMP_UNCH_W | .PAIR_GEN_CFG
  | .PAIR_MIRROR | .GRP_CTL | .GRP_CHEN | .GRP_ACK | .FIk_EV_POP | .CANn_CTL | .CANn_NBT | .CANn_DBT | .CANn_TSC_CAP
  | .CANn_TX_PUSH | .CANn_CMD | .CANn_TXE_POP | .CANn_RX_SEL | .CANn_OBJk_ID | .BNK_OWN | .BNK_CTL | .LCK_i | .MPU_IMP_STS
  | .REC_SEL | .UPD_FLOOR_REQ => true
  | _ => false

/-- A register whose write only stores (R32): none of the set views (R44), of the interrupt registers, or of those that
act. -/
def storesOnly (t : RegTag) (i : Nat) : Bool :=
  !showsSet t && !actsOnWrite t && (irqStatus t i).isNone && (irqEnable t i).isNone

/-- The registers whose reads do more than return the value, latch and clear RC fields. -/
def actsOnRead (t : RegTag) : Bool :=
  match t with
  | .LCK_i | .STK_CAPk_INFO | .STK_CAPk_NS | .MPU_SYNC | .BLK_WIN_DATA | .BLK_ILATE | .BLK_IMAX | .TRV_TX_FRAG => true
  | _ => false

end Sys2Proof.Machine
end

