-- ==== Sys2Proof/Certificates/Slice0/Obligations.lean ====
section
/-!
DEFINITION. The statements about the module, one for each entry of OBLIGATIONS.json.
-/
open Sys2Proof Sys2Proof.Machine

/-- For every command c, queue rest and state s whose queue is c followed by rest, step of s is exec of c on s with the
queue rest. On an empty queue the step answers the state as it was, which is the model's choice (log 13).
(95_what_each_step_holds) -/
def Obligations.StepRunsFront : Prop :=
  (∀ (c : Instr) (rest : List Instr) (s : State), s.pending = c :: rest → step s = exec c { s with pending := rest }) ∧
  (∀ s : State, s.pending = [] → step s = .next s)

/-- For every master, every register that only stores (none of the set views, the interrupt registers or the registers with
an action), every value without reserved bits and every state in which the access gets through, REGISTER_WRITE answers the
state in which the RW bits of that register take the value and its W1C bits written 1 are cleared; every other register and
every byte of memory is as before. (R32) -/
def Obligations.WriteStores : Prop :=
  ∀ (dt m a : Nat) (v : Word) (s u : State) (d : RegDesc) (i j : Nat), s.toWrite dt m a v = u →
    u.opens m true a = true → regAt a = some (d, i, j) → storesOnly d.tag i = true → v &&& ~~~d.live = 0 →
    Completes (.registerWrite dt m a v) s (fun t =>
      t = u.setReg a ((u.reg a &&& ~~~d.rw &&& ~~~(v &&& d.w1c)) ||| (v &&& d.rw)) ∧
      t.reg a = ((u.reg a &&& ~~~d.rw &&& ~~~(v &&& d.w1c)) ||| (v &&& d.rw)) ∧
      SameRegs u t (fun b => b == a) ∧ SameMemory u t)

/-- For every register that shows contents of the active configuration set, every value written and every state in which the
access gets through, REGISTER_WRITE answers the state as it was. (R44) -/
def Obligations.SetViewsIgnoreWrites : Prop :=
  ∀ (dt m a : Nat) (v : Word) (s u : State) (d : RegDesc) (i j : Nat), s.toWrite dt m a v = u →
    u.opens m true a = true → regAt a = some (d, i, j) → showsSet d.tag = true → exec (.registerWrite dt m a v) s = .next u

/-- For every register that latches others when it is read (the _LO halves, and the first words of TIM_NOW, DAT_POS,
UPD_ACT, FIk_EV and CANn_TSC), with no upset to vote away, LO_READ answers the state in which the reading master receives
its latch of the register or else the present value, and each register the read captures stands in that master's latch with
its present value; the registers, memory and every other latch are as before. A register held in a latch reads as the latch.
Of every register whatever, one that acts on its read or holds an upset included, LO_READ by a master that gets through
answers the state its read leaves, with the value read handed to the master. (R34) -/
def Obligations.LoReadLatchesHigh : Prop :=
  (∀ (dt m a : Nat) (s u : State) (d : RegDesc) (i j : Nat), s.toRead dt m a = u →
    u.opens m false a = true → regAt a = some (d, i, j) → actsOnRead d.tag = false → d.rc = 0 → u.flipsAt a = (0, 0, 0) →
    Completes (.loRead dt m a) s (fun t =>
      t.out = .readData m a ((sget none u.rlat (latchKey m a)).getD (u.view d i j a)) :: u.out ∧
      (∀ b, captured d.tag a = [b] → sget none t.rlat (latchKey m b) = some (u.viewAt b)) ∧
      (∀ k, (∀ b ∈ captured d.tag a, k ≠ latchKey m b) → sget none t.rlat k = sget none u.rlat k) ∧
      SameRegs u t (fun _ => false) ∧ SameMemory u t)) ∧
  (∀ (dt m a : Nat) (s u : State) (d : RegDesc) (i j : Nat), s.toRead dt m a = u → u.opens m false a = true → regAt a = some (d, i, j) →
    exec (.loRead dt m a) s = .next ((u.readReg m d i j a).2.emit (.readData m a (u.readReg m d i j a).1)))

/-- For the writable pairs SYS_SVC_MAC and TRV_MAC: LO_WRITE changes nothing but the writing master's write latch of the _LO
half; HI_WRITE stores the written high half and the low half that this master wrote last (zero if it has written none since
reset), and no other register. LO_WRITE of the _LO half of TIM_INCR, TIM_STEP and STK_LIVE_TGT changes the write latch
alone, too. (R35) -/
def Obligations.HighWriteStoresBothHalves : Prop :=
  (∀ (dt m a : Nat) (v : Word) (s u : State) (n : Nat), s.toWrite dt m a v = u → n < 4 → u.opens m true a = true →
    (a = Reg.SYS_SVC_MAC_LO ∨ a = Reg.TRV_MAC_LO n ∨ a = Reg.TIM_INCR_LO ∨ a = Reg.TIM_STEP_LO ∨ a = Reg.STK_LIVE_TGT_LO) →
    exec (.loWrite dt m a v) s = .next { u with wlat := sput none u.wlat (latchKey m a) (some v) }) ∧
  (∀ (dt m : Nat) (v : Word) (s u : State), s.toWrite dt m Reg.SYS_SVC_MAC_HI v = u → u.opens m true Reg.SYS_SVC_MAC_HI = true → v.toNat < 2 ^ 16 →
    Completes (.hiWrite dt m Reg.SYS_SVC_MAC_HI v) s (fun t =>
      t.reg Reg.SYS_SVC_MAC_HI = v ∧
      t.reg Reg.SYS_SVC_MAC_LO = (sget none u.wlat (latchKey m Reg.SYS_SVC_MAC_LO)).getD 0 ∧
      SameRegs u t (fun b => b == Reg.SYS_SVC_MAC_LO || b == Reg.SYS_SVC_MAC_HI) ∧ SameMemory u t)) ∧
  (∀ (dt m n : Nat) (v : Word) (s u : State), s.toWrite dt m (Reg.TRV_MAC_HI n) v = u → n < 4 → u.opens m true (Reg.TRV_MAC_HI n) = true →
    v.toNat < 2 ^ 16 →
    Completes (.hiWrite dt m (Reg.TRV_MAC_HI n) v) s (fun t =>
      t.reg (Reg.TRV_MAC_HI n) = v ∧
      t.reg (Reg.TRV_MAC_LO n) = (sget none u.wlat (latchKey m (Reg.TRV_MAC_LO n))).getD 0 ∧
      SameRegs u t (fun b => b == Reg.TRV_MAC_LO n || b == Reg.TRV_MAC_HI n) ∧ SameMemory u t))

/-- For every register with RC fields and no further action on a read, with no latch held and no upset to vote away, RC_READ
answers the state in which the master has received the value shown, the RC fields stand at their reset values and every
other bit and register is as before. (00_scope, 02_host_and_registers) -/
def Obligations.RcReadClears : Prop :=
  ∀ (dt m a : Nat) (s u : State) (d : RegDesc) (i j : Nat), s.toRead dt m a = u →
    u.opens m false a = true → regAt a = some (d, i, j) → actsOnRead d.tag = false → d.rc ≠ 0 → u.flipsAt a = (0, 0, 0) →
    sget none u.rlat (latchKey m a) = none →
    Completes (.rcRead dt m a) s (fun t =>
      t.out = .readData m a (u.view d i j a) :: u.out ∧
      t.reg a &&& d.rc = d.reset &&& d.rc ∧ t.reg a &&& ~~~d.rc = u.reg a &&& ~~~d.rc ∧
      SameRegs u t (fun b => b == a) ∧ SameMemory u t)

/-- For every register with triplicated bits whose three copies agree and every upset of one copy in these bits, VOTED_READ
by a master that gets through returns the value the register would show without the upset; the three copies agree again, the
stored value and the active set are as before, SYS_TMR_LAST holds the register's address and SYS_TMR_CNT has counted one
(saturating). TMR_SCRUB with one such upset does the same. Whatever upsets TMR_SCRUB brings, it votes every register whose
copies then differ, in turn, and no copies differ afterwards. (02_host_and_registers) -/
def Obligations.VoteMasksOneCopy : Prop :=
  (∀ (dt m a : Nat) (x : Word) (s u : State) (d : RegDesc) (i j : Nat), s.toRead dt m a = u →
    regAt a = some (d, i, j) → x &&& votedBits d.tag ≠ 0 → actsOnRead d.tag = false → u.flips = [] → u.opens m false a = true →
    Completes (.votedRead dt m a x 0 0) s (fun t =>
      t.out.head? = some (.readData m a ((sget none u.rlat (latchKey m a)).getD (u.view d i j a))) ∧
      t.flips = [] ∧ t.reg a = u.reg a ∧ t.cfgA = u.cfgA ∧ t.reg Reg.SYS_TMR_LAST = w32 a ∧
      (t.reg Reg.SYS_TMR_CNT).toNat = satAdd 0xFFFFFFFF (u.reg Reg.SYS_TMR_CNT).toNat 1 ∧ t.regB Reg.SYS_IRQ_STS 1 = true)) ∧
  (∀ (dt a : Nat) (x : Word) (s u : State) (d : RegDesc) (i j : Nat), s.advance dt = u →
    regAt a = some (d, i, j) → x &&& votedBits d.tag ≠ 0 → u.flips = [] →
    Completes (.tmrScrub dt [(a, x, 0, 0)]) s (fun t =>
      t.flips = [] ∧ t.reg a = u.reg a ∧ t.cfgA = u.cfgA ∧ t.reg Reg.SYS_TMR_LAST = w32 a ∧
      (t.reg Reg.SYS_TMR_CNT).toNat = satAdd 0xFFFFFFFF (u.reg Reg.SYS_TMR_CNT).toNat 1 ∧ t.regB Reg.SYS_IRQ_STS 1 = true)) ∧
  (∀ (dt : Nat) (l : List (Nat × Word × Word × Word)) (s u v : State), s.advance dt = u →
    l.foldl (fun s x => s.upset x.1 x.2.1 x.2.2.1 x.2.2.2) u = v →
    Completes (.tmrScrub dt l) s (fun t => t = (v.flips.map (·.1)).foldl State.vote v ∧ ∀ a, t.flipsAt a = (0, 0, 0)))

/-- For every master but the PCIe host that issues accesses, every register address the MPU grants and that belongs to no
present unit, and every value, REGISTER_WRITE answers the state in which the violation of KIND 0x3 has been decided and
nothing else is written: the error response goes to the master and the bus error reaches its release. A write from the PCIe
host to such an address is dropped, and waits as an imprecise notice. (R39) -/
def Obligations.RefusedWriteIsAViolation : Prop :=
  (∀ (dt m a : Nat) (v : Word) (s u : State), s.toWrite dt m a v = u → m ≠ 0x42 → u.issues m = true → a < sramBase →
    u.mpuRefuses m 1 a 4 = none → u.present m a = false →
    exec (.registerWrite dt m a v) s = .next (((u.violation m 3 true 2 a).emit (.errorResponse m a true)).busError m)) ∧
  (∀ (dt a : Nat) (v : Word) (s u : State), s.toWrite dt 0x42 a v = u → u.issues 0x42 = true → a < sramBase →
    u.mpuRefuses 0x42 1 a 4 = none → u.present 0x42 a = false →
    exec (.registerWrite dt 0x42 a v) s = .next { u with mem := { u.mem with notices := u.mem.notices ++ [⟨0x42, 3, a, 2⟩] } })

/-- For every state and violation (master, KIND, direction, size, address) with VALID = 0 and no other violation in this
clock: SYS_VIOL_SRC, SYS_VIOL_ADDR, VALID and SYS_IRQ_STS.VIOL are set for it and OVF stays as it was cleared. With VALID =
1 since an earlier clock, SRC and ADDR stay and OVF is set. In both cases SYS_VIOL_CNT counts one, saturating. Two
violations of one clock with VALID = 0 before leave the one with the lower master ID captured and OVF set. VIOL_CLEAR in a
later clock clears VALID and OVF. (02_host_and_registers) -/
def Obligations.ViolationCapture : Prop :=
  (∀ (s : State) (m k size a : Nat) (w : Bool), m < 256 → k < 8 → size < 8 → a < 2 ^ 40 → s.viols.clk ≠ some s.sclk →
    s.reg Reg.SYS_VIOL_STS = 0 →
    let t := s.violation m k w size a
    t.regF Reg.SYS_VIOL_SRC 7 0 = m ∧ t.regF Reg.SYS_VIOL_SRC 10 8 = k ∧ t.regB Reg.SYS_VIOL_SRC 11 = w ∧
    t.regF Reg.SYS_VIOL_SRC 14 12 = size ∧ t.reg64 Reg.SYS_VIOL_ADDR_LO Reg.SYS_VIOL_ADDR_HI = a ∧
    t.reg Reg.SYS_VIOL_STS = 1 ∧ t.regB Reg.SYS_IRQ_STS 0 = true ∧
    (t.reg Reg.SYS_VIOL_CNT).toNat = satAdd 0xFFFFFFFF (s.reg Reg.SYS_VIOL_CNT).toNat 1 ∧ SameMemory s t) ∧
  (∀ (s : State) (m k size a : Nat) (w : Bool), s.viols.clk ≠ some s.sclk → s.regB Reg.SYS_VIOL_STS 0 = true →
    let t := s.violation m k w size a
    t.reg Reg.SYS_VIOL_SRC = s.reg Reg.SYS_VIOL_SRC ∧ t.reg Reg.SYS_VIOL_ADDR_LO = s.reg Reg.SYS_VIOL_ADDR_LO ∧
    t.reg Reg.SYS_VIOL_ADDR_HI = s.reg Reg.SYS_VIOL_ADDR_HI ∧ t.regB Reg.SYS_VIOL_STS 0 = true ∧
    t.regB Reg.SYS_VIOL_STS 1 = true ∧
    (t.reg Reg.SYS_VIOL_CNT).toNat = satAdd 0xFFFFFFFF (s.reg Reg.SYS_VIOL_CNT).toNat 1) ∧
  (∀ (s : State) (m m' k k' size size' a a' : Nat) (w w' : Bool), m < 256 → m' < 256 → m ≠ m' → s.viols.clk ≠ some s.sclk →
    s.reg Reg.SYS_VIOL_STS = 0 →
    let t := (s.violation m k w size a).violation m' k' w' size' a'
    t.regF Reg.SYS_VIOL_SRC 7 0 = min m m' ∧ t.reg Reg.SYS_VIOL_STS = 3) ∧
  (∀ (dt m : Nat) (s u : State), s.toWrite dt m Reg.SYS_VIOL_STS 1 = u → u.opens m true Reg.SYS_VIOL_STS = true → u.viols.clk ≠ some u.sclk →
    Completes (.violClear dt m) s (fun t => t.reg Reg.SYS_VIOL_STS = 0 ∧ SameRegs u t (fun b => b == Reg.SYS_VIOL_STS) ∧
      SameMemory u t))

/-- On a module with a PCIe endpoint that is powered: PERST_RESET leaves SYS_PCIE_STS, SYS_PCIE_ERR and the pending-bit
array 0 and the MSI-X table at its reset contents, and no other register and no memory changes; PCIE_LINK_CHANGE down leaves
SYS_PCIE_STS 0 and changes nothing else; PCIE_LINK_CHANGE up at a speed of 1 to 4 and a width of 1, 2 or 4 with nothing
pending stores LINK, SPEED and WIDTH, keeps BME, and changes nothing else. SERVICE_LINK_CHANGE stores the link bit of
SYS_SVC_STS and nothing else. (02_host_and_registers) -/
def Obligations.PcieResetAndLink : Prop :=
  (∀ (dt : Nat) (s u : State), s.advance dt = u → u.pcieThere = true →
    Completes (.perstReset dt) s (fun t =>
      t.reg Reg.SYS_PCIE_STS = 0 ∧ t.reg Reg.SYS_PCIE_ERR = 0 ∧ t.reg (Reg.MSIX_PBA 0) = 0 ∧ t.reg (Reg.MSIX_PBA 1) = 0 ∧
      (∀ i < 256, t.reg (Reg.MSIX_TABLE i) = regReset (Reg.MSIX_TABLE i)) ∧
      SameRegs u t pcieReg ∧ SameMemory u t)) ∧
  (∀ (dt sp w : Nat) (s u : State), s.advance dt = u → u.pcieThere = true →
    exec (.pcieLinkChange dt false sp w) s = .next (u.setReg Reg.SYS_PCIE_STS 0)) ∧
  (∀ (dt sp w : Nat) (s u : State), s.advance dt = u → u.pcieThere = true → 1 ≤ sp → sp ≤ 4 → w = 1 ∨ w = 2 ∨ w = 4 →
    u.reg (Reg.MSIX_PBA 0) = 0 → u.reg (Reg.MSIX_PBA 1) = 0 →
    exec (.pcieLinkChange dt true sp w) s =
      .next (u.setReg Reg.SYS_PCIE_STS (w32 (1 + sp * 2 + w * 16 + 128 * ofBool (u.regB Reg.SYS_PCIE_STS 7))))) ∧
  (∀ (dt : Nat) (up : Bool) (s u : State), s.advance dt = u →
    exec (.serviceLinkChange dt up) s = .next (u.setRegB Reg.SYS_SVC_STS 0 up))

/-- BME_SET on with the link up sends exactly the messages of the vectors whose pending bits are set and whose mask bits are
clear, in ascending order, and clears those pending bits and no other; all other registers but SYS_PCIE_STS are as before.
BME_SET off clears BME and sends nothing. MSIX_VECTOR_UNMASK clears the mask bit; with the pending bit set and messages
possible it sends the message and clears the pending bit, else it changes no pending bit and sends nothing.
(02_host_and_registers) -/
def Obligations.PendingVectorsAreSentOnce : Prop :=
  (∀ (dt : Nat) (s u : State), s.advance dt = u → u.pcieThere = true → u.regB Reg.SYS_PCIE_STS 0 = true →
    Completes (.bmeSet dt true) s (fun t =>
      t.out = (((List.range 64).filter (fun v => u.pendingBit v && !u.masked v)).map (fun v =>
        Output.msix v (u.reg64 (Reg.MSIX_TABLE (4 * v)) (Reg.MSIX_TABLE (4 * v + 1))) (u.reg (Reg.MSIX_TABLE (4 * v + 2))))).reverse ++
        u.out ∧
      (∀ v < 64, t.pendingBit v = (u.pendingBit v && u.masked v)) ∧ t.regB Reg.SYS_PCIE_STS 7 = true ∧
      SameRegs u t (fun a => a == Reg.SYS_PCIE_STS || a == Reg.MSIX_PBA 0 || a == Reg.MSIX_PBA 1) ∧ SameMemory u t)) ∧
  (∀ (dt : Nat) (s u : State), s.advance dt = u → u.pcieThere = true →
    exec (.bmeSet dt false) s = .next (u.setRegB Reg.SYS_PCIE_STS 7 false)) ∧
  (∀ (dt v : Nat) (s u : State), s.clock dt [⟨.access, 0x42, 0⟩] = u → v < 64 → u.opens 0x42 true (Reg.MSIX_TABLE (4 * v + 3)) = true →
    let m := u.setReg (Reg.MSIX_TABLE (4 * v + 3)) ((u.reg (Reg.MSIX_TABLE (4 * v + 3))).setBit 0 false)
    exec (.msixVectorUnmask dt v) s =
      .next (if u.masked v && u.pendingBit v && u.pcieReady then
        (m.setRegB (Reg.MSIX_PBA (v / 32)) (v % 32) false).sendMsix v else m))

/-- PCIE_TLP of one register: a read whose access gets through completes with the four bytes of the value; a read that is
refused completes with Completer Abort, is counted in SYS_PCIE_ERR and reported as advisory; a write that is refused leaves
what the refusal leaves. PCIE_TLP of 8 bytes: the second access is made from the state the first one left, and where the
first one is refused the second is not performed. (02_host_and_registers) -/
def Obligations.TlpIsARunOfAccesses : Prop :=
  (∀ (dt a : Nat) (s u t : State) (w : Word), s.clock dt ((s.advance dt).tlpEvs false false a 4 []) = u →
    u.pcieThere = true → a + 4 ≤ bar0Size → a % 4 = 0 → u.access 0x42 false a 0 = .done t w →
    exec (.pcieTlp dt false false a 4 []) s =
      .next (t.emit (.pcieCompletion (some ([w.fld 7 0, w.fld 15 8, w.fld 23 16, w.fld 31 24].map (BitVec.ofNat 8)))))) ∧
  (∀ (dt a : Nat) (s u t : State) (x : Bool), s.clock dt ((s.advance dt).tlpEvs false false a 4 []) = u →
    u.pcieThere = true → a + 4 ≤ bar0Size → a % 4 = 0 → u.access 0x42 false a 0 = .refused t x →
    exec (.pcieTlp dt false false a 4 []) s = .next (((t.countF Reg.SYS_PCIE_ERR 15 0 1).emit (.pcieCompletion none)).emit .pcieAdvisory)) ∧
  (∀ (dt a : Nat) (v v' : Word) (s u t t' : State) (w w' : Word),
    s.clock dt ((s.advance dt).tlpEvs true false a 8 ((wordBytes v ++ wordBytes v').map (BitVec.ofNat 8))) = u →
    u.pcieThere = true → a + 8 ≤ bar0Size → a % 4 = 0 → u.access 0x42 true a v = .done t w → t.access 0x42 true (a + 4) v' = .done t' w' →
    exec (.pcieTlp dt true false a 8 ((wordBytes v ++ wordBytes v').map (BitVec.ofNat 8))) s = .next t') ∧
  (∀ (dt a : Nat) (v v' : Word) (s u t : State) (x : Bool),
    s.clock dt ((s.advance dt).tlpEvs true false a 8 ((wordBytes v ++ wordBytes v').map (BitVec.ofNat 8))) = u →
    u.pcieThere = true → a + 8 ≤ bar0Size → a % 4 = 0 → u.access 0x42 true a v = .refused t x →
    exec (.pcieTlp dt true false a 8 ((wordBytes v ++ wordBytes v').map (BitVec.ofNat 8))) s = .next t)

/-- REMOTE_REGISTER_ACCESS that the service port takes: with the path disabled nothing is performed and the response says
DISABLED; a malformed request is answered MALFORMED; a read of one register that gets through is answered with 0x81, COUNT,
TAG and ADDR of the request, OK, FAIL_INDEX 1 and the value; a read that is a violation is answered VIOLATION with
FAIL_INDEX 0 and zero data. A response that is not OK counts in SYS_RRA_DROP. A REGACC frame addressed to the module by DST
and SLOT is performed alike by master 0x40, and the response is queued on the port for the requester.
(02_host_and_registers, 07_traverse_protocol) -/
def Obligations.RemoteRegisterAccess : Prop :=
  (∀ (dt dst etype mac : Nat) (p : List Byte) (s u : State),
    s.clock dt ((s.advance dt).rraEvs 0x43 p) = u → u.svcTakes dst etype = true →
    u.pwr.recovery = false → u.regB Reg.SYS_RRA_CTL 4 = false →
    exec (.remoteRegisterAccess dt dst etype mac p) s =
      .next ((u.count Reg.SYS_RRA_DROP).emit (.serviceResponse mac (rraResponse (rraReq p) 2 0 [])))) ∧
  (∀ (dt dst etype mac : Nat) (p : List Byte) (s u : State),
    s.clock dt ((s.advance dt).rraEvs 0x43 p) = u → u.svcTakes dst etype = true →
    u.pwr.recovery = false → u.regB Reg.SYS_RRA_CTL 4 = true → (rraReq p).malformed = true →
    exec (.remoteRegisterAccess dt dst etype mac p) s =
      .next ((u.count Reg.SYS_RRA_DROP).emit (.serviceResponse mac (rraResponse (rraReq p) 3 0 [])))) ∧
  (∀ (dt dst etype mac : Nat) (t0 t1 a0 a1 a2 a3 a4 : Byte) (s u t : State) (w : Word),
    s.clock dt ((s.advance dt).rraEvs 0x43 [1, 1, t0, t1, a0, a1, a2, a3, a4, 0, 0, 0]) = u →
    u.svcTakes dst etype = true → u.pwr.recovery = false → u.regB Reg.SYS_RRA_CTL 4 = true →
    a0.toNat % 4 = 0 →
    u.access 0x43 false (a0.toNat + a1.toNat * 2 ^ 8 + a2.toNat * 2 ^ 16 + a3.toNat * 2 ^ 24 + a4.toNat * 2 ^ 32) 0 = .done t w →
    exec (.remoteRegisterAccess dt dst etype mac [1, 1, t0, t1, a0, a1, a2, a3, a4, 0, 0, 0]) s =
      .next (t.emit (.serviceResponse mac ([0x81, 1, t0, t1, a0, a1, a2, a3, a4, 0, 1, 0] ++
        [w.fld 7 0, w.fld 15 8, w.fld 23 16, w.fld 31 24].map (BitVec.ofNat 8))))) ∧
  (∀ (dt dst etype mac : Nat) (t0 t1 a0 a1 a2 a3 a4 : Byte) (s u t : State),
    s.clock dt ((s.advance dt).rraEvs 0x43 [1, 1, t0, t1, a0, a1, a2, a3, a4, 0, 0, 0]) = u →
    u.svcTakes dst etype = true → u.pwr.recovery = false → u.regB Reg.SYS_RRA_CTL 4 = true →
    a0.toNat % 4 = 0 →
    u.access 0x43 false (a0.toNat + a1.toNat * 2 ^ 8 + a2.toNat * 2 ^ 16 + a3.toNat * 2 ^ 24 + a4.toNat * 2 ^ 32) 0 = .refused t true →
    exec (.remoteRegisterAccess dt dst etype mac [1, 1, t0, t1, a0, a1, a2, a3, a4, 0, 0, 0]) s =
      .next ((t.count Reg.SYS_RRA_DROP).emit (.serviceResponse mac
        [0x81, 1, t0, t1, a0, a1, a2, a3, a4, 1, 0, 0, 0, 0, 0, 0]))) ∧
  (∀ (dt n mac : Nat) (h : Hdr) (t0 t1 a0 a1 a2 a3 a4 : Byte) (s u t : State) (w : Word),
    (s.clock dt ((s.advance dt).rraEvs 0x40 [1, 1, t0, t1, a0, a1, a2, a3, a4, 0, 0, 0])).received n h.vid.isSome 32 = u →
    h.etype = u.regF Reg.TRV_SW_ETYPE 15 0 → u.hasPort n = true → u.regB (Reg.TRV_STS n) 0 = true → u.tagOk n h = true → h.ver = 1 → h.dst = u.ownAddr →
    h.slot = u.slotId → u.regB Reg.SYS_RRA_CTL n = true → a0.toNat % 4 = 0 →
    u.access 0x40 false (a0.toNat + a1.toNat * 2 ^ 8 + a2.toNat * 2 ^ 16 + a3.toNat * 2 ^ 24 + a4.toNat * 2 ^ 32) 0 = .done t w →
    let r : Payload := .regacc mac ([0x81, 1, t0, t1, a0, a1, a2, a3, a4, 0, 1, 0] ++
      [w.fld 7 0, w.fld 15 8, w.fld 23 16, w.fld 31 24].map (BitVec.ofNat 8))
    exec (.regacc dt n h mac [1, 1, t0, t1, a0, a1, a2, a3, a4, 0, 0, 0]) s =
      .next (t.queueTo n mac (t.ownHdr n h.src false r) r))

/-- MBX_POST with GO = 1 and LEN 8 to 16 on an empty mailbox 0 to 7 stores LEN and sets GO; with GO = 0 it changes nothing;
over a message that stands, or with another LEN, it is a misuse. MBX_TAKE of mailbox 8 to 15 clears GO and SENDER_RESET.
MBX_HRST of mailbox 0 to 7 with a message clears MBX_IRQ_EN, EMPTY and POSTED and sets SENDER_RESET, and the message stands;
of mailbox 8 to 15 it clears GO, LEN and the data and sets ABORTED. (03_mailboxes_and_commands) -/
def Obligations.MailboxPostTakeReset : Prop :=
  (∀ (dt m : Nat) (n len : Nat) (s u : State), s.toWrite dt m (Reg.MBX_POST n) (w32 (0x100 + len)) = u → n < 8 → u.opens m true (Reg.MBX_POST n) = true → 8 ≤ len → len ≤ 16 → u.mbxGo n = false →
    exec (.mbxPost dt m n (w32 (0x100 + len))) s = .next ((u.setRegF (Reg.MBX_STS n) 12 8 len).setRegB (Reg.MBX_STS n) 0 true)) ∧
  (∀ (dt m : Nat) (n len : Nat) (s u : State), s.toWrite dt m (Reg.MBX_POST n) (w32 len) = u → n < 8 → u.opens m true (Reg.MBX_POST n) = true → len < 32 →
    exec (.mbxPost dt m n (w32 len)) s = .next (u)) ∧
  (∀ (dt m : Nat) (n len : Nat) (s u : State), s.toWrite dt m (Reg.MBX_POST n) (w32 (0x100 + len)) = u → n < 8 → u.opens m true (Reg.MBX_POST n) = true → len < 32 → u.mbxGo n = true ∨ len < 8 ∨ 16 < len →
    exec (.mbxPost dt m n (w32 (0x100 + len))) s = .next (u.misused 51 0x20000)) ∧
  (∀ (dt m : Nat) (n : Nat) (s u : State), s.toWrite dt m (Reg.MBX_TAKE n) 1 = u → n < 16 → u.opens m true (Reg.MBX_TAKE n) = true → 8 ≤ n →
    exec (.mbxTake dt m n 1) s = .next ((u.setRegB (Reg.MBX_STS n) 0 false).setRegB (Reg.MBX_STS n) 17 false)) ∧
  ((∀ (dt m n : Nat) (s u : State), s.toWrite dt m (Reg.MBX_HRST n) 1 = u → n < 8 → u.opens m true (Reg.MBX_HRST n) = true → u.mbxGo n = true →
    Completes (.mbxHrst dt m n 1) s (fun t =>
      t.reg (Reg.MBX_STS n) = ((((u.reg (Reg.MBX_STS n)).setBit 24 false).setBit 25 false).setBit 17 true) ∧
      t.reg (Reg.MBX_IRQ_EN n) = 0 ∧
      SameRegs u t (fun a => a == Reg.MBX_STS n || a == Reg.MBX_IRQ_EN n) ∧ SameMemory u t)) ∧
  (∀ (dt m n : Nat) (s u : State), s.toWrite dt m (Reg.MBX_HRST n) 1 = u → 8 ≤ n → n < 16 → u.opens m true (Reg.MBX_HRST n) = true →
    u.mbxGo n = true →
    Completes (.mbxHrst dt m n 1) s (fun t =>
      t.mbxGo n = false ∧ t.mbxLen n = 0 ∧ (∀ k < 16, t.reg (Reg.MBX_DATAi n k) = 0) ∧ t.regB (Reg.MBX_STS n) 16 = true ∧
      t.regB (Reg.MBX_STS n) 24 = false ∧ t.regB (Reg.MBX_STS n) 25 = false ∧ t.reg (Reg.MBX_IRQ_EN n) = 0 ∧
      (∀ k ≠ n, k < 16 → t.reg (Reg.MBX_STS k) = u.reg (Reg.MBX_STS k)) ∧ SameMemory u t)))

/-- MP_TAKE with the MP ready takes from the first mailbox after the one served last that holds a command and has a free
slot: LEN words are copied into a new slot, GO and SENDER_RESET clear, EMPTY is set. A message that is no retry and whose
CODE is in the catalogue waits in its slot behind the others. MP_POST_RESPONSE with the MP ready and GO of mailbox n + 8
clear lays the words of the response that completed first into mailbox n + 8, sets LEN, GO and POSTED, and frees the slot,
where its closure shows no difference. (03_mailboxes_and_commands) -/
def Obligations.MpTakesAndPosts : Prop :=
  (∀ (dt k : Nat) (s u : State), s.clock dt (s.advance dt).takeEvs = u → u.mpReady = true → k < 8 →
    (∀ j < k, (u.mbxGo ((u.mp.served + 1 + j) % 8) && decide ((u.mpPair ((u.mp.served + 1 + j) % 8)).cmds.length < 4)) = false) →
    u.mbxGo ((u.mp.served + 1 + k) % 8) = true → (u.mpPair ((u.mp.served + 1 + k) % 8)).cmds.length < 4 →
    (item (u.mbxWords ((u.mp.served + 1 + k) % 8) (u.mbxLen ((u.mp.served + 1 + k) % 8))) 0).bit 20 = false →
    (item (u.mbxWords ((u.mp.served + 1 + k) % 8) (u.mbxLen ((u.mp.served + 1 + k) % 8))) 0).fld 19 16 = 1 →
    catalogue.contains ((item (u.mbxWords ((u.mp.served + 1 + k) % 8) (u.mbxLen ((u.mp.served + 1 + k) % 8))) 0).fld 15 0) = true →
    Completes (.mpTake dt) s (fun t =>
      t.mp.served = (u.mp.served + 1 + k) % 8 ∧
      (t.mpPair t.mp.served).cmds = (u.mpPair t.mp.served).cmds ++
        [{ id := u.mp.nextId, words := u.mbxWords t.mp.served (u.mbxLen t.mp.served),
           sreset := u.regB (Reg.MBX_STS t.mp.served) 17 }] ∧
      (∀ j ≠ t.mp.served, t.mpPair j = u.mpPair j) ∧
      t.reg (Reg.MBX_STS t.mp.served) =
        (((u.reg (Reg.MBX_STS t.mp.served)).setBit 0 false).setBit 17 false).setBit 24 true ∧
      SameRegs u t (fun a => a == Reg.MBX_STS t.mp.served || a == Reg.MSIX_PBA 0 || a == Reg.MSIX_PBA 1) ∧ SameMemory u t)) ∧
  (∀ (dt n : Nat) (o : Option Nat) (c : Cmd) (s u : State), s.clock dt ((s.advance dt).postEvs n o) = u → u.mpReady = true → n < 8 →
    u.mbxGo (n + 8) = false →
    (u.mpPair n).cmds.find? (fun x => x.stage = .done) = some c → c.response.length ≤ 16 → u.closes c o = true →
    Completes (.mpPostResponse dt ⟨n, o⟩) s (fun t =>
      (∀ k < c.response.length, t.reg (Reg.MBX_DATAi (n + 8) k) = c.response.getD k 0) ∧
      t.mbxLen (n + 8) = c.response.length ∧ t.mbxGo (n + 8) = true ∧ t.regB (Reg.MBX_STS (n + 8)) 25 = true ∧
      (t.mpPair n).cmds = (u.mpPair n).cmds.filter (fun x => x.id ≠ c.id) ∧
      (∀ j ≠ n, t.mpPair j = u.mpPair j) ∧
      (∀ j, j ≠ n + 8 → j < 16 → t.reg (Reg.MBX_STS j) = u.reg (Reg.MBX_STS j)) ∧ SameMemory u t))

/-- IDENT, STATUS_GET, ECHO, CFG_STATUS, PRG_INFO, FRC_LIST, PAIR_STATUS, REC_INFO and UPD_STATUS, once started, complete
with OK and the result words of Table 3.8; nothing else changes but the note of what the command wrote for its closure
digest. (03_mailboxes_and_commands) -/
def Obligations.StatusCommandsAnswer : Prop :=
  (∀ (dt n : Nat) (c : Cmd) (s u v : State), s.advance dt = u → u.starts n c 0x0001 0 v →
    exec (.ident dt n) s = .next ((v.noted v n c).finishOk c.id [v.sysId, v.reg Reg.SYS_FWREV, v.reg Reg.SYS_SERIAL_LO, v.reg Reg.SYS_SERIAL_HI])) ∧
  (∀ (dt n : Nat) (c : Cmd) (s u v : State), s.advance dt = u → u.starts n c 0x0002 0 v →
    exec (.statusGet dt n) s = .next ((v.noted v n c).finishOk c.id [w32 (v.role + 8 * ofBool (decide (v.plm.mode = .fixed)) +
      16 * ofBool (decide (v.plm.forces ≠ [])) + 32 * ofBool v.pwr.ready), v.reg Reg.PAIR_EPOCH, w32 v.mp.gen, v.retiredCounts])) ∧
  (∀ (dt n : Nat) (c : Cmd) (s u v : State), s.advance dt = u → u.starts n c 0x0003 0 v →
    exec (.echo dt n) s = .next ((v.noted v n c).finishOk c.id (c.words.drop 4))) ∧
  (∀ (dt n : Nat) (c : Cmd) (s u v : State), s.advance dt = u → u.starts n c 0x0112 0 v →
    exec (.cfgStatus dt n) s = .next ((v.noted v n c).finishOk c.id [w32 v.mp.gen,
      w32 (v.mp.session + 256 * ofBool v.mp.swap.isSome), (v.mp.swap.map (fun a => a.word4)).getD 0])) ∧
  (∀ (dt n : Nat) (c : Cmd) (s u v : State), s.advance dt = u → u.starts n c 0x0201 0 v →
    exec (.prgInfo dt n) s = .next ((v.noted v n c).finishOk c.id [w32 v.prog.crc, w32 v.prog.syms.length, w32 v.prog.tasks, w32 v.prog.tool])) ∧
  (∀ (dt n : Nat) (c : Cmd) (fs : List Force) (s u v : State), s.advance dt = u → u.starts n c 0x0304 1 v → (v.plm.forces.drop (c.n 4)).take 3 = fs →
    exec (.frcList dt n) s = .next ((v.noted v n c).finishOk c.id ([w32 v.plm.forces.length, w32 fs.length] ++
      fs.flatMap (fun f => [w32 f.sym, w32 f.value, w32 (f.value / 2 ^ 32)])))) ∧
  (∀ (dt n : Nat) (c : Cmd) (s u v : State), s.advance dt = u → u.starts n c 0x0601 0 v →
    exec (.pairStatus dt n) s = .next ((v.noted v n c).finishOk c.id [w32 v.role, w32 v.partner, v.reg Reg.PAIR_EPOCH, v.reg Reg.PAIR_LANES])) ∧
  (∀ (dt n : Nat) (c : Cmd) (s u v : State), s.advance dt = u → u.starts n c 0x0701 0 v →
    exec (.recInfo dt n) s = .next ((v.noted v n c).finishOk c.id [w32 v.recd.seq, w32 (v.recd.seq / 2 ^ 32), w32 (v.recValid 0), w32 (v.recValid 1)])) ∧
  (∀ (dt n : Nat) (c : Cmd) (s u v : State), s.advance dt = u → u.starts n c 0x0801 0 v →
    exec (.updStatus dt n) s = .next ((v.noted v n c).finishOk c.id [v.updSts, v.updSecver, v.updFwrev 0, v.updFwrev 1]))

/-- CFG_READ of 1 to 11 words inside an item answers with the words of the active or shadow set; VAL_READ of a symbol with
the values from that symbol on; DAT_STATUS, STK_STATUS and CH_STATUS with the present state; DIAG_COUNTERS with the counters
of the unit, in an order the manual leaves open (log 23). Nothing else changes but the note of what the command wrote for
its closure digest. (03_mailboxes_and_commands) -/
def Obligations.ReadingCommandsAnswer : Prop :=
  (∀ (dt n : Nat) (c : Cmd) (cat it first k : Nat) (s u v : State), s.advance dt = u → u.starts n c 0x0106 2 v → (c.w 4).fld 3 0 = cat → (c.w 4).fld 20 8 = it → (c.w 4).fld 31 22 = first → c.n 5 = k → 1 ≤ cat → cat ≤ 7 → 1 ≤ k → k ≤ 11 → first + k ≤ itemWords cat it →
    exec (.cfgRead dt n) s = .next ((v.noted v n c).finishOk c.id ((List.range k).map (fun j =>
      if (c.w 4).bit 4 then v.sw cat it (first + j) else v.cw cat it (first + j))))) ∧
  (∀ (dt n : Nat) (c : Cmd) (s u v : State), s.advance dt = u → u.starts n c 0x0210 2 v → 1 ≤ c.n 5 → c.n 5 ≤ 11 → (v.symbol (c.n 4)).isSome = true →
    exec (.valRead dt n) s = .next ((v.noted v n c).finishOk c.id
      (((List.range (c.n 5)).flatMap (fun k => v.symWords (c.n 4 + k)) ++ List.replicate (c.n 5) 0).take (c.n 5)))) ∧
  (∀ (dt n : Nat) (c : Cmd) (d p : Nat) (s u v : State), s.advance dt = u → u.starts n c 0x0401 1 v → c.n 4 = d → d ≤ 7 → (wrapPos (v.datMod d) (v.datNow d).u).1 = p →
    exec (.datStatus dt n) s = .next ((v.noted v n c).finishOk c.id
      [w32 (v.datSource d + 256 * (v.datSts d).fld 7 0), w32 p, w32 (p / 2 ^ 32), w32 (v.dat d).queue.length])) ∧
  (∀ (dt n : Nat) (c : Cmd) (d : Nat) (s u v : State), s.advance dt = u → u.starts n c 0x0410 1 v → c.n 4 = d → d ≤ 7 →
    exec (.stkStatus dt n) s = .next ((v.noted v n c).finishOk c.id [w32 (v.armedEntries (fun e => e = d)).length, v.stkNext d])) ∧
  (∀ (dt n : Nat) (c : Cmd) (k : Nat) (s u v : State), s.advance dt = u → u.starts n c 0x0501 1 v → c.n 4 = k → k ≤ 31 → v.hasGroup (grpOf k) = true → v.domainOn 9 = true →
    exec (.chStatus dt n) s = .next ((v.noted v n c).finishOk c.id
      [w32 (v.chMode k), w32 (v.chState k), v.chSts k, v.reg (Reg.CH_VALUE k)])) ∧
  (∀ (dt n : Nat) (c : Cmd) (s u v : State), s.advance dt = u → u.starts n c 0x0902 1 v → c.n 4 ≤ 16 → c.n 4 ≠ 6 → ¬ (c.n 4 = 12 ∧ v.order = .s) → v.domainOn (regDomain (unitBase (c.n 4))) = true →
    exec (.diagCounters dt n) s = .next ((v.noted v n c).finishOk c.id
      ((((countersLow (c.n 4) ++ countersHigh (c.n 4)).map v.counterSum) ++ List.replicate 12 0).take 12)))

/-- In ALONE, ACTIVE or OUT_OF_SERVICE: CFG_OPEN with no session opens the next number, skipping 0; CFG_CLOSE in its session
ends it; CFG_ABANDON copies the active set into the shadow set and ends the session; CFG_COPY and CFG_WRITE in session and
with no swap armed change the shadow set alone; CFG_SWAP whose check passes arms its trigger and goes on; CFG_SWAP_CANCEL
before the trigger has fallen disarms the swap, whose command is answered CANCELLED; CFG_BULK and CFG_CHECK that nothing
stands against go on to LONG_COMMAND_COMPLETE. (03_mailboxes_and_commands) -/
def Obligations.ConfigurationCommands : Prop :=
  (∀ (dt n : Nat) (c : Cmd) (k : Nat) (t : State) (s u v : State), s.advance dt = u → u.starts n c 0x0101 0 v → v.configRole = true → v.mp.session = 0 → (if 255 ≤ v.mp.sessions then 1 else v.mp.sessions + 1) = k → { v with mp := { v.mp with session := k, sessions := k } } = t →
    exec (.cfgOpen dt n) s = .next (((t.record 0 [t.numbersRec]).noted v n c).finishOk c.id [w32 k])) ∧
  (∀ (dt n : Nat) (c : Cmd) (t : State) (s u v : State), s.advance dt = u → u.starts n c 0x0102 0 v → v.configRole = true → v.inSession c = true → v.mp.swap = none → { v with mp := { v.mp with session := 0 } } = t →
    exec (.cfgClose dt n) s = .next (((t.record 0 [t.numbersRec]).noted v n c).finishOk c.id [])) ∧
  (∀ (dt n : Nat) (c : Cmd) (s u v : State), s.advance dt = u → u.starts n c 0x0103 0 v → v.configRole = true → v.mp.session ≠ 0 → v.mp.swap = none →
    exec (.cfgAbandon dt n) s = .next ((((v.setShadow v.cfgA).setSess 0).noted v n c).finishOk c.id [w32 v.mp.session])) ∧
  (∀ (dt n : Nat) (c : Cmd) (s u v : State), s.advance dt = u → u.starts n c 0x0104 1 v → v.configRole = true → v.inSession c = true → v.mp.swap = none →
    exec (.cfgCopy dt n) s = .next (((v.setShadow (mergeSets ((c.w 4).fld 6 0) v.cfgS v.cfgA)).noted v n c).finishOk c.id [])) ∧
  (∀ (dt n : Nat) (c : Cmd) (cat it first : Nat) (ws : List Word) (s u v : State), s.advance dt = u → u.starts n c 0x0105 1 v → v.configRole = true → v.inSession c = true → v.mp.swap = none → (c.w 4).fld 3 0 = cat → (c.w 4).fld 20 8 = it → (c.w 4).fld 31 22 = first → c.words.drop 5 = ws → 1 ≤ cat → cat ≤ 7 → first + ws.length ≤ itemWords cat it →
    exec (.cfgWrite dt n) s = .next (((v.setShadow ((List.range ws.length).foldl (fun m k =>
      sput 0 m (cfgKey cat it (first + k)) (item ws k)) v.cfgS)).noted v n c).finishOk c.id [])) ∧
  (∀ (dt n : Nat) (c : Cmd) (t : State) (s u v : State), s.advance dt = u → u.starts n c 0x0110 4 v → v.configRole = true → v.inSession c = true → v.mp.swap = none → v.handArmed = false → v.triggerCheck c = none → v.checkSet ((c.w 4).fld 6 0) (v.resulting ((c.w 4).fld 6 0)) = none → { v with mp := { v.mp with swap := some (if v.fallsNow (v.triggerOf (c.w 4) c.pos ((c.w 7).bit 0)) then
      { mask := (c.w 4).fld 6 0, trig := v.triggerOf (c.w 4) c.pos ((c.w 7).bit 0), slot := c.id, word4 := c.w 4,
        fallen := some v.now, clk := v.sclk + 1, gen := v.pair.gen }
      else { mask := (c.w 4).fld 6 0, trig := v.triggerOf (c.w 4) c.pos ((c.w 7).bit 0), slot := c.id, word4 := c.w 4 }) } } = t →
    exec (.cfgSwap dt n) s = .next ((t.record 0 [t.armRec] : State).noted v n c)) ∧
  (∀ (dt n : Nat) (c : Cmd) (a : ArmedSwap) (t : State) (s u v : State), s.clock dt (((s.advance dt).nextCmd n 0x0111).elim [] (fun _ => [⟨.swapCancel, 0, 0⟩])) = u → u.starts n c 0x0111 0 v → v.configRole = true → v.testTrigger.mp.swap = some a → a.fallen = none → { v.testTrigger with mp := { v.testTrigger.mp with swap := none } } = t →
    exec (.cfgSwapCancel dt n) s = .next ((((t.record 0 [t.armRec]).finishErr a.slot stCancelled).noted v n c).finishOk c.id [])) ∧
  (∀ (dt n : Nat) (c : Cmd) (s u v : State), s.advance dt = u → u.starts n c 0x0107 4 v → v.bulkCheck c = none →
    exec (.cfgBulk dt n) s = .next (v.noted v n c)) ∧
  (∀ (dt n : Nat) (c : Cmd) (s u v : State), s.advance dt = u → u.starts n c 0x0108 1 v → v.configRole = true →
    exec (.cfgCheck dt n) s = .next (v.noted v n c)) ∧
  (∀ (s : State) (m : Sparse Word), (s.setShadow m).cfgS = m ∧ (s.setShadow m).cfgA = s.cfgA ∧ (s.setShadow m).mp = s.mp ∧
    SameMemory s (s.setShadow m))

/-- PRG_LOAD_BEGIN in a loading role begins a load of the size and CRC given; PRG_LOAD_BLOCK and PRG_LOAD_END that nothing
stands against go on; VAL_WRITE on a module that runs the application lays the value into the image store; CONST_WRITE
queues the write for every pair and goes on; LPD_READ and LPD_WRITE make one access by master 0x01 and answer with it;
FRC_SET adds or replaces a force in one clock, FRC_RELEASE releases one and FRC_RELEASE_ALL releases all. After a force is
set the table holds that value for the symbol and no other. (03_mailboxes_and_commands, 09_tasks_and_scan,
12_pair_redundancy) -/
def Obligations.ProgramValueAndForceCommands : Prop :=
  (∀ (dt n : Nat) (c : Cmd) (t : State) (s u v : State), s.advance dt = u → u.starts n c 0x0202 2 v → v.loadRole = true → c.n 4 ≤ storeBytes → v.dropLoaded = t →
    exec (.prgLoadBegin dt n) s = .next ((({ t with pair := { t.pair with loaded := some { size := c.n 4, crc := c.n 5 } } } : State).noted v n c).finishOk c.id [])) ∧
  (∀ (dt n : Nat) (c : Cmd) (s u v : State), s.advance dt = u → u.starts n c 0x0203 5 v → v.blockLoadCheck c = none →
    exec (.prgLoadBlock dt n) s = .next (v.noted v n c)) ∧
  (∀ (dt n : Nat) (c : Cmd) (s u v : State), s.advance dt = u → u.starts n c 0x0204 0 v → v.pair.loaded.isSome = true →
    exec (.prgLoadEnd dt n) s = .next (v.noted v n c)) ∧
  (∀ (dt n : Nat) (c : Cmd) (y : Symbol) (s u v : State), s.clock dt (((s.advance dt).nextCmd n 0x0211).elim [] (fun _ => [⟨.valWrite, 0, 0⟩])) = u → u.starts n c 0x0211 3 v → v.runs = true → v.symbol (c.n 4) = some y → v.mayWriteVal y = true →
    exec (.valWrite dt n) s = .next ((((v.putSymbol y (c.value y)).record 0 [.value (c.n 4) (c.value y)]).noted v n c).finishOk c.id [])) ∧
  (∀ (dt n : Nat) (c : Cmd) (k : Nat) (s u v : State), s.advance dt = u → u.starts n c 0x0212 3 v → v.runs = true → v.constWords (c.n 4) = some k → v.constPairs ≠ [] →
    exec (.constWrite dt n) s = .next (({ v with plm := { v.plm with
      consts := v.plm.consts ++ [⟨c.n 4, [c.w 5, c.w 6].take k, v.constPairs, c.id⟩] } } : State).noted v n c)) ∧
  (∀ (dt n : Nat) (c : Cmd) (t : State) (bs : List Byte) (s u v : State), s.advance dt = u → u.starts n c 0x0220 3 v → lpdCheck c = none → v.memAccess 1 false c.addr (c.n 6) [] = (t, .data bs) →
    exec (.lpdRead dt n) s = .next ((t.noted v n c).finishOk c.id (packBytes bs))) ∧
  (∀ (dt n : Nat) (c : Cmd) (t : State) (ds bs : List Byte) (s u v : State), s.advance dt = u → u.starts n c 0x0221 3 v → lpdCheck c = none → 7 + (c.n 6 + 3) / 4 ≤ c.words.length → ((c.words.drop 7).flatMap wordBytes).map (fun b => (BitVec.ofNat 8 b : Byte)) = ds → v.memAccess 1 true c.addr (c.n 6) (ds.take (c.n 6)) = (t, .data bs) →
    exec (.lpdWrite dt n) s = .next ((t.noted v n c).finishOk c.id [])) ∧
  (∀ (dt n : Nat) (c : Cmd) (y : Symbol) (s u v : State), s.clock dt (((s.advance dt).nextCmd n 0x0301).elim [] (fun _ => [⟨.force, 0, 0⟩])) = u → u.starts n c 0x0301 3 v → v.runs = true → v.symbol (c.n 4) = some y → canForce y = true → (!(v.plm.forces.any (fun f => f.sym = c.n 4)) && 256 ≤ v.plm.forces.length) = false →
    exec (.frcSet dt n) s = .next (((v.setForce (c.n 4) (some (c.pos % 2 ^ y.bits))).noted v n c).finishOk c.id [])) ∧
  (∀ (dt n : Nat) (c : Cmd) (s u v : State), s.clock dt (((s.advance dt).nextCmd n 0x0302).elim [] (fun _ => [⟨.force, 0, 0⟩])) = u → u.starts n c 0x0302 1 v → (v.symbol (c.n 4)).isSome = true → (v.plm.forces.any (fun f => f.sym = c.n 4)) = true →
    exec (.frcRelease dt n) s = .next (((v.setForce (c.n 4) none).noted v n c).finishOk c.id [])) ∧
  (∀ (dt n : Nat) (c : Cmd) (s u v : State), s.clock dt (((s.advance dt).nextCmd n 0x0303).elim [] (fun _ => [⟨.force, 0, 0⟩])) = u → u.starts n c 0x0303 0 v →
    exec (.frcReleaseAll dt n) s = .next (((v.plm.forces.foldl (fun (t : State) f => t.setForce f.sym none) v).noted v n c).finishOk c.id [w32 v.plm.forces.length])) ∧
  (∀ (s : State) (y x : Nat), (s.setForce y (some x)).plm.forces = s.plm.forces.filter (fun f => f.sym ≠ y) ++ [⟨y, x⟩]) ∧
  (∀ (s : State) (y : Nat), (s.setForce y none).plm.forces = s.plm.forces.filter (fun f => f.sym ≠ y))

/-- DAT_STOP begins the stop of the datum; STK_CANCEL_ALL disarms every armed entry of the datum and answers their number;
CH_REVIVE clears the retirement of a retired channel; CH_TRIM_CAPTURE and CH_PULSE_TEST begin; CH_TRIM_CLEAR clears the
trim; REC_PERIOD stores the period and closes the stretch with cause 5; REC_COPY, SELFTEST_FULL and UPD_CHAIN begin;
UPD_SCHEDULE arms an activation of a slot that holds an image, UPD_CANCEL disarms it; CMP_SPLIT and CMP_JOIN ask for a split
or a join of a pair that allows it; MP_RESTART with its key answers OK, and the restart follows the response.
(03_mailboxes_and_commands, 05_datum_and_trajectories, 06_stake_unit, 11_lockstep_and_comparison, 13_universal_channels,
16_event_recorder, 18_firmware_update) -/
def Obligations.UnitCommands : Prop :=
  (∀ (dt n : Nat) (c : Cmd) (s u v : State), s.clock dt (((s.advance dt).nextCmd n 0x0402).elim [] (fun c => [⟨.datStop, c.n 4, 0⟩])) = u → u.starts n c 0x0402 1 v → c.n 4 ≤ 7 →
    exec (.datStop dt n) s = .next ((v.stopDatum (c.n 4) c.id : State).noted v n c)) ∧
  (∀ (dt n : Nat) (c : Cmd) (es : List (Nat × Stake)) (s u v : State), s.clock dt (((s.advance dt).nextCmd n 0x0411).elim [] (fun c => ((s.advance dt).armedEntries (fun e => e = c.n 4)).map (fun e => ⟨.disarm, e.1, 0⟩))) = u → u.starts n c 0x0411 1 v → c.n 4 ≤ 7 → v.armedEntries (fun e => e = c.n 4) = es →
    exec (.stkCancelAll dt n) s = .next (((es.foldl (fun (t : State) e => t.disarmEntry e.1) v).noted v n c).finishOk c.id [w32 es.length])) ∧
  (∀ (dt n : Nat) (c : Cmd) (k : Nat) (s u v : State), s.clock dt (((s.advance dt).nextCmd n 0x0502).elim [] (fun c => [⟨.revive, grpOf (c.n 4), c.n 4⟩])) = u → u.starts n c 0x0502 1 v → c.n 4 = k → k ≤ 31 → v.hasGroup (grpOf k) = true → v.domainOn 9 = true → (v.chan k).retired = true →
    exec (.chRevive dt n) s = .next (((v.revive k).noted v n c).finishOk c.id [])) ∧
  (∀ (dt n : Nat) (c : Cmd) (k : Nat) (s u v : State), s.advance dt = u → u.starts n c 0x0503 3 v → c.n 4 = k → k ≤ 31 → v.hasGroup (grpOf k) = true → v.domainOn 9 = true → v.noTrim k = false →
    exec (.chTrimCapture dt n) s = .next (v.noted v n c)) ∧
  (∀ (dt n : Nat) (c : Cmd) (k : Nat) (s u v : State), s.advance dt = u → u.starts n c 0x0504 1 v → c.n 4 = k → k ≤ 31 → v.hasGroup (grpOf k) = true → v.domainOn 9 = true →
    exec (.chTrimClear dt n) s = .next ((((((v.setReg (Reg.CH_TRIM_OFS k) 0).setReg (Reg.CH_TRIM_GAIN k) 0).setRegF (Reg.CH_TRIM_T k) 17 16 0).calStale k).noted v n c).finishOk
      c.id [])) ∧
  (∀ (dt n : Nat) (c : Cmd) (k : Nat) (s u v : State), s.clock dt (((s.advance dt).nextCmd n 0x0505).elim [] (fun c => [⟨.pulseTest, c.n 4, 0⟩])) = u → u.starts n c 0x0505 2 v → c.n 4 = k → k ≤ 31 → v.hasGroup (grpOf k) = true → v.domainOn 9 = true → 1 ≤ c.n 5 → c.n 5 ≤ 200 → v.supply (grpOf k) = 1 → v.chState k = 1 →
    exec (.chPulseTest dt n) s = .next ((v.modChan k (fun x => { x with test := true, changed := v.sclk }) : State).noted v n c)) ∧
  (∀ (dt n : Nat) (c : Cmd) (s u v : State), s.clock dt (((s.advance dt).nextCmd n 0x0702).elim [] (fun _ => [⟨.recPeriod, 0, 0⟩])) = u → u.starts n c 0x0702 1 v → 1 ≤ c.n 4 → c.n 4 ≤ 1440 →
    exec (.recPeriod dt n) s = .next ((((v.setReg Reg.REC_PERIOD (c.w 4)).closeStretch 5).noted v n c).finishOk c.id [])) ∧
  (∀ (dt n : Nat) (c : Cmd) (s u v : State), s.advance dt = u → u.starts n c 0x0703 6 v → v.recCheck c = none →
    exec (.recCopy dt n) s = .next (v.noted v n c)) ∧
  (∀ (dt n : Nat) (c : Cmd) (s u v : State), s.clock dt (((s.advance dt).nextCmd n 0x0802).elim [] (fun c => [⟨.updSchedule, c.n 4, 0⟩])) = u → u.starts n c 0x0802 4 v → c.n 4 ≤ 1 → c.n 5 < 1000000000 → c.n 7 ≤ 0xFFFF → v.holdsImage (c.n 4) = true →
    exec (.updSchedule dt n) s = .next (((((v.setReg Reg.UPD_ACT_NS (c.w 5)).setReg Reg.UPD_ACT_SEC (c.w 6)).setReg Reg.UPD_ACT_EXT
      (w32 (c.n 7 + 2 ^ 16 * c.n 4 + 2 ^ 17))).noted v n c).finishOk c.id [])) ∧
  (∀ (dt n : Nat) (c : Cmd) (t : State) (s u v : State), s.clock dt (((s.advance dt).nextCmd n 0x0803).elim [] (fun _ => (s.advance dt).activationEvs ++ [⟨.updCancel, 0, 0⟩])) = u → u.starts n c 0x0803 0 v → v.activationEvs = [] → v.regB Reg.UPD_ACT_EXT 17 = true → v.setRegB Reg.UPD_ACT_EXT 17 false = t →
    exec (.updCancel dt n) s = .next ((({ t with upd := { t.upd with deferred := false } } : State).noted v n c).finishOk c.id [])) ∧
  (∀ (dt n : Nat) (c : Cmd) (s u v : State), s.advance dt = u → u.starts n c 0x0804 1 v → c.ctls.all (fun k => v.hasCtl k) = true →
    exec (.updChain dt n) s = .next (((c.ctls.foldl State.ctlReceives v).chainChange (fun s => (s.setRegF Reg.CHN_STS 25 18 0xFF).setRegB Reg.CHN_STS 17 true) : State).noted v n c)) ∧
  (∀ (dt n : Nat) (c : Cmd) (s u v : State), s.advance dt = u → u.starts n c 0x0901 1 v → v.testRole = true →
    exec (.selftestFull dt n) s = .next (v.noted v n c)) ∧
  (∀ (dt n : Nat) (c : Cmd) (p x : Nat) (s u v : State), s.advance dt = u → u.starts n c 0x0903 1 v → c.n 4 = p → (0x10 ≤ p ∧ p ≤ 0x17) ∨ (0x20 ≤ p ∧ p ≤ 0x27) → cmpIndex p = x → v.cmpState x = 0 → (v.reg (Reg.CMP_Px_STS x)).bit 3 = false → (v.chk x).change = none → v.pairPresent x = true →
    exec (.cmpSplit dt n) s = .next ((v.modChk x (fun k => { k with change := some (false, c.id, v.now) }) : State).noted v n c)) ∧
  (∀ (dt n : Nat) (c : Cmd) (p x : Nat) (s u v : State), s.advance dt = u → u.starts n c 0x0904 1 v → c.n 4 = p → (0x10 ≤ p ∧ p ≤ 0x17) ∨ (0x20 ≤ p ∧ p ≤ 0x27) → cmpIndex p = x → v.cmpState x = 3 → (v.chk x).change = none →
    exec (.cmpJoin dt n) s = .next (((v.setCmpState x 6).modChk x (fun k => { k with change := some (true, c.id, v.now) }) : State).noted v n c)) ∧
  (∀ (dt n : Nat) (c : Cmd) (s u v : State), s.advance dt = u → u.starts n c 0x0910 1 v → c.w 4 = 0x00004D50 →
    exec (.mpRestart dt n) s = .next ((v.noted v n c).finishOk c.id []))

/-- PAIR_EXCHANGE and PAIR_HANDOVER on an ACTIVE module with nothing armed arm the hand-over on their trigger and set
PAIR_STS.ARMED, and where the trigger falls at once (IDLE mode) begin it; PAIR_CANCEL disarms, answers the armed command
CANCELLED and completes; PAIR_WITHDRAW withdraws the module and waits for its end; PAIR_RESYNC on a STANDBY clears READY and
begins a resynchronisation. (03_mailboxes_and_commands, 12_pair_redundancy) -/
def Obligations.PairCommands : Prop :=
  (∀ (dt n : Nat) (c : Cmd) (t : State) (s u v : State), s.advance dt = u → u.starts n c 0x0602 4 v → v.role = 2 → v.mp.swap = none → v.handArmed = false → v.triggerCheck c = none → ({ v with pair := { v.pair with
      arm := some ⟨.exchange, v.triggerOf (c.w 4) c.pos ((c.w 7).bit 0), c.id⟩ } } : State).setRegB Reg.PAIR_STS 7 true = t →
    exec (.pairExchange dt n) s = .next ((if t.fallsNow (v.triggerOf (c.w 4) c.pos ((c.w 7).bit 0)) then t.pairTrigger (fun _ => true) else t : State).noted v n c)) ∧
  (∀ (dt n : Nat) (c : Cmd) (t : State) (s u v : State), s.advance dt = u → u.starts n c 0x0603 4 v → v.role = 2 → v.mp.swap = none → v.handArmed = false → v.triggerCheck c = none → ({ v with pair := { v.pair with
      arm := some ⟨.handover, v.triggerOf (c.w 4) c.pos ((c.w 7).bit 0), c.id⟩ } } : State).setRegB Reg.PAIR_STS 7 true = t →
    exec (.pairHandover dt n) s = .next ((if t.fallsNow (v.triggerOf (c.w 4) c.pos ((c.w 7).bit 0)) then t.pairTrigger (fun _ => true) else t : State).noted v n c)) ∧
  (∀ (dt n : Nat) (c : Cmd) (x : ArmedHand) (s u v : State), s.advance dt = u → u.starts n c 0x0604 0 v → v.pair.arm = some x →
    exec (.pairCancel dt n) s = .next ((((({ v with pair := { v.pair with arm := none } } : State).setRegB Reg.PAIR_STS 7 false).finishErr x.slot stCancelled).noted v n c).finishOk
      c.id [])) ∧
  (∀ (dt n : Nat) (c : Cmd) (s u v : State), s.advance dt = u → u.starts n c 0x0605 0 v →
    exec (.pairWithdraw dt n) s = .next ((v.withdraw (some c.id) : State).noted v n c)) ∧
  (∀ (dt n : Nat) (c : Cmd) (t : State) (s u v : State), s.advance dt = u → u.starts n c 0x0606 0 v → v.role = 3 → v.setReady false = t →
    exec (.pairResync dt n) s = .next ((({ t with pair := { t.pair with copied := false, joining := false, gens := [] } } : State).setRegB Reg.PAIR_STS 1 true : State).noted v n c))

/-- A command of a CODE other than ECHO that is held and not completed, when it completes with STATUS, DETAIL and result
words, stands completed in its slot with a response of max(8, 4 + results) words (at most 16): CODE, TYPE 2, REPLAY and
SENDER_RESET in word 0, the TAG in word 1, STATUS and DETAIL in word 2, zero in word 3, then the results padded with zeros;
the response is stored first of at most four, marked as not posted; no other slot of the pair is lost and no other pair
changes. (03_mailboxes_and_commands) -/
def Obligations.ResponsesFollowTheTable : Prop :=
  ∀ (s : State) (n id st d : Nat) (rs : List Word) (c : Cmd), (s.mpPair n).cmds.find? (fun x => x.id = id) = some c →
    c.stage ≠ .done → c.code ≠ 3 → st < 65536 → d < 65536 →
    ∃ r : List Word,
      r.length = min 16 (max 8 (4 + rs.length)) ∧
      (item r 0).fld 15 0 = c.code ∧ (item r 0).fld 19 16 = 2 ∧ (item r 0).bit 20 = c.replay ∧ (item r 0).bit 21 = c.sreset ∧
      item r 1 = item c.words 1 ∧ (item r 2).fld 15 0 = st ∧ (item r 2).fld 31 16 = d ∧ item r 3 = 0 ∧
      (∀ k, 4 + k < r.length → item r (4 + k) = item rs k) ∧
      ({ c with stage := .done, response := r } : Cmd) ∈ ((s.finish id st d rs).mpPair n).cmds ∧
      (∀ x ∈ (s.mpPair n).cmds, x.id ≠ id → x ∈ ((s.finish id st d rs).mpPair n).cmds) ∧
      ((s.finish id st d rs).mpPair n).stored = ((r, false) :: (s.mpPair n).stored).take 4 ∧
      (∀ k, (∀ x ∈ (s.mpPair k).cmds, x.id ≠ id) → (s.finish id st d rs).mpPair k = s.mpPair k)

/-- For every mask, every two sets and every word of an item of categories 0 to 7: the merged set holds the word of the
second set where the mask covers the category (bit c - 1 for category c, 1 to 7), and the word of the first set otherwise.
(03_mailboxes_and_commands) -/
def Obligations.SwapTakesTheCoveredCategories : Prop :=
  ∀ (mask cat it w : Nat) (a b : Sparse Word), cat < 8 → it < 8192 → w < 1024 →
    sget 0 (mergeSets mask a b) (cfgKey cat it w) =
      (if 1 ≤ cat ∧ mask / 2 ^ (cat - 1) % 2 = 1 then sget 0 b (cfgKey cat it w) else sget 0 a (cfgKey cat it w))

/-- CFG_SWAP_APPLY with a fallen trigger, on a module that does not shadow and with no running datum redefined: the merged
set becomes active with what each unit does at the swap, the shadow set takes the covered categories, the generation counts
one, session and armed swap end, the application store takes set and program, and CFG_SWAP is answered with the generation
and the PTP time. CONST_APPLY of a pair with no release writes the oldest pending constant into its copy; the last pair to
apply it has the command answered. (03_mailboxes_and_commands, 09_tasks_and_scan) -/
def Obligations.SwapAndConstantsTakeEffect : Prop :=
  (∀ (dt : Nat) (s u f a t : State) (w : ArmedSwap) (c : Sparse Word), s.clock dt (s.advance dt).swapEvs = u →
    u.testTrigger.dueSwap = some w → (u.testTrigger.until_ w.clk).fireOwned = f → mergeSets w.mask f.cfgA f.cfgS = c →
    (covers w.mask 2 && ({ f with cfgA := c } : State).datMisused f.cfgA) = false → f.activate w.mask c = a →
    ({ a with cfgS := mergeSets w.mask a.cfgS c
              mp := { a.mp with swap := none, session := 0, gen := (a.mp.gen + 1) % 2 ^ 32 } } : State) = t →
    exec (.cfgSwapApply dt) s =
      .next ((t.record w.gen (t.setRecs w.mask f.cfgA ++ [t.armRec])).keepApp.finishOk w.slot
        [w32 ((a.mp.gen + 1) % 2 ^ 32), w32 (nsOf a.ptp), w32 (secOf a.ptp)])) ∧
  (∀ (dt p : Nat) (k : ConstWrite) (s u v : State), s.advance dt = u → (u.eng p).rel = none → (u.eng (p + 0x80)).rel = none →
    u.plm.consts.find? (fun c => c.todo.contains p) = some k → u.setKonst p k.index k.value = v → v.cmpState (cmpIndex p) ≠ 3 →
    k.todo.filter (fun x => x ≠ p) ≠ [] →
    exec (.constApply dt p) s = .next { v with plm := { v.plm with consts := v.plm.consts.map (fun x =>
        if x = k then { k with todo := k.todo.filter (fun x => x ≠ p) } else x) } }) ∧
  (∀ (dt p : Nat) (k : ConstWrite) (s u v : State), s.advance dt = u → (u.eng p).rel = none → (u.eng (p + 0x80)).rel = none →
    u.plm.consts.find? (fun c => c.todo.contains p) = some k → u.setKonst p k.index k.value = v → v.cmpState (cmpIndex p) ≠ 3 →
    k.todo.filter (fun x => x ≠ p) = [] →
    exec (.constApply dt p) s = .next ((({ v with plm := { v.plm with consts := v.plm.consts.erase k } } : State).record 0
      [.konst k.index k.value]).finishOk k.slot []))

/-- With the MP ready and a long command running on the pair: CFG_CHECK is answered OK or CHECK_FAILED with the first item
that fails; CH_TRIM_CAPTURE stores the trim (a free value, log 23) with its temperature and is answered with it;
CH_PULSE_TEST ends the test and is answered with what was found; PAIR_RESYNC is answered when no resynchronisation runs.
(03_mailboxes_and_commands, 13_universal_channels, 12_pair_redundancy) -/
def Obligations.LongCommandsEnd : Prop :=
  (∀ (dt n found : Nat) (c : Cmd) (s u : State), s.advance dt = u → u.mpReady = true → u.longRunning n longCodes = some c →
    c.code = 0x0108 → u.checkSet ((c.w 4).fld 6 0) (u.resulting ((c.w 4).fld 6 0)) = none →
    exec (.longCommandComplete dt n found) s = .next (u.finishOk c.id [])) ∧
  (∀ (dt n found cat it : Nat) (c : Cmd) (s u : State), s.advance dt = u → u.mpReady = true →
    u.longRunning n longCodes = some c → c.code = 0x0108 →
    u.checkSet ((c.w 4).fld 6 0) (u.resulting ((c.w 4).fld 6 0)) = some (cat, it) →
    exec (.longCommandComplete dt n found) s = .next (u.finish c.id stCheckFailed (cat * 8192 + it) [])) ∧
  (∀ (dt n found k : Nat) (c : Cmd) (s u v : State), s.advance dt = u → u.mpReady = true →
    u.longRunning n longCodes = some c → c.code = 0x0503 → c.n 4 = k → k ≤ 31 → u.hasGroup (grpOf k) = true →
    u.domainOn 9 = true → u.noTrim k = false →
    ({ u with free := u.free + 1 } : State).setReg (if (c.w 5).bit 0 then Reg.CH_TRIM_GAIN k else Reg.CH_TRIM_OFS k)
      (w32 (Config.freeValue 0 u.free)) = v →
    exec (.longCommandComplete dt n found) s =
      .next ((((v.setRegF (Reg.CH_TRIM_T k) 15 0 (u.regF (Reg.CH_TEMP k) 15 0)).setRegB (Reg.CH_TRIM_T k)
        (if (c.w 5).bit 0 then 17 else 16) true).calStale k).finishOk c.id
        [w32 (pattern 32 (signed 16 (u.regF (Reg.CH_TEMP k) 15 0)))])) ∧
  (∀ (dt n found k : Nat) (c : Cmd) (s u : State), s.advance dt = u → u.mpReady = true →
    u.longRunning n longCodes = some c → c.code = 0x0505 → c.n 4 = k → k ≤ 31 → u.hasGroup (grpOf k) = true →
    u.domainOn 9 = true →
    exec (.longCommandComplete dt n found) s = .next ((u.modChan k (fun x => { x with test := false, changed := u.sclk })).finishOk c.id
      [w32 (ofBool (decide (found ≠ 0)))])) ∧
  (∀ (dt n found : Nat) (c : Cmd) (s u : State), s.advance dt = u → u.mpReady = true →
    u.longRunning n longCodes = some c → c.code = 0x0606 → u.role = 3 → u.regB Reg.PAIR_STS 1 = false →
    exec (.longCommandComplete dt n found) s = .next (u.finishOk c.id []))

/-- MP_RESTART_BEGIN at or after its instant: MP_READY is 0 and MBX_GLB_MPRST counts; of each pair the completed slots stay
and the others end, the stored responses already posted go; a message in mailbox 0 to 7 is cleared with ABORTED and EMPTY
set, a message in mailbox 8 to 15 stands with SENDER_RESET; an armed swap stays. MP_READY with the MP not ready from PHASE 3
on sets MBX_GLB_STS.MP_READY and nothing else where pair 0 is not in resynchronisation. (03_mailboxes_and_commands) -/
def Obligations.MpRestart : Prop :=
  (∀ (dt at_ : Nat) (s u : State), s.clock dt [⟨.mpRestart, 0, 0⟩] = u → u.mp.restart = some at_ → at_ ≤ u.sclk →
    Completes (.mpRestartBegin dt) s (fun t =>
      t.mpReady = false ∧
      t.regF Reg.MBX_GLB_MPRST 15 0 = satAdd 0xFFFF (u.regF Reg.MBX_GLB_MPRST 15 0) 1 ∧
      (∀ n, (t.mpPair n).cmds = (u.mpPair n).cmds.filter (fun c => c.stage = .done)) ∧
      (∀ n, (t.mpPair n).stored = (u.mpPair n).stored.filter (fun r => !r.2)) ∧
      (∀ n < 8, u.mbxGo n = true → t.mbxGo n = false ∧ t.mbxLen n = 0 ∧ t.regB (Reg.MBX_STS n) 16 = true ∧
        t.regB (Reg.MBX_STS n) 24 = true ∧ ∀ k < 16, t.reg (Reg.MBX_DATAi n k) = 0) ∧
      (∀ n, 8 ≤ n → n < 16 → u.mbxGo n = true → t.reg (Reg.MBX_STS n) = (u.reg (Reg.MBX_STS n)).setBit 17 true) ∧
      (∀ n < 16, u.mbxGo n = false → t.reg (Reg.MBX_STS n) = u.reg (Reg.MBX_STS n)) ∧
      t.mp.swap = u.mp.swap ∧ t.mp.session = u.mp.session ∧ SameMemory u t)) ∧
  (∀ (dt : Nat) (s u : State), s.advance dt = u → u.mpReady = false → 3 ≤ u.regF Reg.PWR_START_STS 3 0 → u.cmpState 0 ≠ 5 →
    exec (.mpReady dt) s = .next (u.setRegB Reg.MBX_GLB_STS 16 true))

/-- TIM_INCR_WRITE with no step pending and the MP servo off stores the increment formed of the written high half and the
master's low half, clamped to its limits, and shows and raises CLAMPED where it was clamped. TIM_STEP_ARM with STEP_USED =
0, the servo off, no running datum, no set-owned comparator enabled and a result within the clock's range stores the offset
and sets STEP_PEND and STEP_USED; with STEP_USED = 1 it is a violation of KIND 0x5 and steps nothing. PTP_SECOND_CARRY
passes the clocks to the next carry. TIM_NOW_READ returns NS and latches SEC, EXT and FRAC of the same clock for the master.
(04_network_time) -/
def Obligations.RateAndStep : Prop :=
  (∀ (dt m : Nat) (n c : Nat) (v : Word) (t : State) (s u : State), s.toWrite dt m Reg.TIM_INCR_HI v = u → u.opens m true Reg.TIM_INCR_HI = true → v.toNat < 16 → m = 1 ∨ (u.regB Reg.TIM_STS 0 = false ∧ u.regB Reg.TIM_CTL 2 = true) → v.toNat * 2 ^ 32 + (u.lowHalf m Reg.TIM_INCR_LO).toNat = n → max incrMin (min incrMax n) = c → ((u.setReg Reg.TIM_INCR_LO (w32 c)).setReg Reg.TIM_INCR_HI (w32 (c / 2 ^ 32))).setRegB Reg.TIM_STS 5 (decide (c ≠ n)) = t →
    exec (.timIncrWrite dt m v) s = .next (if c ≠ n then t.raiseBit 18 21 else t)) ∧
  (∀ (dt m : Nat) (v : Word) (ofs : Int) (s u : State), s.toWrite dt m Reg.TIM_STEP_HI v = u → u.opens m true Reg.TIM_STEP_HI = true → u.regB Reg.TIM_STS 1 = false → m = 1 ∨ u.regB Reg.TIM_CTL 2 = true → u.ownedCmp = false → (∀ d < 8, (u.dat d).st ≠ .running ∧ (u.dat d).st ≠ .stopping) → signed 64 (v.toNat * 2 ^ 32 + (u.lowHalf m Reg.TIM_STEP_LO).toNat) = ofs →
    exec (.timStepArm dt m v) s = .next (((u.setReg64 Reg.TIM_STEP_LO Reg.TIM_STEP_HI (pattern 64 ofs)).setRegB Reg.TIM_STS 0 true).setRegB
      Reg.TIM_STS 1 true)) ∧
  (∀ (dt m : Nat) (v : Word) (s u : State), s.toWrite dt m Reg.TIM_STEP_HI v = u → u.opens m true Reg.TIM_STEP_HI = true →
    u.regB Reg.TIM_STS 1 = true →
    exec (.timStepArm dt m v) s = .next ((u.violation m 5 true 2 Reg.TIM_STEP_HI).errorAnswer m Reg.TIM_STEP_HI true)) ∧
  (∀ (s u : State), s.advance s.clocksToCarry = u → exec .ptpSecondCarry s = .next u) ∧
  (∀ s : State, s.regB Reg.TIM_STS 0 = false → s.domainOn 6 = false → 3 ≤ s.regF Reg.PWR_START_STS 3 0 →
    s.carry = { s with bkp := { sec := secOf s.ptp, frac := 0, valid := true } }) ∧
  (∀ s : State, s.regB Reg.TIM_STS 0 = true → 0 ≤ (s.now : Int) + signed 64 (s.reg64 Reg.TIM_STEP_LO Reg.TIM_STEP_HI) →
    (s.now : Int) + signed 64 (s.reg64 Reg.TIM_STEP_LO Reg.TIM_STEP_HI) < 2 ^ 48 * 1000000000 →
    s.carry.ptp = ((s.now : Int) + signed 64 (s.reg64 Reg.TIM_STEP_LO Reg.TIM_STEP_HI)).toNat * 2 ^ 32 +
      s.ptp % 2 ^ 32 ∧ s.carry.regB Reg.TIM_STS 0 = false ∧ s.carry.regB Reg.TIM_STS 1 = s.regB Reg.TIM_STS 1 ∧
    s.carry.regB Reg.TIM_IRQ_STS 16 = true) ∧
  (∀ (dt m : Nat) (s u : State), s.toRead dt m Reg.TIM_NOW_LO = u → u.opens m false Reg.TIM_NOW_LO = true →
    sget none u.rlat (latchKey m Reg.TIM_NOW_LO) = none → u.flipsAt Reg.TIM_NOW_LO = (0, 0, 0) →
    Completes (.timNowRead dt m) s (fun t =>
      t.out = .readData m Reg.TIM_NOW_LO (w32 (nsOf u.ptp)) :: u.out ∧
      sget none t.rlat (latchKey m Reg.TIM_NOW_HI) = some (w32 (secOf u.ptp)) ∧
      sget none t.rlat (latchKey m Reg.TIM_NOW_EXT) = some (w32 (secOf u.ptp / 2 ^ 32 % 2 ^ 16)) ∧
      sget none t.rlat (latchKey m Reg.TIM_NOW_FRAC) = some (w32 (fracOf u.ptp)) ∧
      SameRegs u t (fun _ => false) ∧ SameMemory u t ∧ t.ptp = u.ptp))

/-- SERVO_UPDATE with an offset measured and the servo on: at the first lock with an offset beyond 1000 ns, stepping allowed
and STEP_USED = 0 the step of the opposite offset is armed; an offset beyond 10,000 ns with STEP_USED = 1 runs the rate at
its lower limit where the clock is ahead and at its upper limit where it is behind, with SLEWING set; after the first lock a
smaller offset gives the rate a free value (log 2) within the limits, with SLEWING clear. With the servo off the offset is
used up and nothing else changes. HOLDOVER with three intervals passed since the last Sync sets HOLDOVER, clears LOCKED and
raises the interrupt; before that it changes nothing. (04_network_time) -/
def Obligations.ServoAndHoldover : Prop :=
  (∀ (dt : Nat) (ofs : Int) (s u : State), s.clock dt ((s.advance dt).lockEvs State.servoUpdate) = u → u.servo.meas = some ofs → u.regB Reg.TIM_CTL 2 = false → u.servo.locked = false → 1000 < ofs.natAbs → u.regB Reg.TIM_CTL 4 = true → u.regB Reg.TIM_STS 1 = false →
    exec (.servoUpdate dt) s = .next (((({ u with servo := { u.servo with meas := none, locked := true } } : State).setReg64 Reg.TIM_STEP_LO
      Reg.TIM_STEP_HI (pattern 64 (-ofs))).setRegB Reg.TIM_STS 0 true).setRegB Reg.TIM_STS 1 true)) ∧
  (∀ (dt : Nat) (ofs : Int) (t : State) (s u : State), s.clock dt ((s.advance dt).lockEvs State.servoUpdate) = u → u.servo.meas = some ofs → u.regB Reg.TIM_CTL 2 = false → u.regB Reg.TIM_STS 1 = true → 10000 < ofs → ({ u with servo := { u.servo with meas := none, locked := true }, free := u.free + 1 } : State) = t →
    exec (.servoUpdate dt) s = .next ((((t.setReg Reg.TIM_INCR_LO (w32 incrMin)).setReg Reg.TIM_INCR_HI (w32 (incrMin / 2 ^ 32))).setRegB
      Reg.TIM_STS 5 false).setRegB Reg.TIM_STS 3 true)) ∧
  (∀ (dt : Nat) (ofs : Int) (t : State) (s u : State), s.clock dt ((s.advance dt).lockEvs State.servoUpdate) = u → u.servo.meas = some ofs → u.regB Reg.TIM_CTL 2 = false → u.regB Reg.TIM_STS 1 = true → ofs < -10000 → ({ u with servo := { u.servo with meas := none, locked := true }, free := u.free + 1 } : State) = t →
    exec (.servoUpdate dt) s = .next ((((t.setReg Reg.TIM_INCR_LO (w32 incrMax)).setReg Reg.TIM_INCR_HI (w32 (incrMax / 2 ^ 32))).setRegB
      Reg.TIM_STS 5 false).setRegB Reg.TIM_STS 3 true)) ∧
  (∀ (dt : Nat) (ofs : Int) (c : Nat) (t : State) (s u : State), s.clock dt ((s.advance dt).lockEvs State.servoUpdate) = u → u.servo.meas = some ofs → u.regB Reg.TIM_CTL 2 = false → u.servo.locked = true → ofs.natAbs ≤ 10000 → max incrMin (min incrMax (Config.servoIncrement ofs u.incr u.free)) = c → ({ u with servo := { u.servo with meas := none }, free := u.free + 1 } : State) = t →
    exec (.servoUpdate dt) s = .next ((((t.setReg Reg.TIM_INCR_LO (w32 c)).setReg Reg.TIM_INCR_HI (w32 (c / 2 ^ 32))).setRegB
      Reg.TIM_STS 5 false).setRegB Reg.TIM_STS 3 false)) ∧
  (∀ (dt : Nat) (ofs : Int) (s u : State), s.clock dt ((s.advance dt).lockEvs State.servoUpdate) = u → u.servo.meas = some ofs → u.regB Reg.TIM_CTL 2 = true →
    exec (.servoUpdate dt) s = .next ({ u with servo := { u.servo with meas := none } })) ∧
  (∀ (dt : Nat) (t0 : Nat) (s u : State), s.clock dt ((s.advance dt).lockEvs State.holdover) = u → u.servo.lastSync = some t0 → t0 + 3 * u.servo.every ≤ u.now → u.regB Reg.TIM_STS 4 = false → u.regB Reg.TIM_CTL 2 = false → u.ptpRole = 1 ∨ u.ptpRole = 2 →
    exec (.holdover dt) s = .next (((u.setRegB Reg.TIM_STS 4 true).setRegB Reg.TIM_STS 2 false).raiseBit 18 19)) ∧
  (∀ (dt : Nat) (t0 : Nat) (s u : State), s.clock dt ((s.advance dt).lockEvs State.holdover) = u → u.servo.lastSync = some t0 → u.now < t0 + 3 * u.servo.every →
    exec (.holdover dt) s = .next (u))

/-- On a port that takes the message (PTP runs, the link is up, the domain is right), in terms of the state v in which the
frame has been heard and timestamped: a one-step SYNC on the FOLLOWER port of the default profile, and the FOLLOW_UP of a
waiting two-step one, publish the offset (ingress less origin with correction less path delay) and the delay, count
TIM_MEAS_SEQ, clear HOLDOVER, set LOCKED within 1000 ns and hand the offset to the servo; a two-step SYNC waits for its
Follow_Up with its corrected ingress time. DELAY_REQ on a MASTER port of the default profile is answered to its requester
with its ingress time. DELAY_RESP to the request in flight sets the delay to half the sum of both directions. PDELAY_REQ on
an 802.1AS port is answered two-step to its requester; PDELAY_RESP is kept; PDELAY_RESP_FOLLOW_UP sets the delay to half of
the round trip less the residence and the port is capable. SIGNALING sets the three intervals asked for. MANAGEMENT_MESSAGE
is counted. A port that does not run PTP takes none. (04_network_time) -/
def Obligations.PtpMessages : Prop :=
  (∀ (dt : Nat) (n q dom : Nat) (org corr : Int) (v t : State) (s u : State), s.advance dt = u → u.takesPtp n dom = true → u.received n false (ptpLen 0) = v → v.ptpState n = 3 → v.ptpMode n = 1 → v.modPtp n (fun p => { p with lastSync := some (org + corr, v.ingress n), syncWait := none }) = t →
    exec (.sync dt n q false dom org corr) s = .next (t.measured (v.ingress n - (org + corr) - (t.ptpPort n).delay) (t.ptpPort n).delay (t.syncNs n))) ∧
  (∀ (dt : Nat) (n q dom : Nat) (org corr : Int) (v : State) (s u : State), s.advance dt = u → u.takesPtp n dom = true → u.received n false (ptpLen 0) = v → v.ptpState n = 3 → v.ptpMode n = 1 →
    exec (.sync dt n q true dom org corr) s = .next (v.modPtp n (fun p => { p with syncWait := some (q, (v.ingress n - corr).toNat) }))) ∧
  (∀ (dt : Nat) (n q dom t2 : Nat) (org corr : Int) (v t : State) (s u : State), s.advance dt = u → u.takesPtp n dom = true → u.received n false (ptpLen 8) = v → v.ptpState n = 3 → (v.ptpPort n).syncWait = some (q, t2) → v.modPtp n (fun p => { p with lastSync := some (org + corr, (t2 : Int)), syncWait := none }) = t →
    exec (.followUp dt n q dom org corr) s = .next (t.measured ((t2 : Int) - (org + corr) - (t.ptpPort n).delay) (t.ptpPort n).delay (t.syncNs n))) ∧
  (∀ (s : State) (ofs d : Int) (e : Nat), -(2 ^ 31 - 1) ≤ ofs → ofs ≤ 2 ^ 31 - 1 →
    (s.measured ofs d e).reg Reg.TIM_MEAS_OFS = w32 (pattern 32 ofs) ∧ (s.measured ofs d e).reg Reg.TIM_MEAS_DELAY = w32 (pattern 32 d) ∧
    (s.measured ofs d e).reg Reg.TIM_MEAS_SEQ = s.reg Reg.TIM_MEAS_SEQ + 1 ∧
    (s.measured ofs d e).reg Reg.TIM_STS = ((s.reg Reg.TIM_STS).setBit 4 false).setBit 2 (decide (ofs.natAbs ≤ 1000)) ∧
    (s.measured ofs d e).servo.meas = some ofs ∧ (s.measured ofs d e).servo.lastSync = some s.now ∧
    SameRegs s (s.measured ofs d e) (fun a => a == Reg.TIM_MEAS_OFS || a == Reg.TIM_MEAS_DELAY || a == Reg.TIM_MEAS_SEQ ||
      a == Reg.TIM_STS)) ∧
  (∀ (dt : Nat) (n q dom x : Nat) (v : State) (s u : State), s.advance dt = u → u.takesPtp n dom = true → u.received n false (ptpLen 1) = v → v.ptpMode n = 1 → v.ptpState n = 2 →
    exec (.delayReq dt n q dom x) s = .next (v.queuePtp n { kind := 9, seq := q, domain := dom, t := v.ingress n, requester := x })) ∧
  (∀ (dt : Nat) (n q dom t3 : Nat) (rc corr t1 t2 : Int) (v : State) (s u : State), s.advance dt = u → u.takesPtp n dom = true → u.received n false (ptpLen 9) = v → v.ptpMode n = 1 → v.ptpState n = 3 → (v.ptpPort n).reqSent = some (q, t3) → (v.ptpPort n).lastSync = some (t1, t2) →
    exec (.delayResp dt n q dom rc corr) s = .next (v.modPtp n (fun p => { p with reqSent := none, delay := ((t2 - t1) + (rc - corr - (t3 : Int))) / 2 }))) ∧
  (∀ (dt : Nat) (n q dom x : Nat) (v : State) (s u : State), s.advance dt = u → u.takesPtp n dom = true → u.received n false (ptpLen 2) = v → v.ptpMode n = 2 →
    exec (.pdelayReq dt n q dom x) s = .next (v.queuePtp n { kind := 3, seq := q, domain := dom, twoStep := true, t := v.ingress n, requester := x })) ∧
  (∀ (dt : Nat) (n q dom x : Nat) (rc corr : Int) (v : State) (s u : State), s.advance dt = u → u.takesPtp n dom = true → u.received n false (ptpLen 3) = v → v.ptpMode n = 2 → (v.ptpPort n).reqSent = some (q, x) →
    exec (.pdelayResp dt n q dom rc corr) s = .next (v.modPtp n (fun p => { p with pdelay := some (q, rc, v.ingress n - corr) }))) ∧
  (∀ (dt : Nat) (n q dom x t1 : Nat) (org corr t2 t4 : Int) (v : State) (s u : State), s.advance dt = u → u.takesPtp n dom = true → u.received n false (ptpLen 10) = v → v.ptpMode n = 2 → (v.ptpPort n).pdelay = some (q, t2, t4) → (v.ptpPort n).reqSent = some (x, t1) →
    exec (.pdelayRespFollowUp dt n q dom org corr) s = .next ((v.modPtp n (fun p => { p with pdelay := none, reqSent := none, delay := ((t4 - (t1 : Int)) - (org + corr - t2)) / 2 })).setRegB
      (Reg.TIM_PORTn_STS n) 3 true)) ∧
  (∀ (dt : Nat) (n dom : Nat) (ls la ld : Int) (v : State) (s u : State), s.advance dt = u → u.takesPtp n dom = true → u.received n false (ptpLen 12) = v → ls ≠ -128 → ls ≠ 126 → la ≠ -128 → la ≠ 126 → ld ≠ -128 → ld ≠ 126 →
    exec (.signaling dt (PtpAt.mk n dom) ls la ld) s = .next (v.modPtp n (fun p => { p with logSync := some ls, logAnn := some la, logDelay := some ld }))) ∧
  (∀ (dt : Nat) (n : Nat) (s u : State), s.advance dt = u → u.hasPort n = true → u.regB (Reg.TRV_STS n) 0 = true → u.ptpRole ≠ 0 →
    exec (.managementMessage dt n) s = .next ((u.received n false 48).count Reg.TIM_MGMT_DROP)) ∧
  (∀ (dt : Nat) (n q dom : Nat) (f : Bool) (org corr : Int) (s u : State), s.advance dt = u → u.ptpRole = 0 →
    exec (.sync dt n q f dom org corr) s = .next (if u.hasPort n && u.regB (Reg.TRV_STS n) 0 then u.received n false (ptpLen 0) else u))

/-- ANNOUNCE that takes part in the selection of its port, on a port that has heard none, keeps the announcement with its
time and runs the selection; of the same sender, or where it is better, it replaces the one kept; one of another sender that
is not better leaves it. One that takes no part is only noted. PTP_MESSAGE_SEND of Sync on a MASTER port queues a Sync with
the next sequence number, one-step or two-step as the port is set; on any other port nothing. A delay request on an 802.1AS
port, or on the FOLLOWER port, and an Announce on a MASTER port are queued. TXQ_POP of 1 drops the head of the port's queue,
of 0 nothing. (04_network_time) -/
def Obligations.PtpSelectionAndSending : Prop :=
  (∀ (dt : Nat) (n dom p1 cl ac va p2 idt st sd : Nat) (v t : State) (s u : State), s.clock dt ((s.advance dt).lockEvs (fun s => s.announceRx n dom ⟨p1, cl, ac, va, p2, idt, st, sd⟩)) = u → u.takesPtp n dom = true → u.received n false (ptpLen 11) = v → v.qualified n ⟨p1, cl, ac, va, p2, idt, st, sd⟩ = true → (v.ptpPort n).best = none → v.modPtp n (fun p => { p with heard := (sd, v.now) :: p.heard.filter (fun e => e.1 ≠ sd) }) = t →
    exec (.announce dt n dom p1 cl ac va p2 idt (AnnWay.mk st sd)) s = .next ((t.modPtp n (fun p => { p with best := some ⟨p1, cl, ac, va, p2, idt, st, sd⟩, since := v.now })).selectMaster)) ∧
  (∀ (dt : Nat) (n dom p1 cl ac va p2 idt st sd : Nat) (b : Announced) (v t : State) (s u : State), s.clock dt ((s.advance dt).lockEvs (fun s => s.announceRx n dom ⟨p1, cl, ac, va, p2, idt, st, sd⟩)) = u → u.takesPtp n dom = true → u.received n false (ptpLen 11) = v → v.qualified n ⟨p1, cl, ac, va, p2, idt, st, sd⟩ = true → (v.ptpPort n).best = some b → b.sender = sd ∨ b.better (v.ptpMode n = 2) ⟨p1, cl, ac, va, p2, idt, st, sd⟩ = false → v.modPtp n (fun p => { p with heard := (sd, v.now) :: p.heard.filter (fun e => e.1 ≠ sd) }) = t →
    exec (.announce dt n dom p1 cl ac va p2 idt (AnnWay.mk st sd)) s = .next ((t.modPtp n (fun p => { p with best := some ⟨p1, cl, ac, va, p2, idt, st, sd⟩, since := v.now })).selectMaster)) ∧
  (∀ (dt : Nat) (n dom p1 cl ac va p2 idt st sd : Nat) (b : Announced) (v t : State) (s u : State), s.clock dt ((s.advance dt).lockEvs (fun s => s.announceRx n dom ⟨p1, cl, ac, va, p2, idt, st, sd⟩)) = u → u.takesPtp n dom = true → u.received n false (ptpLen 11) = v → v.qualified n ⟨p1, cl, ac, va, p2, idt, st, sd⟩ = true → (v.ptpPort n).best = some b → b.sender ≠ sd → b.better (v.ptpMode n = 2) ⟨p1, cl, ac, va, p2, idt, st, sd⟩ = true → v.modPtp n (fun p => { p with heard := (sd, v.now) :: p.heard.filter (fun e => e.1 ≠ sd) }) = t →
    exec (.announce dt n dom p1 cl ac va p2 idt (AnnWay.mk st sd)) s = .next ((t.modPtp n (fun p => { p with best := some b, since := v.now })).selectMaster)) ∧
  (∀ (dt : Nat) (n dom p1 cl ac va p2 idt st sd : Nat) (v t : State) (s u : State), s.clock dt ((s.advance dt).lockEvs (fun s => s.announceRx n dom ⟨p1, cl, ac, va, p2, idt, st, sd⟩)) = u → u.takesPtp n dom = true → u.received n false (ptpLen 11) = v → v.qualified n ⟨p1, cl, ac, va, p2, idt, st, sd⟩ = false → v.modPtp n (fun p => { p with heard := (sd, v.now) :: p.heard.filter (fun e => e.1 ≠ sd) }) = t →
    exec (.announce dt n dom p1 cl ac va p2 idt (AnnWay.mk st sd)) s = .next (t)) ∧
  (∀ (dt : Nat) (n q : Nat) (t : State) (s u : State), s.advance dt = u → u.ptpOn n = true → u.regB (Reg.TRV_STS n) 0 = true → u.ptpState n = 2 → (u.ptpPort n).seq = q → u.modPtp n (fun p => { p with seq := (p.seq + 1) % 2 ^ 16 }) = t →
    exec (.ptpMessageSend dt n 0) s = .next (t.queuePtp n { kind := 0, seq := q, domain := u.ptpDomain n, twoStep := !u.regB (Reg.TIM_PORTn_CFG n) 2 })) ∧
  (∀ (dt : Nat) (n : Nat) (s u : State), s.advance dt = u → u.ptpState n ≠ 2 →
    exec (.ptpMessageSend dt n 0) s = .next (u)) ∧
  (∀ (dt : Nat) (n q : Nat) (t : State) (s u : State), s.advance dt = u → u.ptpOn n = true → u.regB (Reg.TRV_STS n) 0 = true → u.ptpState n = 2 → (u.ptpPort n).seq = q → u.now < (u.ptpPort n).since + 3 * u.annNs n → u.modPtp n (fun p => { p with seq := (p.seq + 1) % 2 ^ 16 }) = t →
    exec (.ptpMessageSend dt n 1) s = .next (t.queuePtp n { kind := 11, seq := q, domain := u.ptpDomain n, ann := some (u.announces n) })) ∧
  (∀ (dt : Nat) (n q : Nat) (t : State) (s u : State), s.advance dt = u → u.ptpOn n = true → u.regB (Reg.TRV_STS n) 0 = true → u.ptpMode n = 2 → (u.ptpPort n).seq = q → (u.modPtp n (fun p => { p with seq := (p.seq + 1) % 2 ^ 16 })).modPtp n (fun p => { p with reqSent := none, pdelay := none }) = t →
    exec (.ptpMessageSend dt n 2) s = .next (t.queuePtp n { kind := 2, seq := q, domain := u.ptpDomain n })) ∧
  (∀ (dt : Nat) (n q : Nat) (t : State) (s u : State), s.advance dt = u → u.ptpOn n = true → u.regB (Reg.TRV_STS n) 0 = true → u.ptpMode n = 1 → u.ptpState n = 3 → (u.ptpPort n).seq = q → (u.modPtp n (fun p => { p with seq := (p.seq + 1) % 2 ^ 16 })).modPtp n (fun p => { p with reqSent := none }) = t →
    exec (.ptpMessageSend dt n 2) s = .next (t.queuePtp n { kind := 1, seq := q, domain := u.ptpDomain n })) ∧
  (∀ (dt m : Nat) (n : Nat) (s u : State), s.toWrite dt m (Reg.TIM_PORTn_TXQ_POP n) 1 = u → n < 4 → u.opens m true (Reg.TIM_PORTn_TXQ_POP n) = true →
    exec (.txqPop dt m n 1) s = .next ({ u with tsq := smod [] u.tsq n (fun q => q.drop 1) })) ∧
  (∀ (dt m : Nat) (n : Nat) (s u : State), s.toWrite dt m (Reg.TIM_PORTn_TXQ_POP n) 0 = u → n < 4 → u.opens m true (Reg.TIM_PORTn_TXQ_POP n) = true →
    exec (.txqPop dt m n 0) s = .next (u))

/-- COMPARATOR_FIRE before the target, or of a comparator that is not enabled, changes nothing. One-shot (PERIOD 0) with no
action it clears EN, with the interrupt where IRQ is 1. Periodic, of kind PLM on a comparator that is not held, with n
instants missed, it releases the tasks of the mask once, sets the target to the first instant after now, and adds n to
MISSED. On a standby a set-owned one notes the releases it does not deliver and counts nothing. (04_network_time) -/
def Obligations.ComparatorsFire : Prop :=
  (∀ (dt : Nat) (k : Nat) (s u : State), s.clock dt (((s.advance dt).fireEvs (k % 16))) = u → k < 16 → u.regB (Reg.TIM_CMPk_CFG k) 0 = false ∨ u.now < u.cmpTarget k →
    exec (.comparatorFire dt k) s = .next (u)) ∧
  (∀ (dt : Nat) (k : Nat) (s u : State), s.clock dt (((s.advance dt).fireEvs (k % 16))) = u → k < 16 → u.regB (Reg.TIM_CMPk_CFG k) 0 = true → u.cmpTarget k ≤ u.now → u.reg (Reg.TIM_CMPk_PERIOD k) = 0 → u.regB (Reg.TIM_CMPk_CFG k) 1 = false → u.regF (Reg.TIM_CMPk_CFG k) 5 4 = 0 →
    exec (.comparatorFire dt k) s = .next ((if u.regB (Reg.TIM_CMPk_CFG k) 2 then u.raiseBit 18 k else u).setRegB (Reg.TIM_CMPk_CFG k) 0 false)) ∧
  (∀ (dt : Nat) (k t0 n per : Nat) (t : State) (s u : State), s.clock dt (((s.advance dt).fireEvs (k % 16))) = u → k < 16 → u.regB (Reg.TIM_CMPk_CFG k) 0 = true → u.cmpTarget k = t0 → (u.reg (Reg.TIM_CMPk_PERIOD k)).toNat = per → 0 < per → t0 + n * per ≤ u.now → u.now < t0 + (n + 1) * per → u.regB (Reg.TIM_CMPk_CFG k) 1 = false ∨ u.shadows = false → u.regB (Reg.TIM_CMPk_CFG k) 2 = false → u.regF (Reg.TIM_CMPk_CFG k) 5 4 = 2 → u.arriveMask (u.reg (Reg.TIM_CMPk_ACTION k)) = t →
    exec (.comparatorFire dt k) s = .next ((t.setCmpTarget k (t0 + (n + 1) * per)).countF (Reg.TIM_CMPk_MISSED k) 15 0 n)) ∧
  (∀ (dt : Nat) (k t0 per : Nat) (s u : State), s.clock dt (((s.advance dt).fireEvs (k % 16))) = u → k < 16 → u.regB (Reg.TIM_CMPk_CFG k) 0 = true → u.cmpTarget k = t0 → (u.reg (Reg.TIM_CMPk_PERIOD k)).toNat = per → 0 < per → t0 ≤ u.now → u.now < t0 + per → u.regB (Reg.TIM_CMPk_CFG k) 1 = true → u.shadows = true → u.regB (Reg.TIM_CMPk_CFG k) 2 = false → u.regF (Reg.TIM_CMPk_CFG k) 5 4 = 2 →
    exec (.comparatorFire dt k) s = .next ((u.firedHeld k t0).setCmpTarget k (t0 + per)))

/-- SEGMENT_END of datum d at or after the end of its active segment: with an abutting successor that becomes active, with
the jump at the change counted; without one the datum is STOPPING and STARVED with the interrupt. SEGMENT_START at or after
T0 of the first queued segment of a STOPPING datum makes it RUNNING, clears STARVED, counts the jump against the stop ramp
and engages geared datums that wait. DATUM_STOPPED at or after the end of the ramp, with no segment queued, holds the
position of the ramp's end, answers a DAT_STOP that waits, and raises STOPPED. Each sends the queue's record and follows
HZ_SHORT. Before its instant none changes anything. (05_datum_and_trajectories) -/
def Obligations.SegmentsFollowOneAnother : Prop :=
  (∀ (dt : Nat) (d : Nat) (g h : Seg) (r : List Seg) (t : State) (s u : State), s.clock dt [⟨.segEnd, d, 0⟩] = u → d < 8 → (u.dat d).st = .running → (u.dat d).queue = g :: h :: r → g.fin * 2 ^ 32 ≤ u.ptp → h.t0 = g.fin → ((u.retain d g).modDat d (fun x => { x with queue := h :: r, ended := some g })).jump d h (g.ending (u.datMod d)).u = t →
    exec (.segmentEnd dt d) s = .next ((t.recordDat d).refreshHz d)) ∧
  (∀ (dt : Nat) (d : Nat) (g h : Seg) (r : List Seg) (t : State) (s u : State), s.clock dt [⟨.segEnd, d, 0⟩] = u → d < 8 → (u.dat d).st = .running → (u.dat d).queue = g :: h :: r → g.fin * 2 ^ 32 ≤ u.ptp → h.t0 ≠ g.fin → ((u.retain d g).modDat d (fun x => { x with queue := h :: r, ended := some g, st := .stopping, starved := true })).datIrq d 0 = t →
    exec (.segmentEnd dt d) s = .next ((t.recordDat d).refreshHz d)) ∧
  (∀ (dt : Nat) (d : Nat) (g : Seg) (t : State) (s u : State), s.clock dt [⟨.segEnd, d, 0⟩] = u → d < 8 → (u.dat d).st = .running → (u.dat d).queue = [g] → g.fin * 2 ^ 32 ≤ u.ptp → 0 < g.sd1 + g.sd2 → ((u.retain d g).modDat d (fun x => { x with queue := [], ended := some g, st := .stopping, starved := true })).datIrq d 0 = t →
    exec (.segmentEnd dt d) s = .next ((t.recordDat d).refreshHz d)) ∧
  (∀ (dt : Nat) (d : Nat) (g : Seg) (r : List Seg) (s u : State), s.clock dt [⟨.segEnd, d, 0⟩] = u → d < 8 → (u.dat d).queue = g :: r → u.ptp < g.fin * 2 ^ 32 →
    exec (.segmentEnd dt d) s = .next (u)) ∧
  (∀ (dt : Nat) (d : Nat) (g e : Seg) (r : List Seg) (t : State) (s u : State), s.clock dt [⟨.segStart, d % 8, 0⟩] = u → d < 8 → (u.dat d).st = .stopping → (u.dat d).queue = g :: r → (u.dat d).ended = some e → g.t0 * 2 ^ 32 ≤ u.ptp → (u.jump d g (Datum.path (u.datMod d) { u.dat d with queue := [] } ((g.t0 : Int) * 2 ^ 32)).1.u).modDat d (fun x => { x with st := .running, starved := false }) = t →
    exec (.segmentStart dt d) s = .next (((t.engageWaiting d g.t0).recordDat d).refreshHz d)) ∧
  (∀ (dt : Nat) (d : Nat) (g : Seg) (p : Nat) (w : Int) (t : State) (s u : State), s.clock dt [⟨.rampEnd, d % 8, 0⟩] = u → d < 8 → (u.dat d).st = .stopping → (u.dat d).ended = some g → (u.dat d).queue = [] → g.rampEnd * 2 ^ 32 ≤ u.ptp → wrapPos (u.datMod d) (g.ramp (u.datMod d) (nsSec (g.sd1 + g.sd2))).u.floor = (p, w) → ((u.modDat d (fun x => { x with st := .stopped, heldP := p, heldW := w, starved := false })).datIrq d 3).modDat d (fun x =>
      { x with stopCmd := false, stopSlot := none, trunc := none }) = t →
    exec (.datumStopped dt d) s = .next ((((u.dat d).stopSlot.elim t (fun id => t.finishOk id [])).recordDat d).refreshHz d)) ∧
  (∀ (dt : Nat) (d : Nat) (g : Seg) (s u : State), s.clock dt [⟨.rampEnd, d % 8, 0⟩] = u → d < 8 → (u.dat d).ended = some g → u.ptp < g.rampEnd * 2 ^ 32 →
    exec (.datumStopped dt d) s = .next (u)) ∧
  (∀ (dt : Nat) (d : Nat) (s u : State), s.advance dt = u → d < 8 → u.hzCond d = true → (u.dat d).hzShort = false →
    exec (.hzShort dt d) s = .next ((u.modDat d (fun x => { x with hzShort := true })).datIrq d 1)) ∧
  (∀ (dt : Nat) (d : Nat) (s u : State), s.advance dt = u → d < 8 → u.hzCond d = false ∨ (u.dat d).hzShort = true →
    exec (.hzShort dt d) s = .next (u.modDat d (fun x => { x with hzShort := u.hzCond d })))

/-- DAT_APP_PUSH of 1 whose record passes appends the staged segment with the next SEQ and reports OK with it; one that
fails reports the lowest failing code and appends nothing; a write of 0 does nothing. ENCODER_EDGE of levels that its fast
inputs A and B do not show does nothing; of a quadrature encoder it takes the levels of A and B, and counts one up or down
by the direction of the transition (negated by the polarity bit) at the start of its later edge, or counts an error and
raises FAULT where both levels change. ENCODER_Z_EDGE, at a rise of Z with Z enabled, homes the count at first, then keeps
the counts per revolution, and finds no error within one count of a whole revolution. ENCODER_FIT at a new fit instant
extends the history; once enough instants have passed, on a module that fits, it stores the fit error and queues the fitted
segment of R107 where that may still be queued. UPSTREAM_TIMEOUT with no segment accepted for TIMEOUT cycles sets UP_LOST
and raises FAULT. SEGMENT_HANDOVER of a module that does not publish, or with nothing within the horizon, changes nothing.
(05_datum_and_trajectories) -/
def Obligations.DatumSources : Prop :=
  (∀ (dt m : Nat) (d q : Nat) (t : State) (s u : State), s.toWrite dt m (Reg.DAT_APP_CTL d) 1 = u → d < 8 → u.opens m true (Reg.DAT_APP_CTL d) = true → u.pushResult d = 0 → u.fits d (u.staged d) = true → ((u.dat d).seq + 1) % 2 ^ 32 = q → u.append d (u.staged d) q = t →
    exec (.datAppPush dt m d 1) s = .next ((t.setRegF (Reg.DAT_APP_STS d) 2 0 0).setRegF (Reg.DAT_APP_STS d) 31 16 q)) ∧
  (∀ (dt m : Nat) (d : Nat) (s u : State), s.toWrite dt m (Reg.DAT_APP_CTL d) 1 = u → d < 8 → u.opens m true (Reg.DAT_APP_CTL d) = true → u.pushResult d ≠ 0 →
    exec (.datAppPush dt m d 1) s = .next (u.setRegF (Reg.DAT_APP_STS d) 2 0 (u.pushResult d))) ∧
  (∀ (dt m : Nat) (d : Nat) (s u : State), s.toWrite dt m (Reg.DAT_APP_CTL d) 0 = u → d < 8 → u.opens m true (Reg.DAT_APP_CTL d) = true →
    exec (.datAppPush dt m d 0) s = .next (u)) ∧
  (∀ (dt : Nat) (d : Nat) (a b : Bool) (s u : State), s.advance dt = u → d < 8 → ((u.pinA d).level ≠ a ∨ (u.pinB d).level ≠ b) →
    exec (.encoderEdge dt d a b) s = .next (u)) ∧
  (∀ (dt : Nat) (d te : Nat) (a b : Bool) (s u : State), s.advance dt = u → d < 8 → u.datSource d = 2 → (u.encCfg d).fld 1 0 ≤ 1 → (u.pinA d).level = a → (u.pinB d).level = b → max (u.pinA d).last (u.pinB d).last = te → (quad a b + 4 - quad (u.dat d).enc.a (u.dat d).enc.b) % 4 = 1 →
    exec (.encoderEdge dt d a b) s = .next ((u.modEnc d (fun e => { e with a := a, b := b })).modEnc d (fun e =>
      { e with count := e.count + (if (u.encCfg d).bit 11 then -1 else 1), te := te,
               steps := (e.count + (if (u.encCfg d).bit 11 then -1 else 1), te) :: e.steps }))) ∧
  (∀ (dt : Nat) (d te : Nat) (a b : Bool) (s u : State), s.advance dt = u → d < 8 → u.datSource d = 2 → (u.encCfg d).fld 1 0 ≤ 1 → (u.pinA d).level = a → (u.pinB d).level = b → max (u.pinA d).last (u.pinB d).last = te → (quad a b + 4 - quad (u.dat d).enc.a (u.dat d).enc.b) % 4 = 3 →
    exec (.encoderEdge dt d a b) s = .next ((u.modEnc d (fun e => { e with a := a, b := b })).modEnc d (fun e =>
      { e with count := e.count - (if (u.encCfg d).bit 11 then -1 else 1), te := te,
               steps := (e.count - (if (u.encCfg d).bit 11 then -1 else 1), te) :: e.steps }))) ∧
  (∀ (dt : Nat) (d te : Nat) (a b : Bool) (s u : State), s.advance dt = u → d < 8 → u.datSource d = 2 → (u.encCfg d).fld 1 0 ≤ 1 → (u.pinA d).level = a → (u.pinB d).level = b → max (u.pinA d).last (u.pinB d).last = te → (quad a b + 4 - quad (u.dat d).enc.a (u.dat d).enc.b) % 4 = 2 →
    exec (.encoderEdge dt d a b) s = .next (((u.modEnc d (fun e => { e with a := a, b := b })).countF (Reg.DAT_ENC_ERR d) 15 0 1).datIrq d 2)) ∧
  (∀ (dt : Nat) (d te : Nat) (a b : Bool) (s u : State), s.advance dt = u → d < 8 → u.datSource d = 2 → (u.encCfg d).fld 1 0 ≤ 1 → (u.pinA d).level = a → (u.pinB d).level = b → max (u.pinA d).last (u.pinB d).last = te → (quad a b + 4 - quad (u.dat d).enc.a (u.dat d).enc.b) % 4 = 0 →
    exec (.encoderEdge dt d a b) s = .next (u.modEnc d (fun e => { e with a := a, b := b }))) ∧
  (∀ (dt : Nat) (d z : Nat) (c : Int) (t : State) (s u : State), s.advance dt = u → d < 8 → u.datSource d = 2 → (u.encCfg d).fld 1 0 = 1 → (u.encCfg d).bit 26 = true → (u.pinZ d).level = true → (u.pinZ d).last = z → (u.dat d).enc.zAt ≠ some z → u.modEnc d (fun e => { e with zAt := some z }) = t → signed 32 (u.cw 2 d 8).toNat = c → (u.dat d).enc.homed = none →
    exec (.encoderZEdge dt d) s = .next (t.modEnc d (fun e => { e with count := c, te := z, steps := (c, z) :: e.steps, homed := some c }))) ∧
  (∀ (dt : Nat) (d z : Nat) (c : Int) (t : State) (s u : State), s.advance dt = u → d < 8 → u.datSource d = 2 → (u.encCfg d).fld 1 0 = 1 → (u.encCfg d).bit 26 = true → (u.pinZ d).level = true → (u.pinZ d).last = z → (u.dat d).enc.zAt ≠ some z → u.modEnc d (fun e => { e with zAt := some z }) = t → (u.dat d).enc.homed = some c → (u.dat d).enc.perRev = none → (u.dat d).enc.count ≠ c →
    exec (.encoderZEdge dt d) s = .next (t.modEnc d (fun e => { e with perRev := some ((u.dat d).enc.count - c).natAbs }))) ∧
  (∀ (dt : Nat) (d z n : Nat) (c : Int) (t : State) (s u : State), s.advance dt = u → d < 8 → u.datSource d = 2 → (u.encCfg d).fld 1 0 = 1 → (u.encCfg d).bit 26 = true → (u.pinZ d).level = true → (u.pinZ d).last = z → (u.dat d).enc.zAt ≠ some z → u.modEnc d (fun e => { e with zAt := some z }) = t → (u.dat d).enc.homed = some c → (u.dat d).enc.perRev = some n → ((u.dat d).enc.count - c) % (n : Int) = 0 ∨ ((u.dat d).enc.count - c) % (n : Int) = 1 ∨ ((u.dat d).enc.count - c) % (n : Int) = (n : Int) - 1 →
    exec (.encoderZEdge dt d) s = .next (t)) ∧
  (∀ (dt d raw back tk n t : Nat) (e : Encoder) (p : Int × Nat) (vm m pos : Rat) (ofs : Int) (g : Seg) (s u w x : State),
    s.clock dt (s.pushEvs (d % 8)) = u → d < 8 → u.datSource d = 2 → u.fitInstant d = tk →
    (∀ l, (u.dat d).enc.lastFit = some l → l < tk) → (u.encCfg d).fld 17 15 + 1 = n → u.fitT d = t →
    (if (u.encCfg d).fld 1 0 < 2 then (u.dat d).enc
      else (u.dat d).enc.ssi ((u.encCfg d).fld 22 18 + 1) (if (u.encCfg d).fld 1 0 = 3
        then grayToBin ((u.encCfg d).fld 22 18 + 1) (raw % 2 ^ ((u.encCfg d).fld 22 18 + 1))
        else raw % 2 ^ ((u.encCfg d).fld 22 18 + 1)) (min tk (u.now - back))) = e →
    e.at_ tk = p → fitVm (pair64 (u.cw 2 d 9) (u.cw 2 d 10)) p e.hist[n - 1]? = vm →
    ((u.datEval d ((tk : Int) * 2 ^ 32)).u : Rat) = pos →
    (if e.realign && u.fitsNow then (pos - ((p.1 * (pair64 (u.cw 2 d 9) (u.cw 2 d 10) : Int) : Int) : Rat)).floor else e.offset) = ofs →
    ((p.1 * (pair64 (u.cw 2 d 9) (u.cw 2 d 10) : Int) : Int) : Rat) + ofs = m →
    u.modDat d (fun y => { y with fitValid := decide (n + 1 ≤ min 9 (e.fits + 1)), enc :=
      { e with hist := (p :: e.hist).take 9, fits := min 9 (e.fits + 1), lastFit := some tk, offset := ofs,
               realign := e.realign && !u.fitsNow, steps := e.steps.filter (fun q => decide (tk < q.2)) } }) = w →
    fitSeg (w.datMod d) (pair64 (w.cw 2 d 11) (w.cw 2 d 12)) (tk + w.fitLead d) t
      (m + vm * nsSec ((tk + w.fitLead d + t : Nat) - (p.2 : Int))) vm ((w.dat d).lastSeg.map (Seg.ending (w.datMod d))) = g →
    w.fitError d (nearTo (w.datMod d) (m + vm * nsSec ((tk : Int) - (p.2 : Int))) pos - pos) = x →
    exec (.encoderFit dt d ⟨raw, back⟩) s = .next (
      if n + 1 ≤ min 9 (e.fits + 1) ∧ w.fitsNow = true then
        (if x.fits d g ∧ (x.dat d).queue.length < 256 then x.append d g (((x.dat d).seq + 1) % 2 ^ 32) else x)
      else w)) ∧
  (∀ (dt : Nat) (d : Nat) (s u : State), s.clock dt [⟨.upTimeout, d % 8, 0⟩] = u → d < 8 → u.datSource d = 3 → (u.dat d).upLost = false → (u.cw 2 d 13).fld 31 24 ≤ (u.dat d).upAge →
    exec (.upstreamTimeout dt d) s = .next ((u.modDat d (fun x => { x with upLost := true })).datIrq d 2)) ∧
  (∀ (dt : Nat) (d : Nat) (s u : State), s.clock dt [⟨.upTimeout, d % 8, 0⟩] = u → d < 8 → (u.dat d).upAge < (u.cw 2 d 13).fld 31 24 →
    exec (.upstreamTimeout dt d) s = .next (u)) ∧
  (∀ (dt : Nat) (d : Nat) (s u : State), s.clock dt [⟨.segBuild, 0x100 + d, 0⟩] = u → d < 8 → u.publishes = false →
    exec (.segmentHandover dt d) s = .next (u)) ∧
  (∀ (dt : Nat) (d : Nat) (g : Seg) (s u : State), s.clock dt [⟨.segBuild, 0x100 + d, 0⟩] = u → d < 8 → u.publishes = true → (u.dat d).queue = [g] → u.datPub d = 1 → g.sent = 0 → g.t0 * 2 ^ 32 ≤ u.ptp + u.datHorizon d * 2 ^ 32 →
    exec (.segmentHandover dt d) s = .next ((({ u with ports := smod {} u.ports 0 (fun p => p.hand d [{ stream := d, seg := g }]) } : State).modDat d (fun x =>
      { x with queue := [{ g with sent := 1 }] })).recordDat d))

/-- ARM of a disarmed entry of the table window arms it with a new reference and no hysteresis; DISARM of an armed one
disarms it; RELOAD of a disarmed one restores target and count as loaded; each sends the entry's record; ARM of an armed and
DISARM of a disarmed entry change nothing; RELOAD of an armed one is a misuse. STAKE_FIRE of an armed entry with a reference
and no crossing since stores the new reference only. A crossing of a ONE_SHOT entry of COUNT 0, on a segment with no jump
and not predicted, disarms it and queues its action for its crossing instant less LEAD. (06_stake_unit) -/
def Obligations.StakesAreArmedAndTested : Prop :=
  (∀ (dt m : Nat) (j e : Nat) (s u : State), s.toWrite dt m (Reg.STK_W7 j) 1 = u → j < 1024 → u.opens m true (Reg.STK_W7 j) = true → u.windowEntry j = e → (u.stake e).st = .disarmed →
    exec (.arm dt m j) s = .next ((u.setStake e { u.stake e with st := .armed, ref := some (u.reference e), block := false, prov := none }).record 0
      [(u.setStake e { u.stake e with st := .armed, ref := some (u.reference e), block := false, prov := none }).stakeRec e])) ∧
  (∀ (dt m : Nat) (j : Nat) (s u : State), s.toWrite dt m (Reg.STK_W7 j) 1 = u → j < 1024 → u.opens m true (Reg.STK_W7 j) = true → (u.stake (u.windowEntry j)).st ≠ .disarmed →
    exec (.arm dt m j) s = .next (u)) ∧
  (∀ (dt m : Nat) (j e : Nat) (s u : State), s.toWrite dt m (Reg.STK_W7 j) 2 = u → j < 1024 → u.opens m true (Reg.STK_W7 j) = true → u.windowEntry j = e → (u.stake e).st ≠ .disarmed →
    exec (.disarm dt m j) s = .next ((u.setStake e { u.stake e with st := .disarmed, ref := none, block := false }).record 0
      [(u.setStake e { u.stake e with st := .disarmed, ref := none, block := false }).stakeRec e])) ∧
  (∀ (dt m : Nat) (j : Nat) (s u : State), s.toWrite dt m (Reg.STK_W7 j) 2 = u → j < 1024 → u.opens m true (Reg.STK_W7 j) = true → (u.stake (u.windowEntry j)).st = .disarmed →
    exec (.disarm dt m j) s = .next (u)) ∧
  (∀ (dt m : Nat) (j e : Nat) (s u : State), s.toWrite dt m (Reg.STK_W7 j) 4 = u → j < 1024 → u.opens m true (Reg.STK_W7 j) = true → u.windowEntry j = e → (u.stake e).st = .disarmed →
    exec (.reload dt m j) s = .next ((u.setStake e { u.stake e with target := pair64 (u.cw 5 e 1) (u.cw 5 e 2), count := (u.cw 5 e 0).fld 31 16 }).record 0
      [(u.setStake e { u.stake e with target := pair64 (u.cw 5 e 1) (u.cw 5 e 2), count := (u.cw 5 e 0).fld 31 16 }).stakeRec e])) ∧
  (∀ (dt m : Nat) (j : Nat) (s u : State), s.toWrite dt m (Reg.STK_W7 j) 4 = u → j < 1024 → u.opens m true (Reg.STK_W7 j) = true → (u.stake (u.windowEntry j)).st ≠ .disarmed →
    exec (.reload dt m j) s = .next (u.misused 128 0x50000)) ∧
  (∀ (dt : Nat) (i : Nat) (prev : Int) (tp : Nat) (s u : State), s.clock dt [⟨.stakeFire, i % 4096, s.stkDatum (i % 4096)⟩] = u → i < 4096 → (u.stake i).st ≠ .disarmed → u.role ≠ 0 → u.role ≠ 6 → u.cmpState 25 ≠ 5 → u.badEntry i = false → (u.stake i).ref = some (prev, tp) → (u.stake i).block = false → crossing (u.datMod (u.stkDatum i)) (u.stake i).target (u.stkDir i % 2 = 1) (u.stkDir i / 2 = 1) none prev (u.reference i).1 = none →
    exec (.stakeFire dt i) s = .next (u.setStake i { u.stake i with ref := some (u.reference i) })) ∧
  (∀ (dt : Nat) (i d : Nat) (prev xt : Int) (tp : Nat) (t : State) (a : Action) (s u : State), s.clock dt [⟨.stakeFire, i % 4096, s.stkDatum (i % 4096)⟩] = u → i < 4096 → u.stkDatum i = d → (u.stake i).st = .armed → u.dispatches = true → u.cmpState 25 ≠ 5 → u.badEntry i = false → (u.stake i).ref = some (prev, tp) → (u.stake i).block = false → (u.stake i).prov = none → u.stkMode i = 0 → crossing (u.datMod d) (u.stake i).target (u.stkDir i % 2 = 1) (u.stkDir i / 2 = 1) none prev (u.reference i).1 = some xt → jumpsIn (u.datMod d) (u.dat d) tp (u.reference i).2 = [] → predicted (u.dat d) (u.reference i).2 = false → ({ index := i, tf := (u.crossInstant d xt prev tp (u.reference i) : Int) - (u.stkLead i : Int), tcross := u.crossInstant d xt prev tp (u.reference i), kind := (u.cw 5 i 0).fld 15 12, operand := u.cw 5 i 5, dec := u.sclk } : Action) = a → u.setStake i { u.stake i with st := .disarmed, ref := none } = t →
    exec (.stakeFire dt i) s = .next ({ t with stk := t.stk.wait a })) ∧
  (∀ (d : Nat) (xt prev : Int) (tp : Nat) (cur : Int × Nat) (u : State),
    (jumpsIn (u.datMod d) (u.dat d) tp cur.2 ≠ [] ∨ (u.datEval d tp).u ≠ prev) → u.crossInstant d xt prev tp cur = cur.2 / 2 ^ 32) ∧
  (∀ (dt : Nat) (i : Nat) (s u : State), s.clock dt [⟨.stakeFire, i % 4096, s.stkDatum (i % 4096)⟩] = u → i < 4096 → (u.stake i).st = .disarmed →
    exec (.stakeFire dt i) s = .next (u))

/-- STAKE_ACTION_DISPATCH in a role that dispatches, with one due action: it leaves the queue and is taken: NOTE stores the
index and raises its bit, RELEASE is a release of the task, CAPTURE fills its slot with the crossing instant and sets OVR
over an unread one, EVENT is queued for its port with its act time, CONV starts the groups. FO_EDGE of an output that stakes
own is queued for its instant, or placed at once and counted when that has passed. Of two due actions the one with the
earlier instant goes first, at one instant the one of the lower entry. In any other role nothing is dispatched.
FO_EDGE_APPLY places the head edge whose instant has come. STK_CAP_INFO_READ returns INDEX, OVR and VALID as latched and
clears the slot if no capture has come since, else returns OVR set and leaves it. (06_stake_unit) -/
def Obligations.StakeActions : Prop :=
  (∀ (u : State) (a : Action), u.nextAction = some a →
    u.dispatches = true ∧ a ∈ u.stk.actions ∧ u.due a = true ∧
    ∀ b ∈ u.stk.actions, u.due b = true → a.tf < b.tf ∨ (a.tf = b.tf ∧ a.index ≤ b.index)) ∧
  (∀ (u : State) (b : Action), u.dispatches = true → b ∈ u.stk.actions → u.due b = true → u.nextAction ≠ none) ∧
  (∀ (dt : Nat) (a : Action) (t : State) (s u : State), s.clock dt ((s.advance dt).dispatchEvs) = u → u.nextAction = some a → u.rank a < 16 → a.kind = 0 → ({ u with stk := { u.stk with actions := u.stk.actions.erase a } } : State) = t →
    exec (.stakeActionDispatch dt) s = .next ((t.setReg Reg.STK_NOTE_IDX (w32 a.index)).raiseBit 20 0)) ∧
  (∀ (dt : Nat) (a : Action) (t : State) (s u : State), s.clock dt ((s.advance dt).dispatchEvs) = u → u.nextAction = some a → u.rank a < 16 → a.kind = 2 → ({ u with stk := { u.stk with actions := u.stk.actions.erase a } } : State) = t →
    exec (.stakeActionDispatch dt) s = .next (t.arrive (a.operand.fld 4 0))) ∧
  (∀ (dt : Nat) (a : Action) (t : State) (s u : State), s.clock dt ((s.advance dt).dispatchEvs) = u → u.nextAction = some a → u.rank a < 16 → a.kind = 3 → a.operand.fld 1 0 = 1 → ({ u with stk := { u.stk with actions := u.stk.actions.erase a } } : State) = t → t.hasGroup 0 = true → t.domainOn 9 = true → t.triggered 0 = true → t.converting 0 = false →
    exec (.stakeActionDispatch dt) s = .next ({ t with grps := smod {} t.grps 0 (fun x => { x with conv := (t.now + t.convT 0, t.now + t.convT 0 + 60000) :: x.conv }) })) ∧
  (∀ (dt : Nat) (a : Action) (c : Capture) (t : State) (s u : State), s.clock dt ((s.advance dt).dispatchEvs) = u → u.nextAction = some a → u.rank a < 16 → a.kind = 4 → ({ u with stk := { u.stk with actions := u.stk.actions.erase a } } : State) = t → sget {} t.stk.caps (a.operand.fld 3 0) = c → 0 ≤ a.tcross →
    exec (.stakeActionDispatch dt) s = .next ((t.setCap (a.operand.fld 3 0) { ns := a.tcross.toNat % 1000000000, sec := a.tcross.toNat / 1000000000, index := a.index, valid := true, ovr := c.valid || c.latched, stamp := c.stamp + 1 }).raiseBit 20 7)) ∧
  (∀ (dt : Nat) (a : Action) (e : StnEvent) (q : List StnEvent) (t : State) (s u : State), s.clock dt ((s.advance dt).dispatchEvs) = u → u.nextAction = some a → u.rank a < 16 → a.kind = 5 → a.freed = false ∨ (u.now : Int) ≤ a.tf → ⟨a.operand.fld 1 0, a.operand.fld 9 2, a.operand.fld 31 16, a.tcross⟩ = e → ({ u with stk := { u.stk with actions := u.stk.actions.erase a } } : State) = t → sget [] t.stk.events e.port = q → q.length < 64 → a.tf + 2 * (t.cycleNs e.port : Int) ≤ e.act →
    exec (.stakeActionDispatch dt) s = .next ({ t with stk := { t.stk with events := sput [] t.stk.events e.port (q ++ [e]) } })) ∧
  (∀ (dt : Nat) (a : Action) (k : Nat) (t : State) (s u : State), s.clock dt ((s.advance dt).dispatchEvs) = u → u.nextAction = some a → u.rank a < 16 → a.kind = 1 → a.operand.fld 2 0 = k → ({ u with stk := { u.stk with actions := u.stk.actions.erase a } } : State) = t → t.foOwner k = 2 → (t.now : Int) ≤ a.tf → (t.edges k).length < 8 →
    exec (.stakeActionDispatch dt) s = .next (t.setEdges k (insertEdge ⟨a.tf, a.operand.fld 5 4⟩ (t.edges k)))) ∧
  (∀ (dt : Nat) (a : Action) (k : Nat) (t : State) (s u : State), s.clock dt ((s.advance dt).dispatchEvs) = u → u.nextAction = some a → u.rank a < 16 → a.kind = 1 → a.operand.fld 2 0 = k → ({ u with stk := { u.stk with actions := u.stk.actions.erase a } } : State) = t → t.foOwner k = 2 → a.tf < (t.now : Int) →
    exec (.stakeActionDispatch dt) s = .next (((t.placeEdge k (a.operand.fld 5 4) t.now).count Reg.STK_FO_LATE).raiseBit 20 1)) ∧
  (∀ (dt : Nat) (s u : State), s.clock dt ((s.advance dt).dispatchEvs) = u → u.dispatches = false →
    exec (.stakeActionDispatch dt) s = .next (u)) ∧
  (∀ (dt : Nat) (k : Nat) (e : FoEdge) (r : List FoEdge) (s u : State), s.advance dt = u → k < 8 → u.edges k = e :: r → e.tf ≤ (u.now : Int) →
    exec (.foEdgeApply dt k) s = .next ((u.setEdges k r).placeEdge k e.level e.tf)) ∧
  (∀ (dt : Nat) (k : Nat) (e : FoEdge) (r : List FoEdge) (s u : State), s.advance dt = u → k < 8 → u.edges k = e :: r → (u.now : Int) < e.tf →
    exec (.foEdgeApply dt k) s = .next (u)) ∧
  (∀ (dt m k : Nat) (l c : Capture) (s u : State), s.toRead dt m (Reg.STK_CAPk_INFO k) = u → k < 16 → u.opens m false (Reg.STK_CAPk_INFO k) = true →
    u.flipsAt (Reg.STK_CAPk_INFO k) = (0, 0, 0) →
    sget none u.stk.capLat (k * 256 + m) = some l → sget {} u.stk.caps k = c → l.stamp = c.stamp →
    exec (.stkCapInfoRead dt m k) s =
      .next ((u.setCap k { c with index := 0, valid := false, ovr := false, latched := false }).emit
        (.readData m (Reg.STK_CAPk_INFO k) (w32 (l.index + 2 ^ 30 * ofBool l.ovr + 2 ^ 31 * ofBool l.valid))))) ∧
  (∀ (dt m k : Nat) (l c : Capture) (s u : State), s.toRead dt m (Reg.STK_CAPk_INFO k) = u → k < 16 → u.opens m false (Reg.STK_CAPk_INFO k) = true →
    u.flipsAt (Reg.STK_CAPk_INFO k) = (0, 0, 0) →
    sget none u.stk.capLat (k * 256 + m) = some l → sget {} u.stk.caps k = c → l.stamp ≠ c.stamp →
    u.evsNow.any (fun e => e.tag = .capture && e.a = k) = false →
    exec (.stkCapInfoRead dt m k) s =
      .next (u.emit (.readData m (Reg.STK_CAPk_INFO k) (w32 (l.index + 2 ^ 30 + 2 ^ 31 * ofBool l.valid)))))

/-- FRAME_TRANSMIT of a port whose link is up, after what the wire has done by now: with a frame on the wire and no express
frame it changes nothing; with an express frame and a fragment boundary reached it preempts, counts the fragment and begins
the express frame; with nothing on the wire it begins the frame of the highest queue that may begin, or goes on with a held
one. A heartbeat that begins leaves its queue and goes out; with a timestamp requested its time enters the timestamp queue
with its TAG. DISCOVER of a module that runs the line, with no discovery running, queues a DISCOVER where the port runs its
cycle and collects for 10 ms; DISCOVER_RESP in that time is added to the answers; DISC_DONE at its end clears DISC and
raises the interrupt. BAD_FRAME_RX is counted by its kind. LINE_LINK_CHANGE stores LINK, clears PREEMPT, empties the wire,
raises the interrupt and runs the selection of the master anew. PREEMPTION_VERIFIED stores PREEMPT. (07_traverse_protocol)
-/
def Obligations.FramesLeave : Prop :=
  (∀ (dt : Nat) (n q : Nat) (w : WireFrame) (stop : Option Nat) (v : State) (s u : State), s.advance dt = u → u.hasPort n = true → u.regB (Reg.TRV_STS n) 0 = true → u.wire n = v → (v.port n).tx = none → (v.port n).held = none → v.nextFrame n false = some (q, w, stop) →
    exec (.frameTransmit dt n) s = .next (v.begin_ n q w stop)) ∧
  (∀ (dt : Nat) (n : Nat) (v : State) (s u : State), s.advance dt = u → u.hasPort n = true → u.regB (Reg.TRV_STS n) 0 = true → u.wire n = v → (v.port n).tx = none → (v.port n).held = none → v.nextFrame n false = none →
    exec (.frameTransmit dt n) s = .next (v)) ∧
  (∀ (dt : Nat) (n : Nat) (x : Sending) (v : State) (s u : State), s.advance dt = u → u.hasPort n = true → u.regB (Reg.TRV_STS n) 0 = true → u.wire n = v → (v.port n).tx = some x → v.nextFrame n true = none →
    exec (.frameTransmit dt n) s = .next (v)) ∧
  (∀ (dt : Nat) (n q b : Nat) (x : Sending) (w : WireFrame) (stop : Option Nat) (v : State) (s u : State), s.advance dt = u → u.hasPort n = true → u.regB (Reg.TRV_STS n) 0 = true → u.wire n = v → (v.port n).tx = some x → v.nextFrame n true = some (q, w, stop) → v.preempts n x.q = true → (v.now - x.at_) * 5 / 4 = b → v.fragMin n ≤ b → b + 64 ≤ x.left →
    exec (.frameTransmit dt n) s = .next ((((v.modPort n (fun p => { p with held := some { x with left := x.left - b + 24, stop := none } })).emit (.frameHeld n)).count
      (Reg.TRV_TX_FRAG n)).begin_ n q w stop)) ∧
  (∀ (dt : Nat) (n : Nat) (x : Sending) (stop : Option Nat) (v : State) (s u : State), s.advance dt = u → u.hasPort n = true → u.regB (Reg.TRV_STS n) 0 = true → u.wire n = v → (v.port n).tx = none → (v.port n).held = some x → v.nextFrame n true = none → v.piece n x.q x.left = some stop →
    exec (.frameTransmit dt n) s = .next ((v.modPort n (fun p => { p with held := none, tx := some { x with at_ := v.now, stop := stop } })).emit (.frameOn n))) ∧
  (∀ (dt : Nat) (n : Nat) (s u : State), s.advance dt = u → u.hasPort n = false ∨ u.regB (Reg.TRV_STS n) 0 = false →
    exec (.frameTransmit dt n) s = .next (u)) ∧
  (∀ (s : State) (n : Nat) (x : Sending), (s.port n).tx = some x → x.stop = none → x.at_ + wireNs x.left ≤ s.now →
    s.wire n = s.modPort n (fun p => { p with tx := none })) ∧
  (∀ (s : State) (n b : Nat) (x : Sending), (s.port n).tx = some x → x.stop = some b → x.at_ + wireNs b ≤ s.now →
    s.wire n = ((s.modPort n (fun p => { p with tx := none, held := some { x with left := x.left - b + 24, stop := none } })).emit
      (.frameHeld n)).count (Reg.TRV_TX_FRAG n)) ∧
  (∀ (s t : State) (n q tag ts ro at_ : Nat) (w x : WireFrame) (f : Frame) (stop : Option Nat), ((s.port n).tagCount + 1) % 2 ^ 16 = tag →
    s.stamp s.now = (ts, t) → t.leaving n tag ts w = x → w.body = .trv f → f.body = .heartbeat ro at_ → f.hdr.tsReq = false →
    s.begin_ n q w stop = (t.modPort n (fun p => { p with
      txq := smod [] p.txq q (fun l => l.erase w), tagCount := tag,
      tx := some { q := q, w := x, left := wireBytes x, at_ := s.now, stop := stop } })).emit (.frame n x)) ∧
  (∀ (s t : State) (n q tag ts ro at_ : Nat) (w x : WireFrame) (f : Frame) (stop : Option Nat), ((s.port n).tagCount + 1) % 2 ^ 16 = tag →
    s.stamp s.now = (ts, t) → t.leaving n tag ts w = x → w.body = .trv f → f.body = .heartbeat ro at_ → f.hdr.tsReq = true →
    s.begin_ n q w stop = ((t.modPort n (fun p => { p with
      txq := smod [] p.txq q (fun l => l.erase w), tagCount := tag,
      tx := some { q := q, w := x, left := wireBytes x, at_ := s.now, stop := stop } })).emit (.frame n x)).pushTs n tag ts) ∧
  (∀ (s t : State) (n tag ts : Nat) (q : List TsEntry), s.note [⟨.txqPush, n, 0⟩] = t → sget [] t.tsq n = q → q ≠ [] → q.length < 16 →
    s.pushTs n tag ts = { t with tsq := sput [] t.tsq n (q ++ [⟨tag, ts⟩]) }) ∧
  (∀ (s t : State) (n tag ts : Nat), s.note [⟨.txqPush, n, 0⟩] = t → 16 ≤ (sget [] t.tsq n : List TsEntry).length →
    s.pushTs n tag ts = (t.count (Reg.TIM_PORTn_TXQ_OVF n)).raiseBit 18 18) ∧
  (∀ (dt m : Nat) (n : Nat) (v : Word) (w t : State) (s u : State), s.toWrite dt m (Reg.TRV_CTL n) v = u → n < 4 → u.opens m true (Reg.TRV_CTL n) = true → v &&& ~~~0xFF07 = 0 → v.bit 0 = true → v.bit 2 = true → u.regB (Reg.TRV_CTL n) 2 = false → u.setReg (Reg.TRV_CTL n) v = w → w.modPort n (fun p => { p with discEnd := some (w.now + 10000000), answers := [] }) = t → t.cycles n = true → t.runs = true →
    exec (.discover dt m n v) s = .next (t.queueFrame n false .discover)) ∧
  (∀ (dt : Nat) (n t0 : Nat) (s u : State), s.advance dt = u → (u.port n).discEnd = some t0 → t0 ≤ u.now →
    exec (.discDone dt n) s = .next (((u.modPort n (fun p => { p with discEnd := none })).setRegB (Reg.TRV_CTL n) 2 false).trvIrq n 8)) ∧
  (∀ (dt : Nat) (n t0 : Nat) (s u : State), s.advance dt = u → (u.port n).discEnd = some t0 → u.now < t0 →
    exec (.discDone dt n) s = .next (u)) ∧
  (∀ (dt : Nat) (n ad mac pr st t0 : Nat) (h : Hdr) (v w : State) (s u : State), s.clock dt ((rxEvs n ++ [⟨.stnFrame, n, ((s.stnAt n h.src).getD 0)⟩])) = u → u.takesFrame n h (.discoverResp ad mac pr st) true = true → u.received n h.vid.isSome (20 + paylen (.discoverResp ad mac pr st)) = v → (v.stnAt n h.src).elim v (fun k => if h.dst = v.ownAddr then v.heardStn n k st h.epoch else v) = w → (w.port n).discEnd = some t0 → w.now < t0 →
    exec (.discoverResp dt n h ad mac pr st) s = .next (w.modPort n (fun p => { p with answers := p.answers ++ [(ad, mac, pr, st, p.rxTs.getD 0)] }))) ∧
  (∀ (dt : Nat) (n et : Nat) (vid : Option Nat) (bs : List Byte) (s u : State), s.clock dt ((rxEvs n)) = u → u.hasPort n = true → u.regB (Reg.TRV_STS n) 0 = true →
    exec (.badFrameRx dt n (RawFrame.mk et vid false bs)) s = .next (u.count (Reg.TRV_RX_FCS n))) ∧
  (∀ (dt : Nat) (n et : Nat) (vid : Option Nat) (bs : List Byte) (v : State) (s u : State), s.clock dt ((rxEvs n)) = u → u.hasPort n = true → u.regB (Reg.TRV_STS n) 0 = true → u.received n vid.isSome bs.length = v → et ≠ 0x88F7 → et ≠ v.regF Reg.TRV_SW_ETYPE 15 0 →
    exec (.badFrameRx dt n (RawFrame.mk et vid true bs)) s = .next (v.count Reg.TRV_SW_DROP)) ∧
  (∀ (dt : Nat) (n et : Nat) (vid : Option Nat) (bs : List Byte) (v : State) (s u : State), s.clock dt ((rxEvs n)) = u → u.hasPort n = true → u.regB (Reg.TRV_STS n) 0 = true → u.received n vid.isSome bs.length = v → et ≠ 0x88F7 → et = v.regF Reg.TRV_SW_ETYPE 15 0 → (∀ h : Hdr, h.vid = vid → v.tagOk n h = true) → headerGood bs = false →
    exec (.badFrameRx dt n (RawFrame.mk et vid true bs)) s = .next (v.count (Reg.TRV_RX_BAD n))) ∧
  (∀ (dt : Nat) (n : Nat) (up : Bool) (v t : State) (s u : State), s.clock dt ((s.advance dt).lockEvs (fun s => (s.lineLink n up).ptpChanged s.ptpOn)) = u → u.hasPort n = true → u.regB (Reg.TRV_STS n) 0 ≠ up → u.wire n = v → v.modPort n (fun p => { p with tx := none, held := none }) = t →
    exec (.lineLinkChange dt n up) s = .next ((((t.setRegB (Reg.TRV_STS n) 0 up).setRegB (Reg.TRV_STS n) 1 false).trvIrq n 0).ptpChanged u.ptpOn)) ∧
  (∀ (dt : Nat) (n : Nat) (ok : Bool) (s u : State), s.advance dt = u → u.hasPort n = true →
    exec (.preemptionVerified dt n ok) s = .next (u.setRegB (Reg.TRV_STS n) 1 (ok && u.regB (Reg.TRV_STS n) 0)))

/-- Of a frame that the port takes for this module, in terms of the state v in which it has been received. IMAGE of a
station of the port with the block lengths of its item: the station is heard and its inputs are written; with other lengths
it is counted bad. TRAVERSE_ACK of a station: the station is heard, its entries are stored, what every subscriber has
acknowledged is due no more, SEG_NAK and the events follow. HEARTBEAT of the partner stores the port and the instant of the
heartbeat and the pair unit hears its role. Of an upstream pair under its adopted epoch and slot, which is heard: DATUM and
IMAGE end HOLDING, SEGMENT goes to the datums that follow its stream, STATE_CMD sets the station's state where Table 7.7
lets it, CONFIG stores the subscription and CONFIGURED. Of a lower epoch it is counted old and nothing else. STATION_LOST at
MISS_LIMIT sets LOST; SEG_NAK counts a segment past its repeats; EVT_NAK counts the events past their act time.
(07_traverse_protocol) -/
def Obligations.FramesAreTaken : Prop :=
  (∀ (dt : Nat) (n : Nat) (h : Hdr) (b : InBlock) (v : State) (s u : State), s.clock dt ((imageEvs n (.station b))) = u → u.takesFrame n h (.input b) true = true → u.received n h.vid.isSome (20 + paylen (.input b)) = v → b.bytes.length + 4 * b.words.length ≤ 1024 → v.isStation n b.stn h = true → b.bytes.length = (v.stnW n b.stn 5).fld 31 16 → b.words.length = (v.stnW n b.stn 6).fld 31 16 →
    exec (.imageFrame dt n h (.station b)) s = .next ((v.heardStn n b.stn b.state h.epoch).writeInputs n b)) ∧
  (∀ (dt : Nat) (n : Nat) (h : Hdr) (b : InBlock) (v : State) (s u : State), s.clock dt ((imageEvs n (.station b))) = u → u.takesFrame n h (.input b) true = true → u.received n h.vid.isSome (20 + paylen (.input b)) = v → b.bytes.length + 4 * b.words.length ≤ 1024 → v.isStation n b.stn h = true → b.bytes.length ≠ (v.stnW n b.stn 5).fld 31 16 ∨ b.words.length ≠ (v.stnW n b.stn 6).fld 31 16 →
    exec (.imageFrame dt n h (.station b)) s = .next (v.count (Reg.TRV_RX_BAD n))) ∧
  (∀ (dt : Nat) (n : Nat) (h : Hdr) (b : InBlock) (v : State) (s u : State), s.clock dt ((imageEvs n (.station b))) = u → u.takesFrame n h (.input b) true = true → u.received n h.vid.isSome (20 + paylen (.input b)) = v → b.bytes.length + 4 * b.words.length ≤ 1024 → v.isStation n b.stn h = false →
    exec (.imageFrame dt n h (.station b)) s = .next (v)) ∧
  (∀ (dt : Nat) (n t0 : Nat) (h : Hdr) (bs : List ImgBlock) (v w : State) (s u : State), s.clock dt ((imageEvs n (.pair t0 bs))) = u → u.takesFrame n h (.image t0 bs) false = true → u.received n h.vid.isSome (20 + paylen (.image t0 bs)) = v → bs.length ≤ 255 → (∀ b ∈ bs, b.bytes.length + 4 * b.words.length ≤ 1024) → v.fromUpstream n h = true → v.heardUp n h.src = w →
    exec (.imageFrame dt n h (.pair t0 bs)) s = .next (w.leaveHolding n h.src)) ∧
  (∀ (s : State) (n k st : Nat) (e : Nat), s.regB (Reg.STN_STS n k) 4 = false → s.regF (Reg.STN_STS n k) 2 0 = st % 8 → s.epoch ≤ e →
    s.heardStn n k st e = (((s.modStn n k (fun x => { x with heard := true, heardAt := some s.sclk })).setRegF
      (Reg.STN_STS n k) 15 8 0).setRegB (Reg.STN_STS n k) 5 false)) ∧
  (∀ (s t : State) (n src : Nat), s.leaveHolding n src = t →
    (s.upAddr n = src → (s.port n).asStn.state = 4 → t = s.modPort n (fun p => { p with asStn := { p.asStn with state := 3 } })) ∧
    (s.upAddr n ≠ src ∨ (s.port n).asStn.state ≠ 4 → t = s)) ∧
  (∀ (dt : Nat) (n k st : Nat) (h : Hdr) (ss : List AckStream) (es : List AckEvent) (v x y : State) (s u : State), s.clock dt ((rxEvs n ++ [⟨.stnFrame, n, k⟩, ⟨.ackFrame, n, 0⟩])) = u → u.takesFrame n h (.ack k st ss es) true = true → u.received n h.vid.isSome (20 + paylen (.ack k st ss es)) = v → 8 * ss.length + 16 * es.length ≤ 1472 → v.isStation n k h = true → v.heardStn n k st h.epoch = x → (((x.modStn n k (fun z => { z with
      held := ss.foldl (fun m e => sput none m e.stream (some e.heldSeq)) z.held,
      truncSeen := ss.foldl (fun l e => if e.truncSeen && (x.port n).truncs.any (fun t => t.stream = e.stream && (t.said || t.told ≠ 0)) && !l.contains e.stream then l ++ [e.stream] else l) z.truncSeen })).settleAcks n).fullAck n k) = y →
    exec (.traverseAck dt n h k st ss es) s = .next ((y.modPort n (fun p => { p with dueEvts := p.dueEvts.filter (fun d => !es.any (fun e => e.evtId = d.evt.evtId)) })).countF
      (Reg.STN_EVT_LATE n k) 15 0 (es.filter (fun e => e.result = 2 || e.result = 3)).length)) ∧
  (∀ (dt : Nat) (n k st : Nat) (h : Hdr) (ss : List AckStream) (es : List AckEvent) (v : State) (s u : State), s.clock dt ((rxEvs n ++ [⟨.stnFrame, n, k⟩, ⟨.ackFrame, n, 0⟩])) = u → u.takesFrame n h (.ack k st ss es) true = true → u.received n h.vid.isSome (20 + paylen (.ack k st ss es)) = v → 8 * ss.length + 16 * es.length ≤ 1472 → v.isStation n k h = false →
    exec (.traverseAck dt n h k st ss es) s = .next (v)) ∧
  (∀ (dt n k st x q : Nat) (f : Bool) (h : Hdr) (s u v : State), s.clock dt (rxEvs n ++ [⟨.stnFrame, n, k⟩, ⟨.ackFrame, n, 0⟩]) = u →
    u.takesFrame n h (.ack k st [⟨x, f, q⟩] []) true = true → u.received n h.vid.isSome (20 + paylen (.ack k st [⟨x, f, q⟩] [])) = v →
    v.isStation n k h = true → n < 4 →
    Completes (.traverseAck dt n h k st [⟨x, f, q⟩] []) s (fun t =>
      (t.stn n k).heard = true ∧ sget none (t.stn n k).held x = some q ∧ t.regF (Reg.STN_STS n k) 15 8 = 0 ∧
      t.regF (Reg.STN_STS n k) 2 0 = st % 8 ∧ t.regB (Reg.STN_STS n k) 5 = decide (h.epoch < v.epoch) ∧
      t.regB (Reg.STN_STS n k) 4 = false ∧ SameMemory u t)) ∧
  (∀ (dt : Nat) (n ro x : Nat) (h : Hdr) (v : State) (s u : State), s.clock dt ((rxEvs n ++ (s.advance dt).pairEvs (fun s => s.beatRx n h ro x))) = u → u.takesFrame n h (.heartbeat (ro % 8) x) false = true → u.received n h.vid.isSome (20 + paylen (.heartbeat (ro % 8) x)) = v → h.src = v.ownAddr → h.slot ≠ v.slotId →
    exec (.heartbeat dt n h ro x) s = .next ((({ v with hbAt := some v.now } : State).setRegF Reg.TRV_SW_STS 2 0 n).heardRole (ro % 8))) ∧
  (∀ (dt : Nat) (n : Nat) (h : Hdr) (es : List DatumEntry) (v w : State) (s u : State), s.clock dt ((rxEvs n)) = u → u.takesFrame n h (.datum es) false = true → u.received n h.vid.isSome (20 + paylen (.datum es)) = v → 1 ≤ es.length → es.length ≤ 8 → v.fromUpstream n h = true → v.heardUp n h.src = w →
    exec (.datumFrame dt n h es) s = .next (w.leaveHolding n h.src)) ∧
  (∀ (dt : Nat) (n : Nat) (h : Hdr) (es : List DatumEntry) (v : State) (s u : State), s.clock dt ((rxEvs n)) = u → u.takesFrame n h (.datum es) false = true → u.received n h.vid.isSome (20 + paylen (.datum es)) = v → 1 ≤ es.length → es.length ≤ 8 → v.isUpstream n h.src = true → h.epoch < (sget {} (v.port n).upEpochs h.src : UpEpoch).epoch →
    exec (.datumFrame dt n h es) s = .next (v.count (Reg.TRV_RX_OLD n))) ∧
  (∀ (dt : Nat) (n x : Nat) (ds : List Nat) (h : Hdr) (gs : List Seg) (v w z : State) (s u : State), s.clock dt ((rxEvs n ++ ((s.follows n h.src).filter (fun d => (s.cw 2 d 13).fld 4 2 = x)).flatMap s.pushEvs ++ ((s.follows n h.src).filter (fun d => (s.cw 2 d 13).fld 4 2 = x)).map (fun d => ⟨.upSeg, d, 0⟩))) = u → u.takesFrame n h (.segment x none gs) false = true → u.received n h.vid.isSome (20 + paylen (.segment x none gs)) = v → gs.length ≤ 20 → v.fromUpstream n h = true → v.heardUp n h.src = w → w.runs = true ∨ w.role = 5 → (if w.upAddr n ≠ h.src then w else w.modPort n (fun p => { p with asStn := { p.asStn with held := smod none p.asStn.held x (fun k => heldAfter k none gs), truncs := p.asStn.truncs.filter (· ≠ x) } })) = z → (z.follows n h.src).filter (fun d => (z.cw 2 d 13).fld 4 2 = x) = ds →
    exec (.segmentFrame dt n h x none gs) s = .next (ds.foldl (fun s d => gs.foldl (fun s g => s.upSeg d g h.epoch) s) z)) ∧
  (∀ (dt : Nat) (n x d k : Nat) (h : Hdr) (gs : List Seg) (v w z y : State) (s u : State), s.clock dt ((rxEvs n ++ ((s.follows n h.src).filter (fun d => (s.cw 2 d 13).fld 4 2 = x)).flatMap s.pushEvs ++ ((s.follows n h.src).filter (fun d => (s.cw 2 d 13).fld 4 2 = x)).map (fun d => ⟨.upSeg, d, 0⟩))) = u → u.takesFrame n h (.segment x (some k) gs) false = true → u.received n h.vid.isSome (20 + paylen (.segment x (some k) gs)) = v → gs.length ≤ 20 → v.fromUpstream n h = true → v.heardUp n h.src = w → w.runs = true ∨ w.role = 5 → (if w.upAddr n ≠ h.src then w else w.modPort n (fun p => { p with asStn := { p.asStn with held := smod none p.asStn.held x (fun j => heldAfter j (some k) gs), truncs := p.asStn.truncs.filter (· ≠ x) ++ [x] } })) = z → (z.follows n h.src).filter (fun d => (z.cw 2 d 13).fld 4 2 = x) = [d] → gs.foldl (fun s g => s.upSeg d g h.epoch) z = y → ((y.dat d).queue.filter (fun g => seqPast k g.seq)).length < (y.dat d).queue.length →
    exec (.segmentFrame dt n h x (some k) gs) s = .next ((y.truncateAll 8 d ((y.dat d).queue.filter (fun g => seqPast k g.seq))).modDat d (fun q => { q with seq := k % 2 ^ 32 }))) ∧
  (∀ (dt : Nat) (n k tg : Nat) (h : Hdr) (v w : State) (s u : State), s.clock dt ((rxEvs n)) = u → u.takesFrame n h (.stateCmd k tg) false = true → u.received n h.vid.isSome (20 + paylen (.stateCmd k tg)) = v → v.fromUpstream n h = true → v.heardUp n h.src = w → w.upAddr n = h.src → h.dst = w.ownAddr → w.upStn n = k → (tg = 2 ∧ (w.port n).asStn.state = 3) ∨ (tg = 3 ∧ ((w.port n).asStn.state = 2 ∨ (w.port n).asStn.state = 5)) →
    exec (.stateCmd dt n h k tg) s = .next (w.modPort n (fun p => { p with asStn := { p.asStn with state := tg } }))) ∧
  (∀ (dt : Nat) (n k tg : Nat) (h : Hdr) (v w : State) (s u : State), s.clock dt ((rxEvs n)) = u → u.takesFrame n h (.stateCmd k tg) false = true → u.received n h.vid.isSome (20 + paylen (.stateCmd k tg)) = v → v.fromUpstream n h = true → v.heardUp n h.src = w → tg ≠ 2 → tg ≠ 3 →
    exec (.stateCmd dt n h k tg) s = .next (w)) ∧
  (∀ (dt : Nat) (n : Nat) (ws : List Word) (h : Hdr) (v w : State) (s u : State), s.clock dt ((rxEvs n)) = u → u.takesFrame n h (.config ws) false = true → u.received n h.vid.isSome (20 + paylen (.config ws)) = v → ws.length = 11 → v.fromUpstream n h = true → v.heardUp n h.src = w → w.upAddr n = h.src → h.dst = w.ownAddr → w.upStn n = (item ws 0).fld 9 2 →
    exec (.config dt n h ws) s = .next (w.modPort n (fun p => { p with asStn := { p.asStn with
      dsub := (item ws 9).fld 7 0, axFirst := (item ws 10).fld 15 0, axCount := (item ws 10).fld 31 16,
      outOfs := (item ws 7).toNat, inOfs := (item ws 8).toNat,
      holdCyc := if (item ws 2).fld 23 16 = 0 then 2 else (item ws 2).fld 23 16,
      state := if p.asStn.state = 1 then 2 else p.asStn.state } }))) ∧
  (∀ (dt : Nat) (n k : Nat) (s u : State), s.clock dt [⟨.stnLost, n, k⟩] = u → u.hasPort n = true → 1 ≤ k → k ≤ 255 → u.stnW n k 0 ≠ 0 → u.missLimit n ≤ u.regF (Reg.STN_STS n k) 15 8 → u.regB (Reg.STN_STS n k) 4 = false →
    exec (.stationLost dt n k) s = .next ((u.setRegB (Reg.STN_STS n k) 4 true).trvIrq n 1)) ∧
  (∀ (dt : Nat) (n : Nat) (g : DueSeg) (t : State) (s u : State), s.advance dt = u → (u.port n).dueSegs = [g] → u.segRepeat n + 1 < g.sent → u.modPort n (fun p => { p with dueSegs := p.dueSegs.filter (fun g => g.sent ≤ u.segRepeat n + 1) }) = t →
    exec (.segNak dt n) s = .next ((((((t.count (Reg.TRV_SEG_NAK n)).trvIrq n 4).subscribers n g.stream).filter (fun k =>
      !((t.count (Reg.TRV_SEG_NAK n)).trvIrq n 4).acked n k g.stream g.seg.seq)).foldl (fun s k =>
      (s.setRegB (Reg.STN_STS n k) 6 true).countF (Reg.STN_SEG_NAK n k) 15 0 1) ((t.count (Reg.TRV_SEG_NAK n)).trvIrq n 4)))) ∧
  (∀ (dt : Nat) (n : Nat) (e : DueEvt) (s u : State), s.advance dt = u → (u.port n).dueEvts = [e] → e.evt.act ≤ (u.now : Int) → e.nak = false → e.sent = true →
    exec (.evtNak dt n) s = .next (((u.modPort n (fun p => { p with dueEvts := [] })).countF (Reg.TRV_EVT_NAK n) 31 0 1).trvIrq n 5)) ∧
  (∀ (dt : Nat) (n : Nat) (e : DueEvt) (s u : State), s.advance dt = u → (u.port n).dueEvts = [e] → e.evt.act ≤ (u.now : Int) → e.nak = false → e.sent = false →
    exec (.evtNak dt n) s = .next (((u.modPort n (fun p => { p with dueEvts := [{ e with nak := true }] })).countF (Reg.TRV_EVT_NAK n) 31 0 1).trvIrq n 5)) ∧
  (∀ (dt : Nat) (n : Nat) (s u : State), s.advance dt = u → (u.port n).dueEvts = [] →
    exec (.evtNak dt n) s = .next (u))

/-- For an engine that stands at the instruction with its next index within the code: LD, LDN, AND, ANDN, OR, ORN, XOR, XORN
on a bit the release may read leave ACC as the table says; NOP, NOT, SETA, CLRA likewise; ST, STN, SET and RST write the bit
into the write buffer when their condition holds; FP and FN write ACC to the edge memory and leave the edge in ACC. Each
takes 1 clock and goes on at the next index, and changes nothing else of the release or of the machine.
(08_plumb_instruction_set) -/
def Obligations.PlumbBitInstructions : Prop :=
  (∀ x ∈ ([(.plLd, 0x01, fun _ b => b), (.plLdn, 0x02, fun _ b => !b), (.plAnd, 0x03, fun c b => c && b), (.plAndn, 0x04, fun c b => c && !b), (.plOr, 0x05, fun c b => c || b), (.plOrn, 0x06, fun c b => c || !b), (.plXor, 0x07, fun c b => c ^^ b), (.plXorn, 0x08, fun c b => c ^^ !b)] : List ((Nat → Nat → Nat → Instr) × Nat × (Bool → Bool → Bool))), ∀ (e sp a : Nat) (b : Bool) (s u : State) (r : Release),
    s.atOp e x.2.1 1 sp a r u → spBit.contains sp = true → u.readBit r sp a = .ok b →
    exec (x.1 e sp a) s = .next (u.setRel e { r with acc := x.2.2 r.acc b, pc := r.pc + 1 })) ∧
  (∀ x ∈ ([(.plNop, 0x00, fun c => c), (.plNot, 0x0d, fun c => !c), (.plSeta, 0x0e, fun _ => true), (.plClra, 0x0f, fun _ => false)] : List ((Nat → Nat → Nat → Instr) × Nat × (Bool → Bool))), ∀ (e sp a : Nat) (s u : State) (r : Release),
    s.atOp e x.2.1 1 sp a r u → sp = 0 →
    exec (x.1 e sp a) s = .next (u.setRel e { r with acc := x.2.2 r.acc, pc := r.pc + 1 })) ∧
  (∀ x ∈ ([(.plSt, 0x09, fun _ => true, fun c => c), (.plStn, 0x0a, fun _ => true, fun c => !c), (.plSet, 0x0b, fun c => c, fun _ => true), (.plRst, 0x0c, fun c => c, fun _ => false)] : List ((Nat → Nat → Nat → Instr) × Nat × (Bool → Bool) × (Bool → Bool))), ∀ (e sp a : Nat) (r' : Release) (s u : State) (r : Release),
    s.atOp e x.2.1 1 sp a r u → spBitStore.contains sp = true → a < spaceBits sp → x.2.2.1 r.acc = true → u.writeBit e r sp a (x.2.2.2 r.acc) = .ok r' → r'.phase = .run →
    exec (x.1 e sp a) s = .next (u.setRel e { r' with pc := r.pc + 1 })) ∧
  (∀ x ∈ ([(.plSet, 0x0b, fun c => c, fun _ => true), (.plRst, 0x0c, fun c => c, fun _ => false)] : List ((Nat → Nat → Nat → Instr) × Nat × (Bool → Bool) × (Bool → Bool))), ∀ (e sp a : Nat) (s u : State) (r : Release),
    s.atOp e x.2.1 1 sp a r u → spBitStore.contains sp = true → a < spaceBits sp → r.acc = false →
    exec (x.1 e sp a) s = .next (u.setRel e { r with pc := r.pc + 1 })) ∧
  (∀ x ∈ ([(.plFp, 0x18, fun c o => c && !o), (.plFn, 0x19, fun c o => o && !c)] : List ((Nat → Nat → Nat → Instr) × Nat × (Bool → Bool → Bool))), ∀ (e sp a : Nat) (o : Bool) (r' : Release) (s u : State) (r : Release),
    s.atOp e x.2.1 1 sp a r u → sp = 6 → u.readBit r 6 a = .ok o → u.writeBit e r 6 a r.acc = .ok r' → r'.phase = .run →
    exec (x.1 e sp a) s = .next (u.setRel e { r' with acc := x.2.2 r.acc o, pc := r.pc + 1 }))

/-- For an engine that stands at the instruction: PSHA, PSHO, PSHX and PSHN push ACC with their operator while fewer than 32
entries stand, and are STACK_OVF with 32; POP joins the top LOGIC entry with ACC and drops it, PEEK takes its value; JMP, JC
and JCN go to the index of the operand when taken; CALL pushes the next index and goes on at the operand, RET and RETC with
ACC = 1 pop it and go on there. END with an empty stack ends execution where it stands; with entries left it is STACK_OPEN.
An undefined opcode ends the release with fault OPCODE. A fetch that is not answered ends it with fault BUS, and a deadline
that comes first with the end for that. Each takes 1 clock. (08_plumb_instruction_set) -/
def Obligations.PlumbFlowInstructions : Prop :=
  (∀ x ∈ ([(.plPsha, 0x10, .and), (.plPsho, 0x11, .or), (.plPshx, 0x12, .xor), (.plPshn, 0x13, .none)] : List ((Nat → Nat → Nat → Instr) × Nat × JoinOp)), ∀ (e sp a : Nat) (s u : State) (r : Release),
    s.atOp e x.2.1 1 sp a r u → sp = 0 → r.stack.length < 32 →
    exec (x.1 e sp a) s = .next (u.setRel e { r with stack := .logic x.2.2 r.acc :: r.stack, pc := r.pc + 1 })) ∧
  (∀ x ∈ ([(.plPsha, 0x10, .and), (.plPsho, 0x11, .or), (.plPshx, 0x12, .xor), (.plPshn, 0x13, .none)] : List ((Nat → Nat → Nat → Instr) × Nat × JoinOp)), ∀ (e sp a : Nat) (s u : State) (r : Release),
    s.atOp e x.2.1 1 sp a r u → sp = 0 → 32 ≤ r.stack.length →
    exec (x.1 e sp a) s = .next (u.endRelease e 2 4 r.pc)) ∧
  (∀ (e a : Nat) (op : JoinOp) (v : Bool) (q : List StackEntry) (s u : State) (r : Release), s.atOp e 0x14 1 0 a r u → r.stack = .logic op v :: q →
    exec (.plPop e 0 a) s = .next (u.setRel e { r with acc := join op v r.acc, stack := q, pc := r.pc + 1 })) ∧
  (∀ (e a : Nat) (op : JoinOp) (v : Bool) (q : List StackEntry) (s u : State) (r : Release), s.atOp e 0x15 1 0 a r u → r.stack = .logic op v :: q →
    exec (.plPeek e 0 a) s = .next (u.setRel e { r with acc := v, pc := r.pc + 1 })) ∧
  (∀ (c v : Bool), join .and v c = (v && c) ∧ join .or v c = (v || c) ∧ join .xor v c = (v ^^ c) ∧ join .none v c = v) ∧
  (∀ (e a : Nat) (s u : State) (r : Release), s.atOp e 0x20 1 0 a r u → a < bindLen r.binding →
    exec (.plJmp e 0 a) s = .next (u.setRel e { r with pc := a })) ∧
  (∀ (e a : Nat) (s u : State) (r : Release), s.atOp e 0x21 1 0 a r u → a < bindLen r.binding → r.acc = true →
    exec (.plJc e 0 a) s = .next (u.setRel e { r with pc := a })) ∧
  (∀ (e a : Nat) (s u : State) (r : Release), s.atOp e 0x22 1 0 a r u → a < bindLen r.binding → r.acc = false →
    exec (.plJcn e 0 a) s = .next (u.setRel e { r with pc := a })) ∧
  (∀ (e a : Nat) (s u : State) (r : Release), s.atOp e 0x21 1 0 a r u → r.acc = false →
    exec (.plJc e 0 a) s = .next (u.setRel e { r with pc := r.pc + 1 })) ∧
  (∀ (e a : Nat) (s u : State) (r : Release), s.atOp e 0x22 1 0 a r u → r.acc = true →
    exec (.plJcn e 0 a) s = .next (u.setRel e { r with pc := r.pc + 1 })) ∧
  (∀ (e a : Nat) (s u : State) (r : Release), s.atOp e 0x23 1 0 a r u → a < bindLen r.binding → r.stack.length < 32 →
    exec (.plCall e 0 a) s = .next (u.setRel e { r with stack := .ret (r.pc + 1) :: r.stack, pc := a })) ∧
  (∀ (e a : Nat) (n : Nat) (q : List StackEntry) (s u : State) (r : Release), s.atOp e 0x24 1 0 a r u → r.stack = .ret n :: q → n < bindLen r.binding →
    exec (.plRet e 0 a) s = .next (u.setRel e { r with stack := q, pc := n })) ∧
  (∀ (e a : Nat) (n : Nat) (q : List StackEntry) (s u : State) (r : Release), s.atOp e 0x25 1 0 a r u → r.stack = .ret n :: q → n < bindLen r.binding → r.acc = true →
    exec (.plRetc e 0 a) s = .next (u.setRel e { r with stack := q, pc := n })) ∧
  (∀ (e a : Nat) (s u : State) (r : Release), s.atOp e 0x25 1 0 a r u → r.acc = false →
    exec (.plRetc e 0 a) s = .next (u.setRel e { r with pc := r.pc + 1 })) ∧
  (∀ (e a : Nat) (s u : State) (x r : Release), (s.eng e).rel = some x → x.phase = .run → s.codeWord x = plWord 0x2F 0 a →
    s.domainOn 8 = true → s.eccAt x.codeAt = 0 → s.outOfTime x (x.due 1) true = none → { x with clocks := x.clocks + 1 } = r →
    ((s.until_ (x.due 1)).meet [⟨.plWork, e, 0⟩, ⟨.plEnd, e, 0⟩]).setRel e r = u → r.stack = [] →
    exec (.plEnd e 0 a) s = .next (u.setRel e { r with phase := .done })) ∧
  (∀ (e a : Nat) (s u : State) (r : Release), s.atOp e 0x2F 1 0 a r u → r.stack ≠ [] →
    exec (.plEnd e 0 a) s = .next (u.endRelease e 2 7 r.pc)) ∧
  (∀ (e : Nat) (s u : State) (x r : Release), (s.eng e).rel = some x → x.phase = .run → plDefined ((s.codeWord x).fld 31 24) = false →
    s.domainOn 8 = true → s.eccAt x.codeAt = 0 → s.outOfTime x (x.due 1) false = none → { x with clocks := x.clocks + 1 } = r →
    ((s.until_ (x.due 1)).meet [⟨.plWork, e, 0⟩]).setRel e r = u →
    exec (.undefinedOpcode e) s = .next (u.endRelease e 2 1 r.pc)) ∧
  (∀ (e a : Nat) (s : State) (x : Release), (s.eng e).rel = some x → x.phase = .run → s.codeWord x = plWord 0 0 a →
    s.domainOn 8 = false → s.outOfTime x (x.due 1) false = none →
    exec (.plNop e 0 a) s = .next ((((s.until_ (x.due 1)).meet (plEvs 0 e a x)).setRel e { x with clocks := x.clocks + 1 }).endRelease e 2 9 x.pc)) ∧
  (∀ (e a k : Nat) (s : State) (x : Release), (s.eng e).rel = some x → x.phase = .run → s.codeWord x = plWord 0 0 a →
    s.outOfTime x (x.due 1) false = some k →
    exec (.plNop e 0 a) s = .next ((s.ahead k).endRelease e 3 0 0))

/-- For an engine that stands at the instruction: each word instruction on a word that the release may read, and each
double-word instruction on a double word, leaves WA, ACC and OV as Table 8.6 says (OV is set where the true result lies
outside 64 bits, in MUL where WA lies outside 32 signed bits, and stays set otherwise); LWI, NEG, LWB, LOV, COV and the
shifts with a count up to 63 likewise, and a count above 63 is a RANGE fault; SW and SWC with ACC = 1 write WA[31:0] and set
OV where WA fits neither a signed nor an unsigned word, SWD and SWDC with ACC = 1 write both words, SWC and SWDC with ACC =
0 nothing. COV clears OV. (08_plumb_instruction_set) -/
def Obligations.PlumbWordInstructions : Prop :=
  (∀ x ∈ ([(.plLw, 0x30, fun r w => { r with wa := w.signExtend 64 }), (.plLwu, 0x31, fun r w => { r with wa := w.setWidth 64 }), (.plAdd, 0x38, fun r w => { r with wa := r.wa + w.signExtend 64, ov := r.ov || decide (r.wa.toInt + (w.signExtend 64).toInt < -(2 ^ 63) ∨ 2 ^ 63 ≤ r.wa.toInt + (w.signExtend 64).toInt) }), (.plSub, 0x39, fun r w => { r with wa := r.wa - w.signExtend 64, ov := r.ov || decide (r.wa.toInt - (w.signExtend 64).toInt < -(2 ^ 63) ∨ 2 ^ 63 ≤ r.wa.toInt - (w.signExtend 64).toInt) }), (.plMul, 0x3a, fun r w => { r with wa := BitVec.ofInt 64 ((r.wa.setWidth 32 : Word).toInt * w.toInt), ov := r.ov || decide (r.wa.toInt < -(2 ^ 31) ∨ 2 ^ 31 ≤ r.wa.toInt) }), (.plAndw, 0x3e, fun r w => { r with wa := r.wa &&& w.setWidth 64 }), (.plOrw, 0x3f, fun r w => { r with wa := r.wa ||| w.setWidth 64 }), (.plXorw, 0x40, fun r w => { r with wa := r.wa ^^^ w.setWidth 64 }), (.plCeq, 0x48, fun r w => { r with acc := decide (r.wa = w.signExtend 64) }), (.plCne, 0x49, fun r w => { r with acc := decide (r.wa ≠ w.signExtend 64) }), (.plClt, 0x4a, fun r w => { r with acc := decide (r.wa.toInt < w.toInt) }), (.plCle, 0x4b, fun r w => { r with acc := decide (r.wa.toInt ≤ w.toInt) }), (.plCgt, 0x4c, fun r w => { r with acc := decide (w.toInt < r.wa.toInt) }), (.plCge, 0x4d, fun r w => { r with acc := decide (w.toInt ≤ r.wa.toInt) }), (.plCltu, 0x4e, fun r w => { r with acc := decide ((r.wa.setWidth 32 : Word).toNat < w.toNat) }), (.plCgeu, 0x4f, fun r w => { r with acc := decide (w.toNat ≤ (r.wa.setWidth 32 : Word).toNat) })] : List ((Nat → Nat → Nat → Instr) × Nat × (Release → Word → Release))), ∀ (e sp a : Nat) (w : Word) (s u : State) (r : Release),
    s.atOp e x.2.1 1 sp a r u → spWord.contains sp = true → u.readWord e r sp a = .ok w →
    exec (x.1 e sp a) s = .next (u.setRel e { x.2.2 r w with pc := r.pc + 1 })) ∧
  (∀ x ∈ ([(.plLwd, 0x32, fun r w => { r with wa := w }), (.plAddd, 0x3b, fun r w => { r with wa := r.wa + w, ov := r.ov || decide (r.wa.toInt + w.toInt < -(2 ^ 63) ∨ 2 ^ 63 ≤ r.wa.toInt + w.toInt) }), (.plSubd, 0x3c, fun r w => { r with wa := r.wa - w, ov := r.ov || decide (r.wa.toInt - w.toInt < -(2 ^ 63) ∨ 2 ^ 63 ≤ r.wa.toInt - w.toInt) }), (.plCeqd, 0x50, fun r w => { r with acc := decide (r.wa = w) }), (.plCltd, 0x51, fun r w => { r with acc := decide (r.wa.toInt < w.toInt) }), (.plCged, 0x52, fun r w => { r with acc := decide (w.toInt ≤ r.wa.toInt) }), (.plCltdu, 0x53, fun r w => { r with acc := decide (r.wa.toNat < w.toNat) }), (.plCgedu, 0x54, fun r w => { r with acc := decide (w.toNat ≤ r.wa.toNat) })] : List ((Nat → Nat → Nat → Instr) × Nat × (Release → DWord → Release))), ∀ (e sp a : Nat) (w : DWord) (s u : State) (r : Release),
    s.atOp e x.2.1 1 sp a r u → spWord.contains sp = true → u.readDouble e r sp a = .ok w →
    exec (x.1 e sp a) s = .next (u.setRel e { x.2.2 r w with pc := r.pc + 1 })) ∧
  (∀ x ∈ ([(.plLwi, 0x33, fun n r => { r with wa := (BitVec.ofNat 20 n).signExtend 64 }), (.plNeg, 0x3d, fun _ r => { r with wa := -r.wa, ov := r.ov || decide (-r.wa.toInt < -(2 ^ 63) ∨ 2 ^ 63 ≤ -r.wa.toInt) }), (.plLwb, 0x45, fun _ r => { r with wa := if r.acc then 1 else 0 }), (.plLov, 0x55, fun _ r => { r with acc := r.ov }), (.plCov, 0x56, fun _ r => { r with ov := false })] : List ((Nat → Nat → Nat → Instr) × Nat × (Nat → Release → Release))), ∀ (e sp a : Nat) (s u : State) (r : Release),
    s.atOp e x.2.1 1 sp a r u → sp = 0 →
    exec (x.1 e sp a) s = .next (u.setRel e { x.2.2 a r with pc := r.pc + 1 })) ∧
  (∀ x ∈ ([(.plShl, 0x41, fun n r => { r with wa := r.wa <<< n, ov := r.ov || decide ((r.wa <<< n).toInt ≠ r.wa.toInt * 2 ^ n) }), (.plShr, 0x42, fun n r => { r with wa := r.wa.sshiftRight n }), (.plShru, 0x43, fun n r => { r with wa := r.wa >>> n }), (.plBtst, 0x44, fun n r => { r with acc := r.wa.getLsbD n })] : List ((Nat → Nat → Nat → Instr) × Nat × (Nat → Release → Release))), ∀ (e sp a : Nat) (s u : State) (r : Release),
    s.atOp e x.2.1 1 sp a r u → sp = 0 → a ≤ 63 →
    exec (x.1 e sp a) s = .next (u.setRel e { x.2.2 a r with pc := r.pc + 1 })) ∧
  (∀ x ∈ ([(.plShl, 0x41, fun n r => { r with wa := r.wa <<< n, ov := r.ov || decide ((r.wa <<< n).toInt ≠ r.wa.toInt * 2 ^ n) }), (.plShr, 0x42, fun n r => { r with wa := r.wa.sshiftRight n }), (.plShru, 0x43, fun n r => { r with wa := r.wa >>> n }), (.plBtst, 0x44, fun n r => { r with acc := r.wa.getLsbD n })] : List ((Nat → Nat → Nat → Instr) × Nat × (Nat → Release → Release))), ∀ (e sp a : Nat) (s u : State) (r : Release),
    s.atOp e x.2.1 1 sp a r u → sp = 0 → 63 < a →
    exec (x.1 e sp a) s = .next (u.endRelease e 2 3 r.pc)) ∧
  (∀ (e sp a : Nat) (r' : Release) (s u : State) (r : Release), s.atOp e 0x34 1 sp a r u → spWordStore.contains sp = true → a + 1 ≤ spaceWords sp → u.writeWord e r sp a (r.wa.setWidth 32) = .ok r' → r'.phase = .run →
    exec (.plSw e sp a) s = .next (u.setRel e { r' with ov := r.ov || decide (r.wa.toInt < -(2 ^ 31) ∨ 2 ^ 32 ≤ r.wa.toInt), pc := r.pc + 1 })) ∧
  (∀ (e sp a : Nat) (r' : Release) (s u : State) (r : Release), s.atOp e 0x36 1 sp a r u → spWordStore.contains sp = true → a + 1 ≤ spaceWords sp → u.writeWord e r sp a (r.wa.setWidth 32) = .ok r' → r'.phase = .run → r.acc = true →
    exec (.plSwc e sp a) s = .next (u.setRel e { r' with ov := r.ov || decide (r.wa.toInt < -(2 ^ 31) ∨ 2 ^ 32 ≤ r.wa.toInt), pc := r.pc + 1 })) ∧
  (∀ (e sp a : Nat) (r1 r' : Release) (s u : State) (r : Release), s.atOp e 0x35 1 sp a r u → spWordStore.contains sp = true → a + 2 ≤ spaceWords sp → u.writeWord e r sp a (r.wa.setWidth 32) = .ok r1 → u.writeWord e r1 sp (a + 1) ((r.wa >>> 32).setWidth 32) = .ok r' → r'.phase = .run →
    exec (.plSwd e sp a) s = .next (u.setRel e { r' with pc := r.pc + 1 })) ∧
  (∀ (e sp a : Nat) (r1 r' : Release) (s u : State) (r : Release), s.atOp e 0x37 1 sp a r u → spWordStore.contains sp = true → a + 2 ≤ spaceWords sp → u.writeWord e r sp a (r.wa.setWidth 32) = .ok r1 → u.writeWord e r1 sp (a + 1) ((r.wa >>> 32).setWidth 32) = .ok r' → r'.phase = .run → r.acc = true →
    exec (.plSwdc e sp a) s = .next (u.setRel e { r' with pc := r.pc + 1 })) ∧
  (∀ (e sp a : Nat) (s u : State) (r : Release), s.atOp e 0x37 1 sp a r u → spWordStore.contains sp = true → a + 2 ≤ spaceWords sp → r.acc = false →
    exec (.plSwdc e sp a) s = .next (u.setRel e { r with pc := r.pc + 1 })) ∧
  (∀ (e sp a : Nat) (s u : State) (r : Release), s.atOp e 0x36 1 sp a r u → spWordStore.contains sp = true → a + 1 ≤ spaceWords sp → r.acc = false →
    exec (.plSwc e sp a) s = .next (u.setRel e { r with pc := r.pc + 1 }))

/-- For an engine that stands at the instruction, where it may read and write what the instruction names: TON, TOF and TP
scan the timer, with the advance of S since REF (none where the type changed, which resets it), and leave Q in ACC; TPT
stores WA[31:0] as PT, TRS with ACC = 1 clears ET, RUNNING and Q; CTU and CTD count an edge of ACC up or down, saturating,
and leave Q in ACC; CRS and CLP with ACC = 1 set CV to 0 or PV, CPV stores WA[31:0] as PV; DWIN leaves in ACC whether the
datum lies in the window, or a free value where a bound reaches MOD, of which the manual states no result (log 17); STARM,
STDIS, STTGT and STRLD with ACC = 1 change the entry provisionally and keep its live state; CALLB with ACC = 1 stalls the
engine in the call, and with an instance its cluster may not call is a BLOCK fault. With ACC = 0 the conditional ones do
nothing. Timer and counter instructions and CALLB take 2 clocks, stake instructions 4. (08_plumb_instruction_set,
06_stake_unit, 10_function_blocks) -/
def Obligations.PlumbUnitInstructions : Prop :=
  (∀ x ∈ ([(.plTon, 0x60, 1, Timer.ton), (.plTof, 0x61, 2, Timer.tof), (.plTp, 0x62, 3, Timer.tp)] : List ((Nat → Nat → Nat → Instr) × Nat × Nat × (Timer → Bool → Nat → Timer))), ∀ (e sp a : Nat) (et pt st rf : Word) (y z : Timer) (d : Nat) (r1 r2 r' : Release) (s u : State) (r : Release),
    s.atOp e x.2.1 2 sp a r u → sp = 4 → a < 2048 → u.readWord e r 4 (4 * a) = .ok et → u.readWord e r 4 (4 * a + 1) = .ok pt → u.readWord e r 4 (4 * a + 2) = .ok st → u.readWord e r 4 (4 * a + 3) = .ok rf → (timerOf et pt st rf).scan x.2.2.1 (r.startT / (1000 * 2 ^ 32) % 2 ^ 32) = (z, d) → x.2.2.2 z r.acc d = y → u.writeWord e r 4 (4 * a) (w32 y.et) = .ok r1 → u.writeWord e r1 4 (4 * a + 2) y.state = .ok r2 → u.writeWord e r2 4 (4 * a + 3) (w32 y.ref) = .ok r' → r'.phase = .run →
    exec (x.1 e sp a) s = .next (u.setRel e { r' with acc := y.q, pc := r.pc + 1 })) ∧
  (∀ (t : Timer) (ty now : Nat), t.scan ty now = (if t.type = ty then ({ t with ref := now }, (now + 2 ^ 32 - t.ref) % 2 ^ 32)
    else ({ t with type := ty, et := 0, running := false, q := false, ref := now }, 0))) ∧
  (∀ (t : Timer) (d : Nat), t.ton false d = { t with et := 0, running := false, q := false, prevIn := false } ∧
    (t.running = false → t.ton true d = { t with et := 0, running := true, q := decide (t.pt = 0), prevIn := true }) ∧
    (t.running = true → t.ton true d = { t with et := min (t.et + d) t.pt, q := decide (t.pt ≤ t.et + d), prevIn := true })) ∧
  (∀ (t : Timer) (d : Nat), t.tof true d = { t with et := 0, running := false, q := true, prevIn := true } ∧
    (t.q = false → t.tof false d = { t with prevIn := false }) ∧
    (t.q = true → t.running = false → 0 < t.pt → t.tof false d = { t with et := 0, running := true, prevIn := false }) ∧
    (t.q = true → t.running = true → t.et + d < t.pt → t.tof false d = { t with et := t.et + d, prevIn := false }) ∧
    (t.q = true → t.running = true → t.pt ≤ t.et + d → t.tof false d = { t with et := t.pt, running := false, q := false, prevIn := false })) ∧
  (∀ (t : Timer) (d : Nat), (t.running = false → t.prevIn = false → 0 < t.pt →
      t.tp true d = { t with et := 0, running := true, q := true, prevIn := true }) ∧
    (∀ i, t.running = true → t.et + d < t.pt → t.tp i d = { t with et := t.et + d, prevIn := i }) ∧
    (∀ i, t.running = true → t.pt ≤ t.et + d → t.tp i d = { t with et := t.pt, running := false, q := false, prevIn := i }) ∧
    (t.running = false → t.tp false d = { t with prevIn := false })) ∧
  (∀ (e a : Nat) (r' : Release) (s u : State) (r : Release), s.atOp e 0x63 2 4 a r u → a < 2048 → u.writeWord e r 4 (4 * a + 1) (r.wa.setWidth 32) = .ok r' → r'.phase = .run →
    exec (.plTpt e 4 a) s = .next (u.setRel e { r' with pc := r.pc + 1 })) ∧
  (∀ (e a : Nat) (r1 r' : Release) (s u : State) (r : Release), s.atOp e 0x64 2 4 a r u → a < 2048 → r.acc = true → u.writeWord e r 4 (4 * a) 0 = .ok r1 → u.bufWrite e r1 4 (4 * a + 2) 0 12 = .ok r' → r'.phase = .run →
    exec (.plTrs e 4 a) s = .next (u.setRel e { r' with pc := r.pc + 1 })) ∧
  (∀ x ∈ ([(.plCtu, 0x68, countUp), (.plCtd, 0x69, fun cv _ st i => countDown cv st i)] : List ((Nat → Nat → Nat → Instr) × Nat × (Word → Word → Word → Bool → Word × Word))), ∀ (e sp a : Nat) (cv pv st cv' st' : Word) (r1 r' : Release) (s u : State) (r : Release),
    s.atOp e x.2.1 2 sp a r u → sp = 5 → a < 2048 → u.readWord e r 5 (4 * a) = .ok cv → u.readWord e r 5 (4 * a + 1) = .ok pv → u.readWord e r 5 (4 * a + 2) = .ok st → x.2.2 cv pv st r.acc = (cv', st') → u.writeWord e r 5 (4 * a) cv' = .ok r1 → u.writeWord e r1 5 (4 * a + 2) st' = .ok r' → r'.phase = .run →
    exec (x.1 e sp a) s = .next (u.setRel e { r' with acc := st'.bit 2, pc := r.pc + 1 })) ∧
  (∀ (cv pv st : Word) (i : Bool),
    (countUp cv pv st i).1 = (if i = true ∧ st.bit 0 = false ∧ cv ≠ 0x7FFFFFFF then cv + 1 else cv) ∧
    (countUp cv pv st i).2 = ((st.setBit 0 i).setBit 2 (decide (pv.toInt ≤ (countUp cv pv st i).1.toInt))) ∧
    (countDown cv st i).1 = (if i = true ∧ st.bit 1 = false ∧ cv ≠ 0x80000000 then cv - 1 else cv) ∧
    (countDown cv st i).2 = ((st.setBit 1 i).setBit 2 (decide ((countDown cv st i).1.toInt ≤ 0)))) ∧
  (∀ (e a : Nat) (r' : Release) (s u : State) (r : Release), s.atOp e 0x6a 2 5 a r u → a < 2048 → r.acc = true → u.writeWord e r 5 (4 * a) 0 = .ok r' → r'.phase = .run →
    exec (.plCrs e 5 a) s = .next (u.setRel e { r' with pc := r.pc + 1 })) ∧
  (∀ (e a : Nat) (pv : Word) (r' : Release) (s u : State) (r : Release), s.atOp e 0x6b 2 5 a r u → a < 2048 → r.acc = true → u.readWord e r 5 (4 * a + 1) = .ok pv → u.writeWord e r 5 (4 * a) pv = .ok r' → r'.phase = .run →
    exec (.plClp e 5 a) s = .next (u.setRel e { r' with pc := r.pc + 1 })) ∧
  (∀ (e a : Nat) (r' : Release) (s u : State) (r : Release), s.atOp e 0x6c 2 5 a r u → a < 2048 → u.writeWord e r 5 (4 * a + 1) (r.wa.setWidth 32) = .ok r' → r'.phase = .run →
    exec (.plCpv e 5 a) s = .next (u.setRel e { r' with pc := r.pc + 1 })) ∧
  (∀ (e d a : Nat) (lo hi p : DWord) (s u : State) (r : Release), d < 8 → s.atOp e (0x70 + d) 1 7 a r u → u.readDouble e r 7 a = .ok lo →
    u.readDouble e r 7 (a + 2) = .ok hi → lo.toNat < u.datMod d → hi.toNat < u.datMod d →
    ((r.datw.getD (8 * d + 1) 0).setWidth 64 <<< 32 ||| (r.datw.getD (8 * d) 0).setWidth 64) = p →
    exec (.plDwin e d 7 a) s = .next (u.setRel e { r with
      acc := if lo.toNat < hi.toNat then decide (lo.toNat ≤ p.toNat ∧ p.toNat < hi.toNat)
        else if hi.toNat < lo.toNat then decide (lo.toNat ≤ p.toNat ∨ p.toNat < hi.toNat) else false,
      pc := r.pc + 1 })) ∧
  (∀ (e d a : Nat) (lo hi : DWord) (s u : State) (r : Release), d < 8 → s.atOp e (0x70 + d) 1 7 a r u → u.readDouble e r 7 a = .ok lo →
    u.readDouble e r 7 (a + 2) = .ok hi → u.datMod d ≤ lo.toNat ∨ u.datMod d ≤ hi.toNat →
    exec (.plDwin e d 7 a) s = .next (({ u with free := u.free + 1 } : State).setRel e { r with acc := Config.freeValue 9 u.free % 2 = 1, pc := r.pc + 1 })) ∧
  (∀ (e a : Nat) (s u : State) (r : Release), s.atOp e 0x80 4 0 a r u → a < 4096 → r.acc = true → u.unchecked e = false → (u.stake a).prov = none → r.saved.any (fun p => p.1 = a) = false → r.saved.length < 64 → (u.stake a).st = .disarmed →
    exec (.plStarm e 0 a) s = .next ((u.setStake a { u.stake a with st := .prov, ref := some (u.reference a), block := false, prov := some e }).setRel e { r with saved := r.saved ++ [(a, u.stake a)], pc := r.pc + 1 })) ∧
  (∀ (e a : Nat) (s u : State) (r : Release), s.atOp e 0x81 4 0 a r u → a < 4096 → r.acc = true → u.unchecked e = false → (u.stake a).prov = none → r.saved.any (fun p => p.1 = a) = false → r.saved.length < 64 → (u.stake a).st ≠ .disarmed →
    exec (.plStdis e 0 a) s = .next ((u.setStake a { u.stake a with st := .disarmed, ref := none, block := false, prov := some e }).setRel e { r with saved := r.saved ++ [(a, u.stake a)], pc := r.pc + 1 })) ∧
  (∀ (e a : Nat) (s u : State) (r : Release), s.atOp e 0x82 4 0 a r u → a < 4096 → r.acc = true → u.unchecked e = false → (u.stake a).prov = none → r.saved.any (fun p => p.1 = a) = false → r.saved.length < 64 → (u.stake a).st = .disarmed → (u.stake a).target ≠ r.wa.toNat →
    exec (.plSttgt e 0 a) s = .next ((u.setStake a { u.stake a with target := r.wa.toNat, prov := some e }).setRel e { r with saved := r.saved ++ [(a, u.stake a)], pc := r.pc + 1 })) ∧
  (∀ (e a : Nat) (s u : State) (r : Release), s.atOp e 0x83 4 0 a r u → a < 4096 → r.acc = true → u.unchecked e = false → (u.stake a).prov = none → r.saved.any (fun p => p.1 = a) = false → r.saved.length < 64 → (u.stake a).st = .disarmed → (u.stake a).target ≠ u.stkTarget a →
    exec (.plStrld e 0 a) s = .next ((u.setStake a { u.stake a with target := pair64 (u.cw 5 a 1) (u.cw 5 a 2), count := (u.cw 5 a 0).fld 31 16, prov := some e }).setRel e { r with saved := r.saved ++ [(a, u.stake a)], pc := r.pc + 1 })) ∧
  (∀ x ∈ ([(.plStarm, 0x80), (.plStdis, 0x81), (.plSttgt, 0x82), (.plStrld, 0x83)] : List ((Nat → Nat → Nat → Instr) × Nat)),
    ∀ (e a : Nat) (s u : State) (r : Release), s.atOp e x.2 4 0 a r u → a < 4096 → r.acc = false →
    exec (x.1 e 0 a) s = .next (u.setRel e { r with pc := r.pc + 1 })) ∧
  (∀ (e a : Nat) (ws : List Word) (s u : State) (r : Release), s.atOp e 0x90 2 0 a r u → a < 2048 → r.acc = true → u.unchecked e = false →
    u.callable e a = true → u.callIns e r (u.citem 6 a 9) = .ok ws →
    exec (.plCallb e 0 a) s = .next (u.setRel e { r with phase := .call a })) ∧
  (∀ (e a : Nat) (s u : State) (r : Release), s.atOp e 0x90 2 0 a r u → a < 2048 → r.acc = false →
    exec (.plCallb e 0 a) s = .next (u.setRel e { r with pc := r.pc + 1 })) ∧
  (∀ (e a : Nat) (s u : State) (r : Release), s.atOp e 0x90 2 0 a r u → a < 2048 → r.acc = true → u.callable e a = false →
    exec (.plCallb e 0 a) s = .next (u.endRelease e 2 11 r.pc))

/-- RELEASE_START of a free engine with a next task takes the binding, the image store under the forces and the datum window
as they stand in that clock, marks the task RUNNING, and in fixed mode takes the turn of the cycle; an ENTRY at or above
LENGTH is a PC fault reported at ENTRY. With the engine not free, or no task to start, nothing happens. RELEASE_END_DECISION
of a release that has reached END, at its decision clock and with no unanswered write, commits where the digest of the
trailing tile is that of the release, and is a closure mismatch of its pair where it differs (on a split engine it commits);
before that clock nothing happens. TASK_DEADLINE of a release that has not reached END when PTP time reaches start plus
DEADLINE ends it with END = 0x3, but where its END comes in this very clock; before, or after its END, it does nothing. A
commit merges each word of the write buffer into the image store under its mask. (09_tasks_and_scan) -/
def Obligations.ReleasesStartAndEnd : Prop :=
  (∀ (dt : Nat) (e n : Nat) (b : List Word) (r : Release) (t : State) (s u : State), s.clock dt [⟨.relStart, e, 0⟩] = u → u.engineFree e = true → u.nextTask e = some n → u.citem 4 n 24 = b → bindEntry b < bindLen b → u.plm.mode = .task → ({ task := n, start := u.sclk, startT := u.ptp, binding := b, pc := bindEntry b, snap := u.snapshot, datw := u.datWords, forces := u.plm.forces, gen := u.pair.gen } : Release) = r → ((u.setRel e r).setTaskState n 2).taskStat n (fun x => { x with started := satAdd 0xFFFFFFFF x.started 1, fixed := x.fixed, task := true }) = t →
    exec (.releaseStart dt e) s = .next ({ t with pair := t.pair.onGen u.pair.gen (fun g => { g with running := g.running + 1 }) })) ∧
  (∀ (dt : Nat) (e n : Nat) (b : List Word) (r : Release) (t : State) (s u : State), s.clock dt [⟨.relStart, e, 0⟩] = u → u.engineFree e = true → u.nextTask e = some n → u.citem 4 n 24 = b → bindEntry b < bindLen b → u.plm.mode = .fixed → ({ task := n, start := u.sclk, startT := u.ptp, binding := b, pc := bindEntry b, snap := u.snapshot, datw := u.datWords, forces := u.plm.forces, gen := u.pair.gen } : Release) = r → (((u.setRel e r).setTaskState n 2).taskStat n (fun x => { x with started := satAdd 0xFFFFFFFF x.started 1, fixed := true, task := x.task })).setArrival n (some u.now) = t →
    exec (.releaseStart dt e) s = .next ({ t with pair := t.pair.onGen u.pair.gen (fun g => { g with running := g.running + 1 }), plm := { u.plm with cycTask := some n } })) ∧
  (∀ (dt : Nat) (e : Nat) (s u : State), s.clock dt [⟨.relStart, e, 0⟩] = u → u.engineFree e = false ∨ u.nextTask e = none →
    exec (.releaseStart dt e) s = .next (u)) ∧
  (∀ (dt : Nat) (e : Nat) (o : Option Nat) (r : Release) (s u : State), s.clock dt [⟨.commit, e, 0⟩] = u → (u.eng e).rel = some r → r.phase = .done → r.start + relClocks r ≤ u.sclk → u.mem.notices.all (fun n => n.master ≠ e) = true → digestsAgree r.digest o = true ∨ u.unchecked e = true →
    exec (.releaseEndDecision dt e o) s = .next (u.endRelease e 1 0 0)) ∧
  (∀ (dt : Nat) (e : Nat) (o : Option Nat) (r : Release) (s u : State), s.clock dt [⟨.commit, e, 0⟩] = u → (u.eng e).rel = some r → r.phase = .done → r.start + relClocks r ≤ u.sclk → u.mem.notices.all (fun n => n.master ≠ e) = true → digestsAgree r.digest o = false → u.unchecked e = false →
    exec (.releaseEndDecision dt e o) s = .next (u.mismatch (cmpIndex e) 3)) ∧
  (∀ (dt : Nat) (e : Nat) (o : Option Nat) (r : Release) (s u : State), s.clock dt [⟨.commit, e, 0⟩] = u → (u.eng e).rel = some r → r.phase ≠ .done ∨ u.sclk < r.start + relClocks r →
    exec (.releaseEndDecision dt e o) s = .next (u)) ∧
  (∀ (d t : Nat), (digestsAgree d (some t) = true ↔ t = d) ∧ digestsAgree d none = true) ∧
  (∀ (r : Release), r.phase = .done → relClocks r = (4 + (bindBytes r.binding + 7) / 8) + r.clocks + 67) ∧
  (∀ (dt : Nat) (e : Nat) (r : Release) (s u : State), s.clock dt [⟨.deadline, e, 0⟩] = u → (u.eng e).rel = some r → r.phase ≠ .done → r.startT + (if item r.binding 6 = 0 then 10000000 else (item r.binding 6).toNat) * 2 ^ 32 ≤ u.ptp → r.phase ≠ .run ∨ (u.codeWord r).fld 31 24 ≠ 0x2F ∨ u.outOfTime r (r.due 1) true ≠ none →
    exec (.taskDeadline dt e) s = .next (u.endRelease e 3 0 0)) ∧
  (∀ (dt : Nat) (e : Nat) (r : Release) (s u : State), s.clock dt [⟨.deadline, e, 0⟩] = u → (u.eng e).rel = some r → r.phase = .done ∨ u.ptp < r.startT + bindDeadline r.binding * 2 ^ 32 →
    exec (.taskDeadline dt e) s = .next (u)) ∧
  (∀ (dt : Nat) (e : Nat) (r : Release) (s u : State), s.clock dt [⟨.deadline, e, 0⟩] = u → (u.eng e).rel = some r → r.phase = .run → (u.codeWord r).fld 31 24 = 0x2F → u.outOfTime r (r.due 1) true = none →
    exec (.taskDeadline dt e) s = .next (u)) ∧
  (∀ (s : State) (k : Nat) (v m : Word), (s.applyBuffer [(k, some (v, m))]).img = sput 0 s.img k ((sget 0 s.img k &&& ~~~m) ||| (v &&& m)))

/-- FIXED_CYCLE_START in fixed mode, on a module that runs the line whose start-up has ended, with no cycle running, at a
multiple of PERIOD after the last cycle end and not yet started: the cycle is counted and the turn passes to the first task
that can run; with a cycle still running at the next multiple the overrun is counted once and told. Outside fixed mode it
does nothing. MODE_REQ_TASK in fixed mode and MODE_REQ_FIXED in task mode record the request; the latter also discards the
pending releases and takes effect at once where no release runs, and after the end decision of the last one otherwise. A
request for the present mode leaves the mode and the requests as they are. After the end of start-up, host mode (a write by
host software, R418) is noted by any of them. AUTO_TASK_REQUEST requests task mode once, when the starting cycles have run
and host mode is off. Discarding leaves no task pending. (09_tasks_and_scan, 17_power_and_startup) -/
def Obligations.CyclesAndModes : Prop :=
  (∀ (dt : Nat) (per c0 : Nat) (x y : State) (s u : State), s.advance dt = u → (u.reg Reg.PLM_FIXED_CFG).fld 16 0 * 1000 = per → u.plm.mode = .fixed → u.runs = true → 0 < per → u.plm.cycle = none → u.now / per * per = c0 → u.plm.since < c0 → u.plm.cycT0 ≠ c0 ∨ u.plm.cycles = 0 → ({ u.countWrap Reg.PLM_FIXED_CNT with plm := { u.plm with cycT0 := c0, late := false, period := per }, pair := { (u.pair.onGen u.pair.gen (fun g => { g with past := true })) with gen := nextGen u.pair.gen } } : State) = x → x.turnTo 0 = y →
    exec (.fixedCycleStart dt) s = .next (if y.pwr.settled && y.plm.cycT0 ≠ u.plm.cycT0 && y.runs then y.startDone else y)) ∧
  (∀ (dt : Nat) (k : Nat) (y : State) (s u : State), s.advance dt = u → u.plm.mode = .fixed → u.runs = true → (u.reg Reg.PLM_FIXED_CFG).fld 16 0 ≠ 0 → u.plm.cycle = some k → u.plm.cycT0 + u.plm.period ≤ u.now → u.plm.late = false → (({ u with plm := { u.plm with late := true } } : State).count Reg.PLM_FIXED_OVR).raiseBit 25 4 = y →
    exec (.fixedCycleStart dt) s = .next (y)) ∧
  (∀ (dt : Nat) (s u : State), s.advance dt = u → u.plm.mode ≠ .fixed ∨ u.runs = false →
    exec (.fixedCycleStart dt) s = .next (u)) ∧
  (∀ (s : State) (n k : Nat), s.nextTurn n = some k → s.turnTo n = { s with plm := { s.plm with cycle := some k, cycTask := none, turn := none } }) ∧
  (∀ (s : State) (n : Nat), s.nextTurn n = none → s.turnTo n = s.endCycle) ∧
  (∀ (dt m : Nat) (t : State) (s u : State), s.toWrite dt m Reg.PLM_MODE_REQ 1 = u → u.opens m true Reg.PLM_MODE_REQ = true → u.plm.mode = .fixed → ({ u with plm := { u.plm with request := some .task } } : State) = t →
    exec (.modeReqTask dt m) s = .next ({ t with pwr := { t.pwr with hostMode := t.pwr.hostMode || t.pwr.ready } })) ∧
  (∀ (dt m : Nat) (x t : State) (s u : State), s.toWrite dt m Reg.PLM_MODE_REQ 2 = u → u.opens m true Reg.PLM_MODE_REQ = true → u.plm.mode = .task → u.plm.request ≠ some .fixed → ({ u with plm := { u.plm with request := some .fixed } } : State).dropPending = x → (if x.running = 0 then x.setMode .fixed else x) = t →
    exec (.modeReqFixed dt m) s = .next ({ t with pwr := { t.pwr with hostMode := t.pwr.hostMode || t.pwr.ready } })) ∧
  (∀ (dt m : Nat) (t : State) (s u : State), s.toWrite dt m Reg.PLM_MODE_REQ 1 = u → u.opens m true Reg.PLM_MODE_REQ = true → u.plm.mode ≠ .fixed → u = t →
    exec (.modeReqTask dt m) s = .next ({ t with pwr := { t.pwr with hostMode := t.pwr.hostMode || t.pwr.ready } })) ∧
  (∀ (dt m : Nat) (t : State) (s u : State), s.toWrite dt m Reg.PLM_MODE_REQ 2 = u → u.opens m true Reg.PLM_MODE_REQ = true → u.plm.mode ≠ .task ∨ u.plm.request = some .fixed → u = t →
    exec (.modeReqFixed dt m) s = .next ({ t with pwr := { t.pwr with hostMode := t.pwr.hostMode || t.pwr.ready } })) ∧
  (∀ (s : State), s.plm.request = some .fixed → s.running = 0 → s.lastEnded = { s with plm := { s.plm with leave := some s.sclk } }) ∧
  (∀ (s : State) (n : Nat), n < 32 → s.dropPending.taskState n ≠ 1 ∧ s.dropPending.taskState n ≠ 3) ∧
  (∀ (dt : Nat) (s u : State), s.clock dt ((s.advance dt).autoEvs) = u → u.regB Reg.PWR_START_CFG 0 = true → u.runs = true → u.plm.mode = .fixed → u.plm.autoDone = false → u.pwr.hostMode = false → (u.reg Reg.PWR_START_CFG).fld 29 16 ≤ u.plm.cycles →
    exec (.autoTaskRequest dt) s = .next ({ u with plm := { u.plm with request := some .task, autoDone := true } })) ∧
  (∀ (dt : Nat) (s u : State), s.clock dt ((s.advance dt).autoEvs) = u → u.plm.mode ≠ .fixed ∨ u.plm.autoDone = true ∨ u.pwr.hostMode = true ∨ u.plm.cycles < (u.reg Reg.PWR_START_CFG).fld 29 16 →
    exec (.autoTaskRequest dt) s = .next (u))

/-- BLOCK_CALL_ARRIVAL of an engine that waits in CALLB queues its call with the IN words at the serving pair;
BLOCK_SERVICE_START of a free pair takes the first work that is not late; BLOCK_RETURN at the end of its clocks writes the
OUT words into the caller's write buffer, holds the instance data with the release, and gives ENO as ACC; where the digest
of the trailing tile differs it is a closure mismatch, and where its deadline has come first it is late. SELF_RUN_DUE at a
new multiple of PERIOD queues a run, or counts a skip while the previous run is queued or running; SELF_RUN_END writes
header, OUT and STATE, or is a closure mismatch or late likewise. A late call is counted, told, and goes on with ACC = 0.
BLOCK_DEADLINE with nothing late changes no queue. (10_function_blocks) -/
def Obligations.BlockCalls : Prop :=
  (∀ (dt : Nat) (e i : Nat) (r : Release) (it ws : List Word) (s u : State), s.clock dt (((s.advance dt).callEvs e)) = u → (u.eng e).rel = some r → r.phase = .call i → r.due 0 ≤ u.sclk → u.blkWorks.any (fun w => w.caller = some e) = false → u.citem 6 i 9 = it → u.callIns e r it = .ok ws → (item it 0).bit 18 = false →
    exec (.blockCallArrival dt e) s = .next (u.queueWork (u.blkServer it) { inst := i, caller := some e, ins := ws, s := r.startT / (1000 * 2 ^ 32), datw := r.datw, arrival := u.ptp, clk := u.sclk, item := it })) ∧
  (∀ (dt : Nat) (e i ni no ns : Nat) (r : Release) (it ws copy : List Word) (s u : State), s.clock dt (((s.advance dt).callEvs e)) = u → (u.eng e).rel = some r → r.phase = .call i → r.due 0 ≤ u.sclk → u.blkWorks.any (fun w => w.caller = some e) = false → u.citem 6 i 9 = it → u.callIns e r it = .ok ws → (item it 0).bit 18 = true → blkCounts ((item it 0).fld 2 0) = (ni, no, ns) → u.instAt ((item it 1).fld 19 0) (8 + ni + no) = copy →
    exec (.blockCallArrival dt e) s = .next (u.queueWork (u.blkServer it) { inst := i, caller := some e, ins := ws, s := r.startT / (1000 * 2 ^ 32), datw := r.datw, arrival := u.ptp, clk := u.sclk, item := it, held := some (copy.drop (8 + ni), (item copy 1).bit 0) })) ∧
  (∀ (dt : Nat) (e : Nat) (r : Release) (s u : State), s.clock dt (((s.advance dt).callEvs e)) = u → (u.eng e).rel = some r → r.phase = .run ∨ r.phase = .done →
    exec (.blockCallArrival dt e) s = .next (u)) ∧
  (∀ (dt : Nat) (p : Nat) (w : BlkWork) (s u : State), s.clock dt (((s.advance dt).serveEvs p)) = u → u.blkFree p = true → (u.blkPair p).queue.find? (fun w => !u.isLate w none) = some w →
    exec (.blockServiceStart dt p) s = .next (u.setBlkPair p { queue := (u.blkPair p).queue.erase w, serving := some (w, u.blkResult p w, u.sclk) })) ∧
  (∀ (dt : Nat) (p : Nat) (s u : State), s.clock dt (((s.advance dt).serveEvs p)) = u → u.blkFree p = false ∨ (u.blkPair p).queue.find? (fun w => !u.isLate w none) = none →
    exec (.blockServiceStart dt p) s = .next (u)) ∧
  (∀ (dt : Nat) (p e clk : Nat) (o : Option Nat) (w : BlkWork) (x : BlkResult) (v : State) (r r' : Release) (s u : State), s.advance dt = u → (u.blkPair p).serving = some (w, x, clk) → w.caller = some e → u.servedLate w x clk = false → clk + serviceClocks w x ≤ u.sclk → digestsAgree (blkDigest w x) o = true → (u.setBlkPair p { u.blkPair p with serving := none }).countWork p w x = v → (v.eng e).rel = some r → v.putOuts e r (itemOut w.item).1 (itemOut w.item).2 x.outs = .ok r' →
    exec (.blockReturn dt p o) s = .next (v.setRel e { r' with insts := r'.insts ++ [heldWords w x], segs := r'.segs ++ x.segs, acc := x.eno, phase := .run, pc := r'.pc + 1, clocks := v.sclk - (r'.start + copyClocks r'.binding) })) ∧
  (∀ (dt : Nat) (p e clk : Nat) (o : Option Nat) (w : BlkWork) (x : BlkResult) (s u : State), s.advance dt = u → (u.blkPair p).serving = some (w, x, clk) → w.caller = some e → u.servedLate w x clk = false → clk + serviceClocks w x ≤ u.sclk → digestsAgree (blkDigest w x) o = false →
    exec (.blockReturn dt p o) s = .next (u.mismatch (cmpIndex p) 3)) ∧
  (∀ (dt : Nat) (p e clk : Nat) (o : Option Nat) (w : BlkWork) (x : BlkResult) (s u : State), s.advance dt = u → (u.blkPair p).serving = some (w, x, clk) → w.caller = some e → u.servedLate w x clk = true →
    exec (.blockReturn dt p o) s = .next ((u.setBlkPair p { u.blkPair p with serving := none }).lateWork w)) ∧
  (∀ (dt : Nat) (p : Nat) (o : Option Nat) (s u : State), s.advance dt = u → (u.blkPair p).serving = none →
    exec (.blockReturn dt p o) s = .next (u)) ∧
  (∀ (w : BlkWork) (x : BlkResult) (e : Nat), w.caller = some e → serviceClocks w x = (8 + (blkCounts ((item w.item 0).fld 2 0)).1) + x.clocks + (4 + (blkCounts ((item w.item 0).fld 2 0)).2.1)) ∧
  (∀ (s : State) (w : BlkWork) (e : Nat) (r : Release) (t : State), w.caller = some e → (((s.modInst w.inst (fun x => { x with late := satAdd 0xFFFFFFFF x.late 1 })).count Reg.BLK_LATE).raiseBit 26 0) = t → (t.eng e).rel = some r →
    s.lateWork w = t.setRel e { r with acc := false, phase := .run, pc := r.pc + 1, clocks := t.sclk - (r.start + copyClocks r.binding) }) ∧
  (∀ (dt : Nat) (i : Nat) (s u : State), s.advance dt = u → u.blk.pairs = [] →
    exec (.blockDeadline dt i) s = .next (u)) ∧
  (∀ (dt : Nat) (p i : Nat) (b : BlkPair) (w : BlkWork) (s u : State), s.advance dt = u → u.blk.pairs = [(p, b)] → b.queue = [w] → b.serving = none → w.inst = i → u.isLate w none = true →
    exec (.blockDeadline dt i) s = .next ((u.setBlkPair p { b with queue := [] }).lateWork w)) ∧
  (∀ (dt : Nat) (i per due : Nat) (it : List Word) (t : State) (s u : State), s.clock dt [⟨.selfDue, s.blkServer (s.citem 6 i 9), i⟩] = u → u.citem 6 i 9 = it → (item it 4).fld 16 0 * 1000 = per → u.now / per * per = due → (item it 0).fld 2 0 ≠ 0 → (item it 0).bit 18 = true → 0 < per → u.runs = true → u.plm.mode ≠ .idle → u.plm.selfFrom ≤ due → (u.instStat i).lastDue ≠ due → u.blkWorks.any (fun w => decide (w.inst = i) && w.caller.isNone) = false → u.modInst i (fun x => { x with lastDue := due }) = t →
    exec (.selfRunDue dt i) s = .next (t.queueWork (t.blkServer it) { inst := i, s := due / 1000, arrival := u.ptp, clk := u.sclk, item := it })) ∧
  (∀ (dt : Nat) (i per due : Nat) (it : List Word) (t : State) (s u : State), s.clock dt [⟨.selfDue, s.blkServer (s.citem 6 i 9), i⟩] = u → u.citem 6 i 9 = it → (item it 4).fld 16 0 * 1000 = per → u.now / per * per = due → (item it 0).fld 2 0 ≠ 0 → (item it 0).bit 18 = true → 0 < per → u.runs = true → u.plm.mode ≠ .idle → u.plm.selfFrom ≤ due → (u.instStat i).lastDue ≠ due → u.blkWorks.any (fun w => decide (w.inst = i) && w.caller.isNone) = true → u.modInst i (fun x => { x with lastDue := due }) = t →
    exec (.selfRunDue dt i) s = .next ((t.count Reg.BLK_SKIP).raiseBit 26 2)) ∧
  (∀ (dt : Nat) (i : Nat) (s u : State), s.clock dt [⟨.selfDue, s.blkServer (s.citem 6 i 9), i⟩] = u → u.runs = false ∨ u.plm.mode = .idle →
    exec (.selfRunDue dt i) s = .next (u)) ∧
  (∀ (dt : Nat) (p clk : Nat) (o : Option Nat) (w : BlkWork) (x : BlkResult) (s u : State), s.clock dt (((s.advance dt).selfEvs p)) = u → (u.blkPair p).serving = some (w, x, clk) → w.caller = none → u.servedLate w x clk = false → clk + x.clocks ≤ u.sclk → digestsAgree (blkDigest w x) o = true →
    exec (.selfRunEnd dt p o) s = .next (((u.setBlkPair p { u.blkPair p with serving := none }).countWork p w x).selfLeaves w x)) ∧
  (∀ (t v : State) (w : BlkWork) (x : BlkResult) (ni base : Nat), (blkCounts ((item w.item 0).fld 2 0)).1 = ni → (item w.item 1).fld 19 0 = base →
    x.segs = [] → (t.putInst base 0 (x.words.take 8)).setInstWords (base + 8 + ni) (x.words.drop (8 + ni)) = v →
    t.selfLeaves w x = v.record 0 [.inst base (v.instAt base 8), .inst (base + 8 + ni) (v.instAt (base + 8 + ni) (x.words.drop (8 + ni)).length)]) ∧
  (∀ (dt : Nat) (p clk : Nat) (o : Option Nat) (w : BlkWork) (x : BlkResult) (s u : State), s.clock dt (((s.advance dt).selfEvs p)) = u → (u.blkPair p).serving = some (w, x, clk) → w.caller = none → u.servedLate w x clk = false → clk + x.clocks ≤ u.sclk → digestsAgree (blkDigest w x) o = false →
    exec (.selfRunEnd dt p o) s = .next (u.mismatch (cmpIndex p) 3)) ∧
  (∀ (dt : Nat) (p clk : Nat) (o : Option Nat) (w : BlkWork) (x : BlkResult) (s u : State), s.clock dt (((s.advance dt).selfEvs p)) = u → (u.blkPair p).serving = some (w, x, clk) → w.caller = none → u.servedLate w x clk = true →
    exec (.selfRunEnd dt p o) s = .next ((u.setBlkPair p { u.blkPair p with serving := none }).lateWork w))

/-- For a pair that compares and whose two tiles' outputs differ, with the state w after its work is withheld: CORE_MISMATCH
notes the time, answers a waiting split or join with STATE, counts the mismatch and tells it; with no mismatch less than 10
s before it the pair resynchronises, else a Plumb or block pair is retired and another makes the module leave service. A
Plumb pair's withheld work is its release, which ends with 0x5. TILE_RESYNC_DONE gives the pair the state it had; WARN_END
clears WARN 10 s after the last mismatch. AGREEMENT_DISAGREE counts, and in the 16th consecutive clock is a core mismatch;
one that meets a mismatch of the pair is counted only. CHECKER_TEST at its due instant counts a pass, and is a checker fault
where the difference is not found. TILE_RESYNC_DONE of the MP, and of the stake unit before 64 clocks have passed, does
nothing. SPLIT_COMPLETE with no running release splits the pair with a copy of its constants, JOIN_COMPLETE joins it, with a
checker fault where its checker fails the test; either is refused 1 ms after it was asked for. (11_lockstep_and_comparison)
-/
def Obligations.CheckedPairs : Prop :=
  (∀ (dt : Nat) (x : Nat) (lead trail : PortOut) (w z y v : State) (s u : State), s.clock dt ((⟨.mismatch, x, cmpId x⟩ :: if x = 0 then [⟨.mpRestart, 0, 0⟩] else [])) = u → u.comparing x = true → lead ≠ trail → u.withholdWork x = w → w.modChk x (fun c => { c with lastMis := some w.now, change := none }) = z → (w.chk x).change.elim z (fun p => z.finishErr p.2.1 stState) = y → ((y.countF (Reg.CMP_Px_MIS x) 15 0 1).tally 48 1).raiseBit 27 0 = v → (w.chk x).lastMis = none ∨ (∃ t, (w.chk x).lastMis = some t ∧ t + 10000000000 ≤ w.now) → x ≠ 0 →
    exec (.coreMismatch dt (PairPorts.mk x lead trail)) s = .next ((v.cmpEvent x 1 false false).startResync x)) ∧
  (∀ (dt : Nat) (lead trail : PortOut) (w z y v : State) (s u : State), s.clock dt ((⟨.mismatch, 0, cmpId 0⟩ :: if 0 = 0 then [⟨.mpRestart, 0, 0⟩] else [])) = u → u.comparing 0 = true → lead ≠ trail → u.withholdWork 0 = w → w.modChk 0 (fun c => { c with lastMis := some w.now, change := none }) = z → (w.chk 0).change.elim z (fun p => z.finishErr p.2.1 stState) = y → ((y.countF (Reg.CMP_Px_MIS 0) 15 0 1).tally 48 1).raiseBit 27 0 = v → (w.chk 0).lastMis = none →
    exec (.coreMismatch dt (PairPorts.mk 0 lead trail)) s = .next (((v.cmpEvent 0 1 false false).startResync 0).mpRestart)) ∧
  (∀ (dt : Nat) (x t0 : Nat) (lead trail : PortOut) (w z y v : State) (s u : State), s.clock dt ((⟨.mismatch, x, cmpId x⟩ :: if x = 0 then [⟨.mpRestart, 0, 0⟩] else [])) = u → u.comparing x = true → lead ≠ trail → u.withholdWork x = w → w.modChk x (fun c => { c with lastMis := some w.now, change := none }) = z → (w.chk x).change.elim z (fun p => z.finishErr p.2.1 stState) = y → ((y.countF (Reg.CMP_Px_MIS x) 15 0 1).tally 48 1).raiseBit 27 0 = v → (w.chk x).lastMis = some t0 → w.now < t0 + 10000000000 → 1 ≤ x → x ≤ 24 →
    exec (.coreMismatch dt (PairPorts.mk x lead trail)) s = .next (v.retirePair x 1)) ∧
  (∀ (dt : Nat) (x t0 : Nat) (lead trail : PortOut) (w z y v : State) (s u : State), s.clock dt ((⟨.mismatch, x, cmpId x⟩ :: if x = 0 then [⟨.mpRestart, 0, 0⟩] else [])) = u → u.comparing x = true → lead ≠ trail → u.withholdWork x = w → w.modChk x (fun c => { c with lastMis := some w.now, change := none }) = z → (w.chk x).change.elim z (fun p => z.finishErr p.2.1 stState) = y → ((y.countF (Reg.CMP_Px_MIS x) 15 0 1).tally 48 1).raiseBit 27 0 = v → (w.chk x).lastMis = some t0 → w.now < t0 + 10000000000 → x = 0 ∨ 24 < x →
    exec (.coreMismatch dt (PairPorts.mk x lead trail)) s = .next ((((v.cmpEvent x 1 true false).modChk x (fun c => { c with withdrawn := true })).raiseBit 27 6).withdraw none)) ∧
  (∀ (dt : Nat) (x : Nat) (lead trail : PortOut) (s u : State), s.clock dt ((⟨.mismatch, x, cmpId x⟩ :: if x = 0 then [⟨.mpRestart, 0, 0⟩] else [])) = u → u.comparing x = false ∨ lead = trail →
    exec (.coreMismatch dt (PairPorts.mk x lead trail)) s = .next (u)) ∧
  (∀ (s : State) (x : Nat), 1 ≤ x → x ≤ 18 → s.withholdWork x = s.endRelease (cmpId x) 5 0 0) ∧
  (∀ (s : State) (x : Nat),
    s.startResync x = ((s.setCmpState x 5).modChk x (fun c => { c with prior := if s.cmpState x = 5 then (s.chk x).prior else s.cmpState x, resync := some s.sclk })).setRegB
      (Reg.CMP_Px_STS x) 3 true) ∧
  (∀ (dt : Nat) (x : Nat) (s u : State), s.advance dt = u → u.cmpState x = 5 → x ≠ 0 → x ≠ 25 →
    exec (.tileResyncDone dt x) s = .next ((u.setCmpState x (u.chk x).prior).modChk x (fun c => { c with resync := none }))) ∧
  (∀ (dt : Nat) (t0 : Nat) (v : State) (s u : State), s.advance dt = u → u.cmpState 25 = 5 → (u.chk 25).resync = some t0 → t0 + 64 ≤ u.sclk → (u.setCmpState 25 (u.chk 25).prior).modChk 25 (fun c => { c with resync := none }) = v → v.stk.entries = [] →
    exec (.tileResyncDone dt 25) s = .next (v)) ∧
  (∀ (dt : Nat) (x : Nat) (s u : State), s.advance dt = u → u.cmpState x ≠ 5 ∨ x = 0 ∨ (x = 25 ∧ u.sclk < (u.chk x).resync.getD 0 + 64) →
    exec (.tileResyncDone dt x) s = .next (u)) ∧
  (∀ (dt : Nat) (x t0 : Nat) (s u : State), s.advance dt = u → (u.chk x).lastMis = some t0 → t0 + 10000000000 ≤ u.now →
    exec (.warnEnd dt x) s = .next (u.setRegB (Reg.CMP_Px_STS x) 3 false)) ∧
  (∀ (dt : Nat) (x t0 : Nat) (s u : State), s.advance dt = u → (u.chk x).lastMis = some t0 → u.now < t0 + 10000000000 →
    exec (.warnEnd dt x) s = .next (u)) ∧
  (∀ (dt : Nat) (x k n : Nat) (s u : State), s.clock dt [⟨.disagree, x, 0⟩] = u → u.mismatchNow x = false → u.comparing x = true → sget (0, 0) (u.chk x).disagree k = (u.sclk - 1, n) → 0 < u.sclk → 0 < n → n < 15 →
    exec (.agreementDisagree dt x k) s = .next ((u.count (Reg.CMP_Px_AGREE x)).modChk x (fun c => { c with disagree := sput (0, 0) c.disagree k (u.sclk, n + 1) }))) ∧
  (∀ (dt : Nat) (x k : Nat) (s u : State), s.clock dt [⟨.disagree, x, 0⟩] = u → u.mismatchNow x = false → u.comparing x = true → sget (0, 0) (u.chk x).disagree k = (0, 0) →
    exec (.agreementDisagree dt x k) s = .next ((u.count (Reg.CMP_Px_AGREE x)).modChk x (fun c => { c with disagree := sput (0, 0) c.disagree k (u.sclk, 1) }))) ∧
  (∀ (dt : Nat) (x k : Nat) (v : State) (s u : State), s.clock dt [⟨.disagree, x, 0⟩] = u → u.mismatchNow x = false → u.comparing x = true → sget (0, 0) (u.chk x).disagree k = (u.sclk - 1, 15) → 0 < u.sclk → (u.count (Reg.CMP_Px_AGREE x)).modChk x (fun c => { c with disagree := sput (0, 0) c.disagree k (u.sclk, 16) }) = v →
    exec (.agreementDisagree dt x k) s = .next ((v.modChk x (fun c => { c with disagree := sput (0, 0) c.disagree k (0, 0) })).mismatch x 1)) ∧
  (∀ (dt : Nat) (x k : Nat) (s u : State), s.clock dt [⟨.disagree, x, 0⟩] = u → u.mismatchNow x = true →
    exec (.agreementDisagree dt x k) s = .next (u.count (Reg.CMP_Px_AGREE x))) ∧
  (∀ (dt : Nat) (x r d : Nat) (v : State) (s u : State), s.clock dt [⟨.checkTest, x, 0⟩] = u → u.comparing x = true → u.testDue x = some d → (u.chk x).tested ≠ some d → railsMismatch r = true → (u.modChk x (fun c => { c with tested := some d })).countWrap (Reg.CMP_Px_TESTS x) = v →
    exec (.checkerTest dt x r true) s = .next (v.setRegF (Reg.CMP_Px_STS x) 6 4 ((v.reg (Reg.CMP_Px_TESTS x)).fld 2 0))) ∧
  (∀ (dt : Nat) (x r d : Nat) (v : State) (s u : State), s.clock dt [⟨.checkTest, x, 0⟩] = u → u.comparing x = true → u.testDue x = some d → (u.chk x).tested ≠ some d → railsMismatch r = true → u.modChk x (fun c => { c with tested := some d }) = v →
    exec (.checkerTest dt x r false) s = .next ((v.testPassed x).classify x 3)) ∧
  (∀ (dt : Nat) (x r d : Nat) (same : Bool) (s u : State), s.clock dt [⟨.checkTest, x, 0⟩] = u → u.comparing x = true → u.testDue x = some d → (u.chk x).tested ≠ some d → railsMismatch r = false →
    exec (.checkerTest dt x r same) s = .next ((u.modChk x (fun c => { c with tested := some d })).checkerFault x)) ∧
  (∀ (dt : Nat) (x r : Nat) (same : Bool) (s u : State), s.clock dt [⟨.checkTest, x, 0⟩] = u → u.comparing x = false ∨ u.testDue x = none ∨ (u.chk x).tested = u.testDue x →
    exec (.checkerTest dt x r same) s = .next (u)) ∧
  (∀ (s : State) (x : Nat), x * 25000 ≤ s.now → s.testDue x = some ((s.now - x * 25000) / 1000000 * 1000000 + x * 25000)) ∧
  (∀ (dt : Nat) (x slot at_ : Nat) (s u : State), s.clock dt [⟨.splitJoin, x, 0⟩] = u → (u.chk x).change = some (false, slot, at_) → u.now < at_ + 1000000 → (u.eng (cmpId x)).rel = none →
    exec (.splitComplete dt x) s = .next (((((((u.modChk x (fun c => { c with change := none })).setCmpState x 3).setRegB Reg.CMP_SPLIT_MAP x true).copyKonst (cmpId x) (cmpId x + 0x80)).raiseBit 27 5).finishOk slot []))) ∧
  (∀ (dt : Nat) (x slot at_ : Nat) (s u : State), s.clock dt [⟨.splitJoin, x, 0⟩] = u → (u.chk x).change = some (false, slot, at_) → at_ + 1000000 ≤ u.now →
    exec (.splitComplete dt x) s = .next ((u.modChk x (fun c => { c with change := none })).finishErr slot stState)) ∧
  (∀ (dt : Nat) (x : Nat) (s u : State), s.clock dt [⟨.splitJoin, x, 0⟩] = u → (u.chk x).change = none →
    exec (.splitComplete dt x) s = .next (u)) ∧
  (∀ (dt : Nat) (x r slot at_ id : Nat) (w v : State) (s u : State), s.clock dt [⟨.splitJoin, x, 0⟩] = u → (u.chk x).change = some (true, slot, at_) → u.now < at_ + 1000000 → cmpId x = id → (u.eng id).rel = none → (u.eng (id + 0x80)).rel = none → (((u.passBanks (id + 0x80) id).passLocks (id + 0x80) 0).setRegF (Reg.CMP_Px_STS x) 23 16 (min 255 (u.locksOf (id + 0x80)).length)).modChk x (fun c => { c with change := none }) = w → ((w.setCmpState x 0).setRegB Reg.CMP_SPLIT_MAP x false).dropKonst (id + 0x80) = v → railsMismatch r = true →
    exec (.joinComplete dt x r) s = .next (((v.testPassed x).raiseBit 27 5).finishOk slot [])) ∧
  (∀ (dt : Nat) (x r slot at_ id : Nat) (w v : State) (s u : State), s.clock dt [⟨.splitJoin, x, 0⟩] = u → (u.chk x).change = some (true, slot, at_) → u.now < at_ + 1000000 → cmpId x = id → (u.eng id).rel = none → (u.eng (id + 0x80)).rel = none → (((u.passBanks (id + 0x80) id).passLocks (id + 0x80) 0).setRegF (Reg.CMP_Px_STS x) 23 16 (min 255 (u.locksOf (id + 0x80)).length)).modChk x (fun c => { c with change := none }) = w → ((w.setCmpState x 0).setRegB Reg.CMP_SPLIT_MAP x false).dropKonst (id + 0x80) = v → railsMismatch r = false →
    exec (.joinComplete dt x r) s = .next ((v.checkerFault x).finishErr slot stState)) ∧
  (∀ (dt : Nat) (x r slot at_ : Nat) (s u : State), s.clock dt [⟨.splitJoin, x, 0⟩] = u → (u.chk x).change = some (true, slot, at_) → at_ + 1000000 ≤ u.now →
    exec (.joinComplete dt x r) s = .next (((u.modChk x (fun c => { c with change := none })).setCmpState x 3).finishErr slot stState)) ∧
  (∀ (dt : Nat) (x r slot at_ : Nat) (s u : State), s.clock dt [⟨.splitJoin, x, 0⟩] = u → (u.chk x).change = some (true, slot, at_) → u.now < at_ + 1000000 → (u.eng (cmpId x)).rel.isSome = true ∨ (u.eng (cmpId x + 0x80)).rel.isSome = true →
    exec (.joinComplete dt x r) s = .next (u))

/-- ROLE_DECISION at step 5 with no role yet: 50 ms of listening without the partner make the module ALONE, a partner that
runs the line makes it STANDBY with the partner's epoch, or OUT_OF_SERVICE with MISMATCH where the order codes differ; a
partner OUT_OF_SERVICE, or still without a role while this module sits in slot A, makes it ALONE. ALONE raises the epoch
above every one known and drives the outputs. A good frame on a lane that is up is heard, with its epoch; a higher epoch
fences a module that runs the line. A sequenced frame in order is taken and acknowledged, another is only acknowledged.
KEEPALIVE and ROLE store the partner's role; a partner that leaves the running roles is lost to its STANDBY. KEEPALIVE_SEND
every 10 us and TIME_EXCHANGE every 1 ms send on both lanes; a TIME request is answered. ACK releases frames; RETRANSMIT
after 20 us sends all of them again. A bad CRC is counted, and the 16th within 1 s retires the lane. A lane that goes down
passes its traffic on. PRESENT follows insertion and loss. (12_pair_redundancy) -/
def Obligations.PairLinkAndRoles : Prop :=
  (∀ (dt : Nat) (v : State) (same : Bool) (t0 : Nat) (s u : State), s.clock dt ((s.advance dt).pairEvs (fun s => s.roleDecision same)) = u → u.role = 0 → u.regF Reg.PWR_START_STS 3 0 = 5 → u.pwr.roleAt = none → ({ u with pwr := { u.pwr with roleAt := some u.sclk } } : State).setRegF Reg.PWR_START_STS 3 0 6 = v → u.pair.lastLink = none → u.pwr.listenAt = some t0 → t0 + 50 * msClk ≤ u.sclk →
    exec (.roleDecision dt same) s = .next (v.decideAlone)) ∧
  (∀ (dt : Nat) (v : State) (t0 : Nat) (s u : State), s.clock dt ((s.advance dt).pairEvs (fun s => s.roleDecision true)) = u → u.role = 0 → u.regF Reg.PWR_START_STS 3 0 = 5 → u.pwr.roleAt = none → ({ u with pwr := { u.pwr with roleAt := some u.sclk } } : State).setRegF Reg.PWR_START_STS 3 0 6 = v → u.pair.lastLink = some t0 → u.partner = 1 ∨ u.partner = 2 →
    exec (.roleDecision dt true) s = .next (v.decideStandby)) ∧
  (∀ (dt : Nat) (v : State) (t0 : Nat) (s u : State), s.clock dt ((s.advance dt).pairEvs (fun s => s.roleDecision false)) = u → u.role = 0 → u.regF Reg.PWR_START_STS 3 0 = 5 → u.pwr.roleAt = none → ({ u with pwr := { u.pwr with roleAt := some u.sclk } } : State).setRegF Reg.PWR_START_STS 3 0 6 = v → u.pair.lastLink = some t0 → u.partner = 1 ∨ u.partner = 2 →
    exec (.roleDecision dt false) s = .next (v.decideOut true)) ∧
  (∀ (dt : Nat) (v : State) (same : Bool) (t0 : Nat) (s u : State), s.clock dt ((s.advance dt).pairEvs (fun s => s.roleDecision same)) = u → u.role = 0 → u.regF Reg.PWR_START_STS 3 0 = 5 → u.pwr.roleAt = none → ({ u with pwr := { u.pwr with roleAt := some u.sclk } } : State).setRegF Reg.PWR_START_STS 3 0 6 = v → u.pair.lastLink = some t0 → u.partner = 6 ∨ (u.partner = 0 ∧ u.slotId = 0) →
    exec (.roleDecision dt same) s = .next (v.decideAlone)) ∧
  (∀ (dt : Nat) (v : State) (t0 : Nat) (s u : State), s.clock dt ((s.advance dt).pairEvs (fun s => s.roleDecision false)) = u → u.role = 0 → u.regF Reg.PWR_START_STS 3 0 = 5 → u.pwr.roleAt = none → ({ u with pwr := { u.pwr with roleAt := some u.sclk } } : State).setRegF Reg.PWR_START_STS 3 0 6 = v → u.pair.lastLink = some t0 → u.partner = 0 → u.slotId ≠ 0 →
    exec (.roleDecision dt false) s = .next (v.decideOut true)) ∧
  (∀ (dt : Nat) (v : State) (t0 t1 : Nat) (s u : State), s.clock dt ((s.advance dt).pairEvs (fun s => s.roleDecision true)) = u → u.role = 0 → u.regF Reg.PWR_START_STS 3 0 = 5 → u.pwr.roleAt = none → ({ u with pwr := { u.pwr with roleAt := some u.sclk } } : State).setRegF Reg.PWR_START_STS 3 0 6 = v → u.pair.lastLink = some t0 → u.partner = 0 → u.slotId ≠ 0 → u.pair.heard = some t1 → t1 + 5000 * msClk ≤ u.sclk →
    exec (.roleDecision dt true) s = .next (v.decideOut false)) ∧
  (∀ (dt : Nat) (v : State) (same : Bool) (t0 t1 : Nat) (s u : State), s.clock dt ((s.advance dt).pairEvs (fun s => s.roleDecision same)) = u → u.role = 0 → u.regF Reg.PWR_START_STS 3 0 = 5 → u.pwr.roleAt = none → ({ u with pwr := { u.pwr with roleAt := some u.sclk } } : State).setRegF Reg.PWR_START_STS 3 0 6 = v → u.pair.lastLink = some t0 → u.partner = 3 → u.pair.standby = some t1 → t1 + 5000 * msClk ≤ u.sclk →
    exec (.roleDecision dt same) s = .next (v.decideAlone)) ∧
  (∀ (dt : Nat) (same : Bool) (s u : State), s.clock dt ((s.advance dt).pairEvs (fun s => s.roleDecision same)) = u → u.decision same = none →
    exec (.roleDecision dt same) s = .next (u)) ∧
  (∀ (dt : Nat) (same : Bool) (s u : State), s.clock dt ((s.advance dt).pairEvs (fun s => s.roleDecision same)) = u → u.role ≠ 0 ∨ u.regF Reg.PWR_START_STS 3 0 ≠ 5 ∨ u.pwr.roleAt.isSome = true →
    exec (.roleDecision dt same) s = .next (u)) ∧
  (∀ (s : State) (e : Nat), max s.pair.epochMram (max (s.reg Reg.TRV_SW_EPOCH_MAX).toNat (s.pair.heardEpoch.getD 0)) + 1 = e →
    s.decideAlone = ((({ s.setReg Reg.PAIR_EPOCH (w32 e) with pair := { s.pair with epochMram := e % 2 ^ 32 } } : State).setRole 1).setDrive 2)) ∧
  (∀ (s : State) (h : LinkHdr), h.epoch ≤ s.epoch →
    s.hearLink h = { s with pair := { s.pair with lastLink := some s.sclk, lastAny := some s.sclk, silent := false, heardEpoch := some h.epoch } }) ∧
  (∀ (s v : State) (h : LinkHdr), s.epoch < h.epoch → s.runs = true →
    ({ s with pair := { s.pair with lastLink := some s.sclk, lastAny := some s.sclk, silent := false, heardEpoch := some h.epoch } } : State) = v →
    s.hearLink h = (v.fence 1).setRegB Reg.TRV_SW_STS 3 false) ∧
  (∀ (dt : Nat) (h : LinkHdr) (v w : State) (r cause : Nat) (s u : State), s.clock dt ([] ++ (s.advance dt).linkEvs h (fun s => s.rxSeqd h (fun s => s.heardRole r))) = u → u.laneUp h.lane = true → u.hearLink h = v → v.takesStream = true → h.seq = v.pair.rxSeq + 1 ∨ v.pair.rxSeq = 0 → v.acceptSeq h.seq = w →
    exec (.pairRoleNotice dt h r cause) s = .next ((w.heardRole r).sendPlain (.ack h.seq))) ∧
  (∀ (dt r cause : Nat) (h : LinkHdr) (s u v : State), s.clock dt ([] ++ (s.advance dt).linkEvs h (fun s => s.rxSeqd h (fun s => s.heardRole r))) = u → u.laneUp h.lane = true → u.hearLink h = v → v.takesStream = true →
    h.seq ≠ v.pair.rxSeq + 1 → v.pair.rxSeq ≠ 0 → exec (.pairRoleNotice dt h r cause) s = .next (v.sendPlain (.ack v.pair.rxSeq))) ∧
  (∀ (s v : State), s.partner ≠ 3 → s.pair.standby = none →
    ({ (s.setRegF Reg.PAIR_ROLE 6 4 3) with pair := { s.pair with silent := false, heard := some s.sclk, standby := some s.sclk } } : State) = v →
    v.role ≠ 3 → s.heardRole 3 = v) ∧
  (∀ (s v w : State) (r : Nat), runningRole s.partner = true → runningRole r = false → r ≠ 3 → r ≠ 0 → s.partner ≠ r →
    ({ (s.setRegF Reg.PAIR_ROLE 6 4 r) with pair := { s.pair with silent := false, heard := some s.sclk, standby := none } } : State) = v →
    v.follow false = w → w.role = 3 → s.heardRole r = w.declareLoss) ∧
  (∀ (dt : Nat) (h : LinkHdr) (v : State) (r complete : Nat) (ready : Bool) (w : State) (s u : State), s.clock dt (((s.advance dt).readyEvs ready ++ (s.advance dt).linkEvs h (fun s => s.rxPlain h (fun s => s.keepaliveRx r ready complete)))) = u → u.laneUp h.lane = true → u.hearLink h = v → v.heardRole r = w → (w.runs || decide (w.role = 5)) = false ∨ r ≠ 3 →
    exec (.pairKeepalive dt h r ready complete) s = .next (w)) ∧
  (∀ (dt : Nat) (h : LinkHdr) (v : State) (complete : Nat) (ready : Bool) (w x : State) (s u : State), s.clock dt (((s.advance dt).readyEvs ready ++ (s.advance dt).linkEvs h (fun s => s.rxPlain h (fun s => s.keepaliveRx 3 ready complete)))) = u → u.laneUp h.lane = true → u.hearLink h = v → v.heardRole 3 = w → (w.runs || decide (w.role = 5)) = true → (w.setReg Reg.PAIR_GEN_DONE (w32 complete)).follow ready = x → x.pair.stream = true → ready = true ∨ w.regB Reg.PAIR_STS 0 = false →
    exec (.pairKeepalive dt h 3 ready complete) s = .next (x)) ∧
  (∀ (dt : Nat) (h : LinkHdr) (v : State) (complete : Nat) (ready : Bool) (w x : State) (s u : State), s.clock dt (((s.advance dt).readyEvs ready ++ (s.advance dt).linkEvs h (fun s => s.rxPlain h (fun s => s.keepaliveRx 3 ready complete)))) = u → u.laneUp h.lane = true → u.hearLink h = v → v.heardRole 3 = w → (w.runs || decide (w.role = 5)) = true → (w.setReg Reg.PAIR_GEN_DONE (w32 complete)).follow ready = x → x.pair.stream = false ∨ (ready = false ∧ w.regB Reg.PAIR_STS 0 = true) →
    exec (.pairKeepalive dt h 3 ready complete) s = .next (x.startCopy)) ∧
  (∀ (dt : Nat) (v : State) (s u : State), s.advance dt = u → u.agoAtLeast u.pair.kaSent (10 * usClk) = true → ({ u with pair := { u.pair with kaSent := some u.sclk } } : State) = v →
    exec (.keepaliveSend dt) s = .next ((v.emitLink ⟨⟨0, false, 0, v.epoch, 0⟩, .keepalive v.role (v.regB Reg.PAIR_STS 0) (v.reg Reg.PAIR_GEN_DONE).toNat⟩).emitLink ⟨⟨1, false, 0, v.epoch, 0⟩, .keepalive v.role (v.regB Reg.PAIR_STS 0) (v.reg Reg.PAIR_GEN_DONE).toNat⟩)) ∧
  (∀ (dt : Nat) (v : State) (s u : State), s.advance dt = u → u.agoAtLeast u.pair.timeSent (1000 * usClk) = true → ({ u with pair := { u.pair with timeSent := some u.sclk } } : State) = v →
    exec (.timeExchange dt) s = .next ((v.emitLink ⟨⟨0, false, 0, v.epoch, 0⟩, .time false (v.now : Int) 0 0⟩).emitLink ⟨⟨1, false, 0, v.epoch, 0⟩, .time false (v.now : Int) 0 0⟩)) ∧
  (∀ (dt : Nat) (s u : State), s.advance dt = u → u.agoAtLeast u.pair.kaSent (10 * usClk) = false →
    exec (.keepaliveSend dt) s = .next (u)) ∧
  (∀ (dt : Nat) (s u : State), s.advance dt = u → u.agoAtLeast u.pair.timeSent (1000 * usClk) = false →
    exec (.timeExchange dt) s = .next (u)) ∧
  (∀ (dt : Nat) (h : LinkHdr) (v : State) (t1 t2 t3 : Int) (s u : State), s.clock dt ((s.advance dt).linkEvs h (fun s => s.rxPlain h (fun s => s.timeRx h.lane false t1 t2 t3))) = u → u.laneUp h.lane = true → u.hearLink h = v →
    exec (.pairTime dt h false t1 t2 t3) s = .next (v.emitLink ⟨⟨h.lane, false, 0, v.epoch, 0⟩, .time true t1 (v.now : Int) (v.now : Int)⟩)) ∧
  (∀ (dt : Nat) (h : LinkHdr) (v : State) (t1 t2 t3 delay : Int) (s u : State), s.clock dt ((s.advance dt).linkEvs h (fun s => s.rxPlain h (fun s => s.timeRx h.lane true t1 t2 t3))) = u → u.laneUp h.lane = true → u.hearLink h = v → v.regB Reg.TIM_CTL 3 = true → v.ptpRole ≠ 0 → (((v.now : Int) - t1) - (t3 - t2)) / 2 = delay →
    exec (.pairTime dt h true t1 t2 t3) s = .next (v.measured ((v.now : Int) - (t3 + delay)) delay 1000000)) ∧
  (∀ (dt : Nat) (h : LinkHdr) (v : State) (t1 t2 t3 : Int) (s u : State), s.clock dt ((s.advance dt).linkEvs h (fun s => s.rxPlain h (fun s => s.timeRx h.lane true t1 t2 t3))) = u → u.laneUp h.lane = true → u.hearLink h = v → v.regB Reg.TIM_CTL 3 = false ∨ v.ptpRole = 0 →
    exec (.pairTime dt h true t1 t2 t3) s = .next (v)) ∧
  (∀ (dt : Nat) (h : LinkHdr) (v : State) (n : Nat) (w : State) (s u : State), s.clock dt ((s.advance dt).linkEvs h (fun s => s.rxPlain h (fun s => s.ackUpTo n))) = u → u.laneUp h.lane = true → u.hearLink h = v → { v with pair := { v.pair with window := v.pair.window.filter (fun p => n < p.1.hdr.seq) } } = w → w.windowBytes ≤ 2 * 2 ^ 20 →
    exec (.pairAck dt h n) s = .next (w.setRegB Reg.PAIR_STS 2 false)) ∧
  (∀ (dt : Nat) (h : LinkHdr) (v : State) (n : Nat) (w : State) (s u : State), s.clock dt ((s.advance dt).linkEvs h (fun s => s.rxPlain h (fun s => s.ackUpTo n))) = u → u.laneUp h.lane = true → u.hearLink h = v → { v with pair := { v.pair with window := v.pair.window.filter (fun p => n < p.1.hdr.seq) } } = w → 2 * 2 ^ 20 < w.windowBytes →
    exec (.pairAck dt h n) s = .next (w)) ∧
  (∀ (dt : Nat) (f : LinkFrame) (t0 : Nat) (r : List (LinkFrame × Nat)) (s u : State), s.advance dt = u → u.pair.window = (f, t0) :: r → t0 + 20 * usClk ≤ u.sclk → u.carrying.isSome = true →
    exec (.retransmit dt) s = .next ((u.countF Reg.PAIR_RETX 31 0 (r.length + 1)).resend)) ∧
  (∀ (dt : Nat) (f : LinkFrame) (t0 : Nat) (r : List (LinkFrame × Nat)) (s u : State), s.advance dt = u → u.pair.window = (f, t0) :: r → u.sclk < t0 + 20 * usClk →
    exec (.retransmit dt) s = .next (u)) ∧
  (∀ (dt : Nat) (l a : Nat) (ts : List Nat) (v : State) (s u : State), s.clock dt (((s.advance dt).laneEvs l)) = u → l ≤ 1 → u.laneUp l = true → (if l = 0 then Reg.PAIR_LANE0_CRC else Reg.PAIR_LANE1_CRC) = a → (u.now :: (sget [] u.pair.crcTimes l).filter (fun t => u.now < t + 1000000000)).take 16 = ts → ({ u.countF a 31 0 1 with pair := { u.pair with crcTimes := sput [] u.pair.crcTimes l ts } } : State) = v →
    exec (.pairFrameCrcError dt l) s = .next (if ts.length < 16 then v else ((v.setLane l 4).noteRetired (.lane l)).moveTraffic)) ∧
  (∀ (dt : Nat) (l : Nat) (s u : State), s.clock dt (((s.advance dt).laneEvs l)) = u → u.laneUp l = false →
    exec (.pairFrameCrcError dt l) s = .next (u)) ∧
  (∀ (dt : Nat) (l : Nat) (s u : State), s.advance dt = u → l ≤ 1 → u.lane l ≠ 4 →
    exec (.pairLaneLinkChange dt l false) s = .next ((u.setLane l 0).moveTraffic)) ∧
  (∀ (dt : Nat) (l : Nat) (s u : State), s.advance dt = u → l ≤ 1 → u.lane l < 2 → u.carrying = none → l = 0 ∨ u.lane 0 ≠ 1 →
    exec (.pairLaneLinkChange dt l true) s = .next ((u.setLane l 2).moveTraffic)) ∧
  (∀ (dt : Nat) (s u : State), s.advance dt = u → u.lane 1 < 2 → u.carrying = none → u.lane 0 = 1 →
    exec (.pairLaneLinkChange dt 1 true) s = .next ((u.setLane 1 3).moveTraffic)) ∧
  (∀ (dt : Nat) (l : Nat) (up : Bool) (s u : State), s.advance dt = u → u.lane l = 4 ∨ (up = true ∧ 2 ≤ u.lane l) →
    exec (.pairLaneLinkChange dt l up) s = .next (u)) ∧
  (∀ (dt : Nat) (l : Nat) (s u : State), s.advance dt = u → l ≤ 1 → u.lane l < 2 → u.carrying.isSome = true →
    exec (.pairLaneLinkChange dt l true) s = .next ((u.setLane l 3).moveTraffic)) ∧
  (∀ (dt : Nat) (s u : State), s.advance dt = u →
    exec (.partnerInsertion dt) s = .next (u.setRegB Reg.SYS_SLOT 1 true)) ∧
  (∀ (dt : Nat) (s u : State), s.advance dt = u →
    exec (.partnerPresentLoss dt) s = .next (u.setRegB Reg.SYS_SLOT 1 false))

/-- DELTA taken by a STANDBY: without a generation its records are applied; in a generation they are applied and what they
overwrite is kept as undo records; more than 2 MiB of those end READY. GEN_CLOSE whose count, digest and predecessor fit
completes the generation, discards its undo records and stores PAIR_GEN_DONE; otherwise the standby is not READY. A module
that is neither STANDBY nor waits for H applies nothing. RESYNC in a running copy stores its bytes and applies its records,
another begins a copy; PROGRAM stores program bytes. RESYNC_COPY_END clears RESYNC and signals it; RESYNC_READY makes a
joined standby READY. GEN_BOUNDARY at a new multiple of PERIOD in task mode opens the next generation; GEN_CLOSE_SEND closes
the oldest past one whose releases have ended, with its count and digest. (12_pair_redundancy) -/
def Obligations.PairCheckpoint : Prop :=
  (∀ (dt : Nat) (h : LinkHdr) (v w : State) (rs : List DeltaRec) (s u : State), s.clock dt ([] ++ (s.advance dt).linkEvs h (fun s => s.rxSeqd h (fun s => s.deltaRx h.gen rs))) = u → u.laneUp h.lane = true → u.hearLink h = v → v.takesStream = true → h.seq = v.pair.rxSeq + 1 ∨ v.pair.rxSeq = 0 → v.acceptSeq h.seq = w → w.appliesRecs = true → h.gen = 0 →
    exec (.pairDelta dt h rs) s = .next ((w.putRecs rs).sendPlain (.ack h.seq))) ∧
  (∀ (dt : Nat) (h : LinkHdr) (v w : State) (rs : List DeltaRec) (s u : State), s.clock dt ([] ++ (s.advance dt).linkEvs h (fun s => s.rxSeqd h (fun s => s.deltaRx h.gen rs))) = u → u.laneUp h.lane = true → u.hearLink h = v → v.takesStream = true → h.seq = v.pair.rxSeq + 1 ∨ v.pair.rxSeq = 0 → v.acceptSeq h.seq = w → w.appliesRecs = false →
    exec (.pairDelta dt h rs) s = .next ((w).sendPlain (.ack h.seq))) ∧
  (∀ (dt : Nat) (h : LinkHdr) (v w : State) (sp k n : Nat) (ws : List Word) (x : State) (s u : State), s.clock dt ([] ++ (s.advance dt).linkEvs h (fun s => s.rxSeqd h (fun s => s.deltaRx h.gen [.image sp k n ws]))) = u → u.laneUp h.lane = true → u.hearLink h = v → v.takesStream = true → h.seq = v.pair.rxSeq + 1 ∨ v.pair.rxSeq = 0 → v.acceptSeq h.seq = w → w.appliesRecs = true → h.gen ≠ 0 → (({ w with pair := w.pair.onGen h.gen (fun g => { g with undo := .image sp k n ((List.range ws.length).map (fun q => w.imgW sp k (n + q))) :: g.undo, recs := g.recs ++ [.image sp k n ws] }) } : State).setImgWords sp k n ws) = x → x.undoBytes ≤ 2 ^ 21 →
    exec (.pairDelta dt h [.image sp k n ws]) s = .next ((x).sendPlain (.ack h.seq))) ∧
  (∀ (dt : Nat) (h : LinkHdr) (v w : State) (rs : List DeltaRec) (x y : State) (s u : State), s.clock dt ([] ++ (s.advance dt).linkEvs h (fun s => s.rxSeqd h (fun s => s.deltaRx h.gen rs))) = u → u.laneUp h.lane = true → u.hearLink h = v → v.takesStream = true → h.seq = v.pair.rxSeq + 1 ∨ v.pair.rxSeq = 0 → v.acceptSeq h.seq = w → w.appliesRecs = true → h.gen ≠ 0 → w.keepUndo h.gen (w.swapUndo rs) = x → (rs.foldl (State.genRec h.gen) x).putRecs (rs.filter (fun r => (activeItem r).isSome)) = y →
    exec (.pairDelta dt h rs) s = .next (((if 2 ^ 21 < y.undoBytes then y.unready else y)).sendPlain (.ack h.seq))) ∧
  (∀ (dt : Nat) (h : LinkHdr) (v w : State) (g n digest : Nat) (rs : List DeltaRec) (s u : State), s.clock dt ([⟨.genClose, 0, 0⟩] ++ (s.advance dt).linkEvs h (fun s => s.rxSeqd h (fun s => s.genCloseRx g n digest))) = u → u.laneUp h.lane = true → u.hearLink h = v → v.takesStream = true → h.seq = v.pair.rxSeq + 1 ∨ v.pair.rxSeq = 0 → v.acceptSeq h.seq = w → w.appliesRecs = true → (w.pair.gens.find? (fun y => y.gen = g)).elim [] GenLog.recs = rs → endsOf rs = n → recDigest rs = digest → w.pair.gen = 0 ∨ g = nextGen w.pair.gen →
    exec (.pairGenClose dt h g n digest) s = .next (({ w.setReg Reg.PAIR_GEN_DONE (w32 g) with pair := { w.pair with gens := w.pair.gens.filter (fun y => y.gen ≠ g), gen := g, joined := w.pair.copied } }).sendPlain (.ack h.seq))) ∧
  (∀ (dt : Nat) (h : LinkHdr) (v w : State) (g n digest : Nat) (rs : List DeltaRec) (s u : State), s.clock dt ([⟨.genClose, 0, 0⟩] ++ (s.advance dt).linkEvs h (fun s => s.rxSeqd h (fun s => s.genCloseRx g n digest))) = u → u.laneUp h.lane = true → u.hearLink h = v → v.takesStream = true → h.seq = v.pair.rxSeq + 1 ∨ v.pair.rxSeq = 0 → v.acceptSeq h.seq = w → w.appliesRecs = true → (w.pair.gens.find? (fun y => y.gen = g)).elim [] GenLog.recs = rs → endsOf rs ≠ n ∨ recDigest rs ≠ digest ∨ (w.pair.gen ≠ 0 ∧ g ≠ nextGen w.pair.gen) →
    exec (.pairGenClose dt h g n digest) s = .next (({ w.unready with pair := { w.unready.pair with gen := 0 } }).sendPlain (.ack h.seq))) ∧
  (∀ (dt : Nat) (h : LinkHdr) (v w : State) (g n digest : Nat) (s u : State), s.clock dt ([⟨.genClose, 0, 0⟩] ++ (s.advance dt).linkEvs h (fun s => s.rxSeqd h (fun s => s.genCloseRx g n digest))) = u → u.laneUp h.lane = true → u.hearLink h = v → v.takesStream = true → h.seq = v.pair.rxSeq + 1 ∨ v.pair.rxSeq = 0 → v.acceptSeq h.seq = w → w.appliesRecs = false →
    exec (.pairGenClose dt h g n digest) s = .next ((w).sendPlain (.ack h.seq))) ∧
  (∀ (dt : Nat) (h : LinkHdr) (v w : State) (addr : Nat) (bytes : List Byte) (rs : List DeltaRec) (s u : State), s.clock dt ([] ++ (s.advance dt).linkEvs h (fun s => s.rxSeqd h (fun s => s.resyncRx h.epoch addr bytes rs))) = u → u.laneUp h.lane = true → u.hearLink h = v → v.takesStream = true → h.seq = v.pair.rxSeq + 1 ∨ v.pair.rxSeq = 0 → v.acceptSeq h.seq = w → w.role = 3 → w.pair.joining = true → w.pair.progIn = [] → h.epoch ≤ w.epoch → inSram addr = true ∨ inLpd addr = true →
    exec (.pairResyncFrame dt h addr bytes rs) s = .next (((w.dmaWrite addr bytes).putRecs rs).sendPlain (.ack h.seq))) ∧
  (∀ (dt : Nat) (h : LinkHdr) (v w : State) (addr : Nat) (bytes : List Byte) (rs : List DeltaRec) (x : State) (s u : State), s.clock dt ([] ++ (s.advance dt).linkEvs h (fun s => s.rxSeqd h (fun s => s.resyncRx h.epoch addr bytes rs))) = u → u.laneUp h.lane = true → u.hearLink h = v → v.takesStream = true → h.seq = v.pair.rxSeq + 1 ∨ v.pair.rxSeq = 0 → v.acceptSeq h.seq = w → w.role = 3 → w.pair.joining = false ∨ w.pair.progIn ≠ [] ∨ w.epoch < h.epoch → w.beginJoin h.epoch = x → inSram addr = false → inLpd addr = false →
    exec (.pairResyncFrame dt h addr bytes rs) s = .next ((x.putRecs rs).sendPlain (.ack h.seq))) ∧
  (∀ (dt : Nat) (h : LinkHdr) (v w : State) (addr : Nat) (bytes : List Byte) (rs : List DeltaRec) (s u : State), s.clock dt ([] ++ (s.advance dt).linkEvs h (fun s => s.rxSeqd h (fun s => s.resyncRx h.epoch addr bytes rs))) = u → u.laneUp h.lane = true → u.hearLink h = v → v.takesStream = true → h.seq = v.pair.rxSeq + 1 ∨ v.pair.rxSeq = 0 → v.acceptSeq h.seq = w → w.role ≠ 3 →
    exec (.pairResyncFrame dt h addr bytes rs) s = .next ((w).sendPlain (.ack h.seq))) ∧
  (∀ (dt : Nat) (h : LinkHdr) (v w : State) (ofs : Nat) (bytes : List Byte) (s u : State), s.clock dt ([] ++ (s.advance dt).linkEvs h (fun s => s.rxSeqd h (fun s => s.programRx ofs bytes))) = u → u.laneUp h.lane = true → u.hearLink h = v → v.takesStream = true → h.seq = v.pair.rxSeq + 1 ∨ v.pair.rxSeq = 0 → v.acceptSeq h.seq = w → w.role = 3 →
    exec (.pairProgram dt h ofs bytes) s = .next (({ w with pair := { w.pair with progIn := (List.range bytes.length).foldl (fun m k => sput 0 m (ofs + k) (bytes.getD k 0)) w.pair.progIn } }).sendPlain (.ack h.seq))) ∧
  (∀ (dt : Nat) (h : LinkHdr) (v w : State) (ofs : Nat) (bytes : List Byte) (s u : State), s.clock dt ([] ++ (s.advance dt).linkEvs h (fun s => s.rxSeqd h (fun s => s.programRx ofs bytes))) = u → u.laneUp h.lane = true → u.hearLink h = v → v.takesStream = true → h.seq = v.pair.rxSeq + 1 ∨ v.pair.rxSeq = 0 → v.acceptSeq h.seq = w → w.role ≠ 3 →
    exec (.pairProgram dt h ofs bytes) s = .next ((w).sendPlain (.ack h.seq))) ∧
  (∀ (dt : Nat) (t : State) (s u : State), s.advance dt = u → u.regB Reg.PAIR_STS 1 = true → u.runs = true → (u.setRegB Reg.PAIR_STS 1 false).raiseBit 28 5 = t → t.role ≠ 3 →
    exec (.resyncCopyEnd dt) s = .next (t)) ∧
  (∀ (dt : Nat) (t : State) (s u : State), s.advance dt = u → u.regB Reg.PAIR_STS 1 = true → u.role = 3 → (u.setRegB Reg.PAIR_STS 1 false).raiseBit 28 5 = t → t.role = 3 →
    exec (.resyncCopyEnd dt) s = .next ({ t with pair := { t.pair with copied := true, joined := false, joining := false } })) ∧
  (∀ (dt : Nat) (s u : State), s.advance dt = u → u.regB Reg.PAIR_STS 1 = false →
    exec (.resyncCopyEnd dt) s = .next (u)) ∧
  (∀ (dt : Nat) (s u : State), s.advance dt = u → u.role = 3 → u.pair.copied = true → u.pair.joined = true →
    exec (.resyncReady dt) s = .next ((u.keepApp.setRegB Reg.PAIR_STS 4 false).setReady true)) ∧
  (∀ (dt : Nat) (s u : State), s.advance dt = u → u.role ≠ 3 ∨ u.pair.copied = false ∨ u.pair.joined = false →
    exec (.resyncReady dt) s = .next (u)) ∧
  (∀ (dt : Nat) (per k : Nat) (s u : State), s.advance dt = u → u.regF Reg.PAIR_GEN_CFG 16 0 * 1000 = per → u.now / per = k → 0 < per → u.runs = true → u.plm.mode = .task → k ≠ u.pair.genAt →
    exec (.genBoundary dt) s = .next ({ u with pair := { (u.pair.onGen u.pair.gen (fun g => { g with past := true })) with gen := nextGen u.pair.gen, genAt := k } })) ∧
  (∀ (dt : Nat) (s u : State), s.advance dt = u → u.plm.mode ≠ .task ∨ (u.runs = false ∧ u.role ≠ 5) ∨ u.now / (u.regF Reg.PAIR_GEN_CFG 16 0 * 1000) = u.pair.genAt →
    exec (.genBoundary dt) s = .next (u)) ∧
  (∀ (dt : Nat) (g : GenLog) (r : List GenLog) (v : State) (s u : State), s.advance dt = u → u.pair.gens = g :: r → u.runs = true → g.past = true → g.running = 0 → ({ u with pair := { u.pair with gens := (g :: r).filter (fun x => x.gen ≠ g.gen) } } : State).setReg Reg.PAIR_GEN_SENT (w32 g.gen) = v →
    exec (.genCloseSend dt) s = .next (if v.streaming then v.sendSeq 0 (.genClose g.gen g.ended (recDigest g.recs)) else v)) ∧
  (∀ (dt : Nat) (s u : State), s.advance dt = u → u.pair.gens = [] →
    exec (.genCloseSend dt) s = .next (u)) ∧
  (∀ (dt : Nat) (g : GenLog) (r : List GenLog) (s u : State), s.advance dt = u → u.pair.gens = g :: r → g.past = false ∨ g.running ≠ 0 →
    exec (.genCloseSend dt) s = .next (u))

/-- LOSS_DECLARED by a STANDBY whose partner has been silent for 600 us: READY and allowed to take over, it becomes
TAKING_OVER under the next epoch, notes L, rolls back and begins take-up; else it sets LOST_UNREADY. TAKEOVER_RESUME at
least 200 us after L goes on as ALONE; before, nothing happens. ISOLATION_TIMEOUT fences a module that runs the line and
hears nothing; PARTNER_SILENCE leaves it ALONE and ends the stream. SWAP_SEND, once the releases of a module that hands over
have ended, closes the generations and sends SWAP with H at the first whole microsecond at least 20 us away; SWAP makes a
READY standby TAKING_OVER for H; HANDOVER_H carries the hand-over out on either module. HANDOVER_TIMEOUT gives the former
role back after 20 ms. HANDOVER_OUTPUT_SWITCH at H + 100 us releases or drives the outputs. MODULE_REMOVAL fences a module
that runs the line and closes the stretch. PAIR_DATUM_TRIGGER hands over on the crossing, else keeps the position.
(12_pair_redundancy) -/
def Obligations.PairLossAndHandOver : Prop :=
  (∀ (dt : Nat) (s u : State), s.clock dt ((s.advance dt).pairEvs State.lossDeclared) = u → u.role = 3 → u.partnerSilent = true → u.pair.silent = false →
    exec (.lossDeclared dt) s = .next (u.declareLoss)) ∧
  (∀ (dt : Nat) (s u : State), s.clock dt ((s.advance dt).pairEvs State.lossDeclared) = u → u.role ≠ 3 ∨ u.partnerSilent = false ∨ u.pair.silent = true →
    exec (.lossDeclared dt) s = .next (u)) ∧
  (∀ (s v w x : State), s.role = 3 → ({ s with pair := { s.pair with silent := true } } : State).raiseBit 28 1 = v → v.regB Reg.PAIR_STS 0 = true →
    v.regB Reg.PAIR_CTL 0 = true → (v.setRole 4).setEpoch (v.epoch + 1) = w → w.setReg64 Reg.PAIR_LOSS_T_LO Reg.PAIR_LOSS_T_HI w.now = x →
    s.declareLoss = (({ x with pair := { x.pair with lossAt := some w.now } } : State).rollback.dropLoaded).setDrive 1) ∧
  (∀ (s v : State), s.role = 3 → ({ s with pair := { s.pair with silent := true } } : State).raiseBit 28 1 = v →
    v.regB Reg.PAIR_STS 0 = false ∨ v.regB Reg.PAIR_CTL 0 = false → s.declareLoss = v.setRegB Reg.PAIR_STS 4 true) ∧
  (∀ (dt : Nat) (l : Nat) (v w : State) (s u : State), s.advance dt = u → u.pair.lossAt = some l → u.role = 4 → l + 200000 ≤ u.now → (((((u.freshWork.setRole 1).setReady false).setReg Reg.PAIR_RESUME_US (w32 ((u.freshWork.now - l) / 1000))).countF Reg.PAIR_TAKEOVERS 15 0 1).tally 60 1).resumeMode = v → (v.resumeStakes l).resumeSwap = w →
    exec (.takeoverResume dt) s = .next (w.driveAll w.allOutputs)) ∧
  (∀ (dt : Nat) (l : Nat) (s u : State), s.advance dt = u → u.pair.lossAt = some l → u.now < l + 200000 ∨ u.role ≠ 4 →
    exec (.takeoverResume dt) s = .next (u)) ∧
  (∀ (dt : Nat) (s u : State), s.advance dt = u → u.pair.lossAt = none →
    exec (.takeoverResume dt) s = .next (u)) ∧
  (∀ (dt : Nat) (s u : State), s.clock dt ((s.advance dt).pairEvs State.isolation) = u → u.runs = true ∨ u.role = 5 → u.regB Reg.SYS_SLOT 1 = true → u.allSilent = true →
    exec (.isolationTimeout dt) s = .next ((u.setRegB Reg.PAIR_STS 3 true).fence 1)) ∧
  (∀ (dt : Nat) (s u : State), s.clock dt ((s.advance dt).pairEvs State.isolation) = u → u.allSilent = false ∨ u.regB Reg.SYS_SLOT 1 = false →
    exec (.isolationTimeout dt) s = .next (u)) ∧
  (∀ (dt : Nat) (v : State) (s u : State), s.advance dt = u → u.runs = true → u.partnerSilent = true → u.pair.silent = false → u.allSilent = false → ({ u with pair := { u.pair with silent := true, stream := false, window := [] } } : State).raiseBit 28 1 = v →
    exec (.partnerSilence dt) s = .next ((v.setRegB Reg.PAIR_STS 1 false).follow false)) ∧
  (∀ (dt : Nat) (s u : State), s.advance dt = u → u.partnerSilent = false →
    exec (.partnerSilence dt) s = .next (u)) ∧
  (∀ (dt : Nat) (a : HandOver) (v : State) (x evt mask : Nat) (s u : State), s.advance dt = u → u.pair.hand = some a → u.role = 5 → a.swap = none → u.running = 0 → u.closeAll = v → (v.now + 20000 + 999) / 1000 * 1000 = x → maskOf 32 (fun n => v.taskState n = 1 || v.taskState n = 3) = mask → ([0, 1, 2, 3].map (fun n => (v.port n).evtId)).foldl max 0 = evt →
    exec (.swapSend dt) s = .next ((({ v with pair := { v.pair with hand := some { a with swap := some (v.epoch + 1, x) } } } : State).setReg64 Reg.PAIR_H_LO Reg.PAIR_H_HI x).sendSeq 0 (.swap (v.epoch + 1) x mask evt))) ∧
  (∀ (dt : Nat) (s u : State), s.advance dt = u → u.pair.hand = none ∨ u.role ≠ 5 ∨ u.running ≠ 0 →
    exec (.swapSend dt) s = .next (u)) ∧
  (∀ (dt : Nat) (h : LinkHdr) (v w : State) (e x mask evt : Nat) (s u : State), s.clock dt ([⟨.swapIn, 0, 0⟩] ++ (s.advance dt).linkEvs h (fun s => s.rxSeqd h (fun s => s.swapRx e x mask evt))) = u → u.laneUp h.lane = true → u.hearLink h = v → v.takesStream = true → h.seq = v.pair.rxSeq + 1 ∨ v.pair.rxSeq = 0 → v.acceptSeq h.seq = w → w.role = 3 → w.regB Reg.PAIR_STS 0 = true →
    exec (.pairSwap dt h e x mask evt) s = .next (((((({ w with pair := { w.pair with swapIn := some (e, x, mask, evt) } } : State).setReg64 Reg.PAIR_H_LO Reg.PAIR_H_HI x).setRegF Reg.PAIR_ROLE 6 4 5).setRole 4)).sendPlain (.ack h.seq))) ∧
  (∀ (dt : Nat) (h : LinkHdr) (v w : State) (e x mask evt : Nat) (s u : State), s.clock dt ([⟨.swapIn, 0, 0⟩] ++ (s.advance dt).linkEvs h (fun s => s.rxSeqd h (fun s => s.swapRx e x mask evt))) = u → u.laneUp h.lane = true → u.hearLink h = v → v.takesStream = true → h.seq = v.pair.rxSeq + 1 ∨ v.pair.rxSeq = 0 → v.acceptSeq h.seq = w → w.role ≠ 3 →
    exec (.pairSwap dt h e x mask evt) s = .next ((w).sendPlain (.ack h.seq))) ∧
  (∀ (dt : Nat) (a : HandOver) (e x : Nat) (s u : State), s.clock dt (([⟨.handoverH, 0, 0⟩] ++ (s.advance dt).pairEvs State.handoverH)) = u → u.pair.hand = some a → a.swap = some (e, x) → u.role = 5 → x ≤ u.now →
    exec (.handoverH dt) s = .next (u.handedOver a e x)) ∧
  (∀ (dt : Nat) (e x mask evt : Nat) (s u : State), s.clock dt (([⟨.handoverH, 0, 0⟩] ++ (s.advance dt).pairEvs State.handoverH)) = u → u.pair.hand = none → u.pair.swapIn = some (e, x, mask, evt) → u.role = 4 → x ≤ u.now →
    exec (.handoverH dt) s = .next (u.tookOver e x mask evt)) ∧
  (∀ (dt : Nat) (s u : State), s.clock dt (([⟨.handoverH, 0, 0⟩] ++ (s.advance dt).pairEvs State.handoverH)) = u → u.pair.hand = none → u.pair.swapIn = none →
    exec (.handoverH dt) s = .next (u)) ∧
  (∀ (dt : Nat) (a : HandOver) (n : Nat) (s u : State), s.advance dt = u → u.pair.hand = some a → a.swap = none → u.role = 5 → u.running ≠ 0 → a.at_ + 20000000 ≤ u.now → a.slot = some n → a.kind ≠ .activation →
    exec (.handoverTimeout dt) s = .next ((({ u with pair := { u.pair with hand := none } } : State).setRole a.former).finishErr n stCancelled)) ∧
  (∀ (dt : Nat) (a : HandOver) (s u : State), s.advance dt = u → u.pair.hand = some a → u.now < a.at_ + 20000000 →
    exec (.handoverTimeout dt) s = .next (u)) ∧
  (∀ (dt : Nat) (x : Nat) (s u : State), s.advance dt = u → u.pair.outputsAt = some (x, false) → x + 100000 ≤ u.now →
    exec (.handoverOutputSwitch dt) s = .next (({ u with pair := { u.pair with outputsAt := none, outsAtH := [] } } : State).releaseOutputs)) ∧
  (∀ (dt : Nat) (x : Nat) (s u : State), s.advance dt = u → u.pair.outputsAt = some (x, true) → x + 100000 ≤ u.now → u.runs = true →
    exec (.handoverOutputSwitch dt) s = .next (({ u with pair := { u.pair with outputsAt := none, outsAtH := [] } } : State).driveAll u.pair.outsAtH)) ∧
  (∀ (dt : Nat) (x : Nat) (b : Bool) (s u : State), s.advance dt = u → u.pair.outputsAt = some (x, b) → u.now < x + 100000 →
    exec (.handoverOutputSwitch dt) s = .next (u)) ∧
  (∀ (dt : Nat) (s u : State), s.clock dt (([⟨.present, 0, 0⟩] ++ (s.advance dt).pairEvs State.removal)) = u → u.isOn = true → u.runs = true ∨ u.role = 5 →
    exec (.moduleRemoval dt) s = .next ((u.fence 4).closeStretch 3)) ∧
  (∀ (dt : Nat) (s u : State), s.clock dt (([⟨.present, 0, 0⟩] ++ (s.advance dt).pairEvs State.removal)) = u → u.isOn = true → u.runs = false → u.role ≠ 5 →
    exec (.moduleRemoval dt) s = .next ((u.sendSeq 0 (.role u.role 4)).closeStretch 3)) ∧
  (∀ (dt : Nat) (d pos t0 : Nat) (down : Bool) (last : Int) (a : ArmedHand) (s u : State), s.clock dt (((s.advance dt).triggerEvs (fun s => s.pairDatum d))) = u → u.pair.arm = some a → a.trig = .datum d pos down last t0 → u.crossedAt d pos down last t0 = none →
    exec (.pairDatumTrigger dt d) s = .next ({ u with pair := { u.pair with arm := some { a with trig := .datum d pos down (u.watch d).1 (u.watch d).2 } } })) ∧
  (∀ (dt : Nat) (d pos t0 x : Nat) (down : Bool) (last : Int) (a : ArmedHand) (v : State) (s u : State), s.clock dt (((s.advance dt).triggerEvs (fun s => s.pairDatum d))) = u → u.pair.arm = some a → a.trig = .datum d pos down last t0 → u.crossedAt d pos down last t0 = some x → u.ahead (State.clocksTo 2 8 (x * 2 ^ 32) u) = v → v.pair.arm = some a → v.runs = true → v.regB Reg.PAIR_STS 0 = true → a.kind ≠ .exchange →
    exec (.pairDatumTrigger dt d) s = .next (v.startHand a.kind (some a.slot))) ∧
  (∀ (dt : Nat) (d pos t0 x : Nat) (down : Bool) (last : Int) (a : ArmedHand) (v : State) (s u : State), s.clock dt (((s.advance dt).triggerEvs (fun s => s.pairDatum d))) = u → u.pair.arm = some a → a.trig = .datum d pos down last t0 → u.crossedAt d pos down last t0 = some x → u.ahead (State.clocksTo 2 8 (x * 2 ^ 32) u) = v → v.pair.arm = some a → v.runs = true → v.regB Reg.PAIR_STS 0 = false → a.kind ≠ .exchange →
    exec (.pairDatumTrigger dt d) s = .next ((({ v with pair := { v.pair with arm := none } } : State).setRegB Reg.PAIR_STS 7 false).finishErr a.slot stState)) ∧
  (∀ (dt : Nat) (d : Nat) (s u : State), s.clock dt (((s.advance dt).triggerEvs (fun s => s.pairDatum d))) = u → u.pair.arm = none →
    exec (.pairDatumTrigger dt d) s = .next (u))

/-- IO_INSTANT of a powered group at a new multiple of IO_PERIOD takes up new modes and revivals and the measured values,
and on a module that dispatches keeps the output values of the channels that may stand and the inputs of every channel; at
the same instant again, or with no period, nothing happens. INPUT_WRITE writes the inputs 60 us after the instant;
OUTPUT_APPLY applies the outputs to a group that drives from 99 us on; before, each does nothing. CONVERSION_DONE writes the
measured values of a triggered group when conversion and transfer have passed. DI_LEVEL_CHANGE stores the filtered level;
RECONFIG_DONE ends a reconfiguration. FAST_INPUT_EDGE stores the level, its I bit and the edge with its time in the queue,
or counts the edge where 64 wait; FI_EV_POP drops the head. A write of an input puts the bit or the word into the image.
(13_universal_channels) -/
def Obligations.ChannelInstants : Prop :=
  (∀ (dt : Nat) (g per at_ : Nat) (vals : List (Nat × Int)) (w : State) (s u : State), s.clock dt [⟨.ioInstant, g, 0⟩] = u → u.ioPeriod g = per → 0 < per → u.now / per * per = at_ → u.hasChan (16 * g) = true → (u.grp g).lastIo ≠ at_ → ((u.atInstant g at_).revived g).chMeasured g at_ vals = w → w.dispatches = true →
    exec (.ioInstant dt g vals) s = .next (w.modGrp g (fun x => { x with outs := x.outs ++ [(at_, (w.readOutputs g).filter (fun o => w.mayStand o.1))], ins := x.ins ++ [(at_, (grpChans g).flatMap w.chanIns)] }))) ∧
  (∀ (dt : Nat) (g per at_ : Nat) (vals : List (Nat × Int)) (w : State) (s u : State), s.clock dt [⟨.ioInstant, g, 0⟩] = u → u.ioPeriod g = per → 0 < per → u.now / per * per = at_ → u.hasChan (16 * g) = true → (u.grp g).lastIo ≠ at_ → ((u.atInstant g at_).revived g).chMeasured g at_ vals = w → w.dispatches = false →
    exec (.ioInstant dt g vals) s = .next (w)) ∧
  (∀ (dt : Nat) (g : Nat) (vals : List (Nat × Int)) (s u : State), s.clock dt [⟨.ioInstant, g, 0⟩] = u → u.ioPeriod g = 0 ∨ u.hasChan (16 * g) = false ∨ (u.grp g).lastIo = u.now / u.ioPeriod g * u.ioPeriod g →
    exec (.ioInstant dt g vals) s = .next (u)) ∧
  (∀ (dt : Nat) (g at_ : Nat) (xs : List (Nat × Nat × Word)) (r : List (Nat × List (Nat × Nat × Word))) (v : State) (s u : State), s.advance dt = u → (u.grp g).ins = (at_, xs) :: r → at_ + 60000 ≤ u.now → u.modGrp g (fun x => { x with ins := r }) = v →
    exec (.inputWrite dt g) s = .next (if v.dispatches && v.domainOn 9 then xs.foldl State.writeIn v else v)) ∧
  (∀ (dt : Nat) (g at_ : Nat) (xs : List (Nat × Nat × Word)) (r : List (Nat × List (Nat × Nat × Word))) (s u : State), s.advance dt = u → (u.grp g).ins = (at_, xs) :: r → u.now < at_ + 60000 →
    exec (.inputWrite dt g) s = .next (u)) ∧
  (∀ (dt : Nat) (g : Nat) (s u : State), s.advance dt = u → (u.grp g).ins = [] →
    exec (.inputWrite dt g) s = .next (u)) ∧
  (∀ (s : State) (a : Nat) (v : Word), s.writeIn (1, a, v) = (s.setImgBit 1 a (v.bit 0)).touchInput 1 (a / 32) ∧ s.writeIn (8, a, v) = (s.setImgW 8 0 a v).touchInput 8 a) ∧
  (∀ (dt : Nat) (g at_ : Nat) (xs : List (Nat × Word)) (r : List (Nat × List (Nat × Word))) (v : State) (s u : State), s.clock dt [⟨.outApply, g, 0⟩] = u → (u.grp g).outs = (at_, xs) :: r → at_ + 99000 ≤ u.now → u.modGrp g (fun x => { x with outs := r }) = v →
    exec (.outputApply dt g) s = .next (if v.domainOn 9 && decide (v.drive g = 2) then v.applyOutputs g xs else v)) ∧
  (∀ (dt : Nat) (g at_ : Nat) (xs : List (Nat × Word)) (r : List (Nat × List (Nat × Word))) (s u : State), s.clock dt [⟨.outApply, g, 0⟩] = u → (u.grp g).outs = (at_, xs) :: r → u.now < at_ + 99000 →
    exec (.outputApply dt g) s = .next (u)) ∧
  (∀ (dt : Nat) (g : Nat) (s u : State), s.clock dt [⟨.outApply, g, 0⟩] = u → (u.grp g).outs = [] →
    exec (.outputApply dt g) s = .next (u)) ∧
  (∀ (s : State) (n : Nat) (w c : Word), s.mayStand n = true → s.ctlRuns n = true → s.outCmd n w = (c, false) →
    s.takeUp n w = (s.setRegB (Reg.CH_STS n) 10 false).modChan n (fun x =>
      { x with on := true, cmd := c, held := c, changed := if x.on && x.cmd = c then x.changed else s.sclk })) ∧
  (∀ (s : State) (n : Nat) (w : Word), s.mayStand n = false → s.takeUp n w = s) ∧
  (∀ (s : State) (n : Nat) (w : Word), (s.chMode n = 3 → s.outCmd n w = (w &&& 1, false)) ∧
    (s.chMode n ≠ 3 → w ≠ 0x80000000 → s.live420 n = true → s.outCmd n w = (valueWord (clampInt 3800000 20500000 w.toInt), false)) ∧
    (s.chMode n ≠ 3 → w ≠ 0x80000000 → s.live420 n = false → s.outCmd n w = (valueWord (clampInt 0 21500000 w.toInt), false)) ∧
    (s.chMode n ≠ 3 → w = 0x80000000 → s.outCmd n w = (s.alarmNa n, true))) ∧
  (∀ (dt : Nat) (g e due : Nat) (vals : List (Nat × Int)) (s u : State), s.advance dt = u → (u.grp g).conv.getLast? = some (e, due) → u.now < due →
    exec (.conversionDone dt g vals) s = .next (u)) ∧
  (∀ (dt : Nat) (g e due : Nat) (vals : List (Nat × Int)) (v w : State) (s u : State), s.advance dt = u → (u.grp g).conv.getLast? = some (e, due) → due ≤ u.now → u.modGrp g (fun x => { x with conv := x.conv.dropLast }) = v → v.hasChan (16 * g) = true → v.chMeasured g e (vals.filter (fun x => decide (v.chMode x.1 = 4) || decide (v.chMode x.1 = 5))) = w → w.dispatches = true →
    exec (.conversionDone dt g vals) s = .next ((((grpChans g).filter (fun n => (decide (v.chMode n = 4) || decide (v.chMode n = 5)) && w.ctlRuns n && ((w.chan n).retired || (!w.notYet n && !(w.chan n).test)))).flatMap w.wordIn).foldl State.writeIn w)) ∧
  (∀ (dt : Nat) (g : Nat) (vals : List (Nat × Int)) (s u : State), s.advance dt = u → (u.grp g).conv = [] →
    exec (.conversionDone dt g vals) s = .next (u)) ∧
  (∀ (dt : Nat) (n : Nat) (b : Bool) (s u : State), s.advance dt = u → u.hasChan n = true → u.ctlRuns n = true → u.chMode n = 1 ∨ u.chMode n = 2 →
    exec (.diLevelChange dt n b) s = .next (u.modChan n (fun c => { c with level := b }))) ∧
  (∀ (dt : Nat) (n : Nat) (b : Bool) (s u : State), s.advance dt = u → u.ctlRuns n = false →
    exec (.diLevelChange dt n b) s = .next (u)) ∧
  (∀ (dt : Nat) (n : Nat) (s u : State), s.advance dt = u → (u.chan n).reconf = true →
    exec (.reconfigDone dt n) s = .next (u.modChan n (fun c => { c with reconf := false, fresh := some u.sclk, changed := u.sclk }))) ∧
  (∀ (dt : Nat) (n : Nat) (s u : State), s.advance dt = u → (u.chan n).reconf = false →
    exec (.reconfigDone dt n) s = .next (u)) ∧
  (∀ (dt : Nat) (k back : Nat) (b : Bool) (v w : State) (s u : State), s.clock dt [⟨.fiEdge, k, 0⟩] = u → k < 8 → u.domainOn 9 = true → (u.fi k).level ≠ b → u.setFi k { u.fi k with level := b, hist := ((u.now - back, b) :: (u.fi k).hist).take 16, goneUp := (((u.fi k).hist[15]?).filter (fun x => x.2)).elim (u.fi k).goneUp (fun x => x.1), goneDown := (((u.fi k).hist[15]?).filter (fun x => !x.2)).elim (u.fi k).goneDown (fun x => x.1) } = v → (if (u.fiCfg k).bit 15 && v.dispatches then v.writeIn (1, (u.fiCfg k).fld 14 0, w32 (ofBool b)) else v) = w → (u.fiCfg k).bit 23 = false →
    exec (.fastInputEdge dt k back b) s = .next (w)) ∧
  (∀ (dt : Nat) (k back : Nat) (b : Bool) (v w : State) (s u : State), s.clock dt [⟨.fiEdge, k, 0⟩] = u → k < 8 → u.domainOn 9 = true → (u.fi k).level ≠ b → u.setFi k { u.fi k with level := b, hist := ((u.now - back, b) :: (u.fi k).hist).take 16, goneUp := (((u.fi k).hist[15]?).filter (fun x => x.2)).elim (u.fi k).goneUp (fun x => x.1), goneDown := (((u.fi k).hist[15]?).filter (fun x => !x.2)).elim (u.fi k).goneDown (fun x => x.1) } = v → (if (u.fiCfg k).bit 15 && v.dispatches then v.writeIn (1, (u.fiCfg k).fld 14 0, w32 (ofBool b)) else v) = w → (u.fiCfg k).bit 23 = true → (u.fi k).queue.length < 64 → (u.fi k).queue ≠ [] →
    exec (.fastInputEdge dt k back b) s = .next (w.setFi k { w.fi k with queue := (u.fi k).queue ++ [(u.now - back, b)] })) ∧
  (∀ (dt : Nat) (k back : Nat) (b : Bool) (v w : State) (s u : State), s.clock dt [⟨.fiEdge, k, 0⟩] = u → k < 8 → u.domainOn 9 = true → (u.fi k).level ≠ b → u.setFi k { u.fi k with level := b, hist := ((u.now - back, b) :: (u.fi k).hist).take 16, goneUp := (((u.fi k).hist[15]?).filter (fun x => x.2)).elim (u.fi k).goneUp (fun x => x.1), goneDown := (((u.fi k).hist[15]?).filter (fun x => !x.2)).elim (u.fi k).goneDown (fun x => x.1) } = v → (if (u.fiCfg k).bit 15 && v.dispatches then v.writeIn (1, (u.fiCfg k).fld 14 0, w32 (ofBool b)) else v) = w → (u.fiCfg k).bit 23 = true → (u.fi k).queue = [] →
    exec (.fastInputEdge dt k back b) s = .next ((w.setFi k { w.fi k with queue := [(u.now - back, b)] }).raiseBit 29 8)) ∧
  (∀ (dt : Nat) (k back : Nat) (b : Bool) (v w : State) (s u : State), s.clock dt [⟨.fiEdge, k, 0⟩] = u → k < 8 → u.domainOn 9 = true → (u.fi k).level ≠ b → u.setFi k { u.fi k with level := b, hist := ((u.now - back, b) :: (u.fi k).hist).take 16, goneUp := (((u.fi k).hist[15]?).filter (fun x => x.2)).elim (u.fi k).goneUp (fun x => x.1), goneDown := (((u.fi k).hist[15]?).filter (fun x => !x.2)).elim (u.fi k).goneDown (fun x => x.1) } = v → (if (u.fiCfg k).bit 15 && v.dispatches then v.writeIn (1, (u.fiCfg k).fld 14 0, w32 (ofBool b)) else v) = w → (u.fiCfg k).bit 23 = true → 64 ≤ (u.fi k).queue.length →
    exec (.fastInputEdge dt k back b) s = .next ((w.count (Reg.FIk_EV_DROP k)).raiseBit 29 9)) ∧
  (∀ (dt : Nat) (k back : Nat) (b : Bool) (s u : State), s.clock dt [⟨.fiEdge, k, 0⟩] = u → (u.fi k).level = b ∨ 8 ≤ k ∨ u.domainOn 9 = false →
    exec (.fastInputEdge dt k back b) s = .next (u)) ∧
  (∀ (dt m : Nat) (k : Nat) (s u : State), s.toWrite dt m (Reg.FIk_EV_POP k) 1 = u → k < 8 → u.opens m true (Reg.FIk_EV_POP k) = true →
    exec (.fiEvPop dt m k 1) s = .next (u.setFi k { u.fi k with queue := (u.fi k).queue.tail })) ∧
  (∀ (dt m : Nat) (k : Nat) (s u : State), s.toWrite dt m (Reg.FIk_EV_POP k) 0 = u → k < 8 → u.opens m true (Reg.FIk_EV_POP k) = true →
    exec (.fiEvPop dt m k 0) s = .next (u))

/-- CHANNEL_DIAGNOSTIC sets a flag that may run and clears it; CHANNEL_TRIP of a channel that can trip switches its stage
off, counts the trip and sets its retry 100 ms later, 10 s later from the fourth trip of a sequence on, and the fifth within
60 s retires the channel; a loop supply that trips while its group is not NORMAL is off until its retry and not counted.
TRIP_RETRY at its time takes the stage up again; TRIP_SEQUENCE_END clears a sequence that has ended. VFLD_LOW stores the
sample; SUPPLY_LOST below 16.0 V takes the group off, counts the sag and tells it; SUPPLY_RECOVERY above 18.0 V goes to
NORMAL, or to WAIT_ACK where the group asks for it, which RESTORE_ACK ends. OUT_EN stores the enables, and every stage that
may not stand any more goes off. BARRIER_LINK_SILENCE of a controller takes its DO stages off. BENCHMARK stores the
deviation and its flag. FO_FAULT stops a driven fast output, FO_RETRY lets it drive again after 100 ms. CONTROLLER_RESTART
marks the controller. (13_universal_channels) -/
def Obligations.ChannelFaults : Prop :=
  (∀ (dt : Nat) (n f : Nat) (temp : Int) (v : State) (s u : State), s.advance dt = u → u.hasChan n = true → u.ctlRuns n = true → u.ctlTemp n temp = v → v.chMode n ≠ 0 → v.notYet n = false → v.diagRuns n f = true → f ≠ 5 ∨ (v.setFlag n f true).chMode n ≠ 7 →
    exec (.channelDiagnostic dt n f true temp) s = .next (v.setFlag n f true)) ∧
  (∀ (dt : Nat) (n : Nat) (temp : Int) (v : State) (s u : State), s.advance dt = u → u.hasChan n = true → u.ctlRuns n = true → u.ctlTemp n temp = v → v.chMode n ≠ 0 → v.notYet n = false → v.diagRuns n 5 = true → (v.setFlag n 5 true).chMode n = 7 →
    exec (.channelDiagnostic dt n 5 true temp) s = .next ((v.setFlag n 5 true).setFlag n 6 true)) ∧
  (∀ (dt : Nat) (n f : Nat) (temp : Int) (v : State) (s u : State), s.advance dt = u → u.hasChan n = true → u.ctlRuns n = true → u.ctlTemp n temp = v → v.chMode n ≠ 0 → v.notYet n = false → v.diagClears n f = true →
    exec (.channelDiagnostic dt n f false temp) s = .next (v.setFlag n f false)) ∧
  (∀ (dt : Nat) (n f : Nat) (on : Bool) (temp : Int) (v : State) (s u : State), s.advance dt = u → u.hasChan n = true → u.ctlRuns n = true → u.ctlTemp n temp = v → v.chMode n = 0 ∨ v.notYet n = true ∨ (on = true ∧ v.diagRuns n f = false) ∨ (on = false ∧ v.diagClears n f = false) →
    exec (.channelDiagnostic dt n f on temp) s = .next (v)) ∧
  (∀ (dt : Nat) (n f : Nat) (on : Bool) (temp : Int) (s u : State), s.advance dt = u → u.hasChan n = false ∨ u.ctlRuns n = false →
    exec (.channelDiagnostic dt n f on temp) s = .next (u)) ∧
  (∀ (dt : Nat) (n : Nat) (hot : Bool) (v : State) (s u : State), s.clock dt [⟨.channelTrip, grpOf n, n⟩] = u → u.canTrip n = true → u.supply (grpOf n) = 1 → (u.tripWindow n).length < 4 → ((((u.setFlag n (if hot then 4 else 3) true).chEvt n 0).countF (Reg.CH_TRIPS n) 31 16 1).tally 64 1).stageOff n = v →
    exec (.channelTrip dt n hot) s = .next (v.modChan n (fun c => { c with trips := u.sclk :: u.tripWindow n, seq := u.tripSeq n + 1, retry := some (v.sclk + (if u.tripSeq n + 1 ≤ 3 then 100 * msClk else 10000 * msClk)), hot := hot, test := false }))) ∧
  (∀ (dt : Nat) (n : Nat) (hot : Bool) (v : State) (s u : State), s.clock dt [⟨.channelTrip, grpOf n, n⟩] = u → u.canTrip n = true → u.supply (grpOf n) = 1 → 4 ≤ (u.tripWindow n).length → ((((u.setFlag n (if hot then 4 else 3) true).chEvt n 0).countF (Reg.CH_TRIPS n) 31 16 1).tally 64 1).stageOff n = v →
    exec (.channelTrip dt n hot) s = .next (((v.modChan n (fun c => { c with trips := u.sclk :: u.tripWindow n, seq := u.tripSeq n + 1, retired := true, retry := none, hot := false, test := false })).noteRetired (.channel n)).chEvt n 1)) ∧
  (∀ (dt : Nat) (n : Nat) (hot : Bool) (v : State) (s u : State), s.clock dt [⟨.channelTrip, grpOf n, n⟩] = u → u.canTrip n = true → u.supply (grpOf n) ≠ 1 → ((u.setFlag n (if hot then 4 else 3) true).chEvt n 0).stageOff n = v →
    exec (.channelTrip dt n hot) s = .next (v.modChan n (fun c => { c with retry := some (v.sclk + (if u.tripSeq n + 1 ≤ 3 then 100 * msClk else 10000 * msClk)), hot := hot, test := false }))) ∧
  (∀ (dt : Nat) (n : Nat) (hot : Bool) (s u : State), s.clock dt [⟨.channelTrip, grpOf n, n⟩] = u → u.canTrip n = false →
    exec (.channelTrip dt n hot) s = .next (u)) ∧
  (∀ (dt : Nat) (n at_ : Nat) (v : State) (s u : State), s.clock dt [⟨.tripRetry, n, 0⟩] = u → (u.chan n).retry = some at_ → at_ ≤ u.sclk → u.domainOn 9 = true → u.modChan n (fun c => { c with retry := none, hot := false, changed := u.sclk }) = v →
    exec (.tripRetry dt n true) s = .next (if v.mayStand n then v.modChan n (fun c => { c with on := true }) else v)) ∧
  (∀ (dt : Nat) (n at_ : Nat) (cool : Bool) (s u : State), s.clock dt [⟨.tripRetry, n, 0⟩] = u → (u.chan n).retry = some at_ → u.sclk < at_ →
    exec (.tripRetry dt n cool) s = .next (u)) ∧
  (∀ (dt : Nat) (n at_ : Nat) (s u : State), s.clock dt [⟨.tripRetry, n, 0⟩] = u → (u.chan n).retry = some at_ → (u.chan n).hot = true →
    exec (.tripRetry dt n false) s = .next (u)) ∧
  (∀ (dt : Nat) (n : Nat) (s u : State), s.advance dt = u → u.tripSeq n = 0 →
    exec (.tripSequenceEnd dt n) s = .next (u.modChan n (fun c => { c with seq := 0, trips := [] }))) ∧
  (∀ (dt : Nat) (n : Nat) (s u : State), s.advance dt = u → u.tripSeq n ≠ 0 →
    exec (.tripSequenceEnd dt n) s = .next (u)) ∧
  (∀ (dt : Nat) (g mv : Nat) (s u : State), s.advance dt = u → u.hasChan (16 * g) = true →
    exec (.vfldLow dt g mv) s = .next (u.vfld g mv)) ∧
  (∀ (s v : State) (g mv : Nat), (((s.setRegF (Reg.GRP_VFLD g) 15 0 (min 65535 mv)).extreme (24 + 4 * g) (min 65535 mv : Nat)).modGrp g (fun x =>
      { x with lowAt := if mv ≤ 18000 then some s.sclk else x.lowAt, okAt := if 16000 ≤ mv then some s.sclk else x.okAt })) = v →
    v.regF (Reg.GRP_VFLD_MIN g) 15 0 ≤ mv → mv ≤ v.regF (Reg.GRP_VFLD_MAX g) 15 0 → (mv < 19200 → v.regB (Reg.GRP_STS g) 2 = false →
      s.vfld g mv = (v.setRegB (Reg.GRP_STS g) 2 true).raiseBit (29 + g) 1) ∧ (19600 < mv → s.vfld g mv = v.setRegB (Reg.GRP_STS g) 2 false) ∧
      (19200 ≤ mv → mv ≤ 19600 → s.vfld g mv = v)) ∧
  (∀ (dt : Nat) (g mv : Nat) (v : State) (s u : State), s.clock dt [⟨.supplyLost, g, 0⟩] = u → u.hasChan (16 * g) = true → u.vfld g mv = v → mv < 16000 → v.nthSample 22 (v.grp g).okAt = true → v.supply g = 1 ∨ v.supply g = 3 →
    exec (.supplyLost dt g mv) s = .next ((((v.setSupply g 2).countF (Reg.GRP_SAG_CNT g) 15 0 1).tally 66 1).raiseBit (29 + g) 2)) ∧
  (∀ (dt : Nat) (g mv : Nat) (v : State) (s u : State), s.clock dt [⟨.supplyLost, g, 0⟩] = u → u.hasChan (16 * g) = true → u.vfld g mv = v → 16000 ≤ mv ∨ v.nthSample 22 (v.grp g).okAt = false ∨ v.supply g = 0 ∨ v.supply g = 2 →
    exec (.supplyLost dt g mv) s = .next (v)) ∧
  (∀ (dt : Nat) (g mv : Nat) (v : State) (s u : State), s.advance dt = u → u.hasChan (16 * g) = true → u.vfld g mv = v → 18000 < mv → v.nthSample 101 (v.grp g).lowAt = true → v.supply g = 2 →
    exec (.supplyRecovery dt g mv) s = .next ((v.setSupply g (if (v.grpW g 0).bit 0 then 3 else 1)).raiseBit (29 + g) 3)) ∧
  (∀ (dt : Nat) (g mv : Nat) (v : State) (s u : State), s.advance dt = u → u.hasChan (16 * g) = true → u.vfld g mv = v → 18000 < mv → v.nthSample 101 (v.grp g).lowAt = true → v.supply g = 0 →
    exec (.supplyRecovery dt g mv) s = .next (v.setSupply g 1)) ∧
  (∀ (dt : Nat) (g mv : Nat) (v : State) (s u : State), s.advance dt = u → u.hasChan (16 * g) = true → u.vfld g mv = v → mv ≤ 18000 ∨ v.nthSample 101 (v.grp g).lowAt = false ∨ v.supply g = 1 ∨ v.supply g = 3 →
    exec (.supplyRecovery dt g mv) s = .next (v)) ∧
  (∀ (dt m : Nat) (g : Nat) (s u : State), s.toWrite dt m (Reg.GRP_ACK g) 1 = u → g < 2 → u.opens m true (Reg.GRP_ACK g) = true → u.supply g = 3 →
    exec (.restoreAck dt m g 1) s = .next (u.setSupply g 1)) ∧
  (∀ (dt m : Nat) (g : Nat) (s u : State), s.toWrite dt m (Reg.GRP_ACK g) 1 = u → g < 2 → u.opens m true (Reg.GRP_ACK g) = true → u.supply g ≠ 3 →
    exec (.restoreAck dt m g 1) s = .next (u)) ∧
  (∀ (dt m : Nat) (g : Nat) (s u : State), s.toWrite dt m (Reg.GRP_CTL g) 1 = u → g < 2 → u.opens m true (Reg.GRP_CTL g) = true →
    exec (.outEn dt m g 1) s = .next (u.grpEnables g 1 (u.reg (Reg.GRP_CHEN g)).toNat)) ∧
  (∀ (dt m : Nat) (g : Nat) (s u : State), s.toWrite dt m (Reg.GRP_CTL g) 0 = u → g < 2 → u.opens m true (Reg.GRP_CTL g) = true →
    exec (.outEn dt m g 0) s = .next (u.grpEnables g 0 (u.reg (Reg.GRP_CHEN g)).toNat)) ∧
  (∀ (s : State) (g ctl chen : Nat), (∀ n ∈ grpChans g, (s.chan n).on = false) →
    s.grpEnables g ctl chen = ((s.setReg (Reg.GRP_CTL g) (w32 (ctl % 2))).setReg (Reg.GRP_CHEN g) (w32 (chen % 2 ^ 16))).dropOuts g) ∧
  (∀ (s : State) (g chen n : Nat), g < 2 → n ∈ grpChans g → ((s.grpEnables g 0 chen).chan n).on = false) ∧
  (∀ (dt : Nat) (c : Nat) (s u : State), s.advance dt = u → u.hasChan (2 * c) = false → u.hasChan (2 * c + 1) = false →
    exec (.barrierLinkSilence dt c) s = .next (u)) ∧
  (∀ (dt : Nat) (c : Nat) (s u : State), s.advance dt = u → u.hasChan (2 * c) = true → u.hasChan (2 * c + 1) = true → (u.chW (2 * c) 0).bit 8 = false → (u.chW (2 * c + 1) 0).bit 8 = false → u.chMode (2 * c) = 3 → u.chMode (2 * c + 1) = 3 →
    exec (.barrierLinkSilence dt c) s = .next ((u.stageOff (2 * c)).stageOff (2 * c + 1))) ∧
  (∀ (dt : Nat) (n : Nat) (dev : Int) (v : State) (s u : State), s.clock dt [⟨.benchmark, n, 0⟩] = u → u.hasChan n = true → u.chMode n ≠ 0 → u.notYet n = false → u.ctlRuns n = true → (u.chan n).test = false → u.triggered (grpOf n) = false ∨ u.converting (grpOf n) = false → (u.setRegF (Reg.CH_BENCH n) 15 0 (pattern 16 dev)).setFlag n 14 false = v →
    exec (.benchmark dt n dev false) s = .next ((v.modChan n (fun c => { c with bench := some v.now })).setFlag n 13 (decide (dev < -500) || decide (500 < dev)))) ∧
  (∀ (dt : Nat) (n : Nat) (dev : Int) (s u : State), s.clock dt [⟨.benchmark, n, 0⟩] = u → u.hasChan n = true → u.chMode n ≠ 0 → u.notYet n = false → u.ctlRuns n = true → (u.chan n).test = false →
    exec (.benchmark dt n dev true) s = .next (if u.triggered (grpOf n) then u.setFlag n 14 true else u)) ∧
  (∀ (dt : Nat) (n : Nat) (dev : Int) (s u : State), s.clock dt [⟨.benchmark, n, 0⟩] = u → u.triggered (grpOf n) = true → u.converting (grpOf n) = true →
    exec (.benchmark dt n dev false) s = .next (u)) ∧
  (∀ (dt : Nat) (n : Nat) (dev : Int) (b : Bool) (s u : State), s.clock dt [⟨.benchmark, n, 0⟩] = u → u.chMode n = 0 ∨ u.notYet n = true ∨ u.ctlRuns n = false ∨ (u.chan n).test = true →
    exec (.benchmark dt n dev b) s = .next (u)) ∧
  (∀ (dt : Nat) (k : Nat) (s u : State), s.advance dt = u → k < 8 → u.domainOn 9 = true → u.foDrives k = true →
    exec (.foFault dt k) s = .next ((({ u with fos := smod {} u.fos k (fun x => { x with fault := some u.sclk }) } : State).count Reg.FIO_FO_TRIPS).raiseBit 29 10)) ∧
  (∀ (dt : Nat) (k : Nat) (s u : State), s.advance dt = u → u.foDrives k = false →
    exec (.foFault dt k) s = .next (u)) ∧
  (∀ (dt : Nat) (k at_ : Nat) (s u : State), s.advance dt = u → (u.fo k).fault = some at_ → at_ + 100 * msClk ≤ u.sclk →
    exec (.foRetry dt k) s = .next ({ u with fos := smod {} u.fos k (fun x => { x with fault := none }) })) ∧
  (∀ (dt : Nat) (k at_ : Nat) (s u : State), s.advance dt = u → (u.fo k).fault = some at_ → u.sclk < at_ + 100 * msClk →
    exec (.foRetry dt k) s = .next (u)) ∧
  (∀ (dt : Nat) (c : Nat) (s u : State), s.advance dt = u → u.hasCtl c = true → u.domainOn 9 = true → (u.regF (Reg.CHN_CCc c) 18 16 = 1 ∨ u.regF (Reg.CHN_CCc c) 18 16 = 2) →
    exec (.controllerRestart dt c 0) s = .next (u.chainChange (fun s => s.setRegF (Reg.CHN_CCc c) 18 16 3))) ∧
  (∀ (dt : Nat) (c : Nat) (s u : State), s.advance dt = u → u.hasCtl c = true → u.domainOn 9 = true → u.regF (Reg.CHN_CCc c) 18 16 = 3 →
    exec (.controllerRestart dt c 1) s = .next (u.silence c)) ∧
  (∀ (dt : Nat) (c : Nat) (s u : State), s.advance dt = u → u.hasCtl c = true → u.domainOn 9 = true → u.regF (Reg.CHN_CCc c) 18 16 = 3 →
    exec (.controllerRestart dt c 2) s = .next (u.chainChange (fun s => s.setRegF (Reg.CHN_CCc c) 18 16 1)))

/-- CAN_MODE_WRITE stores the register; a new mode takes effect at the next bit boundary, which in OFF stops the controller
and clears its counters and out of OFF makes it integrate. MODE = 0x3 leaves the unit in a state that nothing fixes (log
78). CAN_SYNC sets SYNC in a mode that is not OFF. CAN_TX_PUSH queues the staged frame in the FIFO or the urgent slot, or
shows FULL or BAD_FRAME. CAN_FRAME_SENT takes the sent entry off, returns its event with the timestamp and lowers TEC by
one; ID_COLLISION counts, adds 8 to TEC and in the third of a row holds the entry. RELEASE offers a held entry again,
DISCARD removes it with an event, RECOVER begins recovery from bus-off, FLUSH empties the FIFO of a controller that does not
transmit; TXE_POP drops the first event; CAN_TSC_CAP stores counter and PTP time together. (14_can_fd) -/
def Obligations.CanSending : Prop :=
  (∀ (dt m : Nat) (n : Nat) (v : Word) (w : State) (s u : State), s.toWrite dt m (Reg.CANn_CTL n) v = u → n < 2 → u.opens m true (Reg.CANn_CTL n) = true → v.toNat < 16 → v.fld 1 0 ≠ 3 → u.setReg (Reg.CANn_CTL n) v = w → v.fld 1 0 = 0 ∨ w.badTiming n = false → w.canProg n = u.canProg n →
    exec (.canModeWrite dt m n v) s = .next (w)) ∧
  (∀ (dt m : Nat) (n : Nat) (v : Word) (w : State) (s u : State), s.toWrite dt m (Reg.CANn_CTL n) v = u → n < 2 → u.opens m true (Reg.CANn_CTL n) = true → v.toNat < 16 → v.fld 1 0 ≠ 3 → u.setReg (Reg.CANn_CTL n) v = w → v.fld 1 0 = 0 ∨ w.badTiming n = false → w.canProg n ≠ u.canProg n →
    exec (.canModeWrite dt m n v) s = .next (w.canLater n (u.canMode n) (u.forcedRo n))) ∧
  (∀ (dt m : Nat) (n : Nat) (v : Word) (s u : State), s.toWrite dt m (Reg.CANn_CTL n) v = u → n < 2 → u.opens m true (Reg.CANn_CTL n) = true → v.toNat < 16 → v.fld 1 0 = 3 →
    exec (.canModeWrite dt m n v) s = .next ((u.setReg (Reg.CANn_CTL n) v).misused 341 (Reg.CANn_CTL n))) ∧
  (∀ (s v : State) (n t m : Nat) (f : Bool), (s.can n).pend = some (t, m, f) → s.setCan n { s.can n with pend := none, since := t } = v →
    (s.sclk < t → s.canBoundary n = s) ∧
    (t ≤ s.sclk → s.canProg n = 0 → s.canBoundary n = ((v.setRegB (Reg.CANn_STS n) 2 false).setCanBus n 0).setCounts n 0 0) ∧
    (t ≤ s.sclk → s.canProg n ≠ 0 → m = 0 → s.canBoundary n = v.setRegB (Reg.CANn_STS n) 2 false) ∧
    (t ≤ s.sclk → s.canProg n ≠ 0 → m ≠ 0 → s.canBoundary n = v)) ∧
  (∀ (dt : Nat) (n : Nat) (s u : State), s.advance dt = u → u.hasCan n = true → u.canMode n ≠ 0 →
    exec (.canSync dt n) s = .next (u.setRegB (Reg.CANn_STS n) 2 true)) ∧
  (∀ (dt : Nat) (n : Nat) (s u : State), s.advance dt = u → u.hasCan n = false ∨ u.canMode n = 0 →
    exec (.canSync dt n) s = .next (u)) ∧
  (∀ (dt m : Nat) (n : Nat) (e : CanEntry) (w : State) (s u : State), s.toWrite dt m (Reg.CANn_TX_PUSH n) 1 = u → n < 2 → u.opens m true (Reg.CANn_TX_PUSH n) = true → (u.can n).fifo.length < 32 → ((u.reg (Reg.CANn_TX_ID n)).bit 30 && (u.reg (Reg.CANn_TX_CTL n)).bit 4 || (u.reg (Reg.CANn_TX_CTL n)).bit 5 && !(u.reg (Reg.CANn_TX_CTL n)).bit 4 || decide (8 < (u.reg (Reg.CANn_TX_CTL n)).fld 3 0) && !(u.reg (Reg.CANn_TX_CTL n)).bit 4) = false → ({ id := u.reg (Reg.CANn_TX_ID n), ctl := u.reg (Reg.CANn_TX_CTL n), data := (List.range 16).map (fun i => u.reg (Reg.CANn_TX_DATAi n i)) } : CanEntry) = e → u.setReg (Reg.CANn_TX_STS n) 0 = w →
    exec (.canTxPush dt m n 1) s = .next (w.setCan n { u.can n with fifo := (u.can n).fifo ++ [e] })) ∧
  (∀ (dt m : Nat) (n : Nat) (e : CanEntry) (w : State) (s u : State), s.toWrite dt m (Reg.CANn_TX_PUSH n) 3 = u → n < 2 → u.opens m true (Reg.CANn_TX_PUSH n) = true → (u.can n).urgent = none → ((u.reg (Reg.CANn_TX_ID n)).bit 30 && (u.reg (Reg.CANn_TX_CTL n)).bit 4 || (u.reg (Reg.CANn_TX_CTL n)).bit 5 && !(u.reg (Reg.CANn_TX_CTL n)).bit 4 || decide (8 < (u.reg (Reg.CANn_TX_CTL n)).fld 3 0) && !(u.reg (Reg.CANn_TX_CTL n)).bit 4) = false → ({ id := u.reg (Reg.CANn_TX_ID n), ctl := u.reg (Reg.CANn_TX_CTL n), data := (List.range 16).map (fun i => u.reg (Reg.CANn_TX_DATAi n i)) } : CanEntry) = e → u.setReg (Reg.CANn_TX_STS n) 0 = w →
    exec (.canTxPush dt m n 3) s = .next (w.setCan n { u.can n with urgent := some e, urgentAt := w.sclk })) ∧
  (∀ (dt m : Nat) (n : Nat) (s u : State), s.toWrite dt m (Reg.CANn_TX_PUSH n) 1 = u → n < 2 → u.opens m true (Reg.CANn_TX_PUSH n) = true → 32 ≤ (u.can n).fifo.length →
    exec (.canTxPush dt m n 1) s = .next (u.setReg (Reg.CANn_TX_STS n) 1)) ∧
  (∀ (dt m : Nat) (n : Nat) (s u : State), s.toWrite dt m (Reg.CANn_TX_PUSH n) 3 = u → n < 2 → u.opens m true (Reg.CANn_TX_PUSH n) = true → (u.can n).urgent.isSome = true →
    exec (.canTxPush dt m n 3) s = .next (u.setReg (Reg.CANn_TX_STS n) 1)) ∧
  (∀ (dt m : Nat) (n : Nat) (s u : State), s.toWrite dt m (Reg.CANn_TX_PUSH n) 1 = u → n < 2 → u.opens m true (Reg.CANn_TX_PUSH n) = true → (u.can n).fifo.length < 32 → ((u.reg (Reg.CANn_TX_ID n)).bit 30 && (u.reg (Reg.CANn_TX_CTL n)).bit 4 || (u.reg (Reg.CANn_TX_CTL n)).bit 5 && !(u.reg (Reg.CANn_TX_CTL n)).bit 4 || decide (8 < (u.reg (Reg.CANn_TX_CTL n)).fld 3 0) && !(u.reg (Reg.CANn_TX_CTL n)).bit 4) = true →
    exec (.canTxPush dt m n 1) s = .next (u.setReg (Reg.CANn_TX_STS n) 2)) ∧
  (∀ (dt : Nat) (n back : Nat) (b : Bool) (e : CanEntry) (w : State) (s u : State), s.clock dt [⟨.canSent, n, 0⟩] = u → u.canOffered n b = some e → u.canBegan n b back = true → (u.setCan n ((u.can n).setHead b none)).canEvent n e 1 b (w32 (u.sclk / 10 - back)) = w →
    exec (.canFrameSent dt n b back) s = .next (w.setCounts n (w.regF (Reg.CANn_ERR n) 7 0 - 1) (w.canRec n))) ∧
  (∀ (dt : Nat) (n back : Nat) (b : Bool) (s u : State), s.clock dt [⟨.canSent, n, 0⟩] = u → u.canOffered n b = none ∨ u.canBegan n b back = false →
    exec (.canFrameSent dt n b back) s = .next (u)) ∧
  (∀ (s : State) (n st : Nat) (e : CanEntry) (b : Bool) (ts : Word), (s.can n).events.length < 16 → (s.can n).events ≠ [] →
    s.canEvent n e st b ts = s.setCan n { s.can n with events := (s.can n).events ++ [⟨e.ctl.fld 31 16, st, b, ts⟩] }) ∧
  (∀ (dt : Nat) (n : Nat) (b : Bool) (e : CanEntry) (w : State) (s u : State), s.clock dt [⟨.collision, n, 0⟩] = u → u.canOffered n b = some e → e.hits ≠ 2 → (u.count (Reg.CANn_IDCOL_CNT n)).setCan n ((u.can n).setHead b (some { e with hits := e.hits + 1 })) = w →
    exec (.idCollision dt n b) s = .next (w.canError n 4 8 0)) ∧
  (∀ (dt : Nat) (n : Nat) (b : Bool) (e : CanEntry) (w : State) (s u : State), s.clock dt [⟨.collision, n, 0⟩] = u → u.canOffered n b = some e → e.hits = 2 → (u.count (Reg.CANn_IDCOL_CNT n)).setCan n ((u.can n).setHead b (some { e with hits := 3 })) = w →
    exec (.idCollision dt n b) s = .next ((w.raiseBit (31 + n) 4).canError n 4 8 0)) ∧
  (∀ (dt : Nat) (n : Nat) (b : Bool) (s u : State), s.clock dt [⟨.collision, n, 0⟩] = u → u.canOffered n b = none →
    exec (.idCollision dt n b) s = .next (u)) ∧
  (∀ (dt m : Nat) (n : Nat) (b : Bool) (e : CanEntry) (s u : State), s.toWrite dt m (Reg.CANn_CMD n) 1 = u → n < 2 → u.opens m true (Reg.CANn_CMD n) = true → (u.can n).heldHead = some (b, e) →
    exec (.canRelease dt m n) s = .next (u.setCan n { (u.can n).setHead b (some { e with hits := 0 }) with urgentAt := if b then u.sclk else ((u.can n).setHead b (some { e with hits := 0 })).urgentAt })) ∧
  (∀ (dt m : Nat) (n : Nat) (b : Bool) (e : CanEntry) (s u : State), s.toWrite dt m (Reg.CANn_CMD n) 2 = u → n < 2 → u.opens m true (Reg.CANn_CMD n) = true → (u.can n).heldHead = some (b, e) →
    exec (.canDiscard dt m n) s = .next ((u.setCan n ((u.can n).setHead b none)).canEvent n e 2 b 0)) ∧
  (∀ (dt m : Nat) (n : Nat) (s u : State), s.toWrite dt m (Reg.CANn_CMD n) 1 = u → n < 2 → u.opens m true (Reg.CANn_CMD n) = true → (u.can n).heldHead = none →
    exec (.canRelease dt m n) s = .next (u)) ∧
  (∀ (dt m : Nat) (n : Nat) (s u : State), s.toWrite dt m (Reg.CANn_CMD n) 2 = u → n < 2 → u.opens m true (Reg.CANn_CMD n) = true → (u.can n).heldHead = none →
    exec (.canDiscard dt m n) s = .next (u)) ∧
  (∀ (dt m : Nat) (n : Nat) (s u : State), s.toWrite dt m (Reg.CANn_CMD n) 8 = u → n < 2 → u.opens m true (Reg.CANn_CMD n) = true → u.canBus n = 2 →
    exec (.canRecover dt m n) s = .next (u.setCanBus n 3)) ∧
  (∀ (dt m : Nat) (n : Nat) (s u : State), s.toWrite dt m (Reg.CANn_CMD n) 8 = u → n < 2 → u.opens m true (Reg.CANn_CMD n) = true → u.canBus n ≠ 2 →
    exec (.canRecover dt m n) s = .next (u)) ∧
  (∀ (dt m : Nat) (n : Nat) (s u : State), s.toWrite dt m (Reg.CANn_CMD n) 4 = u → n < 2 → u.opens m true (Reg.CANn_CMD n) = true → u.canTx n false = false →
    exec (.canFlush dt m n) s = .next ((u.can n).fifo.foldl (fun s e => s.canEvent n e 3 false 0) (u.setCan n { u.can n with fifo := [] }))) ∧
  (∀ (dt m : Nat) (n : Nat) (s u : State), s.toWrite dt m (Reg.CANn_CMD n) 4 = u → n < 2 → u.opens m true (Reg.CANn_CMD n) = true → u.canTx n false = true →
    exec (.canFlush dt m n) s = .next (((u.can n).fifo.drop 1).foldl (fun s e => s.canEvent n e 3 false 0) (u.setCan n { u.can n with fifo := (u.can n).fifo.take 1 }))) ∧
  (∀ (dt m : Nat) (n : Nat) (s u : State), s.toWrite dt m (Reg.CANn_TXE_POP n) 1 = u → n < 2 → u.opens m true (Reg.CANn_TXE_POP n) = true →
    exec (.txePop dt m n 1) s = .next (u.setCan n { u.can n with events := (u.can n).events.tail })) ∧
  (∀ (dt m : Nat) (n : Nat) (s u : State), s.toWrite dt m (Reg.CANn_TXE_POP n) 0 = u → n < 2 → u.opens m true (Reg.CANn_TXE_POP n) = true →
    exec (.txePop dt m n 0) s = .next (u)) ∧
  (∀ (dt m : Nat) (n : Nat) (s u : State), s.toWrite dt m (Reg.CANn_TSC_CAP n) 1 = u → n < 2 → u.opens m true (Reg.CANn_TSC_CAP n) = true →
    exec (.canTscCap dt m n 1) s = .next ((((u.setReg (Reg.CANn_TSC_C n) (w32 u.tsc)).setReg (Reg.CANn_TSC_PTP_NS n) (w32 (nsOf u.ptp))).setReg (Reg.CANn_TSC_PTP_SEC n) (w32 (secOf u.ptp))).setReg (Reg.CANn_TSC_PTP_EXT n) (w32 (secOf u.ptp / 2 ^ 32 % 2 ^ 16))))

/-- CAN_FRAME_RX of a controller on the bus since before the frame began (an FD frame only with FD_EN) lowers the receive
error count; the enabled object of the identifier with the lowest index takes identifier, information, timestamp and data,
shows NEW, shows LOST where NEW stood, which is counted and told, and raises the interrupt where it is enabled; a frame that
no object takes is counted. CAN_RX_SEL copies the object into the window and clears NEW and LOST. BUS_OFF counts and stops
the controller, with AUTO_REC it begins to recover; BUS_OFF_RECOVERED makes it error active with clear counters.
CAN_BUS_ERROR counts, keeps the code and raises the counters. (14_can_fd) -/
def Obligations.CanReceiving : Prop :=
  (∀ (dt : Nat) (n back : Nat) (id info : Word) (bytes : List Byte) (v : State) (s u : State), s.clock dt ((((s.advance dt).rxObj n (id.fld 29 0)).toList.map (fun k => ⟨.canRx, n, k⟩))) = u → u.canOn n = true → info.bit 4 = false ∨ u.regB (Reg.CANn_CTL n) 3 = true → (u.can n).since + 10 * back ≤ u.sclk → u.canRec n < 128 → ({ u with free := u.free + 1 } : State).setCounts n (u.regF (Reg.CANn_ERR n) 7 0) (u.canRec n - 1) = v → v.rxObj n (id.fld 29 0) = none →
    exec (.canFrameRx dt n id info back bytes) s = .next (v.count (Reg.CANn_RX_UNMATCHED n))) ∧
  (∀ (dt : Nat) (n back k : Nat) (id info : Word) (bytes : List Byte) (v w : State) (s u : State), s.clock dt ((((s.advance dt).rxObj n (id.fld 29 0)).toList.map (fun k => ⟨.canRx, n, k⟩))) = u → u.canOn n = true → info.bit 4 = false ∨ u.regB (Reg.CANn_CTL n) 3 = true → (u.can n).since + 10 * back ≤ u.sclk → u.canRec n < 128 → ({ u with free := u.free + 1 } : State).setCounts n (u.regF (Reg.CANn_ERR n) 7 0) (u.canRec n - 1) = v → v.rxObj n (id.fld 29 0) = some k → info.bit 7 = false → (sget {} (v.can n).objs k).fresh = false → v.setCan n { v.can n with objs := sput {} (v.can n).objs k { info := info &&& 0xFF, id := w32 (id.fld 29 0), ts := w32 (v.sclk / 10 - back), data := canWords bytes (canLen (info.bit 4) (info.fld 3 0)), fresh := true, lost := (sget {} (v.can n).objs k).lost } } = w → w.regB (Reg.CANn_OBJk_CFG n k) 1 = false →
    exec (.canFrameRx dt n id info back bytes) s = .next (w)) ∧
  (∀ (dt : Nat) (n back k : Nat) (id info : Word) (bytes : List Byte) (v w x : State) (s u : State), s.clock dt ((((s.advance dt).rxObj n (id.fld 29 0)).toList.map (fun k => ⟨.canRx, n, k⟩))) = u → u.canOn n = true → info.bit 4 = false ∨ u.regB (Reg.CANn_CTL n) 3 = true → (u.can n).since + 10 * back ≤ u.sclk → u.canRec n < 128 → ({ u with free := u.free + 1 } : State).setCounts n (u.regF (Reg.CANn_ERR n) 7 0) (u.canRec n - 1) = v → v.rxObj n (id.fld 29 0) = some k → info.bit 7 = false → (sget {} (v.can n).objs k).fresh = true → v.setCan n { v.can n with objs := sput {} (v.can n).objs k { info := info &&& 0xFF, id := w32 (id.fld 29 0), ts := w32 (v.sclk / 10 - back), data := canWords bytes (canLen (info.bit 4) (info.fld 3 0)), fresh := true, lost := true } } = w → (w.count (Reg.CANn_RX_LOSTCNT n)).raiseBit (31 + n) 1 = x → x.regB (Reg.CANn_OBJk_CFG n k) 1 = true →
    exec (.canFrameRx dt n id info back bytes) s = .next (x.raiseBit (31 + n) 0)) ∧
  (∀ (dt : Nat) (n back : Nat) (id info : Word) (bytes : List Byte) (s u : State), s.clock dt ((((s.advance dt).rxObj n (id.fld 29 0)).toList.map (fun k => ⟨.canRx, n, k⟩))) = u → u.canOn n = false ∨ (info.bit 4 = true ∧ u.regB (Reg.CANn_CTL n) 3 = false) ∨ u.sclk < (u.can n).since + 10 * back →
    exec (.canFrameRx dt n id info back bytes) s = .next (u)) ∧
  (∀ (bytes : List Byte) (len : Nat), (canWords bytes len).length = 16 ∧ (∀ k < 16, len ≤ 4 * k → (canWords bytes len).getD k 0 = 0)) ∧
  (∀ (dt m : Nat) (n k : Nat) (v : Word) (x : CanObj) (w : State) (s u : State), s.toWrite dt m (Reg.CANn_RX_SEL n) v = u → n < 2 → u.opens m true (Reg.CANn_RX_SEL n) = true → v.toNat < 64 → v.toNat = k → sget {} (u.can n).objs k = x → ((((u.setReg (Reg.CANn_RX_SEL n) (w32 k)).setReg (Reg.CANn_RX_INFO n) ((x.info.setBit 8 x.fresh).setBit 9 x.lost)).setReg (Reg.CANn_RX_ID n) x.id).setReg (Reg.CANn_RX_TS n) x.ts) = w →
    exec (.canRxSel dt m n v) s = .next (((List.range 16).foldl (fun s i => s.setReg (Reg.CANn_RX_DATAi n i) (item x.data i)) w).setCan n { u.can n with objs := sput {} (u.can n).objs k { x with fresh := false, lost := false } })) ∧
  (∀ (dt : Nat) (n : Nat) (s u : State), s.advance dt = u → u.hasCan n = true → u.canMode n ≠ 0 → u.canBus n < 2 →
    exec (.busOff dt n) s = .next (u.enterBusOff n)) ∧
  (∀ (s w : State) (n : Nat), ((s.countF (Reg.CANn_ERRCNT n) 31 16 1).setRegF (Reg.CANn_ERR n) 7 0 255).setCanBus n 2 = w →
    s.enterBusOff n = if w.regB (Reg.CANn_CTL n) 2 then w.setCanBus n 3 else w) ∧
  (∀ (dt : Nat) (n : Nat) (s u : State), s.advance dt = u → u.hasCan n = false ∨ u.canMode n = 0 ∨ 2 ≤ u.canBus n →
    exec (.busOff dt n) s = .next (u)) ∧
  (∀ (dt : Nat) (n : Nat) (s u : State), s.advance dt = u → u.hasCan n = true → u.canBus n = 3 →
    exec (.busOffRecovered dt n) s = .next ((u.setCanBus n 0).setCounts n 0 0)) ∧
  (∀ (dt : Nat) (n : Nat) (s u : State), s.advance dt = u → u.canBus n ≠ 3 →
    exec (.busOffRecovered dt n) s = .next (u)) ∧
  (∀ (dt : Nat) (n lec tec rc : Nat) (w : State) (s u : State), s.advance dt = u → u.canOn n = true → 1 ≤ lec → lec ≤ 6 → (u.countF (Reg.CANn_ERRCNT n) 15 0 1).setRegF (Reg.CANn_ERR n) 18 16 lec = w →
    exec (.canBusError dt n lec tec rc) s = .next (w.setCounts n (w.regF (Reg.CANn_ERR n) 7 0 + tec) (w.canRec n + rc))) ∧
  (∀ (dt : Nat) (n lec tec rc : Nat) (s u : State), s.advance dt = u → u.canOn n = false →
    exec (.canBusError dt n lec tec rc) s = .next (u)) ∧
  (∀ (s t : State) (n tec rc : Nat), s.setReg (Reg.CANn_ERR n) ((((s.reg (Reg.CANn_ERR n)).setFld 7 0 (min 255 tec)).setFld 14 8 (min 127 rc)).setBit 15 (decide (128 ≤ rc))) = t →
    (t.canBus n < 2 → tec ≤ 255 → s.setCounts n tec rc = t.setCanBus n (if 128 ≤ tec ∨ 128 ≤ rc then 1 else 0)) ∧
    (t.canBus n < 2 → 256 ≤ tec → s.setCounts n tec rc = t.enterBusOff n) ∧ (2 ≤ t.canBus n → s.setCounts n tec rc = t))

/-- SRAM_ACCESS by an issued master: a read that the checks pass, of words without error, delivers the bytes of its span and
changes nothing; a write of an aligned 64-bit word to a bank that is ON stores its bytes and removes any error in the word;
a write of 1, 2 or 4 bytes inside a word without error stores its bytes. A span that starts in an uncorrectable word is
answered with the error response; so is an access a check refuses, of which nothing is performed. A refused posted write
waits as a notice, which IMPRECISE_NOTICE shows in MPU_IMP. A span of a size that R361 and R362 do not have, and that no
check refuses, leaves memory in a state that nothing fixes (log 78); a master that is not issued performs nothing.
(15_memory_and_protection) -/
def Obligations.MemoryAccesses : Prop :=
  (∀ (dt m addr len : Nat) (s u : State), s.clock dt (memEvs m false addr len) = u → u.issues m = true → goodSpan addr len = true →
    u.memViolation m false addr len = none → (∀ w ∈ spanWords addr len, u.eccAt w = 0) →
    exec (.sramAccess dt m false addr len [] []) s = .next (u.emit (.memData m addr (u.bytesAt addr len)))) ∧
  (∀ (dt m addr : Nat) (data : List Byte) (s u v : State), s.clock dt (memEvs m true addr 8) = u → u.issues m = true → addr % 8 = 0 → data.length = 8 →
    u.memViolation m true addr 8 = none → u.wakeFor addr = u → ({ u with mem := u.mem.setBytes addr data } : State).setEcc addr 0 = v →
    exec (.sramAccess dt m true addr 8 data []) s = .next (v.snoop addr data)) ∧
  (∀ (dt m addr : Nat) (data : List Byte) (s u : State), s.clock dt (memEvs m true addr data.length) = u → u.issues m = true →
    (data.length = 1 ∨ data.length = 2 ∨ data.length = 4) → addr / 8 = (addr + data.length - 1) / 8 →
    u.memViolation m true addr data.length = none → u.wakeFor addr = u → u.eccAt (addr / 8 * 8) = 0 →
    exec (.sramAccess dt m true addr data.length data []) s = .next (({ u with mem := u.mem.setBytes addr data } : State).snoop addr data)) ∧
  (∀ (dt m addr len : Nat) (s u : State), s.clock dt (memEvs m false addr len) = u → u.issues m = true → goodSpan addr len = true →
    u.memViolation m false addr len = none → 2 ≤ u.eccAt (addr / 8 * 8) →
    exec (.sramAccess dt m false addr len [] []) s = .next ((u.uncorrectable (addr / 8 * 8)).errorAnswer m addr false)) ∧
  (∀ (dt m addr len k a : Nat) (w p : Bool) (data : List Byte) (s u v : State), s.clock dt (memEvs m w addr len) = u → u.issues m = true →
    u.memViolation m w addr len = some (k, a) → data.length = len → p = (w && decide (k ≠ 1) && u.posted m addr len) →
    (if p then { u with mem := { u.mem with notices := u.mem.notices ++ [⟨m, k, a, sizeCode len⟩] } } else u.violation m k w (sizeCode len) a) = v →
    exec (.sramAccess dt m w addr len data []) s = .next (if p then v else v.errorAnswer m addr w)) ∧
  (∀ (dt : Nat) (m addr len : Nat) (w : Bool) (data : List Byte) (hits : List (Nat × Nat)) (s u : State), s.clock dt ((memEvs m w addr len)) = u → u.issues m = true → goodSpan addr len = false → u.memViolation m w addr len = none →
    exec (.sramAccess dt m w addr len data hits) s = .next (u.misusedMemory 362)) ∧
  (∀ (dt : Nat) (m addr len : Nat) (w : Bool) (data : List Byte) (hits : List (Nat × Nat)) (s u : State), s.clock dt ((memEvs m w addr len)) = u → u.issues m = false →
    exec (.sramAccess dt m w addr len data hits) s = .next (u)) ∧
  (∀ (dt : Nat) (s u : State), s.advance dt = u → u.mem.notices = [] →
    exec (.impreciseNotice dt) s = .next (u)) ∧
  (∀ (dt : Nat) (x : Notice) (l : List Notice) (v w : State) (s u : State), s.advance dt = u → u.mem.notices = x :: l → (if x.kind = 0 then ({ u with mem := { u.mem with notices := l } } : State) else ({ u with mem := { u.mem with notices := l } } : State).violation x.master x.kind true x.size x.addr) = v → (if (v.count Reg.MPU_IMP_CNT).regB Reg.MPU_IMP_STS 0 then (v.count Reg.MPU_IMP_CNT).setRegB Reg.MPU_IMP_STS 1 true else ((v.count Reg.MPU_IMP_CNT).setReg Reg.MPU_IMP_STS (w32 (1 + x.master % 256 * 2 ^ 8 + x.kind * 2 ^ 16))).setReg64 Reg.MPU_IMP_ADDR_LO Reg.MPU_IMP_ADDR_HI x.addr) = w →
    exec (.impreciseNotice dt) s = .next ((w.raiseBit 33 4).busError x.master)) ∧
  (∀ (dt m : Nat) (s u : State), s.toRead dt m Reg.MPU_SYNC = u → u.opens m false Reg.MPU_SYNC = true → u.flipsAt Reg.MPU_SYNC = (0, 0, 0) →
    u.mem.notices = [] → exec (.mpuSync dt m) s = .next (u.emit (.readData m Reg.MPU_SYNC (w32 u.mp.gen))))

/-- BNK_OWN changes for the owner, the MP, or a master that claims a free bank, else a violation of KIND 2, which for a
write over PCIe waits as a notice; a value that is no ID of a master leaves the unit in a state that nothing fixes (log 78).
RET = 1 puts a bank into retention and RET = 0 wakes it, which WAKE_DONE ends after 12 us. SCRUB, BACKGROUND_TEST and
LPD_PATROL take the next word, region or burst where the bank is ON and the function enabled; an uncorrectable word or a
failing region is a finding, and a second finding in a row retires the bank. LCK_READ gives a free lock; LOCK_RELEASE by the
holder and LOCK_FORCE by the MP free it, every other write is counted. (15_memory_and_protection) -/
def Obligations.BanksAndLocks : Prop :=
  (∀ (dt m : Nat) (n : Nat) (v : Word) (s u : State), s.toWrite dt m (Reg.BNK_OWN n) v = u → n < 24 → u.opens m true (Reg.BNK_OWN n) = true → v.toNat < 256 → u.mem.notices = [] → u.bankState n ≠ 3 → (u.owner n = m ∨ m = 1 ∨ (u.owner n = 0 ∧ v.fld 7 0 = m)) → u.goodOwner (v.fld 7 0) = true →
    exec (.bnkOwnWrite dt m n v) s = .next (u.setOwner n (v.fld 7 0))) ∧
  (∀ (dt m : Nat) (n : Nat) (v : Word) (s u : State), s.toWrite dt m (Reg.BNK_OWN n) v = u → n < 24 → u.opens m true (Reg.BNK_OWN n) = true → v.toNat < 256 → (u.bankState n ≠ 3 ∧ (u.owner n = m ∨ m = 1 ∨ (u.owner n = 0 ∧ v.fld 7 0 = m))) → u.goodOwner (v.fld 7 0) = false →
    exec (.bnkOwnWrite dt m n v) s = .next (u.misused 358 (Reg.BNK_OWN n))) ∧
  (∀ (dt m n : Nat) (v : Word) (s u : State), s.toWrite dt m (Reg.BNK_OWN n) v = u → n < 24 → u.opens m true (Reg.BNK_OWN n) = true →
    (u.bankState n = 3 ∨ (u.owner n ≠ m ∧ m ≠ 1 ∧ (u.owner n ≠ 0 ∨ v.fld 7 0 ≠ m))) →
    exec (.bnkOwnWrite dt m n v) s = .next (if m = 0x42 then { u with mem := { u.mem with notices := u.mem.notices ++ [⟨m, 2, Reg.BNK_OWN n, 2⟩] } }
      else (u.violation m 2 true 2 (Reg.BNK_OWN n)).errorAnswer m (Reg.BNK_OWN n) true)) ∧
  (∀ (dt m : Nat) (n : Nat) (w : State) (s u : State), s.toWrite dt m (Reg.BNK_CTL n) 7 = u → n < 24 → u.opens m true (Reg.BNK_CTL n) = true → (m = 1 ∨ (u.owner n = m ∧ m ≠ 0)) → u.bankState n ≠ 3 → u.setReg (Reg.BNK_CTL n) 7 = w →
    exec (.bankRetention dt m n 7) s = .next ((w.setRegF (Reg.BNK_BSTS n) 1 0 1).setRegB Reg.BNK_RET_MAP n true)) ∧
  (∀ (dt m : Nat) (n : Nat) (w v : State) (s u : State), s.toWrite dt m (Reg.BNK_CTL n) 6 = u → n < 24 → u.opens m true (Reg.BNK_CTL n) = true → (m = 1 ∨ (u.owner n = m ∧ m ≠ 0)) → u.bankState n = 1 → u.setReg (Reg.BNK_CTL n) 6 = w → w.setRegF (Reg.BNK_BSTS n) 1 0 2 = v →
    exec (.bankWake dt m n 6) s = .next ({ v with mem := { v.mem with wake := sput none v.mem.wake n (some (v.sclk + 12 * usClk)) } })) ∧
  (∀ (dt : Nat) (n t : Nat) (s u : State), s.advance dt = u → n < 24 → u.bankState n = 2 → sget none u.mem.wake n = some t → t ≤ u.sclk →
    exec (.wakeDone dt n) s = .next (((({ u with mem := { u.mem with wake := sput none u.mem.wake n none } } : State).setRegF (Reg.BNK_BSTS n) 1 0 0).setRegB Reg.BNK_RET_MAP n false).raiseBit 33 3)) ∧
  (∀ (dt : Nat) (n : Nat) (s u : State), s.advance dt = u → n < 24 → (u.bankState n ≠ 2 ∨ sget none u.mem.wake n = none) →
    exec (.wakeDone dt n) s = .next (u)) ∧
  (∀ (dt : Nat) (n : Nat) (hits : List (Nat × Nat)) (v : State) (s u : State), s.clock dt [⟨.scrub, sramBase + n % 24 * 2 ^ 21 + 8 * sget 0 s.mem.scrub (n % 24), n % 24⟩] = u → n < 24 → u.strike hits = v → (v.bankState n ≠ 0 ∨ v.regB (Reg.BNK_CTL n) 2 = false ∨ v.domainOn 7 = false) →
    exec (.scrub dt n hits) s = .next (v)) ∧
  (∀ (dt : Nat) (n w : Nat) (hits : List (Nat × Nat)) (x v : State) (s u : State), s.clock dt [⟨.scrub, sramBase + n % 24 * 2 ^ 21 + 8 * sget 0 s.mem.scrub (n % 24), n % 24⟩] = u → n < 24 → u.strike hits = x → x.bankState n = 0 → x.regB (Reg.BNK_CTL n) 2 = true → x.domainOn 7 = true → sget 0 x.mem.scrub n = w → w + 1 < 262144 → ({ x with mem := { x.mem with scrub := sput 0 x.mem.scrub n (w + 1) } } : State) = v →
    exec (.scrub dt n hits) s = .next (if v.eccAt (sramBase + n * 2 ^ 21 + 8 * w) = 0 then v else if v.eccAt (sramBase + n * 2 ^ 21 + 8 * w) = 1 then v.corrected (sramBase + n * 2 ^ 21 + 8 * w) else v.scrubFinding n (w * 8 / 1024))) ∧
  (∀ (dt : Nat) (n : Nat) (hits : List (Nat × Nat)) (x v : State) (s u : State), s.clock dt [⟨.scrub, sramBase + n % 24 * 2 ^ 21 + 8 * sget 0 s.mem.scrub (n % 24), n % 24⟩] = u → n < 24 → u.strike hits = x → x.bankState n = 0 → x.regB (Reg.BNK_CTL n) 2 = true → x.domainOn 7 = true → sget 0 x.mem.scrub n = 262143 → ({ x with mem := { x.mem with scrub := sput 0 x.mem.scrub n 0 } } : State).scrubRead n (sramBase + n * 2 ^ 21 + 8 * 262143) = v →
    exec (.scrub dt n hits) s = .next (v.scrubPassed n)) ∧
  (∀ (s : State) (n row src : Nat), s.regB (Reg.BNK_BSTS n) 2 = true → s.regF (Reg.BNK_FIND n) 10 0 = row →
    s.finding n row src = s.retireBank n) ∧
  (∀ (dt : Nat) (n : Nat) (b : Bool) (s u : State), s.clock dt [⟨.bankTest, n % 24, 0⟩] = u → n < 24 → (u.bankState n ≠ 0 ∨ u.regB (Reg.BNK_CTL n) 1 = false ∨ u.domainOn 7 = false) →
    exec (.backgroundTest dt n b) s = .next (u)) ∧
  (∀ (dt : Nat) (n g : Nat) (b : Bool) (w v : State) (s u : State), s.clock dt [⟨.bankTest, n % 24, 0⟩] = u → n < 24 → u.bankState n = 0 → u.regB (Reg.BNK_CTL n) 1 = true → u.domainOn 7 = true → u.regF (Reg.BNK_BGT n) 14 0 = g → u.readRegion (sramBase + n * 2 ^ 21 + 64 * g) = w → g < 32767 → w.setRegF (Reg.BNK_BGT n) 14 0 (g + 1) = v →
    exec (.backgroundTest dt n b) s = .next (if b then v.finding n (g / 16) 2 else v)) ∧
  (∀ (dt : Nat) (n : Nat) (b : Bool) (x w v : State) (s u : State), s.clock dt [⟨.bankTest, n % 24, 0⟩] = u → n < 24 → u.bankState n = 0 → u.regB (Reg.BNK_CTL n) 1 = true → u.domainOn 7 = true → u.regF (Reg.BNK_BGT n) 14 0 = 32767 → u.readRegion (sramBase + n * 2 ^ 21 + 64 * 32767) = x → x.setRegF (Reg.BNK_BGT n) 14 0 0 = w → w.setRegF (Reg.BNK_BGT n) 31 16 ((w.regF (Reg.BNK_BGT n) 31 16 + 1) % 65536) = v →
    exec (.backgroundTest dt n b) s = .next (if b then v.finding n 2047 2 else v)) ∧
  (∀ (dt : Nat) (hits : List (Nat × Nat)) (v : State) (s u : State), s.advance dt = u → u.strike hits = v → (v.regB Reg.BNK_LPD_STS 1 = false ∨ v.domainOn 8 = false) →
    exec (.lpdPatrol dt hits) s = .next (v)) ∧
  (∀ (dt : Nat) (hits : List (Nat × Nat)) (p : Nat) (v : State) (s u : State), s.advance dt = u → u.strike hits = v → v.regB Reg.BNK_LPD_STS 1 = true → v.domainOn 8 = true → v.mem.patrol = p → (∀ k < 8, v.eccAt (lpdBase + p * 64 + k * 8) = 0) →
    exec (.lpdPatrol dt hits) s = .next ({ v with mem := { v.mem with patrol := (p + 1) % 2 ^ 27 } })) ∧
  (∀ (dt m i : Nat) (s u : State), s.toRead dt m (Reg.LCK_i i) = u → i < 64 → u.opens m false (Reg.LCK_i i) = true → u.flipsAt (Reg.LCK_i i) = (0, 0, 0) →
    u.regF (Reg.LCK_i i) 7 0 = 0 →
    exec (.lckRead dt m i) s = .next ((u.setReg (Reg.LCK_i i) (w32 m)).emit (.readData m (Reg.LCK_i i) (w32 (m + 2 ^ 30))))) ∧
  (∀ (dt m i : Nat) (s u : State), s.toRead dt m (Reg.LCK_i i) = u → i < 64 → u.opens m false (Reg.LCK_i i) = true → u.flipsAt (Reg.LCK_i i) = (0, 0, 0) →
    u.regF (Reg.LCK_i i) 7 0 = m ∧ m ≠ 0 →
    exec (.lckRead dt m i) s = .next (u.emit (.readData m (Reg.LCK_i i) (w32 (m + 3 * 2 ^ 30))))) ∧
  (∀ (dt m i : Nat) (s u : State), s.toRead dt m (Reg.LCK_i i) = u → i < 64 → u.opens m false (Reg.LCK_i i) = true → u.flipsAt (Reg.LCK_i i) = (0, 0, 0) →
    u.regF (Reg.LCK_i i) 7 0 ≠ m ∧ u.regF (Reg.LCK_i i) 7 0 ≠ 0 →
    exec (.lckRead dt m i) s = .next (u.emit (.readData m (Reg.LCK_i i) (w32 (u.regF (Reg.LCK_i i) 7 0 + 2 * 2 ^ 30))))) ∧
  (∀ (dt m : Nat) (n : Nat) (s u : State), s.toWrite dt m (Reg.LCK_i n) 1 = u → n < 64 → u.opens m true (Reg.LCK_i n) = true → u.regF (Reg.LCK_i n) 7 0 = m → m ≠ 0 →
    exec (.lockRelease dt m n 1) s = .next (u.setReg (Reg.LCK_i n) 0)) ∧
  (∀ (dt m : Nat) (n : Nat) (s u : State), s.toWrite dt m (Reg.LCK_i n) 1 = u → n < 64 → u.opens m true (Reg.LCK_i n) = true → (u.regF (Reg.LCK_i n) 7 0 ≠ m ∨ m = 0) →
    exec (.lockRelease dt m n 1) s = .next (u.count Reg.BNK_LCK_BADREL)) ∧
  (∀ (dt m : Nat) (n : Nat) (s u : State), s.toWrite dt m (Reg.LCK_i n) 2 = u → n < 64 → u.opens m true (Reg.LCK_i n) = true → m = 1 →
    exec (.lockForce dt m n 2) s = .next (u.setReg (Reg.LCK_i n) 0)) ∧
  (∀ (dt m : Nat) (n : Nat) (s u : State), s.toWrite dt m (Reg.LCK_i n) 2 = u → n < 64 → u.opens m true (Reg.LCK_i n) = true → m ≠ 1 →
    exec (.lockForce dt m n 2) s = .next (u.count Reg.BNK_LCK_BADREL))

/-- Whatever an SRAM_ACCESS of a size that R361 and R362 have does, stores, is refused or meets an uncorrectable word, every
byte outside the span of a write reads as before, and a read or a write that a check refuses changes no byte. A write that
the checks pass, by an issued master, in words without an uncorrectable error, makes every byte of its span read as the byte
written. (15_memory_and_protection) -/
def Obligations.WritesChangeOnlyTheirBytes : Prop :=
  (∀ (dt m addr len : Nat) (w : Bool) (data : List Byte) (s t u : State), s.clock dt (memEvs m w addr len) = u →
    (goodSpan addr len = true ∨ u.memViolation m w addr len ≠ none) → exec (.sramAccess dt m w addr len data []) s = .next t →
    (∀ a, w = false ∨ a < addr ∨ addr + len ≤ a → t.byteAt a = s.byteAt a) ∧ (u.memViolation m w addr len ≠ none → SameMemory s t)) ∧
  (∀ (dt m addr : Nat) (data : List Byte) (s u : State), s.clock dt (memEvs m true addr data.length) = u → u.issues m = true →
    goodSpan addr data.length = true → u.memViolation m true addr data.length = none → (∀ w ∈ spanWords addr data.length, u.eccAt w < 2) →
    ∃ t, exec (.sramAccess dt m true addr data.length data []) s = .next t ∧ ∀ k < data.length, t.byteAt (addr + k) = data.getD k 0)

/-- RETIREMENT_RECORD writes the oldest retirement that waits. PERIOD_END closes the stretch once REC_PERIOD has passed: its
records are queued for the MRAM and a new stretch begins. And REC_SEL copies a slot into the window with its validity. OPEN,
BLOCK, CLOSE and ABORT are answered with the STATUS of Table 18.6 and open the session, store a block whose CRC matches (a
part number above 3, or another CRC value within one block, leaves the unit in a state that nothing fixes: a choice of this
model, log 78), complete the image or end the session; a session ends after 60 s without a frame. SLOT_ERASE_DONE answers
OPEN. The recovery mode announces itself each second. ACTIVATION acts by role once the time is reached. UPD_FLOOR_REQ begins
a burn, which FLOOR_BURN_DONE ends. (16_event_recorder, 18_firmware_update, 02_host_and_registers) -/
def Obligations.RecorderAndUpdate : Prop :=
  (∀ (dt : Nat) (s u : State), s.advance dt = u → u.mram.waiting = [] →
    exec (.retirementRecord dt) s = .next (u)) ∧
  (∀ (dt : Nat) (r : Retired) (l : List Retired) (s u : State), s.advance dt = u → u.mram.waiting = r :: l →
    exec (.retirementRecord dt) s = .next ({ u with mram := { retired := u.mram.retired ++ [r], waiting := l } })) ∧
  (∀ (dt : Nat) (b : Nat) (s u : State), s.clock dt [⟨.periodEnd, 0, 0⟩] = u → u.recd.began = some b → u.regF Reg.REC_PERIOD 10 0 ≠ 0 → b + u.regF Reg.REC_PERIOD 10 0 * minuteClk ≤ u.sclk →
    exec (.periodEnd dt) s = .next (u.closeStretch 1)) ∧
  (∀ (dt : Nat) (s u : State), s.clock dt [⟨.periodEnd, 0, 0⟩] = u → (u.recd.began = none ∨ u.regF Reg.REC_PERIOD 10 0 = 0) →
    exec (.periodEnd dt) s = .next (u)) ∧
  (∀ (dt : Nat) (b : Nat) (s u : State), s.clock dt [⟨.periodEnd, 0, 0⟩] = u → u.recd.began = some b → u.sclk < b + u.regF Reg.REC_PERIOD 10 0 * minuteClk →
    exec (.periodEnd dt) s = .next (u)) ∧
  (∀ (s v : State) (b c m : Nat), s.recd.began = some b → (s.recd.todo = [] ∨ (c ≠ 2 ∧ c ≠ 3)) → min 0xFFFF ((s.sclk - b) / minuteClk) = m →
    (if c = 2 then (s.lifeAdd 104 m).lifeAdd 100 1 else s.lifeAdd 104 m) = v →
    s.closeStretch c = ({ v with recd := { v.recd with
      todo := v.recd.todo ++ v.closing c m, next := if v.recd.todo = [] then v.sclk else v.recd.next } } : State).beginStretch) ∧
  (∀ (dt m : Nat) (v : Word) (s u : State), s.toWrite dt m Reg.REC_SEL v = u → u.opens m true Reg.REC_SEL = true → v.toNat < 4096 → u.slotWords (v.fld 11 11) (v.fld 10 0) = none →
    exec (.recSel dt m v) s = .next ((List.range 32).foldl (fun s i => s.setReg (Reg.REC_WINi i) (item [] i)) ((u.setReg Reg.REC_SEL v).setReg Reg.REC_WIN_STS 4))) ∧
  (∀ (dt m : Nat) (v : Word) (l : List Word) (s u : State), s.toWrite dt m Reg.REC_SEL v = u → u.opens m true Reg.REC_SEL = true → v.toNat < 4096 → u.slotWords (v.fld 11 11) (v.fld 10 0) = some l →
    exec (.recSel dt m v) s = .next ((List.range 32).foldl (fun s i => s.setReg (Reg.REC_WINi i) (item l i)) ((u.setReg Reg.REC_SEL v).setReg Reg.REC_WIN_STS (if recGood l then 1 else if item l 31 = recMark then 2 else 0)))) ∧
  (∀ (dt : Nat) (dst et slot tag mac : Nat) (len crc : Nat) (s u : State), s.clock dt [⟨.updOpen, slot, 0⟩] = u → u.svcTakes dst et = true → slot ≤ 1 → u.regB Reg.UPD_CTL 0 = true → u.slotBusy slot = false → (∀ x, u.upd.session = some x → x.mac = mac) → len ≤ imgMax → len % 4096 = 0 →
    exec (.updOpen dt dst et slot tag mac len crc) s = .next ((u.setSlot slot { st := 1, len := len }).setSession (some { slot := slot, mac := mac, len := len, crc := crc, tag := tag, last := u.sclk }))) ∧
  (∀ (dt : Nat) (dst et slot tag mac : Nat) (len crc : Nat) (s u : State), s.clock dt [⟨.updOpen, slot, 0⟩] = u → u.svcTakes dst et = true → slot ≤ 1 → u.regB Reg.UPD_CTL 0 = false →
    exec (.updOpen dt dst et slot tag mac len crc) s = .next (u.updAnswer 0x20 slot tag mac xfDisabled 0)) ∧
  (∀ (dt : Nat) (dst et slot tag mac : Nat) (len crc : Nat) (s u : State), s.clock dt [⟨.updOpen, slot, 0⟩] = u → u.svcTakes dst et = true → slot ≤ 1 → u.regB Reg.UPD_CTL 0 = true → u.slotBusy slot = true →
    exec (.updOpen dt dst et slot tag mac len crc) s = .next (u.updAnswer 0x20 slot tag mac xfBusy 0)) ∧
  (∀ (dt : Nat) (dst et slot tag mac : Nat) (len crc : Nat) (s u : State), s.clock dt [⟨.updOpen, slot, 0⟩] = u → u.svcTakes dst et = true → slot ≤ 1 → u.regB Reg.UPD_CTL 0 = true → u.slotBusy slot = false → u.upd.session = none → (imgMax < len ∨ len % 4096 ≠ 0) →
    exec (.updOpen dt dst et slot tag mac len crc) s = .next (u.updAnswer 0x20 slot tag mac xfRange 0)) ∧
  (∀ (dt : Nat) (dst et slot tag mac : Nat) (len crc : Nat) (s u : State), s.clock dt [⟨.updOpen, slot, 0⟩] = u → u.svcTakes dst et = false →
    exec (.updOpen dt dst et slot tag mac len crc) s = .next (u)) ∧
  (∀ (dt : Nat) (x : XferSession) (s u : State), s.advance dt = u → u.upd.session = some x → x.erasing = true →
    exec (.slotEraseDone dt) s = .next ((u.setSession (some { x with erasing := false })).updAnswer 0x20 x.slot x.tag x.mac xfOk 0)) ∧
  (∀ (dt : Nat) (s u : State), s.advance dt = u → (∀ x, u.upd.session = some x → x.erasing = false) →
    exec (.slotEraseDone dt) s = .next (u)) ∧
  (∀ (dt : Nat) (dst et slot tag mac ix part crc : Nat) (bs : List Byte) (s u : State), s.clock dt [⟨.blockDone, slot, 0⟩] = u → u.svcTakes dst et = true → u.regB Reg.UPD_CTL 0 = false →
    exec (.updBlock dt dst et slot tag mac ix part crc bs) s = .next (u.updAnswer 0x21 slot tag mac xfDisabled 0)) ∧
  (∀ (dt : Nat) (dst et slot tag mac ix part crc : Nat) (bs : List Byte) (s u : State), s.clock dt [⟨.blockDone, slot, 0⟩] = u → u.svcTakes dst et = true → u.regB Reg.UPD_CTL 0 = true → u.sessionOf slot mac = none →
    exec (.updBlock dt dst et slot tag mac ix part crc bs) s = .next (u.updAnswer 0x21 slot tag mac xfNoSession 0)) ∧
  (∀ (dt : Nat) (dst et slot tag mac ix part crc : Nat) (bs : List Byte) (x : XferSession) (v : State) (s u : State), s.clock dt [⟨.blockDone, slot, 0⟩] = u → u.svcTakes dst et = true → u.regB Reg.UPD_CTL 0 = true → u.sessionOf slot mac = some x → u.setSession (some { x with last := u.sclk }) = v → part ≤ 3 → x.len / 4096 ≤ ix →
    exec (.updBlock dt dst et slot tag mac ix part crc bs) s = .next (v.updAnswer 0x21 slot tag mac xfRange 0)) ∧
  (∀ (dt : Nat) (dst et slot tag mac ix part crc : Nat) (bs : List Byte) (x y : XferSession) (v : State) (s u : State), s.clock dt [⟨.blockDone, slot, 0⟩] = u → u.svcTakes dst et = true → u.regB Reg.UPD_CTL 0 = true → u.sessionOf slot mac = some x → { x with last := u.sclk } = y → u.setSession (some y) = v → part ≤ 3 → ix < x.len / 4096 → bs.length = 1024 → x.parts.find? (fun b => b.index = ix) = none → x.parts.length < 16 →
    exec (.updBlock dt dst et slot tag mac ix part crc bs) s = .next (v.joinPart y ⟨ix, crc, []⟩ part tag bs)) ∧
  (∀ (dt : Nat) (dst et slot tag mac ix part crc : Nat) (bs : List Byte) (x y : XferSession) (b : PartBlock) (v : State) (s u : State), s.clock dt [⟨.blockDone, slot, 0⟩] = u → u.svcTakes dst et = true → u.regB Reg.UPD_CTL 0 = true → u.sessionOf slot mac = some x → { x with last := u.sclk } = y → u.setSession (some y) = v → part ≤ 3 → ix < x.len / 4096 → bs.length = 1024 → x.parts.find? (fun b => b.index = ix) = some b → b.crc = crc →
    exec (.updBlock dt dst et slot tag mac ix part crc bs) s = .next (v.joinPart y b part tag bs)) ∧
  (∀ (dt : Nat) (dst et slot tag mac ix part crc : Nat) (bs : List Byte) (x : XferSession) (v : State) (s u : State), s.clock dt [⟨.blockDone, slot, 0⟩] = u → u.svcTakes dst et = true → u.regB Reg.UPD_CTL 0 = true → u.sessionOf slot mac = some x → u.setSession (some { x with last := u.sclk }) = v → 3 < part →
    exec (.updBlock dt dst et slot tag mac ix part crc bs) s = .next (v.misused 428 0x120000)) ∧
  (∀ (dt : Nat) (dst et slot tag mac ix part crc : Nat) (bs : List Byte) (x y : XferSession) (b : PartBlock) (v : State) (s u : State), s.clock dt [⟨.blockDone, slot, 0⟩] = u → u.svcTakes dst et = true → u.regB Reg.UPD_CTL 0 = true → u.sessionOf slot mac = some x → { x with last := u.sclk } = y → u.setSession (some y) = v → part ≤ 3 → ix < x.len / 4096 → bs.length = 1024 → x.parts.find? (fun b => b.index = ix) = some b → b.crc ≠ crc →
    exec (.updBlock dt dst et slot tag mac ix part crc bs) s = .next (v.misused 428 0x120000)) ∧
  (∀ (s : State) (x : XferSession) (b c : PartBlock) (part tag : Nat) (bs : List Byte),
    { b with parts := (b.parts.filter (fun q => q.1 ≠ part)) ++ [(part, bs)] } = c → c.whole = none →
    s.joinPart x b part tag bs = s.setSession (some { x with parts := x.parts.filter (fun y => y.index ≠ b.index) ++ [c] })) ∧
  (∀ (s v : State) (x : XferSession) (b c : PartBlock) (part tag : Nat) (bs data : List Byte),
    { b with parts := (b.parts.filter (fun q => q.1 ≠ part)) ++ [(part, bs)] } = c → c.whole = some data →
    s.setSession (some { x with parts := x.parts.filter (fun y => y.index ≠ b.index) }) = v → sget [] (v.slot x.slot).blocks b.index = [] →
    (∀ w, v.setSlot x.slot { v.slot x.slot with blocks := sput [] (v.slot x.slot).blocks b.index data } = w → crc32 (data.map (fun y => y.toNat)) = b.crc →
      s.joinPart x b part tag bs = w.updAnswer 0x21 x.slot tag x.mac xfOk (w.stored x.slot)) ∧
    (crc32 (data.map (fun y => y.toNat)) ≠ b.crc → s.joinPart x b part tag bs = (v.countF Reg.UPD_XFER_ERR 15 0 1).updAnswer 0x21 x.slot tag x.mac xfCrc 0)) ∧
  (∀ (s v : State) (x : XferSession) (b c : PartBlock) (part tag : Nat) (bs data old : List Byte),
    { b with parts := (b.parts.filter (fun q => q.1 ≠ part)) ++ [(part, bs)] } = c → c.whole = some data →
    s.setSession (some { x with parts := x.parts.filter (fun y => y.index ≠ b.index) }) = v → sget [] (v.slot x.slot).blocks b.index = old → old ≠ [] →
    s.joinPart x b part tag bs = if crc32 (old.map (fun y => y.toNat)) = b.crc then v.updAnswer 0x21 x.slot tag x.mac xfOk (v.stored x.slot)
      else v.updAnswer 0x21 x.slot tag x.mac xfDup 0) ∧
  (∀ (dt : Nat) (dst et slot tag mac : Nat) (x : XferSession) (i : Nat) (v : State) (s u : State), s.advance dt = u → u.svcTakes dst et = true → u.regB Reg.UPD_CTL 0 = true → u.sessionOf slot mac = some x → u.setSession (some { x with last := u.sclk }) = v → v.firstMissing x = some i →
    exec (.updClose dt dst et slot tag mac) s = .next ((v.updAnswer 0x22 slot tag mac xfIncomplete i).raiseBit 35 1)) ∧
  (∀ (dt : Nat) (dst et slot tag mac : Nat) (x : XferSession) (v w : State) (s u : State), s.advance dt = u → u.svcTakes dst et = true → u.regB Reg.UPD_CTL 0 = true → u.sessionOf slot mac = some x → u.setSession (some { x with last := u.sclk }) = v → v.firstMissing x = none → crc32 ((v.slot slot).bytes.map (fun y => y.toNat)) = x.crc → v.suits (imgHdr (v.slot slot).bytes x.len) = true → u.pwr.recovery = false → (v.setSlot slot { v.slot slot with st := 2, hdr := some (imgHdr (v.slot slot).bytes x.len) }).setSession none = w →
    exec (.updClose dt dst et slot tag mac) s = .next ((w.updAnswer 0x22 slot tag mac xfOk (w.stored slot)).raiseBit 35 0)) ∧
  (∀ (dt : Nat) (dst et slot tag mac : Nat) (x : XferSession) (v : State) (s u : State), s.advance dt = u → u.svcTakes dst et = true → u.regB Reg.UPD_CTL 0 = true → u.sessionOf slot mac = some x → u.setSession (some { x with last := u.sclk }) = v → v.firstMissing x = none → (crc32 ((v.slot slot).bytes.map (fun y => y.toNat)) ≠ x.crc ∨ v.suits (imgHdr (v.slot slot).bytes x.len) = false) →
    exec (.updClose dt dst et slot tag mac) s = .next ((v.updAnswer 0x22 slot tag mac xfImage 0).raiseBit 35 1)) ∧
  (∀ (dt : Nat) (dst et slot tag mac : Nat) (x : XferSession) (s u : State), s.advance dt = u → u.svcTakes dst et = true → u.regB Reg.UPD_CTL 0 = true → u.sessionOf slot mac = some x →
    exec (.updAbort dt dst et slot tag mac) s = .next ((u.updAnswer 0x23 slot tag mac xfOk (u.stored slot)).setSession none)) ∧
  (∀ (dt : Nat) (dst et slot tag mac : Nat) (s u : State), s.advance dt = u → u.svcTakes dst et = true → u.regB Reg.UPD_CTL 0 = true → u.sessionOf slot mac = none →
    exec (.updAbort dt dst et slot tag mac) s = .next (u.updAnswer 0x23 slot tag mac xfNoSession 0)) ∧
  (∀ (dt : Nat) (x : XferSession) (s u : State), s.clock dt ((s.advance dt).timeoutEvs) = u → u.upd.session = some x → x.last + 60000 * msClk ≤ u.sclk →
    exec (.sessionTimeout dt) s = .next (u.setSession none)) ∧
  (∀ (dt : Nat) (s u : State), s.clock dt ((s.advance dt).timeoutEvs) = u → (∀ x, u.upd.session = some x → u.sclk < x.last + 60000 * msClk) →
    exec (.sessionTimeout dt) s = .next (u)) ∧
  (∀ (dt : Nat) (v : State) (s u : State), s.advance dt = u → u.pwr.recovery = true → (∀ x, u.upd.announced = some x → x + 1000 * msClk ≤ u.sclk) → ({ u with upd := { u.upd with announced := some u.sclk } } : State) = v →
    exec (.recoveryAnnounce dt) s = .next (v.emit (.serviceResponse (2 ^ 48 - 1) (leBytes 4 0x2F ++ leBytes 4 v.sysId.toNat ++ leBytes 8 (v.reg64 Reg.SYS_SERIAL_LO Reg.SYS_SERIAL_HI))))) ∧
  (∀ (dt : Nat) (s u : State), s.advance dt = u → u.pwr.recovery = false →
    exec (.recoveryAnnounce dt) s = .next (u)) ∧
  (∀ (dt : Nat) (v : State) (s u : State), s.clock dt ((s.advance dt).activationEvs) = u → u.regB Reg.UPD_ACT_EXT 17 = true → u.actTime ≤ u.now → u.noFeed = false → (u.role = 0 ∨ u.role = 3 ∨ u.role = 6) → u.disarm = v →
    exec (.activation dt) s = .next (({ v with upd := { v.upd with select := u.actSlot, chain := some u.actSlot } } : State).rstReq 0x5A5A0001)) ∧
  (∀ (dt : Nat) (s u : State), s.clock dt ((s.advance dt).activationEvs) = u → u.regB Reg.UPD_ACT_EXT 17 = true → u.actTime ≤ u.now → u.noFeed = false → u.role = 1 → u.pair.hand = none → u.upd.deferred = false →
    exec (.activation dt) s = .next (({ u with upd := { u.upd with deferred := true } } : State).raiseBit 35 2)) ∧
  (∀ (dt : Nat) (s u : State), s.clock dt ((s.advance dt).activationEvs) = u → (u.regB Reg.UPD_ACT_EXT 17 = false ∨ u.now < u.actTime) →
    exec (.activation dt) s = .next (u)) ∧
  (∀ (dt m : Nat) (v : Word) (s u : State), s.toWrite dt m Reg.UPD_FLOOR_REQ v = u → u.opens m true Reg.UPD_FLOOR_REQ = true → v &&& 0x0000FF00 = 0 → v.fld 31 16 = 0xA5C3 → u.upd.floor < v.fld 7 0 → v.fld 7 0 ≤ u.runSecver → u.upd.burn = none →
    exec (.floorRequest dt m v) s = .next ({ u with upd := { u.upd with burn := some (v.fld 7 0, u.sclk), refused := false } })) ∧
  (∀ (dt m : Nat) (v : Word) (s u : State), s.toWrite dt m Reg.UPD_FLOOR_REQ v = u → u.opens m true Reg.UPD_FLOOR_REQ = true → v &&& 0x0000FF00 = 0 → (v.fld 31 16 ≠ 0xA5C3 ∨ v.fld 7 0 ≤ u.upd.floor ∨ u.runSecver < v.fld 7 0 ∨ u.upd.burn ≠ none) →
    exec (.floorRequest dt m v) s = .next ({ u with upd := { u.upd with refused := true } })) ∧
  (∀ (dt : Nat) (n b : Nat) (s u : State), s.advance dt = u → u.upd.burn = some (n, b) → b + (n - u.upd.floor) * msClk ≤ u.sclk →
    exec (.floorBurnDone dt) s = .next (({ u with upd := { u.upd with floor := n, burn := none } } : State).raiseBit 35 3)) ∧
  (∀ (dt : Nat) (s u : State), s.advance dt = u → u.upd.burn = none →
    exec (.floorBurnDone dt) s = .next (u))

/-- FEED_LOW and FEED_LOW_CLEAR raise and clear LOW. FEED_LOSS counts the loss; the loss of the second feed begins hold-up.
FEED_GOOD starts a module that held in reset for want of a feed, with the cause of Table 17.5. VBAK_LOW and VBAK_LOSS move
VBAK_OK, and VBAK_LOSS without feeds loses the backup clock and the counter of the recorder. HOLDUP_MEASURE shows the
estimate. BROWNOUT and WATCHDOG reset the module; HOT moves the HOT flag, and THERMAL resets and holds the module until
THERMAL_RESET_RELEASE below 100 degrees. A reset leaves every register that is not kept at its reset value.
(17_power_and_startup) -/
def Obligations.SuppliesAndTemperature : Prop :=
  (∀ (dt : Nat) (f mv : Nat) (v : State) (s u : State), s.advance dt = u → f ≤ 1 → mv < 19200 → u.feedMv f mv = v → v.regB Reg.PWR_STS (2 + f) = false →
    exec (.feedLow dt f mv) s = .next ((v.setRegB Reg.PWR_STS (2 + f) true).raiseBit 17 1)) ∧
  (∀ (dt : Nat) (f mv : Nat) (s u : State), s.advance dt = u → (1 < f ∨ 19200 ≤ mv ∨ (u.feedMv f mv).regB Reg.PWR_STS (2 + f) = true) →
    exec (.feedLow dt f mv) s = .next (u.feedMv f mv)) ∧
  (∀ (dt : Nat) (f mv : Nat) (s u : State), s.advance dt = u → f ≤ 1 → 19600 < mv →
    exec (.feedLowClear dt f mv) s = .next ((u.feedMv f mv).setRegB Reg.PWR_STS (2 + f) false)) ∧
  (∀ (dt : Nat) (f mv : Nat) (v w : State) (s u : State), s.clock dt (((s.advance dt).feedEvs f mv)) = u → f ≤ 1 → mv < 16000 → u.feedMv f mv = v → v.regB Reg.PWR_STS f = true → ((v.setRegB Reg.PWR_STS f false).countF Reg.PWR_FEED_CNT (if f = 0 then 15 else 31) (if f = 0 then 0 else 16) 1).raiseBit 17 0 = w →
    exec (.feedLoss dt f mv) s = .next (if w.noFeed then w.powerFail else w)) ∧
  (∀ (s : State) (a : Nat), keptRegs.contains a = false → a ≠ Reg.PAIR_EPOCH → s.shutDown.reg a = regReset a) ∧
  (∀ (s : State), s.powerFail.pwr.held = some 2 ∧ s.powerFail.pwr.ready = false ∧ s.powerFail.role = 0) ∧
  (∀ (dt : Nat) (f mv p : Nat) (v w : State) (s u : State), s.advance dt = u → f ≤ 1 → 18000 < mv → u.feedMv f mv = v → v.regB Reg.PWR_STS f = false → (v.setRegB Reg.PWR_STS f true).raiseBit 17 0 = w → w.pwr.held = some 2 → w.pwr.holdup = some p →
    exec (.feedGood dt f mv) s = .next (w.startUnder (if w.pwr.lostD0 then 1 else if w.sclk < p + 12 * msClk then 3 else 2))) ∧
  (∀ (dt : Nat) (f mv : Nat) (v : State) (s u : State), s.advance dt = u → f ≤ 1 → 18000 < mv → (u.feedMv f mv).regB Reg.PWR_STS f = false → ((u.feedMv f mv).setRegB Reg.PWR_STS f true).raiseBit 17 0 = v → v.pwr.held = none →
    exec (.feedGood dt f mv) s = .next (v)) ∧
  (∀ (dt : Nat) (mv : Nat) (v : State) (s u : State), s.advance dt = u → 2500 < mv → (u.setRegF Reg.PWR_VBAK 15 0 (min 65535 mv)).extreme 32 (min 65535 mv : Nat) = v →
    exec (.vbakLow dt mv) s = .next (v.setRegB Reg.PWR_STS 4 true)) ∧
  (∀ (dt : Nat) (mv : Nat) (v w : State) (s u : State), s.advance dt = u → mv < 2500 → (u.setRegF Reg.PWR_VBAK 15 0 (min 65535 mv)).extreme 32 (min 65535 mv : Nat) = v → v.regB Reg.PWR_STS 4 = true → v.setRegB Reg.PWR_STS 4 false = w → w.noFeed = false →
    exec (.vbakLow dt mv) s = .next (w.raiseBit 17 2)) ∧
  (∀ (dt : Nat) (mv : Nat) (v : State) (s u : State), s.advance dt = u → mv < 2000 → u.vbak mv = v → v.noFeed = true →
    exec (.vbakLoss dt mv) s = .next ({ v with bkp := {}, recd := { v.recd with seq := 0 }, pwr := { v.pwr with lostD0 := true } })) ∧
  (∀ (dt : Nat) (mv : Nat) (s u : State), s.advance dt = u → (2000 ≤ mv ∨ (u.vbak mv).noFeed = false) →
    exec (.vbakLoss dt mv) s = .next (u.vbak mv)) ∧
  (∀ (dt : Nat) (bank est : Nat) (v : State) (s u : State), s.advance dt = u → u.regB Reg.PWR_STS 0 = true → u.regB Reg.PWR_STS 1 = true → u.regB Reg.PWR_STS 6 = false → u.setReg Reg.PWR_HOLDUP (w32 (min 65535 bank + min 65535 est * 2 ^ 16)) = v →
    exec (.holdupMeasure dt bank est) s = .next (if est < 1000 then (v.setRegB Reg.PWR_STS 6 true).raiseBit 17 4 else v.setRegB Reg.PWR_STS 6 false)) ∧
  (∀ (dt : Nat) (bank est : Nat) (s u : State), s.advance dt = u → (u.regB Reg.PWR_STS 0 = false ∨ u.regB Reg.PWR_STS 1 = false) →
    exec (.holdupMeasure dt bank est) s = .next (u)) ∧
  (∀ (dt : Nat) (rail mv : Nat) (v : State) (s u : State), s.advance dt = u → rail ≤ 3 → u.setRegF (if rail < 2 then Reg.PWR_RAIL0 else Reg.PWR_RAIL1) (if rail % 2 = 0 then 15 else 31) (if rail % 2 = 0 then 0 else 16) (min 65535 mv) = v → (mv < (railWindow rail).1 ∨ (railWindow rail).2 < mv) → v.isOn = true → v.regB Reg.PWR_DOM_STS 1 = true → v.noFeed = false →
    exec (.brownout dt rail mv) s = .next (v.moduleReset 6)) ∧
  (∀ (dt : Nat) (rail mv : Nat) (s u : State), s.advance dt = u → rail ≤ 3 → (railWindow rail).1 ≤ mv → mv ≤ (railWindow rail).2 →
    exec (.brownout dt rail mv) s = .next (u.setRegF (if rail < 2 then Reg.PWR_RAIL0 else Reg.PWR_RAIL1) (if rail % 2 = 0 then 15 else 31) (if rail % 2 = 0 then 0 else 16) (min 65535 mv))) ∧
  (∀ (dt : Nat) (s u : State), s.advance dt = u → u.isOn = true → u.pwr.booted = true → u.noFeed = false →
    exec (.watchdog dt) s = .next (u.moduleReset 5)) ∧
  (∀ (dt : Nat) (s u : State), s.advance dt = u → (u.isOn = false ∨ u.pwr.booted = false ∨ u.noFeed = true) →
    exec (.watchdog dt) s = .next (u)) ∧
  (∀ (dt : Nat) (die board : Int) (m : Word) (v w : State) (s u : State), s.advance dt = u → ((u.setReg Reg.PWR_TEMP (w32 (pattern 16 die + pattern 16 board * 2 ^ 16))).extreme 36 die).extreme 44 board = v → v.reg Reg.PWR_TEMP_MAX = m → v.setReg Reg.PWR_TEMP_MAX (w32 (pattern 16 (max die (signed 16 (m.fld 15 0))) + pattern 16 (max board (signed 16 (m.fld 31 16))) * 2 ^ 16)) = w →
    exec (.hot dt die board) s = .next (if 11000 < die then (if w.regB Reg.PWR_STS 7 then w else (w.setRegB Reg.PWR_STS 7 true).raiseBit 17 3) else if die < 10500 then w.setRegB Reg.PWR_STS 7 false else w)) ∧
  (∀ (dt : Nat) (die board : Int) (v w : State) (s u : State), s.advance dt = u → 12500 ≤ die → u.temps die board = v → v.isOn = true → v.noFeed = false → v.shutDown = w →
    exec (.thermal dt die board) s = .next ({ w with pwr := { w.pwr with held := some 7 } })) ∧
  (∀ (dt : Nat) (die board : Int) (s u : State), s.advance dt = u → die < 12500 →
    exec (.thermal dt die board) s = .next (u.temps die board)) ∧
  (∀ (dt : Nat) (die board : Int) (v : State) (s u : State), s.advance dt = u → die < 10000 → u.temps die board = v → v.pwr.held = some 7 → v.noFeed = false →
    exec (.thermalResetRelease dt die board) s = .next (v.startUnder 7)) ∧
  (∀ (dt : Nat) (die board : Int) (s u : State), s.advance dt = u → (10000 ≤ die ∨ (u.temps die board).pwr.held ≠ some 7) →
    exec (.thermalResetRelease dt die board) s = .next (u.temps die board))

/-- MODULE_RESET_REQUEST with the key closes the stretch, fences a module that runs the line and asks for a reset with cause
HOST; MODULE_RESET performs the reset asked for; a reset counts and shows its cause. PWR_DOM_REQ is refused unless the
module is OUT_OF_SERVICE, and DOMAIN_SWITCH_DONE switches the domain. BOOT tries the selected slot, then the other, then
enters the recovery mode. POWER_ON_RESET runs the start-up of a module that is on. TIME_SETTLE lets time count as settled
once it is locked or TIME_WAIT has passed. (17_power_and_startup, 18_firmware_update) -/
def Obligations.ResetsAndStartUp : Prop :=
  (∀ (dt m : Nat) (v : State) (s u : State), s.toWrite dt m Reg.SYS_RST_REQ 0x5A5A0001 = u → u.opens m true Reg.SYS_RST_REQ = true → u.noFeed = false → u.pwr.request = none → u.closeStretch 4 = v → (v.runs || decide (v.role = 5)) = true →
    exec (.moduleResetRequest dt m 0x5A5A0001) s = .next ({ (v.fence 2) with pwr := { (v.fence 2).pwr with request := some 4 } })) ∧
  (∀ (dt m : Nat) (v : State) (s u : State), s.toWrite dt m Reg.SYS_RST_REQ 0x5A5A0001 = u → u.opens m true Reg.SYS_RST_REQ = true → u.noFeed = false → u.pwr.request = none → u.closeStretch 4 = v → (v.runs || decide (v.role = 5)) = false →
    exec (.moduleResetRequest dt m 0x5A5A0001) s = .next ({ v with pwr := { v.pwr with request := some 4 } })) ∧
  (∀ (dt m : Nat) (v : Word) (s u : State), s.toWrite dt m Reg.SYS_RST_REQ v = u → u.opens m true Reg.SYS_RST_REQ = true → v &&& 0xFFFE = 0 → (v.fld 31 16 ≠ 0x5A5A ∨ v.bit 0 = false) →
    exec (.moduleResetRequest dt m v) s = .next (u)) ∧
  (∀ (dt : Nat) (c : Nat) (s u : State), s.advance dt = u → u.pwr.request = some c →
    exec (.moduleReset dt) s = .next (u.recordsOut.moduleReset c)) ∧
  (∀ (dt : Nat) (s u : State), s.advance dt = u → u.pwr.request = none →
    exec (.moduleReset dt) s = .next (u)) ∧
  (∀ (s v : State) (c : Nat), s.shutDown = v →
    s.moduleReset c = { (v.setReg Reg.PWR_RST_CAUSE (w32 (c + v.resetCount c * 2 ^ 16))) with pwr := { v.pwr with held := none, startAt := max v.sclk v.pwr.startAt, lostD0 := false } }) ∧
  (∀ (dt m : Nat) (v : Word) (s u : State), s.toWrite dt m Reg.PWR_DOM_REQ v = u → u.opens m true Reg.PWR_DOM_REQ = true → v &&& ~~~(0x1021C : Word) = 0 → (v &&& 0x21C).toNat ≠ 0 → u.role = 6 → (v.bit 3 = false ∨ u.order = Order.f) →
    exec (.pwrDomReq dt m v) s = .next ({ (u.setRegB Reg.PWR_DOM_STS 16 false) with pwr := { u.pwr with domReq := some ((v &&& 0x21C).toNat, v.bit 16) } })) ∧
  (∀ (dt m : Nat) (v : Word) (s u : State), s.toWrite dt m Reg.PWR_DOM_REQ v = u → u.opens m true Reg.PWR_DOM_REQ = true → v &&& ~~~(0x1021C : Word) = 0 → (v &&& 0x21C).toNat ≠ 0 → (u.role ≠ 6 ∨ (v.bit 3 = true ∧ u.order ≠ Order.f)) →
    exec (.pwrDomReq dt m v) s = .next (u.setRegB Reg.PWR_DOM_STS 16 true)) ∧
  (∀ (dt : Nat) (s u : State), s.advance dt = u → u.pwr.domReq = none →
    exec (.domainSwitchDone dt) s = .next (u)) ∧
  (∀ (dt : Nat) (v : State) (s u : State), s.advance dt = u → u.pwr.domReq = some (16, false) → u.domainOn 4 = true → (({ u with pwr := { u.pwr with domReq := none } } : State).setRegB Reg.PWR_DOM_STS 4 false) = v →
    exec (.domainSwitchDone dt) s = .next ((v.domainOff 4).raiseBit 17 5)) ∧
  (∀ (dt : Nat) (v : State) (s u : State), s.advance dt = u → u.pwr.domReq = some (512, false) → u.domainOn 9 = true → (({ u with pwr := { u.pwr with domReq := none } } : State).setRegB Reg.PWR_DOM_STS 9 false) = v →
    exec (.domainSwitchDone dt) s = .next ((v.domainOff 9).raiseBit 17 5)) ∧
  (∀ (dt : Nat) (s u : State), s.advance dt = u → u.inRom = false →
    exec (.boot dt) s = .next (u)) ∧
  (∀ (dt : Nat) (k : Nat) (v : State) (s u : State), s.advance dt = u → u.inRom = true → u.upd.select = k → ({ (u.setRegB Reg.PWR_DOM_STS 1 true) with pwr := { u.pwr with lampAt := some u.sclk } } : State) = v → ((v.slot k).st = 2 ∨ (v.slot k).st = 3 ∨ (v.slot k).st = 5) → v.accepts_ k = true →
    exec (.boot dt) s = .next (v.runSlot k k)) ∧
  (∀ (dt : Nat) (k : Nat) (v w : State) (s u : State), s.advance dt = u → u.inRom = true → u.upd.select = k → ({ (u.setRegB Reg.PWR_DOM_STS 1 true) with pwr := { u.pwr with lampAt := some u.sclk } } : State) = v → v.trySlot k = (w, false) → ((w.slot (1 - k)).st = 2 ∨ (w.slot (1 - k)).st = 3 ∨ (w.slot (1 - k)).st = 5) → w.accepts_ (1 - k) = true →
    exec (.boot dt) s = .next (w.runSlot (1 - k) k)) ∧
  (∀ (dt : Nat) (k : Nat) (v w x : State) (s u : State), s.advance dt = u → u.inRom = true → u.upd.select = k → ({ (u.setRegB Reg.PWR_DOM_STS 1 true) with pwr := { u.pwr with lampAt := some u.sclk } } : State) = v → v.trySlot k = (w, false) → w.trySlot (1 - k) = (x, false) →
    exec (.boot dt) s = .next ({ (x.setRegF Reg.PWR_DOM_STS 9 0 0x43) with pwr := { x.pwr with recovery := true } })) ∧
  (∀ (dt : Nat) (s u : State), s.advance dt = u → u.isOn = true → u.noFeed = false → u.pwr.recovery = false → u.pwr.startAt ≤ u.sclk → u.regF Reg.PWR_START_STS 3 0 ≤ 2 → u.pwr.booted = true →
    exec (.powerOnReset dt) s = .next (u.initialise)) ∧
  (∀ (dt : Nat) (s u : State), s.advance dt = u → (u.isOn = false ∨ u.noFeed = true ∨ u.pwr.recovery = true ∨ u.sclk < u.pwr.startAt ∨ 2 < u.regF Reg.PWR_START_STS 3 0) →
    exec (.powerOnReset dt) s = .next (u)) ∧
  (∀ (s : State), (State.startClock s).bkp.valid = s.bkp.valid ∧ (s.bkp.valid = false → s.startClock.ptp = 0)) ∧
  (∀ (dt : Nat) (s u : State), s.clock dt ((s.advance dt).settleEvs) = u → u.pwr.settled = false → u.pwr.roleAt ≠ none → (u.timeLocked || u.timeWaited) = true →
    exec (.timeSettle dt) s = .next (u.timeNoted.timeFollow)) ∧
  (∀ (dt : Nat) (s u : State), s.clock dt ((s.advance dt).settleEvs) = u → (u.pwr.settled = true ∨ u.pwr.roleAt = none ∨ (u.timeLocked || u.timeWaited) = false) →
    exec (.timeSettle dt) s = .next (u))

/-- For every state whose memories stand in their canonical form (addresses strictly rising and within the memory, no entry
equal to what an unlisted address reads as), whatever command is at the front of the queue and whatever it does, a step that
answers a next state answers one whose memories stand in canonical form, whose order code is the same (R1: it is the
module's build), and whose queue is the old one without its front. Every command completes: for every command, with every
operand, and every such state, its effect answers a next state (no command stops), which keeps the same; and so every step
from such a state answers one. (01_architecture, 15_memory_and_protection, 95_what_each_step_holds) -/
def Obligations.StepKeepsMemoriesAndQueue : Prop :=
  (∀ s t : State, s.inv → step s = .next t → t.inv ∧ t.order = s.order ∧ t.pending = s.pending.tail) ∧
  (∀ (c : Instr) (s : State), s.inv → Completes c s (fun t => t.inv ∧ t.order = s.order ∧ t.pending = s.pending)) ∧
  (∀ s : State, s.inv → ∃ t, step s = .next t)

/-- Right after reset the memories stand in canonical form and no command waits; every register reads as its reset value;
start-up stands at step 1 with the role NONE; only D0 is switched on; the MP is not ready; no message waits; the recorder
and the configuration sets of a module that never ran are empty. The reset values of some registers are stated by number.
That no feed is absent is the model's choice (log 32). (02_host_and_registers, 04_network_time, 12_pair_redundancy,
17_power_and_startup) -/
def Obligations.ResetState : Prop :=
  (State.reset.inv ∧ State.reset.pending = []) ∧
  (∀ a : Nat, State.reset.reg a = regReset a) ∧
  (State.reset.regF Reg.PWR_START_STS 3 0 = 1 ∧ State.reset.role = 0) ∧
  (∀ d : Nat, d < 10 → State.reset.domainOn d = decide (d = 0)) ∧
  (State.reset.mpReady = false ∧ ∀ n : Nat, State.reset.mbxGo n = false ∨ 18 ≤ n) ∧
  (State.reset.reg Reg.SYS_ID = 0x08084201 ∧ State.reset.reg Reg.SYS_SVC_ETYPE = 0x88B5 ∧ State.reset.reg Reg.SYS_RRA_CTL = 0x10 ∧
    State.reset.reg Reg.TIM_CTL = 0x11 ∧ State.reset.reg Reg.TIM_INCR_LO = 0x40000000 ∧ State.reset.reg Reg.TIM_INCR_HI = 1 ∧
    State.reset.reg Reg.PLM_FIXED_CFG = 10000 ∧ State.reset.reg Reg.PAIR_CTL = 3 ∧ State.reset.reg Reg.PWR_VLOG_MIN = 0xFFFFFFFF)
end

