-- ==== Sys2Proof/Laws/Sparse.lean ====
section
/-!
SUPPORT. The laws of sparse tables: reading after a write, and the canonical form that every write keeps.
-/
namespace Sys2Proof.Machine

variable {α : Type}

/-! ### Reading after a write -/

theorem risingFrom_weaken {lo lo' : Nat} (h : lo' ≤ lo) {m : Sparse α} (hm : risingFrom lo m = true) : risingFrom lo' m = true := by
  cases m with
  | nil => rfl
  | cons e r =>
    obtain ⟨k, v⟩ := e
    simp only [risingFrom, Bool.and_eq_true, decide_eq_true_eq] at hm ⊢
    exact ⟨Nat.le_trans h hm.1, hm.2⟩

theorem sget_sins (d : α) (m : Sparse α) (a b : Nat) (x : α) : sget d (sins m a x) b = if b = a then x else sget d m b := by
  induction m with
  | nil => by_cases h : b = a <;> simp [sins, sget, h]
  | cons e r ih =>
    obtain ⟨k, v⟩ := e
    simp only [sins]
    split
    · by_cases h : b = a <;> simp [sget, h]
    · split
      · subst_vars; by_cases h : b = k <;> simp [sget, h]
      · simp only [sget, ih]
        by_cases hb : b = k
        · have : b ≠ a := by omega
          simp [hb]; intro h; omega
        · simp [hb]

theorem sget_sdel (d : α) (m : Sparse α) (a b : Nat) : sget d (sdel m a) b = if b = a then d else sget d m b := by
  induction m with
  | nil => simp [sdel, sget]
  | cons e r ih =>
    obtain ⟨k, v⟩ := e
    simp only [sdel]
    split
    · rename_i h; subst h
      rw [ih]; by_cases hb : b = a <;> simp [sget, hb]
    · simp only [sget, ih]
      by_cases hb : b = k
      · have : b ≠ a := by omega
        simp [hb]; intro h; omega
      · simp [hb]

/-- Reading a table after a write. -/
theorem sget_sput [DecidableEq α] (d : α) (m : Sparse α) (a b : Nat) (x : α) :
    sget d (sput d m a x) b = if b = a then x else sget d m b := by
  simp only [sput]
  split
  · rename_i h; rw [sget_sdel, h]
  · exact sget_sins d m a b x

/-- A write is read back. -/
@[simp] theorem sget_sput_self [DecidableEq α] (d : α) (m : Sparse α) (a : Nat) (x : α) : sget d (sput d m a x) a = x := by
  simp [sget_sput]

/-- A write leaves every other key, whatever an unlisted key reads as. -/
@[simp] theorem sget_sput_ne [DecidableEq α] (d e : α) (m : Sparse α) {a b : Nat} (h : b ≠ a) (x : α) :
    sget e (sput d m a x) b = sget e m b := by
  simp only [sput]
  split
  · rw [sget_sdel, if_neg h]
  · rw [sget_sins, if_neg h]

/-- Reading a table after the change of one entry. -/
theorem sget_smod [DecidableEq α] (d : α) (m : Sparse α) (a b : Nat) (f : α → α) :
    sget d (smod d m a f) b = if b = a then f (sget d m a) else sget d m b := sget_sput ..

@[simp] theorem sget_smod_self [DecidableEq α] (d : α) (m : Sparse α) (a : Nat) (f : α → α) :
    sget d (smod d m a f) a = f (sget d m a) := by simp [sget_smod]

@[simp] theorem sget_smod_ne [DecidableEq α] (d : α) (m : Sparse α) {a b : Nat} (h : b ≠ a) (f : α → α) :
    sget d (smod d m a f) b = sget d m b := sget_sput_ne d d m h _

/-! ### The canonical form -/

theorem risingFrom_sins {lo : Nat} (m : Sparse α) (hm : risingFrom lo m = true) (a : Nat) (x : α) (h : lo ≤ a) :
    risingFrom lo (sins m a x) = true := by
  induction m generalizing lo with
  | nil => simpa [sins, risingFrom] using h
  | cons e r ih =>
    obtain ⟨k, v⟩ := e
    simp only [risingFrom, Bool.and_eq_true, decide_eq_true_eq] at hm
    simp only [sins]
    split
    · simp only [risingFrom, Bool.and_eq_true, decide_eq_true_eq]
      exact ⟨h, by omega, hm.2⟩
    · split
      · rename_i h1 h2; subst h2; simp [risingFrom, h, hm.2]
      · simp only [risingFrom, Bool.and_eq_true, decide_eq_true_eq]
        exact ⟨hm.1, ih hm.2 (by omega)⟩

theorem risingFrom_sdel {lo : Nat} (m : Sparse α) (hm : risingFrom lo m = true) (a : Nat) : risingFrom lo (sdel m a) = true := by
  induction m generalizing lo with
  | nil => rfl
  | cons e r ih =>
    obtain ⟨k, v⟩ := e
    simp only [risingFrom, Bool.and_eq_true, decide_eq_true_eq] at hm
    simp only [sdel]
    split
    · exact risingFrom_weaken (by omega) (ih hm.2)
    · simp only [risingFrom, Bool.and_eq_true, decide_eq_true_eq]
      exact ⟨hm.1, ih hm.2⟩

theorem risingFrom_sput [DecidableEq α] (d : α) (m : Sparse α) (hm : risingFrom 0 m = true) (a : Nat) (x : α) :
    risingFrom 0 (sput d m a x) = true := by
  simp only [sput]
  split
  · exact risingFrom_sdel m hm a
  · exact risingFrom_sins m hm a x (Nat.zero_le _)

theorem mem_sins {m : Sparse α} {a : Nat} {x : α} {e : Nat × α} (h : e ∈ sins m a x) : e = (a, x) ∨ e ∈ m := by
  induction m with
  | nil => simpa [sins] using h
  | cons f r ih =>
    obtain ⟨k, v⟩ := f
    simp only [sins] at h
    split at h
    · simpa using h
    · split at h
      · rename_i h1 h2; simp only [List.mem_cons] at h ⊢
        rcases h with h | h
        · exact .inl h
        · exact .inr (.inr h)
      · simp only [List.mem_cons] at h ⊢
        rcases h with h | h
        · exact .inr (.inl h)
        · rcases ih h with h | h
          · exact .inl h
          · exact .inr (.inr h)

theorem mem_sdel {m : Sparse α} {a : Nat} {e : Nat × α} (h : e ∈ sdel m a) : e ∈ m := by
  induction m with
  | nil => exact h
  | cons f r ih =>
    obtain ⟨k, v⟩ := f
    simp only [sdel] at h
    split at h
    · exact List.mem_cons_of_mem _ (ih h)
    · simp only [List.mem_cons] at h ⊢
      rcases h with h | h
      · exact .inl h
      · exact .inr (ih h)

/-- Every entry of a table after a write is the one written or stood in the table. -/
theorem mem_sput [DecidableEq α] {d : α} {m : Sparse α} {a : Nat} {x : α} {e : Nat × α} (h : e ∈ sput d m a x) :
    (e = (a, x) ∧ x ≠ d) ∨ e ∈ m := by
  simp only [sput] at h
  split at h
  · exact .inr (mem_sdel h)
  · rename_i hx
    rcases mem_sins h with h | h
    · exact .inl ⟨h, hx⟩
    · exact .inr h

/-- A write keeps the canonical form. -/
theorem swf_sput [DecidableEq α] (d : Nat → α) (m : Sparse α) (hm : swf d m = true) (a : Nat) (x : α) :
    swf d (sput (d a) m a x) = true := by
  simp only [swf, Bool.and_eq_true, List.all_eq_true, decide_eq_true_eq] at hm ⊢
  refine ⟨risingFrom_sput (d a) m hm.1 a x, fun e he => ?_⟩
  rcases mem_sput he with ⟨rfl, h⟩ | h
  · exact h
  · exact hm.2 e h

/-- A part of a canonical table is canonical. -/
theorem swf_filter [DecidableEq α] (d : Nat → α) (m : Sparse α) (p : Nat × α → Bool) (hm : swf d m = true) :
    swf d (m.filter p) = true := by
  have hr : ∀ (lo : Nat) (m : Sparse α), risingFrom lo m = true → risingFrom lo (m.filter p) = true := by
    intro lo m
    induction m generalizing lo with
    | nil => intro _; rfl
    | cons e r ih =>
      obtain ⟨k, v⟩ := e
      intro h
      simp only [risingFrom, Bool.and_eq_true, decide_eq_true_eq] at h
      simp only [List.filter_cons]
      split
      · simp only [risingFrom, Bool.and_eq_true, decide_eq_true_eq]; exact ⟨h.1, ih _ h.2⟩
      · exact risingFrom_weaken (by omega) (ih _ h.2)
  simp only [swf, Bool.and_eq_true, List.all_eq_true, decide_eq_true_eq] at hm ⊢
  exact ⟨hr 0 m hm.1, fun e he => hm.2 e (List.mem_filter.1 he).1⟩

/-! ### Writing twice -/

theorem sins_sins (m : Sparse α) (a : Nat) (x y : α) : sins (sins m a x) a y = sins m a y := by
  induction m with
  | nil => simp [sins]
  | cons e r ih =>
    obtain ⟨k, v⟩ := e
    by_cases h1 : a < k
    · simp [sins, h1]
    · by_cases h2 : a = k
      · simp [sins, h2]
      · simp [sins, h1, h2, ih]

/-- Of two writes of one key the later remains, where neither takes the entry off the list. -/
theorem sput_sput_of_ne [DecidableEq α] {d x y : α} (m : Sparse α) (a : Nat) (hx : x ≠ d) (hy : y ≠ d) :
    sput d (sput d m a x) a y = sput d m a y := by
  simp [sput, hx, hy, sins_sins]

end Sys2Proof.Machine
end

