-- ==== Sys2Proof/Laws/State.lean ====
section
/-!
SUPPORT. The laws of the state's updates: what a register reads after a write, and one lemma for each update and each field
that it leaves as it was.
-/
namespace Sys2Proof.Machine

/-! ### Bits and fields of a word -/

theorem Word.bit_setBit (w : Word) (i j : Nat) (b : Bool) (hi : i < 32) :
    (w.setBit i b).bit j = if j = i then b else w.bit j := by
  unfold Word.setBit Word.bit
  cases b
  · simp only [Bool.false_eq_true, if_false, BitVec.getLsbD_and, BitVec.getLsbD_not, BitVec.getLsbD_twoPow]
    by_cases h : j = i
    · subst h; simp [hi]
    · by_cases hj : j < 32
      · have : i ≠ j := fun e => h e.symm
        simp [h, hj, this]
      · simp [h, BitVec.getLsbD_of_ge w j (by omega)]
  · simp only [if_true, BitVec.getLsbD_or, BitVec.getLsbD_twoPow]
    by_cases h : j = i
    · subst h; simp [hi]
    · have : i ≠ j := fun e => h e.symm
      simp [h, this]

/-! ### Registers -/

@[simp] theorem majority_zero : majority ((0 : Word), (0 : Word), (0 : Word)) = 0 := rfl

/-- A register reads what was written to it, and every other register what it read before. -/
theorem State.setReg_reg (s : State) (a b : Nat) (v : Word) : (s.setReg a v).reg b = if b = a then v else s.reg b := by
  unfold State.reg State.setReg
  by_cases h : b = a
  · subst h; simp only [sget_sput_self, if_true]
  · simp only [h, if_false, sget_sput_ne _ _ _ h]

@[simp] theorem State.setReg_reg_self (s : State) (a : Nat) (v : Word) : (s.setReg a v).reg a = v := by simp [State.setReg_reg]

@[simp] theorem State.setReg_reg_ne (s : State) {a b : Nat} (h : b ≠ a) (v : Word) : (s.setReg a v).reg b = s.reg b := by
  simp [State.setReg_reg, h]

/-- A single upset copy never shows: two copies outvote it (R36, R37). -/
theorem majority_single (x : Word) : majority (x, 0, 0) = 0 := by simp [majority]

/-! ### One lemma for each update and each field it leaves -/

@[simp] theorem State.setReg_order (s : State) (a : Nat) (v : Word) : (s.setReg a v).order = s.order := rfl
@[simp] theorem State.setReg_sclk (s : State) (a : Nat) (v : Word) : (s.setReg a v).sclk = s.sclk := rfl
@[simp] theorem State.setReg_clk (s : State) (a : Nat) (v : Word) : (s.setReg a v).clk = s.clk := rfl
@[simp] theorem State.setReg_ptp (s : State) (a : Nat) (v : Word) : (s.setReg a v).ptp = s.ptp := rfl
@[simp] theorem State.setReg_bkp (s : State) (a : Nat) (v : Word) : (s.setReg a v).bkp = s.bkp := rfl
@[simp] theorem State.setReg_rlat (s : State) (a : Nat) (v : Word) : (s.setReg a v).rlat = s.rlat := rfl
@[simp] theorem State.setReg_wlat (s : State) (a : Nat) (v : Word) : (s.setReg a v).wlat = s.wlat := rfl
@[simp] theorem State.setReg_cfgA (s : State) (a : Nat) (v : Word) : (s.setReg a v).cfgA = s.cfgA := rfl
@[simp] theorem State.setReg_cfgS (s : State) (a : Nat) (v : Word) : (s.setReg a v).cfgS = s.cfgS := rfl
@[simp] theorem State.setReg_tsq (s : State) (a : Nat) (v : Word) : (s.setReg a v).tsq = s.tsq := rfl
@[simp] theorem State.setReg_servo (s : State) (a : Nat) (v : Word) : (s.setReg a v).servo = s.servo := rfl
@[simp] theorem State.setReg_ptpPorts (s : State) (a : Nat) (v : Word) : (s.setReg a v).ptpPorts = s.ptpPorts := rfl
@[simp] theorem State.setReg_dats (s : State) (a : Nat) (v : Word) : (s.setReg a v).dats = s.dats := rfl
@[simp] theorem State.setReg_stk (s : State) (a : Nat) (v : Word) : (s.setReg a v).stk = s.stk := rfl
@[simp] theorem State.setReg_ports (s : State) (a : Nat) (v : Word) : (s.setReg a v).ports = s.ports := rfl
@[simp] theorem State.setReg_hbAt (s : State) (a : Nat) (v : Word) : (s.setReg a v).hbAt = s.hbAt := rfl
@[simp] theorem State.setReg_img (s : State) (a : Nat) (v : Word) : (s.setReg a v).img = s.img := rfl
@[simp] theorem State.setReg_konst (s : State) (a : Nat) (v : Word) : (s.setReg a v).konst = s.konst := rfl
@[simp] theorem State.setReg_prog (s : State) (a : Nat) (v : Word) : (s.setReg a v).prog = s.prog := rfl
@[simp] theorem State.setReg_progBytes (s : State) (a : Nat) (v : Word) : (s.setReg a v).progBytes = s.progBytes := rfl
@[simp] theorem State.setReg_engs (s : State) (a : Nat) (v : Word) : (s.setReg a v).engs = s.engs := rfl
@[simp] theorem State.setReg_plm (s : State) (a : Nat) (v : Word) : (s.setReg a v).plm = s.plm := rfl
@[simp] theorem State.setReg_blk (s : State) (a : Nat) (v : Word) : (s.setReg a v).blk = s.blk := rfl
@[simp] theorem State.setReg_viols (s : State) (a : Nat) (v : Word) : (s.setReg a v).viols = s.viols := rfl
@[simp] theorem State.setReg_cmp (s : State) (a : Nat) (v : Word) : (s.setReg a v).cmp = s.cmp := rfl
@[simp] theorem State.setReg_pair (s : State) (a : Nat) (v : Word) : (s.setReg a v).pair = s.pair := rfl
@[simp] theorem State.setReg_mp (s : State) (a : Nat) (v : Word) : (s.setReg a v).mp = s.mp := rfl
@[simp] theorem State.setReg_grps (s : State) (a : Nat) (v : Word) : (s.setReg a v).grps = s.grps := rfl
@[simp] theorem State.setReg_chans (s : State) (a : Nat) (v : Word) : (s.setReg a v).chans = s.chans := rfl
@[simp] theorem State.setReg_cans (s : State) (a : Nat) (v : Word) : (s.setReg a v).cans = s.cans := rfl
@[simp] theorem State.setReg_ctls (s : State) (a : Nat) (v : Word) : (s.setReg a v).ctls = s.ctls := rfl
@[simp] theorem State.setReg_fis (s : State) (a : Nat) (v : Word) : (s.setReg a v).fis = s.fis := rfl
@[simp] theorem State.setReg_fos (s : State) (a : Nat) (v : Word) : (s.setReg a v).fos = s.fos := rfl
@[simp] theorem State.setReg_recd (s : State) (a : Nat) (v : Word) : (s.setReg a v).recd = s.recd := rfl
@[simp] theorem State.setReg_mram (s : State) (a : Nat) (v : Word) : (s.setReg a v).mram = s.mram := rfl
@[simp] theorem State.setReg_mem (s : State) (a : Nat) (v : Word) : (s.setReg a v).mem = s.mem := rfl
@[simp] theorem State.setReg_pwr (s : State) (a : Nat) (v : Word) : (s.setReg a v).pwr = s.pwr := rfl
@[simp] theorem State.setReg_upd (s : State) (a : Nat) (v : Word) : (s.setReg a v).upd = s.upd := rfl
@[simp] theorem State.setReg_out (s : State) (a : Nat) (v : Word) : (s.setReg a v).out = s.out := rfl
@[simp] theorem State.setReg_free (s : State) (a : Nat) (v : Word) : (s.setReg a v).free = s.free := rfl
@[simp] theorem State.setReg_pending (s : State) (a : Nat) (v : Word) : (s.setReg a v).pending = s.pending := rfl

@[simp] theorem State.emit_order (s : State) (o : Output) : (s.emit o).order = s.order := rfl
@[simp] theorem State.emit_sclk (s : State) (o : Output) : (s.emit o).sclk = s.sclk := rfl
@[simp] theorem State.emit_clk (s : State) (o : Output) : (s.emit o).clk = s.clk := rfl
@[simp] theorem State.emit_ptp (s : State) (o : Output) : (s.emit o).ptp = s.ptp := rfl
@[simp] theorem State.emit_bkp (s : State) (o : Output) : (s.emit o).bkp = s.bkp := rfl
@[simp] theorem State.emit_regs (s : State) (o : Output) : (s.emit o).regs = s.regs := rfl
@[simp] theorem State.emit_flips (s : State) (o : Output) : (s.emit o).flips = s.flips := rfl
@[simp] theorem State.emit_rlat (s : State) (o : Output) : (s.emit o).rlat = s.rlat := rfl
@[simp] theorem State.emit_wlat (s : State) (o : Output) : (s.emit o).wlat = s.wlat := rfl
@[simp] theorem State.emit_cfgA (s : State) (o : Output) : (s.emit o).cfgA = s.cfgA := rfl
@[simp] theorem State.emit_cfgS (s : State) (o : Output) : (s.emit o).cfgS = s.cfgS := rfl
@[simp] theorem State.emit_tsq (s : State) (o : Output) : (s.emit o).tsq = s.tsq := rfl
@[simp] theorem State.emit_servo (s : State) (o : Output) : (s.emit o).servo = s.servo := rfl
@[simp] theorem State.emit_ptpPorts (s : State) (o : Output) : (s.emit o).ptpPorts = s.ptpPorts := rfl
@[simp] theorem State.emit_dats (s : State) (o : Output) : (s.emit o).dats = s.dats := rfl
@[simp] theorem State.emit_stk (s : State) (o : Output) : (s.emit o).stk = s.stk := rfl
@[simp] theorem State.emit_ports (s : State) (o : Output) : (s.emit o).ports = s.ports := rfl
@[simp] theorem State.emit_hbAt (s : State) (o : Output) : (s.emit o).hbAt = s.hbAt := rfl
@[simp] theorem State.emit_img (s : State) (o : Output) : (s.emit o).img = s.img := rfl
@[simp] theorem State.emit_konst (s : State) (o : Output) : (s.emit o).konst = s.konst := rfl
@[simp] theorem State.emit_prog (s : State) (o : Output) : (s.emit o).prog = s.prog := rfl
@[simp] theorem State.emit_progBytes (s : State) (o : Output) : (s.emit o).progBytes = s.progBytes := rfl
@[simp] theorem State.emit_engs (s : State) (o : Output) : (s.emit o).engs = s.engs := rfl
@[simp] theorem State.emit_plm (s : State) (o : Output) : (s.emit o).plm = s.plm := rfl
@[simp] theorem State.emit_blk (s : State) (o : Output) : (s.emit o).blk = s.blk := rfl
@[simp] theorem State.emit_viols (s : State) (o : Output) : (s.emit o).viols = s.viols := rfl
@[simp] theorem State.emit_cmp (s : State) (o : Output) : (s.emit o).cmp = s.cmp := rfl
@[simp] theorem State.emit_pair (s : State) (o : Output) : (s.emit o).pair = s.pair := rfl
@[simp] theorem State.emit_mp (s : State) (o : Output) : (s.emit o).mp = s.mp := rfl
@[simp] theorem State.emit_grps (s : State) (o : Output) : (s.emit o).grps = s.grps := rfl
@[simp] theorem State.emit_chans (s : State) (o : Output) : (s.emit o).chans = s.chans := rfl
@[simp] theorem State.emit_cans (s : State) (o : Output) : (s.emit o).cans = s.cans := rfl
@[simp] theorem State.emit_ctls (s : State) (o : Output) : (s.emit o).ctls = s.ctls := rfl
@[simp] theorem State.emit_fis (s : State) (o : Output) : (s.emit o).fis = s.fis := rfl
@[simp] theorem State.emit_fos (s : State) (o : Output) : (s.emit o).fos = s.fos := rfl
@[simp] theorem State.emit_recd (s : State) (o : Output) : (s.emit o).recd = s.recd := rfl
@[simp] theorem State.emit_mram (s : State) (o : Output) : (s.emit o).mram = s.mram := rfl
@[simp] theorem State.emit_mem (s : State) (o : Output) : (s.emit o).mem = s.mem := rfl
@[simp] theorem State.emit_pwr (s : State) (o : Output) : (s.emit o).pwr = s.pwr := rfl
@[simp] theorem State.emit_upd (s : State) (o : Output) : (s.emit o).upd = s.upd := rfl
@[simp] theorem State.emit_free (s : State) (o : Output) : (s.emit o).free = s.free := rfl
@[simp] theorem State.emit_pending (s : State) (o : Output) : (s.emit o).pending = s.pending := rfl

@[simp] theorem State.tally_order (s : State) (off n : Nat) : (s.tally off n).order = s.order := rfl
@[simp] theorem State.tally_sclk (s : State) (off n : Nat) : (s.tally off n).sclk = s.sclk := rfl
@[simp] theorem State.tally_clk (s : State) (off n : Nat) : (s.tally off n).clk = s.clk := rfl
@[simp] theorem State.tally_ptp (s : State) (off n : Nat) : (s.tally off n).ptp = s.ptp := rfl
@[simp] theorem State.tally_bkp (s : State) (off n : Nat) : (s.tally off n).bkp = s.bkp := rfl
@[simp] theorem State.tally_regs (s : State) (off n : Nat) : (s.tally off n).regs = s.regs := rfl
@[simp] theorem State.tally_flips (s : State) (off n : Nat) : (s.tally off n).flips = s.flips := rfl
@[simp] theorem State.tally_rlat (s : State) (off n : Nat) : (s.tally off n).rlat = s.rlat := rfl
@[simp] theorem State.tally_wlat (s : State) (off n : Nat) : (s.tally off n).wlat = s.wlat := rfl
@[simp] theorem State.tally_cfgA (s : State) (off n : Nat) : (s.tally off n).cfgA = s.cfgA := rfl
@[simp] theorem State.tally_cfgS (s : State) (off n : Nat) : (s.tally off n).cfgS = s.cfgS := rfl
@[simp] theorem State.tally_tsq (s : State) (off n : Nat) : (s.tally off n).tsq = s.tsq := rfl
@[simp] theorem State.tally_servo (s : State) (off n : Nat) : (s.tally off n).servo = s.servo := rfl
@[simp] theorem State.tally_ptpPorts (s : State) (off n : Nat) : (s.tally off n).ptpPorts = s.ptpPorts := rfl
@[simp] theorem State.tally_dats (s : State) (off n : Nat) : (s.tally off n).dats = s.dats := rfl
@[simp] theorem State.tally_stk (s : State) (off n : Nat) : (s.tally off n).stk = s.stk := rfl
@[simp] theorem State.tally_ports (s : State) (off n : Nat) : (s.tally off n).ports = s.ports := rfl
@[simp] theorem State.tally_hbAt (s : State) (off n : Nat) : (s.tally off n).hbAt = s.hbAt := rfl
@[simp] theorem State.tally_img (s : State) (off n : Nat) : (s.tally off n).img = s.img := rfl
@[simp] theorem State.tally_konst (s : State) (off n : Nat) : (s.tally off n).konst = s.konst := rfl
@[simp] theorem State.tally_prog (s : State) (off n : Nat) : (s.tally off n).prog = s.prog := rfl
@[simp] theorem State.tally_progBytes (s : State) (off n : Nat) : (s.tally off n).progBytes = s.progBytes := rfl
@[simp] theorem State.tally_engs (s : State) (off n : Nat) : (s.tally off n).engs = s.engs := rfl
@[simp] theorem State.tally_plm (s : State) (off n : Nat) : (s.tally off n).plm = s.plm := rfl
@[simp] theorem State.tally_blk (s : State) (off n : Nat) : (s.tally off n).blk = s.blk := rfl
@[simp] theorem State.tally_viols (s : State) (off n : Nat) : (s.tally off n).viols = s.viols := rfl
@[simp] theorem State.tally_cmp (s : State) (off n : Nat) : (s.tally off n).cmp = s.cmp := rfl
@[simp] theorem State.tally_pair (s : State) (off n : Nat) : (s.tally off n).pair = s.pair := rfl
@[simp] theorem State.tally_mp (s : State) (off n : Nat) : (s.tally off n).mp = s.mp := rfl
@[simp] theorem State.tally_grps (s : State) (off n : Nat) : (s.tally off n).grps = s.grps := rfl
@[simp] theorem State.tally_chans (s : State) (off n : Nat) : (s.tally off n).chans = s.chans := rfl
@[simp] theorem State.tally_cans (s : State) (off n : Nat) : (s.tally off n).cans = s.cans := rfl
@[simp] theorem State.tally_ctls (s : State) (off n : Nat) : (s.tally off n).ctls = s.ctls := rfl
@[simp] theorem State.tally_fis (s : State) (off n : Nat) : (s.tally off n).fis = s.fis := rfl
@[simp] theorem State.tally_fos (s : State) (off n : Nat) : (s.tally off n).fos = s.fos := rfl
@[simp] theorem State.tally_mram (s : State) (off n : Nat) : (s.tally off n).mram = s.mram := rfl
@[simp] theorem State.tally_mem (s : State) (off n : Nat) : (s.tally off n).mem = s.mem := rfl
@[simp] theorem State.tally_pwr (s : State) (off n : Nat) : (s.tally off n).pwr = s.pwr := rfl
@[simp] theorem State.tally_upd (s : State) (off n : Nat) : (s.tally off n).upd = s.upd := rfl
@[simp] theorem State.tally_out (s : State) (off n : Nat) : (s.tally off n).out = s.out := rfl
@[simp] theorem State.tally_free (s : State) (off n : Nat) : (s.tally off n).free = s.free := rfl
@[simp] theorem State.tally_pending (s : State) (off n : Nat) : (s.tally off n).pending = s.pending := rfl

@[simp] theorem State.extreme_order (s : State) (off : Nat) (v : Int) : (s.extreme off v).order = s.order := rfl
@[simp] theorem State.extreme_sclk (s : State) (off : Nat) (v : Int) : (s.extreme off v).sclk = s.sclk := rfl
@[simp] theorem State.extreme_clk (s : State) (off : Nat) (v : Int) : (s.extreme off v).clk = s.clk := rfl
@[simp] theorem State.extreme_ptp (s : State) (off : Nat) (v : Int) : (s.extreme off v).ptp = s.ptp := rfl
@[simp] theorem State.extreme_bkp (s : State) (off : Nat) (v : Int) : (s.extreme off v).bkp = s.bkp := rfl
@[simp] theorem State.extreme_regs (s : State) (off : Nat) (v : Int) : (s.extreme off v).regs = s.regs := rfl
@[simp] theorem State.extreme_flips (s : State) (off : Nat) (v : Int) : (s.extreme off v).flips = s.flips := rfl
@[simp] theorem State.extreme_rlat (s : State) (off : Nat) (v : Int) : (s.extreme off v).rlat = s.rlat := rfl
@[simp] theorem State.extreme_wlat (s : State) (off : Nat) (v : Int) : (s.extreme off v).wlat = s.wlat := rfl
@[simp] theorem State.extreme_cfgA (s : State) (off : Nat) (v : Int) : (s.extreme off v).cfgA = s.cfgA := rfl
@[simp] theorem State.extreme_cfgS (s : State) (off : Nat) (v : Int) : (s.extreme off v).cfgS = s.cfgS := rfl
@[simp] theorem State.extreme_tsq (s : State) (off : Nat) (v : Int) : (s.extreme off v).tsq = s.tsq := rfl
@[simp] theorem State.extreme_servo (s : State) (off : Nat) (v : Int) : (s.extreme off v).servo = s.servo := rfl
@[simp] theorem State.extreme_ptpPorts (s : State) (off : Nat) (v : Int) : (s.extreme off v).ptpPorts = s.ptpPorts := rfl
@[simp] theorem State.extreme_dats (s : State) (off : Nat) (v : Int) : (s.extreme off v).dats = s.dats := rfl
@[simp] theorem State.extreme_stk (s : State) (off : Nat) (v : Int) : (s.extreme off v).stk = s.stk := rfl
@[simp] theorem State.extreme_ports (s : State) (off : Nat) (v : Int) : (s.extreme off v).ports = s.ports := rfl
@[simp] theorem State.extreme_hbAt (s : State) (off : Nat) (v : Int) : (s.extreme off v).hbAt = s.hbAt := rfl
@[simp] theorem State.extreme_img (s : State) (off : Nat) (v : Int) : (s.extreme off v).img = s.img := rfl
@[simp] theorem State.extreme_konst (s : State) (off : Nat) (v : Int) : (s.extreme off v).konst = s.konst := rfl
@[simp] theorem State.extreme_prog (s : State) (off : Nat) (v : Int) : (s.extreme off v).prog = s.prog := rfl
@[simp] theorem State.extreme_progBytes (s : State) (off : Nat) (v : Int) : (s.extreme off v).progBytes = s.progBytes := rfl
@[simp] theorem State.extreme_engs (s : State) (off : Nat) (v : Int) : (s.extreme off v).engs = s.engs := rfl
@[simp] theorem State.extreme_plm (s : State) (off : Nat) (v : Int) : (s.extreme off v).plm = s.plm := rfl
@[simp] theorem State.extreme_blk (s : State) (off : Nat) (v : Int) : (s.extreme off v).blk = s.blk := rfl
@[simp] theorem State.extreme_viols (s : State) (off : Nat) (v : Int) : (s.extreme off v).viols = s.viols := rfl
@[simp] theorem State.extreme_cmp (s : State) (off : Nat) (v : Int) : (s.extreme off v).cmp = s.cmp := rfl
@[simp] theorem State.extreme_pair (s : State) (off : Nat) (v : Int) : (s.extreme off v).pair = s.pair := rfl
@[simp] theorem State.extreme_mp (s : State) (off : Nat) (v : Int) : (s.extreme off v).mp = s.mp := rfl
@[simp] theorem State.extreme_grps (s : State) (off : Nat) (v : Int) : (s.extreme off v).grps = s.grps := rfl
@[simp] theorem State.extreme_chans (s : State) (off : Nat) (v : Int) : (s.extreme off v).chans = s.chans := rfl
@[simp] theorem State.extreme_cans (s : State) (off : Nat) (v : Int) : (s.extreme off v).cans = s.cans := rfl
@[simp] theorem State.extreme_ctls (s : State) (off : Nat) (v : Int) : (s.extreme off v).ctls = s.ctls := rfl
@[simp] theorem State.extreme_fis (s : State) (off : Nat) (v : Int) : (s.extreme off v).fis = s.fis := rfl
@[simp] theorem State.extreme_fos (s : State) (off : Nat) (v : Int) : (s.extreme off v).fos = s.fos := rfl
@[simp] theorem State.extreme_mram (s : State) (off : Nat) (v : Int) : (s.extreme off v).mram = s.mram := rfl
@[simp] theorem State.extreme_mem (s : State) (off : Nat) (v : Int) : (s.extreme off v).mem = s.mem := rfl
@[simp] theorem State.extreme_pwr (s : State) (off : Nat) (v : Int) : (s.extreme off v).pwr = s.pwr := rfl
@[simp] theorem State.extreme_upd (s : State) (off : Nat) (v : Int) : (s.extreme off v).upd = s.upd := rfl
@[simp] theorem State.extreme_out (s : State) (off : Nat) (v : Int) : (s.extreme off v).out = s.out := rfl
@[simp] theorem State.extreme_free (s : State) (off : Nat) (v : Int) : (s.extreme off v).free = s.free := rfl
@[simp] theorem State.extreme_pending (s : State) (off : Nat) (v : Int) : (s.extreme off v).pending = s.pending := rfl

@[simp] theorem State.taskStat_order (s : State) (n : Nat) (f : TaskStat → TaskStat) : (s.taskStat n f).order = s.order := rfl
@[simp] theorem State.taskStat_sclk (s : State) (n : Nat) (f : TaskStat → TaskStat) : (s.taskStat n f).sclk = s.sclk := rfl
@[simp] theorem State.taskStat_clk (s : State) (n : Nat) (f : TaskStat → TaskStat) : (s.taskStat n f).clk = s.clk := rfl
@[simp] theorem State.taskStat_ptp (s : State) (n : Nat) (f : TaskStat → TaskStat) : (s.taskStat n f).ptp = s.ptp := rfl
@[simp] theorem State.taskStat_bkp (s : State) (n : Nat) (f : TaskStat → TaskStat) : (s.taskStat n f).bkp = s.bkp := rfl
@[simp] theorem State.taskStat_regs (s : State) (n : Nat) (f : TaskStat → TaskStat) : (s.taskStat n f).regs = s.regs := rfl
@[simp] theorem State.taskStat_flips (s : State) (n : Nat) (f : TaskStat → TaskStat) : (s.taskStat n f).flips = s.flips := rfl
@[simp] theorem State.taskStat_rlat (s : State) (n : Nat) (f : TaskStat → TaskStat) : (s.taskStat n f).rlat = s.rlat := rfl
@[simp] theorem State.taskStat_wlat (s : State) (n : Nat) (f : TaskStat → TaskStat) : (s.taskStat n f).wlat = s.wlat := rfl
@[simp] theorem State.taskStat_cfgA (s : State) (n : Nat) (f : TaskStat → TaskStat) : (s.taskStat n f).cfgA = s.cfgA := rfl
@[simp] theorem State.taskStat_cfgS (s : State) (n : Nat) (f : TaskStat → TaskStat) : (s.taskStat n f).cfgS = s.cfgS := rfl
@[simp] theorem State.taskStat_tsq (s : State) (n : Nat) (f : TaskStat → TaskStat) : (s.taskStat n f).tsq = s.tsq := rfl
@[simp] theorem State.taskStat_servo (s : State) (n : Nat) (f : TaskStat → TaskStat) : (s.taskStat n f).servo = s.servo := rfl
@[simp] theorem State.taskStat_ptpPorts (s : State) (n : Nat) (f : TaskStat → TaskStat) : (s.taskStat n f).ptpPorts = s.ptpPorts := rfl
@[simp] theorem State.taskStat_dats (s : State) (n : Nat) (f : TaskStat → TaskStat) : (s.taskStat n f).dats = s.dats := rfl
@[simp] theorem State.taskStat_stk (s : State) (n : Nat) (f : TaskStat → TaskStat) : (s.taskStat n f).stk = s.stk := rfl
@[simp] theorem State.taskStat_ports (s : State) (n : Nat) (f : TaskStat → TaskStat) : (s.taskStat n f).ports = s.ports := rfl
@[simp] theorem State.taskStat_hbAt (s : State) (n : Nat) (f : TaskStat → TaskStat) : (s.taskStat n f).hbAt = s.hbAt := rfl
@[simp] theorem State.taskStat_img (s : State) (n : Nat) (f : TaskStat → TaskStat) : (s.taskStat n f).img = s.img := rfl
@[simp] theorem State.taskStat_konst (s : State) (n : Nat) (f : TaskStat → TaskStat) : (s.taskStat n f).konst = s.konst := rfl
@[simp] theorem State.taskStat_prog (s : State) (n : Nat) (f : TaskStat → TaskStat) : (s.taskStat n f).prog = s.prog := rfl
@[simp] theorem State.taskStat_progBytes (s : State) (n : Nat) (f : TaskStat → TaskStat) : (s.taskStat n f).progBytes = s.progBytes := rfl
@[simp] theorem State.taskStat_engs (s : State) (n : Nat) (f : TaskStat → TaskStat) : (s.taskStat n f).engs = s.engs := rfl
@[simp] theorem State.taskStat_plm (s : State) (n : Nat) (f : TaskStat → TaskStat) : (s.taskStat n f).plm = s.plm := rfl
@[simp] theorem State.taskStat_blk (s : State) (n : Nat) (f : TaskStat → TaskStat) : (s.taskStat n f).blk = s.blk := rfl
@[simp] theorem State.taskStat_viols (s : State) (n : Nat) (f : TaskStat → TaskStat) : (s.taskStat n f).viols = s.viols := rfl
@[simp] theorem State.taskStat_cmp (s : State) (n : Nat) (f : TaskStat → TaskStat) : (s.taskStat n f).cmp = s.cmp := rfl
@[simp] theorem State.taskStat_pair (s : State) (n : Nat) (f : TaskStat → TaskStat) : (s.taskStat n f).pair = s.pair := rfl
@[simp] theorem State.taskStat_mp (s : State) (n : Nat) (f : TaskStat → TaskStat) : (s.taskStat n f).mp = s.mp := rfl
@[simp] theorem State.taskStat_grps (s : State) (n : Nat) (f : TaskStat → TaskStat) : (s.taskStat n f).grps = s.grps := rfl
@[simp] theorem State.taskStat_chans (s : State) (n : Nat) (f : TaskStat → TaskStat) : (s.taskStat n f).chans = s.chans := rfl
@[simp] theorem State.taskStat_cans (s : State) (n : Nat) (f : TaskStat → TaskStat) : (s.taskStat n f).cans = s.cans := rfl
@[simp] theorem State.taskStat_ctls (s : State) (n : Nat) (f : TaskStat → TaskStat) : (s.taskStat n f).ctls = s.ctls := rfl
@[simp] theorem State.taskStat_fis (s : State) (n : Nat) (f : TaskStat → TaskStat) : (s.taskStat n f).fis = s.fis := rfl
@[simp] theorem State.taskStat_fos (s : State) (n : Nat) (f : TaskStat → TaskStat) : (s.taskStat n f).fos = s.fos := rfl
@[simp] theorem State.taskStat_mram (s : State) (n : Nat) (f : TaskStat → TaskStat) : (s.taskStat n f).mram = s.mram := rfl
@[simp] theorem State.taskStat_mem (s : State) (n : Nat) (f : TaskStat → TaskStat) : (s.taskStat n f).mem = s.mem := rfl
@[simp] theorem State.taskStat_pwr (s : State) (n : Nat) (f : TaskStat → TaskStat) : (s.taskStat n f).pwr = s.pwr := rfl
@[simp] theorem State.taskStat_upd (s : State) (n : Nat) (f : TaskStat → TaskStat) : (s.taskStat n f).upd = s.upd := rfl
@[simp] theorem State.taskStat_out (s : State) (n : Nat) (f : TaskStat → TaskStat) : (s.taskStat n f).out = s.out := rfl
@[simp] theorem State.taskStat_free (s : State) (n : Nat) (f : TaskStat → TaskStat) : (s.taskStat n f).free = s.free := rfl
@[simp] theorem State.taskStat_pending (s : State) (n : Nat) (f : TaskStat → TaskStat) : (s.taskStat n f).pending = s.pending := rfl

@[simp] theorem State.setImgW_order (s : State) (space task word : Nat) (v : Word) : (s.setImgW space task word v).order = s.order := rfl
@[simp] theorem State.setImgW_sclk (s : State) (space task word : Nat) (v : Word) : (s.setImgW space task word v).sclk = s.sclk := rfl
@[simp] theorem State.setImgW_clk (s : State) (space task word : Nat) (v : Word) : (s.setImgW space task word v).clk = s.clk := rfl
@[simp] theorem State.setImgW_ptp (s : State) (space task word : Nat) (v : Word) : (s.setImgW space task word v).ptp = s.ptp := rfl
@[simp] theorem State.setImgW_bkp (s : State) (space task word : Nat) (v : Word) : (s.setImgW space task word v).bkp = s.bkp := rfl
@[simp] theorem State.setImgW_regs (s : State) (space task word : Nat) (v : Word) : (s.setImgW space task word v).regs = s.regs := rfl
@[simp] theorem State.setImgW_flips (s : State) (space task word : Nat) (v : Word) : (s.setImgW space task word v).flips = s.flips := rfl
@[simp] theorem State.setImgW_rlat (s : State) (space task word : Nat) (v : Word) : (s.setImgW space task word v).rlat = s.rlat := rfl
@[simp] theorem State.setImgW_wlat (s : State) (space task word : Nat) (v : Word) : (s.setImgW space task word v).wlat = s.wlat := rfl
@[simp] theorem State.setImgW_cfgA (s : State) (space task word : Nat) (v : Word) : (s.setImgW space task word v).cfgA = s.cfgA := rfl
@[simp] theorem State.setImgW_cfgS (s : State) (space task word : Nat) (v : Word) : (s.setImgW space task word v).cfgS = s.cfgS := rfl
@[simp] theorem State.setImgW_tsq (s : State) (space task word : Nat) (v : Word) : (s.setImgW space task word v).tsq = s.tsq := rfl
@[simp] theorem State.setImgW_servo (s : State) (space task word : Nat) (v : Word) : (s.setImgW space task word v).servo = s.servo := rfl
@[simp] theorem State.setImgW_ptpPorts (s : State) (space task word : Nat) (v : Word) : (s.setImgW space task word v).ptpPorts = s.ptpPorts := rfl
@[simp] theorem State.setImgW_dats (s : State) (space task word : Nat) (v : Word) : (s.setImgW space task word v).dats = s.dats := rfl
@[simp] theorem State.setImgW_stk (s : State) (space task word : Nat) (v : Word) : (s.setImgW space task word v).stk = s.stk := rfl
@[simp] theorem State.setImgW_ports (s : State) (space task word : Nat) (v : Word) : (s.setImgW space task word v).ports = s.ports := rfl
@[simp] theorem State.setImgW_hbAt (s : State) (space task word : Nat) (v : Word) : (s.setImgW space task word v).hbAt = s.hbAt := rfl
@[simp] theorem State.setImgW_konst (s : State) (space task word : Nat) (v : Word) : (s.setImgW space task word v).konst = s.konst := rfl
@[simp] theorem State.setImgW_prog (s : State) (space task word : Nat) (v : Word) : (s.setImgW space task word v).prog = s.prog := rfl
@[simp] theorem State.setImgW_progBytes (s : State) (space task word : Nat) (v : Word) : (s.setImgW space task word v).progBytes = s.progBytes := rfl
@[simp] theorem State.setImgW_engs (s : State) (space task word : Nat) (v : Word) : (s.setImgW space task word v).engs = s.engs := rfl
@[simp] theorem State.setImgW_plm (s : State) (space task word : Nat) (v : Word) : (s.setImgW space task word v).plm = s.plm := rfl
@[simp] theorem State.setImgW_blk (s : State) (space task word : Nat) (v : Word) : (s.setImgW space task word v).blk = s.blk := rfl
@[simp] theorem State.setImgW_viols (s : State) (space task word : Nat) (v : Word) : (s.setImgW space task word v).viols = s.viols := rfl
@[simp] theorem State.setImgW_cmp (s : State) (space task word : Nat) (v : Word) : (s.setImgW space task word v).cmp = s.cmp := rfl
@[simp] theorem State.setImgW_pair (s : State) (space task word : Nat) (v : Word) : (s.setImgW space task word v).pair = s.pair := rfl
@[simp] theorem State.setImgW_mp (s : State) (space task word : Nat) (v : Word) : (s.setImgW space task word v).mp = s.mp := rfl
@[simp] theorem State.setImgW_grps (s : State) (space task word : Nat) (v : Word) : (s.setImgW space task word v).grps = s.grps := rfl
@[simp] theorem State.setImgW_chans (s : State) (space task word : Nat) (v : Word) : (s.setImgW space task word v).chans = s.chans := rfl
@[simp] theorem State.setImgW_cans (s : State) (space task word : Nat) (v : Word) : (s.setImgW space task word v).cans = s.cans := rfl
@[simp] theorem State.setImgW_ctls (s : State) (space task word : Nat) (v : Word) : (s.setImgW space task word v).ctls = s.ctls := rfl
@[simp] theorem State.setImgW_fis (s : State) (space task word : Nat) (v : Word) : (s.setImgW space task word v).fis = s.fis := rfl
@[simp] theorem State.setImgW_fos (s : State) (space task word : Nat) (v : Word) : (s.setImgW space task word v).fos = s.fos := rfl
@[simp] theorem State.setImgW_recd (s : State) (space task word : Nat) (v : Word) : (s.setImgW space task word v).recd = s.recd := rfl
@[simp] theorem State.setImgW_mram (s : State) (space task word : Nat) (v : Word) : (s.setImgW space task word v).mram = s.mram := rfl
@[simp] theorem State.setImgW_mem (s : State) (space task word : Nat) (v : Word) : (s.setImgW space task word v).mem = s.mem := rfl
@[simp] theorem State.setImgW_pwr (s : State) (space task word : Nat) (v : Word) : (s.setImgW space task word v).pwr = s.pwr := rfl
@[simp] theorem State.setImgW_upd (s : State) (space task word : Nat) (v : Word) : (s.setImgW space task word v).upd = s.upd := rfl
@[simp] theorem State.setImgW_out (s : State) (space task word : Nat) (v : Word) : (s.setImgW space task word v).out = s.out := rfl
@[simp] theorem State.setImgW_free (s : State) (space task word : Nat) (v : Word) : (s.setImgW space task word v).free = s.free := rfl
@[simp] theorem State.setImgW_pending (s : State) (space task word : Nat) (v : Word) : (s.setImgW space task word v).pending = s.pending := rfl

@[simp] theorem State.tick_order (s : State) (n : Nat) : (s.tick n).order = s.order := rfl
@[simp] theorem State.tick_clk (s : State) (n : Nat) : (s.tick n).clk = s.clk := rfl
@[simp] theorem State.tick_bkp (s : State) (n : Nat) : (s.tick n).bkp = s.bkp := rfl
@[simp] theorem State.tick_regs (s : State) (n : Nat) : (s.tick n).regs = s.regs := rfl
@[simp] theorem State.tick_flips (s : State) (n : Nat) : (s.tick n).flips = s.flips := rfl
@[simp] theorem State.tick_rlat (s : State) (n : Nat) : (s.tick n).rlat = s.rlat := rfl
@[simp] theorem State.tick_wlat (s : State) (n : Nat) : (s.tick n).wlat = s.wlat := rfl
@[simp] theorem State.tick_cfgA (s : State) (n : Nat) : (s.tick n).cfgA = s.cfgA := rfl
@[simp] theorem State.tick_cfgS (s : State) (n : Nat) : (s.tick n).cfgS = s.cfgS := rfl
@[simp] theorem State.tick_tsq (s : State) (n : Nat) : (s.tick n).tsq = s.tsq := rfl
@[simp] theorem State.tick_servo (s : State) (n : Nat) : (s.tick n).servo = s.servo := rfl
@[simp] theorem State.tick_ptpPorts (s : State) (n : Nat) : (s.tick n).ptpPorts = s.ptpPorts := rfl
@[simp] theorem State.tick_dats (s : State) (n : Nat) : (s.tick n).dats = s.dats := rfl
@[simp] theorem State.tick_stk (s : State) (n : Nat) : (s.tick n).stk = s.stk := rfl
@[simp] theorem State.tick_ports (s : State) (n : Nat) : (s.tick n).ports = s.ports := rfl
@[simp] theorem State.tick_hbAt (s : State) (n : Nat) : (s.tick n).hbAt = s.hbAt := rfl
@[simp] theorem State.tick_img (s : State) (n : Nat) : (s.tick n).img = s.img := rfl
@[simp] theorem State.tick_konst (s : State) (n : Nat) : (s.tick n).konst = s.konst := rfl
@[simp] theorem State.tick_prog (s : State) (n : Nat) : (s.tick n).prog = s.prog := rfl
@[simp] theorem State.tick_progBytes (s : State) (n : Nat) : (s.tick n).progBytes = s.progBytes := rfl
@[simp] theorem State.tick_engs (s : State) (n : Nat) : (s.tick n).engs = s.engs := rfl
@[simp] theorem State.tick_plm (s : State) (n : Nat) : (s.tick n).plm = s.plm := rfl
@[simp] theorem State.tick_blk (s : State) (n : Nat) : (s.tick n).blk = s.blk := rfl
@[simp] theorem State.tick_viols (s : State) (n : Nat) : (s.tick n).viols = s.viols := rfl
@[simp] theorem State.tick_cmp (s : State) (n : Nat) : (s.tick n).cmp = s.cmp := rfl
@[simp] theorem State.tick_pair (s : State) (n : Nat) : (s.tick n).pair = s.pair := rfl
@[simp] theorem State.tick_mp (s : State) (n : Nat) : (s.tick n).mp = s.mp := rfl
@[simp] theorem State.tick_grps (s : State) (n : Nat) : (s.tick n).grps = s.grps := rfl
@[simp] theorem State.tick_chans (s : State) (n : Nat) : (s.tick n).chans = s.chans := rfl
@[simp] theorem State.tick_cans (s : State) (n : Nat) : (s.tick n).cans = s.cans := rfl
@[simp] theorem State.tick_ctls (s : State) (n : Nat) : (s.tick n).ctls = s.ctls := rfl
@[simp] theorem State.tick_fis (s : State) (n : Nat) : (s.tick n).fis = s.fis := rfl
@[simp] theorem State.tick_fos (s : State) (n : Nat) : (s.tick n).fos = s.fos := rfl
@[simp] theorem State.tick_recd (s : State) (n : Nat) : (s.tick n).recd = s.recd := rfl
@[simp] theorem State.tick_mram (s : State) (n : Nat) : (s.tick n).mram = s.mram := rfl
@[simp] theorem State.tick_mem (s : State) (n : Nat) : (s.tick n).mem = s.mem := rfl
@[simp] theorem State.tick_pwr (s : State) (n : Nat) : (s.tick n).pwr = s.pwr := rfl
@[simp] theorem State.tick_upd (s : State) (n : Nat) : (s.tick n).upd = s.upd := rfl
@[simp] theorem State.tick_out (s : State) (n : Nat) : (s.tick n).out = s.out := rfl
@[simp] theorem State.tick_free (s : State) (n : Nat) : (s.tick n).free = s.free := rfl
@[simp] theorem State.tick_pending (s : State) (n : Nat) : (s.tick n).pending = s.pending := rfl

@[simp] theorem State.finish_order (s : State) (id status detail : Nat) (results : List Word) : (s.finish id status detail results).order = s.order := rfl
@[simp] theorem State.finish_sclk (s : State) (id status detail : Nat) (results : List Word) : (s.finish id status detail results).sclk = s.sclk := rfl
@[simp] theorem State.finish_clk (s : State) (id status detail : Nat) (results : List Word) : (s.finish id status detail results).clk = s.clk := rfl
@[simp] theorem State.finish_ptp (s : State) (id status detail : Nat) (results : List Word) : (s.finish id status detail results).ptp = s.ptp := rfl
@[simp] theorem State.finish_bkp (s : State) (id status detail : Nat) (results : List Word) : (s.finish id status detail results).bkp = s.bkp := rfl
@[simp] theorem State.finish_regs (s : State) (id status detail : Nat) (results : List Word) : (s.finish id status detail results).regs = s.regs := rfl
@[simp] theorem State.finish_flips (s : State) (id status detail : Nat) (results : List Word) : (s.finish id status detail results).flips = s.flips := rfl
@[simp] theorem State.finish_rlat (s : State) (id status detail : Nat) (results : List Word) : (s.finish id status detail results).rlat = s.rlat := rfl
@[simp] theorem State.finish_wlat (s : State) (id status detail : Nat) (results : List Word) : (s.finish id status detail results).wlat = s.wlat := rfl
@[simp] theorem State.finish_cfgA (s : State) (id status detail : Nat) (results : List Word) : (s.finish id status detail results).cfgA = s.cfgA := rfl
@[simp] theorem State.finish_cfgS (s : State) (id status detail : Nat) (results : List Word) : (s.finish id status detail results).cfgS = s.cfgS := rfl
@[simp] theorem State.finish_tsq (s : State) (id status detail : Nat) (results : List Word) : (s.finish id status detail results).tsq = s.tsq := rfl
@[simp] theorem State.finish_servo (s : State) (id status detail : Nat) (results : List Word) : (s.finish id status detail results).servo = s.servo := rfl
@[simp] theorem State.finish_ptpPorts (s : State) (id status detail : Nat) (results : List Word) : (s.finish id status detail results).ptpPorts = s.ptpPorts := rfl
@[simp] theorem State.finish_dats (s : State) (id status detail : Nat) (results : List Word) : (s.finish id status detail results).dats = s.dats := rfl
@[simp] theorem State.finish_stk (s : State) (id status detail : Nat) (results : List Word) : (s.finish id status detail results).stk = s.stk := rfl
@[simp] theorem State.finish_ports (s : State) (id status detail : Nat) (results : List Word) : (s.finish id status detail results).ports = s.ports := rfl
@[simp] theorem State.finish_hbAt (s : State) (id status detail : Nat) (results : List Word) : (s.finish id status detail results).hbAt = s.hbAt := rfl
@[simp] theorem State.finish_img (s : State) (id status detail : Nat) (results : List Word) : (s.finish id status detail results).img = s.img := rfl
@[simp] theorem State.finish_konst (s : State) (id status detail : Nat) (results : List Word) : (s.finish id status detail results).konst = s.konst := rfl
@[simp] theorem State.finish_prog (s : State) (id status detail : Nat) (results : List Word) : (s.finish id status detail results).prog = s.prog := rfl
@[simp] theorem State.finish_progBytes (s : State) (id status detail : Nat) (results : List Word) : (s.finish id status detail results).progBytes = s.progBytes := rfl
@[simp] theorem State.finish_engs (s : State) (id status detail : Nat) (results : List Word) : (s.finish id status detail results).engs = s.engs := rfl
@[simp] theorem State.finish_plm (s : State) (id status detail : Nat) (results : List Word) : (s.finish id status detail results).plm = s.plm := rfl
@[simp] theorem State.finish_blk (s : State) (id status detail : Nat) (results : List Word) : (s.finish id status detail results).blk = s.blk := rfl
@[simp] theorem State.finish_viols (s : State) (id status detail : Nat) (results : List Word) : (s.finish id status detail results).viols = s.viols := rfl
@[simp] theorem State.finish_cmp (s : State) (id status detail : Nat) (results : List Word) : (s.finish id status detail results).cmp = s.cmp := rfl
@[simp] theorem State.finish_pair (s : State) (id status detail : Nat) (results : List Word) : (s.finish id status detail results).pair = s.pair := rfl
@[simp] theorem State.finish_grps (s : State) (id status detail : Nat) (results : List Word) : (s.finish id status detail results).grps = s.grps := rfl
@[simp] theorem State.finish_chans (s : State) (id status detail : Nat) (results : List Word) : (s.finish id status detail results).chans = s.chans := rfl
@[simp] theorem State.finish_cans (s : State) (id status detail : Nat) (results : List Word) : (s.finish id status detail results).cans = s.cans := rfl
@[simp] theorem State.finish_ctls (s : State) (id status detail : Nat) (results : List Word) : (s.finish id status detail results).ctls = s.ctls := rfl
@[simp] theorem State.finish_fis (s : State) (id status detail : Nat) (results : List Word) : (s.finish id status detail results).fis = s.fis := rfl
@[simp] theorem State.finish_fos (s : State) (id status detail : Nat) (results : List Word) : (s.finish id status detail results).fos = s.fos := rfl
@[simp] theorem State.finish_recd (s : State) (id status detail : Nat) (results : List Word) : (s.finish id status detail results).recd = s.recd := rfl
@[simp] theorem State.finish_mram (s : State) (id status detail : Nat) (results : List Word) : (s.finish id status detail results).mram = s.mram := rfl
@[simp] theorem State.finish_mem (s : State) (id status detail : Nat) (results : List Word) : (s.finish id status detail results).mem = s.mem := rfl
@[simp] theorem State.finish_pwr (s : State) (id status detail : Nat) (results : List Word) : (s.finish id status detail results).pwr = s.pwr := rfl
@[simp] theorem State.finish_upd (s : State) (id status detail : Nat) (results : List Word) : (s.finish id status detail results).upd = s.upd := rfl
@[simp] theorem State.finish_out (s : State) (id status detail : Nat) (results : List Word) : (s.finish id status detail results).out = s.out := rfl
@[simp] theorem State.finish_free (s : State) (id status detail : Nat) (results : List Word) : (s.finish id status detail results).free = s.free := rfl
@[simp] theorem State.finish_pending (s : State) (id status detail : Nat) (results : List Word) : (s.finish id status detail results).pending = s.pending := rfl

@[simp] theorem State.setArrival_order (s : State) (n : Nat) (t : Option Nat) : (s.setArrival n t).order = s.order := rfl
@[simp] theorem State.setArrival_sclk (s : State) (n : Nat) (t : Option Nat) : (s.setArrival n t).sclk = s.sclk := rfl
@[simp] theorem State.setArrival_clk (s : State) (n : Nat) (t : Option Nat) : (s.setArrival n t).clk = s.clk := rfl
@[simp] theorem State.setArrival_ptp (s : State) (n : Nat) (t : Option Nat) : (s.setArrival n t).ptp = s.ptp := rfl
@[simp] theorem State.setArrival_bkp (s : State) (n : Nat) (t : Option Nat) : (s.setArrival n t).bkp = s.bkp := rfl
@[simp] theorem State.setArrival_regs (s : State) (n : Nat) (t : Option Nat) : (s.setArrival n t).regs = s.regs := rfl
@[simp] theorem State.setArrival_flips (s : State) (n : Nat) (t : Option Nat) : (s.setArrival n t).flips = s.flips := rfl
@[simp] theorem State.setArrival_rlat (s : State) (n : Nat) (t : Option Nat) : (s.setArrival n t).rlat = s.rlat := rfl
@[simp] theorem State.setArrival_wlat (s : State) (n : Nat) (t : Option Nat) : (s.setArrival n t).wlat = s.wlat := rfl
@[simp] theorem State.setArrival_cfgA (s : State) (n : Nat) (t : Option Nat) : (s.setArrival n t).cfgA = s.cfgA := rfl
@[simp] theorem State.setArrival_cfgS (s : State) (n : Nat) (t : Option Nat) : (s.setArrival n t).cfgS = s.cfgS := rfl
@[simp] theorem State.setArrival_tsq (s : State) (n : Nat) (t : Option Nat) : (s.setArrival n t).tsq = s.tsq := rfl
@[simp] theorem State.setArrival_servo (s : State) (n : Nat) (t : Option Nat) : (s.setArrival n t).servo = s.servo := rfl
@[simp] theorem State.setArrival_ptpPorts (s : State) (n : Nat) (t : Option Nat) : (s.setArrival n t).ptpPorts = s.ptpPorts := rfl
@[simp] theorem State.setArrival_dats (s : State) (n : Nat) (t : Option Nat) : (s.setArrival n t).dats = s.dats := rfl
@[simp] theorem State.setArrival_stk (s : State) (n : Nat) (t : Option Nat) : (s.setArrival n t).stk = s.stk := rfl
@[simp] theorem State.setArrival_ports (s : State) (n : Nat) (t : Option Nat) : (s.setArrival n t).ports = s.ports := rfl
@[simp] theorem State.setArrival_hbAt (s : State) (n : Nat) (t : Option Nat) : (s.setArrival n t).hbAt = s.hbAt := rfl
@[simp] theorem State.setArrival_img (s : State) (n : Nat) (t : Option Nat) : (s.setArrival n t).img = s.img := rfl
@[simp] theorem State.setArrival_konst (s : State) (n : Nat) (t : Option Nat) : (s.setArrival n t).konst = s.konst := rfl
@[simp] theorem State.setArrival_prog (s : State) (n : Nat) (t : Option Nat) : (s.setArrival n t).prog = s.prog := rfl
@[simp] theorem State.setArrival_progBytes (s : State) (n : Nat) (t : Option Nat) : (s.setArrival n t).progBytes = s.progBytes := rfl
@[simp] theorem State.setArrival_engs (s : State) (n : Nat) (t : Option Nat) : (s.setArrival n t).engs = s.engs := rfl
@[simp] theorem State.setArrival_plm (s : State) (n : Nat) (t : Option Nat) : (s.setArrival n t).plm = s.plm := rfl
@[simp] theorem State.setArrival_blk (s : State) (n : Nat) (t : Option Nat) : (s.setArrival n t).blk = s.blk := rfl
@[simp] theorem State.setArrival_viols (s : State) (n : Nat) (t : Option Nat) : (s.setArrival n t).viols = s.viols := rfl
@[simp] theorem State.setArrival_cmp (s : State) (n : Nat) (t : Option Nat) : (s.setArrival n t).cmp = s.cmp := rfl
@[simp] theorem State.setArrival_pair (s : State) (n : Nat) (t : Option Nat) : (s.setArrival n t).pair = s.pair := rfl
@[simp] theorem State.setArrival_mp (s : State) (n : Nat) (t : Option Nat) : (s.setArrival n t).mp = s.mp := rfl
@[simp] theorem State.setArrival_grps (s : State) (n : Nat) (t : Option Nat) : (s.setArrival n t).grps = s.grps := rfl
@[simp] theorem State.setArrival_chans (s : State) (n : Nat) (t : Option Nat) : (s.setArrival n t).chans = s.chans := rfl
@[simp] theorem State.setArrival_cans (s : State) (n : Nat) (t : Option Nat) : (s.setArrival n t).cans = s.cans := rfl
@[simp] theorem State.setArrival_ctls (s : State) (n : Nat) (t : Option Nat) : (s.setArrival n t).ctls = s.ctls := rfl
@[simp] theorem State.setArrival_fis (s : State) (n : Nat) (t : Option Nat) : (s.setArrival n t).fis = s.fis := rfl
@[simp] theorem State.setArrival_fos (s : State) (n : Nat) (t : Option Nat) : (s.setArrival n t).fos = s.fos := rfl
@[simp] theorem State.setArrival_mram (s : State) (n : Nat) (t : Option Nat) : (s.setArrival n t).mram = s.mram := rfl
@[simp] theorem State.setArrival_mem (s : State) (n : Nat) (t : Option Nat) : (s.setArrival n t).mem = s.mem := rfl
@[simp] theorem State.setArrival_pwr (s : State) (n : Nat) (t : Option Nat) : (s.setArrival n t).pwr = s.pwr := rfl
@[simp] theorem State.setArrival_upd (s : State) (n : Nat) (t : Option Nat) : (s.setArrival n t).upd = s.upd := rfl
@[simp] theorem State.setArrival_out (s : State) (n : Nat) (t : Option Nat) : (s.setArrival n t).out = s.out := rfl
@[simp] theorem State.setArrival_free (s : State) (n : Nat) (t : Option Nat) : (s.setArrival n t).free = s.free := rfl
@[simp] theorem State.setArrival_pending (s : State) (n : Nat) (t : Option Nat) : (s.setArrival n t).pending = s.pending := rfl

@[simp] theorem State.setDat_order (s : State) (d : Nat) (x : Datum) : (s.setDat d x).order = s.order := rfl
@[simp] theorem State.setDat_sclk (s : State) (d : Nat) (x : Datum) : (s.setDat d x).sclk = s.sclk := rfl
@[simp] theorem State.setDat_clk (s : State) (d : Nat) (x : Datum) : (s.setDat d x).clk = s.clk := rfl
@[simp] theorem State.setDat_ptp (s : State) (d : Nat) (x : Datum) : (s.setDat d x).ptp = s.ptp := rfl
@[simp] theorem State.setDat_bkp (s : State) (d : Nat) (x : Datum) : (s.setDat d x).bkp = s.bkp := rfl
@[simp] theorem State.setDat_regs (s : State) (d : Nat) (x : Datum) : (s.setDat d x).regs = s.regs := rfl
@[simp] theorem State.setDat_flips (s : State) (d : Nat) (x : Datum) : (s.setDat d x).flips = s.flips := rfl
@[simp] theorem State.setDat_rlat (s : State) (d : Nat) (x : Datum) : (s.setDat d x).rlat = s.rlat := rfl
@[simp] theorem State.setDat_wlat (s : State) (d : Nat) (x : Datum) : (s.setDat d x).wlat = s.wlat := rfl
@[simp] theorem State.setDat_cfgA (s : State) (d : Nat) (x : Datum) : (s.setDat d x).cfgA = s.cfgA := rfl
@[simp] theorem State.setDat_cfgS (s : State) (d : Nat) (x : Datum) : (s.setDat d x).cfgS = s.cfgS := rfl
@[simp] theorem State.setDat_tsq (s : State) (d : Nat) (x : Datum) : (s.setDat d x).tsq = s.tsq := rfl
@[simp] theorem State.setDat_servo (s : State) (d : Nat) (x : Datum) : (s.setDat d x).servo = s.servo := rfl
@[simp] theorem State.setDat_ptpPorts (s : State) (d : Nat) (x : Datum) : (s.setDat d x).ptpPorts = s.ptpPorts := rfl
@[simp] theorem State.setDat_stk (s : State) (d : Nat) (x : Datum) : (s.setDat d x).stk = s.stk := rfl
@[simp] theorem State.setDat_ports (s : State) (d : Nat) (x : Datum) : (s.setDat d x).ports = s.ports := rfl
@[simp] theorem State.setDat_hbAt (s : State) (d : Nat) (x : Datum) : (s.setDat d x).hbAt = s.hbAt := rfl
@[simp] theorem State.setDat_img (s : State) (d : Nat) (x : Datum) : (s.setDat d x).img = s.img := rfl
@[simp] theorem State.setDat_konst (s : State) (d : Nat) (x : Datum) : (s.setDat d x).konst = s.konst := rfl
@[simp] theorem State.setDat_prog (s : State) (d : Nat) (x : Datum) : (s.setDat d x).prog = s.prog := rfl
@[simp] theorem State.setDat_progBytes (s : State) (d : Nat) (x : Datum) : (s.setDat d x).progBytes = s.progBytes := rfl
@[simp] theorem State.setDat_engs (s : State) (d : Nat) (x : Datum) : (s.setDat d x).engs = s.engs := rfl
@[simp] theorem State.setDat_plm (s : State) (d : Nat) (x : Datum) : (s.setDat d x).plm = s.plm := rfl
@[simp] theorem State.setDat_blk (s : State) (d : Nat) (x : Datum) : (s.setDat d x).blk = s.blk := rfl
@[simp] theorem State.setDat_viols (s : State) (d : Nat) (x : Datum) : (s.setDat d x).viols = s.viols := rfl
@[simp] theorem State.setDat_cmp (s : State) (d : Nat) (x : Datum) : (s.setDat d x).cmp = s.cmp := rfl
@[simp] theorem State.setDat_pair (s : State) (d : Nat) (x : Datum) : (s.setDat d x).pair = s.pair := rfl
@[simp] theorem State.setDat_mp (s : State) (d : Nat) (x : Datum) : (s.setDat d x).mp = s.mp := rfl
@[simp] theorem State.setDat_grps (s : State) (d : Nat) (x : Datum) : (s.setDat d x).grps = s.grps := rfl
@[simp] theorem State.setDat_chans (s : State) (d : Nat) (x : Datum) : (s.setDat d x).chans = s.chans := rfl
@[simp] theorem State.setDat_cans (s : State) (d : Nat) (x : Datum) : (s.setDat d x).cans = s.cans := rfl
@[simp] theorem State.setDat_ctls (s : State) (d : Nat) (x : Datum) : (s.setDat d x).ctls = s.ctls := rfl
@[simp] theorem State.setDat_fis (s : State) (d : Nat) (x : Datum) : (s.setDat d x).fis = s.fis := rfl
@[simp] theorem State.setDat_fos (s : State) (d : Nat) (x : Datum) : (s.setDat d x).fos = s.fos := rfl
@[simp] theorem State.setDat_recd (s : State) (d : Nat) (x : Datum) : (s.setDat d x).recd = s.recd := rfl
@[simp] theorem State.setDat_mram (s : State) (d : Nat) (x : Datum) : (s.setDat d x).mram = s.mram := rfl
@[simp] theorem State.setDat_mem (s : State) (d : Nat) (x : Datum) : (s.setDat d x).mem = s.mem := rfl
@[simp] theorem State.setDat_pwr (s : State) (d : Nat) (x : Datum) : (s.setDat d x).pwr = s.pwr := rfl
@[simp] theorem State.setDat_upd (s : State) (d : Nat) (x : Datum) : (s.setDat d x).upd = s.upd := rfl
@[simp] theorem State.setDat_out (s : State) (d : Nat) (x : Datum) : (s.setDat d x).out = s.out := rfl
@[simp] theorem State.setDat_free (s : State) (d : Nat) (x : Datum) : (s.setDat d x).free = s.free := rfl
@[simp] theorem State.setDat_pending (s : State) (d : Nat) (x : Datum) : (s.setDat d x).pending = s.pending := rfl

@[simp] theorem State.modDat_order (s : State) (d : Nat) (f : Datum → Datum) : (s.modDat d f).order = s.order := rfl
@[simp] theorem State.modDat_sclk (s : State) (d : Nat) (f : Datum → Datum) : (s.modDat d f).sclk = s.sclk := rfl
@[simp] theorem State.modDat_clk (s : State) (d : Nat) (f : Datum → Datum) : (s.modDat d f).clk = s.clk := rfl
@[simp] theorem State.modDat_ptp (s : State) (d : Nat) (f : Datum → Datum) : (s.modDat d f).ptp = s.ptp := rfl
@[simp] theorem State.modDat_bkp (s : State) (d : Nat) (f : Datum → Datum) : (s.modDat d f).bkp = s.bkp := rfl
@[simp] theorem State.modDat_regs (s : State) (d : Nat) (f : Datum → Datum) : (s.modDat d f).regs = s.regs := rfl
@[simp] theorem State.modDat_flips (s : State) (d : Nat) (f : Datum → Datum) : (s.modDat d f).flips = s.flips := rfl
@[simp] theorem State.modDat_rlat (s : State) (d : Nat) (f : Datum → Datum) : (s.modDat d f).rlat = s.rlat := rfl
@[simp] theorem State.modDat_wlat (s : State) (d : Nat) (f : Datum → Datum) : (s.modDat d f).wlat = s.wlat := rfl
@[simp] theorem State.modDat_cfgA (s : State) (d : Nat) (f : Datum → Datum) : (s.modDat d f).cfgA = s.cfgA := rfl
@[simp] theorem State.modDat_cfgS (s : State) (d : Nat) (f : Datum → Datum) : (s.modDat d f).cfgS = s.cfgS := rfl
@[simp] theorem State.modDat_tsq (s : State) (d : Nat) (f : Datum → Datum) : (s.modDat d f).tsq = s.tsq := rfl
@[simp] theorem State.modDat_servo (s : State) (d : Nat) (f : Datum → Datum) : (s.modDat d f).servo = s.servo := rfl
@[simp] theorem State.modDat_ptpPorts (s : State) (d : Nat) (f : Datum → Datum) : (s.modDat d f).ptpPorts = s.ptpPorts := rfl
@[simp] theorem State.modDat_stk (s : State) (d : Nat) (f : Datum → Datum) : (s.modDat d f).stk = s.stk := rfl
@[simp] theorem State.modDat_ports (s : State) (d : Nat) (f : Datum → Datum) : (s.modDat d f).ports = s.ports := rfl
@[simp] theorem State.modDat_hbAt (s : State) (d : Nat) (f : Datum → Datum) : (s.modDat d f).hbAt = s.hbAt := rfl
@[simp] theorem State.modDat_img (s : State) (d : Nat) (f : Datum → Datum) : (s.modDat d f).img = s.img := rfl
@[simp] theorem State.modDat_konst (s : State) (d : Nat) (f : Datum → Datum) : (s.modDat d f).konst = s.konst := rfl
@[simp] theorem State.modDat_prog (s : State) (d : Nat) (f : Datum → Datum) : (s.modDat d f).prog = s.prog := rfl
@[simp] theorem State.modDat_progBytes (s : State) (d : Nat) (f : Datum → Datum) : (s.modDat d f).progBytes = s.progBytes := rfl
@[simp] theorem State.modDat_engs (s : State) (d : Nat) (f : Datum → Datum) : (s.modDat d f).engs = s.engs := rfl
@[simp] theorem State.modDat_plm (s : State) (d : Nat) (f : Datum → Datum) : (s.modDat d f).plm = s.plm := rfl
@[simp] theorem State.modDat_blk (s : State) (d : Nat) (f : Datum → Datum) : (s.modDat d f).blk = s.blk := rfl
@[simp] theorem State.modDat_viols (s : State) (d : Nat) (f : Datum → Datum) : (s.modDat d f).viols = s.viols := rfl
@[simp] theorem State.modDat_cmp (s : State) (d : Nat) (f : Datum → Datum) : (s.modDat d f).cmp = s.cmp := rfl
@[simp] theorem State.modDat_pair (s : State) (d : Nat) (f : Datum → Datum) : (s.modDat d f).pair = s.pair := rfl
@[simp] theorem State.modDat_mp (s : State) (d : Nat) (f : Datum → Datum) : (s.modDat d f).mp = s.mp := rfl
@[simp] theorem State.modDat_grps (s : State) (d : Nat) (f : Datum → Datum) : (s.modDat d f).grps = s.grps := rfl
@[simp] theorem State.modDat_chans (s : State) (d : Nat) (f : Datum → Datum) : (s.modDat d f).chans = s.chans := rfl
@[simp] theorem State.modDat_cans (s : State) (d : Nat) (f : Datum → Datum) : (s.modDat d f).cans = s.cans := rfl
@[simp] theorem State.modDat_ctls (s : State) (d : Nat) (f : Datum → Datum) : (s.modDat d f).ctls = s.ctls := rfl
@[simp] theorem State.modDat_fis (s : State) (d : Nat) (f : Datum → Datum) : (s.modDat d f).fis = s.fis := rfl
@[simp] theorem State.modDat_fos (s : State) (d : Nat) (f : Datum → Datum) : (s.modDat d f).fos = s.fos := rfl
@[simp] theorem State.modDat_recd (s : State) (d : Nat) (f : Datum → Datum) : (s.modDat d f).recd = s.recd := rfl
@[simp] theorem State.modDat_mram (s : State) (d : Nat) (f : Datum → Datum) : (s.modDat d f).mram = s.mram := rfl
@[simp] theorem State.modDat_mem (s : State) (d : Nat) (f : Datum → Datum) : (s.modDat d f).mem = s.mem := rfl
@[simp] theorem State.modDat_pwr (s : State) (d : Nat) (f : Datum → Datum) : (s.modDat d f).pwr = s.pwr := rfl
@[simp] theorem State.modDat_upd (s : State) (d : Nat) (f : Datum → Datum) : (s.modDat d f).upd = s.upd := rfl
@[simp] theorem State.modDat_out (s : State) (d : Nat) (f : Datum → Datum) : (s.modDat d f).out = s.out := rfl
@[simp] theorem State.modDat_free (s : State) (d : Nat) (f : Datum → Datum) : (s.modDat d f).free = s.free := rfl
@[simp] theorem State.modDat_pending (s : State) (d : Nat) (f : Datum → Datum) : (s.modDat d f).pending = s.pending := rfl

@[simp] theorem State.retain_order (s : State) (d : Nat) (g : Seg) : (s.retain d g).order = s.order := rfl
@[simp] theorem State.retain_sclk (s : State) (d : Nat) (g : Seg) : (s.retain d g).sclk = s.sclk := rfl
@[simp] theorem State.retain_clk (s : State) (d : Nat) (g : Seg) : (s.retain d g).clk = s.clk := rfl
@[simp] theorem State.retain_ptp (s : State) (d : Nat) (g : Seg) : (s.retain d g).ptp = s.ptp := rfl
@[simp] theorem State.retain_bkp (s : State) (d : Nat) (g : Seg) : (s.retain d g).bkp = s.bkp := rfl
@[simp] theorem State.retain_regs (s : State) (d : Nat) (g : Seg) : (s.retain d g).regs = s.regs := rfl
@[simp] theorem State.retain_flips (s : State) (d : Nat) (g : Seg) : (s.retain d g).flips = s.flips := rfl
@[simp] theorem State.retain_rlat (s : State) (d : Nat) (g : Seg) : (s.retain d g).rlat = s.rlat := rfl
@[simp] theorem State.retain_wlat (s : State) (d : Nat) (g : Seg) : (s.retain d g).wlat = s.wlat := rfl
@[simp] theorem State.retain_cfgA (s : State) (d : Nat) (g : Seg) : (s.retain d g).cfgA = s.cfgA := rfl
@[simp] theorem State.retain_cfgS (s : State) (d : Nat) (g : Seg) : (s.retain d g).cfgS = s.cfgS := rfl
@[simp] theorem State.retain_tsq (s : State) (d : Nat) (g : Seg) : (s.retain d g).tsq = s.tsq := rfl
@[simp] theorem State.retain_servo (s : State) (d : Nat) (g : Seg) : (s.retain d g).servo = s.servo := rfl
@[simp] theorem State.retain_ptpPorts (s : State) (d : Nat) (g : Seg) : (s.retain d g).ptpPorts = s.ptpPorts := rfl
@[simp] theorem State.retain_dats (s : State) (d : Nat) (g : Seg) : (s.retain d g).dats = s.dats := rfl
@[simp] theorem State.retain_stk (s : State) (d : Nat) (g : Seg) : (s.retain d g).stk = s.stk := rfl
@[simp] theorem State.retain_ports (s : State) (d : Nat) (g : Seg) : (s.retain d g).ports = s.ports := rfl
@[simp] theorem State.retain_hbAt (s : State) (d : Nat) (g : Seg) : (s.retain d g).hbAt = s.hbAt := rfl
@[simp] theorem State.retain_img (s : State) (d : Nat) (g : Seg) : (s.retain d g).img = s.img := rfl
@[simp] theorem State.retain_konst (s : State) (d : Nat) (g : Seg) : (s.retain d g).konst = s.konst := rfl
@[simp] theorem State.retain_prog (s : State) (d : Nat) (g : Seg) : (s.retain d g).prog = s.prog := rfl
@[simp] theorem State.retain_progBytes (s : State) (d : Nat) (g : Seg) : (s.retain d g).progBytes = s.progBytes := rfl
@[simp] theorem State.retain_engs (s : State) (d : Nat) (g : Seg) : (s.retain d g).engs = s.engs := rfl
@[simp] theorem State.retain_plm (s : State) (d : Nat) (g : Seg) : (s.retain d g).plm = s.plm := rfl
@[simp] theorem State.retain_viols (s : State) (d : Nat) (g : Seg) : (s.retain d g).viols = s.viols := rfl
@[simp] theorem State.retain_cmp (s : State) (d : Nat) (g : Seg) : (s.retain d g).cmp = s.cmp := rfl
@[simp] theorem State.retain_pair (s : State) (d : Nat) (g : Seg) : (s.retain d g).pair = s.pair := rfl
@[simp] theorem State.retain_mp (s : State) (d : Nat) (g : Seg) : (s.retain d g).mp = s.mp := rfl
@[simp] theorem State.retain_grps (s : State) (d : Nat) (g : Seg) : (s.retain d g).grps = s.grps := rfl
@[simp] theorem State.retain_chans (s : State) (d : Nat) (g : Seg) : (s.retain d g).chans = s.chans := rfl
@[simp] theorem State.retain_cans (s : State) (d : Nat) (g : Seg) : (s.retain d g).cans = s.cans := rfl
@[simp] theorem State.retain_ctls (s : State) (d : Nat) (g : Seg) : (s.retain d g).ctls = s.ctls := rfl
@[simp] theorem State.retain_fis (s : State) (d : Nat) (g : Seg) : (s.retain d g).fis = s.fis := rfl
@[simp] theorem State.retain_fos (s : State) (d : Nat) (g : Seg) : (s.retain d g).fos = s.fos := rfl
@[simp] theorem State.retain_recd (s : State) (d : Nat) (g : Seg) : (s.retain d g).recd = s.recd := rfl
@[simp] theorem State.retain_mram (s : State) (d : Nat) (g : Seg) : (s.retain d g).mram = s.mram := rfl
@[simp] theorem State.retain_mem (s : State) (d : Nat) (g : Seg) : (s.retain d g).mem = s.mem := rfl
@[simp] theorem State.retain_pwr (s : State) (d : Nat) (g : Seg) : (s.retain d g).pwr = s.pwr := rfl
@[simp] theorem State.retain_upd (s : State) (d : Nat) (g : Seg) : (s.retain d g).upd = s.upd := rfl
@[simp] theorem State.retain_out (s : State) (d : Nat) (g : Seg) : (s.retain d g).out = s.out := rfl
@[simp] theorem State.retain_free (s : State) (d : Nat) (g : Seg) : (s.retain d g).free = s.free := rfl
@[simp] theorem State.retain_pending (s : State) (d : Nat) (g : Seg) : (s.retain d g).pending = s.pending := rfl

@[simp] theorem State.setStake_order (s : State) (i : Nat) (e : Stake) : (s.setStake i e).order = s.order := rfl
@[simp] theorem State.setStake_sclk (s : State) (i : Nat) (e : Stake) : (s.setStake i e).sclk = s.sclk := rfl
@[simp] theorem State.setStake_clk (s : State) (i : Nat) (e : Stake) : (s.setStake i e).clk = s.clk := rfl
@[simp] theorem State.setStake_ptp (s : State) (i : Nat) (e : Stake) : (s.setStake i e).ptp = s.ptp := rfl
@[simp] theorem State.setStake_bkp (s : State) (i : Nat) (e : Stake) : (s.setStake i e).bkp = s.bkp := rfl
@[simp] theorem State.setStake_regs (s : State) (i : Nat) (e : Stake) : (s.setStake i e).regs = s.regs := rfl
@[simp] theorem State.setStake_flips (s : State) (i : Nat) (e : Stake) : (s.setStake i e).flips = s.flips := rfl
@[simp] theorem State.setStake_rlat (s : State) (i : Nat) (e : Stake) : (s.setStake i e).rlat = s.rlat := rfl
@[simp] theorem State.setStake_wlat (s : State) (i : Nat) (e : Stake) : (s.setStake i e).wlat = s.wlat := rfl
@[simp] theorem State.setStake_cfgA (s : State) (i : Nat) (e : Stake) : (s.setStake i e).cfgA = s.cfgA := rfl
@[simp] theorem State.setStake_cfgS (s : State) (i : Nat) (e : Stake) : (s.setStake i e).cfgS = s.cfgS := rfl
@[simp] theorem State.setStake_tsq (s : State) (i : Nat) (e : Stake) : (s.setStake i e).tsq = s.tsq := rfl
@[simp] theorem State.setStake_servo (s : State) (i : Nat) (e : Stake) : (s.setStake i e).servo = s.servo := rfl
@[simp] theorem State.setStake_ptpPorts (s : State) (i : Nat) (e : Stake) : (s.setStake i e).ptpPorts = s.ptpPorts := rfl
@[simp] theorem State.setStake_dats (s : State) (i : Nat) (e : Stake) : (s.setStake i e).dats = s.dats := rfl
@[simp] theorem State.setStake_ports (s : State) (i : Nat) (e : Stake) : (s.setStake i e).ports = s.ports := rfl
@[simp] theorem State.setStake_hbAt (s : State) (i : Nat) (e : Stake) : (s.setStake i e).hbAt = s.hbAt := rfl
@[simp] theorem State.setStake_img (s : State) (i : Nat) (e : Stake) : (s.setStake i e).img = s.img := rfl
@[simp] theorem State.setStake_konst (s : State) (i : Nat) (e : Stake) : (s.setStake i e).konst = s.konst := rfl
@[simp] theorem State.setStake_prog (s : State) (i : Nat) (e : Stake) : (s.setStake i e).prog = s.prog := rfl
@[simp] theorem State.setStake_progBytes (s : State) (i : Nat) (e : Stake) : (s.setStake i e).progBytes = s.progBytes := rfl
@[simp] theorem State.setStake_engs (s : State) (i : Nat) (e : Stake) : (s.setStake i e).engs = s.engs := rfl
@[simp] theorem State.setStake_plm (s : State) (i : Nat) (e : Stake) : (s.setStake i e).plm = s.plm := rfl
@[simp] theorem State.setStake_blk (s : State) (i : Nat) (e : Stake) : (s.setStake i e).blk = s.blk := rfl
@[simp] theorem State.setStake_viols (s : State) (i : Nat) (e : Stake) : (s.setStake i e).viols = s.viols := rfl
@[simp] theorem State.setStake_cmp (s : State) (i : Nat) (e : Stake) : (s.setStake i e).cmp = s.cmp := rfl
@[simp] theorem State.setStake_pair (s : State) (i : Nat) (e : Stake) : (s.setStake i e).pair = s.pair := rfl
@[simp] theorem State.setStake_mp (s : State) (i : Nat) (e : Stake) : (s.setStake i e).mp = s.mp := rfl
@[simp] theorem State.setStake_grps (s : State) (i : Nat) (e : Stake) : (s.setStake i e).grps = s.grps := rfl
@[simp] theorem State.setStake_chans (s : State) (i : Nat) (e : Stake) : (s.setStake i e).chans = s.chans := rfl
@[simp] theorem State.setStake_cans (s : State) (i : Nat) (e : Stake) : (s.setStake i e).cans = s.cans := rfl
@[simp] theorem State.setStake_ctls (s : State) (i : Nat) (e : Stake) : (s.setStake i e).ctls = s.ctls := rfl
@[simp] theorem State.setStake_fis (s : State) (i : Nat) (e : Stake) : (s.setStake i e).fis = s.fis := rfl
@[simp] theorem State.setStake_fos (s : State) (i : Nat) (e : Stake) : (s.setStake i e).fos = s.fos := rfl
@[simp] theorem State.setStake_recd (s : State) (i : Nat) (e : Stake) : (s.setStake i e).recd = s.recd := rfl
@[simp] theorem State.setStake_mram (s : State) (i : Nat) (e : Stake) : (s.setStake i e).mram = s.mram := rfl
@[simp] theorem State.setStake_mem (s : State) (i : Nat) (e : Stake) : (s.setStake i e).mem = s.mem := rfl
@[simp] theorem State.setStake_pwr (s : State) (i : Nat) (e : Stake) : (s.setStake i e).pwr = s.pwr := rfl
@[simp] theorem State.setStake_upd (s : State) (i : Nat) (e : Stake) : (s.setStake i e).upd = s.upd := rfl
@[simp] theorem State.setStake_out (s : State) (i : Nat) (e : Stake) : (s.setStake i e).out = s.out := rfl
@[simp] theorem State.setStake_free (s : State) (i : Nat) (e : Stake) : (s.setStake i e).free = s.free := rfl
@[simp] theorem State.setStake_pending (s : State) (i : Nat) (e : Stake) : (s.setStake i e).pending = s.pending := rfl

@[simp] theorem State.setEdges_order (s : State) (k : Nat) (l : List FoEdge) : (s.setEdges k l).order = s.order := rfl
@[simp] theorem State.setEdges_sclk (s : State) (k : Nat) (l : List FoEdge) : (s.setEdges k l).sclk = s.sclk := rfl
@[simp] theorem State.setEdges_clk (s : State) (k : Nat) (l : List FoEdge) : (s.setEdges k l).clk = s.clk := rfl
@[simp] theorem State.setEdges_ptp (s : State) (k : Nat) (l : List FoEdge) : (s.setEdges k l).ptp = s.ptp := rfl
@[simp] theorem State.setEdges_bkp (s : State) (k : Nat) (l : List FoEdge) : (s.setEdges k l).bkp = s.bkp := rfl
@[simp] theorem State.setEdges_regs (s : State) (k : Nat) (l : List FoEdge) : (s.setEdges k l).regs = s.regs := rfl
@[simp] theorem State.setEdges_flips (s : State) (k : Nat) (l : List FoEdge) : (s.setEdges k l).flips = s.flips := rfl
@[simp] theorem State.setEdges_rlat (s : State) (k : Nat) (l : List FoEdge) : (s.setEdges k l).rlat = s.rlat := rfl
@[simp] theorem State.setEdges_wlat (s : State) (k : Nat) (l : List FoEdge) : (s.setEdges k l).wlat = s.wlat := rfl
@[simp] theorem State.setEdges_cfgA (s : State) (k : Nat) (l : List FoEdge) : (s.setEdges k l).cfgA = s.cfgA := rfl
@[simp] theorem State.setEdges_cfgS (s : State) (k : Nat) (l : List FoEdge) : (s.setEdges k l).cfgS = s.cfgS := rfl
@[simp] theorem State.setEdges_tsq (s : State) (k : Nat) (l : List FoEdge) : (s.setEdges k l).tsq = s.tsq := rfl
@[simp] theorem State.setEdges_servo (s : State) (k : Nat) (l : List FoEdge) : (s.setEdges k l).servo = s.servo := rfl
@[simp] theorem State.setEdges_ptpPorts (s : State) (k : Nat) (l : List FoEdge) : (s.setEdges k l).ptpPorts = s.ptpPorts := rfl
@[simp] theorem State.setEdges_dats (s : State) (k : Nat) (l : List FoEdge) : (s.setEdges k l).dats = s.dats := rfl
@[simp] theorem State.setEdges_ports (s : State) (k : Nat) (l : List FoEdge) : (s.setEdges k l).ports = s.ports := rfl
@[simp] theorem State.setEdges_hbAt (s : State) (k : Nat) (l : List FoEdge) : (s.setEdges k l).hbAt = s.hbAt := rfl
@[simp] theorem State.setEdges_img (s : State) (k : Nat) (l : List FoEdge) : (s.setEdges k l).img = s.img := rfl
@[simp] theorem State.setEdges_konst (s : State) (k : Nat) (l : List FoEdge) : (s.setEdges k l).konst = s.konst := rfl
@[simp] theorem State.setEdges_prog (s : State) (k : Nat) (l : List FoEdge) : (s.setEdges k l).prog = s.prog := rfl
@[simp] theorem State.setEdges_progBytes (s : State) (k : Nat) (l : List FoEdge) : (s.setEdges k l).progBytes = s.progBytes := rfl
@[simp] theorem State.setEdges_engs (s : State) (k : Nat) (l : List FoEdge) : (s.setEdges k l).engs = s.engs := rfl
@[simp] theorem State.setEdges_plm (s : State) (k : Nat) (l : List FoEdge) : (s.setEdges k l).plm = s.plm := rfl
@[simp] theorem State.setEdges_blk (s : State) (k : Nat) (l : List FoEdge) : (s.setEdges k l).blk = s.blk := rfl
@[simp] theorem State.setEdges_viols (s : State) (k : Nat) (l : List FoEdge) : (s.setEdges k l).viols = s.viols := rfl
@[simp] theorem State.setEdges_cmp (s : State) (k : Nat) (l : List FoEdge) : (s.setEdges k l).cmp = s.cmp := rfl
@[simp] theorem State.setEdges_pair (s : State) (k : Nat) (l : List FoEdge) : (s.setEdges k l).pair = s.pair := rfl
@[simp] theorem State.setEdges_mp (s : State) (k : Nat) (l : List FoEdge) : (s.setEdges k l).mp = s.mp := rfl
@[simp] theorem State.setEdges_grps (s : State) (k : Nat) (l : List FoEdge) : (s.setEdges k l).grps = s.grps := rfl
@[simp] theorem State.setEdges_chans (s : State) (k : Nat) (l : List FoEdge) : (s.setEdges k l).chans = s.chans := rfl
@[simp] theorem State.setEdges_cans (s : State) (k : Nat) (l : List FoEdge) : (s.setEdges k l).cans = s.cans := rfl
@[simp] theorem State.setEdges_ctls (s : State) (k : Nat) (l : List FoEdge) : (s.setEdges k l).ctls = s.ctls := rfl
@[simp] theorem State.setEdges_fis (s : State) (k : Nat) (l : List FoEdge) : (s.setEdges k l).fis = s.fis := rfl
@[simp] theorem State.setEdges_fos (s : State) (k : Nat) (l : List FoEdge) : (s.setEdges k l).fos = s.fos := rfl
@[simp] theorem State.setEdges_recd (s : State) (k : Nat) (l : List FoEdge) : (s.setEdges k l).recd = s.recd := rfl
@[simp] theorem State.setEdges_mram (s : State) (k : Nat) (l : List FoEdge) : (s.setEdges k l).mram = s.mram := rfl
@[simp] theorem State.setEdges_mem (s : State) (k : Nat) (l : List FoEdge) : (s.setEdges k l).mem = s.mem := rfl
@[simp] theorem State.setEdges_pwr (s : State) (k : Nat) (l : List FoEdge) : (s.setEdges k l).pwr = s.pwr := rfl
@[simp] theorem State.setEdges_upd (s : State) (k : Nat) (l : List FoEdge) : (s.setEdges k l).upd = s.upd := rfl
@[simp] theorem State.setEdges_out (s : State) (k : Nat) (l : List FoEdge) : (s.setEdges k l).out = s.out := rfl
@[simp] theorem State.setEdges_free (s : State) (k : Nat) (l : List FoEdge) : (s.setEdges k l).free = s.free := rfl
@[simp] theorem State.setEdges_pending (s : State) (k : Nat) (l : List FoEdge) : (s.setEdges k l).pending = s.pending := rfl

@[simp] theorem State.setEng_order (s : State) (e : Nat) (x : Engine) : (s.setEng e x).order = s.order := rfl
@[simp] theorem State.setEng_sclk (s : State) (e : Nat) (x : Engine) : (s.setEng e x).sclk = s.sclk := rfl
@[simp] theorem State.setEng_clk (s : State) (e : Nat) (x : Engine) : (s.setEng e x).clk = s.clk := rfl
@[simp] theorem State.setEng_ptp (s : State) (e : Nat) (x : Engine) : (s.setEng e x).ptp = s.ptp := rfl
@[simp] theorem State.setEng_bkp (s : State) (e : Nat) (x : Engine) : (s.setEng e x).bkp = s.bkp := rfl
@[simp] theorem State.setEng_regs (s : State) (e : Nat) (x : Engine) : (s.setEng e x).regs = s.regs := rfl
@[simp] theorem State.setEng_flips (s : State) (e : Nat) (x : Engine) : (s.setEng e x).flips = s.flips := rfl
@[simp] theorem State.setEng_rlat (s : State) (e : Nat) (x : Engine) : (s.setEng e x).rlat = s.rlat := rfl
@[simp] theorem State.setEng_wlat (s : State) (e : Nat) (x : Engine) : (s.setEng e x).wlat = s.wlat := rfl
@[simp] theorem State.setEng_cfgA (s : State) (e : Nat) (x : Engine) : (s.setEng e x).cfgA = s.cfgA := rfl
@[simp] theorem State.setEng_cfgS (s : State) (e : Nat) (x : Engine) : (s.setEng e x).cfgS = s.cfgS := rfl
@[simp] theorem State.setEng_tsq (s : State) (e : Nat) (x : Engine) : (s.setEng e x).tsq = s.tsq := rfl
@[simp] theorem State.setEng_servo (s : State) (e : Nat) (x : Engine) : (s.setEng e x).servo = s.servo := rfl
@[simp] theorem State.setEng_ptpPorts (s : State) (e : Nat) (x : Engine) : (s.setEng e x).ptpPorts = s.ptpPorts := rfl
@[simp] theorem State.setEng_dats (s : State) (e : Nat) (x : Engine) : (s.setEng e x).dats = s.dats := rfl
@[simp] theorem State.setEng_stk (s : State) (e : Nat) (x : Engine) : (s.setEng e x).stk = s.stk := rfl
@[simp] theorem State.setEng_ports (s : State) (e : Nat) (x : Engine) : (s.setEng e x).ports = s.ports := rfl
@[simp] theorem State.setEng_hbAt (s : State) (e : Nat) (x : Engine) : (s.setEng e x).hbAt = s.hbAt := rfl
@[simp] theorem State.setEng_img (s : State) (e : Nat) (x : Engine) : (s.setEng e x).img = s.img := rfl
@[simp] theorem State.setEng_konst (s : State) (e : Nat) (x : Engine) : (s.setEng e x).konst = s.konst := rfl
@[simp] theorem State.setEng_prog (s : State) (e : Nat) (x : Engine) : (s.setEng e x).prog = s.prog := rfl
@[simp] theorem State.setEng_progBytes (s : State) (e : Nat) (x : Engine) : (s.setEng e x).progBytes = s.progBytes := rfl
@[simp] theorem State.setEng_plm (s : State) (e : Nat) (x : Engine) : (s.setEng e x).plm = s.plm := rfl
@[simp] theorem State.setEng_blk (s : State) (e : Nat) (x : Engine) : (s.setEng e x).blk = s.blk := rfl
@[simp] theorem State.setEng_viols (s : State) (e : Nat) (x : Engine) : (s.setEng e x).viols = s.viols := rfl
@[simp] theorem State.setEng_cmp (s : State) (e : Nat) (x : Engine) : (s.setEng e x).cmp = s.cmp := rfl
@[simp] theorem State.setEng_pair (s : State) (e : Nat) (x : Engine) : (s.setEng e x).pair = s.pair := rfl
@[simp] theorem State.setEng_mp (s : State) (e : Nat) (x : Engine) : (s.setEng e x).mp = s.mp := rfl
@[simp] theorem State.setEng_grps (s : State) (e : Nat) (x : Engine) : (s.setEng e x).grps = s.grps := rfl
@[simp] theorem State.setEng_chans (s : State) (e : Nat) (x : Engine) : (s.setEng e x).chans = s.chans := rfl
@[simp] theorem State.setEng_cans (s : State) (e : Nat) (x : Engine) : (s.setEng e x).cans = s.cans := rfl
@[simp] theorem State.setEng_ctls (s : State) (e : Nat) (x : Engine) : (s.setEng e x).ctls = s.ctls := rfl
@[simp] theorem State.setEng_fis (s : State) (e : Nat) (x : Engine) : (s.setEng e x).fis = s.fis := rfl
@[simp] theorem State.setEng_fos (s : State) (e : Nat) (x : Engine) : (s.setEng e x).fos = s.fos := rfl
@[simp] theorem State.setEng_recd (s : State) (e : Nat) (x : Engine) : (s.setEng e x).recd = s.recd := rfl
@[simp] theorem State.setEng_mram (s : State) (e : Nat) (x : Engine) : (s.setEng e x).mram = s.mram := rfl
@[simp] theorem State.setEng_mem (s : State) (e : Nat) (x : Engine) : (s.setEng e x).mem = s.mem := rfl
@[simp] theorem State.setEng_pwr (s : State) (e : Nat) (x : Engine) : (s.setEng e x).pwr = s.pwr := rfl
@[simp] theorem State.setEng_upd (s : State) (e : Nat) (x : Engine) : (s.setEng e x).upd = s.upd := rfl
@[simp] theorem State.setEng_out (s : State) (e : Nat) (x : Engine) : (s.setEng e x).out = s.out := rfl
@[simp] theorem State.setEng_free (s : State) (e : Nat) (x : Engine) : (s.setEng e x).free = s.free := rfl
@[simp] theorem State.setEng_pending (s : State) (e : Nat) (x : Engine) : (s.setEng e x).pending = s.pending := rfl

@[simp] theorem State.setRel_order (s : State) (e : Nat) (r : Release) : (s.setRel e r).order = s.order := rfl
@[simp] theorem State.setRel_sclk (s : State) (e : Nat) (r : Release) : (s.setRel e r).sclk = s.sclk := rfl
@[simp] theorem State.setRel_clk (s : State) (e : Nat) (r : Release) : (s.setRel e r).clk = s.clk := rfl
@[simp] theorem State.setRel_ptp (s : State) (e : Nat) (r : Release) : (s.setRel e r).ptp = s.ptp := rfl
@[simp] theorem State.setRel_bkp (s : State) (e : Nat) (r : Release) : (s.setRel e r).bkp = s.bkp := rfl
@[simp] theorem State.setRel_regs (s : State) (e : Nat) (r : Release) : (s.setRel e r).regs = s.regs := rfl
@[simp] theorem State.setRel_flips (s : State) (e : Nat) (r : Release) : (s.setRel e r).flips = s.flips := rfl
@[simp] theorem State.setRel_rlat (s : State) (e : Nat) (r : Release) : (s.setRel e r).rlat = s.rlat := rfl
@[simp] theorem State.setRel_wlat (s : State) (e : Nat) (r : Release) : (s.setRel e r).wlat = s.wlat := rfl
@[simp] theorem State.setRel_cfgA (s : State) (e : Nat) (r : Release) : (s.setRel e r).cfgA = s.cfgA := rfl
@[simp] theorem State.setRel_cfgS (s : State) (e : Nat) (r : Release) : (s.setRel e r).cfgS = s.cfgS := rfl
@[simp] theorem State.setRel_tsq (s : State) (e : Nat) (r : Release) : (s.setRel e r).tsq = s.tsq := rfl
@[simp] theorem State.setRel_servo (s : State) (e : Nat) (r : Release) : (s.setRel e r).servo = s.servo := rfl
@[simp] theorem State.setRel_ptpPorts (s : State) (e : Nat) (r : Release) : (s.setRel e r).ptpPorts = s.ptpPorts := rfl
@[simp] theorem State.setRel_dats (s : State) (e : Nat) (r : Release) : (s.setRel e r).dats = s.dats := rfl
@[simp] theorem State.setRel_stk (s : State) (e : Nat) (r : Release) : (s.setRel e r).stk = s.stk := rfl
@[simp] theorem State.setRel_ports (s : State) (e : Nat) (r : Release) : (s.setRel e r).ports = s.ports := rfl
@[simp] theorem State.setRel_hbAt (s : State) (e : Nat) (r : Release) : (s.setRel e r).hbAt = s.hbAt := rfl
@[simp] theorem State.setRel_img (s : State) (e : Nat) (r : Release) : (s.setRel e r).img = s.img := rfl
@[simp] theorem State.setRel_konst (s : State) (e : Nat) (r : Release) : (s.setRel e r).konst = s.konst := rfl
@[simp] theorem State.setRel_prog (s : State) (e : Nat) (r : Release) : (s.setRel e r).prog = s.prog := rfl
@[simp] theorem State.setRel_progBytes (s : State) (e : Nat) (r : Release) : (s.setRel e r).progBytes = s.progBytes := rfl
@[simp] theorem State.setRel_plm (s : State) (e : Nat) (r : Release) : (s.setRel e r).plm = s.plm := rfl
@[simp] theorem State.setRel_blk (s : State) (e : Nat) (r : Release) : (s.setRel e r).blk = s.blk := rfl
@[simp] theorem State.setRel_viols (s : State) (e : Nat) (r : Release) : (s.setRel e r).viols = s.viols := rfl
@[simp] theorem State.setRel_cmp (s : State) (e : Nat) (r : Release) : (s.setRel e r).cmp = s.cmp := rfl
@[simp] theorem State.setRel_pair (s : State) (e : Nat) (r : Release) : (s.setRel e r).pair = s.pair := rfl
@[simp] theorem State.setRel_mp (s : State) (e : Nat) (r : Release) : (s.setRel e r).mp = s.mp := rfl
@[simp] theorem State.setRel_grps (s : State) (e : Nat) (r : Release) : (s.setRel e r).grps = s.grps := rfl
@[simp] theorem State.setRel_chans (s : State) (e : Nat) (r : Release) : (s.setRel e r).chans = s.chans := rfl
@[simp] theorem State.setRel_cans (s : State) (e : Nat) (r : Release) : (s.setRel e r).cans = s.cans := rfl
@[simp] theorem State.setRel_ctls (s : State) (e : Nat) (r : Release) : (s.setRel e r).ctls = s.ctls := rfl
@[simp] theorem State.setRel_fis (s : State) (e : Nat) (r : Release) : (s.setRel e r).fis = s.fis := rfl
@[simp] theorem State.setRel_fos (s : State) (e : Nat) (r : Release) : (s.setRel e r).fos = s.fos := rfl
@[simp] theorem State.setRel_recd (s : State) (e : Nat) (r : Release) : (s.setRel e r).recd = s.recd := rfl
@[simp] theorem State.setRel_mram (s : State) (e : Nat) (r : Release) : (s.setRel e r).mram = s.mram := rfl
@[simp] theorem State.setRel_mem (s : State) (e : Nat) (r : Release) : (s.setRel e r).mem = s.mem := rfl
@[simp] theorem State.setRel_pwr (s : State) (e : Nat) (r : Release) : (s.setRel e r).pwr = s.pwr := rfl
@[simp] theorem State.setRel_upd (s : State) (e : Nat) (r : Release) : (s.setRel e r).upd = s.upd := rfl
@[simp] theorem State.setRel_out (s : State) (e : Nat) (r : Release) : (s.setRel e r).out = s.out := rfl
@[simp] theorem State.setRel_free (s : State) (e : Nat) (r : Release) : (s.setRel e r).free = s.free := rfl
@[simp] theorem State.setRel_pending (s : State) (e : Nat) (r : Release) : (s.setRel e r).pending = s.pending := rfl

@[simp] theorem State.setBlkPair_order (s : State) (p : Nat) (b : BlkPair) : (s.setBlkPair p b).order = s.order := rfl
@[simp] theorem State.setBlkPair_sclk (s : State) (p : Nat) (b : BlkPair) : (s.setBlkPair p b).sclk = s.sclk := rfl
@[simp] theorem State.setBlkPair_clk (s : State) (p : Nat) (b : BlkPair) : (s.setBlkPair p b).clk = s.clk := rfl
@[simp] theorem State.setBlkPair_ptp (s : State) (p : Nat) (b : BlkPair) : (s.setBlkPair p b).ptp = s.ptp := rfl
@[simp] theorem State.setBlkPair_bkp (s : State) (p : Nat) (b : BlkPair) : (s.setBlkPair p b).bkp = s.bkp := rfl
@[simp] theorem State.setBlkPair_regs (s : State) (p : Nat) (b : BlkPair) : (s.setBlkPair p b).regs = s.regs := rfl
@[simp] theorem State.setBlkPair_flips (s : State) (p : Nat) (b : BlkPair) : (s.setBlkPair p b).flips = s.flips := rfl
@[simp] theorem State.setBlkPair_rlat (s : State) (p : Nat) (b : BlkPair) : (s.setBlkPair p b).rlat = s.rlat := rfl
@[simp] theorem State.setBlkPair_wlat (s : State) (p : Nat) (b : BlkPair) : (s.setBlkPair p b).wlat = s.wlat := rfl
@[simp] theorem State.setBlkPair_cfgA (s : State) (p : Nat) (b : BlkPair) : (s.setBlkPair p b).cfgA = s.cfgA := rfl
@[simp] theorem State.setBlkPair_cfgS (s : State) (p : Nat) (b : BlkPair) : (s.setBlkPair p b).cfgS = s.cfgS := rfl
@[simp] theorem State.setBlkPair_tsq (s : State) (p : Nat) (b : BlkPair) : (s.setBlkPair p b).tsq = s.tsq := rfl
@[simp] theorem State.setBlkPair_servo (s : State) (p : Nat) (b : BlkPair) : (s.setBlkPair p b).servo = s.servo := rfl
@[simp] theorem State.setBlkPair_ptpPorts (s : State) (p : Nat) (b : BlkPair) : (s.setBlkPair p b).ptpPorts = s.ptpPorts := rfl
@[simp] theorem State.setBlkPair_dats (s : State) (p : Nat) (b : BlkPair) : (s.setBlkPair p b).dats = s.dats := rfl
@[simp] theorem State.setBlkPair_stk (s : State) (p : Nat) (b : BlkPair) : (s.setBlkPair p b).stk = s.stk := rfl
@[simp] theorem State.setBlkPair_ports (s : State) (p : Nat) (b : BlkPair) : (s.setBlkPair p b).ports = s.ports := rfl
@[simp] theorem State.setBlkPair_hbAt (s : State) (p : Nat) (b : BlkPair) : (s.setBlkPair p b).hbAt = s.hbAt := rfl
@[simp] theorem State.setBlkPair_img (s : State) (p : Nat) (b : BlkPair) : (s.setBlkPair p b).img = s.img := rfl
@[simp] theorem State.setBlkPair_konst (s : State) (p : Nat) (b : BlkPair) : (s.setBlkPair p b).konst = s.konst := rfl
@[simp] theorem State.setBlkPair_prog (s : State) (p : Nat) (b : BlkPair) : (s.setBlkPair p b).prog = s.prog := rfl
@[simp] theorem State.setBlkPair_progBytes (s : State) (p : Nat) (b : BlkPair) : (s.setBlkPair p b).progBytes = s.progBytes := rfl
@[simp] theorem State.setBlkPair_engs (s : State) (p : Nat) (b : BlkPair) : (s.setBlkPair p b).engs = s.engs := rfl
@[simp] theorem State.setBlkPair_plm (s : State) (p : Nat) (b : BlkPair) : (s.setBlkPair p b).plm = s.plm := rfl
@[simp] theorem State.setBlkPair_viols (s : State) (p : Nat) (b : BlkPair) : (s.setBlkPair p b).viols = s.viols := rfl
@[simp] theorem State.setBlkPair_cmp (s : State) (p : Nat) (b : BlkPair) : (s.setBlkPair p b).cmp = s.cmp := rfl
@[simp] theorem State.setBlkPair_pair (s : State) (p : Nat) (b : BlkPair) : (s.setBlkPair p b).pair = s.pair := rfl
@[simp] theorem State.setBlkPair_mp (s : State) (p : Nat) (b : BlkPair) : (s.setBlkPair p b).mp = s.mp := rfl
@[simp] theorem State.setBlkPair_grps (s : State) (p : Nat) (b : BlkPair) : (s.setBlkPair p b).grps = s.grps := rfl
@[simp] theorem State.setBlkPair_chans (s : State) (p : Nat) (b : BlkPair) : (s.setBlkPair p b).chans = s.chans := rfl
@[simp] theorem State.setBlkPair_cans (s : State) (p : Nat) (b : BlkPair) : (s.setBlkPair p b).cans = s.cans := rfl
@[simp] theorem State.setBlkPair_ctls (s : State) (p : Nat) (b : BlkPair) : (s.setBlkPair p b).ctls = s.ctls := rfl
@[simp] theorem State.setBlkPair_fis (s : State) (p : Nat) (b : BlkPair) : (s.setBlkPair p b).fis = s.fis := rfl
@[simp] theorem State.setBlkPair_fos (s : State) (p : Nat) (b : BlkPair) : (s.setBlkPair p b).fos = s.fos := rfl
@[simp] theorem State.setBlkPair_recd (s : State) (p : Nat) (b : BlkPair) : (s.setBlkPair p b).recd = s.recd := rfl
@[simp] theorem State.setBlkPair_mram (s : State) (p : Nat) (b : BlkPair) : (s.setBlkPair p b).mram = s.mram := rfl
@[simp] theorem State.setBlkPair_mem (s : State) (p : Nat) (b : BlkPair) : (s.setBlkPair p b).mem = s.mem := rfl
@[simp] theorem State.setBlkPair_pwr (s : State) (p : Nat) (b : BlkPair) : (s.setBlkPair p b).pwr = s.pwr := rfl
@[simp] theorem State.setBlkPair_upd (s : State) (p : Nat) (b : BlkPair) : (s.setBlkPair p b).upd = s.upd := rfl
@[simp] theorem State.setBlkPair_out (s : State) (p : Nat) (b : BlkPair) : (s.setBlkPair p b).out = s.out := rfl
@[simp] theorem State.setBlkPair_free (s : State) (p : Nat) (b : BlkPair) : (s.setBlkPair p b).free = s.free := rfl
@[simp] theorem State.setBlkPair_pending (s : State) (p : Nat) (b : BlkPair) : (s.setBlkPair p b).pending = s.pending := rfl

@[simp] theorem State.modInst_order (s : State) (i : Nat) (f : InstStat → InstStat) : (s.modInst i f).order = s.order := rfl
@[simp] theorem State.modInst_sclk (s : State) (i : Nat) (f : InstStat → InstStat) : (s.modInst i f).sclk = s.sclk := rfl
@[simp] theorem State.modInst_clk (s : State) (i : Nat) (f : InstStat → InstStat) : (s.modInst i f).clk = s.clk := rfl
@[simp] theorem State.modInst_ptp (s : State) (i : Nat) (f : InstStat → InstStat) : (s.modInst i f).ptp = s.ptp := rfl
@[simp] theorem State.modInst_bkp (s : State) (i : Nat) (f : InstStat → InstStat) : (s.modInst i f).bkp = s.bkp := rfl
@[simp] theorem State.modInst_regs (s : State) (i : Nat) (f : InstStat → InstStat) : (s.modInst i f).regs = s.regs := rfl
@[simp] theorem State.modInst_flips (s : State) (i : Nat) (f : InstStat → InstStat) : (s.modInst i f).flips = s.flips := rfl
@[simp] theorem State.modInst_rlat (s : State) (i : Nat) (f : InstStat → InstStat) : (s.modInst i f).rlat = s.rlat := rfl
@[simp] theorem State.modInst_wlat (s : State) (i : Nat) (f : InstStat → InstStat) : (s.modInst i f).wlat = s.wlat := rfl
@[simp] theorem State.modInst_cfgA (s : State) (i : Nat) (f : InstStat → InstStat) : (s.modInst i f).cfgA = s.cfgA := rfl
@[simp] theorem State.modInst_cfgS (s : State) (i : Nat) (f : InstStat → InstStat) : (s.modInst i f).cfgS = s.cfgS := rfl
@[simp] theorem State.modInst_tsq (s : State) (i : Nat) (f : InstStat → InstStat) : (s.modInst i f).tsq = s.tsq := rfl
@[simp] theorem State.modInst_servo (s : State) (i : Nat) (f : InstStat → InstStat) : (s.modInst i f).servo = s.servo := rfl
@[simp] theorem State.modInst_ptpPorts (s : State) (i : Nat) (f : InstStat → InstStat) : (s.modInst i f).ptpPorts = s.ptpPorts := rfl
@[simp] theorem State.modInst_dats (s : State) (i : Nat) (f : InstStat → InstStat) : (s.modInst i f).dats = s.dats := rfl
@[simp] theorem State.modInst_stk (s : State) (i : Nat) (f : InstStat → InstStat) : (s.modInst i f).stk = s.stk := rfl
@[simp] theorem State.modInst_ports (s : State) (i : Nat) (f : InstStat → InstStat) : (s.modInst i f).ports = s.ports := rfl
@[simp] theorem State.modInst_hbAt (s : State) (i : Nat) (f : InstStat → InstStat) : (s.modInst i f).hbAt = s.hbAt := rfl
@[simp] theorem State.modInst_img (s : State) (i : Nat) (f : InstStat → InstStat) : (s.modInst i f).img = s.img := rfl
@[simp] theorem State.modInst_konst (s : State) (i : Nat) (f : InstStat → InstStat) : (s.modInst i f).konst = s.konst := rfl
@[simp] theorem State.modInst_prog (s : State) (i : Nat) (f : InstStat → InstStat) : (s.modInst i f).prog = s.prog := rfl
@[simp] theorem State.modInst_progBytes (s : State) (i : Nat) (f : InstStat → InstStat) : (s.modInst i f).progBytes = s.progBytes := rfl
@[simp] theorem State.modInst_engs (s : State) (i : Nat) (f : InstStat → InstStat) : (s.modInst i f).engs = s.engs := rfl
@[simp] theorem State.modInst_plm (s : State) (i : Nat) (f : InstStat → InstStat) : (s.modInst i f).plm = s.plm := rfl
@[simp] theorem State.modInst_viols (s : State) (i : Nat) (f : InstStat → InstStat) : (s.modInst i f).viols = s.viols := rfl
@[simp] theorem State.modInst_cmp (s : State) (i : Nat) (f : InstStat → InstStat) : (s.modInst i f).cmp = s.cmp := rfl
@[simp] theorem State.modInst_pair (s : State) (i : Nat) (f : InstStat → InstStat) : (s.modInst i f).pair = s.pair := rfl
@[simp] theorem State.modInst_mp (s : State) (i : Nat) (f : InstStat → InstStat) : (s.modInst i f).mp = s.mp := rfl
@[simp] theorem State.modInst_grps (s : State) (i : Nat) (f : InstStat → InstStat) : (s.modInst i f).grps = s.grps := rfl
@[simp] theorem State.modInst_chans (s : State) (i : Nat) (f : InstStat → InstStat) : (s.modInst i f).chans = s.chans := rfl
@[simp] theorem State.modInst_cans (s : State) (i : Nat) (f : InstStat → InstStat) : (s.modInst i f).cans = s.cans := rfl
@[simp] theorem State.modInst_ctls (s : State) (i : Nat) (f : InstStat → InstStat) : (s.modInst i f).ctls = s.ctls := rfl
@[simp] theorem State.modInst_fis (s : State) (i : Nat) (f : InstStat → InstStat) : (s.modInst i f).fis = s.fis := rfl
@[simp] theorem State.modInst_fos (s : State) (i : Nat) (f : InstStat → InstStat) : (s.modInst i f).fos = s.fos := rfl
@[simp] theorem State.modInst_recd (s : State) (i : Nat) (f : InstStat → InstStat) : (s.modInst i f).recd = s.recd := rfl
@[simp] theorem State.modInst_mram (s : State) (i : Nat) (f : InstStat → InstStat) : (s.modInst i f).mram = s.mram := rfl
@[simp] theorem State.modInst_mem (s : State) (i : Nat) (f : InstStat → InstStat) : (s.modInst i f).mem = s.mem := rfl
@[simp] theorem State.modInst_pwr (s : State) (i : Nat) (f : InstStat → InstStat) : (s.modInst i f).pwr = s.pwr := rfl
@[simp] theorem State.modInst_upd (s : State) (i : Nat) (f : InstStat → InstStat) : (s.modInst i f).upd = s.upd := rfl
@[simp] theorem State.modInst_out (s : State) (i : Nat) (f : InstStat → InstStat) : (s.modInst i f).out = s.out := rfl
@[simp] theorem State.modInst_free (s : State) (i : Nat) (f : InstStat → InstStat) : (s.modInst i f).free = s.free := rfl
@[simp] theorem State.modInst_pending (s : State) (i : Nat) (f : InstStat → InstStat) : (s.modInst i f).pending = s.pending := rfl

@[simp] theorem State.modChk_order (s : State) (x : Nat) (f : Checked → Checked) : (s.modChk x f).order = s.order := rfl
@[simp] theorem State.modChk_sclk (s : State) (x : Nat) (f : Checked → Checked) : (s.modChk x f).sclk = s.sclk := rfl
@[simp] theorem State.modChk_clk (s : State) (x : Nat) (f : Checked → Checked) : (s.modChk x f).clk = s.clk := rfl
@[simp] theorem State.modChk_ptp (s : State) (x : Nat) (f : Checked → Checked) : (s.modChk x f).ptp = s.ptp := rfl
@[simp] theorem State.modChk_bkp (s : State) (x : Nat) (f : Checked → Checked) : (s.modChk x f).bkp = s.bkp := rfl
@[simp] theorem State.modChk_regs (s : State) (x : Nat) (f : Checked → Checked) : (s.modChk x f).regs = s.regs := rfl
@[simp] theorem State.modChk_flips (s : State) (x : Nat) (f : Checked → Checked) : (s.modChk x f).flips = s.flips := rfl
@[simp] theorem State.modChk_rlat (s : State) (x : Nat) (f : Checked → Checked) : (s.modChk x f).rlat = s.rlat := rfl
@[simp] theorem State.modChk_wlat (s : State) (x : Nat) (f : Checked → Checked) : (s.modChk x f).wlat = s.wlat := rfl
@[simp] theorem State.modChk_cfgA (s : State) (x : Nat) (f : Checked → Checked) : (s.modChk x f).cfgA = s.cfgA := rfl
@[simp] theorem State.modChk_cfgS (s : State) (x : Nat) (f : Checked → Checked) : (s.modChk x f).cfgS = s.cfgS := rfl
@[simp] theorem State.modChk_tsq (s : State) (x : Nat) (f : Checked → Checked) : (s.modChk x f).tsq = s.tsq := rfl
@[simp] theorem State.modChk_servo (s : State) (x : Nat) (f : Checked → Checked) : (s.modChk x f).servo = s.servo := rfl
@[simp] theorem State.modChk_ptpPorts (s : State) (x : Nat) (f : Checked → Checked) : (s.modChk x f).ptpPorts = s.ptpPorts := rfl
@[simp] theorem State.modChk_dats (s : State) (x : Nat) (f : Checked → Checked) : (s.modChk x f).dats = s.dats := rfl
@[simp] theorem State.modChk_stk (s : State) (x : Nat) (f : Checked → Checked) : (s.modChk x f).stk = s.stk := rfl
@[simp] theorem State.modChk_ports (s : State) (x : Nat) (f : Checked → Checked) : (s.modChk x f).ports = s.ports := rfl
@[simp] theorem State.modChk_hbAt (s : State) (x : Nat) (f : Checked → Checked) : (s.modChk x f).hbAt = s.hbAt := rfl
@[simp] theorem State.modChk_img (s : State) (x : Nat) (f : Checked → Checked) : (s.modChk x f).img = s.img := rfl
@[simp] theorem State.modChk_konst (s : State) (x : Nat) (f : Checked → Checked) : (s.modChk x f).konst = s.konst := rfl
@[simp] theorem State.modChk_prog (s : State) (x : Nat) (f : Checked → Checked) : (s.modChk x f).prog = s.prog := rfl
@[simp] theorem State.modChk_progBytes (s : State) (x : Nat) (f : Checked → Checked) : (s.modChk x f).progBytes = s.progBytes := rfl
@[simp] theorem State.modChk_engs (s : State) (x : Nat) (f : Checked → Checked) : (s.modChk x f).engs = s.engs := rfl
@[simp] theorem State.modChk_plm (s : State) (x : Nat) (f : Checked → Checked) : (s.modChk x f).plm = s.plm := rfl
@[simp] theorem State.modChk_blk (s : State) (x : Nat) (f : Checked → Checked) : (s.modChk x f).blk = s.blk := rfl
@[simp] theorem State.modChk_viols (s : State) (x : Nat) (f : Checked → Checked) : (s.modChk x f).viols = s.viols := rfl
@[simp] theorem State.modChk_pair (s : State) (x : Nat) (f : Checked → Checked) : (s.modChk x f).pair = s.pair := rfl
@[simp] theorem State.modChk_mp (s : State) (x : Nat) (f : Checked → Checked) : (s.modChk x f).mp = s.mp := rfl
@[simp] theorem State.modChk_grps (s : State) (x : Nat) (f : Checked → Checked) : (s.modChk x f).grps = s.grps := rfl
@[simp] theorem State.modChk_chans (s : State) (x : Nat) (f : Checked → Checked) : (s.modChk x f).chans = s.chans := rfl
@[simp] theorem State.modChk_cans (s : State) (x : Nat) (f : Checked → Checked) : (s.modChk x f).cans = s.cans := rfl
@[simp] theorem State.modChk_ctls (s : State) (x : Nat) (f : Checked → Checked) : (s.modChk x f).ctls = s.ctls := rfl
@[simp] theorem State.modChk_fis (s : State) (x : Nat) (f : Checked → Checked) : (s.modChk x f).fis = s.fis := rfl
@[simp] theorem State.modChk_fos (s : State) (x : Nat) (f : Checked → Checked) : (s.modChk x f).fos = s.fos := rfl
@[simp] theorem State.modChk_recd (s : State) (x : Nat) (f : Checked → Checked) : (s.modChk x f).recd = s.recd := rfl
@[simp] theorem State.modChk_mram (s : State) (x : Nat) (f : Checked → Checked) : (s.modChk x f).mram = s.mram := rfl
@[simp] theorem State.modChk_mem (s : State) (x : Nat) (f : Checked → Checked) : (s.modChk x f).mem = s.mem := rfl
@[simp] theorem State.modChk_pwr (s : State) (x : Nat) (f : Checked → Checked) : (s.modChk x f).pwr = s.pwr := rfl
@[simp] theorem State.modChk_upd (s : State) (x : Nat) (f : Checked → Checked) : (s.modChk x f).upd = s.upd := rfl
@[simp] theorem State.modChk_out (s : State) (x : Nat) (f : Checked → Checked) : (s.modChk x f).out = s.out := rfl
@[simp] theorem State.modChk_free (s : State) (x : Nat) (f : Checked → Checked) : (s.modChk x f).free = s.free := rfl
@[simp] theorem State.modChk_pending (s : State) (x : Nat) (f : Checked → Checked) : (s.modChk x f).pending = s.pending := rfl

@[simp] theorem State.setEcc_order (s : State) (a v : Nat) : (s.setEcc a v).order = s.order := rfl
@[simp] theorem State.setEcc_sclk (s : State) (a v : Nat) : (s.setEcc a v).sclk = s.sclk := rfl
@[simp] theorem State.setEcc_clk (s : State) (a v : Nat) : (s.setEcc a v).clk = s.clk := rfl
@[simp] theorem State.setEcc_ptp (s : State) (a v : Nat) : (s.setEcc a v).ptp = s.ptp := rfl
@[simp] theorem State.setEcc_bkp (s : State) (a v : Nat) : (s.setEcc a v).bkp = s.bkp := rfl
@[simp] theorem State.setEcc_regs (s : State) (a v : Nat) : (s.setEcc a v).regs = s.regs := rfl
@[simp] theorem State.setEcc_flips (s : State) (a v : Nat) : (s.setEcc a v).flips = s.flips := rfl
@[simp] theorem State.setEcc_rlat (s : State) (a v : Nat) : (s.setEcc a v).rlat = s.rlat := rfl
@[simp] theorem State.setEcc_wlat (s : State) (a v : Nat) : (s.setEcc a v).wlat = s.wlat := rfl
@[simp] theorem State.setEcc_cfgA (s : State) (a v : Nat) : (s.setEcc a v).cfgA = s.cfgA := rfl
@[simp] theorem State.setEcc_cfgS (s : State) (a v : Nat) : (s.setEcc a v).cfgS = s.cfgS := rfl
@[simp] theorem State.setEcc_tsq (s : State) (a v : Nat) : (s.setEcc a v).tsq = s.tsq := rfl
@[simp] theorem State.setEcc_servo (s : State) (a v : Nat) : (s.setEcc a v).servo = s.servo := rfl
@[simp] theorem State.setEcc_ptpPorts (s : State) (a v : Nat) : (s.setEcc a v).ptpPorts = s.ptpPorts := rfl
@[simp] theorem State.setEcc_dats (s : State) (a v : Nat) : (s.setEcc a v).dats = s.dats := rfl
@[simp] theorem State.setEcc_stk (s : State) (a v : Nat) : (s.setEcc a v).stk = s.stk := rfl
@[simp] theorem State.setEcc_ports (s : State) (a v : Nat) : (s.setEcc a v).ports = s.ports := rfl
@[simp] theorem State.setEcc_hbAt (s : State) (a v : Nat) : (s.setEcc a v).hbAt = s.hbAt := rfl
@[simp] theorem State.setEcc_img (s : State) (a v : Nat) : (s.setEcc a v).img = s.img := rfl
@[simp] theorem State.setEcc_konst (s : State) (a v : Nat) : (s.setEcc a v).konst = s.konst := rfl
@[simp] theorem State.setEcc_prog (s : State) (a v : Nat) : (s.setEcc a v).prog = s.prog := rfl
@[simp] theorem State.setEcc_progBytes (s : State) (a v : Nat) : (s.setEcc a v).progBytes = s.progBytes := rfl
@[simp] theorem State.setEcc_engs (s : State) (a v : Nat) : (s.setEcc a v).engs = s.engs := rfl
@[simp] theorem State.setEcc_plm (s : State) (a v : Nat) : (s.setEcc a v).plm = s.plm := rfl
@[simp] theorem State.setEcc_blk (s : State) (a v : Nat) : (s.setEcc a v).blk = s.blk := rfl
@[simp] theorem State.setEcc_viols (s : State) (a v : Nat) : (s.setEcc a v).viols = s.viols := rfl
@[simp] theorem State.setEcc_cmp (s : State) (a v : Nat) : (s.setEcc a v).cmp = s.cmp := rfl
@[simp] theorem State.setEcc_pair (s : State) (a v : Nat) : (s.setEcc a v).pair = s.pair := rfl
@[simp] theorem State.setEcc_mp (s : State) (a v : Nat) : (s.setEcc a v).mp = s.mp := rfl
@[simp] theorem State.setEcc_grps (s : State) (a v : Nat) : (s.setEcc a v).grps = s.grps := rfl
@[simp] theorem State.setEcc_chans (s : State) (a v : Nat) : (s.setEcc a v).chans = s.chans := rfl
@[simp] theorem State.setEcc_cans (s : State) (a v : Nat) : (s.setEcc a v).cans = s.cans := rfl
@[simp] theorem State.setEcc_ctls (s : State) (a v : Nat) : (s.setEcc a v).ctls = s.ctls := rfl
@[simp] theorem State.setEcc_fis (s : State) (a v : Nat) : (s.setEcc a v).fis = s.fis := rfl
@[simp] theorem State.setEcc_fos (s : State) (a v : Nat) : (s.setEcc a v).fos = s.fos := rfl
@[simp] theorem State.setEcc_recd (s : State) (a v : Nat) : (s.setEcc a v).recd = s.recd := rfl
@[simp] theorem State.setEcc_mram (s : State) (a v : Nat) : (s.setEcc a v).mram = s.mram := rfl
@[simp] theorem State.setEcc_pwr (s : State) (a v : Nat) : (s.setEcc a v).pwr = s.pwr := rfl
@[simp] theorem State.setEcc_upd (s : State) (a v : Nat) : (s.setEcc a v).upd = s.upd := rfl
@[simp] theorem State.setEcc_out (s : State) (a v : Nat) : (s.setEcc a v).out = s.out := rfl
@[simp] theorem State.setEcc_free (s : State) (a v : Nat) : (s.setEcc a v).free = s.free := rfl
@[simp] theorem State.setEcc_pending (s : State) (a v : Nat) : (s.setEcc a v).pending = s.pending := rfl

@[simp] theorem State.modPort_order (s : State) (n : Nat) (f : Port → Port) : (s.modPort n f).order = s.order := rfl
@[simp] theorem State.modPort_sclk (s : State) (n : Nat) (f : Port → Port) : (s.modPort n f).sclk = s.sclk := rfl
@[simp] theorem State.modPort_clk (s : State) (n : Nat) (f : Port → Port) : (s.modPort n f).clk = s.clk := rfl
@[simp] theorem State.modPort_ptp (s : State) (n : Nat) (f : Port → Port) : (s.modPort n f).ptp = s.ptp := rfl
@[simp] theorem State.modPort_bkp (s : State) (n : Nat) (f : Port → Port) : (s.modPort n f).bkp = s.bkp := rfl
@[simp] theorem State.modPort_regs (s : State) (n : Nat) (f : Port → Port) : (s.modPort n f).regs = s.regs := rfl
@[simp] theorem State.modPort_flips (s : State) (n : Nat) (f : Port → Port) : (s.modPort n f).flips = s.flips := rfl
@[simp] theorem State.modPort_rlat (s : State) (n : Nat) (f : Port → Port) : (s.modPort n f).rlat = s.rlat := rfl
@[simp] theorem State.modPort_wlat (s : State) (n : Nat) (f : Port → Port) : (s.modPort n f).wlat = s.wlat := rfl
@[simp] theorem State.modPort_cfgA (s : State) (n : Nat) (f : Port → Port) : (s.modPort n f).cfgA = s.cfgA := rfl
@[simp] theorem State.modPort_cfgS (s : State) (n : Nat) (f : Port → Port) : (s.modPort n f).cfgS = s.cfgS := rfl
@[simp] theorem State.modPort_tsq (s : State) (n : Nat) (f : Port → Port) : (s.modPort n f).tsq = s.tsq := rfl
@[simp] theorem State.modPort_servo (s : State) (n : Nat) (f : Port → Port) : (s.modPort n f).servo = s.servo := rfl
@[simp] theorem State.modPort_ptpPorts (s : State) (n : Nat) (f : Port → Port) : (s.modPort n f).ptpPorts = s.ptpPorts := rfl
@[simp] theorem State.modPort_dats (s : State) (n : Nat) (f : Port → Port) : (s.modPort n f).dats = s.dats := rfl
@[simp] theorem State.modPort_stk (s : State) (n : Nat) (f : Port → Port) : (s.modPort n f).stk = s.stk := rfl
@[simp] theorem State.modPort_hbAt (s : State) (n : Nat) (f : Port → Port) : (s.modPort n f).hbAt = s.hbAt := rfl
@[simp] theorem State.modPort_img (s : State) (n : Nat) (f : Port → Port) : (s.modPort n f).img = s.img := rfl
@[simp] theorem State.modPort_konst (s : State) (n : Nat) (f : Port → Port) : (s.modPort n f).konst = s.konst := rfl
@[simp] theorem State.modPort_prog (s : State) (n : Nat) (f : Port → Port) : (s.modPort n f).prog = s.prog := rfl
@[simp] theorem State.modPort_progBytes (s : State) (n : Nat) (f : Port → Port) : (s.modPort n f).progBytes = s.progBytes := rfl
@[simp] theorem State.modPort_engs (s : State) (n : Nat) (f : Port → Port) : (s.modPort n f).engs = s.engs := rfl
@[simp] theorem State.modPort_plm (s : State) (n : Nat) (f : Port → Port) : (s.modPort n f).plm = s.plm := rfl
@[simp] theorem State.modPort_blk (s : State) (n : Nat) (f : Port → Port) : (s.modPort n f).blk = s.blk := rfl
@[simp] theorem State.modPort_viols (s : State) (n : Nat) (f : Port → Port) : (s.modPort n f).viols = s.viols := rfl
@[simp] theorem State.modPort_cmp (s : State) (n : Nat) (f : Port → Port) : (s.modPort n f).cmp = s.cmp := rfl
@[simp] theorem State.modPort_pair (s : State) (n : Nat) (f : Port → Port) : (s.modPort n f).pair = s.pair := rfl
@[simp] theorem State.modPort_mp (s : State) (n : Nat) (f : Port → Port) : (s.modPort n f).mp = s.mp := rfl
@[simp] theorem State.modPort_grps (s : State) (n : Nat) (f : Port → Port) : (s.modPort n f).grps = s.grps := rfl
@[simp] theorem State.modPort_chans (s : State) (n : Nat) (f : Port → Port) : (s.modPort n f).chans = s.chans := rfl
@[simp] theorem State.modPort_cans (s : State) (n : Nat) (f : Port → Port) : (s.modPort n f).cans = s.cans := rfl
@[simp] theorem State.modPort_ctls (s : State) (n : Nat) (f : Port → Port) : (s.modPort n f).ctls = s.ctls := rfl
@[simp] theorem State.modPort_fis (s : State) (n : Nat) (f : Port → Port) : (s.modPort n f).fis = s.fis := rfl
@[simp] theorem State.modPort_fos (s : State) (n : Nat) (f : Port → Port) : (s.modPort n f).fos = s.fos := rfl
@[simp] theorem State.modPort_recd (s : State) (n : Nat) (f : Port → Port) : (s.modPort n f).recd = s.recd := rfl
@[simp] theorem State.modPort_mram (s : State) (n : Nat) (f : Port → Port) : (s.modPort n f).mram = s.mram := rfl
@[simp] theorem State.modPort_mem (s : State) (n : Nat) (f : Port → Port) : (s.modPort n f).mem = s.mem := rfl
@[simp] theorem State.modPort_pwr (s : State) (n : Nat) (f : Port → Port) : (s.modPort n f).pwr = s.pwr := rfl
@[simp] theorem State.modPort_upd (s : State) (n : Nat) (f : Port → Port) : (s.modPort n f).upd = s.upd := rfl
@[simp] theorem State.modPort_out (s : State) (n : Nat) (f : Port → Port) : (s.modPort n f).out = s.out := rfl
@[simp] theorem State.modPort_free (s : State) (n : Nat) (f : Port → Port) : (s.modPort n f).free = s.free := rfl
@[simp] theorem State.modPort_pending (s : State) (n : Nat) (f : Port → Port) : (s.modPort n f).pending = s.pending := rfl

@[simp] theorem State.modPtp_order (s : State) (n : Nat) (f : PtpPort → PtpPort) : (s.modPtp n f).order = s.order := rfl
@[simp] theorem State.modPtp_sclk (s : State) (n : Nat) (f : PtpPort → PtpPort) : (s.modPtp n f).sclk = s.sclk := rfl
@[simp] theorem State.modPtp_clk (s : State) (n : Nat) (f : PtpPort → PtpPort) : (s.modPtp n f).clk = s.clk := rfl
@[simp] theorem State.modPtp_ptp (s : State) (n : Nat) (f : PtpPort → PtpPort) : (s.modPtp n f).ptp = s.ptp := rfl
@[simp] theorem State.modPtp_bkp (s : State) (n : Nat) (f : PtpPort → PtpPort) : (s.modPtp n f).bkp = s.bkp := rfl
@[simp] theorem State.modPtp_regs (s : State) (n : Nat) (f : PtpPort → PtpPort) : (s.modPtp n f).regs = s.regs := rfl
@[simp] theorem State.modPtp_flips (s : State) (n : Nat) (f : PtpPort → PtpPort) : (s.modPtp n f).flips = s.flips := rfl
@[simp] theorem State.modPtp_rlat (s : State) (n : Nat) (f : PtpPort → PtpPort) : (s.modPtp n f).rlat = s.rlat := rfl
@[simp] theorem State.modPtp_wlat (s : State) (n : Nat) (f : PtpPort → PtpPort) : (s.modPtp n f).wlat = s.wlat := rfl
@[simp] theorem State.modPtp_cfgA (s : State) (n : Nat) (f : PtpPort → PtpPort) : (s.modPtp n f).cfgA = s.cfgA := rfl
@[simp] theorem State.modPtp_cfgS (s : State) (n : Nat) (f : PtpPort → PtpPort) : (s.modPtp n f).cfgS = s.cfgS := rfl
@[simp] theorem State.modPtp_tsq (s : State) (n : Nat) (f : PtpPort → PtpPort) : (s.modPtp n f).tsq = s.tsq := rfl
@[simp] theorem State.modPtp_servo (s : State) (n : Nat) (f : PtpPort → PtpPort) : (s.modPtp n f).servo = s.servo := rfl
@[simp] theorem State.modPtp_dats (s : State) (n : Nat) (f : PtpPort → PtpPort) : (s.modPtp n f).dats = s.dats := rfl
@[simp] theorem State.modPtp_stk (s : State) (n : Nat) (f : PtpPort → PtpPort) : (s.modPtp n f).stk = s.stk := rfl
@[simp] theorem State.modPtp_ports (s : State) (n : Nat) (f : PtpPort → PtpPort) : (s.modPtp n f).ports = s.ports := rfl
@[simp] theorem State.modPtp_hbAt (s : State) (n : Nat) (f : PtpPort → PtpPort) : (s.modPtp n f).hbAt = s.hbAt := rfl
@[simp] theorem State.modPtp_img (s : State) (n : Nat) (f : PtpPort → PtpPort) : (s.modPtp n f).img = s.img := rfl
@[simp] theorem State.modPtp_konst (s : State) (n : Nat) (f : PtpPort → PtpPort) : (s.modPtp n f).konst = s.konst := rfl
@[simp] theorem State.modPtp_prog (s : State) (n : Nat) (f : PtpPort → PtpPort) : (s.modPtp n f).prog = s.prog := rfl
@[simp] theorem State.modPtp_progBytes (s : State) (n : Nat) (f : PtpPort → PtpPort) : (s.modPtp n f).progBytes = s.progBytes := rfl
@[simp] theorem State.modPtp_engs (s : State) (n : Nat) (f : PtpPort → PtpPort) : (s.modPtp n f).engs = s.engs := rfl
@[simp] theorem State.modPtp_plm (s : State) (n : Nat) (f : PtpPort → PtpPort) : (s.modPtp n f).plm = s.plm := rfl
@[simp] theorem State.modPtp_blk (s : State) (n : Nat) (f : PtpPort → PtpPort) : (s.modPtp n f).blk = s.blk := rfl
@[simp] theorem State.modPtp_viols (s : State) (n : Nat) (f : PtpPort → PtpPort) : (s.modPtp n f).viols = s.viols := rfl
@[simp] theorem State.modPtp_cmp (s : State) (n : Nat) (f : PtpPort → PtpPort) : (s.modPtp n f).cmp = s.cmp := rfl
@[simp] theorem State.modPtp_pair (s : State) (n : Nat) (f : PtpPort → PtpPort) : (s.modPtp n f).pair = s.pair := rfl
@[simp] theorem State.modPtp_mp (s : State) (n : Nat) (f : PtpPort → PtpPort) : (s.modPtp n f).mp = s.mp := rfl
@[simp] theorem State.modPtp_grps (s : State) (n : Nat) (f : PtpPort → PtpPort) : (s.modPtp n f).grps = s.grps := rfl
@[simp] theorem State.modPtp_chans (s : State) (n : Nat) (f : PtpPort → PtpPort) : (s.modPtp n f).chans = s.chans := rfl
@[simp] theorem State.modPtp_cans (s : State) (n : Nat) (f : PtpPort → PtpPort) : (s.modPtp n f).cans = s.cans := rfl
@[simp] theorem State.modPtp_ctls (s : State) (n : Nat) (f : PtpPort → PtpPort) : (s.modPtp n f).ctls = s.ctls := rfl
@[simp] theorem State.modPtp_fis (s : State) (n : Nat) (f : PtpPort → PtpPort) : (s.modPtp n f).fis = s.fis := rfl
@[simp] theorem State.modPtp_fos (s : State) (n : Nat) (f : PtpPort → PtpPort) : (s.modPtp n f).fos = s.fos := rfl
@[simp] theorem State.modPtp_recd (s : State) (n : Nat) (f : PtpPort → PtpPort) : (s.modPtp n f).recd = s.recd := rfl
@[simp] theorem State.modPtp_mram (s : State) (n : Nat) (f : PtpPort → PtpPort) : (s.modPtp n f).mram = s.mram := rfl
@[simp] theorem State.modPtp_mem (s : State) (n : Nat) (f : PtpPort → PtpPort) : (s.modPtp n f).mem = s.mem := rfl
@[simp] theorem State.modPtp_pwr (s : State) (n : Nat) (f : PtpPort → PtpPort) : (s.modPtp n f).pwr = s.pwr := rfl
@[simp] theorem State.modPtp_upd (s : State) (n : Nat) (f : PtpPort → PtpPort) : (s.modPtp n f).upd = s.upd := rfl
@[simp] theorem State.modPtp_out (s : State) (n : Nat) (f : PtpPort → PtpPort) : (s.modPtp n f).out = s.out := rfl
@[simp] theorem State.modPtp_free (s : State) (n : Nat) (f : PtpPort → PtpPort) : (s.modPtp n f).free = s.free := rfl
@[simp] theorem State.modPtp_pending (s : State) (n : Nat) (f : PtpPort → PtpPort) : (s.modPtp n f).pending = s.pending := rfl

@[simp] theorem State.modChan_order (s : State) (n : Nat) (f : Chan → Chan) : (s.modChan n f).order = s.order := rfl
@[simp] theorem State.modChan_sclk (s : State) (n : Nat) (f : Chan → Chan) : (s.modChan n f).sclk = s.sclk := rfl
@[simp] theorem State.modChan_clk (s : State) (n : Nat) (f : Chan → Chan) : (s.modChan n f).clk = s.clk := rfl
@[simp] theorem State.modChan_ptp (s : State) (n : Nat) (f : Chan → Chan) : (s.modChan n f).ptp = s.ptp := rfl
@[simp] theorem State.modChan_bkp (s : State) (n : Nat) (f : Chan → Chan) : (s.modChan n f).bkp = s.bkp := rfl
@[simp] theorem State.modChan_regs (s : State) (n : Nat) (f : Chan → Chan) : (s.modChan n f).regs = s.regs := rfl
@[simp] theorem State.modChan_flips (s : State) (n : Nat) (f : Chan → Chan) : (s.modChan n f).flips = s.flips := rfl
@[simp] theorem State.modChan_rlat (s : State) (n : Nat) (f : Chan → Chan) : (s.modChan n f).rlat = s.rlat := rfl
@[simp] theorem State.modChan_wlat (s : State) (n : Nat) (f : Chan → Chan) : (s.modChan n f).wlat = s.wlat := rfl
@[simp] theorem State.modChan_cfgA (s : State) (n : Nat) (f : Chan → Chan) : (s.modChan n f).cfgA = s.cfgA := rfl
@[simp] theorem State.modChan_cfgS (s : State) (n : Nat) (f : Chan → Chan) : (s.modChan n f).cfgS = s.cfgS := rfl
@[simp] theorem State.modChan_tsq (s : State) (n : Nat) (f : Chan → Chan) : (s.modChan n f).tsq = s.tsq := rfl
@[simp] theorem State.modChan_servo (s : State) (n : Nat) (f : Chan → Chan) : (s.modChan n f).servo = s.servo := rfl
@[simp] theorem State.modChan_ptpPorts (s : State) (n : Nat) (f : Chan → Chan) : (s.modChan n f).ptpPorts = s.ptpPorts := rfl
@[simp] theorem State.modChan_dats (s : State) (n : Nat) (f : Chan → Chan) : (s.modChan n f).dats = s.dats := rfl
@[simp] theorem State.modChan_stk (s : State) (n : Nat) (f : Chan → Chan) : (s.modChan n f).stk = s.stk := rfl
@[simp] theorem State.modChan_ports (s : State) (n : Nat) (f : Chan → Chan) : (s.modChan n f).ports = s.ports := rfl
@[simp] theorem State.modChan_hbAt (s : State) (n : Nat) (f : Chan → Chan) : (s.modChan n f).hbAt = s.hbAt := rfl
@[simp] theorem State.modChan_img (s : State) (n : Nat) (f : Chan → Chan) : (s.modChan n f).img = s.img := rfl
@[simp] theorem State.modChan_konst (s : State) (n : Nat) (f : Chan → Chan) : (s.modChan n f).konst = s.konst := rfl
@[simp] theorem State.modChan_prog (s : State) (n : Nat) (f : Chan → Chan) : (s.modChan n f).prog = s.prog := rfl
@[simp] theorem State.modChan_progBytes (s : State) (n : Nat) (f : Chan → Chan) : (s.modChan n f).progBytes = s.progBytes := rfl
@[simp] theorem State.modChan_engs (s : State) (n : Nat) (f : Chan → Chan) : (s.modChan n f).engs = s.engs := rfl
@[simp] theorem State.modChan_plm (s : State) (n : Nat) (f : Chan → Chan) : (s.modChan n f).plm = s.plm := rfl
@[simp] theorem State.modChan_blk (s : State) (n : Nat) (f : Chan → Chan) : (s.modChan n f).blk = s.blk := rfl
@[simp] theorem State.modChan_viols (s : State) (n : Nat) (f : Chan → Chan) : (s.modChan n f).viols = s.viols := rfl
@[simp] theorem State.modChan_cmp (s : State) (n : Nat) (f : Chan → Chan) : (s.modChan n f).cmp = s.cmp := rfl
@[simp] theorem State.modChan_pair (s : State) (n : Nat) (f : Chan → Chan) : (s.modChan n f).pair = s.pair := rfl
@[simp] theorem State.modChan_mp (s : State) (n : Nat) (f : Chan → Chan) : (s.modChan n f).mp = s.mp := rfl
@[simp] theorem State.modChan_grps (s : State) (n : Nat) (f : Chan → Chan) : (s.modChan n f).grps = s.grps := rfl
@[simp] theorem State.modChan_cans (s : State) (n : Nat) (f : Chan → Chan) : (s.modChan n f).cans = s.cans := rfl
@[simp] theorem State.modChan_ctls (s : State) (n : Nat) (f : Chan → Chan) : (s.modChan n f).ctls = s.ctls := rfl
@[simp] theorem State.modChan_fis (s : State) (n : Nat) (f : Chan → Chan) : (s.modChan n f).fis = s.fis := rfl
@[simp] theorem State.modChan_fos (s : State) (n : Nat) (f : Chan → Chan) : (s.modChan n f).fos = s.fos := rfl
@[simp] theorem State.modChan_recd (s : State) (n : Nat) (f : Chan → Chan) : (s.modChan n f).recd = s.recd := rfl
@[simp] theorem State.modChan_mram (s : State) (n : Nat) (f : Chan → Chan) : (s.modChan n f).mram = s.mram := rfl
@[simp] theorem State.modChan_mem (s : State) (n : Nat) (f : Chan → Chan) : (s.modChan n f).mem = s.mem := rfl
@[simp] theorem State.modChan_pwr (s : State) (n : Nat) (f : Chan → Chan) : (s.modChan n f).pwr = s.pwr := rfl
@[simp] theorem State.modChan_upd (s : State) (n : Nat) (f : Chan → Chan) : (s.modChan n f).upd = s.upd := rfl
@[simp] theorem State.modChan_out (s : State) (n : Nat) (f : Chan → Chan) : (s.modChan n f).out = s.out := rfl
@[simp] theorem State.modChan_free (s : State) (n : Nat) (f : Chan → Chan) : (s.modChan n f).free = s.free := rfl
@[simp] theorem State.modChan_pending (s : State) (n : Nat) (f : Chan → Chan) : (s.modChan n f).pending = s.pending := rfl

@[simp] theorem State.modGrp_order (s : State) (g : Nat) (f : Group → Group) : (s.modGrp g f).order = s.order := rfl
@[simp] theorem State.modGrp_sclk (s : State) (g : Nat) (f : Group → Group) : (s.modGrp g f).sclk = s.sclk := rfl
@[simp] theorem State.modGrp_clk (s : State) (g : Nat) (f : Group → Group) : (s.modGrp g f).clk = s.clk := rfl
@[simp] theorem State.modGrp_ptp (s : State) (g : Nat) (f : Group → Group) : (s.modGrp g f).ptp = s.ptp := rfl
@[simp] theorem State.modGrp_bkp (s : State) (g : Nat) (f : Group → Group) : (s.modGrp g f).bkp = s.bkp := rfl
@[simp] theorem State.modGrp_regs (s : State) (g : Nat) (f : Group → Group) : (s.modGrp g f).regs = s.regs := rfl
@[simp] theorem State.modGrp_flips (s : State) (g : Nat) (f : Group → Group) : (s.modGrp g f).flips = s.flips := rfl
@[simp] theorem State.modGrp_rlat (s : State) (g : Nat) (f : Group → Group) : (s.modGrp g f).rlat = s.rlat := rfl
@[simp] theorem State.modGrp_wlat (s : State) (g : Nat) (f : Group → Group) : (s.modGrp g f).wlat = s.wlat := rfl
@[simp] theorem State.modGrp_cfgA (s : State) (g : Nat) (f : Group → Group) : (s.modGrp g f).cfgA = s.cfgA := rfl
@[simp] theorem State.modGrp_cfgS (s : State) (g : Nat) (f : Group → Group) : (s.modGrp g f).cfgS = s.cfgS := rfl
@[simp] theorem State.modGrp_tsq (s : State) (g : Nat) (f : Group → Group) : (s.modGrp g f).tsq = s.tsq := rfl
@[simp] theorem State.modGrp_servo (s : State) (g : Nat) (f : Group → Group) : (s.modGrp g f).servo = s.servo := rfl
@[simp] theorem State.modGrp_ptpPorts (s : State) (g : Nat) (f : Group → Group) : (s.modGrp g f).ptpPorts = s.ptpPorts := rfl
@[simp] theorem State.modGrp_dats (s : State) (g : Nat) (f : Group → Group) : (s.modGrp g f).dats = s.dats := rfl
@[simp] theorem State.modGrp_stk (s : State) (g : Nat) (f : Group → Group) : (s.modGrp g f).stk = s.stk := rfl
@[simp] theorem State.modGrp_ports (s : State) (g : Nat) (f : Group → Group) : (s.modGrp g f).ports = s.ports := rfl
@[simp] theorem State.modGrp_hbAt (s : State) (g : Nat) (f : Group → Group) : (s.modGrp g f).hbAt = s.hbAt := rfl
@[simp] theorem State.modGrp_img (s : State) (g : Nat) (f : Group → Group) : (s.modGrp g f).img = s.img := rfl
@[simp] theorem State.modGrp_konst (s : State) (g : Nat) (f : Group → Group) : (s.modGrp g f).konst = s.konst := rfl
@[simp] theorem State.modGrp_prog (s : State) (g : Nat) (f : Group → Group) : (s.modGrp g f).prog = s.prog := rfl
@[simp] theorem State.modGrp_progBytes (s : State) (g : Nat) (f : Group → Group) : (s.modGrp g f).progBytes = s.progBytes := rfl
@[simp] theorem State.modGrp_engs (s : State) (g : Nat) (f : Group → Group) : (s.modGrp g f).engs = s.engs := rfl
@[simp] theorem State.modGrp_plm (s : State) (g : Nat) (f : Group → Group) : (s.modGrp g f).plm = s.plm := rfl
@[simp] theorem State.modGrp_blk (s : State) (g : Nat) (f : Group → Group) : (s.modGrp g f).blk = s.blk := rfl
@[simp] theorem State.modGrp_viols (s : State) (g : Nat) (f : Group → Group) : (s.modGrp g f).viols = s.viols := rfl
@[simp] theorem State.modGrp_cmp (s : State) (g : Nat) (f : Group → Group) : (s.modGrp g f).cmp = s.cmp := rfl
@[simp] theorem State.modGrp_pair (s : State) (g : Nat) (f : Group → Group) : (s.modGrp g f).pair = s.pair := rfl
@[simp] theorem State.modGrp_mp (s : State) (g : Nat) (f : Group → Group) : (s.modGrp g f).mp = s.mp := rfl
@[simp] theorem State.modGrp_chans (s : State) (g : Nat) (f : Group → Group) : (s.modGrp g f).chans = s.chans := rfl
@[simp] theorem State.modGrp_cans (s : State) (g : Nat) (f : Group → Group) : (s.modGrp g f).cans = s.cans := rfl
@[simp] theorem State.modGrp_ctls (s : State) (g : Nat) (f : Group → Group) : (s.modGrp g f).ctls = s.ctls := rfl
@[simp] theorem State.modGrp_fis (s : State) (g : Nat) (f : Group → Group) : (s.modGrp g f).fis = s.fis := rfl
@[simp] theorem State.modGrp_fos (s : State) (g : Nat) (f : Group → Group) : (s.modGrp g f).fos = s.fos := rfl
@[simp] theorem State.modGrp_recd (s : State) (g : Nat) (f : Group → Group) : (s.modGrp g f).recd = s.recd := rfl
@[simp] theorem State.modGrp_mram (s : State) (g : Nat) (f : Group → Group) : (s.modGrp g f).mram = s.mram := rfl
@[simp] theorem State.modGrp_mem (s : State) (g : Nat) (f : Group → Group) : (s.modGrp g f).mem = s.mem := rfl
@[simp] theorem State.modGrp_pwr (s : State) (g : Nat) (f : Group → Group) : (s.modGrp g f).pwr = s.pwr := rfl
@[simp] theorem State.modGrp_upd (s : State) (g : Nat) (f : Group → Group) : (s.modGrp g f).upd = s.upd := rfl
@[simp] theorem State.modGrp_out (s : State) (g : Nat) (f : Group → Group) : (s.modGrp g f).out = s.out := rfl
@[simp] theorem State.modGrp_free (s : State) (g : Nat) (f : Group → Group) : (s.modGrp g f).free = s.free := rfl
@[simp] theorem State.modGrp_pending (s : State) (g : Nat) (f : Group → Group) : (s.modGrp g f).pending = s.pending := rfl

@[simp] theorem State.setCan_order (s : State) (n : Nat) (c : Can) : (s.setCan n c).order = s.order := rfl
@[simp] theorem State.setCan_sclk (s : State) (n : Nat) (c : Can) : (s.setCan n c).sclk = s.sclk := rfl
@[simp] theorem State.setCan_clk (s : State) (n : Nat) (c : Can) : (s.setCan n c).clk = s.clk := rfl
@[simp] theorem State.setCan_ptp (s : State) (n : Nat) (c : Can) : (s.setCan n c).ptp = s.ptp := rfl
@[simp] theorem State.setCan_bkp (s : State) (n : Nat) (c : Can) : (s.setCan n c).bkp = s.bkp := rfl
@[simp] theorem State.setCan_regs (s : State) (n : Nat) (c : Can) : (s.setCan n c).regs = s.regs := rfl
@[simp] theorem State.setCan_flips (s : State) (n : Nat) (c : Can) : (s.setCan n c).flips = s.flips := rfl
@[simp] theorem State.setCan_rlat (s : State) (n : Nat) (c : Can) : (s.setCan n c).rlat = s.rlat := rfl
@[simp] theorem State.setCan_wlat (s : State) (n : Nat) (c : Can) : (s.setCan n c).wlat = s.wlat := rfl
@[simp] theorem State.setCan_cfgA (s : State) (n : Nat) (c : Can) : (s.setCan n c).cfgA = s.cfgA := rfl
@[simp] theorem State.setCan_cfgS (s : State) (n : Nat) (c : Can) : (s.setCan n c).cfgS = s.cfgS := rfl
@[simp] theorem State.setCan_tsq (s : State) (n : Nat) (c : Can) : (s.setCan n c).tsq = s.tsq := rfl
@[simp] theorem State.setCan_servo (s : State) (n : Nat) (c : Can) : (s.setCan n c).servo = s.servo := rfl
@[simp] theorem State.setCan_ptpPorts (s : State) (n : Nat) (c : Can) : (s.setCan n c).ptpPorts = s.ptpPorts := rfl
@[simp] theorem State.setCan_dats (s : State) (n : Nat) (c : Can) : (s.setCan n c).dats = s.dats := rfl
@[simp] theorem State.setCan_stk (s : State) (n : Nat) (c : Can) : (s.setCan n c).stk = s.stk := rfl
@[simp] theorem State.setCan_ports (s : State) (n : Nat) (c : Can) : (s.setCan n c).ports = s.ports := rfl
@[simp] theorem State.setCan_hbAt (s : State) (n : Nat) (c : Can) : (s.setCan n c).hbAt = s.hbAt := rfl
@[simp] theorem State.setCan_img (s : State) (n : Nat) (c : Can) : (s.setCan n c).img = s.img := rfl
@[simp] theorem State.setCan_konst (s : State) (n : Nat) (c : Can) : (s.setCan n c).konst = s.konst := rfl
@[simp] theorem State.setCan_prog (s : State) (n : Nat) (c : Can) : (s.setCan n c).prog = s.prog := rfl
@[simp] theorem State.setCan_progBytes (s : State) (n : Nat) (c : Can) : (s.setCan n c).progBytes = s.progBytes := rfl
@[simp] theorem State.setCan_engs (s : State) (n : Nat) (c : Can) : (s.setCan n c).engs = s.engs := rfl
@[simp] theorem State.setCan_plm (s : State) (n : Nat) (c : Can) : (s.setCan n c).plm = s.plm := rfl
@[simp] theorem State.setCan_blk (s : State) (n : Nat) (c : Can) : (s.setCan n c).blk = s.blk := rfl
@[simp] theorem State.setCan_viols (s : State) (n : Nat) (c : Can) : (s.setCan n c).viols = s.viols := rfl
@[simp] theorem State.setCan_cmp (s : State) (n : Nat) (c : Can) : (s.setCan n c).cmp = s.cmp := rfl
@[simp] theorem State.setCan_pair (s : State) (n : Nat) (c : Can) : (s.setCan n c).pair = s.pair := rfl
@[simp] theorem State.setCan_mp (s : State) (n : Nat) (c : Can) : (s.setCan n c).mp = s.mp := rfl
@[simp] theorem State.setCan_grps (s : State) (n : Nat) (c : Can) : (s.setCan n c).grps = s.grps := rfl
@[simp] theorem State.setCan_chans (s : State) (n : Nat) (c : Can) : (s.setCan n c).chans = s.chans := rfl
@[simp] theorem State.setCan_ctls (s : State) (n : Nat) (c : Can) : (s.setCan n c).ctls = s.ctls := rfl
@[simp] theorem State.setCan_fis (s : State) (n : Nat) (c : Can) : (s.setCan n c).fis = s.fis := rfl
@[simp] theorem State.setCan_fos (s : State) (n : Nat) (c : Can) : (s.setCan n c).fos = s.fos := rfl
@[simp] theorem State.setCan_recd (s : State) (n : Nat) (c : Can) : (s.setCan n c).recd = s.recd := rfl
@[simp] theorem State.setCan_mram (s : State) (n : Nat) (c : Can) : (s.setCan n c).mram = s.mram := rfl
@[simp] theorem State.setCan_mem (s : State) (n : Nat) (c : Can) : (s.setCan n c).mem = s.mem := rfl
@[simp] theorem State.setCan_pwr (s : State) (n : Nat) (c : Can) : (s.setCan n c).pwr = s.pwr := rfl
@[simp] theorem State.setCan_upd (s : State) (n : Nat) (c : Can) : (s.setCan n c).upd = s.upd := rfl
@[simp] theorem State.setCan_out (s : State) (n : Nat) (c : Can) : (s.setCan n c).out = s.out := rfl
@[simp] theorem State.setCan_free (s : State) (n : Nat) (c : Can) : (s.setCan n c).free = s.free := rfl
@[simp] theorem State.setCan_pending (s : State) (n : Nat) (c : Can) : (s.setCan n c).pending = s.pending := rfl

@[simp] theorem State.setFi_order (s : State) (k : Nat) (x : FastIn) : (s.setFi k x).order = s.order := rfl
@[simp] theorem State.setFi_sclk (s : State) (k : Nat) (x : FastIn) : (s.setFi k x).sclk = s.sclk := rfl
@[simp] theorem State.setFi_clk (s : State) (k : Nat) (x : FastIn) : (s.setFi k x).clk = s.clk := rfl
@[simp] theorem State.setFi_ptp (s : State) (k : Nat) (x : FastIn) : (s.setFi k x).ptp = s.ptp := rfl
@[simp] theorem State.setFi_bkp (s : State) (k : Nat) (x : FastIn) : (s.setFi k x).bkp = s.bkp := rfl
@[simp] theorem State.setFi_regs (s : State) (k : Nat) (x : FastIn) : (s.setFi k x).regs = s.regs := rfl
@[simp] theorem State.setFi_flips (s : State) (k : Nat) (x : FastIn) : (s.setFi k x).flips = s.flips := rfl
@[simp] theorem State.setFi_rlat (s : State) (k : Nat) (x : FastIn) : (s.setFi k x).rlat = s.rlat := rfl
@[simp] theorem State.setFi_wlat (s : State) (k : Nat) (x : FastIn) : (s.setFi k x).wlat = s.wlat := rfl
@[simp] theorem State.setFi_cfgA (s : State) (k : Nat) (x : FastIn) : (s.setFi k x).cfgA = s.cfgA := rfl
@[simp] theorem State.setFi_cfgS (s : State) (k : Nat) (x : FastIn) : (s.setFi k x).cfgS = s.cfgS := rfl
@[simp] theorem State.setFi_tsq (s : State) (k : Nat) (x : FastIn) : (s.setFi k x).tsq = s.tsq := rfl
@[simp] theorem State.setFi_servo (s : State) (k : Nat) (x : FastIn) : (s.setFi k x).servo = s.servo := rfl
@[simp] theorem State.setFi_ptpPorts (s : State) (k : Nat) (x : FastIn) : (s.setFi k x).ptpPorts = s.ptpPorts := rfl
@[simp] theorem State.setFi_dats (s : State) (k : Nat) (x : FastIn) : (s.setFi k x).dats = s.dats := rfl
@[simp] theorem State.setFi_stk (s : State) (k : Nat) (x : FastIn) : (s.setFi k x).stk = s.stk := rfl
@[simp] theorem State.setFi_ports (s : State) (k : Nat) (x : FastIn) : (s.setFi k x).ports = s.ports := rfl
@[simp] theorem State.setFi_hbAt (s : State) (k : Nat) (x : FastIn) : (s.setFi k x).hbAt = s.hbAt := rfl
@[simp] theorem State.setFi_img (s : State) (k : Nat) (x : FastIn) : (s.setFi k x).img = s.img := rfl
@[simp] theorem State.setFi_konst (s : State) (k : Nat) (x : FastIn) : (s.setFi k x).konst = s.konst := rfl
@[simp] theorem State.setFi_prog (s : State) (k : Nat) (x : FastIn) : (s.setFi k x).prog = s.prog := rfl
@[simp] theorem State.setFi_progBytes (s : State) (k : Nat) (x : FastIn) : (s.setFi k x).progBytes = s.progBytes := rfl
@[simp] theorem State.setFi_engs (s : State) (k : Nat) (x : FastIn) : (s.setFi k x).engs = s.engs := rfl
@[simp] theorem State.setFi_plm (s : State) (k : Nat) (x : FastIn) : (s.setFi k x).plm = s.plm := rfl
@[simp] theorem State.setFi_blk (s : State) (k : Nat) (x : FastIn) : (s.setFi k x).blk = s.blk := rfl
@[simp] theorem State.setFi_viols (s : State) (k : Nat) (x : FastIn) : (s.setFi k x).viols = s.viols := rfl
@[simp] theorem State.setFi_cmp (s : State) (k : Nat) (x : FastIn) : (s.setFi k x).cmp = s.cmp := rfl
@[simp] theorem State.setFi_pair (s : State) (k : Nat) (x : FastIn) : (s.setFi k x).pair = s.pair := rfl
@[simp] theorem State.setFi_mp (s : State) (k : Nat) (x : FastIn) : (s.setFi k x).mp = s.mp := rfl
@[simp] theorem State.setFi_grps (s : State) (k : Nat) (x : FastIn) : (s.setFi k x).grps = s.grps := rfl
@[simp] theorem State.setFi_chans (s : State) (k : Nat) (x : FastIn) : (s.setFi k x).chans = s.chans := rfl
@[simp] theorem State.setFi_cans (s : State) (k : Nat) (x : FastIn) : (s.setFi k x).cans = s.cans := rfl
@[simp] theorem State.setFi_ctls (s : State) (k : Nat) (x : FastIn) : (s.setFi k x).ctls = s.ctls := rfl
@[simp] theorem State.setFi_fos (s : State) (k : Nat) (x : FastIn) : (s.setFi k x).fos = s.fos := rfl
@[simp] theorem State.setFi_recd (s : State) (k : Nat) (x : FastIn) : (s.setFi k x).recd = s.recd := rfl
@[simp] theorem State.setFi_mram (s : State) (k : Nat) (x : FastIn) : (s.setFi k x).mram = s.mram := rfl
@[simp] theorem State.setFi_mem (s : State) (k : Nat) (x : FastIn) : (s.setFi k x).mem = s.mem := rfl
@[simp] theorem State.setFi_pwr (s : State) (k : Nat) (x : FastIn) : (s.setFi k x).pwr = s.pwr := rfl
@[simp] theorem State.setFi_upd (s : State) (k : Nat) (x : FastIn) : (s.setFi k x).upd = s.upd := rfl
@[simp] theorem State.setFi_out (s : State) (k : Nat) (x : FastIn) : (s.setFi k x).out = s.out := rfl
@[simp] theorem State.setFi_free (s : State) (k : Nat) (x : FastIn) : (s.setFi k x).free = s.free := rfl
@[simp] theorem State.setFi_pending (s : State) (k : Nat) (x : FastIn) : (s.setFi k x).pending = s.pending := rfl

@[simp] theorem State.lifeAdd_order (s : State) (off n : Nat) : (s.lifeAdd off n).order = s.order := rfl
@[simp] theorem State.lifeAdd_sclk (s : State) (off n : Nat) : (s.lifeAdd off n).sclk = s.sclk := rfl
@[simp] theorem State.lifeAdd_clk (s : State) (off n : Nat) : (s.lifeAdd off n).clk = s.clk := rfl
@[simp] theorem State.lifeAdd_ptp (s : State) (off n : Nat) : (s.lifeAdd off n).ptp = s.ptp := rfl
@[simp] theorem State.lifeAdd_bkp (s : State) (off n : Nat) : (s.lifeAdd off n).bkp = s.bkp := rfl
@[simp] theorem State.lifeAdd_regs (s : State) (off n : Nat) : (s.lifeAdd off n).regs = s.regs := rfl
@[simp] theorem State.lifeAdd_flips (s : State) (off n : Nat) : (s.lifeAdd off n).flips = s.flips := rfl
@[simp] theorem State.lifeAdd_rlat (s : State) (off n : Nat) : (s.lifeAdd off n).rlat = s.rlat := rfl
@[simp] theorem State.lifeAdd_wlat (s : State) (off n : Nat) : (s.lifeAdd off n).wlat = s.wlat := rfl
@[simp] theorem State.lifeAdd_cfgA (s : State) (off n : Nat) : (s.lifeAdd off n).cfgA = s.cfgA := rfl
@[simp] theorem State.lifeAdd_cfgS (s : State) (off n : Nat) : (s.lifeAdd off n).cfgS = s.cfgS := rfl
@[simp] theorem State.lifeAdd_tsq (s : State) (off n : Nat) : (s.lifeAdd off n).tsq = s.tsq := rfl
@[simp] theorem State.lifeAdd_servo (s : State) (off n : Nat) : (s.lifeAdd off n).servo = s.servo := rfl
@[simp] theorem State.lifeAdd_ptpPorts (s : State) (off n : Nat) : (s.lifeAdd off n).ptpPorts = s.ptpPorts := rfl
@[simp] theorem State.lifeAdd_dats (s : State) (off n : Nat) : (s.lifeAdd off n).dats = s.dats := rfl
@[simp] theorem State.lifeAdd_stk (s : State) (off n : Nat) : (s.lifeAdd off n).stk = s.stk := rfl
@[simp] theorem State.lifeAdd_ports (s : State) (off n : Nat) : (s.lifeAdd off n).ports = s.ports := rfl
@[simp] theorem State.lifeAdd_hbAt (s : State) (off n : Nat) : (s.lifeAdd off n).hbAt = s.hbAt := rfl
@[simp] theorem State.lifeAdd_img (s : State) (off n : Nat) : (s.lifeAdd off n).img = s.img := rfl
@[simp] theorem State.lifeAdd_konst (s : State) (off n : Nat) : (s.lifeAdd off n).konst = s.konst := rfl
@[simp] theorem State.lifeAdd_prog (s : State) (off n : Nat) : (s.lifeAdd off n).prog = s.prog := rfl
@[simp] theorem State.lifeAdd_progBytes (s : State) (off n : Nat) : (s.lifeAdd off n).progBytes = s.progBytes := rfl
@[simp] theorem State.lifeAdd_engs (s : State) (off n : Nat) : (s.lifeAdd off n).engs = s.engs := rfl
@[simp] theorem State.lifeAdd_plm (s : State) (off n : Nat) : (s.lifeAdd off n).plm = s.plm := rfl
@[simp] theorem State.lifeAdd_blk (s : State) (off n : Nat) : (s.lifeAdd off n).blk = s.blk := rfl
@[simp] theorem State.lifeAdd_viols (s : State) (off n : Nat) : (s.lifeAdd off n).viols = s.viols := rfl
@[simp] theorem State.lifeAdd_cmp (s : State) (off n : Nat) : (s.lifeAdd off n).cmp = s.cmp := rfl
@[simp] theorem State.lifeAdd_pair (s : State) (off n : Nat) : (s.lifeAdd off n).pair = s.pair := rfl
@[simp] theorem State.lifeAdd_mp (s : State) (off n : Nat) : (s.lifeAdd off n).mp = s.mp := rfl
@[simp] theorem State.lifeAdd_grps (s : State) (off n : Nat) : (s.lifeAdd off n).grps = s.grps := rfl
@[simp] theorem State.lifeAdd_chans (s : State) (off n : Nat) : (s.lifeAdd off n).chans = s.chans := rfl
@[simp] theorem State.lifeAdd_cans (s : State) (off n : Nat) : (s.lifeAdd off n).cans = s.cans := rfl
@[simp] theorem State.lifeAdd_ctls (s : State) (off n : Nat) : (s.lifeAdd off n).ctls = s.ctls := rfl
@[simp] theorem State.lifeAdd_fis (s : State) (off n : Nat) : (s.lifeAdd off n).fis = s.fis := rfl
@[simp] theorem State.lifeAdd_fos (s : State) (off n : Nat) : (s.lifeAdd off n).fos = s.fos := rfl
@[simp] theorem State.lifeAdd_mram (s : State) (off n : Nat) : (s.lifeAdd off n).mram = s.mram := rfl
@[simp] theorem State.lifeAdd_mem (s : State) (off n : Nat) : (s.lifeAdd off n).mem = s.mem := rfl
@[simp] theorem State.lifeAdd_pwr (s : State) (off n : Nat) : (s.lifeAdd off n).pwr = s.pwr := rfl
@[simp] theorem State.lifeAdd_upd (s : State) (off n : Nat) : (s.lifeAdd off n).upd = s.upd := rfl
@[simp] theorem State.lifeAdd_out (s : State) (off n : Nat) : (s.lifeAdd off n).out = s.out := rfl
@[simp] theorem State.lifeAdd_free (s : State) (off n : Nat) : (s.lifeAdd off n).free = s.free := rfl
@[simp] theorem State.lifeAdd_pending (s : State) (off n : Nat) : (s.lifeAdd off n).pending = s.pending := rfl

@[simp] theorem State.setSlot_order (s : State) (k : Nat) (x : Slot) : (s.setSlot k x).order = s.order := rfl
@[simp] theorem State.setSlot_sclk (s : State) (k : Nat) (x : Slot) : (s.setSlot k x).sclk = s.sclk := rfl
@[simp] theorem State.setSlot_clk (s : State) (k : Nat) (x : Slot) : (s.setSlot k x).clk = s.clk := rfl
@[simp] theorem State.setSlot_ptp (s : State) (k : Nat) (x : Slot) : (s.setSlot k x).ptp = s.ptp := rfl
@[simp] theorem State.setSlot_bkp (s : State) (k : Nat) (x : Slot) : (s.setSlot k x).bkp = s.bkp := rfl
@[simp] theorem State.setSlot_regs (s : State) (k : Nat) (x : Slot) : (s.setSlot k x).regs = s.regs := rfl
@[simp] theorem State.setSlot_flips (s : State) (k : Nat) (x : Slot) : (s.setSlot k x).flips = s.flips := rfl
@[simp] theorem State.setSlot_rlat (s : State) (k : Nat) (x : Slot) : (s.setSlot k x).rlat = s.rlat := rfl
@[simp] theorem State.setSlot_wlat (s : State) (k : Nat) (x : Slot) : (s.setSlot k x).wlat = s.wlat := rfl
@[simp] theorem State.setSlot_cfgA (s : State) (k : Nat) (x : Slot) : (s.setSlot k x).cfgA = s.cfgA := rfl
@[simp] theorem State.setSlot_cfgS (s : State) (k : Nat) (x : Slot) : (s.setSlot k x).cfgS = s.cfgS := rfl
@[simp] theorem State.setSlot_tsq (s : State) (k : Nat) (x : Slot) : (s.setSlot k x).tsq = s.tsq := rfl
@[simp] theorem State.setSlot_servo (s : State) (k : Nat) (x : Slot) : (s.setSlot k x).servo = s.servo := rfl
@[simp] theorem State.setSlot_ptpPorts (s : State) (k : Nat) (x : Slot) : (s.setSlot k x).ptpPorts = s.ptpPorts := rfl
@[simp] theorem State.setSlot_dats (s : State) (k : Nat) (x : Slot) : (s.setSlot k x).dats = s.dats := rfl
@[simp] theorem State.setSlot_stk (s : State) (k : Nat) (x : Slot) : (s.setSlot k x).stk = s.stk := rfl
@[simp] theorem State.setSlot_ports (s : State) (k : Nat) (x : Slot) : (s.setSlot k x).ports = s.ports := rfl
@[simp] theorem State.setSlot_hbAt (s : State) (k : Nat) (x : Slot) : (s.setSlot k x).hbAt = s.hbAt := rfl
@[simp] theorem State.setSlot_img (s : State) (k : Nat) (x : Slot) : (s.setSlot k x).img = s.img := rfl
@[simp] theorem State.setSlot_konst (s : State) (k : Nat) (x : Slot) : (s.setSlot k x).konst = s.konst := rfl
@[simp] theorem State.setSlot_prog (s : State) (k : Nat) (x : Slot) : (s.setSlot k x).prog = s.prog := rfl
@[simp] theorem State.setSlot_progBytes (s : State) (k : Nat) (x : Slot) : (s.setSlot k x).progBytes = s.progBytes := rfl
@[simp] theorem State.setSlot_engs (s : State) (k : Nat) (x : Slot) : (s.setSlot k x).engs = s.engs := rfl
@[simp] theorem State.setSlot_plm (s : State) (k : Nat) (x : Slot) : (s.setSlot k x).plm = s.plm := rfl
@[simp] theorem State.setSlot_blk (s : State) (k : Nat) (x : Slot) : (s.setSlot k x).blk = s.blk := rfl
@[simp] theorem State.setSlot_viols (s : State) (k : Nat) (x : Slot) : (s.setSlot k x).viols = s.viols := rfl
@[simp] theorem State.setSlot_cmp (s : State) (k : Nat) (x : Slot) : (s.setSlot k x).cmp = s.cmp := rfl
@[simp] theorem State.setSlot_pair (s : State) (k : Nat) (x : Slot) : (s.setSlot k x).pair = s.pair := rfl
@[simp] theorem State.setSlot_mp (s : State) (k : Nat) (x : Slot) : (s.setSlot k x).mp = s.mp := rfl
@[simp] theorem State.setSlot_grps (s : State) (k : Nat) (x : Slot) : (s.setSlot k x).grps = s.grps := rfl
@[simp] theorem State.setSlot_chans (s : State) (k : Nat) (x : Slot) : (s.setSlot k x).chans = s.chans := rfl
@[simp] theorem State.setSlot_cans (s : State) (k : Nat) (x : Slot) : (s.setSlot k x).cans = s.cans := rfl
@[simp] theorem State.setSlot_ctls (s : State) (k : Nat) (x : Slot) : (s.setSlot k x).ctls = s.ctls := rfl
@[simp] theorem State.setSlot_fis (s : State) (k : Nat) (x : Slot) : (s.setSlot k x).fis = s.fis := rfl
@[simp] theorem State.setSlot_fos (s : State) (k : Nat) (x : Slot) : (s.setSlot k x).fos = s.fos := rfl
@[simp] theorem State.setSlot_recd (s : State) (k : Nat) (x : Slot) : (s.setSlot k x).recd = s.recd := rfl
@[simp] theorem State.setSlot_mram (s : State) (k : Nat) (x : Slot) : (s.setSlot k x).mram = s.mram := rfl
@[simp] theorem State.setSlot_mem (s : State) (k : Nat) (x : Slot) : (s.setSlot k x).mem = s.mem := rfl
@[simp] theorem State.setSlot_pwr (s : State) (k : Nat) (x : Slot) : (s.setSlot k x).pwr = s.pwr := rfl
@[simp] theorem State.setSlot_out (s : State) (k : Nat) (x : Slot) : (s.setSlot k x).out = s.out := rfl
@[simp] theorem State.setSlot_free (s : State) (k : Nat) (x : Slot) : (s.setSlot k x).free = s.free := rfl
@[simp] theorem State.setSlot_pending (s : State) (k : Nat) (x : Slot) : (s.setSlot k x).pending = s.pending := rfl

@[simp] theorem State.setSession_order (s : State) (x : Option XferSession) : (s.setSession x).order = s.order := rfl
@[simp] theorem State.setSession_sclk (s : State) (x : Option XferSession) : (s.setSession x).sclk = s.sclk := rfl
@[simp] theorem State.setSession_clk (s : State) (x : Option XferSession) : (s.setSession x).clk = s.clk := rfl
@[simp] theorem State.setSession_ptp (s : State) (x : Option XferSession) : (s.setSession x).ptp = s.ptp := rfl
@[simp] theorem State.setSession_bkp (s : State) (x : Option XferSession) : (s.setSession x).bkp = s.bkp := rfl
@[simp] theorem State.setSession_regs (s : State) (x : Option XferSession) : (s.setSession x).regs = s.regs := rfl
@[simp] theorem State.setSession_flips (s : State) (x : Option XferSession) : (s.setSession x).flips = s.flips := rfl
@[simp] theorem State.setSession_rlat (s : State) (x : Option XferSession) : (s.setSession x).rlat = s.rlat := rfl
@[simp] theorem State.setSession_wlat (s : State) (x : Option XferSession) : (s.setSession x).wlat = s.wlat := rfl
@[simp] theorem State.setSession_cfgA (s : State) (x : Option XferSession) : (s.setSession x).cfgA = s.cfgA := rfl
@[simp] theorem State.setSession_cfgS (s : State) (x : Option XferSession) : (s.setSession x).cfgS = s.cfgS := rfl
@[simp] theorem State.setSession_tsq (s : State) (x : Option XferSession) : (s.setSession x).tsq = s.tsq := rfl
@[simp] theorem State.setSession_servo (s : State) (x : Option XferSession) : (s.setSession x).servo = s.servo := rfl
@[simp] theorem State.setSession_ptpPorts (s : State) (x : Option XferSession) : (s.setSession x).ptpPorts = s.ptpPorts := rfl
@[simp] theorem State.setSession_dats (s : State) (x : Option XferSession) : (s.setSession x).dats = s.dats := rfl
@[simp] theorem State.setSession_stk (s : State) (x : Option XferSession) : (s.setSession x).stk = s.stk := rfl
@[simp] theorem State.setSession_ports (s : State) (x : Option XferSession) : (s.setSession x).ports = s.ports := rfl
@[simp] theorem State.setSession_hbAt (s : State) (x : Option XferSession) : (s.setSession x).hbAt = s.hbAt := rfl
@[simp] theorem State.setSession_img (s : State) (x : Option XferSession) : (s.setSession x).img = s.img := rfl
@[simp] theorem State.setSession_konst (s : State) (x : Option XferSession) : (s.setSession x).konst = s.konst := rfl
@[simp] theorem State.setSession_prog (s : State) (x : Option XferSession) : (s.setSession x).prog = s.prog := rfl
@[simp] theorem State.setSession_progBytes (s : State) (x : Option XferSession) : (s.setSession x).progBytes = s.progBytes := rfl
@[simp] theorem State.setSession_engs (s : State) (x : Option XferSession) : (s.setSession x).engs = s.engs := rfl
@[simp] theorem State.setSession_plm (s : State) (x : Option XferSession) : (s.setSession x).plm = s.plm := rfl
@[simp] theorem State.setSession_blk (s : State) (x : Option XferSession) : (s.setSession x).blk = s.blk := rfl
@[simp] theorem State.setSession_viols (s : State) (x : Option XferSession) : (s.setSession x).viols = s.viols := rfl
@[simp] theorem State.setSession_cmp (s : State) (x : Option XferSession) : (s.setSession x).cmp = s.cmp := rfl
@[simp] theorem State.setSession_pair (s : State) (x : Option XferSession) : (s.setSession x).pair = s.pair := rfl
@[simp] theorem State.setSession_mp (s : State) (x : Option XferSession) : (s.setSession x).mp = s.mp := rfl
@[simp] theorem State.setSession_grps (s : State) (x : Option XferSession) : (s.setSession x).grps = s.grps := rfl
@[simp] theorem State.setSession_chans (s : State) (x : Option XferSession) : (s.setSession x).chans = s.chans := rfl
@[simp] theorem State.setSession_cans (s : State) (x : Option XferSession) : (s.setSession x).cans = s.cans := rfl
@[simp] theorem State.setSession_ctls (s : State) (x : Option XferSession) : (s.setSession x).ctls = s.ctls := rfl
@[simp] theorem State.setSession_fis (s : State) (x : Option XferSession) : (s.setSession x).fis = s.fis := rfl
@[simp] theorem State.setSession_fos (s : State) (x : Option XferSession) : (s.setSession x).fos = s.fos := rfl
@[simp] theorem State.setSession_recd (s : State) (x : Option XferSession) : (s.setSession x).recd = s.recd := rfl
@[simp] theorem State.setSession_mram (s : State) (x : Option XferSession) : (s.setSession x).mram = s.mram := rfl
@[simp] theorem State.setSession_mem (s : State) (x : Option XferSession) : (s.setSession x).mem = s.mem := rfl
@[simp] theorem State.setSession_pwr (s : State) (x : Option XferSession) : (s.setSession x).pwr = s.pwr := rfl
@[simp] theorem State.setSession_out (s : State) (x : Option XferSession) : (s.setSession x).out = s.out := rfl
@[simp] theorem State.setSession_free (s : State) (x : Option XferSession) : (s.setSession x).free = s.free := rfl
@[simp] theorem State.setSession_pending (s : State) (x : Option XferSession) : (s.setSession x).pending = s.pending := rfl

@[simp] theorem State.holdWrite_order (s : State) (m a : Nat) (v : Word) : (s.holdWrite m a v).order = s.order := rfl
@[simp] theorem State.holdWrite_sclk (s : State) (m a : Nat) (v : Word) : (s.holdWrite m a v).sclk = s.sclk := rfl
@[simp] theorem State.holdWrite_clk (s : State) (m a : Nat) (v : Word) : (s.holdWrite m a v).clk = s.clk := rfl
@[simp] theorem State.holdWrite_ptp (s : State) (m a : Nat) (v : Word) : (s.holdWrite m a v).ptp = s.ptp := rfl
@[simp] theorem State.holdWrite_bkp (s : State) (m a : Nat) (v : Word) : (s.holdWrite m a v).bkp = s.bkp := rfl
@[simp] theorem State.holdWrite_regs (s : State) (m a : Nat) (v : Word) : (s.holdWrite m a v).regs = s.regs := rfl
@[simp] theorem State.holdWrite_flips (s : State) (m a : Nat) (v : Word) : (s.holdWrite m a v).flips = s.flips := rfl
@[simp] theorem State.holdWrite_rlat (s : State) (m a : Nat) (v : Word) : (s.holdWrite m a v).rlat = s.rlat := rfl
@[simp] theorem State.holdWrite_cfgA (s : State) (m a : Nat) (v : Word) : (s.holdWrite m a v).cfgA = s.cfgA := rfl
@[simp] theorem State.holdWrite_cfgS (s : State) (m a : Nat) (v : Word) : (s.holdWrite m a v).cfgS = s.cfgS := rfl
@[simp] theorem State.holdWrite_tsq (s : State) (m a : Nat) (v : Word) : (s.holdWrite m a v).tsq = s.tsq := rfl
@[simp] theorem State.holdWrite_servo (s : State) (m a : Nat) (v : Word) : (s.holdWrite m a v).servo = s.servo := rfl
@[simp] theorem State.holdWrite_ptpPorts (s : State) (m a : Nat) (v : Word) : (s.holdWrite m a v).ptpPorts = s.ptpPorts := rfl
@[simp] theorem State.holdWrite_dats (s : State) (m a : Nat) (v : Word) : (s.holdWrite m a v).dats = s.dats := rfl
@[simp] theorem State.holdWrite_stk (s : State) (m a : Nat) (v : Word) : (s.holdWrite m a v).stk = s.stk := rfl
@[simp] theorem State.holdWrite_ports (s : State) (m a : Nat) (v : Word) : (s.holdWrite m a v).ports = s.ports := rfl
@[simp] theorem State.holdWrite_hbAt (s : State) (m a : Nat) (v : Word) : (s.holdWrite m a v).hbAt = s.hbAt := rfl
@[simp] theorem State.holdWrite_img (s : State) (m a : Nat) (v : Word) : (s.holdWrite m a v).img = s.img := rfl
@[simp] theorem State.holdWrite_konst (s : State) (m a : Nat) (v : Word) : (s.holdWrite m a v).konst = s.konst := rfl
@[simp] theorem State.holdWrite_prog (s : State) (m a : Nat) (v : Word) : (s.holdWrite m a v).prog = s.prog := rfl
@[simp] theorem State.holdWrite_progBytes (s : State) (m a : Nat) (v : Word) : (s.holdWrite m a v).progBytes = s.progBytes := rfl
@[simp] theorem State.holdWrite_engs (s : State) (m a : Nat) (v : Word) : (s.holdWrite m a v).engs = s.engs := rfl
@[simp] theorem State.holdWrite_plm (s : State) (m a : Nat) (v : Word) : (s.holdWrite m a v).plm = s.plm := rfl
@[simp] theorem State.holdWrite_blk (s : State) (m a : Nat) (v : Word) : (s.holdWrite m a v).blk = s.blk := rfl
@[simp] theorem State.holdWrite_viols (s : State) (m a : Nat) (v : Word) : (s.holdWrite m a v).viols = s.viols := rfl
@[simp] theorem State.holdWrite_cmp (s : State) (m a : Nat) (v : Word) : (s.holdWrite m a v).cmp = s.cmp := rfl
@[simp] theorem State.holdWrite_pair (s : State) (m a : Nat) (v : Word) : (s.holdWrite m a v).pair = s.pair := rfl
@[simp] theorem State.holdWrite_mp (s : State) (m a : Nat) (v : Word) : (s.holdWrite m a v).mp = s.mp := rfl
@[simp] theorem State.holdWrite_grps (s : State) (m a : Nat) (v : Word) : (s.holdWrite m a v).grps = s.grps := rfl
@[simp] theorem State.holdWrite_chans (s : State) (m a : Nat) (v : Word) : (s.holdWrite m a v).chans = s.chans := rfl
@[simp] theorem State.holdWrite_cans (s : State) (m a : Nat) (v : Word) : (s.holdWrite m a v).cans = s.cans := rfl
@[simp] theorem State.holdWrite_ctls (s : State) (m a : Nat) (v : Word) : (s.holdWrite m a v).ctls = s.ctls := rfl
@[simp] theorem State.holdWrite_fis (s : State) (m a : Nat) (v : Word) : (s.holdWrite m a v).fis = s.fis := rfl
@[simp] theorem State.holdWrite_fos (s : State) (m a : Nat) (v : Word) : (s.holdWrite m a v).fos = s.fos := rfl
@[simp] theorem State.holdWrite_recd (s : State) (m a : Nat) (v : Word) : (s.holdWrite m a v).recd = s.recd := rfl
@[simp] theorem State.holdWrite_mram (s : State) (m a : Nat) (v : Word) : (s.holdWrite m a v).mram = s.mram := rfl
@[simp] theorem State.holdWrite_mem (s : State) (m a : Nat) (v : Word) : (s.holdWrite m a v).mem = s.mem := rfl
@[simp] theorem State.holdWrite_pwr (s : State) (m a : Nat) (v : Word) : (s.holdWrite m a v).pwr = s.pwr := rfl
@[simp] theorem State.holdWrite_upd (s : State) (m a : Nat) (v : Word) : (s.holdWrite m a v).upd = s.upd := rfl
@[simp] theorem State.holdWrite_out (s : State) (m a : Nat) (v : Word) : (s.holdWrite m a v).out = s.out := rfl
@[simp] theorem State.holdWrite_free (s : State) (m a : Nat) (v : Word) : (s.holdWrite m a v).free = s.free := rfl
@[simp] theorem State.holdWrite_pending (s : State) (m a : Nat) (v : Word) : (s.holdWrite m a v).pending = s.pending := rfl

@[simp] theorem State.modMpPair_order (s : State) (n : Nat) (f : MbxPair → MbxPair) : (s.modMpPair n f).order = s.order := rfl
@[simp] theorem State.modMpPair_sclk (s : State) (n : Nat) (f : MbxPair → MbxPair) : (s.modMpPair n f).sclk = s.sclk := rfl
@[simp] theorem State.modMpPair_clk (s : State) (n : Nat) (f : MbxPair → MbxPair) : (s.modMpPair n f).clk = s.clk := rfl
@[simp] theorem State.modMpPair_ptp (s : State) (n : Nat) (f : MbxPair → MbxPair) : (s.modMpPair n f).ptp = s.ptp := rfl
@[simp] theorem State.modMpPair_bkp (s : State) (n : Nat) (f : MbxPair → MbxPair) : (s.modMpPair n f).bkp = s.bkp := rfl
@[simp] theorem State.modMpPair_regs (s : State) (n : Nat) (f : MbxPair → MbxPair) : (s.modMpPair n f).regs = s.regs := rfl
@[simp] theorem State.modMpPair_flips (s : State) (n : Nat) (f : MbxPair → MbxPair) : (s.modMpPair n f).flips = s.flips := rfl
@[simp] theorem State.modMpPair_rlat (s : State) (n : Nat) (f : MbxPair → MbxPair) : (s.modMpPair n f).rlat = s.rlat := rfl
@[simp] theorem State.modMpPair_wlat (s : State) (n : Nat) (f : MbxPair → MbxPair) : (s.modMpPair n f).wlat = s.wlat := rfl
@[simp] theorem State.modMpPair_cfgA (s : State) (n : Nat) (f : MbxPair → MbxPair) : (s.modMpPair n f).cfgA = s.cfgA := rfl
@[simp] theorem State.modMpPair_cfgS (s : State) (n : Nat) (f : MbxPair → MbxPair) : (s.modMpPair n f).cfgS = s.cfgS := rfl
@[simp] theorem State.modMpPair_tsq (s : State) (n : Nat) (f : MbxPair → MbxPair) : (s.modMpPair n f).tsq = s.tsq := rfl
@[simp] theorem State.modMpPair_servo (s : State) (n : Nat) (f : MbxPair → MbxPair) : (s.modMpPair n f).servo = s.servo := rfl
@[simp] theorem State.modMpPair_ptpPorts (s : State) (n : Nat) (f : MbxPair → MbxPair) : (s.modMpPair n f).ptpPorts = s.ptpPorts := rfl
@[simp] theorem State.modMpPair_dats (s : State) (n : Nat) (f : MbxPair → MbxPair) : (s.modMpPair n f).dats = s.dats := rfl
@[simp] theorem State.modMpPair_stk (s : State) (n : Nat) (f : MbxPair → MbxPair) : (s.modMpPair n f).stk = s.stk := rfl
@[simp] theorem State.modMpPair_ports (s : State) (n : Nat) (f : MbxPair → MbxPair) : (s.modMpPair n f).ports = s.ports := rfl
@[simp] theorem State.modMpPair_hbAt (s : State) (n : Nat) (f : MbxPair → MbxPair) : (s.modMpPair n f).hbAt = s.hbAt := rfl
@[simp] theorem State.modMpPair_img (s : State) (n : Nat) (f : MbxPair → MbxPair) : (s.modMpPair n f).img = s.img := rfl
@[simp] theorem State.modMpPair_konst (s : State) (n : Nat) (f : MbxPair → MbxPair) : (s.modMpPair n f).konst = s.konst := rfl
@[simp] theorem State.modMpPair_prog (s : State) (n : Nat) (f : MbxPair → MbxPair) : (s.modMpPair n f).prog = s.prog := rfl
@[simp] theorem State.modMpPair_progBytes (s : State) (n : Nat) (f : MbxPair → MbxPair) : (s.modMpPair n f).progBytes = s.progBytes := rfl
@[simp] theorem State.modMpPair_engs (s : State) (n : Nat) (f : MbxPair → MbxPair) : (s.modMpPair n f).engs = s.engs := rfl
@[simp] theorem State.modMpPair_plm (s : State) (n : Nat) (f : MbxPair → MbxPair) : (s.modMpPair n f).plm = s.plm := rfl
@[simp] theorem State.modMpPair_blk (s : State) (n : Nat) (f : MbxPair → MbxPair) : (s.modMpPair n f).blk = s.blk := rfl
@[simp] theorem State.modMpPair_viols (s : State) (n : Nat) (f : MbxPair → MbxPair) : (s.modMpPair n f).viols = s.viols := rfl
@[simp] theorem State.modMpPair_cmp (s : State) (n : Nat) (f : MbxPair → MbxPair) : (s.modMpPair n f).cmp = s.cmp := rfl
@[simp] theorem State.modMpPair_pair (s : State) (n : Nat) (f : MbxPair → MbxPair) : (s.modMpPair n f).pair = s.pair := rfl
@[simp] theorem State.modMpPair_grps (s : State) (n : Nat) (f : MbxPair → MbxPair) : (s.modMpPair n f).grps = s.grps := rfl
@[simp] theorem State.modMpPair_chans (s : State) (n : Nat) (f : MbxPair → MbxPair) : (s.modMpPair n f).chans = s.chans := rfl
@[simp] theorem State.modMpPair_cans (s : State) (n : Nat) (f : MbxPair → MbxPair) : (s.modMpPair n f).cans = s.cans := rfl
@[simp] theorem State.modMpPair_ctls (s : State) (n : Nat) (f : MbxPair → MbxPair) : (s.modMpPair n f).ctls = s.ctls := rfl
@[simp] theorem State.modMpPair_fis (s : State) (n : Nat) (f : MbxPair → MbxPair) : (s.modMpPair n f).fis = s.fis := rfl
@[simp] theorem State.modMpPair_fos (s : State) (n : Nat) (f : MbxPair → MbxPair) : (s.modMpPair n f).fos = s.fos := rfl
@[simp] theorem State.modMpPair_recd (s : State) (n : Nat) (f : MbxPair → MbxPair) : (s.modMpPair n f).recd = s.recd := rfl
@[simp] theorem State.modMpPair_mram (s : State) (n : Nat) (f : MbxPair → MbxPair) : (s.modMpPair n f).mram = s.mram := rfl
@[simp] theorem State.modMpPair_mem (s : State) (n : Nat) (f : MbxPair → MbxPair) : (s.modMpPair n f).mem = s.mem := rfl
@[simp] theorem State.modMpPair_pwr (s : State) (n : Nat) (f : MbxPair → MbxPair) : (s.modMpPair n f).pwr = s.pwr := rfl
@[simp] theorem State.modMpPair_upd (s : State) (n : Nat) (f : MbxPair → MbxPair) : (s.modMpPair n f).upd = s.upd := rfl
@[simp] theorem State.modMpPair_out (s : State) (n : Nat) (f : MbxPair → MbxPair) : (s.modMpPair n f).out = s.out := rfl
@[simp] theorem State.modMpPair_free (s : State) (n : Nat) (f : MbxPair → MbxPair) : (s.modMpPair n f).free = s.free := rfl
@[simp] theorem State.modMpPair_pending (s : State) (n : Nat) (f : MbxPair → MbxPair) : (s.modMpPair n f).pending = s.pending := rfl

@[simp] theorem State.setRegF_order (s : State) (a hi lo v : Nat) : (s.setRegF a hi lo v).order = s.order := rfl
@[simp] theorem State.setRegF_sclk (s : State) (a hi lo v : Nat) : (s.setRegF a hi lo v).sclk = s.sclk := rfl
@[simp] theorem State.setRegF_clk (s : State) (a hi lo v : Nat) : (s.setRegF a hi lo v).clk = s.clk := rfl
@[simp] theorem State.setRegF_ptp (s : State) (a hi lo v : Nat) : (s.setRegF a hi lo v).ptp = s.ptp := rfl
@[simp] theorem State.setRegF_bkp (s : State) (a hi lo v : Nat) : (s.setRegF a hi lo v).bkp = s.bkp := rfl
@[simp] theorem State.setRegF_rlat (s : State) (a hi lo v : Nat) : (s.setRegF a hi lo v).rlat = s.rlat := rfl
@[simp] theorem State.setRegF_wlat (s : State) (a hi lo v : Nat) : (s.setRegF a hi lo v).wlat = s.wlat := rfl
@[simp] theorem State.setRegF_cfgA (s : State) (a hi lo v : Nat) : (s.setRegF a hi lo v).cfgA = s.cfgA := rfl
@[simp] theorem State.setRegF_cfgS (s : State) (a hi lo v : Nat) : (s.setRegF a hi lo v).cfgS = s.cfgS := rfl
@[simp] theorem State.setRegF_tsq (s : State) (a hi lo v : Nat) : (s.setRegF a hi lo v).tsq = s.tsq := rfl
@[simp] theorem State.setRegF_servo (s : State) (a hi lo v : Nat) : (s.setRegF a hi lo v).servo = s.servo := rfl
@[simp] theorem State.setRegF_ptpPorts (s : State) (a hi lo v : Nat) : (s.setRegF a hi lo v).ptpPorts = s.ptpPorts := rfl
@[simp] theorem State.setRegF_dats (s : State) (a hi lo v : Nat) : (s.setRegF a hi lo v).dats = s.dats := rfl
@[simp] theorem State.setRegF_stk (s : State) (a hi lo v : Nat) : (s.setRegF a hi lo v).stk = s.stk := rfl
@[simp] theorem State.setRegF_ports (s : State) (a hi lo v : Nat) : (s.setRegF a hi lo v).ports = s.ports := rfl
@[simp] theorem State.setRegF_hbAt (s : State) (a hi lo v : Nat) : (s.setRegF a hi lo v).hbAt = s.hbAt := rfl
@[simp] theorem State.setRegF_img (s : State) (a hi lo v : Nat) : (s.setRegF a hi lo v).img = s.img := rfl
@[simp] theorem State.setRegF_konst (s : State) (a hi lo v : Nat) : (s.setRegF a hi lo v).konst = s.konst := rfl
@[simp] theorem State.setRegF_prog (s : State) (a hi lo v : Nat) : (s.setRegF a hi lo v).prog = s.prog := rfl
@[simp] theorem State.setRegF_progBytes (s : State) (a hi lo v : Nat) : (s.setRegF a hi lo v).progBytes = s.progBytes := rfl
@[simp] theorem State.setRegF_engs (s : State) (a hi lo v : Nat) : (s.setRegF a hi lo v).engs = s.engs := rfl
@[simp] theorem State.setRegF_plm (s : State) (a hi lo v : Nat) : (s.setRegF a hi lo v).plm = s.plm := rfl
@[simp] theorem State.setRegF_blk (s : State) (a hi lo v : Nat) : (s.setRegF a hi lo v).blk = s.blk := rfl
@[simp] theorem State.setRegF_viols (s : State) (a hi lo v : Nat) : (s.setRegF a hi lo v).viols = s.viols := rfl
@[simp] theorem State.setRegF_cmp (s : State) (a hi lo v : Nat) : (s.setRegF a hi lo v).cmp = s.cmp := rfl
@[simp] theorem State.setRegF_pair (s : State) (a hi lo v : Nat) : (s.setRegF a hi lo v).pair = s.pair := rfl
@[simp] theorem State.setRegF_mp (s : State) (a hi lo v : Nat) : (s.setRegF a hi lo v).mp = s.mp := rfl
@[simp] theorem State.setRegF_grps (s : State) (a hi lo v : Nat) : (s.setRegF a hi lo v).grps = s.grps := rfl
@[simp] theorem State.setRegF_chans (s : State) (a hi lo v : Nat) : (s.setRegF a hi lo v).chans = s.chans := rfl
@[simp] theorem State.setRegF_cans (s : State) (a hi lo v : Nat) : (s.setRegF a hi lo v).cans = s.cans := rfl
@[simp] theorem State.setRegF_ctls (s : State) (a hi lo v : Nat) : (s.setRegF a hi lo v).ctls = s.ctls := rfl
@[simp] theorem State.setRegF_fis (s : State) (a hi lo v : Nat) : (s.setRegF a hi lo v).fis = s.fis := rfl
@[simp] theorem State.setRegF_fos (s : State) (a hi lo v : Nat) : (s.setRegF a hi lo v).fos = s.fos := rfl
@[simp] theorem State.setRegF_recd (s : State) (a hi lo v : Nat) : (s.setRegF a hi lo v).recd = s.recd := rfl
@[simp] theorem State.setRegF_mram (s : State) (a hi lo v : Nat) : (s.setRegF a hi lo v).mram = s.mram := rfl
@[simp] theorem State.setRegF_mem (s : State) (a hi lo v : Nat) : (s.setRegF a hi lo v).mem = s.mem := rfl
@[simp] theorem State.setRegF_pwr (s : State) (a hi lo v : Nat) : (s.setRegF a hi lo v).pwr = s.pwr := rfl
@[simp] theorem State.setRegF_upd (s : State) (a hi lo v : Nat) : (s.setRegF a hi lo v).upd = s.upd := rfl
@[simp] theorem State.setRegF_out (s : State) (a hi lo v : Nat) : (s.setRegF a hi lo v).out = s.out := rfl
@[simp] theorem State.setRegF_free (s : State) (a hi lo v : Nat) : (s.setRegF a hi lo v).free = s.free := rfl
@[simp] theorem State.setRegF_pending (s : State) (a hi lo v : Nat) : (s.setRegF a hi lo v).pending = s.pending := rfl

@[simp] theorem State.setRegB_order (s : State) (a i : Nat) (b : Bool) : (s.setRegB a i b).order = s.order := rfl
@[simp] theorem State.setRegB_sclk (s : State) (a i : Nat) (b : Bool) : (s.setRegB a i b).sclk = s.sclk := rfl
@[simp] theorem State.setRegB_clk (s : State) (a i : Nat) (b : Bool) : (s.setRegB a i b).clk = s.clk := rfl
@[simp] theorem State.setRegB_ptp (s : State) (a i : Nat) (b : Bool) : (s.setRegB a i b).ptp = s.ptp := rfl
@[simp] theorem State.setRegB_bkp (s : State) (a i : Nat) (b : Bool) : (s.setRegB a i b).bkp = s.bkp := rfl
@[simp] theorem State.setRegB_rlat (s : State) (a i : Nat) (b : Bool) : (s.setRegB a i b).rlat = s.rlat := rfl
@[simp] theorem State.setRegB_wlat (s : State) (a i : Nat) (b : Bool) : (s.setRegB a i b).wlat = s.wlat := rfl
@[simp] theorem State.setRegB_cfgA (s : State) (a i : Nat) (b : Bool) : (s.setRegB a i b).cfgA = s.cfgA := rfl
@[simp] theorem State.setRegB_cfgS (s : State) (a i : Nat) (b : Bool) : (s.setRegB a i b).cfgS = s.cfgS := rfl
@[simp] theorem State.setRegB_tsq (s : State) (a i : Nat) (b : Bool) : (s.setRegB a i b).tsq = s.tsq := rfl
@[simp] theorem State.setRegB_servo (s : State) (a i : Nat) (b : Bool) : (s.setRegB a i b).servo = s.servo := rfl
@[simp] theorem State.setRegB_ptpPorts (s : State) (a i : Nat) (b : Bool) : (s.setRegB a i b).ptpPorts = s.ptpPorts := rfl
@[simp] theorem State.setRegB_dats (s : State) (a i : Nat) (b : Bool) : (s.setRegB a i b).dats = s.dats := rfl
@[simp] theorem State.setRegB_stk (s : State) (a i : Nat) (b : Bool) : (s.setRegB a i b).stk = s.stk := rfl
@[simp] theorem State.setRegB_ports (s : State) (a i : Nat) (b : Bool) : (s.setRegB a i b).ports = s.ports := rfl
@[simp] theorem State.setRegB_hbAt (s : State) (a i : Nat) (b : Bool) : (s.setRegB a i b).hbAt = s.hbAt := rfl
@[simp] theorem State.setRegB_img (s : State) (a i : Nat) (b : Bool) : (s.setRegB a i b).img = s.img := rfl
@[simp] theorem State.setRegB_konst (s : State) (a i : Nat) (b : Bool) : (s.setRegB a i b).konst = s.konst := rfl
@[simp] theorem State.setRegB_prog (s : State) (a i : Nat) (b : Bool) : (s.setRegB a i b).prog = s.prog := rfl
@[simp] theorem State.setRegB_progBytes (s : State) (a i : Nat) (b : Bool) : (s.setRegB a i b).progBytes = s.progBytes := rfl
@[simp] theorem State.setRegB_engs (s : State) (a i : Nat) (b : Bool) : (s.setRegB a i b).engs = s.engs := rfl
@[simp] theorem State.setRegB_plm (s : State) (a i : Nat) (b : Bool) : (s.setRegB a i b).plm = s.plm := rfl
@[simp] theorem State.setRegB_blk (s : State) (a i : Nat) (b : Bool) : (s.setRegB a i b).blk = s.blk := rfl
@[simp] theorem State.setRegB_viols (s : State) (a i : Nat) (b : Bool) : (s.setRegB a i b).viols = s.viols := rfl
@[simp] theorem State.setRegB_cmp (s : State) (a i : Nat) (b : Bool) : (s.setRegB a i b).cmp = s.cmp := rfl
@[simp] theorem State.setRegB_pair (s : State) (a i : Nat) (b : Bool) : (s.setRegB a i b).pair = s.pair := rfl
@[simp] theorem State.setRegB_mp (s : State) (a i : Nat) (b : Bool) : (s.setRegB a i b).mp = s.mp := rfl
@[simp] theorem State.setRegB_grps (s : State) (a i : Nat) (b : Bool) : (s.setRegB a i b).grps = s.grps := rfl
@[simp] theorem State.setRegB_chans (s : State) (a i : Nat) (b : Bool) : (s.setRegB a i b).chans = s.chans := rfl
@[simp] theorem State.setRegB_cans (s : State) (a i : Nat) (b : Bool) : (s.setRegB a i b).cans = s.cans := rfl
@[simp] theorem State.setRegB_ctls (s : State) (a i : Nat) (b : Bool) : (s.setRegB a i b).ctls = s.ctls := rfl
@[simp] theorem State.setRegB_fis (s : State) (a i : Nat) (b : Bool) : (s.setRegB a i b).fis = s.fis := rfl
@[simp] theorem State.setRegB_fos (s : State) (a i : Nat) (b : Bool) : (s.setRegB a i b).fos = s.fos := rfl
@[simp] theorem State.setRegB_recd (s : State) (a i : Nat) (b : Bool) : (s.setRegB a i b).recd = s.recd := rfl
@[simp] theorem State.setRegB_mram (s : State) (a i : Nat) (b : Bool) : (s.setRegB a i b).mram = s.mram := rfl
@[simp] theorem State.setRegB_mem (s : State) (a i : Nat) (b : Bool) : (s.setRegB a i b).mem = s.mem := rfl
@[simp] theorem State.setRegB_pwr (s : State) (a i : Nat) (b : Bool) : (s.setRegB a i b).pwr = s.pwr := rfl
@[simp] theorem State.setRegB_upd (s : State) (a i : Nat) (b : Bool) : (s.setRegB a i b).upd = s.upd := rfl
@[simp] theorem State.setRegB_out (s : State) (a i : Nat) (b : Bool) : (s.setRegB a i b).out = s.out := rfl
@[simp] theorem State.setRegB_free (s : State) (a i : Nat) (b : Bool) : (s.setRegB a i b).free = s.free := rfl
@[simp] theorem State.setRegB_pending (s : State) (a i : Nat) (b : Bool) : (s.setRegB a i b).pending = s.pending := rfl

@[simp] theorem State.countF_order (s : State) (a hi lo n : Nat) : (s.countF a hi lo n).order = s.order := rfl
@[simp] theorem State.countF_sclk (s : State) (a hi lo n : Nat) : (s.countF a hi lo n).sclk = s.sclk := rfl
@[simp] theorem State.countF_clk (s : State) (a hi lo n : Nat) : (s.countF a hi lo n).clk = s.clk := rfl
@[simp] theorem State.countF_ptp (s : State) (a hi lo n : Nat) : (s.countF a hi lo n).ptp = s.ptp := rfl
@[simp] theorem State.countF_bkp (s : State) (a hi lo n : Nat) : (s.countF a hi lo n).bkp = s.bkp := rfl
@[simp] theorem State.countF_rlat (s : State) (a hi lo n : Nat) : (s.countF a hi lo n).rlat = s.rlat := rfl
@[simp] theorem State.countF_wlat (s : State) (a hi lo n : Nat) : (s.countF a hi lo n).wlat = s.wlat := rfl
@[simp] theorem State.countF_cfgA (s : State) (a hi lo n : Nat) : (s.countF a hi lo n).cfgA = s.cfgA := rfl
@[simp] theorem State.countF_cfgS (s : State) (a hi lo n : Nat) : (s.countF a hi lo n).cfgS = s.cfgS := rfl
@[simp] theorem State.countF_tsq (s : State) (a hi lo n : Nat) : (s.countF a hi lo n).tsq = s.tsq := rfl
@[simp] theorem State.countF_servo (s : State) (a hi lo n : Nat) : (s.countF a hi lo n).servo = s.servo := rfl
@[simp] theorem State.countF_ptpPorts (s : State) (a hi lo n : Nat) : (s.countF a hi lo n).ptpPorts = s.ptpPorts := rfl
@[simp] theorem State.countF_dats (s : State) (a hi lo n : Nat) : (s.countF a hi lo n).dats = s.dats := rfl
@[simp] theorem State.countF_stk (s : State) (a hi lo n : Nat) : (s.countF a hi lo n).stk = s.stk := rfl
@[simp] theorem State.countF_ports (s : State) (a hi lo n : Nat) : (s.countF a hi lo n).ports = s.ports := rfl
@[simp] theorem State.countF_hbAt (s : State) (a hi lo n : Nat) : (s.countF a hi lo n).hbAt = s.hbAt := rfl
@[simp] theorem State.countF_img (s : State) (a hi lo n : Nat) : (s.countF a hi lo n).img = s.img := rfl
@[simp] theorem State.countF_konst (s : State) (a hi lo n : Nat) : (s.countF a hi lo n).konst = s.konst := rfl
@[simp] theorem State.countF_prog (s : State) (a hi lo n : Nat) : (s.countF a hi lo n).prog = s.prog := rfl
@[simp] theorem State.countF_progBytes (s : State) (a hi lo n : Nat) : (s.countF a hi lo n).progBytes = s.progBytes := rfl
@[simp] theorem State.countF_engs (s : State) (a hi lo n : Nat) : (s.countF a hi lo n).engs = s.engs := rfl
@[simp] theorem State.countF_plm (s : State) (a hi lo n : Nat) : (s.countF a hi lo n).plm = s.plm := rfl
@[simp] theorem State.countF_blk (s : State) (a hi lo n : Nat) : (s.countF a hi lo n).blk = s.blk := rfl
@[simp] theorem State.countF_viols (s : State) (a hi lo n : Nat) : (s.countF a hi lo n).viols = s.viols := rfl
@[simp] theorem State.countF_cmp (s : State) (a hi lo n : Nat) : (s.countF a hi lo n).cmp = s.cmp := rfl
@[simp] theorem State.countF_pair (s : State) (a hi lo n : Nat) : (s.countF a hi lo n).pair = s.pair := rfl
@[simp] theorem State.countF_mp (s : State) (a hi lo n : Nat) : (s.countF a hi lo n).mp = s.mp := rfl
@[simp] theorem State.countF_grps (s : State) (a hi lo n : Nat) : (s.countF a hi lo n).grps = s.grps := rfl
@[simp] theorem State.countF_chans (s : State) (a hi lo n : Nat) : (s.countF a hi lo n).chans = s.chans := rfl
@[simp] theorem State.countF_cans (s : State) (a hi lo n : Nat) : (s.countF a hi lo n).cans = s.cans := rfl
@[simp] theorem State.countF_ctls (s : State) (a hi lo n : Nat) : (s.countF a hi lo n).ctls = s.ctls := rfl
@[simp] theorem State.countF_fis (s : State) (a hi lo n : Nat) : (s.countF a hi lo n).fis = s.fis := rfl
@[simp] theorem State.countF_fos (s : State) (a hi lo n : Nat) : (s.countF a hi lo n).fos = s.fos := rfl
@[simp] theorem State.countF_recd (s : State) (a hi lo n : Nat) : (s.countF a hi lo n).recd = s.recd := rfl
@[simp] theorem State.countF_mram (s : State) (a hi lo n : Nat) : (s.countF a hi lo n).mram = s.mram := rfl
@[simp] theorem State.countF_mem (s : State) (a hi lo n : Nat) : (s.countF a hi lo n).mem = s.mem := rfl
@[simp] theorem State.countF_pwr (s : State) (a hi lo n : Nat) : (s.countF a hi lo n).pwr = s.pwr := rfl
@[simp] theorem State.countF_upd (s : State) (a hi lo n : Nat) : (s.countF a hi lo n).upd = s.upd := rfl
@[simp] theorem State.countF_out (s : State) (a hi lo n : Nat) : (s.countF a hi lo n).out = s.out := rfl
@[simp] theorem State.countF_free (s : State) (a hi lo n : Nat) : (s.countF a hi lo n).free = s.free := rfl
@[simp] theorem State.countF_pending (s : State) (a hi lo n : Nat) : (s.countF a hi lo n).pending = s.pending := rfl

@[simp] theorem State.count_order (s : State) (a : Nat) : (s.count a).order = s.order := rfl
@[simp] theorem State.count_sclk (s : State) (a : Nat) : (s.count a).sclk = s.sclk := rfl
@[simp] theorem State.count_clk (s : State) (a : Nat) : (s.count a).clk = s.clk := rfl
@[simp] theorem State.count_ptp (s : State) (a : Nat) : (s.count a).ptp = s.ptp := rfl
@[simp] theorem State.count_bkp (s : State) (a : Nat) : (s.count a).bkp = s.bkp := rfl
@[simp] theorem State.count_rlat (s : State) (a : Nat) : (s.count a).rlat = s.rlat := rfl
@[simp] theorem State.count_wlat (s : State) (a : Nat) : (s.count a).wlat = s.wlat := rfl
@[simp] theorem State.count_cfgA (s : State) (a : Nat) : (s.count a).cfgA = s.cfgA := rfl
@[simp] theorem State.count_cfgS (s : State) (a : Nat) : (s.count a).cfgS = s.cfgS := rfl
@[simp] theorem State.count_tsq (s : State) (a : Nat) : (s.count a).tsq = s.tsq := rfl
@[simp] theorem State.count_servo (s : State) (a : Nat) : (s.count a).servo = s.servo := rfl
@[simp] theorem State.count_ptpPorts (s : State) (a : Nat) : (s.count a).ptpPorts = s.ptpPorts := rfl
@[simp] theorem State.count_dats (s : State) (a : Nat) : (s.count a).dats = s.dats := rfl
@[simp] theorem State.count_stk (s : State) (a : Nat) : (s.count a).stk = s.stk := rfl
@[simp] theorem State.count_ports (s : State) (a : Nat) : (s.count a).ports = s.ports := rfl
@[simp] theorem State.count_hbAt (s : State) (a : Nat) : (s.count a).hbAt = s.hbAt := rfl
@[simp] theorem State.count_img (s : State) (a : Nat) : (s.count a).img = s.img := rfl
@[simp] theorem State.count_konst (s : State) (a : Nat) : (s.count a).konst = s.konst := rfl
@[simp] theorem State.count_prog (s : State) (a : Nat) : (s.count a).prog = s.prog := rfl
@[simp] theorem State.count_progBytes (s : State) (a : Nat) : (s.count a).progBytes = s.progBytes := rfl
@[simp] theorem State.count_engs (s : State) (a : Nat) : (s.count a).engs = s.engs := rfl
@[simp] theorem State.count_plm (s : State) (a : Nat) : (s.count a).plm = s.plm := rfl
@[simp] theorem State.count_blk (s : State) (a : Nat) : (s.count a).blk = s.blk := rfl
@[simp] theorem State.count_viols (s : State) (a : Nat) : (s.count a).viols = s.viols := rfl
@[simp] theorem State.count_cmp (s : State) (a : Nat) : (s.count a).cmp = s.cmp := rfl
@[simp] theorem State.count_pair (s : State) (a : Nat) : (s.count a).pair = s.pair := rfl
@[simp] theorem State.count_mp (s : State) (a : Nat) : (s.count a).mp = s.mp := rfl
@[simp] theorem State.count_grps (s : State) (a : Nat) : (s.count a).grps = s.grps := rfl
@[simp] theorem State.count_chans (s : State) (a : Nat) : (s.count a).chans = s.chans := rfl
@[simp] theorem State.count_cans (s : State) (a : Nat) : (s.count a).cans = s.cans := rfl
@[simp] theorem State.count_ctls (s : State) (a : Nat) : (s.count a).ctls = s.ctls := rfl
@[simp] theorem State.count_fis (s : State) (a : Nat) : (s.count a).fis = s.fis := rfl
@[simp] theorem State.count_fos (s : State) (a : Nat) : (s.count a).fos = s.fos := rfl
@[simp] theorem State.count_recd (s : State) (a : Nat) : (s.count a).recd = s.recd := rfl
@[simp] theorem State.count_mram (s : State) (a : Nat) : (s.count a).mram = s.mram := rfl
@[simp] theorem State.count_mem (s : State) (a : Nat) : (s.count a).mem = s.mem := rfl
@[simp] theorem State.count_pwr (s : State) (a : Nat) : (s.count a).pwr = s.pwr := rfl
@[simp] theorem State.count_upd (s : State) (a : Nat) : (s.count a).upd = s.upd := rfl
@[simp] theorem State.count_out (s : State) (a : Nat) : (s.count a).out = s.out := rfl
@[simp] theorem State.count_free (s : State) (a : Nat) : (s.count a).free = s.free := rfl
@[simp] theorem State.count_pending (s : State) (a : Nat) : (s.count a).pending = s.pending := rfl

@[simp] theorem State.countWrap_order (s : State) (a : Nat) : (s.countWrap a).order = s.order := rfl
@[simp] theorem State.countWrap_sclk (s : State) (a : Nat) : (s.countWrap a).sclk = s.sclk := rfl
@[simp] theorem State.countWrap_clk (s : State) (a : Nat) : (s.countWrap a).clk = s.clk := rfl
@[simp] theorem State.countWrap_ptp (s : State) (a : Nat) : (s.countWrap a).ptp = s.ptp := rfl
@[simp] theorem State.countWrap_bkp (s : State) (a : Nat) : (s.countWrap a).bkp = s.bkp := rfl
@[simp] theorem State.countWrap_rlat (s : State) (a : Nat) : (s.countWrap a).rlat = s.rlat := rfl
@[simp] theorem State.countWrap_wlat (s : State) (a : Nat) : (s.countWrap a).wlat = s.wlat := rfl
@[simp] theorem State.countWrap_cfgA (s : State) (a : Nat) : (s.countWrap a).cfgA = s.cfgA := rfl
@[simp] theorem State.countWrap_cfgS (s : State) (a : Nat) : (s.countWrap a).cfgS = s.cfgS := rfl
@[simp] theorem State.countWrap_tsq (s : State) (a : Nat) : (s.countWrap a).tsq = s.tsq := rfl
@[simp] theorem State.countWrap_servo (s : State) (a : Nat) : (s.countWrap a).servo = s.servo := rfl
@[simp] theorem State.countWrap_ptpPorts (s : State) (a : Nat) : (s.countWrap a).ptpPorts = s.ptpPorts := rfl
@[simp] theorem State.countWrap_dats (s : State) (a : Nat) : (s.countWrap a).dats = s.dats := rfl
@[simp] theorem State.countWrap_stk (s : State) (a : Nat) : (s.countWrap a).stk = s.stk := rfl
@[simp] theorem State.countWrap_ports (s : State) (a : Nat) : (s.countWrap a).ports = s.ports := rfl
@[simp] theorem State.countWrap_hbAt (s : State) (a : Nat) : (s.countWrap a).hbAt = s.hbAt := rfl
@[simp] theorem State.countWrap_img (s : State) (a : Nat) : (s.countWrap a).img = s.img := rfl
@[simp] theorem State.countWrap_konst (s : State) (a : Nat) : (s.countWrap a).konst = s.konst := rfl
@[simp] theorem State.countWrap_prog (s : State) (a : Nat) : (s.countWrap a).prog = s.prog := rfl
@[simp] theorem State.countWrap_progBytes (s : State) (a : Nat) : (s.countWrap a).progBytes = s.progBytes := rfl
@[simp] theorem State.countWrap_engs (s : State) (a : Nat) : (s.countWrap a).engs = s.engs := rfl
@[simp] theorem State.countWrap_plm (s : State) (a : Nat) : (s.countWrap a).plm = s.plm := rfl
@[simp] theorem State.countWrap_blk (s : State) (a : Nat) : (s.countWrap a).blk = s.blk := rfl
@[simp] theorem State.countWrap_viols (s : State) (a : Nat) : (s.countWrap a).viols = s.viols := rfl
@[simp] theorem State.countWrap_cmp (s : State) (a : Nat) : (s.countWrap a).cmp = s.cmp := rfl
@[simp] theorem State.countWrap_pair (s : State) (a : Nat) : (s.countWrap a).pair = s.pair := rfl
@[simp] theorem State.countWrap_mp (s : State) (a : Nat) : (s.countWrap a).mp = s.mp := rfl
@[simp] theorem State.countWrap_grps (s : State) (a : Nat) : (s.countWrap a).grps = s.grps := rfl
@[simp] theorem State.countWrap_chans (s : State) (a : Nat) : (s.countWrap a).chans = s.chans := rfl
@[simp] theorem State.countWrap_cans (s : State) (a : Nat) : (s.countWrap a).cans = s.cans := rfl
@[simp] theorem State.countWrap_ctls (s : State) (a : Nat) : (s.countWrap a).ctls = s.ctls := rfl
@[simp] theorem State.countWrap_fis (s : State) (a : Nat) : (s.countWrap a).fis = s.fis := rfl
@[simp] theorem State.countWrap_fos (s : State) (a : Nat) : (s.countWrap a).fos = s.fos := rfl
@[simp] theorem State.countWrap_recd (s : State) (a : Nat) : (s.countWrap a).recd = s.recd := rfl
@[simp] theorem State.countWrap_mram (s : State) (a : Nat) : (s.countWrap a).mram = s.mram := rfl
@[simp] theorem State.countWrap_mem (s : State) (a : Nat) : (s.countWrap a).mem = s.mem := rfl
@[simp] theorem State.countWrap_pwr (s : State) (a : Nat) : (s.countWrap a).pwr = s.pwr := rfl
@[simp] theorem State.countWrap_upd (s : State) (a : Nat) : (s.countWrap a).upd = s.upd := rfl
@[simp] theorem State.countWrap_out (s : State) (a : Nat) : (s.countWrap a).out = s.out := rfl
@[simp] theorem State.countWrap_free (s : State) (a : Nat) : (s.countWrap a).free = s.free := rfl
@[simp] theorem State.countWrap_pending (s : State) (a : Nat) : (s.countWrap a).pending = s.pending := rfl

@[simp] theorem State.setReg64_order (s : State) (lo hi : Nat) (v : Nat) : (s.setReg64 lo hi v).order = s.order := rfl
@[simp] theorem State.setReg64_sclk (s : State) (lo hi : Nat) (v : Nat) : (s.setReg64 lo hi v).sclk = s.sclk := rfl
@[simp] theorem State.setReg64_clk (s : State) (lo hi : Nat) (v : Nat) : (s.setReg64 lo hi v).clk = s.clk := rfl
@[simp] theorem State.setReg64_ptp (s : State) (lo hi : Nat) (v : Nat) : (s.setReg64 lo hi v).ptp = s.ptp := rfl
@[simp] theorem State.setReg64_bkp (s : State) (lo hi : Nat) (v : Nat) : (s.setReg64 lo hi v).bkp = s.bkp := rfl
@[simp] theorem State.setReg64_rlat (s : State) (lo hi : Nat) (v : Nat) : (s.setReg64 lo hi v).rlat = s.rlat := rfl
@[simp] theorem State.setReg64_wlat (s : State) (lo hi : Nat) (v : Nat) : (s.setReg64 lo hi v).wlat = s.wlat := rfl
@[simp] theorem State.setReg64_cfgA (s : State) (lo hi : Nat) (v : Nat) : (s.setReg64 lo hi v).cfgA = s.cfgA := rfl
@[simp] theorem State.setReg64_cfgS (s : State) (lo hi : Nat) (v : Nat) : (s.setReg64 lo hi v).cfgS = s.cfgS := rfl
@[simp] theorem State.setReg64_tsq (s : State) (lo hi : Nat) (v : Nat) : (s.setReg64 lo hi v).tsq = s.tsq := rfl
@[simp] theorem State.setReg64_servo (s : State) (lo hi : Nat) (v : Nat) : (s.setReg64 lo hi v).servo = s.servo := rfl
@[simp] theorem State.setReg64_ptpPorts (s : State) (lo hi : Nat) (v : Nat) : (s.setReg64 lo hi v).ptpPorts = s.ptpPorts := rfl
@[simp] theorem State.setReg64_dats (s : State) (lo hi : Nat) (v : Nat) : (s.setReg64 lo hi v).dats = s.dats := rfl
@[simp] theorem State.setReg64_stk (s : State) (lo hi : Nat) (v : Nat) : (s.setReg64 lo hi v).stk = s.stk := rfl
@[simp] theorem State.setReg64_ports (s : State) (lo hi : Nat) (v : Nat) : (s.setReg64 lo hi v).ports = s.ports := rfl
@[simp] theorem State.setReg64_hbAt (s : State) (lo hi : Nat) (v : Nat) : (s.setReg64 lo hi v).hbAt = s.hbAt := rfl
@[simp] theorem State.setReg64_img (s : State) (lo hi : Nat) (v : Nat) : (s.setReg64 lo hi v).img = s.img := rfl
@[simp] theorem State.setReg64_konst (s : State) (lo hi : Nat) (v : Nat) : (s.setReg64 lo hi v).konst = s.konst := rfl
@[simp] theorem State.setReg64_prog (s : State) (lo hi : Nat) (v : Nat) : (s.setReg64 lo hi v).prog = s.prog := rfl
@[simp] theorem State.setReg64_progBytes (s : State) (lo hi : Nat) (v : Nat) : (s.setReg64 lo hi v).progBytes = s.progBytes := rfl
@[simp] theorem State.setReg64_engs (s : State) (lo hi : Nat) (v : Nat) : (s.setReg64 lo hi v).engs = s.engs := rfl
@[simp] theorem State.setReg64_plm (s : State) (lo hi : Nat) (v : Nat) : (s.setReg64 lo hi v).plm = s.plm := rfl
@[simp] theorem State.setReg64_blk (s : State) (lo hi : Nat) (v : Nat) : (s.setReg64 lo hi v).blk = s.blk := rfl
@[simp] theorem State.setReg64_viols (s : State) (lo hi : Nat) (v : Nat) : (s.setReg64 lo hi v).viols = s.viols := rfl
@[simp] theorem State.setReg64_cmp (s : State) (lo hi : Nat) (v : Nat) : (s.setReg64 lo hi v).cmp = s.cmp := rfl
@[simp] theorem State.setReg64_pair (s : State) (lo hi : Nat) (v : Nat) : (s.setReg64 lo hi v).pair = s.pair := rfl
@[simp] theorem State.setReg64_mp (s : State) (lo hi : Nat) (v : Nat) : (s.setReg64 lo hi v).mp = s.mp := rfl
@[simp] theorem State.setReg64_grps (s : State) (lo hi : Nat) (v : Nat) : (s.setReg64 lo hi v).grps = s.grps := rfl
@[simp] theorem State.setReg64_chans (s : State) (lo hi : Nat) (v : Nat) : (s.setReg64 lo hi v).chans = s.chans := rfl
@[simp] theorem State.setReg64_cans (s : State) (lo hi : Nat) (v : Nat) : (s.setReg64 lo hi v).cans = s.cans := rfl
@[simp] theorem State.setReg64_ctls (s : State) (lo hi : Nat) (v : Nat) : (s.setReg64 lo hi v).ctls = s.ctls := rfl
@[simp] theorem State.setReg64_fis (s : State) (lo hi : Nat) (v : Nat) : (s.setReg64 lo hi v).fis = s.fis := rfl
@[simp] theorem State.setReg64_fos (s : State) (lo hi : Nat) (v : Nat) : (s.setReg64 lo hi v).fos = s.fos := rfl
@[simp] theorem State.setReg64_recd (s : State) (lo hi : Nat) (v : Nat) : (s.setReg64 lo hi v).recd = s.recd := rfl
@[simp] theorem State.setReg64_mram (s : State) (lo hi : Nat) (v : Nat) : (s.setReg64 lo hi v).mram = s.mram := rfl
@[simp] theorem State.setReg64_mem (s : State) (lo hi : Nat) (v : Nat) : (s.setReg64 lo hi v).mem = s.mem := rfl
@[simp] theorem State.setReg64_pwr (s : State) (lo hi : Nat) (v : Nat) : (s.setReg64 lo hi v).pwr = s.pwr := rfl
@[simp] theorem State.setReg64_upd (s : State) (lo hi : Nat) (v : Nat) : (s.setReg64 lo hi v).upd = s.upd := rfl
@[simp] theorem State.setReg64_out (s : State) (lo hi : Nat) (v : Nat) : (s.setReg64 lo hi v).out = s.out := rfl
@[simp] theorem State.setReg64_free (s : State) (lo hi : Nat) (v : Nat) : (s.setReg64 lo hi v).free = s.free := rfl
@[simp] theorem State.setReg64_pending (s : State) (lo hi : Nat) (v : Nat) : (s.setReg64 lo hi v).pending = s.pending := rfl

end Sys2Proof.Machine
end

