-- ==== Sys2Proof/Laws/Shared.lean ====
section
/-!
SUPPORT. The fields that the shared operations leave as they were: interrupts and their messages, violations, retirements,
the pair link and the checkpoint stream.
-/
namespace Sys2Proof.Machine

/-- What each step of a fold leaves as it was, the fold leaves as it was. -/
theorem foldl_leaves {α β : Type} (g : State → β) (f : State → α → State) (l : List α) (s : State) (h : ∀ t x, g (f t x) = g t) :
    g (l.foldl f s) = g s := by
  induction l generalizing s with
  | nil => rfl
  | cons x r ih => exact (ih _).trans (h s x)

@[simp] theorem State.sendMsix_order (s : State) (v : Nat) : (s.sendMsix v).order = s.order := rfl
@[simp] theorem State.sendMsix_sclk (s : State) (v : Nat) : (s.sendMsix v).sclk = s.sclk := rfl
@[simp] theorem State.sendMsix_clk (s : State) (v : Nat) : (s.sendMsix v).clk = s.clk := rfl
@[simp] theorem State.sendMsix_ptp (s : State) (v : Nat) : (s.sendMsix v).ptp = s.ptp := rfl
@[simp] theorem State.sendMsix_bkp (s : State) (v : Nat) : (s.sendMsix v).bkp = s.bkp := rfl
@[simp] theorem State.sendMsix_regs (s : State) (v : Nat) : (s.sendMsix v).regs = s.regs := rfl
@[simp] theorem State.sendMsix_flips (s : State) (v : Nat) : (s.sendMsix v).flips = s.flips := rfl
@[simp] theorem State.sendMsix_rlat (s : State) (v : Nat) : (s.sendMsix v).rlat = s.rlat := rfl
@[simp] theorem State.sendMsix_wlat (s : State) (v : Nat) : (s.sendMsix v).wlat = s.wlat := rfl
@[simp] theorem State.sendMsix_cfgA (s : State) (v : Nat) : (s.sendMsix v).cfgA = s.cfgA := rfl
@[simp] theorem State.sendMsix_cfgS (s : State) (v : Nat) : (s.sendMsix v).cfgS = s.cfgS := rfl
@[simp] theorem State.sendMsix_tsq (s : State) (v : Nat) : (s.sendMsix v).tsq = s.tsq := rfl
@[simp] theorem State.sendMsix_servo (s : State) (v : Nat) : (s.sendMsix v).servo = s.servo := rfl
@[simp] theorem State.sendMsix_ptpPorts (s : State) (v : Nat) : (s.sendMsix v).ptpPorts = s.ptpPorts := rfl
@[simp] theorem State.sendMsix_dats (s : State) (v : Nat) : (s.sendMsix v).dats = s.dats := rfl
@[simp] theorem State.sendMsix_stk (s : State) (v : Nat) : (s.sendMsix v).stk = s.stk := rfl
@[simp] theorem State.sendMsix_ports (s : State) (v : Nat) : (s.sendMsix v).ports = s.ports := rfl
@[simp] theorem State.sendMsix_hbAt (s : State) (v : Nat) : (s.sendMsix v).hbAt = s.hbAt := rfl
@[simp] theorem State.sendMsix_img (s : State) (v : Nat) : (s.sendMsix v).img = s.img := rfl
@[simp] theorem State.sendMsix_konst (s : State) (v : Nat) : (s.sendMsix v).konst = s.konst := rfl
@[simp] theorem State.sendMsix_prog (s : State) (v : Nat) : (s.sendMsix v).prog = s.prog := rfl
@[simp] theorem State.sendMsix_progBytes (s : State) (v : Nat) : (s.sendMsix v).progBytes = s.progBytes := rfl
@[simp] theorem State.sendMsix_engs (s : State) (v : Nat) : (s.sendMsix v).engs = s.engs := rfl
@[simp] theorem State.sendMsix_plm (s : State) (v : Nat) : (s.sendMsix v).plm = s.plm := rfl
@[simp] theorem State.sendMsix_blk (s : State) (v : Nat) : (s.sendMsix v).blk = s.blk := rfl
@[simp] theorem State.sendMsix_viols (s : State) (v : Nat) : (s.sendMsix v).viols = s.viols := rfl
@[simp] theorem State.sendMsix_cmp (s : State) (v : Nat) : (s.sendMsix v).cmp = s.cmp := rfl
@[simp] theorem State.sendMsix_pair (s : State) (v : Nat) : (s.sendMsix v).pair = s.pair := rfl
@[simp] theorem State.sendMsix_mp (s : State) (v : Nat) : (s.sendMsix v).mp = s.mp := rfl
@[simp] theorem State.sendMsix_grps (s : State) (v : Nat) : (s.sendMsix v).grps = s.grps := rfl
@[simp] theorem State.sendMsix_chans (s : State) (v : Nat) : (s.sendMsix v).chans = s.chans := rfl
@[simp] theorem State.sendMsix_cans (s : State) (v : Nat) : (s.sendMsix v).cans = s.cans := rfl
@[simp] theorem State.sendMsix_ctls (s : State) (v : Nat) : (s.sendMsix v).ctls = s.ctls := rfl
@[simp] theorem State.sendMsix_fis (s : State) (v : Nat) : (s.sendMsix v).fis = s.fis := rfl
@[simp] theorem State.sendMsix_fos (s : State) (v : Nat) : (s.sendMsix v).fos = s.fos := rfl
@[simp] theorem State.sendMsix_recd (s : State) (v : Nat) : (s.sendMsix v).recd = s.recd := rfl
@[simp] theorem State.sendMsix_mram (s : State) (v : Nat) : (s.sendMsix v).mram = s.mram := rfl
@[simp] theorem State.sendMsix_mem (s : State) (v : Nat) : (s.sendMsix v).mem = s.mem := rfl
@[simp] theorem State.sendMsix_pwr (s : State) (v : Nat) : (s.sendMsix v).pwr = s.pwr := rfl
@[simp] theorem State.sendMsix_upd (s : State) (v : Nat) : (s.sendMsix v).upd = s.upd := rfl
@[simp] theorem State.sendMsix_free (s : State) (v : Nat) : (s.sendMsix v).free = s.free := rfl
@[simp] theorem State.sendMsix_pending (s : State) (v : Nat) : (s.sendMsix v).pending = s.pending := rfl

@[simp] theorem State.signal_order (s : State) (v : Nat) : (s.signal v).order = s.order := by unfold State.signal; split <;> rfl
@[simp] theorem State.signal_sclk (s : State) (v : Nat) : (s.signal v).sclk = s.sclk := by unfold State.signal; split <;> rfl
@[simp] theorem State.signal_clk (s : State) (v : Nat) : (s.signal v).clk = s.clk := by unfold State.signal; split <;> rfl
@[simp] theorem State.signal_ptp (s : State) (v : Nat) : (s.signal v).ptp = s.ptp := by unfold State.signal; split <;> rfl
@[simp] theorem State.signal_bkp (s : State) (v : Nat) : (s.signal v).bkp = s.bkp := by unfold State.signal; split <;> rfl
@[simp] theorem State.signal_rlat (s : State) (v : Nat) : (s.signal v).rlat = s.rlat := by unfold State.signal; split <;> rfl
@[simp] theorem State.signal_wlat (s : State) (v : Nat) : (s.signal v).wlat = s.wlat := by unfold State.signal; split <;> rfl
@[simp] theorem State.signal_cfgA (s : State) (v : Nat) : (s.signal v).cfgA = s.cfgA := by unfold State.signal; split <;> rfl
@[simp] theorem State.signal_cfgS (s : State) (v : Nat) : (s.signal v).cfgS = s.cfgS := by unfold State.signal; split <;> rfl
@[simp] theorem State.signal_tsq (s : State) (v : Nat) : (s.signal v).tsq = s.tsq := by unfold State.signal; split <;> rfl
@[simp] theorem State.signal_servo (s : State) (v : Nat) : (s.signal v).servo = s.servo := by unfold State.signal; split <;> rfl
@[simp] theorem State.signal_ptpPorts (s : State) (v : Nat) : (s.signal v).ptpPorts = s.ptpPorts := by unfold State.signal; split <;> rfl
@[simp] theorem State.signal_dats (s : State) (v : Nat) : (s.signal v).dats = s.dats := by unfold State.signal; split <;> rfl
@[simp] theorem State.signal_stk (s : State) (v : Nat) : (s.signal v).stk = s.stk := by unfold State.signal; split <;> rfl
@[simp] theorem State.signal_ports (s : State) (v : Nat) : (s.signal v).ports = s.ports := by unfold State.signal; split <;> rfl
@[simp] theorem State.signal_hbAt (s : State) (v : Nat) : (s.signal v).hbAt = s.hbAt := by unfold State.signal; split <;> rfl
@[simp] theorem State.signal_img (s : State) (v : Nat) : (s.signal v).img = s.img := by unfold State.signal; split <;> rfl
@[simp] theorem State.signal_konst (s : State) (v : Nat) : (s.signal v).konst = s.konst := by unfold State.signal; split <;> rfl
@[simp] theorem State.signal_prog (s : State) (v : Nat) : (s.signal v).prog = s.prog := by unfold State.signal; split <;> rfl
@[simp] theorem State.signal_progBytes (s : State) (v : Nat) : (s.signal v).progBytes = s.progBytes := by unfold State.signal; split <;> rfl
@[simp] theorem State.signal_engs (s : State) (v : Nat) : (s.signal v).engs = s.engs := by unfold State.signal; split <;> rfl
@[simp] theorem State.signal_plm (s : State) (v : Nat) : (s.signal v).plm = s.plm := by unfold State.signal; split <;> rfl
@[simp] theorem State.signal_blk (s : State) (v : Nat) : (s.signal v).blk = s.blk := by unfold State.signal; split <;> rfl
@[simp] theorem State.signal_viols (s : State) (v : Nat) : (s.signal v).viols = s.viols := by unfold State.signal; split <;> rfl
@[simp] theorem State.signal_cmp (s : State) (v : Nat) : (s.signal v).cmp = s.cmp := by unfold State.signal; split <;> rfl
@[simp] theorem State.signal_pair (s : State) (v : Nat) : (s.signal v).pair = s.pair := by unfold State.signal; split <;> rfl
@[simp] theorem State.signal_mp (s : State) (v : Nat) : (s.signal v).mp = s.mp := by unfold State.signal; split <;> rfl
@[simp] theorem State.signal_grps (s : State) (v : Nat) : (s.signal v).grps = s.grps := by unfold State.signal; split <;> rfl
@[simp] theorem State.signal_chans (s : State) (v : Nat) : (s.signal v).chans = s.chans := by unfold State.signal; split <;> rfl
@[simp] theorem State.signal_cans (s : State) (v : Nat) : (s.signal v).cans = s.cans := by unfold State.signal; split <;> rfl
@[simp] theorem State.signal_ctls (s : State) (v : Nat) : (s.signal v).ctls = s.ctls := by unfold State.signal; split <;> rfl
@[simp] theorem State.signal_fis (s : State) (v : Nat) : (s.signal v).fis = s.fis := by unfold State.signal; split <;> rfl
@[simp] theorem State.signal_fos (s : State) (v : Nat) : (s.signal v).fos = s.fos := by unfold State.signal; split <;> rfl
@[simp] theorem State.signal_recd (s : State) (v : Nat) : (s.signal v).recd = s.recd := by unfold State.signal; split <;> rfl
@[simp] theorem State.signal_mram (s : State) (v : Nat) : (s.signal v).mram = s.mram := by unfold State.signal; split <;> rfl
@[simp] theorem State.signal_mem (s : State) (v : Nat) : (s.signal v).mem = s.mem := by unfold State.signal; split <;> rfl
@[simp] theorem State.signal_pwr (s : State) (v : Nat) : (s.signal v).pwr = s.pwr := by unfold State.signal; split <;> rfl
@[simp] theorem State.signal_upd (s : State) (v : Nat) : (s.signal v).upd = s.upd := by unfold State.signal; split <;> rfl
@[simp] theorem State.signal_free (s : State) (v : Nat) : (s.signal v).free = s.free := by unfold State.signal; split <;> rfl
@[simp] theorem State.signal_pending (s : State) (v : Nat) : (s.signal v).pending = s.pending := by unfold State.signal; split <;> rfl

@[simp] theorem State.irqChange_order (s : State) (v a : Nat) (w : Word) : (s.irqChange v a w).order = s.order := by
  unfold State.irqChange; try dsimp only
  (repeat' split) <;> first | rfl | simp
@[simp] theorem State.irqChange_sclk (s : State) (v a : Nat) (w : Word) : (s.irqChange v a w).sclk = s.sclk := by
  unfold State.irqChange; try dsimp only
  (repeat' split) <;> first | rfl | simp
@[simp] theorem State.irqChange_clk (s : State) (v a : Nat) (w : Word) : (s.irqChange v a w).clk = s.clk := by
  unfold State.irqChange; try dsimp only
  (repeat' split) <;> first | rfl | simp
@[simp] theorem State.irqChange_ptp (s : State) (v a : Nat) (w : Word) : (s.irqChange v a w).ptp = s.ptp := by
  unfold State.irqChange; try dsimp only
  (repeat' split) <;> first | rfl | simp
@[simp] theorem State.irqChange_bkp (s : State) (v a : Nat) (w : Word) : (s.irqChange v a w).bkp = s.bkp := by
  unfold State.irqChange; try dsimp only
  (repeat' split) <;> first | rfl | simp
@[simp] theorem State.irqChange_rlat (s : State) (v a : Nat) (w : Word) : (s.irqChange v a w).rlat = s.rlat := by
  unfold State.irqChange; try dsimp only
  (repeat' split) <;> first | rfl | simp
@[simp] theorem State.irqChange_wlat (s : State) (v a : Nat) (w : Word) : (s.irqChange v a w).wlat = s.wlat := by
  unfold State.irqChange; try dsimp only
  (repeat' split) <;> first | rfl | simp
@[simp] theorem State.irqChange_cfgA (s : State) (v a : Nat) (w : Word) : (s.irqChange v a w).cfgA = s.cfgA := by
  unfold State.irqChange; try dsimp only
  (repeat' split) <;> first | rfl | simp
@[simp] theorem State.irqChange_cfgS (s : State) (v a : Nat) (w : Word) : (s.irqChange v a w).cfgS = s.cfgS := by
  unfold State.irqChange; try dsimp only
  (repeat' split) <;> first | rfl | simp
@[simp] theorem State.irqChange_tsq (s : State) (v a : Nat) (w : Word) : (s.irqChange v a w).tsq = s.tsq := by
  unfold State.irqChange; try dsimp only
  (repeat' split) <;> first | rfl | simp
@[simp] theorem State.irqChange_servo (s : State) (v a : Nat) (w : Word) : (s.irqChange v a w).servo = s.servo := by
  unfold State.irqChange; try dsimp only
  (repeat' split) <;> first | rfl | simp
@[simp] theorem State.irqChange_ptpPorts (s : State) (v a : Nat) (w : Word) : (s.irqChange v a w).ptpPorts = s.ptpPorts := by
  unfold State.irqChange; try dsimp only
  (repeat' split) <;> first | rfl | simp
@[simp] theorem State.irqChange_dats (s : State) (v a : Nat) (w : Word) : (s.irqChange v a w).dats = s.dats := by
  unfold State.irqChange; try dsimp only
  (repeat' split) <;> first | rfl | simp
@[simp] theorem State.irqChange_stk (s : State) (v a : Nat) (w : Word) : (s.irqChange v a w).stk = s.stk := by
  unfold State.irqChange; try dsimp only
  (repeat' split) <;> first | rfl | simp
@[simp] theorem State.irqChange_ports (s : State) (v a : Nat) (w : Word) : (s.irqChange v a w).ports = s.ports := by
  unfold State.irqChange; try dsimp only
  (repeat' split) <;> first | rfl | simp
@[simp] theorem State.irqChange_hbAt (s : State) (v a : Nat) (w : Word) : (s.irqChange v a w).hbAt = s.hbAt := by
  unfold State.irqChange; try dsimp only
  (repeat' split) <;> first | rfl | simp
@[simp] theorem State.irqChange_img (s : State) (v a : Nat) (w : Word) : (s.irqChange v a w).img = s.img := by
  unfold State.irqChange; try dsimp only
  (repeat' split) <;> first | rfl | simp
@[simp] theorem State.irqChange_konst (s : State) (v a : Nat) (w : Word) : (s.irqChange v a w).konst = s.konst := by
  unfold State.irqChange; try dsimp only
  (repeat' split) <;> first | rfl | simp
@[simp] theorem State.irqChange_prog (s : State) (v a : Nat) (w : Word) : (s.irqChange v a w).prog = s.prog := by
  unfold State.irqChange; try dsimp only
  (repeat' split) <;> first | rfl | simp
@[simp] theorem State.irqChange_progBytes (s : State) (v a : Nat) (w : Word) : (s.irqChange v a w).progBytes = s.progBytes := by
  unfold State.irqChange; try dsimp only
  (repeat' split) <;> first | rfl | simp
@[simp] theorem State.irqChange_engs (s : State) (v a : Nat) (w : Word) : (s.irqChange v a w).engs = s.engs := by
  unfold State.irqChange; try dsimp only
  (repeat' split) <;> first | rfl | simp
@[simp] theorem State.irqChange_plm (s : State) (v a : Nat) (w : Word) : (s.irqChange v a w).plm = s.plm := by
  unfold State.irqChange; try dsimp only
  (repeat' split) <;> first | rfl | simp
@[simp] theorem State.irqChange_blk (s : State) (v a : Nat) (w : Word) : (s.irqChange v a w).blk = s.blk := by
  unfold State.irqChange; try dsimp only
  (repeat' split) <;> first | rfl | simp
@[simp] theorem State.irqChange_viols (s : State) (v a : Nat) (w : Word) : (s.irqChange v a w).viols = s.viols := by
  unfold State.irqChange; try dsimp only
  (repeat' split) <;> first | rfl | simp
@[simp] theorem State.irqChange_cmp (s : State) (v a : Nat) (w : Word) : (s.irqChange v a w).cmp = s.cmp := by
  unfold State.irqChange; try dsimp only
  (repeat' split) <;> first | rfl | simp
@[simp] theorem State.irqChange_pair (s : State) (v a : Nat) (w : Word) : (s.irqChange v a w).pair = s.pair := by
  unfold State.irqChange; try dsimp only
  (repeat' split) <;> first | rfl | simp
@[simp] theorem State.irqChange_mp (s : State) (v a : Nat) (w : Word) : (s.irqChange v a w).mp = s.mp := by
  unfold State.irqChange; try dsimp only
  (repeat' split) <;> first | rfl | simp
@[simp] theorem State.irqChange_grps (s : State) (v a : Nat) (w : Word) : (s.irqChange v a w).grps = s.grps := by
  unfold State.irqChange; try dsimp only
  (repeat' split) <;> first | rfl | simp
@[simp] theorem State.irqChange_chans (s : State) (v a : Nat) (w : Word) : (s.irqChange v a w).chans = s.chans := by
  unfold State.irqChange; try dsimp only
  (repeat' split) <;> first | rfl | simp
@[simp] theorem State.irqChange_cans (s : State) (v a : Nat) (w : Word) : (s.irqChange v a w).cans = s.cans := by
  unfold State.irqChange; try dsimp only
  (repeat' split) <;> first | rfl | simp
@[simp] theorem State.irqChange_ctls (s : State) (v a : Nat) (w : Word) : (s.irqChange v a w).ctls = s.ctls := by
  unfold State.irqChange; try dsimp only
  (repeat' split) <;> first | rfl | simp
@[simp] theorem State.irqChange_fis (s : State) (v a : Nat) (w : Word) : (s.irqChange v a w).fis = s.fis := by
  unfold State.irqChange; try dsimp only
  (repeat' split) <;> first | rfl | simp
@[simp] theorem State.irqChange_fos (s : State) (v a : Nat) (w : Word) : (s.irqChange v a w).fos = s.fos := by
  unfold State.irqChange; try dsimp only
  (repeat' split) <;> first | rfl | simp
@[simp] theorem State.irqChange_recd (s : State) (v a : Nat) (w : Word) : (s.irqChange v a w).recd = s.recd := by
  unfold State.irqChange; try dsimp only
  (repeat' split) <;> first | rfl | simp
@[simp] theorem State.irqChange_mram (s : State) (v a : Nat) (w : Word) : (s.irqChange v a w).mram = s.mram := by
  unfold State.irqChange; try dsimp only
  (repeat' split) <;> first | rfl | simp
@[simp] theorem State.irqChange_mem (s : State) (v a : Nat) (w : Word) : (s.irqChange v a w).mem = s.mem := by
  unfold State.irqChange; try dsimp only
  (repeat' split) <;> first | rfl | simp
@[simp] theorem State.irqChange_pwr (s : State) (v a : Nat) (w : Word) : (s.irqChange v a w).pwr = s.pwr := by
  unfold State.irqChange; try dsimp only
  (repeat' split) <;> first | rfl | simp
@[simp] theorem State.irqChange_upd (s : State) (v a : Nat) (w : Word) : (s.irqChange v a w).upd = s.upd := by
  unfold State.irqChange; try dsimp only
  (repeat' split) <;> first | rfl | simp
@[simp] theorem State.irqChange_free (s : State) (v a : Nat) (w : Word) : (s.irqChange v a w).free = s.free := by
  unfold State.irqChange; try dsimp only
  (repeat' split) <;> first | rfl | simp
@[simp] theorem State.irqChange_pending (s : State) (v a : Nat) (w : Word) : (s.irqChange v a w).pending = s.pending := by
  unfold State.irqChange; try dsimp only
  (repeat' split) <;> first | rfl | simp

@[simp] theorem State.raise_order (s : State) (v : Nat) (bits : Word) : (s.raise v bits).order = s.order := by
  unfold State.raise; try dsimp only
  (repeat' split) <;> first | rfl | simp
@[simp] theorem State.raise_sclk (s : State) (v : Nat) (bits : Word) : (s.raise v bits).sclk = s.sclk := by
  unfold State.raise; try dsimp only
  (repeat' split) <;> first | rfl | simp
@[simp] theorem State.raise_clk (s : State) (v : Nat) (bits : Word) : (s.raise v bits).clk = s.clk := by
  unfold State.raise; try dsimp only
  (repeat' split) <;> first | rfl | simp
@[simp] theorem State.raise_ptp (s : State) (v : Nat) (bits : Word) : (s.raise v bits).ptp = s.ptp := by
  unfold State.raise; try dsimp only
  (repeat' split) <;> first | rfl | simp
@[simp] theorem State.raise_bkp (s : State) (v : Nat) (bits : Word) : (s.raise v bits).bkp = s.bkp := by
  unfold State.raise; try dsimp only
  (repeat' split) <;> first | rfl | simp
@[simp] theorem State.raise_rlat (s : State) (v : Nat) (bits : Word) : (s.raise v bits).rlat = s.rlat := by
  unfold State.raise; try dsimp only
  (repeat' split) <;> first | rfl | simp
@[simp] theorem State.raise_wlat (s : State) (v : Nat) (bits : Word) : (s.raise v bits).wlat = s.wlat := by
  unfold State.raise; try dsimp only
  (repeat' split) <;> first | rfl | simp
@[simp] theorem State.raise_cfgA (s : State) (v : Nat) (bits : Word) : (s.raise v bits).cfgA = s.cfgA := by
  unfold State.raise; try dsimp only
  (repeat' split) <;> first | rfl | simp
@[simp] theorem State.raise_cfgS (s : State) (v : Nat) (bits : Word) : (s.raise v bits).cfgS = s.cfgS := by
  unfold State.raise; try dsimp only
  (repeat' split) <;> first | rfl | simp
@[simp] theorem State.raise_tsq (s : State) (v : Nat) (bits : Word) : (s.raise v bits).tsq = s.tsq := by
  unfold State.raise; try dsimp only
  (repeat' split) <;> first | rfl | simp
@[simp] theorem State.raise_servo (s : State) (v : Nat) (bits : Word) : (s.raise v bits).servo = s.servo := by
  unfold State.raise; try dsimp only
  (repeat' split) <;> first | rfl | simp
@[simp] theorem State.raise_ptpPorts (s : State) (v : Nat) (bits : Word) : (s.raise v bits).ptpPorts = s.ptpPorts := by
  unfold State.raise; try dsimp only
  (repeat' split) <;> first | rfl | simp
@[simp] theorem State.raise_dats (s : State) (v : Nat) (bits : Word) : (s.raise v bits).dats = s.dats := by
  unfold State.raise; try dsimp only
  (repeat' split) <;> first | rfl | simp
@[simp] theorem State.raise_stk (s : State) (v : Nat) (bits : Word) : (s.raise v bits).stk = s.stk := by
  unfold State.raise; try dsimp only
  (repeat' split) <;> first | rfl | simp
@[simp] theorem State.raise_ports (s : State) (v : Nat) (bits : Word) : (s.raise v bits).ports = s.ports := by
  unfold State.raise; try dsimp only
  (repeat' split) <;> first | rfl | simp
@[simp] theorem State.raise_hbAt (s : State) (v : Nat) (bits : Word) : (s.raise v bits).hbAt = s.hbAt := by
  unfold State.raise; try dsimp only
  (repeat' split) <;> first | rfl | simp
@[simp] theorem State.raise_img (s : State) (v : Nat) (bits : Word) : (s.raise v bits).img = s.img := by
  unfold State.raise; try dsimp only
  (repeat' split) <;> first | rfl | simp
@[simp] theorem State.raise_konst (s : State) (v : Nat) (bits : Word) : (s.raise v bits).konst = s.konst := by
  unfold State.raise; try dsimp only
  (repeat' split) <;> first | rfl | simp
@[simp] theorem State.raise_prog (s : State) (v : Nat) (bits : Word) : (s.raise v bits).prog = s.prog := by
  unfold State.raise; try dsimp only
  (repeat' split) <;> first | rfl | simp
@[simp] theorem State.raise_progBytes (s : State) (v : Nat) (bits : Word) : (s.raise v bits).progBytes = s.progBytes := by
  unfold State.raise; try dsimp only
  (repeat' split) <;> first | rfl | simp
@[simp] theorem State.raise_engs (s : State) (v : Nat) (bits : Word) : (s.raise v bits).engs = s.engs := by
  unfold State.raise; try dsimp only
  (repeat' split) <;> first | rfl | simp
@[simp] theorem State.raise_plm (s : State) (v : Nat) (bits : Word) : (s.raise v bits).plm = s.plm := by
  unfold State.raise; try dsimp only
  (repeat' split) <;> first | rfl | simp
@[simp] theorem State.raise_blk (s : State) (v : Nat) (bits : Word) : (s.raise v bits).blk = s.blk := by
  unfold State.raise; try dsimp only
  (repeat' split) <;> first | rfl | simp
@[simp] theorem State.raise_viols (s : State) (v : Nat) (bits : Word) : (s.raise v bits).viols = s.viols := by
  unfold State.raise; try dsimp only
  (repeat' split) <;> first | rfl | simp
@[simp] theorem State.raise_cmp (s : State) (v : Nat) (bits : Word) : (s.raise v bits).cmp = s.cmp := by
  unfold State.raise; try dsimp only
  (repeat' split) <;> first | rfl | simp
@[simp] theorem State.raise_pair (s : State) (v : Nat) (bits : Word) : (s.raise v bits).pair = s.pair := by
  unfold State.raise; try dsimp only
  (repeat' split) <;> first | rfl | simp
@[simp] theorem State.raise_mp (s : State) (v : Nat) (bits : Word) : (s.raise v bits).mp = s.mp := by
  unfold State.raise; try dsimp only
  (repeat' split) <;> first | rfl | simp
@[simp] theorem State.raise_grps (s : State) (v : Nat) (bits : Word) : (s.raise v bits).grps = s.grps := by
  unfold State.raise; try dsimp only
  (repeat' split) <;> first | rfl | simp
@[simp] theorem State.raise_chans (s : State) (v : Nat) (bits : Word) : (s.raise v bits).chans = s.chans := by
  unfold State.raise; try dsimp only
  (repeat' split) <;> first | rfl | simp
@[simp] theorem State.raise_cans (s : State) (v : Nat) (bits : Word) : (s.raise v bits).cans = s.cans := by
  unfold State.raise; try dsimp only
  (repeat' split) <;> first | rfl | simp
@[simp] theorem State.raise_ctls (s : State) (v : Nat) (bits : Word) : (s.raise v bits).ctls = s.ctls := by
  unfold State.raise; try dsimp only
  (repeat' split) <;> first | rfl | simp
@[simp] theorem State.raise_fis (s : State) (v : Nat) (bits : Word) : (s.raise v bits).fis = s.fis := by
  unfold State.raise; try dsimp only
  (repeat' split) <;> first | rfl | simp
@[simp] theorem State.raise_fos (s : State) (v : Nat) (bits : Word) : (s.raise v bits).fos = s.fos := by
  unfold State.raise; try dsimp only
  (repeat' split) <;> first | rfl | simp
@[simp] theorem State.raise_recd (s : State) (v : Nat) (bits : Word) : (s.raise v bits).recd = s.recd := by
  unfold State.raise; try dsimp only
  (repeat' split) <;> first | rfl | simp
@[simp] theorem State.raise_mram (s : State) (v : Nat) (bits : Word) : (s.raise v bits).mram = s.mram := by
  unfold State.raise; try dsimp only
  (repeat' split) <;> first | rfl | simp
@[simp] theorem State.raise_mem (s : State) (v : Nat) (bits : Word) : (s.raise v bits).mem = s.mem := by
  unfold State.raise; try dsimp only
  (repeat' split) <;> first | rfl | simp
@[simp] theorem State.raise_pwr (s : State) (v : Nat) (bits : Word) : (s.raise v bits).pwr = s.pwr := by
  unfold State.raise; try dsimp only
  (repeat' split) <;> first | rfl | simp
@[simp] theorem State.raise_upd (s : State) (v : Nat) (bits : Word) : (s.raise v bits).upd = s.upd := by
  unfold State.raise; try dsimp only
  (repeat' split) <;> first | rfl | simp
@[simp] theorem State.raise_free (s : State) (v : Nat) (bits : Word) : (s.raise v bits).free = s.free := by
  unfold State.raise; try dsimp only
  (repeat' split) <;> first | rfl | simp
@[simp] theorem State.raise_pending (s : State) (v : Nat) (bits : Word) : (s.raise v bits).pending = s.pending := by
  unfold State.raise; try dsimp only
  (repeat' split) <;> first | rfl | simp

@[simp] theorem State.raiseBit_order (s : State) (v i : Nat) : (s.raiseBit v i).order = s.order := by
  unfold State.raiseBit; try dsimp only
  (repeat' split) <;> first | rfl | simp
@[simp] theorem State.raiseBit_sclk (s : State) (v i : Nat) : (s.raiseBit v i).sclk = s.sclk := by
  unfold State.raiseBit; try dsimp only
  (repeat' split) <;> first | rfl | simp
@[simp] theorem State.raiseBit_clk (s : State) (v i : Nat) : (s.raiseBit v i).clk = s.clk := by
  unfold State.raiseBit; try dsimp only
  (repeat' split) <;> first | rfl | simp
@[simp] theorem State.raiseBit_ptp (s : State) (v i : Nat) : (s.raiseBit v i).ptp = s.ptp := by
  unfold State.raiseBit; try dsimp only
  (repeat' split) <;> first | rfl | simp
@[simp] theorem State.raiseBit_bkp (s : State) (v i : Nat) : (s.raiseBit v i).bkp = s.bkp := by
  unfold State.raiseBit; try dsimp only
  (repeat' split) <;> first | rfl | simp
@[simp] theorem State.raiseBit_rlat (s : State) (v i : Nat) : (s.raiseBit v i).rlat = s.rlat := by
  unfold State.raiseBit; try dsimp only
  (repeat' split) <;> first | rfl | simp
@[simp] theorem State.raiseBit_wlat (s : State) (v i : Nat) : (s.raiseBit v i).wlat = s.wlat := by
  unfold State.raiseBit; try dsimp only
  (repeat' split) <;> first | rfl | simp
@[simp] theorem State.raiseBit_cfgA (s : State) (v i : Nat) : (s.raiseBit v i).cfgA = s.cfgA := by
  unfold State.raiseBit; try dsimp only
  (repeat' split) <;> first | rfl | simp
@[simp] theorem State.raiseBit_cfgS (s : State) (v i : Nat) : (s.raiseBit v i).cfgS = s.cfgS := by
  unfold State.raiseBit; try dsimp only
  (repeat' split) <;> first | rfl | simp
@[simp] theorem State.raiseBit_tsq (s : State) (v i : Nat) : (s.raiseBit v i).tsq = s.tsq := by
  unfold State.raiseBit; try dsimp only
  (repeat' split) <;> first | rfl | simp
@[simp] theorem State.raiseBit_servo (s : State) (v i : Nat) : (s.raiseBit v i).servo = s.servo := by
  unfold State.raiseBit; try dsimp only
  (repeat' split) <;> first | rfl | simp
@[simp] theorem State.raiseBit_ptpPorts (s : State) (v i : Nat) : (s.raiseBit v i).ptpPorts = s.ptpPorts := by
  unfold State.raiseBit; try dsimp only
  (repeat' split) <;> first | rfl | simp
@[simp] theorem State.raiseBit_dats (s : State) (v i : Nat) : (s.raiseBit v i).dats = s.dats := by
  unfold State.raiseBit; try dsimp only
  (repeat' split) <;> first | rfl | simp
@[simp] theorem State.raiseBit_stk (s : State) (v i : Nat) : (s.raiseBit v i).stk = s.stk := by
  unfold State.raiseBit; try dsimp only
  (repeat' split) <;> first | rfl | simp
@[simp] theorem State.raiseBit_ports (s : State) (v i : Nat) : (s.raiseBit v i).ports = s.ports := by
  unfold State.raiseBit; try dsimp only
  (repeat' split) <;> first | rfl | simp
@[simp] theorem State.raiseBit_hbAt (s : State) (v i : Nat) : (s.raiseBit v i).hbAt = s.hbAt := by
  unfold State.raiseBit; try dsimp only
  (repeat' split) <;> first | rfl | simp
@[simp] theorem State.raiseBit_img (s : State) (v i : Nat) : (s.raiseBit v i).img = s.img := by
  unfold State.raiseBit; try dsimp only
  (repeat' split) <;> first | rfl | simp
@[simp] theorem State.raiseBit_konst (s : State) (v i : Nat) : (s.raiseBit v i).konst = s.konst := by
  unfold State.raiseBit; try dsimp only
  (repeat' split) <;> first | rfl | simp
@[simp] theorem State.raiseBit_prog (s : State) (v i : Nat) : (s.raiseBit v i).prog = s.prog := by
  unfold State.raiseBit; try dsimp only
  (repeat' split) <;> first | rfl | simp
@[simp] theorem State.raiseBit_progBytes (s : State) (v i : Nat) : (s.raiseBit v i).progBytes = s.progBytes := by
  unfold State.raiseBit; try dsimp only
  (repeat' split) <;> first | rfl | simp
@[simp] theorem State.raiseBit_engs (s : State) (v i : Nat) : (s.raiseBit v i).engs = s.engs := by
  unfold State.raiseBit; try dsimp only
  (repeat' split) <;> first | rfl | simp
@[simp] theorem State.raiseBit_plm (s : State) (v i : Nat) : (s.raiseBit v i).plm = s.plm := by
  unfold State.raiseBit; try dsimp only
  (repeat' split) <;> first | rfl | simp
@[simp] theorem State.raiseBit_blk (s : State) (v i : Nat) : (s.raiseBit v i).blk = s.blk := by
  unfold State.raiseBit; try dsimp only
  (repeat' split) <;> first | rfl | simp
@[simp] theorem State.raiseBit_viols (s : State) (v i : Nat) : (s.raiseBit v i).viols = s.viols := by
  unfold State.raiseBit; try dsimp only
  (repeat' split) <;> first | rfl | simp
@[simp] theorem State.raiseBit_cmp (s : State) (v i : Nat) : (s.raiseBit v i).cmp = s.cmp := by
  unfold State.raiseBit; try dsimp only
  (repeat' split) <;> first | rfl | simp
@[simp] theorem State.raiseBit_pair (s : State) (v i : Nat) : (s.raiseBit v i).pair = s.pair := by
  unfold State.raiseBit; try dsimp only
  (repeat' split) <;> first | rfl | simp
@[simp] theorem State.raiseBit_mp (s : State) (v i : Nat) : (s.raiseBit v i).mp = s.mp := by
  unfold State.raiseBit; try dsimp only
  (repeat' split) <;> first | rfl | simp
@[simp] theorem State.raiseBit_grps (s : State) (v i : Nat) : (s.raiseBit v i).grps = s.grps := by
  unfold State.raiseBit; try dsimp only
  (repeat' split) <;> first | rfl | simp
@[simp] theorem State.raiseBit_chans (s : State) (v i : Nat) : (s.raiseBit v i).chans = s.chans := by
  unfold State.raiseBit; try dsimp only
  (repeat' split) <;> first | rfl | simp
@[simp] theorem State.raiseBit_cans (s : State) (v i : Nat) : (s.raiseBit v i).cans = s.cans := by
  unfold State.raiseBit; try dsimp only
  (repeat' split) <;> first | rfl | simp
@[simp] theorem State.raiseBit_ctls (s : State) (v i : Nat) : (s.raiseBit v i).ctls = s.ctls := by
  unfold State.raiseBit; try dsimp only
  (repeat' split) <;> first | rfl | simp
@[simp] theorem State.raiseBit_fis (s : State) (v i : Nat) : (s.raiseBit v i).fis = s.fis := by
  unfold State.raiseBit; try dsimp only
  (repeat' split) <;> first | rfl | simp
@[simp] theorem State.raiseBit_fos (s : State) (v i : Nat) : (s.raiseBit v i).fos = s.fos := by
  unfold State.raiseBit; try dsimp only
  (repeat' split) <;> first | rfl | simp
@[simp] theorem State.raiseBit_recd (s : State) (v i : Nat) : (s.raiseBit v i).recd = s.recd := by
  unfold State.raiseBit; try dsimp only
  (repeat' split) <;> first | rfl | simp
@[simp] theorem State.raiseBit_mram (s : State) (v i : Nat) : (s.raiseBit v i).mram = s.mram := by
  unfold State.raiseBit; try dsimp only
  (repeat' split) <;> first | rfl | simp
@[simp] theorem State.raiseBit_mem (s : State) (v i : Nat) : (s.raiseBit v i).mem = s.mem := by
  unfold State.raiseBit; try dsimp only
  (repeat' split) <;> first | rfl | simp
@[simp] theorem State.raiseBit_pwr (s : State) (v i : Nat) : (s.raiseBit v i).pwr = s.pwr := by
  unfold State.raiseBit; try dsimp only
  (repeat' split) <;> first | rfl | simp
@[simp] theorem State.raiseBit_upd (s : State) (v i : Nat) : (s.raiseBit v i).upd = s.upd := by
  unfold State.raiseBit; try dsimp only
  (repeat' split) <;> first | rfl | simp
@[simp] theorem State.raiseBit_free (s : State) (v i : Nat) : (s.raiseBit v i).free = s.free := by
  unfold State.raiseBit; try dsimp only
  (repeat' split) <;> first | rfl | simp
@[simp] theorem State.raiseBit_pending (s : State) (v i : Nat) : (s.raiseBit v i).pending = s.pending := by
  unfold State.raiseBit; try dsimp only
  (repeat' split) <;> first | rfl | simp

@[simp] theorem State.clearSts_order (s : State) (v : Nat) (keep bits : Word) : (s.clearSts v keep bits).order = s.order := by
  unfold State.clearSts; try dsimp only
  (repeat' split) <;> first | rfl | simp
@[simp] theorem State.clearSts_sclk (s : State) (v : Nat) (keep bits : Word) : (s.clearSts v keep bits).sclk = s.sclk := by
  unfold State.clearSts; try dsimp only
  (repeat' split) <;> first | rfl | simp
@[simp] theorem State.clearSts_clk (s : State) (v : Nat) (keep bits : Word) : (s.clearSts v keep bits).clk = s.clk := by
  unfold State.clearSts; try dsimp only
  (repeat' split) <;> first | rfl | simp
@[simp] theorem State.clearSts_ptp (s : State) (v : Nat) (keep bits : Word) : (s.clearSts v keep bits).ptp = s.ptp := by
  unfold State.clearSts; try dsimp only
  (repeat' split) <;> first | rfl | simp
@[simp] theorem State.clearSts_bkp (s : State) (v : Nat) (keep bits : Word) : (s.clearSts v keep bits).bkp = s.bkp := by
  unfold State.clearSts; try dsimp only
  (repeat' split) <;> first | rfl | simp
@[simp] theorem State.clearSts_rlat (s : State) (v : Nat) (keep bits : Word) : (s.clearSts v keep bits).rlat = s.rlat := by
  unfold State.clearSts; try dsimp only
  (repeat' split) <;> first | rfl | simp
@[simp] theorem State.clearSts_wlat (s : State) (v : Nat) (keep bits : Word) : (s.clearSts v keep bits).wlat = s.wlat := by
  unfold State.clearSts; try dsimp only
  (repeat' split) <;> first | rfl | simp
@[simp] theorem State.clearSts_cfgA (s : State) (v : Nat) (keep bits : Word) : (s.clearSts v keep bits).cfgA = s.cfgA := by
  unfold State.clearSts; try dsimp only
  (repeat' split) <;> first | rfl | simp
@[simp] theorem State.clearSts_cfgS (s : State) (v : Nat) (keep bits : Word) : (s.clearSts v keep bits).cfgS = s.cfgS := by
  unfold State.clearSts; try dsimp only
  (repeat' split) <;> first | rfl | simp
@[simp] theorem State.clearSts_tsq (s : State) (v : Nat) (keep bits : Word) : (s.clearSts v keep bits).tsq = s.tsq := by
  unfold State.clearSts; try dsimp only
  (repeat' split) <;> first | rfl | simp
@[simp] theorem State.clearSts_servo (s : State) (v : Nat) (keep bits : Word) : (s.clearSts v keep bits).servo = s.servo := by
  unfold State.clearSts; try dsimp only
  (repeat' split) <;> first | rfl | simp
@[simp] theorem State.clearSts_ptpPorts (s : State) (v : Nat) (keep bits : Word) : (s.clearSts v keep bits).ptpPorts = s.ptpPorts := by
  unfold State.clearSts; try dsimp only
  (repeat' split) <;> first | rfl | simp
@[simp] theorem State.clearSts_dats (s : State) (v : Nat) (keep bits : Word) : (s.clearSts v keep bits).dats = s.dats := by
  unfold State.clearSts; try dsimp only
  (repeat' split) <;> first | rfl | simp
@[simp] theorem State.clearSts_stk (s : State) (v : Nat) (keep bits : Word) : (s.clearSts v keep bits).stk = s.stk := by
  unfold State.clearSts; try dsimp only
  (repeat' split) <;> first | rfl | simp
@[simp] theorem State.clearSts_ports (s : State) (v : Nat) (keep bits : Word) : (s.clearSts v keep bits).ports = s.ports := by
  unfold State.clearSts; try dsimp only
  (repeat' split) <;> first | rfl | simp
@[simp] theorem State.clearSts_hbAt (s : State) (v : Nat) (keep bits : Word) : (s.clearSts v keep bits).hbAt = s.hbAt := by
  unfold State.clearSts; try dsimp only
  (repeat' split) <;> first | rfl | simp
@[simp] theorem State.clearSts_img (s : State) (v : Nat) (keep bits : Word) : (s.clearSts v keep bits).img = s.img := by
  unfold State.clearSts; try dsimp only
  (repeat' split) <;> first | rfl | simp
@[simp] theorem State.clearSts_konst (s : State) (v : Nat) (keep bits : Word) : (s.clearSts v keep bits).konst = s.konst := by
  unfold State.clearSts; try dsimp only
  (repeat' split) <;> first | rfl | simp
@[simp] theorem State.clearSts_prog (s : State) (v : Nat) (keep bits : Word) : (s.clearSts v keep bits).prog = s.prog := by
  unfold State.clearSts; try dsimp only
  (repeat' split) <;> first | rfl | simp
@[simp] theorem State.clearSts_progBytes (s : State) (v : Nat) (keep bits : Word) : (s.clearSts v keep bits).progBytes = s.progBytes := by
  unfold State.clearSts; try dsimp only
  (repeat' split) <;> first | rfl | simp
@[simp] theorem State.clearSts_engs (s : State) (v : Nat) (keep bits : Word) : (s.clearSts v keep bits).engs = s.engs := by
  unfold State.clearSts; try dsimp only
  (repeat' split) <;> first | rfl | simp
@[simp] theorem State.clearSts_plm (s : State) (v : Nat) (keep bits : Word) : (s.clearSts v keep bits).plm = s.plm := by
  unfold State.clearSts; try dsimp only
  (repeat' split) <;> first | rfl | simp
@[simp] theorem State.clearSts_blk (s : State) (v : Nat) (keep bits : Word) : (s.clearSts v keep bits).blk = s.blk := by
  unfold State.clearSts; try dsimp only
  (repeat' split) <;> first | rfl | simp
@[simp] theorem State.clearSts_viols (s : State) (v : Nat) (keep bits : Word) : (s.clearSts v keep bits).viols = s.viols := by
  unfold State.clearSts; try dsimp only
  (repeat' split) <;> first | rfl | simp
@[simp] theorem State.clearSts_cmp (s : State) (v : Nat) (keep bits : Word) : (s.clearSts v keep bits).cmp = s.cmp := by
  unfold State.clearSts; try dsimp only
  (repeat' split) <;> first | rfl | simp
@[simp] theorem State.clearSts_pair (s : State) (v : Nat) (keep bits : Word) : (s.clearSts v keep bits).pair = s.pair := by
  unfold State.clearSts; try dsimp only
  (repeat' split) <;> first | rfl | simp
@[simp] theorem State.clearSts_mp (s : State) (v : Nat) (keep bits : Word) : (s.clearSts v keep bits).mp = s.mp := by
  unfold State.clearSts; try dsimp only
  (repeat' split) <;> first | rfl | simp
@[simp] theorem State.clearSts_grps (s : State) (v : Nat) (keep bits : Word) : (s.clearSts v keep bits).grps = s.grps := by
  unfold State.clearSts; try dsimp only
  (repeat' split) <;> first | rfl | simp
@[simp] theorem State.clearSts_chans (s : State) (v : Nat) (keep bits : Word) : (s.clearSts v keep bits).chans = s.chans := by
  unfold State.clearSts; try dsimp only
  (repeat' split) <;> first | rfl | simp
@[simp] theorem State.clearSts_cans (s : State) (v : Nat) (keep bits : Word) : (s.clearSts v keep bits).cans = s.cans := by
  unfold State.clearSts; try dsimp only
  (repeat' split) <;> first | rfl | simp
@[simp] theorem State.clearSts_ctls (s : State) (v : Nat) (keep bits : Word) : (s.clearSts v keep bits).ctls = s.ctls := by
  unfold State.clearSts; try dsimp only
  (repeat' split) <;> first | rfl | simp
@[simp] theorem State.clearSts_fis (s : State) (v : Nat) (keep bits : Word) : (s.clearSts v keep bits).fis = s.fis := by
  unfold State.clearSts; try dsimp only
  (repeat' split) <;> first | rfl | simp
@[simp] theorem State.clearSts_fos (s : State) (v : Nat) (keep bits : Word) : (s.clearSts v keep bits).fos = s.fos := by
  unfold State.clearSts; try dsimp only
  (repeat' split) <;> first | rfl | simp
@[simp] theorem State.clearSts_recd (s : State) (v : Nat) (keep bits : Word) : (s.clearSts v keep bits).recd = s.recd := by
  unfold State.clearSts; try dsimp only
  (repeat' split) <;> first | rfl | simp
@[simp] theorem State.clearSts_mram (s : State) (v : Nat) (keep bits : Word) : (s.clearSts v keep bits).mram = s.mram := by
  unfold State.clearSts; try dsimp only
  (repeat' split) <;> first | rfl | simp
@[simp] theorem State.clearSts_mem (s : State) (v : Nat) (keep bits : Word) : (s.clearSts v keep bits).mem = s.mem := by
  unfold State.clearSts; try dsimp only
  (repeat' split) <;> first | rfl | simp
@[simp] theorem State.clearSts_pwr (s : State) (v : Nat) (keep bits : Word) : (s.clearSts v keep bits).pwr = s.pwr := by
  unfold State.clearSts; try dsimp only
  (repeat' split) <;> first | rfl | simp
@[simp] theorem State.clearSts_upd (s : State) (v : Nat) (keep bits : Word) : (s.clearSts v keep bits).upd = s.upd := by
  unfold State.clearSts; try dsimp only
  (repeat' split) <;> first | rfl | simp
@[simp] theorem State.clearSts_free (s : State) (v : Nat) (keep bits : Word) : (s.clearSts v keep bits).free = s.free := by
  unfold State.clearSts; try dsimp only
  (repeat' split) <;> first | rfl | simp
@[simp] theorem State.clearSts_pending (s : State) (v : Nat) (keep bits : Word) : (s.clearSts v keep bits).pending = s.pending := by
  unfold State.clearSts; try dsimp only
  (repeat' split) <;> first | rfl | simp

@[simp] theorem State.captureViol_order (s : State) : (s.captureViol ).order = s.order := by
  unfold State.captureViol; try dsimp only
  (repeat' split) <;> first | rfl | simp
@[simp] theorem State.captureViol_sclk (s : State) : (s.captureViol ).sclk = s.sclk := by
  unfold State.captureViol; try dsimp only
  (repeat' split) <;> first | rfl | simp
@[simp] theorem State.captureViol_clk (s : State) : (s.captureViol ).clk = s.clk := by
  unfold State.captureViol; try dsimp only
  (repeat' split) <;> first | rfl | simp
@[simp] theorem State.captureViol_ptp (s : State) : (s.captureViol ).ptp = s.ptp := by
  unfold State.captureViol; try dsimp only
  (repeat' split) <;> first | rfl | simp
@[simp] theorem State.captureViol_bkp (s : State) : (s.captureViol ).bkp = s.bkp := by
  unfold State.captureViol; try dsimp only
  (repeat' split) <;> first | rfl | simp
@[simp] theorem State.captureViol_rlat (s : State) : (s.captureViol ).rlat = s.rlat := by
  unfold State.captureViol; try dsimp only
  (repeat' split) <;> first | rfl | simp
@[simp] theorem State.captureViol_wlat (s : State) : (s.captureViol ).wlat = s.wlat := by
  unfold State.captureViol; try dsimp only
  (repeat' split) <;> first | rfl | simp
@[simp] theorem State.captureViol_cfgA (s : State) : (s.captureViol ).cfgA = s.cfgA := by
  unfold State.captureViol; try dsimp only
  (repeat' split) <;> first | rfl | simp
@[simp] theorem State.captureViol_cfgS (s : State) : (s.captureViol ).cfgS = s.cfgS := by
  unfold State.captureViol; try dsimp only
  (repeat' split) <;> first | rfl | simp
@[simp] theorem State.captureViol_tsq (s : State) : (s.captureViol ).tsq = s.tsq := by
  unfold State.captureViol; try dsimp only
  (repeat' split) <;> first | rfl | simp
@[simp] theorem State.captureViol_servo (s : State) : (s.captureViol ).servo = s.servo := by
  unfold State.captureViol; try dsimp only
  (repeat' split) <;> first | rfl | simp
@[simp] theorem State.captureViol_ptpPorts (s : State) : (s.captureViol ).ptpPorts = s.ptpPorts := by
  unfold State.captureViol; try dsimp only
  (repeat' split) <;> first | rfl | simp
@[simp] theorem State.captureViol_dats (s : State) : (s.captureViol ).dats = s.dats := by
  unfold State.captureViol; try dsimp only
  (repeat' split) <;> first | rfl | simp
@[simp] theorem State.captureViol_stk (s : State) : (s.captureViol ).stk = s.stk := by
  unfold State.captureViol; try dsimp only
  (repeat' split) <;> first | rfl | simp
@[simp] theorem State.captureViol_ports (s : State) : (s.captureViol ).ports = s.ports := by
  unfold State.captureViol; try dsimp only
  (repeat' split) <;> first | rfl | simp
@[simp] theorem State.captureViol_hbAt (s : State) : (s.captureViol ).hbAt = s.hbAt := by
  unfold State.captureViol; try dsimp only
  (repeat' split) <;> first | rfl | simp
@[simp] theorem State.captureViol_img (s : State) : (s.captureViol ).img = s.img := by
  unfold State.captureViol; try dsimp only
  (repeat' split) <;> first | rfl | simp
@[simp] theorem State.captureViol_konst (s : State) : (s.captureViol ).konst = s.konst := by
  unfold State.captureViol; try dsimp only
  (repeat' split) <;> first | rfl | simp
@[simp] theorem State.captureViol_prog (s : State) : (s.captureViol ).prog = s.prog := by
  unfold State.captureViol; try dsimp only
  (repeat' split) <;> first | rfl | simp
@[simp] theorem State.captureViol_progBytes (s : State) : (s.captureViol ).progBytes = s.progBytes := by
  unfold State.captureViol; try dsimp only
  (repeat' split) <;> first | rfl | simp
@[simp] theorem State.captureViol_engs (s : State) : (s.captureViol ).engs = s.engs := by
  unfold State.captureViol; try dsimp only
  (repeat' split) <;> first | rfl | simp
@[simp] theorem State.captureViol_plm (s : State) : (s.captureViol ).plm = s.plm := by
  unfold State.captureViol; try dsimp only
  (repeat' split) <;> first | rfl | simp
@[simp] theorem State.captureViol_blk (s : State) : (s.captureViol ).blk = s.blk := by
  unfold State.captureViol; try dsimp only
  (repeat' split) <;> first | rfl | simp
@[simp] theorem State.captureViol_viols (s : State) : (s.captureViol ).viols = s.viols := by
  unfold State.captureViol; try dsimp only
  (repeat' split) <;> first | rfl | simp
@[simp] theorem State.captureViol_cmp (s : State) : (s.captureViol ).cmp = s.cmp := by
  unfold State.captureViol; try dsimp only
  (repeat' split) <;> first | rfl | simp
@[simp] theorem State.captureViol_pair (s : State) : (s.captureViol ).pair = s.pair := by
  unfold State.captureViol; try dsimp only
  (repeat' split) <;> first | rfl | simp
@[simp] theorem State.captureViol_mp (s : State) : (s.captureViol ).mp = s.mp := by
  unfold State.captureViol; try dsimp only
  (repeat' split) <;> first | rfl | simp
@[simp] theorem State.captureViol_grps (s : State) : (s.captureViol ).grps = s.grps := by
  unfold State.captureViol; try dsimp only
  (repeat' split) <;> first | rfl | simp
@[simp] theorem State.captureViol_chans (s : State) : (s.captureViol ).chans = s.chans := by
  unfold State.captureViol; try dsimp only
  (repeat' split) <;> first | rfl | simp
@[simp] theorem State.captureViol_cans (s : State) : (s.captureViol ).cans = s.cans := by
  unfold State.captureViol; try dsimp only
  (repeat' split) <;> first | rfl | simp
@[simp] theorem State.captureViol_ctls (s : State) : (s.captureViol ).ctls = s.ctls := by
  unfold State.captureViol; try dsimp only
  (repeat' split) <;> first | rfl | simp
@[simp] theorem State.captureViol_fis (s : State) : (s.captureViol ).fis = s.fis := by
  unfold State.captureViol; try dsimp only
  (repeat' split) <;> first | rfl | simp
@[simp] theorem State.captureViol_fos (s : State) : (s.captureViol ).fos = s.fos := by
  unfold State.captureViol; try dsimp only
  (repeat' split) <;> first | rfl | simp
@[simp] theorem State.captureViol_recd (s : State) : (s.captureViol ).recd = s.recd := by
  unfold State.captureViol; try dsimp only
  (repeat' split) <;> first | rfl | simp
@[simp] theorem State.captureViol_mram (s : State) : (s.captureViol ).mram = s.mram := by
  unfold State.captureViol; try dsimp only
  (repeat' split) <;> first | rfl | simp
@[simp] theorem State.captureViol_mem (s : State) : (s.captureViol ).mem = s.mem := by
  unfold State.captureViol; try dsimp only
  (repeat' split) <;> first | rfl | simp
@[simp] theorem State.captureViol_pwr (s : State) : (s.captureViol ).pwr = s.pwr := by
  unfold State.captureViol; try dsimp only
  (repeat' split) <;> first | rfl | simp
@[simp] theorem State.captureViol_upd (s : State) : (s.captureViol ).upd = s.upd := by
  unfold State.captureViol; try dsimp only
  (repeat' split) <;> first | rfl | simp
@[simp] theorem State.captureViol_free (s : State) : (s.captureViol ).free = s.free := by
  unfold State.captureViol; try dsimp only
  (repeat' split) <;> first | rfl | simp
@[simp] theorem State.captureViol_pending (s : State) : (s.captureViol ).pending = s.pending := by
  unfold State.captureViol; try dsimp only
  (repeat' split) <;> first | rfl | simp

@[simp] theorem State.violation_order (s : State) (master kind : Nat) (write : Bool) (size addr : Nat) : (s.violation master kind write size addr).order = s.order := by
  unfold State.violation; try dsimp only
  (repeat' split) <;> first | rfl | simp
@[simp] theorem State.violation_sclk (s : State) (master kind : Nat) (write : Bool) (size addr : Nat) : (s.violation master kind write size addr).sclk = s.sclk := by
  unfold State.violation; try dsimp only
  (repeat' split) <;> first | rfl | simp
@[simp] theorem State.violation_clk (s : State) (master kind : Nat) (write : Bool) (size addr : Nat) : (s.violation master kind write size addr).clk = s.clk := by
  unfold State.violation; try dsimp only
  (repeat' split) <;> first | rfl | simp
@[simp] theorem State.violation_ptp (s : State) (master kind : Nat) (write : Bool) (size addr : Nat) : (s.violation master kind write size addr).ptp = s.ptp := by
  unfold State.violation; try dsimp only
  (repeat' split) <;> first | rfl | simp
@[simp] theorem State.violation_bkp (s : State) (master kind : Nat) (write : Bool) (size addr : Nat) : (s.violation master kind write size addr).bkp = s.bkp := by
  unfold State.violation; try dsimp only
  (repeat' split) <;> first | rfl | simp
@[simp] theorem State.violation_rlat (s : State) (master kind : Nat) (write : Bool) (size addr : Nat) : (s.violation master kind write size addr).rlat = s.rlat := by
  unfold State.violation; try dsimp only
  (repeat' split) <;> first | rfl | simp
@[simp] theorem State.violation_wlat (s : State) (master kind : Nat) (write : Bool) (size addr : Nat) : (s.violation master kind write size addr).wlat = s.wlat := by
  unfold State.violation; try dsimp only
  (repeat' split) <;> first | rfl | simp
@[simp] theorem State.violation_cfgA (s : State) (master kind : Nat) (write : Bool) (size addr : Nat) : (s.violation master kind write size addr).cfgA = s.cfgA := by
  unfold State.violation; try dsimp only
  (repeat' split) <;> first | rfl | simp
@[simp] theorem State.violation_cfgS (s : State) (master kind : Nat) (write : Bool) (size addr : Nat) : (s.violation master kind write size addr).cfgS = s.cfgS := by
  unfold State.violation; try dsimp only
  (repeat' split) <;> first | rfl | simp
@[simp] theorem State.violation_tsq (s : State) (master kind : Nat) (write : Bool) (size addr : Nat) : (s.violation master kind write size addr).tsq = s.tsq := by
  unfold State.violation; try dsimp only
  (repeat' split) <;> first | rfl | simp
@[simp] theorem State.violation_servo (s : State) (master kind : Nat) (write : Bool) (size addr : Nat) : (s.violation master kind write size addr).servo = s.servo := by
  unfold State.violation; try dsimp only
  (repeat' split) <;> first | rfl | simp
@[simp] theorem State.violation_ptpPorts (s : State) (master kind : Nat) (write : Bool) (size addr : Nat) : (s.violation master kind write size addr).ptpPorts = s.ptpPorts := by
  unfold State.violation; try dsimp only
  (repeat' split) <;> first | rfl | simp
@[simp] theorem State.violation_dats (s : State) (master kind : Nat) (write : Bool) (size addr : Nat) : (s.violation master kind write size addr).dats = s.dats := by
  unfold State.violation; try dsimp only
  (repeat' split) <;> first | rfl | simp
@[simp] theorem State.violation_stk (s : State) (master kind : Nat) (write : Bool) (size addr : Nat) : (s.violation master kind write size addr).stk = s.stk := by
  unfold State.violation; try dsimp only
  (repeat' split) <;> first | rfl | simp
@[simp] theorem State.violation_ports (s : State) (master kind : Nat) (write : Bool) (size addr : Nat) : (s.violation master kind write size addr).ports = s.ports := by
  unfold State.violation; try dsimp only
  (repeat' split) <;> first | rfl | simp
@[simp] theorem State.violation_hbAt (s : State) (master kind : Nat) (write : Bool) (size addr : Nat) : (s.violation master kind write size addr).hbAt = s.hbAt := by
  unfold State.violation; try dsimp only
  (repeat' split) <;> first | rfl | simp
@[simp] theorem State.violation_img (s : State) (master kind : Nat) (write : Bool) (size addr : Nat) : (s.violation master kind write size addr).img = s.img := by
  unfold State.violation; try dsimp only
  (repeat' split) <;> first | rfl | simp
@[simp] theorem State.violation_konst (s : State) (master kind : Nat) (write : Bool) (size addr : Nat) : (s.violation master kind write size addr).konst = s.konst := by
  unfold State.violation; try dsimp only
  (repeat' split) <;> first | rfl | simp
@[simp] theorem State.violation_prog (s : State) (master kind : Nat) (write : Bool) (size addr : Nat) : (s.violation master kind write size addr).prog = s.prog := by
  unfold State.violation; try dsimp only
  (repeat' split) <;> first | rfl | simp
@[simp] theorem State.violation_progBytes (s : State) (master kind : Nat) (write : Bool) (size addr : Nat) : (s.violation master kind write size addr).progBytes = s.progBytes := by
  unfold State.violation; try dsimp only
  (repeat' split) <;> first | rfl | simp
@[simp] theorem State.violation_engs (s : State) (master kind : Nat) (write : Bool) (size addr : Nat) : (s.violation master kind write size addr).engs = s.engs := by
  unfold State.violation; try dsimp only
  (repeat' split) <;> first | rfl | simp
@[simp] theorem State.violation_plm (s : State) (master kind : Nat) (write : Bool) (size addr : Nat) : (s.violation master kind write size addr).plm = s.plm := by
  unfold State.violation; try dsimp only
  (repeat' split) <;> first | rfl | simp
@[simp] theorem State.violation_blk (s : State) (master kind : Nat) (write : Bool) (size addr : Nat) : (s.violation master kind write size addr).blk = s.blk := by
  unfold State.violation; try dsimp only
  (repeat' split) <;> first | rfl | simp
@[simp] theorem State.violation_cmp (s : State) (master kind : Nat) (write : Bool) (size addr : Nat) : (s.violation master kind write size addr).cmp = s.cmp := by
  unfold State.violation; try dsimp only
  (repeat' split) <;> first | rfl | simp
@[simp] theorem State.violation_pair (s : State) (master kind : Nat) (write : Bool) (size addr : Nat) : (s.violation master kind write size addr).pair = s.pair := by
  unfold State.violation; try dsimp only
  (repeat' split) <;> first | rfl | simp
@[simp] theorem State.violation_mp (s : State) (master kind : Nat) (write : Bool) (size addr : Nat) : (s.violation master kind write size addr).mp = s.mp := by
  unfold State.violation; try dsimp only
  (repeat' split) <;> first | rfl | simp
@[simp] theorem State.violation_grps (s : State) (master kind : Nat) (write : Bool) (size addr : Nat) : (s.violation master kind write size addr).grps = s.grps := by
  unfold State.violation; try dsimp only
  (repeat' split) <;> first | rfl | simp
@[simp] theorem State.violation_chans (s : State) (master kind : Nat) (write : Bool) (size addr : Nat) : (s.violation master kind write size addr).chans = s.chans := by
  unfold State.violation; try dsimp only
  (repeat' split) <;> first | rfl | simp
@[simp] theorem State.violation_cans (s : State) (master kind : Nat) (write : Bool) (size addr : Nat) : (s.violation master kind write size addr).cans = s.cans := by
  unfold State.violation; try dsimp only
  (repeat' split) <;> first | rfl | simp
@[simp] theorem State.violation_ctls (s : State) (master kind : Nat) (write : Bool) (size addr : Nat) : (s.violation master kind write size addr).ctls = s.ctls := by
  unfold State.violation; try dsimp only
  (repeat' split) <;> first | rfl | simp
@[simp] theorem State.violation_fis (s : State) (master kind : Nat) (write : Bool) (size addr : Nat) : (s.violation master kind write size addr).fis = s.fis := by
  unfold State.violation; try dsimp only
  (repeat' split) <;> first | rfl | simp
@[simp] theorem State.violation_fos (s : State) (master kind : Nat) (write : Bool) (size addr : Nat) : (s.violation master kind write size addr).fos = s.fos := by
  unfold State.violation; try dsimp only
  (repeat' split) <;> first | rfl | simp
@[simp] theorem State.violation_mram (s : State) (master kind : Nat) (write : Bool) (size addr : Nat) : (s.violation master kind write size addr).mram = s.mram := by
  unfold State.violation; try dsimp only
  (repeat' split) <;> first | rfl | simp
@[simp] theorem State.violation_mem (s : State) (master kind : Nat) (write : Bool) (size addr : Nat) : (s.violation master kind write size addr).mem = s.mem := by
  unfold State.violation; try dsimp only
  (repeat' split) <;> first | rfl | simp
@[simp] theorem State.violation_pwr (s : State) (master kind : Nat) (write : Bool) (size addr : Nat) : (s.violation master kind write size addr).pwr = s.pwr := by
  unfold State.violation; try dsimp only
  (repeat' split) <;> first | rfl | simp
@[simp] theorem State.violation_upd (s : State) (master kind : Nat) (write : Bool) (size addr : Nat) : (s.violation master kind write size addr).upd = s.upd := by
  unfold State.violation; try dsimp only
  (repeat' split) <;> first | rfl | simp
@[simp] theorem State.violation_free (s : State) (master kind : Nat) (write : Bool) (size addr : Nat) : (s.violation master kind write size addr).free = s.free := by
  unfold State.violation; try dsimp only
  (repeat' split) <;> first | rfl | simp
@[simp] theorem State.violation_pending (s : State) (master kind : Nat) (write : Bool) (size addr : Nat) : (s.violation master kind write size addr).pending = s.pending := by
  unfold State.violation; try dsimp only
  (repeat' split) <;> first | rfl | simp

@[simp] theorem State.clearViol_order (s : State) : (s.clearViol ).order = s.order := by
  unfold State.clearViol; try dsimp only
  (repeat' split) <;> first | rfl | simp
@[simp] theorem State.clearViol_sclk (s : State) : (s.clearViol ).sclk = s.sclk := by
  unfold State.clearViol; try dsimp only
  (repeat' split) <;> first | rfl | simp
@[simp] theorem State.clearViol_clk (s : State) : (s.clearViol ).clk = s.clk := by
  unfold State.clearViol; try dsimp only
  (repeat' split) <;> first | rfl | simp
@[simp] theorem State.clearViol_ptp (s : State) : (s.clearViol ).ptp = s.ptp := by
  unfold State.clearViol; try dsimp only
  (repeat' split) <;> first | rfl | simp
@[simp] theorem State.clearViol_bkp (s : State) : (s.clearViol ).bkp = s.bkp := by
  unfold State.clearViol; try dsimp only
  (repeat' split) <;> first | rfl | simp
@[simp] theorem State.clearViol_rlat (s : State) : (s.clearViol ).rlat = s.rlat := by
  unfold State.clearViol; try dsimp only
  (repeat' split) <;> first | rfl | simp
@[simp] theorem State.clearViol_wlat (s : State) : (s.clearViol ).wlat = s.wlat := by
  unfold State.clearViol; try dsimp only
  (repeat' split) <;> first | rfl | simp
@[simp] theorem State.clearViol_cfgA (s : State) : (s.clearViol ).cfgA = s.cfgA := by
  unfold State.clearViol; try dsimp only
  (repeat' split) <;> first | rfl | simp
@[simp] theorem State.clearViol_cfgS (s : State) : (s.clearViol ).cfgS = s.cfgS := by
  unfold State.clearViol; try dsimp only
  (repeat' split) <;> first | rfl | simp
@[simp] theorem State.clearViol_tsq (s : State) : (s.clearViol ).tsq = s.tsq := by
  unfold State.clearViol; try dsimp only
  (repeat' split) <;> first | rfl | simp
@[simp] theorem State.clearViol_servo (s : State) : (s.clearViol ).servo = s.servo := by
  unfold State.clearViol; try dsimp only
  (repeat' split) <;> first | rfl | simp
@[simp] theorem State.clearViol_ptpPorts (s : State) : (s.clearViol ).ptpPorts = s.ptpPorts := by
  unfold State.clearViol; try dsimp only
  (repeat' split) <;> first | rfl | simp
@[simp] theorem State.clearViol_dats (s : State) : (s.clearViol ).dats = s.dats := by
  unfold State.clearViol; try dsimp only
  (repeat' split) <;> first | rfl | simp
@[simp] theorem State.clearViol_stk (s : State) : (s.clearViol ).stk = s.stk := by
  unfold State.clearViol; try dsimp only
  (repeat' split) <;> first | rfl | simp
@[simp] theorem State.clearViol_ports (s : State) : (s.clearViol ).ports = s.ports := by
  unfold State.clearViol; try dsimp only
  (repeat' split) <;> first | rfl | simp
@[simp] theorem State.clearViol_hbAt (s : State) : (s.clearViol ).hbAt = s.hbAt := by
  unfold State.clearViol; try dsimp only
  (repeat' split) <;> first | rfl | simp
@[simp] theorem State.clearViol_img (s : State) : (s.clearViol ).img = s.img := by
  unfold State.clearViol; try dsimp only
  (repeat' split) <;> first | rfl | simp
@[simp] theorem State.clearViol_konst (s : State) : (s.clearViol ).konst = s.konst := by
  unfold State.clearViol; try dsimp only
  (repeat' split) <;> first | rfl | simp
@[simp] theorem State.clearViol_prog (s : State) : (s.clearViol ).prog = s.prog := by
  unfold State.clearViol; try dsimp only
  (repeat' split) <;> first | rfl | simp
@[simp] theorem State.clearViol_progBytes (s : State) : (s.clearViol ).progBytes = s.progBytes := by
  unfold State.clearViol; try dsimp only
  (repeat' split) <;> first | rfl | simp
@[simp] theorem State.clearViol_engs (s : State) : (s.clearViol ).engs = s.engs := by
  unfold State.clearViol; try dsimp only
  (repeat' split) <;> first | rfl | simp
@[simp] theorem State.clearViol_plm (s : State) : (s.clearViol ).plm = s.plm := by
  unfold State.clearViol; try dsimp only
  (repeat' split) <;> first | rfl | simp
@[simp] theorem State.clearViol_blk (s : State) : (s.clearViol ).blk = s.blk := by
  unfold State.clearViol; try dsimp only
  (repeat' split) <;> first | rfl | simp
@[simp] theorem State.clearViol_cmp (s : State) : (s.clearViol ).cmp = s.cmp := by
  unfold State.clearViol; try dsimp only
  (repeat' split) <;> first | rfl | simp
@[simp] theorem State.clearViol_pair (s : State) : (s.clearViol ).pair = s.pair := by
  unfold State.clearViol; try dsimp only
  (repeat' split) <;> first | rfl | simp
@[simp] theorem State.clearViol_mp (s : State) : (s.clearViol ).mp = s.mp := by
  unfold State.clearViol; try dsimp only
  (repeat' split) <;> first | rfl | simp
@[simp] theorem State.clearViol_grps (s : State) : (s.clearViol ).grps = s.grps := by
  unfold State.clearViol; try dsimp only
  (repeat' split) <;> first | rfl | simp
@[simp] theorem State.clearViol_chans (s : State) : (s.clearViol ).chans = s.chans := by
  unfold State.clearViol; try dsimp only
  (repeat' split) <;> first | rfl | simp
@[simp] theorem State.clearViol_cans (s : State) : (s.clearViol ).cans = s.cans := by
  unfold State.clearViol; try dsimp only
  (repeat' split) <;> first | rfl | simp
@[simp] theorem State.clearViol_ctls (s : State) : (s.clearViol ).ctls = s.ctls := by
  unfold State.clearViol; try dsimp only
  (repeat' split) <;> first | rfl | simp
@[simp] theorem State.clearViol_fis (s : State) : (s.clearViol ).fis = s.fis := by
  unfold State.clearViol; try dsimp only
  (repeat' split) <;> first | rfl | simp
@[simp] theorem State.clearViol_fos (s : State) : (s.clearViol ).fos = s.fos := by
  unfold State.clearViol; try dsimp only
  (repeat' split) <;> first | rfl | simp
@[simp] theorem State.clearViol_recd (s : State) : (s.clearViol ).recd = s.recd := by
  unfold State.clearViol; try dsimp only
  (repeat' split) <;> first | rfl | simp
@[simp] theorem State.clearViol_mram (s : State) : (s.clearViol ).mram = s.mram := by
  unfold State.clearViol; try dsimp only
  (repeat' split) <;> first | rfl | simp
@[simp] theorem State.clearViol_mem (s : State) : (s.clearViol ).mem = s.mem := by
  unfold State.clearViol; try dsimp only
  (repeat' split) <;> first | rfl | simp
@[simp] theorem State.clearViol_pwr (s : State) : (s.clearViol ).pwr = s.pwr := by
  unfold State.clearViol; try dsimp only
  (repeat' split) <;> first | rfl | simp
@[simp] theorem State.clearViol_upd (s : State) : (s.clearViol ).upd = s.upd := by
  unfold State.clearViol; try dsimp only
  (repeat' split) <;> first | rfl | simp
@[simp] theorem State.clearViol_free (s : State) : (s.clearViol ).free = s.free := by
  unfold State.clearViol; try dsimp only
  (repeat' split) <;> first | rfl | simp
@[simp] theorem State.clearViol_pending (s : State) : (s.clearViol ).pending = s.pending := by
  unfold State.clearViol; try dsimp only
  (repeat' split) <;> first | rfl | simp

@[simp] theorem State.noteRetired_order (s : State) (r : Retired) : (s.noteRetired r).order = s.order := rfl
@[simp] theorem State.noteRetired_sclk (s : State) (r : Retired) : (s.noteRetired r).sclk = s.sclk := rfl
@[simp] theorem State.noteRetired_clk (s : State) (r : Retired) : (s.noteRetired r).clk = s.clk := rfl
@[simp] theorem State.noteRetired_ptp (s : State) (r : Retired) : (s.noteRetired r).ptp = s.ptp := rfl
@[simp] theorem State.noteRetired_bkp (s : State) (r : Retired) : (s.noteRetired r).bkp = s.bkp := rfl
@[simp] theorem State.noteRetired_regs (s : State) (r : Retired) : (s.noteRetired r).regs = s.regs := rfl
@[simp] theorem State.noteRetired_flips (s : State) (r : Retired) : (s.noteRetired r).flips = s.flips := rfl
@[simp] theorem State.noteRetired_rlat (s : State) (r : Retired) : (s.noteRetired r).rlat = s.rlat := rfl
@[simp] theorem State.noteRetired_wlat (s : State) (r : Retired) : (s.noteRetired r).wlat = s.wlat := rfl
@[simp] theorem State.noteRetired_cfgA (s : State) (r : Retired) : (s.noteRetired r).cfgA = s.cfgA := rfl
@[simp] theorem State.noteRetired_cfgS (s : State) (r : Retired) : (s.noteRetired r).cfgS = s.cfgS := rfl
@[simp] theorem State.noteRetired_tsq (s : State) (r : Retired) : (s.noteRetired r).tsq = s.tsq := rfl
@[simp] theorem State.noteRetired_servo (s : State) (r : Retired) : (s.noteRetired r).servo = s.servo := rfl
@[simp] theorem State.noteRetired_ptpPorts (s : State) (r : Retired) : (s.noteRetired r).ptpPorts = s.ptpPorts := rfl
@[simp] theorem State.noteRetired_dats (s : State) (r : Retired) : (s.noteRetired r).dats = s.dats := rfl
@[simp] theorem State.noteRetired_stk (s : State) (r : Retired) : (s.noteRetired r).stk = s.stk := rfl
@[simp] theorem State.noteRetired_ports (s : State) (r : Retired) : (s.noteRetired r).ports = s.ports := rfl
@[simp] theorem State.noteRetired_hbAt (s : State) (r : Retired) : (s.noteRetired r).hbAt = s.hbAt := rfl
@[simp] theorem State.noteRetired_img (s : State) (r : Retired) : (s.noteRetired r).img = s.img := rfl
@[simp] theorem State.noteRetired_konst (s : State) (r : Retired) : (s.noteRetired r).konst = s.konst := rfl
@[simp] theorem State.noteRetired_prog (s : State) (r : Retired) : (s.noteRetired r).prog = s.prog := rfl
@[simp] theorem State.noteRetired_progBytes (s : State) (r : Retired) : (s.noteRetired r).progBytes = s.progBytes := rfl
@[simp] theorem State.noteRetired_engs (s : State) (r : Retired) : (s.noteRetired r).engs = s.engs := rfl
@[simp] theorem State.noteRetired_plm (s : State) (r : Retired) : (s.noteRetired r).plm = s.plm := rfl
@[simp] theorem State.noteRetired_blk (s : State) (r : Retired) : (s.noteRetired r).blk = s.blk := rfl
@[simp] theorem State.noteRetired_viols (s : State) (r : Retired) : (s.noteRetired r).viols = s.viols := rfl
@[simp] theorem State.noteRetired_cmp (s : State) (r : Retired) : (s.noteRetired r).cmp = s.cmp := rfl
@[simp] theorem State.noteRetired_pair (s : State) (r : Retired) : (s.noteRetired r).pair = s.pair := rfl
@[simp] theorem State.noteRetired_mp (s : State) (r : Retired) : (s.noteRetired r).mp = s.mp := rfl
@[simp] theorem State.noteRetired_grps (s : State) (r : Retired) : (s.noteRetired r).grps = s.grps := rfl
@[simp] theorem State.noteRetired_chans (s : State) (r : Retired) : (s.noteRetired r).chans = s.chans := rfl
@[simp] theorem State.noteRetired_cans (s : State) (r : Retired) : (s.noteRetired r).cans = s.cans := rfl
@[simp] theorem State.noteRetired_ctls (s : State) (r : Retired) : (s.noteRetired r).ctls = s.ctls := rfl
@[simp] theorem State.noteRetired_fis (s : State) (r : Retired) : (s.noteRetired r).fis = s.fis := rfl
@[simp] theorem State.noteRetired_fos (s : State) (r : Retired) : (s.noteRetired r).fos = s.fos := rfl
@[simp] theorem State.noteRetired_mem (s : State) (r : Retired) : (s.noteRetired r).mem = s.mem := rfl
@[simp] theorem State.noteRetired_pwr (s : State) (r : Retired) : (s.noteRetired r).pwr = s.pwr := rfl
@[simp] theorem State.noteRetired_upd (s : State) (r : Retired) : (s.noteRetired r).upd = s.upd := rfl
@[simp] theorem State.noteRetired_out (s : State) (r : Retired) : (s.noteRetired r).out = s.out := rfl
@[simp] theorem State.noteRetired_free (s : State) (r : Retired) : (s.noteRetired r).free = s.free := rfl
@[simp] theorem State.noteRetired_pending (s : State) (r : Retired) : (s.noteRetired r).pending = s.pending := rfl

@[simp] theorem State.emitLink_order (s : State) (f : LinkFrame) : (s.emitLink f).order = s.order := by unfold State.emitLink; split <;> rfl
@[simp] theorem State.emitLink_sclk (s : State) (f : LinkFrame) : (s.emitLink f).sclk = s.sclk := by unfold State.emitLink; split <;> rfl
@[simp] theorem State.emitLink_clk (s : State) (f : LinkFrame) : (s.emitLink f).clk = s.clk := by unfold State.emitLink; split <;> rfl
@[simp] theorem State.emitLink_ptp (s : State) (f : LinkFrame) : (s.emitLink f).ptp = s.ptp := by unfold State.emitLink; split <;> rfl
@[simp] theorem State.emitLink_bkp (s : State) (f : LinkFrame) : (s.emitLink f).bkp = s.bkp := by unfold State.emitLink; split <;> rfl
@[simp] theorem State.emitLink_regs (s : State) (f : LinkFrame) : (s.emitLink f).regs = s.regs := by unfold State.emitLink; split <;> rfl
@[simp] theorem State.emitLink_flips (s : State) (f : LinkFrame) : (s.emitLink f).flips = s.flips := by unfold State.emitLink; split <;> rfl
@[simp] theorem State.emitLink_rlat (s : State) (f : LinkFrame) : (s.emitLink f).rlat = s.rlat := by unfold State.emitLink; split <;> rfl
@[simp] theorem State.emitLink_wlat (s : State) (f : LinkFrame) : (s.emitLink f).wlat = s.wlat := by unfold State.emitLink; split <;> rfl
@[simp] theorem State.emitLink_cfgA (s : State) (f : LinkFrame) : (s.emitLink f).cfgA = s.cfgA := by unfold State.emitLink; split <;> rfl
@[simp] theorem State.emitLink_cfgS (s : State) (f : LinkFrame) : (s.emitLink f).cfgS = s.cfgS := by unfold State.emitLink; split <;> rfl
@[simp] theorem State.emitLink_tsq (s : State) (f : LinkFrame) : (s.emitLink f).tsq = s.tsq := by unfold State.emitLink; split <;> rfl
@[simp] theorem State.emitLink_servo (s : State) (f : LinkFrame) : (s.emitLink f).servo = s.servo := by unfold State.emitLink; split <;> rfl
@[simp] theorem State.emitLink_ptpPorts (s : State) (f : LinkFrame) : (s.emitLink f).ptpPorts = s.ptpPorts := by unfold State.emitLink; split <;> rfl
@[simp] theorem State.emitLink_dats (s : State) (f : LinkFrame) : (s.emitLink f).dats = s.dats := by unfold State.emitLink; split <;> rfl
@[simp] theorem State.emitLink_stk (s : State) (f : LinkFrame) : (s.emitLink f).stk = s.stk := by unfold State.emitLink; split <;> rfl
@[simp] theorem State.emitLink_ports (s : State) (f : LinkFrame) : (s.emitLink f).ports = s.ports := by unfold State.emitLink; split <;> rfl
@[simp] theorem State.emitLink_hbAt (s : State) (f : LinkFrame) : (s.emitLink f).hbAt = s.hbAt := by unfold State.emitLink; split <;> rfl
@[simp] theorem State.emitLink_img (s : State) (f : LinkFrame) : (s.emitLink f).img = s.img := by unfold State.emitLink; split <;> rfl
@[simp] theorem State.emitLink_konst (s : State) (f : LinkFrame) : (s.emitLink f).konst = s.konst := by unfold State.emitLink; split <;> rfl
@[simp] theorem State.emitLink_prog (s : State) (f : LinkFrame) : (s.emitLink f).prog = s.prog := by unfold State.emitLink; split <;> rfl
@[simp] theorem State.emitLink_progBytes (s : State) (f : LinkFrame) : (s.emitLink f).progBytes = s.progBytes := by unfold State.emitLink; split <;> rfl
@[simp] theorem State.emitLink_engs (s : State) (f : LinkFrame) : (s.emitLink f).engs = s.engs := by unfold State.emitLink; split <;> rfl
@[simp] theorem State.emitLink_plm (s : State) (f : LinkFrame) : (s.emitLink f).plm = s.plm := by unfold State.emitLink; split <;> rfl
@[simp] theorem State.emitLink_blk (s : State) (f : LinkFrame) : (s.emitLink f).blk = s.blk := by unfold State.emitLink; split <;> rfl
@[simp] theorem State.emitLink_viols (s : State) (f : LinkFrame) : (s.emitLink f).viols = s.viols := by unfold State.emitLink; split <;> rfl
@[simp] theorem State.emitLink_cmp (s : State) (f : LinkFrame) : (s.emitLink f).cmp = s.cmp := by unfold State.emitLink; split <;> rfl
@[simp] theorem State.emitLink_pair (s : State) (f : LinkFrame) : (s.emitLink f).pair = s.pair := by unfold State.emitLink; split <;> rfl
@[simp] theorem State.emitLink_mp (s : State) (f : LinkFrame) : (s.emitLink f).mp = s.mp := by unfold State.emitLink; split <;> rfl
@[simp] theorem State.emitLink_grps (s : State) (f : LinkFrame) : (s.emitLink f).grps = s.grps := by unfold State.emitLink; split <;> rfl
@[simp] theorem State.emitLink_chans (s : State) (f : LinkFrame) : (s.emitLink f).chans = s.chans := by unfold State.emitLink; split <;> rfl
@[simp] theorem State.emitLink_cans (s : State) (f : LinkFrame) : (s.emitLink f).cans = s.cans := by unfold State.emitLink; split <;> rfl
@[simp] theorem State.emitLink_ctls (s : State) (f : LinkFrame) : (s.emitLink f).ctls = s.ctls := by unfold State.emitLink; split <;> rfl
@[simp] theorem State.emitLink_fis (s : State) (f : LinkFrame) : (s.emitLink f).fis = s.fis := by unfold State.emitLink; split <;> rfl
@[simp] theorem State.emitLink_fos (s : State) (f : LinkFrame) : (s.emitLink f).fos = s.fos := by unfold State.emitLink; split <;> rfl
@[simp] theorem State.emitLink_recd (s : State) (f : LinkFrame) : (s.emitLink f).recd = s.recd := by unfold State.emitLink; split <;> rfl
@[simp] theorem State.emitLink_mram (s : State) (f : LinkFrame) : (s.emitLink f).mram = s.mram := by unfold State.emitLink; split <;> rfl
@[simp] theorem State.emitLink_mem (s : State) (f : LinkFrame) : (s.emitLink f).mem = s.mem := by unfold State.emitLink; split <;> rfl
@[simp] theorem State.emitLink_pwr (s : State) (f : LinkFrame) : (s.emitLink f).pwr = s.pwr := by unfold State.emitLink; split <;> rfl
@[simp] theorem State.emitLink_upd (s : State) (f : LinkFrame) : (s.emitLink f).upd = s.upd := by unfold State.emitLink; split <;> rfl
@[simp] theorem State.emitLink_free (s : State) (f : LinkFrame) : (s.emitLink f).free = s.free := by unfold State.emitLink; split <;> rfl
@[simp] theorem State.emitLink_pending (s : State) (f : LinkFrame) : (s.emitLink f).pending = s.pending := by unfold State.emitLink; split <;> rfl

@[simp] theorem State.sendPlain_order (s : State) (b : LinkBody) : (s.sendPlain b).order = s.order := by
  unfold State.sendPlain; try dsimp only
  (repeat' split) <;> first | rfl | simp
@[simp] theorem State.sendPlain_sclk (s : State) (b : LinkBody) : (s.sendPlain b).sclk = s.sclk := by
  unfold State.sendPlain; try dsimp only
  (repeat' split) <;> first | rfl | simp
@[simp] theorem State.sendPlain_clk (s : State) (b : LinkBody) : (s.sendPlain b).clk = s.clk := by
  unfold State.sendPlain; try dsimp only
  (repeat' split) <;> first | rfl | simp
@[simp] theorem State.sendPlain_ptp (s : State) (b : LinkBody) : (s.sendPlain b).ptp = s.ptp := by
  unfold State.sendPlain; try dsimp only
  (repeat' split) <;> first | rfl | simp
@[simp] theorem State.sendPlain_bkp (s : State) (b : LinkBody) : (s.sendPlain b).bkp = s.bkp := by
  unfold State.sendPlain; try dsimp only
  (repeat' split) <;> first | rfl | simp
@[simp] theorem State.sendPlain_regs (s : State) (b : LinkBody) : (s.sendPlain b).regs = s.regs := by
  unfold State.sendPlain; try dsimp only
  (repeat' split) <;> first | rfl | simp
@[simp] theorem State.sendPlain_flips (s : State) (b : LinkBody) : (s.sendPlain b).flips = s.flips := by
  unfold State.sendPlain; try dsimp only
  (repeat' split) <;> first | rfl | simp
@[simp] theorem State.sendPlain_rlat (s : State) (b : LinkBody) : (s.sendPlain b).rlat = s.rlat := by
  unfold State.sendPlain; try dsimp only
  (repeat' split) <;> first | rfl | simp
@[simp] theorem State.sendPlain_wlat (s : State) (b : LinkBody) : (s.sendPlain b).wlat = s.wlat := by
  unfold State.sendPlain; try dsimp only
  (repeat' split) <;> first | rfl | simp
@[simp] theorem State.sendPlain_cfgA (s : State) (b : LinkBody) : (s.sendPlain b).cfgA = s.cfgA := by
  unfold State.sendPlain; try dsimp only
  (repeat' split) <;> first | rfl | simp
@[simp] theorem State.sendPlain_cfgS (s : State) (b : LinkBody) : (s.sendPlain b).cfgS = s.cfgS := by
  unfold State.sendPlain; try dsimp only
  (repeat' split) <;> first | rfl | simp
@[simp] theorem State.sendPlain_tsq (s : State) (b : LinkBody) : (s.sendPlain b).tsq = s.tsq := by
  unfold State.sendPlain; try dsimp only
  (repeat' split) <;> first | rfl | simp
@[simp] theorem State.sendPlain_servo (s : State) (b : LinkBody) : (s.sendPlain b).servo = s.servo := by
  unfold State.sendPlain; try dsimp only
  (repeat' split) <;> first | rfl | simp
@[simp] theorem State.sendPlain_ptpPorts (s : State) (b : LinkBody) : (s.sendPlain b).ptpPorts = s.ptpPorts := by
  unfold State.sendPlain; try dsimp only
  (repeat' split) <;> first | rfl | simp
@[simp] theorem State.sendPlain_dats (s : State) (b : LinkBody) : (s.sendPlain b).dats = s.dats := by
  unfold State.sendPlain; try dsimp only
  (repeat' split) <;> first | rfl | simp
@[simp] theorem State.sendPlain_stk (s : State) (b : LinkBody) : (s.sendPlain b).stk = s.stk := by
  unfold State.sendPlain; try dsimp only
  (repeat' split) <;> first | rfl | simp
@[simp] theorem State.sendPlain_ports (s : State) (b : LinkBody) : (s.sendPlain b).ports = s.ports := by
  unfold State.sendPlain; try dsimp only
  (repeat' split) <;> first | rfl | simp
@[simp] theorem State.sendPlain_hbAt (s : State) (b : LinkBody) : (s.sendPlain b).hbAt = s.hbAt := by
  unfold State.sendPlain; try dsimp only
  (repeat' split) <;> first | rfl | simp
@[simp] theorem State.sendPlain_img (s : State) (b : LinkBody) : (s.sendPlain b).img = s.img := by
  unfold State.sendPlain; try dsimp only
  (repeat' split) <;> first | rfl | simp
@[simp] theorem State.sendPlain_konst (s : State) (b : LinkBody) : (s.sendPlain b).konst = s.konst := by
  unfold State.sendPlain; try dsimp only
  (repeat' split) <;> first | rfl | simp
@[simp] theorem State.sendPlain_prog (s : State) (b : LinkBody) : (s.sendPlain b).prog = s.prog := by
  unfold State.sendPlain; try dsimp only
  (repeat' split) <;> first | rfl | simp
@[simp] theorem State.sendPlain_progBytes (s : State) (b : LinkBody) : (s.sendPlain b).progBytes = s.progBytes := by
  unfold State.sendPlain; try dsimp only
  (repeat' split) <;> first | rfl | simp
@[simp] theorem State.sendPlain_engs (s : State) (b : LinkBody) : (s.sendPlain b).engs = s.engs := by
  unfold State.sendPlain; try dsimp only
  (repeat' split) <;> first | rfl | simp
@[simp] theorem State.sendPlain_plm (s : State) (b : LinkBody) : (s.sendPlain b).plm = s.plm := by
  unfold State.sendPlain; try dsimp only
  (repeat' split) <;> first | rfl | simp
@[simp] theorem State.sendPlain_blk (s : State) (b : LinkBody) : (s.sendPlain b).blk = s.blk := by
  unfold State.sendPlain; try dsimp only
  (repeat' split) <;> first | rfl | simp
@[simp] theorem State.sendPlain_viols (s : State) (b : LinkBody) : (s.sendPlain b).viols = s.viols := by
  unfold State.sendPlain; try dsimp only
  (repeat' split) <;> first | rfl | simp
@[simp] theorem State.sendPlain_cmp (s : State) (b : LinkBody) : (s.sendPlain b).cmp = s.cmp := by
  unfold State.sendPlain; try dsimp only
  (repeat' split) <;> first | rfl | simp
@[simp] theorem State.sendPlain_pair (s : State) (b : LinkBody) : (s.sendPlain b).pair = s.pair := by
  unfold State.sendPlain; try dsimp only
  (repeat' split) <;> first | rfl | simp
@[simp] theorem State.sendPlain_mp (s : State) (b : LinkBody) : (s.sendPlain b).mp = s.mp := by
  unfold State.sendPlain; try dsimp only
  (repeat' split) <;> first | rfl | simp
@[simp] theorem State.sendPlain_grps (s : State) (b : LinkBody) : (s.sendPlain b).grps = s.grps := by
  unfold State.sendPlain; try dsimp only
  (repeat' split) <;> first | rfl | simp
@[simp] theorem State.sendPlain_chans (s : State) (b : LinkBody) : (s.sendPlain b).chans = s.chans := by
  unfold State.sendPlain; try dsimp only
  (repeat' split) <;> first | rfl | simp
@[simp] theorem State.sendPlain_cans (s : State) (b : LinkBody) : (s.sendPlain b).cans = s.cans := by
  unfold State.sendPlain; try dsimp only
  (repeat' split) <;> first | rfl | simp
@[simp] theorem State.sendPlain_ctls (s : State) (b : LinkBody) : (s.sendPlain b).ctls = s.ctls := by
  unfold State.sendPlain; try dsimp only
  (repeat' split) <;> first | rfl | simp
@[simp] theorem State.sendPlain_fis (s : State) (b : LinkBody) : (s.sendPlain b).fis = s.fis := by
  unfold State.sendPlain; try dsimp only
  (repeat' split) <;> first | rfl | simp
@[simp] theorem State.sendPlain_fos (s : State) (b : LinkBody) : (s.sendPlain b).fos = s.fos := by
  unfold State.sendPlain; try dsimp only
  (repeat' split) <;> first | rfl | simp
@[simp] theorem State.sendPlain_recd (s : State) (b : LinkBody) : (s.sendPlain b).recd = s.recd := by
  unfold State.sendPlain; try dsimp only
  (repeat' split) <;> first | rfl | simp
@[simp] theorem State.sendPlain_mram (s : State) (b : LinkBody) : (s.sendPlain b).mram = s.mram := by
  unfold State.sendPlain; try dsimp only
  (repeat' split) <;> first | rfl | simp
@[simp] theorem State.sendPlain_mem (s : State) (b : LinkBody) : (s.sendPlain b).mem = s.mem := by
  unfold State.sendPlain; try dsimp only
  (repeat' split) <;> first | rfl | simp
@[simp] theorem State.sendPlain_pwr (s : State) (b : LinkBody) : (s.sendPlain b).pwr = s.pwr := by
  unfold State.sendPlain; try dsimp only
  (repeat' split) <;> first | rfl | simp
@[simp] theorem State.sendPlain_upd (s : State) (b : LinkBody) : (s.sendPlain b).upd = s.upd := by
  unfold State.sendPlain; try dsimp only
  (repeat' split) <;> first | rfl | simp
@[simp] theorem State.sendPlain_free (s : State) (b : LinkBody) : (s.sendPlain b).free = s.free := by
  unfold State.sendPlain; try dsimp only
  (repeat' split) <;> first | rfl | simp
@[simp] theorem State.sendPlain_pending (s : State) (b : LinkBody) : (s.sendPlain b).pending = s.pending := by
  unfold State.sendPlain; try dsimp only
  (repeat' split) <;> first | rfl | simp

@[simp] theorem State.sendSeq_order (s : State) (gen : Nat) (b : LinkBody) : (s.sendSeq gen b).order = s.order := by
  unfold State.sendSeq; try dsimp only
  (repeat' split) <;> first | rfl | simp
@[simp] theorem State.sendSeq_sclk (s : State) (gen : Nat) (b : LinkBody) : (s.sendSeq gen b).sclk = s.sclk := by
  unfold State.sendSeq; try dsimp only
  (repeat' split) <;> first | rfl | simp
@[simp] theorem State.sendSeq_clk (s : State) (gen : Nat) (b : LinkBody) : (s.sendSeq gen b).clk = s.clk := by
  unfold State.sendSeq; try dsimp only
  (repeat' split) <;> first | rfl | simp
@[simp] theorem State.sendSeq_ptp (s : State) (gen : Nat) (b : LinkBody) : (s.sendSeq gen b).ptp = s.ptp := by
  unfold State.sendSeq; try dsimp only
  (repeat' split) <;> first | rfl | simp
@[simp] theorem State.sendSeq_bkp (s : State) (gen : Nat) (b : LinkBody) : (s.sendSeq gen b).bkp = s.bkp := by
  unfold State.sendSeq; try dsimp only
  (repeat' split) <;> first | rfl | simp
@[simp] theorem State.sendSeq_rlat (s : State) (gen : Nat) (b : LinkBody) : (s.sendSeq gen b).rlat = s.rlat := by
  unfold State.sendSeq; try dsimp only
  (repeat' split) <;> first | rfl | simp
@[simp] theorem State.sendSeq_wlat (s : State) (gen : Nat) (b : LinkBody) : (s.sendSeq gen b).wlat = s.wlat := by
  unfold State.sendSeq; try dsimp only
  (repeat' split) <;> first | rfl | simp
@[simp] theorem State.sendSeq_cfgA (s : State) (gen : Nat) (b : LinkBody) : (s.sendSeq gen b).cfgA = s.cfgA := by
  unfold State.sendSeq; try dsimp only
  (repeat' split) <;> first | rfl | simp
@[simp] theorem State.sendSeq_cfgS (s : State) (gen : Nat) (b : LinkBody) : (s.sendSeq gen b).cfgS = s.cfgS := by
  unfold State.sendSeq; try dsimp only
  (repeat' split) <;> first | rfl | simp
@[simp] theorem State.sendSeq_tsq (s : State) (gen : Nat) (b : LinkBody) : (s.sendSeq gen b).tsq = s.tsq := by
  unfold State.sendSeq; try dsimp only
  (repeat' split) <;> first | rfl | simp
@[simp] theorem State.sendSeq_servo (s : State) (gen : Nat) (b : LinkBody) : (s.sendSeq gen b).servo = s.servo := by
  unfold State.sendSeq; try dsimp only
  (repeat' split) <;> first | rfl | simp
@[simp] theorem State.sendSeq_ptpPorts (s : State) (gen : Nat) (b : LinkBody) : (s.sendSeq gen b).ptpPorts = s.ptpPorts := by
  unfold State.sendSeq; try dsimp only
  (repeat' split) <;> first | rfl | simp
@[simp] theorem State.sendSeq_dats (s : State) (gen : Nat) (b : LinkBody) : (s.sendSeq gen b).dats = s.dats := by
  unfold State.sendSeq; try dsimp only
  (repeat' split) <;> first | rfl | simp
@[simp] theorem State.sendSeq_stk (s : State) (gen : Nat) (b : LinkBody) : (s.sendSeq gen b).stk = s.stk := by
  unfold State.sendSeq; try dsimp only
  (repeat' split) <;> first | rfl | simp
@[simp] theorem State.sendSeq_ports (s : State) (gen : Nat) (b : LinkBody) : (s.sendSeq gen b).ports = s.ports := by
  unfold State.sendSeq; try dsimp only
  (repeat' split) <;> first | rfl | simp
@[simp] theorem State.sendSeq_hbAt (s : State) (gen : Nat) (b : LinkBody) : (s.sendSeq gen b).hbAt = s.hbAt := by
  unfold State.sendSeq; try dsimp only
  (repeat' split) <;> first | rfl | simp
@[simp] theorem State.sendSeq_img (s : State) (gen : Nat) (b : LinkBody) : (s.sendSeq gen b).img = s.img := by
  unfold State.sendSeq; try dsimp only
  (repeat' split) <;> first | rfl | simp
@[simp] theorem State.sendSeq_konst (s : State) (gen : Nat) (b : LinkBody) : (s.sendSeq gen b).konst = s.konst := by
  unfold State.sendSeq; try dsimp only
  (repeat' split) <;> first | rfl | simp
@[simp] theorem State.sendSeq_prog (s : State) (gen : Nat) (b : LinkBody) : (s.sendSeq gen b).prog = s.prog := by
  unfold State.sendSeq; try dsimp only
  (repeat' split) <;> first | rfl | simp
@[simp] theorem State.sendSeq_progBytes (s : State) (gen : Nat) (b : LinkBody) : (s.sendSeq gen b).progBytes = s.progBytes := by
  unfold State.sendSeq; try dsimp only
  (repeat' split) <;> first | rfl | simp
@[simp] theorem State.sendSeq_engs (s : State) (gen : Nat) (b : LinkBody) : (s.sendSeq gen b).engs = s.engs := by
  unfold State.sendSeq; try dsimp only
  (repeat' split) <;> first | rfl | simp
@[simp] theorem State.sendSeq_plm (s : State) (gen : Nat) (b : LinkBody) : (s.sendSeq gen b).plm = s.plm := by
  unfold State.sendSeq; try dsimp only
  (repeat' split) <;> first | rfl | simp
@[simp] theorem State.sendSeq_blk (s : State) (gen : Nat) (b : LinkBody) : (s.sendSeq gen b).blk = s.blk := by
  unfold State.sendSeq; try dsimp only
  (repeat' split) <;> first | rfl | simp
@[simp] theorem State.sendSeq_viols (s : State) (gen : Nat) (b : LinkBody) : (s.sendSeq gen b).viols = s.viols := by
  unfold State.sendSeq; try dsimp only
  (repeat' split) <;> first | rfl | simp
@[simp] theorem State.sendSeq_cmp (s : State) (gen : Nat) (b : LinkBody) : (s.sendSeq gen b).cmp = s.cmp := by
  unfold State.sendSeq; try dsimp only
  (repeat' split) <;> first | rfl | simp
@[simp] theorem State.sendSeq_mp (s : State) (gen : Nat) (b : LinkBody) : (s.sendSeq gen b).mp = s.mp := by
  unfold State.sendSeq; try dsimp only
  (repeat' split) <;> first | rfl | simp
@[simp] theorem State.sendSeq_grps (s : State) (gen : Nat) (b : LinkBody) : (s.sendSeq gen b).grps = s.grps := by
  unfold State.sendSeq; try dsimp only
  (repeat' split) <;> first | rfl | simp
@[simp] theorem State.sendSeq_chans (s : State) (gen : Nat) (b : LinkBody) : (s.sendSeq gen b).chans = s.chans := by
  unfold State.sendSeq; try dsimp only
  (repeat' split) <;> first | rfl | simp
@[simp] theorem State.sendSeq_cans (s : State) (gen : Nat) (b : LinkBody) : (s.sendSeq gen b).cans = s.cans := by
  unfold State.sendSeq; try dsimp only
  (repeat' split) <;> first | rfl | simp
@[simp] theorem State.sendSeq_ctls (s : State) (gen : Nat) (b : LinkBody) : (s.sendSeq gen b).ctls = s.ctls := by
  unfold State.sendSeq; try dsimp only
  (repeat' split) <;> first | rfl | simp
@[simp] theorem State.sendSeq_fis (s : State) (gen : Nat) (b : LinkBody) : (s.sendSeq gen b).fis = s.fis := by
  unfold State.sendSeq; try dsimp only
  (repeat' split) <;> first | rfl | simp
@[simp] theorem State.sendSeq_fos (s : State) (gen : Nat) (b : LinkBody) : (s.sendSeq gen b).fos = s.fos := by
  unfold State.sendSeq; try dsimp only
  (repeat' split) <;> first | rfl | simp
@[simp] theorem State.sendSeq_recd (s : State) (gen : Nat) (b : LinkBody) : (s.sendSeq gen b).recd = s.recd := by
  unfold State.sendSeq; try dsimp only
  (repeat' split) <;> first | rfl | simp
@[simp] theorem State.sendSeq_mram (s : State) (gen : Nat) (b : LinkBody) : (s.sendSeq gen b).mram = s.mram := by
  unfold State.sendSeq; try dsimp only
  (repeat' split) <;> first | rfl | simp
@[simp] theorem State.sendSeq_mem (s : State) (gen : Nat) (b : LinkBody) : (s.sendSeq gen b).mem = s.mem := by
  unfold State.sendSeq; try dsimp only
  (repeat' split) <;> first | rfl | simp
@[simp] theorem State.sendSeq_pwr (s : State) (gen : Nat) (b : LinkBody) : (s.sendSeq gen b).pwr = s.pwr := by
  unfold State.sendSeq; try dsimp only
  (repeat' split) <;> first | rfl | simp
@[simp] theorem State.sendSeq_upd (s : State) (gen : Nat) (b : LinkBody) : (s.sendSeq gen b).upd = s.upd := by
  unfold State.sendSeq; try dsimp only
  (repeat' split) <;> first | rfl | simp
@[simp] theorem State.sendSeq_free (s : State) (gen : Nat) (b : LinkBody) : (s.sendSeq gen b).free = s.free := by
  unfold State.sendSeq; try dsimp only
  (repeat' split) <;> first | rfl | simp
@[simp] theorem State.sendSeq_pending (s : State) (gen : Nat) (b : LinkBody) : (s.sendSeq gen b).pending = s.pending := by
  unfold State.sendSeq; try dsimp only
  (repeat' split) <;> first | rfl | simp

@[simp] theorem State.sendRecs_order (s : State) (g : Nat) (rs : List DeltaRec) : (s.sendRecs g rs).order = s.order :=
  foldl_leaves (·.order) _ _ s (fun t p => by split <;> simp)
@[simp] theorem State.sendRecs_sclk (s : State) (g : Nat) (rs : List DeltaRec) : (s.sendRecs g rs).sclk = s.sclk :=
  foldl_leaves (·.sclk) _ _ s (fun t p => by split <;> simp)
@[simp] theorem State.sendRecs_clk (s : State) (g : Nat) (rs : List DeltaRec) : (s.sendRecs g rs).clk = s.clk :=
  foldl_leaves (·.clk) _ _ s (fun t p => by split <;> simp)
@[simp] theorem State.sendRecs_ptp (s : State) (g : Nat) (rs : List DeltaRec) : (s.sendRecs g rs).ptp = s.ptp :=
  foldl_leaves (·.ptp) _ _ s (fun t p => by split <;> simp)
@[simp] theorem State.sendRecs_bkp (s : State) (g : Nat) (rs : List DeltaRec) : (s.sendRecs g rs).bkp = s.bkp :=
  foldl_leaves (·.bkp) _ _ s (fun t p => by split <;> simp)
@[simp] theorem State.sendRecs_rlat (s : State) (g : Nat) (rs : List DeltaRec) : (s.sendRecs g rs).rlat = s.rlat :=
  foldl_leaves (·.rlat) _ _ s (fun t p => by split <;> simp)
@[simp] theorem State.sendRecs_wlat (s : State) (g : Nat) (rs : List DeltaRec) : (s.sendRecs g rs).wlat = s.wlat :=
  foldl_leaves (·.wlat) _ _ s (fun t p => by split <;> simp)
@[simp] theorem State.sendRecs_cfgA (s : State) (g : Nat) (rs : List DeltaRec) : (s.sendRecs g rs).cfgA = s.cfgA :=
  foldl_leaves (·.cfgA) _ _ s (fun t p => by split <;> simp)
@[simp] theorem State.sendRecs_cfgS (s : State) (g : Nat) (rs : List DeltaRec) : (s.sendRecs g rs).cfgS = s.cfgS :=
  foldl_leaves (·.cfgS) _ _ s (fun t p => by split <;> simp)
@[simp] theorem State.sendRecs_tsq (s : State) (g : Nat) (rs : List DeltaRec) : (s.sendRecs g rs).tsq = s.tsq :=
  foldl_leaves (·.tsq) _ _ s (fun t p => by split <;> simp)
@[simp] theorem State.sendRecs_servo (s : State) (g : Nat) (rs : List DeltaRec) : (s.sendRecs g rs).servo = s.servo :=
  foldl_leaves (·.servo) _ _ s (fun t p => by split <;> simp)
@[simp] theorem State.sendRecs_ptpPorts (s : State) (g : Nat) (rs : List DeltaRec) : (s.sendRecs g rs).ptpPorts = s.ptpPorts :=
  foldl_leaves (·.ptpPorts) _ _ s (fun t p => by split <;> simp)
@[simp] theorem State.sendRecs_dats (s : State) (g : Nat) (rs : List DeltaRec) : (s.sendRecs g rs).dats = s.dats :=
  foldl_leaves (·.dats) _ _ s (fun t p => by split <;> simp)
@[simp] theorem State.sendRecs_stk (s : State) (g : Nat) (rs : List DeltaRec) : (s.sendRecs g rs).stk = s.stk :=
  foldl_leaves (·.stk) _ _ s (fun t p => by split <;> simp)
@[simp] theorem State.sendRecs_ports (s : State) (g : Nat) (rs : List DeltaRec) : (s.sendRecs g rs).ports = s.ports :=
  foldl_leaves (·.ports) _ _ s (fun t p => by split <;> simp)
@[simp] theorem State.sendRecs_hbAt (s : State) (g : Nat) (rs : List DeltaRec) : (s.sendRecs g rs).hbAt = s.hbAt :=
  foldl_leaves (·.hbAt) _ _ s (fun t p => by split <;> simp)
@[simp] theorem State.sendRecs_img (s : State) (g : Nat) (rs : List DeltaRec) : (s.sendRecs g rs).img = s.img :=
  foldl_leaves (·.img) _ _ s (fun t p => by split <;> simp)
@[simp] theorem State.sendRecs_konst (s : State) (g : Nat) (rs : List DeltaRec) : (s.sendRecs g rs).konst = s.konst :=
  foldl_leaves (·.konst) _ _ s (fun t p => by split <;> simp)
@[simp] theorem State.sendRecs_prog (s : State) (g : Nat) (rs : List DeltaRec) : (s.sendRecs g rs).prog = s.prog :=
  foldl_leaves (·.prog) _ _ s (fun t p => by split <;> simp)
@[simp] theorem State.sendRecs_progBytes (s : State) (g : Nat) (rs : List DeltaRec) : (s.sendRecs g rs).progBytes = s.progBytes :=
  foldl_leaves (·.progBytes) _ _ s (fun t p => by split <;> simp)
@[simp] theorem State.sendRecs_engs (s : State) (g : Nat) (rs : List DeltaRec) : (s.sendRecs g rs).engs = s.engs :=
  foldl_leaves (·.engs) _ _ s (fun t p => by split <;> simp)
@[simp] theorem State.sendRecs_plm (s : State) (g : Nat) (rs : List DeltaRec) : (s.sendRecs g rs).plm = s.plm :=
  foldl_leaves (·.plm) _ _ s (fun t p => by split <;> simp)
@[simp] theorem State.sendRecs_blk (s : State) (g : Nat) (rs : List DeltaRec) : (s.sendRecs g rs).blk = s.blk :=
  foldl_leaves (·.blk) _ _ s (fun t p => by split <;> simp)
@[simp] theorem State.sendRecs_viols (s : State) (g : Nat) (rs : List DeltaRec) : (s.sendRecs g rs).viols = s.viols :=
  foldl_leaves (·.viols) _ _ s (fun t p => by split <;> simp)
@[simp] theorem State.sendRecs_cmp (s : State) (g : Nat) (rs : List DeltaRec) : (s.sendRecs g rs).cmp = s.cmp :=
  foldl_leaves (·.cmp) _ _ s (fun t p => by split <;> simp)
@[simp] theorem State.sendRecs_mp (s : State) (g : Nat) (rs : List DeltaRec) : (s.sendRecs g rs).mp = s.mp :=
  foldl_leaves (·.mp) _ _ s (fun t p => by split <;> simp)
@[simp] theorem State.sendRecs_grps (s : State) (g : Nat) (rs : List DeltaRec) : (s.sendRecs g rs).grps = s.grps :=
  foldl_leaves (·.grps) _ _ s (fun t p => by split <;> simp)
@[simp] theorem State.sendRecs_chans (s : State) (g : Nat) (rs : List DeltaRec) : (s.sendRecs g rs).chans = s.chans :=
  foldl_leaves (·.chans) _ _ s (fun t p => by split <;> simp)
@[simp] theorem State.sendRecs_cans (s : State) (g : Nat) (rs : List DeltaRec) : (s.sendRecs g rs).cans = s.cans :=
  foldl_leaves (·.cans) _ _ s (fun t p => by split <;> simp)
@[simp] theorem State.sendRecs_ctls (s : State) (g : Nat) (rs : List DeltaRec) : (s.sendRecs g rs).ctls = s.ctls :=
  foldl_leaves (·.ctls) _ _ s (fun t p => by split <;> simp)
@[simp] theorem State.sendRecs_fis (s : State) (g : Nat) (rs : List DeltaRec) : (s.sendRecs g rs).fis = s.fis :=
  foldl_leaves (·.fis) _ _ s (fun t p => by split <;> simp)
@[simp] theorem State.sendRecs_fos (s : State) (g : Nat) (rs : List DeltaRec) : (s.sendRecs g rs).fos = s.fos :=
  foldl_leaves (·.fos) _ _ s (fun t p => by split <;> simp)
@[simp] theorem State.sendRecs_recd (s : State) (g : Nat) (rs : List DeltaRec) : (s.sendRecs g rs).recd = s.recd :=
  foldl_leaves (·.recd) _ _ s (fun t p => by split <;> simp)
@[simp] theorem State.sendRecs_mram (s : State) (g : Nat) (rs : List DeltaRec) : (s.sendRecs g rs).mram = s.mram :=
  foldl_leaves (·.mram) _ _ s (fun t p => by split <;> simp)
@[simp] theorem State.sendRecs_mem (s : State) (g : Nat) (rs : List DeltaRec) : (s.sendRecs g rs).mem = s.mem :=
  foldl_leaves (·.mem) _ _ s (fun t p => by split <;> simp)
@[simp] theorem State.sendRecs_pwr (s : State) (g : Nat) (rs : List DeltaRec) : (s.sendRecs g rs).pwr = s.pwr :=
  foldl_leaves (·.pwr) _ _ s (fun t p => by split <;> simp)
@[simp] theorem State.sendRecs_upd (s : State) (g : Nat) (rs : List DeltaRec) : (s.sendRecs g rs).upd = s.upd :=
  foldl_leaves (·.upd) _ _ s (fun t p => by split <;> simp)
@[simp] theorem State.sendRecs_free (s : State) (g : Nat) (rs : List DeltaRec) : (s.sendRecs g rs).free = s.free :=
  foldl_leaves (·.free) _ _ s (fun t p => by split <;> simp)
@[simp] theorem State.sendRecs_pending (s : State) (g : Nat) (rs : List DeltaRec) : (s.sendRecs g rs).pending = s.pending :=
  foldl_leaves (·.pending) _ _ s (fun t p => by split <;> simp)

@[simp] theorem State.record_order (s : State) (g : Nat) (rs : List DeltaRec) : (s.record g rs).order = s.order := by
  unfold State.record; try dsimp only
  (repeat' split) <;> first | rfl | simp
@[simp] theorem State.record_sclk (s : State) (g : Nat) (rs : List DeltaRec) : (s.record g rs).sclk = s.sclk := by
  unfold State.record; try dsimp only
  (repeat' split) <;> first | rfl | simp
@[simp] theorem State.record_clk (s : State) (g : Nat) (rs : List DeltaRec) : (s.record g rs).clk = s.clk := by
  unfold State.record; try dsimp only
  (repeat' split) <;> first | rfl | simp
@[simp] theorem State.record_ptp (s : State) (g : Nat) (rs : List DeltaRec) : (s.record g rs).ptp = s.ptp := by
  unfold State.record; try dsimp only
  (repeat' split) <;> first | rfl | simp
@[simp] theorem State.record_bkp (s : State) (g : Nat) (rs : List DeltaRec) : (s.record g rs).bkp = s.bkp := by
  unfold State.record; try dsimp only
  (repeat' split) <;> first | rfl | simp
@[simp] theorem State.record_rlat (s : State) (g : Nat) (rs : List DeltaRec) : (s.record g rs).rlat = s.rlat := by
  unfold State.record; try dsimp only
  (repeat' split) <;> first | rfl | simp
@[simp] theorem State.record_wlat (s : State) (g : Nat) (rs : List DeltaRec) : (s.record g rs).wlat = s.wlat := by
  unfold State.record; try dsimp only
  (repeat' split) <;> first | rfl | simp
@[simp] theorem State.record_cfgA (s : State) (g : Nat) (rs : List DeltaRec) : (s.record g rs).cfgA = s.cfgA := by
  unfold State.record; try dsimp only
  (repeat' split) <;> first | rfl | simp
@[simp] theorem State.record_cfgS (s : State) (g : Nat) (rs : List DeltaRec) : (s.record g rs).cfgS = s.cfgS := by
  unfold State.record; try dsimp only
  (repeat' split) <;> first | rfl | simp
@[simp] theorem State.record_tsq (s : State) (g : Nat) (rs : List DeltaRec) : (s.record g rs).tsq = s.tsq := by
  unfold State.record; try dsimp only
  (repeat' split) <;> first | rfl | simp
@[simp] theorem State.record_servo (s : State) (g : Nat) (rs : List DeltaRec) : (s.record g rs).servo = s.servo := by
  unfold State.record; try dsimp only
  (repeat' split) <;> first | rfl | simp
@[simp] theorem State.record_ptpPorts (s : State) (g : Nat) (rs : List DeltaRec) : (s.record g rs).ptpPorts = s.ptpPorts := by
  unfold State.record; try dsimp only
  (repeat' split) <;> first | rfl | simp
@[simp] theorem State.record_dats (s : State) (g : Nat) (rs : List DeltaRec) : (s.record g rs).dats = s.dats := by
  unfold State.record; try dsimp only
  (repeat' split) <;> first | rfl | simp
@[simp] theorem State.record_stk (s : State) (g : Nat) (rs : List DeltaRec) : (s.record g rs).stk = s.stk := by
  unfold State.record; try dsimp only
  (repeat' split) <;> first | rfl | simp
@[simp] theorem State.record_ports (s : State) (g : Nat) (rs : List DeltaRec) : (s.record g rs).ports = s.ports := by
  unfold State.record; try dsimp only
  (repeat' split) <;> first | rfl | simp
@[simp] theorem State.record_hbAt (s : State) (g : Nat) (rs : List DeltaRec) : (s.record g rs).hbAt = s.hbAt := by
  unfold State.record; try dsimp only
  (repeat' split) <;> first | rfl | simp
@[simp] theorem State.record_img (s : State) (g : Nat) (rs : List DeltaRec) : (s.record g rs).img = s.img := by
  unfold State.record; try dsimp only
  (repeat' split) <;> first | rfl | simp
@[simp] theorem State.record_konst (s : State) (g : Nat) (rs : List DeltaRec) : (s.record g rs).konst = s.konst := by
  unfold State.record; try dsimp only
  (repeat' split) <;> first | rfl | simp
@[simp] theorem State.record_prog (s : State) (g : Nat) (rs : List DeltaRec) : (s.record g rs).prog = s.prog := by
  unfold State.record; try dsimp only
  (repeat' split) <;> first | rfl | simp
@[simp] theorem State.record_progBytes (s : State) (g : Nat) (rs : List DeltaRec) : (s.record g rs).progBytes = s.progBytes := by
  unfold State.record; try dsimp only
  (repeat' split) <;> first | rfl | simp
@[simp] theorem State.record_engs (s : State) (g : Nat) (rs : List DeltaRec) : (s.record g rs).engs = s.engs := by
  unfold State.record; try dsimp only
  (repeat' split) <;> first | rfl | simp
@[simp] theorem State.record_plm (s : State) (g : Nat) (rs : List DeltaRec) : (s.record g rs).plm = s.plm := by
  unfold State.record; try dsimp only
  (repeat' split) <;> first | rfl | simp
@[simp] theorem State.record_blk (s : State) (g : Nat) (rs : List DeltaRec) : (s.record g rs).blk = s.blk := by
  unfold State.record; try dsimp only
  (repeat' split) <;> first | rfl | simp
@[simp] theorem State.record_viols (s : State) (g : Nat) (rs : List DeltaRec) : (s.record g rs).viols = s.viols := by
  unfold State.record; try dsimp only
  (repeat' split) <;> first | rfl | simp
@[simp] theorem State.record_cmp (s : State) (g : Nat) (rs : List DeltaRec) : (s.record g rs).cmp = s.cmp := by
  unfold State.record; try dsimp only
  (repeat' split) <;> first | rfl | simp
@[simp] theorem State.record_mp (s : State) (g : Nat) (rs : List DeltaRec) : (s.record g rs).mp = s.mp := by
  unfold State.record; try dsimp only
  (repeat' split) <;> first | rfl | simp
@[simp] theorem State.record_grps (s : State) (g : Nat) (rs : List DeltaRec) : (s.record g rs).grps = s.grps := by
  unfold State.record; try dsimp only
  (repeat' split) <;> first | rfl | simp
@[simp] theorem State.record_chans (s : State) (g : Nat) (rs : List DeltaRec) : (s.record g rs).chans = s.chans := by
  unfold State.record; try dsimp only
  (repeat' split) <;> first | rfl | simp
@[simp] theorem State.record_cans (s : State) (g : Nat) (rs : List DeltaRec) : (s.record g rs).cans = s.cans := by
  unfold State.record; try dsimp only
  (repeat' split) <;> first | rfl | simp
@[simp] theorem State.record_ctls (s : State) (g : Nat) (rs : List DeltaRec) : (s.record g rs).ctls = s.ctls := by
  unfold State.record; try dsimp only
  (repeat' split) <;> first | rfl | simp
@[simp] theorem State.record_fis (s : State) (g : Nat) (rs : List DeltaRec) : (s.record g rs).fis = s.fis := by
  unfold State.record; try dsimp only
  (repeat' split) <;> first | rfl | simp
@[simp] theorem State.record_fos (s : State) (g : Nat) (rs : List DeltaRec) : (s.record g rs).fos = s.fos := by
  unfold State.record; try dsimp only
  (repeat' split) <;> first | rfl | simp
@[simp] theorem State.record_recd (s : State) (g : Nat) (rs : List DeltaRec) : (s.record g rs).recd = s.recd := by
  unfold State.record; try dsimp only
  (repeat' split) <;> first | rfl | simp
@[simp] theorem State.record_mram (s : State) (g : Nat) (rs : List DeltaRec) : (s.record g rs).mram = s.mram := by
  unfold State.record; try dsimp only
  (repeat' split) <;> first | rfl | simp
@[simp] theorem State.record_mem (s : State) (g : Nat) (rs : List DeltaRec) : (s.record g rs).mem = s.mem := by
  unfold State.record; try dsimp only
  (repeat' split) <;> first | rfl | simp
@[simp] theorem State.record_pwr (s : State) (g : Nat) (rs : List DeltaRec) : (s.record g rs).pwr = s.pwr := by
  unfold State.record; try dsimp only
  (repeat' split) <;> first | rfl | simp
@[simp] theorem State.record_upd (s : State) (g : Nat) (rs : List DeltaRec) : (s.record g rs).upd = s.upd := by
  unfold State.record; try dsimp only
  (repeat' split) <;> first | rfl | simp
@[simp] theorem State.record_free (s : State) (g : Nat) (rs : List DeltaRec) : (s.record g rs).free = s.free := by
  unfold State.record; try dsimp only
  (repeat' split) <;> first | rfl | simp
@[simp] theorem State.record_pending (s : State) (g : Nat) (rs : List DeltaRec) : (s.record g rs).pending = s.pending := by
  unfold State.record; try dsimp only
  (repeat' split) <;> first | rfl | simp

@[simp] theorem State.touchInput_order (s : State) (space word : Nat) : (s.touchInput space word).order = s.order := by unfold State.touchInput; split <;> rfl
@[simp] theorem State.touchInput_sclk (s : State) (space word : Nat) : (s.touchInput space word).sclk = s.sclk := by unfold State.touchInput; split <;> rfl
@[simp] theorem State.touchInput_clk (s : State) (space word : Nat) : (s.touchInput space word).clk = s.clk := by unfold State.touchInput; split <;> rfl
@[simp] theorem State.touchInput_ptp (s : State) (space word : Nat) : (s.touchInput space word).ptp = s.ptp := by unfold State.touchInput; split <;> rfl
@[simp] theorem State.touchInput_bkp (s : State) (space word : Nat) : (s.touchInput space word).bkp = s.bkp := by unfold State.touchInput; split <;> rfl
@[simp] theorem State.touchInput_regs (s : State) (space word : Nat) : (s.touchInput space word).regs = s.regs := by unfold State.touchInput; split <;> rfl
@[simp] theorem State.touchInput_flips (s : State) (space word : Nat) : (s.touchInput space word).flips = s.flips := by unfold State.touchInput; split <;> rfl
@[simp] theorem State.touchInput_rlat (s : State) (space word : Nat) : (s.touchInput space word).rlat = s.rlat := by unfold State.touchInput; split <;> rfl
@[simp] theorem State.touchInput_wlat (s : State) (space word : Nat) : (s.touchInput space word).wlat = s.wlat := by unfold State.touchInput; split <;> rfl
@[simp] theorem State.touchInput_cfgA (s : State) (space word : Nat) : (s.touchInput space word).cfgA = s.cfgA := by unfold State.touchInput; split <;> rfl
@[simp] theorem State.touchInput_cfgS (s : State) (space word : Nat) : (s.touchInput space word).cfgS = s.cfgS := by unfold State.touchInput; split <;> rfl
@[simp] theorem State.touchInput_tsq (s : State) (space word : Nat) : (s.touchInput space word).tsq = s.tsq := by unfold State.touchInput; split <;> rfl
@[simp] theorem State.touchInput_servo (s : State) (space word : Nat) : (s.touchInput space word).servo = s.servo := by unfold State.touchInput; split <;> rfl
@[simp] theorem State.touchInput_ptpPorts (s : State) (space word : Nat) : (s.touchInput space word).ptpPorts = s.ptpPorts := by unfold State.touchInput; split <;> rfl
@[simp] theorem State.touchInput_dats (s : State) (space word : Nat) : (s.touchInput space word).dats = s.dats := by unfold State.touchInput; split <;> rfl
@[simp] theorem State.touchInput_stk (s : State) (space word : Nat) : (s.touchInput space word).stk = s.stk := by unfold State.touchInput; split <;> rfl
@[simp] theorem State.touchInput_ports (s : State) (space word : Nat) : (s.touchInput space word).ports = s.ports := by unfold State.touchInput; split <;> rfl
@[simp] theorem State.touchInput_hbAt (s : State) (space word : Nat) : (s.touchInput space word).hbAt = s.hbAt := by unfold State.touchInput; split <;> rfl
@[simp] theorem State.touchInput_img (s : State) (space word : Nat) : (s.touchInput space word).img = s.img := by unfold State.touchInput; split <;> rfl
@[simp] theorem State.touchInput_konst (s : State) (space word : Nat) : (s.touchInput space word).konst = s.konst := by unfold State.touchInput; split <;> rfl
@[simp] theorem State.touchInput_prog (s : State) (space word : Nat) : (s.touchInput space word).prog = s.prog := by unfold State.touchInput; split <;> rfl
@[simp] theorem State.touchInput_progBytes (s : State) (space word : Nat) : (s.touchInput space word).progBytes = s.progBytes := by unfold State.touchInput; split <;> rfl
@[simp] theorem State.touchInput_engs (s : State) (space word : Nat) : (s.touchInput space word).engs = s.engs := by unfold State.touchInput; split <;> rfl
@[simp] theorem State.touchInput_plm (s : State) (space word : Nat) : (s.touchInput space word).plm = s.plm := by unfold State.touchInput; split <;> rfl
@[simp] theorem State.touchInput_blk (s : State) (space word : Nat) : (s.touchInput space word).blk = s.blk := by unfold State.touchInput; split <;> rfl
@[simp] theorem State.touchInput_viols (s : State) (space word : Nat) : (s.touchInput space word).viols = s.viols := by unfold State.touchInput; split <;> rfl
@[simp] theorem State.touchInput_cmp (s : State) (space word : Nat) : (s.touchInput space word).cmp = s.cmp := by unfold State.touchInput; split <;> rfl
@[simp] theorem State.touchInput_mp (s : State) (space word : Nat) : (s.touchInput space word).mp = s.mp := by unfold State.touchInput; split <;> rfl
@[simp] theorem State.touchInput_grps (s : State) (space word : Nat) : (s.touchInput space word).grps = s.grps := by unfold State.touchInput; split <;> rfl
@[simp] theorem State.touchInput_chans (s : State) (space word : Nat) : (s.touchInput space word).chans = s.chans := by unfold State.touchInput; split <;> rfl
@[simp] theorem State.touchInput_cans (s : State) (space word : Nat) : (s.touchInput space word).cans = s.cans := by unfold State.touchInput; split <;> rfl
@[simp] theorem State.touchInput_ctls (s : State) (space word : Nat) : (s.touchInput space word).ctls = s.ctls := by unfold State.touchInput; split <;> rfl
@[simp] theorem State.touchInput_fis (s : State) (space word : Nat) : (s.touchInput space word).fis = s.fis := by unfold State.touchInput; split <;> rfl
@[simp] theorem State.touchInput_fos (s : State) (space word : Nat) : (s.touchInput space word).fos = s.fos := by unfold State.touchInput; split <;> rfl
@[simp] theorem State.touchInput_recd (s : State) (space word : Nat) : (s.touchInput space word).recd = s.recd := by unfold State.touchInput; split <;> rfl
@[simp] theorem State.touchInput_mram (s : State) (space word : Nat) : (s.touchInput space word).mram = s.mram := by unfold State.touchInput; split <;> rfl
@[simp] theorem State.touchInput_mem (s : State) (space word : Nat) : (s.touchInput space word).mem = s.mem := by unfold State.touchInput; split <;> rfl
@[simp] theorem State.touchInput_pwr (s : State) (space word : Nat) : (s.touchInput space word).pwr = s.pwr := by unfold State.touchInput; split <;> rfl
@[simp] theorem State.touchInput_upd (s : State) (space word : Nat) : (s.touchInput space word).upd = s.upd := by unfold State.touchInput; split <;> rfl
@[simp] theorem State.touchInput_out (s : State) (space word : Nat) : (s.touchInput space word).out = s.out := by unfold State.touchInput; split <;> rfl
@[simp] theorem State.touchInput_free (s : State) (space word : Nat) : (s.touchInput space word).free = s.free := by unfold State.touchInput; split <;> rfl
@[simp] theorem State.touchInput_pending (s : State) (space word : Nat) : (s.touchInput space word).pending = s.pending := by unfold State.touchInput; split <;> rfl

@[simp] theorem State.canCapture_order (s : State) (n : Nat) : (s.canCapture n).order = s.order := rfl
@[simp] theorem State.canCapture_sclk (s : State) (n : Nat) : (s.canCapture n).sclk = s.sclk := rfl
@[simp] theorem State.canCapture_clk (s : State) (n : Nat) : (s.canCapture n).clk = s.clk := rfl
@[simp] theorem State.canCapture_ptp (s : State) (n : Nat) : (s.canCapture n).ptp = s.ptp := rfl
@[simp] theorem State.canCapture_bkp (s : State) (n : Nat) : (s.canCapture n).bkp = s.bkp := rfl
@[simp] theorem State.canCapture_rlat (s : State) (n : Nat) : (s.canCapture n).rlat = s.rlat := rfl
@[simp] theorem State.canCapture_wlat (s : State) (n : Nat) : (s.canCapture n).wlat = s.wlat := rfl
@[simp] theorem State.canCapture_cfgA (s : State) (n : Nat) : (s.canCapture n).cfgA = s.cfgA := rfl
@[simp] theorem State.canCapture_cfgS (s : State) (n : Nat) : (s.canCapture n).cfgS = s.cfgS := rfl
@[simp] theorem State.canCapture_tsq (s : State) (n : Nat) : (s.canCapture n).tsq = s.tsq := rfl
@[simp] theorem State.canCapture_servo (s : State) (n : Nat) : (s.canCapture n).servo = s.servo := rfl
@[simp] theorem State.canCapture_ptpPorts (s : State) (n : Nat) : (s.canCapture n).ptpPorts = s.ptpPorts := rfl
@[simp] theorem State.canCapture_dats (s : State) (n : Nat) : (s.canCapture n).dats = s.dats := rfl
@[simp] theorem State.canCapture_stk (s : State) (n : Nat) : (s.canCapture n).stk = s.stk := rfl
@[simp] theorem State.canCapture_ports (s : State) (n : Nat) : (s.canCapture n).ports = s.ports := rfl
@[simp] theorem State.canCapture_hbAt (s : State) (n : Nat) : (s.canCapture n).hbAt = s.hbAt := rfl
@[simp] theorem State.canCapture_img (s : State) (n : Nat) : (s.canCapture n).img = s.img := rfl
@[simp] theorem State.canCapture_konst (s : State) (n : Nat) : (s.canCapture n).konst = s.konst := rfl
@[simp] theorem State.canCapture_prog (s : State) (n : Nat) : (s.canCapture n).prog = s.prog := rfl
@[simp] theorem State.canCapture_progBytes (s : State) (n : Nat) : (s.canCapture n).progBytes = s.progBytes := rfl
@[simp] theorem State.canCapture_engs (s : State) (n : Nat) : (s.canCapture n).engs = s.engs := rfl
@[simp] theorem State.canCapture_plm (s : State) (n : Nat) : (s.canCapture n).plm = s.plm := rfl
@[simp] theorem State.canCapture_blk (s : State) (n : Nat) : (s.canCapture n).blk = s.blk := rfl
@[simp] theorem State.canCapture_viols (s : State) (n : Nat) : (s.canCapture n).viols = s.viols := rfl
@[simp] theorem State.canCapture_cmp (s : State) (n : Nat) : (s.canCapture n).cmp = s.cmp := rfl
@[simp] theorem State.canCapture_pair (s : State) (n : Nat) : (s.canCapture n).pair = s.pair := rfl
@[simp] theorem State.canCapture_mp (s : State) (n : Nat) : (s.canCapture n).mp = s.mp := rfl
@[simp] theorem State.canCapture_grps (s : State) (n : Nat) : (s.canCapture n).grps = s.grps := rfl
@[simp] theorem State.canCapture_chans (s : State) (n : Nat) : (s.canCapture n).chans = s.chans := rfl
@[simp] theorem State.canCapture_cans (s : State) (n : Nat) : (s.canCapture n).cans = s.cans := rfl
@[simp] theorem State.canCapture_ctls (s : State) (n : Nat) : (s.canCapture n).ctls = s.ctls := rfl
@[simp] theorem State.canCapture_fis (s : State) (n : Nat) : (s.canCapture n).fis = s.fis := rfl
@[simp] theorem State.canCapture_fos (s : State) (n : Nat) : (s.canCapture n).fos = s.fos := rfl
@[simp] theorem State.canCapture_recd (s : State) (n : Nat) : (s.canCapture n).recd = s.recd := rfl
@[simp] theorem State.canCapture_mram (s : State) (n : Nat) : (s.canCapture n).mram = s.mram := rfl
@[simp] theorem State.canCapture_mem (s : State) (n : Nat) : (s.canCapture n).mem = s.mem := rfl
@[simp] theorem State.canCapture_pwr (s : State) (n : Nat) : (s.canCapture n).pwr = s.pwr := rfl
@[simp] theorem State.canCapture_upd (s : State) (n : Nat) : (s.canCapture n).upd = s.upd := rfl
@[simp] theorem State.canCapture_out (s : State) (n : Nat) : (s.canCapture n).out = s.out := rfl
@[simp] theorem State.canCapture_free (s : State) (n : Nat) : (s.canCapture n).free = s.free := rfl
@[simp] theorem State.canCapture_pending (s : State) (n : Nat) : (s.canCapture n).pending = s.pending := rfl

end Sys2Proof.Machine
end

