-- ==== Sys2Proof/Laws/Memory.lean ====
section
/-!
SUPPORT. The memories: which addresses they have, a read after a write, the canonical form under every operation that
stores a byte, and which operations store none.
-/
namespace Sys2Proof.Machine

/-! ### Addresses -/

/-- With no upset listed, every access is free of errors. -/
theorem State.eccAt_none {s : State} (h1 : s.mem.sramEcc = []) (h2 : s.mem.lpdEcc = []) (a : Nat) : s.eccAt a = 0 := by
  unfold State.eccAt; split
  · rw [h1]; rfl
  · rw [h2]; rfl

theorem inSram_iff {a : Nat} : inSram a = true ↔ sramBase ≤ a ∧ a < sramEnd := by simp [inSram]
theorem inLpd_iff {a : Nat} : inLpd a = true ↔ lpdBase ≤ a ∧ a < lpdEnd := by simp [inLpd]
theorem inSram_low {a : Nat} (h : a < sramBase) : inSram a = false := by
  rw [Bool.eq_false_iff, ne_eq, inSram_iff]; omega
theorem inLpd_low {a : Nat} (h : a < sramBase) : inLpd a = false := by
  rw [Bool.eq_false_iff, ne_eq, inLpd_iff]; unfold lpdBase; unfold sramBase at h; omega
theorem inLpd_of_inSram {a : Nat} (h : inSram a = true) : inLpd a = false := by
  rw [inSram_iff] at h
  rw [Bool.eq_false_iff, ne_eq, inLpd_iff]; unfold lpdBase; have := h.2; unfold sramEnd at this; omega

/-! ### A byte read, and a byte stored -/

/-- The byte of a memory at an address. -/
theorem byteAt_eq (s : State) (a : Nat) :
    s.byteAt a = if inSram a then sget 0 s.mem.sram (a - sramBase) else if inLpd a then sget 0 s.mem.lpd (a - lpdBase) else 0 := rfl

/-- States with the same bytes in both memories read the same. -/
theorem byteAt_congr {s t : State} (h1 : t.mem.sram = s.mem.sram) (h2 : t.mem.lpd = s.mem.lpd) (a : Nat) :
    t.byteAt a = s.byteAt a := by rw [byteAt_eq, byteAt_eq, h1, h2]

/-- A read after a write: the byte stored at its address, every other byte as before. -/
theorem byteAt_setByte (s : State) (x : Memory) (a c : Nat) (b : Byte) :
    ({ s with mem := x.setByte a b } : State).byteAt c =
      if c = a ∧ (inSram a || inLpd a) = true then b else ({ s with mem := x } : State).byteAt c := by
  rw [byteAt_eq, byteAt_eq]
  unfold Memory.setByte
  by_cases ha : inSram a = true
  · by_cases hc : inSram c = true
    · have h1 := inSram_iff.1 ha
      have h2 := inSram_iff.1 hc
      simp only [ha, hc, if_true, sget_sput, Bool.true_or, and_true]
      have : (c - sramBase = a - sramBase) = (c = a) := by rw [eq_iff_iff]; omega
      simp only [this]
    · have : c ≠ a := by rintro rfl; exact hc ha
      simp [ha, hc, this]
  · by_cases hl : inLpd a = true
    · by_cases hc : inSram c = true
      · have : c ≠ a := by rintro rfl; exact ha hc
        simp [ha, hl, hc, this]
      · by_cases hd : inLpd c = true
        · have h1 := inLpd_iff.1 hl
          have h2 := inLpd_iff.1 hd
          simp only [ha, hl, hc, hd, Bool.false_eq_true, if_false, if_true, sget_sput, Bool.or_true, and_true]
          have : (c - lpdBase = a - lpdBase) = (c = a) := by rw [eq_iff_iff]; omega
          simp only [this]
        · have : c ≠ a := by rintro rfl; exact hd hl
          simp [ha, hl, hc, hd, this]
    · simp [ha, hl]

/-- A read after bytes are laid from `a` on. -/
theorem byteAt_setBytes (s : State) (x : Memory) (a c : Nat) (bs : List Byte) :
    ({ s with mem := x.setBytes a bs } : State).byteAt c =
      if a ≤ c ∧ c < a + bs.length ∧ (inSram c || inLpd c) = true then bs.getD (c - a) 0
      else ({ s with mem := x } : State).byteAt c := by
  induction bs generalizing x a with
  | nil => simp [Memory.setBytes]; omega
  | cons b r ih =>
    rw [Memory.setBytes, ih, byteAt_setByte, List.length_cons]
    by_cases h : c = a
    · subst h
      by_cases hi : (inSram c || inLpd c) = true
      · simp [hi] <;> intro h <;> omega
      · simp only [hi, and_false, if_false, Bool.false_eq_true]
    · by_cases h1 : a + 1 ≤ c ∧ c < a + 1 + r.length ∧ (inSram c || inLpd c) = true
      · rw [if_pos h1, if_pos ⟨by omega, by omega, h1.2.2⟩]
        have : c - a = (c - (a + 1)) + 1 := by omega
        rw [this, List.getD_cons_succ]
      · rw [if_neg h1, if_neg (fun h2 => h h2.1), if_neg]
        exact fun h2 => h1 ⟨by omega, by omega, h2.2.2⟩

/-! ### The canonical form -/

/-- The canonical form speaks of the bytes alone. -/
theorem Memory.wf_congr {x y : Memory} (h1 : y.sram = x.sram) (h2 : y.lpd = x.lpd) : y.wf = x.wf := by
  unfold Memory.wf; rw [h1, h2]

theorem all_sput {d x : Byte} {m : Sparse Byte} {n a : Nat} (ha : a < n) (h : m.all (fun p => p.1 < n) = true) :
    (sput d m a x).all (fun p => p.1 < n) = true := by
  rw [List.all_eq_true] at h ⊢
  intro e he
  rcases mem_sput he with ⟨rfl, _⟩ | he
  · simpa using ha
  · exact h e he

/-- Memory at reset is in canonical form. -/
theorem Memory.wf_reset : State.reset.mem.wf = true := by decide

/-- A byte stored keeps the canonical form. -/
theorem Memory.wf_setByte {x : Memory} (h : x.wf = true) (a : Nat) (b : Byte) : (x.setByte a b).wf = true := by
  simp only [Memory.wf, Bool.and_eq_true] at h ⊢
  obtain ⟨⟨⟨h1, h2⟩, h3⟩, h4⟩ := h
  unfold Memory.setByte
  split
  · rename_i ha
    have ha := inSram_iff.1 ha
    exact ⟨⟨⟨swf_sput _ _ h1 _ _, h2⟩, all_sput (by omega) h3⟩, h4⟩
  · split
    · rename_i ha
      have ha := inLpd_iff.1 ha
      exact ⟨⟨⟨h1, swf_sput _ _ h2 _ _⟩, h3⟩, all_sput (by omega) h4⟩
    · exact ⟨⟨⟨h1, h2⟩, h3⟩, h4⟩

/-- Bytes stored keep the canonical form. -/
theorem Memory.wf_setBytes {x : Memory} (h : x.wf = true) (a : Nat) (bs : List Byte) : (x.setBytes a bs).wf = true := by
  induction bs generalizing x a with
  | nil => exact h
  | cons b r ih => exact ih (Memory.wf_setByte h a b) (a + 1)

/-- A bank emptied keeps the canonical form. -/
theorem Memory.wf_filter {x : Memory} (h : x.wf = true) (p : Nat × Byte → Bool) : ({ x with sram := x.sram.filter p } : Memory).wf = true := by
  simp only [Memory.wf, Bool.and_eq_true] at h ⊢
  obtain ⟨⟨⟨h1, h2⟩, h3⟩, h4⟩ := h
  refine ⟨⟨⟨swf_filter _ _ _ h1, h2⟩, ?_⟩, h4⟩
  rw [List.all_eq_true] at h3 ⊢
  exact fun e he => h3 e (List.mem_filter.1 he).1

/-! ### Operations that store no byte -/

theorem State.setEcc_sram (s : State) (a v : Nat) : (s.setEcc a v).mem.sram = s.mem.sram := by
  unfold State.setEcc; dsimp only; split <;> rfl
theorem State.setEcc_lpd (s : State) (a v : Nat) : (s.setEcc a v).mem.lpd = s.mem.lpd := by
  unfold State.setEcc; dsimp only; split <;> rfl

theorem State.uncorrectable_mem (s : State) (a : Nat) : (s.uncorrectable a).mem = s.mem := by
  have h1 : ∀ (t : State) (b x v i : Nat) (w : Word), (((t.count b).setReg x w).raiseBit v i).mem = t.mem := by
    intro t b x v i w; rw [State.raiseBit_mem, State.setReg_mem, State.count_mem]
  have h2 : ∀ (t : State) (b x y v i n : Nat), (((t.count b).setReg64 x y n).raiseBit v i).mem = t.mem := by
    intro t b x y v i n; rw [State.raiseBit_mem, State.setReg64_mem, State.count_mem]
  have h3 : ∀ (c : Bool) (t u : State), t.mem = s.mem → u.mem = s.mem → (if c then t else u).mem = s.mem := by
    intro c t u ht hu; cases c; exact hu; exact ht
  unfold State.uncorrectable
  exact h3 _ _ _ (h1 ..) (h2 ..)

/-- What a corrected error leaves: the bytes, the notices and the queue of wakes. -/
theorem State.corrected_bytes (s : State) (a : Nat) : (s.corrected a).mem.sram = s.mem.sram ∧ (s.corrected a).mem.lpd = s.mem.lpd := by
  have h1 : ∀ (t : State) (o n : Nat), (t.tally o n).mem = t.mem := fun t o n => State.tally_mem t o n
  have h3 : ∀ (c : Bool) (t u : State), (t.mem.sram = s.mem.sram ∧ t.mem.lpd = s.mem.lpd) → (u.mem.sram = s.mem.sram ∧ u.mem.lpd = s.mem.lpd) →
      ((if c then t else u).mem.sram = s.mem.sram ∧ (if c then t else u).mem.lpd = s.mem.lpd) := by
    intro c t u ht hu; cases c; exact hu; exact ht
  unfold State.corrected
  refine h3 _ _ _ ⟨?_, ?_⟩ ⟨?_, ?_⟩
  · rw [h1, State.setEcc_sram, State.count_mem]
  · rw [h1, State.setEcc_lpd, State.count_mem]
  · rw [State.count_mem]
  · rw [State.count_mem]

end Sys2Proof.Machine
end

