-- ==== Sys2Proof/Laws/Access.lean ====
section
/-!
SUPPORT. What a register access does once it gets through: a read, a write, and the writes that only store.
-/
namespace Sys2Proof.Machine

/-- What an access does where the MPU grants it, its unit is present and the address is aligned. -/
theorem access_opens {u : State} {m a : Nat} {w : Bool} {v : Word} (ho : u.opens m w a = true) :
    u.access m w a v = if w then u.writeAt m a v else u.readAt m a := by
  simp only [State.opens, Bool.and_eq_true, decide_eq_true_eq, Option.isNone_iff_eq_none] at ho
  obtain ⟨⟨⟨h1, h2⟩, h3⟩, h4⟩ := ho
  unfold State.access
  simp [inSram_low h2, inLpd_low h2, h3, h4]

/-- A read that gets through is the read of its register. -/
theorem access_read {u : State} {m a : Nat} {d : RegDesc} {i j : Nat} (ho : u.opens m false a = true)
    (hd : regAt a = some (d, i, j)) : u.access m false a 0 = .done (u.readReg m d i j a).2 (u.readReg m d i j a).1 := by
  rw [access_opens ho, if_neg Bool.false_ne_true]; unfold State.readAt; rw [hd]

/-- A write that gets through is the write of its register, unless the unit refuses it. -/
theorem access_write {u : State} {m a : Nat} {d : RegDesc} {i j : Nat} {v : Word} (ho : u.opens m true a = true)
    (hd : regAt a = some (d, i, j)) (hr : u.unitRefuses m d i v = none) :
    u.access m true a v = .done (u.writeReg m d i j a v) 0 := by
  rw [access_opens ho, if_pos rfl]; unfold State.writeAt; simp only [hd, hr]

theorem issues_of_opens {u : State} {m a : Nat} {w : Bool} (ho : u.opens m w a = true) : u.issues m = true := by
  simp only [State.opens, Bool.and_eq_true] at ho; exact ho.1.1.1

/-- A command that is a write of one register. -/
theorem single_write {u : State} {m a : Nat} {d : RegDesc} {i j : Nat} {v : Word} (ho : u.opens m true a = true)
    (hd : regAt a = some (d, i, j)) (hr : u.unitRefuses m d i v = none) :
    u.single m true a v = u.writeReg m d i j a v := by
  unfold State.single; rw [access_write ho hd hr, issues_of_opens ho]; rfl

/-- A command that is a read of one register. -/
theorem single_read {u : State} {m a : Nat} {d : RegDesc} {i j : Nat} (ho : u.opens m false a = true)
    (hd : regAt a = some (d, i, j)) :
    u.single m false a 0 = (u.readReg m d i j a).2.emit (.readData m a (u.readReg m d i j a).1) := by
  unfold State.single; rw [access_read ho hd, issues_of_opens ho]; rfl

/-- A read that only votes, returns the value or its latch, latches and clears RC fields. -/
theorem readReg_plain {u : State} {m : Nat} {d : RegDesc} {i j a : Nat} (hr : actsOnRead d.tag = false) :
    u.readReg m d i j a = ((sget none (u.vote a).rlat (latchKey m a)).getD ((u.vote a).view d i j a),
      if d.rc = 0 then (u.vote a).latch m (captured d.tag a)
      else ((u.vote a).latch m (captured d.tag a)).setReg a
        ((((u.vote a).latch m (captured d.tag a)).reg a &&& ~~~d.rc) ||| (d.reset &&& d.rc))) := by
  obtain ⟨tag, _, _, _, _, _, _, _, _, _, _⟩ := d
  revert hr
  cases tag <;> intro hr <;> first | contradiction | rfl

/-! ### Writes that only store -/

section
variable {u : State} {m : Nat} {d : RegDesc} {i j a : Nat} {v : Word}

theorem writeSys_plain (h : actsOnWrite d.tag = false) : u.writeSys m d i a v = u.plainWrite d i a v := by
  obtain ⟨tag, _, _, _, _, _, _, _, _, _, _⟩ := d
  revert h
  cases tag <;> intro h <;> first | contradiction | rfl

theorem writeMbx_plain (h : actsOnWrite d.tag = false) : u.writeMbx d i a v = u.plainWrite d i a v := by
  obtain ⟨tag, _, _, _, _, _, _, _, _, _, _⟩ := d
  revert h
  cases tag <;> intro h <;> first | contradiction | rfl

theorem writeTim_plain (h : actsOnWrite d.tag = false) : u.writeTim m d i a v = u.plainWrite d i a v := by
  obtain ⟨tag, _, _, _, _, _, _, _, _, _, _⟩ := d
  revert h
  cases tag <;> intro h <;> first | contradiction | rfl

theorem writeLine_plain (h : actsOnWrite d.tag = false) : u.writeLine m d i a v = u.plainWrite d i a v := by
  obtain ⟨tag, _, _, _, _, _, _, _, _, _, _⟩ := d
  revert h
  cases tag <;> intro h <;> first | contradiction | rfl

theorem writePlm_plain (h : actsOnWrite d.tag = false) : u.writePlm d i a v = u.plainWrite d i a v := by
  obtain ⟨tag, _, _, _, _, _, _, _, _, _, _⟩ := d
  revert h
  cases tag <;> intro h <;> first | contradiction | rfl

theorem writeCh_plain (h : actsOnWrite d.tag = false) : u.writeCh d i j a v = u.plainWrite d i a v := by
  obtain ⟨tag, _, _, _, _, _, _, _, _, _, _⟩ := d
  revert h
  cases tag <;> intro h <;> first | contradiction | rfl

theorem writeMem_plain (h : actsOnWrite d.tag = false) : u.writeMem m d i a v = u.plainWrite d i a v := by
  obtain ⟨tag, _, _, _, _, _, _, _, _, _, _⟩ := d
  revert h
  cases tag <;> intro h <;> first | contradiction | rfl

/-- A write of a register that only stores. -/
theorem writeReg_storesOnly (hs : storesOnly d.tag i = true) (hv : v &&& ~~~d.live = 0) :
    u.writeReg m d i j a v = u.setReg a ((u.reg a &&& ~~~d.rw &&& ~~~(v &&& d.w1c)) ||| (v &&& d.rw)) := by
  simp only [storesOnly, Bool.and_eq_true, Bool.not_eq_true', Option.isNone_iff_eq_none] at hs
  obtain ⟨⟨⟨h1, h2⟩, h3⟩, h4⟩ := hs
  have hp : u.plainWrite d i a v = u.setReg a ((u.reg a &&& ~~~d.rw &&& ~~~(v &&& d.w1c)) ||| (v &&& d.rw)) := by
    unfold State.plainWrite; rw [h3, h4]
  unfold State.writeReg State.writeUnit
  simp only [h1, hv, Bool.false_eq_true, if_false, ne_eq, not_true]
  simp only [writeSys_plain h2, writeMbx_plain h2, writeTim_plain h2, writeLine_plain h2, writePlm_plain h2,
    writeCh_plain h2, writeMem_plain h2, hp]
  split <;> rfl

/-- The unit refuses no write of a register that only stores. -/
theorem unitRefuses_storesOnly (hs : storesOnly d.tag i = true) : u.unitRefuses m d i v = none := by
  simp only [storesOnly, Bool.and_eq_true, Bool.not_eq_true'] at hs
  obtain ⟨⟨⟨-, h⟩, -⟩, -⟩ := hs
  obtain ⟨tag, _, _, _, _, _, _, _, _, _, _⟩ := d
  revert h
  cases tag <;> intro h <;> first | contradiction | rfl

end

end Sys2Proof.Machine
end

