-- ==== Sys2Proof/Laws/Exec.lean ====
section
/-!
SUPPORT. What `exec` does with each command, as the meaning of the command says it.
-/
namespace Sys2Proof.Machine

theorem exec_segmentStart (dt d : Nat) (s : State) :
    exec (.segmentStart dt d) s = execSegmentStart dt d s := rfl
theorem exec_datumStopped (dt d : Nat) (s : State) :
    exec (.datumStopped dt d) s = execDatumStopped dt d s := rfl
theorem exec_encoderEdge (dt d : Nat) (a b : Bool) (s : State) :
    exec (.encoderEdge dt d a b) s = execEncoderEdge dt d a b s := rfl
theorem exec_encoderZEdge (dt d : Nat) (s : State) :
    exec (.encoderZEdge dt d) s = execEncoderZEdge dt d s := rfl
theorem exec_encoderFit (dt d : Nat) (ssi : SsiFrame) (s : State) :
    exec (.encoderFit dt d ssi) s = execEncoderFit dt d ssi s := rfl
theorem exec_upstreamTimeout (dt d : Nat) (s : State) :
    exec (.upstreamTimeout dt d) s = execUpstreamTimeout dt d s := rfl
theorem exec_hzShort (dt d : Nat) (s : State) :
    exec (.hzShort dt d) s = execHzShort dt d s := rfl
theorem exec_stakeFire (dt i : Nat) (s : State) :
    exec (.stakeFire dt i) s = execStakeFire dt i s := rfl
theorem exec_stakeActionDispatch (dt : Nat) (s : State) :
    exec (.stakeActionDispatch dt) s = execStakeActionDispatch dt s := rfl
theorem exec_foEdgeApply (dt k : Nat) (s : State) :
    exec (.foEdgeApply dt k) s = execFoEdgeApply dt k s := rfl
theorem exec_releaseStart (dt e : Nat) (s : State) :
    exec (.releaseStart dt e) s = execReleaseStart dt e s := rfl
theorem exec_taskDeadline (dt e : Nat) (s : State) :
    exec (.taskDeadline dt e) s = execTaskDeadline dt e s := rfl
theorem exec_constApply (dt p : Nat) (s : State) :
    exec (.constApply dt p) s = execConstApply dt p s := rfl
theorem exec_coreMismatch (dt : Nat) (outs : PairPorts) (s : State) :
    exec (.coreMismatch dt outs) s = execCoreMismatch dt outs s := rfl
theorem exec_tileResyncDone (dt x : Nat) (s : State) :
    exec (.tileResyncDone dt x) s = execTileResyncDone dt x s := rfl
theorem exec_warnEnd (dt x : Nat) (s : State) :
    exec (.warnEnd dt x) s = execWarnEnd dt x s := rfl
theorem exec_agreementDisagree (dt x input : Nat) (s : State) :
    exec (.agreementDisagree dt x input) s = execAgreementDisagree dt x input s := rfl
theorem exec_checkerTest (dt x rails : Nat) (same : Bool) (s : State) :
    exec (.checkerTest dt x rails same) s = execCheckerTest dt x rails same s := rfl
theorem exec_splitComplete (dt x : Nat) (s : State) :
    exec (.splitComplete dt x) s = execSplitComplete dt x s := rfl
theorem exec_joinComplete (dt x rails : Nat) (s : State) :
    exec (.joinComplete dt x rails) s = execJoinComplete dt x rails s := rfl
theorem exec_mpReady (dt : Nat) (s : State) :
    exec (.mpReady dt) s = execMpReady dt s := rfl
theorem exec_mpRestartBegin (dt : Nat) (s : State) :
    exec (.mpRestartBegin dt) s = execMpRestartBegin dt s := rfl
theorem exec_sramAccess (dt m : Nat) (write : Bool) (addr size : Nat) (data : List Byte) (hits : List (Nat × Nat)) (s : State) :
    exec (.sramAccess dt m write addr size data hits) s = execSramAccess dt m write addr size data hits s := rfl
theorem exec_impreciseNotice (dt : Nat) (s : State) :
    exec (.impreciseNotice dt) s = execImpreciseNotice dt s := rfl
theorem exec_wakeDone (dt n : Nat) (s : State) :
    exec (.wakeDone dt n) s = execWakeDone dt n s := rfl
theorem exec_scrub (dt n : Nat) (hits : List (Nat × Nat)) (s : State) :
    exec (.scrub dt n hits) s = execScrub dt n hits s := rfl
theorem exec_backgroundTest (dt n : Nat) (fails : Bool) (s : State) :
    exec (.backgroundTest dt n fails) s = execBackgroundTest dt n fails s := rfl
theorem exec_lpdPatrol (dt : Nat) (hits : List (Nat × Nat)) (s : State) :
    exec (.lpdPatrol dt hits) s = execLpdPatrol dt hits s := rfl
theorem exec_retirementRecord (dt : Nat) (s : State) :
    exec (.retirementRecord dt) s = execRetirementRecord dt s := rfl
theorem exec_plNop (e space addr : Nat) (s : State) :
    exec (.plNop e space addr) s = execPlNop e space addr s := rfl
theorem exec_plLd (e space addr : Nat) (s : State) :
    exec (.plLd e space addr) s = execPlLd e space addr s := rfl
theorem exec_plLdn (e space addr : Nat) (s : State) :
    exec (.plLdn e space addr) s = execPlLdn e space addr s := rfl
theorem exec_plAnd (e space addr : Nat) (s : State) :
    exec (.plAnd e space addr) s = execPlAnd e space addr s := rfl
theorem exec_plAndn (e space addr : Nat) (s : State) :
    exec (.plAndn e space addr) s = execPlAndn e space addr s := rfl
theorem exec_plOr (e space addr : Nat) (s : State) :
    exec (.plOr e space addr) s = execPlOr e space addr s := rfl
theorem exec_plOrn (e space addr : Nat) (s : State) :
    exec (.plOrn e space addr) s = execPlOrn e space addr s := rfl
theorem exec_plXor (e space addr : Nat) (s : State) :
    exec (.plXor e space addr) s = execPlXor e space addr s := rfl
theorem exec_plXorn (e space addr : Nat) (s : State) :
    exec (.plXorn e space addr) s = execPlXorn e space addr s := rfl
theorem exec_plSt (e space addr : Nat) (s : State) :
    exec (.plSt e space addr) s = execPlSt e space addr s := rfl
theorem exec_plStn (e space addr : Nat) (s : State) :
    exec (.plStn e space addr) s = execPlStn e space addr s := rfl
theorem exec_plSet (e space addr : Nat) (s : State) :
    exec (.plSet e space addr) s = execPlSet e space addr s := rfl
theorem exec_plRst (e space addr : Nat) (s : State) :
    exec (.plRst e space addr) s = execPlRst e space addr s := rfl
theorem exec_plNot (e space addr : Nat) (s : State) :
    exec (.plNot e space addr) s = execPlNot e space addr s := rfl
theorem exec_plSeta (e space addr : Nat) (s : State) :
    exec (.plSeta e space addr) s = execPlSeta e space addr s := rfl
theorem exec_plClra (e space addr : Nat) (s : State) :
    exec (.plClra e space addr) s = execPlClra e space addr s := rfl
theorem exec_plPsha (e space addr : Nat) (s : State) :
    exec (.plPsha e space addr) s = execPlPsha e space addr s := rfl
theorem exec_plPsho (e space addr : Nat) (s : State) :
    exec (.plPsho e space addr) s = execPlPsho e space addr s := rfl
theorem exec_plPshx (e space addr : Nat) (s : State) :
    exec (.plPshx e space addr) s = execPlPshx e space addr s := rfl
theorem exec_plPshn (e space addr : Nat) (s : State) :
    exec (.plPshn e space addr) s = execPlPshn e space addr s := rfl
theorem exec_plPop (e space addr : Nat) (s : State) :
    exec (.plPop e space addr) s = execPlPop e space addr s := rfl
theorem exec_plPeek (e space addr : Nat) (s : State) :
    exec (.plPeek e space addr) s = execPlPeek e space addr s := rfl
theorem exec_plFp (e space addr : Nat) (s : State) :
    exec (.plFp e space addr) s = execPlFp e space addr s := rfl
theorem exec_plFn (e space addr : Nat) (s : State) :
    exec (.plFn e space addr) s = execPlFn e space addr s := rfl
theorem exec_plJmp (e space addr : Nat) (s : State) :
    exec (.plJmp e space addr) s = execPlJmp e space addr s := rfl
theorem exec_plJc (e space addr : Nat) (s : State) :
    exec (.plJc e space addr) s = execPlJc e space addr s := rfl
theorem exec_plJcn (e space addr : Nat) (s : State) :
    exec (.plJcn e space addr) s = execPlJcn e space addr s := rfl
theorem exec_plCall (e space addr : Nat) (s : State) :
    exec (.plCall e space addr) s = execPlCall e space addr s := rfl
theorem exec_plRet (e space addr : Nat) (s : State) :
    exec (.plRet e space addr) s = execPlRet e space addr s := rfl
theorem exec_plRetc (e space addr : Nat) (s : State) :
    exec (.plRetc e space addr) s = execPlRetc e space addr s := rfl
theorem exec_plEnd (e space addr : Nat) (s : State) :
    exec (.plEnd e space addr) s = execPlEnd e space addr s := rfl
theorem exec_plLw (e space addr : Nat) (s : State) :
    exec (.plLw e space addr) s = execPlLw e space addr s := rfl
theorem exec_plLwu (e space addr : Nat) (s : State) :
    exec (.plLwu e space addr) s = execPlLwu e space addr s := rfl
theorem exec_plLwd (e space addr : Nat) (s : State) :
    exec (.plLwd e space addr) s = execPlLwd e space addr s := rfl
theorem exec_plLwi (e space addr : Nat) (s : State) :
    exec (.plLwi e space addr) s = execPlLwi e space addr s := rfl
theorem exec_plSw (e space addr : Nat) (s : State) :
    exec (.plSw e space addr) s = execPlSw e space addr s := rfl
theorem exec_plSwd (e space addr : Nat) (s : State) :
    exec (.plSwd e space addr) s = execPlSwd e space addr s := rfl
theorem exec_plSwc (e space addr : Nat) (s : State) :
    exec (.plSwc e space addr) s = execPlSwc e space addr s := rfl
theorem exec_plSwdc (e space addr : Nat) (s : State) :
    exec (.plSwdc e space addr) s = execPlSwdc e space addr s := rfl
theorem exec_plAdd (e space addr : Nat) (s : State) :
    exec (.plAdd e space addr) s = execPlAdd e space addr s := rfl
theorem exec_plSub (e space addr : Nat) (s : State) :
    exec (.plSub e space addr) s = execPlSub e space addr s := rfl
theorem exec_plMul (e space addr : Nat) (s : State) :
    exec (.plMul e space addr) s = execPlMul e space addr s := rfl
theorem exec_plAddd (e space addr : Nat) (s : State) :
    exec (.plAddd e space addr) s = execPlAddd e space addr s := rfl
theorem exec_plSubd (e space addr : Nat) (s : State) :
    exec (.plSubd e space addr) s = execPlSubd e space addr s := rfl
theorem exec_plNeg (e space addr : Nat) (s : State) :
    exec (.plNeg e space addr) s = execPlNeg e space addr s := rfl
theorem exec_plAndw (e space addr : Nat) (s : State) :
    exec (.plAndw e space addr) s = execPlAndw e space addr s := rfl
theorem exec_plOrw (e space addr : Nat) (s : State) :
    exec (.plOrw e space addr) s = execPlOrw e space addr s := rfl
theorem exec_plXorw (e space addr : Nat) (s : State) :
    exec (.plXorw e space addr) s = execPlXorw e space addr s := rfl
theorem exec_plShl (e space addr : Nat) (s : State) :
    exec (.plShl e space addr) s = execPlShl e space addr s := rfl
theorem exec_plShr (e space addr : Nat) (s : State) :
    exec (.plShr e space addr) s = execPlShr e space addr s := rfl
theorem exec_plShru (e space addr : Nat) (s : State) :
    exec (.plShru e space addr) s = execPlShru e space addr s := rfl
theorem exec_plBtst (e space addr : Nat) (s : State) :
    exec (.plBtst e space addr) s = execPlBtst e space addr s := rfl
theorem exec_plLwb (e space addr : Nat) (s : State) :
    exec (.plLwb e space addr) s = execPlLwb e space addr s := rfl
theorem exec_plCeq (e space addr : Nat) (s : State) :
    exec (.plCeq e space addr) s = execPlCeq e space addr s := rfl
theorem exec_plCne (e space addr : Nat) (s : State) :
    exec (.plCne e space addr) s = execPlCne e space addr s := rfl
theorem exec_plClt (e space addr : Nat) (s : State) :
    exec (.plClt e space addr) s = execPlClt e space addr s := rfl
theorem exec_plCle (e space addr : Nat) (s : State) :
    exec (.plCle e space addr) s = execPlCle e space addr s := rfl
theorem exec_plCgt (e space addr : Nat) (s : State) :
    exec (.plCgt e space addr) s = execPlCgt e space addr s := rfl
theorem exec_plCge (e space addr : Nat) (s : State) :
    exec (.plCge e space addr) s = execPlCge e space addr s := rfl
theorem exec_plCltu (e space addr : Nat) (s : State) :
    exec (.plCltu e space addr) s = execPlCltu e space addr s := rfl
theorem exec_plCgeu (e space addr : Nat) (s : State) :
    exec (.plCgeu e space addr) s = execPlCgeu e space addr s := rfl
theorem exec_plCeqd (e space addr : Nat) (s : State) :
    exec (.plCeqd e space addr) s = execPlCeqd e space addr s := rfl
theorem exec_plCltd (e space addr : Nat) (s : State) :
    exec (.plCltd e space addr) s = execPlCltd e space addr s := rfl
theorem exec_plCged (e space addr : Nat) (s : State) :
    exec (.plCged e space addr) s = execPlCged e space addr s := rfl
theorem exec_plCltdu (e space addr : Nat) (s : State) :
    exec (.plCltdu e space addr) s = execPlCltdu e space addr s := rfl
theorem exec_plCgedu (e space addr : Nat) (s : State) :
    exec (.plCgedu e space addr) s = execPlCgedu e space addr s := rfl
theorem exec_plLov (e space addr : Nat) (s : State) :
    exec (.plLov e space addr) s = execPlLov e space addr s := rfl
theorem exec_plCov (e space addr : Nat) (s : State) :
    exec (.plCov e space addr) s = execPlCov e space addr s := rfl
theorem exec_plTon (e space addr : Nat) (s : State) :
    exec (.plTon e space addr) s = execPlTon e space addr s := rfl
theorem exec_plTof (e space addr : Nat) (s : State) :
    exec (.plTof e space addr) s = execPlTof e space addr s := rfl
theorem exec_plTp (e space addr : Nat) (s : State) :
    exec (.plTp e space addr) s = execPlTp e space addr s := rfl
theorem exec_plTpt (e space addr : Nat) (s : State) :
    exec (.plTpt e space addr) s = execPlTpt e space addr s := rfl
theorem exec_plTrs (e space addr : Nat) (s : State) :
    exec (.plTrs e space addr) s = execPlTrs e space addr s := rfl
theorem exec_plCtu (e space addr : Nat) (s : State) :
    exec (.plCtu e space addr) s = execPlCtu e space addr s := rfl
theorem exec_plCtd (e space addr : Nat) (s : State) :
    exec (.plCtd e space addr) s = execPlCtd e space addr s := rfl
theorem exec_plCrs (e space addr : Nat) (s : State) :
    exec (.plCrs e space addr) s = execPlCrs e space addr s := rfl
theorem exec_plClp (e space addr : Nat) (s : State) :
    exec (.plClp e space addr) s = execPlClp e space addr s := rfl
theorem exec_plCpv (e space addr : Nat) (s : State) :
    exec (.plCpv e space addr) s = execPlCpv e space addr s := rfl
theorem exec_plDwin (e d space addr : Nat) (s : State) :
    exec (.plDwin e d space addr) s = execPlDwin e d space addr s := rfl
theorem exec_plStarm (e space addr : Nat) (s : State) :
    exec (.plStarm e space addr) s = execPlStarm e space addr s := rfl
theorem exec_plStdis (e space addr : Nat) (s : State) :
    exec (.plStdis e space addr) s = execPlStdis e space addr s := rfl
theorem exec_plSttgt (e space addr : Nat) (s : State) :
    exec (.plSttgt e space addr) s = execPlSttgt e space addr s := rfl
theorem exec_plStrld (e space addr : Nat) (s : State) :
    exec (.plStrld e space addr) s = execPlStrld e space addr s := rfl
theorem exec_plCallb (e space addr : Nat) (s : State) :
    exec (.plCallb e space addr) s = execPlCallb e space addr s := rfl
theorem exec_undefinedOpcode (e : Nat) (s : State) :
    exec (.undefinedOpcode e) s = execUndefinedOpcode e s := rfl
theorem exec_blockCallArrival (dt e : Nat) (s : State) :
    exec (.blockCallArrival dt e) s = execBlockCallArrival dt e s := rfl
theorem exec_blockServiceStart (dt p : Nat) (s : State) :
    exec (.blockServiceStart dt p) s = execBlockServiceStart dt p s := rfl
theorem exec_blockReturn (dt p : Nat) (trailing : Option Nat) (s : State) :
    exec (.blockReturn dt p trailing) s = execBlockReturn dt p trailing s := rfl
theorem exec_blockDeadline (dt i : Nat) (s : State) :
    exec (.blockDeadline dt i) s = execBlockDeadline dt i s := rfl
theorem exec_selfRunDue (dt i : Nat) (s : State) :
    exec (.selfRunDue dt i) s = execSelfRunDue dt i s := rfl
theorem exec_selfRunEnd (dt p : Nat) (trailing : Option Nat) (s : State) :
    exec (.selfRunEnd dt p trailing) s = execSelfRunEnd dt p trailing s := rfl
theorem exec_segmentEnd (dt d : Nat) (s : State) :
    exec (.segmentEnd dt d) s = execSegmentEnd dt d s := rfl
theorem exec_segmentHandover (dt d : Nat) (s : State) :
    exec (.segmentHandover dt d) s = execSegmentHandover dt d s := rfl
theorem exec_releaseEndDecision (dt e : Nat) (trailing : Option Nat) (s : State) :
    exec (.releaseEndDecision dt e trailing) s = execReleaseEndDecision dt e trailing s := rfl
theorem exec_frameTransmit (dt port : Nat) (s : State) :
    exec (.frameTransmit dt port) s = execFrameTransmit dt port s := rfl
theorem exec_badFrameRx (dt port : Nat) (frame : RawFrame) (s : State) :
    exec (.badFrameRx dt port frame) s = execBadFrameRx dt port frame s := rfl
theorem exec_datumFrame (dt port : Nat) (hdr : Hdr) (entries : List DatumEntry) (s : State) :
    exec (.datumFrame dt port hdr entries) s = execDatumFrame dt port hdr entries s := rfl
theorem exec_segmentFrame (dt port : Nat) (hdr : Hdr) (stream : Nat) (trunc : Option Nat) (segs : List Seg) (s : State) :
    exec (.segmentFrame dt port hdr stream trunc segs) s = execSegmentFrame dt port hdr stream trunc segs s := rfl
theorem exec_imageFrame (dt port : Nat) (hdr : Hdr) (body : ImgBody) (s : State) :
    exec (.imageFrame dt port hdr body) s = execImageFrame dt port hdr body s := rfl
theorem exec_traverseAck (dt port : Nat) (hdr : Hdr) (stn state : Nat) (streams : List AckStream) (events : List AckEvent) (s : State) :
    exec (.traverseAck dt port hdr stn state streams events) s = execTraverseAck dt port hdr stn state streams events s := rfl
theorem exec_stateCmd (dt port : Nat) (hdr : Hdr) (stn target : Nat) (s : State) :
    exec (.stateCmd dt port hdr stn target) s = execStateCmd dt port hdr stn target s := rfl
theorem exec_config (dt port : Nat) (hdr : Hdr) (words : List Word) (s : State) :
    exec (.config dt port hdr words) s = execConfig dt port hdr words s := rfl
theorem exec_discoverResp (dt port : Nat) (hdr : Hdr) (addr mac product state : Nat) (s : State) :
    exec (.discoverResp dt port hdr addr mac product state) s = execDiscoverResp dt port hdr addr mac product state s := rfl
theorem exec_discDone (dt port : Nat) (s : State) :
    exec (.discDone dt port) s = execDiscDone dt port s := rfl
theorem exec_stationLost (dt port stn : Nat) (s : State) :
    exec (.stationLost dt port stn) s = execStationLost dt port stn s := rfl
theorem exec_segNak (dt port : Nat) (s : State) :
    exec (.segNak dt port) s = execSegNak dt port s := rfl
theorem exec_evtNak (dt port : Nat) (s : State) :
    exec (.evtNak dt port) s = execEvtNak dt port s := rfl
theorem exec_preemptionVerified (dt port : Nat) (up : Bool) (s : State) :
    exec (.preemptionVerified dt port up) s = execPreemptionVerified dt port up s := rfl
theorem exec_ptpSecondCarry (s : State) :
    exec (.ptpSecondCarry) s = execPtpSecondCarry s := rfl
theorem exec_servoUpdate (dt : Nat) (s : State) :
    exec (.servoUpdate dt) s = execServoUpdate dt s := rfl
theorem exec_holdover (dt : Nat) (s : State) :
    exec (.holdover dt) s = execHoldover dt s := rfl
theorem exec_sync (dt port seq : Nat) (twoStep : Bool) (domain : Nat) (origin correction : Int) (s : State) :
    exec (.sync dt port seq twoStep domain origin correction) s = execSync dt port seq twoStep domain origin correction s := rfl
theorem exec_followUp (dt port seq domain : Nat) (origin correction : Int) (s : State) :
    exec (.followUp dt port seq domain origin correction) s = execFollowUp dt port seq domain origin correction s := rfl
theorem exec_delayReq (dt port seq domain requester : Nat) (s : State) :
    exec (.delayReq dt port seq domain requester) s = execDelayReq dt port seq domain requester s := rfl
theorem exec_delayResp (dt port seq domain : Nat) (receipt correction : Int) (s : State) :
    exec (.delayResp dt port seq domain receipt correction) s = execDelayResp dt port seq domain receipt correction s := rfl
theorem exec_pdelayReq (dt port seq domain requester : Nat) (s : State) :
    exec (.pdelayReq dt port seq domain requester) s = execPdelayReq dt port seq domain requester s := rfl
theorem exec_pdelayResp (dt port seq domain : Nat) (receipt correction : Int) (s : State) :
    exec (.pdelayResp dt port seq domain receipt correction) s = execPdelayResp dt port seq domain receipt correction s := rfl
theorem exec_pdelayRespFollowUp (dt port seq domain : Nat) (origin correction : Int) (s : State) :
    exec (.pdelayRespFollowUp dt port seq domain origin correction) s = execPdelayRespFollowUp dt port seq domain origin correction s := rfl
theorem exec_announce (dt port domain prio1 cls accuracy variance prio2 ident : Nat) (way : AnnWay) (s : State) :
    exec (.announce dt port domain prio1 cls accuracy variance prio2 ident way) s = execAnnounce dt port domain prio1 cls accuracy variance prio2 ident way s := rfl
theorem exec_signaling (dt : Nat) (rx : PtpAt) (logSync logAnn logDelay : Int) (s : State) :
    exec (.signaling dt rx logSync logAnn logDelay) s = execSignaling dt rx logSync logAnn logDelay s := rfl
theorem exec_managementMessage (dt port : Nat) (s : State) :
    exec (.managementMessage dt port) s = execManagementMessage dt port s := rfl
theorem exec_ptpMessageSend (dt port kind : Nat) (s : State) :
    exec (.ptpMessageSend dt port kind) s = execPtpMessageSend dt port kind s := rfl
theorem exec_comparatorFire (dt k : Nat) (s : State) :
    exec (.comparatorFire dt k) s = execComparatorFire dt k s := rfl
theorem exec_lineLinkChange (dt port : Nat) (up : Bool) (s : State) :
    exec (.lineLinkChange dt port up) s = execLineLinkChange dt port up s := rfl
theorem exec_ioInstant (dt g : Nat) (vals : List (Nat × Int)) (s : State) :
    exec (.ioInstant dt g vals) s = execIoInstant dt g vals s := rfl
theorem exec_inputWrite (dt g : Nat) (s : State) :
    exec (.inputWrite dt g) s = execInputWrite dt g s := rfl
theorem exec_outputApply (dt g : Nat) (s : State) :
    exec (.outputApply dt g) s = execOutputApply dt g s := rfl
theorem exec_conversionDone (dt g : Nat) (vals : List (Nat × Int)) (s : State) :
    exec (.conversionDone dt g vals) s = execConversionDone dt g vals s := rfl
theorem exec_diLevelChange (dt n : Nat) (level : Bool) (s : State) :
    exec (.diLevelChange dt n level) s = execDiLevelChange dt n level s := rfl
theorem exec_channelDiagnostic (dt n flag : Nat) (on : Bool) (temp : Int) (s : State) :
    exec (.channelDiagnostic dt n flag on temp) s = execChannelDiagnostic dt n flag on temp s := rfl
theorem exec_channelTrip (dt n : Nat) (overtemp : Bool) (s : State) :
    exec (.channelTrip dt n overtemp) s = execChannelTrip dt n overtemp s := rfl
theorem exec_tripRetry (dt n : Nat) (cool : Bool) (s : State) :
    exec (.tripRetry dt n cool) s = execTripRetry dt n cool s := rfl
theorem exec_tripSequenceEnd (dt n : Nat) (s : State) :
    exec (.tripSequenceEnd dt n) s = execTripSequenceEnd dt n s := rfl
theorem exec_vfldLow (dt g mv : Nat) (s : State) :
    exec (.vfldLow dt g mv) s = execVfldLow dt g mv s := rfl
theorem exec_supplyLost (dt g mv : Nat) (s : State) :
    exec (.supplyLost dt g mv) s = execSupplyLost dt g mv s := rfl
theorem exec_supplyRecovery (dt g mv : Nat) (s : State) :
    exec (.supplyRecovery dt g mv) s = execSupplyRecovery dt g mv s := rfl
theorem exec_barrierLinkSilence (dt c : Nat) (s : State) :
    exec (.barrierLinkSilence dt c) s = execBarrierLinkSilence dt c s := rfl
theorem exec_benchmark (dt n : Nat) (dev : Int) (blocked : Bool) (s : State) :
    exec (.benchmark dt n dev blocked) s = execBenchmark dt n dev blocked s := rfl
theorem exec_fastInputEdge (dt k back : Nat) (rising : Bool) (s : State) :
    exec (.fastInputEdge dt k back rising) s = execFastInputEdge dt k back rising s := rfl
theorem exec_foFault (dt k : Nat) (s : State) :
    exec (.foFault dt k) s = execFoFault dt k s := rfl
theorem exec_foRetry (dt k : Nat) (s : State) :
    exec (.foRetry dt k) s = execFoRetry dt k s := rfl
theorem exec_controllerRestart (dt c phase : Nat) (s : State) :
    exec (.controllerRestart dt c phase) s = execControllerRestart dt c phase s := rfl
theorem exec_reconfigDone (dt n : Nat) (s : State) :
    exec (.reconfigDone dt n) s = execReconfigDone dt n s := rfl
theorem exec_canSync (dt n : Nat) (s : State) :
    exec (.canSync dt n) s = execCanSync dt n s := rfl
theorem exec_canFrameSent (dt n : Nat) (urgent : Bool) (back : Nat) (s : State) :
    exec (.canFrameSent dt n urgent back) s = execCanFrameSent dt n urgent back s := rfl
theorem exec_idCollision (dt n : Nat) (urgent : Bool) (s : State) :
    exec (.idCollision dt n urgent) s = execIdCollision dt n urgent s := rfl
theorem exec_canFrameRx (dt n : Nat) (id info : Word) (back : Nat) (bytes : List Byte) (s : State) :
    exec (.canFrameRx dt n id info back bytes) s = execCanFrameRx dt n id info back bytes s := rfl
theorem exec_busOff (dt n : Nat) (s : State) :
    exec (.busOff dt n) s = execBusOff dt n s := rfl
theorem exec_busOffRecovered (dt n : Nat) (s : State) :
    exec (.busOffRecovered dt n) s = execBusOffRecovered dt n s := rfl
theorem exec_canBusError (dt n lec tec rec : Nat) (s : State) :
    exec (.canBusError dt n lec tec rec) s = execCanBusError dt n lec tec rec s := rfl
theorem exec_periodEnd (dt : Nat) (s : State) :
    exec (.periodEnd dt) s = execPeriodEnd dt s := rfl
theorem exec_cfgSwapApply (dt : Nat) (s : State) :
    exec (.cfgSwapApply dt) s = execCfgSwapApply dt s := rfl
theorem exec_boot (dt : Nat) (s : State) :
    exec (.boot dt) s = execBoot dt s := rfl
theorem exec_feedLow (dt feed mv : Nat) (s : State) :
    exec (.feedLow dt feed mv) s = execFeedLow dt feed mv s := rfl
theorem exec_feedLowClear (dt feed mv : Nat) (s : State) :
    exec (.feedLowClear dt feed mv) s = execFeedLowClear dt feed mv s := rfl
theorem exec_feedLoss (dt feed mv : Nat) (s : State) :
    exec (.feedLoss dt feed mv) s = execFeedLoss dt feed mv s := rfl
theorem exec_feedGood (dt feed mv : Nat) (s : State) :
    exec (.feedGood dt feed mv) s = execFeedGood dt feed mv s := rfl
theorem exec_vbakLow (dt mv : Nat) (s : State) :
    exec (.vbakLow dt mv) s = execVbakLow dt mv s := rfl
theorem exec_vbakLoss (dt mv : Nat) (s : State) :
    exec (.vbakLoss dt mv) s = execVbakLoss dt mv s := rfl
theorem exec_holdupMeasure (dt bank est : Nat) (s : State) :
    exec (.holdupMeasure dt bank est) s = execHoldupMeasure dt bank est s := rfl
theorem exec_brownout (dt rail mv : Nat) (s : State) :
    exec (.brownout dt rail mv) s = execBrownout dt rail mv s := rfl
theorem exec_watchdog (dt : Nat) (s : State) :
    exec (.watchdog dt) s = execWatchdog dt s := rfl
theorem exec_hot (dt : Nat) (die board : Int) (s : State) :
    exec (.hot dt die board) s = execHot dt die board s := rfl
theorem exec_thermal (dt : Nat) (die board : Int) (s : State) :
    exec (.thermal dt die board) s = execThermal dt die board s := rfl
theorem exec_thermalResetRelease (dt : Nat) (die board : Int) (s : State) :
    exec (.thermalResetRelease dt die board) s = execThermalResetRelease dt die board s := rfl
theorem exec_moduleReset (dt : Nat) (s : State) :
    exec (.moduleReset dt) s = execModuleReset dt s := rfl
theorem exec_powerOnReset (dt : Nat) (s : State) :
    exec (.powerOnReset dt) s = execPowerOnReset dt s := rfl
theorem exec_domainSwitchDone (dt : Nat) (s : State) :
    exec (.domainSwitchDone dt) s = execDomainSwitchDone dt s := rfl
theorem exec_timeSettle (dt : Nat) (s : State) :
    exec (.timeSettle dt) s = execTimeSettle dt s := rfl
theorem exec_fixedCycleStart (dt : Nat) (s : State) :
    exec (.fixedCycleStart dt) s = execFixedCycleStart dt s := rfl
theorem exec_autoTaskRequest (dt : Nat) (s : State) :
    exec (.autoTaskRequest dt) s = execAutoTaskRequest dt s := rfl
theorem exec_updOpen (dt dst etype slot tag mac len crc : Nat) (s : State) :
    exec (.updOpen dt dst etype slot tag mac len crc) s = execUpdOpen dt dst etype slot tag mac len crc s := rfl
theorem exec_updBlock (dt dst etype slot tag mac index part crc : Nat) (bytes : List Byte) (s : State) :
    exec (.updBlock dt dst etype slot tag mac index part crc bytes) s = execUpdBlock dt dst etype slot tag mac index part crc bytes s := rfl
theorem exec_updClose (dt dst etype slot tag mac : Nat) (s : State) :
    exec (.updClose dt dst etype slot tag mac) s = execUpdClose dt dst etype slot tag mac s := rfl
theorem exec_updAbort (dt dst etype slot tag mac : Nat) (s : State) :
    exec (.updAbort dt dst etype slot tag mac) s = execUpdAbort dt dst etype slot tag mac s := rfl
theorem exec_slotEraseDone (dt : Nat) (s : State) :
    exec (.slotEraseDone dt) s = execSlotEraseDone dt s := rfl
theorem exec_sessionTimeout (dt : Nat) (s : State) :
    exec (.sessionTimeout dt) s = execSessionTimeout dt s := rfl
theorem exec_recoveryAnnounce (dt : Nat) (s : State) :
    exec (.recoveryAnnounce dt) s = execRecoveryAnnounce dt s := rfl
theorem exec_activation (dt : Nat) (s : State) :
    exec (.activation dt) s = execActivation dt s := rfl
theorem exec_floorBurnDone (dt : Nat) (s : State) :
    exec (.floorBurnDone dt) s = execFloorBurnDone dt s := rfl
theorem exec_roleDecision (dt : Nat) (same : Bool) (s : State) :
    exec (.roleDecision dt same) s = execRoleDecision dt same s := rfl
theorem exec_keepaliveSend (dt : Nat) (s : State) :
    exec (.keepaliveSend dt) s = execKeepaliveSend dt s := rfl
theorem exec_retransmit (dt : Nat) (s : State) :
    exec (.retransmit dt) s = execRetransmit dt s := rfl
theorem exec_timeExchange (dt : Nat) (s : State) :
    exec (.timeExchange dt) s = execTimeExchange dt s := rfl
theorem exec_genBoundary (dt : Nat) (s : State) :
    exec (.genBoundary dt) s = execGenBoundary dt s := rfl
theorem exec_genCloseSend (dt : Nat) (s : State) :
    exec (.genCloseSend dt) s = execGenCloseSend dt s := rfl
theorem exec_resyncReady (dt : Nat) (s : State) :
    exec (.resyncReady dt) s = execResyncReady dt s := rfl
theorem exec_resyncCopyEnd (dt : Nat) (s : State) :
    exec (.resyncCopyEnd dt) s = execResyncCopyEnd dt s := rfl
theorem exec_lossDeclared (dt : Nat) (s : State) :
    exec (.lossDeclared dt) s = execLossDeclared dt s := rfl
theorem exec_takeoverResume (dt : Nat) (s : State) :
    exec (.takeoverResume dt) s = execTakeoverResume dt s := rfl
theorem exec_isolationTimeout (dt : Nat) (s : State) :
    exec (.isolationTimeout dt) s = execIsolationTimeout dt s := rfl
theorem exec_partnerSilence (dt : Nat) (s : State) :
    exec (.partnerSilence dt) s = execPartnerSilence dt s := rfl
theorem exec_swapSend (dt : Nat) (s : State) :
    exec (.swapSend dt) s = execSwapSend dt s := rfl
theorem exec_handoverH (dt : Nat) (s : State) :
    exec (.handoverH dt) s = execHandoverH dt s := rfl
theorem exec_handoverTimeout (dt : Nat) (s : State) :
    exec (.handoverTimeout dt) s = execHandoverTimeout dt s := rfl
theorem exec_handoverOutputSwitch (dt : Nat) (s : State) :
    exec (.handoverOutputSwitch dt) s = execHandoverOutputSwitch dt s := rfl
theorem exec_moduleRemoval (dt : Nat) (s : State) :
    exec (.moduleRemoval dt) s = execModuleRemoval dt s := rfl
theorem exec_partnerInsertion (dt : Nat) (s : State) :
    exec (.partnerInsertion dt) s = execPartnerInsertion dt s := rfl
theorem exec_partnerPresentLoss (dt : Nat) (s : State) :
    exec (.partnerPresentLoss dt) s = execPartnerPresentLoss dt s := rfl
theorem exec_pairKeepalive (dt : Nat) (h : LinkHdr) (role : Nat) (ready : Bool) (complete : Nat) (s : State) :
    exec (.pairKeepalive dt h role ready complete) s = execPairKeepalive dt h role ready complete s := rfl
theorem exec_pairDelta (dt : Nat) (h : LinkHdr) (rs : List DeltaRec) (s : State) :
    exec (.pairDelta dt h rs) s = execPairDelta dt h rs s := rfl
theorem exec_pairGenClose (dt : Nat) (h : LinkHdr) (gen count digest : Nat) (s : State) :
    exec (.pairGenClose dt h gen count digest) s = execPairGenClose dt h gen count digest s := rfl
theorem exec_pairAck (dt : Nat) (h : LinkHdr) (seq : Nat) (s : State) :
    exec (.pairAck dt h seq) s = execPairAck dt h seq s := rfl
theorem exec_pairResyncFrame (dt : Nat) (h : LinkHdr) (addr : Nat) (bytes : List Byte) (rs : List DeltaRec) (s : State) :
    exec (.pairResyncFrame dt h addr bytes rs) s = execPairResyncFrame dt h addr bytes rs s := rfl
theorem exec_pairSwap (dt : Nat) (h : LinkHdr) (epoch t mask evtId : Nat) (s : State) :
    exec (.pairSwap dt h epoch t mask evtId) s = execPairSwap dt h epoch t mask evtId s := rfl
theorem exec_pairRoleNotice (dt : Nat) (h : LinkHdr) (role _cause : Nat) (s : State) :
    exec (.pairRoleNotice dt h role _cause) s = execPairRoleNotice dt h role _cause s := rfl
theorem exec_pairTime (dt : Nat) (h : LinkHdr) (response : Bool) (t1 t2 t3 : Int) (s : State) :
    exec (.pairTime dt h response t1 t2 t3) s = execPairTime dt h response t1 t2 t3 s := rfl
theorem exec_pairProgram (dt : Nat) (h : LinkHdr) (offset : Nat) (bytes : List Byte) (s : State) :
    exec (.pairProgram dt h offset bytes) s = execPairProgram dt h offset bytes s := rfl
theorem exec_pairFrameCrcError (dt lane : Nat) (s : State) :
    exec (.pairFrameCrcError dt lane) s = execPairFrameCrcError dt lane s := rfl
theorem exec_pairLaneLinkChange (dt lane : Nat) (up : Bool) (s : State) :
    exec (.pairLaneLinkChange dt lane up) s = execPairLaneLinkChange dt lane up s := rfl
theorem exec_pairDatumTrigger (dt d : Nat) (s : State) :
    exec (.pairDatumTrigger dt d) s = execPairDatumTrigger dt d s := rfl
theorem exec_heartbeat (dt n : Nat) (h : Hdr) (role t : Nat) (s : State) :
    exec (.heartbeat dt n h role t) s = execHeartbeat dt n h role t s := rfl
theorem exec_mpTake (dt : Nat) (s : State) :
    exec (.mpTake dt) s = execMpTake dt s := rfl
theorem exec_mpPostResponse (dt : Nat) (post : MpPost) (s : State) :
    exec (.mpPostResponse dt post) s = execMpPostResponse dt post s := rfl
theorem exec_ident (dt n : Nat) (s : State) :
    exec (.ident dt n) s = execIdent dt n s := rfl
theorem exec_statusGet (dt n : Nat) (s : State) :
    exec (.statusGet dt n) s = execStatusGet dt n s := rfl
theorem exec_echo (dt n : Nat) (s : State) :
    exec (.echo dt n) s = execEcho dt n s := rfl
theorem exec_cfgOpen (dt n : Nat) (s : State) :
    exec (.cfgOpen dt n) s = execCfgOpen dt n s := rfl
theorem exec_cfgClose (dt n : Nat) (s : State) :
    exec (.cfgClose dt n) s = execCfgClose dt n s := rfl
theorem exec_cfgAbandon (dt n : Nat) (s : State) :
    exec (.cfgAbandon dt n) s = execCfgAbandon dt n s := rfl
theorem exec_cfgCopy (dt n : Nat) (s : State) :
    exec (.cfgCopy dt n) s = execCfgCopy dt n s := rfl
theorem exec_cfgWrite (dt n : Nat) (s : State) :
    exec (.cfgWrite dt n) s = execCfgWrite dt n s := rfl
theorem exec_cfgRead (dt n : Nat) (s : State) :
    exec (.cfgRead dt n) s = execCfgRead dt n s := rfl
theorem exec_cfgBulk (dt n : Nat) (s : State) :
    exec (.cfgBulk dt n) s = execCfgBulk dt n s := rfl
theorem exec_cfgCheck (dt n : Nat) (s : State) :
    exec (.cfgCheck dt n) s = execCfgCheck dt n s := rfl
theorem exec_cfgSwap (dt n : Nat) (s : State) :
    exec (.cfgSwap dt n) s = execCfgSwap dt n s := rfl
theorem exec_cfgSwapCancel (dt n : Nat) (s : State) :
    exec (.cfgSwapCancel dt n) s = execCfgSwapCancel dt n s := rfl
theorem exec_cfgStatus (dt n : Nat) (s : State) :
    exec (.cfgStatus dt n) s = execCfgStatus dt n s := rfl
theorem exec_prgInfo (dt n : Nat) (s : State) :
    exec (.prgInfo dt n) s = execPrgInfo dt n s := rfl
theorem exec_prgLoadBegin (dt n : Nat) (s : State) :
    exec (.prgLoadBegin dt n) s = execPrgLoadBegin dt n s := rfl
theorem exec_prgLoadBlock (dt n : Nat) (s : State) :
    exec (.prgLoadBlock dt n) s = execPrgLoadBlock dt n s := rfl
theorem exec_prgLoadEnd (dt n : Nat) (s : State) :
    exec (.prgLoadEnd dt n) s = execPrgLoadEnd dt n s := rfl
theorem exec_valRead (dt n : Nat) (s : State) :
    exec (.valRead dt n) s = execValRead dt n s := rfl
theorem exec_valWrite (dt n : Nat) (s : State) :
    exec (.valWrite dt n) s = execValWrite dt n s := rfl
theorem exec_constWrite (dt n : Nat) (s : State) :
    exec (.constWrite dt n) s = execConstWrite dt n s := rfl
theorem exec_lpdRead (dt n : Nat) (s : State) :
    exec (.lpdRead dt n) s = execLpdRead dt n s := rfl
theorem exec_lpdWrite (dt n : Nat) (s : State) :
    exec (.lpdWrite dt n) s = execLpdWrite dt n s := rfl
theorem exec_frcSet (dt n : Nat) (s : State) :
    exec (.frcSet dt n) s = execFrcSet dt n s := rfl
theorem exec_frcRelease (dt n : Nat) (s : State) :
    exec (.frcRelease dt n) s = execFrcRelease dt n s := rfl
theorem exec_frcReleaseAll (dt n : Nat) (s : State) :
    exec (.frcReleaseAll dt n) s = execFrcReleaseAll dt n s := rfl
theorem exec_frcList (dt n : Nat) (s : State) :
    exec (.frcList dt n) s = execFrcList dt n s := rfl
theorem exec_longCommandComplete (dt n found : Nat) (s : State) :
    exec (.longCommandComplete dt n found) s = execLongCommandComplete dt n found s := rfl
theorem exec_datStatus (dt n : Nat) (s : State) :
    exec (.datStatus dt n) s = execDatStatus dt n s := rfl
theorem exec_datStop (dt n : Nat) (s : State) :
    exec (.datStop dt n) s = execDatStop dt n s := rfl
theorem exec_stkStatus (dt n : Nat) (s : State) :
    exec (.stkStatus dt n) s = execStkStatus dt n s := rfl
theorem exec_stkCancelAll (dt n : Nat) (s : State) :
    exec (.stkCancelAll dt n) s = execStkCancelAll dt n s := rfl
theorem exec_chStatus (dt n : Nat) (s : State) :
    exec (.chStatus dt n) s = execChStatus dt n s := rfl
theorem exec_chRevive (dt n : Nat) (s : State) :
    exec (.chRevive dt n) s = execChRevive dt n s := rfl
theorem exec_chTrimCapture (dt n : Nat) (s : State) :
    exec (.chTrimCapture dt n) s = execChTrimCapture dt n s := rfl
theorem exec_chTrimClear (dt n : Nat) (s : State) :
    exec (.chTrimClear dt n) s = execChTrimClear dt n s := rfl
theorem exec_chPulseTest (dt n : Nat) (s : State) :
    exec (.chPulseTest dt n) s = execChPulseTest dt n s := rfl
theorem exec_pairStatus (dt n : Nat) (s : State) :
    exec (.pairStatus dt n) s = execPairStatus dt n s := rfl
theorem exec_pairExchange (dt n : Nat) (s : State) :
    exec (.pairExchange dt n) s = execPairExchange dt n s := rfl
theorem exec_pairHandover (dt n : Nat) (s : State) :
    exec (.pairHandover dt n) s = execPairHandover dt n s := rfl
theorem exec_pairCancel (dt n : Nat) (s : State) :
    exec (.pairCancel dt n) s = execPairCancel dt n s := rfl
theorem exec_pairWithdraw (dt n : Nat) (s : State) :
    exec (.pairWithdraw dt n) s = execPairWithdraw dt n s := rfl
theorem exec_pairResync (dt n : Nat) (s : State) :
    exec (.pairResync dt n) s = execPairResync dt n s := rfl
theorem exec_recInfo (dt n : Nat) (s : State) :
    exec (.recInfo dt n) s = execRecInfo dt n s := rfl
theorem exec_recPeriod (dt n : Nat) (s : State) :
    exec (.recPeriod dt n) s = execRecPeriod dt n s := rfl
theorem exec_recCopy (dt n : Nat) (s : State) :
    exec (.recCopy dt n) s = execRecCopy dt n s := rfl
theorem exec_updStatus (dt n : Nat) (s : State) :
    exec (.updStatus dt n) s = execUpdStatus dt n s := rfl
theorem exec_updSchedule (dt n : Nat) (s : State) :
    exec (.updSchedule dt n) s = execUpdSchedule dt n s := rfl
theorem exec_updCancel (dt n : Nat) (s : State) :
    exec (.updCancel dt n) s = execUpdCancel dt n s := rfl
theorem exec_updChain (dt n : Nat) (s : State) :
    exec (.updChain dt n) s = execUpdChain dt n s := rfl
theorem exec_selftestFull (dt n : Nat) (s : State) :
    exec (.selftestFull dt n) s = execSelftestFull dt n s := rfl
theorem exec_diagCounters (dt n : Nat) (s : State) :
    exec (.diagCounters dt n) s = execDiagCounters dt n s := rfl
theorem exec_cmpSplit (dt n : Nat) (s : State) :
    exec (.cmpSplit dt n) s = execCmpSplit dt n s := rfl
theorem exec_cmpJoin (dt n : Nat) (s : State) :
    exec (.cmpJoin dt n) s = execCmpJoin dt n s := rfl
theorem exec_mpRestart (dt n : Nat) (s : State) :
    exec (.mpRestart dt n) s = execMpRestart dt n s := rfl
theorem exec_registerWrite (dt m addr : Nat) (value : Word) (s : State) :
    exec (.registerWrite dt m addr value) s = execRegisterWrite dt m addr value s := rfl
theorem exec_loRead (dt m addr : Nat) (s : State) :
    exec (.loRead dt m addr) s = execLoRead dt m addr s := rfl
theorem exec_loWrite (dt m addr : Nat) (value : Word) (s : State) :
    exec (.loWrite dt m addr value) s = execLoWrite dt m addr value s := rfl
theorem exec_hiWrite (dt m addr : Nat) (value : Word) (s : State) :
    exec (.hiWrite dt m addr value) s = execHiWrite dt m addr value s := rfl
theorem exec_rcRead (dt m addr : Nat) (s : State) :
    exec (.rcRead dt m addr) s = execRcRead dt m addr s := rfl
theorem exec_votedRead (dt m addr : Nat) (x y z : Word) (s : State) :
    exec (.votedRead dt m addr x y z) s = execVotedRead dt m addr x y z s := rfl
theorem exec_tmrScrub (dt : Nat) (upsets : List (Nat × Word × Word × Word)) (s : State) :
    exec (.tmrScrub dt upsets) s = execTmrScrub dt upsets s := rfl
theorem exec_violClear (dt m : Nat) (s : State) :
    exec (.violClear dt m) s = execViolClear dt m s := rfl
theorem exec_moduleResetRequest (dt m : Nat) (value : Word) (s : State) :
    exec (.moduleResetRequest dt m value) s = execModuleResetRequest dt m value s := rfl
theorem exec_mbxPost (dt m n : Nat) (value : Word) (s : State) :
    exec (.mbxPost dt m n value) s = execMbxPost dt m n value s := rfl
theorem exec_mbxTake (dt m n : Nat) (value : Word) (s : State) :
    exec (.mbxTake dt m n value) s = execMbxTake dt m n value s := rfl
theorem exec_mbxHrst (dt m n : Nat) (value : Word) (s : State) :
    exec (.mbxHrst dt m n value) s = execMbxHrst dt m n value s := rfl
theorem exec_timIncrWrite (dt m : Nat) (value : Word) (s : State) :
    exec (.timIncrWrite dt m value) s = execTimIncrWrite dt m value s := rfl
theorem exec_timStepArm (dt m : Nat) (value : Word) (s : State) :
    exec (.timStepArm dt m value) s = execTimStepArm dt m value s := rfl
theorem exec_timNowRead (dt m : Nat) (s : State) :
    exec (.timNowRead dt m) s = execTimNowRead dt m s := rfl
theorem exec_txqPop (dt m n : Nat) (value : Word) (s : State) :
    exec (.txqPop dt m n value) s = execTxqPop dt m n value s := rfl
theorem exec_datAppPush (dt m d : Nat) (value : Word) (s : State) :
    exec (.datAppPush dt m d value) s = execDatAppPush dt m d value s := rfl
theorem exec_arm (dt m j : Nat) (s : State) :
    exec (.arm dt m j) s = execArm dt m j s := rfl
theorem exec_disarm (dt m j : Nat) (s : State) :
    exec (.disarm dt m j) s = execDisarm dt m j s := rfl
theorem exec_reload (dt m j : Nat) (s : State) :
    exec (.reload dt m j) s = execReload dt m j s := rfl
theorem exec_stkCapInfoRead (dt m k : Nat) (s : State) :
    exec (.stkCapInfoRead dt m k) s = execStkCapInfoRead dt m k s := rfl
theorem exec_discover (dt m n : Nat) (value : Word) (s : State) :
    exec (.discover dt m n value) s = execDiscover dt m n value s := rfl
theorem exec_modeReqTask (dt m : Nat) (s : State) :
    exec (.modeReqTask dt m) s = execModeReqTask dt m s := rfl
theorem exec_modeReqFixed (dt m : Nat) (s : State) :
    exec (.modeReqFixed dt m) s = execModeReqFixed dt m s := rfl
theorem exec_restoreAck (dt m g : Nat) (value : Word) (s : State) :
    exec (.restoreAck dt m g value) s = execRestoreAck dt m g value s := rfl
theorem exec_outEn (dt m g : Nat) (value : Word) (s : State) :
    exec (.outEn dt m g value) s = execOutEn dt m g value s := rfl
theorem exec_fiEvPop (dt m k : Nat) (value : Word) (s : State) :
    exec (.fiEvPop dt m k value) s = execFiEvPop dt m k value s := rfl
theorem exec_canModeWrite (dt m n : Nat) (value : Word) (s : State) :
    exec (.canModeWrite dt m n value) s = execCanModeWrite dt m n value s := rfl
theorem exec_canTxPush (dt m n : Nat) (value : Word) (s : State) :
    exec (.canTxPush dt m n value) s = execCanTxPush dt m n value s := rfl
theorem exec_canRxSel (dt m n : Nat) (value : Word) (s : State) :
    exec (.canRxSel dt m n value) s = execCanRxSel dt m n value s := rfl
theorem exec_txePop (dt m n : Nat) (value : Word) (s : State) :
    exec (.txePop dt m n value) s = execTxePop dt m n value s := rfl
theorem exec_canRelease (dt m n : Nat) (s : State) :
    exec (.canRelease dt m n) s = execCanRelease dt m n s := rfl
theorem exec_canDiscard (dt m n : Nat) (s : State) :
    exec (.canDiscard dt m n) s = execCanDiscard dt m n s := rfl
theorem exec_canFlush (dt m n : Nat) (s : State) :
    exec (.canFlush dt m n) s = execCanFlush dt m n s := rfl
theorem exec_canRecover (dt m n : Nat) (s : State) :
    exec (.canRecover dt m n) s = execCanRecover dt m n s := rfl
theorem exec_canTscCap (dt m n : Nat) (value : Word) (s : State) :
    exec (.canTscCap dt m n value) s = execCanTscCap dt m n value s := rfl
theorem exec_bnkOwnWrite (dt m n : Nat) (value : Word) (s : State) :
    exec (.bnkOwnWrite dt m n value) s = execBnkOwnWrite dt m n value s := rfl
theorem exec_bankRetention (dt m n : Nat) (value : Word) (s : State) :
    exec (.bankRetention dt m n value) s = execBankRetention dt m n value s := rfl
theorem exec_bankWake (dt m n : Nat) (value : Word) (s : State) :
    exec (.bankWake dt m n value) s = execBankWake dt m n value s := rfl
theorem exec_lckRead (dt m i : Nat) (s : State) :
    exec (.lckRead dt m i) s = execLckRead dt m i s := rfl
theorem exec_lockRelease (dt m i : Nat) (value : Word) (s : State) :
    exec (.lockRelease dt m i value) s = execLockRelease dt m i value s := rfl
theorem exec_lockForce (dt m i : Nat) (value : Word) (s : State) :
    exec (.lockForce dt m i value) s = execLockForce dt m i value s := rfl
theorem exec_mpuSync (dt m : Nat) (s : State) :
    exec (.mpuSync dt m) s = execMpuSync dt m s := rfl
theorem exec_recSel (dt m : Nat) (value : Word) (s : State) :
    exec (.recSel dt m value) s = execRecSel dt m value s := rfl
theorem exec_pwrDomReq (dt m : Nat) (value : Word) (s : State) :
    exec (.pwrDomReq dt m value) s = execPwrDomReq dt m value s := rfl
theorem exec_floorRequest (dt m : Nat) (value : Word) (s : State) :
    exec (.floorRequest dt m value) s = execFloorRequest dt m value s := rfl
theorem exec_pcieTlp (dt : Nat) (write bar2 : Bool) (offset len : Nat) (data : List Byte) (s : State) :
    exec (.pcieTlp dt write bar2 offset len data) s = execPcieTlp dt write bar2 offset len data s := rfl
theorem exec_perstReset (dt : Nat) (s : State) :
    exec (.perstReset dt) s = execPerstReset dt s := rfl
theorem exec_pcieLinkChange (dt : Nat) (up : Bool) (speed width : Nat) (s : State) :
    exec (.pcieLinkChange dt up speed width) s = execPcieLinkChange dt up speed width s := rfl
theorem exec_bmeSet (dt : Nat) (on : Bool) (s : State) :
    exec (.bmeSet dt on) s = execBmeSet dt on s := rfl
theorem exec_msixVectorUnmask (dt v : Nat) (s : State) :
    exec (.msixVectorUnmask dt v) s = execMsixVectorUnmask dt v s := rfl
theorem exec_remoteRegisterAccess (dt dst etype mac : Nat) (payload : List Byte) (s : State) :
    exec (.remoteRegisterAccess dt dst etype mac payload) s = execRemoteRegisterAccess dt dst etype mac payload s := rfl
theorem exec_regacc (dt port : Nat) (hdr : Hdr) (mac : Nat) (payload : List Byte) (s : State) :
    exec (.regacc dt port hdr mac payload) s = execRegacc dt port hdr mac payload s := rfl
theorem exec_serviceLinkChange (dt : Nat) (up : Bool) (s : State) :
    exec (.serviceLinkChange dt up) s = execServiceLinkChange dt up s := rfl

end Sys2Proof.Machine
end

