-- ==== Sys2Proof/Laws/Frame.lean ====
section
/-!
SUPPORT. What the operations of the machine keep: the order code, the queue of waiting commands and the bytes of both
memories. One lemma for each operation on the state that changes none of them.
-/
namespace Sys2Proof.Machine

/-- What most operations keep. -/
def State.keep (s : State) : Order × List Instr × Sparse Byte × Sparse Byte := (s.order, s.pending, s.mem.sram, s.mem.lpd)
theorem State.keep_mk {x0 x1 x2 x3 x4 x5 x6 x7 x8 x9 x10 x11 x12 x13 x14 x15 x16 x17 x18 x19 x20 x21 x22 x23 x24 x25
    x26 x27 x28 x29 x30 x31 x32 x33 x34 x35 x36 x37 x38 x39 x40 x41 x42} : State.keep (State.mk x0 x1 x2 x3 x4 x5 x6 x7 x8
    x9 x10 x11 x12 x13 x14 x15 x16 x17 x18 x19 x20 x21 x22 x23 x24 x25 x26 x27 x28 x29 x30 x31 x32 x33 x34 x35 x36 x37 x38
    x39 x40 x41 x42) = (x0, x42, x37.sram, x37.lpd) := by simp only [State.keep]
theorem State.keep_eta (s : State) : (s.order, s.pending, s.mem.sram, s.mem.lpd) = s.keep := by simp only [State.keep]
theorem foldl_keep {α : Type} (f : State → α → State) (l : List α) (s : State) (h : ∀ t x, (f t x).keep = t.keep) :
    (l.foldl f s).keep = s.keep := by
  induction l generalizing s with
  | nil => rfl
  | cons x r ih => exact (ih (f s x)).trans (h s x)
theorem pair_keep {α : Type} {p : State × α} {t : State} {x : α} (h : p = (t, x)) : t.keep = p.1.keep := by rw [h]
theorem pair_keep2 {α : Type} {p : α × State} {t : State} {x : α} (h : p = (x, t)) : t.keep = p.2.keep := by rw [h]
theorem State.setReg_keep (s : State) (a : Nat) (v : Word) : (State.setReg s a v).keep = s.keep := by
  unfold State.setReg
  simp only [State.keep_mk, State.keep_eta]
theorem State.setRegF_keep (s : State) (a hi lo v : Nat) : (State.setRegF s a hi lo v).keep = s.keep := by
  unfold State.setRegF
  simp only [State.setReg_keep]
theorem State.setRegB_keep (s : State) (a i : Nat) (b : Bool) : (State.setRegB s a i b).keep = s.keep := by
  unfold State.setRegB
  simp only [State.setReg_keep]
theorem State.countF_keep (s : State) (a hi lo n : Nat) : (State.countF s a hi lo n).keep = s.keep := by
  unfold State.countF
  simp only [State.setRegF_keep]
theorem State.count_keep (s : State) (a : Nat) : (State.count s a).keep = s.keep := by
  unfold State.count
  simp only [State.countF_keep]
theorem State.countWrap_keep (s : State) (a : Nat) : (State.countWrap s a).keep = s.keep := by
  unfold State.countWrap
  simp only [State.setReg_keep]
theorem State.setReg64_keep (s : State) (lo hi : Nat) (v : Nat) : (State.setReg64 s lo hi v).keep = s.keep := by
  unfold State.setReg64
  simp only [State.setReg_keep]
theorem State.emit_keep (s : State) (o : Output) : (State.emit s o).keep = s.keep := by
  unfold State.emit
  simp only [State.keep_mk, State.keep_eta]
theorem State.tally_keep (s : State) (off n : Nat) : (State.tally s off n).keep = s.keep := by
  unfold State.tally
  simp only [State.keep_mk, State.keep_eta]
theorem State.extreme_keep (s : State) (off : Nat) (v : Int) : (State.extreme s off v).keep = s.keep := by
  unfold State.extreme
  simp only [State.keep_mk, State.keep_eta]
theorem State.taskStat_keep (s : State) (n : Nat) (f : TaskStat → TaskStat) : (State.taskStat s n f).keep = s.keep := by
  unfold State.taskStat
  simp only [State.keep_mk, State.keep_eta]
theorem State.noteRetired_keep (s : State) (r : Retired) : (State.noteRetired s r).keep = s.keep := by
  unfold State.noteRetired
  simp only [State.keep_mk, State.keep_eta, State.tally_keep]
theorem State.setImgW_keep (s : State) (space task word : Nat) (v : Word) : (State.setImgW s space task word v).keep =
    s.keep := by
  unfold State.setImgW
  simp only [State.keep_mk, State.keep_eta]
theorem State.setImgByte_keep (s : State) (space n : Nat) (b : Byte) : (State.setImgByte s space n b).keep = s.keep := by
  unfold State.setImgByte
  simp only [State.setImgW_keep]
theorem State.setImgBytes_keep (s : State) (sp k : Nat) (l : List Byte) : (s.setImgBytes sp k l).keep = s.keep := by
  induction l generalizing s k with
  | nil => rfl
  | cons w ws ih => unfold State.setImgBytes; refine (ih _ _).trans ?_; first | rfl | exact State.setImgByte_keep ..
theorem State.setImgWords_keep (s : State) (sp t k : Nat) (l : List Word) : (s.setImgWords sp t k l).keep = s.keep := by
  induction l generalizing s k with
  | nil => rfl
  | cons w ws ih => unfold State.setImgWords; refine (ih _ _).trans ?_; first | rfl | exact State.setImgW_keep ..
theorem State.setImgBit_keep (s : State) (space n : Nat) (b : Bool) : (State.setImgBit s space n b).keep = s.keep := by
  unfold State.setImgBit
  simp only [State.setImgW_keep]
theorem State.sendMsix_keep (s : State) (v : Nat) : (State.sendMsix s v).keep = s.keep := by
  unfold State.sendMsix
  simp only [State.emit_keep]
theorem State.signal_keep (s : State) (v : Nat) : (State.signal s v).keep = s.keep := by
  unfold State.signal
  simp only [apply_ite State.keep, ite_self, State.setRegB_keep, State.sendMsix_keep]
theorem State.irqChange_keep (s : State) (v a : Nat) (w : Word) : (State.irqChange s v a w).keep = s.keep := by
  unfold State.irqChange
  simp only [apply_ite State.keep, ite_self, State.setReg_keep, State.signal_keep]
theorem State.raise_keep (s : State) (v : Nat) (bits : Word) : (State.raise s v bits).keep = s.keep := by
  unfold State.raise
  simp only [State.irqChange_keep]
theorem State.raiseBit_keep (s : State) (v i : Nat) : (State.raiseBit s v i).keep = s.keep := by
  unfold State.raiseBit
  simp only [State.raise_keep]
theorem State.clearSts_keep (s : State) (v : Nat) (keep bits : Word) : (State.clearSts s v keep bits).keep = s.keep := by
  unfold State.clearSts
  simp only [apply_ite State.keep, ite_self, State.setReg_keep, State.signal_keep]
theorem State.takeRegs_keep (s t : State) (lo hi : Nat) : (s.takeRegs t lo hi).keep = s.keep := rfl
theorem State.takeUnit_keep (s t : State) (a : Nat) : (s.takeUnit t a).keep = s.keep := by
  unfold State.takeUnit; split <;> rfl
theorem State.misused_keep (s : State) (rule a : Nat) : (s.misused rule a).keep = s.keep :=
  State.takeUnit_keep s _ a
theorem State.canCapture_keep (s : State) (n : Nat) : (State.canCapture s n).keep = s.keep := by
  unfold State.canCapture
  simp only [State.setReg_keep]
theorem State.carry_keep (s : State) : (State.carry s).keep = s.keep := by
  unfold State.carry
  simp only [State.keep_mk, State.keep_eta, apply_ite State.keep, ite_self, State.setRegB_keep, State.raiseBit_keep,
      State.misused_keep, State.canCapture_keep]
theorem State.tick_keep (s : State) (n : Nat) : (State.tick s n).keep = s.keep := by
  unfold State.tick
  simp only [State.keep_mk, State.keep_eta]
theorem State.advanceIn_keep (k n : Nat) (s : State) : (State.advanceIn k n s).keep = s.keep := by
  induction k generalizing n s with
  | zero => exact State.tick_keep s n
  | succ k ih =>
    unfold State.advanceIn
    dsimp only
    split
    · exact State.tick_keep s n
    · exact (ih _ _).trans ((State.carry_keep _).trans (State.tick_keep _ _))
theorem State.run__keep (s : State) (n : Nat) : (State.run_ s n).keep = s.keep := by
  unfold State.run_
  simp only [State.advanceIn_keep]
theorem State.note_keep (s : State) (es : List Ev) : (State.note s es).keep = s.keep := by
  unfold State.note
  simp only [State.keep_mk, State.keep_eta]
theorem State.captureViol_keep (s : State) : (State.captureViol s).keep = s.keep := by
  unfold State.captureViol
  split <;> simp only [apply_ite State.keep, ite_self, State.setReg_keep, State.setRegB_keep, State.raiseBit_keep]
theorem State.violation_keep (s : State) (master kind : Nat) (write : Bool) (size addr : Nat) : (State.violation s
    master kind write size addr).keep = s.keep := by
  unfold State.violation
  simp only [State.keep_mk, State.keep_eta, State.count_keep, State.tally_keep, State.captureViol_keep]
theorem State.clearViol_keep (s : State) : (State.clearViol s).keep = s.keep := by
  unfold State.clearViol
  simp only [State.keep_mk, State.keep_eta, State.setReg_keep, State.captureViol_keep]
theorem State.finish_keep (s : State) (id status detail : Nat) (results : List Word) : (State.finish s id status
    detail results).keep = s.keep := by
  unfold State.finish
  simp only [State.keep_mk, State.keep_eta]
theorem State.finishOk_keep (s : State) (id : Nat) (results : List Word) : (State.finishOk s id results).keep = s.keep := by
  unfold State.finishOk
  simp only [State.finish_keep]
theorem State.finishErr_keep (s : State) (id status : Nat) : (State.finishErr s id status).keep = s.keep := by
  unfold State.finishErr
  simp only [State.finish_keep]
theorem State.emitLink_keep (s : State) (f : LinkFrame) : (State.emitLink s f).keep = s.keep := by
  unfold State.emitLink
  simp only [apply_ite State.keep, ite_self, State.emit_keep]
theorem State.sendPlain_keep (s : State) (b : LinkBody) : (State.sendPlain s b).keep = s.keep := by
  unfold State.sendPlain
  split <;> simp only [State.emitLink_keep]
theorem State.sendSeq_keep (s : State) (gen : Nat) (b : LinkBody) : (State.sendSeq s gen b).keep = s.keep := by
  unfold State.sendSeq
  simp only [State.keep_mk, State.keep_eta, apply_ite State.keep, ite_self, State.setRegB_keep, State.raiseBit_keep,
      State.emitLink_keep]
theorem State.sendRecs_keep (s : State) (g : Nat) (rs : List DeltaRec) : (State.sendRecs s g rs).keep = s.keep := by
  unfold State.sendRecs
  simp only [foldl_keep, apply_ite State.keep, ite_self, implies_true, State.sendSeq_keep]
theorem State.record_keep (s : State) (g : Nat) (rs : List DeltaRec) : (State.record s g rs).keep = s.keep := by
  unfold State.record
  simp only [State.keep_mk, State.keep_eta, apply_ite State.keep, ite_self, State.sendRecs_keep]
theorem State.touchInput_keep (s : State) (space word : Nat) : (State.touchInput s space word).keep = s.keep := by
  unfold State.touchInput
  simp only [State.keep_mk, State.keep_eta, apply_ite State.keep, ite_self]
theorem State.fresh_keep (s : State) : (State.fresh s).2.keep = s.keep := by
  unfold State.fresh
  simp only [State.keep_mk, State.keep_eta]
theorem State.setTaskState_keep (s : State) (n v : Nat) : (State.setTaskState s n v).keep = s.keep := by
  unfold State.setTaskState
  simp only [State.setRegF_keep]
theorem State.overrun_keep (s : State) (n : Nat) : (State.overrun s n).keep = s.keep := by
  unfold State.overrun
  simp only [State.count_keep, State.tally_keep, State.taskStat_keep, State.raiseBit_keep]
theorem State.setArrival_keep (s : State) (n : Nat) (t : Option Nat) : (State.setArrival s n t).keep = s.keep := by
  unfold State.setArrival
  simp only [State.keep_mk, State.keep_eta]
theorem State.arrive_keep (s : State) (n : Nat) : (State.arrive s n).keep = s.keep := by
  unfold State.arrive
  repeat' (first | with_reducible rfl
                 | simp only [apply_ite State.keep, State.countWrap_keep, State.note_keep, State.setTaskState_keep,
                     State.overrun_keep, State.setArrival_keep]
                 | split)
theorem State.arriveMask_keep (s : State) (mask : Word) : (State.arriveMask s mask).keep = s.keep := by
  unfold State.arriveMask
  simp only [foldl_keep, apply_ite State.keep, ite_self, implies_true, State.arrive_keep]
theorem State.setMode_keep (s : State) (m : PlmMode) : (State.setMode s m).keep = s.keep := by
  unfold State.setMode
  simp only [State.keep_mk, State.keep_eta, apply_ite State.keep, ite_self, State.raiseBit_keep, State.record_keep]
theorem State.dropPending_keep (s : State) : (State.dropPending s).keep = s.keep := by
  unfold State.dropPending
  repeat' (first | with_reducible rfl | simp only [State.setTaskState_keep] | split
                 | refine (foldl_keep _ _ _ (fun _ _ => ?_)).trans ?_)
theorem State.idleTrigger_keep (s : State) : (State.idleTrigger s).keep = s.keep := by
  unfold State.idleTrigger
  repeat' (first | with_reducible rfl | simp only [State.keep_mk, State.keep_eta, apply_ite State.keep, ite_self] | split)
theorem State.goIdle_keep (s : State) : (State.goIdle s).keep = s.keep := by
  unfold State.goIdle
  simp only [State.setMode_keep, State.dropPending_keep, State.idleTrigger_keep]
theorem State.setRole_keep (s : State) (r : Nat) : (State.setRole s r).keep = s.keep := by
  unfold State.setRole
  simp only [State.keep_mk, State.keep_eta, apply_ite State.keep, ite_self, State.setRegF_keep, State.raiseBit_keep,
      State.goIdle_keep]
theorem State.swapTrigger_keep (s : State) (lag : Nat) (hit : Trigger → Bool) : (State.swapTrigger s lag hit).keep =
    s.keep := by
  unfold State.swapTrigger
  split <;> simp only [State.keep_mk, State.keep_eta, apply_ite State.keep, ite_self]
theorem State.startHand_keep (s : State) (k : HandKind) (slot : Option Nat) : (State.startHand s k slot).keep = s.keep := by
  unfold State.startHand
  simp only [State.keep_mk, State.keep_eta, State.setRegB_keep, State.setRole_keep]
theorem State.asked_keep (s : State) (k : HandKind) : (State.asked s k).keep = s.keep := by
  unfold State.asked
  simp only [State.keep_mk, State.keep_eta, apply_ite State.keep, ite_self]
theorem State.pairTrigger_keep (s : State) (hit : Trigger → Bool) : (State.pairTrigger s hit).keep = s.keep := by
  unfold State.pairTrigger
  split <;> simp only [State.keep_mk, State.keep_eta, apply_ite State.keep, ite_self, State.setRegB_keep,
      State.finishErr_keep, State.startHand_keep, State.asked_keep]
theorem State.taskTrigger_keep (s : State) (n : Nat) : (State.taskTrigger s n).keep = s.keep := by
  unfold State.taskTrigger
  simp only [apply_ite State.keep, ite_self, State.swapTrigger_keep, State.pairTrigger_keep]
theorem State.cycleTrigger_keep (s : State) : (State.cycleTrigger s).keep = s.keep := by
  unfold State.cycleTrigger
  simp only [State.swapTrigger_keep, State.pairTrigger_keep]
theorem State.endCycle_keep (s : State) : (State.endCycle s).keep = s.keep := by
  unfold State.endCycle
  simp only [State.keep_mk, State.keep_eta, apply_ite State.keep, ite_self, State.count_keep, State.raiseBit_keep,
      State.setMode_keep, State.cycleTrigger_keep]
theorem State.turnTo_keep (s : State) (n : Nat) : (State.turnTo s n).keep = s.keep := by
  unfold State.turnTo
  split <;> simp only [State.keep_mk, State.keep_eta, State.endCycle_keep]
theorem State.skipUnserved_keep (s : State) : (State.skipUnserved s).keep = s.keep := by
  unfold State.skipUnserved
  split <;> simp only [apply_ite State.keep, ite_self, State.turnTo_keep]
theorem State.passTurn_keep (s : State) (n : Nat) : (State.passTurn s n).keep = s.keep := by
  unfold State.passTurn
  simp only [State.keep_mk, State.keep_eta, apply_ite State.keep, ite_self]
theorem State.lastEnded_keep (s : State) : (State.lastEnded s).keep = s.keep := by
  unfold State.lastEnded
  simp only [State.keep_mk, State.keep_eta, apply_ite State.keep, ite_self]
theorem State.settle_keep (s : State) : (State.settle s).keep = s.keep := by
  unfold State.settle
  repeat' (first | with_reducible rfl
                 | simp only [apply_ite State.keep, ite_self, State.setMode_keep, State.turnTo_keep] | split)
theorem State.setCan_keep (s : State) (n : Nat) (c : Can) : (State.setCan s n c).keep = s.keep := by
  unfold State.setCan
  simp only [State.keep_mk, State.keep_eta]
theorem State.setCanBus_keep (s : State) (n v : Nat) : (State.setCanBus s n v).keep = s.keep := by
  unfold State.setCanBus
  simp only [apply_ite State.keep, ite_self, State.setRegF_keep, State.raiseBit_keep]
theorem State.enterBusOff_keep (s : State) (n : Nat) : (State.enterBusOff s n).keep = s.keep := by
  unfold State.enterBusOff
  simp only [apply_ite State.keep, ite_self, State.setRegF_keep, State.countF_keep, State.setCanBus_keep]
theorem State.setCounts_keep (s : State) (n tec rec : Nat) : (State.setCounts s n tec rec).keep = s.keep := by
  unfold State.setCounts
  simp only [apply_ite State.keep, ite_self, State.setReg_keep, State.setCanBus_keep, State.enterBusOff_keep]
theorem State.canLater_keep (s : State) (n mode : Nat) (forced : Bool) : (State.canLater s n mode forced).keep =
    s.keep := by
  unfold State.canLater
  simp only [State.keep_mk, State.keep_eta, State.setCan_keep]
theorem State.canBoundary_keep (s : State) (n : Nat) : (State.canBoundary s n).keep = s.keep := by
  unfold State.canBoundary
  split <;> simp only [apply_ite State.keep, ite_self, State.setRegB_keep, State.setCan_keep, State.setCanBus_keep,
      State.setCounts_keep]
theorem State.boundaries_keep (s : State) : (State.boundaries s).keep = s.keep := by
  unfold State.boundaries
  simp only [State.canBoundary_keep]
theorem State.canDrive_keep (s : State) (f : State → State) (hf : ∀ t, (f t).keep = t.keep) : (State.canDrive s
    f).keep = s.keep := by
  unfold State.canDrive
  simp only [foldl_keep, apply_ite State.keep, ite_self, implies_true, State.canLater_keep, hf]
theorem State.recBegin_keep (s : State) : (State.recBegin s).keep = s.keep := by
  unfold State.recBegin
  simp only [State.keep_mk, State.keep_eta]
theorem State.putRecord_keep (s : State) (r : RecWrite) : (State.putRecord s r).keep = s.keep := by
  unfold State.putRecord
  simp only [State.keep_mk, State.keep_eta, apply_ite State.keep, ite_self, State.raiseBit_keep]
theorem State.recReady_keep (s : State) : (State.recReady s).keep = s.keep := by
  unfold State.recReady
  simp only [State.keep_mk, State.keep_eta, apply_ite State.keep, ite_self, State.recBegin_keep]
theorem State.recSteps_keep (l : List RecWrite) (s : State) : (State.recSteps l s).keep = s.keep := by
  induction l generalizing s with
  | nil => rfl
  | cons r rest ih =>
    unfold State.recSteps
    dsimp only
    split
    · rfl
    · split
      · exact State.recReady_keep s
      · exact (ih _).trans ((State.putRecord_keep ..).trans (State.recReady_keep s))
theorem State.recWork_keep (s : State) : s.recWork.keep = s.keep := State.recSteps_keep _ s
theorem State.recFlush_keep (s : State) : (State.recFlush s).keep = s.keep := by
  unfold State.recFlush
  simp only [State.keep_mk, State.keep_eta, foldl_keep, implies_true, State.putRecord_keep]
theorem State.go_keep (s : State) (n : Nat) : (s.go n).keep = s.keep := by
  unfold State.go
  split
  · rfl
  · rw [State.recWork_keep, State.boundaries_keep, State.run__keep, State.settle_keep, State.run__keep]
theorem State.advance_keep (s : State) (n : Nat) : (s.advance n).keep = s.keep := State.go_keep _ _
theorem State.ahead_keep (s : State) (n : Nat) : (s.ahead n).keep = s.keep := State.go_keep _ _
theorem State.until__keep (s : State) (n : Nat) : (s.until_ n).keep = s.keep := State.ahead_keep _ _
theorem State.meet_keep (s : State) (es : List Ev) : (State.meet s es).keep = s.keep := by
  unfold State.meet
  simp only [apply_ite State.keep, ite_self, State.note_keep, State.ahead_keep]
theorem State.clock_keep (s : State) (dt : Nat) (es : List Ev) : (State.clock s dt es).keep = s.keep := by
  unfold State.clock
  simp only [State.advance_keep, State.meet_keep]
theorem State.setDat_keep (s : State) (d : Nat) (x : Datum) : (State.setDat s d x).keep = s.keep := by
  unfold State.setDat
  simp only [State.keep_mk, State.keep_eta]
theorem State.modDat_keep (s : State) (d : Nat) (f : Datum → Datum) : (State.modDat s d f).keep = s.keep := by
  unfold State.modDat
  simp only [State.setDat_keep]
theorem State.recordDat_keep (s : State) (d : Nat) : (State.recordDat s d).keep = s.keep := by
  unfold State.recordDat
  simp only [State.record_keep]
theorem State.datIrq_keep (s : State) (d i : Nat) : (State.datIrq s d i).keep = s.keep := by
  unfold State.datIrq
  simp only [State.raiseBit_keep]
theorem State.refreshHz_keep (s : State) (d : Nat) : (State.refreshHz s d).keep = s.keep := by
  unfold State.refreshHz
  simp only [apply_ite State.keep, ite_self, State.modDat_keep, State.datIrq_keep]
theorem State.jump_keep (s : State) (d : Nat) (g : Seg) (at_ : Rat) : (State.jump s d g at_).keep = s.keep := by
  unfold State.jump
  simp only [apply_ite State.keep, ite_self, State.setReg_keep, State.count_keep]
theorem State.enqueue_keep (s : State) (d : Nat) (g : Seg) (wraps : Option Int) (seq : Nat) : (State.enqueue s d g
    wraps seq).keep = s.keep := by
  unfold State.enqueue
  simp only [apply_ite State.keep, ite_self, State.modDat_keep, State.recordDat_keep, State.refreshHz_keep, State.jump_keep]
theorem State.newRatio_keep (s : State) (src e : Nat) (g : Seg) : (State.newRatio s src e g).keep = s.keep := by
  unfold State.newRatio
  simp only [apply_ite State.keep, ite_self, State.modDat_keep]
theorem State.deriveInto_keep (s : State) (src e : Nat) (g : Seg) : (State.deriveInto s src e g).keep = s.keep := by
  unfold State.deriveInto
  simp only [State.enqueue_keep, State.newRatio_keep]
theorem State.setEngaged_keep (s : State) (e : Nat) : (State.setEngaged s e).keep = s.keep := by
  unfold State.setEngaged
  simp only [State.modDat_keep, State.recordDat_keep]
theorem State.feed_keep (k : Nat) (s : State) (d : Nat) (g : Seg) (b : Bool) : (State.feed k s d g b).keep = s.keep := by
  induction k generalizing s d g b with
  | zero => rfl
  | succ k ih =>
    have into : ∀ (t : State) (e : Nat) (h : Seg), (match ((t.deriveInto d e h).dat e).queue[(t.dat e).queue.length]? with
        | some j => State.feed k (t.deriveInto d e h) e j (t.startsNow e j) | none => t.deriveInto d e h).keep =
            t.keep := by
      intro t e h
      split
      · exact (ih ..).trans (State.deriveInto_keep ..)
      · exact State.deriveInto_keep ..
    unfold State.feed
    dsimp only
    split
    · refine (foldl_keep _ _ _ (fun t e => ?_)).trans (foldl_keep _ _ _ (fun t e => into t e g))
      exact (foldl_keep _ _ _ (fun u h => into u e h)).trans (State.setEngaged_keep ..)
    · exact foldl_keep _ _ _ (fun t e => into t e g)
theorem State.append_keep (s : State) (d : Nat) (g : Seg) (seq : Nat) : (State.append s d g seq).keep = s.keep := by
  unfold State.append
  repeat' (first | with_reducible rfl | simp only [apply_ite State.keep, ite_self, State.enqueue_keep, State.feed_keep]
                 | split)
theorem State.takeIn_keep (s : State) (src e : Nat) (h : Seg) : (State.takeIn s src e h).keep = s.keep := by
  unfold State.takeIn
  repeat' (first | with_reducible rfl | simp only [State.deriveInto_keep, State.feed_keep] | split)
theorem State.engage_keep (s : State) (e : Nat) (now : Option Nat) : (State.engage s e now).keep = s.keep := by
  unfold State.engage
  simp only [foldl_keep, implies_true, State.setEngaged_keep, State.takeIn_keep]
theorem State.engageWaiting_keep (s : State) (d t0 : Nat) : (State.engageWaiting s d t0).keep = s.keep := by
  unfold State.engageWaiting
  simp only [foldl_keep, apply_ite State.keep, ite_self, implies_true, State.engage_keep]
theorem State.datStop_keep (s : State) (d : Nat) : (State.datStop s d).keep = s.keep := by
  unfold State.datStop
  repeat' (first | with_reducible rfl
                 | simp only [apply_ite State.keep, State.finishOk_keep, State.modDat_keep, State.recordDat_keep,
                     State.datIrq_keep, State.refreshHz_keep]
                 | split)
theorem State.retain_keep (s : State) (d : Nat) (g : Seg) : (State.retain s d g).keep = s.keep := by
  unfold State.retain
  simp only [State.keep_mk, State.keep_eta]
theorem State.segmentEnd_keep (s : State) (d : Nat) : (State.segmentEnd s d).keep = s.keep := by
  unfold State.segmentEnd
  repeat' (first | with_reducible rfl
                 | simp only [apply_ite State.keep, ite_self, State.modDat_keep, State.recordDat_keep, State.datIrq_keep,
                     State.refreshHz_keep, State.jump_keep, State.datStop_keep, State.retain_keep]
                 | split)
theorem State.segmentStart_keep (s : State) (d : Nat) : (State.segmentStart s d).keep = s.keep := by
  unfold State.segmentStart
  repeat' (first | with_reducible rfl
                 | simp only [apply_ite State.keep, ite_self, State.modDat_keep, State.recordDat_keep,
                     State.refreshHz_keep, State.jump_keep, State.engageWaiting_keep]
                 | split)
theorem State.datumStopped_keep (s : State) (d : Nat) : (State.datumStopped s d).keep = s.keep := by
  unfold State.datumStopped
  repeat' (first | with_reducible rfl | simp only [apply_ite State.keep, ite_self, State.datStop_keep] | split)
theorem State.push_keep (s : State) (d : Nat) : (State.push s d).keep = s.keep := by
  unfold State.push
  simp only [apply_ite State.keep, ite_self, State.setRegF_keep, State.misused_keep, State.append_keep]
theorem State.modEnc_keep (s : State) (d : Nat) (f : Encoder → Encoder) : (State.modEnc s d f).keep = s.keep := by
  unfold State.modEnc
  simp only [State.modDat_keep]
theorem State.encoderEdge_keep (s : State) (d : Nat) (a b : Bool) : (State.encoderEdge s d a b).keep = s.keep := by
  unfold State.encoderEdge
  repeat' (first | with_reducible rfl
                 | simp only [apply_ite State.keep, State.countF_keep, State.datIrq_keep, State.modEnc_keep] | split)
theorem State.encoderZ_keep (s : State) (d : Nat) : (State.encoderZ s d).keep = s.keep := by
  unfold State.encoderZ
  repeat' (first | with_reducible rfl
                 | simp only [apply_ite State.keep, ite_self, State.countF_keep, State.datIrq_keep, State.modEnc_keep]
                 | split)
theorem State.fitError_keep (s : State) (d : Nat) (q : Rat) : (State.fitError s d q).keep = s.keep := by
  unfold State.fitError
  simp only [apply_ite State.keep, ite_self, State.setReg_keep]
theorem State.encoderFit_keep (s : State) (d raw back : Nat) : (State.encoderFit s d raw back).keep = s.keep := by
  unfold State.encoderFit
  simp only [apply_ite State.keep, ite_self, State.modDat_keep, State.append_keep, State.fitError_keep]
theorem State.replace_keep (k : Nat) (s : State) (d : Nat) (h : Seg) (w : Option Int) (g : Seg) :
    (State.replace k s d h w g).keep = s.keep := by
  induction k generalizing s d h w g with
  | zero => rfl
  | succ k ih =>
    unfold State.replace
    dsimp only
    refine (foldl_keep _ _ _ (fun t e => ?_)).trans ?_
    · split
      · exact ih ..
      · rfl
    · rw [State.refreshHz_keep, State.recordDat_keep]; rfl
theorem State.upSeg_keep (s : State) (d : Nat) (g : Seg) (epoch : Nat) : (State.upSeg s d g epoch).keep = s.keep := by
  unfold State.upSeg
  repeat' (first | with_reducible rfl
                 | simp only [apply_ite State.keep, ite_self, State.countF_keep, State.modDat_keep, State.datIrq_keep,
                     State.append_keep, State.replace_keep]
                 | split)
theorem State.upTimeout_keep (s : State) (d : Nat) : (State.upTimeout s d).keep = s.keep := by
  unfold State.upTimeout
  simp only [apply_ite State.keep, ite_self, State.modDat_keep, State.datIrq_keep]
theorem State.handSegments_keep (s : State) (d : Nat) : (State.handSegments s d).keep = s.keep := by
  unfold State.handSegments
  simp only [State.keep_mk, State.keep_eta, apply_ite State.keep, ite_self, State.modDat_keep, State.recordDat_keep]
theorem State.setAxis_keep (s : State) (a : Nat) (q : List Seg) (seq : Nat) : (State.setAxis s a q seq).keep = s.keep := by
  unfold State.setAxis
  simp only [State.keep_mk, State.keep_eta, State.record_keep]
theorem State.cutPorts_keep (s : State) (pub stream last : Nat) (q : List Seg) : (State.cutPorts s pub stream last
    q).keep = s.keep := by
  unfold State.cutPorts
  simp only [State.keep_mk, State.keep_eta]
theorem State.truncate_keep (s : State) (d : Nat) (q : List Seg) : (State.truncate s d q).keep = s.keep := by
  unfold State.truncate
  simp only [State.modDat_keep, State.recordDat_keep, State.refreshHz_keep, State.cutPorts_keep]
theorem State.truncateAxes_keep (s : State) (d t : Nat) : (State.truncateAxes s d t).keep = s.keep := by
  unfold State.truncateAxes
  simp only [State.keep_mk, State.keep_eta, foldl_keep, apply_ite State.keep, ite_self, implies_true,
      State.setAxis_keep, State.cutPorts_keep]
theorem State.truncateAll_keep (k : Nat) (s : State) (d : Nat) (q : List Seg) : (State.truncateAll k s d q).keep =
    s.keep := by
  induction k generalizing s d q with
  | zero => exact State.truncate_keep s d q
  | succ k ih =>
    unfold State.truncateAll
    dsimp only
    split
    · exact State.truncate_keep s d q
    · refine (foldl_keep _ _ _ (fun t e => ?_)).trans ((State.truncateAxes_keep ..).trans (State.truncate_keep s d q))
      split
      · rfl
      · exact ih ..
theorem State.stopDatum_keep (s : State) (d id : Nat) : (State.stopDatum s d id).keep = s.keep := by
  unfold State.stopDatum
  simp only [apply_ite State.keep, ite_self, State.finishErr_keep, State.modDat_keep, State.truncateAll_keep]
theorem State.setStake_keep (s : State) (i : Nat) (e : Stake) : (State.setStake s i e).keep = s.keep := by
  unfold State.setStake
  simp only [State.keep_mk, State.keep_eta]
theorem State.convStart_keep (s : State) (g : Nat) : (State.convStart s g).keep = s.keep := by
  unfold State.convStart
  simp only [State.keep_mk, State.keep_eta, apply_ite State.keep, ite_self, State.countF_keep, State.raiseBit_keep]
theorem State.convStartMask_keep (s : State) (mask : Nat) : (State.convStartMask s mask).keep = s.keep := by
  unfold State.convStartMask
  simp only [apply_ite State.keep, ite_self, State.convStart_keep]
theorem State.hostStake_keep (s : State) (i : Nat) (e : Stake) : (State.hostStake s i e).keep = s.keep := by
  unfold State.hostStake
  simp only [State.record_keep, State.setStake_keep]
theorem State.armEntry_keep (s : State) (i : Nat) : (State.armEntry s i).keep = s.keep := by
  unfold State.armEntry
  simp only [apply_ite State.keep, ite_self, State.hostStake_keep]
theorem State.disarmEntry_keep (s : State) (i : Nat) : (State.disarmEntry s i).keep = s.keep := by
  unfold State.disarmEntry
  simp only [apply_ite State.keep, ite_self, State.hostStake_keep]
theorem State.reloadEntry_keep (s : State) (i : Nat) : (State.reloadEntry s i).keep = s.keep := by
  unfold State.reloadEntry
  simp only [apply_ite State.keep, ite_self, State.misused_keep, State.hostStake_keep]
theorem State.writeTarget_keep (s : State) (i v : Nat) : (State.writeTarget s i v).keep = s.keep := by
  unfold State.writeTarget
  simp only [apply_ite State.keep, ite_self, State.misused_keep, State.hostStake_keep]
theorem State.swapEntry_keep (s : State) (i : Nat) : (State.swapEntry s i).keep = s.keep := by
  unfold State.swapEntry
  simp only [State.setStake_keep]
theorem State.swapStakes_keep (s : State) : (State.swapStakes s).keep = s.keep := by
  unfold State.swapStakes
  simp only [State.keep_mk, State.keep_eta, foldl_keep, implies_true, State.swapEntry_keep]
theorem State.provArm_keep (s : State) (eng i : Nat) : (State.provArm s eng i).keep = s.keep := by
  unfold State.provArm
  simp only [apply_ite State.keep, ite_self, State.setStake_keep]
theorem State.provDisarm_keep (s : State) (eng i : Nat) : (State.provDisarm s eng i).keep = s.keep := by
  unfold State.provDisarm
  simp only [apply_ite State.keep, ite_self, State.setStake_keep]
theorem State.provTarget_keep (s : State) (eng i v : Nat) : (State.provTarget s eng i v).keep = s.keep := by
  unfold State.provTarget
  simp only [State.setStake_keep]
theorem State.provReload_keep (s : State) (eng i : Nat) : (State.provReload s eng i).keep = s.keep := by
  unfold State.provReload
  simp only [apply_ite State.keep, ite_self, State.misused_keep, State.setStake_keep]
theorem State.commitStakes_keep (s : State) (eng : Nat) (saved : List (Nat × Stake)) : (State.commitStakes s eng
    saved).keep = s.keep := by
  unfold State.commitStakes
  simp only [State.keep_mk, State.keep_eta, foldl_keep, implies_true, State.setStake_keep]
theorem State.withholdStakes_keep (s : State) (eng : Nat) (saved : List (Nat × Stake)) : (State.withholdStakes s eng
    saved).keep = s.keep := by
  unfold State.withholdStakes
  simp only [State.keep_mk, State.keep_eta, foldl_keep, apply_ite State.keep, ite_self, implies_true,
      State.countF_keep, State.raiseBit_keep, State.setStake_keep]
theorem State.decide__keep (s : State) (a : Action) : (State.decide_ s a).keep = s.keep := by
  unfold State.decide_
  repeat' (first | with_reducible rfl | simp only [State.keep_mk, State.keep_eta, apply_ite State.keep] | split)
theorem State.testStake_keep (s : State) (i : Nat) : (State.testStake s i).keep = s.keep := by
  unfold State.testStake
  repeat' (first | with_reducible rfl
                 | simp only [apply_ite State.keep, ite_self, State.count_keep, State.raiseBit_keep, State.misused_keep,
                     State.setStake_keep, State.decide__keep]
                 | split)
theorem State.placeEdge_keep (s : State) (k level : Nat) (t : Int) : (State.placeEdge s k level t).keep = s.keep := by
  unfold State.placeEdge
  simp only [State.keep_mk, State.keep_eta, State.emit_keep]
theorem State.setEdges_keep (s : State) (k : Nat) (l : List FoEdge) : (State.setEdges s k l).keep = s.keep := by
  unfold State.setEdges
  simp only [State.keep_mk, State.keep_eta]
theorem State.foEdge_keep (s : State) (k level : Nat) (tf : Int) : (State.foEdge s k level tf).keep = s.keep := by
  unfold State.foEdge
  simp only [apply_ite State.keep, ite_self, State.count_keep, State.raiseBit_keep, State.placeEdge_keep,
      State.setEdges_keep]
theorem State.capture_keep (s : State) (k i : Nat) (t : Int) : (State.capture s k i t).keep = s.keep := by
  unfold State.capture
  simp only [State.keep_mk, State.keep_eta, State.raiseBit_keep]
theorem State.queueEvent_keep (s : State) (e : StnEvent) (tf : Int) (passed : Bool) : (State.queueEvent s e tf
    passed).keep = s.keep := by
  unfold State.queueEvent
  simp only [State.keep_mk, State.keep_eta, apply_ite State.keep, ite_self, State.count_keep, State.raiseBit_keep]
theorem State.act_keep (s : State) (a : Action) : (State.act s a).keep = s.keep := by
  unfold State.act
  split <;> simp only [State.setReg_keep, State.raiseBit_keep, State.misused_keep, State.arrive_keep,
      State.convStartMask_keep, State.foEdge_keep, State.capture_keep, State.queueEvent_keep]
theorem State.dispatch_keep (s : State) : (State.dispatch s).keep = s.keep := by
  unfold State.dispatch
  split <;> simp only [State.keep_mk, State.keep_eta, apply_ite State.keep, ite_self, State.count_keep, State.act_keep]
theorem State.applyEdge_keep (s : State) (k : Nat) : (State.applyEdge s k).keep = s.keep := by
  unfold State.applyEdge
  split <;> simp only [apply_ite State.keep, ite_self, State.placeEdge_keep, State.setEdges_keep]
theorem State.setCap_keep (s : State) (k : Nat) (c : Capture) : (State.setCap s k c).keep = s.keep := by
  unfold State.setCap
  simp only [State.keep_mk, State.keep_eta]
theorem State.latchCapture_keep (s : State) (m k : Nat) : (State.latchCapture s m k).keep = s.keep := by
  unfold State.latchCapture
  simp only [State.keep_mk, State.keep_eta, State.setCap_keep]
theorem State.readCapInfo_keep (s : State) (m k : Nat) : (State.readCapInfo s m k).2.keep = s.keep := by
  unfold State.readCapInfo
  repeat' (first | with_reducible rfl | simp only [State.setCap_keep] | split)
theorem State.setEng_keep (s : State) (e : Nat) (x : Engine) : (State.setEng s e x).keep = s.keep := by
  unfold State.setEng
  simp only [State.keep_mk, State.keep_eta]
theorem State.setRel_keep (s : State) (e : Nat) (r : Release) : (State.setRel s e r).keep = s.keep := by
  unfold State.setRel
  simp only [State.setEng_keep]
theorem State.applyBuffer_keep (s : State) (buf : Sparse (Option (Word × Word))) : (State.applyBuffer s buf).keep =
    s.keep := by
  unfold State.applyBuffer
  simp only [State.keep_mk, State.keep_eta]
theorem State.setInstWords_keep (s : State) (k : Nat) (l : List Word) : (s.setInstWords k l).keep = s.keep := by
  induction l generalizing s k with
  | nil => rfl
  | cons w ws ih => exact (ih _ _).trans rfl
theorem State.putInst_keep (s : State) (base first : Nat) (ws : List Word) : (State.putInst s base first ws).keep =
    s.keep := by
  unfold State.putInst
  simp only [State.keep_mk, State.keep_eta, apply_ite State.keep, ite_self, State.setInstWords_keep]
theorem State.blkAppend_keep (s : State) (x : BlkSeg) : (State.blkAppend s x).2.keep = s.keep := by
  unfold State.blkAppend
  repeat' (first | with_reducible rfl | simp only [State.append_keep, State.setAxis_keep] | split)
theorem Appended.add_keep (x : Appended) (g : BlkSeg) : (x.add g).st.keep = x.st.keep := by
  have e := State.blkAppend_keep x.st g
  unfold Appended.add
  generalize x.st.blkAppend g = z at e ⊢
  obtain ⟨c, t⟩ := z
  dsimp only at e ⊢
  split
  · exact e
  · rw [State.raiseBit_keep, State.count_keep]; exact e
theorem Appended.foldl_keep (l : List BlkSeg) (x : Appended) : (l.foldl Appended.add x).st.keep = x.st.keep := by
  induction l generalizing x with
  | nil => rfl
  | cons g r ih => exact (ih _).trans (Appended.add_keep x g)
theorem State.blkAppendAll_keep (s : State) (i : Nat) (it : List Word) (gs : List BlkSeg) : (s.blkAppendAll i it
    gs).keep = s.keep := by
  unfold State.blkAppendAll
  split
  · rfl
  · dsimp only
    split
    · split <;> simp only [State.setInstWords_keep, Appended.foldl_keep]
    · simp only [State.setInstWords_keep, Appended.foldl_keep]
theorem State.commit_keep (s : State) (e : Nat) (r : Release) : (State.commit s e r).keep = s.keep := by
  unfold State.commit
  simp only [foldl_keep, implies_true, State.record_keep, State.commitStakes_keep, State.applyBuffer_keep,
      State.putInst_keep, State.blkAppendAll_keep]
theorem State.dropCall_keep (s : State) (e : Nat) : (State.dropCall s e).keep = s.keep := by
  unfold State.dropCall
  simp only [State.keep_mk, State.keep_eta]
theorem State.endIrq_keep (s : State) (code : Nat) : (State.endIrq s code).keep = s.keep := by
  unfold State.endIrq
  split <;> simp only [State.raiseBit_keep]
theorem State.recordEnd_keep (s : State) (e : Nat) (r : Release) (code last : Nat) : (State.recordEnd s e r code
    last).keep = s.keep := by
  unfold State.recordEnd
  simp only [State.taskStat_keep, State.setArrival_keep]
theorem State.endRelease_keep (s : State) (e code fault pc : Nat) : (State.endRelease s e code fault pc).keep = s.keep := by
  unfold State.endRelease
  split <;> simp only [State.keep_mk, State.keep_eta, apply_ite State.keep, ite_self, State.setReg_keep,
      State.count_keep, State.record_keep, State.taskTrigger_keep, State.passTurn_keep, State.lastEnded_keep,
      State.withholdStakes_keep, State.setEng_keep, State.commit_keep, State.dropCall_keep, State.endIrq_keep,
      State.recordEnd_keep]
theorem State.startRelease_keep (s : State) (e : Nat) : (State.startRelease s e).keep = s.keep := by
  unfold State.startRelease
  repeat' (first | with_reducible rfl
                 | simp only [State.keep_mk, State.keep_eta, apply_ite State.keep, ite_self, State.taskStat_keep,
                     State.setTaskState_keep, State.setArrival_keep, State.until__keep, State.setRel_keep,
                     State.endRelease_keep]
                 | split)
theorem State.deadline_keep (s : State) (e : Nat) : (State.deadline s e).keep = s.keep := by
  unfold State.deadline
  split <;> simp only [apply_ite State.keep, ite_self, State.endRelease_keep]
theorem State.fixedCycle_keep (s : State) : (State.fixedCycle s).keep = s.keep := by
  unfold State.fixedCycle
  split <;> simp only [State.keep_mk, State.keep_eta, apply_ite State.keep, ite_self, State.count_keep,
      State.countWrap_keep, State.raiseBit_keep, State.turnTo_keep]
theorem State.modeReq_keep (s : State) (task fixed : Bool) : (State.modeReq s task fixed).keep = s.keep := by
  unfold State.modeReq
  simp only [State.keep_mk, State.keep_eta, apply_ite State.keep, ite_self, State.misused_keep, State.setMode_keep,
      State.dropPending_keep]
theorem State.setKonst_keep (s : State) (p k : Nat) (l : List Word) : (s.setKonst p k l).keep = s.keep := by
  induction l generalizing s k with
  | nil => rfl
  | cons w ws ih => exact (ih _ _).trans rfl
theorem State.constDone_keep (s : State) (c : ConstWrite) (p : Nat) : (State.constDone s c p).keep = s.keep := by
  unfold State.constDone
  simp only [State.keep_mk, State.keep_eta, apply_ite State.keep, ite_self, State.finishOk_keep, State.record_keep]
theorem State.applyConst_keep (s : State) (p : Nat) : (State.applyConst s p).keep = s.keep := by
  unfold State.applyConst
  repeat' (first | with_reducible rfl
                 | simp only [apply_ite State.keep, ite_self, State.setKonst_keep, State.constDone_keep] | split)
theorem State.constGone_keep (s : State) (p : Nat) : (State.constGone s p).keep = s.keep := by
  unfold State.constGone
  simp only [foldl_keep, apply_ite State.keep, ite_self, implies_true, State.constDone_keep]
theorem State.setEpoch_keep (s : State) (e : Nat) : (State.setEpoch s e).keep = s.keep := by
  unfold State.setEpoch
  simp only [State.keep_mk, State.keep_eta, State.setReg_keep]
theorem State.setReady_keep (s : State) (b : Bool) : (State.setReady s b).keep = s.keep := by
  unfold State.setReady
  simp only [apply_ite State.keep, ite_self, State.setRegB_keep, State.raiseBit_keep]
theorem State.unready_keep (s : State) : (State.unready s).keep = s.keep := by
  unfold State.unready
  simp only [State.keep_mk, State.keep_eta, apply_ite State.keep, ite_self, State.setRegB_keep, State.setReady_keep]
theorem State.setDrive_keep (s : State) (v : Nat) : (State.setDrive s v).keep = s.keep := by
  unfold State.setDrive
  simp only [foldl_keep, apply_ite State.keep, ite_self, implies_true, State.setRegF_keep, State.raiseBit_keep,
      State.canDrive_keep]
theorem State.releaseOutputs_keep (s : State) : (State.releaseOutputs s).keep = s.keep := by
  unfold State.releaseOutputs
  simp only [State.keep_mk, State.keep_eta, State.setDrive_keep]
theorem State.abandonReleases_keep (s : State) : (State.abandonReleases s).keep = s.keep := by
  unfold State.abandonReleases
  simp only [foldl_keep, implies_true, State.endRelease_keep]
theorem State.emptyStakes_keep (s : State) : (State.emptyStakes s).keep = s.keep := by
  unfold State.emptyStakes
  simp only [State.keep_mk, State.keep_eta, apply_ite State.keep, ite_self, State.countF_keep, State.raiseBit_keep]
theorem State.wire_keep (s : State) (n : Nat) : (State.wire s n).keep = s.keep := by
  unfold State.wire
  repeat' (first | with_reducible rfl
                 | simp only [State.keep_mk, State.keep_eta, apply_ite State.keep, ite_self, State.count_keep,
                     State.emit_keep]
                 | split)
theorem State.cutWire_keep (s : State) (n : Nat) : (State.cutWire s n).keep = s.keep := by
  unfold State.cutWire
  simp only [State.keep_mk, State.keep_eta, apply_ite State.keep, ite_self, State.emit_keep, State.wire_keep]
theorem State.stopWork_keep (s : State) : (State.stopWork s).keep = s.keep := by
  unfold State.stopWork
  simp only [State.keep_mk, State.keep_eta, State.releaseOutputs_keep, State.abandonReleases_keep, State.emptyStakes_keep]
theorem State.cancelHand_keep (s : State) : (State.cancelHand s).keep = s.keep := by
  unfold State.cancelHand
  repeat' (first | with_reducible rfl
                 | simp only [State.keep_mk, State.keep_eta, State.setRegB_keep, State.finishErr_keep] | split)
theorem State.fence_keep (s : State) (cause : Nat) : (State.fence s cause).keep = s.keep := by
  unfold State.fence
  simp only [foldl_keep, implies_true, State.setRegB_keep, State.raiseBit_keep, State.sendSeq_keep,
      State.setRole_keep, State.cutWire_keep, State.stopWork_keep, State.cancelHand_keep]
theorem State.leaveService_keep (s : State) : (State.leaveService s).keep = s.keep := by
  unfold State.leaveService
  simp only [apply_ite State.keep, ite_self, State.sendSeq_keep, State.setRole_keep, State.releaseOutputs_keep,
      State.stopWork_keep, State.cancelHand_keep]
theorem State.withdraw_keep (s : State) (slot : Option Nat) : (State.withdraw s slot).keep = s.keep := by
  unfold State.withdraw
  repeat' (first | with_reducible rfl
                 | simp only [apply_ite State.keep, State.finishOk_keep, State.startHand_keep, State.leaveService_keep]
                 | split)
theorem State.higherEpoch_keep (s : State) : (State.higherEpoch s).keep = s.keep := by
  unfold State.higherEpoch
  simp only [State.keep_mk, State.keep_eta, apply_ite State.keep, ite_self, State.setRegB_keep, State.setRole_keep,
      State.unready_keep, State.fence_keep]
theorem State.setMbxWords_keep (s : State) (n k : Nat) (l : List Word) : (s.setMbxWords n k l).keep = s.keep := by
  induction l generalizing s k with
  | nil => rfl
  | cons w ws ih => exact (ih _ _).trans (State.setReg_keep _ _ _)
theorem State.mbxEvent_keep (s : State) (n bit : Nat) : (State.mbxEvent s n bit).keep = s.keep := by
  unfold State.mbxEvent
  simp only [State.irqChange_keep]
theorem State.mbxClearGo_keep (s : State) (n : Nat) : (State.mbxClearGo s n).keep = s.keep := by
  unfold State.mbxClearGo
  simp only [State.setRegB_keep]
theorem State.mbxAbort_keep (s : State) (n : Nat) : (State.mbxAbort s n).keep = s.keep := by
  unfold State.mbxAbort
  simp only [State.setRegF_keep, State.setRegB_keep, State.setMbxWords_keep, State.mbxClearGo_keep]
theorem State.mbxPost_keep (s : State) (n : Nat) (v : Word) : (State.mbxPost s n v).keep = s.keep := by
  unfold State.mbxPost
  simp only [apply_ite State.keep, ite_self, State.setRegF_keep, State.setRegB_keep, State.misused_keep]
theorem State.mbxTake_keep (s : State) (n : Nat) (v : Word) : (State.mbxTake s n v).keep = s.keep := by
  unfold State.mbxTake
  simp only [apply_ite State.keep, ite_self, State.mbxClearGo_keep]
theorem State.mbxHostReset_keep (s : State) (n : Nat) (v : Word) : (State.mbxHostReset s n v).keep = s.keep := by
  unfold State.mbxHostReset
  simp only [apply_ite State.keep, ite_self, State.setReg_keep, State.setRegB_keep, State.mbxAbort_keep]
theorem State.mbxMpReset_keep (s : State) (n : Nat) : (State.mbxMpReset s n).keep = s.keep := by
  unfold State.mbxMpReset
  simp only [apply_ite State.keep, ite_self, State.setRegB_keep, State.mbxEvent_keep, State.mbxAbort_keep]
theorem State.ctlReceived_keep (s : State) (c : Nat) : (State.ctlReceived s c).keep = s.keep := by
  unfold State.ctlReceived
  simp only [apply_ite State.keep, ite_self, State.setRegF_keep]
theorem State.endCommands_keep (s : State) : (State.endCommands s).keep = s.keep := by
  unfold State.endCommands
  split <;> simp only [State.keep_mk, State.keep_eta, foldl_keep, apply_ite State.keep, ite_self, implies_true,
      State.setRegF_keep, State.setRegB_keep, State.ctlReceived_keep]
theorem State.mpRestart_keep (s : State) : (State.mpRestart s).keep = s.keep := by
  unfold State.mpRestart
  simp only [State.keep_mk, State.keep_eta, foldl_keep, implies_true, State.setRegB_keep, State.countF_keep,
      State.mbxMpReset_keep, State.endCommands_keep]
theorem State.modChk_keep (s : State) (x : Nat) (f : Checked → Checked) : (State.modChk s x f).keep = s.keep := by
  unfold State.modChk
  simp only [State.keep_mk, State.keep_eta]
theorem State.setCmpState_keep (s : State) (x v : Nat) : (State.setCmpState s x v).keep = s.keep := by
  unfold State.setCmpState
  simp only [State.setRegF_keep]
theorem State.setOwner_keep (s : State) (n o : Nat) : (State.setOwner s n o).keep = s.keep := by
  unfold State.setOwner
  simp only [State.setReg_keep, State.record_keep]
theorem State.passBanks_keep (s : State) (a b : Nat) : (State.passBanks s a b).keep = s.keep := by
  unfold State.passBanks
  simp only [foldl_keep, apply_ite State.keep, ite_self, implies_true, State.setOwner_keep]
theorem State.passLocks_keep (s : State) (a b : Nat) : (State.passLocks s a b).keep = s.keep := by
  unfold State.passLocks
  simp only [foldl_keep, implies_true, State.setRegF_keep]
theorem State.setBlkPair_keep (s : State) (p : Nat) (b : BlkPair) : (State.setBlkPair s p b).keep = s.keep := by
  unfold State.setBlkPair
  simp only [State.keep_mk, State.keep_eta]
theorem State.dropService_keep (s : State) (p : Nat) : (State.dropService s p).keep = s.keep := by
  unfold State.dropService
  repeat' (first | with_reducible rfl | simp only [State.endRelease_keep, State.setBlkPair_keep] | split)
theorem State.dropFrames_keep (s : State) (n : Nat) : (State.dropFrames s n).keep = s.keep := by
  unfold State.dropFrames
  simp only [State.keep_mk, State.keep_eta, apply_ite State.keep, ite_self, State.countF_keep, State.cutWire_keep]
theorem State.dropStarted_keep (s : State) : (State.dropStarted s).keep = s.keep := by
  unfold State.dropStarted
  simp only [State.keep_mk, State.keep_eta]
theorem State.withholdWork_keep (s : State) (x : Nat) : (State.withholdWork s x).keep = s.keep := by
  unfold State.withholdWork
  simp only [State.keep_mk, State.keep_eta, apply_ite State.keep, ite_self, State.endRelease_keep,
      State.dropService_keep, State.dropFrames_keep, State.dropStarted_keep]
theorem State.cmpEvent_keep (s : State) (x cause : Nat) (perm noSpare : Bool) : (State.cmpEvent s x cause perm
    noSpare).keep = s.keep := by
  unfold State.cmpEvent
  simp only [State.setReg_keep, State.setReg64_keep]
theorem State.moveQueue_keep (s : State) (a b : Nat) : (State.moveQueue s a b).keep = s.keep := by
  unfold State.moveQueue
  simp only [apply_ite State.keep, ite_self, State.setRegF_keep, State.setBlkPair_keep]
theorem State.retirePair_keep (s : State) (x cause : Nat) : (State.retirePair s x cause).keep = s.keep := by
  unfold State.retirePair
  repeat' (first | with_reducible rfl
                 | simp only [apply_ite State.keep, ite_self, State.setRegF_keep, State.setRegB_keep,
                     State.noteRetired_keep, State.raiseBit_keep, State.startHand_keep, State.skipUnserved_keep,
                     State.constGone_keep, State.modChk_keep, State.setCmpState_keep, State.passBanks_keep,
                     State.passLocks_keep, State.cmpEvent_keep, State.moveQueue_keep]
                 | split)
theorem State.startResync_keep (s : State) (x : Nat) : (State.startResync s x).keep = s.keep := by
  unfold State.startResync
  simp only [State.setRegB_keep, State.modChk_keep, State.setCmpState_keep]
theorem State.classify_keep (s : State) (x cause : Nat) : (State.classify s x cause).keep = s.keep := by
  unfold State.classify
  repeat' (first | with_reducible rfl
                 | simp only [apply_ite State.keep, ite_self, State.countF_keep, State.tally_keep, State.raiseBit_keep,
                     State.finishErr_keep, State.withdraw_keep, State.mpRestart_keep, State.modChk_keep, State.cmpEvent_keep,
                     State.retirePair_keep, State.startResync_keep]
                 | split)
theorem State.mismatch_keep (s : State) (x cause : Nat) : (State.mismatch s x cause).keep = s.keep := by
  unfold State.mismatch
  simp only [State.withholdWork_keep, State.classify_keep]
theorem State.checkerFault_keep (s : State) (x : Nat) : (State.checkerFault s x).keep = s.keep := by
  unfold State.checkerFault
  repeat' (first | with_reducible rfl
                 | simp only [apply_ite State.keep, ite_self, State.tally_keep, State.raiseBit_keep,
                     State.finishErr_keep, State.withdraw_keep, State.modChk_keep, State.withholdWork_keep,
                     State.cmpEvent_keep, State.retirePair_keep]
                 | split)
theorem State.coreMismatch_keep (s : State) (x : Nat) (lead trail : PortOut) : (State.coreMismatch s x lead
    trail).keep = s.keep := by
  unfold State.coreMismatch
  simp only [apply_ite State.keep, ite_self, State.mismatch_keep]
theorem State.resyncDone_keep (s : State) (x : Nat) : (State.resyncDone s x).keep = s.keep := by
  unfold State.resyncDone
  simp only [foldl_keep, apply_ite State.keep, ite_self, implies_true, State.setStake_keep, State.modChk_keep,
      State.setCmpState_keep]
theorem State.warnEnd_keep (s : State) (x : Nat) : (State.warnEnd s x).keep = s.keep := by
  unfold State.warnEnd
  split <;> simp only [apply_ite State.keep, ite_self, State.setRegB_keep]
theorem State.mpStart_keep (s : State) : (State.mpStart s).keep = s.keep := by
  unfold State.mpStart
  simp only [apply_ite State.keep, ite_self, State.setRegB_keep, State.modChk_keep, State.setCmpState_keep]
theorem State.disagree_keep (s : State) (x i : Nat) : (State.disagree s x i).keep = s.keep := by
  unfold State.disagree
  simp only [apply_ite State.keep, ite_self, State.count_keep, State.modChk_keep, State.mismatch_keep]
theorem State.testPassed_keep (s : State) (x : Nat) : (State.testPassed s x).keep = s.keep := by
  unfold State.testPassed
  simp only [State.setRegF_keep, State.countWrap_keep]
theorem State.checkerTest_keep (s : State) (x rails : Nat) (same : Bool) : (State.checkerTest s x rails same).keep =
    s.keep := by
  unfold State.checkerTest
  simp only [apply_ite State.keep, ite_self, State.modChk_keep, State.classify_keep, State.checkerFault_keep,
      State.testPassed_keep]
theorem State.askSplit_keep (s : State) (id slot : Nat) : (State.askSplit s id slot).keep = s.keep := by
  unfold State.askSplit
  simp only [apply_ite State.keep, ite_self, State.finishErr_keep, State.modChk_keep]
theorem State.askJoin_keep (s : State) (id slot : Nat) : (State.askJoin s id slot).keep = s.keep := by
  unfold State.askJoin
  simp only [apply_ite State.keep, ite_self, State.finishErr_keep, State.modChk_keep, State.setCmpState_keep]
theorem State.dropKonst_keep (s : State) (b : Nat) : (State.dropKonst s b).keep = s.keep := by
  unfold State.dropKonst
  simp only [State.keep_mk, State.keep_eta]
theorem State.copyKonst_keep (s : State) (a b : Nat) : (State.copyKonst s a b).keep = s.keep := by
  unfold State.copyKonst
  simp only [State.keep_mk, State.keep_eta, foldl_keep, implies_true, State.dropKonst_keep]
theorem State.splitDone_keep (s : State) (x : Nat) : (State.splitDone s x).keep = s.keep := by
  unfold State.splitDone
  split <;> simp only [apply_ite State.keep, ite_self, State.setRegB_keep, State.raiseBit_keep, State.finishOk_keep,
      State.finishErr_keep, State.modChk_keep, State.setCmpState_keep, State.copyKonst_keep]
theorem State.joinDone_keep (s : State) (x rails : Nat) : (State.joinDone s x rails).keep = s.keep := by
  unfold State.joinDone
  split <;> simp only [apply_ite State.keep, ite_self, State.setRegF_keep, State.setRegB_keep, State.raiseBit_keep,
      State.finishOk_keep, State.finishErr_keep, State.modChk_keep, State.setCmpState_keep, State.passBanks_keep,
      State.passLocks_keep, State.checkerFault_keep, State.testPassed_keep, State.dropKonst_keep]
theorem State.setEcc_keep (s : State) (a v : Nat) : (State.setEcc s a v).keep = s.keep := by
  unfold State.setEcc
  split <;> simp only [State.keep_mk, State.keep_eta]
theorem State.strike_keep (s : State) (hits : List (Nat × Nat)) : (State.strike s hits).keep = s.keep := by
  unfold State.strike
  simp only [foldl_keep, apply_ite State.keep, ite_self, implies_true, State.setEcc_keep]
theorem State.corrected_keep (s : State) (a : Nat) : (State.corrected s a).keep = s.keep := by
  unfold State.corrected
  simp only [apply_ite State.keep, ite_self, State.count_keep, State.tally_keep, State.setEcc_keep]
theorem State.uncorrectable_keep (s : State) (a : Nat) : (State.uncorrectable s a).keep = s.keep := by
  unfold State.uncorrectable
  simp only [apply_ite State.keep, ite_self, State.setReg_keep, State.count_keep, State.setReg64_keep, State.raiseBit_keep]
theorem State.readWords_keep (s : State) (l : List Nat) : (s.readWords l).1.keep = s.keep := by
  induction l generalizing s with
  | nil => rfl
  | cons w ws ih =>
    unfold State.readWords
    split
    · exact ih s
    · exact (ih _).trans (State.corrected_keep _ _)
    · exact State.uncorrectable_keep _ _
theorem State.memRead_keep (s : State) (m addr len : Nat) : (State.memRead s m addr len).1.keep = s.keep := by
  unfold State.memRead
  repeat' (first | with_reducible rfl | simp only [State.readWords_keep] | split
                 | refine (pair_keep (by assumption)).trans ?_)
theorem State.snoopRegion_keep (s : State) (a : Nat) : (State.snoopRegion s a).keep = s.keep := by
  unfold State.snoopRegion
  repeat' (first | with_reducible rfl | simp only [State.violation_keep, State.record_keep, State.memRead_keep] | split
                 | refine (pair_keep (by assumption)).trans ?_)
theorem State.snoop_keep (s : State) (addr : Nat) (bytes : List Byte) : (State.snoop s addr bytes).keep = s.keep := by
  unfold State.snoop
  simp only [foldl_keep, apply_ite State.keep, ite_self, implies_true, State.snoopRegion_keep]
theorem State.wakeBank_keep (s : State) (n : Nat) : (State.wakeBank s n).keep = s.keep := by
  unfold State.wakeBank
  simp only [State.keep_mk, State.keep_eta, State.setRegF_keep]
theorem State.wakeFor_keep (s : State) (addr : Nat) : (State.wakeFor s addr).keep = s.keep := by
  unfold State.wakeFor
  simp only [apply_ite State.keep, ite_self, State.wakeBank_keep]
theorem State.memAccess_keep (s : State) (m addr len : Nat) (data : List Byte) : (s.memAccess m false addr len
    data).1.keep = s.keep := by
  unfold State.memAccess
  generalize h : s.memRead m addr len = z
  obtain ⟨t, x⟩ := z
  have e : t.keep = s.keep := (pair_keep h).trans (State.memRead_keep ..)
  simp only [Bool.false_eq_true, if_false, Bool.false_and]
  split
  · exact e
  · exact (State.violation_keep ..).trans e
  · exact e
theorem State.busError_keep (s : State) (m : Nat) : (State.busError s m).keep = s.keep := by
  unfold State.busError
  repeat' (first | with_reducible rfl | simp only [apply_ite State.keep, State.endRelease_keep, State.setBlkPair_keep]
                 | split)
theorem State.imprecise_keep (s : State) : (State.imprecise s).keep = s.keep := by
  unfold State.imprecise
  split <;> simp only [State.keep_mk, State.keep_eta, apply_ite State.keep, ite_self, State.setReg_keep,
      State.setRegB_keep, State.count_keep, State.setReg64_keep, State.raiseBit_keep, State.violation_keep,
      State.busError_keep]
theorem State.ownWrite_keep (s : State) (m n : Nat) (v : Word) : ((s.ownWrite m n v).getD s).keep = s.keep := by
  unfold State.ownWrite
  dsimp only
  split
  · rfl
  · exact State.setOwner_keep ..
theorem State.bankCtl_keep (s : State) (m n : Nat) (v : Word) : ((s.bankCtl m n v).getD s).keep = s.keep := by
  unfold State.bankCtl
  dsimp only
  repeat' split
  all_goals first | rfl | simp only [Option.getD_some, State.setRegB_keep, State.setRegF_keep, State.setReg_keep,
      State.wakeBank_keep]
theorem State.wakeDone_keep (s : State) (n : Nat) : (State.wakeDone s n).keep = s.keep := by
  unfold State.wakeDone
  split <;> simp only [State.keep_mk, State.keep_eta, apply_ite State.keep, ite_self, State.setRegF_keep,
      State.setRegB_keep, State.raiseBit_keep]
theorem State.lockRead_keep (s : State) (m i : Nat) : (State.lockRead s m i).2.keep = s.keep := by
  unfold State.lockRead
  repeat' (first | with_reducible rfl | simp only [State.setReg_keep] | split)
theorem State.lockWrite_keep (s : State) (m i : Nat) (v : Word) : (State.lockWrite s m i v).keep = s.keep := by
  unfold State.lockWrite
  simp only [apply_ite State.keep, ite_self, State.setReg_keep, State.count_keep]
theorem State.scrubPassed_keep (s : State) (n : Nat) : (State.scrubPassed s n).keep = s.keep := by
  unfold State.scrubPassed
  simp only [State.keep_mk, State.keep_eta, apply_ite State.keep, ite_self, State.setRegB_keep]
theorem State.readRegion_keep (s : State) (a : Nat) : (State.readRegion s a).keep = s.keep := by
  unfold State.readRegion
  repeat' (first | with_reducible rfl | simp only [State.corrected_keep, State.uncorrectable_keep] | split
                 | refine (foldl_keep _ _ _ (fun _ _ => ?_)).trans ?_)
theorem State.writeRetirement_keep (s : State) : (State.writeRetirement s).keep = s.keep := by
  unfold State.writeRetirement
  split <;> simp only [State.keep_mk, State.keep_eta]
theorem State.errorAnswer_keep (s : State) (m addr : Nat) (write : Bool) : (State.errorAnswer s m addr write).keep =
    s.keep := by
  unfold State.errorAnswer
  simp only [apply_ite State.keep, ite_self, State.countF_keep, State.emit_keep, State.busError_keep]
theorem State.upset_keep (s : State) (a : Nat) (x y z : Word) : (State.upset s a x y z).keep = s.keep := by
  unfold State.upset
  repeat' (first | with_reducible rfl | simp only [State.keep_mk, State.keep_eta, apply_ite State.keep] | split)
theorem State.fieldAddr_keep (s : State) (a : Nat) : (State.fieldAddr s a).2.keep = s.keep := by
  unfold State.fieldAddr
  split <;> simp only [State.fresh_keep]
theorem State.vote_keep (s : State) (a : Nat) : (State.vote s a).keep = s.keep := by
  unfold State.vote
  simp only [State.keep_mk, State.keep_eta, apply_ite State.keep, ite_self, State.setReg_keep, State.count_keep,
      State.tally_keep, State.raiseBit_keep, State.fieldAddr_keep]
theorem State.scrubVotes_keep (s : State) : (State.scrubVotes s).keep = s.keep := by
  unfold State.scrubVotes
  simp only [foldl_keep, implies_true, State.vote_keep]
theorem State.rewritten_keep (s : State) (covered : Nat → Bool) : (State.rewritten s covered).keep = s.keep := by
  unfold State.rewritten
  simp only [State.keep_mk, State.keep_eta]
theorem State.plEnd_keep (s : State) (e pc : Nat) (x : PlEnd) : (s.plEnd e pc x).keep = s.keep := by
  cases x <;> exact State.endRelease_keep ..
theorem State.fetch_keep (s : State) (r : Release) : (State.fetch s r).1.keep = s.keep := by
  unfold State.fetch
  repeat' (first | with_reducible rfl | simp only [State.corrected_keep, State.uncorrectable_keep] | split)
theorem State.perform1_keep (s : State) (op : Nat) (spaces : List Nat) (body : State → Release → Except PlEnd PlStep)
    (e space : Nat)
    (r : Release) (hb : ∀ x, body s r = .ok x → x.st.keep = s.keep) : (s.perform1 op spaces body e space r).keep =
        s.keep := by
  unfold State.perform1
  dsimp only
  split
  · exact State.plEnd_keep ..
  · split
    · rw [apply_ite State.keep, State.plEnd_keep, State.plEnd_keep, ite_self]
    · rename_i x h
      rw [apply_ite State.keep, State.plEnd_keep, State.setRel_keep, hb x h, ite_self]
theorem State.inClock_keep (s : State) (op clocks e addr : Nat) (r : Release) (f : State → Release → State)
    (hf : ∀ t r, (f t r).keep = t.keep) : (s.inClock op clocks e addr r f).keep = s.keep := by
  have e1 := State.fetch_keep s r
  unfold State.inClock
  split
  · rw [State.endRelease_keep, State.ahead_keep]
  · generalize s.fetch r = z at e1 ⊢
    obtain ⟨t, b⟩ := z
    dsimp only at e1 ⊢
    have e2 : ∀ x, (((t.until_ (r.due clocks)).meet (plEvs op e addr r)).setRel e x).keep = s.keep := fun x => by
      rw [State.setRel_keep, State.meet_keep, State.until__keep, e1]
    split
    · rw [State.plEnd_keep, e2]
    · rw [hf, e2]
theorem State.modInst_keep (s : State) (i : Nat) (f : InstStat → InstStat) : (State.modInst s i f).keep = s.keep := by
  unfold State.modInst
  simp only [State.keep_mk, State.keep_eta]
theorem State.queueWork_keep (s : State) (p : Nat) (w : BlkWork) : (State.queueWork s p w).keep = s.keep := by
  unfold State.queueWork
  simp only [apply_ite State.keep, ite_self, State.setRegF_keep, State.setBlkPair_keep]
theorem State.callArrival_keep (s : State) (e : Nat) : (State.callArrival s e).keep = s.keep := by
  unfold State.callArrival
  repeat' (first | with_reducible rfl | simp only [apply_ite State.keep, ite_self, State.queueWork_keep] | split)
theorem State.resume_keep (s : State) (e : Nat) (acc : Bool) : (State.resume s e acc).keep = s.keep := by
  unfold State.resume
  split <;> simp only [State.setRel_keep]
theorem State.lateWork_keep (s : State) (w : BlkWork) : (State.lateWork s w).keep = s.keep := by
  unfold State.lateWork
  split <;> simp only [State.count_keep, State.raiseBit_keep, State.modInst_keep, State.resume_keep]
theorem State.expire_keep (s : State) (i : Nat) : (State.expire s i).keep = s.keep := by
  unfold State.expire
  repeat' (first | with_reducible rfl
                 | simp only [foldl_keep, apply_ite State.keep, ite_self, implies_true, State.setBlkPair_keep,
                     State.lateWork_keep]
                 | split | refine (foldl_keep _ _ _ (fun _ _ => ?_)).trans ?_)
theorem State.serve_keep (s : State) (p : Nat) : (State.serve s p).keep = s.keep := by
  unfold State.serve
  repeat' (first | with_reducible rfl | simp only [apply_ite State.keep, State.setBlkPair_keep] | split)
theorem State.countWork_keep (s : State) (p : Nat) (w : BlkWork) (x : BlkResult) : (State.countWork s p w x).keep =
    s.keep := by
  unfold State.countWork
  split <;> simp only [State.count_keep, State.countWrap_keep, State.raiseBit_keep, State.modInst_keep]
theorem State.giveBack_keep (s : State) (e : Nat) (w : BlkWork) (x : BlkResult) : (State.giveBack s e w x).keep =
    s.keep := by
  unfold State.giveBack
  repeat' (first | with_reducible rfl | simp only [State.setRel_keep, State.plEnd_keep, State.resume_keep] | split)
theorem State.blkReturn_keep (s : State) (p : Nat) (trailing : Option Nat) : (State.blkReturn s p trailing).keep =
    s.keep := by
  unfold State.blkReturn
  repeat' (first | with_reducible rfl
                 | simp only [apply_ite State.keep, ite_self, State.setBlkPair_keep, State.mismatch_keep,
                     State.lateWork_keep, State.countWork_keep, State.giveBack_keep]
                 | split)
theorem State.selfLeaves_keep (s : State) (w : BlkWork) (x : BlkResult) : (State.selfLeaves s w x).keep = s.keep := by
  unfold State.selfLeaves
  simp only [State.record_keep, State.setInstWords_keep, State.putInst_keep, State.blkAppendAll_keep]
theorem State.selfEnd_keep (s : State) (p : Nat) (trailing : Option Nat) : (State.selfEnd s p trailing).keep = s.keep := by
  unfold State.selfEnd
  repeat' (first | with_reducible rfl
                 | simp only [apply_ite State.keep, ite_self, State.setBlkPair_keep, State.mismatch_keep,
                     State.lateWork_keep, State.countWork_keep, State.selfLeaves_keep]
                 | split)
theorem State.selfDue_keep (s : State) (i : Nat) : (State.selfDue s i).keep = s.keep := by
  unfold State.selfDue
  simp only [apply_ite State.keep, ite_self, State.count_keep, State.raiseBit_keep, State.modInst_keep,
      State.queueWork_keep]
theorem State.swapInst_keep (s : State) (old : List Word) (i : Nat) : (State.swapInst s old i).keep = s.keep := by
  unfold State.swapInst
  simp only [State.keep_mk, State.keep_eta, apply_ite State.keep, ite_self, State.setInstWords_keep]
theorem State.axisEnd_keep (s : State) (a : Nat) : (State.axisEnd s a).keep = s.keep := by
  unfold State.axisEnd
  split <;> simp only [State.keep_mk, State.keep_eta, apply_ite State.keep, ite_self, State.setAxis_keep]
theorem State.handAxis_keep (s : State) (a : Nat) : (State.handAxis s a).keep = s.keep := by
  unfold State.handAxis
  simp only [State.keep_mk, State.keep_eta, apply_ite State.keep, ite_self, State.setAxis_keep]
theorem State.endDecision_keep (s : State) (e : Nat) (trailing : Option Nat) : (State.endDecision s e trailing).keep =
    s.keep := by
  unfold State.endDecision
  split <;> simp only [apply_ite State.keep, ite_self, State.endRelease_keep, State.mismatch_keep]
theorem State.modPort_keep (s : State) (n : Nat) (f : Port → Port) : (State.modPort s n f).keep = s.keep := by
  unfold State.modPort
  simp only [State.keep_mk, State.keep_eta]
theorem State.modStn_keep (s : State) (n k : Nat) (f : Station → Station) : (State.modStn s n k f).keep = s.keep := by
  unfold State.modStn
  simp only [State.modPort_keep]
theorem State.trvIrq_keep (s : State) (n i : Nat) : (State.trvIrq s n i).keep = s.keep := by
  unfold State.trvIrq
  simp only [State.raiseBit_keep]
theorem State.enqueueWire_keep (s : State) (n q dmac etype : Nat) (b : FrameBody) : (State.enqueueWire s n q dmac
    etype b).keep = s.keep := by
  unfold State.enqueueWire
  simp only [State.modPort_keep]
theorem State.queueTo_keep (s : State) (n dmac : Nat) (h : Hdr) (b : Payload) : (State.queueTo s n dmac h b).keep =
    s.keep := by
  unfold State.queueTo
  simp only [State.enqueueWire_keep]
theorem State.queueFrame_keep (s : State) (n : Nat) (rept : Bool) (b : Payload) : (State.queueFrame s n rept b).keep =
    s.keep := by
  unfold State.queueFrame
  simp only [State.queueTo_keep]
theorem State.queueStn_keep (s : State) (n k : Nat) (b : Payload) : (State.queueStn s n k b).keep = s.keep := by
  unfold State.queueStn
  simp only [State.queueTo_keep]
theorem State.segmentFrames_keep (s : State) (n x : Nat) : (State.segmentFrames s n x).keep = s.keep := by
  unfold State.segmentFrames
  simp only [foldl_keep, apply_ite State.keep, ite_self, implies_true, State.queueFrame_keep]
theorem State.takeEvents_keep (s : State) (n : Nat) : (State.takeEvents s n).keep = s.keep := by
  unfold State.takeEvents
  simp only [State.keep_mk, State.keep_eta, foldl_keep, implies_true, State.modPort_keep]
theorem State.eventFrames_keep (s : State) (n : Nat) : (State.eventFrames s n).keep = s.keep := by
  unfold State.eventFrames
  simp only [foldl_keep, implies_true, State.queueFrame_keep]
theorem State.imageFrames_keep (s : State) (n t0 : Nat) : (State.imageFrames s n t0).keep = s.keep := by
  unfold State.imageFrames
  simp only [foldl_keep, implies_true, State.queueFrame_keep]
theorem State.ackFrame_keep (s : State) (n : Nat) : (State.ackFrame s n).keep = s.keep := by
  unfold State.ackFrame
  simp only [foldl_keep, apply_ite State.keep, ite_self, implies_true, State.queueTo_keep]
theorem State.clearStale_keep (s : State) (n : Nat) : (State.clearStale s n).keep = s.keep := by
  unfold State.clearStale
  simp only [State.countF_keep, State.modPort_keep]
theorem State.ownStation_keep (s : State) (n : Nat) : (State.ownStation s n).keep = s.keep := by
  unfold State.ownStation
  simp only [State.modPort_keep]
theorem State.closeCycle_keep (s : State) (n : Nat) : (State.closeCycle s n).keep = s.keep := by
  unfold State.closeCycle
  simp only [foldl_keep, apply_ite State.keep, ite_self, implies_true, State.countF_keep, State.modDat_keep,
      State.modPort_keep, State.modStn_keep, State.ownStation_keep]
theorem State.takeSchedule_keep (s : State) (n : Nat) : (State.takeSchedule s n).keep = s.keep := by
  unfold State.takeSchedule
  split <;> simp only [apply_ite State.keep, ite_self, State.modPort_keep]
theorem State.cycleStart_keep (s : State) (n t0 : Nat) : (State.cycleStart s n t0).keep = s.keep := by
  unfold State.cycleStart
  simp only [foldl_keep, apply_ite State.keep, ite_self, implies_true, State.setReg_keep, State.modPort_keep,
      State.queueFrame_keep, State.segmentFrames_keep, State.takeEvents_keep, State.eventFrames_keep,
      State.imageFrames_keep, State.ackFrame_keep, State.clearStale_keep, State.closeCycle_keep, State.takeSchedule_keep]
theorem State.keepItems_keep (s : State) (old : Sparse Word) : (State.keepItems s old).keep = s.keep := by
  unfold State.keepItems
  simp only [foldl_keep, implies_true, State.modPort_keep]
theorem State.markSent_keep (s : State) (n : Nat) (f : Frame) : (State.markSent s n f).keep = s.keep := by
  unfold State.markSent
  split <;> simp only [State.keep_mk, State.keep_eta, State.record_keep, State.modPort_keep]
theorem State.pushTs_keep (s : State) (n tag ts : Nat) : (State.pushTs s n tag ts).keep = s.keep := by
  unfold State.pushTs
  simp only [State.keep_mk, State.keep_eta, apply_ite State.keep, ite_self, State.count_keep, State.raiseBit_keep,
      State.note_keep]
theorem State.modPtp_keep (s : State) (n : Nat) (f : PtpPort → PtpPort) : (State.modPtp s n f).keep = s.keep := by
  unfold State.modPtp
  simp only [State.keep_mk, State.keep_eta]
theorem State.queuePtp_keep (s : State) (n : Nat) (m : PtpMsg) : (State.queuePtp s n m).keep = s.keep := by
  unfold State.queuePtp
  simp only [apply_ite State.keep, ite_self, State.enqueueWire_keep]
theorem State.stamp_keep (s : State) (ns : Nat) : (State.stamp s ns).2.keep = s.keep := by
  unfold State.stamp
  simp only [State.fresh_keep]
theorem State.ptpLeft_keep (s : State) (n : Nat) (m : PtpMsg) (ts : Nat) : (State.ptpLeft s n m ts).keep = s.keep := by
  unfold State.ptpLeft
  simp only [apply_ite State.keep, ite_self, State.modPtp_keep, State.queuePtp_keep]
theorem State.begin__keep (s : State) (n q : Nat) (w : WireFrame) (stop : Option Nat) : (State.begin_ s n q w
    stop).keep = s.keep := by
  unfold State.begin_
  repeat' (first | with_reducible rfl
                 | simp only [apply_ite State.keep, ite_self, State.emit_keep, State.modPort_keep, State.markSent_keep,
                     State.pushTs_keep, State.stamp_keep, State.ptpLeft_keep]
                 | split)
theorem State.preemptWire_keep (s : State) (n : Nat) (x : Sending) : (State.preemptWire s n x).keep = s.keep := by
  unfold State.preemptWire
  split <;> simp only [apply_ite State.keep, ite_self, State.count_keep, State.emit_keep, State.modPort_keep,
      State.begin__keep]
theorem State.transmit_keep (s : State) (n : Nat) : (State.transmit s n).keep = s.keep := by
  unfold State.transmit
  repeat' (first | with_reducible rfl
                 | simp only [apply_ite State.keep, State.emit_keep, State.wire_keep, State.modPort_keep,
                     State.begin__keep, State.preemptWire_keep]
                 | split)
theorem State.checkEpoch_keep (s : State) (n : Nat) (h : Hdr) (station : Bool) : (State.checkEpoch s n h station).keep
    = s.keep := by
  unfold State.checkEpoch
  simp only [apply_ite State.keep, ite_self, State.setReg_keep, State.setRegB_keep, State.higherEpoch_keep,
      State.trvIrq_keep]
theorem State.hearPort_keep (s : State) (n : Nat) : (State.hearPort s n).keep = s.keep := by
  unfold State.hearPort
  simp only [State.keep_mk, State.keep_eta, apply_ite State.keep, ite_self]
theorem State.received_keep (s : State) (n : Nat) (tagged : Bool) (len : Nat) : (State.received s n tagged len).keep =
    s.keep := by
  unfold State.received
  simp only [State.modPort_keep, State.stamp_keep, State.hearPort_keep]
theorem State.rxFrame_keep (s : State) (n : Nat) (h : Hdr) (b : Payload) (station good : Bool) (f : State → State) (hf
    : ∀ t, (f t).keep = t.keep) : (State.rxFrame s n h b station good f).keep = s.keep := by
  unfold State.rxFrame
  simp only [apply_ite State.keep, ite_self, State.count_keep, State.checkEpoch_keep, State.received_keep, hf]
theorem State.commandStn_keep (s : State) (n k st : Nat) : (State.commandStn s n k st).keep = s.keep := by
  unfold State.commandStn
  repeat' (first | with_reducible rfl | simp only [apply_ite State.keep, State.fresh_keep, State.queueStn_keep] | split)
theorem State.heardStn_keep (s : State) (n k st epoch : Nat) : (State.heardStn s n k st epoch).keep = s.keep := by
  unfold State.heardStn
  simp only [apply_ite State.keep, ite_self, State.setRegF_keep, State.setRegB_keep, State.count_keep,
      State.modStn_keep, State.trvIrq_keep, State.commandStn_keep]
theorem State.writeInputs_keep (s : State) (n : Nat) (b : InBlock) : (State.writeInputs s n b).keep = s.keep := by
  unfold State.writeInputs
  simp only [foldl_keep, apply_ite State.keep, ite_self, implies_true, State.setImgBytes_keep, State.setImgWords_keep,
      State.touchInput_keep]
theorem State.stnImageRx_keep (s : State) (n : Nat) (h : Hdr) (b : InBlock) : (State.stnImageRx s n h b).keep = s.keep := by
  unfold State.stnImageRx
  simp only [apply_ite State.keep, ite_self, implies_true, State.count_keep, State.rxFrame_keep, State.heardStn_keep,
      State.writeInputs_keep]
theorem State.settleAcks_keep (s : State) (n : Nat) : (State.settleAcks s n).keep = s.keep := by
  unfold State.settleAcks
  simp only [State.modPort_keep]
theorem State.fullAck_keep (s : State) (n k : Nat) : (State.fullAck s n k).keep = s.keep := by
  unfold State.fullAck
  simp only [apply_ite State.keep, ite_self, State.setRegB_keep]
theorem State.ackRx_keep (s : State) (n : Nat) (h : Hdr) (k st : Nat) (ss : List AckStream) (es : List AckEvent) :
    (State.ackRx s n h k st ss es).keep = s.keep := by
  unfold State.ackRx
  simp only [apply_ite State.keep, ite_self, implies_true, State.countF_keep, State.modPort_keep, State.modStn_keep,
      State.rxFrame_keep, State.heardStn_keep, State.settleAcks_keep, State.fullAck_keep]
theorem State.stationLost_keep (s : State) (n k : Nat) : (State.stationLost s n k).keep = s.keep := by
  unfold State.stationLost
  simp only [apply_ite State.keep, ite_self, State.setRegB_keep, State.trvIrq_keep]
theorem State.segNak_keep (s : State) (n : Nat) : (State.segNak s n).keep = s.keep := by
  unfold State.segNak
  simp only [foldl_keep, implies_true, State.setRegB_keep, State.countF_keep, State.count_keep, State.modPort_keep,
      State.trvIrq_keep]
theorem State.evtNak_keep (s : State) (n : Nat) : (State.evtNak s n).keep = s.keep := by
  unfold State.evtNak
  simp only [apply_ite State.keep, ite_self, State.countF_keep, State.modPort_keep, State.trvIrq_keep]
theorem State.heardUp_keep (s : State) (n src : Nat) : (State.heardUp s n src).keep = s.keep := by
  unfold State.heardUp
  simp only [apply_ite State.keep, ite_self, State.modPort_keep]
theorem State.upFrame_keep (s : State) (n : Nat) (h : Hdr) (f : State → State) (hf : ∀ t, (f t).keep = t.keep) :
    (State.upFrame s n h f).keep = s.keep := by
  unfold State.upFrame
  simp only [apply_ite State.keep, ite_self, State.count_keep, State.modPort_keep, State.trvIrq_keep,
      State.heardUp_keep, hf]
theorem State.leaveHolding_keep (s : State) (n src : Nat) : (State.leaveHolding s n src).keep = s.keep := by
  unfold State.leaveHolding
  simp only [apply_ite State.keep, ite_self, State.modPort_keep]
theorem State.segmentRx_keep (s : State) (n : Nat) (h : Hdr) (x : Nat) (trunc : Option Nat) (gs : List Seg) :
    (State.segmentRx s n h x trunc gs).keep = s.keep := by
  unfold State.segmentRx
  repeat' (first | with_reducible rfl
                 | simp only [foldl_keep, apply_ite State.keep, ite_self, implies_true, State.modDat_keep,
                     State.upSeg_keep, State.truncateAll_keep, State.modPort_keep]
                 | split | refine (foldl_keep _ _ _ (fun _ _ => ?_)).trans ?_
                 | refine (State.rxFrame_keep _ _ _ _ _ _ _ (fun _ => ?_)).trans ?_
                 | refine (State.upFrame_keep _ _ _ _ (fun _ => ?_)).trans ?_
                 | refine (pair_keep (by assumption)).trans ?_ | refine (pair_keep2 (by assumption)).trans ?_)
theorem State.datumRx_keep (s : State) (n : Nat) (h : Hdr) (es : List DatumEntry) : (State.datumRx s n h es).keep =
    s.keep := by
  unfold State.datumRx
  simp only [implies_true, State.rxFrame_keep, State.upFrame_keep, State.leaveHolding_keep]
theorem State.pairImageRx_keep (s : State) (n : Nat) (h : Hdr) (t0 : Nat) (bs : List ImgBlock) : (State.pairImageRx s
    n h t0 bs).keep = s.keep := by
  unfold State.pairImageRx
  simp only [implies_true, State.rxFrame_keep, State.upFrame_keep, State.leaveHolding_keep]
theorem State.imageRx_keep (s : State) (n : Nat) (h : Hdr) (b : ImgBody) : (s.imageRx n h b).keep = s.keep := by
  cases b
  · exact State.stnImageRx_keep ..
  · exact State.pairImageRx_keep ..
theorem State.noteBeat_keep (s : State) (n : Nat) : (State.noteBeat s n).keep = s.keep := by
  unfold State.noteBeat
  simp only [State.keep_mk, State.keep_eta, State.setRegF_keep]
theorem State.heartbeatRx_keep (s : State) (n : Nat) (h : Hdr) (role t : Nat) (f : State → State) (hf : ∀ t, (f
    t).keep = t.keep) : (State.heartbeatRx s n h role t f).keep = s.keep := by
  unfold State.heartbeatRx
  simp only [apply_ite State.keep, ite_self, implies_true, State.rxFrame_keep, State.upFrame_keep, State.noteBeat_keep, hf]
theorem State.stateCmdRx_keep (s : State) (n : Nat) (h : Hdr) (k target : Nat) : (State.stateCmdRx s n h k
    target).keep = s.keep := by
  unfold State.stateCmdRx
  simp only [apply_ite State.keep, ite_self, implies_true, State.modPort_keep, State.rxFrame_keep, State.upFrame_keep]
theorem State.configRx_keep (s : State) (n : Nat) (h : Hdr) (ws : List Word) : (State.configRx s n h ws).keep = s.keep := by
  unfold State.configRx
  simp only [apply_ite State.keep, ite_self, implies_true, State.modPort_keep, State.rxFrame_keep, State.upFrame_keep]
theorem State.badFrame_keep (s : State) (n etype : Nat) (vid : Option Nat) (fcs : Bool) (bs : List Byte) :
    (State.badFrame s n etype vid fcs bs).keep = s.keep := by
  unfold State.badFrame
  simp only [apply_ite State.keep, ite_self, implies_true, State.count_keep, State.checkEpoch_keep,
      State.received_keep, State.upFrame_keep]
theorem State.trvCtl_keep (s : State) (n : Nat) (v : Word) : (State.trvCtl s n v).keep = s.keep := by
  unfold State.trvCtl
  simp only [apply_ite State.keep, ite_self, State.setReg_keep, State.modPort_keep, State.queueFrame_keep]
theorem State.discoverRx_keep (s : State) (n : Nat) (h : Hdr) (addr mac product st : Nat) : (State.discoverRx s n h
    addr mac product st).keep = s.keep := by
  unfold State.discoverRx
  repeat' (first | with_reducible rfl
                 | simp only [apply_ite State.keep, ite_self, State.modPort_keep, State.heardStn_keep] | split
                 | refine (State.rxFrame_keep _ _ _ _ _ _ _ (fun _ => ?_)).trans ?_)
theorem State.discDone_keep (s : State) (n : Nat) : (State.discDone s n).keep = s.keep := by
  unfold State.discDone
  split <;> simp only [apply_ite State.keep, ite_self, State.setRegB_keep, State.modPort_keep, State.trvIrq_keep]
theorem State.lineLink_keep (s : State) (n : Nat) (up : Bool) : (State.lineLink s n up).keep = s.keep := by
  unfold State.lineLink
  simp only [apply_ite State.keep, ite_self, State.setRegB_keep, State.wire_keep, State.modPort_keep, State.trvIrq_keep]
theorem State.preempt_keep (s : State) (n : Nat) (ok : Bool) : (State.preempt s n ok).keep = s.keep := by
  unfold State.preempt
  simp only [apply_ite State.keep, ite_self, State.setRegB_keep]
theorem State.storeIncr_keep (s : State) (v : Nat) : (State.storeIncr s v).keep = s.keep := by
  unfold State.storeIncr
  simp only [apply_ite State.keep, ite_self, State.setReg_keep, State.setRegB_keep, State.raiseBit_keep]
theorem State.armStep_keep (s : State) (ofs : Int) : (State.armStep s ofs).keep = s.keep := by
  unfold State.armStep
  simp only [State.setRegB_keep, State.setReg64_keep]
theorem State.writeIncr_keep (s : State) (m lo : Nat) (hi : Word) : (State.writeIncr s m lo hi).keep = s.keep := by
  unfold State.writeIncr
  simp only [apply_ite State.keep, ite_self, State.misused_keep, State.storeIncr_keep]
theorem State.writeStep_keep (s : State) (m lo : Nat) (hi : Word) : (State.writeStep s m lo hi).keep = s.keep := by
  unfold State.writeStep
  simp only [apply_ite State.keep, ite_self, State.misused_keep, State.armStep_keep]
theorem State.selectMaster_keep (s : State) : (State.selectMaster s).keep = s.keep := by
  unfold State.selectMaster
  simp only [foldl_keep, apply_ite State.keep, ite_self, implies_true, State.setRegF_keep, State.setRegB_keep,
      State.setReg64_keep, State.raiseBit_keep]
theorem State.ptpRx_keep (s : State) (n kind domain : Nat) (f : State → State) (hf : ∀ t, (f t).keep = t.keep) :
    (State.ptpRx s n kind domain f).keep = s.keep := by
  unfold State.ptpRx
  simp only [apply_ite State.keep, ite_self, State.received_keep, hf]
theorem State.measured_keep (s : State) (ofs delay : Int) (every : Nat) : (State.measured s ofs delay every).keep =
    s.keep := by
  unfold State.measured
  simp only [State.keep_mk, State.keep_eta, State.setReg_keep, State.setRegB_keep, State.countWrap_keep]
theorem State.syncDone_keep (s : State) (n : Nat) (origin t : Int) : (State.syncDone s n origin t).keep = s.keep := by
  unfold State.syncDone
  simp only [State.modPtp_keep, State.measured_keep]
theorem State.syncRx_keep (s : State) (n seq : Nat) (twoStep : Bool) (domain : Nat) (origin corr : Int) :
    (State.syncRx s n seq twoStep domain origin corr).keep = s.keep := by
  unfold State.syncRx
  simp only [apply_ite State.keep, ite_self, implies_true, State.modPtp_keep, State.ptpRx_keep, State.syncDone_keep]
theorem State.followUpRx_keep (s : State) (n seq domain : Nat) (origin corr : Int) : (State.followUpRx s n seq domain
    origin corr).keep = s.keep := by
  unfold State.followUpRx
  repeat' (first | with_reducible rfl | simp only [apply_ite State.keep, ite_self, State.syncDone_keep] | split
                 | refine (State.ptpRx_keep _ _ _ _ _ (fun _ => ?_)).trans ?_)
theorem State.delayReqRx_keep (s : State) (n seq domain requester : Nat) : (State.delayReqRx s n seq domain
    requester).keep = s.keep := by
  unfold State.delayReqRx
  simp only [apply_ite State.keep, ite_self, implies_true, State.queuePtp_keep, State.ptpRx_keep]
theorem State.delayRespRx_keep (s : State) (n seq domain : Nat) (receipt corr : Int) : (State.delayRespRx s n seq
    domain receipt corr).keep = s.keep := by
  unfold State.delayRespRx
  repeat' (first | with_reducible rfl | simp only [apply_ite State.keep, ite_self, State.modPtp_keep] | split
                 | refine (State.ptpRx_keep _ _ _ _ _ (fun _ => ?_)).trans ?_)
theorem State.pdelayReqRx_keep (s : State) (n seq domain requester : Nat) : (State.pdelayReqRx s n seq domain
    requester).keep = s.keep := by
  unfold State.pdelayReqRx
  simp only [apply_ite State.keep, ite_self, implies_true, State.queuePtp_keep, State.ptpRx_keep]
theorem State.pdelayRespRx_keep (s : State) (n seq domain : Nat) (receipt corr : Int) : (State.pdelayRespRx s n seq
    domain receipt corr).keep = s.keep := by
  unfold State.pdelayRespRx
  repeat' (first | with_reducible rfl | simp only [apply_ite State.keep, ite_self, State.modPtp_keep] | split
                 | refine (State.ptpRx_keep _ _ _ _ _ (fun _ => ?_)).trans ?_)
theorem State.pdelayFollowRx_keep (s : State) (n seq domain : Nat) (origin corr : Int) : (State.pdelayFollowRx s n seq
    domain origin corr).keep = s.keep := by
  unfold State.pdelayFollowRx
  repeat' (first | with_reducible rfl
                 | simp only [apply_ite State.keep, ite_self, State.setRegB_keep, State.modPtp_keep] | split
                 | refine (State.ptpRx_keep _ _ _ _ _ (fun _ => ?_)).trans ?_)
theorem State.announceRx_keep (s : State) (n domain : Nat) (a : Announced) : (State.announceRx s n domain a).keep =
    s.keep := by
  unfold State.announceRx
  simp only [apply_ite State.keep, ite_self, implies_true, State.modPtp_keep, State.selectMaster_keep, State.ptpRx_keep]
theorem State.signalingRx_keep (s : State) (n domain : Nat) (ls la ld : Int) : (State.signalingRx s n domain ls la
    ld).keep = s.keep := by
  unfold State.signalingRx
  simp only [implies_true, State.modPtp_keep, State.ptpRx_keep]
theorem State.managementRx_keep (s : State) (n : Nat) : (State.managementRx s n).keep = s.keep := by
  unfold State.managementRx
  simp only [apply_ite State.keep, ite_self, State.count_keep, State.received_keep]
theorem State.ptpSend_keep (s : State) (n kind : Nat) : (State.ptpSend s n kind).keep = s.keep := by
  unfold State.ptpSend
  repeat' (first | with_reducible rfl
                 | simp only [apply_ite State.keep, ite_self, State.modPtp_keep, State.queuePtp_keep,
                     State.selectMaster_keep]
                 | split)
theorem State.ptpChanged_keep (s : State) (was : Nat → Bool) : (State.ptpChanged s was).keep = s.keep := by
  unfold State.ptpChanged
  simp only [foldl_keep, apply_ite State.keep, ite_self, implies_true, State.setRegB_keep, State.modPtp_keep,
      State.selectMaster_keep]
theorem State.servoUpdate_keep (s : State) : (State.servoUpdate s).keep = s.keep := by
  unfold State.servoUpdate
  split <;> simp only [State.keep_mk, State.keep_eta, apply_ite State.keep, ite_self, State.setRegB_keep,
      State.fresh_keep, State.storeIncr_keep, State.armStep_keep]
theorem State.holdover_keep (s : State) : (State.holdover s).keep = s.keep := by
  unfold State.holdover
  split <;> simp only [apply_ite State.keep, ite_self, State.setRegB_keep, State.raiseBit_keep]
theorem State.txqPop_keep (s : State) (n : Nat) (v : Word) : (State.txqPop s n v).keep = s.keep := by
  unfold State.txqPop
  simp only [State.keep_mk, State.keep_eta, apply_ite State.keep, ite_self]
theorem State.setCmpTarget_keep (s : State) (k t : Nat) : (State.setCmpTarget s k t).keep = s.keep := by
  unfold State.setCmpTarget
  simp only [State.setReg_keep]
theorem State.cmpAct_keep (s : State) (k t : Nat) : (State.cmpAct s k t).keep = s.keep := by
  unfold State.cmpAct
  split <;> simp only [foldl_keep, apply_ite State.keep, ite_self, implies_true, State.arriveMask_keep,
      State.convStartMask_keep, State.cycleStart_keep]
theorem State.firedHeld_keep (s : State) (k t : Nat) : (State.firedHeld s k t).keep = s.keep := by
  unfold State.firedHeld
  simp only [State.keep_mk, State.keep_eta, foldl_keep, apply_ite State.keep, ite_self, implies_true]
theorem State.cmpFire_keep (s : State) (k : Nat) : (State.cmpFire s k).keep = s.keep := by
  unfold State.cmpFire
  simp only [apply_ite State.keep, ite_self, State.setRegB_keep, State.countF_keep, State.raiseBit_keep,
      State.setCmpTarget_keep, State.cmpAct_keep, State.firedHeld_keep]
theorem State.fireFirst_keep (s : State) (k : Nat) : (State.fireFirst s k).keep = s.keep := by
  unfold State.fireFirst
  simp only [apply_ite State.keep, ite_self, State.note_keep, State.cmpFire_keep]
theorem State.loadCmp_keep (s : State) (k kind per ph act : Nat) : (State.loadCmp s k kind per ph act).keep = s.keep := by
  unfold State.loadCmp
  simp only [State.setReg_keep, State.setCmpTarget_keep]
theorem State.loadComparators_keep (s : State) (changed : Nat → Bool) : (State.loadComparators s changed).keep =
    s.keep := by
  unfold State.loadComparators
  repeat' (first | with_reducible rfl
                 | simp only [apply_ite State.keep, ite_self, State.setRegB_keep, State.misused_keep, State.loadCmp_keep]
                 | split | refine (foldl_keep _ _ _ (fun _ _ => ?_)).trans ?_)
theorem State.writeCmpCfg_keep (s : State) (k : Nat) (v : Word) : (State.writeCmpCfg s k v).keep = s.keep := by
  unfold State.writeCmpCfg
  simp only [apply_ite State.keep, ite_self, State.setRegF_keep, State.setRegB_keep]
theorem State.modChan_keep (s : State) (n : Nat) (f : Chan → Chan) : (State.modChan s n f).keep = s.keep := by
  unfold State.modChan
  simp only [State.keep_mk, State.keep_eta]
theorem State.modGrp_keep (s : State) (g : Nat) (f : Group → Group) : (State.modGrp s g f).keep = s.keep := by
  unfold State.modGrp
  simp only [State.keep_mk, State.keep_eta]
theorem State.chEvt_keep (s : State) (n i : Nat) : (State.chEvt s n i).keep = s.keep := by
  unfold State.chEvt
  simp only [apply_ite State.keep, ite_self, State.setRegB_keep, State.raiseBit_keep]
theorem State.setFlag_keep (s : State) (n f : Nat) (b : Bool) : (State.setFlag s n f b).keep = s.keep := by
  unfold State.setFlag
  split <;> simp only [apply_ite State.keep, ite_self, State.setRegB_keep, State.chEvt_keep]
theorem State.dropOuts_keep (s : State) (g : Nat) : (State.dropOuts s g).keep = s.keep := by
  unfold State.dropOuts
  simp only [State.modGrp_keep]
theorem State.stageOff_keep (s : State) (n : Nat) : (State.stageOff s n).keep = s.keep := by
  unfold State.stageOff
  simp only [State.modChan_keep]
theorem State.measure_keep (s : State) (n : Nat) (v : Int) : (State.measure s n v).keep = s.keep := by
  unfold State.measure
  simp only [apply_ite State.keep, ite_self, State.setReg_keep, State.setFlag_keep]
theorem State.chMeasured_keep (s : State) (g t : Nat) (vals : List (Nat × Int)) : (State.chMeasured s g t vals).keep =
    s.keep := by
  unfold State.chMeasured
  simp only [foldl_keep, apply_ite State.keep, ite_self, implies_true, State.measure_keep]
theorem State.revived_keep (s : State) (g : Nat) : (State.revived s g).keep = s.keep := by
  unfold State.revived
  simp only [foldl_keep, apply_ite State.keep, ite_self, implies_true, State.modChan_keep]
theorem State.atInstant_keep (s : State) (g i : Nat) : (State.atInstant s g i).keep = s.keep := by
  unfold State.atInstant
  simp only [foldl_keep, implies_true, State.modChan_keep, State.modGrp_keep]
theorem State.ioInstant_keep (s : State) (g : Nat) (vals : List (Nat × Int)) : (State.ioInstant s g vals).keep =
    s.keep := by
  unfold State.ioInstant
  simp only [apply_ite State.keep, ite_self, State.modGrp_keep, State.chMeasured_keep, State.revived_keep,
      State.atInstant_keep]
theorem State.writeIn_keep (s : State) (x : Nat × Nat × Word) : (State.writeIn s x).keep = s.keep := by
  unfold State.writeIn
  simp only [apply_ite State.keep, ite_self, State.setImgW_keep, State.setImgBit_keep, State.touchInput_keep]
theorem State.inputWrite_keep (s : State) (g : Nat) : (State.inputWrite s g).keep = s.keep := by
  unfold State.inputWrite
  split <;> simp only [foldl_keep, apply_ite State.keep, ite_self, implies_true, State.modGrp_keep, State.writeIn_keep]
theorem State.takeUp_keep (s : State) (n : Nat) (w : Word) : (State.takeUp s n w).keep = s.keep := by
  unfold State.takeUp
  simp only [apply_ite State.keep, ite_self, State.setRegB_keep, State.modChan_keep]
theorem State.applyOutputs_keep (s : State) (g : Nat) (outs : List (Nat × Word)) : (State.applyOutputs s g outs).keep
    = s.keep := by
  unfold State.applyOutputs
  simp only [State.keep_mk, State.keep_eta, foldl_keep, implies_true, State.modChan_keep, State.takeUp_keep]
theorem State.outputApply_keep (s : State) (g : Nat) : (State.outputApply s g).keep = s.keep := by
  unfold State.outputApply
  split <;> simp only [apply_ite State.keep, ite_self, State.modGrp_keep, State.applyOutputs_keep]
theorem State.grpEnables_keep (s : State) (g ctl chen : Nat) : (State.grpEnables s g ctl chen).keep = s.keep := by
  unfold State.grpEnables
  simp only [foldl_keep, apply_ite State.keep, ite_self, implies_true, State.setReg_keep, State.dropOuts_keep,
      State.stageOff_keep]
theorem State.conversionDone_keep (s : State) (g : Nat) (vals : List (Nat × Int)) : (State.conversionDone s g
    vals).keep = s.keep := by
  unfold State.conversionDone
  split <;> simp only [foldl_keep, apply_ite State.keep, ite_self, implies_true, State.modGrp_keep,
      State.chMeasured_keep, State.writeIn_keep]
theorem State.calStale_keep (s : State) (n : Nat) : (State.calStale s n).keep = s.keep := by
  unfold State.calStale
  simp only [State.setFlag_keep]
theorem State.ctlTemp_keep (s : State) (n : Nat) (temp : Int) : (State.ctlTemp s n temp).keep = s.keep := by
  unfold State.ctlTemp
  simp only [foldl_keep, implies_true, State.setRegF_keep, State.extreme_keep, State.calStale_keep]
theorem State.diagnostic_keep (s : State) (n f : Nat) (on : Bool) (temp : Int) : (State.diagnostic s n f on temp).keep
    = s.keep := by
  unfold State.diagnostic
  simp only [apply_ite State.keep, ite_self, State.setFlag_keep, State.ctlTemp_keep]
theorem State.looseTrip_keep (s : State) (n : Nat) (hot : Bool) : (State.looseTrip s n hot).keep = s.keep := by
  unfold State.looseTrip
  simp only [State.modChan_keep, State.chEvt_keep, State.setFlag_keep, State.stageOff_keep]
theorem State.chTrip_keep (s : State) (n : Nat) (hot : Bool) : (State.chTrip s n hot).keep = s.keep := by
  unfold State.chTrip
  simp only [apply_ite State.keep, ite_self, State.countF_keep, State.tally_keep, State.noteRetired_keep,
      State.modChan_keep, State.chEvt_keep, State.setFlag_keep, State.stageOff_keep, State.looseTrip_keep]
theorem State.tripRetry_keep (s : State) (n : Nat) (cool : Bool) : (State.tripRetry s n cool).keep = s.keep := by
  unfold State.tripRetry
  repeat' (first | with_reducible rfl | simp only [apply_ite State.keep, ite_self, State.modChan_keep] | split)
theorem State.tripSeqEnd_keep (s : State) (n : Nat) : (State.tripSeqEnd s n).keep = s.keep := by
  unfold State.tripSeqEnd
  simp only [apply_ite State.keep, ite_self, State.modChan_keep]
theorem State.revive_keep (s : State) (n : Nat) : (State.revive s n).keep = s.keep := by
  unfold State.revive
  simp only [State.keep_mk, State.keep_eta, State.modChan_keep]
theorem State.vfld_keep (s : State) (g mv : Nat) : (State.vfld s g mv).keep = s.keep := by
  unfold State.vfld
  simp only [apply_ite State.keep, ite_self, State.setRegF_keep, State.setRegB_keep, State.extreme_keep,
      State.raiseBit_keep, State.modGrp_keep]
theorem State.setSupply_keep (s : State) (g v : Nat) : (State.setSupply s g v).keep = s.keep := by
  unfold State.setSupply
  simp only [foldl_keep, implies_true, State.setRegF_keep, State.modChan_keep, State.dropOuts_keep]
theorem State.supplyLost_keep (s : State) (g mv : Nat) : (State.supplyLost s g mv).keep = s.keep := by
  unfold State.supplyLost
  simp only [apply_ite State.keep, ite_self, State.countF_keep, State.tally_keep, State.raiseBit_keep,
      State.vfld_keep, State.setSupply_keep]
theorem State.supplyBack_keep (s : State) (g mv : Nat) : (State.supplyBack s g mv).keep = s.keep := by
  unfold State.supplyBack
  repeat' (first | with_reducible rfl
                 | simp only [apply_ite State.keep, State.raiseBit_keep, State.vfld_keep, State.setSupply_keep] | split)
theorem State.restoreAck_keep (s : State) (g : Nat) (v : Word) : (State.restoreAck s g v).keep = s.keep := by
  unfold State.restoreAck
  simp only [apply_ite State.keep, ite_self, State.setSupply_keep]
theorem State.silence_keep (s : State) (c : Nat) : (State.silence s c).keep = s.keep := by
  unfold State.silence
  simp only [State.keep_mk, State.keep_eta, foldl_keep, apply_ite State.keep, ite_self, implies_true,
      State.setRegB_keep, State.modChan_keep, State.stageOff_keep]
theorem State.chainChange_keep (s : State) (f : State → State) (hf : ∀ t, (f t).keep = t.keep) : (State.chainChange s
    f).keep = s.keep := by
  unfold State.chainChange
  simp only [apply_ite State.keep, ite_self, State.raiseBit_keep, hf]
theorem State.ctlRestart_keep (s : State) (c phase : Nat) : (State.ctlRestart s c phase).keep = s.keep := by
  unfold State.ctlRestart
  repeat' (first | with_reducible rfl
                 | simp only [apply_ite State.keep, ite_self, implies_true, State.setRegF_keep, State.silence_keep,
                     State.chainChange_keep]
                 | split)
theorem State.benchmark_keep (s : State) (n : Nat) (dev : Int) (blocked : Bool) : (State.benchmark s n dev
    blocked).keep = s.keep := by
  unfold State.benchmark
  simp only [apply_ite State.keep, ite_self, State.setRegF_keep, State.modChan_keep, State.setFlag_keep]
theorem State.setFi_keep (s : State) (k : Nat) (x : FastIn) : (State.setFi s k x).keep = s.keep := by
  unfold State.setFi
  simp only [State.keep_mk, State.keep_eta]
theorem State.fiEdge_keep (s : State) (k back : Nat) (rising : Bool) : (State.fiEdge s k back rising).keep = s.keep := by
  unfold State.fiEdge
  simp only [apply_ite State.keep, ite_self, State.count_keep, State.raiseBit_keep, State.writeIn_keep, State.setFi_keep]
theorem State.fiPop_keep (s : State) (k : Nat) (v : Word) : (State.fiPop s k v).keep = s.keep := by
  unfold State.fiPop
  simp only [apply_ite State.keep, ite_self, State.setFi_keep]
theorem State.foFault_keep (s : State) (k : Nat) : (State.foFault s k).keep = s.keep := by
  unfold State.foFault
  simp only [State.keep_mk, State.keep_eta, apply_ite State.keep, ite_self, State.count_keep, State.raiseBit_keep]
theorem State.foRetry_keep (s : State) (k : Nat) : (State.foRetry s k).keep = s.keep := by
  unfold State.foRetry
  split <;> simp only [State.keep_mk, State.keep_eta, apply_ite State.keep, ite_self]
theorem State.swapChan_keep (s : State) (old : Sparse Word) (n : Nat) : (State.swapChan s old n).keep = s.keep := by
  unfold State.swapChan
  simp only [apply_ite State.keep, ite_self, State.setReg_keep, State.modChan_keep]
theorem State.swapFo_keep (s : State) (old : Sparse Word) (k : Nat) : (State.swapFo s old k).keep = s.keep := by
  unfold State.swapFo
  simp only [State.keep_mk, State.keep_eta, apply_ite State.keep, ite_self, State.countF_keep, State.raiseBit_keep,
      State.setEdges_keep]
theorem State.keepIo_keep (s : State) (old : Sparse Word) : (State.keepIo s old).keep = s.keep := by
  unfold State.keepIo
  simp only [foldl_keep, implies_true, State.modGrp_keep]
theorem State.swapChannels_keep (s : State) (old : Sparse Word) : (State.swapChannels s old).keep = s.keep := by
  unfold State.swapChannels
  simp only [foldl_keep, implies_true, State.dropOuts_keep, State.swapChan_keep, State.swapFo_keep, State.keepIo_keep]
theorem State.checkChannels_keep (s : State) : (State.checkChannels s).keep = s.keep := by
  unfold State.checkChannels
  simp only [apply_ite State.keep, ite_self, State.misused_keep]
theorem State.reconfigDone_keep (s : State) (n : Nat) : (State.reconfigDone s n).keep = s.keep := by
  unfold State.reconfigDone
  simp only [apply_ite State.keep, ite_self, State.modChan_keep]
theorem State.canError_keep (s : State) (n lec tec rec : Nat) : (State.canError s n lec tec rec).keep = s.keep := by
  unfold State.canError
  simp only [State.setRegF_keep, State.countF_keep, State.setCounts_keep]
theorem State.canCtl_keep (s : State) (n : Nat) (v : Word) : (State.canCtl s n v).keep = s.keep := by
  unfold State.canCtl
  simp only [apply_ite State.keep, ite_self, State.setReg_keep, State.misused_keep, State.canLater_keep]
theorem State.canSync_keep (s : State) (n : Nat) : (State.canSync s n).keep = s.keep := by
  unfold State.canSync
  simp only [apply_ite State.keep, ite_self, State.setRegB_keep]
theorem State.canEvent_keep (s : State) (n : Nat) (e : CanEntry) (status : Nat) (urgent : Bool) (ts : Word) :
    (State.canEvent s n e status urgent ts).keep = s.keep := by
  unfold State.canEvent
  simp only [apply_ite State.keep, ite_self, State.count_keep, State.raiseBit_keep, State.setCan_keep]
theorem State.txePop_keep (s : State) (n : Nat) (v : Word) : (State.txePop s n v).keep = s.keep := by
  unfold State.txePop
  simp only [apply_ite State.keep, ite_self, State.setCan_keep]
theorem State.canPush_keep (s : State) (n : Nat) (v : Word) : (State.canPush s n v).keep = s.keep := by
  unfold State.canPush
  simp only [apply_ite State.keep, ite_self, State.setReg_keep, State.setCan_keep]
theorem State.frameSent_keep (s : State) (n : Nat) (urgent : Bool) (back : Nat) : (State.frameSent s n urgent
    back).keep = s.keep := by
  unfold State.frameSent
  split <;> simp only [apply_ite State.keep, ite_self, State.setCan_keep, State.setCounts_keep, State.canEvent_keep]
theorem State.idCollision_keep (s : State) (n : Nat) (urgent : Bool) : (State.idCollision s n urgent).keep = s.keep := by
  unfold State.idCollision
  split <;> simp only [apply_ite State.keep, ite_self, State.count_keep, State.raiseBit_keep, State.setCan_keep,
      State.canError_keep]
theorem State.canRelease_keep (s : State) (n : Nat) : (State.canRelease s n).keep = s.keep := by
  unfold State.canRelease
  split <;> simp only [State.setCan_keep]
theorem State.canDiscard_keep (s : State) (n : Nat) : (State.canDiscard s n).keep = s.keep := by
  unfold State.canDiscard
  split <;> simp only [State.setCan_keep, State.canEvent_keep]
theorem State.canFlush_keep (s : State) (n : Nat) : (State.canFlush s n).keep = s.keep := by
  unfold State.canFlush
  simp only [foldl_keep, implies_true, State.setCan_keep, State.canEvent_keep]
theorem State.canRecover_keep (s : State) (n : Nat) : (State.canRecover s n).keep = s.keep := by
  unfold State.canRecover
  simp only [apply_ite State.keep, ite_self, State.setCanBus_keep]
theorem State.canCmd_keep (s : State) (n : Nat) (v : Word) : (State.canCmd s n v).keep = s.keep := by
  unfold State.canCmd
  split <;> simp only [State.misused_keep, State.canRelease_keep, State.canDiscard_keep, State.canFlush_keep,
      State.canRecover_keep]
theorem State.frameRx_keep (s : State) (n : Nat) (id info : Word) (back : Nat) (bytes : List Byte) : (State.frameRx s
    n id info back bytes).keep = s.keep := by
  unfold State.frameRx
  repeat' (first | with_reducible rfl
                 | simp only [State.keep_mk, State.keep_eta, apply_ite State.keep, ite_self, State.count_keep,
                     State.raiseBit_keep, State.setCan_keep, State.setCounts_keep]
                 | split)
theorem State.rxSel_keep (s : State) (n : Nat) (v : Word) : (State.rxSel s n v).keep = s.keep := by
  unfold State.rxSel
  simp only [foldl_keep, implies_true, State.setReg_keep, State.setCan_keep]
theorem State.busOff_keep (s : State) (n : Nat) : (State.busOff s n).keep = s.keep := by
  unfold State.busOff
  simp only [apply_ite State.keep, ite_self, State.enterBusOff_keep]
theorem State.busBack_keep (s : State) (n : Nat) : (State.busBack s n).keep = s.keep := by
  unfold State.busBack
  simp only [apply_ite State.keep, ite_self, State.setCanBus_keep, State.setCounts_keep]
theorem State.busError__keep (s : State) (n lec tec rec : Nat) : (State.busError_ s n lec tec rec).keep = s.keep := by
  unfold State.busError_
  simp only [apply_ite State.keep, ite_self, State.canError_keep]
theorem State.tscCap_keep (s : State) (n : Nat) (v : Word) : (State.tscCap s n v).keep = s.keep := by
  unfold State.tscCap
  simp only [apply_ite State.keep, ite_self, State.canCapture_keep]
theorem State.startSeq_keep (s : State) : (State.startSeq s).keep = s.keep := by
  unfold State.startSeq
  simp only [State.keep_mk, State.keep_eta, apply_ite State.keep, ite_self, State.setReg_keep, State.raiseBit_keep]
theorem State.beginStretch_keep (s : State) : (State.beginStretch s).keep = s.keep := by
  unfold State.beginStretch
  simp only [State.keep_mk, State.keep_eta, foldl_keep, apply_ite State.keep, ite_self, implies_true, State.extreme_keep]
theorem State.startRecord_keep (s : State) : (State.startRecord s).keep = s.keep := by
  unfold State.startRecord
  simp only [State.putRecord_keep, State.beginStretch_keep]
theorem State.lifeAdd_keep (s : State) (off n : Nat) : (State.lifeAdd s off n).keep = s.keep := by
  unfold State.lifeAdd
  simp only [State.keep_mk, State.keep_eta]
theorem State.closeStretch_keep (s : State) (cause : Nat) : (State.closeStretch s cause).keep = s.keep := by
  unfold State.closeStretch
  split <;> simp only [State.keep_mk, State.keep_eta, apply_ite State.keep, ite_self, State.beginStretch_keep,
      State.lifeAdd_keep]
theorem State.periodEnd_keep (s : State) : (State.periodEnd s).keep = s.keep := by
  unfold State.periodEnd
  split <;> simp only [apply_ite State.keep, ite_self, State.closeStretch_keep]
theorem State.recSel_keep (s : State) (v : Word) : (State.recSel s v).keep = s.keep := by
  unfold State.recSel
  simp only [foldl_keep, implies_true, State.setReg_keep]
theorem State.checkItems_keep (s : State) (covered : Nat → Bool) : (State.checkItems s covered).keep = s.keep := by
  unfold State.checkItems
  simp only [apply_ite State.keep, ite_self, State.misused_keep, State.checkChannels_keep]
theorem State.swapDatum_keep (s : State) (old : Sparse Word) (d : Nat) : (State.swapDatum s old d).keep = s.keep := by
  unfold State.swapDatum
  simp only [apply_ite State.keep, ite_self, State.setDat_keep, State.modDat_keep]
theorem State.engageDefined_keep (s : State) : (State.engageDefined s).keep = s.keep := by
  unfold State.engageDefined
  simp only [foldl_keep, apply_ite State.keep, ite_self, implies_true, State.engage_keep]
theorem State.swapTasks_keep (s : State) : (State.swapTasks s).keep = s.keep := by
  unfold State.swapTasks
  repeat' (first | with_reducible rfl | simp only [apply_ite State.keep, State.setTaskState_keep] | split
                 | refine (foldl_keep _ _ _ (fun _ _ => ?_)).trans ?_)
theorem State.swapInstances_keep (s : State) (old : Sparse Word) : (State.swapInstances s old).keep = s.keep := by
  unfold State.swapInstances
  simp only [foldl_keep, implies_true, State.swapInst_keep]
theorem State.activate_keep (s : State) (mask : Nat) (c : Sparse Word) : (State.activate s mask c).keep = s.keep := by
  unfold State.activate
  simp only [State.keep_mk, State.keep_eta, foldl_keep, apply_ite State.keep, ite_self, implies_true,
      State.swapStakes_keep, State.rewritten_keep, State.keepItems_keep, State.loadComparators_keep,
      State.swapChannels_keep, State.checkItems_keep, State.swapDatum_keep, State.engageDefined_keep,
      State.swapTasks_keep, State.swapInstances_keep]
theorem State.fireOwned_keep (s : State) : (State.fireOwned s).keep = s.keep := by
  unfold State.fireOwned
  simp only [foldl_keep, apply_ite State.keep, ite_self, implies_true, State.fireFirst_keep]
theorem State.keepApp_keep (s : State) : (State.keepApp s).keep = s.keep := by
  unfold State.keepApp
  simp only [State.keep_mk, State.keep_eta]
theorem State.swapNow_keep (s : State) (w : ArmedSwap) : (State.swapNow s w).keep = s.keep := by
  unfold State.swapNow
  simp only [State.keep_mk, State.keep_eta, apply_ite State.keep, ite_self, State.misused_keep, State.finishOk_keep,
      State.record_keep, State.activate_keep, State.fireOwned_keep, State.keepApp_keep]
theorem State.testSwap_keep (s : State) : (State.testSwap s).keep = s.keep := by
  unfold State.testSwap
  repeat' (first | with_reducible rfl | simp only [State.keep_mk, State.keep_eta, apply_ite State.keep] | split)
theorem State.testTrigger_keep (s : State) : (State.testTrigger s).keep = s.keep := by
  unfold State.testTrigger
  simp only [apply_ite State.keep, ite_self, State.testSwap_keep]
theorem State.swapApply_keep (s : State) : (State.swapApply s).keep = s.keep := by
  unfold State.swapApply
  repeat' (first | with_reducible rfl | simp only [State.until__keep, State.swapNow_keep, State.testTrigger_keep] | split)
theorem State.setSlot_keep (s : State) (k : Nat) (x : Slot) : (State.setSlot s k x).keep = s.keep := by
  unfold State.setSlot
  simp only [State.keep_mk, State.keep_eta]
theorem State.endBurn_keep (s : State) (more : Nat) : (State.endBurn s more).keep = s.keep := by
  unfold State.endBurn
  split <;> simp only [State.keep_mk, State.keep_eta]
theorem State.trySlot_keep (s : State) (k : Nat) : (State.trySlot s k).1.keep = s.keep := by
  unfold State.trySlot
  repeat' (first | with_reducible rfl | simp only [State.setSlot_keep] | split)
theorem State.runSlot_keep (s : State) (k first : Nat) : (State.runSlot s k first).keep = s.keep := by
  unfold State.runSlot
  repeat' (first | with_reducible rfl
                 | simp only [State.keep_mk, State.keep_eta, apply_ite State.keep, ite_self, State.setReg_keep,
                     State.setRegF_keep, State.setRegB_keep, State.setSlot_keep]
                 | split)
theorem State.boot_keep (s : State) : (State.boot s).keep = s.keep := by
  unfold State.boot
  simp only [State.keep_mk, State.keep_eta, apply_ite State.keep, ite_self, State.setRegF_keep, State.setRegB_keep,
      State.trySlot_keep, State.runSlot_keep]
theorem State.checkSettings_keep (s : State) : (State.checkSettings s).keep = s.keep := by
  unfold State.checkSettings
  repeat' (first | with_reducible rfl
                 | simp only [State.keep_mk, State.keep_eta, foldl_keep, apply_ite State.keep, ite_self, implies_true,
                     State.setReg_keep]
                 | split)
theorem State.ctlsDown_keep (s : State) : (State.ctlsDown s).keep = s.keep := by
  unfold State.ctlsDown
  simp only [foldl_keep, implies_true, State.setRegF_keep]
theorem State.startUnder_keep (s : State) (cause : Nat) : (State.startUnder s cause).keep = s.keep := by
  unfold State.startUnder
  simp only [State.keep_mk, State.keep_eta, State.setReg_keep]
theorem State.feedMv_keep (s : State) (feed mv : Nat) : (State.feedMv s feed mv).keep = s.keep := by
  unfold State.feedMv
  simp only [apply_ite State.keep, ite_self, State.setRegF_keep, State.extreme_keep]
theorem State.feedLow_keep (s : State) (feed mv : Nat) : (State.feedLow s feed mv).keep = s.keep := by
  unfold State.feedLow
  simp only [apply_ite State.keep, ite_self, State.setRegB_keep, State.raiseBit_keep, State.feedMv_keep]
theorem State.feedLowClear_keep (s : State) (feed mv : Nat) : (State.feedLowClear s feed mv).keep = s.keep := by
  unfold State.feedLowClear
  simp only [apply_ite State.keep, ite_self, State.setRegB_keep, State.feedMv_keep]
theorem State.recordsOut_keep (s : State) : (State.recordsOut s).keep = s.keep := by
  unfold State.recordsOut
  simp only [State.keep_mk, State.keep_eta, State.recFlush_keep]
theorem State.closeRecords_keep (s : State) : (State.closeRecords s).keep = s.keep := by
  unfold State.closeRecords
  simp only [State.closeStretch_keep, State.recordsOut_keep]
theorem State.lastSteps_keep (s : State) : (State.lastSteps s).keep = s.keep := by
  unfold State.lastSteps
  simp only [apply_ite State.keep, ite_self, State.sendSeq_keep, State.releaseOutputs_keep, State.fence_keep,
      State.closeRecords_keep]
theorem State.holdUp_keep (s : State) : (State.holdUp s).keep = s.keep := by
  unfold State.holdUp
  simp only [State.keep_mk, State.keep_eta]
theorem State.feedGood_keep (s : State) (feed mv : Nat) : (State.feedGood s feed mv).keep = s.keep := by
  unfold State.feedGood
  repeat' (first | with_reducible rfl
                 | simp only [apply_ite State.keep, State.setRegB_keep, State.raiseBit_keep, State.startUnder_keep,
                     State.feedMv_keep]
                 | split)
theorem State.vbak_keep (s : State) (mv : Nat) : (State.vbak s mv).keep = s.keep := by
  unfold State.vbak
  simp only [apply_ite State.keep, ite_self, State.setRegF_keep, State.setRegB_keep, State.extreme_keep,
      State.raiseBit_keep]
theorem State.vbakLoss_keep (s : State) (mv : Nat) : (State.vbakLoss s mv).keep = s.keep := by
  unfold State.vbakLoss
  simp only [State.keep_mk, State.keep_eta, apply_ite State.keep, ite_self, State.vbak_keep]
theorem State.holdupMeasure_keep (s : State) (bank est : Nat) : (State.holdupMeasure s bank est).keep = s.keep := by
  unfold State.holdupMeasure
  simp only [apply_ite State.keep, ite_self, State.setReg_keep, State.setRegB_keep, State.raiseBit_keep]
theorem State.railMv_keep (s : State) (rail mv : Nat) : (State.railMv s rail mv).keep = s.keep := by
  unfold State.railMv
  simp only [State.setRegF_keep]
theorem State.temps_keep (s : State) (die board : Int) : (State.temps s die board).keep = s.keep := by
  unfold State.temps
  simp only [apply_ite State.keep, ite_self, State.setReg_keep, State.setRegB_keep, State.extreme_keep, State.raiseBit_keep]
theorem State.holdHot_keep (s : State) : (State.holdHot s).keep = s.keep := by
  unfold State.holdHot
  simp only [State.keep_mk, State.keep_eta]
theorem State.thermalRelease_keep (s : State) (die board : Int) : (State.thermalRelease s die board).keep = s.keep := by
  unfold State.thermalRelease
  simp only [apply_ite State.keep, ite_self, State.startUnder_keep, State.temps_keep]
theorem State.rstReq_keep (s : State) (v : Word) : (State.rstReq s v).keep = s.keep := by
  unfold State.rstReq
  simp only [State.keep_mk, State.keep_eta, apply_ite State.keep, ite_self, State.fence_keep, State.closeStretch_keep]
theorem State.domainOff_keep (s : State) (d : Nat) : (State.domainOff s d).keep = s.keep := by
  unfold State.domainOff
  split <;> simp only [State.keep_mk, State.keep_eta, foldl_keep, implies_true, State.setRegB_keep]
theorem State.applyRetired_keep (s : State) (r : Retired) : (State.applyRetired s r).keep = s.keep := by
  unfold State.applyRetired
  repeat' (first | with_reducible rfl
                 | simp only [apply_ite State.keep, State.setRegF_keep, State.setRegB_keep, State.modChk_keep,
                     State.setCmpState_keep, State.modChan_keep]
                 | split)
theorem State.markSpares_keep (s : State) : (State.markSpares s).keep = s.keep := by
  unfold State.markSpares
  simp only [foldl_keep, apply_ite State.keep, ite_self, implies_true, State.setCmpState_keep]
theorem State.applyRetirements_keep (s : State) : (State.applyRetirements s).keep = s.keep := by
  unfold State.applyRetirements
  simp only [foldl_keep, implies_true, State.applyRetired_keep, State.markSpares_keep]
theorem State.firstTest_keep (s : State) (x : Nat) : (State.firstTest s x).keep = s.keep := by
  unfold State.firstTest
  simp only [apply_ite State.keep, ite_self, State.setRegF_keep, State.countWrap_keep]
theorem State.changeCtl_keep (s : State) (build c : Nat) : (State.changeCtl s build c).keep = s.keep := by
  unfold State.changeCtl
  simp only [State.keep_mk, State.keep_eta, apply_ite State.keep, ite_self, State.setRegF_keep, State.setRegB_keep]
theorem State.startCtls_keep (s : State) : (State.startCtls s).keep = s.keep := by
  unfold State.startCtls
  split <;> simp only [State.keep_mk, State.keep_eta, foldl_keep, implies_true, State.setRegF_keep, State.changeCtl_keep]
theorem State.domReq_keep (s : State) (v : Word) : (State.domReq s v).keep = s.keep := by
  unfold State.domReq
  simp only [State.keep_mk, State.keep_eta, apply_ite State.keep, ite_self, State.setRegB_keep, State.misused_keep]
theorem State.domDone_keep (s : State) : (State.domDone s).keep = s.keep := by
  unfold State.domDone
  split <;> simp only [State.keep_mk, State.keep_eta, foldl_keep, apply_ite State.keep, ite_self, implies_true,
      State.setRegB_keep, State.raiseBit_keep, State.domainOff_keep, State.applyRetirements_keep, State.firstTest_keep,
      State.startCtls_keep]
theorem State.putSymbol_keep (s : State) (y : Symbol) (v : Nat) : (State.putSymbol s y v).keep = s.keep := by
  unfold State.putSymbol
  simp only [foldl_keep, apply_ite State.keep, ite_self, implies_true, State.setImgW_keep]
theorem State.startProgram_keep (s : State) (p : Program) : (State.startProgram s p).keep = s.keep := by
  unfold State.startProgram
  repeat' (first | with_reducible rfl
                 | simp only [State.keep_mk, State.keep_eta, foldl_keep, implies_true, State.putSymbol_keep] | split
                 | refine (foldl_keep _ _ _ (fun _ _ => ?_)).trans ?_)
theorem State.restoreApp_keep (s : State) : (State.restoreApp s).keep = s.keep := by
  unfold State.restoreApp
  simp only [State.keep_mk, State.keep_eta, apply_ite State.keep, ite_self, State.setRegB_keep, State.activate_keep,
      State.startProgram_keep]
theorem State.startClock_keep (s : State) : (State.startClock s).keep = s.keep := by
  unfold State.startClock
  simp only [State.keep_mk, State.keep_eta, apply_ite State.keep, ite_self, State.setRegB_keep]
theorem State.initialise_keep (s : State) : (State.initialise s).keep = s.keep := by
  unfold State.initialise
  simp only [State.keep_mk, State.keep_eta, foldl_keep, apply_ite State.keep, ite_self, implies_true,
      State.setReg_keep, State.setRegF_keep, State.setRegB_keep, State.startSeq_keep, State.startRecord_keep,
      State.checkSettings_keep, State.applyRetirements_keep, State.firstTest_keep, State.startCtls_keep,
      State.restoreApp_keep, State.startClock_keep]
theorem State.powerOn_keep (s : State) : (State.powerOn s).keep = s.keep := by
  unfold State.powerOn
  simp only [apply_ite State.keep, ite_self, State.boot_keep, State.initialise_keep]
theorem State.startDone_keep (s : State) : (State.startDone s).keep = s.keep := by
  unfold State.startDone
  simp only [State.keep_mk, State.keep_eta, apply_ite State.keep, ite_self, State.setReg_keep, State.setRegF_keep,
      State.raiseBit_keep]
theorem State.timeNoted_keep (s : State) : (State.timeNoted s).keep = s.keep := by
  unfold State.timeNoted
  simp only [State.keep_mk, State.keep_eta, apply_ite State.keep, ite_self, State.setRegB_keep]
theorem State.timeFollow_keep (s : State) : (State.timeFollow s).keep = s.keep := by
  unfold State.timeFollow
  simp only [apply_ite State.keep, ite_self, State.setMode_keep, State.loadComparators_keep, State.startDone_keep]
theorem State.timeSettle_keep (s : State) : (State.timeSettle s).keep = s.keep := by
  unfold State.timeSettle
  simp only [apply_ite State.keep, ite_self, State.timeNoted_keep, State.timeFollow_keep]
theorem State.firstCycle_keep (s : State) : (State.firstCycle s).keep = s.keep := by
  unfold State.firstCycle
  simp only [apply_ite State.keep, ite_self, State.fixedCycle_keep, State.startDone_keep]
theorem State.autoTask_keep (s : State) : (State.autoTask s).keep = s.keep := by
  unfold State.autoTask
  simp only [State.keep_mk, State.keep_eta, apply_ite State.keep, ite_self]
theorem State.updAnswer_keep (s : State) (op slot tag mac status value : Nat) : (State.updAnswer s op slot tag mac
    status value).keep = s.keep := by
  unfold State.updAnswer
  simp only [State.emit_keep]
theorem State.setSession_keep (s : State) (x : Option XferSession) : (State.setSession s x).keep = s.keep := by
  unfold State.setSession
  simp only [State.keep_mk, State.keep_eta]
theorem State.updOpen_keep (s : State) (slot tag mac len crc : Nat) : (State.updOpen s slot tag mac len crc).keep =
    s.keep := by
  unfold State.updOpen
  simp only [apply_ite State.keep, ite_self, State.setSlot_keep, State.updAnswer_keep, State.setSession_keep]
theorem State.eraseDone_keep (s : State) : (State.eraseDone s).keep = s.keep := by
  unfold State.eraseDone
  split <;> simp only [apply_ite State.keep, ite_self, State.updAnswer_keep, State.setSession_keep]
theorem State.blockCheck_keep (s : State) (x : XferSession) (b : PartBlock) (data : List Byte) (tag : Nat) :
    (State.blockCheck s x b data tag).keep = s.keep := by
  unfold State.blockCheck
  simp only [apply_ite State.keep, ite_self, State.countF_keep, State.setSlot_keep, State.updAnswer_keep]
theorem State.joinPart_keep (s : State) (x : XferSession) (b : PartBlock) (part tag : Nat) (bytes : List Byte) :
    (State.joinPart s x b part tag bytes).keep = s.keep := by
  unfold State.joinPart
  repeat' (first | with_reducible rfl | simp only [State.setSession_keep, State.blockCheck_keep] | split)
theorem State.updBlock_keep (s : State) (slot tag mac index part crc : Nat) (bytes : List Byte) : (State.updBlock s
    slot tag mac index part crc bytes).keep = s.keep := by
  unfold State.updBlock
  repeat' (first | with_reducible rfl
                 | simp only [apply_ite State.keep, ite_self, State.misused_keep, State.updAnswer_keep,
                     State.setSession_keep, State.joinPart_keep]
                 | split)
theorem State.updClose_keep (s : State) (slot tag mac : Nat) : (State.updClose s slot tag mac).keep = s.keep := by
  unfold State.updClose
  repeat' (first | with_reducible rfl
                 | simp only [State.keep_mk, State.keep_eta, apply_ite State.keep, ite_self, State.raiseBit_keep,
                     State.setSlot_keep, State.updAnswer_keep, State.setSession_keep]
                 | split)
theorem State.updAbort_keep (s : State) (slot tag mac : Nat) : (State.updAbort s slot tag mac).keep = s.keep := by
  unfold State.updAbort
  repeat' (first | with_reducible rfl | simp only [apply_ite State.keep, State.updAnswer_keep, State.setSession_keep]
                 | split)
theorem State.sessionTimeout_keep (s : State) : (State.sessionTimeout s).keep = s.keep := by
  unfold State.sessionTimeout
  split <;> simp only [apply_ite State.keep, ite_self, State.setSession_keep]
theorem State.recoveryAnnounce_keep (s : State) : (State.recoveryAnnounce s).keep = s.keep := by
  unfold State.recoveryAnnounce
  simp only [State.keep_mk, State.keep_eta, apply_ite State.keep, ite_self, State.emit_keep]
theorem State.disarm_keep (s : State) : (State.disarm s).keep = s.keep := by
  unfold State.disarm
  simp only [State.keep_mk, State.keep_eta, State.setRegB_keep]
theorem State.activateNow_keep (s : State) : (State.activateNow s).keep = s.keep := by
  unfold State.activateNow
  simp only [State.keep_mk, State.keep_eta, State.rstReq_keep, State.disarm_keep]
theorem State.deferAct_keep (s : State) : (State.deferAct s).keep = s.keep := by
  unfold State.deferAct
  simp only [State.keep_mk, State.keep_eta, apply_ite State.keep, ite_self, State.raiseBit_keep]
theorem State.activation_keep (s : State) : (State.activation s).keep = s.keep := by
  unfold State.activation
  repeat' (first | with_reducible rfl
                 | simp only [apply_ite State.keep, ite_self, State.startHand_keep, State.activateNow_keep,
                     State.deferAct_keep]
                 | split)
theorem State.floorReq_keep (s : State) (v : Word) : (State.floorReq s v).keep = s.keep := by
  unfold State.floorReq
  simp only [State.keep_mk, State.keep_eta, apply_ite State.keep, ite_self]
theorem State.burnDone_keep (s : State) : (State.burnDone s).keep = s.keep := by
  unfold State.burnDone
  split <;> simp only [State.keep_mk, State.keep_eta, apply_ite State.keep, ite_self, State.raiseBit_keep]
theorem State.onSvc_keep (s : State) (dst etype : Nat) (f : State → State) (hf : ∀ t, (f t).keep = t.keep) :
    (State.onSvc s dst etype f).keep = s.keep := by
  unfold State.onSvc
  simp only [apply_ite State.keep, ite_self, hf]
theorem State.follow_keep (s : State) (ready : Bool) : (State.follow s ready).keep = s.keep := by
  unfold State.follow
  simp only [apply_ite State.keep, ite_self, State.setRole_keep, State.setReady_keep]
theorem State.putForce_keep (s : State) (y : Nat) (v : Option Nat) : (State.putForce s y v).keep = s.keep := by
  unfold State.putForce
  simp only [State.keep_mk, State.keep_eta, apply_ite State.keep, ite_self, State.raiseBit_keep]
theorem State.putDatum_keep (s : State) (d : Nat) (q : DatQ) : (State.putDatum s d q).keep = s.keep := by
  unfold State.putDatum
  split <;> simp only [apply_ite State.keep, ite_self, State.modDat_keep, State.cutPorts_keep]
theorem State.putAxis_keep (s : State) (a : Nat) (q : AxisQ) : (State.putAxis s a q).keep = s.keep := by
  unfold State.putAxis
  split <;> simp only [State.keep_mk, State.keep_eta, apply_ite State.keep, ite_self, State.cutPorts_keep]
theorem State.putInstRec_keep (s : State) (a : Nat) (ws : List Word) : (State.putInstRec s a ws).keep = s.keep := by
  unfold State.putInstRec
  simp only [State.keep_mk, State.keep_eta, apply_ite State.keep, ite_self, State.setInstWords_keep]
theorem State.putRegister_keep (s : State) (a : Nat) (w : Word) : (State.putRegister s a w).keep = s.keep := by
  unfold State.putRegister
  simp only [apply_ite State.keep, ite_self, State.setReg_keep]
theorem State.sendCopy_keep (s : State) (b : LinkBody) : (State.sendCopy s b).keep = s.keep := by
  unfold State.sendCopy
  simp only [State.keep_mk, State.keep_eta, State.emitLink_keep]
theorem State.startCopy_keep (s : State) : (State.startCopy s).keep = s.keep := by
  unfold State.startCopy
  simp only [State.keep_mk, State.keep_eta, foldl_keep, implies_true, State.setRegB_keep, State.sendCopy_keep]
theorem State.copyEnd_keep (s : State) : (State.copyEnd s).keep = s.keep := by
  unfold State.copyEnd
  simp only [State.keep_mk, State.keep_eta, apply_ite State.keep, ite_self, State.setRegB_keep, State.raiseBit_keep]
theorem State.resyncReady_keep (s : State) : (State.resyncReady s).keep = s.keep := by
  unfold State.resyncReady
  simp only [apply_ite State.keep, ite_self, State.setRegB_keep, State.setReady_keep, State.keepApp_keep]
theorem State.dropLoaded_keep (s : State) : (State.dropLoaded s).keep = s.keep := by
  unfold State.dropLoaded
  simp only [State.keep_mk, State.keep_eta, State.setRegB_keep]
theorem State.noteLoss_keep (s : State) : (State.noteLoss s).keep = s.keep := by
  unfold State.noteLoss
  simp only [State.keep_mk, State.keep_eta, State.raiseBit_keep]
theorem State.noteLossAt_keep (s : State) : (State.noteLossAt s).keep = s.keep := by
  unfold State.noteLossAt
  simp only [State.keep_mk, State.keep_eta, State.setReg64_keep]
theorem State.beginTakeover_keep (s : State) : (State.beginTakeover s).keep = s.keep := by
  unfold State.beginTakeover
  simp only [State.setRole_keep, State.setEpoch_keep, State.noteLossAt_keep]
theorem State.noteHeard_keep (s : State) (was r : Nat) : (State.noteHeard s was r).keep = s.keep := by
  unfold State.noteHeard
  simp only [State.keep_mk, State.keep_eta]
theorem State.hearLink_keep (s : State) (h : LinkHdr) : (State.hearLink s h).keep = s.keep := by
  unfold State.hearLink
  simp only [State.keep_mk, State.keep_eta, apply_ite State.keep, ite_self, State.higherEpoch_keep]
theorem State.rxPlain_keep (s : State) (h : LinkHdr) (f : State → State) (hf : ∀ t, (f t).keep = t.keep) :
    (State.rxPlain s h f).keep = s.keep := by
  unfold State.rxPlain
  simp only [apply_ite State.keep, ite_self, State.hearLink_keep, hf]
theorem State.acceptSeq_keep (s : State) (q : Nat) : (State.acceptSeq s q).keep = s.keep := by
  unfold State.acceptSeq
  simp only [State.keep_mk, State.keep_eta]
theorem State.rxSeqd_keep (s : State) (h : LinkHdr) (f : State → State) (hf : ∀ t, (f t).keep = t.keep) :
    (State.rxSeqd s h f).keep = s.keep := by
  unfold State.rxSeqd
  simp only [apply_ite State.keep, ite_self, implies_true, State.sendPlain_keep, State.rxPlain_keep,
      State.acceptSeq_keep, hf]
theorem State.resend_keep (s : State) : (State.resend s).keep = s.keep := by
  unfold State.resend
  simp only [State.keep_mk, State.keep_eta, foldl_keep, implies_true, State.emitLink_keep]
theorem State.retransmit_keep (s : State) : (State.retransmit s).keep = s.keep := by
  unfold State.retransmit
  split <;> simp only [apply_ite State.keep, ite_self, State.countF_keep, State.resend_keep]
theorem State.ackUpTo_keep (s : State) (n : Nat) : (State.ackUpTo s n).keep = s.keep := by
  unfold State.ackUpTo
  simp only [State.keep_mk, State.keep_eta, apply_ite State.keep, ite_self, State.setRegB_keep]
theorem State.setLane_keep (s : State) (l v : Nat) : (State.setLane s l v).keep = s.keep := by
  unfold State.setLane
  simp only [apply_ite State.keep, ite_self, State.setRegF_keep, State.raiseBit_keep]
theorem State.moveTraffic_keep (s : State) : (State.moveTraffic s).keep = s.keep := by
  unfold State.moveTraffic
  simp only [apply_ite State.keep, ite_self, State.resend_keep, State.setLane_keep]
theorem State.laneLink_keep (s : State) (l : Nat) (up : Bool) : (State.laneLink s l up).keep = s.keep := by
  unfold State.laneLink
  simp only [apply_ite State.keep, ite_self, State.setLane_keep, State.moveTraffic_keep]
theorem State.crcError_keep (s : State) (l : Nat) : (State.crcError s l).keep = s.keep := by
  unfold State.crcError
  simp only [State.keep_mk, State.keep_eta, apply_ite State.keep, ite_self, State.countF_keep, State.noteRetired_keep,
      State.setLane_keep, State.moveTraffic_keep]
theorem State.keepalive_keep (s : State) : (State.keepalive s).keep = s.keep := by
  unfold State.keepalive
  simp only [State.keep_mk, State.keep_eta, foldl_keep, apply_ite State.keep, ite_self, implies_true, State.emitLink_keep]
theorem State.timeExchange_keep (s : State) : (State.timeExchange s).keep = s.keep := by
  unfold State.timeExchange
  simp only [State.keep_mk, State.keep_eta, foldl_keep, apply_ite State.keep, ite_self, implies_true, State.emitLink_keep]
theorem State.timeRx_keep (s : State) (l : Nat) (response : Bool) (t1 t2 t3 : Int) : (State.timeRx s l response t1 t2
    t3).keep = s.keep := by
  unfold State.timeRx
  simp only [apply_ite State.keep, ite_self, State.emitLink_keep, State.measured_keep]
theorem State.noteGen_keep (s : State) (gen : Nat) (r : DeltaRec) : (State.noteGen s gen r).keep = s.keep := by
  unfold State.noteGen
  simp only [State.keep_mk, State.keep_eta]
theorem State.keepUndo_keep (s : State) (gen : Nat) (us : List DeltaRec) : (State.keepUndo s gen us).keep = s.keep := by
  unfold State.keepUndo
  simp only [State.keep_mk, State.keep_eta, apply_ite State.keep, ite_self]
theorem State.genCloseRx_keep (s : State) (g count digest : Nat) : (State.genCloseRx s g count digest).keep = s.keep := by
  unfold State.genCloseRx
  simp only [State.keep_mk, State.keep_eta, apply_ite State.keep, ite_self, State.setReg_keep, State.unready_keep]
theorem State.installProgram_keep (s : State) (bs : Sparse Byte) : (State.installProgram s bs).keep = s.keep := by
  unfold State.installProgram
  simp only [State.keep_mk, State.keep_eta]
theorem State.programRx_keep (s : State) (ofs : Nat) (bs : List Byte) : (State.programRx s ofs bs).keep = s.keep := by
  unfold State.programRx
  simp only [State.keep_mk, State.keep_eta, apply_ite State.keep, ite_self]
theorem State.swapRx_keep (s : State) (epoch t mask evtId : Nat) : (State.swapRx s epoch t mask evtId).keep = s.keep := by
  unfold State.swapRx
  simp only [State.keep_mk, State.keep_eta, apply_ite State.keep, ite_self, State.setRegF_keep, State.setReg64_keep,
      State.setRole_keep]
theorem State.genBoundary_keep (s : State) : (State.genBoundary s).keep = s.keep := by
  unfold State.genBoundary
  simp only [State.keep_mk, State.keep_eta, apply_ite State.keep, ite_self]
theorem State.closeGen_keep (s : State) (g : GenLog) : (State.closeGen s g).keep = s.keep := by
  unfold State.closeGen
  simp only [State.keep_mk, State.keep_eta, apply_ite State.keep, ite_self, State.setReg_keep, State.sendSeq_keep]
theorem State.genCloseSend_keep (s : State) : (State.genCloseSend s).keep = s.keep := by
  unfold State.genCloseSend
  split <;> simp only [apply_ite State.keep, ite_self, State.closeGen_keep]
theorem State.closeAll_keep (s : State) : (State.closeAll s).keep = s.keep := by
  unfold State.closeAll
  simp only [State.keep_mk, State.keep_eta, foldl_keep, implies_true, State.closeGen_keep]
theorem State.resumeMode_keep (s : State) : (State.resumeMode s).keep = s.keep := by
  unfold State.resumeMode
  split <;> simp only [State.setMode_keep]
theorem State.freshWork_keep (s : State) : (State.freshWork s).keep = s.keep := by
  unfold State.freshWork
  simp only [State.keep_mk, State.keep_eta, foldl_keep, apply_ite State.keep, ite_self, implies_true,
      State.setTaskState_keep, State.modEnc_keep]
theorem State.resumeSwap_keep (s : State) : (State.resumeSwap s).keep = s.keep := by
  unfold State.resumeSwap
  repeat' (first | with_reducible rfl | simp only [apply_ite State.keep, ite_self, State.swapNow_keep] | split)
theorem State.resumeStakes_keep (s : State) (loss : Nat) : (State.resumeStakes s loss).keep = s.keep := by
  unfold State.resumeStakes
  simp only [State.keep_mk, State.keep_eta, foldl_keep, apply_ite State.keep, ite_self, implies_true,
      State.countF_keep, State.queueEvent_keep]
theorem State.driveAll_keep (s : State) (outs : List (Nat × Word)) : (State.driveAll s outs).keep = s.keep := by
  unfold State.driveAll
  simp only [foldl_keep, apply_ite State.keep, ite_self, implies_true, State.setDrive_keep, State.applyOutputs_keep]
theorem State.resumeLoss_keep (s : State) : (State.resumeLoss s).keep = s.keep := by
  unfold State.resumeLoss
  split <;> simp only [apply_ite State.keep, ite_self, State.setReg_keep, State.countF_keep, State.tally_keep,
      State.setRole_keep, State.setReady_keep, State.resumeMode_keep, State.freshWork_keep, State.resumeSwap_keep,
      State.resumeStakes_keep, State.driveAll_keep]
theorem State.swapSend_keep (s : State) : (State.swapSend s).keep = s.keep := by
  unfold State.swapSend
  split <;> simp only [State.keep_mk, State.keep_eta, apply_ite State.keep, ite_self, State.setReg64_keep,
      State.sendSeq_keep, State.closeAll_keep]
theorem State.dispatchAll_keep (s : State) : (State.dispatchAll s).keep = s.keep := by
  unfold State.dispatchAll
  simp only [foldl_keep, implies_true, State.dispatch_keep]
theorem State.reachedH_keep (s : State) : (State.reachedH s).keep = s.keep := by
  unfold State.reachedH
  simp only [State.countF_keep, State.tally_keep, State.raiseBit_keep]
theorem State.answerHand_keep (s : State) (h : HandOver) : (State.answerHand s h).keep = s.keep := by
  unfold State.answerHand
  split <;> simp only [apply_ite State.keep, ite_self, State.finishOk_keep]
theorem State.handedOver_keep (s : State) (h : HandOver) (e t : Nat) : (State.handedOver s h e t).keep = s.keep := by
  unfold State.handedOver
  split <;> simp only [State.keep_mk, State.keep_eta, State.setRole_keep, State.setEpoch_keep, State.unready_keep,
      State.leaveService_keep, State.activateNow_keep, State.dispatchAll_keep, State.reachedH_keep, State.answerHand_keep]
theorem State.carryTimer_keep (old : State) (s : State) (yo yn : Symbol) : (State.carryTimer old s yo yn).keep =
    s.keep := by
  unfold State.carryTimer
  simp only [apply_ite State.keep, ite_self, State.setImgW_keep]
theorem State.carrySymbol_keep (old : State) (s : State) (yn : Symbol) : (State.carrySymbol old s yn).keep = s.keep := by
  unfold State.carrySymbol
  split <;> simp only [foldl_keep, apply_ite State.keep, ite_self, implies_true, State.setKonst_keep,
      State.putSymbol_keep, State.carryTimer_keep]
theorem State.carryInst_keep (old : State) (s : State) (i : Nat) : (State.carryInst old s i).keep = s.keep := by
  unfold State.carryInst
  simp only [apply_ite State.keep, ite_self, State.putInstRec_keep]
theorem State.exchangeSet_keep (s old : State) (mask : Nat) (c : Sparse Word) : (State.exchangeSet s old mask c).keep
    = s.keep := by
  unfold State.exchangeSet
  simp only [State.keep_mk, State.keep_eta, foldl_keep, apply_ite State.keep, ite_self, implies_true,
      State.activate_keep, State.carryInst_keep]
theorem State.exchange_keep (s : State) (l : Loaded) (p : Program) : (State.exchange s l p).keep = s.keep := by
  unfold State.exchange
  simp only [State.keep_mk, State.keep_eta, foldl_keep, apply_ite State.keep, ite_self, implies_true,
      State.fireOwned_keep, State.keepApp_keep, State.startProgram_keep, State.dropLoaded_keep, State.carrySymbol_keep,
      State.exchangeSet_keep]
theorem State.programAtH_keep (s : State) (l : Loaded) : (State.programAtH s l).keep = s.keep := by
  unfold State.programAtH
  split <;> simp only [State.keep_mk, State.keep_eta, apply_ite State.keep, ite_self, State.dropLoaded_keep,
      State.exchange_keep]
theorem State.tookOver_keep (s : State) (e t mask evt : Nat) : (State.tookOver s e t mask evt).keep = s.keep := by
  unfold State.tookOver
  repeat' (first | with_reducible rfl
                 | simp only [State.keep_mk, State.keep_eta, foldl_keep, apply_ite State.keep, ite_self, implies_true,
                     State.arriveMask_keep, State.setRole_keep, State.act_keep, State.setEpoch_keep, State.setReady_keep,
                     State.resumeMode_keep, State.freshWork_keep, State.reachedH_keep, State.programAtH_keep]
                 | split)
theorem State.handoverH_keep (s : State) : (State.handoverH s).keep = s.keep := by
  unfold State.handoverH
  repeat' (first | with_reducible rfl
                 | simp only [apply_ite State.keep, ite_self, State.handedOver_keep, State.tookOver_keep] | split)
theorem State.handTimeout_keep (s : State) : (State.handTimeout s).keep = s.keep := by
  unfold State.handTimeout
  repeat' (first | with_reducible rfl
                 | simp only [State.keep_mk, State.keep_eta, apply_ite State.keep, ite_self, State.finishErr_keep,
                     State.setRole_keep, State.deferAct_keep]
                 | split)
theorem State.outputSwitch_keep (s : State) : (State.outputSwitch s).keep = s.keep := by
  unfold State.outputSwitch
  split <;> simp only [State.keep_mk, State.keep_eta, apply_ite State.keep, ite_self, State.releaseOutputs_keep,
      State.driveAll_keep]
theorem State.isolation_keep (s : State) : (State.isolation s).keep = s.keep := by
  unfold State.isolation
  simp only [apply_ite State.keep, ite_self, State.setRegB_keep, State.fence_keep]
theorem State.partnerSilence_keep (s : State) : (State.partnerSilence s).keep = s.keep := by
  unfold State.partnerSilence
  simp only [State.keep_mk, State.keep_eta, apply_ite State.keep, ite_self, State.setRegB_keep, State.raiseBit_keep,
      State.follow_keep]
theorem State.removal_keep (s : State) : (State.removal s).keep = s.keep := by
  unfold State.removal
  simp only [apply_ite State.keep, ite_self, State.sendSeq_keep, State.fence_keep, State.closeStretch_keep]
theorem State.decideAlone_keep (s : State) : (State.decideAlone s).keep = s.keep := by
  unfold State.decideAlone
  simp only [State.setRole_keep, State.setEpoch_keep, State.setDrive_keep]
theorem State.decideStandby_keep (s : State) : (State.decideStandby s).keep = s.keep := by
  unfold State.decideStandby
  simp only [State.setRole_keep, State.setEpoch_keep, State.unready_keep]
theorem State.decideOut_keep (s : State) (mismatch : Bool) : (State.decideOut s mismatch).keep = s.keep := by
  unfold State.decideOut
  simp only [State.setRegB_keep, State.setRole_keep, State.startDone_keep]
theorem State.decision_keep (s : State) (same : Bool) (f : State → State) (h : s.decision same = some f) (t : State) :
    (f t).keep = t.keep := by
  unfold State.decision at h
  revert h
  dsimp only
  repeat' split
  all_goals intro h
  all_goals first | (cases h; done) | cases h
  all_goals first | exact State.decideAlone_keep _ | exact State.decideStandby_keep _ | exact State.decideOut_keep _ _
theorem State.roleDecision_keep (s : State) (same : Bool) : (s.roleDecision same).keep = s.keep := by
  unfold State.roleDecision
  split
  · rfl
  · split
    · rename_i f h
      rw [State.decision_keep s same f h, State.setRegF_keep]; rfl
    · rfl
theorem State.pairDatum_keep (s : State) (d : Nat) : (State.pairDatum s d).keep = s.keep := by
  unfold State.pairDatum
  repeat' (first | with_reducible rfl
                 | simp only [State.keep_mk, State.keep_eta, apply_ite State.keep, State.pairTrigger_keep, State.ahead_keep]
                 | split)
theorem State.modMpPair_keep (s : State) (n : Nat) (f : MbxPair → MbxPair) : (State.modMpPair s n f).keep = s.keep := by
  unfold State.modMpPair
  simp only [State.keep_mk, State.keep_eta]
theorem State.reply_keep (s : State) (c : Cmd) (r : Reply) : (s.reply c r).keep = s.keep := by
  cases r
  · exact State.finish_keep ..
  · rfl
theorem State.startCmd_keep (s : State) (n id : Nat) : (State.startCmd s n id).keep = s.keep := by
  unfold State.startCmd
  simp only [State.modMpPair_keep]
theorem State.noteWrites_keep (t : State) (n id : Nat) (ws : List (Nat × Nat × Word)) : (State.noteWrites t n id
    ws).keep = t.keep := by
  unfold State.noteWrites
  simp only [State.modMpPair_keep]
theorem State.perform_keep (s : State) (n code need : Nat) (f : Cmd → State → State × Reply) (hf : ∀ c t, (f c
    t).1.keep = t.keep) : (State.perform s n code need f).keep = s.keep := by
  unfold State.perform
  split <;> simp only [apply_ite State.keep, ite_self, State.finish_keep, State.reply_keep, State.startCmd_keep,
      State.noteWrites_keep, hf]
theorem State.accept_keep (s : State) (n : Nat) (ws : List Word) (sr : Bool) : (State.accept s n ws sr).keep = s.keep := by
  unfold State.accept
  repeat' (first | with_reducible rfl
                 | simp only [State.keep_mk, State.keep_eta, apply_ite State.keep, ite_self, State.finish_keep,
                     State.modMpPair_keep]
                 | split)
theorem State.mpTake_keep (s : State) : (State.mpTake s).keep = s.keep := by
  unfold State.mpTake
  repeat' (first | with_reducible rfl
                 | simp only [State.keep_mk, State.keep_eta, apply_ite State.keep, State.mbxEvent_keep,
                     State.mbxClearGo_keep, State.accept_keep]
                 | split)
theorem State.dropCmd_keep (s : State) (n : Nat) (c : Cmd) : (State.dropCmd s n c).keep = s.keep := by
  unfold State.dropCmd
  simp only [State.modMpPair_keep]
theorem State.postResponse_keep (s : State) (n : Nat) (trailing : Option Nat) : (State.postResponse s n trailing).keep
    = s.keep := by
  unfold State.postResponse
  split <;> simp only [State.keep_mk, State.keep_eta, apply_ite State.keep, ite_self, State.setRegF_keep,
      State.setRegB_keep, State.setMbxWords_keep, State.mbxEvent_keep, State.mismatch_keep, State.modMpPair_keep,
      State.dropCmd_keep]
theorem State.mpAccess_keep (s : State) (addr len : Nat) (data : List Byte) : (s.mpAccess false addr len data).1.keep
    = s.keep := by
  unfold State.mpAccess
  have e := State.memAccess_keep s 1 addr len data
  split <;> (rename_i h; exact (pair_keep h).trans e)
theorem State.returnBank_keep (s : State) (n id : Nat) : (s.returnBank n id).keep = s.keep := by
  unfold State.returnBank State.ownWrite
  dsimp only
  split
  · rfl
  · split
    · rfl
    · exact State.setOwner_keep ..
theorem returning_keep (n id : Nat) (x : State × Reply) : (returning n id x).1.keep = x.1.keep := by
  unfold returning
  split
  · rfl
  · exact State.returnBank_keep _ _ _
theorem State.freeWords_keep (s : State) (n : Nat) : (State.freeWords s n).2.keep = s.keep := by
  unfold State.freeWords
  simp only [State.keep_mk, State.keep_eta]
theorem cmdIdent_keep (z : Cmd) (s : State) : (cmdIdent z s).1.keep = s.keep := by
  unfold cmdIdent
  dsimp only
theorem cmdStatusGet_keep (z : Cmd) (s : State) : (cmdStatusGet z s).1.keep = s.keep := by
  unfold cmdStatusGet
  dsimp only
theorem cmdEcho_keep (c : Cmd) (s : State) : (cmdEcho c s).1.keep = s.keep := by
  unfold cmdEcho
  dsimp only
theorem inConfigRole_keep (f : Cmd → State → State × Reply) (c : Cmd) (s : State) (hf : ∀ c t, (f c t).1.keep =
    t.keep) : (inConfigRole f c s).1.keep = s.keep := by
  unfold inConfigRole
  split <;> simp only [hf]
theorem State.setSess_keep (s : State) (n : Nat) : (State.setSess s n).keep = s.keep := by
  unfold State.setSess
  simp only [State.keep_mk, State.keep_eta, State.record_keep]
theorem State.setShadow_keep (s : State) (c : Sparse Word) : (State.setShadow s c).keep = s.keep := by
  unfold State.setShadow
  simp only [State.keep_mk, State.keep_eta, State.record_keep]
theorem cmdCfgOpen_keep (z : Cmd) (s : State) : (cmdCfgOpen z s).1.keep = s.keep := by
  unfold cmdCfgOpen
  split <;> simp only [State.setSess_keep]
theorem cmdCfgClose_keep (c : Cmd) (s : State) : (cmdCfgClose c s).1.keep = s.keep := by
  unfold cmdCfgClose
  split <;> simp only [State.setSess_keep]
theorem cmdCfgAbandon_keep (z : Cmd) (s : State) : (cmdCfgAbandon z s).1.keep = s.keep := by
  unfold cmdCfgAbandon
  split <;> simp only [State.setSess_keep, State.setShadow_keep]
theorem cmdCfgCopy_keep (c : Cmd) (s : State) : (cmdCfgCopy c s).1.keep = s.keep := by
  unfold cmdCfgCopy
  split <;> simp only [State.setShadow_keep]
theorem cmdCfgWrite_keep (c : Cmd) (s : State) : (cmdCfgWrite c s).1.keep = s.keep := by
  unfold cmdCfgWrite
  repeat' (first | with_reducible rfl | simp only [State.setShadow_keep] | split)
theorem cmdCfgRead_keep (c : Cmd) (s : State) : (cmdCfgRead c s).1.keep = s.keep := by
  unfold cmdCfgRead
  repeat' (first | with_reducible rfl | dsimp only | split)
theorem cmdCfgBulk_keep (c : Cmd) (s : State) : (cmdCfgBulk c s).1.keep = s.keep := by
  unfold cmdCfgBulk
  simp only [returning_keep]
theorem endCfgBulk_keep (c : Cmd) (s : State) : (endCfgBulk c s).1.keep = s.keep := by
  unfold endCfgBulk
  repeat' (first | with_reducible rfl | simp only [State.mpAccess_keep, returning_keep, State.setShadow_keep] | split
                 | refine (pair_keep (by assumption)).trans ?_)
theorem cmdCfgCheck_keep (z : Cmd) (s : State) : (cmdCfgCheck z s).1.keep = s.keep := by
  unfold cmdCfgCheck
  dsimp only
theorem endCfgCheck_keep (c : Cmd) (s : State) : (endCfgCheck c s).1.keep = s.keep := by
  unfold endCfgCheck
  dsimp only
theorem cmdCfgSwap_keep (c : Cmd) (s : State) : (cmdCfgSwap c s).1.keep = s.keep := by
  unfold cmdCfgSwap
  repeat' (first | with_reducible rfl | simp only [State.keep_mk, State.keep_eta, State.record_keep] | split)
theorem cmdCfgSwapCancel_keep (z : Cmd) (s : State) : (cmdCfgSwapCancel z s).1.keep = s.keep := by
  unfold cmdCfgSwapCancel
  repeat' (first | with_reducible rfl
                 | simp only [State.keep_mk, State.keep_eta, State.finishErr_keep, State.record_keep,
                     State.testTrigger_keep]
                 | split)
theorem cmdCfgStatus_keep (z : Cmd) (s : State) : (cmdCfgStatus z s).1.keep = s.keep := by
  unfold cmdCfgStatus
  dsimp only
theorem cmdPrgInfo_keep (z : Cmd) (s : State) : (cmdPrgInfo z s).1.keep = s.keep := by
  unfold cmdPrgInfo
  dsimp only
theorem cmdPrgLoadBegin_keep (c : Cmd) (s : State) : (cmdPrgLoadBegin c s).1.keep = s.keep := by
  unfold cmdPrgLoadBegin
  repeat' (first | with_reducible rfl | simp only [State.keep_mk, State.keep_eta, State.dropLoaded_keep] | split)
theorem cmdPrgLoadBlock_keep (c : Cmd) (s : State) : (cmdPrgLoadBlock c s).1.keep = s.keep := by
  unfold cmdPrgLoadBlock
  simp only [returning_keep]
theorem endPrgLoadBlock_keep (c : Cmd) (s : State) : (endPrgLoadBlock c s).1.keep = s.keep := by
  unfold endPrgLoadBlock
  repeat' (first | with_reducible rfl | simp only [State.keep_mk, State.keep_eta, State.mpAccess_keep, returning_keep]
                 | split | refine (pair_keep (by assumption)).trans ?_)
theorem cmdPrgLoadEnd_keep (z : Cmd) (s : State) : (cmdPrgLoadEnd z s).1.keep = s.keep := by
  unfold cmdPrgLoadEnd
  dsimp only
theorem State.useProgram_keep (s : State) (l : Loaded) (p : Program) : (State.useProgram s l p).1.keep = s.keep := by
  unfold State.useProgram
  repeat' (first | with_reducible rfl
                 | simp only [State.keep_mk, State.keep_eta, apply_ite State.keep, ite_self, State.setReg_keep,
                     State.setRegB_keep, State.tally_keep, State.raiseBit_keep, State.keepApp_keep, State.startProgram_keep,
                     State.dropLoaded_keep]
                 | split)
theorem endPrgLoadEnd_keep (z : Cmd) (s : State) : (endPrgLoadEnd z s).1.keep = s.keep := by
  unfold endPrgLoadEnd
  repeat' (first | with_reducible rfl | simp only [State.useProgram_keep] | split)
theorem cmdValRead_keep (c : Cmd) (s : State) : (cmdValRead c s).1.keep = s.keep := by
  unfold cmdValRead
  repeat' (first | with_reducible rfl | dsimp only | split)
theorem cmdValWrite_keep (c : Cmd) (s : State) : (cmdValWrite c s).1.keep = s.keep := by
  unfold cmdValWrite
  repeat' (first | with_reducible rfl | simp only [State.record_keep, State.putSymbol_keep] | split)
theorem cmdConstWrite_keep (c : Cmd) (s : State) : (cmdConstWrite c s).1.keep = s.keep := by
  unfold cmdConstWrite
  repeat' (first | with_reducible rfl | simp only [State.keep_mk, State.keep_eta] | split)
theorem cmdLpdRead_keep (c : Cmd) (s : State) : (cmdLpdRead c s).1.keep = s.keep := by
  unfold cmdLpdRead
  repeat' (first | with_reducible rfl | simp only [State.mpAccess_keep] | split
                 | refine (pair_keep (by assumption)).trans ?_)
theorem State.setForce_keep (s : State) (y : Nat) (v : Option Nat) : (State.setForce s y v).keep = s.keep := by
  unfold State.setForce
  simp only [State.record_keep, State.putForce_keep]
theorem cmdFrcSet_keep (c : Cmd) (s : State) : (cmdFrcSet c s).1.keep = s.keep := by
  unfold cmdFrcSet
  repeat' (first | with_reducible rfl | simp only [State.setForce_keep] | split)
theorem cmdFrcRelease_keep (c : Cmd) (s : State) : (cmdFrcRelease c s).1.keep = s.keep := by
  unfold cmdFrcRelease
  repeat' (first | with_reducible rfl | simp only [State.setForce_keep] | split)
theorem cmdFrcReleaseAll_keep (z : Cmd) (s : State) : (cmdFrcReleaseAll z s).1.keep = s.keep := by
  unfold cmdFrcReleaseAll
  simp only [foldl_keep, implies_true, State.setForce_keep]
theorem cmdFrcList_keep (c : Cmd) (s : State) : (cmdFrcList c s).1.keep = s.keep := by
  unfold cmdFrcList
  dsimp only
theorem cmdDatStatus_keep (c : Cmd) (s : State) : (cmdDatStatus c s).1.keep = s.keep := by
  unfold cmdDatStatus
  repeat' (first | with_reducible rfl | dsimp only | split)
theorem cmdDatStop_keep (c : Cmd) (s : State) : (cmdDatStop c s).1.keep = s.keep := by
  unfold cmdDatStop
  split <;> simp only [State.stopDatum_keep]
theorem cmdStkStatus_keep (c : Cmd) (s : State) : (cmdStkStatus c s).1.keep = s.keep := by
  unfold cmdStkStatus
  repeat' (first | with_reducible rfl | dsimp only | split)
theorem cmdStkCancelAll_keep (c : Cmd) (s : State) : (cmdStkCancelAll c s).1.keep = s.keep := by
  unfold cmdStkCancelAll
  repeat' (first | with_reducible rfl | simp only [foldl_keep, implies_true, State.disarmEntry_keep] | split)
theorem State.chanCheck_keep (s : State) (n : Nat) : (State.chanCheck s n).1.keep = s.keep := by
  unfold State.chanCheck
  repeat' (first | with_reducible rfl | simp only [State.violation_keep] | split)
theorem onChannel_keep (f : Nat → Cmd → State → State × Reply) (c : Cmd) (s : State) (hf : ∀ n c t, (f n c t).1.keep =
    t.keep) : (onChannel f c s).1.keep = s.keep := by
  unfold onChannel
  repeat' (first | with_reducible rfl | simp only [State.chanCheck_keep, hf] | split
                 | refine (pair_keep (by assumption)).trans ?_)
theorem cmdChStatus_keep (n : Nat) (z : Cmd) (s : State) : (cmdChStatus n z s).1.keep = s.keep := by
  unfold cmdChStatus
  dsimp only
theorem cmdChRevive_keep (n : Nat) (z : Cmd) (s : State) : (cmdChRevive n z s).1.keep = s.keep := by
  unfold cmdChRevive
  split <;> simp only [State.revive_keep]
theorem cmdChTrimCapture_keep (n : Nat) (z : Cmd) (s : State) : (cmdChTrimCapture n z s).1.keep = s.keep := by
  unfold cmdChTrimCapture
  dsimp only
theorem endChTrimCapture_keep (n : Nat) (c : Cmd) (s : State) : (endChTrimCapture n c s).1.keep = s.keep := by
  unfold endChTrimCapture
  split <;> simp only [State.setReg_keep, State.setRegF_keep, State.setRegB_keep, State.calStale_keep, State.freeWords_keep]
theorem cmdChTrimClear_keep (n : Nat) (z : Cmd) (s : State) : (cmdChTrimClear n z s).1.keep = s.keep := by
  unfold cmdChTrimClear
  simp only [State.setReg_keep, State.setRegF_keep, State.calStale_keep]
theorem cmdChPulseTest_keep (n : Nat) (c : Cmd) (s : State) : (cmdChPulseTest n c s).1.keep = s.keep := by
  unfold cmdChPulseTest
  repeat' (first | with_reducible rfl | simp only [State.modChan_keep] | split)
theorem endChPulseTest_keep (n found : Nat) (s : State) : (endChPulseTest n found s).1.keep = s.keep := by
  unfold endChPulseTest
  simp only [State.modChan_keep]
theorem cmdPairStatus_keep (z : Cmd) (s : State) : (cmdPairStatus z s).1.keep = s.keep := by
  unfold cmdPairStatus
  dsimp only
theorem State.armHand_keep (s : State) (k : HandKind) (c : Cmd) : (State.armHand s k c).1.keep = s.keep := by
  unfold State.armHand
  repeat' (first | with_reducible rfl
                 | simp only [State.keep_mk, State.keep_eta, apply_ite State.keep, ite_self, State.setRegB_keep,
                     State.pairTrigger_keep]
                 | split)
theorem cmdPairExchange_keep (c : Cmd) (s : State) : (cmdPairExchange c s).1.keep = s.keep := by
  unfold cmdPairExchange
  simp only [State.armHand_keep]
theorem cmdPairHandover_keep (c : Cmd) (s : State) : (cmdPairHandover c s).1.keep = s.keep := by
  unfold cmdPairHandover
  simp only [State.armHand_keep]
theorem cmdPairCancel_keep (z : Cmd) (s : State) : (cmdPairCancel z s).1.keep = s.keep := by
  unfold cmdPairCancel
  split <;> simp only [State.keep_mk, State.keep_eta, State.setRegB_keep, State.finishErr_keep]
theorem cmdPairWithdraw_keep (c : Cmd) (s : State) : (cmdPairWithdraw c s).1.keep = s.keep := by
  unfold cmdPairWithdraw
  simp only [State.withdraw_keep]
theorem cmdPairResync_keep (z : Cmd) (s : State) : (cmdPairResync z s).1.keep = s.keep := by
  unfold cmdPairResync
  split <;> simp only [State.keep_mk, State.keep_eta, State.setRegB_keep, State.setReady_keep]
theorem endPairResync_keep (s : State) : (endPairResync s).1.keep = s.keep := by
  unfold endPairResync
  split <;> dsimp only
theorem cmdRecInfo_keep (z : Cmd) (s : State) : (cmdRecInfo z s).1.keep = s.keep := by
  unfold cmdRecInfo
  dsimp only
theorem cmdRecPeriod_keep (c : Cmd) (s : State) : (cmdRecPeriod c s).1.keep = s.keep := by
  unfold cmdRecPeriod
  split <;> simp only [State.setReg_keep, State.closeStretch_keep]
theorem cmdRecCopy_keep (c : Cmd) (s : State) : (cmdRecCopy c s).1.keep = s.keep := by
  unfold cmdRecCopy
  simp only [returning_keep]
theorem cmdUpdStatus_keep (z : Cmd) (s : State) : (cmdUpdStatus z s).1.keep = s.keep := by
  unfold cmdUpdStatus
  dsimp only
theorem cmdUpdSchedule_keep (c : Cmd) (s : State) : (cmdUpdSchedule c s).1.keep = s.keep := by
  unfold cmdUpdSchedule
  repeat' (first | with_reducible rfl | simp only [State.setReg_keep] | split)
theorem cmdUpdCancel_keep (z : Cmd) (s : State) : (cmdUpdCancel z s).1.keep = s.keep := by
  unfold cmdUpdCancel
  repeat' (first | with_reducible rfl | simp only [State.disarm_keep, State.activation_keep] | split)
theorem State.ctlReceives_keep (s : State) (c : Nat) : (State.ctlReceives s c).keep = s.keep := by
  unfold State.ctlReceives
  simp only [apply_ite State.keep, ite_self, State.setRegF_keep]
theorem cmdUpdChain_keep (c : Cmd) (s : State) : (cmdUpdChain c s).1.keep = s.keep := by
  unfold cmdUpdChain
  split <;> simp only [foldl_keep, implies_true, State.setRegF_keep, State.setRegB_keep, State.chainChange_keep,
      State.ctlReceives_keep]
theorem endUpdChain_keep (c : Cmd) (found : Nat) (s : State) : (endUpdChain c found s).1.keep = s.keep := by
  unfold endUpdChain
  simp only [State.keep_mk, State.keep_eta, foldl_keep, implies_true, State.setRegF_keep, State.setRegB_keep,
      State.chainChange_keep, State.ctlReceived_keep]
theorem cmdSelftestFull_keep (z : Cmd) (s : State) : (cmdSelftestFull z s).1.keep = s.keep := by
  unfold cmdSelftestFull
  dsimp only
theorem State.clearRetired_keep (s : State) (r : Retired) : (State.clearRetired s r).keep = s.keep := by
  unfold State.clearRetired
  simp only [State.keep_mk, State.keep_eta]
theorem State.revived__keep (s : State) (r : Retired) : (State.revived_ s r).keep = s.keep := by
  unfold State.revived_
  repeat' (first | with_reducible rfl
                 | simp only [apply_ite State.keep, ite_self, State.setRegF_keep, State.setRegB_keep, State.modChk_keep,
                     State.setCmpState_keep, State.setOwner_keep, State.copyKonst_keep, State.setLane_keep,
                     State.moveTraffic_keep, State.clearRetired_keep]
                 | split)
theorem endSelftestFull_keep (c : Cmd) (found : Nat) (s : State) : (endSelftestFull c found s).1.keep = s.keep := by
  unfold endSelftestFull
  simp only [foldl_keep, implies_true, State.revived__keep]
theorem State.readAnswer_keep (s : State) : (State.readAnswer s).1.keep = s.keep := by
  unfold State.readAnswer
  split <;> simp only [State.modPort_keep]
theorem cmdDiagCounters_keep (c : Cmd) (s : State) : (cmdDiagCounters c s).1.keep = s.keep := by
  unfold cmdDiagCounters
  repeat' (first | with_reducible rfl | simp only [State.violation_keep, State.readAnswer_keep] | split)
theorem cmdCmpSplit_keep (c : Cmd) (s : State) : (cmdCmpSplit c s).1.keep = s.keep := by
  unfold cmdCmpSplit
  simp only [State.askSplit_keep]
theorem cmdCmpJoin_keep (c : Cmd) (s : State) : (cmdCmpJoin c s).1.keep = s.keep := by
  unfold cmdCmpJoin
  simp only [State.askJoin_keep]
theorem cmdMpRestart_keep (c : Cmd) (s : State) : (cmdMpRestart c s).1.keep = s.keep := by
  unfold cmdMpRestart
  dsimp only
theorem State.latch_keep (s : State) (m : Nat) (as : List Nat) : (State.latch s m as).keep = s.keep := by
  unfold State.latch
  simp only [State.keep_mk, State.keep_eta, foldl_keep, implies_true]
theorem State.holdWrite_keep (s : State) (m a : Nat) (v : Word) : (State.holdWrite s m a v).keep = s.keep := by
  unfold State.holdWrite
  simp only [State.keep_mk, State.keep_eta]
theorem State.answerNotices_keep (s : State) (p : Notice → Bool) : (State.answerNotices s p).keep = s.keep := by
  unfold State.answerNotices
  simp only [State.keep_mk, State.keep_eta, foldl_keep, implies_true, State.imprecise_keep]
theorem State.readReg_keep (s0 : State) (m : Nat) (d : RegDesc) (i j a : Nat) : (State.readReg s0 m d i j a).2.keep =
    s0.keep := by
  unfold State.readReg
  split <;> simp only [apply_ite State.keep, ite_self, State.setReg_keep, State.setRegF_keep, State.latchCapture_keep,
      State.readCapInfo_keep, State.wire_keep, State.lockRead_keep, State.vote_keep, State.modInst_keep, State.latch_keep,
      State.answerNotices_keep]
theorem State.plainWrite_keep (s : State) (d : RegDesc) (i a : Nat) (v : Word) : (State.plainWrite s d i a v).keep =
    s.keep := by
  unfold State.plainWrite
  split <;> simp only [State.setReg_keep, State.irqChange_keep, State.clearSts_keep]
theorem State.checked_keep (s : State) (good : Bool) (rule : Nat) (d : RegDesc) (i a : Nat) (v : Word) :
    (State.checked s good rule d i a v).keep = s.keep := by
  unfold State.checked
  simp only [apply_ite State.keep, ite_self, State.misused_keep, State.plainWrite_keep]
theorem State.writeSys_keep (s : State) (m : Nat) (d : RegDesc) (i a : Nat) (v : Word) : (State.writeSys s m d i a
    v).keep = s.keep := by
  unfold State.writeSys
  split <;> simp only [apply_ite State.keep, ite_self, State.setReg_keep, State.setRegB_keep, State.sendMsix_keep,
      State.clearViol_keep, State.rstReq_keep, State.domReq_keep, State.holdWrite_keep, State.plainWrite_keep,
      State.checked_keep]
theorem State.writeMbx_keep (s : State) (d : RegDesc) (i a : Nat) (v : Word) : (State.writeMbx s d i a v).keep =
    s.keep := by
  unfold State.writeMbx
  split <;> simp only [apply_ite State.keep, ite_self, State.mbxPost_keep, State.mbxTake_keep,
      State.mbxHostReset_keep, State.plainWrite_keep, State.checked_keep]
theorem State.writeTargetCmp_keep (s : State) (m i a : Nat) (v : Word) : (State.writeTargetCmp s m i a v).keep =
    s.keep := by
  unfold State.writeTargetCmp
  simp only [State.setReg_keep, State.fireFirst_keep]
theorem State.writeTim_keep (s : State) (m : Nat) (d : RegDesc) (i a : Nat) (v : Word) : (State.writeTim s m d i a
    v).keep = s.keep := by
  unfold State.writeTim
  split <;> simp only [apply_ite State.keep, ite_self, State.misused_keep, State.writeIncr_keep, State.writeStep_keep,
      State.selectMaster_keep, State.ptpChanged_keep, State.txqPop_keep, State.writeCmpCfg_keep, State.holdWrite_keep,
      State.plainWrite_keep, State.checked_keep, State.writeTargetCmp_keep]
theorem State.writeW7_keep (s : State) (e : Nat) (v : Word) : (State.writeW7 s e v).keep = s.keep := by
  unfold State.writeW7
  split <;> simp only [State.misused_keep, State.armEntry_keep, State.disarmEntry_keep, State.reloadEntry_keep]
theorem State.writeLine_keep (s : State) (m : Nat) (d : RegDesc) (i a : Nat) (v : Word) : (State.writeLine s m d i a
    v).keep = s.keep := by
  unfold State.writeLine
  split <;> simp only [apply_ite State.keep, ite_self, State.setReg_keep, State.push_keep, State.writeTarget_keep,
      State.trvCtl_keep, State.holdWrite_keep, State.plainWrite_keep, State.checked_keep, State.writeW7_keep]
theorem State.modeWrite_keep (s : State) (v : Word) : (State.modeWrite s v).keep = s.keep := by
  unfold State.modeWrite
  simp only [State.keep_mk, State.keep_eta, State.modeReq_keep]
theorem State.writePlm_keep (s : State) (d : RegDesc) (i a : Nat) (v : Word) : (State.writePlm s d i a v).keep =
    s.keep := by
  unfold State.writePlm
  split <;> simp only [apply_ite State.keep, ite_self, State.misused_keep, State.record_keep, State.plainWrite_keep,
      State.checked_keep, State.modeWrite_keep]
theorem State.writeCh_keep (s : State) (d : RegDesc) (i j a : Nat) (v : Word) : (State.writeCh s d i j a v).keep =
    s.keep := by
  unfold State.writeCh
  split <;> simp only [State.grpEnables_keep, State.restoreAck_keep, State.fiPop_keep, State.canCtl_keep,
      State.txePop_keep, State.canPush_keep, State.canCmd_keep, State.rxSel_keep, State.tscCap_keep,
      State.plainWrite_keep, State.checked_keep]
theorem State.writeOwner_keep (s : State) (m n a : Nat) (v : Word) : (State.writeOwner s m n a v).keep = s.keep := by
  unfold State.writeOwner
  simp only [apply_ite State.keep, ite_self, State.misused_keep, State.ownWrite_keep, State.answerNotices_keep]
theorem State.writeMem_keep (s : State) (m : Nat) (d : RegDesc) (i a : Nat) (v : Word) : (State.writeMem s m d i a
    v).keep = s.keep := by
  unfold State.writeMem
  split <;> simp only [apply_ite State.keep, ite_self, State.setReg_keep, State.bankCtl_keep, State.lockWrite_keep,
      State.recSel_keep, State.floorReq_keep, State.plainWrite_keep, State.writeOwner_keep]
theorem State.writeUnit_keep (s : State) (m : Nat) (d : RegDesc) (i j a : Nat) (v : Word) : (State.writeUnit s m d i j
    a v).keep = s.keep := by
  unfold State.writeUnit
  split <;> simp only [State.plainWrite_keep, State.writeSys_keep, State.writeMbx_keep, State.writeTim_keep,
      State.writeLine_keep, State.writePlm_keep, State.writeCh_keep, State.writeMem_keep]
theorem State.writeReg_keep (s : State) (m : Nat) (d : RegDesc) (i j a : Nat) (v : Word) : (State.writeReg s m d i j a
    v).keep = s.keep := by
  unfold State.writeReg
  simp only [apply_ite State.keep, ite_self, State.misused_keep, State.writeUnit_keep]
theorem State.completeTlp_keep (s : State) (write : Bool) (data : Option (List Byte)) : (State.completeTlp s write
    data).keep = s.keep := by
  unfold State.completeTlp
  repeat' (first | with_reducible rfl | simp only [apply_ite State.keep, State.countF_keep, State.emit_keep] | split)
theorem State.perst_keep (s : State) : (State.perst s).keep = s.keep := by
  unfold State.perst
  simp only [foldl_keep, implies_true, State.setReg_keep]
theorem State.sendPending_keep (s : State) : (State.sendPending s).keep = s.keep := by
  unfold State.sendPending
  simp only [foldl_keep, apply_ite State.keep, ite_self, implies_true, State.setRegB_keep, State.sendMsix_keep]
theorem State.pcieLink_keep (s : State) (up : Bool) (speed width : Nat) : (State.pcieLink s up speed width).keep =
    s.keep := by
  unfold State.pcieLink
  simp only [apply_ite State.keep, ite_self, State.setReg_keep, State.sendPending_keep]
theorem State.bme_keep (s : State) (on : Bool) : (State.bme s on).keep = s.keep := by
  unfold State.bme
  simp only [apply_ite State.keep, ite_self, State.setRegB_keep, State.sendPending_keep]
theorem State.countDrop_keep (s : State) (status : Nat) : (State.countDrop s status).keep = s.keep := by
  unfold State.countDrop
  simp only [apply_ite State.keep, ite_self, State.count_keep]

end Sys2Proof.Machine
end

