-- ==== Sys2Proof/Laws/Invariant.lean ====
section
/-!
SUPPORT. What stores bytes keeps the canonical form of the memories, with the order code and the queue: the operations that
store, and the accesses. Laws/Keeps.lean says the same of every command.
-/
namespace Sys2Proof.Machine
section
variable {o : Order} {q : List Instr} {s t : State}

/-- The order code, the queue, and memories in canonical form. -/
def Ok (o : Order) (q : List Instr) (s : State) : Prop := s.order = o ∧ s.pending = q ∧ s.mem.wf = true

/-- An answer is a next state with a property. -/
def Goes (p : State → Prop) (x : Answer) : Prop := ∃ t, x = .next t ∧ p t

/-- An access leaves a state with a property, performed or refused. -/
def AccOk (p : State → Prop) : Access → Prop
  | .done t _ => p t
  | .refused t _ => p t

theorem Ok.of_keep (h : Ok o q s) (e : t.keep = s.keep) : Ok o q t := by
  simp only [State.keep, Prod.mk.injEq] at e
  obtain ⟨e1, e2, e3, e4⟩ := e
  exact ⟨e1.trans h.1, e2.trans h.2.1, (Memory.wf_congr e3 e4).trans h.2.2⟩

theorem Ok.setBytes (h : Ok o q s) (a : Nat) (bs : List Byte) : Ok o q { s with mem := s.mem.setBytes a bs } :=
  ⟨h.1, h.2.1, Memory.wf_setBytes h.2.2 a bs⟩

theorem Ok.foldl {α : Type} (f : State → α → State) (l : List α) (h : Ok o q s) (hf : ∀ x, ∀ u, Ok o q u → Ok o q (f u x)) :
    Ok o q (l.foldl f s) := by
  induction l generalizing s with
  | nil => exact h
  | cons x r ih => exact ih (hf x s h)

theorem Ok.ite {c : Prop} [Decidable c] (h1 : Ok o q s) (h2 : Ok o q t) : Ok o q (if c then s else t) := by
  split <;> assumption

theorem Goes.next {p : State → Prop} (h : p t) : Goes p (.next t) := ⟨t, rfl, h⟩

theorem after_ok {dt : Nat} {f : State → State} (h : Ok o q s) (hf : ∀ u, Ok o q u → Ok o q (f u)) : Goes (Ok o q) (after dt s f) :=
  .next (hf _ (h.of_keep (State.advance_keep s dt)))

theorem afterEv_ok {dt : Nat} {es : List Ev} {f : State → State} (h : Ok o q s) (hf : ∀ u, Ok o q u → Ok o q (f u)) :
    Goes (Ok o q) (afterEv dt es s f) :=
  .next (hf _ (h.of_keep (State.clock_keep s dt es)))

/-! ### Memories -/

theorem Memory.wf_dropBank {x : Memory} (h : x.wf = true) (n : Nat) : (x.dropBank n).wf = true := Memory.wf_filter h _

theorem State.retireBank_ok (h : Ok o q s) (n : Nat) : Ok o q (s.retireBank n) := by
  unfold State.retireBank
  dsimp only
  generalize e : ((((s.setRegF (Reg.BNK_BSTS n) 1 0 3).setRegF (Reg.BNK_BSTS n) 15 8 (s.owner n)).setRegB Reg.BNK_RET_MAP n false).setOwner n
      0).setRegB Reg.BNK_GLB_STS n true = u
  have h1 : Ok o q u := by
    subst e
    exact h.of_keep (by simp only [State.setRegB_keep, State.setOwner_keep, State.setRegF_keep])
  have h2 : Ok o q { u with mem := u.mem.dropBank n } := ⟨h1.1, h1.2.1, Memory.wf_dropBank h1.2.2 n⟩
  exact h2.of_keep (by simp only [State.raiseBit_keep, State.noteRetired_keep])

theorem State.finding_ok (h : Ok o q s) (n row src : Nat) : Ok o q (s.finding n row src) := by
  unfold State.finding
  split
  · exact State.retireBank_ok h n
  · refine h.of_keep ?_
    simp only [State.tally_keep, State.raiseBit_keep, State.setRegB_keep, State.setReg_keep]

theorem State.scrubFinding_ok (h : Ok o q s) (n row : Nat) : Ok o q (s.scrubFinding n row) := by
  unfold State.scrubFinding
  exact State.finding_ok (by exact h) ..

theorem State.scrubRead_ok (h : Ok o q s) (n a : Nat) : Ok o q (s.scrubRead n a) := by
  unfold State.scrubRead
  split
  · exact h
  · exact h.of_keep (State.corrected_keep ..)
  · exact State.scrubFinding_ok h ..

theorem State.scrubWord_ok (h : Ok o q s) (n : Nat) : Ok o q (s.scrubWord n) := by
  unfold State.scrubWord
  have h1 := State.scrubRead_ok (s := { s with mem := { s.mem with scrub := sput 0 s.mem.scrub n ((sget 0 s.mem.scrub n + 1) % 262144) } })
    h n (sramBase + n * 2 ^ 21 + 8 * sget 0 s.mem.scrub n)
  exact Ok.ite h (Ok.ite h1 (h1.of_keep (State.scrubPassed_keep ..)))

theorem State.testRegion_ok (h : Ok o q s) (n : Nat) (b : Bool) : Ok o q (s.testRegion n b) := by
  unfold State.testRegion
  dsimp only
  have h1 := h.of_keep (State.readRegion_keep s (sramBase + n * 2 ^ 21 + 64 * s.regF (Reg.BNK_BGT n) 14 0))
  generalize s.readRegion (sramBase + n * 2 ^ 21 + 64 * s.regF (Reg.BNK_BGT n) 14 0) = u at h1 ⊢
  have h2 := fun v => h1.of_keep (State.setRegF_keep u (Reg.BNK_BGT n) 14 0 v)
  refine Ok.ite h (Ok.ite (State.finding_ok (Ok.ite (h2 _) ((h2 _).of_keep (State.setRegF_keep ..))) ..)
    (Ok.ite (h2 _) ((h2 _).of_keep (State.setRegF_keep ..))))

theorem State.patrolFinds_ok (h : Ok o q s) (a : Nat) : Ok o q (s.patrolFinds a) := by
  have h1 := h.of_keep (State.uncorrectable_keep s a)
  unfold State.patrolFinds
  dsimp only
  split
  · exact (h1.setBytes _ _).of_keep (State.setEcc_keep ..)
  · exact h1

theorem State.patrolBurst_ok (h : Ok o q s) : Ok o q s.patrolBurst := by
  unfold State.patrolBurst
  refine Ok.ite h (Ok.foldl _ _ (s := { s with mem := _ }) h (fun k u hu => ?_))
  dsimp only
  split
  · exact hu
  · exact hu.of_keep ((State.setEcc_keep ..).trans (State.corrected_keep ..))
  · exact State.patrolFinds_ok hu _

theorem State.memWord_ok (h : Ok o q s) (a : Nat) (bs : List Byte) (w : Nat) : Ok o q (s.memWord a bs w) := by
  unfold State.memWord
  exact Ok.ite ((h.setBytes _ _).of_keep (State.setEcc_keep ..))
    (Ok.ite (h.setBytes _ _) (((h.of_keep (State.corrected_keep s w)).setBytes _ _).of_keep (State.setEcc_keep ..)))

theorem State.writeWords_ok (h : Ok o q s) (a : Nat) (bs : List Byte) (l : List Nat) : Ok o q (s.writeWords a bs l).1 := by
  unfold State.writeWords
  split
  · exact h.of_keep (State.uncorrectable_keep ..)
  · exact Ok.foldl _ _ h (fun w u hu => State.memWord_ok hu a bs w)

theorem State.memWrite_ok (h : Ok o q s) (m a : Nat) (bs : List Byte) : Ok o q (s.memWrite m a bs).1 := by
  unfold State.memWrite
  split
  · exact h
  · have h1 := State.writeWords_ok (h.of_keep (State.wakeFor_keep s a)) a bs (spanWords a bs.length)
    split <;> (rename_i e; rw [e] at h1)
    · exact h1.of_keep (State.snoop_keep ..)
    · exact h1

theorem State.memAccess_ok (h : Ok o q s) (m : Nat) (w : Bool) (a n : Nat) (d : List Byte) : Ok o q (s.memAccess m w a n d).1 := by
  cases w with
  | false => exact h.of_keep (State.memAccess_keep ..)
  | true =>
    unfold State.memAccess
    generalize e : s.memWrite m a ((d ++ List.replicate n (0 : Byte)).take n) = z
    obtain ⟨t, x⟩ := z
    have h1 : Ok o q t := by have := State.memWrite_ok h m a ((d ++ List.replicate n (0 : Byte)).take n); rw [e] at this; exact this
    simp only [if_true, e]
    repeat' split
    all_goals first | exact h1 | exact h1.of_keep (State.violation_keep ..)

theorem State.mpAccess_ok (h : Ok o q s) (w : Bool) (a n : Nat) (d : List Byte) : Ok o q (s.mpAccess w a n d).1 := by
  have h1 := State.memAccess_ok h 1 w a n d
  unfold State.mpAccess
  split <;> (rename_i e; rw [e] at h1; exact h1)

theorem State.misusedMemory_ok (h : Ok o q s) (r : Nat) : Ok o q (s.misusedMemory r) := by
  refine ⟨h.1, h.2.1, ?_⟩
  unfold State.misusedMemory
  dsimp only
  split
  · assumption
  · exact h.2.2

theorem State.sramAccess_ok (h : Ok o q s) (m : Nat) (w : Bool) (a n : Nat) (d : List Byte) (hits : List (Nat × Nat)) :
    Ok o q (s.sramAccess m w a n d hits) := by
  unfold State.sramAccess
  refine Ok.ite h (Ok.ite (State.misusedMemory_ok h _) ?_)
  have h1 := State.memAccess_ok (h.of_keep (State.strike_keep s hits)) m w a n d
  generalize (s.strike hits).memAccess m w a n d = z at h1 ⊢
  obtain ⟨t, x⟩ := z
  dsimp only
  split
  · exact Ok.ite h1 (h1.of_keep (State.emit_keep ..))
  · exact Ok.ite (h1.of_keep (State.errorAnswer_keep ..)) h1

/-! ### Power -/

theorem State.kept_ok (h : Ok o q s) : Ok o q s.kept := ⟨h.1, h.2.1, (by decide : ({} : Memory).wf = true)⟩

theorem State.shutDown_ok (h : Ok o q s) : Ok o q s.shutDown := by
  unfold State.shutDown
  refine (State.kept_ok (h.of_keep (State.endBurn_keep s 1))).of_keep ?_
  simp only [State.setRegB_keep, State.setReg_keep, State.ctlsDown_keep]

theorem State.moduleReset_ok (h : Ok o q s) (c : Nat) : Ok o q (s.moduleReset c) :=
  (State.shutDown_ok h).of_keep (State.startUnder_keep ..)

theorem State.powerFail_ok (h : Ok o q s) : Ok o q s.powerFail := by
  unfold State.powerFail
  refine (State.shutDown_ok (h.of_keep (t := s.lastSteps.endBurn 0) ?_)).of_keep (State.holdUp_keep _)
  simp only [State.endBurn_keep, State.lastSteps_keep]

theorem State.feedLoss_ok (h : Ok o q s) (f mv : Nat) : Ok o q (s.feedLoss f mv) := by
  unfold State.feedLoss
  dsimp only
  generalize e : ((((s.feedMv f mv).setRegB Reg.PWR_STS f false).countF Reg.PWR_FEED_CNT (if f = 0 then 15 else 31)
    (if f = 0 then 0 else 16) 1).raiseBit 17 0) = u
  have h1 : Ok o q u := by
    subst e
    exact h.of_keep (by simp only [State.raiseBit_keep, State.countF_keep, State.setRegB_keep, State.feedMv_keep])
  exact Ok.ite (h.of_keep (State.feedMv_keep ..)) (Ok.ite (State.powerFail_ok h1) h1)

theorem State.brownout_ok (h : Ok o q s) (r mv : Nat) : Ok o q (s.brownout r mv) := by
  unfold State.brownout
  have h1 : Ok o q (s.railMv r mv) := h.of_keep (State.railMv_keep ..)
  exact Ok.ite h (Ok.ite h1 (Ok.ite (State.moduleReset_ok h1 6) h1))

theorem State.watchdog_ok (h : Ok o q s) : Ok o q s.watchdog := by
  unfold State.watchdog
  exact Ok.ite (State.moduleReset_ok h 5) h

theorem State.thermal_ok (h : Ok o q s) (d b : Int) : Ok o q (s.thermal d b) := by
  unfold State.thermal
  have h1 := h.of_keep (State.temps_keep s d b)
  exact Ok.ite h1 ((State.shutDown_ok h1).of_keep (State.holdHot_keep _))

theorem State.requestedReset_ok (h : Ok o q s) : Ok o q s.requestedReset := by
  unfold State.requestedReset
  split
  · exact State.moduleReset_ok (h.of_keep (State.recordsOut_keep s)) _
  · exact h

/-! ### The pair -/

theorem State.dmaWrite_ok (h : Ok o q s) (a : Nat) (bs : List Byte) : Ok o q (s.dmaWrite a bs) :=
  Ok.ite h (State.memAccess_ok h ..)

theorem State.putRec_ok (h : Ok o q s) (r : DeltaRec) : Ok o q (s.putRec r) := by
  unfold State.putRec
  repeat' split
  all_goals first
    | exact h
    | exact State.dmaWrite_ok h ..
    | (refine h.of_keep ?_
       first
         | simp only [State.setImgWords_keep, State.putInstRec_keep, State.putDatum_keep, State.putAxis_keep,
             State.putForce_keep, State.putSymbol_keep, State.putRegister_keep]
         | exact foldl_keep _ _ _ (fun _ _ => State.setKonst_keep ..))

theorem State.putRecs_ok (h : Ok o q s) (rs : List DeltaRec) : Ok o q (s.putRecs rs) := by
  unfold State.putRecs
  dsimp only
  have h1 : ∀ (c : Prop) [Decidable c] (m : Nat) (cfg : Sparse Word), Ok o q (if c then s else s.activate m cfg) := by
    intro c _ m cfg
    exact Ok.ite h (h.of_keep (State.activate_keep ..))
  have h2 : ∀ u, Ok o q u → Ok o q (rs.foldl State.putRec u) := fun u hu => Ok.foldl _ _ hu (fun r u hu => State.putRec_ok hu r)
  exact Ok.ite (h2 _ (h1 ..)) ((h2 _ (h1 ..)).of_keep (State.keepApp_keep _))

theorem State.rollback_ok (h : Ok o q s) : Ok o q s.rollback := by
  unfold State.rollback
  exact Ok.foldl _ _ h (fun r u hu => State.putRecs_ok hu [r])

theorem State.declareLoss_ok (h : Ok o q s) : Ok o q s.declareLoss := by
  unfold State.declareLoss
  have h1 := h.of_keep (State.noteLoss_keep s)
  refine Ok.ite h (Ok.ite ((State.rollback_ok (h1.of_keep (State.beginTakeover_keep _))).of_keep ?_) (h1.of_keep (State.setRegB_keep ..)))
  simp only [State.setDrive_keep, State.dropLoaded_keep]

theorem State.lossDeclared_ok (h : Ok o q s) : Ok o q s.lossDeclared := by
  unfold State.lossDeclared
  exact Ok.ite (State.declareLoss_ok h) h

theorem State.heardRole_ok (h : Ok o q s) (r : Nat) : Ok o q (s.heardRole r) := by
  unfold State.heardRole
  have h1 : Ok o q ((s.setRegF Reg.PAIR_ROLE 6 4 r).noteHeard s.partner r) :=
    h.of_keep ((State.noteHeard_keep ..).trans (State.setRegF_keep ..))
  have h2 := Ok.ite (c := r = 3) h1 (h1.of_keep (State.follow_keep _ false))
  exact Ok.ite (State.declareLoss_ok h2) (Ok.ite (h2.of_keep (State.unready_keep _)) h2)

theorem State.keepaliveRx_ok (h : Ok o q s) (r : Nat) (b : Bool) (c : Nat) : Ok o q (s.keepaliveRx r b c) := by
  unfold State.keepaliveRx
  have h1 := State.heardRole_ok h r
  have h2 : Ok o q (((s.heardRole r).setReg Reg.PAIR_GEN_DONE (w32 c)).follow b) :=
    h1.of_keep ((State.follow_keep ..).trans (State.setReg_keep ..))
  exact Ok.ite h1 (Ok.ite (h2.of_keep (State.startCopy_keep _)) h2)

theorem State.genRec_ok (h : Ok o q s) (gen : Nat) (r : DeltaRec) : Ok o q (State.genRec gen s r) := by
  have h1 := h.of_keep (State.noteGen_keep s gen r)
  exact Ok.ite h1 (State.putRec_ok h1 r)

theorem State.deltaRx_ok (h : Ok o q s) (gen : Nat) (rs : List DeltaRec) : Ok o q (s.deltaRx gen rs) := by
  have h0 := h.of_keep (State.keepUndo_keep s gen (s.swapUndo rs))
  have h1 : Ok o q ((rs.foldl (State.genRec gen) (s.keepUndo gen (s.swapUndo rs))).putRecs (rs.filter (fun r => (activeItem r).isSome))) :=
    State.putRecs_ok (Ok.foldl _ _ h0 (fun r u hu => State.genRec_ok hu gen r)) _
  exact Ok.ite h (Ok.ite (State.putRecs_ok h rs) (Ok.ite (h1.of_keep (State.unready_keep _)) h1))

theorem State.clearCopied_ok (h : Ok o q s) : Ok o q s.clearCopied := by
  refine ⟨h.1, h.2.1, ?_⟩
  have : ∀ (l : List Nat) (x : Memory), x.wf = true → (l.foldl Memory.dropBank x).wf = true := by
    intro l
    induction l with
    | nil => exact fun _ h => h
    | cons n r ih => exact fun x h => ih _ (Memory.wf_dropBank h n)
  exact this _ _ h.2.2

theorem State.joinAnew_keep (s : State) : s.joinAnew.keep = s.keep := by
  unfold State.joinAnew
  simp only [State.keep_mk, State.keep_eta, State.setRegB_keep]

theorem State.takeProgram_keep (s : State) : s.takeProgram.keep = s.keep := by
  unfold State.takeProgram
  simp only [State.keep_mk, State.keep_eta, apply_ite State.keep, State.installProgram_keep, ite_self]

theorem State.beginJoin_ok (h : Ok o q s) (e : Nat) : Ok o q (s.beginJoin e) := by
  unfold State.beginJoin
  have h1 := (State.clearCopied_ok (Ok.ite (c := s.regB Reg.PAIR_STS 0 = true) (h.of_keep (State.setReady_keep s false)) h)).of_keep
    (State.joinAnew_keep _)
  exact (Ok.ite (h1.of_keep (State.setEpoch_keep ..)) h1).of_keep (State.takeProgram_keep _)

theorem State.resyncRx_ok (h : Ok o q s) (e a : Nat) (bs : List Byte) (rs : List DeltaRec) : Ok o q (s.resyncRx e a bs rs) := by
  unfold State.resyncRx
  have h1 : ∀ (c : Prop) [Decidable c], Ok o q (if c then s.beginJoin e else s) := fun c _ => Ok.ite (State.beginJoin_ok h e) h
  exact Ok.ite h (State.putRecs_ok (Ok.ite (State.dmaWrite_ok (h1 _) ..) (h1 _)) rs)

theorem State.rxPlain_ok {f : State → State} (h : Ok o q s) (x : LinkHdr) (hf : ∀ u, Ok o q u → Ok o q (f u)) : Ok o q (s.rxPlain x f) := by
  unfold State.rxPlain
  exact Ok.ite (hf _ (h.of_keep (State.hearLink_keep ..))) h

theorem State.rxSeqd_ok {f : State → State} (h : Ok o q s) (x : LinkHdr) (hf : ∀ u, Ok o q u → Ok o q (f u)) : Ok o q (s.rxSeqd x f) := by
  refine State.rxPlain_ok h x (fun u hu => Ok.ite hu (Ok.ite ?_ (hu.of_keep (State.sendPlain_keep ..))))
  exact (hf _ (hu.of_keep (State.acceptSeq_keep u x.seq))).of_keep (State.sendPlain_keep ..)

theorem State.rxFrame_ok {f : State → State} (h : Ok o q s) (n : Nat) (x : Hdr) (b : Payload) (st g : Bool)
    (hf : ∀ u, Ok o q u → Ok o q (f u)) : Ok o q (s.rxFrame n x b st g f) := by
  have h1 := h.of_keep (State.received_keep s n x.vid.isSome (20 + paylen b))
  have h2 := h1.of_keep (State.checkEpoch_keep _ n x st)
  exact Ok.ite h (Ok.ite (h1.of_keep (State.count_keep ..)) (Ok.ite h1 (Ok.ite (h1.of_keep (State.count_keep ..)) (Ok.ite (hf _ h2) h2))))

theorem State.beatRx_ok (h : Ok o q s) (n : Nat) (x : Hdr) (role t : Nat) : Ok o q (s.beatRx n x role t) := by
  refine State.rxFrame_ok h n x _ false true (fun u hu => Ok.ite (State.heardRole_ok (hu.of_keep (State.noteBeat_keep u n)) _) (hu.of_keep ?_))
  exact State.upFrame_keep _ _ _ _ (fun _ => rfl)

/-! ### Commands of the MP -/

theorem State.storeReply_ok (h : Ok o q s) (a n : Nat) (bs : List Byte) : Ok o q (s.storeReply a n bs).1 := by
  have h1 := State.mpAccess_ok h true a n bs
  unfold State.storeReply
  split <;> (rename_i e; rw [e] at h1; exact h1)

theorem cmdLpdWrite_ok (h : Ok o q s) (c : Cmd) : Ok o q (cmdLpdWrite c s).1 := by
  unfold cmdLpdWrite
  split
  · exact h
  · split
    · exact h
    · exact State.storeReply_ok h ..

theorem returning_ok {x : State × Reply} (h : Ok o q x.1) (n id : Nat) : Ok o q (returning n id x).1 := by
  unfold returning
  split
  · exact h
  · exact h.of_keep (State.returnBank_keep ..)

theorem endRecCopy_ok (h : Ok o q s) (c : Cmd) : Ok o q (endRecCopy c s).1 := by
  unfold endRecCopy
  refine returning_ok ?_ ..
  split
  · exact h
  · exact State.storeReply_ok h ..

theorem State.endLong_ok (h : Ok o q s) (c : Cmd) (f : Nat) : Ok o q (s.endLong c f).1 := by
  unfold State.endLong
  split
  · exact h.of_keep (endCfgBulk_keep ..)
  · exact h.of_keep (endCfgCheck_keep ..)
  · exact h.of_keep (endPrgLoadBlock_keep ..)
  · exact h.of_keep (endPrgLoadEnd_keep ..)
  · exact h.of_keep (onChannel_keep _ _ _ (fun n c t => endChTrimCapture_keep ..))
  · exact h.of_keep (onChannel_keep _ _ _ (fun n c t => endChPulseTest_keep ..))
  · exact h.of_keep (endPairResync_keep ..)
  · exact endRecCopy_ok h c
  · exact h.of_keep (endUpdChain_keep ..)
  · exact h.of_keep (endSelftestFull_keep ..)

theorem State.longComplete_ok (h : Ok o q s) (n f : Nat) : Ok o q (s.longComplete n f) := by
  unfold State.longComplete
  refine Ok.ite h ?_
  split
  · exact h
  · exact (State.endLong_ok h _ f).of_keep (State.reply_keep ..)

theorem State.perform_ok {f : Cmd → State → State × Reply} (h : Ok o q s) (n code need : Nat)
    (hf : ∀ c u, Ok o q u → Ok o q (f c u).1) : Ok o q (s.perform n code need f) := by
  unfold State.perform
  split
  · exact h
  · rename_i c _
    have h1 := h.of_keep (State.startCmd_keep s n c.id)
    refine Ok.ite (h1.of_keep (State.finish_keep ..)) ((hf c _ h1).of_keep ?_)
    rw [State.reply_keep, State.noteWrites_keep]

/-! ### Accesses -/

theorem AccOk.ite {p : State → Prop} {c : Prop} [Decidable c] {x y : Access} (hx : AccOk p x) (hy : AccOk p y) : AccOk p (if c then x else y) := by
  split <;> assumption

theorem State.refuse_ok (h : Ok o q s) (m k : Nat) (w : Bool) (a : Nat) : AccOk (Ok o q) (s.refuse m k w a) :=
  AccOk.ite (x := .refused _ true) h (h.of_keep (State.violation_keep ..))

theorem State.writeAt_ok (h : Ok o q s) (m a : Nat) (v : Word) : AccOk (Ok o q) (s.writeAt m a v) := by
  unfold State.writeAt
  split
  · split
    · exact State.refuse_ok h ..
    · exact h.of_keep (State.writeReg_keep ..)
  · exact h.of_keep (State.misused_keep ..)

theorem State.readAt_ok (h : Ok o q s) (m a : Nat) : AccOk (Ok o q) (s.readAt m a) := by
  unfold State.readAt
  split
  · exact h.of_keep (State.readReg_keep ..)
  · exact h

theorem State.access_ok (h : Ok o q s) (m : Nat) (w : Bool) (a : Nat) (v : Word) : AccOk (Ok o q) (s.access m w a v) := by
  unfold State.access
  refine AccOk.ite ?_ ?_
  · have h1 := State.memAccess_ok h m w a 4 ((wordBytes v).map (BitVec.ofNat 8))
    generalize s.memAccess m w a 4 ((wordBytes v).map (BitVec.ofNat 8)) = z at h1 ⊢
    obtain ⟨t, x⟩ := z
    cases x <;> exact h1
  · split
    · exact State.refuse_ok h ..
    · exact AccOk.ite (x := s.narrow a) (h.of_keep (State.misused_keep ..)) (AccOk.ite (State.writeAt_ok h ..) (State.readAt_ok h ..))

theorem State.single_ok (h : Ok o q s) (m : Nat) (w : Bool) (a : Nat) (v : Word) : Ok o q (s.single m w a v) := by
  have h1 := State.access_ok h m w a v
  unfold State.single
  refine Ok.ite h ?_
  generalize s.access m w a v = x at h1 ⊢
  cases x with
  | done t y => exact Ok.ite h1 (Ok.of_keep h1 (State.emit_keep ..))
  | refused t y => exact Ok.ite (Ok.of_keep h1 (State.errorAnswer_keep ..)) h1

theorem readAfter_ok (h : Ok o q s) (dt m a : Nat) : Goes (Ok o q) (readAfter dt m a s) :=
  afterEv_ok h (fun _ hu => State.single_ok hu ..)

theorem writeAfter_ok (h : Ok o q s) (dt m a : Nat) (v : Word) : Goes (Ok o q) (writeAfter dt m a v s) :=
  afterEv_ok h (fun _ hu => State.single_ok hu ..)

/-! ### Host paths -/

theorem State.run_ok (m : Nat) (w : Bool) (l : List (Nat × Word)) (got : List Word) (h : Ok o q s) : Ok o q (s.run m w l got).1 := by
  induction l generalizing s got with
  | nil => exact h
  | cons x r ih =>
    have h1 := State.access_ok h m w x.1 x.2
    unfold State.run
    generalize s.access m w x.1 x.2 = y at h1 ⊢
    cases y with
    | done t z => exact ih _ h1
    | refused t z => exact h1

theorem State.runSram_ok (w : Bool) (a : Nat) (d : List Byte) (l : List (Nat × Nat)) (got : List Byte) (h : Ok o q s) :
    Ok o q (s.runSram w a d l got).1 := by
  induction l generalizing s got with
  | nil => exact h
  | cons x r ih =>
    have h1 := State.memAccess_ok h 0x42 w x.1 x.2 ((d.drop (x.1 - a)).take x.2)
    unfold State.runSram
    generalize s.memAccess 0x42 w x.1 x.2 ((d.drop (x.1 - a)).take x.2) = z at h1 ⊢
    obtain ⟨t, y⟩ := z
    cases y with
    | data bs => exact ih _ h1
    | violation => exact h1
    | error => exact h1

theorem State.tlpSram_ok (h : Ok o q s) (w : Bool) (a n : Nat) (d : List Byte) : Ok o q (s.tlpSram w a n d) := by
  unfold State.tlpSram
  exact Ok.ite ((State.misusedMemory_ok h 362).of_keep (State.completeTlp_keep ..))
    ((State.runSram_ok w a d _ [] h).of_keep (State.completeTlp_keep ..))

theorem State.tlpRegs_ok (h : Ok o q s) (w : Bool) (a n : Nat) (d : List Byte) : Ok o q (s.tlpRegs w a n d) := by
  unfold State.tlpRegs
  refine Ok.ite ((State.run_ok _ _ _ _ h).of_keep (State.completeTlp_keep ..)) ?_
  split
  · rename_i k b _
    have h1 := State.refuse_ok h 0x42 k w b
    split <;> (rename_i e; rw [e] at h1)
    · exact Ok.of_keep h1 (State.completeTlp_keep ..)
    · exact h1
  · exact (Ok.foldl _ _ h (fun a u hu => hu.of_keep (State.misused_keep ..))).of_keep (State.completeTlp_keep ..)

theorem State.tlp_ok (h : Ok o q s) (w b : Bool) (a n : Nat) (d : List Byte) : Ok o q (s.tlp w b a n d) := by
  have h1 := State.tlpSram_ok h w (sramBase + a) n d
  have h2 := State.tlpRegs_ok h w a n d
  unfold State.tlp
  repeat' split
  all_goals assumption

theorem State.rra_ok (h : Ok o q s) (m : Nat) (b : Bool) (p : List Byte) : Ok o q (s.rra m b p).1 := by
  have h1 := State.run_ok m ((rraReq p).op = 2) (tlpWords 0 (rraReq p).addr (4 * (rraReq p).count) (rraReq p).data) [] h
  unfold State.rra
  dsimp only
  split
  · exact h.of_keep (State.countDrop_keep ..)
  · split
    · exact h.of_keep (State.countDrop_keep ..)
    · split <;> (rename_i e; rw [e] at h1)
      · exact h1
      · exact Ok.of_keep h1 (State.countDrop_keep ..)

theorem State.svcRequest_ok (h : Ok o q s) (d e m : Nat) (p : List Byte) : Ok o q (s.svcRequest d e m p) := by
  unfold State.svcRequest
  exact Ok.ite h ((State.rra_ok h _ _ _).of_keep (State.emit_keep ..))

theorem State.regaccRx_ok (h : Ok o q s) (n : Nat) (x : Hdr) (m : Nat) (p : List Byte) : Ok o q (s.regaccRx n x m p) := by
  unfold State.regaccRx
  have h1 := h.of_keep (State.received_keep s n x.vid.isSome (20 + p.length))
  exact Ok.ite h (Ok.ite (h1.of_keep (State.count_keep ..)) (Ok.ite h1 (Ok.ite (h1.of_keep (State.count_keep ..)) (Ok.ite h1
    ((State.rra_ok h1 _ _ _).of_keep (State.queueTo_keep ..))))))

end
end Sys2Proof.Machine
end

