-- ==== Sys2Proof/Laws/Keeps.lean ====
section
/-!
SUPPORT. Every command completes, and keeps the order code, the queue and the canonical form of the memories: one lemma for
each command's meaning.
-/
namespace Sys2Proof.Machine
section
variable {o : Order} {q : List Instr} {s t : State}

/-! ### Shapes of commands -/

theorem after_keep {dt : Nat} {f : State → State} (h : Ok o q s) (hf : ∀ u, (f u).keep = u.keep) : Goes (Ok o q) (after dt s f) :=
  after_ok h (fun u hu => hu.of_keep (hf u))

theorem afterEv_keep {dt : Nat} {es : List Ev} {f : State → State} (h : Ok o q s) (hf : ∀ u, (f u).keep = u.keep) :
    Goes (Ok o q) (afterEv dt es s f) :=
  afterEv_ok h (fun u hu => hu.of_keep (hf u))

theorem performAt_keep {dt n code need : Nat} {f : Cmd → State → State × Reply} (h : Ok o q s) (hf : ∀ c u, (f c u).1.keep = u.keep) :
    Goes (Ok o q) (performAt dt n code need s f) :=
  after_keep h (fun u => State.perform_keep u n code need f hf)

theorem performEv_keep {dt n code need : Nat} {es : Cmd → State → List Ev} {f : Cmd → State → State × Reply} (h : Ok o q s)
    (hf : ∀ c u, (f c u).1.keep = u.keep) : Goes (Ok o q) (performEv dt n code need s es f) :=
  afterEv_keep h (fun u => State.perform_keep u n code need f hf)

theorem seqFrame_ok {dt : Nat} {x : LinkHdr} {es : List Ev} {f : State → State} (h : Ok o q s) (hf : ∀ u, Ok o q u → Ok o q (f u)) :
    Goes (Ok o q) (seqFrame dt x es s f) :=
  afterEv_ok h (fun _ hu => State.rxSeqd_ok hu x hf)

theorem plainFrame_keep {dt : Nat} {x : LinkHdr} {f : State → State} (h : Ok o q s) (hf : ∀ u, (f u).keep = u.keep) :
    Goes (Ok o q) (plainFrame dt x s f) :=
  afterEv_keep h (fun u => State.rxPlain_keep u x f hf)

/-! ### Plumb -/

/-- What an instruction that does not end its release leaves keeps what the state before it keeps. -/
def BodyKeeps (s : State) (x : Except PlEnd PlStep) : Prop := ∀ y, x = .ok y → y.st.keep = s.keep

theorem BodyKeeps.ok {y : PlStep} (h : y.st.keep = s.keep) : BodyKeeps s (.ok y) := fun _ hz => by cases hz; exact h

theorem BodyKeeps.error {e : PlEnd} : BodyKeeps s (.error e) := fun _ hz => by cases hz

theorem BodyKeeps.bind {α : Type} {x : Except PlEnd α} {f : α → Except PlEnd PlStep} (h : ∀ a, BodyKeeps s (f a)) : BodyKeeps s (x >>= f) := by
  cases x with
  | error e => exact .error
  | ok a => exact h a

theorem BodyKeeps.ite {c : Prop} [Decidable c] {x y : Except PlEnd PlStep} (hx : BodyKeeps s x) (hy : BodyKeeps s y) :
    BodyKeeps s (if c then x else y) := by
  split <;> assumption

theorem plumb_ok (h : Ok o q s) (op clocks : Nat) (sp : List Nat) (body : State → Release → Except PlEnd PlStep) (e space addr : Nat)
    (hb : ∀ u r, BodyKeeps u (body u r)) : Goes (Ok o q) (plumb op clocks sp body e space addr s) := by
  refine .next ?_
  split
  · exact h
  · rename_i r _
    refine Ok.ite h (h.of_keep (State.inClock_keep _ _ _ _ _ _ _ (fun t r => ?_)))
    exact State.perform1_keep t op sp body e space r (hb t r)

section
variable {r : Release}

theorem plReg_body {f : Release → Release} : BodyKeeps s (plReg f s r) := .ok rfl
theorem plBit_body {space addr : Nat} {f : Release → Bool → Release} : BodyKeeps s (plBit space addr f s r) := .bind fun _ => .ok rfl
theorem plOnWord_body {e space addr : Nat} {f : Release → Word → Release} : BodyKeeps s (plOnWord e space addr f s r) :=
  .bind fun _ => .ok rfl
theorem plOnDouble_body {e space addr : Nat} {f : Release → DWord → Release} : BodyKeeps s (plOnDouble e space addr f s r) :=
  .bind fun _ => .ok rfl
theorem plStore_body {f : State → Release → Except PlEnd Release} : BodyKeeps s (plStore f s r) := .bind fun _ => .ok rfl
theorem plBitStore_body {e space addr : Nat} {c v : Release → Bool} : BodyKeeps s (plBitStore e space addr c v s r) :=
  .ite .error (.ite plStore_body (.ok rfl))
theorem plWordStore_body {e space addr n : Nat} {c : Release → Bool} : BodyKeeps s (plWordStore e space addr n c s r) :=
  .ite .error (.ite (.ite (.bind fun _ => .ok rfl) plStore_body) (.ok rfl))
theorem plPush_body {op : JoinOp} : BodyKeeps s (plPush op s r) := .bind fun _ => .ok rfl
theorem plJump_body {c : Release → Bool} {addr : Nat} : BodyKeeps s (plJump c addr s r) := .ok rfl
theorem plReturn_body : BodyKeeps s (plReturn s r) := .bind fun _ => .ok rfl
theorem plCount_body {n : Nat} {f : Release → Release} : BodyKeeps s (plCount n f s r) := .ite .error (.ok rfl)
theorem plEdge_body {e a : Nat} {f : Bool → Bool → Bool} : BodyKeeps s (plEdge e a f s r) := .bind fun _ => .bind fun _ => .ok rfl

theorem plTimer_body {e t type : Nat} {f : Timer → Bool → Nat → Timer} : BodyKeeps s (plTimer e t type f s r) := by
  refine .ite .error ?_
  repeat refine .bind fun _ => ?_
  exact .ok rfl

theorem plCounter_body {e c : Nat} {f : Word → Word → Word → Bool → Word × Word} : BodyKeeps s (plCounter e c f s r) := by
  refine .ite .error ?_
  repeat refine .bind fun _ => ?_
  exact .ok rfl

theorem plCall_body {e i : Nat} : BodyKeeps s (plCall e i s r) :=
  .ite .error (.ite (.ok rfl) (.ite .error (.bind fun _ => .ok rfl)))

theorem plStake_body {e i : Nat} {would : Stake → Bool} {f : State → State} (hf : ∀ u, (f u).keep = u.keep) :
    BodyKeeps s (plStake e i would f s r) :=
  .ite .error (.ite (.ok rfl) (.ite .error (.ite (.ok rfl) (.ite (.ok (State.misused_keep ..)) (.ite (.ok (hf s)) (.ite .error
    (.ok (hf s))))))))
end

/-! ### Commands -/

theorem execRegisterWrite_ok (h : Ok o q s) (dt m addr : Nat) (value : Word) : Goes (Ok o q) (execRegisterWrite dt m addr
    value s) :=
  writeAfter_ok h ..

theorem execLoRead_ok (h : Ok o q s) (dt m addr : Nat) : Goes (Ok o q) (execLoRead dt m addr s) :=
  readAfter_ok h ..

theorem execLoWrite_ok (h : Ok o q s) (dt m addr : Nat) (value : Word) : Goes (Ok o q) (execLoWrite dt m addr value s) :=
  writeAfter_ok h ..

theorem execHiWrite_ok (h : Ok o q s) (dt m addr : Nat) (value : Word) : Goes (Ok o q) (execHiWrite dt m addr value s) :=
  writeAfter_ok h ..

theorem execRcRead_ok (h : Ok o q s) (dt m addr : Nat) : Goes (Ok o q) (execRcRead dt m addr s) :=
  readAfter_ok h ..

theorem execVotedRead_ok (h : Ok o q s) (dt m addr : Nat) (x y z : Word) : Goes (Ok o q) (execVotedRead dt m addr x y z s)
    :=
  afterEv_ok h (fun _ hu => State.single_ok (hu.of_keep (State.upset_keep ..)) ..)

theorem execTmrScrub_ok (h : Ok o q s) (dt : Nat) (upsets : List (Nat × Word × Word × Word)) : Goes (Ok o q) (execTmrScrub
    dt upsets s) :=
  after_keep h (fun u => by simp only [foldl_keep, implies_true,
    State.upset_keep, State.scrubVotes_keep])

theorem execViolClear_ok (h : Ok o q s) (dt m : Nat) : Goes (Ok o q) (execViolClear dt m s) :=
  writeAfter_ok h ..

theorem execModuleResetRequest_ok (h : Ok o q s) (dt m : Nat) (value : Word) : Goes (Ok o q) (execModuleResetRequest dt m
    value s) :=
  writeAfter_ok h ..

theorem execMbxPost_ok (h : Ok o q s) (dt m n : Nat) (value : Word) : Goes (Ok o q) (execMbxPost dt m n value s) :=
  writeAfter_ok h ..

theorem execMbxTake_ok (h : Ok o q s) (dt m n : Nat) (value : Word) : Goes (Ok o q) (execMbxTake dt m n value s) :=
  writeAfter_ok h ..

theorem execMbxHrst_ok (h : Ok o q s) (dt m n : Nat) (value : Word) : Goes (Ok o q) (execMbxHrst dt m n value s) :=
  writeAfter_ok h ..

theorem execTimIncrWrite_ok (h : Ok o q s) (dt m : Nat) (value : Word) : Goes (Ok o q) (execTimIncrWrite dt m value s) :=
  writeAfter_ok h ..

theorem execTimStepArm_ok (h : Ok o q s) (dt m : Nat) (value : Word) : Goes (Ok o q) (execTimStepArm dt m value s) :=
  writeAfter_ok h ..

theorem execTimNowRead_ok (h : Ok o q s) (dt m : Nat) : Goes (Ok o q) (execTimNowRead dt m s) :=
  readAfter_ok h ..

theorem execTxqPop_ok (h : Ok o q s) (dt m n : Nat) (value : Word) : Goes (Ok o q) (execTxqPop dt m n value s) :=
  writeAfter_ok h ..

theorem execDatAppPush_ok (h : Ok o q s) (dt m d : Nat) (value : Word) : Goes (Ok o q) (execDatAppPush dt m d value s) :=
  writeAfter_ok h ..

theorem execArm_ok (h : Ok o q s) (dt m j : Nat) : Goes (Ok o q) (execArm dt m j s) :=
  writeAfter_ok h ..

theorem execDisarm_ok (h : Ok o q s) (dt m j : Nat) : Goes (Ok o q) (execDisarm dt m j s) :=
  writeAfter_ok h ..

theorem execReload_ok (h : Ok o q s) (dt m j : Nat) : Goes (Ok o q) (execReload dt m j s) :=
  writeAfter_ok h ..

theorem execStkCapInfoRead_ok (h : Ok o q s) (dt m k : Nat) : Goes (Ok o q) (execStkCapInfoRead dt m k s) :=
  readAfter_ok h ..

theorem execDiscover_ok (h : Ok o q s) (dt m n : Nat) (value : Word) : Goes (Ok o q) (execDiscover dt m n value s) :=
  writeAfter_ok h ..

theorem execModeReqTask_ok (h : Ok o q s) (dt m : Nat) : Goes (Ok o q) (execModeReqTask dt m s) :=
  writeAfter_ok h ..

theorem execModeReqFixed_ok (h : Ok o q s) (dt m : Nat) : Goes (Ok o q) (execModeReqFixed dt m s) :=
  writeAfter_ok h ..

theorem execRestoreAck_ok (h : Ok o q s) (dt m g : Nat) (value : Word) : Goes (Ok o q) (execRestoreAck dt m g value s) :=
  writeAfter_ok h ..

theorem execOutEn_ok (h : Ok o q s) (dt m g : Nat) (value : Word) : Goes (Ok o q) (execOutEn dt m g value s) :=
  writeAfter_ok h ..

theorem execFiEvPop_ok (h : Ok o q s) (dt m k : Nat) (value : Word) : Goes (Ok o q) (execFiEvPop dt m k value s) :=
  writeAfter_ok h ..

theorem execCanModeWrite_ok (h : Ok o q s) (dt m n : Nat) (value : Word) : Goes (Ok o q) (execCanModeWrite dt m n value s)
    :=
  writeAfter_ok h ..

theorem execCanTxPush_ok (h : Ok o q s) (dt m n : Nat) (value : Word) : Goes (Ok o q) (execCanTxPush dt m n value s) :=
  writeAfter_ok h ..

theorem execCanRxSel_ok (h : Ok o q s) (dt m n : Nat) (value : Word) : Goes (Ok o q) (execCanRxSel dt m n value s) :=
  writeAfter_ok h ..

theorem execTxePop_ok (h : Ok o q s) (dt m n : Nat) (value : Word) : Goes (Ok o q) (execTxePop dt m n value s) :=
  writeAfter_ok h ..

theorem execCanRelease_ok (h : Ok o q s) (dt m n : Nat) : Goes (Ok o q) (execCanRelease dt m n s) :=
  writeAfter_ok h ..

theorem execCanDiscard_ok (h : Ok o q s) (dt m n : Nat) : Goes (Ok o q) (execCanDiscard dt m n s) :=
  writeAfter_ok h ..

theorem execCanFlush_ok (h : Ok o q s) (dt m n : Nat) : Goes (Ok o q) (execCanFlush dt m n s) :=
  writeAfter_ok h ..

theorem execCanRecover_ok (h : Ok o q s) (dt m n : Nat) : Goes (Ok o q) (execCanRecover dt m n s) :=
  writeAfter_ok h ..

theorem execCanTscCap_ok (h : Ok o q s) (dt m n : Nat) (value : Word) : Goes (Ok o q) (execCanTscCap dt m n value s) :=
  writeAfter_ok h ..

theorem execBnkOwnWrite_ok (h : Ok o q s) (dt m n : Nat) (value : Word) : Goes (Ok o q) (execBnkOwnWrite dt m n value s) :=
  writeAfter_ok h ..

theorem execBankRetention_ok (h : Ok o q s) (dt m n : Nat) (value : Word) : Goes (Ok o q) (execBankRetention dt m n value s)
    :=
  writeAfter_ok h ..

theorem execBankWake_ok (h : Ok o q s) (dt m n : Nat) (value : Word) : Goes (Ok o q) (execBankWake dt m n value s) :=
  writeAfter_ok h ..

theorem execLckRead_ok (h : Ok o q s) (dt m i : Nat) : Goes (Ok o q) (execLckRead dt m i s) :=
  readAfter_ok h ..

theorem execLockRelease_ok (h : Ok o q s) (dt m i : Nat) (value : Word) : Goes (Ok o q) (execLockRelease dt m i value s) :=
  writeAfter_ok h ..

theorem execLockForce_ok (h : Ok o q s) (dt m i : Nat) (value : Word) : Goes (Ok o q) (execLockForce dt m i value s) :=
  writeAfter_ok h ..

theorem execMpuSync_ok (h : Ok o q s) (dt m : Nat) : Goes (Ok o q) (execMpuSync dt m s) :=
  readAfter_ok h ..

theorem execRecSel_ok (h : Ok o q s) (dt m : Nat) (value : Word) : Goes (Ok o q) (execRecSel dt m value s) :=
  writeAfter_ok h ..

theorem execPwrDomReq_ok (h : Ok o q s) (dt m : Nat) (value : Word) : Goes (Ok o q) (execPwrDomReq dt m value s) :=
  writeAfter_ok h ..

theorem execFloorRequest_ok (h : Ok o q s) (dt m : Nat) (value : Word) : Goes (Ok o q) (execFloorRequest dt m value s) :=
  writeAfter_ok h ..

theorem execBlockCallArrival_ok (h : Ok o q s) (dt e : Nat) : Goes (Ok o q) (execBlockCallArrival dt e s) :=
  afterEv_keep h (fun u => State.callArrival_keep u ..)

theorem execBlockServiceStart_ok (h : Ok o q s) (dt p : Nat) : Goes (Ok o q) (execBlockServiceStart dt p s) :=
  afterEv_keep h (fun u => State.serve_keep u ..)

theorem execBlockReturn_ok (h : Ok o q s) (dt p : Nat) (trailing : Option Nat) : Goes (Ok o q) (execBlockReturn dt p
    trailing s) :=
  after_keep h (fun u => State.blkReturn_keep u ..)

theorem execBlockDeadline_ok (h : Ok o q s) (dt i : Nat) : Goes (Ok o q) (execBlockDeadline dt i s) :=
  after_keep h (fun u => State.expire_keep u ..)

theorem execSelfRunDue_ok (h : Ok o q s) (dt i : Nat) : Goes (Ok o q) (execSelfRunDue dt i s) :=
  afterEv_keep h (fun u => State.selfDue_keep u ..)

theorem execSelfRunEnd_ok (h : Ok o q s) (dt p : Nat) (trailing : Option Nat) : Goes (Ok o q) (execSelfRunEnd dt p trailing
    s) :=
  afterEv_keep h (fun u => State.selfEnd_keep u ..)

theorem execSegmentEnd_ok (h : Ok o q s) (dt d : Nat) : Goes (Ok o q) (execSegmentEnd dt d s) :=
  afterEv_keep h (fun u => by simp only [apply_ite State.keep, ite_self, State.segmentEnd_keep, State.axisEnd_keep])

theorem execSegmentHandover_ok (h : Ok o q s) (dt d : Nat) : Goes (Ok o q) (execSegmentHandover dt d s) :=
  afterEv_keep h (fun u => by simp only [apply_ite State.keep, ite_self, State.handSegments_keep, State.handAxis_keep])

theorem execReleaseEndDecision_ok (h : Ok o q s) (dt e : Nat) (trailing : Option Nat) : Goes (Ok o q)
    (execReleaseEndDecision dt e trailing s) :=
  afterEv_keep h (fun u => State.endDecision_keep u ..)

theorem execBoot_ok (h : Ok o q s) (dt : Nat) : Goes (Ok o q) (execBoot dt s) :=
  after_keep h (fun u => by simp only [apply_ite State.keep, ite_self, State.boot_keep])

theorem execCanSync_ok (h : Ok o q s) (dt n : Nat) : Goes (Ok o q) (execCanSync dt n s) :=
  after_keep h (fun u => State.canSync_keep u ..)

theorem execCanFrameSent_ok (h : Ok o q s) (dt n : Nat) (urgent : Bool) (back : Nat) : Goes (Ok o q) (execCanFrameSent dt n
    urgent back s) :=
  afterEv_keep h (fun u => State.frameSent_keep u ..)

theorem execIdCollision_ok (h : Ok o q s) (dt n : Nat) (urgent : Bool) : Goes (Ok o q) (execIdCollision dt n urgent s) :=
  afterEv_keep h (fun u => State.idCollision_keep u ..)

theorem execCanFrameRx_ok (h : Ok o q s) (dt n : Nat) (id info : Word) (back : Nat) (bytes : List Byte) : Goes (Ok o q)
    (execCanFrameRx dt n id info back bytes s) :=
  afterEv_keep h (fun u => State.frameRx_keep u ..)

theorem execBusOff_ok (h : Ok o q s) (dt n : Nat) : Goes (Ok o q) (execBusOff dt n s) :=
  after_keep h (fun u => State.busOff_keep u ..)

theorem execBusOffRecovered_ok (h : Ok o q s) (dt n : Nat) : Goes (Ok o q) (execBusOffRecovered dt n s) :=
  after_keep h (fun u => State.busBack_keep u ..)

theorem execCanBusError_ok (h : Ok o q s) (dt n lec tec rec : Nat) : Goes (Ok o q) (execCanBusError dt n lec tec rec s) :=
  after_keep h (fun u => State.busError__keep u ..)

theorem execIoInstant_ok (h : Ok o q s) (dt g : Nat) (vals : List (Nat × Int)) : Goes (Ok o q) (execIoInstant dt g vals s)
    :=
  afterEv_keep h (fun u => State.ioInstant_keep u ..)

theorem execInputWrite_ok (h : Ok o q s) (dt g : Nat) : Goes (Ok o q) (execInputWrite dt g s) :=
  after_keep h (fun u => State.inputWrite_keep u ..)

theorem execOutputApply_ok (h : Ok o q s) (dt g : Nat) : Goes (Ok o q) (execOutputApply dt g s) :=
  afterEv_keep h (fun u => State.outputApply_keep u ..)

theorem execConversionDone_ok (h : Ok o q s) (dt g : Nat) (vals : List (Nat × Int)) : Goes (Ok o q) (execConversionDone dt g
    vals s) :=
  after_keep h (fun u => State.conversionDone_keep u ..)

theorem execDiLevelChange_ok (h : Ok o q s) (dt n : Nat) (level : Bool) : Goes (Ok o q) (execDiLevelChange dt n level s) :=
  after_keep h (fun u => by simp only [apply_ite State.keep, ite_self, State.modChan_keep])

theorem execChannelDiagnostic_ok (h : Ok o q s) (dt n flag : Nat) (on : Bool) (temp : Int) : Goes (Ok o q)
    (execChannelDiagnostic dt n flag on temp s) :=
  after_keep h (fun u => State.diagnostic_keep u ..)

theorem execChannelTrip_ok (h : Ok o q s) (dt n : Nat) (overtemp : Bool) : Goes (Ok o q) (execChannelTrip dt n overtemp s)
    :=
  afterEv_keep h (fun u => State.chTrip_keep u ..)

theorem execTripRetry_ok (h : Ok o q s) (dt n : Nat) (cool : Bool) : Goes (Ok o q) (execTripRetry dt n cool s) :=
  afterEv_keep h (fun u => State.tripRetry_keep u ..)

theorem execTripSequenceEnd_ok (h : Ok o q s) (dt n : Nat) : Goes (Ok o q) (execTripSequenceEnd dt n s) :=
  after_keep h (fun u => State.tripSeqEnd_keep u ..)

theorem execVfldLow_ok (h : Ok o q s) (dt g mv : Nat) : Goes (Ok o q) (execVfldLow dt g mv s) :=
  after_keep h (fun u => by simp only [apply_ite State.keep, ite_self, State.vfld_keep])

theorem execSupplyLost_ok (h : Ok o q s) (dt g mv : Nat) : Goes (Ok o q) (execSupplyLost dt g mv s) :=
  afterEv_keep h (fun u => State.supplyLost_keep u ..)

theorem execSupplyRecovery_ok (h : Ok o q s) (dt g mv : Nat) : Goes (Ok o q) (execSupplyRecovery dt g mv s) :=
  after_keep h (fun u => State.supplyBack_keep u ..)

theorem execBarrierLinkSilence_ok (h : Ok o q s) (dt c : Nat) : Goes (Ok o q) (execBarrierLinkSilence dt c s) :=
  after_keep h (fun u => State.silence_keep u ..)

theorem execBenchmark_ok (h : Ok o q s) (dt n : Nat) (dev : Int) (blocked : Bool) : Goes (Ok o q) (execBenchmark dt n dev
    blocked s) :=
  afterEv_keep h (fun u => State.benchmark_keep u ..)

theorem execFastInputEdge_ok (h : Ok o q s) (dt k back : Nat) (rising : Bool) : Goes (Ok o q) (execFastInputEdge dt k back
    rising s) :=
  afterEv_keep h (fun u => State.fiEdge_keep u ..)

theorem execFoFault_ok (h : Ok o q s) (dt k : Nat) : Goes (Ok o q) (execFoFault dt k s) :=
  after_keep h (fun u => State.foFault_keep u ..)

theorem execFoRetry_ok (h : Ok o q s) (dt k : Nat) : Goes (Ok o q) (execFoRetry dt k s) :=
  after_keep h (fun u => State.foRetry_keep u ..)

theorem execControllerRestart_ok (h : Ok o q s) (dt c phase : Nat) : Goes (Ok o q) (execControllerRestart dt c phase s) :=
  after_keep h (fun u => State.ctlRestart_keep u ..)

theorem execReconfigDone_ok (h : Ok o q s) (dt n : Nat) : Goes (Ok o q) (execReconfigDone dt n s) :=
  after_keep h (fun u => State.reconfigDone_keep u ..)

theorem execCfgSwapApply_ok (h : Ok o q s) (dt : Nat) : Goes (Ok o q) (execCfgSwapApply dt s) :=
  afterEv_keep h (fun u => State.swapApply_keep u ..)

theorem execSegmentStart_ok (h : Ok o q s) (dt d : Nat) : Goes (Ok o q) (execSegmentStart dt d s) :=
  afterEv_keep h (fun u => State.segmentStart_keep u ..)

theorem execDatumStopped_ok (h : Ok o q s) (dt d : Nat) : Goes (Ok o q) (execDatumStopped dt d s) :=
  afterEv_keep h (fun u => State.datumStopped_keep u ..)

theorem execEncoderEdge_ok (h : Ok o q s) (dt d : Nat) (a b : Bool) : Goes (Ok o q)
    (execEncoderEdge dt d a b s) :=
  after_keep h (fun u => State.encoderEdge_keep u ..)

theorem execEncoderZEdge_ok (h : Ok o q s) (dt d : Nat) : Goes (Ok o q) (execEncoderZEdge dt d s) :=
  after_keep h (fun u => State.encoderZ_keep u ..)

theorem execEncoderFit_ok (h : Ok o q s) (dt d : Nat) (ssi : SsiFrame) : Goes (Ok o q)
    (execEncoderFit dt d ssi s) :=
  afterEv_keep h (fun u => State.encoderFit_keep u ..)

theorem execUpstreamTimeout_ok (h : Ok o q s) (dt d : Nat) : Goes (Ok o q) (execUpstreamTimeout dt d s) :=
  afterEv_keep h (fun u => State.upTimeout_keep u ..)

theorem execHzShort_ok (h : Ok o q s) (dt d : Nat) : Goes (Ok o q) (execHzShort dt d s) :=
  after_keep h (fun u => State.refreshHz_keep u ..)

theorem execPcieTlp_ok (h : Ok o q s) (dt : Nat) (write bar2 : Bool) (offset len : Nat) (data : List Byte) : Goes (Ok o q)
    (execPcieTlp dt write bar2 offset len data s) :=
  afterEv_ok h (fun _ hu => State.tlp_ok hu ..)

theorem execPerstReset_ok (h : Ok o q s) (dt : Nat) : Goes (Ok o q) (execPerstReset dt s) :=
  after_keep h (fun u => by simp only [apply_ite State.keep, ite_self, State.perst_keep])

theorem execPcieLinkChange_ok (h : Ok o q s) (dt : Nat) (up : Bool) (speed width : Nat) : Goes (Ok o q) (execPcieLinkChange
    dt up speed width s) :=
  after_keep h (fun u => State.pcieLink_keep u ..)

theorem execBmeSet_ok (h : Ok o q s) (dt : Nat) (on : Bool) : Goes (Ok o q) (execBmeSet dt on s) :=
  after_keep h (fun u => State.bme_keep u ..)

theorem execMsixVectorUnmask_ok (h : Ok o q s) (dt v : Nat) : Goes (Ok o q) (execMsixVectorUnmask dt v s) :=
  afterEv_ok h (fun _ hu => State.single_ok hu ..)

theorem execRemoteRegisterAccess_ok (h : Ok o q s) (dt dst etype mac : Nat) (payload : List Byte) : Goes (Ok o q)
    (execRemoteRegisterAccess dt dst etype mac payload s) :=
  afterEv_ok h (fun _ hu => State.svcRequest_ok hu ..)

theorem execRegacc_ok (h : Ok o q s) (dt port : Nat) (hdr : Hdr) (mac : Nat) (payload : List Byte) : Goes (Ok o q)
    (execRegacc dt port hdr mac payload s) :=
  afterEv_ok h (fun _ hu => State.regaccRx_ok hu ..)

theorem execServiceLinkChange_ok (h : Ok o q s) (dt : Nat) (up : Bool) : Goes (Ok o q) (execServiceLinkChange dt up s) :=
  after_keep h (fun u => by simp only [State.setRegB_keep])

theorem execCoreMismatch_ok (h : Ok o q s) (dt : Nat) (outs : PairPorts) : Goes (Ok o q)
    (execCoreMismatch dt outs s) :=
  afterEv_keep h (fun u => State.coreMismatch_keep u ..)

theorem execTileResyncDone_ok (h : Ok o q s) (dt x : Nat) : Goes (Ok o q) (execTileResyncDone dt x s) :=
  after_keep h (fun u => State.resyncDone_keep u ..)

theorem execWarnEnd_ok (h : Ok o q s) (dt x : Nat) : Goes (Ok o q) (execWarnEnd dt x s) :=
  after_keep h (fun u => State.warnEnd_keep u ..)

theorem execAgreementDisagree_ok (h : Ok o q s) (dt x input : Nat) : Goes (Ok o q) (execAgreementDisagree dt x input s) :=
  afterEv_keep h (fun u => State.disagree_keep u ..)

theorem execCheckerTest_ok (h : Ok o q s) (dt x rails : Nat) (same : Bool) : Goes (Ok o q) (execCheckerTest dt x rails same
    s) :=
  afterEv_keep h (fun u => State.checkerTest_keep u ..)

theorem execSplitComplete_ok (h : Ok o q s) (dt x : Nat) : Goes (Ok o q) (execSplitComplete dt x s) :=
  afterEv_keep h (fun u => State.splitDone_keep u ..)

theorem execJoinComplete_ok (h : Ok o q s) (dt x rails : Nat) : Goes (Ok o q) (execJoinComplete dt x rails s) :=
  afterEv_keep h (fun u => State.joinDone_keep u ..)

theorem execMpReady_ok (h : Ok o q s) (dt : Nat) : Goes (Ok o q) (execMpReady dt s) :=
  after_keep h (fun u => State.mpStart_keep u ..)

theorem execMpRestartBegin_ok (h : Ok o q s) (dt : Nat) : Goes (Ok o q) (execMpRestartBegin dt s) :=
  afterEv_keep h (fun u => by
    repeat' (first | with_reducible rfl | simp only [apply_ite State.keep, ite_self, State.mpRestart_keep] | split))

theorem execSramAccess_ok (h : Ok o q s) (dt m : Nat) (write : Bool) (addr size : Nat) (data : List Byte) (hits : List (Nat
    × Nat)) : Goes (Ok o q) (execSramAccess dt m write addr size data hits s) :=
  afterEv_ok h (fun _ hu => State.sramAccess_ok hu ..)

theorem execImpreciseNotice_ok (h : Ok o q s) (dt : Nat) : Goes (Ok o q) (execImpreciseNotice dt s) :=
  after_keep h (fun u => State.imprecise_keep u ..)

theorem execWakeDone_ok (h : Ok o q s) (dt n : Nat) : Goes (Ok o q) (execWakeDone dt n s) :=
  after_keep h (fun u => State.wakeDone_keep u ..)

theorem execScrub_ok (h : Ok o q s) (dt n : Nat) (hits : List (Nat × Nat)) : Goes (Ok o q) (execScrub dt n hits s) :=
  afterEv_ok h (fun u hu => State.scrubWord_ok (hu.of_keep (State.strike_keep u hits)) _)

theorem execBackgroundTest_ok (h : Ok o q s) (dt n : Nat) (fails : Bool) : Goes (Ok o q) (execBackgroundTest dt n fails s)
    :=
  afterEv_ok h (fun _ hu => State.testRegion_ok hu ..)

theorem execLpdPatrol_ok (h : Ok o q s) (dt : Nat) (hits : List (Nat × Nat)) : Goes (Ok o q) (execLpdPatrol dt hits s) :=
  after_ok h (fun u hu => State.patrolBurst_ok (hu.of_keep (State.strike_keep u hits)))

theorem execRetirementRecord_ok (h : Ok o q s) (dt : Nat) : Goes (Ok o q) (execRetirementRecord dt s) :=
  after_keep h (fun u => State.writeRetirement_keep u ..)

theorem execMpTake_ok (h : Ok o q s) (dt : Nat) : Goes (Ok o q) (execMpTake dt s) :=
  afterEv_keep h (fun u => State.mpTake_keep u ..)

theorem execMpPostResponse_ok (h : Ok o q s) (dt : Nat) (post : MpPost) : Goes (Ok o q)
    (execMpPostResponse dt post s) :=
  afterEv_keep h (fun u => State.postResponse_keep u ..)

theorem execIdent_ok (h : Ok o q s) (dt n : Nat) : Goes (Ok o q) (execIdent dt n s) :=
  performAt_keep h (fun c u => cmdIdent_keep c u)

theorem execStatusGet_ok (h : Ok o q s) (dt n : Nat) : Goes (Ok o q) (execStatusGet dt n s) :=
  performAt_keep h (fun c u => cmdStatusGet_keep c u)

theorem execEcho_ok (h : Ok o q s) (dt n : Nat) : Goes (Ok o q) (execEcho dt n s) :=
  performAt_keep h (fun c u => cmdEcho_keep c u)

theorem execCfgOpen_ok (h : Ok o q s) (dt n : Nat) : Goes (Ok o q) (execCfgOpen dt n s) :=
  performAt_keep h (fun c u => inConfigRole_keep _ c u (fun _ _ => cmdCfgOpen_keep ..))

theorem execCfgClose_ok (h : Ok o q s) (dt n : Nat) : Goes (Ok o q) (execCfgClose dt n s) :=
  performAt_keep h (fun c u => inConfigRole_keep _ c u (fun _ _ => cmdCfgClose_keep ..))

theorem execCfgAbandon_ok (h : Ok o q s) (dt n : Nat) : Goes (Ok o q) (execCfgAbandon dt n s) :=
  performAt_keep h (fun c u => inConfigRole_keep _ c u (fun _ _ => cmdCfgAbandon_keep ..))

theorem execCfgCopy_ok (h : Ok o q s) (dt n : Nat) : Goes (Ok o q) (execCfgCopy dt n s) :=
  performAt_keep h (fun c u => inConfigRole_keep _ c u (fun _ _ => cmdCfgCopy_keep ..))

theorem execCfgWrite_ok (h : Ok o q s) (dt n : Nat) : Goes (Ok o q) (execCfgWrite dt n s) :=
  performAt_keep h (fun c u => inConfigRole_keep _ c u (fun _ _ => cmdCfgWrite_keep ..))

theorem execCfgRead_ok (h : Ok o q s) (dt n : Nat) : Goes (Ok o q) (execCfgRead dt n s) :=
  performAt_keep h (fun c u => cmdCfgRead_keep c u)

theorem execCfgBulk_ok (h : Ok o q s) (dt n : Nat) : Goes (Ok o q) (execCfgBulk dt n s) :=
  performAt_keep h (fun c u => cmdCfgBulk_keep c u)

theorem execCfgCheck_ok (h : Ok o q s) (dt n : Nat) : Goes (Ok o q) (execCfgCheck dt n s) :=
  performAt_keep h (fun c u => inConfigRole_keep _ c u (fun _ _ => cmdCfgCheck_keep ..))

theorem execCfgSwap_ok (h : Ok o q s) (dt n : Nat) : Goes (Ok o q) (execCfgSwap dt n s) :=
  performAt_keep h (fun c u => inConfigRole_keep _ c u (fun _ _ => cmdCfgSwap_keep ..))

theorem execCfgSwapCancel_ok (h : Ok o q s) (dt n : Nat) : Goes (Ok o q) (execCfgSwapCancel dt n s) :=
  performEv_keep h (fun c u => inConfigRole_keep _ c u (fun _ _ => cmdCfgSwapCancel_keep ..))

theorem execCfgStatus_ok (h : Ok o q s) (dt n : Nat) : Goes (Ok o q) (execCfgStatus dt n s) :=
  performAt_keep h (fun c u => cmdCfgStatus_keep c u)

theorem execPrgInfo_ok (h : Ok o q s) (dt n : Nat) : Goes (Ok o q) (execPrgInfo dt n s) :=
  performAt_keep h (fun c u => cmdPrgInfo_keep c u)

theorem execPrgLoadBegin_ok (h : Ok o q s) (dt n : Nat) : Goes (Ok o q) (execPrgLoadBegin dt n s) :=
  performAt_keep h (fun c u => cmdPrgLoadBegin_keep c u)

theorem execPrgLoadBlock_ok (h : Ok o q s) (dt n : Nat) : Goes (Ok o q) (execPrgLoadBlock dt n s) :=
  performAt_keep h (fun c u => cmdPrgLoadBlock_keep c u)

theorem execPrgLoadEnd_ok (h : Ok o q s) (dt n : Nat) : Goes (Ok o q) (execPrgLoadEnd dt n s) :=
  performAt_keep h (fun c u => cmdPrgLoadEnd_keep c u)

theorem execValRead_ok (h : Ok o q s) (dt n : Nat) : Goes (Ok o q) (execValRead dt n s) :=
  performAt_keep h (fun c u => cmdValRead_keep c u)

theorem execValWrite_ok (h : Ok o q s) (dt n : Nat) : Goes (Ok o q) (execValWrite dt n s) :=
  performEv_keep h (fun c u => cmdValWrite_keep c u)

theorem execConstWrite_ok (h : Ok o q s) (dt n : Nat) : Goes (Ok o q) (execConstWrite dt n s) :=
  performAt_keep h (fun c u => cmdConstWrite_keep c u)

theorem execLpdRead_ok (h : Ok o q s) (dt n : Nat) : Goes (Ok o q) (execLpdRead dt n s) :=
  performAt_keep h (fun c u => cmdLpdRead_keep c u)

theorem execLpdWrite_ok (h : Ok o q s) (dt n : Nat) : Goes (Ok o q) (execLpdWrite dt n s) :=
  after_ok h (fun _ hu => State.perform_ok hu _ _ _ (fun c _ hu => cmdLpdWrite_ok hu c))

theorem execFrcSet_ok (h : Ok o q s) (dt n : Nat) : Goes (Ok o q) (execFrcSet dt n s) :=
  performEv_keep h (fun c u => cmdFrcSet_keep c u)

theorem execFrcRelease_ok (h : Ok o q s) (dt n : Nat) : Goes (Ok o q) (execFrcRelease dt n s) :=
  performEv_keep h (fun c u => cmdFrcRelease_keep c u)

theorem execFrcReleaseAll_ok (h : Ok o q s) (dt n : Nat) : Goes (Ok o q) (execFrcReleaseAll dt n s) :=
  performEv_keep h (fun c u => cmdFrcReleaseAll_keep c u)

theorem execFrcList_ok (h : Ok o q s) (dt n : Nat) : Goes (Ok o q) (execFrcList dt n s) :=
  performAt_keep h (fun c u => cmdFrcList_keep c u)

theorem execLongCommandComplete_ok (h : Ok o q s) (dt n found : Nat) : Goes (Ok o q) (execLongCommandComplete dt n found s)
    :=
  after_ok h (fun _ hu => State.longComplete_ok hu ..)

theorem execDatStatus_ok (h : Ok o q s) (dt n : Nat) : Goes (Ok o q) (execDatStatus dt n s) :=
  performAt_keep h (fun c u => cmdDatStatus_keep c u)

theorem execDatStop_ok (h : Ok o q s) (dt n : Nat) : Goes (Ok o q) (execDatStop dt n s) :=
  performEv_keep h (fun c u => cmdDatStop_keep c u)

theorem execStkStatus_ok (h : Ok o q s) (dt n : Nat) : Goes (Ok o q) (execStkStatus dt n s) :=
  performAt_keep h (fun c u => cmdStkStatus_keep c u)

theorem execStkCancelAll_ok (h : Ok o q s) (dt n : Nat) : Goes (Ok o q) (execStkCancelAll dt n s) :=
  performEv_keep h (fun c u => cmdStkCancelAll_keep c u)

theorem execChStatus_ok (h : Ok o q s) (dt n : Nat) : Goes (Ok o q) (execChStatus dt n s) :=
  performAt_keep h (fun c u => onChannel_keep _ c u (fun _ _ _ => cmdChStatus_keep ..))

theorem execChRevive_ok (h : Ok o q s) (dt n : Nat) : Goes (Ok o q) (execChRevive dt n s) :=
  performEv_keep h (fun c u => onChannel_keep _ c u (fun _ _ _ => cmdChRevive_keep ..))

theorem execChTrimCapture_ok (h : Ok o q s) (dt n : Nat) : Goes (Ok o q) (execChTrimCapture dt n s) :=
  performAt_keep h (fun c u => onChannel_keep _ c u (fun _ _ _ => cmdChTrimCapture_keep ..))

theorem execChTrimClear_ok (h : Ok o q s) (dt n : Nat) : Goes (Ok o q) (execChTrimClear dt n s) :=
  performAt_keep h (fun c u => onChannel_keep _ c u (fun _ _ _ => cmdChTrimClear_keep ..))

theorem execChPulseTest_ok (h : Ok o q s) (dt n : Nat) : Goes (Ok o q) (execChPulseTest dt n s) :=
  performEv_keep h (fun c u => onChannel_keep _ c u (fun _ _ _ => cmdChPulseTest_keep ..))

theorem execPairStatus_ok (h : Ok o q s) (dt n : Nat) : Goes (Ok o q) (execPairStatus dt n s) :=
  performAt_keep h (fun c u => cmdPairStatus_keep c u)

theorem execPairExchange_ok (h : Ok o q s) (dt n : Nat) : Goes (Ok o q) (execPairExchange dt n s) :=
  performAt_keep h (fun c u => cmdPairExchange_keep c u)

theorem execPairHandover_ok (h : Ok o q s) (dt n : Nat) : Goes (Ok o q) (execPairHandover dt n s) :=
  performAt_keep h (fun c u => cmdPairHandover_keep c u)

theorem execPairCancel_ok (h : Ok o q s) (dt n : Nat) : Goes (Ok o q) (execPairCancel dt n s) :=
  performAt_keep h (fun c u => cmdPairCancel_keep c u)

theorem execPairWithdraw_ok (h : Ok o q s) (dt n : Nat) : Goes (Ok o q) (execPairWithdraw dt n s) :=
  performAt_keep h (fun c u => cmdPairWithdraw_keep c u)

theorem execPairResync_ok (h : Ok o q s) (dt n : Nat) : Goes (Ok o q) (execPairResync dt n s) :=
  performAt_keep h (fun c u => cmdPairResync_keep c u)

theorem execRecInfo_ok (h : Ok o q s) (dt n : Nat) : Goes (Ok o q) (execRecInfo dt n s) :=
  performAt_keep h (fun c u => cmdRecInfo_keep c u)

theorem execRecPeriod_ok (h : Ok o q s) (dt n : Nat) : Goes (Ok o q) (execRecPeriod dt n s) :=
  performEv_keep h (fun c u => cmdRecPeriod_keep c u)

theorem execRecCopy_ok (h : Ok o q s) (dt n : Nat) : Goes (Ok o q) (execRecCopy dt n s) :=
  performAt_keep h (fun c u => cmdRecCopy_keep c u)

theorem execUpdStatus_ok (h : Ok o q s) (dt n : Nat) : Goes (Ok o q) (execUpdStatus dt n s) :=
  performAt_keep h (fun c u => cmdUpdStatus_keep c u)

theorem execUpdSchedule_ok (h : Ok o q s) (dt n : Nat) : Goes (Ok o q) (execUpdSchedule dt n s) :=
  performEv_keep h (fun c u => cmdUpdSchedule_keep c u)

theorem execUpdCancel_ok (h : Ok o q s) (dt n : Nat) : Goes (Ok o q) (execUpdCancel dt n s) :=
  performEv_keep h (fun c u => cmdUpdCancel_keep c u)

theorem execUpdChain_ok (h : Ok o q s) (dt n : Nat) : Goes (Ok o q) (execUpdChain dt n s) :=
  performAt_keep h (fun c u => cmdUpdChain_keep c u)

theorem execSelftestFull_ok (h : Ok o q s) (dt n : Nat) : Goes (Ok o q) (execSelftestFull dt n s) :=
  performAt_keep h (fun c u => cmdSelftestFull_keep c u)

theorem execDiagCounters_ok (h : Ok o q s) (dt n : Nat) : Goes (Ok o q) (execDiagCounters dt n s) :=
  performAt_keep h (fun c u => cmdDiagCounters_keep c u)

theorem execCmpSplit_ok (h : Ok o q s) (dt n : Nat) : Goes (Ok o q) (execCmpSplit dt n s) :=
  performAt_keep h (fun c u => cmdCmpSplit_keep c u)

theorem execCmpJoin_ok (h : Ok o q s) (dt n : Nat) : Goes (Ok o q) (execCmpJoin dt n s) :=
  performAt_keep h (fun c u => cmdCmpJoin_keep c u)

theorem execMpRestart_ok (h : Ok o q s) (dt n : Nat) : Goes (Ok o q) (execMpRestart dt n s) :=
  performAt_keep h (fun c u => cmdMpRestart_keep c u)

theorem execRoleDecision_ok (h : Ok o q s) (dt : Nat) (same : Bool) : Goes (Ok o q) (execRoleDecision dt same s) :=
  afterEv_keep h (fun u => State.roleDecision_keep u ..)

theorem execKeepaliveSend_ok (h : Ok o q s) (dt : Nat) : Goes (Ok o q) (execKeepaliveSend dt s) :=
  after_keep h (fun u => State.keepalive_keep u ..)

theorem execRetransmit_ok (h : Ok o q s) (dt : Nat) : Goes (Ok o q) (execRetransmit dt s) :=
  after_keep h (fun u => State.retransmit_keep u ..)

theorem execTimeExchange_ok (h : Ok o q s) (dt : Nat) : Goes (Ok o q) (execTimeExchange dt s) :=
  after_keep h (fun u => State.timeExchange_keep u ..)

theorem execGenBoundary_ok (h : Ok o q s) (dt : Nat) : Goes (Ok o q) (execGenBoundary dt s) :=
  after_keep h (fun u => State.genBoundary_keep u ..)

theorem execGenCloseSend_ok (h : Ok o q s) (dt : Nat) : Goes (Ok o q) (execGenCloseSend dt s) :=
  after_keep h (fun u => State.genCloseSend_keep u ..)

theorem execResyncReady_ok (h : Ok o q s) (dt : Nat) : Goes (Ok o q) (execResyncReady dt s) :=
  after_keep h (fun u => State.resyncReady_keep u ..)

theorem execResyncCopyEnd_ok (h : Ok o q s) (dt : Nat) : Goes (Ok o q) (execResyncCopyEnd dt s) :=
  after_keep h (fun u => State.copyEnd_keep u ..)

theorem execLossDeclared_ok (h : Ok o q s) (dt : Nat) : Goes (Ok o q) (execLossDeclared dt s) :=
  afterEv_ok h (fun _ hu => State.lossDeclared_ok hu ..)

theorem execTakeoverResume_ok (h : Ok o q s) (dt : Nat) : Goes (Ok o q) (execTakeoverResume dt s) :=
  after_keep h (fun u => State.resumeLoss_keep u ..)

theorem execIsolationTimeout_ok (h : Ok o q s) (dt : Nat) : Goes (Ok o q) (execIsolationTimeout dt s) :=
  afterEv_keep h (fun u => State.isolation_keep u ..)

theorem execPartnerSilence_ok (h : Ok o q s) (dt : Nat) : Goes (Ok o q) (execPartnerSilence dt s) :=
  after_keep h (fun u => State.partnerSilence_keep u ..)

theorem execSwapSend_ok (h : Ok o q s) (dt : Nat) : Goes (Ok o q) (execSwapSend dt s) :=
  after_keep h (fun u => State.swapSend_keep u ..)

theorem execHandoverH_ok (h : Ok o q s) (dt : Nat) : Goes (Ok o q) (execHandoverH dt s) :=
  afterEv_keep h (fun u => State.handoverH_keep u ..)

theorem execHandoverTimeout_ok (h : Ok o q s) (dt : Nat) : Goes (Ok o q) (execHandoverTimeout dt s) :=
  after_keep h (fun u => State.handTimeout_keep u ..)

theorem execHandoverOutputSwitch_ok (h : Ok o q s) (dt : Nat) : Goes (Ok o q) (execHandoverOutputSwitch dt s) :=
  after_keep h (fun u => State.outputSwitch_keep u ..)

theorem execModuleRemoval_ok (h : Ok o q s) (dt : Nat) : Goes (Ok o q) (execModuleRemoval dt s) :=
  afterEv_keep h (fun u => State.removal_keep u ..)

theorem execPartnerInsertion_ok (h : Ok o q s) (dt : Nat) : Goes (Ok o q) (execPartnerInsertion dt s) :=
  after_keep h (fun u => by simp only [State.setRegB_keep])

theorem execPartnerPresentLoss_ok (h : Ok o q s) (dt : Nat) : Goes (Ok o q) (execPartnerPresentLoss dt s) :=
  after_keep h (fun u => by simp only [State.setRegB_keep])

theorem execPairKeepalive_ok (h : Ok o q s) (dt : Nat) (hdr : LinkHdr) (role : Nat) (ready : Bool) (complete : Nat) : Goes
    (Ok o q) (execPairKeepalive dt hdr role ready complete s) :=
  afterEv_ok h (fun _ hu => State.rxPlain_ok hu hdr (fun _ hv => State.keepaliveRx_ok hv ..))

theorem execPairDelta_ok (h : Ok o q s) (dt : Nat) (hdr : LinkHdr) (rs : List DeltaRec) : Goes (Ok o q) (execPairDelta dt
    hdr rs s) :=
  seqFrame_ok h (fun _ hu => State.deltaRx_ok hu ..)

theorem execPairGenClose_ok (h : Ok o q s) (dt : Nat) (hdr : LinkHdr) (gen count digest : Nat) : Goes (Ok o q)
    (execPairGenClose dt hdr gen count digest s) :=
  seqFrame_ok h (fun _ hu => hu.of_keep (State.genCloseRx_keep ..))

theorem execPairAck_ok (h : Ok o q s) (dt : Nat) (hdr : LinkHdr) (seq : Nat) : Goes (Ok o q) (execPairAck dt hdr seq s) :=
  plainFrame_keep h (fun u => State.ackUpTo_keep u _)

theorem execPairResyncFrame_ok (h : Ok o q s) (dt : Nat) (hdr : LinkHdr) (addr : Nat) (bytes : List Byte) (rs : List
    DeltaRec) : Goes (Ok o q) (execPairResyncFrame dt hdr addr bytes rs s) :=
  seqFrame_ok h (fun _ hu => State.resyncRx_ok hu ..)

theorem execPairSwap_ok (h : Ok o q s) (dt : Nat) (hdr : LinkHdr) (epoch t mask evtId : Nat) : Goes (Ok o q) (execPairSwap
    dt hdr epoch t mask evtId s) :=
  seqFrame_ok h (fun _ hu => hu.of_keep (State.swapRx_keep ..))

theorem execPairRoleNotice_ok (h : Ok o q s) (dt : Nat) (hdr : LinkHdr) (role _cause : Nat) : Goes (Ok o q)
    (execPairRoleNotice dt hdr role _cause s) :=
  seqFrame_ok h (fun _ hu => State.heardRole_ok hu _)

theorem execPairTime_ok (h : Ok o q s) (dt : Nat) (hdr : LinkHdr) (response : Bool) (t1 t2 t3 : Int) : Goes (Ok o q)
    (execPairTime dt hdr response t1 t2 t3 s) :=
  plainFrame_keep h (fun u => State.timeRx_keep u ..)

theorem execPairProgram_ok (h : Ok o q s) (dt : Nat) (hdr : LinkHdr) (offset : Nat) (bytes : List Byte) : Goes (Ok o q)
    (execPairProgram dt hdr offset bytes s) :=
  seqFrame_ok h (fun _ hu => hu.of_keep (State.programRx_keep ..))

theorem execPairFrameCrcError_ok (h : Ok o q s) (dt lane : Nat) : Goes (Ok o q) (execPairFrameCrcError dt lane s) :=
  afterEv_keep h (fun u => State.crcError_keep u ..)

theorem execPairLaneLinkChange_ok (h : Ok o q s) (dt lane : Nat) (up : Bool) : Goes (Ok o q) (execPairLaneLinkChange dt lane
    up s) :=
  after_keep h (fun u => State.laneLink_keep u ..)

theorem execPairDatumTrigger_ok (h : Ok o q s) (dt d : Nat) : Goes (Ok o q) (execPairDatumTrigger dt d s) :=
  afterEv_keep h (fun u => State.pairDatum_keep u ..)

theorem execHeartbeat_ok (h : Ok o q s) (dt n : Nat) (hdr : Hdr) (role t : Nat) : Goes (Ok o q) (execHeartbeat dt n hdr role
    t s) :=
  afterEv_ok h (fun _ hu => State.beatRx_ok hu ..)

theorem execPlNop_ok (h : Ok o q s) (e space addr : Nat) : Goes (Ok o q) (execPlNop e space addr s) :=
  plumb_ok h _ _ _ _ _ _ _ (fun _ _ => plReg_body)

theorem execPlLd_ok (h : Ok o q s) (e space addr : Nat) : Goes (Ok o q) (execPlLd e space addr s) :=
  plumb_ok h _ _ _ _ _ _ _ (fun _ _ => plBit_body)

theorem execPlLdn_ok (h : Ok o q s) (e space addr : Nat) : Goes (Ok o q) (execPlLdn e space addr s) :=
  plumb_ok h _ _ _ _ _ _ _ (fun _ _ => plBit_body)

theorem execPlAnd_ok (h : Ok o q s) (e space addr : Nat) : Goes (Ok o q) (execPlAnd e space addr s) :=
  plumb_ok h _ _ _ _ _ _ _ (fun _ _ => plBit_body)

theorem execPlAndn_ok (h : Ok o q s) (e space addr : Nat) : Goes (Ok o q) (execPlAndn e space addr s) :=
  plumb_ok h _ _ _ _ _ _ _ (fun _ _ => plBit_body)

theorem execPlOr_ok (h : Ok o q s) (e space addr : Nat) : Goes (Ok o q) (execPlOr e space addr s) :=
  plumb_ok h _ _ _ _ _ _ _ (fun _ _ => plBit_body)

theorem execPlOrn_ok (h : Ok o q s) (e space addr : Nat) : Goes (Ok o q) (execPlOrn e space addr s) :=
  plumb_ok h _ _ _ _ _ _ _ (fun _ _ => plBit_body)

theorem execPlXor_ok (h : Ok o q s) (e space addr : Nat) : Goes (Ok o q) (execPlXor e space addr s) :=
  plumb_ok h _ _ _ _ _ _ _ (fun _ _ => plBit_body)

theorem execPlXorn_ok (h : Ok o q s) (e space addr : Nat) : Goes (Ok o q) (execPlXorn e space addr s) :=
  plumb_ok h _ _ _ _ _ _ _ (fun _ _ => plBit_body)

theorem execPlSt_ok (h : Ok o q s) (e space addr : Nat) : Goes (Ok o q) (execPlSt e space addr s) :=
  plumb_ok h _ _ _ _ _ _ _ (fun _ _ => plBitStore_body)

theorem execPlStn_ok (h : Ok o q s) (e space addr : Nat) : Goes (Ok o q) (execPlStn e space addr s) :=
  plumb_ok h _ _ _ _ _ _ _ (fun _ _ => plBitStore_body)

theorem execPlSet_ok (h : Ok o q s) (e space addr : Nat) : Goes (Ok o q) (execPlSet e space addr s) :=
  plumb_ok h _ _ _ _ _ _ _ (fun _ _ => plBitStore_body)

theorem execPlRst_ok (h : Ok o q s) (e space addr : Nat) : Goes (Ok o q) (execPlRst e space addr s) :=
  plumb_ok h _ _ _ _ _ _ _ (fun _ _ => plBitStore_body)

theorem execPlNot_ok (h : Ok o q s) (e space addr : Nat) : Goes (Ok o q) (execPlNot e space addr s) :=
  plumb_ok h _ _ _ _ _ _ _ (fun _ _ => plReg_body)

theorem execPlSeta_ok (h : Ok o q s) (e space addr : Nat) : Goes (Ok o q) (execPlSeta e space addr s) :=
  plumb_ok h _ _ _ _ _ _ _ (fun _ _ => plReg_body)

theorem execPlClra_ok (h : Ok o q s) (e space addr : Nat) : Goes (Ok o q) (execPlClra e space addr s) :=
  plumb_ok h _ _ _ _ _ _ _ (fun _ _ => plReg_body)

theorem execPlPsha_ok (h : Ok o q s) (e space addr : Nat) : Goes (Ok o q) (execPlPsha e space addr s) :=
  plumb_ok h _ _ _ _ _ _ _ (fun _ _ => plPush_body)

theorem execPlPsho_ok (h : Ok o q s) (e space addr : Nat) : Goes (Ok o q) (execPlPsho e space addr s) :=
  plumb_ok h _ _ _ _ _ _ _ (fun _ _ => plPush_body)

theorem execPlPshx_ok (h : Ok o q s) (e space addr : Nat) : Goes (Ok o q) (execPlPshx e space addr s) :=
  plumb_ok h _ _ _ _ _ _ _ (fun _ _ => plPush_body)

theorem execPlPshn_ok (h : Ok o q s) (e space addr : Nat) : Goes (Ok o q) (execPlPshn e space addr s) :=
  plumb_ok h _ _ _ _ _ _ _ (fun _ _ => plPush_body)

theorem execPlPop_ok (h : Ok o q s) (e space addr : Nat) : Goes (Ok o q) (execPlPop e space addr s) :=
  plumb_ok h _ _ _ _ _ _ _ (fun _ _ => .bind fun _ => .ok rfl)

theorem execPlPeek_ok (h : Ok o q s) (e space addr : Nat) : Goes (Ok o q) (execPlPeek e space addr s) :=
  plumb_ok h _ _ _ _ _ _ _ (fun _ _ => .bind fun _ => .ok rfl)

theorem execPlFp_ok (h : Ok o q s) (e space addr : Nat) : Goes (Ok o q) (execPlFp e space addr s) :=
  plumb_ok h _ _ _ _ _ _ _ (fun _ _ => plEdge_body)

theorem execPlFn_ok (h : Ok o q s) (e space addr : Nat) : Goes (Ok o q) (execPlFn e space addr s) :=
  plumb_ok h _ _ _ _ _ _ _ (fun _ _ => plEdge_body)

theorem execPlJmp_ok (h : Ok o q s) (e space addr : Nat) : Goes (Ok o q) (execPlJmp e space addr s) :=
  plumb_ok h _ _ _ _ _ _ _ (fun _ _ => plJump_body)

theorem execPlJc_ok (h : Ok o q s) (e space addr : Nat) : Goes (Ok o q) (execPlJc e space addr s) :=
  plumb_ok h _ _ _ _ _ _ _ (fun _ _ => plJump_body)

theorem execPlJcn_ok (h : Ok o q s) (e space addr : Nat) : Goes (Ok o q) (execPlJcn e space addr s) :=
  plumb_ok h _ _ _ _ _ _ _ (fun _ _ => plJump_body)

theorem execPlCall_ok (h : Ok o q s) (e space addr : Nat) : Goes (Ok o q) (execPlCall e space addr s) :=
  plumb_ok h _ _ _ _ _ _ _ (fun _ _ => .bind fun _ => .ok rfl)

theorem execPlRet_ok (h : Ok o q s) (e space addr : Nat) : Goes (Ok o q) (execPlRet e space addr s) :=
  plumb_ok h _ _ _ _ _ _ _ (fun _ _ => plReturn_body)

theorem execPlRetc_ok (h : Ok o q s) (e space addr : Nat) : Goes (Ok o q) (execPlRetc e space addr s) :=
  plumb_ok h _ _ _ _ _ _ _ (fun _ _ => .ite plReturn_body (.ok rfl))

theorem execPlEnd_ok (h : Ok o q s) (e space addr : Nat) : Goes (Ok o q) (execPlEnd e space addr s) :=
  plumb_ok h _ _ _ _ _ _ _ (fun _ _ => .ite (.ok rfl) .error)

theorem execPlLw_ok (h : Ok o q s) (e space addr : Nat) : Goes (Ok o q) (execPlLw e space addr s) :=
  plumb_ok h _ _ _ _ _ _ _ (fun _ _ => plOnWord_body)

theorem execPlLwu_ok (h : Ok o q s) (e space addr : Nat) : Goes (Ok o q) (execPlLwu e space addr s) :=
  plumb_ok h _ _ _ _ _ _ _ (fun _ _ => plOnWord_body)

theorem execPlLwd_ok (h : Ok o q s) (e space addr : Nat) : Goes (Ok o q) (execPlLwd e space addr s) :=
  plumb_ok h _ _ _ _ _ _ _ (fun _ _ => plOnDouble_body)

theorem execPlLwi_ok (h : Ok o q s) (e space addr : Nat) : Goes (Ok o q) (execPlLwi e space addr s) :=
  plumb_ok h _ _ _ _ _ _ _ (fun _ _ => plReg_body)

theorem execPlSw_ok (h : Ok o q s) (e space addr : Nat) : Goes (Ok o q) (execPlSw e space addr s) :=
  plumb_ok h _ _ _ _ _ _ _ (fun _ _ => plWordStore_body)

theorem execPlSwd_ok (h : Ok o q s) (e space addr : Nat) : Goes (Ok o q) (execPlSwd e space addr s) :=
  plumb_ok h _ _ _ _ _ _ _ (fun _ _ => plWordStore_body)

theorem execPlSwc_ok (h : Ok o q s) (e space addr : Nat) : Goes (Ok o q) (execPlSwc e space addr s) :=
  plumb_ok h _ _ _ _ _ _ _ (fun _ _ => plWordStore_body)

theorem execPlSwdc_ok (h : Ok o q s) (e space addr : Nat) : Goes (Ok o q) (execPlSwdc e space addr s) :=
  plumb_ok h _ _ _ _ _ _ _ (fun _ _ => plWordStore_body)

theorem execPlAdd_ok (h : Ok o q s) (e space addr : Nat) : Goes (Ok o q) (execPlAdd e space addr s) :=
  plumb_ok h _ _ _ _ _ _ _ (fun _ _ => plOnWord_body)

theorem execPlSub_ok (h : Ok o q s) (e space addr : Nat) : Goes (Ok o q) (execPlSub e space addr s) :=
  plumb_ok h _ _ _ _ _ _ _ (fun _ _ => plOnWord_body)

theorem execPlMul_ok (h : Ok o q s) (e space addr : Nat) : Goes (Ok o q) (execPlMul e space addr s) :=
  plumb_ok h _ _ _ _ _ _ _ (fun _ _ => plOnWord_body)

theorem execPlAddd_ok (h : Ok o q s) (e space addr : Nat) : Goes (Ok o q) (execPlAddd e space addr s) :=
  plumb_ok h _ _ _ _ _ _ _ (fun _ _ => plOnDouble_body)

theorem execPlSubd_ok (h : Ok o q s) (e space addr : Nat) : Goes (Ok o q) (execPlSubd e space addr s) :=
  plumb_ok h _ _ _ _ _ _ _ (fun _ _ => plOnDouble_body)

theorem execPlNeg_ok (h : Ok o q s) (e space addr : Nat) : Goes (Ok o q) (execPlNeg e space addr s) :=
  plumb_ok h _ _ _ _ _ _ _ (fun _ _ => plReg_body)

theorem execPlAndw_ok (h : Ok o q s) (e space addr : Nat) : Goes (Ok o q) (execPlAndw e space addr s) :=
  plumb_ok h _ _ _ _ _ _ _ (fun _ _ => plOnWord_body)

theorem execPlOrw_ok (h : Ok o q s) (e space addr : Nat) : Goes (Ok o q) (execPlOrw e space addr s) :=
  plumb_ok h _ _ _ _ _ _ _ (fun _ _ => plOnWord_body)

theorem execPlXorw_ok (h : Ok o q s) (e space addr : Nat) : Goes (Ok o q) (execPlXorw e space addr s) :=
  plumb_ok h _ _ _ _ _ _ _ (fun _ _ => plOnWord_body)

theorem execPlShl_ok (h : Ok o q s) (e space addr : Nat) : Goes (Ok o q) (execPlShl e space addr s) :=
  plumb_ok h _ _ _ _ _ _ _ (fun _ _ => plCount_body)

theorem execPlShr_ok (h : Ok o q s) (e space addr : Nat) : Goes (Ok o q) (execPlShr e space addr s) :=
  plumb_ok h _ _ _ _ _ _ _ (fun _ _ => plCount_body)

theorem execPlShru_ok (h : Ok o q s) (e space addr : Nat) : Goes (Ok o q) (execPlShru e space addr s) :=
  plumb_ok h _ _ _ _ _ _ _ (fun _ _ => plCount_body)

theorem execPlBtst_ok (h : Ok o q s) (e space addr : Nat) : Goes (Ok o q) (execPlBtst e space addr s) :=
  plumb_ok h _ _ _ _ _ _ _ (fun _ _ => plCount_body)

theorem execPlLwb_ok (h : Ok o q s) (e space addr : Nat) : Goes (Ok o q) (execPlLwb e space addr s) :=
  plumb_ok h _ _ _ _ _ _ _ (fun _ _ => plReg_body)

theorem execPlCeq_ok (h : Ok o q s) (e space addr : Nat) : Goes (Ok o q) (execPlCeq e space addr s) :=
  plumb_ok h _ _ _ _ _ _ _ (fun _ _ => plOnWord_body)

theorem execPlCne_ok (h : Ok o q s) (e space addr : Nat) : Goes (Ok o q) (execPlCne e space addr s) :=
  plumb_ok h _ _ _ _ _ _ _ (fun _ _ => plOnWord_body)

theorem execPlClt_ok (h : Ok o q s) (e space addr : Nat) : Goes (Ok o q) (execPlClt e space addr s) :=
  plumb_ok h _ _ _ _ _ _ _ (fun _ _ => plOnWord_body)

theorem execPlCle_ok (h : Ok o q s) (e space addr : Nat) : Goes (Ok o q) (execPlCle e space addr s) :=
  plumb_ok h _ _ _ _ _ _ _ (fun _ _ => plOnWord_body)

theorem execPlCgt_ok (h : Ok o q s) (e space addr : Nat) : Goes (Ok o q) (execPlCgt e space addr s) :=
  plumb_ok h _ _ _ _ _ _ _ (fun _ _ => plOnWord_body)

theorem execPlCge_ok (h : Ok o q s) (e space addr : Nat) : Goes (Ok o q) (execPlCge e space addr s) :=
  plumb_ok h _ _ _ _ _ _ _ (fun _ _ => plOnWord_body)

theorem execPlCltu_ok (h : Ok o q s) (e space addr : Nat) : Goes (Ok o q) (execPlCltu e space addr s) :=
  plumb_ok h _ _ _ _ _ _ _ (fun _ _ => plOnWord_body)

theorem execPlCgeu_ok (h : Ok o q s) (e space addr : Nat) : Goes (Ok o q) (execPlCgeu e space addr s) :=
  plumb_ok h _ _ _ _ _ _ _ (fun _ _ => plOnWord_body)

theorem execPlCeqd_ok (h : Ok o q s) (e space addr : Nat) : Goes (Ok o q) (execPlCeqd e space addr s) :=
  plumb_ok h _ _ _ _ _ _ _ (fun _ _ => plOnDouble_body)

theorem execPlCltd_ok (h : Ok o q s) (e space addr : Nat) : Goes (Ok o q) (execPlCltd e space addr s) :=
  plumb_ok h _ _ _ _ _ _ _ (fun _ _ => plOnDouble_body)

theorem execPlCged_ok (h : Ok o q s) (e space addr : Nat) : Goes (Ok o q) (execPlCged e space addr s) :=
  plumb_ok h _ _ _ _ _ _ _ (fun _ _ => plOnDouble_body)

theorem execPlCltdu_ok (h : Ok o q s) (e space addr : Nat) : Goes (Ok o q) (execPlCltdu e space addr s) :=
  plumb_ok h _ _ _ _ _ _ _ (fun _ _ => plOnDouble_body)

theorem execPlCgedu_ok (h : Ok o q s) (e space addr : Nat) : Goes (Ok o q) (execPlCgedu e space addr s) :=
  plumb_ok h _ _ _ _ _ _ _ (fun _ _ => plOnDouble_body)

theorem execPlLov_ok (h : Ok o q s) (e space addr : Nat) : Goes (Ok o q) (execPlLov e space addr s) :=
  plumb_ok h _ _ _ _ _ _ _ (fun _ _ => plReg_body)

theorem execPlCov_ok (h : Ok o q s) (e space addr : Nat) : Goes (Ok o q) (execPlCov e space addr s) :=
  plumb_ok h _ _ _ _ _ _ _ (fun _ _ => plReg_body)

theorem execPlTon_ok (h : Ok o q s) (e space addr : Nat) : Goes (Ok o q) (execPlTon e space addr s) :=
  plumb_ok h _ _ _ _ _ _ _ (fun _ _ => plTimer_body)

theorem execPlTof_ok (h : Ok o q s) (e space addr : Nat) : Goes (Ok o q) (execPlTof e space addr s) :=
  plumb_ok h _ _ _ _ _ _ _ (fun _ _ => plTimer_body)

theorem execPlTp_ok (h : Ok o q s) (e space addr : Nat) : Goes (Ok o q) (execPlTp e space addr s) :=
  plumb_ok h _ _ _ _ _ _ _ (fun _ _ => plTimer_body)

theorem execPlTpt_ok (h : Ok o q s) (e space addr : Nat) : Goes (Ok o q) (execPlTpt e space addr s) :=
  plumb_ok h _ _ _ _ _ _ _ (fun _ _ => .ite .error plStore_body)

theorem execPlTrs_ok (h : Ok o q s) (e space addr : Nat) : Goes (Ok o q) (execPlTrs e space addr s) :=
  plumb_ok h _ _ _ _ _ _ _ (fun _ _ => .ite .error (.ite (.ok rfl) (.bind fun _ => .bind fun _ => .ok rfl)))

theorem execPlCtu_ok (h : Ok o q s) (e space addr : Nat) : Goes (Ok o q) (execPlCtu e space addr s) :=
  plumb_ok h _ _ _ _ _ _ _ (fun _ _ => plCounter_body)

theorem execPlCtd_ok (h : Ok o q s) (e space addr : Nat) : Goes (Ok o q) (execPlCtd e space addr s) :=
  plumb_ok h _ _ _ _ _ _ _ (fun _ _ => plCounter_body)

theorem execPlCrs_ok (h : Ok o q s) (e space addr : Nat) : Goes (Ok o q) (execPlCrs e space addr s) :=
  plumb_ok h _ _ _ _ _ _ _ (fun _ _ => .ite .error (.ite (.ok rfl) plStore_body))

theorem execPlClp_ok (h : Ok o q s) (e space addr : Nat) : Goes (Ok o q) (execPlClp e space addr s) :=
  plumb_ok h _ _ _ _ _ _ _ (fun _ _ => .ite .error (.ite (.ok rfl) (.bind fun _ => .bind fun _ => .ok rfl)))

theorem execPlCpv_ok (h : Ok o q s) (e space addr : Nat) : Goes (Ok o q) (execPlCpv e space addr s) :=
  plumb_ok h _ _ _ _ _ _ _ (fun _ _ => .ite .error plStore_body)

theorem execPlDwin_ok (h : Ok o q s) (e d space addr : Nat) : Goes (Ok o q) (execPlDwin e d space addr s) :=
  plumb_ok h _ _ _ _ _ _ _ (fun _ _ => .bind fun _ => .bind fun _ => .ite (.ok (State.fresh_keep _)) (.ok rfl))

theorem execPlStarm_ok (h : Ok o q s) (e space addr : Nat) : Goes (Ok o q) (execPlStarm e space addr s) :=
  plumb_ok h _ _ _ _ _ _ _ (fun _ _ => plStake_body (fun _ => State.provArm_keep ..))

theorem execPlStdis_ok (h : Ok o q s) (e space addr : Nat) : Goes (Ok o q) (execPlStdis e space addr s) :=
  plumb_ok h _ _ _ _ _ _ _ (fun _ _ => plStake_body (fun _ => State.provDisarm_keep ..))

theorem execPlSttgt_ok (h : Ok o q s) (e space addr : Nat) : Goes (Ok o q) (execPlSttgt e space addr s) :=
  plumb_ok h _ _ _ _ _ _ _ (fun _ _ => plStake_body (fun u => by simp only [State.provTarget_keep]))

theorem execPlStrld_ok (h : Ok o q s) (e space addr : Nat) : Goes (Ok o q) (execPlStrld e space addr s) :=
  plumb_ok h _ _ _ _ _ _ _ (fun _ _ => plStake_body (fun u => by simp only [State.provReload_keep]))

theorem execPlCallb_ok (h : Ok o q s) (e space addr : Nat) : Goes (Ok o q) (execPlCallb e space addr s) :=
  plumb_ok h _ _ _ _ _ _ _ (fun _ _ => plCall_body)

theorem execUndefinedOpcode_ok (h : Ok o q s) (e : Nat) : Goes (Ok o q) (execUndefinedOpcode e s) := by
  refine .next ?_
  split
  · exact h
  · exact Ok.ite h (h.of_keep (State.inClock_keep _ _ _ _ _ _ _ (fun _ _ => State.plEnd_keep ..)))

theorem execFeedLow_ok (h : Ok o q s) (dt feed mv : Nat) : Goes (Ok o q) (execFeedLow dt feed mv s) :=
  after_keep h (fun u => State.feedLow_keep u ..)

theorem execFeedLowClear_ok (h : Ok o q s) (dt feed mv : Nat) : Goes (Ok o q) (execFeedLowClear dt feed mv s) :=
  after_keep h (fun u => State.feedLowClear_keep u ..)

theorem execFeedLoss_ok (h : Ok o q s) (dt feed mv : Nat) : Goes (Ok o q) (execFeedLoss dt feed mv s) :=
  afterEv_ok h (fun _ hu => State.feedLoss_ok hu ..)

theorem execFeedGood_ok (h : Ok o q s) (dt feed mv : Nat) : Goes (Ok o q) (execFeedGood dt feed mv s) :=
  after_keep h (fun u => State.feedGood_keep u ..)

theorem execVbakLow_ok (h : Ok o q s) (dt mv : Nat) : Goes (Ok o q) (execVbakLow dt mv s) :=
  after_keep h (fun u => State.vbak_keep u ..)

theorem execVbakLoss_ok (h : Ok o q s) (dt mv : Nat) : Goes (Ok o q) (execVbakLoss dt mv s) :=
  after_keep h (fun u => State.vbakLoss_keep u ..)

theorem execHoldupMeasure_ok (h : Ok o q s) (dt bank est : Nat) : Goes (Ok o q) (execHoldupMeasure dt bank est s) :=
  after_keep h (fun u => State.holdupMeasure_keep u ..)

theorem execBrownout_ok (h : Ok o q s) (dt rail mv : Nat) : Goes (Ok o q) (execBrownout dt rail mv s) :=
  after_ok h (fun _ hu => State.brownout_ok hu ..)

theorem execWatchdog_ok (h : Ok o q s) (dt : Nat) : Goes (Ok o q) (execWatchdog dt s) :=
  after_ok h (fun _ hu => State.watchdog_ok hu ..)

theorem execHot_ok (h : Ok o q s) (dt : Nat) (die board : Int) : Goes (Ok o q) (execHot dt die board s) :=
  after_keep h (fun u => State.temps_keep u ..)

theorem execThermal_ok (h : Ok o q s) (dt : Nat) (die board : Int) : Goes (Ok o q) (execThermal dt die board s) :=
  after_ok h (fun _ hu => State.thermal_ok hu ..)

theorem execThermalResetRelease_ok (h : Ok o q s) (dt : Nat) (die board : Int) : Goes (Ok o q) (execThermalResetRelease dt
    die board s) :=
  after_keep h (fun u => State.thermalRelease_keep u ..)

theorem execModuleReset_ok (h : Ok o q s) (dt : Nat) : Goes (Ok o q) (execModuleReset dt s) :=
  after_ok h (fun _ hu => State.requestedReset_ok hu ..)

theorem execPowerOnReset_ok (h : Ok o q s) (dt : Nat) : Goes (Ok o q) (execPowerOnReset dt s) :=
  after_keep h (fun u => State.powerOn_keep u ..)

theorem execDomainSwitchDone_ok (h : Ok o q s) (dt : Nat) : Goes (Ok o q) (execDomainSwitchDone dt s) :=
  after_keep h (fun u => State.domDone_keep u ..)

theorem execTimeSettle_ok (h : Ok o q s) (dt : Nat) : Goes (Ok o q) (execTimeSettle dt s) :=
  afterEv_keep h (fun u => State.timeSettle_keep u ..)

theorem execFixedCycleStart_ok (h : Ok o q s) (dt : Nat) : Goes (Ok o q) (execFixedCycleStart dt s) :=
  after_keep h (fun u => State.firstCycle_keep u ..)

theorem execAutoTaskRequest_ok (h : Ok o q s) (dt : Nat) : Goes (Ok o q) (execAutoTaskRequest dt s) :=
  afterEv_keep h (fun u => State.autoTask_keep u ..)

theorem execPeriodEnd_ok (h : Ok o q s) (dt : Nat) : Goes (Ok o q) (execPeriodEnd dt s) :=
  afterEv_keep h (fun u => State.periodEnd_keep u ..)

theorem execStakeFire_ok (h : Ok o q s) (dt i : Nat) : Goes (Ok o q) (execStakeFire dt i s) :=
  afterEv_keep h (fun u => State.testStake_keep u ..)

theorem execStakeActionDispatch_ok (h : Ok o q s) (dt : Nat) : Goes (Ok o q) (execStakeActionDispatch dt s) :=
  afterEv_keep h (fun u => State.dispatch_keep u ..)

theorem execFoEdgeApply_ok (h : Ok o q s) (dt k : Nat) : Goes (Ok o q) (execFoEdgeApply dt k s) :=
  after_keep h (fun u => State.applyEdge_keep u ..)

theorem execReleaseStart_ok (h : Ok o q s) (dt e : Nat) : Goes (Ok o q) (execReleaseStart dt e s) :=
  afterEv_keep h (fun u => State.startRelease_keep u ..)

theorem execTaskDeadline_ok (h : Ok o q s) (dt e : Nat) : Goes (Ok o q) (execTaskDeadline dt e s) :=
  afterEv_keep h (fun u => State.deadline_keep u ..)

theorem execConstApply_ok (h : Ok o q s) (dt p : Nat) : Goes (Ok o q) (execConstApply dt p s) :=
  after_keep h (fun u => State.applyConst_keep u ..)

theorem execPtpSecondCarry_ok (h : Ok o q s) : Goes (Ok o q) (execPtpSecondCarry s) :=
  .next (h.of_keep (State.advance_keep ..))

theorem execServoUpdate_ok (h : Ok o q s) (dt : Nat) : Goes (Ok o q) (execServoUpdate dt s) :=
  afterEv_keep h (fun u => State.servoUpdate_keep u ..)

theorem execHoldover_ok (h : Ok o q s) (dt : Nat) : Goes (Ok o q) (execHoldover dt s) :=
  afterEv_keep h (fun u => State.holdover_keep u ..)

theorem execSync_ok (h : Ok o q s) (dt port seq : Nat) (twoStep : Bool) (domain : Nat) (origin correction : Int) : Goes (Ok
    o q) (execSync dt port seq twoStep domain origin correction s) :=
  after_keep h (fun u => State.syncRx_keep u ..)

theorem execFollowUp_ok (h : Ok o q s) (dt port seq domain : Nat) (origin correction : Int) : Goes (Ok o q) (execFollowUp dt
    port seq domain origin correction s) :=
  after_keep h (fun u => State.followUpRx_keep u ..)

theorem execDelayReq_ok (h : Ok o q s) (dt port seq domain requester : Nat) : Goes (Ok o q) (execDelayReq dt port seq domain
    requester s) :=
  after_keep h (fun u => State.delayReqRx_keep u ..)

theorem execDelayResp_ok (h : Ok o q s) (dt port seq domain : Nat) (receipt correction : Int) : Goes (Ok o q) (execDelayResp
    dt port seq domain receipt correction s) :=
  after_keep h (fun u => State.delayRespRx_keep u ..)

theorem execPdelayReq_ok (h : Ok o q s) (dt port seq domain requester : Nat) : Goes (Ok o q) (execPdelayReq dt port seq
    domain requester s) :=
  after_keep h (fun u => State.pdelayReqRx_keep u ..)

theorem execPdelayResp_ok (h : Ok o q s) (dt port seq domain : Nat) (receipt correction : Int) : Goes (Ok o q)
    (execPdelayResp dt port seq domain receipt correction s) :=
  after_keep h (fun u => State.pdelayRespRx_keep u ..)

theorem execPdelayRespFollowUp_ok (h : Ok o q s) (dt port seq domain : Nat) (origin correction : Int) : Goes (Ok o q)
    (execPdelayRespFollowUp dt port seq domain origin correction s) :=
  after_keep h (fun u => State.pdelayFollowRx_keep u ..)

theorem execAnnounce_ok (h : Ok o q s) (dt port domain prio1 cls accuracy variance prio2 ident : Nat) (way : AnnWay) :
    Goes (Ok o q) (execAnnounce dt port domain prio1 cls accuracy variance prio2 ident way s) :=
  afterEv_keep h (fun u => State.announceRx_keep u ..)

theorem execSignaling_ok (h : Ok o q s) (dt : Nat) (rx : PtpAt) (logSync logAnn logDelay : Int) : Goes (Ok o q)
    (execSignaling dt rx logSync logAnn logDelay s) :=
  after_keep h (fun u => State.signalingRx_keep u ..)

theorem execManagementMessage_ok (h : Ok o q s) (dt port : Nat) : Goes (Ok o q) (execManagementMessage dt port s) :=
  after_keep h (fun u => State.managementRx_keep u ..)

theorem execPtpMessageSend_ok (h : Ok o q s) (dt port kind : Nat) : Goes (Ok o q) (execPtpMessageSend dt port kind s) :=
  after_keep h (fun u => State.ptpSend_keep u ..)

theorem execComparatorFire_ok (h : Ok o q s) (dt k : Nat) : Goes (Ok o q) (execComparatorFire dt k s) :=
  afterEv_keep h (fun u => State.cmpFire_keep u ..)

theorem execLineLinkChange_ok (h : Ok o q s) (dt port : Nat) (up : Bool) : Goes (Ok o q) (execLineLinkChange dt port up s)
    :=
  afterEv_keep h (fun u => (State.ptpChanged_keep ..).trans (State.lineLink_keep u ..))

theorem execFrameTransmit_ok (h : Ok o q s) (dt port : Nat) : Goes (Ok o q) (execFrameTransmit dt port s) :=
  after_keep h (fun u => State.transmit_keep u ..)

theorem execBadFrameRx_ok (h : Ok o q s) (dt port : Nat) (frame : RawFrame) : Goes (Ok o q)
    (execBadFrameRx dt port frame s) :=
  afterEv_keep h (fun u => State.badFrame_keep u ..)

theorem execDatumFrame_ok (h : Ok o q s) (dt port : Nat) (hdr : Hdr) (entries : List DatumEntry) : Goes (Ok o q)
    (execDatumFrame dt port hdr entries s) :=
  afterEv_keep h (fun u => State.datumRx_keep u ..)

theorem execSegmentFrame_ok (h : Ok o q s) (dt port : Nat) (hdr : Hdr) (stream : Nat) (trunc : Option Nat) (segs : List Seg)
    : Goes (Ok o q) (execSegmentFrame dt port hdr stream trunc segs s) :=
  afterEv_keep h (fun u => State.segmentRx_keep u ..)

theorem execImageFrame_ok (h : Ok o q s) (dt port : Nat) (hdr : Hdr) (body : ImgBody) : Goes (Ok o q) (execImageFrame dt
    port hdr body s) :=
  afterEv_keep h (fun u => State.imageRx_keep u ..)

theorem execTraverseAck_ok (h : Ok o q s) (dt port : Nat) (hdr : Hdr) (stn state : Nat) (streams : List AckStream) (events :
    List AckEvent) : Goes (Ok o q) (execTraverseAck dt port hdr stn state streams events s) :=
  afterEv_keep h (fun u => State.ackRx_keep u ..)

theorem execStateCmd_ok (h : Ok o q s) (dt port : Nat) (hdr : Hdr) (stn target : Nat) : Goes (Ok o q) (execStateCmd dt port
    hdr stn target s) :=
  afterEv_keep h (fun u => State.stateCmdRx_keep u ..)

theorem execConfig_ok (h : Ok o q s) (dt port : Nat) (hdr : Hdr) (words : List Word) : Goes (Ok o q) (execConfig dt port hdr
    words s) :=
  afterEv_keep h (fun u => State.configRx_keep u ..)

theorem execDiscoverResp_ok (h : Ok o q s) (dt port : Nat) (hdr : Hdr) (addr mac product state : Nat) : Goes (Ok o q)
    (execDiscoverResp dt port hdr addr mac product state s) :=
  afterEv_keep h (fun u => State.discoverRx_keep u ..)

theorem execDiscDone_ok (h : Ok o q s) (dt port : Nat) : Goes (Ok o q) (execDiscDone dt port s) :=
  after_keep h (fun u => State.discDone_keep u ..)

theorem execStationLost_ok (h : Ok o q s) (dt port stn : Nat) : Goes (Ok o q) (execStationLost dt port stn s) :=
  afterEv_keep h (fun u => State.stationLost_keep u ..)

theorem execSegNak_ok (h : Ok o q s) (dt port : Nat) : Goes (Ok o q) (execSegNak dt port s) :=
  after_keep h (fun u => State.segNak_keep u ..)

theorem execEvtNak_ok (h : Ok o q s) (dt port : Nat) : Goes (Ok o q) (execEvtNak dt port s) :=
  after_keep h (fun u => State.evtNak_keep u ..)

theorem execPreemptionVerified_ok (h : Ok o q s) (dt port : Nat) (up : Bool) : Goes (Ok o q) (execPreemptionVerified dt port
    up s) :=
  after_keep h (fun u => State.preempt_keep u ..)

theorem execUpdOpen_ok (h : Ok o q s) (dt dst etype slot tag mac len crc : Nat) : Goes (Ok o q) (execUpdOpen dt dst etype
    slot tag mac len crc s) :=
  afterEv_keep h (fun u => by simp only [implies_true,
    State.onSvc_keep, State.updOpen_keep])

theorem execUpdBlock_ok (h : Ok o q s) (dt dst etype slot tag mac index part crc : Nat) (bytes : List Byte) : Goes (Ok o q)
    (execUpdBlock dt dst etype slot tag mac index part crc bytes s) :=
  afterEv_keep h (fun u => by simp only [implies_true,
    State.onSvc_keep, State.updBlock_keep])

theorem execUpdClose_ok (h : Ok o q s) (dt dst etype slot tag mac : Nat) : Goes (Ok o q) (execUpdClose dt dst etype slot tag
    mac s) :=
  after_keep h (fun u => by simp only [implies_true,
    State.onSvc_keep, State.updClose_keep])

theorem execUpdAbort_ok (h : Ok o q s) (dt dst etype slot tag mac : Nat) : Goes (Ok o q) (execUpdAbort dt dst etype slot tag
    mac s) :=
  after_keep h (fun u => by simp only [implies_true,
    State.onSvc_keep, State.updAbort_keep])

theorem execSlotEraseDone_ok (h : Ok o q s) (dt : Nat) : Goes (Ok o q) (execSlotEraseDone dt s) :=
  after_keep h (fun u => State.eraseDone_keep u ..)

theorem execSessionTimeout_ok (h : Ok o q s) (dt : Nat) : Goes (Ok o q) (execSessionTimeout dt s) :=
  afterEv_keep h (fun u => State.sessionTimeout_keep u ..)

theorem execRecoveryAnnounce_ok (h : Ok o q s) (dt : Nat) : Goes (Ok o q) (execRecoveryAnnounce dt s) :=
  after_keep h (fun u => State.recoveryAnnounce_keep u ..)

theorem execActivation_ok (h : Ok o q s) (dt : Nat) : Goes (Ok o q) (execActivation dt s) :=
  afterEv_keep h (fun u => State.activation_keep u ..)

theorem execFloorBurnDone_ok (h : Ok o q s) (dt : Nat) : Goes (Ok o q) (execFloorBurnDone dt s) :=
  after_keep h (fun u => State.burnDone_keep u ..)

end
end Sys2Proof.Machine
end

