-- ==== Sys2Proof/Laws/Mp.lean ====
section
/-!
SUPPORT. How a command of the catalogue is performed once it is the one to start.
-/
namespace Sys2Proof.Machine

/-- A command that is started does what its meaning says, which is noted for its closure digest, and answers with its reply. -/
theorem perform_starts {s v : State} {n code need : Nat} {c : Cmd} (f : Cmd → State → State × Reply)
    (h : s.starts n c code need v) :
    s.perform n code need f = ((f c v).1.noteWrites n c.id (wroteBy v (f c v).1)).reply c (f c v).2 := by
  obtain ⟨h1, h2, rfl⟩ := h
  unfold State.perform
  simp only [h1]
  rw [if_neg (by omega)]

/-- A command with too few words is answered BAD_LENGTH (R60). -/
theorem perform_short {s : State} {n code need : Nat} {c : Cmd} (f : Cmd → State → State × Reply) (h1 : s.nextCmd n code = some c)
    (h2 : c.words.length < 4 + need) : s.perform n code need f = (s.startCmd n c.id).finish c.id stBadLength 0 [] := by
  unfold State.perform
  simp only [h1, if_pos h2]

@[simp] theorem reply_done (s : State) (c : Cmd) (st d : Nat) (rs : List Word) :
    s.reply c (.done st d rs) = s.finish c.id st d rs := rfl

@[simp] theorem reply_goesOn (s : State) (c : Cmd) : s.reply c .goesOn = s := rfl

end Sys2Proof.Machine
end

