-- ==== Sys2Proof/Laws/Power.lean ====
section
/-!
SUPPORT. What a module reset leaves: a register that is not kept reads its reset value, and the power state begins anew.
-/
namespace Sys2Proof.Machine

/-- An invariant of a fold that every step keeps. -/
theorem foldl_keeps {α β : Type} (p : β → Prop) (f : β → α → β) (l : List α) (b : β) (h : p b)
    (hf : ∀ x ∈ l, ∀ c, p c → p (f c x)) : p (l.foldl f b) := by
  induction l generalizing b with
  | nil => exact h
  | cons x r ih => exact ih _ (hf x (List.mem_cons_self ..) b h) (fun y hy => hf y (List.mem_cons_of_mem _ hy))

/-- A key that no entry has reads as the default. -/
theorem sget_absent {α : Type} (d : α) (m : Sparse α) (a : Nat) (h : ∀ e ∈ m, e.1 ≠ a) : sget d m a = d := by
  induction m with
  | nil => rfl
  | cons e r ih =>
    obtain ⟨k, v⟩ := e
    have hk : k ≠ a := h (k, v) (List.mem_cons_self ..)
    have := ih (fun e he => h e (List.mem_cons_of_mem _ he))
    simp only [sget]
    split
    · rename_i h'; exact absurd h'.symm hk
    · first | exact this | (split <;> first | rfl | exact this)

theorem kept_sts : keptRegs.contains Reg.PWR_STS = true := by decide +kernel
theorem kept_ccc : ∀ c < 16, keptRegs.contains (Reg.CHN_CCc c) = true := by decide +kernel

/-- A register that a filter of the stored values drops reads its reset value. -/
theorem reg_dropped (s : State) (K : List Nat) (a : Nat) (h : K.contains a = false)
    (hr : ∃ m : Sparse Word, s.regs = m.filter (fun e => K.contains e.1)) : s.reg a = regReset a := by
  obtain ⟨m, hr⟩ := hr
  have : sget (regReset a) s.regs a = regReset a := by
    apply sget_absent
    intro e he hx
    rw [hr] at he
    have := (List.mem_filter.1 he).2
    rw [hx, h] at this; cases this
  exact this

/-- A register that a module reset does not keep reads its reset value in the part of the state that is kept. -/
theorem kept_reg (s : State) (a : Nat) (h : keptRegs.contains a = false) : s.kept.reg a = regReset a :=
  reg_dropped s.kept keptRegs a h ⟨s.regs, rfl⟩

theorem ctlsDown_reg (s : State) (a : Nat) (h : ∀ c < 16, a ≠ Reg.CHN_CCc c) : s.ctlsDown.reg a = s.reg a := by
  unfold State.ctlsDown
  refine foldl_keeps (fun r : State => r.reg a = s.reg a) _ _ _ rfl ?_
  intro c hc x hx
  unfold State.setRegF
  rw [State.setReg_reg_ne _ (h c (by simpa using hc))]; exact hx

theorem ctlsDown_pwr (s : State) : s.ctlsDown.pwr = s.pwr := by
  unfold State.ctlsDown
  exact foldl_keeps (fun r : State => r.pwr = s.pwr) _ _ _ rfl (fun _ _ _ hx => hx)

/-- After a module reset every register that is not kept reads its reset value (R421); the epoch comes from MRAM. -/
theorem shutDown_reg (s : State) (a : Nat) (hk : keptRegs.contains a = false) (hp : a ≠ Reg.PAIR_EPOCH) :
    s.shutDown.reg a = regReset a := by
  have hn : ∀ b, keptRegs.contains b = true → a ≠ b := by rintro b hb rfl; rw [hb] at hk; cases hk
  unfold State.shutDown State.setRegB
  rw [State.setReg_reg_ne _ (hn _ kept_sts), State.setReg_reg_ne _ (hn _ kept_sts), State.setReg_reg_ne _ hp,
    ctlsDown_reg _ _ (fun c hc => hn _ (kept_ccc c hc)), kept_reg _ _ hk]

/-- The power state after a module reset: what D0 knows of its own loss, and the 10 ms before start-up. -/
theorem shutDown_pwr (s : State) : s.shutDown.pwr = { lostD0 := (s.endBurn 1).pwr.lostD0, startAt := s.sclk + 10 * msClk } := by
  have hc : (s.endBurn 1).sclk = s.sclk := by unfold State.endBurn; split <;> rfl
  unfold State.shutDown State.setRegB
  rw [State.setReg_pwr, State.setReg_pwr, State.setReg_pwr, ctlsDown_pwr, ← hc]; rfl

end Sys2Proof.Machine
end

