-- ==== Sys2Proof/Tests/Slice0.lean ====
section
/-!
SUPPORT. Tests of the model: ill-formed commands that the well-formedness check refuses, single commands on small states,
and for every statement a state and operands that meet its hypotheses.
-/
namespace Sys2Proof.Tests

set_option Elab.async false
open Sys2Proof Sys2Proof.Machine

/-- A module that runs alone: every domain on, role ALONE, start-up ended. -/
def running : State := { State.reset with regs := [(Reg.PWR_START_STS, 9), (Reg.PWR_DOM_STS, 0x3FF), (Reg.PAIR_ROLE, 1)] }
/-- A running module whose service port and line ports take register requests, with the link of port L1 up. -/
def served : State := { ((running.setReg Reg.SYS_RRA_CTL 0x1F).setReg (Reg.TRV_STS 1) 1) with pwr := { booted := true } }

/-- A command of a CODE with parameter words, as the MP holds it in a slot: session number 1, identity 5. -/
def cmd (code : Nat) (params : List Word) : Cmd :=
  { id := 5, words := [w32 (code + 0x10000), 0x77, 0, 1] ++ params ++ List.replicate (4 - params.length) 0 }

/-- A running module whose MP is ready. -/
def commanded : State := running.setReg Reg.MBX_GLB_STS 0x10000

/-- A module whose MP performs that command next. -/
def asked (code : Nat) (params : List Word) : State :=
  { commanded with mp := { pairs := [(0, { cmds := [cmd code params] })], nextId := 6 } }

/-- The same with session 1 open. -/
def inSess (code : Nat) (params : List Word) : State :=
  { asked code params with mp := { (asked code params).mp with session := 1, sessions := 1 } }

/-- A module with an IDENT posted in mailbox 2. -/
def posted : State := (commanded.setReg (Reg.MBX_STS 2) 0x801).setReg (Reg.MBX_DATAi 2 0) 0x00010001

/-- A module on which a long command of that CODE runs. -/
def going (code : Nat) (params : List Word) : State :=
  { commanded with mp := { pairs := [(0, { cmds := [{ cmd code params with stage := .started }] })], nextId := 6 } }

/-- A running module whose port L2 runs PTP with that TIM_PORTn_CFG and STATE, in domain 5 of the default profile. -/
def timed (cfg st : Nat) : State :=
  (((((running.setReg Reg.TIM_CTL 1).setReg Reg.TIM_PTP_CFG 5).setReg (Reg.TIM_PORTn_CFG 1) (w32 cfg)).setReg (Reg.TIM_PORTn_STS 1) (w32 st)).setReg
    (Reg.TRV_STS 1) 1).setReg (Reg.TRV_CTL 1) 1

/-- A segment of 10 us from 10 us on, with a stop ramp of two times 1 us. -/
def seg1 : Seg := { t0 := 10000, dur := 10000, seq := 1, p0 := 0, v0 := 1000, a0 := 0, j := 0, sj1 := 0, sj2 := 0, sd1 := 1000, sd2 := 1000 }

/-- A running module at 25 us with a datum in that state. -/
def moving (d : Nat) (st : DatState) (q : List Seg) (e : Option Seg) : State :=
  { running with ptp := 25000 * 2 ^ 32, dats := [(d, { st := st, queue := q, ended := e })] }

/-- A running module with one decided action. -/
def acting (a : Action) : State := { running with stk := { actions := [a] } }

/-- A running module whose datum 0 has stood at position 50 and whose stake entry 9, upward at target 50, was last tested at position 40. -/
def still : State :=
  { running with dats := [(0, { st := .stopped, heldP := 50 })], cfgA := [(cfgKey 5 9 0, 8)],
                 stk := { entries := [(9, { st := .armed, target := 50, ref := some (40, 0) })] } }

/-- A running module in epoch 4 with the link of a port up and the port enabled. -/
def linked (n : Nat) : State := ((running.setReg (Reg.TRV_STS n) 1).setReg (Reg.TRV_CTL n) 3).setReg Reg.PAIR_EPOCH 4

/-- A header of a frame from address 9 to address 0, in epoch 4 and slot 0. -/
def hdr1 : Hdr := { slot := 0, src := 9, dst := 0, epoch := 4 }

/-- A heartbeat frame. -/
def beat (ts : Bool) : Frame := ⟨{ slot := 0, src := 0, dst := 0xFFFF, epoch := 0, tsReq := ts }, .heartbeat 1 0⟩

/-- That frame as it waits in a queue, a module with it in queue 0, and one of 1518 bytes on the wire. -/
def wire1 (ts : Bool) : WireFrame := { dmac := 1, smac := 2, etype := 0x88B5, body := .trv (beat ts) }
def queued (ts : Bool) : State :=
  { linked 3 with cfgA := [(cfgKey 3 3 0, 1000000)], ports := [(3, { txq := [(0, [wire1 ts])] })] }
def sending1 : Sending := { q := 0, w := wire1 false, left := 1500, at_ := 0 }
/-- Two input bytes of station 255. -/
def blk2 : InBlock := ⟨255, 0, 0, 0, [1, 2], []⟩

/-- A module with station 255 on port L4: address 9, two input bytes. -/
def withStn : State := { linked 3 with cfgA := [(cfgKey 3 (stnItem 3 255) 0, 0x90001), (cfgKey 3 (stnItem 3 255) 5, 0x20000)] }

/-- A module that follows the upstream pair at address 9 on port L4, as station 9, with more words of the active set. -/
def upward (c : List (Nat × Word)) : State :=
  { linked 3 with cfgA := c ++ [(cfgKey 3 3 7, 0x90009)], ports := [(3, { upEpochs := [(9, ⟨4, 0⟩)] })] }

/-- A release of task 0 on engine 0x10: ten words of code from address 0. -/
def rel1 : Release := { task := 0, start := 0, startT := 0, binding := [0x10, 0, 0, 0, 10, 0, 0, 0], pc := 0, snap := [], datw := [] }

/-- What a test gives a release. -/
structure RelPart where
  acc : Bool := false
  stack : List StackEntry := []
  wbuf : Sparse (Option (Word × Word)) := []
  wa : DWord := 0

/-- A running module whose engine 0x10 stands at an instruction, in that release with the ACC, stack, buffer and WA of `r`. -/
def coding (op space addr : Nat) (r : RelPart) : State :=
  { running with engs := [(0x10, { rel := some { rel1 with acc := r.acc, stack := r.stack, wbuf := r.wbuf, wa := r.wa } })],
                 prog := { code := [(0, plWord op space addr)] } }

/-- Timer 0 and counter 2047 as a release has written them. -/
def tim0 : Sparse (Option (Word × Word)) := [(imgKey 4 0 0, some (0, 0xFFFFFFFF)), (imgKey 4 0 1, some (0, 0xFFFFFFFF)), (imgKey 4 0 2, some (0, 0xFFFFFFFF)), (imgKey 4 0 3, some (0, 0xFFFFFFFF))]
def ctr9 : Sparse (Option (Word × Word)) := [(imgKey 5 0 8188, some (0, 0xFFFFFFFF)), (imgKey 5 0 8189, some (0, 0xFFFFFFFF)), (imgKey 5 0 8190, some (0, 0xFFFFFFFF))]
def wb2 : Sparse (Option (Word × Word)) := [(imgKey 8 0 8190, some (0, 0xFFFFFFFF)), (imgKey 8 0 8191, some (0, 0xFFFFFFFF))]
def relT : Release := { rel1 with wbuf := tim0 }


/-- A running module in that mode whose task 31 is bound to engine 0x10 and pending, with its turn in the fixed cycle. -/
def tasked (m : PlmMode) : State :=
  { running.setReg (Reg.PLM_TASKn_STS 31) 1 with
    plm := { mode := m, cycle := if m = .fixed then some 31 else none }, cfgA := [(cfgKey 4 31 0, 0x110), (cfgKey 4 31 4, 10)] }
/-- Engine 0x10 after END, and in a call of instance 2047. -/
def ended : State := { running with engs := [(0x10, { rel := some { rel1 with phase := .done } })] }
def calling : State := { running with engs := [(0x10, { rel := some { rel1 with phase := .call 2047 } })] }
def work1 : BlkWork := { inst := 2047, caller := some 0x10, s := 0, arrival := 0, item := [0x3006] }
/-- The self-running instance 9 at an instant of its period, with those works queued at pair 0x30. -/
def selfie (q : List BlkWork) : State :=
  { running with plm := { mode := .fixed }, ptp := 200000 * 2 ^ 32, cfgA := [(cfgKey 6 9 0, 0x43006), (cfgKey 6 9 4, 100)],
                 blk := { pairs := [(0x30, { queue := q })] } }

/-- A running module whose pair x had its last mismatch at that time, at the second time. -/
def missed (x t now : Nat) : State := { running with ptp := now * 2 ^ 32, cmp := [(x, { lastMis := some t })] }

/-- A module at step 5 of start-up that listens for its partner, which shows a role. -/
def listening (r : Nat) : State :=
  { (State.reset.setReg Reg.PWR_START_STS 5).setReg Reg.PAIR_ROLE (w32 (16 * r)) with pwr := { listenAt := some 0 } }
/-- A running module whose lane 0 carries the traffic of the pair link. -/
def laned : State := running.setReg Reg.PAIR_LANES 2
/-- A READY standby whose lane 0 carries the traffic. -/
def following : State := (laned.setReg Reg.PAIR_ROLE 0x23).setReg Reg.PAIR_STS 1
/-- A module that hands over, at that time, with the SWAP it sent and those engines. -/
def handing (now : Nat) (sw : Option (Nat × Nat)) (e : Sparse Engine) : State :=
  { running.setReg Reg.PAIR_ROLE 5 with
    ptp := now * 2 ^ 32, engs := e, pair := { hand := some { kind := .handover, former := 2, at_ := 0, slot := some 9, swap := sw } } }

/-- A running module at that time whose group B has an I/O period of 1 ms and that state. -/
def io (now : Nat) (g : Group) : State := { running with ptp := now * 2 ^ 32, cfgA := [(cfgKey 1 33 0, 1000 * 256)], grps := [(1, g)] }
/-- A running module whose channel 31 is in that mode, driven, enabled and supplied, with its controller running. -/
def outputting (m : Nat) : State :=
  { ((((running.setReg (Reg.GRP_STS 1) 0x11).setReg (Reg.GRP_CTL 1) 1).setReg (Reg.GRP_CHEN 1) 0x8000).setReg (Reg.CHN_CCc 15) 0x10000) with
    cfgA := [(cfgKey 1 31 0, w32 m)] }

/-- A frame that has met that many collisions in a row. -/
def ent (h : Nat) : CanEntry := { id := 5, ctl := 0x70000, data := [], hits := h }
/-- A running module whose controller CAN1 is in NORMAL mode and on the bus, with those frames and events. -/
def sending (q : List CanEntry) (ev : List CanEvent) : State :=
  { (((running.setReg (Reg.GRP_STS 0) 0x10).setReg (Reg.CANn_CTL 1) 1).setReg (Reg.CANn_STS 1) 4) with cans := [(1, { fifo := q, events := ev })] }
/-- A running module whose bank 0 is owned by that master. -/
def owned (m : Nat) : State := running.setReg (Reg.BNK_OWN 0) (w32 m)
/-- A running module that has booted the image of slot A, version 3, and takes update frames to address 0, EtherType 0x88B5. -/
def booted1 : State := { running with pwr := { booted := true }, upd := { run := some 0, slots := [(0, { st := 3, hdr := some ⟨true, 7, 3, 0, 0, 0⟩ })] } }
/-- The same with updates enabled and that session. -/
def updating (x : Option XferSession) : State := { booted1.setReg Reg.UPD_CTL 1 with upd := { booted1.upd with session := x } }
/-- A session with three parts of a block of no bytes. -/
def parted : XferSession := { slot := 1, mac := 5, len := 4096, crc := 0, tag := 0, last := 0, parts := [⟨0, 0, [(0, []), (1, []), (2, [])]⟩] }
/-- A running module with an armed activation. -/
def armed1 : State := running.setReg Reg.UPD_ACT_EXT 0x20000

/-- Two outputs of tiles that differ. -/
def outA : PortOut := { port := 0, command := 0, addr := 0, data := 0, enables := 0, master := 0 }
def outB : PortOut := { outA with addr := 1 }


/-- A Traverse header, and one whose SLOT has no place in its field. -/
def hdr0 : Hdr := { slot := 0, src := 1, dst := 0xFFFF, epoch := 1 }
def badHdr : Hdr := { hdr0 with slot := 2 }

/-- A pair-link header, and one whose SEQ has no place in its field. -/
def lnk0 : LinkHdr := { lane := 0, seq := 1, epoch := 1 }
def badLnk : LinkHdr := { lnk0 with seq := 2 ^ 32 }

/-- Well-formed commands of the table, part 1. -/
theorem test_wf_accepts1 : ([
    .pcieTlp 0 false false 0 0 [], .perstReset 0, .pcieLinkChange 0 false 0 0, .bmeSet 0 false, .msixVectorUnmask 0 0,
    .regacc 0 0 hdr0 0 [], .remoteRegisterAccess 0 0 0 0 [], .registerWrite 0 0x42 0 0, .loRead 0 0x42 0,
    .loWrite 0 0x42 0 0, .hiWrite 0 0x42 0 0, .rcRead 0 0x42 0, .tmrScrub 0 [], .tmrScrub 0 [(2 ^ 22 - 1, 0, 0, 0)], .violClear 0 0x42,
    .moduleResetRequest 0 0x42 0, .mbxPost 0 0x42 0 0, .mpTake 0, .mpPostResponse 0 ⟨0, none⟩, .mbxTake 0 0x42 8 0,
    .mbxHrst 0 0x42 0 0, .mpRestartBegin 0, .mpReady 0, .longCommandComplete 0 0 0, .ident 0 0, .statusGet 0 0,
    .echo 0 0, .cfgOpen 0 0, .cfgClose 0 0, .cfgAbandon 0 0, .cfgCopy 0 0, .cfgWrite 0 0, .cfgRead 0 0, .cfgBulk 0 0,
    .cfgCheck 0 0, .cfgSwap 0 0, .cfgSwapApply 0, .cfgSwapCancel 0 0, .cfgStatus 0 0, .prgInfo 0 0, .prgLoadBegin 0 0,
    .prgLoadBlock 0 0, .prgLoadEnd 0 0, .valRead 0 0, .valWrite 0 0, .constWrite 0 0, .constApply 0 0x10, .lpdRead 0 0,
    .lpdWrite 0 0, .frcSet 0 0, .frcRelease 0 0, .frcReleaseAll 0 0, .frcList 0 0, .datStatus 0 0, .datStop 0 0,
    .stkStatus 0 0, .stkCancelAll 0 0, .chStatus 0 0, .chRevive 0 0, .chTrimCapture 0 0, .chTrimClear 0 0] : List Instr).all Instr.wf = true := by decide

/-- Well-formed commands of the table, part 2. -/
theorem test_wf_accepts2 : ([
    .chPulseTest 0 0, .pairStatus 0 0, .pairExchange 0 0, .pairHandover 0 0, .pairCancel 0 0, .pairWithdraw 0 0,
    .pairResync 0 0, .recInfo 0 0, .recPeriod 0 0, .recCopy 0 0, .updStatus 0 0, .updSchedule 0 0, .updCancel 0 0,
    .updChain 0 0, .selftestFull 0 0, .diagCounters 0 0, .cmpSplit 0 0, .cmpJoin 0 0, .mpRestart 0 0, .ptpSecondCarry,
    .timIncrWrite 0 0x42 0, .timStepArm 0 0x42 0, .timNowRead 0 0x42, .servoUpdate 0, .holdover 0,
    .sync 0 0 0 false 0 0 0, .followUp 0 0 0 0 0 0, .delayReq 0 0 0 0 0, .delayResp 0 0 0 0 0 0, .pdelayReq 0 0 0 0 0,
    .pdelayResp 0 0 0 0 0 0, .pdelayRespFollowUp 0 0 0 0 0 0, .announce 0 0 0 0 0 0 0 0 0 ⟨0, 0⟩, .signaling 0 ⟨0, 0⟩ 0 0 0,
    .managementMessage 0 0, .ptpMessageSend 0 0 0, .txqPop 0 0x42 0 0, .comparatorFire 0 0, .segmentEnd 0 0,
    .segmentStart 0 0, .datumStopped 0 0, .datAppPush 0 0x42 0 0, .encoderEdge 0 0 false false, .encoderZEdge 0 0,
    .encoderFit 0 0 ⟨0, 0⟩, .upstreamTimeout 0 0, .segmentHandover 0 0, .hzShort 0 0, .stakeFire 0 0, .stakeActionDispatch 0,
    .foEdgeApply 0 0, .arm 0 0x42 0, .disarm 0 0x42 0, .reload 0 0x42 0, .stkCapInfoRead 0 0x42 0, .frameTransmit 0 0,
    .badFrameRx 0 0 ⟨0, none, false, []⟩, .datumFrame 0 0 hdr0 [⟨0, 0, 0, 0, 0, 0, 0, 0, 0⟩], .segmentFrame 0 0 hdr0 0 none [],
    .imageFrame 0 0 hdr0 (.pair 0 [])] : List Instr).all Instr.wf = true := by decide

/-- Well-formed commands of the table, part 3. -/
theorem test_wf_accepts3 : ([
    .traverseAck 0 0 hdr0 1 0 [] [], .heartbeat 0 0 hdr0 0 0, .stateCmd 0 0 hdr0 1 0,
    .config 0 0 hdr0 (List.replicate 11 0), .discoverResp 0 0 hdr0 0 0 0 0, .discover 0 0x42 0 0, .discDone 0 0,
    .stationLost 0 0 1, .segNak 0 0, .evtNak 0 0, .lineLinkChange 0 0 false, .releaseStart 0 0x10, .plNop 0x10 0 0,
    .plLd 0x10 0 0, .plLdn 0x10 0 0, .plAnd 0x10 0 0, .plAndn 0x10 0 0, .plOr 0x10 0 0, .plOrn 0x10 0 0, .plXor 0x10 0 0,
    .plXorn 0x10 0 0, .plSt 0x10 0 0, .plStn 0x10 0 0, .plSet 0x10 0 0, .plRst 0x10 0 0, .plNot 0x10 0 0,
    .plSeta 0x10 0 0, .plClra 0x10 0 0, .plPsha 0x10 0 0, .plPsho 0x10 0 0, .plPshx 0x10 0 0, .plPshn 0x10 0 0,
    .plPop 0x10 0 0, .plPeek 0x10 0 0, .plJmp 0x10 0 0, .plJc 0x10 0 0, .plJcn 0x10 0 0, .plCall 0x10 0 0,
    .plRet 0x10 0 0, .plRetc 0x10 0 0, .plEnd 0x10 0 0, .plLw 0x10 0 0, .plLwu 0x10 0 0, .plLwd 0x10 0 0,
    .plLwi 0x10 0 0, .plSw 0x10 0 0, .plSwd 0x10 0 0, .plSwc 0x10 0 0, .plSwdc 0x10 0 0, .plAdd 0x10 0 0,
    .plSub 0x10 0 0, .plMul 0x10 0 0, .plAddd 0x10 0 0, .plSubd 0x10 0 0, .plNeg 0x10 0 0, .plAndw 0x10 0 0,
    .plOrw 0x10 0 0, .plXorw 0x10 0 0, .plShl 0x10 0 0, .plShr 0x10 0 0] : List Instr).all Instr.wf = true := by decide

/-- Well-formed commands of the table, part 4. -/
theorem test_wf_accepts4 : ([
    .plShru 0x10 0 0, .plBtst 0x10 0 0, .plLwb 0x10 0 0, .plCeq 0x10 0 0, .plCne 0x10 0 0, .plClt 0x10 0 0,
    .plCle 0x10 0 0, .plCgt 0x10 0 0, .plCge 0x10 0 0, .plCltu 0x10 0 0, .plCgeu 0x10 0 0, .plCeqd 0x10 0 0,
    .plCltd 0x10 0 0, .plCged 0x10 0 0, .plCltdu 0x10 0 0, .plCgedu 0x10 0 0, .plLov 0x10 0 0, .plCov 0x10 0 0,
    .plFp 0x10 0 0, .plFn 0x10 0 0, .plTon 0x10 0 0, .plTof 0x10 0 0, .plTp 0x10 0 0, .plTpt 0x10 0 0, .plTrs 0x10 0 0,
    .plCtu 0x10 0 0, .plCtd 0x10 0 0, .plCrs 0x10 0 0, .plClp 0x10 0 0, .plCpv 0x10 0 0, .plDwin 0x10 0 0 0,
    .plStarm 0x10 0 0, .plStdis 0x10 0 0, .plSttgt 0x10 0 0, .plStrld 0x10 0 0, .plCallb 0x10 0 0, .undefinedOpcode 0x10,
    .releaseEndDecision 0 0x10 none, .taskDeadline 0 0x10, .fixedCycleStart 0, .modeReqTask 0 0x42,
    .modeReqFixed 0 0x42, .autoTaskRequest 0, .blockCallArrival 0 0x10, .blockServiceStart 0 0x30,
    .blockReturn 0 0x30 none, .blockDeadline 0 0, .selfRunDue 0 0, .selfRunEnd 0 0x30 none, .coreMismatch 0 ⟨0, outA, outB⟩,
    .tileResyncDone 0 0, .agreementDisagree 0 0 0, .checkerTest 0 0 0 false, .splitComplete 0 0,
    .joinComplete 0 0 0, .roleDecision 0 false, .keepaliveSend 0, .pairKeepalive 0 lnk0 0 false 0,
    .pairDelta 0 lnk0 [], .pairGenClose 0 lnk0 0 0 0] : List Instr).all Instr.wf = true := by decide

/-- Well-formed commands of the table, part 5. -/
theorem test_wf_accepts5 : ([
    .pairAck 0 lnk0 0, .pairResyncFrame 0 lnk0 0 [] [], .pairSwap 0 lnk0 0 0 0 0, .pairRoleNotice 0 lnk0 0 0,
    .pairTime 0 lnk0 false 0 0 0, .pairProgram 0 lnk0 0 [], .pairFrameCrcError 0 0, .retransmit 0, .timeExchange 0,
    .genBoundary 0, .genCloseSend 0, .resyncReady 0, .lossDeclared 0, .takeoverResume 0, .isolationTimeout 0,
    .swapSend 0, .handoverH 0, .handoverTimeout 0, .handoverOutputSwitch 0, .moduleRemoval 0, .partnerInsertion 0,
    .reconfigDone 0 0, .ioInstant 0 0 [], .inputWrite 0 0, .outputApply 0 0, .conversionDone 0 0 [],
    .diLevelChange 0 0 false, .channelDiagnostic 0 0 0 false 0, .channelTrip 0 0 false, .tripRetry 0 0 false,
    .vfldLow 0 0 0, .supplyLost 0 0 0, .supplyRecovery 0 0 0, .restoreAck 0 0x42 0 0, .outEn 0 0x42 0 0,
    .barrierLinkSilence 0 0, .benchmark 0 0 0 false, .fastInputEdge 0 0 0 false, .fiEvPop 0 0x42 0 0, .foFault 0 0,
    .foRetry 0 0, .controllerRestart 0 0 0, .canModeWrite 0 0x42 0 0, .canSync 0 0, .canTxPush 0 0x42 0 0,
    .canFrameSent 0 0 false 0, .idCollision 0 0 false, .canFrameRx 0 0 0 0 0 [], .canRxSel 0 0x42 0 0,
    .txePop 0 0x42 0 0, .canRelease 0 0x42 0, .canDiscard 0 0x42 0, .canFlush 0 0x42 0, .canRecover 0 0x42 0,
    .canTscCap 0 0x42 0 0, .busOff 0 0, .busOffRecovered 0 0, .sramAccess 0 0x42 false 0 1 [] [], .impreciseNotice 0,
    .bnkOwnWrite 0 0x42 0 0] : List Instr).all Instr.wf = true := by decide

/-- Well-formed commands of the table, part 6. -/
theorem test_wf_accepts6 : ([
    .bankRetention 0 0x42 0 0, .bankWake 0 0x42 0 0, .wakeDone 0 0, .scrub 0 0 [], .backgroundTest 0 0 false,
    .lpdPatrol 0 [], .lckRead 0 0x42 0, .lockRelease 0 0x42 0 0, .lockForce 0 0x42 0 0, .mpuSync 0 0x42,
    .retirementRecord 0, .periodEnd 0, .recSel 0 0x42 0, .feedLow 0 0 0, .feedLoss 0 0 0, .feedGood 0 0 0, .vbakLow 0 0,
    .holdupMeasure 0 0 0, .brownout 0 0 0, .watchdog 0, .hot 0 0 0, .thermal 0 0 0, .moduleReset 0, .powerOnReset 0,
    .boot 0, .timeSettle 0, .pwrDomReq 0 0x42 0, .domainSwitchDone 0, .updOpen 0 0 0 0 0 0 0 0,
    .updBlock 0 0 0 0 0 0 0 0 0 [], .updClose 0 0 0 0 0 0, .updAbort 0 0 0 0 0 0, .sessionTimeout 0, .recoveryAnnounce 0,
    .activation 0, .floorRequest 0 0x42 0, .floorBurnDone 0, .warnEnd 0 0, .partnerSilence 0,
    .pairLaneLinkChange 0 0 false, .serviceLinkChange 0 false, .canBusError 0 0 0 0 0, .votedRead 0 0x42 0 0 0 0,
    .resyncCopyEnd 0, .pairDatumTrigger 0 0, .partnerPresentLoss 0, .feedLowClear 0 0 0, .vbakLoss 0 0,
    .thermalResetRelease 0 0 0, .slotEraseDone 0, .tripSequenceEnd 0 0, .preemptionVerified 0 0 false] : List Instr).all Instr.wf = true := by decide

set_option maxRecDepth 20000 in
/-- Commands with one operand out of its range, part 1. -/
theorem test_wf_refuses1 : ([
    .pcieTlp 0 false false (2 ^ 26) 0 [], 
    .pcieTlp 0 false false 0 0 (List.replicate 257 0), .pcieTlp 0 false false 0 513 [],
    .pcieLinkChange 0 true 0 1, .pcieLinkChange 0 true 5 1, .pcieLinkChange 0 true 1 3,
    .msixVectorUnmask 0 64, .regacc 0 4 hdr0 0 [], .regacc 0 0 badHdr 0 [], .regacc 0 0 hdr0 (2 ^ 48) [],
    .regacc 0 0 hdr0 0 (List.replicate 1481 0), .remoteRegisterAccess 0 (2 ^ 48) 0 0 [],
    .remoteRegisterAccess 0 0 (2 ^ 16) 0 [], .remoteRegisterAccess 0 0 0 (2 ^ 48) [],
    .remoteRegisterAccess 0 0 0 0 (List.replicate 1501 0), .registerWrite 0 0 0 0, .registerWrite 0 0x42 (2 ^ 40) 0,
    .registerWrite 0 0x42 2 0, .loRead 0 0 0, .loRead 0 0x42 (2 ^ 40), .loRead 0 0x42 2, .loWrite 0 0 0 0,
    .loWrite 0 0x42 (2 ^ 40) 0, .loWrite 0 0x42 2 0, .hiWrite 0 0 0 0, .hiWrite 0 0x42 (2 ^ 40) 0, .hiWrite 0 0x42 2 0,
    .rcRead 0 0 0, .rcRead 0 0x42 (2 ^ 40), .rcRead 0 0x42 2, .tmrScrub 0 [(2 ^ 22, 0, 0, 0)], .violClear 0 0, .moduleResetRequest 0 0 0,
    .mbxPost 0 0 0 0, .mbxPost 0 0x42 8 0, .mpPostResponse 0 ⟨8, none⟩, .mpPostResponse 0 ⟨0, some (2 ^ 64)⟩, .mbxTake 0 0 8 0, .mbxTake 0 0x42 7 0,
    .mbxTake 0 0x42 16 0, .mbxHrst 0 0 0 0, .mbxHrst 0 0x42 16 0, .longCommandComplete 0 8 0, .ident 0 8, .statusGet 0 8,
    .echo 0 8, .cfgOpen 0 8, .cfgClose 0 8, .cfgAbandon 0 8, .cfgCopy 0 8, .cfgWrite 0 8, .cfgRead 0 8, .cfgBulk 0 8] : List Instr).all (fun i => !i.wf) = true := by decide

set_option maxRecDepth 20000 in
/-- Commands with one operand out of its range, part 2. -/
theorem test_wf_refuses2 : ([
    .cfgCheck 0 8, .cfgSwap 0 8, .cfgSwapCancel 0 8, .cfgStatus 0 8, .prgInfo 0 8, .prgLoadBegin 0 8, .prgLoadBlock 0 8,
    .prgLoadEnd 0 8, .valRead 0 8, .valWrite 0 8, .constWrite 0 8, .constApply 0 0, .lpdRead 0 8, .lpdWrite 0 8,
    .frcSet 0 8, .frcRelease 0 8, .frcReleaseAll 0 8, .frcList 0 8, .datStatus 0 8, .datStop 0 8, .stkStatus 0 8,
    .stkCancelAll 0 8, .chStatus 0 8, .chRevive 0 8, .chTrimCapture 0 8, .chTrimClear 0 8, .chPulseTest 0 8,
    .pairStatus 0 8, .pairExchange 0 8, .pairHandover 0 8, .pairCancel 0 8, .pairWithdraw 0 8, .pairResync 0 8,
    .recInfo 0 8, .recPeriod 0 8, .recCopy 0 8, .updStatus 0 8, .updSchedule 0 8, .updCancel 0 8, .updChain 0 8,
    .selftestFull 0 8, .diagCounters 0 8, .cmpSplit 0 8, .cmpJoin 0 8, .mpRestart 0 8, .timIncrWrite 0 0 0,
    .timStepArm 0 0 0, .timNowRead 0 0, .sync 0 4 0 false 0 0 0, .sync 0 0 (2 ^ 16) false 0 0 0] : List Instr).all (fun i => !i.wf) = true := by decide

set_option maxRecDepth 20000 in
/-- Commands with one operand out of its range, part 3. -/
theorem test_wf_refuses3 : ([
    .sync 0 0 0 false 256 0 0, .followUp 0 4 0 0 0 0, .followUp 0 0 (2 ^ 16) 0 0 0, .followUp 0 0 0 256 0 0,
    .delayReq 0 4 0 0 0, .delayReq 0 0 (2 ^ 16) 0 0, .delayReq 0 0 0 256 0, .delayReq 0 0 0 0 (2 ^ 80),
    .delayResp 0 4 0 0 0 0, .delayResp 0 0 (2 ^ 16) 0 0 0, .delayResp 0 0 0 256 0 0, .pdelayReq 0 4 0 0 0,
    .pdelayReq 0 0 (2 ^ 16) 0 0, .pdelayReq 0 0 0 256 0, .pdelayReq 0 0 0 0 (2 ^ 80), .pdelayResp 0 4 0 0 0 0,
    .pdelayResp 0 0 (2 ^ 16) 0 0 0, .pdelayResp 0 0 0 256 0 0, .pdelayRespFollowUp 0 4 0 0 0 0,
    .pdelayRespFollowUp 0 0 (2 ^ 16) 0 0 0, .pdelayRespFollowUp 0 0 0 256 0 0, .announce 0 4 0 0 0 0 0 0 0 ⟨0, 0⟩,
    .announce 0 0 256 0 0 0 0 0 0 ⟨0, 0⟩, .announce 0 0 0 256 0 0 0 0 0 ⟨0, 0⟩, .announce 0 0 0 0 256 0 0 0 0 ⟨0, 0⟩,
    .announce 0 0 0 0 0 256 0 0 0 ⟨0, 0⟩, .announce 0 0 0 0 0 0 (2 ^ 16) 0 0 ⟨0, 0⟩, .announce 0 0 0 0 0 0 0 256 0 ⟨0, 0⟩,
    .announce 0 0 0 0 0 0 0 0 (2 ^ 64) ⟨0, 0⟩, .announce 0 0 0 0 0 0 0 0 0 ⟨(2 ^ 16), 0⟩,
    .announce 0 0 0 0 0 0 0 0 0 ⟨0, (2 ^ 80)⟩, .signaling 0 ⟨4, 0⟩ 0 0 0, .signaling 0 ⟨0, 256⟩ 0 0 0,
    .managementMessage 0 4, .ptpMessageSend 0 4 0, .ptpMessageSend 0 0 3, .txqPop 0 0 0 0, .txqPop 0 0x42 4 0,
    .comparatorFire 0 16, .segmentEnd 0 8, .segmentStart 0 8, .datumStopped 0 8, .datAppPush 0 0 0 0,
    .datAppPush 0 0x42 8 0, .encoderEdge 0 8 false false, .encoderZEdge 0 8, .encoderFit 0 8 ⟨0, 0⟩, .encoderFit 0 0 ⟨(2 ^ 32), 0⟩,
    .upstreamTimeout 0 8, .segmentHandover 0 8, .hzShort 0 8, .stakeFire 0 4096] : List Instr).all (fun i => !i.wf) = true := by decide

set_option maxRecDepth 20000 in
/-- Commands with one operand out of its range, part 4. -/
theorem test_wf_refuses4 : ([
    .foEdgeApply 0 8, .arm 0 0 0, .arm 0 0x42 1024, .disarm 0 0 0, .disarm 0 0x42 1024, .reload 0 0 0,
    .reload 0 0x42 1024, .stkCapInfoRead 0 0 0, .stkCapInfoRead 0 0x42 16, .frameTransmit 0 4, .badFrameRx 0 4 ⟨0, none, false, []⟩,
    .badFrameRx 0 0 ⟨(2 ^ 16), none, false, []⟩, .badFrameRx 0 0 ⟨0, (some 4096), false, []⟩,
    .badFrameRx 0 0 ⟨0, none, false, (List.replicate 1501 0)⟩, .datumFrame 0 4 hdr0 [⟨0, 0, 0, 0, 0, 0, 0, 0, 0⟩],
    .datumFrame 0 0 badHdr [⟨0, 0, 0, 0, 0, 0, 0, 0, 0⟩], .datumFrame 0 0 hdr0 [],
    .datumFrame 0 0 hdr0 (List.replicate 9 ⟨0, 0, 0, 0, 0, 0, 0, 0, 0⟩), .segmentFrame 0 4 hdr0 0 none [],
    .segmentFrame 0 0 badHdr 0 none [], .segmentFrame 0 0 hdr0 (2 ^ 16) none [], .segmentFrame 0 0 hdr0 0 (some (2 ^ 32)) [],
    .segmentFrame 0 0 hdr0 0 none (List.replicate 21 default),
    .imageFrame 0 4 hdr0 (.pair 0 []), .imageFrame 0 0 badHdr (.pair 0 []),
    .traverseAck 0 4 hdr0 1 0 [] [], .traverseAck 0 0 badHdr 1 0 [] [], .traverseAck 0 0 hdr0 0 0 [] [],
    .traverseAck 0 0 hdr0 256 0 [] [], .traverseAck 0 0 hdr0 1 8 [] [], .heartbeat 0 4 hdr0 0 0,
    .heartbeat 0 0 badHdr 0 0, .heartbeat 0 0 hdr0 7 0, .stateCmd 0 4 hdr0 1 0, .stateCmd 0 0 badHdr 1 0,
    .stateCmd 0 0 hdr0 0 0, .stateCmd 0 0 hdr0 256 0, .stateCmd 0 0 hdr0 1 8, .config 0 4 hdr0 (List.replicate 11 0),
    .config 0 0 badHdr (List.replicate 11 0), .config 0 0 hdr0 [], .discoverResp 0 4 hdr0 0 0 0 0,
    .discoverResp 0 0 badHdr 0 0 0 0, .discoverResp 0 0 hdr0 (2 ^ 16) 0 0 0, .discoverResp 0 0 hdr0 0 (2 ^ 48) 0 0,
    .discoverResp 0 0 hdr0 0 0 0 8, .discover 0 0 0 0, .discover 0 0x42 4 0, .discDone 0 4, .stationLost 0 4 1,
    .stationLost 0 0 0, .stationLost 0 0 256] : List Instr).all (fun i => !i.wf) = true := by decide

set_option maxRecDepth 20000 in
/-- Commands with one operand out of its range, part 5. -/
theorem test_wf_refuses5 : ([
    .segNak 0 4, .evtNak 0 4, .lineLinkChange 0 4 false, .releaseStart 0 0, .plLd 0 0 0, .plLd 0x10 16 0,
    .plLd 0x10 0 (2 ^ 20), .plDwin 0 0 0 0, .plDwin 0x10 8 0 0, .plDwin 0x10 0 16 0, .plDwin 0x10 0 0 (2 ^ 20),
    .undefinedOpcode 0, .releaseEndDecision 0 0 none, .releaseEndDecision 0 0x10 (some (2 ^ 64)), .taskDeadline 0 0, .modeReqTask 0 0, .modeReqFixed 0 0,
    .blockCallArrival 0 0, .blockServiceStart 0 0, .blockReturn 0 0 none, .blockReturn 0 0x30 (some (2 ^ 64)), .blockDeadline 0 2048, .selfRunDue 0 2048,
    .selfRunEnd 0 0 none, .selfRunEnd 0 0x30 (some (2 ^ 64)), .coreMismatch 0 ⟨30, outA, outB⟩, .coreMismatch 0 ⟨0, (PortOut.mk 5 0 0 0 0 0), (PortOut.mk 5 0 1 0 0 0)⟩,
    .coreMismatch 0 ⟨0, outA, (PortOut.mk 1 0 0 0 0 0)⟩, .tileResyncDone 0 30, .agreementDisagree 0 30 0, .agreementDisagree 0 0 6,
    .checkerTest 0 30 0 false, .checkerTest 0 0 4 false, .splitComplete 0 30, .joinComplete 0 30 0, .joinComplete 0 0 4, .pairKeepalive 0 badLnk 0 false 0,
    .pairKeepalive 0 lnk0 7 false 0, .pairKeepalive 0 lnk0 0 false (2 ^ 32), .pairDelta 0 badLnk [],
    .pairGenClose 0 badLnk 0 0 0, .pairGenClose 0 lnk0 (2 ^ 32) 0 0, .pairGenClose 0 lnk0 0 (2 ^ 32) 0,
    .pairGenClose 0 lnk0 0 0 (2 ^ 32), .pairAck 0 badLnk 0, .pairAck 0 lnk0 (2 ^ 32), .pairResyncFrame 0 badLnk 0 [] [],
    .pairResyncFrame 0 lnk0 (2 ^ 40) [] [], .pairResyncFrame 0 lnk0 0 (List.replicate 1501 0) [],
    .pairSwap 0 badLnk 0 0 0 0, .pairSwap 0 lnk0 (2 ^ 32) 0 0 0, .pairSwap 0 lnk0 0 0 (2 ^ 32) 0,
    .pairSwap 0 lnk0 0 0 0 (2 ^ 32), .pairRoleNotice 0 badLnk 0 0, .pairRoleNotice 0 lnk0 7 0,
    .pairTime 0 badLnk false 0 0 0, .pairProgram 0 badLnk 0 []] : List Instr).all (fun i => !i.wf) = true := by decide

set_option maxRecDepth 20000 in
/-- Commands with one operand out of its range, part 6. -/
theorem test_wf_refuses6 : ([
    .pairProgram 0 lnk0 (2 ^ 26) [], .pairProgram 0 lnk0 0 (List.replicate 1501 0), .pairFrameCrcError 0 2,
    .reconfigDone 0 32, .ioInstant 0 2 [], .ioInstant 0 0 [(32, 0)], .inputWrite 0 2, .outputApply 0 2,
    .conversionDone 0 2 [], .conversionDone 0 0 [(32, 0)], .diLevelChange 0 32 false, .channelDiagnostic 0 32 0 false 0,
    .channelDiagnostic 0 0 16 false 0, .channelTrip 0 32 false, .tripRetry 0 32 false, .vfldLow 0 2 0, .supplyLost 0 2 0,
    .supplyRecovery 0 2 0, .restoreAck 0 0 0 0, .restoreAck 0 0x42 2 0, .outEn 0 0 0 0, .outEn 0 0x42 2 0,
    .barrierLinkSilence 0 16, .benchmark 0 32 0 false, .fastInputEdge 0 8 0 false, .fiEvPop 0 0 0 0, .fiEvPop 0 0x42 8 0,
    .foFault 0 8, .foRetry 0 8, .controllerRestart 0 16 0, .controllerRestart 0 0 3, .canModeWrite 0 0 0 0,
    .canModeWrite 0 0x42 2 0, .canSync 0 2, .canTxPush 0 0 0 0, .canTxPush 0 0x42 2 0, .canFrameSent 0 2 false 0,
    .idCollision 0 2 false, .canFrameRx 0 2 0 0 0 [], .canFrameRx 0 0 0 0 0 (List.replicate 65 0), .canRxSel 0 0 0 0,
    .canRxSel 0 0x42 2 0, .txePop 0 0 0 0, .txePop 0 0x42 2 0, .canRelease 0 0 0, .canRelease 0 0x42 2,
    .canDiscard 0 0 0, .canDiscard 0 0x42 2, .canFlush 0 0 0, .canFlush 0 0x42 2] : List Instr).all (fun i => !i.wf) = true := by decide

set_option maxRecDepth 20000 in
/-- Commands with one operand out of its range, part 7. -/
theorem test_wf_refuses7 : ([
    .canRecover 0 0 0, .canRecover 0 0x42 2, .canTscCap 0 0 0 0, .canTscCap 0 0x42 2 0, .busOff 0 2,
    .busOffRecovered 0 2, .sramAccess 0 0 false 0 1 [] [], .sramAccess 0 0x42 false (2 ^ 40) 1 [] [],
    .sramAccess 0 0x42 false 0 0 [] [], .sramAccess 0 0x42 false 0 257 [] [],
    .sramAccess 0 0x42 false 0 1 (List.replicate 257 0) [], .bnkOwnWrite 0 0 0 0, .bnkOwnWrite 0 0x42 24 0,
    .bankRetention 0 0 0 0, .bankRetention 0 0x42 24 0, .bankWake 0 0 0 0, .bankWake 0 0x42 24 0, .wakeDone 0 24,
    .scrub 0 24 [], .backgroundTest 0 24 false, .lckRead 0 0 0, .lckRead 0 0x42 64, .lockRelease 0 0 0 0,
    .lockRelease 0 0x42 64 0, .lockForce 0 0 0 0, .lockForce 0 0x42 64 0, .mpuSync 0 0, .recSel 0 0 0, .feedLow 0 2 0,
    .feedLoss 0 2 0, .feedGood 0 2 0, .brownout 0 4 0, .pwrDomReq 0 0 0, .updOpen 0 (2 ^ 48) 0 0 0 0 0 0,
    .updOpen 0 0 (2 ^ 16) 0 0 0 0 0, .updOpen 0 0 0 256 0 0 0 0, .updOpen 0 0 0 0 (2 ^ 16) 0 0 0,
    .updOpen 0 0 0 0 0 (2 ^ 48) 0 0, .updOpen 0 0 0 0 0 0 (2 ^ 32) 0, .updOpen 0 0 0 0 0 0 0 (2 ^ 32),
    .updBlock 0 (2 ^ 48) 0 0 0 0 0 0 0 [], .updBlock 0 0 (2 ^ 16) 0 0 0 0 0 0 [], .updBlock 0 0 0 256 0 0 0 0 0 [],
    .updBlock 0 0 0 0 (2 ^ 16) 0 0 0 0 [], .updBlock 0 0 0 0 0 (2 ^ 48) 0 0 0 [], .updBlock 0 0 0 0 0 0 (2 ^ 16) 0 0 [],
    .updBlock 0 0 0 0 0 0 0 4 0 [], .updBlock 0 0 0 0 0 0 0 0 (2 ^ 32) [],
    .updBlock 0 0 0 0 0 0 0 0 0 (List.replicate 1025 0), .updClose 0 (2 ^ 48) 0 0 0 0] : List Instr).all (fun i => !i.wf) = true := by decide

set_option maxRecDepth 20000 in
/-- Commands with one operand out of its range, part 8. -/
theorem test_wf_refuses8 : ([
    .updClose 0 0 (2 ^ 16) 0 0 0, .updClose 0 0 0 256 0 0, .updClose 0 0 0 0 (2 ^ 16) 0, .updClose 0 0 0 0 0 (2 ^ 48),
    .updAbort 0 (2 ^ 48) 0 0 0 0, .updAbort 0 0 (2 ^ 16) 0 0 0, .updAbort 0 0 0 256 0 0, .updAbort 0 0 0 0 (2 ^ 16) 0,
    .updAbort 0 0 0 0 0 (2 ^ 48), .floorRequest 0 0 0, .warnEnd 0 30, .pairLaneLinkChange 0 2 false,
    .canBusError 0 2 0 0 0, .canBusError 0 0 8 0 0, .canBusError 0 0 0 512 0, .canBusError 0 0 0 0 256,
    .votedRead 0 0 0 0 0 0, .votedRead 0 0x42 (2 ^ 40) 0 0 0, .votedRead 0 0x42 2 0 0 0, .pairDatumTrigger 0 8,
    .feedLowClear 0 2 0, .tripSequenceEnd 0 32, .preemptionVerified 0 4 false] : List Instr).all (fun i => !i.wf) = true := by decide

/-- Headers with one field out of its width. -/
theorem test_hdr_refuses : [
    { hdr0 with ver := 16 }, { hdr0 with slot := 2 }, { hdr0 with src := 2 ^ 16 }, { hdr0 with dst := 2 ^ 16 },
    { hdr0 with tag := 2 ^ 16 }, { hdr0 with epoch := 2 ^ 32 }, { hdr0 with cycle := 2 ^ 32 },
    { hdr0 with vid := some 4096 }, { hdr0 with etype := 2 ^ 16 }].all (fun h => !h.wf) = true := by decide

theorem test_link_hdr_refuses : [
    { lnk0 with lane := 2 }, { lnk0 with seq := 2 ^ 32 }, { lnk0 with epoch := 2 ^ 32 },
    { lnk0 with gen := 2 ^ 32 }].all (fun h => !h.wf) = true := by decide

/-- The IDs of Table 1.2 are masters, their neighbours none. -/
theorem test_masters : [0x01, 0x10, 0x18, 0x20, 0x28, 0x30, 0x35, 0x40, 0x48, 0x90, 0xA7].all isMaster = true ∧
    [0x00, 0x02, 0x0F, 0x19, 0x29, 0x36, 0x3F, 0x49, 0x98, 0xA8].all (fun m => !isMaster m) = true := by decide

/-- Statement StepRunsFront: its hypotheses are met. -/
theorem wit_StepRunsFront1 :
    ∃ c rest s, (s : State).pending = c :: rest :=
  ⟨.ptpSecondCarry, [], { State.reset with pending := [.ptpSecondCarry] }, rfl⟩

/-- Statement StepRunsFront: its hypotheses are met. -/
theorem wit_StepRunsFront2 :
    ∃ s : State, s.pending = [] :=
  ⟨State.reset, rfl⟩

/-- Statement WriteStores: its hypotheses are met. -/
theorem wit_WriteStores :
    ∃ (dt m a : Nat) (v : Word) (s : State) (d : RegDesc) (i j : Nat), (s.toWrite dt m a v).opens m true a = true ∧ regAt a = some (d, i, j) ∧ storesOnly d.tag i = true ∧ v &&& ~~~d.live = 0 :=
  ⟨0, 0x42, Reg.SYS_SCRATCH, 7, running, ⟨.SYS_SCRATCH, 0x1C, 1, 0, 1, 0, 0xFFFFFFFF, 0, 0, 0xFFFFFFFF, 0⟩, 0, 0, by decide, by decide, by decide, by decide⟩

/-- Statement SetViewsIgnoreWrites: its hypotheses are met. -/
theorem wit_SetViewsIgnoreWrites :
    ∃ (dt m a : Nat) (s : State) (d : RegDesc) (i j : Nat), (s.toWrite dt m a 0).opens m true a = true ∧ regAt a = some (d, i, j) ∧ showsSet d.tag = true :=
  ⟨0, 0x42, Reg.CH_CFG 3, running, ⟨.CH_CFG, 0xD0000, 32, 0x80, 1, 0, 0, 0, 0, 0xFFFFFFFF, 0⟩, 3, 0, by decide, by decide, by decide⟩

/-- Statement LoReadLatchesHigh: its hypotheses are met. -/
theorem wit_LoReadLatchesHigh :
    ∃ (s : State) (d : RegDesc), (s.toRead 0 0x42 Reg.SYS_SERIAL_LO).opens 0x42 false Reg.SYS_SERIAL_LO = true ∧ regAt Reg.SYS_SERIAL_LO = some (d, 0, 0) ∧ actsOnRead d.tag = false ∧ d.rc = 0 ∧ (s.toRead 0 0x42 Reg.SYS_SERIAL_LO).flipsAt Reg.SYS_SERIAL_LO = (0, 0, 0) ∧ captured d.tag Reg.SYS_SERIAL_LO = [Reg.SYS_SERIAL_HI] :=
  ⟨running, ⟨.SYS_SERIAL_LO, 8, 1, 0, 1, 0, 0, 0, 0, 0xFFFFFFFF, 0⟩, by decide, by decide, by decide, by decide, by decide, by decide⟩

/-- Statement HighWriteStoresBothHalves: its hypotheses are met. -/
theorem wit_HighWriteStoresBothHalves :
    ∃ (s : State) (v : Word), (s.toWrite 0 0x42 Reg.SYS_SVC_MAC_LO v).opens 0x42 true Reg.SYS_SVC_MAC_LO = true ∧ (s.toWrite 0 0x42 Reg.SYS_SVC_MAC_HI v).opens 0x42 true Reg.SYS_SVC_MAC_HI = true ∧ (s.toWrite 0 0x42 (Reg.TRV_MAC_LO 3) v).opens 0x42 true (Reg.TRV_MAC_LO 3) = true ∧ (s.toWrite 0 0x42 (Reg.TRV_MAC_HI 3) v).opens 0x42 true (Reg.TRV_MAC_HI 3) = true ∧ v.toNat < 2 ^ 16 :=
  ⟨running, 0xFFFF, by decide, by decide, by decide, by decide, by decide⟩

/-- Statement RcReadClears: its hypotheses are met. -/
theorem wit_RcReadClears :
    ∃ (s : State) (d : RegDesc), (s.toRead 0 0x42 (Reg.DAT_JUMP_CNT 7)).opens 0x42 false (Reg.DAT_JUMP_CNT 7) = true ∧ regAt (Reg.DAT_JUMP_CNT 7) = some (d, 7, 0) ∧ actsOnRead d.tag = false ∧ d.rc ≠ 0 ∧ (s.toRead 0 0x42 (Reg.DAT_JUMP_CNT 7)).flipsAt (Reg.DAT_JUMP_CNT 7) = (0, 0, 0) ∧ sget none (s.toRead 0 0x42 (Reg.DAT_JUMP_CNT 7)).rlat (latchKey 0x42 (Reg.DAT_JUMP_CNT 7)) = none :=
  ⟨running, ⟨.DAT_JUMP_CNT, 0x4006C, 8, 0x200, 1, 0, 0, 0, 0xFFFFFFFF, 0xFFFFFFFF, 0⟩, by decide, by decide, by decide, by decide, by decide, by decide⟩

/-- Statement VoteMasksOneCopy: its hypotheses are met. -/
theorem wit_VoteMasksOneCopy :
    ∃ (a : Nat) (x : Word) (s : State) (d : RegDesc), regAt a = some (d, 0, 0) ∧ x &&& votedBits d.tag ≠ 0 ∧ actsOnRead d.tag = false ∧ (s.toRead 0 0x42 a).flips = [] ∧ (s.advance 0).flips = [] ∧ (s.toRead 0 0x42 a).opens 0x42 false a = true :=
  ⟨Reg.PAIR_ROLE, 1, running, ⟨.PAIR_ROLE, 0xC0000, 1, 0, 1, 0, 0, 0, 0, 0x177, 0x70⟩, by decide, by decide, by decide, by decide, by decide, by decide⟩

/-- Statement RefusedWriteIsAViolation: its hypotheses are met. -/
theorem wit_RefusedWriteIsAViolation1 :
    ∃ (m a : Nat) (s : State), m ≠ 0x42 ∧ a < sramBase ∧ (s.toWrite 0 m a 0).issues m = true ∧ (s.toWrite 0 m a 0).mpuRefuses m 1 a 4 = none ∧ (s.toWrite 0 m a 0).present m a = false :=
  ⟨0x40, 0x130000, running, by decide, by decide, by decide, by decide, by decide⟩

/-- Statement RefusedWriteIsAViolation: its hypotheses are met. -/
theorem wit_RefusedWriteIsAViolation2 :
    ∃ (a : Nat) (s : State), a < sramBase ∧ (s.toWrite 0 0x42 a 0).issues 0x42 = true ∧ (s.toWrite 0 0x42 a 0).mpuRefuses 0x42 1 a 4 = none ∧ (s.toWrite 0 0x42 a 0).present 0x42 a = false :=
  ⟨0x130000, running, by decide, by decide, by decide, by decide⟩

/-- Statement ViolationCapture: its hypotheses are met. -/
theorem wit_ViolationCapture1 :
    ∃ s : State, s.viols.clk ≠ some s.sclk ∧ s.reg Reg.SYS_VIOL_STS = 0 ∧ (s.toWrite 0 0x42 Reg.SYS_VIOL_STS 1).opens 0x42 true Reg.SYS_VIOL_STS = true ∧ (s.toWrite 0 0x42 Reg.SYS_VIOL_STS 1).viols.clk ≠ some (s.toWrite 0 0x42 Reg.SYS_VIOL_STS 1).sclk :=
  ⟨running, by decide, by decide, by decide, by decide⟩

/-- Statement ViolationCapture: its hypotheses are met. -/
theorem wit_ViolationCapture2 :
    ∃ s : State, s.viols.clk ≠ some s.sclk ∧ s.regB Reg.SYS_VIOL_STS 0 = true :=
  ⟨running.setReg Reg.SYS_VIOL_STS 1, by decide, by decide⟩

/-- Statement PcieResetAndLink: its hypotheses are met. -/
theorem wit_PcieResetAndLink :
    ∃ s : State, (s.advance 0).pcieThere = true ∧ (s.advance 0).reg (Reg.MSIX_PBA 0) = 0 ∧ (s.advance 0).reg (Reg.MSIX_PBA 1) = 0 :=
  ⟨running, by decide, by decide, by decide⟩

/-- Statement PendingVectorsAreSentOnce: its hypotheses are met. -/
theorem wit_PendingVectorsAreSentOnce :
    ∃ s : State, (s.advance 0).pcieThere = true ∧ (s.advance 0).regB Reg.SYS_PCIE_STS 0 = true ∧ (s.advance 0).pendingBit 40 = true ∧ (s.clock 0 [⟨.access, 0x42, 0⟩]).opens 0x42 true (Reg.MSIX_TABLE (4 * 63 + 3)) = true :=
  ⟨(running.setReg Reg.SYS_PCIE_STS 1).setReg (Reg.MSIX_PBA 1) 0x100, by decide, by decide, by decide, by decide⟩

/-- Statement TlpIsARunOfAccesses: its hypotheses are met. -/
theorem wit_TlpIsARunOfAccesses1 :
    ∃ (s u t : State) (w : Word), s.clock 0 ((s.advance 0).tlpEvs false false Reg.SYS_ID 4 []) = u ∧ u.pcieThere = true ∧ u.access 0x42 false Reg.SYS_ID 0 = .done t w :=
  ⟨running, _, _, _, rfl, by decide, rfl⟩

/-- Statement TlpIsARunOfAccesses: its hypotheses are met. -/
theorem wit_TlpIsARunOfAccesses2 :
    ∃ (s u t : State) (x : Bool), s.clock 0 ((s.advance 0).tlpEvs false false 0x130000 4 []) = u ∧ u.pcieThere = true ∧ u.access 0x42 false 0x130000 0 = .refused t x :=
  ⟨running, _, _, _, rfl, by decide, rfl⟩

/-- Statement TlpIsARunOfAccesses: its hypotheses are met. -/
theorem wit_TlpIsARunOfAccesses3 :
    ∃ (s u t t' : State) (w w' : Word), s.clock 0 ((s.advance 0).tlpEvs true false Reg.SYS_SCRATCH 8 ((wordBytes 5 ++ wordBytes 0).map (BitVec.ofNat 8))) = u ∧ u.pcieThere = true ∧ u.access 0x42 true Reg.SYS_SCRATCH 5 = .done t w ∧ t.access 0x42 true (Reg.SYS_SCRATCH + 4) 0 = .done t' w' :=
  ⟨running, _, _, _, _, _, rfl, by decide, rfl, rfl⟩

/-- Statement TlpIsARunOfAccesses: its hypotheses are met. -/
theorem wit_TlpIsARunOfAccesses4 :
    ∃ (s u t : State) (x : Bool), s.clock 0 ((s.advance 0).tlpEvs true false 0x130000 8 ((wordBytes 5 ++ wordBytes 0).map (BitVec.ofNat 8))) = u ∧ u.pcieThere = true ∧ u.access 0x42 true 0x130000 5 = .refused t x :=
  ⟨running, _, _, _, rfl, by decide, rfl⟩

/-- Statement RemoteRegisterAccess: its hypotheses are met. -/
theorem wit_RemoteRegisterAccess1 :
    ∃ (s u t : State) (w : Word), s.clock 0 ((s.advance 0).rraEvs 0x43 [1, 1, 0, 0, 0, 0, 0, 0, 0, 0, 0, 0]) = u ∧ u.svcTakes 0 0x88B5 = true ∧ u.pwr.recovery = false ∧ u.regB Reg.SYS_RRA_CTL 4 = true ∧ u.access 0x43 false Reg.SYS_ID 0 = .done t w :=
  ⟨served, _, _, _, rfl, by decide, by decide, by decide, rfl⟩

/-- Statement RemoteRegisterAccess: its hypotheses are met. -/
theorem wit_RemoteRegisterAccess2 :
    ∃ (s u t : State), s.clock 0 ((s.advance 0).rraEvs 0x43 [1, 1, 0, 0, 0, 0, 0x13, 0, 0, 0, 0, 0]) = u ∧ u.svcTakes 0 0x88B5 = true ∧ u.pwr.recovery = false ∧ u.regB Reg.SYS_RRA_CTL 4 = true ∧ u.access 0x43 false 0x130000 0 = .refused t true :=
  ⟨served, _, _, rfl, by decide, by decide, by decide, rfl⟩

/-- Statement RemoteRegisterAccess: its hypotheses are met. -/
theorem wit_RemoteRegisterAccess3 :
    ∃ (s u : State), s.clock 0 ((s.advance 0).rraEvs 0x43 []) = u ∧ u.svcTakes 0 0x88B5 = true ∧ u.pwr.recovery = false ∧ u.regB Reg.SYS_RRA_CTL 4 = true ∧ (rraReq []).malformed = true :=
  ⟨served, _, rfl, by decide, by decide, by decide, by decide⟩

/-- Statement RemoteRegisterAccess: its hypotheses are met. -/
theorem wit_RemoteRegisterAccess4 :
    ∃ (s u : State), s.clock 0 ((s.advance 0).rraEvs 0x43 []) = u ∧ u.svcTakes 0 0x88B5 = true ∧ u.pwr.recovery = false ∧ u.regB Reg.SYS_RRA_CTL 4 = false :=
  ⟨served.setReg Reg.SYS_RRA_CTL 0, _, rfl, by decide, by decide, by decide⟩

/-- Statement RemoteRegisterAccess: its hypotheses are met. -/
theorem wit_RemoteRegisterAccess5 :
    ∃ (s u t : State) (w : Word) (h : Hdr), (s.clock 0 ((s.advance 0).rraEvs 0x40 [1, 1, 0, 0, 0, 0, 0, 0, 0, 0, 0, 0])).received 1 h.vid.isSome 32 = u ∧ h.etype = u.regF Reg.TRV_SW_ETYPE 15 0 ∧ u.hasPort 1 = true ∧ u.regB (Reg.TRV_STS 1) 0 = true ∧ u.tagOk 1 h = true ∧ h.ver = 1 ∧ h.dst = u.ownAddr ∧ h.slot = u.slotId ∧ u.regB Reg.SYS_RRA_CTL 1 = true ∧ u.access 0x40 false Reg.SYS_ID 0 = .done t w :=
  ⟨served, _, _, _, { slot := 0, src := 5, dst := 0, epoch := 0 }, rfl, by decide, by decide, by decide, by decide, rfl, by decide, by decide, by decide, rfl⟩

/-- Statement MailboxPostTakeReset: its hypotheses are met. -/
theorem wit_MailboxPostTakeReset1 :
    ∃ s u w : State, s.toWrite 0 0x42 (Reg.MBX_POST 7) 0x110 = u ∧ u.opens 0x42 true (Reg.MBX_POST 7) = true ∧ u.mbxGo 7 = false ∧ s.toWrite 0 0x42 (Reg.MBX_TAKE 15) 1 = w ∧ w.opens 0x42 true (Reg.MBX_TAKE 15) = true :=
  ⟨running, _, _, rfl, by decide, by decide, rfl, by decide⟩

/-- Statement MailboxPostTakeReset: its hypotheses are met. -/
theorem wit_MailboxPostTakeReset2 :
    ∃ s u v w : State, s.toWrite 0 0x42 (Reg.MBX_POST 0) 0x100 = u ∧ u.opens 0x42 true (Reg.MBX_POST 0) = true ∧ u.mbxGo 0 = true ∧ s.toWrite 0 0x42 (Reg.MBX_HRST 0) 1 = v ∧ v.opens 0x42 true (Reg.MBX_HRST 0) = true ∧ v.mbxGo 0 = true ∧ s.toWrite 0 0x42 (Reg.MBX_HRST 15) 1 = w ∧ w.mbxGo 15 = true ∧ w.opens 0x42 true (Reg.MBX_HRST 15) = true :=
  ⟨(running.setReg (Reg.MBX_STS 0) 1).setReg (Reg.MBX_STS 15) 1, _, _, _, rfl, by decide, by decide, rfl, by decide, by decide, rfl, by decide, by decide⟩

/-- Statement MpTakesAndPosts: its hypotheses are met. -/
theorem wit_MpTakesAndPosts1 :
    ∃ s u : State, s.clock 0 (s.advance 0).takeEvs = u ∧ u.mpReady = true ∧ u.mbxGo ((u.mp.served + 1 + 2) % 8) = true ∧ (∀ j < 2, (u.mbxGo ((u.mp.served + 1 + j) % 8) && decide ((u.mpPair ((u.mp.served + 1 + j) % 8)).cmds.length < 4)) = false) ∧ catalogue.contains ((item (u.mbxWords ((u.mp.served + 1 + 2) % 8) (u.mbxLen ((u.mp.served + 1 + 2) % 8))) 0).fld 15 0) = true :=
  ⟨posted, _, rfl, by decide, by decide, by decide, by decide⟩

/-- Statement MpTakesAndPosts: its hypotheses are met. -/
theorem wit_MpTakesAndPosts2 :
    ∃ (s u : State) (c : Cmd), s.clock 0 ((s.advance 0).postEvs 0 none) = u ∧ u.mpReady = true ∧ u.mbxGo 8 = false ∧ (u.mpPair 0).cmds.find? (fun x => x.stage = .done) = some c ∧ c.response.length ≤ 16 ∧ u.closes c none = true :=
  ⟨({ commanded with mp := { pairs := [(0, { cmds := [{ id := 3, words := [1, 2], stage := .done, response := [9], again := true }] })] } } : State), _, _, rfl, by decide, by decide, rfl, by decide, by decide⟩

/-- Statement MpTakesAndPosts: its hypotheses are met. -/
theorem wit_MpTakesAndPosts3 :
    ∃ (s u : State) (c : Cmd), s.clock 0 ((s.advance 0).postEvs 0 (some c.digest)) = u ∧ u.comparing 0 = true ∧ c.again = false ∧ u.closes c (some c.digest) = true ∧ (u.mpPair 0).cmds.find? (fun x => x.stage = .done) = some c :=
  ⟨({ commanded with mp := { pairs := [(0, { cmds := [{ id := 3, words := [1, 2], stage := .done, response := [9] }] })] } } : State), _, { id := 3, words := [1, 2], stage := .done, response := [9] }, rfl, by decide, rfl, by simp [State.closes, digestsAgree], by decide⟩

/-- Statement StatusCommandsAnswer: its hypotheses are met. -/
theorem wit_StatusCommandsAnswer1 :
    ∃ (s : State) (c : Cmd), (s.advance 0).starts 0 c 0x0001 0 ((s.advance 0).startCmd 0 c.id) :=
  ⟨asked 0x0001 [], cmd 0x0001 [], by decide, by decide, rfl⟩

/-- Statement StatusCommandsAnswer: its hypotheses are met. -/
theorem wit_StatusCommandsAnswer2 :
    ∃ (s : State) (c : Cmd), (s.advance 0).starts 0 c 0x0304 1 ((s.advance 0).startCmd 0 c.id) :=
  ⟨asked 0x0304 [0], cmd 0x0304 [0], by decide, by decide, rfl⟩

/-- Statement ReadingCommandsAnswer: its hypotheses are met. -/
theorem wit_ReadingCommandsAnswer1 :
    ∃ (s : State) (c : Cmd), (s.advance 0).starts 0 c 0x0106 2 ((s.advance 0).startCmd 0 c.id) :=
  ⟨asked 0x0106 [0x301, 1], cmd 0x0106 [0x301, 1], by decide, by decide, rfl⟩

/-- Statement ReadingCommandsAnswer: its hypotheses are met. -/
theorem wit_ReadingCommandsAnswer2 :
    ∃ (s : State) (c : Cmd), (s.advance 0).starts 0 c 0x0902 1 ((s.advance 0).startCmd 0 c.id) :=
  ⟨asked 0x0902 [3], cmd 0x0902 [3], by decide, by decide, rfl⟩

/-- Statement ReadingCommandsAnswer: its hypotheses are met. -/
theorem wit_ReadingCommandsAnswer3 :
    ∃ (s : State) (c : Cmd), (s.advance 0).starts 0 c 0x0106 2 ((s.advance 0).startCmd 0 c.id) ∧ 0 + c.n 5 ≤ itemWords ((c.w 4).fld 3 0) ((c.w 4).fld 20 8) ∧ 1 ≤ (c.w 4).fld 3 0 :=
  ⟨asked 0x0106 [0x301, 5], cmd 0x0106 [0x301, 5], ⟨by decide, by decide, rfl⟩, by decide, by decide⟩

/-- Statement ReadingCommandsAnswer: its hypotheses are met. -/
theorem wit_ReadingCommandsAnswer4 :
    ∃ (s : State) (c : Cmd), (s.advance 0).starts 0 c 0x0501 1 ((s.advance 0).startCmd 0 c.id) ∧ (s.advance 0).hasGroup 1 = true ∧ (s.advance 0).domainOn 9 = true ∧ c.n 4 ≤ 31 :=
  ⟨asked 0x0501 [31], cmd 0x0501 [31], ⟨by decide, by decide, rfl⟩, by decide, by decide, by decide⟩

/-- Statement ConfigurationCommands: its hypotheses are met. -/
theorem wit_ConfigurationCommands1 :
    ∃ (s : State) (c : Cmd) (v : State), (s.advance 0).starts 0 c 0x0101 0 v ∧ v.configRole = true ∧ v.mp.session = 0 :=
  ⟨asked 0x0101 [], cmd 0x0101 [], (asked 0x0101 []).advance 0 |>.startCmd 0 5, ⟨by decide, by decide, rfl⟩, by decide, by decide⟩

/-- Statement ConfigurationCommands: its hypotheses are met. -/
theorem wit_ConfigurationCommands2 :
    ∃ (s : State) (c : Cmd) (v : State), (s.advance 0).starts 0 c 0x0105 1 v ∧ v.configRole = true ∧ v.inSession c = true ∧ v.mp.swap = none ∧ 0 + (c.words.drop 5).length ≤ itemWords ((c.w 4).fld 3 0) ((c.w 4).fld 20 8) :=
  ⟨inSess 0x0105 [0x301, 9], cmd 0x0105 [0x301, 9], (inSess 0x0105 [0x301, 9]).advance 0 |>.startCmd 0 5, ⟨by decide, by decide, rfl⟩, by decide, by decide, by decide, by decide⟩

/-- Statement ConfigurationCommands: its hypotheses are met. -/
theorem wit_ConfigurationCommands3 :
    ∃ (s : State) (c : Cmd) (v : State), (s.advance 0).starts 0 c 0x0110 4 v ∧ v.configRole = true ∧ v.inSession c = true ∧ v.mp.swap = none ∧ v.handArmed = false ∧ v.triggerCheck c = none ∧ v.checkSet ((c.w 4).fld 6 0) (v.resulting ((c.w 4).fld 6 0)) = none :=
  ⟨inSess 0x0110 [0x100, 0, 0, 0], cmd 0x0110 [0x100, 0, 0, 0], (inSess 0x0110 [0x100, 0, 0, 0]).advance 0 |>.startCmd 0 5, ⟨by decide, by decide, rfl⟩, by decide, by decide, by decide, by decide, by decide, by decide⟩

/-- Statement ConfigurationCommands: its hypotheses are met. -/
theorem wit_ConfigurationCommands4 :
    ∃ (s : State) (c : Cmd) (v : State) (a : ArmedSwap), (s.advance 0).starts 0 c 0x0111 0 v ∧ v.configRole = true ∧ v.testTrigger.mp.swap = some a ∧ a.fallen = none :=
  ⟨{ asked 0x0111 [] with mp := { (asked 0x0111 []).mp with swap := some ⟨1, .task 3, 9, 0, none, 0, 0⟩ } }, cmd 0x0111 [], (({ asked 0x0111 [] with mp := { (asked 0x0111 []).mp with swap := some ⟨1, .task 3, 9, 0, none, 0, 0⟩ } } : State).advance 0).startCmd 0 5, _, ⟨by decide, by decide, rfl⟩, by decide, rfl, rfl⟩

/-- Statement ConfigurationCommands: its hypotheses are met. -/
theorem wit_ConfigurationCommands5 :
    ∃ (s : State) (c : Cmd) (v : State), (s.advance 0).starts 0 c 0x0107 4 v ∧ v.bulkCheck c = none :=
  ⟨(inSess 0x0107 [1, 0, 4, 0]).setReg (Reg.BNK_OWN 0) 1, cmd 0x0107 [1, 0, 4, 0], ((inSess 0x0107 [1, 0, 4, 0]).setReg (Reg.BNK_OWN 0) 1).advance 0 |>.startCmd 0 5, ⟨by decide, by decide, rfl⟩, by decide⟩

/-- Statement ProgramValueAndForceCommands: its hypotheses are met. -/
theorem wit_ProgramValueAndForceCommands1 :
    ∃ (s : State) (c : Cmd) (v : State), (s.advance 0).starts 0 c 0x0202 2 v ∧ v.loadRole = true ∧ c.n 4 ≤ storeBytes :=
  ⟨({ (asked 0x0202 [100, 1]).setReg Reg.PAIR_ROLE 6 with plm := {} } : State), cmd 0x0202 [100, 1], (({ (asked 0x0202 [100, 1]).setReg Reg.PAIR_ROLE 6 with plm := {} } : State).advance 0).startCmd 0 5, ⟨by decide, by decide, rfl⟩, by decide, by decide⟩

/-- Statement ProgramValueAndForceCommands: its hypotheses are met. -/
theorem wit_ProgramValueAndForceCommands2 :
    ∃ (s : State) (c : Cmd) (v : State), (s.advance 0).starts 0 c 0x0203 5 v ∧ v.blockLoadCheck c = none :=
  ⟨({ (asked 0x0203 [0, 0, 4, 0, 0]).setReg (Reg.BNK_OWN 0) 1 with pair := { loaded := some { size := 4, crc := 0 } } } : State), cmd 0x0203 [0, 0, 4, 0, 0], (({ (asked 0x0203 [0, 0, 4, 0, 0]).setReg (Reg.BNK_OWN 0) 1 with pair := { loaded := some { size := 4, crc := 0 } } } : State).advance 0).startCmd 0 5, ⟨by decide, by decide, rfl⟩, by decide⟩

/-- Statement ProgramValueAndForceCommands: its hypotheses are met. -/
theorem wit_ProgramValueAndForceCommands3 :
    ∃ (s : State) (c : Cmd) (v : State), (s.advance 0).starts 0 c 0x0211 3 v ∧ v.runs = true ∧ (v.symbol (c.n 4)).isSome = true ∧ v.mayWriteVal ⟨1, 3, 0, 16, 0, 0⟩ = true ∧ v.symbol (c.n 4) = some ⟨1, 3, 0, 16, 0, 0⟩ ∧ canForce ⟨1, 3, 0, 16, 0, 0⟩ = true ∧ v.plm.forces.length < 256 :=
  ⟨({ (asked 0x0211 [0, 7, 0]) with prog := { syms := [⟨1, 3, 0, 16, 0, 0⟩] } } : State), cmd 0x0211 [0, 7, 0], (({ (asked 0x0211 [0, 7, 0]) with prog := { syms := [⟨1, 3, 0, 16, 0, 0⟩] } } : State).advance 0).startCmd 0 5, ⟨by decide, by decide, rfl⟩, by decide, by decide, by decide, by decide, by decide, by decide⟩

/-- Statement ProgramValueAndForceCommands: its hypotheses are met. -/
theorem wit_ProgramValueAndForceCommands4 :
    ∃ (s : State) (c : Cmd) (v : State), (s.advance 0).starts 0 c 0x0212 3 v ∧ v.runs = true ∧ v.constWords (c.n 4) = some 1 ∧ v.constPairs ≠ [] :=
  ⟨({ (asked 0x0212 [4, 7, 0]) with prog := { konst := [(4, 1)] } } : State), cmd 0x0212 [4, 7, 0], (({ (asked 0x0212 [4, 7, 0]) with prog := { konst := [(4, 1)] } } : State).advance 0).startCmd 0 5, ⟨by decide, by decide, rfl⟩, by decide, by decide, by decide⟩

/-- Statement ProgramValueAndForceCommands: its hypotheses are met. -/
theorem wit_ProgramValueAndForceCommands5 :
    ∃ (s : State) (c : Cmd) (v : State), (s.advance 0).starts 0 c 0x0220 3 v ∧ lpdCheck c = none ∧ (v.memAccess 1 false c.addr (c.n 6) []).2 = .data [0, 0, 0, 0] :=
  ⟨(asked 0x0220 [0, 1, 4]), cmd 0x0220 [0, 1, 4], ((asked 0x0220 [0, 1, 4]).advance 0).startCmd 0 5, ⟨by decide, by decide, rfl⟩, by decide, by decide +kernel⟩

/-- Statement ProgramValueAndForceCommands: its hypotheses are met. -/
theorem wit_ProgramValueAndForceCommands6 :
    ∃ (s : State) (c : Cmd) (v : State), (s.advance 0).starts 0 c 0x0221 3 v ∧ lpdCheck c = none ∧ 7 + (c.n 6 + 3) / 4 ≤ c.words.length ∧ (v.memAccess 1 true c.addr (c.n 6) ((((c.words.drop 7).flatMap wordBytes).map (BitVec.ofNat 8)).take (c.n 6))).2 = .data [] :=
  ⟨(asked 0x0221 [0, 1, 4, 9]), cmd 0x0221 [0, 1, 4, 9], ((asked 0x0221 [0, 1, 4, 9]).advance 0).startCmd 0 5, ⟨by decide, by decide, rfl⟩, by decide, by decide, by decide +kernel⟩

/-- Statement ProgramValueAndForceCommands: its hypotheses are met. -/
theorem wit_ProgramValueAndForceCommands7 :
    ∃ (s : State) (c : Cmd) (v : State), (s.advance 0).starts 0 c 0x0302 1 v ∧ (v.symbol (c.n 4)).isSome = true ∧ (v.plm.forces.any (fun f => f.sym = c.n 4)) = true :=
  ⟨({ (asked 0x0302 [0]) with prog := { syms := [⟨1, 3, 0, 16, 0, 0⟩] }, plm := { forces := [⟨0, 5⟩] } } : State), cmd 0x0302 [0], (({ (asked 0x0302 [0]) with prog := { syms := [⟨1, 3, 0, 16, 0, 0⟩] }, plm := { forces := [⟨0, 5⟩] } } : State).advance 0).startCmd 0 5, ⟨by decide, by decide, rfl⟩, by decide, by decide⟩

/-- Statement UnitCommands: its hypotheses are met. -/
theorem wit_UnitCommands1 :
    ∃ (s : State) (c : Cmd) (v : State), (s.advance 0).starts 0 c 0x0402 1 v ∧ c.n 4 ≤ 7 :=
  ⟨(asked 0x0402 [7]), cmd 0x0402 [7], ((asked 0x0402 [7]).advance 0).startCmd 0 5, ⟨by decide, by decide, rfl⟩, by decide⟩

/-- Statement UnitCommands: its hypotheses are met. -/
theorem wit_UnitCommands2 :
    ∃ (s : State) (c : Cmd) (v : State), (s.advance 0).starts 0 c 0x0502 1 v ∧ c.n 4 ≤ 31 ∧ v.hasGroup (grpOf 31) = true ∧ v.domainOn 9 = true ∧ (v.chan 31).retired = true :=
  ⟨({ (asked 0x0502 [31]) with chans := [(31, { retired := true })] } : State), cmd 0x0502 [31], (({ (asked 0x0502 [31]) with chans := [(31, { retired := true })] } : State).advance 0).startCmd 0 5, ⟨by decide, by decide, rfl⟩, by decide, by decide, by decide, by decide⟩

/-- Statement UnitCommands: its hypotheses are met. -/
theorem wit_UnitCommands3 :
    ∃ (s : State) (c : Cmd) (v : State), (s.advance 0).starts 0 c 0x0503 3 v ∧ v.hasGroup (grpOf 0) = true ∧ v.domainOn 9 = true ∧ v.noTrim 0 = false :=
  ⟨({ (asked 0x0503 [0, 0, 0]) with cfgA := [(cfgKey 1 0 0, 4)] } : State), cmd 0x0503 [0, 0, 0], (({ (asked 0x0503 [0, 0, 0]) with cfgA := [(cfgKey 1 0 0, 4)] } : State).advance 0).startCmd 0 5, ⟨by decide, by decide, rfl⟩, by decide, by decide, by decide⟩

/-- Statement UnitCommands: its hypotheses are met. -/
theorem wit_UnitCommands4 :
    ∃ (s : State) (c : Cmd) (v : State), (s.advance 0).starts 0 c 0x0505 2 v ∧ c.n 5 ≤ 200 ∧ v.supply (grpOf 0) = 1 ∧ v.chState 0 = 1 :=
  ⟨({ ((asked 0x0505 [0, 200]).setReg (Reg.GRP_STS 0) 1).setReg (Reg.GRP_CTL 0) 1 with cfgA := [(cfgKey 1 0 0, 4)] } : State), cmd 0x0505 [0, 200], (({ ((asked 0x0505 [0, 200]).setReg (Reg.GRP_STS 0) 1).setReg (Reg.GRP_CTL 0) 1 with cfgA := [(cfgKey 1 0 0, 4)] } : State).advance 0).startCmd 0 5, ⟨by decide, by decide, rfl⟩, by decide, by decide, by decide⟩

/-- Statement UnitCommands: its hypotheses are met. -/
theorem wit_UnitCommands5 :
    ∃ (s : State) (c : Cmd) (v : State), (s.advance 0).starts 0 c 0x0702 1 v ∧ 1 ≤ c.n 4 ∧ c.n 4 ≤ 1440 :=
  ⟨(asked 0x0702 [1440]), cmd 0x0702 [1440], ((asked 0x0702 [1440]).advance 0).startCmd 0 5, ⟨by decide, by decide, rfl⟩, by decide, by decide⟩

/-- Statement UnitCommands: its hypotheses are met. -/
theorem wit_UnitCommands6 :
    ∃ (s : State) (c : Cmd) (v : State), (s.advance 0).starts 0 c 0x0703 6 v ∧ v.recCheck c = none :=
  ⟨((asked 0x0703 [1, 2047, 1, 23, 0, 0]).setReg (Reg.BNK_OWN 23) 1 : State), cmd 0x0703 [1, 2047, 1, 23, 0, 0], (((asked 0x0703 [1, 2047, 1, 23, 0, 0]).setReg (Reg.BNK_OWN 23) 1 : State).advance 0).startCmd 0 5, ⟨by decide, by decide, rfl⟩, by decide⟩

/-- Statement UnitCommands: its hypotheses are met. -/
theorem wit_UnitCommands7 :
    ∃ (s : State) (c : Cmd) (v : State), (s.advance 0).starts 0 c 0x0802 4 v ∧ c.n 4 ≤ 1 ∧ c.n 5 < 1000000000 ∧ c.n 7 ≤ 0xFFFF ∧ v.holdsImage (c.n 4) = true :=
  ⟨(asked 0x0802 [0, 999999999, 1, 0xFFFF]), cmd 0x0802 [0, 999999999, 1, 0xFFFF], ((asked 0x0802 [0, 999999999, 1, 0xFFFF]).advance 0).startCmd 0 5, ⟨by decide, by decide, rfl⟩, by decide, by decide, by decide, by decide⟩

/-- Statement UnitCommands: its hypotheses are met. -/
theorem wit_UnitCommands8 :
    ∃ (s : State) (c : Cmd) (v : State), (s.advance 0).starts 0 c 0x0803 0 v ∧ v.activationEvs = [] ∧ v.regB Reg.UPD_ACT_EXT 17 = true :=
  ⟨(((asked 0x0803 []).setReg Reg.UPD_ACT_EXT 0x20000).setReg Reg.UPD_ACT_SEC 9 : State), cmd 0x0803 [], ((((asked 0x0803 []).setReg Reg.UPD_ACT_EXT 0x20000).setReg Reg.UPD_ACT_SEC 9 : State).advance 0).startCmd 0 5, ⟨by decide, by decide, rfl⟩, by decide, by decide⟩

/-- Statement UnitCommands: its hypotheses are met. -/
theorem wit_UnitCommands9 :
    ∃ (s : State) (c : Cmd) (v : State), (s.advance 0).starts 0 c 0x0804 1 v ∧ c.ctls.all (fun k => v.hasCtl k) = true :=
  ⟨(asked 0x0804 [0x8001]), cmd 0x0804 [0x8001], ((asked 0x0804 [0x8001]).advance 0).startCmd 0 5, ⟨by decide, by decide, rfl⟩, by decide⟩

/-- Statement UnitCommands: its hypotheses are met. -/
theorem wit_UnitCommands10 :
    ∃ (s : State) (c : Cmd) (v : State), (s.advance 0).starts 0 c 0x0901 1 v ∧ v.testRole = true :=
  ⟨((asked 0x0901 [0xFF]).setReg Reg.PAIR_ROLE 3 : State), cmd 0x0901 [0xFF], (((asked 0x0901 [0xFF]).setReg Reg.PAIR_ROLE 3 : State).advance 0).startCmd 0 5, ⟨by decide, by decide, rfl⟩, by decide⟩

/-- Statement UnitCommands: its hypotheses are met. -/
theorem wit_UnitCommands11 :
    ∃ (s : State) (c : Cmd) (v : State), (s.advance 0).starts 0 c 0x0903 1 v ∧ c.n 4 = 0x27 ∧ v.cmpState (cmpIndex 0x27) = 0 ∧ (v.reg (Reg.CMP_Px_STS (cmpIndex 0x27))).bit 3 = false ∧ (v.chk (cmpIndex 0x27)).change = none ∧ v.pairPresent (cmpIndex 0x27) = true :=
  ⟨(asked 0x0903 [0x27]), cmd 0x0903 [0x27], ((asked 0x0903 [0x27]).advance 0).startCmd 0 5, ⟨by decide, by decide, rfl⟩, by decide, by decide, by decide, by decide, by decide⟩

/-- Statement UnitCommands: its hypotheses are met. -/
theorem wit_UnitCommands12 :
    ∃ (s : State) (c : Cmd) (v : State), (s.advance 0).starts 0 c 0x0904 1 v ∧ v.cmpState (cmpIndex 0x10) = 3 ∧ (v.chk (cmpIndex 0x10)).change = none :=
  ⟨((asked 0x0904 [0x10]).setCmpState 1 3 : State), cmd 0x0904 [0x10], (((asked 0x0904 [0x10]).setCmpState 1 3 : State).advance 0).startCmd 0 5, ⟨by decide, by decide, rfl⟩, by decide, by decide⟩

/-- Statement UnitCommands: its hypotheses are met. -/
theorem wit_UnitCommands13 :
    ∃ (s : State) (c : Cmd) (v : State), (s.advance 0).starts 0 c 0x0910 1 v ∧ c.w 4 = 0x00004D50 :=
  ⟨(asked 0x0910 [0x4D50]), cmd 0x0910 [0x4D50], ((asked 0x0910 [0x4D50]).advance 0).startCmd 0 5, ⟨by decide, by decide, rfl⟩, by decide⟩

/-- Statement PairCommands: its hypotheses are met. -/
theorem wit_PairCommands1 :
    ∃ (s : State) (c : Cmd) (v : State), (s.advance 0).starts 0 c 0x0602 4 v ∧ v.role = 2 ∧ v.mp.swap = none ∧ v.handArmed = false ∧ v.triggerCheck c = none :=
  ⟨((asked 0x0602 [0x100, 0, 0, 0]).setReg Reg.PAIR_ROLE 2 : State), cmd 0x0602 [0x100, 0, 0, 0], (((asked 0x0602 [0x100, 0, 0, 0]).setReg Reg.PAIR_ROLE 2 : State).advance 0).startCmd 0 5, ⟨by decide, by decide, rfl⟩, by decide, by decide, by decide, by decide⟩

/-- Statement PairCommands: its hypotheses are met. -/
theorem wit_PairCommands2 :
    ∃ (s : State) (c : Cmd) (v : State), (s.advance 0).starts 0 c 0x0604 0 v ∧ v.pair.arm = some ⟨.handover, .fixedEnd, 3⟩ :=
  ⟨({ (asked 0x0604 []) with pair := { arm := some ⟨.handover, .fixedEnd, 3⟩ } } : State), cmd 0x0604 [], (({ (asked 0x0604 []) with pair := { arm := some ⟨.handover, .fixedEnd, 3⟩ } } : State).advance 0).startCmd 0 5, ⟨by decide, by decide, rfl⟩, by decide⟩

/-- Statement PairCommands: its hypotheses are met. -/
theorem wit_PairCommands3 :
    ∃ (s : State) (c : Cmd) (v : State), (s.advance 0).starts 0 c 0x0606 0 v ∧ v.role = 3 :=
  ⟨((asked 0x0606 []).setReg Reg.PAIR_ROLE 3 : State), cmd 0x0606 [], (((asked 0x0606 []).setReg Reg.PAIR_ROLE 3 : State).advance 0).startCmd 0 5, ⟨by decide, by decide, rfl⟩, by decide⟩

/-- Statement ResponsesFollowTheTable: its hypotheses are met. -/
theorem wit_ResponsesFollowTheTable :
    ∃ (s : State) (n id st d : Nat) (c : Cmd), (s.mpPair n).cmds.find? (fun x => x.id = id) = some c ∧ c.stage ≠ .done ∧ c.code ≠ 3 ∧ st < 65536 ∧ d < 65536 :=
  ⟨asked 1 [], 0, 5, 65535, 65535, cmd 1 [], by decide, by decide, by decide, by decide, by decide⟩

/-- Statement SwapTakesTheCoveredCategories: its hypotheses are met. -/
theorem wit_SwapTakesTheCoveredCategories :
    ∃ mask cat it w : Nat, cat < 8 ∧ it < 8192 ∧ w < 1024 ∧ 1 ≤ cat ∧ mask / 2 ^ (cat - 1) % 2 = 1 :=
  ⟨64, 7, 8191, 1023, by decide, by decide, by decide, by decide, by decide⟩

/-- Statement SwapAndConstantsTakeEffect: its hypotheses are met. -/
theorem wit_SwapAndConstantsTakeEffect1 :
    ∃ (s u f : State) (w : ArmedSwap), s.clock 0 (s.advance 0).swapEvs = u ∧ u.testTrigger.dueSwap = some w ∧ (u.testTrigger.until_ w.clk).fireOwned = f ∧ (covers w.mask 2 && ({ f with cfgA := mergeSets w.mask f.cfgA f.cfgS } : State).datMisused f.cfgA) = false :=
  ⟨{ running with mp := { swap := some ⟨0x7F, .task 0, 3, 0, some 0, 1, 0⟩ } }, _, _, _, rfl, rfl, rfl, by decide +kernel⟩

/-- Statement SwapAndConstantsTakeEffect: its hypotheses are met. -/
theorem wit_SwapAndConstantsTakeEffect2 :
    ∃ (s : State) (k : ConstWrite) (p : Nat), ((s.advance 0).eng p).rel = none ∧ ((s.advance 0).eng (p + 0x80)).rel = none ∧ (s.advance 0).plm.consts.find? (fun c => c.todo.contains p) = some k ∧ ((s.advance 0).setKonst p k.index k.value).cmpState (cmpIndex p) ≠ 3 ∧ k.todo.filter (fun x => x ≠ p) ≠ [] :=
  ⟨{ running with plm := { consts := [⟨4, [9], [0x10, 0x11], 5⟩] } }, ⟨4, [9], [0x10, 0x11], 5⟩, 0x11, by decide, by decide, by decide, by decide, by decide⟩

/-- Statement SwapAndConstantsTakeEffect: its hypotheses are met. -/
theorem wit_SwapAndConstantsTakeEffect3 :
    ∃ (s : State) (k : ConstWrite) (p : Nat), ((s.advance 0).eng p).rel = none ∧ ((s.advance 0).eng (p + 0x80)).rel = none ∧ (s.advance 0).plm.consts.find? (fun c => c.todo.contains p) = some k ∧ ((s.advance 0).setKonst p k.index k.value).cmpState (cmpIndex p) ≠ 3 ∧ k.todo.filter (fun x => x ≠ p) = [] :=
  ⟨{ running with plm := { consts := [⟨4, [9], [0x11], 5⟩] } }, ⟨4, [9], [0x11], 5⟩, 0x11, by decide, by decide, by decide, by decide, by decide⟩

/-- Statement LongCommandsEnd: its hypotheses are met. -/
theorem wit_LongCommandsEnd1 :
    ∃ (s : State) (c : Cmd), (s.advance 0).mpReady = true ∧ (s.advance 0).longRunning 0 longCodes = some c ∧ c.code = 0x0108 ∧ (s.advance 0).checkSet ((c.w 4).fld 6 0) ((s.advance 0).resulting ((c.w 4).fld 6 0)) = none :=
  ⟨going 0x0108 [0x7F], { cmd 0x0108 [0x7F] with stage := .started }, by decide, by decide, by decide, by decide⟩

/-- Statement LongCommandsEnd: its hypotheses are met. -/
theorem wit_LongCommandsEnd2 :
    ∃ (s : State) (c : Cmd), (s.advance 0).mpReady = true ∧ (s.advance 0).longRunning 0 longCodes = some c ∧ c.code = 0x0108 ∧ (s.advance 0).checkSet ((c.w 4).fld 6 0) ((s.advance 0).resulting ((c.w 4).fld 6 0)) = some (2, 0) :=
  ⟨{ going 0x0108 [0x7F] with cfgS := [(cfgKey 2 0 0, 0x04)] }, { cmd 0x0108 [0x7F] with stage := .started }, by decide, by decide, by decide, by decide⟩

/-- Statement LongCommandsEnd: its hypotheses are met. -/
theorem wit_LongCommandsEnd3 :
    ∃ (s : State) (c : Cmd), (s.advance 0).mpReady = true ∧ (s.advance 0).longRunning 0 longCodes = some c ∧ c.code = 0x0503 ∧ (s.advance 0).hasGroup 0 = true ∧ (s.advance 0).domainOn 9 = true ∧ (s.advance 0).noTrim 0 = false :=
  ⟨{ going 0x0503 [0, 0, 0] with cfgA := [(cfgKey 1 0 0, 4)] }, { cmd 0x0503 [0, 0, 0] with stage := .started }, by decide, by decide, by decide, by decide, by decide, by decide⟩

/-- Statement LongCommandsEnd: its hypotheses are met. -/
theorem wit_LongCommandsEnd4 :
    ∃ (s : State) (c : Cmd), (s.advance 0).mpReady = true ∧ (s.advance 0).longRunning 0 longCodes = some c ∧ c.code = 0x0505 ∧ (s.advance 0).hasGroup 1 = true ∧ (s.advance 0).domainOn 9 = true :=
  ⟨going 0x0505 [31, 200], { cmd 0x0505 [31, 200] with stage := .started }, by decide, by decide, by decide, by decide, by decide⟩

/-- Statement LongCommandsEnd: its hypotheses are met. -/
theorem wit_LongCommandsEnd5 :
    ∃ (s : State) (c : Cmd), (s.advance 0).mpReady = true ∧ (s.advance 0).longRunning 0 longCodes = some c ∧ c.code = 0x0606 ∧ (s.advance 0).role = 3 ∧ (s.advance 0).regB Reg.PAIR_STS 1 = false :=
  ⟨(going 0x0606 []).setReg Reg.PAIR_ROLE 3, { cmd 0x0606 [] with stage := .started }, by decide, by decide, by decide, by decide, by decide⟩

/-- Statement MpRestart: its hypotheses are met. -/
theorem wit_MpRestart1 :
    ∃ (s u : State) (at_ : Nat), s.clock 0 [⟨.mpRestart, 0, 0⟩] = u ∧ u.mp.restart = some at_ ∧ at_ ≤ u.sclk ∧ u.mbxGo 2 = true :=
  ⟨{ posted with mp := { restart := some 0 } }, _, 0, rfl, by decide, by decide, by decide⟩

/-- Statement MpRestart: its hypotheses are met. -/
theorem wit_MpRestart2 :
    ∃ s : State, (s.advance 0).mpReady = false ∧ 3 ≤ (s.advance 0).regF Reg.PWR_START_STS 3 0 ∧ (s.advance 0).cmpState 0 ≠ 5 :=
  ⟨running, by decide, by decide, by decide⟩

/-- Statement RateAndStep: its hypotheses are met. -/
theorem wit_RateAndStep1 :
    ∃ (v : Word) (s u : State), s.toWrite 0 0x42 Reg.TIM_INCR_HI v = u ∧ u.opens 0x42 true Reg.TIM_INCR_HI = true ∧ v.toNat < 16 ∧ u.regB Reg.TIM_STS 0 = false ∧ u.regB Reg.TIM_CTL 2 = true :=
  ⟨15, running.setReg Reg.TIM_CTL 4, _, rfl, by decide, by decide, by decide, by decide⟩

/-- Statement RateAndStep: its hypotheses are met. -/
theorem wit_RateAndStep2 :
    ∃ s u : State, s.toWrite 0 0x42 Reg.TIM_STEP_HI 0 = u ∧ u.opens 0x42 true Reg.TIM_STEP_HI = true ∧ u.regB Reg.TIM_STS 1 = false ∧ u.regB Reg.TIM_CTL 2 = true ∧ u.ownedCmp = false ∧ (∀ d < 8, (u.dat d).st ≠ .running ∧ (u.dat d).st ≠ .stopping) :=
  ⟨running.setReg Reg.TIM_CTL 4, _, rfl, by decide, by decide, by decide, by decide, by decide⟩

/-- Statement RateAndStep: its hypotheses are met. -/
theorem wit_RateAndStep3 :
    ∃ s u : State, s.toWrite 0 0x42 Reg.TIM_STEP_HI 0 = u ∧ u.opens 0x42 true Reg.TIM_STEP_HI = true ∧ u.regB Reg.TIM_STS 1 = true :=
  ⟨running.setReg Reg.TIM_STS 2, _, rfl, by decide, by decide⟩

/-- Statement RateAndStep: its hypotheses are met. -/
theorem wit_RateAndStep4 :
    ∃ (s : State), s.regB Reg.TIM_STS 0 = false ∧ s.domainOn 6 = false ∧ 3 ≤ s.regF Reg.PWR_START_STS 3 0 :=
  ⟨running.setReg Reg.PWR_DOM_STS 0x3F, by decide, by decide, by decide⟩

/-- Statement RateAndStep: its hypotheses are met. -/
theorem wit_RateAndStep5 :
    ∃ s u : State, s.regB Reg.TIM_STS 0 = true ∧ 0 ≤ (s.now : Int) + signed 64 (s.reg64 Reg.TIM_STEP_LO Reg.TIM_STEP_HI) ∧ (s.now : Int) + signed 64 (s.reg64 Reg.TIM_STEP_LO Reg.TIM_STEP_HI) < 2 ^ 48 * 1000000000 ∧ s.toRead 0 0x42 Reg.TIM_NOW_LO = u ∧ u.opens 0x42 false Reg.TIM_NOW_LO = true ∧ sget none u.rlat (latchKey 0x42 Reg.TIM_NOW_LO) = none ∧ u.flipsAt Reg.TIM_NOW_LO = (0, 0, 0) :=
  ⟨running.setReg Reg.TIM_STS 3, _, by decide, by decide, by decide, rfl, by decide, by decide, by decide⟩

/-- Statement ServoAndHoldover: its hypotheses are met. -/
theorem wit_ServoAndHoldover1 :
    ∃ (s u : State) (ofs : Int), s.clock 0 ((s.advance 0).lockEvs State.servoUpdate) = u ∧ u.servo.meas = some ofs ∧ u.regB Reg.TIM_CTL 2 = false ∧ u.servo.locked = false ∧ 1000 < ofs.natAbs ∧ u.regB Reg.TIM_CTL 4 = true ∧ u.regB Reg.TIM_STS 1 = false :=
  ⟨{ running.setReg Reg.TIM_CTL 0x10 with servo := { meas := some (-1001) } }, _, -1001, rfl, by decide, by decide, by decide, by decide, by decide, by decide⟩

/-- Statement ServoAndHoldover: its hypotheses are met. -/
theorem wit_ServoAndHoldover2 :
    ∃ (f : Int → State) (u : Int → State), (∀ x, (f x).clock 0 (((f x).advance 0).lockEvs State.servoUpdate) = u x) ∧ ∀ x ∈ [10001, -10001, 10000], (u x).servo.meas = some x ∧ (u x).regB Reg.TIM_CTL 2 = false ∧ (u x).regB Reg.TIM_STS 1 = true ∧ (u x).servo.locked = true :=
  ⟨fun x => { running.setReg Reg.TIM_STS 2 with servo := { meas := some x, locked := true } }, _, fun _ => rfl, by decide⟩

/-- Statement ServoAndHoldover: its hypotheses are met. -/
theorem wit_ServoAndHoldover3 :
    ∃ s u : State, s.clock 0 ((s.advance 0).lockEvs State.holdover) = u ∧ u.servo.lastSync = some 0 ∧ 0 + 3 * u.servo.every ≤ u.now ∧ u.regB Reg.TIM_STS 4 = false ∧ u.regB Reg.TIM_CTL 2 = false ∧ u.ptpRole = 1 :=
  ⟨{ running.setReg Reg.TIM_CTL 1 with servo := { lastSync := some 0, every := 1000000 }, ptp := 3000000 * 2 ^ 32 }, _, rfl, by decide, by decide, by decide, by decide, by decide⟩

/-- Statement ServoAndHoldover: its hypotheses are met. -/
theorem wit_ServoAndHoldover4 :
    ∃ s u : State, s.clock 0 ((s.advance 0).lockEvs State.holdover) = u ∧ u.servo.lastSync = some 0 ∧ u.now < 0 + 3 * u.servo.every :=
  ⟨{ running with servo := { lastSync := some 0, every := 1 } }, _, rfl, by decide, by decide⟩

/-- Statement PtpMessages: its hypotheses are met. -/
theorem wit_PtpMessages1 :
    ∃ (s u v : State), s.advance 0 = u ∧ u.takesPtp 1 5 = true ∧ u.received 1 false (ptpLen 0) = v ∧ v.ptpState 1 = 3 ∧ v.ptpMode 1 = 1 ∧ (v.ptpPort 1).syncWait = some (7, 1000) ∧ (v.ptpPort 1).reqSent = some (7, 900) ∧ (v.ptpPort 1).lastSync = some (500, 600) ∧ u.hasPort 1 = true ∧ u.ptpRole ≠ 0 :=
  ⟨{ timed 1 3 with ptpPorts := [(1, { syncWait := some (7, 1000), reqSent := some (7, 900), lastSync := some (500, 600) })] }, _, _, rfl, by decide, rfl, by decide, by decide, by decide, by decide, by decide, by decide, by decide⟩

/-- Statement PtpMessages: its hypotheses are met. -/
theorem wit_PtpMessages2 :
    ∃ (s u v : State), s.advance 0 = u ∧ u.takesPtp 1 5 = true ∧ u.received 1 false (ptpLen 1) = v ∧ v.ptpState 1 = 2 ∧ v.ptpMode 1 = 1 ∧ 1 ≤ v.role ∧ v.role ≤ 5 :=
  ⟨timed 1 2, _, _, rfl, by decide, rfl, by decide, by decide, by decide, by decide⟩

/-- Statement PtpMessages: its hypotheses are met. -/
theorem wit_PtpMessages3 :
    ∃ (s u v : State), s.advance 0 = u ∧ u.takesPtp 1 0 = true ∧ u.received 1 false (ptpLen 3) = v ∧ v.ptpMode 1 = 2 ∧ (v.ptpPort 1).pdelay = some (7, 1000, 1100) ∧ (v.ptpPort 1).reqSent = some (7, 900) :=
  ⟨{ timed 2 2 with ptpPorts := [(1, { pdelay := some (7, 1000, 1100), reqSent := some (7, 900) })] }, _, _, rfl, by decide, rfl, by decide, by decide, by decide⟩

/-- Statement PtpMessages: its hypotheses are met. -/
theorem wit_PtpMessages4 :
    ∃ s : State, (s.advance 0).ptpRole = 0 :=
  ⟨running.setReg Reg.TIM_CTL 0, by decide⟩

/-- Statement PtpSelectionAndSending: its hypotheses are met. -/
theorem wit_PtpSelectionAndSending1 :
    ∃ (s u v : State), s.clock 0 ((s.advance 0).lockEvs (fun s => s.announceRx 1 5 ⟨1, 2, 3, 4, 5, 6, 7, 0x80000⟩)) = u ∧ u.takesPtp 1 5 = true ∧ u.received 1 false (ptpLen 11) = v ∧ v.qualified 1 ⟨1, 2, 3, 4, 5, 6, 7, 0x80000⟩ = true ∧ (v.ptpPort 1).best = none :=
  ⟨{ timed 1 3 with ptpPorts := [(1, { heard := [(0x80000, 0)] })] }, _, _, rfl, by decide, rfl, by decide, by decide⟩

/-- Statement PtpSelectionAndSending: its hypotheses are met. -/
theorem wit_PtpSelectionAndSending2 :
    ∃ (s u v : State) (b : Announced), s.clock 0 ((s.advance 0).lockEvs (fun s => s.announceRx 1 5 ⟨2, 0, 0, 0, 0, 8, 0, 0x80000⟩)) = u ∧ u.takesPtp 1 5 = true ∧ u.received 1 false (ptpLen 11) = v ∧ v.qualified 1 ⟨2, 0, 0, 0, 0, 8, 0, 0x80000⟩ = true ∧ (v.ptpPort 1).best = some b ∧ b.better (v.ptpMode 1 = 2) ⟨2, 0, 0, 0, 0, 8, 0, 0x80000⟩ = true ∧ b.sender ≠ 0x80000 ∧ b.better (v.ptpMode 1 = 2) ⟨1, 0, 0, 0, 0, 6, 0, 0x80000⟩ = false :=
  ⟨{ timed 1 3 with ptpPorts := [(1, { best := some ⟨1, 0, 0, 0, 0, 7, 0, 0x70000⟩, heard := [(0x80000, 0)] })] }, _, _, ⟨1, 0, 0, 0, 0, 7, 0, 0x70000⟩, rfl, by decide, rfl, by decide, by decide, by decide, by decide, by decide⟩

/-- Statement PtpSelectionAndSending: its hypotheses are met. -/
theorem wit_PtpSelectionAndSending3 :
    ∃ (s u v : State), s.clock 0 ((s.advance 0).lockEvs (fun s => s.announceRx 1 5 ⟨1, 2, 3, 4, 5, 6, 255, 0x80000⟩)) = u ∧ u.takesPtp 1 5 = true ∧ u.received 1 false (ptpLen 11) = v ∧ v.qualified 1 ⟨1, 2, 3, 4, 5, 6, 255, 0x80000⟩ = false :=
  ⟨timed 1 3, _, _, rfl, by decide, rfl, by decide⟩

/-- Statement PtpSelectionAndSending: its hypotheses are met. -/
theorem wit_PtpSelectionAndSending4 :
    ∃ (s s' : State), (s.advance 0).ptpOn 1 = true ∧ (s.advance 0).regB (Reg.TRV_STS 1) 0 = true ∧ (s.advance 0).ptpState 1 = 2 ∧ (s.advance 0).now < ((s.advance 0).ptpPort 1).since + 3 * (s.advance 0).annNs 1 ∧ (s'.advance 0).ptpOn 1 = true ∧ (s'.advance 0).ptpState 1 ≠ 2 :=
  ⟨timed 1 2, timed 5 3, by decide, by decide, by decide, by decide, by decide, by decide⟩

/-- Statement PtpSelectionAndSending: its hypotheses are met. -/
theorem wit_PtpSelectionAndSending5 :
    ∃ (s s' w : State), (s.advance 0).ptpOn 1 = true ∧ (s.advance 0).regB (Reg.TRV_STS 1) 0 = true ∧ (s.advance 0).ptpState 1 = 3 ∧ (s.advance 0).ptpMode 1 = 1 ∧ (s'.advance 0).ptpOn 1 = true ∧ (s'.advance 0).regB (Reg.TRV_STS 1) 0 = true ∧ (s'.advance 0).ptpMode 1 = 2 ∧ s.toWrite 0 0x42 (Reg.TIM_PORTn_TXQ_POP 1) 1 = w ∧ w.opens 0x42 true (Reg.TIM_PORTn_TXQ_POP 1) = true :=
  ⟨timed 1 3, timed 2 3, _, by decide, by decide, by decide, by decide, by decide, by decide, by decide, rfl, by decide⟩

/-- Statement ComparatorsFire: its hypotheses are met. -/
theorem wit_ComparatorsFire1 :
    ∃ (s u : State), s.clock 0 (((s.advance 0).fireEvs (15 % 16))) = u ∧ u.regB (Reg.TIM_CMPk_CFG 15) 0 = true ∧ u.cmpTarget 15 ≤ u.now ∧ u.reg (Reg.TIM_CMPk_PERIOD 15) = 0 ∧ u.regB (Reg.TIM_CMPk_CFG 15) 1 = false ∧ u.regF (Reg.TIM_CMPk_CFG 15) 5 4 = 0 :=
  ⟨running.setReg (Reg.TIM_CMPk_CFG 15) 5, _, rfl, by decide, by decide, by decide, by decide, by decide⟩

/-- Statement ComparatorsFire: its hypotheses are met. -/
theorem wit_ComparatorsFire2 :
    ∃ (s u : State), s.clock 0 (((s.advance 0).fireEvs (0 % 16))) = u ∧ u.regB (Reg.TIM_CMPk_CFG 0) 0 = true ∧ u.cmpTarget 0 = 0 ∧ (u.reg (Reg.TIM_CMPk_PERIOD 0)).toNat = 1000 ∧ 0 + 2 * 1000 ≤ u.now ∧ u.now < 0 + (2 + 1) * 1000 ∧ u.shadows = false ∧ u.regB (Reg.TIM_CMPk_CFG 0) 2 = false ∧ u.regF (Reg.TIM_CMPk_CFG 0) 5 4 = 2 :=
  ⟨{ (running.setReg (Reg.TIM_CMPk_CFG 0) 0x21).setReg (Reg.TIM_CMPk_PERIOD 0) 1000 with ptp := 2999 * 2 ^ 32 }, _, rfl, by decide, by decide, by decide, by decide, by decide, by decide, by decide, by decide⟩

/-- Statement ComparatorsFire: its hypotheses are met. -/
theorem wit_ComparatorsFire3 :
    ∃ (s u : State), s.clock 0 (((s.advance 0).fireEvs (0 % 16))) = u ∧ u.regB (Reg.TIM_CMPk_CFG 0) 0 = true ∧ u.cmpTarget 0 = 0 ∧ (u.reg (Reg.TIM_CMPk_PERIOD 0)).toNat = 1000 ∧ 0 ≤ u.now ∧ u.now < 0 + 1000 ∧ u.regB (Reg.TIM_CMPk_CFG 0) 1 = true ∧ u.shadows = true ∧ u.regB (Reg.TIM_CMPk_CFG 0) 2 = false ∧ u.regF (Reg.TIM_CMPk_CFG 0) 5 4 = 2 :=
  ⟨((running.setReg (Reg.TIM_CMPk_CFG 0) 0x23).setReg (Reg.TIM_CMPk_PERIOD 0) 1000).setReg Reg.PAIR_ROLE 3, _, rfl, by decide, by decide, by decide, by decide, by decide, by decide, by decide, by decide, by decide⟩

/-- Statement ComparatorsFire: its hypotheses are met. -/
theorem wit_ComparatorsFire4 :
    ∃ (s u : State), s.clock 0 (((s.advance 0).fireEvs (0 % 16))) = u ∧ u.regB (Reg.TIM_CMPk_CFG 0) 0 = false :=
  ⟨running, _, rfl, by decide⟩

/-- Statement SegmentsFollowOneAnother: its hypotheses are met. -/
theorem wit_SegmentsFollowOneAnother1 :
    ∃ (s u : State) (g h : Seg), s.clock 0 [⟨.segEnd, 7, 0⟩] = u ∧ (u.dat 7).st = .running ∧ (u.dat 7).queue = [g, h] ∧ g.fin * 2 ^ 32 ≤ u.ptp ∧ h.t0 = g.fin :=
  ⟨moving 7 .running [seg1, { seg1 with t0 := 20000 }] none, _, seg1, { seg1 with t0 := 20000 }, rfl, by decide, by decide, by decide, by decide⟩

/-- Statement SegmentsFollowOneAnother: its hypotheses are met. -/
theorem wit_SegmentsFollowOneAnother2 :
    ∃ (s u : State) (g h : Seg), s.clock 0 [⟨.segEnd, 7, 0⟩] = u ∧ (u.dat 7).st = .running ∧ (u.dat 7).queue = [g, h] ∧ g.fin * 2 ^ 32 ≤ u.ptp ∧ h.t0 ≠ g.fin :=
  ⟨moving 7 .running [seg1, { seg1 with t0 := 30000 }] none, _, seg1, { seg1 with t0 := 30000 }, rfl, by decide, by decide, by decide, by decide⟩

/-- Statement SegmentsFollowOneAnother: its hypotheses are met. -/
theorem wit_SegmentsFollowOneAnother3 :
    ∃ (s u : State) (g : Seg), s.clock 0 [⟨.segEnd, 7, 0⟩] = u ∧ (u.dat 7).st = .running ∧ (u.dat 7).queue = [g] ∧ g.fin * 2 ^ 32 ≤ u.ptp ∧ 0 < g.sd1 + g.sd2 :=
  ⟨moving 7 .running [seg1] none, _, seg1, rfl, by decide, by decide, by decide, by decide⟩

/-- Statement SegmentsFollowOneAnother: its hypotheses are met. -/
theorem wit_SegmentsFollowOneAnother4 :
    ∃ (s u : State) (g e : Seg), s.clock 0 [⟨.segStart, 0 % 8, 0⟩] = u ∧ (u.dat 0).st = .stopping ∧ (u.dat 0).queue = [g] ∧ (u.dat 0).ended = some e ∧ g.t0 * 2 ^ 32 ≤ u.ptp :=
  ⟨moving 0 .stopping [{ seg1 with t0 := 20500 }] (some seg1), _, { seg1 with t0 := 20500 }, seg1, rfl, by decide, by decide, by decide, by decide⟩

/-- Statement SegmentsFollowOneAnother: its hypotheses are met. -/
theorem wit_SegmentsFollowOneAnother5 :
    ∃ (s u : State) (g : Seg), s.clock 0 [⟨.rampEnd, 0 % 8, 0⟩] = u ∧ (u.dat 0).st = .stopping ∧ (u.dat 0).ended = some g ∧ (u.dat 0).queue = [] ∧ g.rampEnd * 2 ^ 32 ≤ u.ptp :=
  ⟨moving 0 .stopping [] (some seg1), _, seg1, rfl, by decide, by decide, by decide, by decide⟩

/-- Statement SegmentsFollowOneAnother: its hypotheses are met. -/
theorem wit_SegmentsFollowOneAnother6 :
    ∃ (s u : State) (g : Seg), s.clock 0 [⟨.rampEnd, 0 % 8, 0⟩] = u ∧ (u.dat 0).ended = some g ∧ u.ptp < g.rampEnd * 2 ^ 32 :=
  ⟨moving 0 .running [{ seg1 with t0 := 20500 }] (some { seg1 with t0 := 20500 }), _, { seg1 with t0 := 20500 }, rfl, by decide, by decide⟩

/-- Statement SegmentsFollowOneAnother: its hypotheses are met. -/
theorem wit_SegmentsFollowOneAnother7 :
    ∃ (s u : State) (g : Seg), s.clock 0 [⟨.segEnd, 0, 0⟩] = u ∧ (u.dat 0).queue = [g] ∧ u.ptp < g.fin * 2 ^ 32 :=
  ⟨moving 0 .running [{ seg1 with t0 := 20500 }] none, _, { seg1 with t0 := 20500 }, rfl, by decide, by decide⟩

/-- Statement SegmentsFollowOneAnother: its hypotheses are met. -/
theorem wit_SegmentsFollowOneAnother8 :
    ∃ (s s' : State), (s.advance 0).hzCond 0 = true ∧ ((s.advance 0).dat 0).hzShort = false ∧ (s'.advance 0).hzCond 0 = false :=
  ⟨{ moving 0 .running [seg1] none with cfgA := [(cfgKey 2 0 0, 0x1101)] }, running, by decide, by decide, by decide⟩

/-- Statement DatumSources: its hypotheses are met. -/
theorem wit_DatumSources1 :
    ∃ (s u : State), s.toWrite 0 0x42 (Reg.DAT_APP_CTL 7) 1 = u ∧ u.opens 0x42 true (Reg.DAT_APP_CTL 7) = true ∧ u.pushResult 7 = 0 ∧ u.fits 7 (u.staged 7) = true :=
  ⟨{ running.setReg (Reg.DAT_APP_Wi 7 2) 20000 with cfgA := [(cfgKey 2 7 0, 0xFFF00001)] }, _, rfl, by decide, by decide, by decide⟩

/-- Statement DatumSources: its hypotheses are met. -/
theorem wit_DatumSources2 :
    ∃ (s u : State), s.toWrite 0 0x42 (Reg.DAT_APP_CTL 7) 1 = u ∧ u.opens 0x42 true (Reg.DAT_APP_CTL 7) = true ∧ u.pushResult 7 ≠ 0 :=
  ⟨running, _, rfl, by decide, by decide⟩

/-- Statement DatumSources: its hypotheses are met. -/
theorem wit_DatumSources3 :
    ∃ (s u : State), s.advance 0 = u ∧ ((u.pinA 7).level ≠ true ∨ (u.pinB 7).level ≠ false) :=
  ⟨running, _, rfl, by decide⟩

/-- Statement DatumSources: its hypotheses are met. -/
theorem wit_DatumSources4 :
    ∃ (s u : State), s.advance 0 = u ∧ u.datSource 7 = 2 ∧ (u.encCfg 7).fld 1 0 ≤ 1 ∧ (u.pinA 7).level = true ∧ (u.pinB 7).level = false ∧ (quad true false + 4 - quad (u.dat 7).enc.a (u.dat 7).enc.b) % 4 = 1 :=
  ⟨{ running with cfgA := [(cfgKey 2 7 0, 2), (cfgKey 2 7 7, 0x4000061)], fis := [(0, { level := true }), (3, { level := false })] }, _, rfl, by decide, by decide, by decide, by decide, by decide⟩

/-- Statement DatumSources: its hypotheses are met. -/
theorem wit_DatumSources5 :
    ∃ (s u : State), s.advance 0 = u ∧ u.datSource 7 = 2 ∧ (u.encCfg 7).fld 1 0 ≤ 1 ∧ (u.pinA 7).level = false ∧ (u.pinB 7).level = true ∧ (quad false true + 4 - quad (u.dat 7).enc.a (u.dat 7).enc.b) % 4 = 3 :=
  ⟨{ running with cfgA := [(cfgKey 2 7 0, 2), (cfgKey 2 7 7, 0x4000061)], fis := [(0, { level := false }), (3, { level := true })] }, _, rfl, by decide, by decide, by decide, by decide, by decide⟩

/-- Statement DatumSources: its hypotheses are met. -/
theorem wit_DatumSources6 :
    ∃ (s u : State), s.advance 0 = u ∧ u.datSource 7 = 2 ∧ (u.encCfg 7).fld 1 0 ≤ 1 ∧ (u.pinA 7).level = true ∧ (u.pinB 7).level = true ∧ (quad true true + 4 - quad (u.dat 7).enc.a (u.dat 7).enc.b) % 4 = 2 :=
  ⟨{ running with cfgA := [(cfgKey 2 7 0, 2), (cfgKey 2 7 7, 0x4000061)], fis := [(0, { level := true }), (3, { level := true })] }, _, rfl, by decide, by decide, by decide, by decide, by decide⟩

/-- Statement DatumSources: its hypotheses are met. -/
theorem wit_DatumSources7 :
    ∃ (s u : State), s.advance 0 = u ∧ u.datSource 7 = 2 ∧ (u.encCfg 7).fld 1 0 ≤ 1 ∧ (u.pinA 7).level = false ∧ (u.pinB 7).level = false ∧ (quad false false + 4 - quad (u.dat 7).enc.a (u.dat 7).enc.b) % 4 = 0 :=
  ⟨{ running with cfgA := [(cfgKey 2 7 0, 2), (cfgKey 2 7 7, 0x4000061)], fis := [(0, { level := false }), (3, { level := false })] }, _, rfl, by decide, by decide, by decide, by decide, by decide⟩

/-- Statement DatumSources: its hypotheses are met. -/
theorem wit_DatumSources8 :
    ∃ (s u : State), s.advance 0 = u ∧ u.datSource 7 = 2 ∧ (u.encCfg 7).fld 1 0 = 1 ∧ (u.encCfg 7).bit 26 = true ∧ (u.pinZ 7).level = true ∧ (u.pinZ 7).last = 9 ∧ (u.dat 7).enc.zAt ≠ some 9 ∧ (u.dat 7).enc.homed = none :=
  ⟨{ running with cfgA := [(cfgKey 2 7 0, 2), (cfgKey 2 7 7, 0x4000001)], fis := [(0, { level := true, hist := [(9, true)] })] }, _, rfl, by decide, by decide, by decide, by decide, by decide, by decide, by decide⟩

/-- Statement DatumSources: its hypotheses are met. -/
theorem wit_DatumSources9 :
    ∃ (s u : State), s.advance 0 = u ∧ u.datSource 7 = 2 ∧ (u.encCfg 7).fld 1 0 = 1 ∧ (u.encCfg 7).bit 26 = true ∧ (u.pinZ 7).level = true ∧ (u.pinZ 7).last = 9 ∧ (u.dat 7).enc.zAt ≠ some 9 ∧ (u.dat 7).enc.homed = some 0 ∧ (u.dat 7).enc.perRev = none ∧ (u.dat 7).enc.count ≠ 0 :=
  ⟨{ running with cfgA := [(cfgKey 2 7 0, 2), (cfgKey 2 7 7, 0x4000001)], fis := [(0, { level := true, hist := [(9, true)] })], dats := [(7, { enc := { homed := some 0, count := 4096 } })] }, _, rfl, by decide, by decide, by decide, by decide, by decide, by decide, by decide, by decide, by decide⟩

/-- Statement DatumSources: its hypotheses are met. -/
theorem wit_DatumSources10 :
    ∃ (s u : State), s.advance 0 = u ∧ u.datSource 7 = 2 ∧ (u.encCfg 7).fld 1 0 = 1 ∧ (u.encCfg 7).bit 26 = true ∧ (u.pinZ 7).level = true ∧ (u.pinZ 7).last = 9 ∧ (u.dat 7).enc.zAt ≠ some 9 ∧ (u.dat 7).enc.homed = some 0 ∧ (u.dat 7).enc.perRev = some 4096 ∧ ((u.dat 7).enc.count - 0) % (4096 : Int) = 4096 - 1 :=
  ⟨{ running with cfgA := [(cfgKey 2 7 0, 2), (cfgKey 2 7 7, 0x4000001)], fis := [(0, { level := true, hist := [(9, true)] })], dats := [(7, { enc := { homed := some 0, count := 8191, perRev := some 4096 } })] }, _, rfl, by decide, by decide, by decide, by decide, by decide, by decide, by decide, by decide, by decide⟩

/-- Statement DatumSources: its hypotheses are met. -/
theorem wit_DatumSources11 :
    ∃ (s u : State), s.clock 0 ((s.pushEvs (7 % 8))) = u ∧ u.datSource 7 = 2 ∧ (∀ l, (u.dat 7).enc.lastFit = some l → l < u.fitInstant 7) ∧ (u.encCfg 7).fld 17 15 + 1 + 1 ≤ min 9 ((u.dat 7).enc.fits + 1) ∧ u.fitsNow = true :=
  ⟨{ running with cfgA := [(cfgKey 2 7 0, 2)], dats := [(7, { enc := { fits := 1 } })] }, _, rfl, by decide, (by intro l h; cases h), by decide, by decide⟩

/-- Statement DatumSources: its hypotheses are met. -/
theorem wit_DatumSources12 :
    ∃ (s u : State), s.clock 0 [⟨.upTimeout, 7 % 8, 0⟩] = u ∧ u.datSource 7 = 3 ∧ (u.dat 7).upLost = false ∧ (u.cw 2 7 13).fld 31 24 ≤ (u.dat 7).upAge :=
  ⟨{ running with cfgA := [(cfgKey 2 7 0, 3), (cfgKey 2 7 13, 0x3000000)], dats := [(7, { upAge := 3 })] }, _, rfl, by decide, by decide, by decide⟩

/-- Statement DatumSources: its hypotheses are met. -/
theorem wit_DatumSources13 :
    ∃ (s u : State), s.clock 0 [⟨.upTimeout, 7 % 8, 0⟩] = u ∧ (u.dat 7).upAge < (u.cw 2 7 13).fld 31 24 :=
  ⟨{ running with cfgA := [(cfgKey 2 7 0, 3), (cfgKey 2 7 13, 0x3000000)] }, _, rfl, by decide⟩

/-- Statement DatumSources: its hypotheses are met. -/
theorem wit_DatumSources14 :
    ∃ (s u : State), s.clock 0 [⟨.segBuild, 0x100 + 0, 0⟩] = u ∧ u.publishes = false :=
  ⟨running.setReg Reg.PAIR_ROLE 3, _, rfl, by decide⟩

/-- Statement DatumSources: its hypotheses are met. -/
theorem wit_DatumSources15 :
    ∃ (s u : State) (g : Seg), s.clock 0 [⟨.segBuild, 0x100 + 0, 0⟩] = u ∧ u.publishes = true ∧ (u.dat 0).queue = [g] ∧ u.datPub 0 = 1 ∧ g.sent = 0 ∧ g.t0 * 2 ^ 32 ≤ u.ptp + u.datHorizon 0 * 2 ^ 32 :=
  ⟨{ moving 0 .running [seg1] none with cfgA := [(cfgKey 2 0 0, 0x1101)] }, _, seg1, rfl, by decide, by decide, by decide, by decide, by decide⟩

/-- Statement StakesAreArmedAndTested: its hypotheses are met. -/
theorem wit_StakesAreArmedAndTested1 :
    ∃ (s u : State), s.toWrite 0 0x42 (Reg.STK_W7 1023) 1 = u ∧ u.opens 0x42 true (Reg.STK_W7 1023) = true ∧ (u.stake (u.windowEntry 1023)).st = .disarmed :=
  ⟨running, _, rfl, by decide, by decide⟩

/-- Statement StakesAreArmedAndTested: its hypotheses are met. -/
theorem wit_StakesAreArmedAndTested2 :
    ∃ (s u : State), s.toWrite 0 0x42 (Reg.STK_W7 0) 1 = u ∧ u.opens 0x42 true (Reg.STK_W7 0) = true ∧ (u.stake (u.windowEntry 0)).st ≠ .disarmed :=
  ⟨{ running with stk := { entries := [(0, { st := .armed })] } }, _, rfl, by decide, by decide⟩

/-- Statement StakesAreArmedAndTested: its hypotheses are met. -/
theorem wit_StakesAreArmedAndTested3 :
    ∃ (s u : State), s.toWrite 0 0x42 (Reg.STK_W7 0) 2 = u ∧ u.opens 0x42 true (Reg.STK_W7 0) = true ∧ (u.stake (u.windowEntry 0)).st ≠ .disarmed :=
  ⟨{ running with stk := { entries := [(0, { st := .armed })] } }, _, rfl, by decide, by decide⟩

/-- Statement StakesAreArmedAndTested: its hypotheses are met. -/
theorem wit_StakesAreArmedAndTested4 :
    ∃ (s u : State), s.toWrite 0 0x42 (Reg.STK_W7 1023) 2 = u ∧ u.opens 0x42 true (Reg.STK_W7 1023) = true ∧ (u.stake (u.windowEntry 1023)).st = .disarmed :=
  ⟨running, _, rfl, by decide, by decide⟩

/-- Statement StakesAreArmedAndTested: its hypotheses are met. -/
theorem wit_StakesAreArmedAndTested5 :
    ∃ (s u : State), s.toWrite 0 0x42 (Reg.STK_W7 1023) 4 = u ∧ u.opens 0x42 true (Reg.STK_W7 1023) = true ∧ (u.stake (u.windowEntry 1023)).st = .disarmed :=
  ⟨running, _, rfl, by decide, by decide⟩

/-- Statement StakesAreArmedAndTested: its hypotheses are met. -/
theorem wit_StakesAreArmedAndTested6 :
    ∃ (s u : State), s.toWrite 0 0x42 (Reg.STK_W7 0) 4 = u ∧ u.opens 0x42 true (Reg.STK_W7 0) = true ∧ (u.stake (u.windowEntry 0)).st ≠ .disarmed :=
  ⟨{ running with stk := { entries := [(0, { st := .armed })] } }, _, rfl, by decide, by decide⟩

/-- Statement StakesAreArmedAndTested: its hypotheses are met. -/
theorem wit_StakesAreArmedAndTested7 :
    ∃ (s u : State) (prev : Int) (tp : Nat), s.clock 0 [⟨.stakeFire, 9 % 4096, s.stkDatum (9 % 4096)⟩] = u ∧ (u.stake 9).st ≠ .disarmed ∧ u.role ≠ 0 ∧ u.role ≠ 6 ∧ u.cmpState 25 ≠ 5 ∧ u.badEntry 9 = false ∧ (u.stake 9).ref = some (prev, tp) ∧ (u.stake 9).block = false ∧ crossing (u.datMod (u.stkDatum 9)) (u.stake 9).target (u.stkDir 9 % 2 = 1) (u.stkDir 9 / 2 = 1) none prev (u.reference 9).1 = none :=
  ⟨{ running with stk := { entries := [(9, { st := .armed, target := 100, ref := some (0, 0) })] }, cfgA := [(cfgKey 5 9 0, 8), (cfgKey 2 0 1, 1000)] }, _, 0, 0, rfl, by decide, by decide, by decide, by decide, by decide, by decide, by decide, by decide⟩

/-- Statement StakesAreArmedAndTested: its hypotheses are met. -/
theorem wit_StakesAreArmedAndTested8 :
    ∃ (s u : State) (prev xt : Int) (tp : Nat), s.clock 0 [⟨.stakeFire, 9 % 4096, s.stkDatum (9 % 4096)⟩] = u ∧ u.stkDatum 9 = 0 ∧ (u.stake 9).st = .armed ∧ u.dispatches = true ∧ u.cmpState 25 ≠ 5 ∧ u.badEntry 9 = false ∧ (u.stake 9).ref = some (prev, tp) ∧ (u.stake 9).block = false ∧ (u.stake 9).prov = none ∧ u.stkMode 9 = 0 ∧ crossing (u.datMod 0) (u.stake 9).target (u.stkDir 9 % 2 = 1) (u.stkDir 9 / 2 = 1) none prev (u.reference 9).1 = some xt ∧ jumpsIn (u.datMod 0) (u.dat 0) tp (u.reference 9).2 = [] ∧ predicted (u.dat 0) (u.reference 9).2 = false :=
  by refine ⟨still, _, 40, 50, 0, rfl, ?_, ?_, ?_, ?_, ?_, ?_, ?_, ?_, ?_, ?_, ?_, ?_⟩ <;> decide +kernel

/-- Statement StakesAreArmedAndTested: its hypotheses are met. -/
theorem wit_StakesAreArmedAndTested9 :
    ∃ (u : State) (prev : Int) (tp : Nat), (u.datEval 0 tp).u ≠ prev :=
  ⟨still, 40, 0, by decide +kernel⟩

/-- Statement StakesAreArmedAndTested: its hypotheses are met. -/
theorem wit_StakesAreArmedAndTested10 :
    ∃ (s u : State), s.clock 0 [⟨.stakeFire, 7 % 4096, s.stkDatum (7 % 4096)⟩] = u ∧ (u.stake 7).st = .disarmed :=
  ⟨running, _, rfl, by decide⟩

/-- Statement StakeActions: its hypotheses are met. -/
theorem wit_StakeActions1 :
    ∃ (s u : State) (a : Action), s.clock 0 ((s.advance 0).dispatchEvs) = u ∧ u.nextAction = some a ∧ u.rank a < 16 ∧ a.kind = 0 :=
  ⟨acting { index := 5, tf := 0, tcross := 0, kind := 0, operand := 0 }, _, { index := 5, tf := 0, tcross := 0, kind := 0, operand := 0 }, rfl, by decide, by decide, by decide⟩

/-- Statement StakeActions: its hypotheses are met. -/
theorem wit_StakeActions2 :
    ∃ (s u : State) (a : Action), s.clock 0 ((s.advance 0).dispatchEvs) = u ∧ u.nextAction = some a ∧ u.rank a < 16 ∧ a.kind = 2 :=
  ⟨acting { index := 5, tf := 0, tcross := 0, kind := 2, operand := 31 }, _, { index := 5, tf := 0, tcross := 0, kind := 2, operand := 31 }, rfl, by decide, by decide, by decide⟩

/-- Statement StakeActions: its hypotheses are met. -/
theorem wit_StakeActions3 :
    ∃ (s u : State) (a : Action), s.clock 0 ((s.advance 0).dispatchEvs) = u ∧ u.nextAction = some a ∧ u.rank a < 16 ∧ a.kind = 3 ∧ a.operand.fld 1 0 = 1 ∧ u.hasGroup 0 = true ∧ u.domainOn 9 = true ∧ u.triggered 0 = true ∧ u.converting 0 = false :=
  ⟨{ acting { index := 5, tf := 0, tcross := 0, kind := 3, operand := 1 } with cfgA := [(cfgKey 1 32 0, 2)] }, _, { index := 5, tf := 0, tcross := 0, kind := 3, operand := 1 }, rfl, by decide, by decide, by decide, by decide, by decide, by decide, by decide, by decide⟩

/-- Statement StakeActions: its hypotheses are met. -/
theorem wit_StakeActions4 :
    ∃ (s u : State) (a : Action), s.clock 0 ((s.advance 0).dispatchEvs) = u ∧ u.nextAction = some a ∧ u.rank a < 16 ∧ a.kind = 4 ∧ 0 ≤ a.tcross :=
  ⟨acting { index := 5, tf := 0, tcross := 0, kind := 4, operand := 15 }, _, { index := 5, tf := 0, tcross := 0, kind := 4, operand := 15 }, rfl, by decide, by decide, by decide, by decide⟩

/-- Statement StakeActions: its hypotheses are met. -/
theorem wit_StakeActions5 :
    ∃ (s u : State) (a : Action), s.clock 0 ((s.advance 0).dispatchEvs) = u ∧ u.nextAction = some a ∧ u.rank a < 16 ∧ a.kind = 5 ∧ a.freed = false ∧ a.tf + 2 * (u.cycleNs (a.operand.fld 1 0) : Int) ≤ a.tcross ∧ (sget [] u.stk.events (a.operand.fld 1 0)).length < 64 :=
  ⟨acting { index := 5, tf := 0, tcross := 0, kind := 5, operand := 3 }, _, { index := 5, tf := 0, tcross := 0, kind := 5, operand := 3 }, rfl, by decide, by decide, by decide, by decide, by decide, by decide⟩

/-- Statement StakeActions: its hypotheses are met. -/
theorem wit_StakeActions6 :
    ∃ (s u : State) (a : Action), s.clock 0 ((s.advance 0).dispatchEvs) = u ∧ u.nextAction = some a ∧ u.rank a < 16 ∧ a.operand.fld 2 0 = 7 ∧ u.foOwner 7 = 2 ∧ (u.now : Int) ≤ a.tf ∧ (u.edges 7).length < 8 :=
  ⟨{ acting { index := 5, tf := 10, tcross := 0, kind := 1, operand := 7 } with cfgA := [(cfgKey 1 32 18, 2)] }, _, { index := 5, tf := 10, tcross := 0, kind := 1, operand := 7 }, rfl, by decide, by decide, by decide, by decide, by decide, by decide⟩

/-- Statement StakeActions: its hypotheses are met. -/
theorem wit_StakeActions7 :
    ∃ (s u : State) (a : Action), s.clock 0 ((s.advance 0).dispatchEvs) = u ∧ u.nextAction = some a ∧ u.rank a < 16 ∧ a.operand.fld 2 0 = 7 ∧ u.foOwner 7 = 2 ∧ a.tf < (u.now : Int) :=
  ⟨{ acting { index := 5, tf := -1, tcross := 0, kind := 1, operand := 7 } with cfgA := [(cfgKey 1 32 18, 2)] }, _, { index := 5, tf := -1, tcross := 0, kind := 1, operand := 7 }, rfl, by decide, by decide, by decide, by decide, by decide⟩

/-- Statement StakeActions: its hypotheses are met. -/
theorem wit_StakeActions8 :
    ∃ (s u : State), s.clock 0 ((s.advance 0).dispatchEvs) = u ∧ u.dispatches = false :=
  ⟨running.setReg Reg.PAIR_ROLE 3, _, rfl, by decide⟩

/-- Statement StakeActions: its hypotheses are met. -/
theorem wit_StakeActions9 :
    ∃ (s : State) (a b : Action), s.nextAction = some a ∧ b ∈ s.stk.actions ∧ s.due b = true ∧ a.index < b.index :=
  ⟨{ running with stk := { actions := [{ index := 5, tf := 0, tcross := 0, kind := 0, operand := 0 }, { index := 4, tf := 0, tcross := 0, kind := 0, operand := 0 }] } }, { index := 4, tf := 0, tcross := 0, kind := 0, operand := 0 }, { index := 5, tf := 0, tcross := 0, kind := 0, operand := 0 }, by decide, by decide, by decide, by decide⟩

/-- Statement StakeActions: its hypotheses are met. -/
theorem wit_StakeActions10 :
    ∃ (s u : State) (e : FoEdge), s.advance 0 = u ∧ u.edges 7 = [e] ∧ e.tf ≤ (u.now : Int) :=
  ⟨{ running with stk := { edges := [(7, [⟨0, 1⟩])] } }, _, ⟨0, 1⟩, rfl, by decide, by decide⟩

/-- Statement StakeActions: its hypotheses are met. -/
theorem wit_StakeActions11 :
    ∃ (s u : State) (e : FoEdge), s.advance 0 = u ∧ u.edges 7 = [e] ∧ (u.now : Int) < e.tf :=
  ⟨{ running with stk := { edges := [(7, [⟨9, 1⟩])] } }, _, ⟨9, 1⟩, rfl, by decide, by decide⟩

/-- Statement StakeActions: its hypotheses are met. -/
theorem wit_StakeActions12 :
    ∃ (s u : State) (l c : Capture), s.toRead 0 0x42 (Reg.STK_CAPk_INFO 15) = u ∧ u.opens 0x42 false (Reg.STK_CAPk_INFO 15) = true ∧ u.flipsAt (Reg.STK_CAPk_INFO 15) = (0, 0, 0) ∧ sget none u.stk.capLat (15 * 256 + 0x42) = some l ∧ sget {} u.stk.caps 15 = c ∧ l.stamp = c.stamp :=
  ⟨{ running with stk := { caps := [(15, { stamp := 1 })], capLat := [(0xF42, some { stamp := 1 })] } }, _, { stamp := 1 }, { stamp := 1 }, rfl, by decide, by decide, by decide, by decide, by decide⟩

/-- Statement StakeActions: its hypotheses are met. -/
theorem wit_StakeActions13 :
    ∃ (s u : State) (l c : Capture), s.toRead 0 0x42 (Reg.STK_CAPk_INFO 0) = u ∧ u.opens 0x42 false (Reg.STK_CAPk_INFO 0) = true ∧ u.flipsAt (Reg.STK_CAPk_INFO 0) = (0, 0, 0) ∧ sget none u.stk.capLat (0 * 256 + 0x42) = some l ∧ sget {} u.stk.caps 0 = c ∧ l.stamp ≠ c.stamp ∧ u.evsNow.any (fun e => e.tag = .capture && e.a = 0) = false :=
  ⟨{ running with stk := { caps := [(0, { stamp := 2 })], capLat := [(0x42, some { stamp := 1 })] } }, _, { stamp := 1 }, { stamp := 2 }, rfl, by decide, by decide, by decide, by decide, by decide, by decide⟩

/-- Statement FramesLeave: its hypotheses are met. -/
theorem wit_FramesLeave1 :
    ∃ (s u : State) (v : State) (w : WireFrame), s.advance 0 = u ∧ u.hasPort 3 = true ∧ u.regB (Reg.TRV_STS 3) 0 = true ∧ u.wire 3 = v ∧ (v.port 3).tx = none ∧ (v.port 3).held = none ∧ v.nextFrame 3 false = some (0, w, none) :=
  ⟨queued false, _, _, wire1 false, rfl, by decide, by decide, rfl, by decide, by decide, by decide⟩

/-- Statement FramesLeave: its hypotheses are met. -/
theorem wit_FramesLeave2 :
    ∃ (s u : State) (v : State), s.advance 0 = u ∧ u.hasPort 3 = true ∧ u.regB (Reg.TRV_STS 3) 0 = true ∧ u.wire 3 = v ∧ (v.port 3).tx = none ∧ (v.port 3).held = none ∧ v.nextFrame 3 false = none :=
  ⟨linked 3, _, _, rfl, by decide, by decide, rfl, by decide, by decide, by decide⟩

/-- Statement FramesLeave: its hypotheses are met. -/
theorem wit_FramesLeave3 :
    ∃ (s u : State) (v : State) (x : Sending), s.advance 0 = u ∧ u.hasPort 3 = true ∧ u.regB (Reg.TRV_STS 3) 0 = true ∧ u.wire 3 = v ∧ (v.port 3).tx = some x ∧ v.nextFrame 3 true = none :=
  ⟨{ linked 3 with ports := [(3, { tx := some sending1 })] }, _, _, sending1, rfl, by decide, by decide, rfl, by decide, by decide⟩

/-- Statement FramesLeave: its hypotheses are met. -/
theorem wit_FramesLeave4 :
    ∃ (s u : State) (v : State) (x : Sending) (w : WireFrame), s.advance 0 = u ∧ u.hasPort 3 = true ∧ u.regB (Reg.TRV_STS 3) 0 = true ∧ u.wire 3 = v ∧ (v.port 3).tx = some x ∧ v.nextFrame 3 true = some (1, w, none) ∧ v.preempts 3 x.q = true ∧ v.fragMin 3 ≤ (v.now - x.at_) * 5 / 4 ∧ (v.now - x.at_) * 5 / 4 + 64 ≤ x.left :=
  ⟨{ (linked 3).setReg (Reg.TRV_STS 3) 3 with ptp := 200 * 2 ^ 32, cfgA := [(cfgKey 3 3 0, 1000000), (cfgKey 3 3 3, 1)], ports := [(3, { tx := some sending1, txq := [(1, [wire1 false])] })] }, _, _, sending1, wire1 false, rfl, by decide, by decide, rfl, by decide, by decide, by decide, by decide, by decide⟩

/-- Statement FramesLeave: its hypotheses are met. -/
theorem wit_FramesLeave5 :
    ∃ (s u : State) (v : State) (x : Sending), s.advance 0 = u ∧ u.hasPort 3 = true ∧ u.regB (Reg.TRV_STS 3) 0 = true ∧ u.wire 3 = v ∧ (v.port 3).tx = none ∧ (v.port 3).held = some x ∧ v.nextFrame 3 true = none ∧ v.piece 3 x.q x.left = some none :=
  ⟨{ linked 3 with ports := [(3, { held := some sending1 })] }, _, _, sending1, rfl, by decide, by decide, rfl, by decide, by decide, by decide, by decide⟩

/-- Statement FramesLeave: its hypotheses are met. -/
theorem wit_FramesLeave6 :
    ∃ (s u : State), s.advance 0 = u ∧ u.regB (Reg.TRV_STS 3) 0 = false :=
  ⟨running, _, rfl, by decide⟩

/-- Statement FramesLeave: its hypotheses are met. -/
theorem wit_FramesLeave7 :
    ∃ (s : State) (x : Sending), (s.port 3).tx = some x ∧ x.stop = none ∧ x.at_ + wireNs x.left ≤ s.now :=
  ⟨{ linked 3 with ptp := 1000000 * 2 ^ 32, ports := [(3, { tx := some sending1 })] }, sending1, by decide, by decide, by decide⟩

/-- Statement FramesLeave: its hypotheses are met. -/
theorem wit_FramesLeave8 :
    ∃ (s : State) (x : Sending), (s.port 3).tx = some x ∧ x.stop = some 100 ∧ x.at_ + wireNs 100 ≤ s.now :=
  ⟨{ linked 3 with ptp := 1000000 * 2 ^ 32, ports := [(3, { tx := some { sending1 with stop := some 100 } })] }, { sending1 with stop := some 100 }, by decide, by decide, by decide⟩

/-- Statement FramesLeave: its hypotheses are met. -/
theorem wit_FramesLeave9 :
    ∃ (w : WireFrame) (f : Frame), w.body = .trv f ∧ f.body = .heartbeat 1 0 ∧ f.hdr.tsReq = false :=
  ⟨wire1 false, beat false, by decide, by decide, by decide⟩

/-- Statement FramesLeave: its hypotheses are met. -/
theorem wit_FramesLeave10 :
    ∃ (w : WireFrame) (f : Frame), w.body = .trv f ∧ f.body = .heartbeat 1 0 ∧ f.hdr.tsReq = true :=
  ⟨wire1 true, beat true, by decide, by decide, by decide⟩

/-- Statement FramesLeave: its hypotheses are met. -/
theorem wit_FramesLeave11 :
    ∃ (s t : State) (q : List TsEntry), s.note [⟨.txqPush, 3, 0⟩] = t ∧ sget [] t.tsq 3 = q ∧ q ≠ [] ∧ q.length < 16 :=
  ⟨{ running with tsq := [(3, [⟨1, 2⟩])] }, _, [⟨1, 2⟩], rfl, by decide, by decide, by decide⟩

/-- Statement FramesLeave: its hypotheses are met. -/
theorem wit_FramesLeave12 :
    ∃ (s t : State), s.note [⟨.txqPush, 3, 0⟩] = t ∧ 16 ≤ (sget [] t.tsq 3 : List TsEntry).length :=
  ⟨{ running with tsq := [(3, List.replicate 16 ⟨1, 2⟩)] }, _, rfl, by decide⟩

/-- Statement FramesLeave: its hypotheses are met. -/
theorem wit_FramesLeave13 :
    ∃ (s u : State) (w t : State), s.toWrite 0 0x42 (Reg.TRV_CTL 3) 7 = u ∧ u.opens 0x42 true (Reg.TRV_CTL 3) = true ∧ u.regB (Reg.TRV_CTL 3) 2 = false ∧ u.setReg (Reg.TRV_CTL 3) 7 = w ∧ w.modPort 3 (fun p => { p with discEnd := some (w.now + 10000000), answers := [] }) = t ∧ t.cycles 3 = true ∧ t.runs = true :=
  ⟨{ linked 3 with cfgA := [(cfgKey 3 3 0, 1000000)] }, _, _, _, rfl, by decide, by decide, rfl, rfl, by decide, by decide⟩

/-- Statement FramesLeave: its hypotheses are met. -/
theorem wit_FramesLeave14 :
    ∃ (s u : State), s.advance 0 = u ∧ (u.port 3).discEnd = some 0 ∧ 0 ≤ u.now :=
  ⟨{ running with ports := [(3, { discEnd := some 0 })] }, _, rfl, by decide, by decide⟩

/-- Statement FramesLeave: its hypotheses are met. -/
theorem wit_FramesLeave15 :
    ∃ (s u : State), s.advance 0 = u ∧ (u.port 3).discEnd = some 1 ∧ u.now < 1 :=
  ⟨{ running with ports := [(3, { discEnd := some 1 })] }, _, rfl, by decide, by decide⟩

/-- Statement FramesLeave: its hypotheses are met. -/
theorem wit_FramesLeave16 :
    ∃ (s u v : State) (w : State), s.clock 0 ((rxEvs 3 ++ [⟨.stnFrame, 3, ((s.stnAt 3 hdr1.src).getD 0)⟩])) = u ∧ u.takesFrame 3 hdr1 (.discoverResp 9 8 7 6) true = true ∧ u.received 3 (hdr1 : Hdr).vid.isSome (20 + paylen (.discoverResp 9 8 7 6)) = v ∧ (v.stnAt 3 hdr1.src).elim v (fun k => if hdr1.dst = v.ownAddr then v.heardStn 3 k 6 hdr1.epoch else v) = w ∧ (w.port 3).discEnd = some 1 ∧ w.now < 1 :=
  ⟨{ linked 3 with ports := [(3, { discEnd := some 1 })] }, _, _, _, rfl, by decide, rfl, rfl, by decide +kernel, by decide +kernel⟩

/-- Statement FramesLeave: its hypotheses are met. -/
theorem wit_FramesLeave17 :
    ∃ (s u : State), s.clock 0 ((rxEvs 3)) = u ∧ u.hasPort 3 = true ∧ u.regB (Reg.TRV_STS 3) 0 = true :=
  ⟨linked 3, _, rfl, by decide, by decide⟩

/-- Statement FramesLeave: its hypotheses are met. -/
theorem wit_FramesLeave18 :
    ∃ (s u : State) (v : State), s.clock 0 ((rxEvs 3)) = u ∧ u.hasPort 3 = true ∧ u.regB (Reg.TRV_STS 3) 0 = true ∧ u.received 3 (none : Option Nat).isSome ([] : List Byte).length = v ∧ 1 ≠ v.regF Reg.TRV_SW_ETYPE 15 0 :=
  ⟨linked 3, _, _, rfl, by decide, by decide, rfl, by decide⟩

/-- Statement FramesLeave: its hypotheses are met. -/
theorem wit_FramesLeave19 :
    ∃ (s u : State) (v : State), s.clock 0 ((rxEvs 3)) = u ∧ u.hasPort 3 = true ∧ u.regB (Reg.TRV_STS 3) 0 = true ∧ u.received 3 (none : Option Nat).isSome ([] : List Byte).length = v ∧ 0x88B5 = v.regF Reg.TRV_SW_ETYPE 15 0 ∧ (∀ h : Hdr, h.vid = none → v.tagOk 3 h = true) ∧ headerGood [] = false :=
  ⟨linked 3, _, _, rfl, by decide, by decide, rfl, by decide, (by intro h e; simp [State.tagOk, e]), by decide⟩

/-- Statement FramesLeave: its hypotheses are met. -/
theorem wit_FramesLeave20 :
    ∃ (s u : State) (v t : State), s.clock 0 ((s.advance 0).lockEvs (fun s => (s.lineLink 3 false).ptpChanged s.ptpOn)) = u ∧ u.hasPort 3 = true ∧ u.regB (Reg.TRV_STS 3) 0 ≠ false ∧ u.wire 3 = v ∧ v.modPort 3 (fun p => { p with tx := none, held := none }) = t :=
  ⟨linked 3, _, _, _, rfl, by decide, by decide, rfl, rfl⟩

/-- Statement FramesAreTaken: its hypotheses are met. -/
theorem wit_FramesAreTaken1 :
    ∃ (s u v : State), s.clock 0 ((imageEvs 3 (.station blk2))) = u ∧ u.takesFrame 3 hdr1 (.input blk2) true = true ∧ u.received 3 (hdr1 : Hdr).vid.isSome (20 + paylen (.input blk2)) = v ∧ blk2.bytes.length + 4 * blk2.words.length ≤ 1024 ∧ v.isStation 3 blk2.stn hdr1 = true ∧ blk2.bytes.length = (v.stnW 3 blk2.stn 5).fld 31 16 ∧ blk2.words.length = (v.stnW 3 blk2.stn 6).fld 31 16 ∧ v.epoch ≤ hdr1.epoch ∧ v.regB (Reg.STN_STS 3 255) 4 = false ∧ v.regF (Reg.STN_STS 3 255) 2 0 = 0 % 8 :=
  ⟨withStn, _, _, rfl, by decide, rfl, by decide, by decide, by decide, by decide, by decide, by decide, by decide⟩

/-- Statement FramesAreTaken: its hypotheses are met. -/
theorem wit_FramesAreTaken2 :
    ∃ (s u v : State), s.clock 0 ((imageEvs 3 (.station { blk2 with bytes := [] }))) = u ∧ u.takesFrame 3 hdr1 (.input { blk2 with bytes := [] }) true = true ∧ u.received 3 (hdr1 : Hdr).vid.isSome (20 + paylen (.input { blk2 with bytes := [] })) = v ∧ v.isStation 3 blk2.stn hdr1 = true ∧ ([] : List Byte).length ≠ (v.stnW 3 blk2.stn 5).fld 31 16 :=
  ⟨withStn, _, _, rfl, by decide, rfl, by decide, by decide⟩

/-- Statement FramesAreTaken: its hypotheses are met. -/
theorem wit_FramesAreTaken3 :
    ∃ (s u v : State), s.clock 0 ((imageEvs 3 (.station { blk2 with stn := 1 }))) = u ∧ u.takesFrame 3 hdr1 (.input { blk2 with stn := 1 }) true = true ∧ u.received 3 (hdr1 : Hdr).vid.isSome (20 + paylen (.input { blk2 with stn := 1 })) = v ∧ v.isStation 3 1 hdr1 = false :=
  ⟨withStn, _, _, rfl, by decide, rfl, by decide⟩

/-- Statement FramesAreTaken: its hypotheses are met. -/
theorem wit_FramesAreTaken4 :
    ∃ (s u v : State) (w : State), s.clock 0 ((imageEvs 3 (.pair 0 []))) = u ∧ u.takesFrame 3 hdr1 (.image 0 []) false = true ∧ u.received 3 (hdr1 : Hdr).vid.isSome (20 + paylen (.image 0 [])) = v ∧ v.fromUpstream 3 hdr1 = true ∧ v.heardUp 3 hdr1.src = w ∧ w.upAddr 3 = hdr1.src ∧ (w.port 3).asStn.state ≠ 4 :=
  ⟨upward [], _, _, _, rfl, by decide, rfl, by decide, rfl, by decide, by decide⟩

/-- Statement FramesAreTaken: its hypotheses are met. -/
theorem wit_FramesAreTaken5 :
    ∃ (s u v : State), s.clock 0 ((rxEvs 3 ++ [⟨.stnFrame, 3, 255⟩, ⟨.ackFrame, 3, 0⟩])) = u ∧ u.takesFrame 3 hdr1 (.ack 255 0 [⟨0x1000, true, 9⟩] []) true = true ∧ u.received 3 (hdr1 : Hdr).vid.isSome (20 + paylen (.ack 255 0 [⟨0x1000, true, 9⟩] [])) = v ∧ v.isStation 3 255 hdr1 = true :=
  ⟨withStn, _, _, rfl, by decide, rfl, by decide⟩

/-- Statement FramesAreTaken: its hypotheses are met. -/
theorem wit_FramesAreTaken6 :
    ∃ (s u v : State), s.clock 0 ((rxEvs 3 ++ [⟨.stnFrame, 3, 1⟩, ⟨.ackFrame, 3, 0⟩])) = u ∧ u.takesFrame 3 hdr1 (.ack 1 0 [⟨0x1000, true, 9⟩] []) true = true ∧ u.received 3 (hdr1 : Hdr).vid.isSome (20 + paylen (.ack 1 0 [⟨0x1000, true, 9⟩] [])) = v ∧ v.isStation 3 1 hdr1 = false :=
  ⟨withStn, _, _, rfl, by decide, rfl, by decide⟩

/-- Statement FramesAreTaken: its hypotheses are met. -/
theorem wit_FramesAreTaken7 :
    ∃ (s u v : State), s.clock 0 ((rxEvs 3 ++ (s.advance 0).pairEvs (fun s => s.beatRx 3 { hdr1 with src := 0, slot := 1 } 9 0))) = u ∧ u.takesFrame 3 { hdr1 with src := 0, slot := 1 } (.heartbeat (9 % 8) 0) false = true ∧ u.received 3 ({ hdr1 with src := 0, slot := 1 } : Hdr).vid.isSome (20 + paylen (.heartbeat (9 % 8) 0)) = v ∧ 0 = v.ownAddr ∧ 1 ≠ v.slotId :=
  ⟨linked 3, _, _, rfl, by decide, rfl, by decide, by decide⟩

/-- Statement FramesAreTaken: its hypotheses are met. -/
theorem wit_FramesAreTaken8 :
    ∃ (s u v : State) (w : State), s.clock 0 ((rxEvs 3)) = u ∧ u.takesFrame 3 hdr1 (.datum [default]) false = true ∧ u.received 3 (hdr1 : Hdr).vid.isSome (20 + paylen (.datum [default])) = v ∧ v.fromUpstream 3 hdr1 = true ∧ v.heardUp 3 hdr1.src = w :=
  ⟨upward [], _, _, _, rfl, by decide, rfl, by decide, rfl⟩

/-- Statement FramesAreTaken: its hypotheses are met. -/
theorem wit_FramesAreTaken9 :
    ∃ (s u v : State), s.clock 0 ((rxEvs 3)) = u ∧ u.takesFrame 3 { hdr1 with epoch := 1 } (.datum [default]) false = true ∧ u.received 3 ({ hdr1 with epoch := 1 } : Hdr).vid.isSome (20 + paylen (.datum [default])) = v ∧ v.isUpstream 3 9 = true ∧ 1 < (sget {} (v.port 3).upEpochs 9 : UpEpoch).epoch :=
  ⟨upward [], _, _, rfl, by decide, rfl, by decide, by decide⟩

/-- Statement FramesAreTaken: its hypotheses are met. -/
theorem wit_FramesAreTaken10 :
    ∃ (s u v : State) (w t : State), s.clock 0 ((rxEvs 3 ++ ((s.follows 3 hdr1.src).filter (fun d => (s.cw 2 d 13).fld 4 2 = 2)).flatMap s.pushEvs ++ ((s.follows 3 hdr1.src).filter (fun d => (s.cw 2 d 13).fld 4 2 = 2)).map (fun d => ⟨.upSeg, d, 0⟩))) = u ∧ u.takesFrame 3 hdr1 (.segment 2 none [seg1]) false = true ∧ u.received 3 (hdr1 : Hdr).vid.isSome (20 + paylen (.segment 2 none [seg1])) = v ∧ v.fromUpstream 3 hdr1 = true ∧ v.heardUp 3 hdr1.src = w ∧ w.runs = true ∧ (if w.upAddr 3 ≠ hdr1.src then w else w.modPort 3 (fun p => { p with asStn := { p.asStn with held := smod none p.asStn.held 2 (fun k => heldAfter k none [seg1]), truncs := p.asStn.truncs.filter (· ≠ 2) } })) = t ∧ (t.follows 3 hdr1.src).filter (fun d => (t.cw 2 d 13).fld 4 2 = 2) = [5] :=
  ⟨upward [(cfgKey 2 5 0, 3), (cfgKey 2 5 13, 0x90B)], _, _, _, _, rfl, by decide, rfl, by decide, rfl, by decide, rfl, by decide⟩

/-- Statement FramesAreTaken: its hypotheses are met. -/
theorem wit_FramesAreTaken11 :
    ∃ (s u v : State) (w t : State), s.clock 0 ((rxEvs 3 ++ ((s.follows 3 hdr1.src).filter (fun d => (s.cw 2 d 13).fld 4 2 = 2)).flatMap s.pushEvs ++ ((s.follows 3 hdr1.src).filter (fun d => (s.cw 2 d 13).fld 4 2 = 2)).map (fun d => ⟨.upSeg, d, 0⟩))) = u ∧ u.takesFrame 3 hdr1 (.segment 2 (some 0) []) false = true ∧ u.received 3 (hdr1 : Hdr).vid.isSome (20 + paylen (.segment 2 (some 0) [])) = v ∧ v.fromUpstream 3 hdr1 = true ∧ v.heardUp 3 hdr1.src = w ∧ w.runs = true ∧ (if w.upAddr 3 ≠ hdr1.src then w else w.modPort 3 (fun p => { p with asStn := { p.asStn with held := smod none p.asStn.held 2 (fun j => heldAfter j (some 0) []), truncs := p.asStn.truncs.filter (· ≠ 2) ++ [2] } })) = t ∧ (t.follows 3 hdr1.src).filter (fun d => (t.cw 2 d 13).fld 4 2 = 2) = [5] ∧ ((t.dat 5).queue.filter (fun g => seqPast 0 g.seq)).length < (t.dat 5).queue.length :=
  ⟨{ upward [(cfgKey 2 5 0, 3), (cfgKey 2 5 13, 0x90B)] with dats := [(5, { st := .running, queue := [{ seg1 with seq := 0 }, seg1] })] }, _, _, _, _, rfl, by decide, rfl, by decide, rfl, by decide, rfl, by decide, by decide⟩

/-- Statement FramesAreTaken: its hypotheses are met. -/
theorem wit_FramesAreTaken12 :
    ∃ (s u v : State) (w : State), s.clock 0 ((rxEvs 3)) = u ∧ u.takesFrame 3 hdr1 (.stateCmd 9 3) false = true ∧ u.received 3 (hdr1 : Hdr).vid.isSome (20 + paylen (.stateCmd 9 3)) = v ∧ v.fromUpstream 3 hdr1 = true ∧ v.heardUp 3 hdr1.src = w ∧ w.upAddr 3 = hdr1.src ∧ hdr1.dst = w.ownAddr ∧ w.upStn 3 = 9 ∧ (w.port 3).asStn.state = 2 :=
  ⟨{ upward [] with ports := [(3, { upEpochs := [(9, ⟨4, 0⟩)], asStn := { state := 2 } })] }, _, _, _, rfl, by decide, rfl, by decide, rfl, by decide, by decide, by decide, by decide⟩

/-- Statement FramesAreTaken: its hypotheses are met. -/
theorem wit_FramesAreTaken13 :
    ∃ (s u v : State) (w : State), s.clock 0 ((rxEvs 3)) = u ∧ u.takesFrame 3 hdr1 (.config [0x24, 0, 0, 0, 0, 0, 0, 0, 0, 0, 0]) false = true ∧ u.received 3 (hdr1 : Hdr).vid.isSome (20 + paylen (.config [0x24, 0, 0, 0, 0, 0, 0, 0, 0, 0, 0])) = v ∧ v.fromUpstream 3 hdr1 = true ∧ v.heardUp 3 hdr1.src = w ∧ w.upAddr 3 = hdr1.src ∧ hdr1.dst = w.ownAddr ∧ w.upStn 3 = (item [0x24, 0, 0, 0, 0, 0, 0, 0, 0, 0, 0] 0).fld 9 2 :=
  ⟨upward [], _, _, _, rfl, by decide, rfl, by decide, rfl, by decide, by decide, by decide⟩

/-- Statement FramesAreTaken: its hypotheses are met. -/
theorem wit_FramesAreTaken14 :
    ∃ (s u : State), s.clock 0 [⟨.stnLost, 3, 255⟩] = u ∧ u.stnW 3 255 0 ≠ 0 ∧ u.hasPort 3 = true ∧ u.missLimit 3 ≤ u.regF (Reg.STN_STS 3 255) 15 8 ∧ u.regB (Reg.STN_STS 3 255) 4 = false :=
  ⟨withStn.setReg (Reg.STN_STS 3 255) 0x300, _, rfl, by decide, by decide, by decide, by decide⟩

/-- Statement FramesAreTaken: its hypotheses are met. -/
theorem wit_FramesAreTaken15 :
    ∃ (s u : State) (g : DueSeg), s.advance 0 = u ∧ (u.port 0).dueSegs = [g] ∧ u.segRepeat 0 + 1 < g.sent :=
  ⟨{ running with ports := [(0, { dueSegs := [⟨0, seg1, 6⟩] })] }, _, ⟨0, seg1, 6⟩, rfl, by decide, by decide⟩

/-- Statement FramesAreTaken: its hypotheses are met. -/
theorem wit_FramesAreTaken16 :
    ∃ (s u : State) (e : DueEvt), s.advance 0 = u ∧ (u.port 0).dueEvts = [e] ∧ e.evt.act ≤ (u.now : Int) ∧ e.nak = false ∧ e.sent = true ∧ (u.port 1).dueEvts = [] :=
  ⟨{ running with ports := [(0, { dueEvts := [⟨⟨1, 2, 3, 0⟩, true, false⟩] })] }, _, ⟨⟨1, 2, 3, 0⟩, true, false⟩, rfl, by decide, by decide, by decide, by decide, by decide⟩

/-- Statement FramesAreTaken: its hypotheses are met. -/
theorem wit_FramesAreTaken17 :
    ∃ (s u : State) (e : DueEvt), s.advance 0 = u ∧ (u.port 0).dueEvts = [e] ∧ e.evt.act ≤ (u.now : Int) ∧ e.nak = false ∧ e.sent = false :=
  ⟨{ running with ports := [(0, { dueEvts := [⟨⟨1, 2, 3, 0⟩, false, false⟩] })] }, _, ⟨⟨1, 2, 3, 0⟩, false, false⟩, rfl, by decide, by decide, by decide, by decide⟩

/-- Statement PlumbBitInstructions: its hypotheses are met. -/
theorem wit_PlumbBitInstructions1 :
    ∃ (s u : State) (r : Release) (r' : Release), s.atOp 0x10 9 1 10 5 r u ∧ spBitStore.contains 10 = true ∧ 5 < spaceBits 10 ∧ u.writeBit 0x10 r 10 5 true = .ok r' ∧ r'.phase = .run ∧ r.acc = true :=
  ⟨coding 9 10 5 { acc := true }, _, _, { rel1 with acc := true, wbuf := [(imgKey 10 0 0, some (0x20, 0x20))], clocks := 1 }, ⟨_, rfl, by decide, by decide, by decide, by decide, State.eccAt_none rfl rfl _, by decide, rfl, rfl⟩, by decide, by decide, by rfl, by decide, by decide⟩

/-- Statement PlumbBitInstructions: its hypotheses are met. -/
theorem wit_PlumbBitInstructions2 :
    ∃ (s u : State) (r : Release) (b : Bool), s.atOp 0x10 1 1 9 0xA0 r u ∧ spBit.contains 9 = true ∧ u.readBit r 9 0xA0 = .ok b :=
  ⟨coding 1 9 0xA0 {}, _, _, false, ⟨_, rfl, by decide, by decide, by decide, by decide, State.eccAt_none rfl rfl _, by decide, rfl, rfl⟩, by decide, by rfl⟩

/-- Statement PlumbBitInstructions: its hypotheses are met. -/
theorem wit_PlumbBitInstructions3 :
    ∃ (s u : State) (r : Release) (r' : Release), s.atOp 0x10 0x18 1 6 16383 r u ∧ u.readBit r 6 16383 = .ok false ∧ u.writeBit 0x10 r 6 16383 r.acc = .ok r' ∧ r'.phase = .run :=
  ⟨coding 0x18 6 16383 { wbuf := [(imgKey 6 0 511, some (0, 0x80000000))] }, _, _, { rel1 with wbuf := [(imgKey 6 0 511, some (0, 0x80000000))], clocks := 1 }, ⟨_, rfl, by decide, by decide, by decide, by decide, State.eccAt_none rfl rfl _, by decide, rfl, rfl⟩, by rfl, by rfl, by decide⟩

/-- Statement PlumbBitInstructions: its hypotheses are met. -/
theorem wit_PlumbBitInstructions4 :
    ∃ (s u : State) (r : Release), s.atOp 0x10 0x0F 1 0 0 r u ∧ r.acc = false :=
  ⟨coding 0x0F 0 0 {}, _, _, ⟨_, rfl, by decide, by decide, by decide, by decide, State.eccAt_none rfl rfl _, by decide, rfl, rfl⟩, by decide⟩

/-- Statement PlumbFlowInstructions: its hypotheses are met. -/
theorem wit_PlumbFlowInstructions1 :
    ∃ (s u : State) (r : Release), s.atOp 0x10 0x13 1 0 0 r u ∧ r.stack.length < 32 :=
  ⟨coding 0x13 0 0 {}, _, _, ⟨_, rfl, by decide, by decide, by decide, by decide, State.eccAt_none rfl rfl _, by decide, rfl, rfl⟩, by decide⟩

/-- Statement PlumbFlowInstructions: its hypotheses are met. -/
theorem wit_PlumbFlowInstructions2 :
    ∃ (s u : State) (r : Release), s.atOp 0x10 0x13 1 0 0 r u ∧ 32 ≤ r.stack.length :=
  ⟨coding 0x13 0 0 { stack := List.replicate 32 (.ret 0) }, _, _, ⟨_, rfl, by decide, by decide, by decide, by decide, State.eccAt_none rfl rfl _, by decide, rfl, rfl⟩, by decide⟩

/-- Statement PlumbFlowInstructions: its hypotheses are met. -/
theorem wit_PlumbFlowInstructions3 :
    ∃ (s u : State) (r : Release), s.atOp 0x10 0x14 1 0 0 r u ∧ r.stack = [.logic .xor true] :=
  ⟨coding 0x14 0 0 { stack := [.logic .xor true] }, _, _, ⟨_, rfl, by decide, by decide, by decide, by decide, State.eccAt_none rfl rfl _, by decide, rfl, rfl⟩, by decide⟩

/-- Statement PlumbFlowInstructions: its hypotheses are met. -/
theorem wit_PlumbFlowInstructions4 :
    ∃ (s u : State) (r : Release), s.atOp 0x10 0x25 1 0 0 r u ∧ r.stack = [.ret 9] ∧ 9 < bindLen r.binding ∧ r.acc = true :=
  ⟨coding 0x25 0 0 { stack := [.ret 9], acc := true }, _, _, ⟨_, rfl, by decide, by decide, by decide, by decide, State.eccAt_none rfl rfl _, by decide, rfl, rfl⟩, by decide, by decide, by decide⟩

/-- Statement PlumbFlowInstructions: its hypotheses are met. -/
theorem wit_PlumbFlowInstructions5 :
    ∃ (s u : State) (r : Release), s.atOp 0x10 0x22 1 0 9 r u ∧ 9 < bindLen r.binding ∧ r.acc = false ∧ r.stack.length < 32 :=
  ⟨coding 0x22 0 9 {}, _, _, ⟨_, rfl, by decide, by decide, by decide, by decide, State.eccAt_none rfl rfl _, by decide, rfl, rfl⟩, by decide, by decide, by decide⟩

/-- Statement PlumbFlowInstructions: its hypotheses are met. -/
theorem wit_PlumbFlowInstructions6 :
    ∃ (s u : State) (r : Release), s.atOp 0x10 0x2F 1 0 0 r u ∧ r.stack ≠ [] :=
  ⟨coding 0x2F 0 0 { stack := [.ret 9] }, _, _, ⟨_, rfl, by decide, by decide, by decide, by decide, State.eccAt_none rfl rfl _, by decide, rfl, rfl⟩, by decide⟩

/-- Statement PlumbFlowInstructions: its hypotheses are met. -/
theorem wit_PlumbFlowInstructions7 :
    ∃ (s : State) (x : Release), (s.eng 0x10).rel = some x ∧ x.phase = .run ∧ s.codeWord x = plWord 0x2F 0 0 ∧ s.domainOn 8 = true ∧ s.eccAt x.codeAt = 0 ∧ s.outOfTime x (x.due 1) true = none ∧ x.stack = [] :=
  ⟨coding 0x2F 0 0 {}, rel1, by decide, by decide, by decide, by decide, State.eccAt_none rfl rfl _, by decide, by decide⟩

/-- Statement PlumbFlowInstructions: its hypotheses are met. -/
theorem wit_PlumbFlowInstructions8 :
    ∃ (s : State) (x : Release), (s.eng 0x10).rel = some x ∧ x.phase = .run ∧ plDefined ((s.codeWord x).fld 31 24) = false ∧ s.domainOn 8 = true ∧ s.eccAt x.codeAt = 0 ∧ s.outOfTime x (x.due 1) false = none :=
  ⟨coding 0x16 0 0 {}, rel1, by decide, by decide, by decide, by decide, State.eccAt_none rfl rfl _, by decide⟩

/-- Statement PlumbFlowInstructions: its hypotheses are met. -/
theorem wit_PlumbFlowInstructions9 :
    ∃ (s : State) (x : Release), (s.eng 0x10).rel = some x ∧ x.phase = .run ∧ s.codeWord x = plWord 0 0 0 ∧ s.domainOn 8 = false ∧ s.outOfTime x (x.due 1) false = none :=
  ⟨(coding 0 0 0 {}).setReg Reg.PWR_DOM_STS 0, rel1, by decide, by decide, by decide, by decide, by decide⟩

/-- Statement PlumbFlowInstructions: its hypotheses are met. -/
theorem wit_PlumbFlowInstructions10 :
    ∃ (s : State) (x : Release), (s.eng 0x10).rel = some x ∧ x.phase = .run ∧ s.codeWord x = plWord 0 0 0 ∧ s.outOfTime x (x.due 1) false = some 0 :=
  ⟨{ coding 0 0 0 {} with ptp := 100000000 * 2 ^ 32 }, rel1, by decide, by decide, by decide, by decide⟩

/-- Statement PlumbWordInstructions: its hypotheses are met. -/
theorem wit_PlumbWordInstructions1 :
    ∃ (s u : State) (r : Release) (w : Word), s.atOp 0x10 0x3a 1 7 16383 r u ∧ spWord.contains 7 = true ∧ u.readWord 0x10 r 7 16383 = .ok w :=
  ⟨coding 0x3a 7 16383 {}, _, _, 0, ⟨_, rfl, by decide, by decide, by decide, by decide, State.eccAt_none rfl rfl _, by decide, rfl, rfl⟩, by decide, by rfl⟩

/-- Statement PlumbWordInstructions: its hypotheses are met. -/
theorem wit_PlumbWordInstructions2 :
    ∃ (s u : State) (r : Release) (w : DWord), s.atOp 0x10 0x54 1 7 16382 r u ∧ spWord.contains 7 = true ∧ u.readDouble 0x10 r 7 16382 = .ok w :=
  ⟨coding 0x54 7 16382 {}, _, _, 0, ⟨_, rfl, by decide, by decide, by decide, by decide, State.eccAt_none rfl rfl _, by decide, rfl, rfl⟩, by decide, by rfl⟩

/-- Statement PlumbWordInstructions: its hypotheses are met. -/
theorem wit_PlumbWordInstructions3 :
    ∃ (s u : State) (r : Release), s.atOp 0x10 0x41 1 0 63 r u :=
  ⟨coding 0x41 0 63 {}, _, _, ⟨_, rfl, by decide, by decide, by decide, by decide, State.eccAt_none rfl rfl _, by decide, rfl, rfl⟩⟩

/-- Statement PlumbWordInstructions: its hypotheses are met. -/
theorem wit_PlumbWordInstructions4 :
    ∃ (s u : State) (r : Release), s.atOp 0x10 0x41 1 0 64 r u :=
  ⟨coding 0x41 0 64 {}, _, _, ⟨_, rfl, by decide, by decide, by decide, by decide, State.eccAt_none rfl rfl _, by decide, rfl, rfl⟩⟩

/-- Statement PlumbWordInstructions: its hypotheses are met. -/
theorem wit_PlumbWordInstructions5 :
    ∃ (s u : State) (r : Release) (r1 r' : Release), s.atOp 0x10 0x37 1 8 8190 r u ∧ spWordStore.contains 8 = true ∧ 8190 + 2 ≤ spaceWords 8 ∧ u.writeWord 0x10 r 8 8190 (r.wa.setWidth 32) = .ok r1 ∧ u.writeWord 0x10 r1 8 8191 ((r.wa >>> 32).setWidth 32) = .ok r' ∧ r'.phase = .run ∧ r.acc = true :=
  ⟨coding 0x37 8 8190 { acc := true, wbuf := wb2 }, _, _, { rel1 with acc := true, wbuf := wb2, clocks := 1 }, { rel1 with acc := true, wbuf := wb2, clocks := 1 }, ⟨_, rfl, by decide, by decide, by decide, by decide, State.eccAt_none rfl rfl _, by decide, rfl, rfl⟩, by decide, by decide, by rfl, by rfl, by decide, by decide⟩

/-- Statement PlumbWordInstructions: its hypotheses are met. -/
theorem wit_PlumbWordInstructions6 :
    ∃ (s u : State) (r : Release), s.atOp 0x10 0x37 1 10 1022 r u ∧ r.acc = false :=
  ⟨coding 0x37 10 1022 {}, _, _, ⟨_, rfl, by decide, by decide, by decide, by decide, State.eccAt_none rfl rfl _, by decide, rfl, rfl⟩, by decide⟩

/-- Statement PlumbUnitInstructions: its hypotheses are met. -/
theorem wit_PlumbUnitInstructions1 :
    ∃ (s u : State) (r : Release) (r1 r2 r' : Release), s.atOp 0x10 0x60 2 4 0 r u ∧ u.readWord 0x10 r 4 0 = .ok 0 ∧ u.readWord 0x10 r 4 1 = .ok 0 ∧ u.readWord 0x10 r 4 2 = .ok 0 ∧ u.readWord 0x10 r 4 3 = .ok 0 ∧ u.writeWord 0x10 r 4 0 0 = .ok r1 ∧ u.writeWord 0x10 r1 4 2 1 = .ok r2 ∧ u.writeWord 0x10 r2 4 3 0 = .ok r' ∧ r'.phase = .run ∧ u.writeWord 0x10 r 4 1 (r.wa.setWidth 32) = .ok r :=
  ⟨coding 0x60 4 0 { wbuf := tim0 }, _, _, { relT with clocks := 2 }, { relT with clocks := 2, wbuf := [(imgKey 4 0 0, some (0, 0xFFFFFFFF)), (imgKey 4 0 1, some (0, 0xFFFFFFFF)), (imgKey 4 0 2, some (1, 0xFFFFFFFF)), (imgKey 4 0 3, some (0, 0xFFFFFFFF))] }, _, ⟨_, rfl, by decide, by decide, by decide, by decide, State.eccAt_none rfl rfl _, by decide, rfl, rfl⟩, by rfl, by rfl, by rfl, by rfl, by rfl, by rfl, by rfl, by decide, by rfl⟩

/-- Statement PlumbUnitInstructions: its hypotheses are met. -/
theorem wit_PlumbUnitInstructions2 :
    ∃ (s u : State) (r : Release) (r1 r' : Release), s.atOp 0x10 0x64 2 4 0 r u ∧ r.acc = true ∧ u.writeWord 0x10 r 4 0 0 = .ok r1 ∧ u.bufWrite 0x10 r1 4 2 0 12 = .ok r' ∧ r'.phase = .run :=
  ⟨coding 0x64 4 0 { acc := true, wbuf := tim0 }, _, _, { relT with acc := true, clocks := 2 }, { relT with acc := true, clocks := 2 }, ⟨_, rfl, by decide, by decide, by decide, by decide, State.eccAt_none rfl rfl _, by decide, rfl, rfl⟩, by decide, by rfl, by rfl, by decide⟩

/-- Statement PlumbUnitInstructions: its hypotheses are met. -/
theorem wit_PlumbUnitInstructions3 :
    ∃ (s u : State) (r : Release) (r1 r' : Release), s.atOp 0x10 0x6b 2 5 2047 r u ∧ r.acc = true ∧ u.readWord 0x10 r 5 (4 * 2047) = .ok 0 ∧ u.readWord 0x10 r 5 (4 * 2047 + 1) = .ok 0 ∧ u.readWord 0x10 r 5 (4 * 2047 + 2) = .ok 0 ∧ u.writeWord 0x10 r 5 (4 * 2047) 0 = .ok r1 ∧ u.writeWord 0x10 r1 5 (4 * 2047 + 2) 0 = .ok r' ∧ r'.phase = .run :=
  ⟨coding 0x6b 5 2047 { acc := true, wbuf := ctr9 }, _, _, { relT with acc := true, wbuf := ctr9, clocks := 2 }, { relT with acc := true, wbuf := ctr9, clocks := 2 }, ⟨_, rfl, by decide, by decide, by decide, by decide, State.eccAt_none rfl rfl _, by decide, rfl, rfl⟩, by decide, by rfl, by rfl, by rfl, by rfl, by rfl, by decide⟩

/-- Statement PlumbUnitInstructions: its hypotheses are met. -/
theorem wit_PlumbUnitInstructions4 :
    ∃ (s u : State) (r : Release) (lo hi : DWord), s.atOp 0x10 0x77 1 7 0 r u ∧ u.readDouble 0x10 r 7 0 = .ok lo ∧ u.readDouble 0x10 r 7 (0 + 2) = .ok hi ∧ lo.toNat < u.datMod 7 ∧ hi.toNat < u.datMod 7 :=
  ⟨coding 0x77 7 0 {}, _, _, 0, 0, ⟨_, rfl, by decide, by decide, by decide, by decide, State.eccAt_none rfl rfl _, by decide, rfl, rfl⟩, by rfl, by rfl, by decide, by decide⟩

/-- Statement PlumbUnitInstructions: its hypotheses are met. -/
theorem wit_PlumbUnitInstructions5 :
    ∃ (s u : State) (r : Release) (lo hi : DWord), s.atOp 0x10 0x77 1 7 0 r u ∧ u.readDouble 0x10 r 7 0 = .ok lo ∧ u.readDouble 0x10 r 7 (0 + 2) = .ok hi ∧ u.datMod 7 ≤ lo.toNat :=
  ⟨{ coding 0x77 7 0 {} with konst := [(0x10 * 16384, 9)], cfgA := [(cfgKey 2 7 1, 9)] }, _, _, 9, 0, ⟨_, rfl, by decide, by decide, by decide, by decide, State.eccAt_none rfl rfl _, by decide, rfl, rfl⟩, by rfl, by rfl, by decide⟩

/-- Statement PlumbUnitInstructions: its hypotheses are met. -/
theorem wit_PlumbUnitInstructions6 :
    ∃ (s u : State) (r : Release), s.atOp 0x10 0x80 4 0 4095 r u ∧ u.unchecked 0x10 = false ∧ r.saved.any (fun p => p.1 = 4095) = false ∧ r.saved.length < 64 ∧ (u.stake 4095).prov = none ∧ (u.stake 4095).st = .disarmed :=
  ⟨coding 0x80 0 4095 { acc := true }, _, _, ⟨_, rfl, by decide, by decide, by decide, by decide, State.eccAt_none rfl rfl _, by decide, rfl, rfl⟩, by decide, by decide, by decide, by decide, by decide⟩

/-- Statement PlumbUnitInstructions: its hypotheses are met. -/
theorem wit_PlumbUnitInstructions7 :
    ∃ (s u : State) (r : Release), s.atOp 0x10 0x81 4 0 4095 r u ∧ r.acc = true ∧ u.unchecked 0x10 = false ∧ (u.stake 4095).prov = none ∧ (u.stake 4095).st ≠ .disarmed :=
  ⟨{ coding 0x81 0 4095 { acc := true } with stk := { entries := [(4095, { st := .armed })] } }, _, _, ⟨_, rfl, by decide, by decide, by decide, by decide, State.eccAt_none rfl rfl _, by decide, rfl, rfl⟩, by decide, by decide, by decide, by decide⟩

/-- Statement PlumbUnitInstructions: its hypotheses are met. -/
theorem wit_PlumbUnitInstructions8 :
    ∃ (s u : State) (r : Release), s.atOp 0x10 0x82 4 0 9 r u ∧ r.acc = true ∧ (u.stake 9).st = .disarmed ∧ (u.stake 9).target ≠ r.wa.toNat :=
  ⟨coding 0x82 0 9 { acc := true, wa := 7 }, _, _, ⟨_, rfl, by decide, by decide, by decide, by decide, State.eccAt_none rfl rfl _, by decide, rfl, rfl⟩, by decide, by decide, by decide⟩

/-- Statement PlumbUnitInstructions: its hypotheses are met. -/
theorem wit_PlumbUnitInstructions9 :
    ∃ (s u : State) (r : Release), s.atOp 0x10 0x83 4 0 9 r u ∧ r.acc = true ∧ (u.stake 9).prov = none ∧ (u.stake 9).st = .disarmed ∧ (u.stake 9).target ≠ u.stkTarget 9 :=
  ⟨{ coding 0x83 0 9 { acc := true } with cfgA := [(cfgKey 5 9 1, 7)] }, _, _, ⟨_, rfl, by decide, by decide, by decide, by decide, State.eccAt_none rfl rfl _, by decide, rfl, rfl⟩, by decide, by decide, by decide, by decide⟩

/-- Statement PlumbUnitInstructions: its hypotheses are met. -/
theorem wit_PlumbUnitInstructions10 :
    ∃ (s u : State) (r : Release), s.atOp 0x10 0x83 4 0 9 r u ∧ r.acc = false :=
  ⟨coding 0x83 0 9 {}, _, _, ⟨_, rfl, by decide, by decide, by decide, by decide, State.eccAt_none rfl rfl _, by decide, rfl, rfl⟩, by decide⟩

/-- Statement PlumbUnitInstructions: its hypotheses are met. -/
theorem wit_PlumbUnitInstructions11 :
    ∃ (s u : State) (r : Release) (ws : List Word), s.atOp 0x10 0x90 2 0 2047 r u ∧ r.acc = true ∧ u.unchecked 0x10 = false ∧ u.callable 0x10 2047 = true ∧ u.callIns 0x10 r (u.citem 6 2047 9) = .ok ws :=
  ⟨{ coding 0x90 0 2047 { acc := true } with cfgA := [(cfgKey 6 2047 0, 0x10006), (cfgKey 6 2047 5, 7)] }, _, _, List.replicate 8 0, ⟨_, rfl, by decide, by decide, by decide, by decide, State.eccAt_none rfl rfl _, by decide, rfl, rfl⟩, by decide, by decide, by decide, by rfl⟩

/-- Statement PlumbUnitInstructions: its hypotheses are met. -/
theorem wit_PlumbUnitInstructions12 :
    ∃ (s u : State) (r : Release), s.atOp 0x10 0x90 2 0 0 r u ∧ r.acc = true ∧ u.callable 0x10 0 = false :=
  ⟨coding 0x90 0 0 { acc := true }, _, _, ⟨_, rfl, by decide, by decide, by decide, by decide, State.eccAt_none rfl rfl _, by decide, rfl, rfl⟩, by decide, by decide⟩

/-- Statement ReleasesStartAndEnd: its hypotheses are met. -/
theorem wit_ReleasesStartAndEnd1 :
    ∃ (s u : State) (n : Nat) (b : List Word), s.clock 0 [⟨.relStart, 0x10, 0⟩] = u ∧ u.engineFree 0x10 = true ∧ u.nextTask 0x10 = some n ∧ u.citem 4 n 24 = b ∧ bindEntry b < bindLen b ∧ u.plm.mode = .task :=
  ⟨tasked .task, _, 31, _, rfl, by decide +kernel, by decide +kernel, rfl, by decide +kernel, by decide⟩

/-- Statement ReleasesStartAndEnd: its hypotheses are met. -/
theorem wit_ReleasesStartAndEnd2 :
    ∃ (s u : State) (n : Nat), s.clock 0 [⟨.relStart, 0x10, 0⟩] = u ∧ u.engineFree 0x10 = true ∧ u.nextTask 0x10 = some n ∧ u.plm.mode = .fixed :=
  ⟨tasked .fixed, _, 31, rfl, by decide +kernel, by decide +kernel, by decide⟩

/-- Statement ReleasesStartAndEnd: its hypotheses are met. -/
theorem wit_ReleasesStartAndEnd3 :
    ∃ (s u : State), s.clock 0 [⟨.relStart, 0x11, 0⟩] = u ∧ u.engineFree 0x11 = true ∧ u.nextTask 0x11 = none :=
  ⟨tasked .fixed, _, rfl, by decide +kernel, by decide +kernel⟩

/-- Statement ReleasesStartAndEnd: its hypotheses are met. -/
theorem wit_ReleasesStartAndEnd4 :
    ∃ (s u : State) (r : Release), s.clock 0 [⟨.commit, 0x10, 0⟩] = u ∧ (u.eng 0x10).rel = some r ∧ r.phase = .done ∧ r.start + relClocks r ≤ u.sclk ∧ u.mem.notices.all (fun n => n.master ≠ 0x10) = true ∧ digestsAgree r.digest none = true :=
  ⟨{ ended with sclk := 71 }, _, { rel1 with phase := .done }, rfl, by decide, by decide, by decide, by decide, by rfl⟩

/-- Statement ReleasesStartAndEnd: its hypotheses are met. -/
theorem wit_ReleasesStartAndEnd5 :
    ∃ (s u : State) (r : Release), s.clock 0 [⟨.commit, 0x10, 0⟩] = u ∧ (u.eng 0x10).rel = some r ∧ r.phase = .done ∧ r.start + relClocks r ≤ u.sclk ∧ digestsAgree r.digest (some 1) = false ∧ u.unchecked 0x10 = false :=
  ⟨{ ended with sclk := 71 }, _, { rel1 with phase := .done }, rfl, by decide, by decide, by decide, by decide +kernel, by decide⟩

/-- Statement ReleasesStartAndEnd: its hypotheses are met. -/
theorem wit_ReleasesStartAndEnd6 :
    ∃ (s u : State) (r : Release), s.clock 0 [⟨.commit, 0x10, 0⟩] = u ∧ (u.eng 0x10).rel = some r ∧ u.sclk < r.start + relClocks r :=
  ⟨{ ended with sclk := 70 }, _, { rel1 with phase := .done }, rfl, by decide, by decide⟩

/-- Statement ReleasesStartAndEnd: its hypotheses are met. -/
theorem wit_ReleasesStartAndEnd7 :
    ∃ (s u : State) (r : Release), s.clock 0 [⟨.deadline, 0x10, 0⟩] = u ∧ (u.eng 0x10).rel = some r ∧ r.phase ≠ .done ∧ r.startT + (if item r.binding 6 = 0 then 10000000 else (item r.binding 6).toNat) * 2 ^ 32 ≤ u.ptp ∧ (u.codeWord r).fld 31 24 ≠ 0x2F :=
  ⟨{ coding 0 0 0 {} with ptp := 10000000 * 2 ^ 32 }, _, rel1, rfl, by decide, by decide, by decide, by decide⟩

/-- Statement ReleasesStartAndEnd: its hypotheses are met. -/
theorem wit_ReleasesStartAndEnd8 :
    ∃ (s u : State) (r : Release), s.clock 0 [⟨.deadline, 0x10, 0⟩] = u ∧ (u.eng 0x10).rel = some r ∧ u.ptp < r.startT + bindDeadline r.binding * 2 ^ 32 :=
  ⟨{ coding 0 0 0 {} with ptp := 9999999 * 2 ^ 32 }, _, rel1, rfl, by decide, by decide⟩

/-- Statement ReleasesStartAndEnd: its hypotheses are met. -/
theorem wit_ReleasesStartAndEnd9 :
    ∃ (s u : State) (r : Release), s.clock 0 [⟨.deadline, 0x10, 0⟩] = u ∧ (u.eng 0x10).rel = some r ∧ r.phase = .run ∧ (u.codeWord r).fld 31 24 = 0x2F ∧ u.outOfTime r (r.due 1) true = none :=
  ⟨{ coding 0x2F 0 0 {} with ptp := 10000000 * 2 ^ 32 - 1000 * 2 ^ 32, sclk := 5 }, _, rel1, rfl, by decide, by decide, by decide, by decide⟩

/-- Statement CyclesAndModes: its hypotheses are met. -/
theorem wit_CyclesAndModes1 :
    ∃ (s u : State), s.advance 0 = u ∧ (u.reg Reg.PLM_FIXED_CFG).fld 16 0 * 1000 = 10000000 ∧ u.plm.mode = .fixed ∧ u.runs = true ∧ u.plm.cycle = none ∧ u.now / 10000000 * 10000000 = 20000000 ∧ u.plm.since < 20000000 ∧ u.plm.cycles = 0 ∧ u.nextTurn 0 = none :=
  by refine ⟨{ running with ptp := 20000000 * 2 ^ 32, plm := { mode := .fixed } }, _, rfl, ?_, ?_, ?_, ?_, ?_, ?_, ?_, ?_⟩ <;> decide +kernel

/-- Statement CyclesAndModes: its hypotheses are met. -/
theorem wit_CyclesAndModes2 :
    ∃ (s u : State), s.advance 0 = u ∧ u.plm.mode = .fixed ∧ u.runs = true ∧ (u.reg Reg.PLM_FIXED_CFG).fld 16 0 ≠ 0 ∧ u.plm.cycle = some 31 ∧ u.plm.cycT0 + u.plm.period ≤ u.now ∧ u.plm.late = false ∧ u.nextTurn 5 = some 31 :=
  by refine ⟨{ tasked .fixed with ptp := 1000000 * 2 ^ 32, plm := { mode := .fixed, cycle := some 31, cycTask := some 31, period := 1000000 } }, _, rfl, ?_, ?_, ?_, ?_, ?_, ?_, ?_⟩ <;> decide +kernel

/-- Statement CyclesAndModes: its hypotheses are met. -/
theorem wit_CyclesAndModes3 :
    ∃ (s u : State), s.advance 0 = u ∧ u.plm.mode ≠ .fixed :=
  ⟨tasked .task, _, rfl, by decide⟩

/-- Statement CyclesAndModes: its hypotheses are met. -/
theorem wit_CyclesAndModes4 :
    ∃ (s u : State), s.toWrite 0 0x42 Reg.PLM_MODE_REQ 1 = u ∧ u.opens 0x42 true Reg.PLM_MODE_REQ = true ∧ u.plm.mode = .fixed :=
  ⟨tasked .fixed, _, rfl, by decide +kernel, by decide⟩

/-- Statement CyclesAndModes: its hypotheses are met. -/
theorem wit_CyclesAndModes5 :
    ∃ (s u : State), s.toWrite 0 0x42 Reg.PLM_MODE_REQ 2 = u ∧ u.opens 0x42 true Reg.PLM_MODE_REQ = true ∧ u.plm.mode = .task ∧ u.plm.request ≠ some .fixed :=
  ⟨tasked .task, _, rfl, by decide +kernel, by decide, by decide⟩

/-- Statement CyclesAndModes: its hypotheses are met. -/
theorem wit_CyclesAndModes6 :
    ∃ (s u : State), s.toWrite 0 0x42 Reg.PLM_MODE_REQ 1 = u ∧ u.opens 0x42 true Reg.PLM_MODE_REQ = true ∧ u.plm.mode ≠ .fixed :=
  ⟨tasked .task, _, rfl, by decide +kernel, by decide⟩

/-- Statement CyclesAndModes: its hypotheses are met. -/
theorem wit_CyclesAndModes7 :
    ∃ (s u : State), s.toWrite 0 0x42 Reg.PLM_MODE_REQ 2 = u ∧ u.opens 0x42 true Reg.PLM_MODE_REQ = true ∧ u.plm.mode ≠ .task :=
  ⟨tasked .fixed, _, rfl, by decide +kernel, by decide⟩

/-- Statement CyclesAndModes: its hypotheses are met. -/
theorem wit_CyclesAndModes8 :
    ∃ s : State, s.plm.request = some .fixed ∧ s.running = 0 :=
  ⟨{ tasked .task with plm := { mode := .task, request := some .fixed } }, by decide, by decide⟩

/-- Statement CyclesAndModes: its hypotheses are met. -/
theorem wit_CyclesAndModes9 :
    ∃ (s u : State), s.clock 0 ((s.advance 0).autoEvs) = u ∧ u.regB Reg.PWR_START_CFG 0 = true ∧ u.runs = true ∧ u.plm.mode = .fixed ∧ u.plm.autoDone = false ∧ u.pwr.hostMode = false ∧ (u.reg Reg.PWR_START_CFG).fld 29 16 ≤ u.plm.cycles :=
  by refine ⟨{ tasked .fixed with plm := { mode := .fixed, cycles := 100 } }, _, rfl, ?_, ?_, ?_, ?_, ?_, ?_⟩ <;> decide +kernel

/-- Statement CyclesAndModes: its hypotheses are met. -/
theorem wit_CyclesAndModes10 :
    ∃ (s u : State), s.clock 0 ((s.advance 0).autoEvs) = u ∧ u.plm.cycles < (u.reg Reg.PWR_START_CFG).fld 29 16 :=
  ⟨tasked .fixed, _, rfl, by decide +kernel⟩

/-- Statement BlockCalls: its hypotheses are met. -/
theorem wit_BlockCalls1 :
    ∃ (s u : State) (r : Release) (ws : List Word), s.clock 0 (((s.advance 0).callEvs 0x10)) = u ∧ (u.eng 0x10).rel = some r ∧ r.phase = .call 2047 ∧ r.due 0 ≤ u.sclk ∧ u.blkWorks.any (fun w => w.caller = some 0x10) = false ∧ u.callIns 0x10 r (u.citem 6 2047 9) = .ok ws ∧ (item (u.citem 6 2047 9) 0).bit 18 = false :=
  ⟨{ calling with sclk := 9, cfgA := [(cfgKey 6 2047 0, 0x3006), (cfgKey 6 2047 5, 7)] }, _, { rel1 with phase := .call 2047 }, List.replicate 8 0, rfl, by decide, by decide, by decide, by decide, by rfl, by decide⟩

/-- Statement BlockCalls: its hypotheses are met. -/
theorem wit_BlockCalls2 :
    ∃ (s u : State) (r : Release) (ws : List Word), s.clock 0 (((s.advance 0).callEvs 0x10)) = u ∧ (u.eng 0x10).rel = some r ∧ r.phase = .call 2047 ∧ r.due 0 ≤ u.sclk ∧ u.blkWorks.any (fun w => w.caller = some 0x10) = false ∧ u.callIns 0x10 r (u.citem 6 2047 9) = .ok ws ∧ (item (u.citem 6 2047 9) 0).bit 18 = true :=
  ⟨{ calling with sclk := 9, cfgA := [(cfgKey 6 2047 0, 0x43006), (cfgKey 6 2047 5, 7)] }, _, { rel1 with phase := .call 2047 }, List.replicate 8 0, rfl, by decide, by decide, by decide, by decide, by rfl, by decide⟩

/-- Statement BlockCalls: its hypotheses are met. -/
theorem wit_BlockCalls3 :
    ∃ (s u : State) (w : BlkWork), s.clock 0 (((s.advance 0).serveEvs 0x30)) = u ∧ u.blkFree 0x30 = true ∧ (u.blkPair 0x30).queue.find? (fun w => !u.isLate w none) = some w :=
  ⟨{ running with blk := { pairs := [(0x30, { queue := [work1] })] } }, _, work1, rfl, by decide, by decide⟩

/-- Statement BlockCalls: its hypotheses are met. -/
theorem wit_BlockCalls4 :
    ∃ (s u : State), s.clock 0 (((s.advance 0).serveEvs 0x36)) = u ∧ u.blkFree 0x36 = false :=
  ⟨running, _, rfl, by decide⟩

/-- Statement BlockCalls: its hypotheses are met. -/
theorem wit_BlockCalls5 :
    ∃ (s u : State) (v : State) (w : BlkWork) (x : BlkResult) (r r' : Release), s.advance 0 = u ∧ (u.blkPair 0x30).serving = some (w, x, 0) ∧ w.caller = some 0x10 ∧ u.servedLate w x 0 = false ∧ 0 + serviceClocks w x ≤ u.sclk ∧ digestsAgree (blkDigest w x) none = true ∧ (u.setBlkPair 0x30 { u.blkPair 0x30 with serving := none }).countWork 0x30 w x = v ∧ (v.eng 0x10).rel = some r ∧ v.putOuts 0x10 r (itemOut w.item).1 (itemOut w.item).2 x.outs = .ok r' :=
  ⟨{ calling with sclk := 23, blk := { pairs := [(0x30, { serving := some (work1, { eno := true, clocks := 0 }, 0) })] } }, _, _, work1, { eno := true, clocks := 0 }, { rel1 with phase := .call 2047 }, { rel1 with phase := .call 2047 }, rfl, by decide, by decide, by decide, by decide, by rfl, rfl, by decide +kernel, by rfl⟩

/-- Statement BlockCalls: its hypotheses are met. -/
theorem wit_BlockCalls6 :
    ∃ (s u : State) (w : BlkWork) (x : BlkResult), s.advance 0 = u ∧ (u.blkPair 0x30).serving = some (w, x, 0) ∧ w.caller = some 0x10 ∧ u.servedLate w x 0 = false ∧ 0 + serviceClocks w x ≤ u.sclk ∧ digestsAgree (blkDigest w x) (some 0) = false :=
  ⟨{ calling with sclk := 23, blk := { pairs := [(0x30, { serving := some (work1, { eno := true, clocks := 0 }, 0) })] } }, _, work1, { eno := true, clocks := 0 }, rfl, by decide, by decide, by decide, by decide, by decide +kernel⟩

/-- Statement BlockCalls: its hypotheses are met. -/
theorem wit_BlockCalls7 :
    ∃ (s u : State) (w : BlkWork) (x : BlkResult), s.advance 0 = u ∧ (u.blkPair 0x30).serving = some (w, x, 0) ∧ w.caller = some 0x10 ∧ u.servedLate w x 0 = true :=
  ⟨{ calling with ptp := 1000000 * 2 ^ 32, blk := { pairs := [(0x30, { serving := some (work1, { eno := true, clocks := 0 }, 0) })] } }, _, work1, { eno := true, clocks := 0 }, rfl, by decide, by decide, by decide⟩

/-- Statement BlockCalls: its hypotheses are met. -/
theorem wit_BlockCalls8 :
    ∃ (s u : State) (w : BlkWork), s.advance 0 = u ∧ u.blk.pairs = [(0x30, { queue := [w] })] ∧ w.inst = 2047 ∧ u.isLate w none = true ∧ w.caller = some 0x10 :=
  ⟨{ running with ptp := 1000000 * 2 ^ 32, blk := { pairs := [(0x30, { queue := [work1] })] } }, _, work1, rfl, by decide, by decide, by decide, by decide⟩

/-- Statement BlockCalls: its hypotheses are met. -/
theorem wit_BlockCalls9 :
    ∃ (s u : State) (it : List Word), s.clock 0 [⟨.selfDue, s.blkServer (s.citem 6 9 9), 9⟩] = u ∧ u.citem 6 9 9 = it ∧ (item it 4).fld 16 0 * 1000 = 100000 ∧ u.now / 100000 * 100000 = 200000 ∧ (item it 0).fld 2 0 ≠ 0 ∧ (item it 0).bit 18 = true ∧ u.runs = true ∧ u.plm.mode ≠ .idle ∧ u.plm.selfFrom ≤ 200000 ∧ (u.instStat 9).lastDue ≠ 200000 ∧ u.blkWorks.any (fun w => decide (w.inst = 9) && w.caller.isNone) = false :=
  ⟨selfie [], _, _, rfl, rfl, by decide, by decide, by decide, by decide, by decide, by decide, by decide, by decide, by decide⟩

/-- Statement BlockCalls: its hypotheses are met. -/
theorem wit_BlockCalls10 :
    ∃ (s u : State), s.clock 0 [⟨.selfDue, s.blkServer (s.citem 6 9 9), 9⟩] = u ∧ (item (u.citem 6 9 9) 0).bit 18 = true ∧ u.runs = true ∧ (u.instStat 9).lastDue ≠ 200000 ∧ u.blkWorks.any (fun w => decide (w.inst = 9) && w.caller.isNone) = true :=
  ⟨selfie [{ work1 with inst := 9, caller := none }], _, rfl, by decide, by decide, by decide, by decide⟩

/-- Statement BlockCalls: its hypotheses are met. -/
theorem wit_BlockCalls11 :
    ∃ (s u : State) (w : BlkWork) (x : BlkResult), s.clock 0 (((s.advance 0).selfEvs 0x35)) = u ∧ (u.blkPair 0x35).serving = some (w, x, 5) ∧ w.caller = none ∧ u.servedLate w x 5 = false ∧ 5 + x.clocks ≤ u.sclk ∧ digestsAgree (blkDigest w x) none = true ∧ x.segs = [] :=
  ⟨{ running with sclk := 45, blk := { pairs := [(0x35, { serving := some ({ work1 with caller := none }, { eno := true, clocks := 40 }, 5) })] } }, _, { work1 with caller := none }, { eno := true, clocks := 40 }, rfl, by decide, by decide, by decide, by decide, by rfl, by decide⟩

/-- Statement BlockCalls: its hypotheses are met. -/
theorem wit_BlockCalls12 :
    ∃ (s u : State) (w : BlkWork) (x : BlkResult), s.clock 0 (((s.advance 0).selfEvs 0x35)) = u ∧ (u.blkPair 0x35).serving = some (w, x, 5) ∧ w.caller = none ∧ u.servedLate w x 5 = false ∧ 5 + x.clocks ≤ u.sclk ∧ digestsAgree (blkDigest w x) (some 0) = false :=
  ⟨{ running with sclk := 45, blk := { pairs := [(0x35, { serving := some ({ work1 with caller := none }, { eno := true, clocks := 40 }, 5) })] } }, _, { work1 with caller := none }, { eno := true, clocks := 40 }, rfl, by decide, by decide, by decide, by decide, by decide +kernel⟩

/-- Statement BlockCalls: its hypotheses are met. -/
theorem wit_BlockCalls13 :
    ∃ (s u : State) (w : BlkWork) (x : BlkResult), s.clock 0 (((s.advance 0).selfEvs 0x35)) = u ∧ (u.blkPair 0x35).serving = some (w, x, 5) ∧ w.caller = none ∧ u.servedLate w x 5 = true :=
  ⟨{ running with sclk := 45, ptp := 1000100 * 2 ^ 32, blk := { pairs := [(0x35, { serving := some ({ work1 with caller := none }, { eno := true, clocks := 40 }, 5) })] } }, _, { work1 with caller := none }, { eno := true, clocks := 40 }, rfl, by decide, by decide, by decide⟩

/-- Statement CheckedPairs: its hypotheses are met. -/
theorem wit_CheckedPairs1 :
    ∃ (s u : State) (w : State), s.clock 0 ((⟨.mismatch, 1, cmpId 1⟩ :: if 1 = 0 then [⟨.mpRestart, 0, 0⟩] else [])) = u ∧ u.comparing 1 = true ∧ outA ≠ outB ∧ u.withholdWork 1 = w ∧ (w.chk 1).change = none ∧ (w.chk 1).lastMis = none :=
  ⟨running, _, _, rfl, by decide, by decide, rfl, by decide +kernel, by decide +kernel⟩

/-- Statement CheckedPairs: its hypotheses are met. -/
theorem wit_CheckedPairs2 :
    ∃ (s u : State) (w : State), s.clock 0 ((⟨.mismatch, 24, cmpId 24⟩ :: if 24 = 0 then [⟨.mpRestart, 0, 0⟩] else [])) = u ∧ u.comparing 24 = true ∧ outA ≠ outB ∧ u.withholdWork 24 = w ∧ (w.chk 24).lastMis = some 5 ∧ 5 + 10000000000 ≤ w.now :=
  ⟨missed 24 5 10000000005, _, _, rfl, by decide, by decide, rfl, by decide +kernel, by decide +kernel⟩

/-- Statement CheckedPairs: its hypotheses are met. -/
theorem wit_CheckedPairs3 :
    ∃ (s u : State) (w : State), s.clock 0 ((⟨.mismatch, 0, cmpId 0⟩ :: if 0 = 0 then [⟨.mpRestart, 0, 0⟩] else [])) = u ∧ u.comparing 0 = true ∧ outA ≠ outB ∧ u.withholdWork 0 = w ∧ (w.chk 0).lastMis = none :=
  ⟨running, _, _, rfl, by decide, by decide, rfl, by decide +kernel⟩

/-- Statement CheckedPairs: its hypotheses are met. -/
theorem wit_CheckedPairs4 :
    ∃ (s u : State) (w : State), s.clock 0 ((⟨.mismatch, 24, cmpId 24⟩ :: if 24 = 0 then [⟨.mpRestart, 0, 0⟩] else [])) = u ∧ u.comparing 24 = true ∧ outA ≠ outB ∧ u.withholdWork 24 = w ∧ (w.chk 24).lastMis = some 5 ∧ w.now < 5 + 10000000000 :=
  ⟨missed 24 5 10000000004, _, _, rfl, by decide, by decide, rfl, by decide +kernel, by decide +kernel⟩

/-- Statement CheckedPairs: its hypotheses are met. -/
theorem wit_CheckedPairs5 :
    ∃ (s u : State) (w : State), s.clock 0 ((⟨.mismatch, 25, cmpId 25⟩ :: if 25 = 0 then [⟨.mpRestart, 0, 0⟩] else [])) = u ∧ u.comparing 25 = true ∧ outA ≠ outB ∧ u.withholdWork 25 = w ∧ (w.chk 25).lastMis = some 5 ∧ w.now < 5 + 10000000000 :=
  ⟨missed 25 5 10000000004, _, _, rfl, by decide, by decide, rfl, by decide +kernel, by decide +kernel⟩

/-- Statement CheckedPairs: its hypotheses are met. -/
theorem wit_CheckedPairs6 :
    ∃ (s u : State), s.clock 0 ((⟨.mismatch, 30, cmpId 30⟩ :: if 30 = 0 then [⟨.mpRestart, 0, 0⟩] else [])) = u ∧ u.comparing 30 = false :=
  ⟨running, _, rfl, by decide⟩

/-- Statement CheckedPairs: its hypotheses are met. -/
theorem wit_CheckedPairs7 :
    ∃ (s u : State), s.advance 0 = u ∧ u.cmpState 24 = 5 :=
  ⟨running.setCmpState 24 5, _, rfl, by decide⟩

/-- Statement CheckedPairs: its hypotheses are met. -/
theorem wit_CheckedPairs8 :
    ∃ (s u : State), s.advance 0 = u ∧ u.cmpState 25 = 5 ∧ (u.chk 25).resync = some 0 ∧ 0 + 64 ≤ u.sclk ∧ u.stk.entries = [] :=
  ⟨{ running.setCmpState 25 5 with sclk := 64, cmp := [(25, { resync := some 0 })] }, _, rfl, by decide, by decide, by decide, by decide⟩

/-- Statement CheckedPairs: its hypotheses are met. -/
theorem wit_CheckedPairs9 :
    ∃ (s u : State), s.advance 0 = u ∧ u.sclk < (u.chk 25).resync.getD 0 + 64 :=
  ⟨{ running.setCmpState 25 5 with sclk := 63 }, _, rfl, by decide⟩

/-- Statement CheckedPairs: its hypotheses are met. -/
theorem wit_CheckedPairs10 :
    ∃ (s u : State), s.advance 0 = u ∧ (u.chk 24).lastMis = some 5 ∧ 5 + 10000000000 ≤ u.now :=
  ⟨missed 24 5 10000000005, _, rfl, by decide, by decide⟩

/-- Statement CheckedPairs: its hypotheses are met. -/
theorem wit_CheckedPairs11 :
    ∃ (s u : State), s.advance 0 = u ∧ (u.chk 24).lastMis = some 5 ∧ u.now < 5 + 10000000000 :=
  ⟨missed 24 5 10000000004, _, rfl, by decide, by decide⟩

/-- Statement CheckedPairs: its hypotheses are met. -/
theorem wit_CheckedPairs12 :
    ∃ (s u : State), s.clock 0 [⟨.disagree, 1, 0⟩] = u ∧ u.mismatchNow 1 = false ∧ u.comparing 1 = true ∧ sget (0, 0) (u.chk 1).disagree 3 = (u.sclk - 1, 14) ∧ 0 < u.sclk :=
  ⟨{ running with sclk := 9, cmp := [(1, { disagree := [(3, (8, 14))] })] }, _, rfl, by decide, by decide, by decide, by decide⟩

/-- Statement CheckedPairs: its hypotheses are met. -/
theorem wit_CheckedPairs13 :
    ∃ (s u : State), s.clock 0 [⟨.disagree, 1, 0⟩] = u ∧ u.mismatchNow 1 = false ∧ u.comparing 1 = true ∧ sget (0, 0) (u.chk 1).disagree 3 = (0, 0) :=
  ⟨running, _, rfl, by decide, by decide, by decide⟩

/-- Statement CheckedPairs: its hypotheses are met. -/
theorem wit_CheckedPairs14 :
    ∃ (s u : State), s.clock 0 [⟨.disagree, 1, 0⟩] = u ∧ u.mismatchNow 1 = false ∧ u.comparing 1 = true ∧ sget (0, 0) (u.chk 1).disagree 3 = (u.sclk - 1, 15) ∧ 0 < u.sclk :=
  ⟨{ running with sclk := 9, cmp := [(1, { disagree := [(3, (8, 15))] })] }, _, rfl, by decide, by decide, by decide, by decide⟩

/-- Statement CheckedPairs: its hypotheses are met. -/
theorem wit_CheckedPairs15 :
    ∃ (s u : State), s.clock 0 [⟨.disagree, 1, 0⟩] = u ∧ u.mismatchNow 1 = true :=
  ⟨running.note [⟨.mismatch, 1, 0x10⟩], _, rfl, by decide⟩

/-- Statement CheckedPairs: its hypotheses are met. -/
theorem wit_CheckedPairs16 :
    ∃ (s u : State), s.clock 0 [⟨.checkTest, 29, 0⟩] = u ∧ u.comparing 29 = true ∧ u.testDue 29 = some 725000 ∧ (u.chk 29).tested ≠ some 725000 ∧ railsMismatch 0 = true :=
  ⟨{ running with ptp := 725000 * 2 ^ 32 }, _, rfl, by decide, by decide, by decide, by decide⟩

/-- Statement CheckedPairs: its hypotheses are met. -/
theorem wit_CheckedPairs17 :
    ∃ (s u : State), s.clock 0 [⟨.checkTest, 29, 0⟩] = u ∧ u.comparing 29 = true ∧ u.testDue 29 = some 725000 ∧ (u.chk 29).tested ≠ some 725000 ∧ railsMismatch 1 = false :=
  ⟨{ running with ptp := 725000 * 2 ^ 32 }, _, rfl, by decide, by decide, by decide, by decide⟩

/-- Statement CheckedPairs: its hypotheses are met. -/
theorem wit_CheckedPairs18 :
    ∃ (s u : State), s.clock 0 [⟨.checkTest, 29, 0⟩] = u ∧ u.comparing 29 = true ∧ u.testDue 29 = some 725000 ∧ (u.chk 29).tested ≠ some 725000 ∧ railsMismatch 3 = true :=
  ⟨{ running with ptp := 725000 * 2 ^ 32 }, _, rfl, by decide, by decide, by decide, by decide⟩

/-- Statement CheckedPairs: its hypotheses are met. -/
theorem wit_CheckedPairs19 :
    ∃ (s u : State), s.clock 0 [⟨.checkTest, 29, 0⟩] = u ∧ u.testDue 29 = none :=
  ⟨{ running with ptp := 724999 * 2 ^ 32 }, _, rfl, by decide⟩

/-- Statement CheckedPairs: its hypotheses are met. -/
theorem wit_CheckedPairs20 :
    ∃ (s u : State), s.clock 0 [⟨.splitJoin, 1, 0⟩] = u ∧ (u.chk 1).change = some (false, 7, 0) ∧ u.now < 0 + 1000000 ∧ (u.eng (cmpId 1)).rel = none :=
  ⟨{ running with ptp := 999999 * 2 ^ 32, cmp := [(1, { change := some (false, 7, 0) })] }, _, rfl, by decide, by decide, by decide⟩

/-- Statement CheckedPairs: its hypotheses are met. -/
theorem wit_CheckedPairs21 :
    ∃ (s u : State), s.clock 0 [⟨.splitJoin, 1, 0⟩] = u ∧ (u.chk 1).change = some (false, 7, 0) ∧ 0 + 1000000 ≤ u.now :=
  ⟨{ running with ptp := 1000000 * 2 ^ 32, cmp := [(1, { change := some (false, 7, 0) })] }, _, rfl, by decide, by decide⟩

/-- Statement CheckedPairs: its hypotheses are met. -/
theorem wit_CheckedPairs22 :
    ∃ (s u : State), s.clock 0 [⟨.splitJoin, 2, 0⟩] = u ∧ (u.chk 2).change = none :=
  ⟨running, _, rfl, by decide⟩

/-- Statement CheckedPairs: its hypotheses are met. -/
theorem wit_CheckedPairs23 :
    ∃ (s u : State), s.clock 0 [⟨.splitJoin, 1, 0⟩] = u ∧ (u.chk 1).change = some (true, 7, 0) ∧ u.now < 0 + 1000000 ∧ (u.eng (cmpId 1)).rel = none ∧ (u.eng (cmpId 1 + 0x80)).rel = none :=
  ⟨{ running with ptp := 999999 * 2 ^ 32, cmp := [(1, { change := some (true, 7, 0) })] }, _, rfl, by decide, by decide, by decide, by decide⟩

/-- Statement CheckedPairs: its hypotheses are met. -/
theorem wit_CheckedPairs24 :
    ∃ (s u : State), s.clock 0 [⟨.splitJoin, 1, 0⟩] = u ∧ (u.chk 1).change = some (true, 7, 0) ∧ 0 + 1000000 ≤ u.now :=
  ⟨{ running with ptp := 1000000 * 2 ^ 32, cmp := [(1, { change := some (true, 7, 0) })] }, _, rfl, by decide, by decide⟩

/-- Statement CheckedPairs: its hypotheses are met. -/
theorem wit_CheckedPairs25 :
    ∃ (s u : State), s.clock 0 [⟨.splitJoin, 1, 0⟩] = u ∧ (u.chk 1).change = some (true, 7, 0) ∧ u.now < 0 + 1000000 ∧ (u.eng (cmpId 1 + 0x80)).rel.isSome = true :=
  ⟨{ running with engs := [(0x90, { rel := some rel1 })], cmp := [(1, { change := some (true, 7, 0) })] }, _, rfl, by decide, by decide, by decide⟩

/-- Statement PairLinkAndRoles: its hypotheses are met. -/
theorem wit_PairLinkAndRoles1 :
    ∃ (s u : State), s.clock 0 ((s.advance 0).pairEvs (fun s => s.roleDecision false)) = u ∧ u.role = 0 ∧ u.regF Reg.PWR_START_STS 3 0 = 5 ∧ u.pwr.roleAt = none ∧ u.pair.lastLink = none ∧ u.pwr.listenAt = some 0 ∧ 0 + 50 * msClk ≤ u.sclk :=
  ⟨{ listening 0 with sclk := 50 * msClk }, _, rfl, by decide, by decide, by decide, by decide, by decide, by decide⟩

/-- Statement PairLinkAndRoles: its hypotheses are met. -/
theorem wit_PairLinkAndRoles2 :
    ∃ (s u : State), s.clock 0 ((s.advance 0).pairEvs (fun s => s.roleDecision true)) = u ∧ u.role = 0 ∧ u.regF Reg.PWR_START_STS 3 0 = 5 ∧ u.pwr.roleAt = none ∧ u.pair.lastLink = some 7 ∧ u.partner = 2 :=
  ⟨{ listening 2 with pair := { lastLink := some 7 } }, _, rfl, by decide, by decide, by decide, by decide, by decide⟩

/-- Statement PairLinkAndRoles: its hypotheses are met. -/
theorem wit_PairLinkAndRoles3 :
    ∃ (s u : State), s.clock 0 ((s.advance 0).pairEvs (fun s => s.roleDecision false)) = u ∧ u.role = 0 ∧ u.regF Reg.PWR_START_STS 3 0 = 5 ∧ u.pwr.roleAt = none ∧ u.pair.lastLink = some 7 ∧ u.partner = 1 :=
  ⟨{ listening 1 with pair := { lastLink := some 7 } }, _, rfl, by decide, by decide, by decide, by decide, by decide⟩

/-- Statement PairLinkAndRoles: its hypotheses are met. -/
theorem wit_PairLinkAndRoles4 :
    ∃ (s u : State), s.clock 0 ((s.advance 0).pairEvs (fun s => s.roleDecision true)) = u ∧ u.pwr.roleAt = none ∧ u.pair.lastLink = some 7 ∧ u.partner = 0 ∧ u.slotId = 0 :=
  ⟨{ listening 0 with pair := { lastLink := some 7 } }, _, rfl, by decide, by decide, by decide, by decide⟩

/-- Statement PairLinkAndRoles: its hypotheses are met. -/
theorem wit_PairLinkAndRoles5 :
    ∃ (s u : State), s.clock 0 ((s.advance 0).pairEvs (fun s => s.roleDecision false)) = u ∧ u.role = 0 ∧ u.regF Reg.PWR_START_STS 3 0 = 5 ∧ u.pwr.roleAt = none ∧ u.pair.lastLink = some 7 ∧ u.partner = 0 ∧ u.slotId ≠ 0 :=
  ⟨{ (listening 0).setReg Reg.SYS_SLOT 1 with pair := { lastLink := some 7 } }, _, rfl, by decide, by decide, by decide, by decide, by decide, by decide⟩

/-- Statement PairLinkAndRoles: its hypotheses are met. -/
theorem wit_PairLinkAndRoles6 :
    ∃ (s u : State), s.clock 0 ((s.advance 0).pairEvs (fun s => s.roleDecision true)) = u ∧ u.role = 0 ∧ u.regF Reg.PWR_START_STS 3 0 = 5 ∧ u.pwr.roleAt = none ∧ u.pair.lastLink = some 7 ∧ u.partner = 0 ∧ u.slotId ≠ 0 ∧ u.pair.heard = some 3 ∧ 3 + 5000 * msClk ≤ u.sclk :=
  ⟨{ (listening 0).setReg Reg.SYS_SLOT 1 with sclk := 3 + 5000 * msClk, pair := { lastLink := some 7, heard := some 3 } }, _, rfl, by decide, by decide, by decide, by decide, by decide, by decide, by decide, by decide⟩

/-- Statement PairLinkAndRoles: its hypotheses are met. -/
theorem wit_PairLinkAndRoles7 :
    ∃ (s u : State), s.clock 0 ((s.advance 0).pairEvs (fun s => s.roleDecision true)) = u ∧ u.role = 0 ∧ u.regF Reg.PWR_START_STS 3 0 = 5 ∧ u.pwr.roleAt = none ∧ u.pair.lastLink = some 7 ∧ u.partner = 3 ∧ u.pair.standby = some 3 ∧ 3 + 5000 * msClk ≤ u.sclk :=
  ⟨{ listening 3 with sclk := 3 + 5000 * msClk, pair := { lastLink := some 7, standby := some 3 } }, _, rfl, by decide, by decide, by decide, by decide, by decide, by decide, by decide⟩

/-- Statement PairLinkAndRoles: its hypotheses are met. -/
theorem wit_PairLinkAndRoles8 :
    ∃ (s u : State), s.clock 0 ((s.advance 0).pairEvs (fun s => s.roleDecision true)) = u ∧ u.decision true = none :=
  ⟨{ listening 3 with sclk := 2 + 5000 * msClk, pair := { lastLink := some 7, standby := some 3 } }, _, rfl, by decide⟩

/-- Statement PairLinkAndRoles: its hypotheses are met. -/
theorem wit_PairLinkAndRoles9 :
    ∃ (s u : State), s.clock 0 ((s.advance 0).pairEvs (fun s => s.roleDecision true)) = u ∧ u.role ≠ 0 :=
  ⟨running, _, rfl, by decide⟩

/-- Statement PairLinkAndRoles: its hypotheses are met. -/
theorem wit_PairLinkAndRoles10 :
    ∃ (s s' v : State) (h : LinkHdr), h.epoch ≤ s.epoch ∧ s'.epoch < h.epoch ∧ s'.runs = true ∧ ({ s' with pair := { s'.pair with lastLink := some s'.sclk, lastAny := some s'.sclk, silent := false, heardEpoch := some h.epoch } } : State) = v :=
  ⟨running.setReg Reg.PAIR_EPOCH 4, running, _, ⟨0, false, 1, 4, 0⟩, by decide, by decide, by decide, rfl⟩

/-- Statement PairLinkAndRoles: its hypotheses are met. -/
theorem wit_PairLinkAndRoles11 :
    ∃ (s u : State) (v w : State), s.clock 0 ([] ++ (s.advance 0).linkEvs ⟨0, false, 1, 0, 0⟩ (fun s => s.rxSeqd ⟨0, false, 1, 0, 0⟩ (fun s => s.heardRole 2))) = u ∧ u.laneUp 0 = true ∧ u.hearLink ⟨0, false, 1, 0, 0⟩ = v ∧ v.takesStream = true ∧ v.pair.rxSeq = 0 ∧ v.acceptSeq 1 = w :=
  ⟨laned, _, _, _, rfl, by decide, rfl, by decide +kernel, by decide +kernel, rfl⟩

/-- Statement PairLinkAndRoles: its hypotheses are met. -/
theorem wit_PairLinkAndRoles12 :
    ∃ (s u : State) (v : State), s.clock 0 ([] ++ (s.advance 0).linkEvs ⟨0, false, 5, 0, 0⟩ (fun s => s.rxSeqd ⟨0, false, 5, 0, 0⟩ (fun s => s.heardRole 2))) = u ∧ u.laneUp 0 = true ∧ u.hearLink ⟨0, false, 5, 0, 0⟩ = v ∧ v.takesStream = true ∧ 5 ≠ v.pair.rxSeq + 1 ∧ v.pair.rxSeq ≠ 0 :=
  ⟨{ laned with pair := { rxSeq := 5 } }, _, _, rfl, by decide, rfl, by decide +kernel, by decide +kernel, by decide +kernel⟩

/-- Statement PairLinkAndRoles: its hypotheses are met. -/
theorem wit_PairLinkAndRoles13 :
    ∃ (s v : State), s.partner ≠ 3 ∧ s.pair.standby = none ∧ ({ (s.setRegF Reg.PAIR_ROLE 6 4 3) with pair := { s.pair with silent := false, heard := some s.sclk, standby := some s.sclk } } : State) = v ∧ v.role ≠ 3 :=
  ⟨running, _, by decide, by decide, rfl, by decide +kernel⟩

/-- Statement PairLinkAndRoles: its hypotheses are met. -/
theorem wit_PairLinkAndRoles14 :
    ∃ (s v w : State), runningRole s.partner = true ∧ runningRole 6 = false ∧ s.partner ≠ 6 ∧ ({ (s.setRegF Reg.PAIR_ROLE 6 4 6) with pair := { s.pair with silent := false, heard := some s.sclk, standby := none } } : State) = v ∧ v.follow false = w ∧ w.role = 3 :=
  ⟨running.setReg Reg.PAIR_ROLE 0x53, _, _, by decide, by decide, by decide, rfl, rfl, by decide +kernel⟩

/-- Statement PairLinkAndRoles: its hypotheses are met. -/
theorem wit_PairLinkAndRoles15 :
    ∃ (s u : State) (v w : State), s.clock 0 (((s.advance 0).readyEvs true ++ (s.advance 0).linkEvs ⟨0, false, 0, 0, 0⟩ (fun s => s.rxPlain ⟨0, false, 0, 0, 0⟩ (fun s => s.keepaliveRx 1 true 0)))) = u ∧ u.laneUp 0 = true ∧ u.hearLink ⟨0, false, 0, 0, 0⟩ = v ∧ v.heardRole 1 = w :=
  ⟨laned.setReg Reg.PAIR_ROLE 6, _, _, _, rfl, by decide, rfl, rfl⟩

/-- Statement PairLinkAndRoles: its hypotheses are met. -/
theorem wit_PairLinkAndRoles16 :
    ∃ (s u : State) (v w x : State), s.clock 0 (((s.advance 0).readyEvs true ++ (s.advance 0).linkEvs ⟨0, false, 0, 0, 0⟩ (fun s => s.rxPlain ⟨0, false, 0, 0, 0⟩ (fun s => s.keepaliveRx 3 true 0)))) = u ∧ u.laneUp 0 = true ∧ u.hearLink ⟨0, false, 0, 0, 0⟩ = v ∧ v.heardRole 3 = w ∧ (w.runs || decide (w.role = 5)) = true ∧ (w.setReg Reg.PAIR_GEN_DONE (w32 0)).follow true = x ∧ x.pair.stream = true :=
  ⟨{ laned with pair := { stream := true } }, _, _, _, _, rfl, by decide, rfl, rfl, by decide +kernel, rfl, by decide +kernel⟩

/-- Statement PairLinkAndRoles: its hypotheses are met. -/
theorem wit_PairLinkAndRoles17 :
    ∃ (s u : State) (v w x : State), s.clock 0 (((s.advance 0).readyEvs false ++ (s.advance 0).linkEvs ⟨0, false, 0, 0, 0⟩ (fun s => s.rxPlain ⟨0, false, 0, 0, 0⟩ (fun s => s.keepaliveRx 3 false 0)))) = u ∧ u.laneUp 0 = true ∧ u.hearLink ⟨0, false, 0, 0, 0⟩ = v ∧ v.heardRole 3 = w ∧ (w.runs || decide (w.role = 5)) = true ∧ (w.setReg Reg.PAIR_GEN_DONE (w32 0)).follow false = x ∧ x.pair.stream = false :=
  ⟨laned, _, _, _, _, rfl, by decide, rfl, rfl, by decide +kernel, rfl, by decide +kernel⟩

/-- Statement PairLinkAndRoles: its hypotheses are met. -/
theorem wit_PairLinkAndRoles18 :
    ∃ (s u : State), s.advance 0 = u ∧ u.agoAtLeast u.pair.kaSent (10 * usClk) = true :=
  ⟨{ laned with sclk := 1000 * usClk, pair := { kaSent := some (990 * usClk), timeSent := some 0 } }, _, rfl, by decide⟩

/-- Statement PairLinkAndRoles: its hypotheses are met. -/
theorem wit_PairLinkAndRoles19 :
    ∃ (s u : State), s.advance 0 = u ∧ u.agoAtLeast u.pair.kaSent (10 * usClk) = false :=
  ⟨{ laned with sclk := 1000 * usClk, pair := { kaSent := some (990 * usClk + 1), timeSent := some 0 } }, _, rfl, by decide⟩

/-- Statement PairLinkAndRoles: its hypotheses are met. -/
theorem wit_PairLinkAndRoles20 :
    ∃ (s u : State), s.advance 0 = u ∧ u.agoAtLeast u.pair.timeSent (1000 * usClk) = true :=
  ⟨{ laned with sclk := 1000 * usClk, pair := { kaSent := some (990 * usClk), timeSent := some 0 } }, _, rfl, by decide⟩

/-- Statement PairLinkAndRoles: its hypotheses are met. -/
theorem wit_PairLinkAndRoles21 :
    ∃ (s u : State), s.advance 0 = u ∧ u.agoAtLeast u.pair.timeSent (1000 * usClk) = false :=
  ⟨{ laned with sclk := 1000 * usClk, pair := { kaSent := some (990 * usClk), timeSent := some 1 } }, _, rfl, by decide⟩

/-- Statement PairLinkAndRoles: its hypotheses are met. -/
theorem wit_PairLinkAndRoles22 :
    ∃ (s u : State) (v : State), s.clock 0 ((s.advance 0).linkEvs (⟨0, false, 0, 0, 0⟩ : LinkHdr) (fun s => s.rxPlain (⟨0, false, 0, 0, 0⟩ : LinkHdr) (fun s => s.timeRx (⟨0, false, 0, 0, 0⟩ : LinkHdr).lane true 0 0 0))) = u ∧ u.laneUp 0 = true ∧ u.hearLink ⟨0, false, 0, 0, 0⟩ = v ∧ v.regB Reg.TIM_CTL 3 = true ∧ v.ptpRole ≠ 0 :=
  ⟨laned.setReg Reg.TIM_CTL 9, _, _, rfl, by decide, rfl, by decide +kernel, by decide +kernel⟩

/-- Statement PairLinkAndRoles: its hypotheses are met. -/
theorem wit_PairLinkAndRoles23 :
    ∃ (s u : State) (v : State), s.clock 0 ((s.advance 0).linkEvs (⟨0, false, 0, 0, 0⟩ : LinkHdr) (fun s => s.rxPlain (⟨0, false, 0, 0, 0⟩ : LinkHdr) (fun s => s.timeRx (⟨0, false, 0, 0, 0⟩ : LinkHdr).lane true 0 0 0))) = u ∧ u.laneUp 0 = true ∧ u.hearLink ⟨0, false, 0, 0, 0⟩ = v ∧ v.regB Reg.TIM_CTL 3 = false :=
  ⟨laned, _, _, rfl, by decide, rfl, by decide +kernel⟩

/-- Statement PairLinkAndRoles: its hypotheses are met. -/
theorem wit_PairLinkAndRoles24 :
    ∃ (s u : State) (v w : State), s.clock 0 ((s.advance 0).linkEvs ⟨0, false, 0, 0, 0⟩ (fun s => s.rxPlain ⟨0, false, 0, 0, 0⟩ (fun s => s.ackUpTo 9))) = u ∧ u.laneUp 0 = true ∧ u.hearLink ⟨0, false, 0, 0, 0⟩ = v ∧ { v with pair := { v.pair with window := v.pair.window.filter (fun p => 9 < p.1.hdr.seq) } } = w ∧ w.windowBytes ≤ 2 * 2 ^ 20 :=
  ⟨laned, _, _, _, rfl, by decide, rfl, rfl, by decide +kernel⟩

/-- Statement PairLinkAndRoles: its hypotheses are met. -/
theorem wit_PairLinkAndRoles25 :
    ∃ (s u : State) (f : LinkFrame), s.advance 0 = u ∧ u.pair.window = [(f, 0)] ∧ 0 + 20 * usClk ≤ u.sclk ∧ u.carrying.isSome = true :=
  ⟨{ laned with sclk := 20 * usClk, pair := { window := [(⟨⟨0, false, 1, 0, 0⟩, .ack 0⟩, 0)] } }, _, (⟨⟨0, false, 1, 0, 0⟩, .ack 0⟩ : LinkFrame), rfl, by decide, by decide, by decide⟩

/-- Statement PairLinkAndRoles: its hypotheses are met. -/
theorem wit_PairLinkAndRoles26 :
    ∃ (s u : State) (f : LinkFrame), s.advance 0 = u ∧ u.pair.window = [(f, 0)] ∧ u.sclk < 0 + 20 * usClk :=
  ⟨{ laned with sclk := 20 * usClk - 1, pair := { window := [(⟨⟨0, false, 1, 0, 0⟩, .ack 0⟩, 0)] } }, _, (⟨⟨0, false, 1, 0, 0⟩, .ack 0⟩ : LinkFrame), rfl, by decide, by decide⟩

/-- Statement PairLinkAndRoles: its hypotheses are met. -/
theorem wit_PairLinkAndRoles27 :
    ∃ (s u : State) (ts : List Nat), s.clock 0 (((s.advance 0).laneEvs 0)) = u ∧ u.laneUp 0 = true ∧ (u.now :: (sget [] u.pair.crcTimes 0).filter (fun t => u.now < t + 1000000000)).take 16 = ts ∧ ts.length < 16 :=
  ⟨laned, _, _, rfl, by decide, rfl, by decide +kernel⟩

/-- Statement PairLinkAndRoles: its hypotheses are met. -/
theorem wit_PairLinkAndRoles28 :
    ∃ (s u : State) (ts : List Nat), s.clock 0 (((s.advance 0).laneEvs 0)) = u ∧ u.laneUp 0 = true ∧ (u.now :: (sget [] u.pair.crcTimes 0).filter (fun t => u.now < t + 1000000000)).take 16 = ts ∧ ts.length = 16 :=
  ⟨{ laned with pair := { crcTimes := [(0, List.replicate 15 0)] } }, _, _, rfl, by decide +kernel, rfl, by decide +kernel⟩

/-- Statement PairLinkAndRoles: its hypotheses are met. -/
theorem wit_PairLinkAndRoles29 :
    ∃ (s u : State), s.clock 0 (((s.advance 0).laneEvs 1)) = u ∧ u.laneUp 1 = false :=
  ⟨laned, _, rfl, by decide⟩

/-- Statement PairLinkAndRoles: its hypotheses are met. -/
theorem wit_PairLinkAndRoles30 :
    ∃ (s u : State), s.advance 0 = u ∧ u.lane 0 ≠ 4 :=
  ⟨laned, _, rfl, by decide⟩

/-- Statement PairLinkAndRoles: its hypotheses are met. -/
theorem wit_PairLinkAndRoles31 :
    ∃ (s u : State), s.advance 0 = u ∧ u.lane 0 < 2 ∧ u.carrying = none :=
  ⟨running, _, rfl, by decide, by decide⟩

/-- Statement PairLinkAndRoles: its hypotheses are met. -/
theorem wit_PairLinkAndRoles32 :
    ∃ (s u : State), s.advance 0 = u ∧ u.lane 1 < 2 ∧ u.carrying = none ∧ u.lane 0 = 1 :=
  ⟨running.setReg Reg.PAIR_LANES 1, _, rfl, by decide, by decide, by decide⟩

/-- Statement PairLinkAndRoles: its hypotheses are met. -/
theorem wit_PairLinkAndRoles33 :
    ∃ (s u : State), s.advance 0 = u ∧ u.lane 1 < 2 ∧ u.carrying.isSome = true :=
  ⟨laned, _, rfl, by decide, by decide⟩

/-- Statement PairLinkAndRoles: its hypotheses are met. -/
theorem wit_PairLinkAndRoles34 :
    ∃ (s u : State), s.advance 0 = u ∧ 2 ≤ u.lane 0 :=
  ⟨laned, _, rfl, by decide⟩

/-- Statement PairLinkAndRoles: its hypotheses are met. -/
theorem wit_PairLinkAndRoles35 :
    ∃ (s u : State), s.advance 0 = u :=
  ⟨running, _, rfl, ⟩

/-- Statement PairLinkAndRoles: its hypotheses are met. -/
theorem wit_PairLinkAndRoles36 :
    ∃ (s u : State), s.advance 0 = u :=
  ⟨running, _, rfl, ⟩

/-- Statement PairCheckpoint: its hypotheses are met. -/
theorem wit_PairCheckpoint1 :
    ∃ (s u : State) (v w : State), s.clock 0 ([] ++ (s.advance 0).linkEvs (⟨0, false, 1, 0, 0⟩ : LinkHdr) (fun s => s.rxSeqd (⟨0, false, 1, 0, 0⟩ : LinkHdr) (fun s => s.deltaRx (⟨0, false, 1, 0, 0⟩ : LinkHdr).gen []))) = u ∧ u.laneUp 0 = true ∧ u.hearLink ⟨0, false, 1, 0, 0⟩ = v ∧ v.takesStream = true ∧ v.pair.rxSeq = 0 ∧ v.acceptSeq 1 = w ∧ w.appliesRecs = true :=
  ⟨following, _, _, _, rfl, by decide, rfl, by decide +kernel, by decide +kernel, rfl, by decide +kernel⟩

/-- Statement PairCheckpoint: its hypotheses are met. -/
theorem wit_PairCheckpoint2 :
    ∃ (s u : State) (v w : State), s.clock 0 ([] ++ (s.advance 0).linkEvs (⟨0, false, 1, 0, 0⟩ : LinkHdr) (fun s => s.rxSeqd (⟨0, false, 1, 0, 0⟩ : LinkHdr) (fun s => s.deltaRx (⟨0, false, 1, 0, 0⟩ : LinkHdr).gen []))) = u ∧ u.laneUp 0 = true ∧ u.hearLink ⟨0, false, 1, 0, 0⟩ = v ∧ v.takesStream = true ∧ v.pair.rxSeq = 0 ∧ v.acceptSeq 1 = w ∧ w.appliesRecs = false :=
  ⟨laned, _, _, _, rfl, by decide, rfl, by decide +kernel, by decide +kernel, rfl, by decide +kernel⟩

/-- Statement PairCheckpoint: its hypotheses are met. -/
theorem wit_PairCheckpoint3 :
    ∃ (s u : State) (v w : State) (x : State), s.clock 0 ([] ++ (s.advance 0).linkEvs (⟨0, false, 1, 0, 3⟩ : LinkHdr) (fun s => s.rxSeqd (⟨0, false, 1, 0, 3⟩ : LinkHdr) (fun s => s.deltaRx (⟨0, false, 1, 0, 3⟩ : LinkHdr).gen [.image 8 0 5 [7]]))) = u ∧ u.laneUp 0 = true ∧ u.hearLink ⟨0, false, 1, 0, 3⟩ = v ∧ v.takesStream = true ∧ v.pair.rxSeq = 0 ∧ v.acceptSeq 1 = w ∧ w.appliesRecs = true ∧ (({ w with pair := w.pair.onGen 3 (fun g => { g with undo := .image 8 0 5 ((List.range 1).map (fun q => w.imgW 8 0 (5 + q))) :: g.undo, recs := g.recs ++ [.image 8 0 5 [7]] }) } : State).setImgWords 8 0 5 [7]) = x ∧ x.undoBytes ≤ 2 ^ 21 :=
  ⟨following, _, _, _, _, rfl, by decide, rfl, by decide +kernel, by decide +kernel, rfl, by decide +kernel, rfl, by decide +kernel⟩

/-- Statement PairCheckpoint: its hypotheses are met. -/
theorem wit_PairCheckpoint4 :
    ∃ (s u : State) (v w : State) (x y : State), s.clock 0 ([] ++ (s.advance 0).linkEvs (⟨0, false, 1, 0, 3⟩ : LinkHdr) (fun s => s.rxSeqd (⟨0, false, 1, 0, 3⟩ : LinkHdr) (fun s => s.deltaRx (⟨0, false, 1, 0, 3⟩ : LinkHdr).gen []))) = u ∧ u.laneUp 0 = true ∧ u.hearLink ⟨0, false, 1, 0, 3⟩ = v ∧ v.takesStream = true ∧ v.pair.rxSeq = 0 ∧ v.acceptSeq 1 = w ∧ w.appliesRecs = true ∧ w.keepUndo 3 (w.swapUndo []) = x ∧ x.putRecs [] = y :=
  ⟨following, _, _, _, _, _, rfl, by decide, rfl, by decide +kernel, by decide +kernel, rfl, by decide +kernel, rfl, rfl⟩

/-- Statement PairCheckpoint: its hypotheses are met. -/
theorem wit_PairCheckpoint5 :
    ∃ (s u : State) (v w : State) (rs : List DeltaRec), s.clock 0 ([⟨.genClose, 0, 0⟩] ++ (s.advance 0).linkEvs (⟨0, false, 1, 0, 0⟩ : LinkHdr) (fun s => s.rxSeqd (⟨0, false, 1, 0, 0⟩ : LinkHdr) (fun s => s.genCloseRx 3 0 0))) = u ∧ u.laneUp 0 = true ∧ u.hearLink ⟨0, false, 1, 0, 0⟩ = v ∧ v.takesStream = true ∧ v.pair.rxSeq = 0 ∧ v.acceptSeq 1 = w ∧ w.appliesRecs = true ∧ (w.pair.gens.find? (fun y => y.gen = 3)).elim [] GenLog.recs = rs ∧ endsOf rs = 0 ∧ recDigest rs = 0 ∧ 3 = nextGen w.pair.gen :=
  ⟨{ following with pair := { gen := 2, gens := [{ gen := 3 }] } }, _, _, _, _, rfl, by decide, rfl, by decide +kernel, by decide +kernel, rfl, by decide +kernel, rfl, by decide +kernel, by decide +kernel, by decide +kernel⟩

/-- Statement PairCheckpoint: its hypotheses are met. -/
theorem wit_PairCheckpoint6 :
    ∃ (s u : State) (v w : State) (rs : List DeltaRec), s.clock 0 ([⟨.genClose, 0, 0⟩] ++ (s.advance 0).linkEvs (⟨0, false, 1, 0, 0⟩ : LinkHdr) (fun s => s.rxSeqd (⟨0, false, 1, 0, 0⟩ : LinkHdr) (fun s => s.genCloseRx 3 1 0))) = u ∧ u.laneUp 0 = true ∧ u.hearLink ⟨0, false, 1, 0, 0⟩ = v ∧ v.takesStream = true ∧ v.pair.rxSeq = 0 ∧ v.acceptSeq 1 = w ∧ w.appliesRecs = true ∧ (w.pair.gens.find? (fun y => y.gen = 3)).elim [] GenLog.recs = rs ∧ endsOf rs ≠ 1 :=
  ⟨{ following with pair := { gen := 2, gens := [{ gen := 3 }] } }, _, _, _, _, rfl, by decide, rfl, by decide +kernel, by decide +kernel, rfl, by decide +kernel, rfl, by decide +kernel⟩

/-- Statement PairCheckpoint: its hypotheses are met. -/
theorem wit_PairCheckpoint7 :
    ∃ (s u : State) (v w : State) (rs : List DeltaRec), s.clock 0 ([⟨.genClose, 0, 0⟩] ++ (s.advance 0).linkEvs (⟨0, false, 1, 0, 0⟩ : LinkHdr) (fun s => s.rxSeqd (⟨0, false, 1, 0, 0⟩ : LinkHdr) (fun s => s.genCloseRx 4 0 0))) = u ∧ u.laneUp 0 = true ∧ u.hearLink ⟨0, false, 1, 0, 0⟩ = v ∧ v.takesStream = true ∧ v.pair.rxSeq = 0 ∧ v.acceptSeq 1 = w ∧ w.appliesRecs = true ∧ (w.pair.gens.find? (fun y => y.gen = 4)).elim [] GenLog.recs = rs ∧ w.pair.gen ≠ 0 ∧ 4 ≠ nextGen w.pair.gen :=
  ⟨{ following with pair := { gen := 2, gens := [{ gen := 3 }] } }, _, _, _, _, rfl, by decide, rfl, by decide +kernel, by decide +kernel, rfl, by decide +kernel, rfl, by decide +kernel⟩

/-- Statement PairCheckpoint: its hypotheses are met. -/
theorem wit_PairCheckpoint8 :
    ∃ (s u : State) (v w : State), s.clock 0 ([⟨.genClose, 0, 0⟩] ++ (s.advance 0).linkEvs (⟨0, false, 1, 0, 0⟩ : LinkHdr) (fun s => s.rxSeqd (⟨0, false, 1, 0, 0⟩ : LinkHdr) (fun s => s.genCloseRx 4 0 0))) = u ∧ u.laneUp 0 = true ∧ u.hearLink ⟨0, false, 1, 0, 0⟩ = v ∧ v.takesStream = true ∧ v.pair.rxSeq = 0 ∧ v.acceptSeq 1 = w ∧ w.appliesRecs = false :=
  ⟨laned, _, _, _, rfl, by decide, rfl, by decide +kernel, by decide +kernel, rfl, by decide +kernel⟩

/-- Statement PairCheckpoint: its hypotheses are met. -/
theorem wit_PairCheckpoint9 :
    ∃ (s u : State) (v w : State), s.clock 0 ([] ++ (s.advance 0).linkEvs (⟨0, false, 1, 0, 0⟩ : LinkHdr) (fun s => s.rxSeqd (⟨0, false, 1, 0, 0⟩ : LinkHdr) (fun s => s.resyncRx (⟨0, false, 1, 0, 0⟩ : LinkHdr).epoch (sramEnd - 1) [] []))) = u ∧ u.laneUp 0 = true ∧ u.hearLink ⟨0, false, 1, 0, 0⟩ = v ∧ v.takesStream = true ∧ v.pair.rxSeq = 0 ∧ v.acceptSeq 1 = w ∧ w.role = 3 ∧ w.pair.joining = true ∧ w.pair.progIn = [] ∧ 0 ≤ w.epoch ∧ inSram (sramEnd - 1) = true :=
  ⟨{ following with pair := { joining := true } }, _, _, _, rfl, by decide, rfl, by decide +kernel, by decide +kernel, rfl, by decide +kernel, by decide +kernel, by decide +kernel, by decide +kernel, by decide +kernel⟩

/-- Statement PairCheckpoint: its hypotheses are met. -/
theorem wit_PairCheckpoint10 :
    ∃ (s u : State) (v w : State), s.clock 0 ([] ++ (s.advance 0).linkEvs (⟨0, false, 1, 0, 0⟩ : LinkHdr) (fun s => s.rxSeqd (⟨0, false, 1, 0, 0⟩ : LinkHdr) (fun s => s.resyncRx (⟨0, false, 1, 0, 0⟩ : LinkHdr).epoch 0 [] []))) = u ∧ u.laneUp 0 = true ∧ u.hearLink ⟨0, false, 1, 0, 0⟩ = v ∧ v.takesStream = true ∧ v.pair.rxSeq = 0 ∧ v.acceptSeq 1 = w ∧ w.role = 3 ∧ w.pair.joining = false ∧ inSram 0 = false ∧ inLpd 0 = false :=
  ⟨following, _, _, _, rfl, by decide, rfl, by decide +kernel, by decide +kernel, rfl, by decide +kernel, by decide +kernel, by decide +kernel, by decide +kernel⟩

/-- Statement PairCheckpoint: its hypotheses are met. -/
theorem wit_PairCheckpoint11 :
    ∃ (s u : State) (v w : State), s.clock 0 ([] ++ (s.advance 0).linkEvs (⟨0, false, 1, 0, 0⟩ : LinkHdr) (fun s => s.rxSeqd (⟨0, false, 1, 0, 0⟩ : LinkHdr) (fun s => s.resyncRx (⟨0, false, 1, 0, 0⟩ : LinkHdr).epoch 0 [] []))) = u ∧ u.laneUp 0 = true ∧ u.hearLink ⟨0, false, 1, 0, 0⟩ = v ∧ v.takesStream = true ∧ v.pair.rxSeq = 0 ∧ v.acceptSeq 1 = w ∧ w.role ≠ 3 :=
  ⟨laned, _, _, _, rfl, by decide, rfl, by decide +kernel, by decide +kernel, rfl, by decide +kernel⟩

/-- Statement PairCheckpoint: its hypotheses are met. -/
theorem wit_PairCheckpoint12 :
    ∃ (s u : State) (v w : State), s.clock 0 ([] ++ (s.advance 0).linkEvs (⟨0, false, 1, 0, 0⟩ : LinkHdr) (fun s => s.rxSeqd (⟨0, false, 1, 0, 0⟩ : LinkHdr) (fun s => s.programRx 0 []))) = u ∧ u.laneUp 0 = true ∧ u.hearLink ⟨0, false, 1, 0, 0⟩ = v ∧ v.takesStream = true ∧ v.pair.rxSeq = 0 ∧ v.acceptSeq 1 = w ∧ w.role = 3 :=
  ⟨following, _, _, _, rfl, by decide, rfl, by decide +kernel, by decide +kernel, rfl, by decide +kernel⟩

/-- Statement PairCheckpoint: its hypotheses are met. -/
theorem wit_PairCheckpoint13 :
    ∃ (s u : State) (v w : State), s.clock 0 ([] ++ (s.advance 0).linkEvs (⟨0, false, 1, 0, 0⟩ : LinkHdr) (fun s => s.rxSeqd (⟨0, false, 1, 0, 0⟩ : LinkHdr) (fun s => s.programRx 0 []))) = u ∧ u.laneUp 0 = true ∧ u.hearLink ⟨0, false, 1, 0, 0⟩ = v ∧ v.takesStream = true ∧ v.pair.rxSeq = 0 ∧ v.acceptSeq 1 = w ∧ w.role ≠ 3 :=
  ⟨laned, _, _, _, rfl, by decide, rfl, by decide +kernel, by decide +kernel, rfl, by decide +kernel⟩

/-- Statement PairCheckpoint: its hypotheses are met. -/
theorem wit_PairCheckpoint14 :
    ∃ (s u : State) (t : State), s.advance 0 = u ∧ u.regB Reg.PAIR_STS 1 = true ∧ u.runs = true ∧ (u.setRegB Reg.PAIR_STS 1 false).raiseBit 28 5 = t ∧ t.role ≠ 3 :=
  ⟨running.setReg Reg.PAIR_STS 2, _, _, rfl, by decide, by decide, rfl, by decide +kernel⟩

/-- Statement PairCheckpoint: its hypotheses are met. -/
theorem wit_PairCheckpoint15 :
    ∃ (s u : State) (t : State), s.advance 0 = u ∧ u.regB Reg.PAIR_STS 1 = true ∧ u.role = 3 ∧ (u.setRegB Reg.PAIR_STS 1 false).raiseBit 28 5 = t ∧ t.role = 3 :=
  ⟨following.setReg Reg.PAIR_STS 2, _, _, rfl, by decide, by decide, rfl, by decide +kernel⟩

/-- Statement PairCheckpoint: its hypotheses are met. -/
theorem wit_PairCheckpoint16 :
    ∃ (s u : State), s.advance 0 = u ∧ u.regB Reg.PAIR_STS 1 = false :=
  ⟨running, _, rfl, by decide⟩

/-- Statement PairCheckpoint: its hypotheses are met. -/
theorem wit_PairCheckpoint17 :
    ∃ (s u : State), s.advance 0 = u ∧ u.role = 3 ∧ u.pair.copied = true ∧ u.pair.joined = true :=
  ⟨{ following with pair := { copied := true, joined := true } }, _, rfl, by decide, by decide, by decide⟩

/-- Statement PairCheckpoint: its hypotheses are met. -/
theorem wit_PairCheckpoint18 :
    ∃ (s u : State), s.advance 0 = u ∧ u.pair.joined = false :=
  ⟨running, _, rfl, by decide⟩

/-- Statement PairCheckpoint: its hypotheses are met. -/
theorem wit_PairCheckpoint19 :
    ∃ (s u : State), s.advance 0 = u ∧ u.regF Reg.PAIR_GEN_CFG 16 0 * 1000 = 1000000 ∧ u.now / 1000000 = 3 ∧ u.runs = true ∧ u.plm.mode = .task ∧ 3 ≠ u.pair.genAt :=
  ⟨{ tasked .task with ptp := 3999999 * 2 ^ 32 }, _, rfl, by decide +kernel, by decide, by decide, by decide, by decide⟩

/-- Statement PairCheckpoint: its hypotheses are met. -/
theorem wit_PairCheckpoint20 :
    ∃ (s u : State), s.advance 0 = u ∧ u.now / (u.regF Reg.PAIR_GEN_CFG 16 0 * 1000) = u.pair.genAt :=
  ⟨{ tasked .task with ptp := 999999 * 2 ^ 32 }, _, rfl, by decide +kernel⟩

/-- Statement PairCheckpoint: its hypotheses are met. -/
theorem wit_PairCheckpoint21 :
    ∃ (s u : State) (g : GenLog), s.advance 0 = u ∧ u.pair.gens = [g] ∧ u.runs = true ∧ g.past = true ∧ g.running = 0 :=
  ⟨{ running with pair := { gens := [{ gen := 1, past := true }] } }, _, { gen := 1, past := true }, rfl, by decide, by decide, by decide, by decide⟩

/-- Statement PairCheckpoint: its hypotheses are met. -/
theorem wit_PairCheckpoint22 :
    ∃ (s u : State), s.advance 0 = u ∧ u.pair.gens = [] :=
  ⟨running, _, rfl, by decide⟩

/-- Statement PairCheckpoint: its hypotheses are met. -/
theorem wit_PairCheckpoint23 :
    ∃ (s u : State) (g : GenLog), s.advance 0 = u ∧ u.pair.gens = [g] ∧ g.past = false :=
  ⟨{ running with pair := { gens := [{ gen := 1 }] } }, _, { gen := 1 }, rfl, by decide, by decide⟩

/-- Statement PairLossAndHandOver: its hypotheses are met. -/
theorem wit_PairLossAndHandOver1 :
    ∃ (s u : State), s.clock 0 ((s.advance 0).pairEvs State.lossDeclared) = u ∧ u.role = 3 ∧ u.partnerSilent = true ∧ u.pair.silent = false :=
  ⟨{ following with sclk := silenceClk }, _, rfl, by decide, by decide, by decide⟩

/-- Statement PairLossAndHandOver: its hypotheses are met. -/
theorem wit_PairLossAndHandOver2 :
    ∃ (s u : State), s.clock 0 ((s.advance 0).pairEvs State.lossDeclared) = u ∧ u.partnerSilent = false :=
  ⟨{ following with sclk := silenceClk, pair := { lastLink := some 1 } }, _, rfl, by decide⟩

/-- Statement PairLossAndHandOver: its hypotheses are met. -/
theorem wit_PairLossAndHandOver3 :
    ∃ (s v w x : State), s.role = 3 ∧ ({ s with pair := { s.pair with silent := true } } : State).raiseBit 28 1 = v ∧ v.regB Reg.PAIR_STS 0 = true ∧ v.regB Reg.PAIR_CTL 0 = true ∧ (v.setRole 4).setEpoch (v.epoch + 1) = w ∧ w.setReg64 Reg.PAIR_LOSS_T_LO Reg.PAIR_LOSS_T_HI w.now = x :=
  ⟨following.setReg Reg.PAIR_CTL 3, _, _, _, by decide, rfl, by decide +kernel, by decide +kernel, rfl, rfl⟩

/-- Statement PairLossAndHandOver: its hypotheses are met. -/
theorem wit_PairLossAndHandOver4 :
    ∃ (s v : State), s.role = 3 ∧ ({ s with pair := { s.pair with silent := true } } : State).raiseBit 28 1 = v ∧ v.regB Reg.PAIR_CTL 0 = false :=
  ⟨following.setReg Reg.PAIR_CTL 2, _, by decide, rfl, by decide +kernel⟩

/-- Statement PairLossAndHandOver: its hypotheses are met. -/
theorem wit_PairLossAndHandOver5 :
    ∃ (s u : State), s.advance 0 = u ∧ u.pair.lossAt = some 5 ∧ u.role = 4 ∧ 5 + 200000 ≤ u.now :=
  ⟨{ running.setReg Reg.PAIR_ROLE 4 with ptp := 200005 * 2 ^ 32, pair := { lossAt := some 5 } }, _, rfl, by decide, by decide, by decide⟩

/-- Statement PairLossAndHandOver: its hypotheses are met. -/
theorem wit_PairLossAndHandOver6 :
    ∃ (s u : State), s.advance 0 = u ∧ u.pair.lossAt = some 5 ∧ u.now < 5 + 200000 :=
  ⟨{ running with ptp := 200004 * 2 ^ 32, pair := { lossAt := some 5 } }, _, rfl, by decide, by decide⟩

/-- Statement PairLossAndHandOver: its hypotheses are met. -/
theorem wit_PairLossAndHandOver7 :
    ∃ (s u : State), s.advance 0 = u ∧ u.pair.lossAt = none :=
  ⟨running, _, rfl, by decide⟩

/-- Statement PairLossAndHandOver: its hypotheses are met. -/
theorem wit_PairLossAndHandOver8 :
    ∃ (s u : State), s.clock 0 ((s.advance 0).pairEvs State.isolation) = u ∧ u.runs = true ∧ u.regB Reg.SYS_SLOT 1 = true ∧ u.allSilent = true :=
  ⟨{ running.setReg Reg.SYS_SLOT 2 with sclk := silenceClk, pair := { lastAny := some 0 } }, _, rfl, by decide, by decide, by decide⟩

/-- Statement PairLossAndHandOver: its hypotheses are met. -/
theorem wit_PairLossAndHandOver9 :
    ∃ (s u : State), s.clock 0 ((s.advance 0).pairEvs State.isolation) = u ∧ u.regB Reg.SYS_SLOT 1 = false :=
  ⟨running, _, rfl, by decide⟩

/-- Statement PairLossAndHandOver: its hypotheses are met. -/
theorem wit_PairLossAndHandOver10 :
    ∃ (s u : State) (v : State), s.advance 0 = u ∧ u.runs = true ∧ u.partnerSilent = true ∧ u.pair.silent = false ∧ u.allSilent = false ∧ ({ u with pair := { u.pair with silent := true, stream := false, window := [] } } : State).raiseBit 28 1 = v :=
  ⟨{ running with sclk := silenceClk, pair := { lastAny := some 1 } }, _, _, rfl, by decide, by decide, by decide, by decide, rfl⟩

/-- Statement PairLossAndHandOver: its hypotheses are met. -/
theorem wit_PairLossAndHandOver11 :
    ∃ (s u : State), s.advance 0 = u ∧ u.partnerSilent = false :=
  ⟨{ running with sclk := silenceClk, pair := { lastLink := some 1 } }, _, rfl, by decide⟩

/-- Statement PairLossAndHandOver: its hypotheses are met. -/
theorem wit_PairLossAndHandOver12 :
    ∃ (s u : State) (a : HandOver), s.advance 0 = u ∧ u.pair.hand = some a ∧ u.role = 5 ∧ a.swap = none ∧ u.running = 0 :=
  ⟨handing 0 none [], _, { kind := .handover, former := 2, at_ := 0, slot := some 9, swap := none }, rfl, by decide, by decide, by decide, by decide⟩

/-- Statement PairLossAndHandOver: its hypotheses are met. -/
theorem wit_PairLossAndHandOver13 :
    ∃ (s u : State), s.advance 0 = u ∧ u.pair.hand = none :=
  ⟨running, _, rfl, by decide⟩

/-- Statement PairLossAndHandOver: its hypotheses are met. -/
theorem wit_PairLossAndHandOver14 :
    ∃ (s u : State) (v w : State), s.clock 0 ([⟨.swapIn, 0, 0⟩] ++ (s.advance 0).linkEvs (⟨0, false, 1, 0, 0⟩ : LinkHdr) (fun s => s.rxSeqd (⟨0, false, 1, 0, 0⟩ : LinkHdr) (fun s => s.swapRx 7 0 0 0))) = u ∧ u.laneUp 0 = true ∧ u.hearLink ⟨0, false, 1, 0, 0⟩ = v ∧ v.takesStream = true ∧ v.pair.rxSeq = 0 ∧ v.acceptSeq 1 = w ∧ w.role = 3 ∧ w.regB Reg.PAIR_STS 0 = true :=
  ⟨following, _, _, _, rfl, by decide, rfl, by decide +kernel, by decide +kernel, rfl, by decide +kernel, by decide +kernel⟩

/-- Statement PairLossAndHandOver: its hypotheses are met. -/
theorem wit_PairLossAndHandOver15 :
    ∃ (s u : State) (v w : State), s.clock 0 ([⟨.swapIn, 0, 0⟩] ++ (s.advance 0).linkEvs (⟨0, false, 1, 0, 0⟩ : LinkHdr) (fun s => s.rxSeqd (⟨0, false, 1, 0, 0⟩ : LinkHdr) (fun s => s.swapRx 7 0 0 0))) = u ∧ u.laneUp 0 = true ∧ u.hearLink ⟨0, false, 1, 0, 0⟩ = v ∧ v.takesStream = true ∧ v.pair.rxSeq = 0 ∧ v.acceptSeq 1 = w ∧ w.role ≠ 3 :=
  ⟨laned, _, _, _, rfl, by decide, rfl, by decide +kernel, by decide +kernel, rfl, by decide +kernel⟩

/-- Statement PairLossAndHandOver: its hypotheses are met. -/
theorem wit_PairLossAndHandOver16 :
    ∃ (s u : State) (a : HandOver), s.clock 0 (([⟨.handoverH, 0, 0⟩] ++ (s.advance 0).pairEvs State.handoverH)) = u ∧ u.pair.hand = some a ∧ a.swap = some (7, 100) ∧ u.role = 5 ∧ 100 ≤ u.now :=
  ⟨handing 100 (some (7, 100)) [], _, { kind := .handover, former := 2, at_ := 0, slot := some 9, swap := some (7, 100) }, rfl, by decide +kernel, by decide, by decide +kernel, by decide +kernel⟩

/-- Statement PairLossAndHandOver: its hypotheses are met. -/
theorem wit_PairLossAndHandOver17 :
    ∃ (s u : State), s.clock 0 (([⟨.handoverH, 0, 0⟩] ++ (s.advance 0).pairEvs State.handoverH)) = u ∧ u.pair.hand = none ∧ u.pair.swapIn = some (7, 100, 0, 3) ∧ u.role = 4 ∧ 100 ≤ u.now :=
  ⟨{ running.setReg Reg.PAIR_ROLE 4 with ptp := 100 * 2 ^ 32, pair := { swapIn := some (7, 100, 0, 3) } }, _, rfl, by decide +kernel, by decide +kernel, by decide +kernel, by decide +kernel⟩

/-- Statement PairLossAndHandOver: its hypotheses are met. -/
theorem wit_PairLossAndHandOver18 :
    ∃ (s u : State), s.clock 0 (([⟨.handoverH, 0, 0⟩] ++ (s.advance 0).pairEvs State.handoverH)) = u ∧ u.pair.hand = none ∧ u.pair.swapIn = none :=
  ⟨running, _, rfl, by decide, by decide⟩

/-- Statement PairLossAndHandOver: its hypotheses are met. -/
theorem wit_PairLossAndHandOver19 :
    ∃ (s u : State) (a : HandOver), s.advance 0 = u ∧ u.pair.hand = some a ∧ a.swap = none ∧ u.role = 5 ∧ u.running ≠ 0 ∧ a.at_ + 20000000 ≤ u.now ∧ a.slot = some 9 ∧ a.kind ≠ .activation :=
  ⟨handing 20000000 none [(0x10, { rel := some rel1 })], _, { kind := .handover, former := 2, at_ := 0, slot := some 9, swap := none }, rfl, by decide, by decide, by decide, by decide, by decide, by decide, by decide⟩

/-- Statement PairLossAndHandOver: its hypotheses are met. -/
theorem wit_PairLossAndHandOver20 :
    ∃ (s u : State) (a : HandOver), s.advance 0 = u ∧ u.pair.hand = some a ∧ u.now < a.at_ + 20000000 :=
  ⟨handing 19999999 none [], _, { kind := .handover, former := 2, at_ := 0, slot := some 9, swap := none }, rfl, by decide, by decide⟩

/-- Statement PairLossAndHandOver: its hypotheses are met. -/
theorem wit_PairLossAndHandOver21 :
    ∃ (s u : State), s.advance 0 = u ∧ u.pair.outputsAt = some (5, false) ∧ 5 + 100000 ≤ u.now :=
  ⟨{ running with ptp := 100005 * 2 ^ 32, pair := { outputsAt := some (5, false) } }, _, rfl, by decide, by decide⟩

/-- Statement PairLossAndHandOver: its hypotheses are met. -/
theorem wit_PairLossAndHandOver22 :
    ∃ (s u : State), s.advance 0 = u ∧ u.pair.outputsAt = some (5, true) ∧ 5 + 100000 ≤ u.now ∧ u.runs = true :=
  ⟨{ running with ptp := 100005 * 2 ^ 32, pair := { outputsAt := some (5, true) } }, _, rfl, by decide, by decide, by decide⟩

/-- Statement PairLossAndHandOver: its hypotheses are met. -/
theorem wit_PairLossAndHandOver23 :
    ∃ (s u : State), s.advance 0 = u ∧ u.pair.outputsAt = some (5, true) ∧ u.now < 5 + 100000 :=
  ⟨{ running with ptp := 100004 * 2 ^ 32, pair := { outputsAt := some (5, true) } }, _, rfl, by decide, by decide⟩

/-- Statement PairLossAndHandOver: its hypotheses are met. -/
theorem wit_PairLossAndHandOver24 :
    ∃ (s u : State), s.clock 0 (([⟨.present, 0, 0⟩] ++ (s.advance 0).pairEvs State.removal)) = u ∧ u.isOn = true ∧ u.runs = true :=
  ⟨running, _, rfl, by decide +kernel, by decide +kernel⟩

/-- Statement PairLossAndHandOver: its hypotheses are met. -/
theorem wit_PairLossAndHandOver25 :
    ∃ (s u : State), s.clock 0 (([⟨.present, 0, 0⟩] ++ (s.advance 0).pairEvs State.removal)) = u ∧ u.isOn = true ∧ u.runs = false ∧ u.role ≠ 5 :=
  ⟨following, _, rfl, by decide +kernel, by decide +kernel, by decide +kernel⟩

/-- Statement PairLossAndHandOver: its hypotheses are met. -/
theorem wit_PairLossAndHandOver26 :
    ∃ (s u : State) (a : ArmedHand), s.clock 0 (((s.advance 0).triggerEvs (fun s => s.pairDatum 7))) = u ∧ u.pair.arm = some a ∧ a.trig = .datum 7 100 false 0 0 ∧ u.crossedAt 7 100 false 0 0 = none :=
  ⟨{ running with pair := { arm := some ⟨.handover, .datum 7 100 false 0 0, 9⟩ } }, _, ⟨.handover, .datum 7 100 false 0 0, 9⟩, rfl, by decide +kernel, by decide, by decide +kernel⟩

/-- Statement PairLossAndHandOver: its hypotheses are met. -/
theorem wit_PairLossAndHandOver27 :
    ∃ (s u : State) (a : ArmedHand) (x : Nat) (v : State), s.clock 0 (((s.advance 0).triggerEvs (fun s => s.pairDatum 7))) = u ∧ u.pair.arm = some a ∧ a.trig = .datum 7 100 false 50 0 ∧ u.crossedAt 7 100 false 50 0 = some x ∧ u.ahead (State.clocksTo 2 8 (x * 2 ^ 32) u) = v ∧ v.pair.arm = some a ∧ v.runs = true ∧ v.regB Reg.PAIR_STS 0 = true ∧ a.kind ≠ .exchange :=
  ⟨{ running.setReg Reg.PAIR_STS 1 with dats := [(7, { st := .stopped, heldP := 101 })], pair := { arm := some ⟨.handover, .datum 7 100 false 50 0, 9⟩ } }, _, ⟨.handover, .datum 7 100 false 50 0, 9⟩, 5, _, rfl, by decide +kernel, by decide, by decide +kernel, rfl, by decide +kernel, by decide +kernel, by decide +kernel, by decide⟩

/-- Statement PairLossAndHandOver: its hypotheses are met. -/
theorem wit_PairLossAndHandOver28 :
    ∃ (s u : State) (a : ArmedHand) (x : Nat) (v : State), s.clock 0 (((s.advance 0).triggerEvs (fun s => s.pairDatum 7))) = u ∧ u.pair.arm = some a ∧ a.trig = .datum 7 100 false 50 0 ∧ u.crossedAt 7 100 false 50 0 = some x ∧ u.ahead (State.clocksTo 2 8 (x * 2 ^ 32) u) = v ∧ v.pair.arm = some a ∧ v.runs = true ∧ v.regB Reg.PAIR_STS 0 = false :=
  ⟨{ running with dats := [(7, { st := .stopped, heldP := 101 })], pair := { arm := some ⟨.handover, .datum 7 100 false 50 0, 9⟩ } }, _, ⟨.handover, .datum 7 100 false 50 0, 9⟩, 5, _, rfl, by decide +kernel, by decide, by decide +kernel, rfl, by decide +kernel, by decide +kernel, by decide +kernel⟩

/-- Statement PairLossAndHandOver: its hypotheses are met. -/
theorem wit_PairLossAndHandOver29 :
    ∃ (s u : State), s.clock 0 (((s.advance 0).triggerEvs (fun s => s.pairDatum 7))) = u ∧ u.pair.arm = none :=
  ⟨running, _, rfl, by decide⟩

/-- Statement ChannelInstants: its hypotheses are met. -/
theorem wit_ChannelInstants1 :
    ∃ (s u : State) (w : State), s.clock 0 [⟨.ioInstant, 1, 0⟩] = u ∧ u.ioPeriod 1 = 1000000 ∧ u.now / 1000000 * 1000000 = 3000000 ∧ u.hasChan (16 * 1) = true ∧ (u.grp 1).lastIo ≠ 3000000 ∧ ((u.atInstant 1 3000000).revived 1).chMeasured 1 3000000 [] = w ∧ w.dispatches = true :=
  ⟨io 3000000 {}, _, _, rfl, by decide, by decide, by decide, by decide, rfl, by decide +kernel⟩

/-- Statement ChannelInstants: its hypotheses are met. -/
theorem wit_ChannelInstants2 :
    ∃ (s u : State) (w : State), s.clock 0 [⟨.ioInstant, 1, 0⟩] = u ∧ u.ioPeriod 1 = 1000000 ∧ u.now / 1000000 * 1000000 = 3000000 ∧ u.hasChan (16 * 1) = true ∧ (u.grp 1).lastIo ≠ 3000000 ∧ ((u.atInstant 1 3000000).revived 1).chMeasured 1 3000000 [] = w ∧ w.dispatches = false :=
  ⟨(io 3000000 {}).setReg Reg.PAIR_ROLE 3, _, _, rfl, by decide, by decide, by decide, by decide, rfl, by decide +kernel⟩

/-- Statement ChannelInstants: its hypotheses are met. -/
theorem wit_ChannelInstants3 :
    ∃ (s u : State), s.clock 0 [⟨.ioInstant, 1, 0⟩] = u ∧ (u.grp 1).lastIo = u.now / u.ioPeriod 1 * u.ioPeriod 1 :=
  ⟨io 1999999 { lastIo := 1000000 }, _, rfl, by decide⟩

/-- Statement ChannelInstants: its hypotheses are met. -/
theorem wit_ChannelInstants4 :
    ∃ (s u : State) (v : State), s.advance 0 = u ∧ (u.grp 1).ins = (1000000, [(1, 32767, 1)]) :: [] ∧ 1000000 + 60000 ≤ u.now ∧ u.modGrp 1 (fun x => { x with ins := [] }) = v ∧ v.dispatches = true ∧ v.domainOn 9 = true :=
  ⟨io 1060000 { ins := [(1000000, [(1, 32767, 1)])] }, _, _, rfl, by decide, by decide, rfl, by decide +kernel, by decide +kernel⟩

/-- Statement ChannelInstants: its hypotheses are met. -/
theorem wit_ChannelInstants5 :
    ∃ (s u : State), s.advance 0 = u ∧ (u.grp 1).ins = (1000000, []) :: [] ∧ u.now < 1000000 + 60000 :=
  ⟨io 1059999 { ins := [(1000000, [])] }, _, rfl, by decide, by decide⟩

/-- Statement ChannelInstants: its hypotheses are met. -/
theorem wit_ChannelInstants6 :
    ∃ (s u : State), s.advance 0 = u ∧ (u.grp 1).ins = [] :=
  ⟨running, _, rfl, by decide⟩

/-- Statement ChannelInstants: its hypotheses are met. -/
theorem wit_ChannelInstants7 :
    ∃ (s u : State) (v : State), s.clock 0 [⟨.outApply, 1, 0⟩] = u ∧ (u.grp 1).outs = (1000000, [(31, 1)]) :: [] ∧ 1000000 + 99000 ≤ u.now ∧ u.modGrp 1 (fun x => { x with outs := [] }) = v ∧ v.domainOn 9 = true ∧ v.drive 1 = 2 :=
  ⟨(io 1099000 { outs := [(1000000, [(31, 1)])] }).setReg (Reg.GRP_STS 1) 0x10, _, _, rfl, by decide, by decide, rfl, by decide +kernel, by decide +kernel⟩

/-- Statement ChannelInstants: its hypotheses are met. -/
theorem wit_ChannelInstants8 :
    ∃ (s u : State), s.clock 0 [⟨.outApply, 1, 0⟩] = u ∧ (u.grp 1).outs = (1000000, []) :: [] ∧ u.now < 1000000 + 99000 :=
  ⟨io 1098999 { outs := [(1000000, [])] }, _, rfl, by decide, by decide⟩

/-- Statement ChannelInstants: its hypotheses are met. -/
theorem wit_ChannelInstants9 :
    ∃ (s u : State), s.clock 0 [⟨.outApply, 1, 0⟩] = u ∧ (u.grp 1).outs = [] :=
  ⟨running, _, rfl, by decide⟩

/-- Statement ChannelInstants: its hypotheses are met. -/
theorem wit_ChannelInstants10 :
    ∃ (s : State), s.mayStand 31 = true ∧ s.ctlRuns 31 = true ∧ s.outCmd 31 3 = (1, false) ∧ s.mayStand 30 = false :=
  ⟨outputting 3, by decide +kernel, by decide +kernel, by decide, by decide +kernel⟩

/-- Statement ChannelInstants: its hypotheses are met. -/
theorem wit_ChannelInstants11 :
    ∃ (s s' s'' : State), s.chMode 31 = 3 ∧ s'.chMode 31 ≠ 3 ∧ s'.live420 31 = true ∧ s''.chMode 31 ≠ 3 ∧ s''.live420 31 = false :=
  ⟨outputting 3, outputting 7, outputting 6, by decide, by decide, by decide, by decide, by decide⟩

/-- Statement ChannelInstants: its hypotheses are met. -/
theorem wit_ChannelInstants12 :
    ∃ (s u : State) (v w : State), s.advance 0 = u ∧ (u.grp 1).conv.getLast? = some (60000, 122500) ∧ 122500 ≤ u.now ∧ u.modGrp 1 (fun x => { x with conv := x.conv.dropLast }) = v ∧ v.hasChan (16 * 1) = true ∧ v.chMeasured 1 60000 [] = w ∧ w.dispatches = true :=
  ⟨io 122500 { conv := [(60000, 122500)] }, _, _, _, rfl, by decide, by decide, rfl, by decide +kernel, rfl, by decide +kernel⟩

/-- Statement ChannelInstants: its hypotheses are met. -/
theorem wit_ChannelInstants13 :
    ∃ (s u : State), s.advance 0 = u ∧ (u.grp 1).conv.getLast? = some (60000, 122500) ∧ u.now < 122500 :=
  ⟨io 122499 { conv := [(60000, 122500)] }, _, rfl, by decide, by decide⟩

/-- Statement ChannelInstants: its hypotheses are met. -/
theorem wit_ChannelInstants14 :
    ∃ (s u : State), s.advance 0 = u ∧ (u.grp 1).conv = [] :=
  ⟨running, _, rfl, by decide⟩

/-- Statement ChannelInstants: its hypotheses are met. -/
theorem wit_ChannelInstants15 :
    ∃ (s u : State), s.advance 0 = u ∧ u.hasChan 31 = true ∧ u.ctlRuns 31 = true ∧ u.chMode 31 = 2 :=
  ⟨outputting 2, _, rfl, by decide, by decide +kernel, by decide⟩

/-- Statement ChannelInstants: its hypotheses are met. -/
theorem wit_ChannelInstants16 :
    ∃ (s u : State), s.advance 0 = u ∧ u.ctlRuns 0 = false :=
  ⟨outputting 2, _, rfl, by decide +kernel⟩

/-- Statement ChannelInstants: its hypotheses are met. -/
theorem wit_ChannelInstants17 :
    ∃ (s u : State), s.advance 0 = u ∧ (u.chan 31).reconf = true :=
  ⟨{ running with chans := [(31, { reconf := true })] }, _, rfl, by decide⟩

/-- Statement ChannelInstants: its hypotheses are met. -/
theorem wit_ChannelInstants18 :
    ∃ (s u : State), s.advance 0 = u ∧ (u.chan 31).reconf = false :=
  ⟨running, _, rfl, by decide⟩

/-- Statement ChannelInstants: its hypotheses are met. -/
theorem wit_ChannelInstants19 :
    ∃ (s u : State), s.clock 0 [⟨.fiEdge, 7, 0⟩] = u ∧ u.domainOn 9 = true ∧ (u.fi 7).level ≠ true ∧ (u.fiCfg 7).bit 23 = false :=
  ⟨running, _, rfl, by decide, by decide, by decide⟩

/-- Statement ChannelInstants: its hypotheses are met. -/
theorem wit_ChannelInstants20 :
    ∃ (s u : State), s.clock 0 [⟨.fiEdge, 6, 0⟩] = u ∧ (u.fi 6).level = true :=
  ⟨{ running with fis := [(6, { level := true })] }, _, rfl, by decide⟩

/-- Statement ChannelInstants: its hypotheses are met. -/
theorem wit_ChannelInstants21 :
    ∃ (s u : State), s.clock 0 [⟨.fiEdge, 7, 0⟩] = u ∧ u.domainOn 9 = true ∧ (u.fi 7).level ≠ true ∧ (u.fiCfg 7).bit 23 = true ∧ (u.fi 7).queue.length < 64 ∧ (u.fi 7).queue ≠ [] :=
  ⟨{ running with cfgA := [(cfgKey 1 32 10, 0x800000)], fis := [(7, { queue := List.replicate 63 (0, true) })] }, _, rfl, by decide, by decide, by decide, by decide, by decide⟩

/-- Statement ChannelInstants: its hypotheses are met. -/
theorem wit_ChannelInstants22 :
    ∃ (s u : State), s.clock 0 [⟨.fiEdge, 7, 0⟩] = u ∧ u.domainOn 9 = true ∧ (u.fi 7).level ≠ true ∧ (u.fiCfg 7).bit 23 = true ∧ (u.fi 7).queue = [] :=
  ⟨{ running with cfgA := [(cfgKey 1 32 10, 0x800000)], fis := [(7, { queue := List.replicate 0 (0, true) })] }, _, rfl, by decide, by decide, by decide, by decide⟩

/-- Statement ChannelInstants: its hypotheses are met. -/
theorem wit_ChannelInstants23 :
    ∃ (s u : State), s.clock 0 [⟨.fiEdge, 7, 0⟩] = u ∧ u.domainOn 9 = true ∧ (u.fi 7).level ≠ true ∧ (u.fiCfg 7).bit 23 = true ∧ 64 ≤ (u.fi 7).queue.length :=
  ⟨{ running with cfgA := [(cfgKey 1 32 10, 0x800000)], fis := [(7, { queue := List.replicate 64 (0, true) })] }, _, rfl, by decide, by decide, by decide, by decide⟩

/-- Statement ChannelInstants: its hypotheses are met. -/
theorem wit_ChannelInstants24 :
    ∃ (s u : State), s.toWrite 0 0x42 (Reg.FIk_EV_POP 7) 1 = u ∧ u.opens 0x42 true (Reg.FIk_EV_POP 7) = true :=
  ⟨running, _, rfl, by decide +kernel⟩

/-- Statement ChannelFaults: its hypotheses are met. -/
theorem wit_ChannelFaults1 :
    ∃ (s u : State) (v : State), s.advance 0 = u ∧ u.hasChan 31 = true ∧ u.ctlRuns 31 = true ∧ u.ctlTemp 31 2500 = v ∧ v.chMode 31 ≠ 0 ∧ v.notYet 31 = false ∧ v.diagRuns 31 6 = true :=
  ⟨outputting 7, _, _, rfl, by decide, by decide +kernel, rfl, by decide +kernel, by decide +kernel, by decide +kernel⟩

/-- Statement ChannelFaults: its hypotheses are met. -/
theorem wit_ChannelFaults2 :
    ∃ (s u : State) (v : State), s.advance 0 = u ∧ u.hasChan 31 = true ∧ u.ctlRuns 31 = true ∧ u.ctlTemp 31 2500 = v ∧ v.chMode 31 ≠ 0 ∧ v.notYet 31 = false ∧ v.diagRuns 31 5 = true ∧ (v.setFlag 31 5 true).chMode 31 = 7 :=
  ⟨outputting 7, _, _, rfl, by decide, by decide +kernel, rfl, by decide +kernel, by decide +kernel, by decide +kernel, by decide +kernel⟩

/-- Statement ChannelFaults: its hypotheses are met. -/
theorem wit_ChannelFaults3 :
    ∃ (s u : State) (v : State), s.advance 0 = u ∧ u.hasChan 31 = true ∧ u.ctlRuns 31 = true ∧ u.ctlTemp 31 2500 = v ∧ v.chMode 31 ≠ 0 ∧ v.notYet 31 = false ∧ v.diagClears 31 6 = true :=
  ⟨outputting 7, _, _, rfl, by decide, by decide +kernel, rfl, by decide +kernel, by decide +kernel, by decide +kernel⟩

/-- Statement ChannelFaults: its hypotheses are met. -/
theorem wit_ChannelFaults4 :
    ∃ (s u : State) (v : State), s.advance 0 = u ∧ u.hasChan 31 = true ∧ u.ctlRuns 31 = true ∧ u.ctlTemp 31 2500 = v ∧ v.diagRuns 31 6 = false :=
  ⟨outputting 3, _, _, rfl, by decide, by decide +kernel, rfl, by decide +kernel⟩

/-- Statement ChannelFaults: its hypotheses are met. -/
theorem wit_ChannelFaults5 :
    ∃ (s u : State), s.advance 0 = u ∧ u.ctlRuns 3 = false :=
  ⟨running.setReg (Reg.CHN_CCc 1) 0x30000, _, rfl, by decide⟩

/-- Statement ChannelFaults: its hypotheses are met. -/
theorem wit_ChannelFaults6 :
    ∃ (s u : State), s.clock 0 [⟨.channelTrip, grpOf 31, 31⟩] = u ∧ u.canTrip 31 = true ∧ u.supply (grpOf 31) = 1 ∧ (u.tripWindow 31).length < 4 :=
  ⟨{ outputting 3 with chans := [(31, { on := true, trips := [0, 0, 0] })] }, _, rfl, by decide +kernel, by decide +kernel, by decide⟩

/-- Statement ChannelFaults: its hypotheses are met. -/
theorem wit_ChannelFaults7 :
    ∃ (s u : State), s.clock 0 [⟨.channelTrip, grpOf 31, 31⟩] = u ∧ u.canTrip 31 = true ∧ u.supply (grpOf 31) = 1 ∧ 4 ≤ (u.tripWindow 31).length :=
  ⟨{ outputting 3 with chans := [(31, { on := true, trips := [0, 0, 0, 0] })] }, _, rfl, by decide +kernel, by decide +kernel, by decide⟩

/-- Statement ChannelFaults: its hypotheses are met. -/
theorem wit_ChannelFaults8 :
    ∃ (s u : State), s.clock 0 [⟨.channelTrip, grpOf 31, 31⟩] = u ∧ u.canTrip 31 = true ∧ u.supply (grpOf 31) ≠ 1 :=
  ⟨{ outputting 4 with cfgA := [(cfgKey 1 31 0, 4 + 2 ^ 9)], regs := (outputting 4).regs.filter (fun e => e.1 ≠ Reg.GRP_STS 1) }, _, rfl, by decide +kernel, by decide +kernel⟩

/-- Statement ChannelFaults: its hypotheses are met. -/
theorem wit_ChannelFaults9 :
    ∃ (s u : State), s.clock 0 [⟨.channelTrip, grpOf 30, 30⟩] = u ∧ u.canTrip 30 = false :=
  ⟨outputting 3, _, rfl, by decide +kernel⟩

/-- Statement ChannelFaults: its hypotheses are met. -/
theorem wit_ChannelFaults10 :
    ∃ (s u : State), s.clock 0 [⟨.tripRetry, 31, 0⟩] = u ∧ (u.chan 31).retry = some 5 ∧ 5 ≤ u.sclk ∧ u.domainOn 9 = true :=
  ⟨{ running with sclk := 5, chans := [(31, { retry := some 5 })] }, _, rfl, by decide, by decide, by decide⟩

/-- Statement ChannelFaults: its hypotheses are met. -/
theorem wit_ChannelFaults11 :
    ∃ (s u : State), s.clock 0 [⟨.tripRetry, 31, 0⟩] = u ∧ (u.chan 31).retry = some 5 ∧ u.sclk < 5 :=
  ⟨{ running with sclk := 4, chans := [(31, { retry := some 5 })] }, _, rfl, by decide, by decide⟩

/-- Statement ChannelFaults: its hypotheses are met. -/
theorem wit_ChannelFaults12 :
    ∃ (s u : State), s.clock 0 [⟨.tripRetry, 31, 0⟩] = u ∧ (u.chan 31).retry = some 0 ∧ (u.chan 31).hot = true :=
  ⟨{ running with chans := [(31, { retry := some 0, hot := true })] }, _, rfl, by decide, by decide⟩

/-- Statement ChannelFaults: its hypotheses are met. -/
theorem wit_ChannelFaults13 :
    ∃ (s u : State), s.advance 0 = u ∧ u.tripSeq 31 = 0 :=
  ⟨{ running with sclk := minuteClk, chans := [(31, { trips := [0], seq := 1 })] }, _, rfl, by decide⟩

/-- Statement ChannelFaults: its hypotheses are met. -/
theorem wit_ChannelFaults14 :
    ∃ (s u : State), s.advance 0 = u ∧ u.tripSeq 31 ≠ 0 :=
  ⟨{ running with sclk := minuteClk - 1, chans := [(31, { trips := [0], seq := 1 })] }, _, rfl, by decide⟩

/-- Statement ChannelFaults: its hypotheses are met. -/
theorem wit_ChannelFaults15 :
    ∃ (s u : State), s.advance 0 = u ∧ u.hasChan (16 * 1) = true :=
  ⟨running, _, rfl, by decide⟩

/-- Statement ChannelFaults: its hypotheses are met. -/
theorem wit_ChannelFaults16 :
    ∃ (s v : State) (mv : Nat), (((s.setRegF (Reg.GRP_VFLD 1) 15 0 (min 65535 mv)).extreme (24 + 4 * 1) (min 65535 mv : Nat)).modGrp 1 (fun x => { x with lowAt := if mv ≤ 18000 then some s.sclk else x.lowAt, okAt := if 16000 ≤ mv then some s.sclk else x.okAt })) = v ∧ v.regF (Reg.GRP_VFLD_MIN 1) 15 0 ≤ mv ∧ mv ≤ v.regF (Reg.GRP_VFLD_MAX 1) 15 0 ∧ mv < 19200 ∧ v.regB (Reg.GRP_STS 1) 2 = false :=
  ⟨((running.setReg (Reg.GRP_VFLD_MIN 1) 19000).setReg (Reg.GRP_VFLD_MAX 1) 24000), _, 19199, rfl, by decide +kernel, by decide +kernel, by decide, by decide +kernel⟩

/-- Statement ChannelFaults: its hypotheses are met. -/
theorem wit_ChannelFaults17 :
    ∃ (s u : State) (v : State), s.clock 0 [⟨.supplyLost, 1, 0⟩] = u ∧ u.hasChan (16 * 1) = true ∧ u.vfld 1 15999 = v ∧ v.nthSample 22 (v.grp 1).okAt = true ∧ v.supply 1 = 1 :=
  ⟨running.setReg (Reg.GRP_STS 1) 1, _, _, rfl, by decide, rfl, by decide +kernel, by decide +kernel⟩

/-- Statement ChannelFaults: its hypotheses are met. -/
theorem wit_ChannelFaults18 :
    ∃ (s u : State) (v : State), s.clock 0 [⟨.supplyLost, 1, 0⟩] = u ∧ u.hasChan (16 * 1) = true ∧ u.vfld 1 15999 = v ∧ v.nthSample 22 (v.grp 1).okAt = false :=
  ⟨{ running.setReg (Reg.GRP_STS 1) 1 with grps := [(1, { okAt := some 0 })] }, _, _, rfl, by decide, rfl, by decide +kernel⟩

/-- Statement ChannelFaults: its hypotheses are met. -/
theorem wit_ChannelFaults19 :
    ∃ (s u : State) (v : State), s.advance 0 = u ∧ u.hasChan (16 * 1) = true ∧ u.vfld 1 18001 = v ∧ v.nthSample 101 (v.grp 1).lowAt = true ∧ v.supply 1 = 2 :=
  ⟨running.setReg (Reg.GRP_STS 1) 2, _, _, rfl, by decide, rfl, by decide +kernel, by decide +kernel⟩

/-- Statement ChannelFaults: its hypotheses are met. -/
theorem wit_ChannelFaults20 :
    ∃ (s u : State) (v : State), s.advance 0 = u ∧ u.hasChan (16 * 1) = true ∧ u.vfld 1 18001 = v ∧ v.nthSample 101 (v.grp 1).lowAt = true ∧ v.supply 1 = 0 :=
  ⟨running, _, _, rfl, by decide, rfl, by decide +kernel, by decide +kernel⟩

/-- Statement ChannelFaults: its hypotheses are met. -/
theorem wit_ChannelFaults21 :
    ∃ (s u : State) (v : State), s.advance 0 = u ∧ u.hasChan (16 * 1) = true ∧ u.vfld 1 18001 = v ∧ v.nthSample 101 (v.grp 1).lowAt = false :=
  ⟨{ running with grps := [(1, { lowAt := some 0 })] }, _, _, rfl, by decide, rfl, by decide +kernel⟩

/-- Statement ChannelFaults: its hypotheses are met. -/
theorem wit_ChannelFaults22 :
    ∃ (s u : State), s.toWrite 0 0x42 (Reg.GRP_ACK 1) 1 = u ∧ u.opens 0x42 true (Reg.GRP_ACK 1) = true ∧ u.supply 1 = 3 :=
  ⟨running.setReg (Reg.GRP_STS 1) 3, _, rfl, by decide +kernel, by decide +kernel⟩

/-- Statement ChannelFaults: its hypotheses are met. -/
theorem wit_ChannelFaults23 :
    ∃ (s u : State), s.toWrite 0 0x42 (Reg.GRP_ACK 1) 1 = u ∧ u.opens 0x42 true (Reg.GRP_ACK 1) = true ∧ u.supply 1 ≠ 3 :=
  ⟨running, _, rfl, by decide +kernel, by decide +kernel⟩

/-- Statement ChannelFaults: its hypotheses are met. -/
theorem wit_ChannelFaults24 :
    ∃ (s u : State), s.toWrite 0 0x42 (Reg.GRP_CTL 1) 1 = u ∧ u.opens 0x42 true (Reg.GRP_CTL 1) = true ∧ (∀ n ∈ grpChans 1, (u.chan n).on = false) :=
  ⟨running, _, rfl, by decide +kernel, by decide +kernel⟩

/-- Statement ChannelFaults: its hypotheses are met. -/
theorem wit_ChannelFaults25 :
    ∃ (s u : State), s.advance 0 = u ∧ u.hasChan (2 * 15) = true ∧ u.hasChan (2 * 15 + 1) = true ∧ (u.chW (2 * 15) 0).bit 8 = false ∧ (u.chW (2 * 15 + 1) 0).bit 8 = false ∧ u.chMode (2 * 15) = 3 ∧ u.chMode (2 * 15 + 1) = 3 :=
  ⟨{ running with cfgA := [(cfgKey 1 30 0, 3), (cfgKey 1 31 0, 3)] }, _, rfl, by decide, by decide, by decide, by decide, by decide, by decide⟩

/-- Statement ChannelFaults: its hypotheses are met. -/
theorem wit_ChannelFaults26 :
    ∃ (s u : State), s.advance 0 = u ∧ u.hasChan (2 * 16) = false ∧ u.hasChan (2 * 16 + 1) = false :=
  ⟨running, _, rfl, by decide, by decide⟩

/-- Statement ChannelFaults: its hypotheses are met. -/
theorem wit_ChannelFaults27 :
    ∃ (s u : State) (v : State), s.clock 0 [⟨.benchmark, 31, 0⟩] = u ∧ u.hasChan 31 = true ∧ u.chMode 31 ≠ 0 ∧ u.notYet 31 = false ∧ u.ctlRuns 31 = true ∧ (u.chan 31).test = false ∧ u.converting (grpOf 31) = false ∧ (u.setRegF (Reg.CH_BENCH 31) 15 0 (pattern 16 600)).setFlag 31 14 false = v :=
  ⟨{ outputting 3 with cfgA := [(cfgKey 1 31 0, 3), (cfgKey 1 33 0, 2)] }, _, _, rfl, by decide, by decide, by decide, by decide +kernel, by decide, by decide, rfl⟩

/-- Statement ChannelFaults: its hypotheses are met. -/
theorem wit_ChannelFaults28 :
    ∃ (s u : State), s.clock 0 [⟨.benchmark, 31, 0⟩] = u ∧ u.hasChan 31 = true ∧ u.chMode 31 ≠ 0 ∧ u.notYet 31 = false ∧ u.ctlRuns 31 = true ∧ (u.chan 31).test = false ∧ u.triggered (grpOf 31) = true :=
  ⟨{ outputting 3 with cfgA := [(cfgKey 1 31 0, 3), (cfgKey 1 33 0, 2)] }, _, rfl, by decide, by decide, by decide, by decide +kernel, by decide, by decide⟩

/-- Statement ChannelFaults: its hypotheses are met. -/
theorem wit_ChannelFaults29 :
    ∃ (s u : State), s.clock 0 [⟨.benchmark, 31, 0⟩] = u ∧ u.triggered (grpOf 31) = true ∧ u.converting (grpOf 31) = true :=
  ⟨{ outputting 3 with cfgA := [(cfgKey 1 31 0, 3), (cfgKey 1 33 0, 2)] , grps := [(1, { conv := [(1, 2)] })] }, _, rfl, by decide, by decide⟩

/-- Statement ChannelFaults: its hypotheses are met. -/
theorem wit_ChannelFaults30 :
    ∃ (s u : State), s.clock 0 [⟨.benchmark, 30, 0⟩] = u ∧ u.chMode 30 = 0 :=
  ⟨{ outputting 3 with cfgA := [(cfgKey 1 31 0, 3), (cfgKey 1 33 0, 2)] }, _, rfl, by decide⟩

/-- Statement ChannelFaults: its hypotheses are met. -/
theorem wit_ChannelFaults31 :
    ∃ (s u : State), s.advance 0 = u ∧ u.domainOn 9 = true ∧ u.foDrives 7 = true :=
  ⟨{ running.setReg (Reg.GRP_STS 0) 0x10 with cfgA := [(cfgKey 1 32 18, 1)], fos := [(5, { fault := some 0 })] }, _, rfl, by decide, by decide⟩

/-- Statement ChannelFaults: its hypotheses are met. -/
theorem wit_ChannelFaults32 :
    ∃ (s u : State), s.advance 0 = u ∧ u.foDrives 6 = false :=
  ⟨running, _, rfl, by decide⟩

/-- Statement ChannelFaults: its hypotheses are met. -/
theorem wit_ChannelFaults33 :
    ∃ (s u : State), s.advance 0 = u ∧ (u.fo 7).fault = some 0 ∧ 0 + 100 * msClk ≤ u.sclk :=
  ⟨{ running with sclk := 100 * msClk, fos := [(7, { fault := some 0 })] }, _, rfl, by decide, by decide⟩

/-- Statement ChannelFaults: its hypotheses are met. -/
theorem wit_ChannelFaults34 :
    ∃ (s u : State), s.advance 0 = u ∧ (u.fo 7).fault = some 0 ∧ u.sclk < 0 + 100 * msClk :=
  ⟨{ running with sclk := 100 * msClk - 1, fos := [(7, { fault := some 0 })] }, _, rfl, by decide, by decide⟩

/-- Statement ChannelFaults: its hypotheses are met. -/
theorem wit_ChannelFaults35 :
    ∃ (s u : State), s.advance 0 = u ∧ u.hasCtl 15 = true ∧ u.domainOn 9 = true ∧ (u.regF (Reg.CHN_CCc 15) 18 16 = 1 ∨ u.regF (Reg.CHN_CCc 15) 18 16 = 2) :=
  ⟨running.setReg (Reg.CHN_CCc 15) 0x20000, _, rfl, by decide, by decide, by decide⟩

/-- Statement ChannelFaults: its hypotheses are met. -/
theorem wit_ChannelFaults36 :
    ∃ (s u : State), s.advance 0 = u ∧ u.hasCtl 15 = true ∧ u.domainOn 9 = true ∧ u.regF (Reg.CHN_CCc 15) 18 16 = 3 :=
  ⟨running.setReg (Reg.CHN_CCc 15) 0x30000, _, rfl, by decide, by decide, by decide⟩

/-- Statement ChannelFaults: its hypotheses are met. -/
theorem wit_ChannelFaults37 :
    ∃ (s u : State), s.advance 0 = u ∧ u.hasCtl 15 = true ∧ u.domainOn 9 = true ∧ u.regF (Reg.CHN_CCc 15) 18 16 = 3 :=
  ⟨running.setReg (Reg.CHN_CCc 15) 0x30000, _, rfl, by decide, by decide, by decide⟩

/-- Statement CanSending: its hypotheses are met. -/
theorem wit_CanSending1 :
    ∃ (s u : State) (w : State), s.toWrite 0 0x42 (Reg.CANn_CTL 1) 4 = u ∧ u.opens 0x42 true (Reg.CANn_CTL 1) = true ∧ (4 : Word).toNat < 16 ∧ (4 : Word).fld 1 0 ≠ 3 ∧ u.setReg (Reg.CANn_CTL 1) 4 = w ∧ (4 : Word).fld 1 0 = 0 ∧ w.canProg 1 = u.canProg 1 :=
  ⟨running, _, _, rfl, by decide +kernel, by decide, by decide, rfl, by decide, by decide +kernel⟩

/-- Statement CanSending: its hypotheses are met. -/
theorem wit_CanSending2 :
    ∃ (s u : State) (w : State), s.toWrite 0 0x42 (Reg.CANn_CTL 1) 6 = u ∧ u.opens 0x42 true (Reg.CANn_CTL 1) = true ∧ (6 : Word).toNat < 16 ∧ (6 : Word).fld 1 0 ≠ 3 ∧ u.setReg (Reg.CANn_CTL 1) 6 = w ∧ w.badTiming 1 = false ∧ w.canProg 1 ≠ u.canProg 1 :=
  ⟨running.setReg (Reg.CANn_NBT 1) 0x00F87C01, _, _, rfl, by decide +kernel, by decide, by decide, rfl, by decide +kernel, by decide +kernel⟩

/-- Statement CanSending: its hypotheses are met. -/
theorem wit_CanSending3 :
    ∃ (s u : State), s.toWrite 0 0x42 (Reg.CANn_CTL 1) 7 = u ∧ u.opens 0x42 true (Reg.CANn_CTL 1) = true ∧ (7 : Word).toNat < 16 ∧ (7 : Word).fld 1 0 = 3 :=
  ⟨running, _, rfl, by decide +kernel, by decide, by decide⟩

/-- Statement CanSending: its hypotheses are met. -/
theorem wit_CanSending4 :
    ∃ (s v s' v' : State), (s.can 1).pend = some (5, 0, false) ∧ s.setCan 1 { s.can 1 with pend := none, since := 5 } = v ∧ 5 ≤ s.sclk ∧ s.canProg 1 = 0 ∧ (s'.can 1).pend = some (5, 0, false) ∧ s'.setCan 1 { s'.can 1 with pend := none, since := 5 } = v' ∧ 5 ≤ s'.sclk ∧ s'.canProg 1 ≠ 0 :=
  ⟨{ running with sclk := 5, cans := [(1, { pend := some (5, 0, false) })] }, _, { sending [] [] with sclk := 5, cans := [(1, { pend := some (5, 0, false) })] }, _, by decide, rfl, by decide, by decide, by decide, rfl, by decide, by decide⟩

/-- Statement CanSending: its hypotheses are met. -/
theorem wit_CanSending5 :
    ∃ (s u : State), s.advance 0 = u ∧ u.hasCan 1 = true ∧ u.canMode 1 ≠ 0 :=
  ⟨running.setReg (Reg.CANn_CTL 1) 1, _, rfl, by decide, by decide⟩

/-- Statement CanSending: its hypotheses are met. -/
theorem wit_CanSending6 :
    ∃ (s u : State), s.advance 0 = u ∧ u.hasCan 2 = false :=
  ⟨running, _, rfl, by decide⟩

/-- Statement CanSending: its hypotheses are met. -/
theorem wit_CanSending7 :
    ∃ (s u : State), s.toWrite 0 0x42 (Reg.CANn_TX_PUSH 1) 1 = u ∧ u.opens 0x42 true (Reg.CANn_TX_PUSH 1) = true ∧ (u.can 1).fifo.length < 32 ∧ ((u.reg (Reg.CANn_TX_ID 1)).bit 30 && (u.reg (Reg.CANn_TX_CTL 1)).bit 4 || (u.reg (Reg.CANn_TX_CTL 1)).bit 5 && !(u.reg (Reg.CANn_TX_CTL 1)).bit 4 || decide (8 < (u.reg (Reg.CANn_TX_CTL 1)).fld 3 0) && !(u.reg (Reg.CANn_TX_CTL 1)).bit 4) = false :=
  ⟨sending [ent 0] [], _, rfl, by decide +kernel, by decide +kernel, by decide +kernel⟩

/-- Statement CanSending: its hypotheses are met. -/
theorem wit_CanSending8 :
    ∃ (s u : State), s.toWrite 0 0x42 (Reg.CANn_TX_PUSH 1) 3 = u ∧ u.opens 0x42 true (Reg.CANn_TX_PUSH 1) = true ∧ (u.can 1).urgent = none ∧ ((u.reg (Reg.CANn_TX_ID 1)).bit 30 && (u.reg (Reg.CANn_TX_CTL 1)).bit 4 || (u.reg (Reg.CANn_TX_CTL 1)).bit 5 && !(u.reg (Reg.CANn_TX_CTL 1)).bit 4 || decide (8 < (u.reg (Reg.CANn_TX_CTL 1)).fld 3 0) && !(u.reg (Reg.CANn_TX_CTL 1)).bit 4) = false :=
  ⟨sending [ent 0] [], _, rfl, by decide +kernel, by decide +kernel, by decide +kernel⟩

/-- Statement CanSending: its hypotheses are met. -/
theorem wit_CanSending9 :
    ∃ (s u : State), s.toWrite 0 0x42 (Reg.CANn_TX_PUSH 1) 1 = u ∧ u.opens 0x42 true (Reg.CANn_TX_PUSH 1) = true ∧ 32 ≤ (u.can 1).fifo.length :=
  ⟨sending (List.replicate 32 (ent 0)) [], _, rfl, by decide +kernel, by decide +kernel⟩

/-- Statement CanSending: its hypotheses are met. -/
theorem wit_CanSending10 :
    ∃ (s u : State), s.toWrite 0 0x42 (Reg.CANn_TX_PUSH 1) 3 = u ∧ u.opens 0x42 true (Reg.CANn_TX_PUSH 1) = true ∧ (u.can 1).urgent.isSome = true :=
  ⟨{ sending [] [] with cans := [(1, { urgent := some (ent 0) })] }, _, rfl, by decide +kernel, by decide +kernel⟩

/-- Statement CanSending: its hypotheses are met. -/
theorem wit_CanSending11 :
    ∃ (s u : State), s.toWrite 0 0x42 (Reg.CANn_TX_PUSH 1) 1 = u ∧ u.opens 0x42 true (Reg.CANn_TX_PUSH 1) = true ∧ (u.can 1).fifo.length < 32 ∧ ((u.reg (Reg.CANn_TX_ID 1)).bit 30 && (u.reg (Reg.CANn_TX_CTL 1)).bit 4 || (u.reg (Reg.CANn_TX_CTL 1)).bit 5 && !(u.reg (Reg.CANn_TX_CTL 1)).bit 4 || decide (8 < (u.reg (Reg.CANn_TX_CTL 1)).fld 3 0) && !(u.reg (Reg.CANn_TX_CTL 1)).bit 4) = true :=
  ⟨running.setReg (Reg.CANn_TX_CTL 1) 9, _, rfl, by decide +kernel, by decide +kernel, by decide +kernel⟩

/-- Statement CanSending: its hypotheses are met. -/
theorem wit_CanSending12 :
    ∃ (s u : State) (e : CanEntry), s.clock 0 [⟨.canSent, 1, 0⟩] = u ∧ u.canOffered 1 false = some e ∧ u.canBegan 1 false 0 = true :=
  ⟨sending [ent 1] [], _, ent 1, rfl, by decide +kernel, by decide +kernel⟩

/-- Statement CanSending: its hypotheses are met. -/
theorem wit_CanSending13 :
    ∃ (s u : State), s.clock 0 [⟨.canSent, 1, 0⟩] = u ∧ u.canOffered 1 true = none :=
  ⟨sending [ent 1] [], _, rfl, by decide +kernel⟩

/-- Statement CanSending: its hypotheses are met. -/
theorem wit_CanSending14 :
    ∃ (s : State), (s.can 1).events.length < 16 ∧ (s.can 1).events ≠ [] :=
  ⟨sending [ent 2] [⟨1, 1, false, 0⟩], by decide, by decide⟩

/-- Statement CanSending: its hypotheses are met. -/
theorem wit_CanSending15 :
    ∃ (s u : State) (e : CanEntry), s.clock 0 [⟨.collision, 1, 0⟩] = u ∧ u.canOffered 1 false = some e ∧ e.hits ≠ 2 :=
  ⟨sending [ent 1] [], _, ent 1, rfl, by decide +kernel, by decide⟩

/-- Statement CanSending: its hypotheses are met. -/
theorem wit_CanSending16 :
    ∃ (s u : State) (e : CanEntry), s.clock 0 [⟨.collision, 1, 0⟩] = u ∧ u.canOffered 1 false = some e ∧ e.hits = 2 :=
  ⟨sending [ent 2] [], _, ent 2, rfl, by decide +kernel, by decide⟩

/-- Statement CanSending: its hypotheses are met. -/
theorem wit_CanSending17 :
    ∃ (s u : State), s.clock 0 [⟨.collision, 1, 0⟩] = u ∧ u.canOffered 1 true = none :=
  ⟨sending [ent 1] [], _, rfl, by decide +kernel⟩

/-- Statement CanSending: its hypotheses are met. -/
theorem wit_CanSending18 :
    ∃ (s u : State), s.toWrite 0 0x42 (Reg.CANn_CMD 1) 1 = u ∧ u.opens 0x42 true (Reg.CANn_CMD 1) = true ∧ (u.can 1).heldHead = some (false, ent 3) :=
  ⟨sending [ent 3] [], _, rfl, by decide +kernel, by decide +kernel⟩

/-- Statement CanSending: its hypotheses are met. -/
theorem wit_CanSending19 :
    ∃ (s u : State), s.toWrite 0 0x42 (Reg.CANn_CMD 1) 1 = u ∧ u.opens 0x42 true (Reg.CANn_CMD 1) = true ∧ (u.can 1).heldHead = none :=
  ⟨sending [ent 1] [], _, rfl, by decide +kernel, by decide +kernel⟩

/-- Statement CanSending: its hypotheses are met. -/
theorem wit_CanSending20 :
    ∃ (s u : State), s.toWrite 0 0x42 (Reg.CANn_CMD 1) 8 = u ∧ u.opens 0x42 true (Reg.CANn_CMD 1) = true ∧ u.canBus 1 = 2 :=
  ⟨running.setReg (Reg.CANn_STS 1) 2, _, rfl, by decide +kernel, by decide +kernel⟩

/-- Statement CanSending: its hypotheses are met. -/
theorem wit_CanSending21 :
    ∃ (s u : State), s.toWrite 0 0x42 (Reg.CANn_CMD 1) 8 = u ∧ u.opens 0x42 true (Reg.CANn_CMD 1) = true ∧ u.canBus 1 ≠ 2 :=
  ⟨running, _, rfl, by decide +kernel, by decide +kernel⟩

/-- Statement CanSending: its hypotheses are met. -/
theorem wit_CanSending22 :
    ∃ (s u : State), s.toWrite 0 0x42 (Reg.CANn_CMD 1) 4 = u ∧ u.opens 0x42 true (Reg.CANn_CMD 1) = true ∧ u.canTx 1 false = false :=
  ⟨running, _, rfl, by decide +kernel, by simp [State.canTx]; exact fun h => absurd h (by decide +kernel)⟩

/-- Statement CanSending: its hypotheses are met. -/
theorem wit_CanSending23 :
    ∃ (s u : State), s.toWrite 0 0x42 (Reg.CANn_TXE_POP 1) 1 = u ∧ u.opens 0x42 true (Reg.CANn_TXE_POP 1) = true :=
  ⟨running, _, rfl, by decide +kernel⟩

/-- Statement CanSending: its hypotheses are met. -/
theorem wit_CanSending24 :
    ∃ (s u : State), s.toWrite 0 0x42 (Reg.CANn_TSC_CAP 1) 1 = u ∧ u.opens 0x42 true (Reg.CANn_TSC_CAP 1) = true :=
  ⟨running, _, rfl, by decide +kernel⟩

/-- Statement CanReceiving: its hypotheses are met. -/
theorem wit_CanReceiving1 :
    ∃ (s u : State) (v : State), s.clock 0 ((((s.advance 0).rxObj 1 ((5 : Word).fld 29 0)).toList.map (fun k => ⟨.canRx, 1, k⟩))) = u ∧ u.canOn 1 = true ∧ (0 : Word).bit 4 = false ∧ u.canRec 1 < 128 ∧ ({ u with free := u.free + 1 } : State).setCounts 1 (u.regF (Reg.CANn_ERR 1) 7 0) (u.canRec 1 - 1) = v ∧ v.rxObj 1 ((5 : Word).fld 29 0) = none :=
  ⟨sending [] [], _, _, rfl, by decide +kernel, by decide, by decide +kernel, rfl, by decide +kernel⟩

/-- Statement CanReceiving: its hypotheses are met. -/
theorem wit_CanReceiving2 :
    ∃ (s u : State) (v w : State), s.clock 0 ((((s.advance 0).rxObj 1 ((5 : Word).fld 29 0)).toList.map (fun k => ⟨.canRx, 1, k⟩))) = u ∧ u.canOn 1 = true ∧ (0 : Word).bit 4 = false ∧ u.canRec 1 < 128 ∧ ({ u with free := u.free + 1 } : State).setCounts 1 (u.regF (Reg.CANn_ERR 1) 7 0) (u.canRec 1 - 1) = v ∧ v.rxObj 1 ((5 : Word).fld 29 0) = some 63 ∧ (0 : Word).bit 7 = false ∧ (sget {} (v.can 1).objs 63).fresh = false ∧ v.setCan 1 { v.can 1 with objs := sput {} (v.can 1).objs 63 { info := (0 : Word) &&& 0xFF, id := w32 ((5 : Word).fld 29 0), ts := w32 (v.sclk / 10 - 0), data := canWords [] (canLen ((0 : Word).bit 4) ((0 : Word).fld 3 0)), fresh := true, lost := (sget {} (v.can 1).objs 63).lost } } = w ∧ w.regB (Reg.CANn_OBJk_CFG 1 63) 1 = false :=
  ⟨((sending [] []).setReg (Reg.CANn_OBJk_CFG 1 63) 1).setReg (Reg.CANn_OBJk_ID 1 63) 5, _, _, _, rfl, by decide +kernel, by decide, by decide +kernel, rfl, by decide +kernel, by decide, by decide +kernel, rfl, by decide +kernel⟩

/-- Statement CanReceiving: its hypotheses are met. -/
theorem wit_CanReceiving3 :
    ∃ (s u : State) (v w x : State), s.clock 0 ((((s.advance 0).rxObj 1 ((5 : Word).fld 29 0)).toList.map (fun k => ⟨.canRx, 1, k⟩))) = u ∧ u.canOn 1 = true ∧ (0 : Word).bit 4 = false ∧ u.canRec 1 < 128 ∧ ({ u with free := u.free + 1 } : State).setCounts 1 (u.regF (Reg.CANn_ERR 1) 7 0) (u.canRec 1 - 1) = v ∧ v.rxObj 1 ((5 : Word).fld 29 0) = some 0 ∧ (0 : Word).bit 7 = false ∧ (sget {} (v.can 1).objs 0).fresh = true ∧ v.setCan 1 { v.can 1 with objs := sput {} (v.can 1).objs 0 { info := (0 : Word) &&& 0xFF, id := w32 ((5 : Word).fld 29 0), ts := w32 (v.sclk / 10 - 0), data := canWords [] (canLen ((0 : Word).bit 4) ((0 : Word).fld 3 0)), fresh := true, lost := true } } = w ∧ (w.count (Reg.CANn_RX_LOSTCNT 1)).raiseBit (31 + 1) 1 = x ∧ x.regB (Reg.CANn_OBJk_CFG 1 0) 1 = true :=
  ⟨{ ((sending [] []).setReg (Reg.CANn_OBJk_CFG 1 0) 3).setReg (Reg.CANn_OBJk_ID 1 0) 5 with cans := [(1, { objs := [(0, { fresh := true })] })] }, _, _, _, _, rfl, by decide +kernel, by decide, by decide +kernel, rfl, by decide +kernel, by decide, by decide +kernel, rfl, rfl, by decide +kernel⟩

/-- Statement CanReceiving: its hypotheses are met. -/
theorem wit_CanReceiving4 :
    ∃ (s u : State), s.clock 0 ((((s.advance 0).rxObj 1 ((5 : Word).fld 29 0)).toList.map (fun k => ⟨.canRx, 1, k⟩))) = u ∧ u.canOn 1 = false :=
  ⟨running, _, rfl, by decide +kernel⟩

/-- Statement CanReceiving: its hypotheses are met. -/
theorem wit_CanReceiving5 :
    ∃ (s u : State), s.toWrite 0 0x42 (Reg.CANn_RX_SEL 1) 63 = u ∧ u.opens 0x42 true (Reg.CANn_RX_SEL 1) = true ∧ (63 : Word).toNat < 64 ∧ (63 : Word).toNat = 63 :=
  ⟨running, _, rfl, by decide +kernel, by decide, by decide⟩

/-- Statement CanReceiving: its hypotheses are met. -/
theorem wit_CanReceiving6 :
    ∃ (s u : State), s.advance 0 = u ∧ u.hasCan 1 = true ∧ u.canMode 1 ≠ 0 ∧ u.canBus 1 < 2 :=
  ⟨sending [] [], _, rfl, by decide, by decide, by decide⟩

/-- Statement CanReceiving: its hypotheses are met. -/
theorem wit_CanReceiving7 :
    ∃ (s u : State), s.advance 0 = u ∧ 2 ≤ u.canBus 1 :=
  ⟨running.setReg (Reg.CANn_STS 1) 3, _, rfl, by decide⟩

/-- Statement CanReceiving: its hypotheses are met. -/
theorem wit_CanReceiving8 :
    ∃ (s u : State), s.advance 0 = u ∧ u.hasCan 1 = true ∧ u.canBus 1 = 3 :=
  ⟨running.setReg (Reg.CANn_STS 1) 3, _, rfl, by decide, by decide⟩

/-- Statement CanReceiving: its hypotheses are met. -/
theorem wit_CanReceiving9 :
    ∃ (s u : State), s.advance 0 = u ∧ u.canBus 1 ≠ 3 :=
  ⟨running, _, rfl, by decide⟩

/-- Statement CanReceiving: its hypotheses are met. -/
theorem wit_CanReceiving10 :
    ∃ (s u : State), s.advance 0 = u ∧ u.canOn 1 = true :=
  ⟨sending [] [], _, rfl, by decide +kernel⟩

/-- Statement CanReceiving: its hypotheses are met. -/
theorem wit_CanReceiving11 :
    ∃ (s u : State), s.advance 0 = u ∧ u.canOn 1 = false :=
  ⟨running, _, rfl, by decide +kernel⟩

/-- Statement MemoryAccesses: its hypotheses are met. -/
theorem wit_MemoryAccesses1 :
    ∃ (s u : State), s.clock 0 (memEvs 1 false sramBase 256) = u ∧ u.issues 1 = true ∧ goodSpan sramBase 256 = true ∧ u.memViolation 1 false sramBase 256 = none ∧ ∀ w ∈ spanWords sramBase 256, u.eccAt w = 0 :=
  ⟨owned 1, _, rfl, by decide +kernel, by decide, by decide +kernel, by decide +kernel⟩

/-- Statement MemoryAccesses: its hypotheses are met. -/
theorem wit_MemoryAccesses2 :
    ∃ (s u v : State), s.clock 0 (memEvs 1 true (sramBase + 8) 8) = u ∧ u.issues 1 = true ∧ (sramBase + 8) % 8 = 0 ∧ u.memViolation 1 true (sramBase + 8) 8 = none ∧ u.wakeFor (sramBase + 8) = u ∧ ({ u with mem := u.mem.setBytes (sramBase + 8) (List.replicate 8 7) } : State).setEcc (sramBase + 8) 0 = v :=
  ⟨owned 1, _, _, rfl, by decide +kernel, by decide, by decide +kernel, if_neg (by decide +kernel), rfl⟩

/-- Statement MemoryAccesses: its hypotheses are met. -/
theorem wit_MemoryAccesses3 :
    ∃ (s u : State), s.clock 0 (memEvs 1 true (sramBase + 12) 4) = u ∧ u.issues 1 = true ∧ (sramBase + 12) / 8 = (sramBase + 12 + 4 - 1) / 8 ∧ u.memViolation 1 true (sramBase + 12) 4 = none ∧ u.wakeFor (sramBase + 12) = u ∧ u.eccAt ((sramBase + 12) / 8 * 8) = 0 :=
  ⟨owned 1, _, rfl, by decide +kernel, by decide, by decide +kernel, if_neg (by decide +kernel), by decide +kernel⟩

/-- Statement MemoryAccesses: its hypotheses are met. -/
theorem wit_MemoryAccesses4 :
    ∃ (s u : State), s.clock 0 (memEvs 1 false (sramBase + 1) 2) = u ∧ u.issues 1 = true ∧ goodSpan (sramBase + 1) 2 = true ∧ u.memViolation 1 false (sramBase + 1) 2 = none ∧ 2 ≤ u.eccAt ((sramBase + 1) / 8 * 8) :=
  ⟨(owned 1).setEcc sramBase 2, _, rfl, by decide +kernel, by decide, by decide +kernel, by decide +kernel⟩

/-- Statement MemoryAccesses: its hypotheses are met. -/
theorem wit_MemoryAccesses5 :
    ∃ (s u : State), s.clock 0 (memEvs 0x42 true sramBase 4) = u ∧ u.issues 0x42 = true ∧ u.memViolation 0x42 true sramBase 4 = some (2, sramBase) ∧ (true && decide (2 ≠ 1) && u.posted 0x42 sramBase 4) = true :=
  ⟨owned 1, _, rfl, by decide +kernel, by decide +kernel, by decide +kernel⟩

/-- Statement MemoryAccesses: its hypotheses are met. -/
theorem wit_MemoryAccesses6 :
    ∃ (s u : State), s.clock 0 (memEvs 0x42 false sramBase 4) = u ∧ u.issues 0x42 = true ∧ u.memViolation 0x42 false sramBase 4 = some (2, sramBase) :=
  ⟨owned 1, _, rfl, by decide +kernel, by decide +kernel⟩

/-- Statement MemoryAccesses: its hypotheses are met. -/
theorem wit_MemoryAccesses7 :
    ∃ (s u : State), s.clock 0 ((memEvs 1 true sramBase 3)) = u ∧ u.issues 1 = true ∧ goodSpan sramBase 3 = false ∧ u.memViolation 1 true sramBase 3 = none :=
  ⟨owned 1, _, rfl, by decide +kernel, by decide, by decide +kernel⟩

/-- Statement MemoryAccesses: its hypotheses are met. -/
theorem wit_MemoryAccesses8 :
    ∃ (s u : State), s.clock 0 ((memEvs 0x99 true sramBase 4)) = u ∧ u.issues 0x99 = false :=
  ⟨running, _, rfl, by decide +kernel⟩

/-- Statement MemoryAccesses: its hypotheses are met. -/
theorem wit_MemoryAccesses9 :
    ∃ (s u : State), s.advance 0 = u ∧ u.mem.notices = [] :=
  ⟨running, _, rfl, by decide⟩

/-- Statement MemoryAccesses: its hypotheses are met. -/
theorem wit_MemoryAccesses10 :
    ∃ (s u : State) (x : Notice), s.advance 0 = u ∧ u.mem.notices = x :: [] :=
  ⟨{ running with mem := { notices := [⟨0x42, 2, sramBase, 2⟩] } }, _, ⟨0x42, 2, sramBase, 2⟩, rfl, by decide⟩

/-- Statement MemoryAccesses: its hypotheses are met. -/
theorem wit_MemoryAccesses11 :
    ∃ (s u : State), s.toRead 0 1 Reg.MPU_SYNC = u ∧ u.opens 1 false Reg.MPU_SYNC = true ∧ u.flipsAt Reg.MPU_SYNC = (0, 0, 0) ∧ u.mem.notices = [] :=
  ⟨running, _, rfl, by decide +kernel, by decide, by decide⟩

/-- Statement BanksAndLocks: its hypotheses are met. -/
theorem wit_BanksAndLocks1 :
    ∃ (s u : State), s.toWrite 0 0x42 (Reg.BNK_OWN 23) 0x42 = u ∧ u.opens 0x42 true (Reg.BNK_OWN 23) = true ∧ (0x42 : Word).toNat < 256 ∧ u.mem.notices = [] ∧ u.bankState 23 ≠ 3 ∧ u.owner 23 = 0 ∧ (0x42 : Word).fld 7 0 = 0x42 ∧ u.goodOwner ((0x42 : Word).fld 7 0) = true :=
  ⟨running, _, rfl, by decide +kernel, by decide, by decide, by decide, by decide, by decide, by decide +kernel⟩

/-- Statement BanksAndLocks: its hypotheses are met. -/
theorem wit_BanksAndLocks2 :
    ∃ (s u : State), s.toWrite 0 1 (Reg.BNK_OWN 23) 0x99 = u ∧ u.opens 1 true (Reg.BNK_OWN 23) = true ∧ (0x99 : Word).toNat < 256 ∧ u.bankState 23 ≠ 3 ∧ u.goodOwner ((0x99 : Word).fld 7 0) = false :=
  ⟨running, _, rfl, by decide +kernel, by decide, by decide, by decide +kernel⟩

/-- Statement BanksAndLocks: its hypotheses are met. -/
theorem wit_BanksAndLocks3 :
    ∃ (s u : State), s.toWrite 0 0x42 (Reg.BNK_OWN 0) 0x42 = u ∧ u.opens 0x42 true (Reg.BNK_OWN 0) = true ∧ u.owner 0 ≠ 0x42 ∧ u.owner 0 ≠ 0 :=
  ⟨owned 1, _, rfl, by decide +kernel, by decide, by decide⟩

/-- Statement BanksAndLocks: its hypotheses are met. -/
theorem wit_BanksAndLocks4 :
    ∃ (s u : State), s.toWrite 0 0x40 (Reg.BNK_OWN 0) 0x42 = u ∧ u.opens 0x40 true (Reg.BNK_OWN 0) = true ∧ u.bankState 0 = 3 :=
  ⟨running.setReg (Reg.BNK_BSTS 0) 3, _, rfl, by decide +kernel, by decide⟩

/-- Statement BanksAndLocks: its hypotheses are met. -/
theorem wit_BanksAndLocks5 :
    ∃ (s u : State), s.toWrite 0 1 (Reg.BNK_CTL 23) 7 = u ∧ u.opens 1 true (Reg.BNK_CTL 23) = true ∧ u.bankState 23 ≠ 3 :=
  ⟨running, _, rfl, by decide +kernel, by decide⟩

/-- Statement BanksAndLocks: its hypotheses are met. -/
theorem wit_BanksAndLocks6 :
    ∃ (s u : State), s.toWrite 0 0x42 (Reg.BNK_CTL 0) 6 = u ∧ u.opens 0x42 true (Reg.BNK_CTL 0) = true ∧ (u.owner 0 = 0x42 ∧ 0x42 ≠ 0) ∧ u.bankState 0 = 1 :=
  ⟨(owned 0x42).setReg (Reg.BNK_BSTS 0) 1, _, rfl, by decide +kernel, by decide, by decide⟩

/-- Statement BanksAndLocks: its hypotheses are met. -/
theorem wit_BanksAndLocks7 :
    ∃ (s u : State), s.advance 0 = u ∧ u.bankState 23 = 2 ∧ sget none u.mem.wake 23 = some 0 ∧ 0 ≤ u.sclk :=
  ⟨{ running.setReg (Reg.BNK_BSTS 23) 2 with mem := { wake := [(23, some 0)] } }, _, rfl, by decide, by decide, by decide⟩

/-- Statement BanksAndLocks: its hypotheses are met. -/
theorem wit_BanksAndLocks8 :
    ∃ (s u : State), s.advance 0 = u ∧ u.bankState 23 ≠ 2 :=
  ⟨running, _, rfl, by decide⟩

/-- Statement BanksAndLocks: its hypotheses are met. -/
theorem wit_BanksAndLocks9 :
    ∃ (s u : State) (v : State), s.clock 0 [⟨.scrub, sramBase + 23 % 24 * 2 ^ 21 + 8 * sget 0 s.mem.scrub (23 % 24), 23 % 24⟩] = u ∧ u.strike [] = v ∧ v.bankState 23 = 0 ∧ v.regB (Reg.BNK_CTL 23) 2 = true ∧ v.domainOn 7 = true ∧ sget 0 v.mem.scrub 23 = 262142 ∧ 262142 + 1 < 262144 :=
  ⟨{ running with mem := { scrub := [(23, 262142)] } }, _, _, rfl, rfl, by decide, by decide, by decide, by decide, by decide⟩

/-- Statement BanksAndLocks: its hypotheses are met. -/
theorem wit_BanksAndLocks10 :
    ∃ (s u : State) (v : State), s.clock 0 [⟨.scrub, sramBase + 23 % 24 * 2 ^ 21 + 8 * sget 0 s.mem.scrub (23 % 24), 23 % 24⟩] = u ∧ u.strike [] = v ∧ v.bankState 23 = 0 ∧ v.regB (Reg.BNK_CTL 23) 2 = true ∧ v.domainOn 7 = true ∧ sget 0 v.mem.scrub 23 = 262143 :=
  ⟨{ running with mem := { scrub := [(23, 262143)] } }, _, _, rfl, rfl, by decide, by decide, by decide, by decide⟩

/-- Statement BanksAndLocks: its hypotheses are met. -/
theorem wit_BanksAndLocks11 :
    ∃ (s u : State) (v : State), s.clock 0 [⟨.scrub, sramBase + 23 % 24 * 2 ^ 21 + 8 * sget 0 s.mem.scrub (23 % 24), 23 % 24⟩] = u ∧ u.strike [] = v ∧ v.bankState 23 ≠ 0 :=
  ⟨running.setReg (Reg.BNK_BSTS 23) 2, _, _, rfl, rfl, by decide⟩

/-- Statement BanksAndLocks: its hypotheses are met. -/
theorem wit_BanksAndLocks12 :
    ∃ (s : State), s.regB (Reg.BNK_BSTS 23) 2 = true ∧ s.regF (Reg.BNK_FIND 23) 10 0 = 2047 :=
  ⟨(running.setReg (Reg.BNK_BSTS 23) 4).setReg (Reg.BNK_FIND 23) 2047, by decide, by decide⟩

/-- Statement BanksAndLocks: its hypotheses are met. -/
theorem wit_BanksAndLocks13 :
    ∃ (s u : State) (w : State), s.clock 0 [⟨.bankTest, 23 % 24, 0⟩] = u ∧ u.bankState 23 = 0 ∧ u.regB (Reg.BNK_CTL 23) 1 = true ∧ u.domainOn 7 = true ∧ u.regF (Reg.BNK_BGT 23) 14 0 = 32766 ∧ u.readRegion (sramBase + 23 * 2 ^ 21 + 64 * 32766) = w ∧ 32766 < 32767 :=
  ⟨running.setReg (Reg.BNK_BGT 23) 32766, _, _, rfl, by decide, by decide, by decide, by decide, rfl, by decide⟩

/-- Statement BanksAndLocks: its hypotheses are met. -/
theorem wit_BanksAndLocks14 :
    ∃ (s u : State) (w : State), s.clock 0 [⟨.bankTest, 23 % 24, 0⟩] = u ∧ u.bankState 23 = 0 ∧ u.regB (Reg.BNK_CTL 23) 1 = true ∧ u.domainOn 7 = true ∧ u.regF (Reg.BNK_BGT 23) 14 0 = 32767 ∧ u.readRegion (sramBase + 23 * 2 ^ 21 + 64 * 32767) = w :=
  ⟨running.setReg (Reg.BNK_BGT 23) 32767, _, _, rfl, by decide, by decide, by decide, by decide, rfl⟩

/-- Statement BanksAndLocks: its hypotheses are met. -/
theorem wit_BanksAndLocks15 :
    ∃ (s u : State), s.clock 0 [⟨.bankTest, 23 % 24, 0⟩] = u ∧ u.bankState 23 ≠ 0 :=
  ⟨running.setReg (Reg.BNK_BSTS 23) 2, _, rfl, by decide⟩

/-- Statement BanksAndLocks: its hypotheses are met. -/
theorem wit_BanksAndLocks16 :
    ∃ (s u : State) (v : State), s.advance 0 = u ∧ u.strike [] = v ∧ v.regB Reg.BNK_LPD_STS 1 = true ∧ v.domainOn 8 = true ∧ (∀ k < 8, v.eccAt (lpdBase + v.mem.patrol * 64 + k * 8) = 0) :=
  ⟨running.setReg Reg.BNK_LPD_STS 2, _, _, rfl, rfl, by decide, by decide, by decide +kernel⟩

/-- Statement BanksAndLocks: its hypotheses are met. -/
theorem wit_BanksAndLocks17 :
    ∃ (s u : State) (v : State), s.advance 0 = u ∧ u.strike [] = v ∧ v.regB Reg.BNK_LPD_STS 1 = false :=
  ⟨running.setReg Reg.BNK_LPD_STS 0, _, _, rfl, rfl, by decide⟩

/-- Statement BanksAndLocks: its hypotheses are met. -/
theorem wit_BanksAndLocks18 :
    ∃ (s u : State), s.toRead 0 0x42 (Reg.LCK_i 63) = u ∧ u.opens 0x42 false (Reg.LCK_i 63) = true ∧ u.flipsAt (Reg.LCK_i 63) = (0, 0, 0) ∧ u.regF (Reg.LCK_i 63) 7 0 = 0 :=
  ⟨running, _, rfl, by decide +kernel, by decide, by decide⟩

/-- Statement BanksAndLocks: its hypotheses are met. -/
theorem wit_BanksAndLocks19 :
    ∃ (s u : State), s.toRead 0 0x42 (Reg.LCK_i 63) = u ∧ u.opens 0x42 false (Reg.LCK_i 63) = true ∧ u.flipsAt (Reg.LCK_i 63) = (0, 0, 0) ∧ u.regF (Reg.LCK_i 63) 7 0 = 0x42 :=
  ⟨running.setReg (Reg.LCK_i 63) 0x42, _, rfl, by decide +kernel, by decide, by decide⟩

/-- Statement BanksAndLocks: its hypotheses are met. -/
theorem wit_BanksAndLocks20 :
    ∃ (s u : State), s.toRead 0 1 (Reg.LCK_i 63) = u ∧ u.opens 1 false (Reg.LCK_i 63) = true ∧ u.flipsAt (Reg.LCK_i 63) = (0, 0, 0) ∧ u.regF (Reg.LCK_i 63) 7 0 = 0x42 :=
  ⟨running.setReg (Reg.LCK_i 63) 0x42, _, rfl, by decide +kernel, by decide, by decide⟩

/-- Statement BanksAndLocks: its hypotheses are met. -/
theorem wit_BanksAndLocks21 :
    ∃ (s u : State), s.toWrite 0 0x42 (Reg.LCK_i 63) 1 = u ∧ u.opens 0x42 true (Reg.LCK_i 63) = true ∧ u.regF (Reg.LCK_i 63) 7 0 = 0x42 :=
  ⟨running.setReg (Reg.LCK_i 63) 0x42, _, rfl, by decide +kernel, by decide⟩

/-- Statement BanksAndLocks: its hypotheses are met. -/
theorem wit_BanksAndLocks22 :
    ∃ (s u : State), s.toWrite 0 0x42 (Reg.LCK_i 63) 1 = u ∧ u.opens 0x42 true (Reg.LCK_i 63) = true ∧ u.regF (Reg.LCK_i 63) 7 0 ≠ 0x42 :=
  ⟨running.setReg (Reg.LCK_i 63) 1, _, rfl, by decide +kernel, by decide⟩

/-- Statement BanksAndLocks: its hypotheses are met. -/
theorem wit_BanksAndLocks23 :
    ∃ (s u : State), s.toWrite 0 1 (Reg.LCK_i 63) 2 = u ∧ u.opens 1 true (Reg.LCK_i 63) = true ∧ u.regF (Reg.LCK_i 63) 7 0 = 0x42 :=
  ⟨running.setReg (Reg.LCK_i 63) 0x42, _, rfl, by decide +kernel, by decide⟩

/-- Statement BanksAndLocks: its hypotheses are met. -/
theorem wit_BanksAndLocks24 :
    ∃ (s u : State), s.toWrite 0 0x42 (Reg.LCK_i 63) 2 = u ∧ u.opens 0x42 true (Reg.LCK_i 63) = true ∧ u.regF (Reg.LCK_i 63) 7 0 = 0x42 :=
  ⟨running.setReg (Reg.LCK_i 63) 0x42, _, rfl, by decide +kernel, by decide⟩

/-- Statement WritesChangeOnlyTheirBytes: its hypotheses are met. -/
theorem wit_WritesChangeOnlyTheirBytes1 :
    ∃ (s t u : State), s.clock 0 (memEvs 1 true (sramBase + 5) 4) = u ∧ goodSpan (sramBase + 5) 4 = true ∧ exec (.sramAccess 0 1 true (sramBase + 5) 4 [1, 2, 3, 4] []) s = .next t :=
  ⟨owned 1, _, _, rfl, by decide, rfl⟩

/-- Statement WritesChangeOnlyTheirBytes: its hypotheses are met. -/
theorem wit_WritesChangeOnlyTheirBytes2 :
    ∃ (s u : State) (data : List Byte), s.clock 0 (memEvs 1 true (sramBase + 5) 4) = u ∧ u.issues 1 = true ∧ goodSpan (sramBase + 5) 4 = true ∧ u.memViolation 1 true (sramBase + 5) 4 = none ∧ data.length = 4 ∧ (∀ w ∈ spanWords (sramBase + 5) 4, u.eccAt w < 2) :=
  ⟨owned 1, _, [1, 2, 3, 4], rfl, by decide +kernel, by decide, by decide +kernel, by decide, by decide +kernel⟩

/-- Statement RecorderAndUpdate: its hypotheses are met. -/
theorem wit_RecorderAndUpdate1 :
    ∃ (s u : State), s.advance 0 = u ∧ u.mram.waiting = [] :=
  ⟨running, _, rfl, by decide⟩

/-- Statement RecorderAndUpdate: its hypotheses are met. -/
theorem wit_RecorderAndUpdate2 :
    ∃ (s u : State) (r : Retired), s.advance 0 = u ∧ u.mram.waiting = r :: [] :=
  ⟨{ running with mram := { waiting := [.bank 3] } }, _, .bank 3, rfl, by decide⟩

/-- Statement RecorderAndUpdate: its hypotheses are met. -/
theorem wit_RecorderAndUpdate3 :
    ∃ (s u : State), s.clock 0 [⟨.periodEnd, 0, 0⟩] = u ∧ u.recd.began = some 0 ∧ u.regF Reg.REC_PERIOD 10 0 ≠ 0 ∧ 0 + u.regF Reg.REC_PERIOD 10 0 * minuteClk ≤ u.sclk :=
  ⟨{ running with recd := { began := some 0 }, sclk := 60 * minuteClk }, _, rfl, by decide, by decide, by decide⟩

/-- Statement RecorderAndUpdate: its hypotheses are met. -/
theorem wit_RecorderAndUpdate4 :
    ∃ (s u : State), s.clock 0 [⟨.periodEnd, 0, 0⟩] = u ∧ u.recd.began = none :=
  ⟨running, _, rfl, by decide⟩

/-- Statement RecorderAndUpdate: its hypotheses are met. -/
theorem wit_RecorderAndUpdate5 :
    ∃ (s u : State), s.clock 0 [⟨.periodEnd, 0, 0⟩] = u ∧ u.recd.began = some 0 ∧ u.sclk < 0 + u.regF Reg.REC_PERIOD 10 0 * minuteClk :=
  ⟨{ running with recd := { began := some 0 } }, _, rfl, by decide, by decide⟩

/-- Statement RecorderAndUpdate: its hypotheses are met. -/
theorem wit_RecorderAndUpdate6 :
    ∃ (s s' : State), s.recd.began = some 0 ∧ s.recd.todo = [] ∧ s'.recd.began = some 0 ∧ s'.recd.todo ≠ [] :=
  ⟨{ running with recd := { began := some 0 } }, { running with recd := { began := some 0, todo := [⟨2, 0, 0, []⟩] } }, by decide, by decide, by decide, by decide⟩

/-- Statement RecorderAndUpdate: its hypotheses are met. -/
theorem wit_RecorderAndUpdate7 :
    ∃ (s u : State), s.toWrite 0 0x42 Reg.REC_SEL 0x100 = u ∧ u.opens 0x42 true Reg.REC_SEL = true ∧ (0x100 : Word).toNat < 4096 ∧ u.slotWords ((0x100 : Word).fld 11 11) ((0x100 : Word).fld 10 0) = none :=
  ⟨running, _, rfl, by decide +kernel, by decide, by decide⟩

/-- Statement RecorderAndUpdate: its hypotheses are met. -/
theorem wit_RecorderAndUpdate8 :
    ∃ (s u : State) (l : List Word), s.toWrite 0 0x42 Reg.REC_SEL 0xFFF = u ∧ u.opens 0x42 true Reg.REC_SEL = true ∧ (0xFFF : Word).toNat < 4096 ∧ u.slotWords ((0xFFF : Word).fld 11 11) ((0xFFF : Word).fld 10 0) = some l :=
  ⟨{ running with recd := { slots := [(2303, some [7])] } }, _, [7], rfl, by decide +kernel, by decide, by decide⟩

/-- Statement RecorderAndUpdate: its hypotheses are met. -/
theorem wit_RecorderAndUpdate9 :
    ∃ (s u : State), s.clock 0 [⟨.updOpen, 1, 0⟩] = u ∧ u.svcTakes 0 0x88B5 = true ∧ u.regB Reg.UPD_CTL 0 = true ∧ u.slotBusy 1 = false ∧ (∀ x, u.upd.session = some x → x.mac = 5) ∧ imgMax ≤ imgMax ∧ imgMax % 4096 = 0 :=
  ⟨updating none, _, rfl, by decide, by decide, by decide, (fun x h => nomatch (show none = some x from h)), by decide, by decide⟩

/-- Statement RecorderAndUpdate: its hypotheses are met. -/
theorem wit_RecorderAndUpdate10 :
    ∃ (s u : State), s.clock 0 [⟨.updOpen, 1, 0⟩] = u ∧ u.svcTakes 0 0x88B5 = true ∧ u.regB Reg.UPD_CTL 0 = false :=
  ⟨booted1.setReg Reg.UPD_CTL 0, _, rfl, by decide, by decide⟩

/-- Statement RecorderAndUpdate: its hypotheses are met. -/
theorem wit_RecorderAndUpdate11 :
    ∃ (s u : State), s.clock 0 [⟨.updOpen, 0, 0⟩] = u ∧ u.svcTakes 0 0x88B5 = true ∧ u.regB Reg.UPD_CTL 0 = true ∧ u.slotBusy 0 = true :=
  ⟨updating none, _, rfl, by decide, by decide, by decide⟩

/-- Statement RecorderAndUpdate: its hypotheses are met. -/
theorem wit_RecorderAndUpdate12 :
    ∃ (s u : State), s.clock 0 [⟨.updOpen, 1, 0⟩] = u ∧ u.svcTakes 0 0x88B5 = true ∧ u.regB Reg.UPD_CTL 0 = true ∧ u.slotBusy 1 = false ∧ u.upd.session = none ∧ 1 % 4096 ≠ 0 :=
  ⟨updating none, _, rfl, by decide, by decide, by decide, by decide, by decide⟩

/-- Statement RecorderAndUpdate: its hypotheses are met. -/
theorem wit_RecorderAndUpdate13 :
    ∃ (s u : State), s.clock 0 [⟨.updOpen, 1, 0⟩] = u ∧ u.svcTakes 1 0x88B5 = false :=
  ⟨updating none, _, rfl, by decide⟩

/-- Statement RecorderAndUpdate: its hypotheses are met. -/
theorem wit_RecorderAndUpdate14 :
    ∃ (s u : State) (x : XferSession), s.advance 0 = u ∧ u.upd.session = some x ∧ x.erasing = true :=
  ⟨updating (some { slot := 1, mac := 5, len := 4096, crc := 0, tag := 0, last := 0 }), _, { slot := 1, mac := 5, len := 4096, crc := 0, tag := 0, last := 0 }, rfl, by decide, by decide⟩

/-- Statement RecorderAndUpdate: its hypotheses are met. -/
theorem wit_RecorderAndUpdate15 :
    ∃ (s u : State), s.advance 0 = u ∧ (∀ x, u.upd.session = some x → x.erasing = false) :=
  ⟨updating none, _, rfl, (fun x h => nomatch (show none = some x from h))⟩

/-- Statement RecorderAndUpdate: its hypotheses are met. -/
theorem wit_RecorderAndUpdate16 :
    ∃ (s u : State), s.clock 0 [⟨.blockDone, 1, 0⟩] = u ∧ u.svcTakes 0 0x88B5 = true ∧ u.regB Reg.UPD_CTL 0 = false :=
  ⟨booted1.setReg Reg.UPD_CTL 0, _, rfl, by decide, by decide⟩

/-- Statement RecorderAndUpdate: its hypotheses are met. -/
theorem wit_RecorderAndUpdate17 :
    ∃ (s u : State), s.clock 0 [⟨.blockDone, 1, 0⟩] = u ∧ u.svcTakes 0 0x88B5 = true ∧ u.regB Reg.UPD_CTL 0 = true ∧ u.sessionOf 1 5 = none :=
  ⟨updating none, _, rfl, by decide, by decide, by decide⟩

/-- Statement RecorderAndUpdate: its hypotheses are met. -/
theorem wit_RecorderAndUpdate18 :
    ∃ (s u : State) (x : XferSession), s.clock 0 [⟨.blockDone, 1, 0⟩] = u ∧ u.svcTakes 0 0x88B5 = true ∧ u.regB Reg.UPD_CTL 0 = true ∧ u.sessionOf 1 5 = some x ∧ x.len / 4096 ≤ 1 :=
  ⟨updating (some { slot := 1, mac := 5, len := 4096, crc := 0, tag := 0, last := 0 }), _, { slot := 1, mac := 5, len := 4096, crc := 0, tag := 0, last := 0 }, rfl, by decide, by decide, by decide, by decide⟩

/-- Statement RecorderAndUpdate: its hypotheses are met. -/
theorem wit_RecorderAndUpdate19 :
    ∃ (s u : State) (x : XferSession), s.clock 0 [⟨.blockDone, 1, 0⟩] = u ∧ u.svcTakes 0 0x88B5 = true ∧ u.regB Reg.UPD_CTL 0 = true ∧ u.sessionOf 1 5 = some x ∧ 0 < x.len / 4096 ∧ (List.replicate 1024 (0 : Byte)).length = 1024 ∧ x.parts.find? (fun b => b.index = 0) = none ∧ x.parts.length < 16 :=
  ⟨updating (some { slot := 1, mac := 5, len := 4096, crc := 0, tag := 0, last := 0 }), _, { slot := 1, mac := 5, len := 4096, crc := 0, tag := 0, last := 0 }, rfl, by decide, by decide, by decide, by decide, List.length_replicate .., by decide, by decide⟩

/-- Statement RecorderAndUpdate: its hypotheses are met. -/
theorem wit_RecorderAndUpdate20 :
    ∃ (s u : State) (x : XferSession) (b : PartBlock), s.clock 0 [⟨.blockDone, 1, 0⟩] = u ∧ u.svcTakes 0 0x88B5 = true ∧ u.regB Reg.UPD_CTL 0 = true ∧ u.sessionOf 1 5 = some x ∧ 0 < x.len / 4096 ∧ (List.replicate 1024 (0 : Byte)).length = 1024 ∧ x.parts.find? (fun b => b.index = 0) = some b ∧ b.crc = 0 :=
  ⟨updating (some parted), _, parted, ⟨0, 0, [(0, []), (1, []), (2, [])]⟩, rfl, by decide, by decide, by decide, by decide, List.length_replicate .., by decide, by decide⟩

/-- Statement RecorderAndUpdate: its hypotheses are met. -/
theorem wit_RecorderAndUpdate21 :
    ∃ (s u : State) (x : XferSession), s.clock 0 [⟨.blockDone, 1, 0⟩] = u ∧ u.svcTakes 0 0x88B5 = true ∧ u.regB Reg.UPD_CTL 0 = true ∧ u.sessionOf 1 5 = some x ∧ 3 < 4 :=
  ⟨updating (some { slot := 1, mac := 5, len := 4096, crc := 0, tag := 0, last := 0 }), _, { slot := 1, mac := 5, len := 4096, crc := 0, tag := 0, last := 0 }, rfl, by decide, by decide, by decide, by decide⟩

/-- Statement RecorderAndUpdate: its hypotheses are met. -/
theorem wit_RecorderAndUpdate22 :
    ∃ (s u : State) (x : XferSession) (b : PartBlock), s.clock 0 [⟨.blockDone, 1, 0⟩] = u ∧ u.svcTakes 0 0x88B5 = true ∧ u.regB Reg.UPD_CTL 0 = true ∧ u.sessionOf 1 5 = some x ∧ 0 < x.len / 4096 ∧ (List.replicate 1024 (0 : Byte)).length = 1024 ∧ x.parts.find? (fun b => b.index = 0) = some b ∧ b.crc ≠ 7 :=
  ⟨updating (some parted), _, parted, ⟨0, 0, [(0, []), (1, []), (2, [])]⟩, rfl, by decide, by decide, by decide, by decide, List.length_replicate .., by decide, by decide⟩

/-- Statement RecorderAndUpdate: its hypotheses are met. -/
theorem wit_RecorderAndUpdate23 :
    ∃ (c : PartBlock), { (⟨0, 0, []⟩ : PartBlock) with parts := [(3, [])] } = c ∧ c.whole = none :=
  ⟨_, rfl, by decide⟩

/-- Statement RecorderAndUpdate: its hypotheses are met. -/
theorem wit_RecorderAndUpdate24 :
    ∃ (s v : State) (c : PartBlock) (data : List Byte), { (⟨0, 0, [(0, []), (1, []), (2, [])]⟩ : PartBlock) with parts := [(0, []), (1, []), (2, []), (3, [])] } = c ∧ c.whole = some data ∧ s.setSession (some { parted with parts := [] }) = v ∧ sget [] (v.slot 1).blocks 0 = [] ∧ crc32 (data.map (fun y => y.toNat)) = 0 :=
  ⟨updating (some parted), _, _, [], rfl, by decide, rfl, by decide, by decide⟩

/-- Statement RecorderAndUpdate: its hypotheses are met. -/
theorem wit_RecorderAndUpdate25 :
    ∃ (s v : State) (c : PartBlock) (data old : List Byte), { (⟨0, 0, [(0, []), (1, []), (2, [])]⟩ : PartBlock) with parts := [(0, []), (1, []), (2, []), (3, [])] } = c ∧ c.whole = some data ∧ s.setSession (some { parted with parts := [] }) = v ∧ sget [] (v.slot 1).blocks 0 = old ∧ old ≠ [] :=
  ⟨(updating (some parted)).setSlot 1 { blocks := [(0, [7])] }, _, _, [], [7], rfl, by decide, rfl, by decide, by decide⟩

/-- Statement RecorderAndUpdate: its hypotheses are met. -/
theorem wit_RecorderAndUpdate26 :
    ∃ (s u : State) (x : XferSession) (v : State), s.advance 0 = u ∧ u.svcTakes 0 0x88B5 = true ∧ u.regB Reg.UPD_CTL 0 = true ∧ u.sessionOf 1 5 = some x ∧ u.setSession (some { x with last := u.sclk }) = v ∧ v.firstMissing x = some 0 :=
  ⟨updating (some { slot := 1, mac := 5, len := 4096, crc := 0, tag := 0, last := 0 }), _, { slot := 1, mac := 5, len := 4096, crc := 0, tag := 0, last := 0 }, _, rfl, by decide, by decide, by decide, rfl, by decide⟩

/-- Statement RecorderAndUpdate: its hypotheses are met. -/
theorem wit_RecorderAndUpdate27 :
    ∃ (s u : State) (x : XferSession) (v : State), s.advance 0 = u ∧ u.svcTakes 0 0x88B5 = true ∧ u.regB Reg.UPD_CTL 0 = true ∧ u.sessionOf 1 5 = some x ∧ u.setSession (some { x with last := u.sclk }) = v ∧ v.firstMissing x = none ∧ v.suits (imgHdr (v.slot 1).bytes x.len) = false :=
  ⟨updating (some { slot := 1, mac := 5, len := 0, crc := 0, tag := 0, last := 0 }), _, { slot := 1, mac := 5, len := 0, crc := 0, tag := 0, last := 0 }, _, rfl, by decide, by decide, by decide, rfl, by decide, by decide +kernel⟩

/-- Statement RecorderAndUpdate: its hypotheses are met. -/
theorem wit_RecorderAndUpdate28 :
    ∃ (s u : State) (x : XferSession), s.advance 0 = u ∧ u.svcTakes 0 0x88B5 = true ∧ u.regB Reg.UPD_CTL 0 = true ∧ u.sessionOf 1 5 = some x :=
  ⟨updating (some { slot := 1, mac := 5, len := 4096, crc := 0, tag := 0, last := 0 }), _, { slot := 1, mac := 5, len := 4096, crc := 0, tag := 0, last := 0 }, rfl, by decide, by decide, by decide⟩

/-- Statement RecorderAndUpdate: its hypotheses are met. -/
theorem wit_RecorderAndUpdate29 :
    ∃ (s u : State), s.advance 0 = u ∧ u.svcTakes 0 0x88B5 = true ∧ u.regB Reg.UPD_CTL 0 = true ∧ u.sessionOf 1 5 = none :=
  ⟨updating none, _, rfl, by decide, by decide, by decide⟩

/-- Statement RecorderAndUpdate: its hypotheses are met. -/
theorem wit_RecorderAndUpdate30 :
    ∃ (s u : State) (x : XferSession), s.clock 0 ((s.advance 0).timeoutEvs) = u ∧ u.upd.session = some x ∧ x.last + 60000 * msClk ≤ u.sclk :=
  ⟨{ updating (some { slot := 1, mac := 5, len := 0, crc := 0, tag := 0, last := 0 }) with sclk := 60000 * msClk }, _, { slot := 1, mac := 5, len := 0, crc := 0, tag := 0, last := 0 }, rfl, by decide, by decide⟩

/-- Statement RecorderAndUpdate: its hypotheses are met. -/
theorem wit_RecorderAndUpdate31 :
    ∃ (s u : State), s.clock 0 ((s.advance 0).timeoutEvs) = u ∧ (∀ x, u.upd.session = some x → u.sclk < x.last + 60000 * msClk) :=
  ⟨updating none, _, rfl, (fun x h => nomatch (show none = some x from h))⟩

/-- Statement RecorderAndUpdate: its hypotheses are met. -/
theorem wit_RecorderAndUpdate32 :
    ∃ (s u : State), s.advance 0 = u ∧ u.pwr.recovery = true ∧ (∀ x, u.upd.announced = some x → x + 1000 * msClk ≤ u.sclk) :=
  ⟨{ running with pwr := { recovery := true } }, _, rfl, by decide, (fun x h => nomatch (show none = some x from h))⟩

/-- Statement RecorderAndUpdate: its hypotheses are met. -/
theorem wit_RecorderAndUpdate33 :
    ∃ (s u : State), s.advance 0 = u ∧ u.pwr.recovery = false :=
  ⟨running, _, rfl, by decide⟩

/-- Statement RecorderAndUpdate: its hypotheses are met. -/
theorem wit_RecorderAndUpdate34 :
    ∃ (s u : State), s.clock 0 ((s.advance 0).activationEvs) = u ∧ u.regB Reg.UPD_ACT_EXT 17 = true ∧ u.actTime ≤ u.now ∧ u.noFeed = false ∧ u.role = 6 :=
  ⟨armed1.setReg Reg.PAIR_ROLE 6, _, rfl, by decide, by decide, by decide, by decide⟩

/-- Statement RecorderAndUpdate: its hypotheses are met. -/
theorem wit_RecorderAndUpdate35 :
    ∃ (s u : State), s.clock 0 ((s.advance 0).activationEvs) = u ∧ u.regB Reg.UPD_ACT_EXT 17 = true ∧ u.actTime ≤ u.now ∧ u.noFeed = false ∧ u.role = 1 ∧ u.pair.hand = none ∧ u.upd.deferred = false :=
  ⟨armed1, _, rfl, by decide, by decide, by decide, by decide, by decide, by decide⟩

/-- Statement RecorderAndUpdate: its hypotheses are met. -/
theorem wit_RecorderAndUpdate36 :
    ∃ (s u : State), s.clock 0 ((s.advance 0).activationEvs) = u ∧ u.regB Reg.UPD_ACT_EXT 17 = false :=
  ⟨running, _, rfl, by decide⟩

/-- Statement RecorderAndUpdate: its hypotheses are met. -/
theorem wit_RecorderAndUpdate37 :
    ∃ (s u : State), s.toWrite 0 0x42 Reg.UPD_FLOOR_REQ 0xA5C30003 = u ∧ u.opens 0x42 true Reg.UPD_FLOOR_REQ = true ∧ (0xA5C30003 : Word) &&& 0x0000FF00 = 0 ∧ (0xA5C30003 : Word).fld 31 16 = 0xA5C3 ∧ u.upd.floor < (0xA5C30003 : Word).fld 7 0 ∧ (0xA5C30003 : Word).fld 7 0 ≤ u.runSecver ∧ u.upd.burn = none :=
  ⟨updating none, _, rfl, by decide +kernel, by decide, by decide, by decide, by decide, by decide⟩

/-- Statement RecorderAndUpdate: its hypotheses are met. -/
theorem wit_RecorderAndUpdate38 :
    ∃ (s u : State), s.toWrite 0 0x42 Reg.UPD_FLOOR_REQ 0xA5C30003 = u ∧ u.opens 0x42 true Reg.UPD_FLOOR_REQ = true ∧ (0xA5C30003 : Word) &&& 0x0000FF00 = 0 ∧ u.runSecver < (0xA5C30003 : Word).fld 7 0 :=
  ⟨running, _, rfl, by decide +kernel, by decide, by decide⟩

/-- Statement RecorderAndUpdate: its hypotheses are met. -/
theorem wit_RecorderAndUpdate39 :
    ∃ (s u : State), s.advance 0 = u ∧ u.upd.burn = some (9, 0) ∧ 0 + (9 - u.upd.floor) * msClk ≤ u.sclk :=
  ⟨{ running with upd := { burn := some (9, 0), floor := 8 }, sclk := msClk }, _, rfl, by decide, by decide⟩

/-- Statement RecorderAndUpdate: its hypotheses are met. -/
theorem wit_RecorderAndUpdate40 :
    ∃ (s u : State), s.advance 0 = u ∧ u.upd.burn = none :=
  ⟨running, _, rfl, by decide⟩

/-- Statement SuppliesAndTemperature: its hypotheses are met. -/
theorem wit_SuppliesAndTemperature1 :
    ∃ (s u : State) (v : State), s.advance 0 = u ∧ 1 ≤ 1 ∧ 19199 < 19200 ∧ u.feedMv 1 19199 = v ∧ v.regB Reg.PWR_STS (2 + 1) = false :=
  ⟨running, _, _, rfl, by decide, by decide, rfl, by decide⟩

/-- Statement SuppliesAndTemperature: its hypotheses are met. -/
theorem wit_SuppliesAndTemperature2 :
    ∃ (s u : State), s.advance 0 = u ∧ 1 < 2 :=
  ⟨running, _, rfl, by decide⟩

/-- Statement SuppliesAndTemperature: its hypotheses are met. -/
theorem wit_SuppliesAndTemperature3 :
    ∃ (s u : State), s.advance 0 = u ∧ 1 ≤ 1 ∧ 19600 < 19601 :=
  ⟨running, _, rfl, by decide, by decide⟩

/-- Statement SuppliesAndTemperature: its hypotheses are met. -/
theorem wit_SuppliesAndTemperature4 :
    ∃ (s u : State) (v w : State), s.clock 0 (((s.advance 0).feedEvs 1 15999)) = u ∧ 1 ≤ 1 ∧ 15999 < 16000 ∧ u.feedMv 1 15999 = v ∧ v.regB Reg.PWR_STS 1 = true ∧ ((v.setRegB Reg.PWR_STS 1 false).countF Reg.PWR_FEED_CNT 31 16 1).raiseBit 17 0 = w :=
  ⟨running, _, _, _, rfl, by decide, by decide, rfl, by decide, rfl⟩

/-- Statement SuppliesAndTemperature: its hypotheses are met. -/
theorem wit_SuppliesAndTemperature5 :
    keptRegs.contains Reg.SYS_RST_REQ = false ∧ Reg.SYS_RST_REQ ≠ Reg.PAIR_EPOCH :=
  by decide +kernel

/-- Statement SuppliesAndTemperature: its hypotheses are met. -/
theorem wit_SuppliesAndTemperature6 :
    ∃ (s u : State) (v w : State), s.advance 0 = u ∧ 0 ≤ 1 ∧ 18000 < 18001 ∧ u.feedMv 0 18001 = v ∧ v.regB Reg.PWR_STS 0 = false ∧ (v.setRegB Reg.PWR_STS 0 true).raiseBit 17 0 = w ∧ w.pwr.held = some 2 ∧ w.pwr.holdup = some 0 :=
  ⟨{ State.reset.setReg Reg.PWR_STS 0 with pwr := { held := some 2, holdup := some 0 } }, _, _, _, rfl, by decide, by decide, rfl, by decide, rfl, by decide, by decide⟩

/-- Statement SuppliesAndTemperature: its hypotheses are met. -/
theorem wit_SuppliesAndTemperature7 :
    ∃ (s u : State) (v : State), s.advance 0 = u ∧ 0 ≤ 1 ∧ 18000 < 18001 ∧ (u.feedMv 0 18001).regB Reg.PWR_STS 0 = false ∧ ((u.feedMv 0 18001).setRegB Reg.PWR_STS 0 true).raiseBit 17 0 = v ∧ v.pwr.held = none :=
  ⟨running.setReg Reg.PWR_STS 2, _, _, rfl, by decide, by decide, by decide, rfl, by decide⟩

/-- Statement SuppliesAndTemperature: its hypotheses are met. -/
theorem wit_SuppliesAndTemperature8 :
    ∃ (s u : State), s.advance 0 = u ∧ 2500 < 2501 :=
  ⟨running, _, rfl, by decide⟩

/-- Statement SuppliesAndTemperature: its hypotheses are met. -/
theorem wit_SuppliesAndTemperature9 :
    ∃ (s u : State) (v w : State), s.advance 0 = u ∧ 2499 < 2500 ∧ (u.setRegF Reg.PWR_VBAK 15 0 (min 65535 2499)).extreme 32 (min 65535 2499 : Nat) = v ∧ v.regB Reg.PWR_STS 4 = true ∧ v.setRegB Reg.PWR_STS 4 false = w ∧ w.noFeed = false :=
  ⟨running.setReg Reg.PWR_STS 0x13, _, _, _, rfl, by decide, rfl, by decide, rfl, by decide⟩

/-- Statement SuppliesAndTemperature: its hypotheses are met. -/
theorem wit_SuppliesAndTemperature10 :
    ∃ (s u : State) (v : State), s.advance 0 = u ∧ 1999 < 2000 ∧ u.vbak 1999 = v ∧ v.noFeed = true :=
  ⟨running.setReg Reg.PWR_STS 0, _, _, rfl, by decide, rfl, by decide⟩

/-- Statement SuppliesAndTemperature: its hypotheses are met. -/
theorem wit_SuppliesAndTemperature11 :
    ∃ (s u : State), s.advance 0 = u ∧ (u.vbak 1999).noFeed = false :=
  ⟨running, _, rfl, by decide⟩

/-- Statement SuppliesAndTemperature: its hypotheses are met. -/
theorem wit_SuppliesAndTemperature12 :
    ∃ (s u : State) (v : State), s.advance 0 = u ∧ u.regB Reg.PWR_STS 0 = true ∧ u.regB Reg.PWR_STS 1 = true ∧ u.regB Reg.PWR_STS 6 = false ∧ u.setReg Reg.PWR_HOLDUP (w32 (min 65535 7 + min 65535 999 * 2 ^ 16)) = v :=
  ⟨running, _, _, rfl, by decide, by decide, by decide, rfl⟩

/-- Statement SuppliesAndTemperature: its hypotheses are met. -/
theorem wit_SuppliesAndTemperature13 :
    ∃ (s u : State), s.advance 0 = u ∧ u.regB Reg.PWR_STS 1 = false :=
  ⟨running.setReg Reg.PWR_STS 1, _, rfl, by decide⟩

/-- Statement SuppliesAndTemperature: its hypotheses are met. -/
theorem wit_SuppliesAndTemperature14 :
    ∃ (s u : State) (v : State), s.advance 0 = u ∧ 3 ≤ 3 ∧ u.setRegF Reg.PWR_RAIL1 31 16 (min 65535 1981) = v ∧ (railWindow 3).2 < 1981 ∧ v.isOn = true ∧ v.regB Reg.PWR_DOM_STS 1 = true ∧ v.noFeed = false :=
  ⟨running, _, _, rfl, by decide, rfl, by decide, by decide, by decide, by decide⟩

/-- Statement SuppliesAndTemperature: its hypotheses are met. -/
theorem wit_SuppliesAndTemperature15 :
    ∃ (s u : State), s.advance 0 = u ∧ 2 ≤ 3 ∧ (railWindow 2).1 ≤ 2970 ∧ 2970 ≤ (railWindow 2).2 :=
  ⟨running, _, rfl, by decide, by decide, by decide⟩

/-- Statement SuppliesAndTemperature: its hypotheses are met. -/
theorem wit_SuppliesAndTemperature16 :
    ∃ (s u : State), s.advance 0 = u ∧ u.isOn = true ∧ u.pwr.booted = true ∧ u.noFeed = false :=
  ⟨booted1, _, rfl, by decide, by decide, by decide⟩

/-- Statement SuppliesAndTemperature: its hypotheses are met. -/
theorem wit_SuppliesAndTemperature17 :
    ∃ (s u : State), s.advance 0 = u ∧ u.pwr.booted = false :=
  ⟨running, _, rfl, by decide⟩

/-- Statement SuppliesAndTemperature: its hypotheses are met. -/
theorem wit_SuppliesAndTemperature18 :
    ∃ (s u : State) (m : Word) (v w : State), s.advance 0 = u ∧ ((u.setReg Reg.PWR_TEMP (w32 (pattern 16 11001 + pattern 16 0 * 2 ^ 16))).extreme 36 11001).extreme 44 0 = v ∧ v.reg Reg.PWR_TEMP_MAX = m ∧ v.setReg Reg.PWR_TEMP_MAX (w32 (pattern 16 (max 11001 (signed 16 (m.fld 15 0))) + pattern 16 (max 0 (signed 16 (m.fld 31 16))) * 2 ^ 16)) = w :=
  ⟨running, _, _, _, _, rfl, rfl, rfl, rfl⟩

/-- Statement SuppliesAndTemperature: its hypotheses are met. -/
theorem wit_SuppliesAndTemperature19 :
    ∃ (s u : State) (v w : State), s.advance 0 = u ∧ (12500 : Int) ≤ 12500 ∧ u.temps 12500 0 = v ∧ v.isOn = true ∧ v.noFeed = false ∧ v.shutDown = w :=
  ⟨running, _, _, _, rfl, by decide, rfl, by decide, by decide, rfl⟩

/-- Statement SuppliesAndTemperature: its hypotheses are met. -/
theorem wit_SuppliesAndTemperature20 :
    ∃ (s u : State), s.advance 0 = u ∧ (12499 : Int) < 12500 :=
  ⟨running, _, rfl, by decide⟩

/-- Statement SuppliesAndTemperature: its hypotheses are met. -/
theorem wit_SuppliesAndTemperature21 :
    ∃ (s u : State) (v : State), s.advance 0 = u ∧ (9999 : Int) < 10000 ∧ u.temps 9999 0 = v ∧ v.pwr.held = some 7 ∧ v.noFeed = false :=
  ⟨{ State.reset with pwr := { held := some 7 } }, _, _, rfl, by decide, rfl, by decide, by decide⟩

/-- Statement SuppliesAndTemperature: its hypotheses are met. -/
theorem wit_SuppliesAndTemperature22 :
    ∃ (s u : State), s.advance 0 = u ∧ (u.temps 9999 0).pwr.held ≠ some 7 :=
  ⟨running, _, rfl, by decide⟩

/-- Statement ResetsAndStartUp: its hypotheses are met. -/
theorem wit_ResetsAndStartUp1 :
    ∃ (s u : State) (v : State), s.toWrite 0 0x42 Reg.SYS_RST_REQ 0x5A5A0001 = u ∧ u.opens 0x42 true Reg.SYS_RST_REQ = true ∧ u.noFeed = false ∧ u.pwr.request = none ∧ u.closeStretch 4 = v ∧ (v.runs || decide (v.role = 5)) = true :=
  ⟨running, _, _, rfl, by decide +kernel, by decide, by decide, rfl, by decide⟩

/-- Statement ResetsAndStartUp: its hypotheses are met. -/
theorem wit_ResetsAndStartUp2 :
    ∃ (s u : State) (v : State), s.toWrite 0 0x42 Reg.SYS_RST_REQ 0x5A5A0001 = u ∧ u.opens 0x42 true Reg.SYS_RST_REQ = true ∧ u.noFeed = false ∧ u.pwr.request = none ∧ u.closeStretch 4 = v ∧ (v.runs || decide (v.role = 5)) = false :=
  ⟨running.setReg Reg.PAIR_ROLE 3, _, _, rfl, by decide +kernel, by decide, by decide, rfl, by decide⟩

/-- Statement ResetsAndStartUp: its hypotheses are met. -/
theorem wit_ResetsAndStartUp3 :
    ∃ (s u : State), s.toWrite 0 0x42 Reg.SYS_RST_REQ 0xA5A50000 = u ∧ u.opens 0x42 true Reg.SYS_RST_REQ = true ∧ (0xA5A50000 : Word) &&& 0xFFFE = 0 ∧ (0xA5A50000 : Word).fld 31 16 ≠ 0x5A5A :=
  ⟨running, _, rfl, by decide +kernel, by decide, by decide⟩

/-- Statement ResetsAndStartUp: its hypotheses are met. -/
theorem wit_ResetsAndStartUp4 :
    ∃ (s u : State), s.advance 0 = u ∧ u.pwr.request = some 4 :=
  ⟨{ running with pwr := { request := some 4 } }, _, rfl, by decide⟩

/-- Statement ResetsAndStartUp: its hypotheses are met. -/
theorem wit_ResetsAndStartUp5 :
    ∃ (s u : State), s.advance 0 = u ∧ u.pwr.request = none :=
  ⟨running, _, rfl, by decide⟩

/-- Statement ResetsAndStartUp: its hypotheses are met. -/
theorem wit_ResetsAndStartUp6 :
    ∃ (s u : State), s.toWrite 0 0x42 Reg.PWR_DOM_REQ 0x1021C = u ∧ u.opens 0x42 true Reg.PWR_DOM_REQ = true ∧ (0x1021C : Word) &&& ~~~(0x1021C : Word) = 0 ∧ ((0x1021C : Word) &&& 0x21C).toNat ≠ 0 ∧ u.role = 6 ∧ u.order = Order.f :=
  ⟨running.setReg Reg.PAIR_ROLE 6, _, rfl, by decide +kernel, by decide, by decide, by decide, by decide⟩

/-- Statement ResetsAndStartUp: its hypotheses are met. -/
theorem wit_ResetsAndStartUp7 :
    ∃ (s u : State), s.toWrite 0 0x42 Reg.PWR_DOM_REQ 0x1021C = u ∧ u.opens 0x42 true Reg.PWR_DOM_REQ = true ∧ (0x1021C : Word) &&& ~~~(0x1021C : Word) = 0 ∧ ((0x1021C : Word) &&& 0x21C).toNat ≠ 0 ∧ u.role ≠ 6 :=
  ⟨running, _, rfl, by decide +kernel, by decide, by decide, by decide⟩

/-- Statement ResetsAndStartUp: its hypotheses are met. -/
theorem wit_ResetsAndStartUp8 :
    ∃ (s u : State), s.advance 0 = u ∧ u.pwr.domReq = none :=
  ⟨running, _, rfl, by decide⟩

/-- Statement ResetsAndStartUp: its hypotheses are met. -/
theorem wit_ResetsAndStartUp9 :
    ∃ (s u : State) (v : State), s.advance 0 = u ∧ u.pwr.domReq = some (16, false) ∧ u.domainOn 4 = true ∧ (({ u with pwr := { u.pwr with domReq := none } } : State).setRegB Reg.PWR_DOM_STS 4 false) = v :=
  ⟨{ running with pwr := { domReq := some (16, false) } }, _, _, rfl, by decide, by decide, rfl⟩

/-- Statement ResetsAndStartUp: its hypotheses are met. -/
theorem wit_ResetsAndStartUp10 :
    ∃ (s u : State) (v : State), s.advance 0 = u ∧ u.pwr.domReq = some (512, false) ∧ u.domainOn 9 = true ∧ (({ u with pwr := { u.pwr with domReq := none } } : State).setRegB Reg.PWR_DOM_STS 9 false) = v :=
  ⟨{ running with pwr := { domReq := some (512, false) } }, _, _, rfl, by decide, by decide, rfl⟩

/-- Statement ResetsAndStartUp: its hypotheses are met. -/
theorem wit_ResetsAndStartUp11 :
    ∃ (s u : State), s.advance 0 = u ∧ u.inRom = false :=
  ⟨running, _, rfl, by decide⟩

/-- Statement ResetsAndStartUp: its hypotheses are met. -/
theorem wit_ResetsAndStartUp12 :
    ∃ (s u : State) (v : State), s.advance 0 = u ∧ u.inRom = true ∧ u.upd.select = 0 ∧ ({ (u.setRegB Reg.PWR_DOM_STS 1 true) with pwr := { u.pwr with lampAt := some u.sclk } } : State) = v ∧ (v.slot 0).st = 5 ∧ v.accepts_ 0 = true :=
  ⟨State.reset, _, _, rfl, by decide, by decide, rfl, by decide, by decide⟩

/-- Statement ResetsAndStartUp: its hypotheses are met. -/
theorem wit_ResetsAndStartUp13 :
    ∃ (s u : State) (v w : State), s.advance 0 = u ∧ u.inRom = true ∧ u.upd.select = 1 ∧ ({ (u.setRegB Reg.PWR_DOM_STS 1 true) with pwr := { u.pwr with lampAt := some u.sclk } } : State) = v ∧ v.trySlot 1 = (w, false) ∧ (w.slot 0).st = 5 ∧ w.accepts_ 0 = true :=
  ⟨{ State.reset with upd := { State.reset.upd with select := 1 } }, _, _, _, rfl, by decide, by decide, rfl, rfl, by decide, by decide⟩

/-- Statement ResetsAndStartUp: its hypotheses are met. -/
theorem wit_ResetsAndStartUp14 :
    ∃ (s u : State) (v w x : State), s.advance 0 = u ∧ u.inRom = true ∧ u.upd.select = 0 ∧ ({ (u.setRegB Reg.PWR_DOM_STS 1 true) with pwr := { u.pwr with lampAt := some u.sclk } } : State) = v ∧ v.trySlot 0 = (w, false) ∧ w.trySlot 1 = (x, false) :=
  ⟨{ State.reset with upd := {} }, _, _, _, _, rfl, by decide, by decide, rfl, rfl, rfl⟩

/-- Statement ResetsAndStartUp: its hypotheses are met. -/
theorem wit_ResetsAndStartUp15 :
    ∃ (s u : State), s.advance 0 = u ∧ u.isOn = true ∧ u.noFeed = false ∧ u.pwr.recovery = false ∧ u.pwr.startAt ≤ u.sclk ∧ u.regF Reg.PWR_START_STS 3 0 ≤ 2 ∧ u.pwr.booted = true :=
  ⟨{ State.reset with pwr := { booted := true } }, _, rfl, by decide, by decide, by decide, by decide, by decide, by decide⟩

/-- Statement ResetsAndStartUp: its hypotheses are met. -/
theorem wit_ResetsAndStartUp16 :
    ∃ (s u : State), s.advance 0 = u ∧ 2 < u.regF Reg.PWR_START_STS 3 0 :=
  ⟨running, _, rfl, by decide⟩

/-- Statement ResetsAndStartUp: its hypotheses are met. -/
theorem wit_ResetsAndStartUp17 :
    ∃ s : State, s.bkp.valid = false :=
  ⟨State.reset, by decide⟩

/-- Statement ResetsAndStartUp: its hypotheses are met. -/
theorem wit_ResetsAndStartUp18 :
    ∃ (s u : State), s.clock 0 ((s.advance 0).settleEvs) = u ∧ u.pwr.settled = false ∧ u.pwr.roleAt ≠ none ∧ (u.timeLocked || u.timeWaited) = true :=
  ⟨{ running.setReg Reg.TIM_CTL 3 with pwr := { roleAt := some 0 } }, _, rfl, by decide, by decide, by decide⟩

/-- Statement ResetsAndStartUp: its hypotheses are met. -/
theorem wit_ResetsAndStartUp19 :
    ∃ (s u : State), s.clock 0 ((s.advance 0).settleEvs) = u ∧ u.pwr.roleAt = none :=
  ⟨running, _, rfl, by decide⟩

/-- Statement StepKeepsMemoriesAndQueue: its hypotheses are met. -/
theorem wit_StepKeepsMemoriesAndQueue1 :
    ∃ s t : State, s.inv ∧ step s = .next t :=
  ⟨{ State.reset with pending := [.ptpSecondCarry] }, _, (by decide : State.reset.mem.wf = true), rfl⟩

/-- Statement StepKeepsMemoriesAndQueue: its hypotheses are met. -/
theorem wit_StepKeepsMemoriesAndQueue2 :
    ∃ s : State, s.inv :=
  ⟨State.reset, (by decide : State.reset.mem.wf = true)⟩

end Sys2Proof.Tests
end

section
/-!
PROOFS. Host and registers (02_host_and_registers): the single register write and read, the latches of the 64-bit pairs, the
registers that show the active set, and a write to an absent unit.
-/
namespace Sys2Proof.Proofs
open Sys2Proof Sys2Proof.Machine

/-! ### Commands that are one access -/

section
variable {dt m a : Nat} {v : Word} {s u : State}

theorem writeAfter_eq_single (h : s.toWrite dt m a v = u) : writeAfter dt m a v s = .next (u.single m true a v) := by
  subst h; rfl

theorem readAfter_eq_single (h : s.toRead dt m a = u) : readAfter dt m a s = .next (u.single m false a 0) := by
  subst h; rfl

theorem registerWrite_eq_single (h : s.toWrite dt m a v = u) :
    exec (.registerWrite dt m a v) s = .next (u.single m true a v) :=
  (exec_registerWrite dt m a v s).trans (writeAfter_eq_single h)

theorem loWrite_eq_single (h : s.toWrite dt m a v = u) : exec (.loWrite dt m a v) s = .next (u.single m true a v) :=
  (exec_loWrite dt m a v s).trans (writeAfter_eq_single h)

theorem hiWrite_eq_single (h : s.toWrite dt m a v = u) : exec (.hiWrite dt m a v) s = .next (u.single m true a v) :=
  (exec_hiWrite dt m a v s).trans (writeAfter_eq_single h)

theorem loRead_eq_single (h : s.toRead dt m a = u) : exec (.loRead dt m a) s = .next (u.single m false a 0) :=
  (exec_loRead dt m a s).trans (readAfter_eq_single h)

end

/-! ### What stays the same -/

theorem sameMemory_of_mem {s t : State} (h : t.mem = s.mem) : SameMemory s t :=
  byteAt_congr (congrArg Memory.sram h) (congrArg Memory.lpd h)

theorem sameRegs_setReg (s : State) (a : Nat) (v : Word) : SameRegs s (s.setReg a v) (fun b => b == a) :=
  fun _ hb => s.setReg_reg_ne (by simpa using hb) v

/-- Two registers written, one after the other: both hold what was written, and no other register changes. -/
theorem setReg_setReg_stores (s : State) {lo hi : Nat} (hne : lo ≠ hi) (x v : Word) :
    ((s.setReg lo x).setReg hi v).reg hi = v ∧ ((s.setReg lo x).setReg hi v).reg lo = x ∧
      SameRegs s ((s.setReg lo x).setReg hi v) (fun b => b == lo || b == hi) ∧
      SameMemory s ((s.setReg lo x).setReg hi v) := by
  refine ⟨by simp, by simp [hne], fun b hb => ?_, sameMemory_of_mem rfl⟩
  obtain ⟨hlo, hhi⟩ : b ≠ lo ∧ b ≠ hi := by simpa using hb
  rw [State.setReg_reg_ne _ hhi, State.setReg_reg_ne _ hlo]

/-! ### A write of a register -/

section
variable {u : State} {m : Nat} {d : RegDesc} {i j a : Nat} {v : Word}

/-- The units refuse writes of three registers only (R38). -/
theorem unitRefuses_eq_none (hstep : d.tag ≠ .TIM_STEP_HI) (hown : d.tag ≠ .BNK_OWN) (hctl : d.tag ≠ .BNK_CTL) :
    u.unitRefuses m d i v = none := by
  unfold State.unitRefuses
  split
  · contradiction
  · contradiction
  · contradiction
  · rfl

/-- No unit refuses a write of a register that shows the active set. -/
theorem unitRefuses_showsSet (hs : showsSet d.tag = true) : u.unitRefuses m d i v = none := by
  apply unitRefuses_eq_none <;> intro h <;> simp [h, showsSet] at hs

theorem writeReg_showsSet (hs : showsSet d.tag = true) : u.writeReg m d i j a v = u := if_pos hs

theorem writeReg_eq_writeUnit (hs : showsSet d.tag = false) (hv : v &&& ~~~d.live = 0) :
    u.writeReg m d i j a v = u.writeUnit m d i j a v := by
  unfold State.writeReg
  rw [if_neg (by simp [hs]), if_neg (by simp [hv])]

/-- A write that gets through, sets no reserved bit and is not of a view of the active set, is what the unit does with it. -/
theorem single_write_unit (ho : u.opens m true a = true) (hd : regAt a = some (d, i, j))
    (hr : u.unitRefuses m d i v = none) (hs : showsSet d.tag = false) (hv : v &&& ~~~d.live = 0) :
    u.single m true a v = u.writeUnit m d i j a v :=
  (single_write ho hd hr).trans (writeReg_eq_writeUnit hs hv)

end

/-- Settles O2: the write gets through, no unit refuses it, and the register takes its RW bits and loses its W1C bits. -/
theorem writeStores : Obligations.WriteStores := by
  intro dt m a v s u d i j hu ho hd hs hv
  have hwrite := (single_write ho hd (unitRefuses_storesOnly hs)).trans (writeReg_storesOnly hs hv)
  exact ⟨_, (registerWrite_eq_single hu).trans (congrArg _ hwrite), rfl, State.setReg_reg_self .., sameRegs_setReg _ _ _,
    sameMemory_of_mem rfl⟩

/-- Settles O3: no unit refuses the write, and the register block ignores it. -/
theorem setViewsIgnoreWrites : Obligations.SetViewsIgnoreWrites := by
  intro dt m a v s u d i j hu ho hd hs
  have hwrite : u.single m true a v = u := (single_write ho hd (unitRefuses_showsSet hs)).trans (writeReg_showsSet hs)
  rw [registerWrite_eq_single hu, hwrite]

/-! ### Reads and their latches (R34) -/

/-- A field whose copies agree needs no vote. -/
theorem vote_of_agree {s : State} {a : Nat} (h : s.flipsAt a = (0, 0, 0)) : s.vote a = s := if_pos h

theorem latch_nil (s : State) (m : Nat) : s.latch m [] = s := rfl

theorem latch_cons (s : State) (m b : Nat) (as : List Nat) :
    s.latch m (b :: as) =
      ({ s with rlat := sput none s.rlat (latchKey m b) (some (s.viewAt b)) } : State).latch m as := rfl

/-- Latching changes the read latches alone. -/
theorem latch_eq_rlat (s : State) (m : Nat) (as : List Nat) : s.latch m as = { s with rlat := (s.latch m as).rlat } := by
  induction as generalizing s with
  | nil => rfl
  | cons b as ih => rw [latch_cons, ih]

@[simp] theorem latch_mem (s : State) (m : Nat) (as : List Nat) : (s.latch m as).mem = s.mem := by rw [latch_eq_rlat]

@[simp] theorem latch_out (s : State) (m : Nat) (as : List Nat) : (s.latch m as).out = s.out := by rw [latch_eq_rlat]

@[simp] theorem latch_regs (s : State) (m : Nat) (as : List Nat) : (s.latch m as).regs = s.regs := by rw [latch_eq_rlat]

theorem latch_rlat_singleton (s : State) (m b : Nat) :
    sget none (s.latch m [b]).rlat (latchKey m b) = some (s.viewAt b) := by
  rw [latch_cons, latch_nil, sget_sput_self]

/-- The latches of the registers that are not captured stay as they were. -/
theorem latch_rlat_other (s : State) (m k : Nat) (as : List Nat) (hk : ∀ b ∈ as, k ≠ latchKey m b) :
    sget none (s.latch m as).rlat k = sget none s.rlat k := by
  induction as generalizing s with
  | nil => rfl
  | cons b as ih =>
    obtain ⟨hb, has⟩ := List.forall_mem_cons.1 hk
    rw [latch_cons, ih _ has, sget_sput_ne _ _ _ hb]

/-- A read that neither acts nor clears, of a register without an upset: the value or its latch, and the state latched. -/
theorem readReg_latches {u : State} {m : Nat} {d : RegDesc} {i j a : Nat} (hr : actsOnRead d.tag = false) (hc : d.rc = 0)
    (hf : u.flipsAt a = (0, 0, 0)) :
    u.readReg m d i j a = ((sget none u.rlat (latchKey m a)).getD (u.view d i j a), u.latch m (captured d.tag a)) := by
  rw [readReg_plain hr, vote_of_agree hf, if_pos hc]

/-- LO_READ of a register by a master that gets through is the register's read, its value handed to the master. -/
theorem loRead_eq_readReg {dt m a : Nat} {s u : State} {d : RegDesc} {i j : Nat} (hu : s.toRead dt m a = u)
    (ho : u.opens m false a = true) (hd : regAt a = some (d, i, j)) :
    exec (.loRead dt m a) s = .next ((u.readReg m d i j a).2.emit (.readData m a (u.readReg m d i j a).1)) :=
  (loRead_eq_single hu).trans (congrArg _ (single_read ho hd))

/-- Settles O4: the read answers the value or its latch, and what it captures goes into the master's latches alone. -/
theorem loReadLatchesHigh : Obligations.LoReadLatchesHigh := by
  refine ⟨fun dt m a s u d i j hu ho hd hr hc hf => ⟨_, loRead_eq_readReg hu ho hd, ?_⟩,
    fun dt m a s u d i j => loRead_eq_readReg⟩
  rw [readReg_latches hr hc hf]
  refine ⟨?out, ?captured, fun k hk => latch_rlat_other u m k _ hk, ?regs, sameMemory_of_mem (latch_mem ..)⟩
  case out => simp [State.emit]
  case captured => exact fun b hb => hb ▸ latch_rlat_singleton u m b
  case regs => exact fun b _ => congrArg (sget (regReset b) · b) (latch_regs u m _)

/-! ### The halves of a 64-bit pair (R35) -/

/-- An address that holds the low half of a pair whose writes wait in the write latch: every bit of it exists, and its unit
takes a write by holding it. -/
def HoldsLow (a : Nat) : Prop :=
  ∃ (d : RegDesc) (i j : Nat), regAt a = some (d, i, j) ∧ d.live = 0xFFFFFFFF ∧ showsSet d.tag = false ∧
    ∀ (u : State) (m : Nat) (v : Word), u.unitRefuses m d i v = none ∧ u.writeUnit m d i j a v = u.holdWrite m a v

theorem holdsLow_svcMac : HoldsLow Reg.SYS_SVC_MAC_LO := ⟨_, _, _, rfl, rfl, rfl, fun _ _ _ => ⟨rfl, rfl⟩⟩
theorem holdsLow_timIncr : HoldsLow Reg.TIM_INCR_LO := ⟨_, _, _, rfl, rfl, rfl, fun _ _ _ => ⟨rfl, rfl⟩⟩
theorem holdsLow_timStep : HoldsLow Reg.TIM_STEP_LO := ⟨_, _, _, rfl, rfl, rfl, fun _ _ _ => ⟨rfl, rfl⟩⟩
theorem holdsLow_liveTarget : HoldsLow Reg.STK_LIVE_TGT_LO := ⟨_, _, _, rfl, rfl, rfl, fun _ _ _ => ⟨rfl, rfl⟩⟩
theorem holdsLow_trvMac {n : Nat} (hn : n < 4) : HoldsLow (Reg.TRV_MAC_LO n) := by
  obtain rfl | rfl | rfl | rfl : n = 0 ∨ n = 1 ∨ n = 2 ∨ n = 3 := by omega
  all_goals exact ⟨_, _, _, rfl, rfl, rfl, fun _ _ _ => ⟨rfl, rfl⟩⟩

/-- A write of such a half that gets through changes the writing master's latch alone. -/
theorem single_write_holdsLow {u : State} {m a : Nat} (v : Word) (hl : HoldsLow a) (ho : u.opens m true a = true) :
    u.single m true a v = u.holdWrite m a v := by
  obtain ⟨d, i, j, hd, hlive, hs, hunit⟩ := hl
  obtain ⟨hr, hw⟩ := hunit u m v
  exact (single_write_unit ho hd hr hs (by rw [hlive]; simp)).trans hw

/-- An address that holds the high half of a pair with the low half at `lo`: 16 bits of it exist, and its unit stores both
halves. -/
def StoresBoth (lo a : Nat) : Prop :=
  ∃ (d : RegDesc) (i j : Nat), regAt a = some (d, i, j) ∧ d.live = 0xFFFF ∧ showsSet d.tag = false ∧
    ∀ (u : State) (m : Nat) (v : Word), u.unitRefuses m d i v = none ∧
      u.writeUnit m d i j a v = (u.setReg lo (u.lowHalf m lo)).setReg a v

theorem storesBoth_svcMac : StoresBoth Reg.SYS_SVC_MAC_LO Reg.SYS_SVC_MAC_HI :=
  ⟨_, _, _, rfl, rfl, rfl, fun _ _ _ => ⟨rfl, rfl⟩⟩
theorem storesBoth_trvMac {n : Nat} (hn : n < 4) : StoresBoth (Reg.TRV_MAC_LO n) (Reg.TRV_MAC_HI n) := by
  obtain rfl | rfl | rfl | rfl : n = 0 ∨ n = 1 ∨ n = 2 ∨ n = 3 := by omega
  all_goals exact ⟨_, _, _, rfl, rfl, rfl, fun _ _ _ => ⟨rfl, rfl⟩⟩

/-- A value of 16 bits sets none of the upper 16. -/
theorem and_not_low16_of_lt {v : Word} (hv : v.toNat < 2 ^ 16) : v &&& ~~~(0xFFFF : Word) = 0 := by
  have hmod : v &&& (0xFFFF : Word) = v := by
    apply BitVec.eq_of_toNat_eq
    rw [BitVec.toNat_and]
    exact (Nat.and_two_pow_sub_one_eq_mod v.toNat 16).trans (Nat.mod_eq_of_lt hv)
  rw [← hmod, BitVec.and_assoc, BitVec.and_not_self]; exact BitVec.and_zero

/-- HI_WRITE of the high half of such a pair stores both halves, and nothing else. -/
theorem hiWrite_storesBoth {dt m lo a : Nat} {v : Word} {s u : State} (hb : StoresBoth lo a) (hne : lo ≠ a)
    (hu : s.toWrite dt m a v = u) (ho : u.opens m true a = true) (hv : v.toNat < 2 ^ 16) :
    Completes (.hiWrite dt m a v) s (fun t => t.reg a = v ∧ t.reg lo = (sget none u.wlat (latchKey m lo)).getD 0 ∧
      SameRegs u t (fun b => b == lo || b == a) ∧ SameMemory u t) := by
  obtain ⟨d, i, j, hd, hlive, hs, hunit⟩ := hb
  obtain ⟨hr, hw⟩ := hunit u m v
  have hwrite := (single_write_unit ho hd hr hs (by rw [hlive]; exact and_not_low16_of_lt hv)).trans hw
  exact ⟨_, (hiWrite_eq_single hu).trans (congrArg _ hwrite), setReg_setReg_stores u hne _ v⟩

/-- Settles O5: the low halves wait in the write latch, and each high half stores both. -/
theorem highWriteStoresBothHalves : Obligations.HighWriteStoresBothHalves := by
  refine ⟨fun dt m a v s u n hu hn ho ha => ?_, fun dt m v s u => hiWrite_storesBoth storesBoth_svcMac (by decide),
    fun dt m n v s u hu hn => hiWrite_storesBoth (storesBoth_trvMac hn) (by simp [Reg.TRV_MAC_LO, Reg.TRV_MAC_HI]) hu⟩
  have hl : HoldsLow a := by
    rcases ha with rfl | rfl | rfl | rfl | rfl
    · exact holdsLow_svcMac
    · exact holdsLow_trvMac hn
    · exact holdsLow_timIncr
    · exact holdsLow_timStep
    · exact holdsLow_liveTarget
  exact (loWrite_eq_single hu).trans (congrArg _ (single_write_holdsLow v hl ho))

/-! ### A write to an absent unit (R38, R39) -/

section
variable {u : State} {m a : Nat} {v : Word}

/-- Of an access that the MPU grants to an absent unit, the first byte is refused with KIND 0x3. -/
theorem barred_absent {write : Bool} (hm : u.mpuRefuses m (if write then 1 else 0) a 4 = none) (hp : u.present m a = false) :
    u.barred m write a 4 = some (3, a) := by
  unfold State.barred
  rw [hm]
  simp [List.range_succ_eq_map, hp]

/-- A write to an absent unit below the memories is a violation of KIND 0x3, whatever its alignment. -/
theorem access_absent (ha : a < sramBase) (hm : u.mpuRefuses m 1 a 4 = none) (hp : u.present m a = false) :
    u.access m true a v = u.refuse m 3 true a := by
  unfold State.access
  simp only [inSram_low ha, inLpd_low ha, barred_absent (write := true) hm hp, Bool.or_self, Bool.false_eq_true, if_false]

/-- A refused write of a master other than the PCIe host: the violation is decided and the error response answered. -/
theorem single_absent (hne : m ≠ 0x42) (hi : u.issues m = true) (ha : a < sramBase) (hm : u.mpuRefuses m 1 a 4 = none)
    (hp : u.present m a = false) :
    u.single m true a v = ((u.violation m 3 true 2 a).emit (.errorResponse m a true)).busError m := by
  have hrefuse : u.refuse m 3 true a = .refused (u.violation m 3 true 2 a) true := by simp [State.refuse, hne]
  unfold State.single
  rw [access_absent ha hm hp, hrefuse]
  simp [hi, State.errorAnswer, hne]

/-- A refused write of the PCIe host waits as an imprecise notice, and is not answered at once. -/
theorem single_absent_pcie (hi : u.issues 0x42 = true) (ha : a < sramBase) (hm : u.mpuRefuses 0x42 1 a 4 = none)
    (hp : u.present 0x42 a = false) :
    u.single 0x42 true a v = { u with mem := { u.mem with notices := u.mem.notices ++ [⟨0x42, 3, a, 2⟩] } } := by
  have hrefuse : u.refuse 0x42 3 true a =
      .refused { u with mem := { u.mem with notices := u.mem.notices ++ [⟨0x42, 3, a, 2⟩] } } true := rfl
  unfold State.single
  rw [access_absent ha hm hp, hrefuse]
  simp [hi]

end

/-- Settles O8: the violation is decided at the write's own address; a PCIe write waits as a notice. -/
theorem refusedWriteIsAViolation : Obligations.RefusedWriteIsAViolation := by
  refine ⟨fun dt m a v s u hu hne hi ha hm hp => ?_, fun dt a v s u hu hi ha hm hp => ?_⟩
  · rw [registerWrite_eq_single hu, single_absent hne hi ha hm hp]
  · rw [registerWrite_eq_single hu, single_absent_pcie hi ha hm hp]

end Sys2Proof.Proofs
end

section
/-!
PROOFS. The step (95_what_each_step_holds): the front of the queue is performed, and every command completes and keeps the
canonical form of the memories, the order code and the queue.
-/
namespace Sys2Proof.Proofs
open Sys2Proof Sys2Proof.Machine

/-- A step takes the command at the front of the queue off and performs it. -/
theorem step_of_pending {s : State} {c : Instr} {rest : List Instr} (h : s.pending = c :: rest) :
    step s = exec c { s with pending := rest } := by
  simp only [step, h]

/-- On an empty queue the block idles. -/
theorem step_of_empty {s : State} (h : s.pending = []) : step s = .next s := by
  simp only [step, h]

/-- Settles O1: the two cases of a step. -/
theorem stepRunsFront : Obligations.StepRunsFront :=
  ⟨fun _ _ _ => step_of_pending, fun _ => step_of_empty⟩

/-- Every command completes and keeps the order code, the queue and the canonical form of the memories: each by the law of its
own meaning. -/
theorem exec_ok {o : Order} {q : List Instr} {s : State} (h : Ok o q s) (c : Instr) : Goes (Ok o q) (exec c s) := by
  match c with
  | .pcieTlp .. => exact execPcieTlp_ok h ..
  | .perstReset .. => exact execPerstReset_ok h ..
  | .pcieLinkChange .. => exact execPcieLinkChange_ok h ..
  | .bmeSet .. => exact execBmeSet_ok h ..
  | .msixVectorUnmask .. => exact execMsixVectorUnmask_ok h ..
  | .regacc .. => exact execRegacc_ok h ..
  | .remoteRegisterAccess .. => exact execRemoteRegisterAccess_ok h ..
  | .registerWrite .. => exact execRegisterWrite_ok h ..
  | .loRead .. => exact execLoRead_ok h ..
  | .loWrite .. => exact execLoWrite_ok h ..
  | .hiWrite .. => exact execHiWrite_ok h ..
  | .rcRead .. => exact execRcRead_ok h ..
  | .tmrScrub .. => exact execTmrScrub_ok h ..
  | .violClear .. => exact execViolClear_ok h ..
  | .moduleResetRequest .. => exact execModuleResetRequest_ok h ..
  | .mbxPost .. => exact execMbxPost_ok h ..
  | .mpTake .. => exact execMpTake_ok h ..
  | .mpPostResponse .. => exact execMpPostResponse_ok h ..
  | .mbxTake .. => exact execMbxTake_ok h ..
  | .mbxHrst .. => exact execMbxHrst_ok h ..
  | .mpRestartBegin .. => exact execMpRestartBegin_ok h ..
  | .mpReady .. => exact execMpReady_ok h ..
  | .longCommandComplete .. => exact execLongCommandComplete_ok h ..
  | .ident .. => exact execIdent_ok h ..
  | .statusGet .. => exact execStatusGet_ok h ..
  | .echo .. => exact execEcho_ok h ..
  | .cfgOpen .. => exact execCfgOpen_ok h ..
  | .cfgClose .. => exact execCfgClose_ok h ..
  | .cfgAbandon .. => exact execCfgAbandon_ok h ..
  | .cfgCopy .. => exact execCfgCopy_ok h ..
  | .cfgWrite .. => exact execCfgWrite_ok h ..
  | .cfgRead .. => exact execCfgRead_ok h ..
  | .cfgBulk .. => exact execCfgBulk_ok h ..
  | .cfgCheck .. => exact execCfgCheck_ok h ..
  | .cfgSwap .. => exact execCfgSwap_ok h ..
  | .cfgSwapApply .. => exact execCfgSwapApply_ok h ..
  | .cfgSwapCancel .. => exact execCfgSwapCancel_ok h ..
  | .cfgStatus .. => exact execCfgStatus_ok h ..
  | .prgInfo .. => exact execPrgInfo_ok h ..
  | .prgLoadBegin .. => exact execPrgLoadBegin_ok h ..
  | .prgLoadBlock .. => exact execPrgLoadBlock_ok h ..
  | .prgLoadEnd .. => exact execPrgLoadEnd_ok h ..
  | .valRead .. => exact execValRead_ok h ..
  | .valWrite .. => exact execValWrite_ok h ..
  | .constWrite .. => exact execConstWrite_ok h ..
  | .constApply .. => exact execConstApply_ok h ..
  | .lpdRead .. => exact execLpdRead_ok h ..
  | .lpdWrite .. => exact execLpdWrite_ok h ..
  | .frcSet .. => exact execFrcSet_ok h ..
  | .frcRelease .. => exact execFrcRelease_ok h ..
  | .frcReleaseAll .. => exact execFrcReleaseAll_ok h ..
  | .frcList .. => exact execFrcList_ok h ..
  | .datStatus .. => exact execDatStatus_ok h ..
  | .datStop .. => exact execDatStop_ok h ..
  | .stkStatus .. => exact execStkStatus_ok h ..
  | .stkCancelAll .. => exact execStkCancelAll_ok h ..
  | .chStatus .. => exact execChStatus_ok h ..
  | .chRevive .. => exact execChRevive_ok h ..
  | .chTrimCapture .. => exact execChTrimCapture_ok h ..
  | .chTrimClear .. => exact execChTrimClear_ok h ..
  | .chPulseTest .. => exact execChPulseTest_ok h ..
  | .pairStatus .. => exact execPairStatus_ok h ..
  | .pairExchange .. => exact execPairExchange_ok h ..
  | .pairHandover .. => exact execPairHandover_ok h ..
  | .pairCancel .. => exact execPairCancel_ok h ..
  | .pairWithdraw .. => exact execPairWithdraw_ok h ..
  | .pairResync .. => exact execPairResync_ok h ..
  | .recInfo .. => exact execRecInfo_ok h ..
  | .recPeriod .. => exact execRecPeriod_ok h ..
  | .recCopy .. => exact execRecCopy_ok h ..
  | .updStatus .. => exact execUpdStatus_ok h ..
  | .updSchedule .. => exact execUpdSchedule_ok h ..
  | .updCancel .. => exact execUpdCancel_ok h ..
  | .updChain .. => exact execUpdChain_ok h ..
  | .selftestFull .. => exact execSelftestFull_ok h ..
  | .diagCounters .. => exact execDiagCounters_ok h ..
  | .cmpSplit .. => exact execCmpSplit_ok h ..
  | .cmpJoin .. => exact execCmpJoin_ok h ..
  | .mpRestart .. => exact execMpRestart_ok h ..
  | .ptpSecondCarry .. => exact execPtpSecondCarry_ok h ..
  | .timIncrWrite .. => exact execTimIncrWrite_ok h ..
  | .timStepArm .. => exact execTimStepArm_ok h ..
  | .timNowRead .. => exact execTimNowRead_ok h ..
  | .servoUpdate .. => exact execServoUpdate_ok h ..
  | .holdover .. => exact execHoldover_ok h ..
  | .sync .. => exact execSync_ok h ..
  | .followUp .. => exact execFollowUp_ok h ..
  | .delayReq .. => exact execDelayReq_ok h ..
  | .delayResp .. => exact execDelayResp_ok h ..
  | .pdelayReq .. => exact execPdelayReq_ok h ..
  | .pdelayResp .. => exact execPdelayResp_ok h ..
  | .pdelayRespFollowUp .. => exact execPdelayRespFollowUp_ok h ..
  | .announce .. => exact execAnnounce_ok h ..
  | .signaling .. => exact execSignaling_ok h ..
  | .managementMessage .. => exact execManagementMessage_ok h ..
  | .ptpMessageSend .. => exact execPtpMessageSend_ok h ..
  | .txqPop .. => exact execTxqPop_ok h ..
  | .comparatorFire .. => exact execComparatorFire_ok h ..
  | .segmentEnd .. => exact execSegmentEnd_ok h ..
  | .segmentStart .. => exact execSegmentStart_ok h ..
  | .datumStopped .. => exact execDatumStopped_ok h ..
  | .datAppPush .. => exact execDatAppPush_ok h ..
  | .encoderEdge .. => exact execEncoderEdge_ok h ..
  | .encoderZEdge .. => exact execEncoderZEdge_ok h ..
  | .encoderFit .. => exact execEncoderFit_ok h ..
  | .upstreamTimeout .. => exact execUpstreamTimeout_ok h ..
  | .segmentHandover .. => exact execSegmentHandover_ok h ..
  | .hzShort .. => exact execHzShort_ok h ..
  | .stakeFire .. => exact execStakeFire_ok h ..
  | .stakeActionDispatch .. => exact execStakeActionDispatch_ok h ..
  | .foEdgeApply .. => exact execFoEdgeApply_ok h ..
  | .arm .. => exact execArm_ok h ..
  | .disarm .. => exact execDisarm_ok h ..
  | .reload .. => exact execReload_ok h ..
  | .stkCapInfoRead .. => exact execStkCapInfoRead_ok h ..
  | .frameTransmit .. => exact execFrameTransmit_ok h ..
  | .badFrameRx .. => exact execBadFrameRx_ok h ..
  | .datumFrame .. => exact execDatumFrame_ok h ..
  | .segmentFrame .. => exact execSegmentFrame_ok h ..
  | .imageFrame .. => exact execImageFrame_ok h ..
  | .traverseAck .. => exact execTraverseAck_ok h ..
  | .heartbeat .. => exact execHeartbeat_ok h ..
  | .stateCmd .. => exact execStateCmd_ok h ..
  | .config .. => exact execConfig_ok h ..
  | .discoverResp .. => exact execDiscoverResp_ok h ..
  | .discover .. => exact execDiscover_ok h ..
  | .discDone .. => exact execDiscDone_ok h ..
  | .stationLost .. => exact execStationLost_ok h ..
  | .segNak .. => exact execSegNak_ok h ..
  | .evtNak .. => exact execEvtNak_ok h ..
  | .lineLinkChange .. => exact execLineLinkChange_ok h ..
  | .releaseStart .. => exact execReleaseStart_ok h ..
  | .plNop .. => exact execPlNop_ok h ..
  | .plLd .. => exact execPlLd_ok h ..
  | .plLdn .. => exact execPlLdn_ok h ..
  | .plAnd .. => exact execPlAnd_ok h ..
  | .plAndn .. => exact execPlAndn_ok h ..
  | .plOr .. => exact execPlOr_ok h ..
  | .plOrn .. => exact execPlOrn_ok h ..
  | .plXor .. => exact execPlXor_ok h ..
  | .plXorn .. => exact execPlXorn_ok h ..
  | .plSt .. => exact execPlSt_ok h ..
  | .plStn .. => exact execPlStn_ok h ..
  | .plSet .. => exact execPlSet_ok h ..
  | .plRst .. => exact execPlRst_ok h ..
  | .plNot .. => exact execPlNot_ok h ..
  | .plSeta .. => exact execPlSeta_ok h ..
  | .plClra .. => exact execPlClra_ok h ..
  | .plPsha .. => exact execPlPsha_ok h ..
  | .plPsho .. => exact execPlPsho_ok h ..
  | .plPshx .. => exact execPlPshx_ok h ..
  | .plPshn .. => exact execPlPshn_ok h ..
  | .plPop .. => exact execPlPop_ok h ..
  | .plPeek .. => exact execPlPeek_ok h ..
  | .plJmp .. => exact execPlJmp_ok h ..
  | .plJc .. => exact execPlJc_ok h ..
  | .plJcn .. => exact execPlJcn_ok h ..
  | .plCall .. => exact execPlCall_ok h ..
  | .plRet .. => exact execPlRet_ok h ..
  | .plRetc .. => exact execPlRetc_ok h ..
  | .plEnd .. => exact execPlEnd_ok h ..
  | .plLw .. => exact execPlLw_ok h ..
  | .plLwu .. => exact execPlLwu_ok h ..
  | .plLwd .. => exact execPlLwd_ok h ..
  | .plLwi .. => exact execPlLwi_ok h ..
  | .plSw .. => exact execPlSw_ok h ..
  | .plSwd .. => exact execPlSwd_ok h ..
  | .plSwc .. => exact execPlSwc_ok h ..
  | .plSwdc .. => exact execPlSwdc_ok h ..
  | .plAdd .. => exact execPlAdd_ok h ..
  | .plSub .. => exact execPlSub_ok h ..
  | .plMul .. => exact execPlMul_ok h ..
  | .plAddd .. => exact execPlAddd_ok h ..
  | .plSubd .. => exact execPlSubd_ok h ..
  | .plNeg .. => exact execPlNeg_ok h ..
  | .plAndw .. => exact execPlAndw_ok h ..
  | .plOrw .. => exact execPlOrw_ok h ..
  | .plXorw .. => exact execPlXorw_ok h ..
  | .plShl .. => exact execPlShl_ok h ..
  | .plShr .. => exact execPlShr_ok h ..
  | .plShru .. => exact execPlShru_ok h ..
  | .plBtst .. => exact execPlBtst_ok h ..
  | .plLwb .. => exact execPlLwb_ok h ..
  | .plCeq .. => exact execPlCeq_ok h ..
  | .plCne .. => exact execPlCne_ok h ..
  | .plClt .. => exact execPlClt_ok h ..
  | .plCle .. => exact execPlCle_ok h ..
  | .plCgt .. => exact execPlCgt_ok h ..
  | .plCge .. => exact execPlCge_ok h ..
  | .plCltu .. => exact execPlCltu_ok h ..
  | .plCgeu .. => exact execPlCgeu_ok h ..
  | .plCeqd .. => exact execPlCeqd_ok h ..
  | .plCltd .. => exact execPlCltd_ok h ..
  | .plCged .. => exact execPlCged_ok h ..
  | .plCltdu .. => exact execPlCltdu_ok h ..
  | .plCgedu .. => exact execPlCgedu_ok h ..
  | .plLov .. => exact execPlLov_ok h ..
  | .plCov .. => exact execPlCov_ok h ..
  | .plFp .. => exact execPlFp_ok h ..
  | .plFn .. => exact execPlFn_ok h ..
  | .plTon .. => exact execPlTon_ok h ..
  | .plTof .. => exact execPlTof_ok h ..
  | .plTp .. => exact execPlTp_ok h ..
  | .plTpt .. => exact execPlTpt_ok h ..
  | .plTrs .. => exact execPlTrs_ok h ..
  | .plCtu .. => exact execPlCtu_ok h ..
  | .plCtd .. => exact execPlCtd_ok h ..
  | .plCrs .. => exact execPlCrs_ok h ..
  | .plClp .. => exact execPlClp_ok h ..
  | .plCpv .. => exact execPlCpv_ok h ..
  | .plDwin .. => exact execPlDwin_ok h ..
  | .plStarm .. => exact execPlStarm_ok h ..
  | .plStdis .. => exact execPlStdis_ok h ..
  | .plSttgt .. => exact execPlSttgt_ok h ..
  | .plStrld .. => exact execPlStrld_ok h ..
  | .plCallb .. => exact execPlCallb_ok h ..
  | .undefinedOpcode .. => exact execUndefinedOpcode_ok h ..
  | .releaseEndDecision .. => exact execReleaseEndDecision_ok h ..
  | .taskDeadline .. => exact execTaskDeadline_ok h ..
  | .fixedCycleStart .. => exact execFixedCycleStart_ok h ..
  | .modeReqTask .. => exact execModeReqTask_ok h ..
  | .modeReqFixed .. => exact execModeReqFixed_ok h ..
  | .autoTaskRequest .. => exact execAutoTaskRequest_ok h ..
  | .blockCallArrival .. => exact execBlockCallArrival_ok h ..
  | .blockServiceStart .. => exact execBlockServiceStart_ok h ..
  | .blockReturn .. => exact execBlockReturn_ok h ..
  | .blockDeadline .. => exact execBlockDeadline_ok h ..
  | .selfRunDue .. => exact execSelfRunDue_ok h ..
  | .selfRunEnd .. => exact execSelfRunEnd_ok h ..
  | .coreMismatch .. => exact execCoreMismatch_ok h ..
  | .tileResyncDone .. => exact execTileResyncDone_ok h ..
  | .agreementDisagree .. => exact execAgreementDisagree_ok h ..
  | .checkerTest .. => exact execCheckerTest_ok h ..
  | .splitComplete .. => exact execSplitComplete_ok h ..
  | .joinComplete .. => exact execJoinComplete_ok h ..
  | .roleDecision .. => exact execRoleDecision_ok h ..
  | .keepaliveSend .. => exact execKeepaliveSend_ok h ..
  | .pairKeepalive .. => exact execPairKeepalive_ok h ..
  | .pairDelta .. => exact execPairDelta_ok h ..
  | .pairGenClose .. => exact execPairGenClose_ok h ..
  | .pairAck .. => exact execPairAck_ok h ..
  | .pairResyncFrame .. => exact execPairResyncFrame_ok h ..
  | .pairSwap .. => exact execPairSwap_ok h ..
  | .pairRoleNotice .. => exact execPairRoleNotice_ok h _ _ _ 0
  | .pairTime .. => exact execPairTime_ok h ..
  | .pairProgram .. => exact execPairProgram_ok h ..
  | .pairFrameCrcError .. => exact execPairFrameCrcError_ok h ..
  | .retransmit .. => exact execRetransmit_ok h ..
  | .timeExchange .. => exact execTimeExchange_ok h ..
  | .genBoundary .. => exact execGenBoundary_ok h ..
  | .genCloseSend .. => exact execGenCloseSend_ok h ..
  | .resyncReady .. => exact execResyncReady_ok h ..
  | .lossDeclared .. => exact execLossDeclared_ok h ..
  | .takeoverResume .. => exact execTakeoverResume_ok h ..
  | .isolationTimeout .. => exact execIsolationTimeout_ok h ..
  | .swapSend .. => exact execSwapSend_ok h ..
  | .handoverH .. => exact execHandoverH_ok h ..
  | .handoverTimeout .. => exact execHandoverTimeout_ok h ..
  | .handoverOutputSwitch .. => exact execHandoverOutputSwitch_ok h ..
  | .moduleRemoval .. => exact execModuleRemoval_ok h ..
  | .partnerInsertion .. => exact execPartnerInsertion_ok h ..
  | .reconfigDone .. => exact execReconfigDone_ok h ..
  | .ioInstant .. => exact execIoInstant_ok h ..
  | .inputWrite .. => exact execInputWrite_ok h ..
  | .outputApply .. => exact execOutputApply_ok h ..
  | .conversionDone .. => exact execConversionDone_ok h ..
  | .diLevelChange .. => exact execDiLevelChange_ok h ..
  | .channelDiagnostic .. => exact execChannelDiagnostic_ok h ..
  | .channelTrip .. => exact execChannelTrip_ok h ..
  | .tripRetry .. => exact execTripRetry_ok h ..
  | .vfldLow .. => exact execVfldLow_ok h ..
  | .supplyLost .. => exact execSupplyLost_ok h ..
  | .supplyRecovery .. => exact execSupplyRecovery_ok h ..
  | .restoreAck .. => exact execRestoreAck_ok h ..
  | .outEn .. => exact execOutEn_ok h ..
  | .barrierLinkSilence .. => exact execBarrierLinkSilence_ok h ..
  | .benchmark .. => exact execBenchmark_ok h ..
  | .fastInputEdge .. => exact execFastInputEdge_ok h ..
  | .fiEvPop .. => exact execFiEvPop_ok h ..
  | .foFault .. => exact execFoFault_ok h ..
  | .foRetry .. => exact execFoRetry_ok h ..
  | .controllerRestart .. => exact execControllerRestart_ok h ..
  | .canModeWrite .. => exact execCanModeWrite_ok h ..
  | .canSync .. => exact execCanSync_ok h ..
  | .canTxPush .. => exact execCanTxPush_ok h ..
  | .canFrameSent .. => exact execCanFrameSent_ok h ..
  | .idCollision .. => exact execIdCollision_ok h ..
  | .canFrameRx .. => exact execCanFrameRx_ok h ..
  | .canRxSel .. => exact execCanRxSel_ok h ..
  | .txePop .. => exact execTxePop_ok h ..
  | .canRelease .. => exact execCanRelease_ok h ..
  | .canDiscard .. => exact execCanDiscard_ok h ..
  | .canFlush .. => exact execCanFlush_ok h ..
  | .canRecover .. => exact execCanRecover_ok h ..
  | .canTscCap .. => exact execCanTscCap_ok h ..
  | .busOff .. => exact execBusOff_ok h ..
  | .busOffRecovered .. => exact execBusOffRecovered_ok h ..
  | .sramAccess .. => exact execSramAccess_ok h ..
  | .impreciseNotice .. => exact execImpreciseNotice_ok h ..
  | .bnkOwnWrite .. => exact execBnkOwnWrite_ok h ..
  | .bankRetention .. => exact execBankRetention_ok h ..
  | .bankWake .. => exact execBankWake_ok h ..
  | .wakeDone .. => exact execWakeDone_ok h ..
  | .scrub .. => exact execScrub_ok h ..
  | .backgroundTest .. => exact execBackgroundTest_ok h ..
  | .lpdPatrol .. => exact execLpdPatrol_ok h ..
  | .lckRead .. => exact execLckRead_ok h ..
  | .lockRelease .. => exact execLockRelease_ok h ..
  | .lockForce .. => exact execLockForce_ok h ..
  | .mpuSync .. => exact execMpuSync_ok h ..
  | .retirementRecord .. => exact execRetirementRecord_ok h ..
  | .periodEnd .. => exact execPeriodEnd_ok h ..
  | .recSel .. => exact execRecSel_ok h ..
  | .feedLow .. => exact execFeedLow_ok h ..
  | .feedLoss .. => exact execFeedLoss_ok h ..
  | .feedGood .. => exact execFeedGood_ok h ..
  | .vbakLow .. => exact execVbakLow_ok h ..
  | .holdupMeasure .. => exact execHoldupMeasure_ok h ..
  | .brownout .. => exact execBrownout_ok h ..
  | .watchdog .. => exact execWatchdog_ok h ..
  | .hot .. => exact execHot_ok h ..
  | .thermal .. => exact execThermal_ok h ..
  | .moduleReset .. => exact execModuleReset_ok h ..
  | .powerOnReset .. => exact execPowerOnReset_ok h ..
  | .boot .. => exact execBoot_ok h ..
  | .timeSettle .. => exact execTimeSettle_ok h ..
  | .pwrDomReq .. => exact execPwrDomReq_ok h ..
  | .domainSwitchDone .. => exact execDomainSwitchDone_ok h ..
  | .updOpen .. => exact execUpdOpen_ok h ..
  | .updBlock .. => exact execUpdBlock_ok h ..
  | .updClose .. => exact execUpdClose_ok h ..
  | .updAbort .. => exact execUpdAbort_ok h ..
  | .sessionTimeout .. => exact execSessionTimeout_ok h ..
  | .recoveryAnnounce .. => exact execRecoveryAnnounce_ok h ..
  | .activation .. => exact execActivation_ok h ..
  | .floorRequest .. => exact execFloorRequest_ok h ..
  | .floorBurnDone .. => exact execFloorBurnDone_ok h ..
  | .warnEnd .. => exact execWarnEnd_ok h ..
  | .partnerSilence .. => exact execPartnerSilence_ok h ..
  | .pairLaneLinkChange .. => exact execPairLaneLinkChange_ok h ..
  | .serviceLinkChange .. => exact execServiceLinkChange_ok h ..
  | .canBusError .. => exact execCanBusError_ok h ..
  | .votedRead .. => exact execVotedRead_ok h ..
  | .resyncCopyEnd .. => exact execResyncCopyEnd_ok h ..
  | .pairDatumTrigger .. => exact execPairDatumTrigger_ok h ..
  | .partnerPresentLoss .. => exact execPartnerPresentLoss_ok h ..
  | .feedLowClear .. => exact execFeedLowClear_ok h ..
  | .vbakLoss .. => exact execVbakLoss_ok h ..
  | .thermalResetRelease .. => exact execThermalResetRelease_ok h ..
  | .slotEraseDone .. => exact execSlotEraseDone_ok h ..
  | .tripSequenceEnd .. => exact execTripSequenceEnd_ok h ..
  | .preemptionVerified .. => exact execPreemptionVerified_ok h ..

/-- A command completes from canonical memories, and keeps them with the order code and the queue. -/
theorem exec_completes (c : Instr) {s : State} (h : s.inv) :
    Completes c s (fun t => t.inv ∧ t.order = s.order ∧ t.pending = s.pending) := by
  obtain ⟨t, ht, ho, hq, hw⟩ := exec_ok (o := s.order) (q := s.pending) ⟨rfl, rfl, h⟩ c
  exact ⟨t, ht, hw, ho, hq⟩

/-- A step from canonical memories answers a state that keeps them, with the queue behind its front. -/
theorem step_completes {s : State} (h : s.inv) :
    ∃ t, step s = .next t ∧ t.inv ∧ t.order = s.order ∧ t.pending = s.pending.tail := by
  cases hp : s.pending with
  | nil => exact ⟨s, step_of_empty hp, h, rfl, hp⟩
  | cons c rest =>
    obtain ⟨t, ht, hi, ho, hq⟩ := exec_completes c (s := { s with pending := rest }) h
    exact ⟨t, (step_of_pending hp).trans ht, hi, ho, hq⟩

/-- Settles O59: the step lemma, and the law of every command. -/
theorem stepKeepsMemoriesAndQueue : Obligations.StepKeepsMemoriesAndQueue := by
  refine ⟨fun s t h hst => ?_, fun c s h => exec_completes c h, fun s h => ?_⟩
  · obtain ⟨u, hu, hkeeps⟩ := step_completes h
    cases hu.symm.trans hst
    exact hkeeps
  · obtain ⟨t, ht, -⟩ := step_completes h
    exact ⟨t, ht⟩

end Sys2Proof.Proofs
end

section
/-!
PROOFS. Sparse tables and mailbox responses (03_mailboxes_and_commands): the set that a swap makes active, and the response
with which a command completes.
-/
namespace Sys2Proof.Proofs
open Sys2Proof Sys2Proof.Machine

/-! ### Sparse tables -/

section
variable {α β : Type}

theorem sget_append (d : α) (m n : Sparse α) (k : Nat) : sget d (m ++ n) k = sget (sget d n k) m k := by
  induction m with
  | nil => rfl
  | cons e r ih => simp only [List.cons_append, sget, ih]

theorem sget_filter_key (d : α) (m : Sparse α) (p : Nat → Bool) (k : Nat) :
    sget d (m.filter (fun e => p e.1)) k = if p k then sget d m k else d := by
  induction m with
  | nil => simp [sget]
  | cons e r ih =>
    obtain ⟨j, v⟩ := e
    by_cases hk : k = j
    · subst hk
      by_cases hp : p k <;> simp [hp, sget, ih]
    · by_cases hp : p j <;> simp [hp, sget, ih, hk]

theorem sget_map (d : α) (f : α → β) (m : Sparse α) (k : Nat) :
    sget (f d) (m.map (fun e => (e.1, f e.2))) k = f (sget d m k) := by
  induction m with
  | nil => rfl
  | cons e r ih => simp only [List.map_cons, sget, ih, apply_ite f]

end

/-! ### The set that a swap makes active (R68) -/

theorem keyCat_cfgKey {cat it w : Nat} (hi : it < 8192) (hw : w < 1024) : keyCat (cfgKey cat it w) = cat := by
  unfold keyCat cfgKey; omega

theorem sget_filter_keyCat (d : Word) (m : Sparse Word) (c k : Nat) :
    sget d (m.filter (fun e => decide (keyCat e.1 = c))) k = if keyCat k = c then sget d m k else d := by
  simpa using sget_filter_key d m (fun j => decide (keyCat j = c)) k

/-- A word of a category below 8 reads in the merged set as in the set from which its category is taken. -/
theorem sget_mergeSets (mask : Nat) (a b : Sparse Word) {k : Nat} (hk : keyCat k < 8) :
    sget 0 (mergeSets mask a b) k = sget 0 (if covers mask (keyCat k) then b else a) k := by
  unfold mergeSets
  simp only [show List.range 8 = [0, 1, 2, 3, 4, 5, 6, 7] from rfl, List.flatMap_cons, List.flatMap_nil, sget_append,
    sget_filter_keyCat, sget]
  generalize keyCat k = c at hk
  match c, hk with
  | 0, _ | 1, _ | 2, _ | 3, _ | 4, _ | 5, _ | 6, _ | 7, _ => simp

/-- Settles O23: the word stands in the part of the merged set that its category gives. -/
theorem swapTakesTheCoveredCategories : Obligations.SwapTakesTheCoveredCategories := by
  intro mask cat it w a b hc hi hw
  have hcat := keyCat_cfgKey (cat := cat) hi hw
  have hcov : covers mask cat = decide (1 ≤ cat ∧ mask / 2 ^ (cat - 1) % 2 = 1) := by
    have hle : cat ≤ 7 := by omega
    simp [covers, hle]
  rw [sget_mergeSets _ _ _ (by rw [hcat]; exact hc), hcat, hcov]
  simp only [decide_eq_true_eq]
  split <;> rfl

/-! ### Responses (R54, R60, R62, Table 3.4) -/

theorem toNat_w32_of_lt {v : Nat} (hv : v < 4294967296) : (w32 v).toNat = v := (BitVec.toNat_ofNat v 32).trans (Nat.mod_eq_of_lt hv)

theorem fld_w32 {v : Nat} (hv : v < 4294967296) (hi lo : Nat) : (w32 v).fld hi lo = v / 2 ^ lo % 2 ^ (hi + 1 - lo) := by
  unfold Word.fld
  rw [toNat_w32_of_lt hv]

theorem bit_w32 {v : Nat} (hv : v < 4294967296) (i : Nat) : (w32 v).bit i = decide (v / 2 ^ i % 2 = 1) := by
  unfold Word.bit BitVec.getLsbD
  rw [toNat_w32_of_lt hv, Nat.testBit_eq_decide_div_mod_eq]

theorem ofBool_le (b : Bool) : ofBool b ≤ 1 := by cases b <;> decide

theorem decide_ofBool (b : Bool) : decide (ofBool b = 1) = b := by cases b <;> rfl

/-- The word of a header: CODE, TYPE 2, REPLAY and SENDER_RESET. -/
theorem header_fields {code : Nat} (hc : code < 65536) (r x : Bool) (h : Word)
    (he : h = w32 (code + 2 * 2 ^ 16 + ofBool r * 2 ^ 20 + ofBool x * 2 ^ 21)) :
    h.fld 15 0 = code ∧ h.fld 19 16 = 2 ∧ h.bit 20 = r ∧ h.bit 21 = x := by
  have hr := ofBool_le r
  have hx := ofBool_le x
  have hv : code + 2 * 2 ^ 16 + ofBool r * 2 ^ 20 + ofBool x * 2 ^ 21 < 4294967296 := by omega
  have h20 : (code + 2 * 2 ^ 16 + ofBool r * 2 ^ 20 + ofBool x * 2 ^ 21) / 2 ^ 20 % 2 = ofBool r := by omega
  have h21 : (code + 2 * 2 ^ 16 + ofBool r * 2 ^ 20 + ofBool x * 2 ^ 21) / 2 ^ 21 % 2 = ofBool x := by omega
  subst he
  refine ⟨?_, ?_, ?_, ?_⟩
  · rw [fld_w32 hv]
    omega
  · rw [fld_w32 hv]
    omega
  · rw [bit_w32 hv, h20, decide_ofBool]
  · rw [bit_w32 hv, h21, decide_ofBool]

theorem status_fields {st d : Nat} (hs : st < 65536) (hd : d < 65536) (h : Word)
    (he : h = w32 (st % 65536 + d % 65536 * 65536)) : h.fld 15 0 = st ∧ h.fld 31 16 = d := by
  have hv : st % 65536 + d % 65536 * 65536 < 4294967296 := by omega
  subst he
  rw [fld_w32 hv, fld_w32 hv]
  omega

theorem code_lt (c : Cmd) : c.code < 65536 := Nat.mod_lt _ (by decide)

theorem item_take {ws : List Word} {n k : Nat} (hk : k < n) : item (ws.take n) k = item ws k := by
  simp [item, List.getD_eq_getElem?_getD, hk]

theorem length_responseWords (c : Cmd) {len : Nat} (hl : len ≤ 16) (st d : Nat) (rs : List Word) :
    (responseWords c len st d rs).length = len := by
  simp [responseWords]; omega

/-- Words 0 to 3 of a response that holds them. -/
theorem responseWords_head (c : Cmd) {len : Nat} (hl : 4 ≤ len) (st d : Nat) (rs : List Word) :
    item (responseWords c len st d rs) 0 =
        w32 (c.code + 2 * 2 ^ 16 + ofBool c.replay * 2 ^ 20 + ofBool c.sreset * 2 ^ 21) ∧
      item (responseWords c len st d rs) 1 = item c.words 1 ∧
      item (responseWords c len st d rs) 2 = w32 (st % 65536 + d % 65536 * 65536) ∧
      item (responseWords c len st d rs) 3 = 0 := by
  simp only [responseWords]
  refine ⟨?_, ?_, ?_, ?_⟩ <;> exact item_take (by omega)

theorem item_append_replicate (rs : List Word) (n k : Nat) : item (rs ++ List.replicate n 0) k = item rs k := by
  simp only [item, List.getD_eq_getElem?_getD, List.getElem?_append, List.getElem?_replicate]
  split
  · rfl
  · rename_i h
    rw [List.getElem?_eq_none (by omega)]
    split <;> rfl

/-- The words behind the head are the results, padded with zeros. -/
theorem responseWords_results (c : Cmd) {len k : Nat} (hk : 4 + k < len) (st d : Nat) (rs : List Word) :
    item (responseWords c len st d rs) (4 + k) = item rs k := by
  rw [← item_append_replicate rs 16 k]
  refine (item_take hk).trans ?_
  rw [Nat.add_comm 4 k]; rfl

/-- A pair in which no command has the number of the one that ends keeps everything. -/
theorem finish_absent {p : MbxPair} {id : Nat} (h : ∀ x ∈ p.cmds, x.id ≠ id) (st d : Nat) (rs : List Word) :
    p.finish id st d rs = p := by
  unfold MbxPair.finish
  rw [List.find?_eq_none.2 (by simpa using h)]

/-- The pair whose command `c` completes. -/
theorem finish_found {p : MbxPair} {id : Nat} {c : Cmd} (h : p.cmds.find? (fun x => x.id = id) = some c)
    (hs : c.stage ≠ .done) (st d : Nat) (rs : List Word) :
    p.finish id st d rs =
      { cmds := p.cmds.filter (fun x => decide (x.stage = .done)) ++ c.complete st d rs ::
          p.cmds.filter (fun x => decide (x.stage ≠ .done) && decide (x.id ≠ id)),
        stored := (((c.complete st d rs).response, false) :: p.stored).take 4 } := by
  unfold MbxPair.finish
  simp only [h, if_neg hs]

theorem finish_mpPair (s : State) (id st d : Nat) (rs : List Word) (k : Nat) :
    (s.finish id st d rs).mpPair k = (s.mpPair k).finish id st d rs :=
  (congrArg (fun p => sget p _ k) (finish_absent (p := {}) (by simp) st d rs).symm).trans
    (sget_map {} (fun p : MbxPair => p.finish id st d rs) s.mp.pairs k)

/-- A command of a CODE other than ECHO completes with the words of Table 3.4. -/
theorem complete_of_ne_echo {c : Cmd} (h : c.code ≠ 3) (st d : Nat) (rs : List Word) :
    c.complete st d rs = { c with stage := .done, response := responseWords c (responseLen rs.length) st d rs } := by
  unfold Cmd.complete
  rw [if_neg (show ¬ (item c.words 0).fld 15 0 = 3 from h)]

/-- Settles O22: the response that the command completes with, word by word, and its place in the pair. -/
theorem responsesFollowTheTable : Obligations.ResponsesFollowTheTable := by
  intro s n id st d rs c hfind hstage hcode hst hd
  have hlen : 8 ≤ responseLen rs.length ∧ responseLen rs.length ≤ 16 := by unfold responseLen; omega
  have hlength := length_responseWords c hlen.2 st d rs
  obtain ⟨h0, h1, h2, h3⟩ := responseWords_head c (len := responseLen rs.length) (by omega) st d rs
  obtain ⟨hc, ht, hr, hx⟩ := header_fields (code_lt c) c.replay c.sreset _ h0
  obtain ⟨hs, hdt⟩ := status_fields hst hd _ h2
  have hpair := (finish_mpPair s id st d rs n).trans (finish_found hfind hstage st d rs)
  rw [complete_of_ne_echo hcode] at hpair
  refine ⟨responseWords c (responseLen rs.length) st d rs, hlength, hc, ht, hr, hx, h1, hs, hdt, h3,
    fun k hk => responseWords_results c (hlength ▸ hk) st d rs, ?slot, ?others, ?stored, fun k hk => ?_⟩
  case slot => simp [hpair]
  case others =>
    intro x hx hne
    by_cases hdone : x.stage = .done <;> simp [hpair, hx, hne, hdone]
  case stored => rw [hpair]
  rw [finish_mpPair, finish_absent hk]

end Sys2Proof.Proofs
end

section
/-!
PROOFS. Accesses to the memories (15_memory_and_protection): which bytes a write changes, and what it leaves in them.
-/
namespace Sys2Proof.Proofs
open Sys2Proof Sys2Proof.Machine

/-- What keeps the contents of the memories keeps every byte. -/
theorem byteAt_of_keep {s t : State} (h : t.keep = s.keep) (a : Nat) : t.byteAt a = s.byteAt a := by
  simp only [State.keep, Prod.mk.injEq] at h
  obtain ⟨-, -, hs, hl⟩ := h
  exact byteAt_congr hs hl a

theorem sameMemory_of_keep {s t : State} (h : t.keep = s.keep) : SameMemory s t := byteAt_of_keep h

theorem byteAt_ite {p : Prop} [Decidable p] {s t : State} {c : Nat} {b : Byte} (hs : s.byteAt c = b) (ht : t.byteAt c = b) :
    (if p then s else t).byteAt c = b := by
  split <;> assumption

/-! ### The words of a write -/

theorem getD_part (bytes : List Byte) (o n k : Nat) (hk : k < n) : ((bytes.drop o).take n).getD k 0 = bytes.getD (o + k) 0 := by
  simp [List.getD_eq_getElem?_getD, hk]

/-- A byte after the part of a write that falls on the word at `w`: the byte written, within the span and the word. -/
theorem memWord_byteAt (s : State) (addr : Nat) (bytes : List Byte) (w c : Nat) :
    (s.memWord addr bytes w).byteAt c =
      if (w ≤ c ∧ c < w + 8) ∧ addr ≤ c ∧ c < addr + bytes.length ∧ (inSram c || inLpd c) = true then bytes.getD (c - addr) 0
      else s.byteAt c := by
  obtain ⟨o, ho⟩ : ∃ o, o = max addr w - addr := ⟨_, rfl⟩
  obtain ⟨n, hn⟩ : ∃ n, n = min (addr + bytes.length) (w + 8) - max addr w := ⟨_, rfl⟩
  have hput : ∀ t : State, t.keep = s.keep →
      ({ t with mem := t.mem.setBytes (addr + o) ((bytes.drop o).take n) } : State).byteAt c =
        if (w ≤ c ∧ c < w + 8) ∧ addr ≤ c ∧ c < addr + bytes.length ∧ (inSram c || inLpd c) = true then bytes.getD (c - addr) 0
        else s.byteAt c := by
    intro t ht
    rw [byteAt_setBytes, List.length_take, List.length_drop]
    refine ite_congr (propext ⟨fun ⟨h1, h2, h3⟩ => ⟨⟨?_, ?_⟩, ?_, ?_, h3⟩, fun ⟨⟨h1, h2⟩, h3, h4, h5⟩ => ⟨?_, ?_, h5⟩⟩)
      (fun ⟨⟨h1, h2⟩, h3, h4, _⟩ => ?_) (fun _ => byteAt_of_keep ht c)
    iterate 6 omega
    rw [getD_part _ _ _ _ (by omega)]
    congr 1; omega
  have hecc : ∀ (t : State) (v : Nat), (t.setEcc w v).byteAt c = t.byteAt c := fun t v => byteAt_of_keep (State.setEcc_keep t w v) c
  unfold State.memWord spanPart
  simp only [← ho, ← hn]
  by_cases h8 : n = 8
  · rw [if_pos h8, hecc]; exact hput s rfl
  · rw [if_neg h8]
    by_cases he : s.eccAt w = 0
    · rw [if_pos he]; exact hput s rfl
    · rw [if_neg he, hecc]; exact hput _ (State.corrected_keep s w)

/-- A byte after the words `ws` of a write. -/
theorem foldl_memWord_byteAt (s : State) (addr : Nat) (bytes : List Byte) (ws : List Nat) (c : Nat) :
    (ws.foldl (fun s w => s.memWord addr bytes w) s).byteAt c =
      if (∃ w ∈ ws, w ≤ c ∧ c < w + 8) ∧ addr ≤ c ∧ c < addr + bytes.length ∧ (inSram c || inLpd c) = true
      then bytes.getD (c - addr) 0 else s.byteAt c := by
  induction ws generalizing s with
  | nil => simp
  | cons w ws ih =>
    simp only [List.foldl_cons, ih, memWord_byteAt, List.mem_cons, exists_eq_or_imp]
    by_cases hspan : addr ≤ c ∧ c < addr + bytes.length ∧ (inSram c || inLpd c) = true
    · by_cases hw : w ≤ c ∧ c < w + 8 <;> simp only [hspan, hw, true_or, false_or, and_true, if_true, if_false, ite_self]
    · simp only [hspan, and_false, if_false]

/-- Every byte of a span lies in one of its words. -/
theorem mem_spanWords {addr len c : Nat} (h1 : addr ≤ c) (h2 : c < addr + len) : ∃ w ∈ spanWords addr len, w ≤ c ∧ c < w + 8 := by
  refine ⟨c / 8 * 8, ?_, by omega, by omega⟩
  simp only [spanWords, List.mem_map, List.mem_range]
  exact ⟨c / 8 - addr / 8, by omega, by omega⟩

theorem writeWords_byteAt_outside (s : State) (addr : Nat) (bytes : List Byte) (ws : List Nat) {c : Nat}
    (h : c < addr ∨ addr + bytes.length ≤ c) : (s.writeWords addr bytes ws).1.byteAt c = s.byteAt c := by
  unfold State.writeWords
  split
  · exact byteAt_of_keep (State.uncorrectable_keep s _) c
  · rw [foldl_memWord_byteAt, if_neg (by omega)]

/-- A write none of whose words is uncorrectable is done. -/
theorem writeWords_done {s : State} {addr : Nat} {bytes : List Byte} {ws : List Nat} (h : ∀ w ∈ ws, s.eccAt w < 2) :
    s.writeWords addr bytes ws = (ws.foldl (fun s w => s.memWord addr bytes w) s, none) := by
  unfold State.writeWords
  have hnone : ws.find? (fun w => decide ((spanPart addr bytes.length w).2 ≠ 8) && decide (2 ≤ s.eccAt w)) = none := by
    rw [List.find?_eq_none]
    intro w hw
    have := h w hw
    simp only [Bool.and_eq_true, decide_eq_true_eq, not_and]
    omega
  rw [hnone]

/-! ### A write and a read -/

theorem memWrite_byteAt_outside (s : State) (m addr : Nat) (bytes : List Byte) {c : Nat}
    (h : c < addr ∨ addr + bytes.length ≤ c) : (s.memWrite m addr bytes).1.byteAt c = s.byteAt c := by
  have hwords := (writeWords_byteAt_outside (s.wakeFor addr) addr bytes (spanWords addr bytes.length) h).trans
    (byteAt_of_keep (State.wakeFor_keep s addr) c)
  unfold State.memWrite
  split
  · rfl
  · split
    · rename_i t ht
      rw [ht] at hwords
      exact (byteAt_of_keep (State.snoop_keep t addr bytes) c).trans hwords
    · rename_i t a ht
      rw [ht] at hwords
      exact hwords

/-- A violation stops a write before it changes anything. -/
theorem memWrite_violation {s : State} {m addr : Nat} {bytes : List Byte} (h : s.memViolation m true addr bytes.length ≠ none) :
    (s.memWrite m addr bytes).1 = s := by
  unfold State.memWrite
  split
  · rfl
  · contradiction

/-- The bytes of a span that a check of the memories grants exist. -/
theorem present_of_memViolation {s : State} {m addr len : Nat} {w : Bool} (h : s.memViolation m w addr len = none) {c : Nat}
    (h1 : addr ≤ c) (h2 : c < addr + len) : (inSram c || inLpd c) = true := by
  unfold State.memViolation at h
  split at h
  · cases h
  · dsimp only at h
    split at h
    · cases h
    · rename_i hpresent
      rw [List.find?_eq_none] at hpresent
      have := hpresent c (List.mem_map.2 ⟨c - addr, List.mem_range.2 (by omega), by omega⟩)
      cases hs : inSram c <;> cases hl : inLpd c <;> simp_all

theorem wakeFor_eccAt (s : State) (addr w : Nat) : (s.wakeFor addr).eccAt w = s.eccAt w := by
  have hwake : ∀ n, (s.wakeBank n).mem.sramEcc = s.mem.sramEcc ∧ (s.wakeBank n).mem.lpdEcc = s.mem.lpdEcc := fun _ => ⟨rfl, rfl⟩
  unfold State.wakeFor
  split
  · obtain ⟨hs, hl⟩ := hwake (bankOf addr)
    unfold State.eccAt
    rw [hs, hl]
  · rfl

/-- A write that the checks pass, in words without an uncorrectable error, leaves the bytes written. -/
theorem memWrite_byteAt_written {s : State} {m addr : Nat} {bytes : List Byte}
    (hv : s.memViolation m true addr bytes.length = none) (he : ∀ w ∈ spanWords addr bytes.length, s.eccAt w < 2) {c : Nat}
    (h1 : addr ≤ c) (h2 : c < addr + bytes.length) : (s.memWrite m addr bytes).1.byteAt c = bytes.getD (c - addr) 0 := by
  have hdone := writeWords_done (s := s.wakeFor addr) (addr := addr) (bytes := bytes) (ws := spanWords addr bytes.length)
    (fun w hw => (wakeFor_eccAt s addr w).symm ▸ he w hw)
  unfold State.memWrite
  simp only [hv, hdone]
  rw [byteAt_of_keep (State.snoop_keep ..), foldl_memWord_byteAt,
    if_pos ⟨mem_spanWords h1 h2, h1, h2, present_of_memViolation hv h1 h2⟩]

/-- What becomes of the answer of an access stores no byte. -/
theorem memAccess_byteAt (s : State) (m : Nat) (w : Bool) (addr len : Nat) (data : List Byte) (c : Nat) :
    (s.memAccess m w addr len data).1.byteAt c =
      (if w then s.memWrite m addr ((data ++ List.replicate len (0 : Byte)).take len) else s.memRead m addr len).1.byteAt c := by
  unfold State.memAccess
  dsimp only
  split
  · rfl
  · split
    · rfl
    · exact byteAt_of_keep (State.violation_keep ..) c
  · split <;> rfl

theorem length_padded (data : List Byte) (len : Nat) : ((data ++ List.replicate len (0 : Byte)).take len).length = len := by
  simp

/-! ### SRAM_ACCESS -/

/-- An access of a size that there is, or that a check refuses, is the access to the memories; its answer stores no byte. -/
theorem sramAccess_byteAt {u : State} {m addr len : Nat} {w : Bool} {data : List Byte}
    (h : goodSpan addr len = true ∨ u.memViolation m w addr len ≠ none) (c : Nat) :
    (u.sramAccess m w addr len data []).byteAt c =
      if u.issues m then (u.memAccess m w addr len data).1.byteAt c else u.byteAt c := by
  have hspan : (!goodSpan addr len && decide (u.memViolation m w addr len = none)) = false := by
    rcases h with h | h <;> simp [h]
  unfold State.sramAccess
  by_cases hi : u.issues m = true
  · simp only [hi, hspan, Bool.not_true, Bool.false_eq_true, if_false, if_true, State.strike, List.foldl_nil]
    split
    · split <;> rfl
    · exact byteAt_ite (byteAt_of_keep (State.errorAnswer_keep ..) c) rfl
  · simp [hi]

theorem sramAccess_of_clock {dt m addr len : Nat} {w : Bool} {data : List Byte} {s u : State}
    (hu : s.clock dt (memEvs m w addr len) = u) :
    exec (.sramAccess dt m w addr len data []) s = .next (u.sramAccess m w addr len data []) := by
  subst hu; rfl

/-- Settles O55: outside the span no word of a write stores a byte; inside it, the words cover every byte. -/
theorem writesChangeOnlyTheirBytes : Obligations.WritesChangeOnlyTheirBytes := by
  refine ⟨fun dt m addr len w data s t u hu hgood ht => ?_, fun dt m addr data s u hu hi hg hv he => ?_⟩
  · cases (sramAccess_of_clock hu).symm.trans ht
    have hclock : ∀ a, u.byteAt a = s.byteAt a := fun a => byteAt_of_keep (hu ▸ State.clock_keep s dt _) a
    refine ⟨fun a ha => ?outside, fun hv a => ?refused⟩ <;> rw [sramAccess_byteAt hgood, memAccess_byteAt, hclock a]
    case outside =>
      by_cases hi : u.issues m = true
      · rw [if_pos hi]
        by_cases hw : w = true
        · rw [if_pos hw, memWrite_byteAt_outside _ _ _ _ (by rw [length_padded]; simpa [hw] using ha), hclock]
        · rw [if_neg hw]
          exact (byteAt_of_keep (State.memRead_keep ..) a).trans (hclock a)
      · rw [if_neg hi]
    case refused =>
      by_cases hi : u.issues m = true
      · rw [if_pos hi]
        by_cases hw : w = true
        · rw [if_pos hw, memWrite_violation (by rw [length_padded]; exact hw ▸ hv), hclock]
        · rw [if_neg hw]
          exact (byteAt_of_keep (State.memRead_keep ..) a).trans (hclock a)
      · rw [if_neg hi]
  · refine ⟨_, sramAccess_of_clock hu, fun k hk => ?_⟩
    have hdata : (data ++ List.replicate data.length (0 : Byte)).take data.length = data := by simp
    rw [sramAccess_byteAt (.inl hg), memAccess_byteAt, if_pos hi, if_pos rfl, hdata,
      memWrite_byteAt_written hv he (by omega) (by omega), Nat.add_sub_cancel_left]

end Sys2Proof.Proofs
end

section
/-!
PROOFS. Registers that act on a write: for each the rule of its unit, and the write of one register that gets through.
-/
namespace Sys2Proof.Proofs
open Sys2Proof Sys2Proof.Machine

/-! ### Commands whose effect comes after some clocks -/

section
variable {dt : Nat} {es : List Ev} {s t u : State} {f : State → State}

theorem next_of_after (hu : s.advance dt = u) (hf : f u = t) : after dt s f = .next t := by
  subst hu; exact congrArg Host.Outcome.next hf

theorem next_of_afterEv (hu : s.clock dt es = u) (hf : f u = t) : afterEv dt es s f = .next t := by
  subst hu; exact congrArg Host.Outcome.next hf

end

/-! ### Writes that act -/

/-- At `a` stands a register of which the bits `live` exist; its unit refuses a write as `r` says, and takes one as `f`
says. -/
def WritesAs (a : Nat) (live : Word) (r : State → Nat → Word → Option Nat) (f : State → Nat → Word → State) : Prop :=
  ∃ (d : RegDesc) (i j : Nat), regAt a = some (d, i, j) ∧ d.live = live ∧ showsSet d.tag = false ∧
    ∀ (u : State) (m : Nat) (v : Word), u.unitRefuses m d i v = r u m v ∧ u.writeUnit m d i j a v = f u m v

/-- The unit refuses no write of its register. -/
def granted : State → Nat → Word → Option Nat := fun _ _ _ => none

section
variable {a m : Nat} {live v : Word} {r : State → Nat → Word → Option Nat} {f : State → Nat → Word → State} {u : State}

/-- A write that gets through and sets no bit that does not exist is what the unit makes of it. -/
theorem WritesAs.single_of_granted (h : WritesAs a live r f) (ho : u.opens m true a = true) (hr : r u m v = none)
    (hv : v &&& ~~~live = 0) : u.single m true a v = f u m v := by
  obtain ⟨d, i, j, hd, rfl, hs, hunit⟩ := h
  obtain ⟨hrefuse, hw⟩ := hunit u m v
  exact (single_write_unit ho hd (hrefuse.trans hr) hs hv).trans hw

theorem WritesAs.single (h : WritesAs a live granted f) (ho : u.opens m true a = true) (hv : v &&& ~~~live = 0) :
    u.single m true a v = f u m v :=
  h.single_of_granted ho rfl hv

/-- A write that its unit refuses is the violation of the KIND that the unit gives. -/
theorem WritesAs.access_refused (h : WritesAs a live r f) (ho : u.opens m true a = true) {k : Nat} (hr : r u m v = some k) :
    u.access m true a v = u.refuse m k true a := by
  obtain ⟨d, i, j, hd, -, -, hunit⟩ := h
  rw [access_opens ho, if_pos rfl]
  unfold State.writeAt
  simp only [hd, (hunit u m v).1, hr]

end

/-- A register in which every bit is stored takes the value written. -/
theorem plainWrite_full {u : State} {d : RegDesc} {i a : Nat} (v : Word) (hs : irqStatus d.tag i = none)
    (he : irqEnable d.tag i = none) (hw : d.w1c = 0) (hr : d.rw = BitVec.allOnes 32) : u.plainWrite d i a v = u.setReg a v := by
  unfold State.plainWrite
  simp only [hs, he, hw, hr, BitVec.and_allOnes, BitVec.not_allOnes, BitVec.and_zero, BitVec.zero_and, BitVec.zero_or]

/-! ### The registers -/

theorem writesAs_rstReq : WritesAs Reg.SYS_RST_REQ 0xFFFF0001 granted (fun u _ v => u.rstReq v) :=
  ⟨_, _, _, rfl, rfl, rfl, fun _ _ _ => ⟨rfl, rfl⟩⟩

theorem writesAs_domReq : WritesAs Reg.PWR_DOM_REQ 0x1021C granted (fun u _ v => u.domReq v) :=
  ⟨_, _, _, rfl, rfl, rfl, fun _ _ _ => ⟨rfl, rfl⟩⟩

theorem writesAs_mbxPost {n : Nat} (hn : n < 8) : WritesAs (Reg.MBX_POST n) 0x11F granted (fun u _ v => u.mbxPost n v) :=
  match n, hn with
  | 0, _ | 1, _ | 2, _ | 3, _ | 4, _ | 5, _ | 6, _ | 7, _ => ⟨_, _, _, rfl, rfl, rfl, fun _ _ _ => ⟨rfl, rfl⟩⟩

theorem writesAs_mbxTake {n : Nat} (h8 : 8 ≤ n) (hn : n < 16) :
    WritesAs (Reg.MBX_TAKE n) 1 granted (fun u _ v => u.mbxTake n v) :=
  match n, h8, hn with
  | 8, _, _ | 9, _, _ | 10, _, _ | 11, _, _ | 12, _, _ | 13, _, _ | 14, _, _ | 15, _, _ => ⟨_, _, _, rfl, rfl, rfl, fun _ _ _ => ⟨rfl, rfl⟩⟩
  | _ + 16, _, h => absurd h (by omega)

theorem writesAs_mbxHrst {n : Nat} (hn : n < 16) : WritesAs (Reg.MBX_HRST n) 1 granted (fun u _ v => u.mbxHostReset n v) :=
  match n, hn with
  | 0, _ | 1, _ | 2, _ | 3, _ | 4, _ | 5, _ | 6, _ | 7, _ | 8, _ | 9, _ | 10, _ | 11, _ | 12, _ | 13, _ | 14, _ | 15, _ => ⟨_, _, _, rfl, rfl, rfl, fun _ _ _ => ⟨rfl, rfl⟩⟩
  | _ + 16, h => absurd h (by omega)

theorem writesAs_incrHi :
    WritesAs Reg.TIM_INCR_HI 0xF granted (fun u m v => u.writeIncr m (u.lowHalf m Reg.TIM_INCR_LO).toNat v) :=
  ⟨_, _, _, rfl, rfl, rfl, fun _ _ _ => ⟨rfl, rfl⟩⟩

/-- A step is refused while STEP_USED is 1 (R78). -/
theorem writesAs_stepHi :
    WritesAs Reg.TIM_STEP_HI 0xFFFFFFFF (fun u _ _ => if u.regB Reg.TIM_STS 1 then some 5 else none)
      (fun u m v => u.writeStep m (u.lowHalf m Reg.TIM_STEP_LO).toNat v) :=
  ⟨_, _, _, rfl, rfl, rfl, fun _ _ _ => ⟨rfl, rfl⟩⟩

theorem writesAs_txqPop {n : Nat} (hn : n < 4) :
    WritesAs (Reg.TIM_PORTn_TXQ_POP n) 1 granted (fun u _ v => u.txqPop n v) :=
  match n, hn with
  | 0, _ | 1, _ | 2, _ | 3, _ => ⟨_, _, _, rfl, rfl, rfl, fun _ _ _ => ⟨rfl, rfl⟩⟩

theorem writesAs_appCtl {d : Nat} (hd : d < 8) :
    WritesAs (Reg.DAT_APP_CTL d) 1 granted (fun u _ v => if v.bit 0 then u.push d else u) :=
  match d, hd with
  | 0, _ | 1, _ | 2, _ | 3, _ | 4, _ | 5, _ | 6, _ | 7, _ => ⟨_, _, _, rfl, rfl, rfl, fun _ _ _ => ⟨rfl, rfl⟩⟩

theorem writesAs_modeReq : WritesAs Reg.PLM_MODE_REQ 3 granted (fun u _ v => u.modeWrite v) :=
  ⟨_, _, _, rfl, rfl, rfl, fun _ _ _ => ⟨rfl, rfl⟩⟩

theorem writesAs_grpAck {g : Nat} (hg : g < 2) : WritesAs (Reg.GRP_ACK g) 1 granted (fun u _ v => u.restoreAck g v) :=
  match g, hg with
  | 0, _ | 1, _ => ⟨_, _, _, rfl, rfl, rfl, fun _ _ _ => ⟨rfl, rfl⟩⟩

theorem writesAs_grpCtl {g : Nat} (hg : g < 2) :
    WritesAs (Reg.GRP_CTL g) 1 granted (fun u _ v => u.grpEnables g v.toNat (u.reg (Reg.GRP_CHEN g)).toNat) :=
  match g, hg with
  | 0, _ | 1, _ => ⟨_, _, _, rfl, rfl, rfl, fun _ _ _ => ⟨rfl, rfl⟩⟩

theorem writesAs_fiPop {k : Nat} (hk : k < 8) : WritesAs (Reg.FIk_EV_POP k) 1 granted (fun u _ v => u.fiPop k v) :=
  match k, hk with
  | 0, _ | 1, _ | 2, _ | 3, _ | 4, _ | 5, _ | 6, _ | 7, _ => ⟨_, _, _, rfl, rfl, rfl, fun _ _ _ => ⟨rfl, rfl⟩⟩

theorem writesAs_canCtl {n : Nat} (hn : n < 2) : WritesAs (Reg.CANn_CTL n) 0xF granted (fun u _ v => u.canCtl n v) :=
  match n, hn with
  | 0, _ | 1, _ => ⟨_, _, _, rfl, rfl, rfl, fun _ _ _ => ⟨rfl, rfl⟩⟩

theorem writesAs_canPush {n : Nat} (hn : n < 2) : WritesAs (Reg.CANn_TX_PUSH n) 3 granted (fun u _ v => u.canPush n v) :=
  match n, hn with
  | 0, _ | 1, _ => ⟨_, _, _, rfl, rfl, rfl, fun _ _ _ => ⟨rfl, rfl⟩⟩

theorem writesAs_rxSel {n : Nat} (hn : n < 2) : WritesAs (Reg.CANn_RX_SEL n) 0x3F granted (fun u _ v => u.rxSel n v) :=
  match n, hn with
  | 0, _ | 1, _ => ⟨_, _, _, rfl, rfl, rfl, fun _ _ _ => ⟨rfl, rfl⟩⟩

theorem writesAs_txePop {n : Nat} (hn : n < 2) : WritesAs (Reg.CANn_TXE_POP n) 1 granted (fun u _ v => u.txePop n v) :=
  match n, hn with
  | 0, _ | 1, _ => ⟨_, _, _, rfl, rfl, rfl, fun _ _ _ => ⟨rfl, rfl⟩⟩

theorem writesAs_canCmd {n : Nat} (hn : n < 2) : WritesAs (Reg.CANn_CMD n) 0xF granted (fun u _ v => u.canCmd n v) :=
  match n, hn with
  | 0, _ | 1, _ => ⟨_, _, _, rfl, rfl, rfl, fun _ _ _ => ⟨rfl, rfl⟩⟩

theorem writesAs_tscCap {n : Nat} (hn : n < 2) : WritesAs (Reg.CANn_TSC_CAP n) 1 granted (fun u _ v => u.tscCap n v) :=
  match n, hn with
  | 0, _ | 1, _ => ⟨_, _, _, rfl, rfl, rfl, fun _ _ _ => ⟨rfl, rfl⟩⟩

/-- A write of BNK_OWN is refused where its master may not make it (R358). -/
theorem writesAs_bnkOwn {n : Nat} (hn : n < 24) :
    WritesAs (Reg.BNK_OWN n) 0xFF (fun u m v => if (u.ownWrite m n v).isNone then some 2 else none)
      (fun u m v => u.writeOwner m n (Reg.BNK_OWN n) v) :=
  match n, hn with
  | 0, _ | 1, _ | 2, _ | 3, _ | 4, _ | 5, _ | 6, _ | 7, _ | 8, _ | 9, _ | 10, _ | 11, _ | 12, _ | 13, _ | 14, _ | 15, _
    | 16, _ | 17, _ | 18, _ | 19, _ | 20, _ | 21, _ | 22, _ | 23, _ => ⟨_, _, _, rfl, rfl, rfl, fun _ _ _ => ⟨rfl, rfl⟩⟩
  | _ + 24, h => absurd h (by omega)

/-- A write of BNK_CTL is refused where its master may not make it (R368). -/
theorem writesAs_bnkCtl {n : Nat} (hn : n < 24) :
    WritesAs (Reg.BNK_CTL n) 7 (fun u m v => if (u.bankCtl m n v).isNone then some 2 else none)
      (fun u m v => (u.bankCtl m n v).getD u) :=
  match n, hn with
  | 0, _ | 1, _ | 2, _ | 3, _ | 4, _ | 5, _ | 6, _ | 7, _ | 8, _ | 9, _ | 10, _ | 11, _ | 12, _ | 13, _ | 14, _ | 15, _
    | 16, _ | 17, _ | 18, _ | 19, _ | 20, _ | 21, _ | 22, _ | 23, _ => ⟨_, _, _, rfl, rfl, rfl, fun _ _ _ => ⟨rfl, rfl⟩⟩
  | _ + 24, h => absurd h (by omega)

theorem writesAs_recSel : WritesAs Reg.REC_SEL 0xFFF granted (fun u _ v => u.recSel v) :=
  ⟨_, _, _, rfl, rfl, rfl, fun _ _ _ => ⟨rfl, rfl⟩⟩

theorem writesAs_floorReq : WritesAs Reg.UPD_FLOOR_REQ 0xFFFF00FF granted (fun u _ v => u.floorReq v) :=
  ⟨_, _, _, rfl, rfl, rfl, fun _ _ _ => ⟨rfl, rfl⟩⟩

/-! ### Registers with many copies -/

/-- The row of the MSI-X table. -/
def msixRow : RegDesc := ⟨.MSIX_TABLE, 0x8000, 256, 0x4, 1, 0x0, 0xFFFFFFFF, 0x0, 0x0, 0xFFFFFFFF, 0x0⟩

theorem regAt_msixTable : ∀ i < 256, regAt (Reg.MSIX_TABLE i) = some (msixRow, i, 0) := by decide +kernel

/-- A write of the MSI-X table stores the word; one that unmasks a pending vector sends its message (R26). -/
theorem writesAs_msixTable {i : Nat} (hi : i < 256) :
    WritesAs (Reg.MSIX_TABLE i) 0xFFFFFFFF granted (fun u _ v =>
      let t := u.setReg (Reg.MSIX_TABLE i) v
      if i % 4 = 3 && u.regB (Reg.MSIX_TABLE i) 0 && !v.bit 0 && t.pendingBit (i / 4) && t.pcieReady then
        (t.setRegB (Reg.MSIX_PBA (i / 4 / 32)) (i / 4 % 32) false).sendMsix (i / 4)
      else t) := by
  refine ⟨_, _, _, regAt_msixTable i hi, rfl, rfl, fun u m v => ⟨rfl, ?_⟩⟩
  have hunit : Reg.MSIX_TABLE i / 0x10000 = 0 := by unfold Reg.MSIX_TABLE; omega
  have hstore := plainWrite_full (u := u) (d := msixRow) (i := i) (a := Reg.MSIX_TABLE i) v rfl rfl rfl rfl
  unfold State.writeUnit
  rw [hunit]
  show u.writeSys m msixRow i _ v = _
  unfold State.writeSys
  simp only [msixRow] at hstore ⊢
  simp only [hstore]

/-- The row of the lock registers. -/
def lockRow : RegDesc := ⟨.LCK_i, 0xF1000, 64, 0x4, 1, 0x0, 0xFF, 0x0, 0x0, 0xC00000FF, 0x0⟩

theorem regAt_lock : ∀ i < 64, regAt (Reg.LCK_i i) = some (lockRow, i, 0) := by decide +kernel

theorem writesAs_lock {i : Nat} (hi : i < 64) :
    WritesAs (Reg.LCK_i i) 0xC00000FF granted (fun u m v => u.lockWrite m i v) := by
  refine ⟨_, _, _, regAt_lock i hi, rfl, rfl, fun u m v => ⟨rfl, ?_⟩⟩
  have hunit : Reg.LCK_i i / 0x10000 = 0xF := by unfold Reg.LCK_i; omega
  unfold State.writeUnit
  rw [hunit]
  rfl

/-- The row of the command word of the stake window. -/
def stakeRow : RegDesc := ⟨.STK_W7, 0x5801C, 1024, 0x20, 1, 0x0, 0x0, 0x0, 0x0, 0x7, 0x0⟩

theorem regAt_stkW7 : ∀ j < 1024, regAt (Reg.STK_W7 j) = some (stakeRow, j, 0) := by decide +kernel

theorem writesAs_stkW7 {j : Nat} (hj : j < 1024) :
    WritesAs (Reg.STK_W7 j) 7 granted (fun u _ v => u.writeW7 (u.windowEntry j) v) := by
  refine ⟨_, _, _, regAt_stkW7 j hj, rfl, rfl, fun u m v => ⟨rfl, ?_⟩⟩
  have hunit : Reg.STK_W7 j / 0x10000 = 5 := by unfold Reg.STK_W7; omega
  unfold State.writeUnit
  rw [hunit]
  rfl

/-! ### Reading registers after writes -/

section
variable (s : State) (a c : Nat)

@[simp] theorem setRegB_reg (i : Nat) (b : Bool) :
    (s.setRegB a i b).reg c = if c = a then (s.reg a).setBit i b else s.reg c := s.setReg_reg a c _

@[simp] theorem setRegF_reg (hi lo v : Nat) :
    (s.setRegF a hi lo v).reg c = if c = a then (s.reg a).setFld hi lo v else s.reg c := s.setReg_reg a c _

@[simp] theorem emit_reg (o : Output) : (s.emit o).reg c = s.reg c := rfl

@[simp] theorem sendMsix_reg (v : Nat) : (s.sendMsix v).reg c = s.reg c := rfl

theorem tally_reg (off n : Nat) : (s.tally off n).reg c = s.reg c := rfl

end

theorem regB_eq (s : State) (a i : Nat) : s.regB a i = (s.reg a).bit i := rfl
theorem regF_eq (s : State) (a hi lo : Nat) : s.regF a hi lo = (s.reg a).fld hi lo := rfl

/-- A word whose whole field [31:0] is replaced is the new value. -/
theorem setFld_full (w : Word) (v : Nat) : w.setFld 31 0 v = w32 v := by
  have hmask : Word.mask 31 0 = BitVec.allOnes 32 := by decide
  unfold Word.setFld
  rw [hmask, BitVec.not_allOnes, BitVec.and_zero, BitVec.zero_or, BitVec.shiftLeft_zero, BitVec.and_allOnes]

/-- A 32-bit counter counts by one and saturates. -/
theorem count_reg_self (s : State) (a : Nat) : ((s.count a).reg a).toNat = satAdd 0xFFFFFFFF (s.reg a).toNat 1 := by
  have hfld : s.regF a 31 0 = (s.reg a).toNat := by
    have := (s.reg a).isLt
    simp [State.regF, Word.fld]
    omega
  have hlt : satAdd 0xFFFFFFFF (s.reg a).toNat 1 < 2 ^ 32 := by unfold satAdd; split <;> omega
  unfold State.count State.countF
  rw [setRegF_reg, if_pos rfl, setFld_full, hfld]
  exact (BitVec.toNat_ofNat ..).trans (Nat.mod_eq_of_lt hlt)

theorem count_reg_ne (s : State) {a c : Nat} (h : c ≠ a) : (s.count a).reg c = s.reg c := by
  unfold State.count State.countF
  rw [setRegF_reg, if_neg h]

end Sys2Proof.Proofs
end

section
/-!
PROOFS. The host paths (02_host_and_registers): reads that clear, the PCIe endpoint and its messages, and remote register
access.
-/
namespace Sys2Proof.Proofs
open Sys2Proof Sys2Proof.Machine

/-! ### Reads that clear (R8) -/

/-- Bits replaced by those of another word. -/
theorem replace_bits (w r k : Word) : ((w &&& ~~~k ||| r &&& k) &&& k = r &&& k) ∧ ((w &&& ~~~k ||| r &&& k) &&& ~~~k = w &&& ~~~k) := by
  constructor <;> ext i <;> simp <;> cases k[i] <;> simp

/-- Settles O6: the read answers the value, latches, and writes the RC fields back to reset. -/
theorem rcReadClears : Obligations.RcReadClears := by
  intro dt m a s u d i j hu ho hd hr hc hf hl
  have hread : exec (.rcRead dt m a) s = .next (u.single m false a 0) := (exec_rcRead dt m a s).trans (readAfter_eq_single hu)
  rw [single_read ho hd, readReg_plain hr, vote_of_agree hf, if_neg hc] at hread
  have hreg : ∀ b, (u.latch m (captured d.tag a)).reg b = u.reg b := fun b => congrArg (sget (regReset b) · b) (latch_regs u m _)
  obtain ⟨hset, hkeep⟩ := replace_bits (u.reg a) d.reset d.rc
  refine ⟨_, hread, ?_, ?_, ?_, fun b hb => ?_, sameMemory_of_mem ?_⟩
  · simp [State.emit, hl]
  · simp [hreg, hset]
  · simp [hreg, hkeep]
  · rw [emit_reg, State.setReg_reg_ne _ (by simpa using hb), hreg]
  · simp

/-! ### Pending vectors (R26) -/

/-- The message of vector `v`. -/
def msixOf (s : State) (v : Nat) : Output :=
  .msix v (s.reg64 (Reg.MSIX_TABLE (4 * v)) (Reg.MSIX_TABLE (4 * v + 1))) (s.reg (Reg.MSIX_TABLE (4 * v + 2)))

/-- Vector `v` is pending and not masked. -/
def State.sends (s : State) (v : Nat) : Bool := s.pendingBit v && !s.masked v

/-- A vector that is pending and not masked sends its message once. -/
def sendStep (s : State) (v : Nat) : State :=
  if s.pcieReady && s.pendingBit v && !s.masked v then (s.setRegB (Reg.MSIX_PBA (v / 32)) (v % 32) false).sendMsix v else s

theorem sendPending_eq (s : State) : s.sendPending = (List.range 64).foldl sendStep s := rfl

/-- A register that is none of the pending-bit array. -/
def notPba (a : Nat) : Bool := !(a == Reg.MSIX_PBA 0 || a == Reg.MSIX_PBA 1)

theorem ne_pba {a v : Nat} (ha : notPba a = true) (hv : v < 64) : a ≠ Reg.MSIX_PBA (v / 32) := by
  simp only [notPba, Reg.MSIX_PBA, Bool.not_eq_true', Bool.or_eq_false_iff, beq_eq_false_iff_ne] at ha
  unfold Reg.MSIX_PBA
  omega

theorem notPba_table {i : Nat} (hi : i < 256) : notPba (Reg.MSIX_TABLE i) = true := by
  simp only [notPba, Reg.MSIX_PBA, Reg.MSIX_TABLE, Bool.not_eq_true', Bool.or_eq_false_iff, beq_eq_false_iff_ne]
  omega

theorem notPba_sts : notPba Reg.SYS_PCIE_STS = true := by decide

/-- The pending bits after one of them is cleared. -/
theorem pendingBit_clear (s : State) {v w : Nat} (hv : v < 64) :
    (s.setRegB (Reg.MSIX_PBA (v / 32)) (v % 32) false).pendingBit w = (s.pendingBit w && decide (w ≠ v)) := by
  unfold State.pendingBit
  rw [regB_eq, setRegB_reg]
  by_cases hpba : w / 32 = v / 32
  · rw [hpba, if_pos rfl, Word.bit_setBit _ _ _ _ (Nat.mod_lt _ (by decide)), regB_eq]
    by_cases hbit : w % 32 = v % 32
    · have : w = v := by omega
      simp [this]
    · have : w ≠ v := by rintro rfl; exact hbit rfl
      simp [hbit, this]
  · have hne : Reg.MSIX_PBA (w / 32) ≠ Reg.MSIX_PBA (v / 32) := by unfold Reg.MSIX_PBA; omega
    have : w ≠ v := by rintro rfl; exact hpba rfl
    simp [hne, this, regB_eq]

/-- States that agree outside the pending-bit array. -/
def SameButPba (s t : State) : Prop := (∀ a, notPba a = true → t.reg a = s.reg a) ∧ t.mem = s.mem

theorem SameButPba.masked {s t : State} (h : SameButPba s t) {v : Nat} (hv : v < 64) : t.masked v = s.masked v := by
  unfold State.masked
  rw [regB_eq, regB_eq, h.1 _ (notPba_table (by omega))]

theorem SameButPba.ready {s t : State} (h : SameButPba s t) : t.pcieReady = s.pcieReady := by
  unfold State.pcieReady
  rw [regB_eq, regB_eq, regB_eq, regB_eq, h.1 _ notPba_sts]

theorem SameButPba.msixOf {s t : State} (h : SameButPba s t) {v : Nat} (hv : v < 64) : msixOf t v = msixOf s v := by
  unfold Proofs.msixOf State.reg64
  rw [h.1 _ (notPba_table (by omega)), h.1 _ (notPba_table (by omega)), h.1 _ (notPba_table (by omega))]

theorem SameButPba.trans {s t u : State} (h : SameButPba s t) (h' : SameButPba t u) : SameButPba s u :=
  ⟨fun a ha => (h'.1 a ha).trans (h.1 a ha), h'.2.trans h.2⟩

theorem sendStep_of_sends {s : State} {v : Nat} (hr : s.pcieReady = true) (h : State.sends s v = true) :
    sendStep s v = (s.setRegB (Reg.MSIX_PBA (v / 32)) (v % 32) false).sendMsix v := by
  unfold State.sends at h
  unfold sendStep
  rw [hr, Bool.true_and, if_pos h]

theorem sendStep_of_not_sends {s : State} {v : Nat} (h : State.sends s v = false) : sendStep s v = s := by
  unfold State.sends at h
  unfold sendStep
  rw [Bool.and_assoc, h, Bool.and_false, if_neg Bool.false_ne_true]

/-- One vector's turn: its message where it sends, its pending bit, and nothing else. -/
theorem sendStep_spec {s : State} {v : Nat} (hv : v < 64) (hr : s.pcieReady = true) :
    SameButPba s (sendStep s v) ∧
      (sendStep s v).out = (if State.sends s v then [msixOf s v] else []) ++ s.out ∧
      ∀ w < 64, (sendStep s v).pendingBit w = (s.pendingBit w && (s.masked w || decide (w ≠ v))) := by
  by_cases h : State.sends s v = true
  · have hsame : SameButPba s (s.setRegB (Reg.MSIX_PBA (v / 32)) (v % 32) false) :=
      ⟨fun a ha => by rw [setRegB_reg, if_neg (ne_pba ha hv)], rfl⟩
    rw [sendStep_of_sends hr h, if_pos h]
    refine ⟨hsame, congrArg (· :: s.out) (hsame.msixOf hv), fun w hw => (pendingBit_clear s hv).trans ?_⟩
    by_cases hwv : w = v
    · subst hwv
      simp only [State.sends, Bool.and_eq_true, Bool.not_eq_true'] at h
      simp [h]
    · simp [hwv]
  · rw [Bool.not_eq_true] at h
    rw [sendStep_of_not_sends h]
    refine ⟨⟨fun _ _ => rfl, rfl⟩, by simp [h], fun w _ => ?_⟩
    by_cases hwv : w = v
    · subst hwv
      simp only [State.sends] at h
      cases hp : s.pendingBit w <;> cases hm : s.masked w <;> simp_all
    · simp [hwv]

/-- The turns of the vectors of a list without repetition. -/
theorem foldl_sendStep (l : List Nat) (s : State) (hl : ∀ v ∈ l, v < 64) (hd : l.Nodup) (hr : s.pcieReady = true) :
    SameButPba s (l.foldl sendStep s) ∧
      (l.foldl sendStep s).out = ((l.filter (State.sends s)).map (msixOf s)).reverse ++ s.out ∧
      ∀ w < 64, (l.foldl sendStep s).pendingBit w = (s.pendingBit w && (s.masked w || decide (w ∉ l))) := by
  induction l generalizing s with
  | nil => exact ⟨⟨fun _ _ => rfl, rfl⟩, rfl, by simp⟩
  | cons v l ih =>
    obtain ⟨hv, hl⟩ := List.forall_mem_cons.1 hl
    obtain ⟨hnot, hd⟩ := List.nodup_cons.1 hd
    obtain ⟨hsame, hout, hpend⟩ := sendStep_spec hv hr
    obtain ⟨hsame', hout', hpend'⟩ := ih (sendStep s v) hl hd (hsame.ready.trans hr)
    have hfilter : l.filter (State.sends (sendStep s v)) = l.filter (State.sends s) := by
      refine List.filter_congr fun w hw => ?_
      have hwv : w ≠ v := by rintro rfl; exact hnot hw
      unfold State.sends
      rw [hpend w (hl w hw), hsame.masked (hl w hw)]
      simp [hwv]
    have hmap : (l.filter (State.sends s)).map (msixOf (sendStep s v)) = (l.filter (State.sends s)).map (msixOf s) :=
      List.map_congr_left fun w hw => hsame.msixOf (hl w (List.mem_filter.1 hw).1)
    refine ⟨hsame.trans hsame', ?_, fun w hw => ?_⟩
    · rw [List.foldl_cons, hout', hfilter, hmap, hout]
      by_cases h : State.sends s v = true <;> simp [h]
    · rw [List.foldl_cons, hpend' w hw, hpend w hw, hsame.masked hw]
      cases s.pendingBit w <;> cases s.masked w <;> simp [not_or]

/-- Nothing is sent where no message can be sent, or no vector is pending. -/
theorem sendPending_of_none {s : State} (h : ∀ v < 64, (s.pcieReady && s.pendingBit v) = false) : s.sendPending = s := by
  have hstep : ∀ v < 64, sendStep s v = s := fun v hv => by
    unfold sendStep
    rw [h v hv, Bool.false_and, if_neg Bool.false_ne_true]
  rw [sendPending_eq]
  refine foldl_keeps (fun t => t = s) sendStep _ s rfl fun v hv t ht => ?_
  rw [ht, hstep v (List.mem_range.1 hv)]

theorem single_unmask {u : State} {v : Nat} (hv : v < 64) (ho : u.opens 0x42 true (Reg.MSIX_TABLE (4 * v + 3)) = true) :
    u.unmask v =
      let m := u.setReg (Reg.MSIX_TABLE (4 * v + 3)) ((u.reg (Reg.MSIX_TABLE (4 * v + 3))).setBit 0 false)
      if u.masked v && u.pendingBit v && u.pcieReady then
        (m.setRegB (Reg.MSIX_PBA (v / 32)) (v % 32) false).sendMsix v else m := by
  have hw := (writesAs_msixTable (i := 4 * v + 3) (by omega)).single ho
    (v := (u.reg (Reg.MSIX_TABLE (4 * v + 3))).setBit 0 false) (by simp)
  have hpba : Reg.MSIX_PBA (v / 32) ≠ Reg.MSIX_TABLE (4 * v + 3) := (ne_pba (notPba_table (by omega)) hv).symm
  have hsts : Reg.SYS_PCIE_STS ≠ Reg.MSIX_TABLE (4 * v + 3) := by unfold Reg.SYS_PCIE_STS Reg.MSIX_TABLE; omega
  have hmod : (4 * v + 3) % 4 = 3 := by omega
  have hdiv : (4 * v + 3) / 4 = v := by omega
  refine hw.trans ?_
  simp only [hmod, hdiv, State.masked, State.pendingBit, State.pcieReady, regB_eq, State.setReg_reg_ne _ hpba,
    State.setReg_reg_ne _ hsts, Word.bit_setBit _ 0 0 false (by decide)]
  simp

/-- Settles O11: the turns of all 64 vectors, and the write that unmasks one. -/
theorem pendingVectorsAreSentOnce : Obligations.PendingVectorsAreSentOnce := by
  refine ⟨fun dt s u hu hp hlink => ?_, fun dt s u hu hp => ?_, fun dt v s u hu hv ho => ?_⟩
  · obtain ⟨b, hb⟩ : ∃ b, b = u.setRegB Reg.SYS_PCIE_STS 7 true := ⟨_, rfl⟩
    have hne : ∀ {a}, a ≠ Reg.SYS_PCIE_STS → b.reg a = u.reg a := fun h => by rw [hb, setRegB_reg, if_neg h]
    have hsts : b.reg Reg.SYS_PCIE_STS = (u.reg Reg.SYS_PCIE_STS).setBit 7 true := by rw [hb, setRegB_reg, if_pos rfl]
    have htable : ∀ i, Reg.MSIX_TABLE i ≠ Reg.SYS_PCIE_STS := fun i => by unfold Reg.SYS_PCIE_STS Reg.MSIX_TABLE; omega
    have hpba : ∀ i, Reg.MSIX_PBA i ≠ Reg.SYS_PCIE_STS := fun i => by unfold Reg.SYS_PCIE_STS Reg.MSIX_PBA; omega
    have hmask : ∀ v, b.masked v = u.masked v := fun v => by unfold State.masked; rw [regB_eq, regB_eq, hne (htable _)]
    have hpend : ∀ v, b.pendingBit v = u.pendingBit v := fun v => by
      unfold State.pendingBit; rw [regB_eq, regB_eq, hne (hpba _)]
    have hmsix : msixOf b = msixOf u := by
      funext v; unfold msixOf State.reg64; rw [hne (htable _), hne (htable _), hne (htable _)]
    have hready : b.pcieReady = true := by
      have h0 : (u.reg Reg.SYS_PCIE_STS).bit 0 = true := hlink
      unfold State.pcieReady
      simp [regB_eq, hsts, Word.bit_setBit, h0]
    obtain ⟨hsame, hout, hbits⟩ := foldl_sendStep (List.range 64) b (fun v hv => List.mem_range.1 hv) List.nodup_range hready
    have hsends : State.sends b = fun v => u.pendingBit v && !u.masked v := by
      funext v; unfold State.sends; rw [hpend, hmask]
    refine ⟨b.sendPending, ?exec, ?out, fun v hv => ?bits, ?bme, fun a ha => ?regs, sameMemory_of_mem ?mem⟩
    case exec =>
      refine (exec_bmeSet ..).trans (next_of_after hu ?_)
      unfold State.bme
      simp [hp, hb]
    case out => rw [sendPending_eq, hout, hsends, hmsix, hb]; rfl
    case bits =>
      rw [sendPending_eq, hbits v hv, hpend, hmask]
      simp [hv]
    case bme =>
      rw [sendPending_eq, regB_eq, hsame.1 _ notPba_sts, hsts, Word.bit_setBit _ _ _ _ (by decide)]; rfl
    case regs =>
      simp only [Bool.or_eq_false_iff, beq_eq_false_iff_ne] at ha
      rw [sendPending_eq, hsame.1 a (by simp [notPba, ha]), hne ha.1.1]
    case mem => rw [sendPending_eq, hsame.2, hb]; rfl
  · refine (exec_bmeSet ..).trans (next_of_after hu ?_)
    have hoff : (u.setRegB Reg.SYS_PCIE_STS 7 false).pcieReady = false := by
      simp [State.pcieReady, regB_eq, Word.bit_setBit]
    unfold State.bme
    rw [hp, Bool.not_true, if_neg Bool.false_ne_true, sendPending_of_none (fun _ _ => by rw [hoff, Bool.false_and])]
  · exact (exec_msixVectorUnmask ..).trans (next_of_afterEv hu (single_unmask hv ho))

/-! ### The endpoint (R21, R23) -/

/-- A run of register writes whose values the addresses give. -/
theorem foldl_setReg_reg (f : Nat → Nat) (h : Nat → Word) (l : List Nat) (s : State) (c : Nat) :
    (l.foldl (fun (s : State) i => s.setReg (f i) (h (f i))) s).reg c = if c ∈ l.map f then h c else s.reg c := by
  induction l generalizing s with
  | nil => rfl
  | cons i l ih =>
    rw [List.foldl_cons, ih, State.setReg_reg, List.map_cons]
    by_cases hc : c = f i
    · subst hc; simp
    · simp [hc]

/-- The registers after PERST#. -/
theorem perst_reg (s : State) (c : Nat) :
    s.perst.reg c =
      if c = Reg.MSIX_PBA 1 ∨ c = Reg.MSIX_PBA 0 then 0
      else if c ∈ (List.range 256).map Reg.MSIX_TABLE then regReset c
      else if c = Reg.SYS_PCIE_ERR ∨ c = Reg.SYS_PCIE_STS then 0 else s.reg c := by
  unfold State.perst
  dsimp only
  rw [State.setReg_reg, State.setReg_reg, foldl_setReg_reg Reg.MSIX_TABLE regReset, State.setReg_reg, State.setReg_reg]
  by_cases h1 : c = Reg.MSIX_PBA 1
  · rw [if_pos h1, if_pos (.inl h1)]
  · by_cases h0 : c = Reg.MSIX_PBA 0
    · rw [if_neg h1, if_pos h0, if_pos (.inr h0)]
    · rw [if_neg h1, if_neg h0, if_neg (not_or.2 ⟨h1, h0⟩)]
      congr 1
      by_cases he : c = Reg.SYS_PCIE_ERR <;> by_cases hs : c = Reg.SYS_PCIE_STS <;> simp [he, hs]

theorem mem_msixTable {c : Nat} : c ∈ (List.range 256).map Reg.MSIX_TABLE ↔ ∃ i < 256, Reg.MSIX_TABLE i = c := by simp

theorem pcieReg_msixTable {i : Nat} (hi : i < 256) : pcieReg (Reg.MSIX_TABLE i) = true := by
  have h1 : 0x8000 ≤ Reg.MSIX_TABLE i := by unfold Reg.MSIX_TABLE; omega
  have h2 : Reg.MSIX_TABLE i < 0x8400 := by unfold Reg.MSIX_TABLE; omega
  simp [pcieReg, h1, h2]

/-- Settles O10: the registers of the endpoint after PERST#, and the status registers at a change of a link. -/
theorem pcieResetAndLink : Obligations.PcieResetAndLink := by
  refine ⟨fun dt s u hu hp => ⟨u.perst, ?_, ?_, ?_, ?_, ?_, fun i hi => ?_, fun a ha => ?_, sameMemory_of_keep (State.perst_keep u)⟩,
    fun dt sp w s u hu hp => ?_, fun dt sp w s u hu hp h1 h4 hw h0 h1' => ?_, fun dt up s u hu => ?_⟩
  · exact (exec_perstReset ..).trans (next_of_after hu (by rw [if_pos hp]))
  · rw [perst_reg, if_neg (by decide), if_neg (by rw [mem_msixTable]; rintro ⟨i, -, h⟩; simp [Reg.MSIX_TABLE, Reg.SYS_PCIE_STS] at h; omega)]
    simp
  · rw [perst_reg, if_neg (by decide), if_neg (by rw [mem_msixTable]; rintro ⟨i, -, h⟩; simp [Reg.MSIX_TABLE, Reg.SYS_PCIE_ERR] at h; omega)]
    simp
  · rw [perst_reg, if_pos (.inr rfl)]
  · rw [perst_reg, if_pos (.inl rfl)]
  · rw [perst_reg, if_neg (by unfold Reg.MSIX_TABLE Reg.MSIX_PBA; omega), if_pos (mem_msixTable.2 ⟨i, hi, rfl⟩)]
  · have hnot : ∀ b, pcieReg b = true → a ≠ b := by rintro b hb rfl; simp [ha] at hb
    rw [perst_reg, if_neg, if_neg, if_neg]
    · exact not_or.2 ⟨hnot _ (by decide), hnot _ (by decide)⟩
    · rw [mem_msixTable]
      rintro ⟨i, hi, h⟩
      exact hnot _ (pcieReg_msixTable hi) h.symm
    · exact not_or.2 ⟨hnot _ (by decide), hnot _ (by decide)⟩
  · refine (exec_pcieLinkChange ..).trans (next_of_after hu ?_)
    unfold State.pcieLink
    simp [hp]
  · refine (exec_pcieLinkChange ..).trans (next_of_after hu ?_)
    have hbad : (decide (sp = 0) || decide (4 < sp) || !(decide (w = 1) || decide (w = 2) || decide (w = 4))) = false := by
      rcases hw with rfl | rfl | rfl <;> simp <;> omega
    unfold State.pcieLink
    simp only [hp, hbad, Bool.not_true, Bool.false_eq_true, if_false]
    refine sendPending_of_none fun v hv => ?_
    have hpba : ∀ k < 2, Reg.MSIX_PBA k ≠ Reg.SYS_PCIE_STS ∧ u.reg (Reg.MSIX_PBA k) = 0 := by
      intro k hk
      match k, hk with
      | 0, _ | 1, _ => exact ⟨by decide, by assumption⟩
    obtain ⟨hne, hzero⟩ := hpba (v / 32) (by omega)
    have : ∀ i, (0 : Word).bit i = false := fun i => by simp [Word.bit]
    rw [State.pendingBit, regB_eq (State.setReg ..), State.setReg_reg_ne _ hne, hzero, this, Bool.and_false]
  · exact (exec_serviceLinkChange ..).trans (next_of_after hu rfl)

end Sys2Proof.Proofs
end

section
/-!
PROOFS. Fields and bits of a word: what replacing one leaves in another.
-/
namespace Sys2Proof.Proofs
open Sys2Proof Sys2Proof.Machine

theorem getLsbD_mask {hi lo i : Nat} (hlo : lo ≤ hi) (hhi : hi < 32) :
    (Word.mask hi lo).getLsbD i = (decide (lo ≤ i) && decide (i ≤ hi)) := by
  have hval : 2 ^ (hi + 1) - 2 ^ lo = (2 ^ (hi + 1 - lo) - 1) <<< lo := by
    rw [Nat.shiftLeft_eq, Nat.sub_mul, ← Nat.pow_add, Nat.one_mul]
    congr 2; omega
  unfold Word.mask
  rw [BitVec.getLsbD_ofNat, hval, Nat.testBit_shiftLeft, Nat.testBit_two_pow_sub_one]
  by_cases h1 : lo ≤ i <;> by_cases h2 : i ≤ hi <;> simp [h1, h2] <;> omega

/-- The bits of a word with a field replaced. -/
theorem bit_setFld {hi lo : Nat} (hlo : lo ≤ hi) (hhi : hi < 32) (w : Word) (v i : Nat) :
    (w.setFld hi lo v).bit i = if lo ≤ i ∧ i ≤ hi then v.testBit (i - lo) else w.bit i := by
  unfold Word.setFld Word.bit
  simp only [BitVec.getLsbD_or, BitVec.getLsbD_and, BitVec.getLsbD_not, BitVec.getLsbD_shiftLeft, getLsbD_mask hlo hhi,
    BitVec.getLsbD_ofNat]
  by_cases h1 : lo ≤ i
  · by_cases h2 : i ≤ hi
    · simp [h1, h2, show i < 32 by omega, show i - lo < 32 by omega]
    · rw [if_neg (by omega)]
      by_cases h3 : i < 32
      · simp [h2, h3]
      · simp [h2, BitVec.getLsbD_of_ge w i (by omega)]
  · rw [if_neg (by omega)]
    by_cases h3 : i < 32
    · simp [h1, h3]
    · omega

/-- A field by its bits. -/
theorem testBit_fld (w : Word) (hi lo i : Nat) : (w.fld hi lo).testBit i = (decide (i < hi + 1 - lo) && w.bit (lo + i)) := by
  unfold Word.fld Word.bit
  rw [Nat.testBit_mod_two_pow, Nat.testBit_div_two_pow, Nat.add_comm i lo]
  rfl

/-- A field replaced is the new value, cut to the field. -/
theorem fld_setFld_self {hi lo : Nat} (hlo : lo ≤ hi) (hhi : hi < 32) (w : Word) (v : Nat) :
    (w.setFld hi lo v).fld hi lo = v % 2 ^ (hi + 1 - lo) := by
  apply Nat.eq_of_testBit_eq
  intro i
  rw [testBit_fld, bit_setFld hlo hhi, Nat.testBit_mod_two_pow]
  by_cases h : i < hi + 1 - lo
  · rw [if_pos (by omega), Nat.add_sub_cancel_left]
  · simp [h]

/-- A field stands when a field apart from it is replaced. -/
theorem fld_setFld_apart {hi lo hi' lo' : Nat} (hlo : lo ≤ hi) (hhi : hi < 32) (w : Word) (v : Nat) (h : hi' < lo ∨ hi < lo') :
    (w.setFld hi lo v).fld hi' lo' = w.fld hi' lo' := by
  apply Nat.eq_of_testBit_eq
  intro i
  rw [testBit_fld, testBit_fld, bit_setFld hlo hhi]
  by_cases hi' : i < hi' + 1 - lo'
  · rw [if_neg (by omega)]
  · simp [hi']

/-- A field stands when a bit apart from it is set. -/
theorem fld_setBit_apart {hi lo i : Nat} (hi32 : i < 32) (w : Word) (b : Bool) (h : i < lo ∨ hi < i) :
    (w.setBit i b).fld hi lo = w.fld hi lo := by
  apply Nat.eq_of_testBit_eq
  intro j
  rw [testBit_fld, testBit_fld, Word.bit_setBit _ _ _ _ hi32]
  by_cases hj : j < hi + 1 - lo
  · rw [if_neg (by omega)]
  · simp [hj]

end Sys2Proof.Proofs
end

section
/-!
PROOFS. Remote register access (02 R27-R30, 07 R157) and the mailboxes as the host sees them (03 R50, R51, R58).
-/
namespace Sys2Proof.Proofs
open Sys2Proof Sys2Proof.Machine

/-! ### A request of one register -/

theorem sum_range_two (f : Nat → Nat) : ((List.range 2).map f).sum = f 0 + f 1 := by simp [List.range_succ]

theorem sum_range_five (f : Nat → Nat) : ((List.range 5).map f).sum = f 0 + f 1 + f 2 + f 3 + f 4 := by
  simp [List.range_succ, Nat.add_assoc]

theorem leAt_two (p : List Byte) (i : Nat) : leAt p i 2 = byteOf p i + byteOf p (i + 1) * 2 ^ 8 := by
  have h := sum_range_two (fun k => byteOf p (i + k) * 2 ^ (8 * k))
  rw [Nat.mul_zero, Nat.pow_zero, Nat.mul_one, Nat.add_zero] at h
  exact h

theorem leAt_five (p : List Byte) (i : Nat) :
    leAt p i 5 = byteOf p i + byteOf p (i + 1) * 2 ^ 8 + byteOf p (i + 2) * 2 ^ 16 + byteOf p (i + 3) * 2 ^ 24 +
      byteOf p (i + 4) * 2 ^ 32 := by
  have h := sum_range_five (fun k => byteOf p (i + k) * 2 ^ (8 * k))
  rw [Nat.mul_zero, Nat.pow_zero, Nat.mul_one, Nat.add_zero] at h
  exact h

/-- The request to read one register: TAG and ADDR (Table 2.4). -/
def readReq (tag addr : Nat) : RraReq := { op := 1, count := 1, tag := tag, addr := addr, data := [], len := 12 }

section
variable {p : List Byte} {tag addr m : Nat} {s t : State}

theorem readReq_not_malformed (h : addr % 4 = 0) : (readReq tag addr).malformed = false := by
  simp [readReq, RraReq.malformed, RraReq.needs, h]

theorem leBytes_one (v : Nat) : leBytes 1 v = [BitVec.ofNat 8 v] := by simp [leBytes, List.range_succ]

/-- The response to it: the head of the request, STATUS, FAIL_INDEX, and one word. -/
theorem rraResponse_read (status fail : Nat) (words : List Word) :
    rraResponse (readReq tag addr) status fail words =
      [0x81, 1] ++ leBytes 2 tag ++ leBytes 5 addr ++ [BitVec.ofNat 8 status, BitVec.ofNat 8 fail, 0] ++
        (wordBytes (item words 0)).map (BitVec.ofNat 8) := by
  have hword : (words ++ List.replicate 64 (0 : Word)).take 1 = [item words 0] := by
    cases words <;> rfl
  have hread : rraResponse (readReq tag addr) status fail words =
      (leBytes 1 129 ++ leBytes 1 1 ++ leBytes 2 tag ++ leBytes 5 addr ++ leBytes 1 status ++ leBytes 1 fail ++ leBytes 1 0) ++
        (((words ++ List.replicate 64 (0 : Word)).take 1).flatMap wordBytes).map (BitVec.ofNat 8) := rfl
  rw [hread, hword]
  simp [leBytes_one]

/-- The one access of such a request. -/
theorem run_read (s : State) (m addr : Nat) :
    s.run m false (tlpWords 0 addr 4 []) [] =
      match s.access m false addr 0 with
      | .done t w => (t, [w], none)
      | .refused t x => (t, [], some x) := by
  have hwords : tlpWords 0 addr 4 [] = [(addr, 0)] := by simp [tlpWords, List.range_succ, byteOf]
  rw [hwords]
  unfold State.run
  cases s.access m false addr 0 <;> rfl

/-- A read of one register that gets through is answered OK with its value. -/
theorem rra_read_done {w : Word} (hp : rraReq p = readReq tag addr) (h : addr % 4 = 0)
    (ha : s.access m false addr 0 = .done t w) :
    s.rra m true p =
      (t, [0x81, 1] ++ leBytes 2 tag ++ leBytes 5 addr ++ [0, 1, 0] ++ (wordBytes w).map (BitVec.ofNat 8)) := by
  have hrun := run_read s m addr
  rw [ha] at hrun
  unfold State.rra
  simp only [hp, readReq_not_malformed h, Bool.not_true, Bool.false_eq_true, if_false]
  change (match s.run m false (tlpWords 0 addr 4 []) [] with
    | (t, ws, none) => (t, rraResponse (readReq tag addr) 0 1 ws)
    | (t, ws, some v) => (t.countDrop (if v then 1 else 4), rraResponse (readReq tag addr) (if v then 1 else 4) ws.length ws)) = _
  rw [hrun]
  exact congrArg (Prod.mk t) (rraResponse_read 0 1 [w])

/-- A read of one register that is a violation is answered VIOLATION with zero data, and counted. -/
theorem rra_read_refused (hp : rraReq p = readReq tag addr) (h : addr % 4 = 0)
    (ha : s.access m false addr 0 = .refused t true) :
    s.rra m true p =
      (t.count Reg.SYS_RRA_DROP, [0x81, 1] ++ leBytes 2 tag ++ leBytes 5 addr ++ [1, 0, 0] ++ [0, 0, 0, 0]) := by
  have hrun := run_read s m addr
  rw [ha] at hrun
  unfold State.rra
  simp only [hp, readReq_not_malformed h, Bool.not_true, Bool.false_eq_true, if_false]
  change (match s.run m false (tlpWords 0 addr 4 []) [] with
    | (t, ws, none) => (t, rraResponse (readReq tag addr) 0 1 ws)
    | (t, ws, some v) => (t.countDrop (if v then 1 else 4), rraResponse (readReq tag addr) (if v then 1 else 4) ws.length ws)) = _
  rw [hrun]
  exact congrArg (Prod.mk _) (rraResponse_read 1 0 [])

end

section
variable (t0 t1 a0 a1 a2 a3 a4 : Byte)

/-- The payload of a read of one register, by the bytes of TAG and ADDR. -/
def readRequest : List Byte := [1, 1, t0, t1, a0, a1, a2, a3, a4, 0, 0, 0]

/-- A TAG and an address by their bytes, lowest first. -/
def tag2 : Nat := t0.toNat + t1.toNat * 2 ^ 8
def addr5 : Nat := a0.toNat + a1.toNat * 2 ^ 8 + a2.toNat * 2 ^ 16 + a3.toNat * 2 ^ 24 + a4.toNat * 2 ^ 32

/-- The request that such a payload gives. -/
theorem rraReq_readRequest : rraReq (readRequest t0 t1 a0 a1 a2 a3 a4) = readReq (tag2 t0 t1) (addr5 a0 a1 a2 a3 a4) := by
  unfold rraReq
  rw [leAt_two, leAt_five]
  rfl

variable {a0} in
theorem addr5_aligned (h : a0.toNat % 4 = 0) : addr5 a0 a1 a2 a3 a4 % 4 = 0 := by unfold addr5; omega

theorem leBytes_tag2 : leBytes 2 (tag2 t0 t1) = [t0, t1] := by
  have h0 := t0.isLt
  have h1 := t1.isLt
  simp only [leBytes, tag2, List.range_succ, List.range_zero, List.nil_append, List.map_cons, List.map_nil,
    List.cons_append, List.cons.injEq, and_true]
  constructor <;> apply BitVec.eq_of_toNat_eq <;> simp only [BitVec.toNat_ofNat] <;> omega

theorem leBytes_addr5 : leBytes 5 (addr5 a0 a1 a2 a3 a4) = [a0, a1, a2, a3, a4] := by
  have h0 := a0.isLt
  have h1 := a1.isLt
  have h2 := a2.isLt
  have h3 := a3.isLt
  have h4 := a4.isLt
  simp only [leBytes, addr5, List.range_succ, List.range_zero, List.nil_append, List.map_cons, List.map_nil,
    List.cons_append, List.cons.injEq, and_true]
  refine ⟨?_, ?_, ?_, ?_, ?_⟩ <;> apply BitVec.eq_of_toNat_eq <;> simp only [BitVec.toNat_ofNat] <;> omega

end

/-! ### The two paths of a request -/

theorem svcRequest_taken {u : State} {dst etype : Nat} (ht : u.svcTakes dst etype = true) (hr : u.pwr.recovery = false) (mac : Nat)
    (p : List Byte) :
    u.svcRequest dst etype mac p =
      (u.rra 0x43 (u.regB Reg.SYS_RRA_CTL 4) p).1.emit (.serviceResponse mac (u.rra 0x43 (u.regB Reg.SYS_RRA_CTL 4) p).2) := by
  unfold State.svcRequest
  simp only [ht, hr, Bool.not_true, Bool.or_self, Bool.false_eq_true, if_false]

theorem hearPort_reg (s : State) (n a : Nat) : (s.hearPort n).reg a = s.reg a := by
  unfold State.hearPort
  split <;> rfl

theorem hearPort_order (s : State) (n : Nat) : (s.hearPort n).order = s.order := by
  unfold State.hearPort
  split <;> rfl

/-- What a frame's arrival at a port leaves: every register, and which ports there are. -/
theorem received_reg (s : State) (n len : Nat) (tagged : Bool) (a : Nat) : (s.received n tagged len).reg a = s.reg a :=
  hearPort_reg ..

theorem received_regB (s : State) (n len : Nat) (tagged : Bool) (a i : Nat) :
    (s.received n tagged len).regB a i = s.regB a i :=
  congrArg (fun w : Word => w.bit i) (received_reg ..)

theorem received_hasPort (s : State) (n len k : Nat) (tagged : Bool) : (s.received n tagged len).hasPort k = s.hasPort k :=
  congrArg (fun o => decide (k < 2) || (decide (k < 4) && decide (o ≠ Order.s))) (hearPort_order ..)

/-- A REGACC frame for the module, in terms of the state in which it has been received. -/
theorem regaccRx_taken {v u : State} {n mac len : Nat} {h : Hdr} {p : List Byte} (hlen : 20 + p.length = len)
    (hu : v.received n h.vid.isSome len = u)
    (hp : u.hasPort n = true) (hl : u.regB (Reg.TRV_STS n) 0 = true) (het : h.etype = u.regF Reg.TRV_SW_ETYPE 15 0)
    (htag : u.tagOk n h = true) (hver : h.ver = 1) (hdst : h.dst = u.ownAddr) (hslot : h.slot = u.slotId) :
    v.regaccRx n h mac p =
      let x := u.rra 0x40 (u.regB Reg.SYS_RRA_CTL n) p
      x.1.queueTo n mac (x.1.ownHdr n h.src false (.regacc mac x.2)) (.regacc mac x.2) := by
  subst hlen hu
  have hp' : v.hasPort n = true := (received_hasPort ..).symm.trans hp
  have hl' : v.regB (Reg.TRV_STS n) 0 = true := (received_regB ..).symm.trans hl
  unfold State.regaccRx
  simp only [hp', hl', htag, ← het, hver, ← hdst, ← hslot, Bool.not_true, Bool.or_self, Bool.false_eq_true, if_false, ne_eq, not_true,
    decide_false]

/-- Settles O13: what a request answers, on the service port and on Traverse. -/
theorem remoteRegisterAccess : Obligations.RemoteRegisterAccess := by
  refine ⟨fun dt dst etype mac p s u hu ht hr hc => ?_, fun dt dst etype mac p s u hu ht hr hc hm => ?_,
    fun dt dst etype mac t0 t1 a0 a1 a2 a3 a4 s u t w hu ht hr hc h4 ha => ?_,
    fun dt dst etype mac t0 t1 a0 a1 a2 a3 a4 s u t hu ht hr hc h4 ha => ?_,
    fun dt n mac h t0 t1 a0 a1 a2 a3 a4 s u t w hu het hp hl htag hver hdst hslot hc h4 ha => ?_⟩
  · refine (exec_remoteRegisterAccess ..).trans (next_of_afterEv hu ((svcRequest_taken ht hr mac p).trans ?_))
    simp [hc, State.rra, State.countDrop]
  · refine (exec_remoteRegisterAccess ..).trans (next_of_afterEv hu ((svcRequest_taken ht hr mac p).trans ?_))
    simp [hc, hm, State.rra, State.countDrop]
  · refine (exec_remoteRegisterAccess ..).trans (next_of_afterEv hu ((svcRequest_taken ht hr mac _).trans ?_))
    have hrra := rra_read_done (rraReq_readRequest t0 t1 a0 a1 a2 a3 a4) (addr5_aligned a1 a2 a3 a4 h4) ha
    rw [leBytes_tag2, leBytes_addr5] at hrra
    rw [hc, ← readRequest, hrra]; rfl
  · refine (exec_remoteRegisterAccess ..).trans (next_of_afterEv hu ((svcRequest_taken ht hr mac _).trans ?_))
    have hrra := rra_read_refused (rraReq_readRequest t0 t1 a0 a1 a2 a3 a4) (addr5_aligned a1 a2 a3 a4 h4) ha
    rw [leBytes_tag2, leBytes_addr5] at hrra
    rw [hc, ← readRequest, hrra]; rfl
  · refine (exec_regacc ..).trans (next_of_afterEv rfl ((regaccRx_taken (p := readRequest t0 t1 a0 a1 a2 a3 a4) rfl hu hp hl het htag hver hdst hslot).trans ?_))
    have hrra := rra_read_done (rraReq_readRequest t0 t1 a0 a1 a2 a3 a4) (addr5_aligned a1 a2 a3 a4 h4) ha
    rw [leBytes_tag2, leBytes_addr5] at hrra
    rw [hc, hrra]; rfl

/-! ### Mailboxes (R50, R51, R58) -/

/-- The fields of a value written to MBX_POST: LEN with GO, and LEN alone. -/
theorem postWord_go : ∀ len < 32, (w32 (0x100 + len)).bit 8 = true ∧ (w32 (0x100 + len)).fld 4 0 = len ∧
    w32 (0x100 + len) &&& ~~~(0x11F : Word) = 0 := by decide

theorem postWord_noGo : ∀ len < 32, (w32 len).bit 8 = false ∧ w32 len &&& ~~~(0x11F : Word) = 0 := by decide

theorem mbxPost_single {dt m n : Nat} {v : Word} {s u : State} (hu : s.toWrite dt m (Reg.MBX_POST n) v = u) (hn : n < 8)
    (ho : u.opens m true (Reg.MBX_POST n) = true) (hv : v &&& ~~~(0x11F : Word) = 0) :
    exec (.mbxPost dt m n v) s = .next (u.mbxPost n v) :=
  (exec_mbxPost ..).trans ((writeAfter_eq_single hu).trans (congrArg _ ((writesAs_mbxPost hn).single ho hv)))

theorem mbxTake_single {dt m n : Nat} {s u : State} (hu : s.toWrite dt m (Reg.MBX_TAKE n) 1 = u) (h8 : 8 ≤ n) (hn : n < 16)
    (ho : u.opens m true (Reg.MBX_TAKE n) = true) : exec (.mbxTake dt m n 1) s = .next (u.mbxClearGo n) :=
  (exec_mbxTake ..).trans ((writeAfter_eq_single hu).trans (congrArg _ ((writesAs_mbxTake h8 hn).single ho (by decide))))

theorem mbxHrst_single {dt m n : Nat} {s u : State} (hu : s.toWrite dt m (Reg.MBX_HRST n) 1 = u) (hn : n < 16)
    (ho : u.opens m true (Reg.MBX_HRST n) = true) : exec (.mbxHrst dt m n 1) s = .next (u.mbxHostReset n 1) :=
  (exec_mbxHrst ..).trans ((writeAfter_eq_single hu).trans (congrArg _ ((writesAs_mbxHrst hn).single ho (by decide))))

theorem mbxSts_ne_irqEn (n k : Nat) : Reg.MBX_STS n ≠ Reg.MBX_IRQ_EN k := by unfold Reg.MBX_STS Reg.MBX_IRQ_EN; omega

theorem mbxSts_ne_data {n k i : Nat} (hi : i < 16) : Reg.MBX_STS n ≠ Reg.MBX_DATAi k i := by
  unfold Reg.MBX_STS Reg.MBX_DATAi; omega

theorem mbxIrqEn_ne_data {n k i : Nat} (hi : i < 16) : Reg.MBX_IRQ_EN n ≠ Reg.MBX_DATAi k i := by
  unfold Reg.MBX_IRQ_EN Reg.MBX_DATAi; omega

theorem mbxSts_inj {n k : Nat} (h : k ≠ n) : Reg.MBX_STS k ≠ Reg.MBX_STS n := by unfold Reg.MBX_STS; omega

/-- Words laid into a mailbox leave every register but those of its data. -/
theorem setMbxWords_other (s : State) (n k c : Nat) (ws : List Word) (hc : ∀ i < ws.length, c ≠ Reg.MBX_DATAi n (k + i)) :
    (s.setMbxWords n k ws).reg c = s.reg c := by
  induction ws generalizing s k with
  | nil => rfl
  | cons w ws ih =>
    rw [State.setMbxWords, ih, State.setReg_reg_ne]
    · exact hc 0 (by simp)
    · intro i hi
      have := hc (i + 1) (by simpa using hi)
      rwa [show k + 1 + i = k + (i + 1) by omega]

/-- Words laid into a mailbox stand at their places. -/
theorem setMbxWords_data (s : State) (n k i : Nat) (ws : List Word) (hi : i < ws.length) :
    (s.setMbxWords n k ws).reg (Reg.MBX_DATAi n (k + i)) = ws[i] := by
  induction ws generalizing s k i with
  | nil => simp at hi
  | cons w ws ih =>
    rw [State.setMbxWords]
    cases i with
    | succ i => rw [List.getElem_cons_succ, ← ih (s.setReg (Reg.MBX_DATAi n k) w) (k + 1) i (by simpa using hi)]; congr 2; omega
    | zero =>
      rw [setMbxWords_other, Nat.add_zero, State.setReg_reg_self]; rfl
      intro j _
      unfold Reg.MBX_DATAi; omega

/-- GO stands while a reset by the host clears EMPTY and POSTED and the interrupt enables. -/
theorem mbxGo_hostReset {u : State} {n : Nat} (hgo : u.mbxGo n = true) :
    (((u.setReg (Reg.MBX_IRQ_EN n) 0).setRegB (Reg.MBX_STS n) 24 false).setRegB (Reg.MBX_STS n) 25 false).mbxGo n = true := by
  unfold State.mbxGo at *
  rw [regB_eq] at *
  simp [Word.bit_setBit, mbxSts_ne_irqEn, hgo]

/-- The registers of a mailbox of which the host has taken back the message that stood in it. -/
theorem mbxAbort_sts (u : State) (n : Nat) :
    (u.mbxAbort n).reg (Reg.MBX_STS n) = (((((u.reg (Reg.MBX_STS n)).setBit 0 false).setBit 17 false).setFld 12 8 0).setBit 16 true) := by
  unfold State.mbxAbort State.mbxClearGo
  rw [setRegB_reg, if_pos rfl, setMbxWords_other _ _ _ _ _ (fun i hi => ?_)]
  · simp
  · rw [List.length_replicate] at hi
    exact mbxSts_ne_data (by omega)

theorem mbxAbort_data (u : State) {n k : Nat} (hk : k < 16) : (u.mbxAbort n).reg (Reg.MBX_DATAi n k) = 0 := by
  unfold State.mbxAbort
  rw [setRegB_reg, if_neg (mbxSts_ne_data hk).symm]
  have h := setMbxWords_data ((u.mbxClearGo n).setRegF (Reg.MBX_STS n) 12 8 0) n 0 k (List.replicate 16 0) (by simpa using hk)
  rw [Nat.zero_add] at h
  rw [h, List.getElem_replicate]

theorem mbxAbort_other (u : State) {n a : Nat} (hs : a ≠ Reg.MBX_STS n) (hd : ∀ k < 16, a ≠ Reg.MBX_DATAi n k) :
    (u.mbxAbort n).reg a = u.reg a := by
  unfold State.mbxAbort State.mbxClearGo
  rw [setRegB_reg, if_neg hs, setMbxWords_other _ _ _ _ _ (fun i hi => ?_)]
  · simp [hs]
  · rw [List.length_replicate] at hi
    exact hd _ (by omega)

/-- A reset by the host of a mailbox it is posted in, while a message stands. -/
theorem mbxHostReset_post {u : State} {n : Nat} (hn : n < 8) (hgo : u.mbxGo n = true) :
    u.mbxHostReset n 1 = (((u.setReg (Reg.MBX_IRQ_EN n) 0).setRegB (Reg.MBX_STS n) 24 false).setRegB (Reg.MBX_STS n) 25
      false).setRegB (Reg.MBX_STS n) 17 true := by
  have hgo' := mbxGo_hostReset hgo
  unfold State.mbxHostReset
  rw [if_neg (by decide)]
  dsimp only
  rw [hgo', if_neg (by decide), if_pos hn]

/-- A reset by the host of a mailbox it takes from, while a message stands. -/
theorem mbxHostReset_take {u : State} {n : Nat} (hn : 8 ≤ n) (hgo : u.mbxGo n = true) :
    u.mbxHostReset n 1 = (((u.setReg (Reg.MBX_IRQ_EN n) 0).setRegB (Reg.MBX_STS n) 24 false).setRegB (Reg.MBX_STS n) 25
      false).mbxAbort n := by
  have hgo' := mbxGo_hostReset hgo
  unfold State.mbxHostReset
  rw [if_neg (by decide)]
  dsimp only
  rw [hgo', if_neg (by decide), if_neg (by omega)]

/-- Settles O14: what a write of MBX_POST, MBX_TAKE and MBX_HRST makes of its mailbox. -/
theorem mailboxPostTakeReset : Obligations.MailboxPostTakeReset := by
  refine ⟨fun dt m n len s u hu hn ho h8 h16 hgo => ?_, fun dt m n len s u hu hn ho hlen => ?_,
    fun dt m n len s u hu hn ho hlen hbad => ?_, fun dt m n s u hu hn ho h8 => mbxTake_single hu h8 hn ho,
    fun dt m n s u hu hn ho hgo => ?_, fun dt m n s u hu h8 hn ho hgo => ?_⟩
  · obtain ⟨hbit, hfld, hres⟩ := postWord_go len (by omega)
    rw [mbxPost_single hu hn ho hres, State.mbxPost, hbit, hfld, hgo]
    simp [Nat.not_lt.mpr h8, Nat.not_lt.mpr h16]
  · obtain ⟨hbit, hres⟩ := postWord_noGo len hlen
    rw [mbxPost_single hu hn ho hres, State.mbxPost, hbit]; rfl
  · obtain ⟨hbit, hfld, hres⟩ := postWord_go len hlen
    rw [mbxPost_single hu hn ho hres, State.mbxPost, hbit, hfld, if_neg (by decide), if_pos (by simpa [or_comm, or_assoc, or_left_comm] using hbad)]
  · rw [Completes, mbxHrst_single hu (by omega) ho, mbxHostReset_post hn hgo]
    refine ⟨_, rfl, ?_, ?_, ?_, sameMemory_of_keep (by simp only [State.setRegB_keep, State.setReg_keep])⟩
    · simp [mbxSts_ne_irqEn]
    · simp [(mbxSts_ne_irqEn n n).symm]
    · intro a ha
      simp only [Bool.or_eq_false_iff, beq_eq_false_iff_ne] at ha
      obtain ⟨hsts, hirq⟩ := ha
      simp [hsts, hirq]
  · rw [Completes, mbxHrst_single hu hn ho, mbxHostReset_take h8 hgo]
    have hirq : ∀ k < 16, Reg.MBX_IRQ_EN n ≠ Reg.MBX_DATAi n k := fun k hk => mbxIrqEn_ne_data hk
    refine ⟨_, rfl, ?_, ?_, fun k hk => mbxAbort_data _ hk, ?_, ?_, ?_, ?_, fun k hk hk16 => ?_,
      sameMemory_of_keep (by simp only [State.mbxAbort_keep, State.setRegB_keep, State.setReg_keep])⟩
    · simp [State.mbxGo, regB_eq, mbxAbort_sts, Word.bit_setBit, bit_setFld]
    · unfold State.mbxLen
      rw [regF_eq, mbxAbort_sts, fld_setBit_apart (by omega) _ _ (by omega), fld_setFld_self (by omega) (by omega), Nat.zero_mod]
    · simp [regB_eq, mbxAbort_sts, Word.bit_setBit]
    · simp [regB_eq, mbxAbort_sts, Word.bit_setBit, bit_setFld]
    · simp [regB_eq, mbxAbort_sts, Word.bit_setBit, bit_setFld]
    · rw [mbxAbort_other _ (mbxSts_ne_irqEn n n).symm hirq]
      simp [(mbxSts_ne_irqEn n n).symm]
    · rw [mbxAbort_other _ (mbxSts_inj hk) (fun i hi => mbxSts_ne_data hi)]
      simp [mbxSts_inj hk, mbxSts_ne_irqEn]

end Sys2Proof.Proofs
end

section
/-!
PROOFS. Commands that are performed in one step and answered (03 chapter, Table 3.8).
-/
namespace Sys2Proof.Proofs
open Sys2Proof Sys2Proof.Machine

section
variable {dt n code need : Nat} {c : Cmd} {s u v t : State} {f : Cmd → State → State × Reply}

/-- A command that starts and ends at once is noted and answered. -/
theorem performAt_done {st d : Nat} {rs : List Word} (hu : s.advance dt = u) (hs : u.starts n c code need v)
    (hf : f c v = (t, .done st d rs)) : performAt dt n code need s f = .next ((t.noted v n c).finish c.id st d rs) := by
  refine next_of_after hu ((perform_starts f hs).trans ?_)
  rw [hf]
  rfl

theorem performAt_ok {rs : List Word} (hu : s.advance dt = u) (hs : u.starts n c code need v) (hf : f c v = (t, .ok rs)) :
    performAt dt n code need s f = .next ((t.noted v n c).finishOk c.id rs) :=
  performAt_done hu hs hf

/-- A command that starts and goes on is noted, and its answer is left to its end. -/
theorem performAt_goesOn (hu : s.advance dt = u) (hs : u.starts n c code need v) (hf : f c v = (t, .goesOn)) :
    performAt dt n code need s f = .next (t.noted v n c) := by
  refine next_of_after hu ((perform_starts f hs).trans ?_)
  rw [hf]
  rfl

end

/-- Settles O16: each status command answers what the state shows, and changes nothing. -/
theorem statusCommandsAnswer : Obligations.StatusCommandsAnswer := by
  refine ⟨fun dt n c s u v hu hs => (exec_ident ..).trans (performAt_ok hu hs rfl),
    fun dt n c s u v hu hs => (exec_statusGet ..).trans (performAt_ok hu hs rfl),
    fun dt n c s u v hu hs => (exec_echo ..).trans (performAt_ok hu hs rfl),
    fun dt n c s u v hu hs => (exec_cfgStatus ..).trans (performAt_ok hu hs ?_),
    fun dt n c s u v hu hs => (exec_prgInfo ..).trans (performAt_ok hu hs rfl),
    fun dt n c fs s u v hu hs hfs => (exec_frcList ..).trans (performAt_ok hu hs ?_),
    fun dt n c s u v hu hs => (exec_pairStatus ..).trans (performAt_ok hu hs rfl),
    fun dt n c s u v hu hs => (exec_recInfo ..).trans (performAt_ok hu hs rfl),
    fun dt n c s u v hu hs => (exec_updStatus ..).trans (performAt_ok hu hs rfl)⟩
  · unfold cmdCfgStatus
    cases v.mp.swap <;> rfl
  · subst hfs
    rfl

/-- A command on a channel that is there and powered. -/
theorem onChannel_present {f : Nat → Cmd → State → State × Reply} {c : Cmd} {v : State} (h31 : c.n 4 ≤ 31)
    (hg : v.hasGroup (grpOf (c.n 4)) = true) (hd : v.domainOn 9 = true) : onChannel f c v = f (c.n 4) c v := by
  have hcheck : v.chanCheck (c.n 4) = (v, none) := by
    unfold State.chanCheck
    simp [h31, hg, hd]
  unfold onChannel
  rw [hcheck]

/-- Settles O17: each reading command answers what the item, symbol or unit named holds, and changes nothing. -/
theorem readingCommandsAnswer : Obligations.ReadingCommandsAnswer := by
  refine ⟨fun dt n c cat it first k s u v hu hs hcat hit hfirst hk h1 h7 hk1 hk11 hin =>
      (exec_cfgRead ..).trans (performAt_ok hu hs ?_),
    fun dt n c s u v hu hs h1 h11 hsym => (exec_valRead ..).trans (performAt_ok hu hs ?_),
    fun dt n c d p s u v hu hs hd h7 hp => (exec_datStatus ..).trans (performAt_ok hu hs ?_),
    fun dt n c d s u v hu hs hd h7 => (exec_stkStatus ..).trans (performAt_ok hu hs ?_),
    fun dt n c k s u v hu hs hk h31 hg hdom => (exec_chStatus ..).trans (performAt_ok hu hs ?_),
    fun dt n c s u v hu hs h16 h6 h12 hdom => (exec_diagCounters ..).trans (performAt_ok hu hs ?_)⟩
  · have hgood : goodCat cat = true := by simp [goodCat, h1, h7]
    have hitem : inItem cat it first k = true := by simpa [inItem] using hin
    have hcount : ¬ (k = 0 ∨ 11 < k) := by omega
    unfold cmdCfgRead itemRef
    simp [hcat, hit, hfirst, hk, hgood, hitem, hcount]
  · have hcount : ¬ (c.n 5 = 0 ∨ 11 < c.n 5) := by omega
    unfold cmdValRead
    obtain ⟨y, hy⟩ := Option.isSome_iff_exists.mp hsym
    simp [hcount, hy]
  · subst hd hp
    unfold cmdDatStatus
    rw [if_neg (by omega)]
  · subst hd
    unfold cmdStkStatus
    rw [if_neg (by omega)]
  · subst hk
    exact onChannel_present h31 hg hdom
  · have h12' : (decide (c.n 4 = 12) && decide (v.order = Order.s)) = false := by simpa using h12
    unfold cmdDiagCounters
    simp [Nat.not_lt.mpr h16, h12', hdom, h6]

end Sys2Proof.Proofs
end

section
/-!
PROOFS. The configuration commands, and the commands on the program, values, constants, LPDDR5 and forces (Table 3.8).
-/
namespace Sys2Proof.Proofs
open Sys2Proof Sys2Proof.Machine

section
variable {dt n code need : Nat} {c : Cmd} {s u v t : State} {f : Cmd → State → State × Reply} {es : Cmd → State → List Ev}

/-- A command of which the external world is told, and which starts and ends at once. -/
theorem performEv_done {st d : Nat} {rs : List Word}
    (hu : s.clock dt (((s.advance dt).nextCmd n code).elim [] (fun c => es c (s.advance dt))) = u)
    (hs : u.starts n c code need v) (hf : f c v = (t, .done st d rs)) :
    performEv dt n code need s es f = .next ((t.noted v n c).finish c.id st d rs) := by
  refine next_of_afterEv hu ((perform_starts f hs).trans ?_)
  rw [hf]
  rfl

theorem performEv_ok {rs : List Word}
    (hu : s.clock dt (((s.advance dt).nextCmd n code).elim [] (fun c => es c (s.advance dt))) = u)
    (hs : u.starts n c code need v) (hf : f c v = (t, .ok rs)) :
    performEv dt n code need s es f = .next ((t.noted v n c).finishOk c.id rs) :=
  performEv_done hu hs hf

theorem performEv_goesOn
    (hu : s.clock dt (((s.advance dt).nextCmd n code).elim [] (fun c => es c (s.advance dt))) = u)
    (hs : u.starts n c code need v) (hf : f c v = (t, .goesOn)) :
    performEv dt n code need s es f = .next (t.noted v n c) := by
  refine next_of_afterEv hu ((perform_starts f hs).trans ?_)
  rw [hf]
  rfl

theorem inConfigRole_of_role (h : v.configRole = true) : inConfigRole f c v = f c v := if_pos h

/-- A session's edit with no swap armed is let through. -/
theorem editCheck_none (hs : v.inSession c = true) (hw : v.mp.swap = none) : v.editCheck c = none := by
  simp [State.editCheck, hs, hw]

end

theorem setShadow_keep (s : State) (m : Sparse Word) : (s.setShadow m).keep = s.keep := State.record_keep ..

/-- Settles O18: the configuration commands in an accepting role. -/
theorem configurationCommands : Obligations.ConfigurationCommands := by
  refine ⟨fun dt n c k t s u v hu hs hr h0 hk ht => (exec_cfgOpen ..).trans (performAt_ok hu hs ?_),
    fun dt n c t s u v hu hs hr hse hw ht => (exec_cfgClose ..).trans (performAt_ok hu hs ?_),
    fun dt n c s u v hu hs hr hse hw => (exec_cfgAbandon ..).trans (performAt_ok hu hs ?_),
    fun dt n c s u v hu hs hr hse hw => (exec_cfgCopy ..).trans (performAt_ok hu hs ?_),
    fun dt n c cat it first ws s u v hu hs hr hse hw hcat hit hfirst hws h1 h7 hin =>
      (exec_cfgWrite ..).trans (performAt_ok hu hs ?_),
    fun dt n c t s u v hu hs hr hse hw hha htc hcs ht => (exec_cfgSwap ..).trans (performAt_goesOn hu hs ?_),
    fun dt n c a t s u v hu hs hr hw ha ht => (exec_cfgSwapCancel ..).trans (performEv_ok hu hs ?_),
    fun dt n c s u v hu hs hb => (exec_cfgBulk ..).trans (performAt_goesOn hu hs ?_),
    fun dt n c s u v hu hs hr => (exec_cfgCheck ..).trans (performAt_goesOn hu hs (inConfigRole_of_role hr)),
    fun s m => ⟨?_, ?_, ?_, sameMemory_of_keep (setShadow_keep s m)⟩⟩
  · subst hk ht
    have hk0 : (if 255 ≤ v.mp.sessions then 1 else v.mp.sessions + 1) ≠ 0 := by split <;> omega
    rw [inConfigRole_of_role hr, cmdCfgOpen, if_neg (not_not_intro h0)]
    simp only [State.setSess, if_neg hk0]
  · subst ht
    rw [inConfigRole_of_role hr, cmdCfgClose, editCheck_none hse hw]
    rfl
  · rw [inConfigRole_of_role hr, cmdCfgAbandon, if_neg (by simp [hse, hw])]
  · rw [inConfigRole_of_role hr, cmdCfgCopy, editCheck_none hse hw]
  · subst hcat hit hfirst hws
    have hgood : goodCat ((c.w 4).fld 3 0) = true := by simp [goodCat, h1, h7]
    have hitem : inItem ((c.w 4).fld 3 0) ((c.w 4).fld 20 8) ((c.w 4).fld 31 22) (c.words.drop 5).length = true :=
      decide_eq_true hin
    rw [inConfigRole_of_role hr, cmdCfgWrite, editCheck_none hse hw]
    simp only [itemRef, hgood, hitem, Bool.not_true, Bool.false_eq_true, if_false]
  · subst ht
    have hreply : v.checkReply ((c.w 4).fld 6 0) = none := by rw [State.checkReply, hcs]; rfl
    rw [inConfigRole_of_role hr, cmdCfgSwap]
    simp only [hse, hw, hha, htc, hreply, Bool.not_true, Option.isSome_none, Bool.or_self, Bool.false_eq_true, if_false]
    rfl
  · subst ht
    rw [inConfigRole_of_role hr, cmdCfgSwapCancel]
    simp only [hw, ha, Option.isSome_none, Bool.false_eq_true, if_false]
  · rw [cmdCfgBulk, hb]
    rfl
  · exact State.record_cfgS ..
  · exact State.record_cfgA ..
  · exact State.record_mp ..

/-! ### The program, values, constants, LPDDR5 and forces -/

/-- A force that is set stands as the last of the table, and one released stands no more. -/
theorem setForce_forces (s : State) (y : Nat) (x : Option Nat) :
    (s.setForce y x).plm.forces = s.plm.forces.filter (fun f => f.sym ≠ y) ++ (x.map (fun x => (⟨y, x⟩ : Force))).toList := by
  unfold State.setForce State.putForce
  rw [State.record_plm]
  cases x <;> dsimp only [Option.map, Option.toList] <;> split
  case none.isTrue h => rw [List.append_nil]; exact h.symm
  case none.isFalse h => rw [List.append_nil]; exact congrArg Plm.forces (State.raiseBit_plm ..)
  case some.isTrue h => exact h.symm
  case some.isFalse h => exact congrArg Plm.forces (State.raiseBit_plm ..)

/-- Settles O19: the commands on the program, values, constants, LPDDR5 and forces. -/
theorem programValueAndForceCommands : Obligations.ProgramValueAndForceCommands := by
  refine ⟨fun dt n c t s u v hu hs hr hsz ht => (exec_prgLoadBegin ..).trans (performAt_ok hu hs ?_),
    fun dt n c s u v hu hs hb => (exec_prgLoadBlock ..).trans (performAt_goesOn hu hs ?_),
    fun dt n c s u v hu hs hl => (exec_prgLoadEnd ..).trans (performAt_goesOn hu hs ?_),
    fun dt n c y s u v hu hs hr hy hm => (exec_valWrite ..).trans (performEv_ok hu hs ?_),
    fun dt n c k s u v hu hs hr hk hp => (exec_constWrite ..).trans (performAt_goesOn hu hs ?_),
    fun dt n c t bs s u v hu hs hl ha => (exec_lpdRead ..).trans (performAt_ok hu hs ?_),
    fun dt n c t ds bs s u v hu hs hl hlen hds ha => (exec_lpdWrite ..).trans (performAt_ok hu hs ?_),
    fun dt n c y s u v hu hs hr hy hf hfull => (exec_frcSet ..).trans (performEv_ok hu hs ?_),
    fun dt n c s u v hu hs hy hf => (exec_frcRelease ..).trans (performEv_ok hu hs ?_),
    fun dt n c s u v hu hs => (exec_frcReleaseAll ..).trans (performEv_ok hu hs rfl),
    fun s y x => setForce_forces s y (some x), fun s y => (setForce_forces s y none).trans (List.append_nil _)⟩
  · subst ht
    rw [cmdPrgLoadBegin, hr, if_neg (by decide), if_neg (by omega)]
  · rw [cmdPrgLoadBlock, hb]
    rfl
  · obtain ⟨l, hl⟩ := Option.isSome_iff_exists.mp hl
    rw [cmdPrgLoadEnd, hl]
    rfl
  · simp only [cmdValWrite, hr, hy, hm, Bool.not_true, Bool.false_eq_true, if_false]
  · simp only [cmdConstWrite, hr, hk, hp, Bool.not_true, Bool.false_eq_true, if_false]
  · simp only [cmdLpdRead, hl, State.mpAccess, ha]
  · subst hds
    simp only [cmdLpdWrite, hl, if_neg (Nat.not_lt.mpr hlen), State.storeReply, State.mpAccess, ha]
  · simp only [cmdFrcSet, hr, hy, hf, hfull, Bool.not_true, Bool.false_eq_true, if_false]
  · obtain ⟨y, hy⟩ := Option.isSome_iff_exists.mp hy
    simp only [cmdFrcRelease, hy, hf, Option.isNone_some, Bool.not_true, Bool.false_eq_true, if_false]

end Sys2Proof.Proofs
end

section
/-!
PROOFS. The commands on datums, stakes, channels, the recorder, firmware, self-test, lockstep and the pair (Table 3.8).
-/
namespace Sys2Proof.Proofs
open Sys2Proof Sys2Proof.Machine

section
variable {c : Cmd} {v : State}

/-- The number of a pair that may split is that of a Plumb or a block pair. -/
theorem askSplit_of_joined {p x slot : Nat} (hp : (0x10 ≤ p ∧ p ≤ 0x17) ∨ (0x20 ≤ p ∧ p ≤ 0x27)) (hx : cmpIndex p = x)
    (hst : v.cmpState x = 0) (hno : (v.reg (Reg.CMP_Px_STS x)).bit 3 = false) (hch : (v.chk x).change = none)
    (hpr : v.pairPresent x = true) :
    v.askSplit p slot = v.modChk x (fun k => { k with change := some (false, slot, v.now) }) := by
  subst hx
  have hok : ¬ (¬ ((0x10 ≤ p ∧ p ≤ 0x17) ∨ (0x20 ≤ p ∧ p ≤ 0x27)) ∨ v.cmpState (cmpIndex p) ≠ 0 ∨
      (v.reg (Reg.CMP_Px_STS (cmpIndex p))).bit 3 ∨ (v.chk (cmpIndex p)).change.isSome ∨ ¬ v.pairPresent (cmpIndex p)) := by
    simp only [hp, hst, hno, hch, hpr]; decide
  exact if_neg hok

theorem askJoin_of_split {p x slot : Nat} (hp : (0x10 ≤ p ∧ p ≤ 0x17) ∨ (0x20 ≤ p ∧ p ≤ 0x27)) (hx : cmpIndex p = x)
    (hst : v.cmpState x = 3) (hch : (v.chk x).change = none) :
    v.askJoin p slot = (v.setCmpState x 6).modChk x (fun k => { k with change := some (true, slot, v.now) }) := by
  subst hx
  have hok : ¬ (¬ ((0x10 ≤ p ∧ p ≤ 0x17) ∨ (0x20 ≤ p ∧ p ≤ 0x27)) ∨ v.cmpState (cmpIndex p) ≠ 3 ∨
      (v.chk (cmpIndex p)).change.isSome) := by
    simp only [hp, hst, hch]; decide
  exact if_neg hok

/-- A hand-over that an ACTIVE module with nothing armed may arm. -/
theorem armHand_of_active {k : HandKind} {t : State} (hr : v.role = 2) (hw : v.mp.swap = none) (hh : v.handArmed = false)
    (htc : v.triggerCheck c = none) (ht : ({ v with pair := { v.pair with
      arm := some ⟨k, v.triggerOf (c.w 4) c.pos ((c.w 7).bit 0), c.id⟩ } } : State).setRegB Reg.PAIR_STS 7 true = t) :
    v.armHand k c =
      (if t.fallsNow (v.triggerOf (c.w 4) c.pos ((c.w 7).bit 0)) then t.pairTrigger (fun _ => true) else t, .goesOn) := by
  subst ht
  simp only [State.armHand, hr, hw, hh, htc, ne_eq, not_true, Option.isSome_none, Bool.or_self, Bool.false_eq_true, if_false]

end

/-- Settles O20: the commands on the units of the module. -/
theorem unitCommands : Obligations.UnitCommands := by
  refine ⟨fun dt n c s u v hu hs h7 => (exec_datStop ..).trans (performEv_goesOn hu hs (if_neg (Nat.not_lt.mpr h7))),
    fun dt n c es s u v hu hs h7 he => (exec_stkCancelAll ..).trans (performEv_ok hu hs ?_),
    fun dt n c k s u v hu hs hk h31 hg hd hret => (exec_chRevive ..).trans (performEv_ok hu hs ?_),
    fun dt n c k s u v hu hs hk h31 hg hd hn => (exec_chTrimCapture ..).trans (performAt_goesOn hu hs ?_),
    fun dt n c k s u v hu hs hk h31 hg hd => (exec_chTrimClear ..).trans (performAt_ok hu hs ?_),
    fun dt n c k s u v hu hs hk h31 hg hd h1 h200 hsup hst => (exec_chPulseTest ..).trans (performEv_goesOn hu hs ?_),
    fun dt n c s u v hu hs h1 h2 => (exec_recPeriod ..).trans (performEv_ok hu hs (if_neg ?_)),
    fun dt n c s u v hu hs hc => (exec_recCopy ..).trans (performAt_goesOn hu hs ?_),
    fun dt n c s u v hu hs h4 h5 h7 hi => (exec_updSchedule ..).trans (performEv_ok hu hs ?_),
    fun dt n c t s u v hu hs he hb ht => (exec_updCancel ..).trans (performEv_ok hu hs ?_),
    fun dt n c s u v hu hs hc => (exec_updChain ..).trans (performAt_goesOn hu hs ?_),
    fun dt n c s u v hu hs hr => (exec_selftestFull ..).trans (performAt_goesOn hu hs ?_),
    fun dt n c p x s u v hu hs hp hrange hx hst hno hch hpr => (exec_cmpSplit ..).trans (performAt_goesOn hu hs ?_),
    fun dt n c p x s u v hu hs hp hrange hx hst hch => (exec_cmpJoin ..).trans (performAt_goesOn hu hs ?_),
    fun dt n c s u v hu hs hk => (exec_mpRestart ..).trans (performAt_ok hu hs ?_)⟩
  · subst he
    rw [cmdStkCancelAll, if_neg (Nat.not_lt.mpr h7)]
  · subst hk
    rw [onChannel_present h31 hg hd, cmdChRevive, hret, if_neg (by decide)]
  · subst hk
    rw [onChannel_present h31 hg hd, cmdChTrimCapture, hn, if_neg (by decide)]
  · subst hk
    exact onChannel_present h31 hg hd
  · subst hk
    rw [onChannel_present h31 hg hd, cmdChPulseTest, if_neg (by simp; omega), if_neg (by simp [hsup, hst])]
  · simp
    omega
  · rw [cmdRecCopy, hc]
    rfl
  · rw [cmdUpdSchedule, if_neg (by omega), if_neg (by omega), if_neg (by omega), hi, if_neg (by decide)]
  · subst ht
    rw [cmdUpdCancel, if_neg (not_not_intro he), hb, if_neg (by decide)]
    rfl
  · have hany : c.ctls.any (fun k => !v.hasCtl k) = false := by simpa using hc
    rw [cmdUpdChain, hany, if_neg (by decide)]
  · rw [cmdSelftestFull, hr, if_pos rfl]
  · subst hp
    rw [cmdCmpSplit, askSplit_of_joined hrange hx hst hno hch hpr]
  · subst hp
    rw [cmdCmpJoin, askJoin_of_split hrange hx hst hch]
  · rw [cmdMpRestart, if_pos hk]

/-- Settles O21: the commands that arm, cancel and begin changes of the pair. -/
theorem pairCommands : Obligations.PairCommands := by
  refine ⟨fun dt n c t s u v hu hs hr hw hh htc ht =>
      (exec_pairExchange ..).trans (performAt_goesOn hu hs (armHand_of_active hr hw hh htc ht)),
    fun dt n c t s u v hu hs hr hw hh htc ht =>
      (exec_pairHandover ..).trans (performAt_goesOn hu hs (armHand_of_active hr hw hh htc ht)),
    fun dt n c x s u v hu hs hx => (exec_pairCancel ..).trans (performAt_ok hu hs ?_),
    fun dt n c s u v hu hs => (exec_pairWithdraw ..).trans (performAt_goesOn hu hs rfl),
    fun dt n c t s u v hu hs hr ht => (exec_pairResync ..).trans (performAt_goesOn hu hs ?_)⟩
  · rw [cmdPairCancel, hx]
  · subst ht
    rw [cmdPairResync, if_neg (not_not_intro hr)]

end Sys2Proof.Proofs
end

section
/-!
PROOFS. The MP takes posted commands in rotation and posts the response that completed first (03 R51 to R57).
-/
namespace Sys2Proof.Proofs
open Sys2Proof Sys2Proof.Machine

/-! ### Registers after an interrupt line moves -/

/-- A vector that is signalled is sent, or waits in its pending bit: no other register moves. -/
theorem signal_reg (s : State) {v c : Nat} (h : c ≠ Reg.MSIX_PBA (v / 32)) : (s.signal v).reg c = s.reg c := by
  unfold State.signal
  split
  · rfl
  · rw [setRegB_reg, if_neg h]

theorem irqChange_reg (s : State) {v a c : Nat} (w : Word) (h : c ≠ Reg.MSIX_PBA (v / 32)) :
    (s.irqChange v a w).reg c = if c = a then w else s.reg c := by
  have hset := s.setReg_reg a c w
  unfold State.irqChange
  dsimp only
  split
  · rw [signal_reg _ h, hset]
  · exact hset

theorem mbxSts_ne_pba (n k : Nat) (hk : k < 2) : Reg.MBX_STS n ≠ Reg.MSIX_PBA k := by
  unfold Reg.MBX_STS Reg.MSIX_PBA; omega

theorem mbxData_ne_pba (n i k : Nat) (hk : k < 2) : Reg.MBX_DATAi n i ≠ Reg.MSIX_PBA k := by
  unfold Reg.MBX_DATAi Reg.MSIX_PBA; omega

/-- An event of a mailbox shows in its status. -/
theorem mbxEvent_reg (s : State) {n b c : Nat} (hn : n < 16) (h0 : c ≠ Reg.MSIX_PBA 0) :
    (s.mbxEvent n b).reg c = if c = Reg.MBX_STS n then (s.reg (Reg.MBX_STS n)).setBit b true else s.reg c := by
  have hv : (n + 1) / 32 = 0 := by omega
  exact irqChange_reg s _ (by rw [hv]; exact h0)

theorem mbxEvent_mp (s : State) (n b : Nat) : (s.mbxEvent n b).mp = s.mp := State.irqChange_mp ..

/-! ### Taking -/

section
variable {u : State} {n k : Nat} {ws : List Word} {sr : Bool}

/-- The mailbox taken from is the first after the one served last that holds a command and has a free slot. -/
theorem nextMailbox_eq (hk : k < 8)
    (hbefore : ∀ j < k, (u.mbxGo ((u.mp.served + 1 + j) % 8) && decide ((u.mpPair ((u.mp.served + 1 + j) % 8)).cmds.length < 4)) = false)
    (hgo : u.mbxGo ((u.mp.served + 1 + k) % 8) = true) (hfree : (u.mpPair ((u.mp.served + 1 + k) % 8)).cmds.length < 4) :
    u.nextMailbox = some ((u.mp.served + 1 + k) % 8) := by
  unfold State.nextMailbox
  rw [List.find?_map]
  have hfind : (List.range 8).find? ((fun n => u.mbxGo n && decide ((u.mpPair n).cmds.length < 4)) ∘
      fun k => (u.mp.served + 1 + k) % 8) = some k := by
    rw [List.find?_range_eq_some]
    refine ⟨by simp [hgo, hfree], List.mem_range.mpr hk, fun j hj => ?_⟩
    simp only [Function.comp_apply, hbefore j hj, Bool.not_false]
  rw [hfind]
  rfl

/-- A message that is no retry and whose CODE is in the catalogue waits in a new slot behind the others. -/
theorem accept_new (h20 : (item ws 0).bit 20 = false) (htype : (item ws 0).fld 19 16 = 1)
    (hcode : catalogue.contains ((item ws 0).fld 15 0) = true) :
    u.accept n ws sr = ({ u with mp := { u.mp with nextId := u.mp.nextId + 1 } } : State).modMpPair n
      (fun p => { p with cmds := p.cmds ++ [{ id := u.mp.nextId, words := ws, sreset := sr }] }) := by
  unfold State.accept
  simp only [h20, Bool.false_and, Bool.false_eq_true, if_false]
  rw [if_neg]
  simp only [Cmd.type, Cmd.code, Cmd.w, htype, hcode]
  decide

theorem mpPair_modMpPair (s : State) (n j : Nat) (f : MbxPair → MbxPair) :
    (s.modMpPair n f).mpPair j = if j = n then f (s.mpPair n) else s.mpPair j := sget_smod ..

/-- The state in which a message has been taken from mailbox `n` into a new slot. -/
def taken (u : State) (n : Nat) (ws : List Word) (sr : Bool) : State :=
  let s := (u.mbxClearGo n).mbxEvent n 24
  ({ s with mp := { u.mp with served := n, nextId := u.mp.nextId + 1 } } : State).modMpPair n
    (fun p => { p with cmds := p.cmds ++ [{ id := u.mp.nextId, words := ws, sreset := sr }] })

theorem mpTake_eq (hm : u.mpReady = true) (hnext : u.nextMailbox = some n)
    (h20 : (item (u.mbxWords n (u.mbxLen n)) 0).bit 20 = false) (htype : (item (u.mbxWords n (u.mbxLen n)) 0).fld 19 16 = 1)
    (hcode : catalogue.contains ((item (u.mbxWords n (u.mbxLen n)) 0).fld 15 0) = true) :
    u.mpTake = taken u n (u.mbxWords n (u.mbxLen n)) (u.regB (Reg.MBX_STS n) 17) := by
  have hmp : ((u.mbxClearGo n).mbxEvent n 24).mp = u.mp := mbxEvent_mp ..
  unfold State.mpTake
  simp only [hm, hnext, Bool.not_true, Bool.false_eq_true, if_false]
  rw [accept_new h20 htype hcode]
  simp only [hmp]
  rfl

theorem taken_pairs (u : State) (n j : Nat) (ws : List Word) (sr : Bool) :
    (taken u n ws sr).mpPair j =
      if j = n then { u.mpPair n with cmds := (u.mpPair n).cmds ++ [{ id := u.mp.nextId, words := ws, sreset := sr }] }
      else u.mpPair j :=
  mpPair_modMpPair _ n j (fun p => { p with cmds := p.cmds ++ [{ id := u.mp.nextId, words := ws, sreset := sr }] })

theorem taken_reg (u : State) {n a : Nat} (ws : List Word) (sr : Bool) (hn : n < 8) (ha : a ≠ Reg.MSIX_PBA 0) :
    (taken u n ws sr).reg a =
      if a = Reg.MBX_STS n then (((u.reg (Reg.MBX_STS n)).setBit 0 false).setBit 17 false).setBit 24 true else u.reg a := by
  have hclear : ∀ c, (u.mbxClearGo n).reg c =
      if c = Reg.MBX_STS n then ((u.reg (Reg.MBX_STS n)).setBit 0 false).setBit 17 false else u.reg c := by
    intro c
    unfold State.mbxClearGo
    by_cases hc : c = Reg.MBX_STS n <;> simp [hc]
  refine (mbxEvent_reg (u.mbxClearGo n) (b := 24) (by omega) ha).trans ?_
  rw [hclear, hclear, if_pos rfl]
  by_cases hc : a = Reg.MBX_STS n <;> simp [hc]

end

/-! ### Posting -/

section
variable {u : State} {n : Nat} {o : Option Nat} {c : Cmd}

/-- What posting a response leaves of a mailbox pair: the slot is free, and a stored response counts as posted. -/
def dropPosted (c : Cmd) (p : MbxPair) : MbxPair :=
  { cmds := p.cmds.filter (fun x => x.id ≠ c.id),
    stored := if c.again then p.stored else (markPosted p.stored.reverse).reverse }

/-- The state in which the response of a slot has been laid into its mailbox, before the event. -/
def laid (u : State) (n : Nat) (c : Cmd) : State :=
  let s := u.modMpPair n (dropPosted c)
  let s := if startsRestart c then { s with mp := { s.mp with restart := some (s.mp.restart.getD (s.sclk + msClk)) } } else s
  ((s.setMbxWords (n + 8) 0 c.response).setRegF (Reg.MBX_STS (n + 8)) 12 8 c.response.length).setRegB (Reg.MBX_STS (n + 8)) 0 true

theorem postResponse_eq (hm : u.mpReady = true) (hn : n < 8) (hgo : u.mbxGo (n + 8) = false)
    (hc : (u.mpPair n).cmds.find? (fun x => x.stage = .done) = some c) (hcl : u.closes c o = true) :
    u.postResponse n o = (laid u n c).mbxEvent (n + 8) 25 := by
  have hnext : u.nextResponse n = some c := by
    unfold State.nextResponse
    rw [if_neg (by simp [hm, hgo]; omega), hc]
  unfold State.postResponse
  simp only [hnext, hcl, Bool.not_true, Bool.false_eq_true, if_false]
  rfl

theorem setMbxWords_mp (s : State) (n k : Nat) (ws : List Word) : (s.setMbxWords n k ws).mp = s.mp := by
  induction ws generalizing s k with
  | nil => rfl
  | cons w ws ih => exact (ih ..).trans (State.setReg_mp ..)

theorem laid_pairs (u : State) (n j : Nat) (c : Cmd) :
    (laid u n c).mpPair j = if j = n then dropPosted c (u.mpPair n) else u.mpPair j := by
  unfold State.mpPair laid
  dsimp only
  rw [State.setRegB_mp, State.setRegF_mp, setMbxWords_mp]
  split <;> exact mpPair_modMpPair u n j (dropPosted c)

/-- The state before the words are laid has the registers of the one the response is taken from. -/
theorem laid_eq (u : State) (n : Nat) (c : Cmd) :
    ∃ s : State, (∀ a, s.reg a = u.reg a) ∧ s.keep = u.keep ∧ laid u n c =
      ((s.setMbxWords (n + 8) 0 c.response).setRegF (Reg.MBX_STS (n + 8)) 12 8 c.response.length).setRegB
        (Reg.MBX_STS (n + 8)) 0 true := by
  refine ⟨_, fun a => ?_, ?_, rfl⟩ <;> split <;> rfl

theorem laid_keep (u : State) (n : Nat) (c : Cmd) : (laid u n c).keep = u.keep := by
  obtain ⟨s, -, hs, h⟩ := laid_eq u n c
  rw [h, State.setRegB_keep, State.setRegF_keep, State.setMbxWords_keep, hs]

section
variable (hlen : c.response.length ≤ 16)
include hlen

theorem laid_sts : (laid u n c).reg (Reg.MBX_STS (n + 8)) =
    ((u.reg (Reg.MBX_STS (n + 8))).setFld 12 8 c.response.length).setBit 0 true := by
  obtain ⟨s, hs, -, h⟩ := laid_eq u n c
  rw [h, setRegB_reg, if_pos rfl, setRegF_reg, if_pos rfl,
    setMbxWords_other _ _ _ _ _ (fun i hi => by rw [Nat.zero_add]; exact mbxSts_ne_data (by omega)), hs]

theorem laid_data {k : Nat} (hk : k < c.response.length) :
    (laid u n c).reg (Reg.MBX_DATAi (n + 8) k) = c.response.getD k 0 := by
  obtain ⟨s, -, -, h⟩ := laid_eq u n c
  have hne : Reg.MBX_DATAi (n + 8) k ≠ Reg.MBX_STS (n + 8) := (mbxSts_ne_data (by omega)).symm
  have hdata := setMbxWords_data s (n + 8) 0 k c.response hk
  rw [Nat.zero_add] at hdata
  rw [h, setRegB_reg, if_neg hne, setRegF_reg, if_neg hne, hdata, List.getD_eq_getElem?_getD, List.getElem?_eq_getElem hk, Option.getD_some]

theorem laid_other_sts {j : Nat} (hj : j ≠ n + 8) : (laid u n c).reg (Reg.MBX_STS j) = u.reg (Reg.MBX_STS j) := by
  obtain ⟨s, hs, -, h⟩ := laid_eq u n c
  rw [h, setRegB_reg, if_neg (mbxSts_inj hj), setRegF_reg, if_neg (mbxSts_inj hj),
    setMbxWords_other _ _ _ _ _ (fun i hi => mbxSts_ne_data (by omega)), hs]

end

end

/-- Settles O15: what MP_TAKE takes, and what MP_POST_RESPONSE posts. -/
theorem mpTakesAndPosts : Obligations.MpTakesAndPosts := by
  refine ⟨fun dt k s u hu hm hk hbefore hgo hfree h20 htype hcode => ?_,
    fun dt n o c s u hu hm hn hgo hc hlen hcl => ?_⟩
  · have hnext := nextMailbox_eq hk hbefore hgo hfree
    generalize hn : (u.mp.served + 1 + k) % 8 = n at *
    have hn8 : n < 8 := by omega
    refine ⟨_, (exec_mpTake ..).trans (next_of_afterEv hu (mpTake_eq hm hnext h20 htype hcode)), rfl, ?_, fun j hj => ?_, ?_,
      fun a ha => ?_, ?_⟩
    · exact congrArg MbxPair.cmds ((taken_pairs u n n _ _).trans (if_pos rfl))
    · exact (taken_pairs u n j _ _).trans (if_neg hj)
    · exact (taken_reg u _ _ hn8 (mbxSts_ne_pba n 0 (by decide))).trans (if_pos rfl)
    · simp only [Bool.or_eq_false_iff, beq_eq_false_iff_ne] at ha
      obtain ⟨⟨hsts, hpba⟩, -⟩ := ha
      exact (taken_reg u _ _ hn8 hpba).trans (if_neg hsts)
    · exact sameMemory_of_keep ((State.mbxEvent_keep ..).trans (State.mbxClearGo_keep ..))
  · have hn16 : n + 8 < 16 := by omega
    refine ⟨_, (exec_mpPostResponse ..).trans (next_of_afterEv hu (postResponse_eq hm hn hgo hc hcl)), fun k hk => ?_, ?_, ?_,
      ?_, ?_, fun j hj => ?_, fun j hj hj16 => ?_, ?_⟩
    · rw [mbxEvent_reg _ hn16 (mbxData_ne_pba _ _ 0 (by decide)), if_neg (mbxSts_ne_data (by omega)).symm, laid_data hlen hk]
    · unfold State.mbxLen
      rw [regF_eq, mbxEvent_reg _ hn16 (mbxSts_ne_pba _ 0 (by decide)), if_pos rfl, laid_sts hlen,
        fld_setBit_apart (by omega) _ _ (by omega), fld_setBit_apart (by omega) _ _ (by omega),
        fld_setFld_self (by omega) (by omega)]
      exact Nat.mod_eq_of_lt (by omega)
    · unfold State.mbxGo
      rw [regB_eq, mbxEvent_reg _ hn16 (mbxSts_ne_pba _ 0 (by decide)), if_pos rfl, laid_sts hlen]
      simp [Word.bit_setBit]
    · rw [regB_eq, mbxEvent_reg _ hn16 (mbxSts_ne_pba _ 0 (by decide)), if_pos rfl, laid_sts hlen]
      simp [Word.bit_setBit]
    · unfold State.mpPair
      rw [mbxEvent_mp]
      exact congrArg MbxPair.cmds ((laid_pairs u n n c).trans (if_pos rfl))
    · unfold State.mpPair
      rw [mbxEvent_mp]
      exact (laid_pairs u n j c).trans (if_neg hj)
    · rw [mbxEvent_reg _ hn16 (mbxSts_ne_pba _ 0 (by decide)), if_neg (mbxSts_inj hj), laid_other_sts hlen hj]
    · exact sameMemory_of_keep ((State.mbxEvent_keep ..).trans (laid_keep u n c))

end Sys2Proof.Proofs
end

section
/-!
PROOFS. Swaps and constant writes, the ends of long commands, and the restart of the MP (03 R67 to R72).
-/
namespace Sys2Proof.Proofs
open Sys2Proof Sys2Proof.Machine

/-! ### Swaps and constant writes -/

section
variable {u v : State} {p : Nat} {k : ConstWrite}

/-- An armed swap whose trigger has fallen, with no running datum redefined. -/
theorem swapNow_eq {f a t : State} {w : ArmedSwap} {c : Sparse Word} (hf : u.fireOwned = f)
    (hc : mergeSets w.mask f.cfgA f.cfgS = c) (hbad : (covers w.mask 2 && ({ f with cfgA := c } : State).datMisused f.cfgA) = false)
    (ha : f.activate w.mask c = a)
    (ht : ({ a with cfgS := mergeSets w.mask a.cfgS c
                    mp := { a.mp with swap := none, session := 0, gen := (a.mp.gen + 1) % 2 ^ 32 } } : State) = t) :
    u.swapNow w = (t.record w.gen (t.setRecs w.mask f.cfgA ++ [t.armRec])).keepApp.finishOk w.slot
      [w32 t.mp.gen, w32 (nsOf t.ptp), w32 (secOf t.ptp)] := by
  subst hf hc ha
  unfold State.swapNow
  simp only [State.resulting, hbad, Bool.false_eq_true, if_false, ht]
  rw [State.record_mp, State.record_ptp]

/-- A pair with no release and a constant write to apply. -/
theorem applyConst_eq (h0 : (u.eng p).rel = none) (h1 : (u.eng (p + 0x80)).rel = none)
    (hk : u.plm.consts.find? (fun c => c.todo.contains p) = some k) (hv : u.setKonst p k.index k.value = v)
    (hst : v.cmpState (cmpIndex p) ≠ 3) : u.applyConst p = v.constDone k p := by
  subst hv
  unfold State.applyConst
  simp only [h0, h1, hk, Option.isSome_none, Bool.or_self, Bool.false_eq_true, if_false, if_neg hst]

end

/-- Settles O24: the clock of a swap, and the constant write that a pair applies between releases. -/
theorem swapAndConstantsTakeEffect : Obligations.SwapAndConstantsTakeEffect := by
  refine ⟨fun dt s u f a t w c hu hdue hf hc hbad ha ht => (exec_cfgSwapApply ..).trans (next_of_afterEv hu ?_),
    fun dt p k s u v hu h0 h1 hk hv hst hne => (exec_constApply ..).trans (next_of_after hu ?_),
    fun dt p k s u v hu h0 h1 hk hv hst he => (exec_constApply ..).trans (next_of_after hu ?_)⟩
  · have hgen : t.mp.gen = (a.mp.gen + 1) % 2 ^ 32 := by subst ht; rfl
    have hptp : t.ptp = a.ptp := by subst ht; rfl
    unfold State.swapApply
    simp only [hdue]
    rw [swapNow_eq hf hc hbad ha ht, hgen, hptp]
  · rw [applyConst_eq h0 h1 hk hv hst]
    unfold State.constDone
    simp only [hne, if_false]
  · rw [applyConst_eq h0 h1 hk hv hst]
    unfold State.constDone
    simp only [he, if_true]

/-! ### The ends of long commands -/

section
variable {dt n found : Nat} {c : Cmd} {s u t : State}

/-- The oldest long command of a pair ends with its effect and its reply. -/
theorem longComplete_done {st d : Nat} {rs : List Word} (hu : s.advance dt = u) (hm : u.mpReady = true)
    (hc : u.longRunning n longCodes = some c) (he : u.endLong c found = (t, .done st d rs)) :
    exec (.longCommandComplete dt n found) s = .next (t.finish c.id st d rs) := by
  refine (exec_longCommandComplete ..).trans (next_of_after hu ?_)
  unfold State.longComplete
  simp only [hm, hc, he, Bool.not_true, Bool.false_eq_true, if_false]
  rfl

theorem checkReply_of_ok {mask : Nat} (h : u.checkSet mask (u.resulting mask) = none) : u.checkReply mask = none := by
  rw [State.checkReply, h]; rfl

theorem checkReply_of_failed {mask cat it : Nat} (h : u.checkSet mask (u.resulting mask) = some (cat, it)) :
    u.checkReply mask = some (.failed cat it) := by
  rw [State.checkReply, h]; rfl

theorem endLong_cfgCheck (h : c.code = 0x0108) : u.endLong c found = endCfgCheck c u := by
  unfold State.endLong; simp only [h]

theorem endLong_trimCapture (h : c.code = 0x0503) : u.endLong c found = onChannel endChTrimCapture c u := by
  unfold State.endLong; simp only [h]

theorem endLong_pulseTest (h : c.code = 0x0505) :
    u.endLong c found = onChannel (fun n _ s => endChPulseTest n found s) c u := by
  unfold State.endLong; simp only [h]

theorem endLong_pairResync (h : c.code = 0x0606) : u.endLong c found = endPairResync u := by
  unfold State.endLong; simp only [h]

end

/-- Settles O25: the end of each long command, and its response. -/
theorem longCommandsEnd : Obligations.LongCommandsEnd := by
  refine ⟨fun dt n found c s u hu hm hc hcode hchk => longComplete_done hu hm hc ?_,
    fun dt n found cat it c s u hu hm hc hcode hchk => longComplete_done hu hm hc ?_,
    fun dt n found k c s u v hu hm hc hcode hk h31 hg hd hn hv => longComplete_done hu hm hc ?_,
    fun dt n found k c s u hu hm hc hcode hk h31 hg hd => longComplete_done hu hm hc ?_,
    fun dt n found c s u hu hm hc hcode hr hsts => longComplete_done hu hm hc ?_⟩
  · rw [endLong_cfgCheck hcode, endCfgCheck, checkReply_of_ok hchk]
    rfl
  · rw [endLong_cfgCheck hcode, endCfgCheck, checkReply_of_failed hchk]
    rfl
  · subst hk hv
    rw [endLong_trimCapture hcode, onChannel_present h31 hg hd, endChTrimCapture, hn, if_neg (by decide)]
    rfl
  · subst hk
    rw [endLong_pulseTest hcode, onChannel_present h31 hg hd]
    rfl
  · rw [endLong_pairResync hcode, endPairResync, if_neg (not_not_intro hr), hsts]
    rfl

/-! ### The restart of the MP (R71) -/

/-- In a fold over numbers of which only one touches what is observed, that one is seen once. -/
theorem foldl_once {α : Type} (v : State → α) (g : α → α) (f : State → Nat → State) (n : Nat) (l : List Nat)
    (hf : ∀ j ∈ l, ∀ s, v (f s j) = if j = n then g (v s) else v s) (hl : l.Nodup) (s : State) :
    v (l.foldl f s) = if n ∈ l then g (v s) else v s := by
  induction l generalizing s with
  | nil => simp
  | cons j l ih =>
    obtain ⟨hj, hl⟩ := List.nodup_cons.mp hl
    rw [List.foldl_cons, ih (fun i hi => hf i (List.mem_cons_of_mem _ hi)) hl, hf j (List.mem_cons_self ..)]
    by_cases h : j = n
    · subst h; simp [hj]
    · simp [h, Ne.symm h]

/-- The status word of mailbox `n` after a restart of the MP: a command is gone with ABORTED and EMPTY set, a response stands
with SENDER_RESET. -/
def restartSts (n : Nat) (w : Word) : Word :=
  if !w.bit 0 then w
  else if n < 8 then ((((w.setBit 0 false).setBit 17 false).setFld 12 8 0).setBit 16 true).setBit 24 true
  else w.setBit 17 true

/-- A data word of mailbox `n` after a restart of the MP, with its status word before. -/
def restartData (n : Nat) (x : Word × Word) : Word × Word :=
  (restartSts n x.1, if x.1.bit 0 && decide (n < 8) then 0 else x.2)

theorem mbxMpReset_sts (s : State) (n j : Nat) (hj : j < 16) :
    (s.mbxMpReset j).reg (Reg.MBX_STS n) =
      if j = n then restartSts n (s.reg (Reg.MBX_STS n)) else s.reg (Reg.MBX_STS n) := by
  unfold State.mbxMpReset
  by_cases hjn : j = n
  · subst hjn
    rw [if_pos rfl, restartSts]
    have hgo : s.mbxGo j = (s.reg (Reg.MBX_STS j)).bit 0 := rfl
    rw [hgo]
    split
    · rfl
    · split
      · rw [mbxEvent_reg _ hj (mbxSts_ne_pba _ 0 (by decide)), if_pos rfl, mbxAbort_sts]
      · rw [setRegB_reg, if_pos rfl]
  · have hne : Reg.MBX_STS n ≠ Reg.MBX_STS j := mbxSts_inj (Ne.symm hjn)
    rw [if_neg hjn]
    split
    · rfl
    · split
      · rw [mbxEvent_reg _ hj (mbxSts_ne_pba _ 0 (by decide)), if_neg hne, mbxAbort_other _ hne (fun k hk => mbxSts_ne_data hk)]
      · rw [setRegB_reg, if_neg hne]

theorem mbxData_inj {n j k i : Nat} (hk : k < 16) (hi : i < 16) (h : n ≠ j) : Reg.MBX_DATAi n k ≠ Reg.MBX_DATAi j i := by
  unfold Reg.MBX_DATAi; omega

theorem mbxMpReset_data (s : State) {n j k : Nat} (hj : j < 16) (hk : k < 16) :
    (s.mbxMpReset j).reg (Reg.MBX_DATAi n k) =
      if j = n then (if (s.reg (Reg.MBX_STS n)).bit 0 && decide (n < 8) then 0 else s.reg (Reg.MBX_DATAi n k))
      else s.reg (Reg.MBX_DATAi n k) := by
  have hsts : ∀ i, Reg.MBX_DATAi n k ≠ Reg.MBX_STS i := fun i => (mbxSts_ne_data hk).symm
  unfold State.mbxMpReset
  by_cases hjn : j = n
  · subst hjn
    have hgo : s.mbxGo j = (s.reg (Reg.MBX_STS j)).bit 0 := rfl
    rw [if_pos rfl, hgo]
    by_cases hb : (s.reg (Reg.MBX_STS j)).bit 0 = true
    · rw [hb, if_neg (by decide)]
      by_cases h8 : j < 8
      · rw [if_pos h8, mbxEvent_reg _ hj (mbxData_ne_pba _ _ 0 (by decide)), if_neg (hsts j), mbxAbort_data _ hk]
        simp [h8]
      · rw [if_neg h8, setRegB_reg, if_neg (hsts j)]
        simp [h8]
    · simp [hb]
  · rw [if_neg hjn]
    split
    · rfl
    · split
      · rw [mbxEvent_reg _ hj (mbxData_ne_pba _ _ 0 (by decide)), if_neg (hsts j),
          mbxAbort_other _ (hsts j) (fun i hi => mbxData_inj hk hi (Ne.symm hjn))]
      · rw [setRegB_reg, if_neg (hsts j)]

/-- The mailbox registers above the mailboxes stand. -/
theorem mbxMpReset_glb (s : State) {j a : Nat} (hj : j < 16) (ha : 0x21000 ≤ a) : (s.mbxMpReset j).reg a = s.reg a := by
  have hsts : a ≠ Reg.MBX_STS j := by unfold Reg.MBX_STS; omega
  have hdata : ∀ k < 16, a ≠ Reg.MBX_DATAi j k := by intro k hk; unfold Reg.MBX_DATAi; omega
  have hpba : a ≠ Reg.MSIX_PBA 0 := by unfold Reg.MSIX_PBA; omega
  unfold State.mbxMpReset
  split
  · rfl
  · split
    · rw [mbxEvent_reg _ hj hpba, if_neg hsts, mbxAbort_other _ hsts hdata]
    · rw [setRegB_reg, if_neg hsts]

theorem mbxMpReset_mp (s : State) (j : Nat) : (s.mbxMpReset j).mp = s.mp := by
  unfold State.mbxMpReset State.mbxAbort State.mbxClearGo
  split
  · rfl
  · split
    · rw [mbxEvent_mp, State.setRegB_mp, setMbxWords_mp]; rfl
    · rfl

/-- What ends with the MP's commands moves no register below the lockstep unit, and nothing of the MP's own state. -/
theorem endCommands_reg (s : State) {a : Nat} (ha : a < 0xB0000) : s.endCommands.reg a = s.reg a := by
  have hcmp : ∀ x, a ≠ Reg.CMP_Px_STS x := by intro x; unfold Reg.CMP_Px_STS; omega
  have hctl : ∀ (t : State) c, (t.ctlReceived c).reg a = t.reg a := by
    intro t c
    unfold State.ctlReceived
    split
    · rw [setRegF_reg, if_neg (by unfold Reg.CHN_CCc; omega)]
    · rfl
  have hjoin : ∀ (l : Sparse Checked) (t : State), (l.foldl (fun s e => s.setRegF (Reg.CMP_Px_STS e.1) 2 0 3) t).reg a = t.reg a := by
    intro l t
    refine foldl_keeps (fun r : State => r.reg a = t.reg a) _ _ _ rfl (fun e _ c hc => ?_)
    rw [setRegF_reg, if_neg (hcmp _), hc]
  have hfold : ∀ t : State, ((List.range 16).foldl State.ctlReceived t).reg a = t.reg a := fun t =>
    foldl_keeps (fun r : State => r.reg a = t.reg a) _ _ _ rfl (fun c _ r hr => (hctl r c).trans hr)
  unfold State.endCommands
  dsimp only
  change (State.setRegB _ _ _ _).reg a = _
  rw [setRegB_reg, if_neg (by unfold Reg.CHN_STS; omega), hfold, hjoin]
  split
  · split
    · rfl
    · rw [setRegB_reg, if_neg (by unfold Reg.PAIR_STS; omega)]; rfl
  · rfl

theorem endCommands_mp (s : State) : s.endCommands.mp = s.mp := by
  have hctl : ∀ (t : State) c, (t.ctlReceived c).mp = t.mp := by
    intro t c
    unfold State.ctlReceived
    split <;> rfl
  have hjoin : ∀ (l : Sparse Checked) (t : State), (l.foldl (fun s e => s.setRegF (Reg.CMP_Px_STS e.1) 2 0 3) t).mp = t.mp :=
    fun l t => foldl_keeps (fun r : State => r.mp = t.mp) _ _ _ rfl (fun _ _ _ hc => hc)
  have hfold : ∀ t : State, ((List.range 16).foldl State.ctlReceived t).mp = t.mp := fun t =>
    foldl_keeps (fun r : State => r.mp = t.mp) _ _ _ rfl (fun c _ r hr => (hctl r c).trans hr)
  unfold State.endCommands
  dsimp only
  rw [State.setRegB_mp, hfold, hjoin]
  split
  · split <;> rfl
  · rfl

/-! What the restart leaves. -/

/-- The state after the messages have been reset, before the slots are. -/
def mailReset (u : State) : State := (List.range 16).foldl State.mbxMpReset u.endCommands

theorem mailReset_sts (u : State) {n : Nat} (hn : n < 16) :
    (mailReset u).reg (Reg.MBX_STS n) = restartSts n (u.reg (Reg.MBX_STS n)) := by
  refine (foldl_once (fun r => r.reg (Reg.MBX_STS n)) (restartSts n) _ n (List.range 16)
    (fun j hj r => mbxMpReset_sts r n j (List.mem_range.mp hj)) List.nodup_range u.endCommands).trans ?_
  rw [if_pos (List.mem_range.mpr hn), endCommands_reg u (by unfold Reg.MBX_STS; omega)]

theorem mailReset_data (u : State) {n k : Nat} (hn : n < 16) (hk : k < 16) :
    (mailReset u).reg (Reg.MBX_DATAi n k) =
      if (u.reg (Reg.MBX_STS n)).bit 0 && decide (n < 8) then 0 else u.reg (Reg.MBX_DATAi n k) := by
  have hfold := foldl_once (fun r => (r.reg (Reg.MBX_STS n), r.reg (Reg.MBX_DATAi n k))) (restartData n) State.mbxMpReset n
    (List.range 16) (fun j hj r => ?_) List.nodup_range u.endCommands
  · rw [if_pos (List.mem_range.mpr hn), endCommands_reg u (by unfold Reg.MBX_STS; omega),
      endCommands_reg u (by unfold Reg.MBX_DATAi; omega)] at hfold
    exact congrArg Prod.snd hfold
  · have hj16 := List.mem_range.mp hj
    rw [mbxMpReset_sts r n j hj16, mbxMpReset_data r hj16 hk]
    by_cases h : j = n <;> simp [h, restartData]

theorem mailReset_mp (u : State) : (mailReset u).mp = u.mp :=
  (foldl_keeps (fun r : State => r.mp = u.endCommands.mp) _ _ _ rfl (fun j _ r hr => (mbxMpReset_mp r j).trans hr)).trans
    (endCommands_mp u)

theorem mailReset_glb (u : State) {a : Nat} (ha : 0x21000 ≤ a) (hb : a < 0xB0000) : (mailReset u).reg a = u.reg a :=
  (foldl_keeps (fun r : State => r.reg a = u.endCommands.reg a) _ _ _ rfl
    (fun _ hj r hr => (mbxMpReset_glb r (List.mem_range.mp hj) ha).trans hr)).trans (endCommands_reg u hb)

/-- What of a mailbox pair outlives the restart: the completed slots, and the stored responses not yet posted. -/
def survivors (p : MbxPair) : MbxPair :=
  { cmds := p.cmds.filter (fun c => decide (c.stage = Stage.done)), stored := p.stored.filter (fun r => !r.2) }

/-- The MP's own state after the restart. -/
def Mp.restarted (m : Mp) : Mp := { m with restart := none, pairs := m.pairs.map (fun p => (p.1, survivors p.2)) }

theorem mpRestart_eq (u : State) :
    u.mpRestart = (({ mailReset u with mp := Mp.restarted (mailReset u).mp } : State).setRegB Reg.MBX_GLB_STS 16 false).countF
      Reg.MBX_GLB_MPRST 15 0 1 := rfl

theorem mpRestart_mp (u : State) : u.mpRestart.mp = Mp.restarted u.mp := by
  rw [mpRestart_eq, State.countF_mp, State.setRegB_mp, mailReset_mp]

theorem mpRestart_pair (u : State) (n : Nat) : u.mpRestart.mpPair n = survivors (u.mpPair n) := by
  unfold State.mpPair
  rw [mpRestart_mp]
  exact sget_map ({} : MbxPair) survivors u.mp.pairs n

/-- Of the registers, the restart moves MP_READY and its counter besides what the messages' reset moves. -/
theorem mpRestart_reg (u : State) {a : Nat} (h0 : a ≠ Reg.MBX_GLB_STS) (h1 : a ≠ Reg.MBX_GLB_MPRST) :
    u.mpRestart.reg a = (mailReset u).reg a := by
  rw [mpRestart_eq, State.countF, setRegF_reg, if_neg h1, setRegB_reg, if_neg h0]
  rfl

theorem mpRestart_sts (u : State) {n : Nat} (hn : n < 16) :
    u.mpRestart.reg (Reg.MBX_STS n) = restartSts n (u.reg (Reg.MBX_STS n)) := by
  rw [mpRestart_reg u (by unfold Reg.MBX_STS Reg.MBX_GLB_STS; omega) (by unfold Reg.MBX_STS Reg.MBX_GLB_MPRST; omega),
    mailReset_sts u hn]

theorem mpRestart_data (u : State) {n k : Nat} (hn : n < 16) (hk : k < 16) :
    u.mpRestart.reg (Reg.MBX_DATAi n k) =
      if (u.reg (Reg.MBX_STS n)).bit 0 && decide (n < 8) then 0 else u.reg (Reg.MBX_DATAi n k) := by
  rw [mpRestart_reg u (by unfold Reg.MBX_DATAi Reg.MBX_GLB_STS; omega) (by unfold Reg.MBX_DATAi Reg.MBX_GLB_MPRST; omega),
    mailReset_data u hn hk]

theorem mpRestart_ready (u : State) : u.mpRestart.mpReady = false := by
  unfold State.mpReady
  rw [regB_eq, mpRestart_eq, State.countF, setRegF_reg, if_neg (by decide), setRegB_reg, if_pos rfl, Word.bit_setBit _ _ _ _ (by decide),
    if_pos rfl]

theorem satAdd_le (m a b : Nat) : satAdd m a b ≤ m := by unfold satAdd; split <;> omega

theorem mpRestart_counts (u : State) :
    u.mpRestart.regF Reg.MBX_GLB_MPRST 15 0 = satAdd 0xFFFF (u.regF Reg.MBX_GLB_MPRST 15 0) 1 := by
  have hglb : (mailReset u).reg Reg.MBX_GLB_MPRST = u.reg Reg.MBX_GLB_MPRST := mailReset_glb u (by decide) (by decide)
  have hle := satAdd_le 0xFFFF ((u.reg Reg.MBX_GLB_MPRST).fld 15 0) 1
  rw [regF_eq, mpRestart_eq, State.countF, setRegF_reg, if_pos rfl, fld_setFld_self (by decide) (by decide), regF_eq,
    setRegB_reg, if_neg (by decide)]
  change satAdd 0xFFFF (((mailReset u).reg Reg.MBX_GLB_MPRST).fld 15 0) 1 % 65536 = _
  rw [hglb]
  exact Nat.mod_eq_of_lt (by omega)

/-- Settles O26: what an MP restart leaves, and when the MP is ready again. -/
theorem mpRestart : Obligations.MpRestart := by
  refine ⟨fun dt at_ s u hu hr hat => ?_, fun dt s u hu hm hph hst => ?_⟩
  · refine ⟨u.mpRestart, (exec_mpRestartBegin ..).trans (next_of_afterEv hu ?_), mpRestart_ready u, mpRestart_counts u,
      fun n => congrArg MbxPair.cmds (mpRestart_pair u n), fun n => congrArg MbxPair.stored (mpRestart_pair u n),
      fun n hn hgo => ?_, fun n h8 hn hgo => ?_, fun n hn hgo => ?_, ?_, ?_, sameMemory_of_keep (State.mpRestart_keep u)⟩
    · simp only [hr, if_pos hat]
    · have hbit : (u.reg (Reg.MBX_STS n)).bit 0 = true := hgo
      have hsts := mpRestart_sts u (n := n) (by omega)
      rw [restartSts, hbit, if_neg (by decide), if_pos hn] at hsts
      refine ⟨?_, ?_, ?_, ?_, fun k hk => ?_⟩
      · simp [State.mbxGo, regB_eq, hsts, Word.bit_setBit, bit_setFld]
      · unfold State.mbxLen
        rw [regF_eq, hsts, fld_setBit_apart (by omega) _ _ (by omega), fld_setBit_apart (by omega) _ _ (by omega),
          fld_setFld_self (by omega) (by omega), Nat.zero_mod]
      · simp [regB_eq, hsts, Word.bit_setBit]
      · simp [regB_eq, hsts, Word.bit_setBit]
      · rw [mpRestart_data u (by omega) hk]
        simp [hbit, hn]
    · have hbit : (u.reg (Reg.MBX_STS n)).bit 0 = true := hgo
      rw [mpRestart_sts u hn, restartSts, hbit, if_neg (by decide), if_neg (by omega)]
    · have hbit : (u.reg (Reg.MBX_STS n)).bit 0 = false := hgo
      rw [mpRestart_sts u hn, restartSts, hbit]; rfl
    · rw [mpRestart_mp]; rfl
    · rw [mpRestart_mp]; rfl
  · refine (exec_mpReady ..).trans (next_of_after hu ?_)
    unfold State.mpStart
    rw [hm, if_neg (by simp; omega)]
    simp only [if_neg hst]

end Sys2Proof.Proofs
end

section
/-!
PROOFS. The rate of the PTP clock, its step, its carry and its reading; the servo and the holdover (04 R73 to R83).
-/
namespace Sys2Proof.Proofs
open Sys2Proof Sys2Proof.Machine

/-! ### Interrupt bits -/

/-- Raising an interrupt bit sets it in its status register, and moves no other register but the pending bits. -/
theorem raiseBit_reg (s : State) {v i c : Nat} (h : c ≠ Reg.MSIX_PBA (v / 32)) :
    (s.raiseBit v i).reg c =
      if c = (irqRegs v).1 then s.reg (irqRegs v).1 ||| BitVec.twoPow 32 i else s.reg c :=
  irqChange_reg s _ h

theorem raiseBit_regB_self (s : State) {v i : Nat} (h : (irqRegs v).1 ≠ Reg.MSIX_PBA (v / 32)) (hi : i < 32) :
    (s.raiseBit v i).regB (irqRegs v).1 i = true := by
  rw [regB_eq, raiseBit_reg s h, if_pos rfl]
  simp [Word.bit, hi]

theorem raiseBit_regB_ne (s : State) {v i c j : Nat} (h : c ≠ Reg.MSIX_PBA (v / 32)) (hc : c ≠ (irqRegs v).1) :
    (s.raiseBit v i).regB c j = s.regB c j := by
  rw [regB_eq, raiseBit_reg s h, if_neg hc]; rfl

/-! ### The rate -/

theorem fld_low_of_lt {v : Word} {k : Nat} (hv : v.toNat < 2 ^ (k + 1)) : v.fld k 0 = v.toNat := by
  unfold Word.fld
  rw [Nat.pow_zero, Nat.div_one, Nat.sub_zero]
  exact Nat.mod_eq_of_lt hv

/-- A value of which only the bits of a mask may be set sets no other. -/
theorem and_not_eq_zero_of_lt {v mask : Word} {k : Nat} (hm : mask.toNat = 2 ^ k - 1) (hv : v.toNat < 2 ^ k) : v &&& ~~~mask = 0 := by
  have hmod : v &&& mask = v := by
    apply BitVec.eq_of_toNat_eq
    rw [BitVec.toNat_and, hm, Nat.and_two_pow_sub_one_eq_mod, Nat.mod_eq_of_lt hv]
  rw [← hmod, BitVec.and_assoc, BitVec.and_not_self]; exact BitVec.and_zero

theorem and_eq_self_of_lt {v mask : Word} {k : Nat} (hm : mask.toNat = 2 ^ k - 1) (hv : v.toNat < 2 ^ k) : v &&& mask = v := by
  apply BitVec.eq_of_toNat_eq
  rw [BitVec.toNat_and, hm, Nat.and_two_pow_sub_one_eq_mod, Nat.mod_eq_of_lt hv]

/-- A rate that the clock takes: clamped, with CLAMPED shown and raised where it was. -/
theorem writeIncr_of_free {u t : State} {m lo n c : Nat} {v : Word} (hv : v.toNat < 16)
    (hm : m = 1 ∨ (u.regB Reg.TIM_STS 0 = false ∧ u.regB Reg.TIM_CTL 2 = true)) (hn : v.toNat * 2 ^ 32 + lo = n)
    (hc : max incrMin (min incrMax n) = c)
    (ht : ((u.setReg Reg.TIM_INCR_LO (w32 c)).setReg Reg.TIM_INCR_HI (w32 (c / 2 ^ 32))).setRegB Reg.TIM_STS 5 (decide (c ≠ n)) = t) :
    u.writeIncr m lo v = if c ≠ n then t.raiseBit 18 21 else t := by
  subst hc ht
  have hstep : (decide (m ≠ 1) && u.regB Reg.TIM_STS 0) = false := by
    rcases hm with h | ⟨h, -⟩ <;> simp [h]
  have hservo : (decide (m ≠ 1) && !u.regB Reg.TIM_CTL 2) = false := by
    rcases hm with h | ⟨-, h⟩ <;> simp [h]
  unfold State.writeIncr
  simp only [hstep, hservo, Bool.false_eq_true, if_false]
  rw [fld_low_of_lt (k := 3) hv, hn]
  rfl

/-- A step that the clock takes is armed. -/
theorem writeStep_of_free {u : State} {m lo : Nat} {v : Word} {ofs : Int} (hm : m = 1 ∨ u.regB Reg.TIM_CTL 2 = true)
    (ho : u.ownedCmp = false) (hd : ∀ d < 8, (u.dat d).st ≠ .running ∧ (u.dat d).st ≠ .stopping)
    (hofs : signed 64 (v.toNat * 2 ^ 32 + lo) = ofs) : u.writeStep m lo v = u.armStep ofs := by
  subst hofs
  have hmove : (List.range 8).any (fun d => (u.dat d).st = .running || (u.dat d).st = .stopping) = false := by
    rw [List.any_eq_false]
    intro d hd8
    obtain ⟨hr, hs⟩ := hd d (List.mem_range.mp hd8)
    simp [hr, hs]
  have hctl : (decide (m ≠ 1) && !u.regB Reg.TIM_CTL 2) = false := by rcases hm with h | h <;> simp [h]
  unfold State.writeStep
  simp only [hctl, hmove, ho, Bool.or_self, Bool.false_eq_true, if_false]

/-- A write that its unit refuses, by any master. -/
theorem WritesAs.single_refused_any {a m : Nat} {live v : Word} {r : State → Nat → Word → Option Nat}
    {f : State → Nat → Word → State} {u : State} (h : WritesAs a live r f) (ho : u.opens m true a = true) {k : Nat}
    (hr : r u m v = some k) (h2 : k ≠ 2) (h3 : k ≠ 3) :
    u.single m true a v = (u.violation m k true 2 a).errorAnswer m a true := by
  have hrefuse : u.refuse m k true a = .refused (u.violation m k true 2 a) true := by simp [State.refuse, h2, h3]
  unfold State.single
  rw [h.access_refused ho hr, hrefuse]
  simp [issues_of_opens ho]

/-! ### The clock's reading -/

theorem nsOf_lt (t : Nat) : nsOf t < 2 ^ 30 := by
  have hmod : t % secondT < secondT := Nat.mod_lt _ (by decide)
  have hsec : secondT = 2 ^ 32 * 1000000000 := by decide
  have hdiv : nsOf t < 1000000000 := Nat.div_lt_of_lt_mul (hsec ▸ hmod)
  exact Nat.lt_trans hdiv (by decide)

theorem toNat_w32_le (n : Nat) : (w32 n).toNat ≤ n := Nat.le_trans (Nat.le_of_eq (BitVec.toNat_ofNat n 32)) (Nat.mod_le _ _)

theorem view_now (u : State) :
    u.viewAt Reg.TIM_NOW_LO = w32 (nsOf u.ptp) ∧ u.viewAt Reg.TIM_NOW_HI = w32 (secOf u.ptp) ∧
      u.viewAt Reg.TIM_NOW_EXT = w32 (secOf u.ptp / 2 ^ 32 % 2 ^ 16) ∧ u.viewAt Reg.TIM_NOW_FRAC = w32 (fracOf u.ptp) := by
  refine ⟨?_, ?_, ?_, ?_⟩
  · exact and_eq_self_of_lt (mask := 0x3FFFFFFF) (k := 30) (by decide) (Nat.lt_of_le_of_lt (toNat_w32_le _) (nsOf_lt _))
  · exact and_eq_self_of_lt (mask := 0xFFFFFFFF) (k := 32) (by decide) (w32 (secOf u.ptp)).isLt
  · exact and_eq_self_of_lt (mask := 0xFFFF) (k := 16) (by decide)
      (Nat.lt_of_le_of_lt (toNat_w32_le _) (Nat.mod_lt _ (by decide)))
  · exact and_eq_self_of_lt (mask := 0xFFFFFFFF) (k := 32) (by decide) (w32 (fracOf u.ptp)).isLt

/-- TIM_NOW_LO: a read of it clears nothing and captures the three registers behind it. -/
theorem regAt_timNow : ∃ d, regAt Reg.TIM_NOW_LO = some (d, 0, 0) ∧ actsOnRead d.tag = false ∧ d.rc = 0 ∧
    captured d.tag Reg.TIM_NOW_LO = [Reg.TIM_NOW_LO + 4, Reg.TIM_NOW_LO + 8, Reg.TIM_NOW_LO + 12] :=
  ⟨_, rfl, rfl, rfl, rfl⟩

/-- What a read of TIM_NOW_LO captures, latched for its master. -/
theorem timNow_latches (u : State) (m : Nat) :
    let t := u.latch m [Reg.TIM_NOW_LO + 4, Reg.TIM_NOW_LO + 8, Reg.TIM_NOW_LO + 12]
    sget none t.rlat (latchKey m Reg.TIM_NOW_HI) = some (w32 (secOf u.ptp)) ∧
      sget none t.rlat (latchKey m Reg.TIM_NOW_EXT) = some (w32 (secOf u.ptp / 2 ^ 32 % 2 ^ 16)) ∧
      sget none t.rlat (latchKey m Reg.TIM_NOW_FRAC) = some (w32 (fracOf u.ptp)) := by
  obtain ⟨-, hhi, hext, hfrac⟩ := view_now u
  have h1 : latchKey m Reg.TIM_NOW_HI ≠ latchKey m Reg.TIM_NOW_EXT := by unfold latchKey Reg.TIM_NOW_HI Reg.TIM_NOW_EXT; omega
  have h2 : latchKey m Reg.TIM_NOW_HI ≠ latchKey m Reg.TIM_NOW_FRAC := by unfold latchKey Reg.TIM_NOW_HI Reg.TIM_NOW_FRAC; omega
  have h3 : latchKey m Reg.TIM_NOW_EXT ≠ latchKey m Reg.TIM_NOW_FRAC := by
    unfold latchKey Reg.TIM_NOW_EXT Reg.TIM_NOW_FRAC; omega
  have hl : (u.latch m [Reg.TIM_NOW_LO + 4, Reg.TIM_NOW_LO + 8, Reg.TIM_NOW_LO + 12]).rlat =
      sput none (sput none (sput none u.rlat (latchKey m Reg.TIM_NOW_HI) (some (u.viewAt Reg.TIM_NOW_HI)))
        (latchKey m Reg.TIM_NOW_EXT) (some (u.viewAt Reg.TIM_NOW_EXT))) (latchKey m Reg.TIM_NOW_FRAC)
          (some (u.viewAt Reg.TIM_NOW_FRAC)) := rfl
  dsimp only
  rw [hl, sget_sput_ne _ _ _ h2, sget_sput_ne _ _ _ h1, sget_sput_self, sget_sput_ne _ _ _ h3, sget_sput_self, sget_sput_self,
    hhi, hext, hfrac]
  exact ⟨rfl, rfl, rfl⟩

/-! ### The carry -/

/-- At a carry the backup clock is written. -/
def keepTime (s : State) : State :=
  if 3 ≤ s.regF Reg.PWR_START_STS 3 0 then { s with bkp := { sec := secOf s.ptp, frac := 0, valid := true } } else s

/-- At a carry the CAN counters are captured. -/
def captureCans (s : State) : State := if s.domainOn 6 then (s.canCapture 0).canCapture 1 else s

theorem canCapture_reg (s : State) (n : Nat) {a : Nat} (ha : a < 0xE0000) : (s.canCapture n).reg a = s.reg a := by
  have h0 : a ≠ Reg.CANn_TSC_C n := by unfold Reg.CANn_TSC_C; omega
  have h1 : a ≠ Reg.CANn_TSC_PTP_NS n := by unfold Reg.CANn_TSC_PTP_NS; omega
  have h2 : a ≠ Reg.CANn_TSC_PTP_SEC n := by unfold Reg.CANn_TSC_PTP_SEC; omega
  have h3 : a ≠ Reg.CANn_TSC_PTP_EXT n := by unfold Reg.CANn_TSC_PTP_EXT; omega
  unfold State.canCapture
  rw [State.setReg_reg_ne _ h3, State.setReg_reg_ne _ h2, State.setReg_reg_ne _ h1, State.setReg_reg_ne _ h0]

theorem keepTime_ptp (s : State) : (keepTime s).ptp = s.ptp := by unfold keepTime; split <;> rfl

theorem keepTime_reg (s : State) (a : Nat) : (keepTime s).reg a = s.reg a := by unfold keepTime; split <;> rfl

theorem captureCans_ptp (s : State) : (captureCans s).ptp = s.ptp := by
  unfold captureCans
  split
  · rw [State.canCapture_ptp, State.canCapture_ptp]
  · rfl

theorem captureCans_reg (s : State) {a : Nat} (ha : a < 0xE0000) : (captureCans s).reg a = s.reg a := by
  unfold captureCans
  split
  · rw [canCapture_reg _ _ ha, canCapture_reg _ _ ha]
  · rfl

theorem carry_without_step (s : State) (h : s.regB Reg.TIM_STS 0 = false) : s.carry = captureCans (keepTime s) := by
  unfold State.carry
  rw [h]
  rfl

/-- A carry at which a step within the clock's range is pending. -/
theorem carry_with_step (s : State) (h : s.regB Reg.TIM_STS 0 = true)
    (h0 : 0 ≤ (s.now : Int) + signed 64 (s.reg64 Reg.TIM_STEP_LO Reg.TIM_STEP_HI))
    (h1 : (s.now : Int) + signed 64 (s.reg64 Reg.TIM_STEP_LO Reg.TIM_STEP_HI) < 2 ^ 48 * 1000000000) :
    s.carry = captureCans (keepTime ((({ s with ptp :=
      ((s.now : Int) + signed 64 (s.reg64 Reg.TIM_STEP_LO Reg.TIM_STEP_HI)).toNat * 2 ^ 32 + s.ptp % 2 ^ 32 } : State).setRegB
        Reg.TIM_STS 0 false).raiseBit 18 16)) := by
  unfold State.carry
  rw [if_pos h]
  dsimp only
  rw [decide_eq_false (Int.not_lt.mpr h0), decide_eq_false (Int.not_le.mpr h1)]
  rfl

theorem irqRegs_tim : (irqRegs 18).1 = Reg.TIM_IRQ_STS := rfl

/-- Settles O27: the rate, the step, the carry and the reading of the PTP clock. -/
theorem rateAndStep : Obligations.RateAndStep := by
  refine ⟨fun dt m n c v t s u hu ho hv hm hn hc ht => ?_, fun dt m v ofs s u hu ho hused hm hcmp hd hofs => ?_,
    fun dt m v s u hu ho hused => ?_, fun s u hu => (exec_ptpSecondCarry s).trans (congrArg _ hu), fun s h0 hd hp => ?_,
    fun s h hlo hhi => ?_, fun dt m s u hu ho hl hf => ?_⟩
  · refine (exec_timIncrWrite ..).trans ((writeAfter_eq_single hu).trans (congrArg _ ?_))
    exact (writesAs_incrHi.single ho (and_not_eq_zero_of_lt (k := 4) (by decide) hv)).trans (writeIncr_of_free hv hm hn hc ht)
  · refine (exec_timStepArm ..).trans ((writeAfter_eq_single hu).trans (congrArg _ ?_))
    exact (writesAs_stepHi.single_of_granted ho (if_neg (by simp [hused])) (by simp)).trans (writeStep_of_free hm hcmp hd hofs)
  · refine (exec_timStepArm ..).trans ((writeAfter_eq_single hu).trans (congrArg _ ?_))
    exact writesAs_stepHi.single_refused_any ho (if_pos hused) (by decide) (by decide)
  · have hd' : ({ s with bkp := { sec := secOf s.ptp, frac := 0, valid := true } } : State).domainOn 6 = false := hd
    rw [carry_without_step s h0, keepTime, if_pos hp, captureCans, hd', if_neg (by decide)]
  · rw [carry_with_step s h hlo hhi]
    refine ⟨?_, ?_, ?_, ?_⟩
    · rw [captureCans_ptp, keepTime_ptp, State.raiseBit_ptp, State.setRegB_ptp]
    · rw [regB_eq, captureCans_reg _ (by decide), keepTime_reg, ← regB_eq, raiseBit_regB_ne _ (by decide) (by decide), regB_eq, setRegB_reg,
        if_pos rfl, Word.bit_setBit _ _ _ _ (by decide), if_pos rfl]
    · rw [regB_eq, captureCans_reg _ (by decide), keepTime_reg, ← regB_eq, raiseBit_regB_ne _ (by decide) (by decide), regB_eq, setRegB_reg,
        if_pos rfl, Word.bit_setBit _ _ _ _ (by decide), if_neg (by decide)]
      rfl
    · rw [regB_eq, captureCans_reg _ (by decide), keepTime_reg, ← regB_eq]
      exact raiseBit_regB_self _ (by decide) (by decide)
  · obtain ⟨hlo, -⟩ := view_now u
    obtain ⟨hhi, hext, hfrac⟩ := timNow_latches u m
    obtain ⟨d, hd, hr, hc, hcap⟩ := regAt_timNow
    have hread := readReg_latches (u := u) (m := m) (i := 0) (j := 0) hr hc hf
    rw [hl, hcap] at hread
    have hview : u.view d 0 0 Reg.TIM_NOW_LO = w32 (nsOf u.ptp) := by rw [← hlo, State.viewAt, hd]
    rw [hview] at hread
    refine ⟨_, (exec_timNowRead ..).trans ((readAfter_eq_single hu).trans (congrArg _ (single_read ho hd))), ?_⟩
    rw [hread]
    refine ⟨?_, hhi, hext, hfrac, fun b _ => congrArg (sget (regReset b) · b) (latch_regs u m _), sameMemory_of_mem (latch_mem ..), ?_⟩
    · simp [State.emit]
    · rw [State.emit_ptp, latch_eq_rlat]

/-! ### The servo and the holdover -/

theorem exec_servo {dt : Nat} {s u t : State} (hu : s.clock dt ((s.advance dt).lockEvs State.servoUpdate) = u)
    (h : u.servoUpdate = t) : exec (.servoUpdate dt) s = .next t :=
  (exec_servoUpdate ..).trans (next_of_afterEv hu h)

/-- A rate within the limits is stored as it is. -/
theorem storeIncr_of_clamped (s : State) (x : Nat) :
    s.storeIncr (max incrMin (min incrMax x)) = ((s.setReg Reg.TIM_INCR_LO (w32 (max incrMin (min incrMax x)))).setReg
      Reg.TIM_INCR_HI (w32 (max incrMin (min incrMax x) / 2 ^ 32))).setRegB Reg.TIM_STS 5 false := by
  have hle : incrMin ≤ incrMax := by decide
  have hc : max incrMin (min incrMax (max incrMin (min incrMax x))) = max incrMin (min incrMax x) := by omega
  unfold State.storeIncr
  rw [hc]
  simp only [ne_eq, not_true, decide_false, if_false]

section
variable {u : State} {ofs : Int}

/-- The first lock with a large offset arms the step of the opposite offset. -/
theorem servoUpdate_step (hm : u.servo.meas = some ofs) (h2 : u.regB Reg.TIM_CTL 2 = false) (hl : u.servo.locked = false)
    (hbig : 1000 < ofs.natAbs) (h4 : u.regB Reg.TIM_CTL 4 = true) (h1 : u.regB Reg.TIM_STS 1 = false) :
    u.servoUpdate = ({ u with servo := { u.servo with meas := none, locked := true } } : State).armStep (-ofs) := by
  have h2' : ∀ v, ({ u with servo := v } : State).regB Reg.TIM_CTL 2 = false := fun _ => h2
  have h4' : ∀ v, ({ u with servo := v } : State).regB Reg.TIM_CTL 4 = true := fun _ => h4
  have h1' : ∀ v, ({ u with servo := v } : State).regB Reg.TIM_STS 1 = false := fun _ => h1
  unfold State.servoUpdate
  simp only [hm, h2', h4', h1', hl, hbig, Bool.false_eq_true, if_false, Bool.not_false, decide_true, Bool.and_self, if_true]

/-- A measurement that arms no step sets the rate: at a limit while it slews, else by the servo's choice. -/
theorem servoUpdate_rate {slew : Bool} {want : Nat} (hm : u.servo.meas = some ofs) (h2 : u.regB Reg.TIM_CTL 2 = false)
    (hfirst : (!u.servo.locked && decide (1000 < ofs.natAbs) && u.regB Reg.TIM_CTL 4 && !u.regB Reg.TIM_STS 1) = false)
    (hslew : (decide (10000 < ofs.natAbs) && u.regB Reg.TIM_STS 1) = slew)
    (hwant : (if slew then (if 0 < ofs then incrMin else incrMax) else Config.servoIncrement ofs u.incr u.free) = want) :
    u.servoUpdate = (((({ u with servo := { u.servo with meas := none, locked := true }, free := u.free + 1 } : State).setReg
      Reg.TIM_INCR_LO (w32 (max incrMin (min incrMax want)))).setReg Reg.TIM_INCR_HI
        (w32 (max incrMin (min incrMax want) / 2 ^ 32))).setRegB Reg.TIM_STS 5 false).setRegB Reg.TIM_STS 3 slew := by
  have h2' : ∀ v, ({ u with servo := v } : State).regB Reg.TIM_CTL 2 = false := fun _ => h2
  have h4' : ∀ v, ({ u with servo := v } : State).regB Reg.TIM_CTL 4 = u.regB Reg.TIM_CTL 4 := fun _ => rfl
  have h1' : ∀ v, ({ u with servo := v } : State).regB Reg.TIM_STS 1 = u.regB Reg.TIM_STS 1 := fun _ => rfl
  have hi : ∀ v k, ({ u with servo := v, free := k } : State).incr = u.incr := fun _ _ => rfl
  unfold State.servoUpdate
  simp only [hm, h2', h4', h1', hfirst, hslew, Bool.false_eq_true, if_false, State.fresh, hi, hwant, storeIncr_of_clamped]

end

/-- Settles O28: what the servo makes of a measurement, and when holdover begins. -/
theorem servoAndHoldover : Obligations.ServoAndHoldover := by
  refine ⟨fun dt ofs s u hu hm h2 hl hbig h4 h1 => exec_servo hu (servoUpdate_step hm h2 hl hbig h4 h1),
    fun dt ofs t s u hu hm h2 h1 hbig ht => exec_servo hu ?_, fun dt ofs t s u hu hm h2 h1 hbig ht => exec_servo hu ?_,
    fun dt ofs c t s u hu hm h2 hl hsmall hc ht => exec_servo hu ?_, fun dt ofs s u hu hm h2 => exec_servo hu ?_,
    fun dt t0 s u hu ht0 hnow h4 h2 hrole => (exec_holdover ..).trans (next_of_afterEv hu ?_),
    fun dt t0 s u hu ht0 hnow => (exec_holdover ..).trans (next_of_afterEv hu ?_)⟩
  · subst ht
    have habs : 10000 < ofs.natAbs := by omega
    exact servoUpdate_rate (slew := true) (want := incrMin) hm h2 (by simp [h1]) (by simp [habs, h1])
      (by rw [if_pos rfl, if_pos (by omega)])
  · subst ht
    have habs : 10000 < ofs.natAbs := by omega
    exact servoUpdate_rate (slew := true) (want := incrMax) hm h2 (by simp [h1]) (by simp [habs, h1])
      (by rw [if_pos rfl, if_neg (by omega)])
  · subst hc ht
    rw [servoUpdate_rate (slew := false) hm h2 (by simp [hl]) (by simp; omega) rfl]
    have hservo : ({ u.servo with meas := none, locked := true } : Servo) = { u.servo with meas := none } :=
      congrArg (fun b => ({ u.servo with meas := none, locked := b } : Servo)) hl.symm
    rw [hservo]
    rfl
  · unfold State.servoUpdate
    have h2' : ∀ v, ({ u with servo := v } : State).regB Reg.TIM_CTL 2 = true := fun _ => h2
    simp only [hm, h2', if_true]
  · unfold State.holdover
    have hrole' : u.ptpRole ≠ 0 ∧ u.ptpRole ≠ 3 := by omega
    simp [ht0, hnow, h4, h2, hrole']
  · unfold State.holdover
    have hnow' : ¬ (t0 + 3 * u.servo.every ≤ u.now) := by omega
    simp [ht0, hnow']

end Sys2Proof.Proofs
end

section
/-!
PROOFS. PTP messages, the selection of the master, and what the ports send (04 R79 to R86).
-/
namespace Sys2Proof.Proofs
open Sys2Proof Sys2Proof.Machine

/-! ### Frames of PTP -/

section
variable {u v : State} {n dom kind : Nat} {f : State → State}

theorem received_regF (s : State) (n len : Nat) (tagged : Bool) (a hi lo : Nat) :
    (s.received n tagged len).regF a hi lo = s.regF a hi lo :=
  congrArg (fun w : Word => w.fld hi lo) (received_reg ..)

theorem received_ptpOn (s : State) (n len k : Nat) (tagged : Bool) : (s.received n tagged len).ptpOn k = s.ptpOn k := by
  unfold State.ptpOn State.ptpMode State.ptpRole
  rw [received_hasPort, received_regF, received_regF]

/-- A frame that the port takes for its domain does what its message says, once received. -/
theorem ptpRx_taken (ht : u.takesPtp n dom = true) (hv : u.received n false (ptpLen kind) = v) : u.ptpRx n kind dom f = f v := by
  subst hv
  have hon := received_ptpOn u n (ptpLen kind) n false
  have hmode : (u.received n false (ptpLen kind)).ptpMode n = u.ptpMode n := received_regF ..
  have hdom := received_regF u n (ptpLen kind) false Reg.TIM_PTP_CFG 7 0
  unfold State.takesPtp at ht
  simp only [Bool.and_eq_true, decide_eq_true_eq] at ht
  obtain ⟨⟨hptp, hlink⟩, hd⟩ := ht
  have hport : u.hasPort n = true := by
    unfold State.ptpOn at hptp
    simp only [Bool.and_eq_true] at hptp
    exact hptp.1.1
  unfold State.ptpRx
  rw [hport, hlink, if_neg (by decide)]
  dsimp only
  rw [hon, hmode, hdom, hptp, ← hd]
  exact if_pos (by simp)

/-- A frame of a port where PTP is off is received, and no more. -/
theorem ptpRx_off (h : u.ptpRole = 0) :
    u.ptpRx n kind dom f = if u.hasPort n && u.regB (Reg.TRV_STS n) 0 then u.received n false (ptpLen kind) else u := by
  have hoff : (u.received n false (ptpLen kind)).ptpOn n = false := by
    rw [received_ptpOn]
    simp [State.ptpOn, h]
  unfold State.ptpRx
  dsimp only
  rw [hoff]
  cases u.hasPort n <;> cases u.regB (Reg.TRV_STS n) 0 <;> rfl

end

theorem ptpPort_modPtp (s : State) (n : Nat) (f : PtpPort → PtpPort) : (s.modPtp n f).ptpPort n = f (s.ptpPort n) :=
  sget_smod_self (α := PtpPort) ..

/-! ### Announce -/

section
variable {v t : State} {n : Nat} {a b : Announced}

/-- What a port that has heard an announcement which takes part keeps of it. -/
def keptOf (v : State) (n : Nat) (a : Announced) : Announced :=
  match (v.ptpPort n).best with
  | some b => if b.sender ≠ a.sender && b.better (v.ptpMode n = 2) a then b else a
  | none => a

theorem keptOf_none (h : (v.ptpPort n).best = none) : keptOf v n a = a := by
  unfold keptOf; rw [h]

theorem keptOf_new (h : (v.ptpPort n).best = some b)
    (hb : b.sender = a.sender ∨ b.better (v.ptpMode n = 2) a = false) : keptOf v n a = a := by
  unfold keptOf
  rw [h]
  refine if_neg ?_
  rcases hb with hb | hb <;> simp [hb]

theorem keptOf_old (h : (v.ptpPort n).best = some b) (hs : b.sender ≠ a.sender)
    (hb : b.better (v.ptpMode n = 2) a = true) : keptOf v n a = b := by
  unfold keptOf
  rw [h]
  exact if_pos (by simp [hs, hb])

end

section
variable {dt n dom p1 cl ac va p2 idt st sd : Nat} {s u v t : State}

theorem announce_of
    (hu : s.clock dt ((s.advance dt).lockEvs (fun s => s.announceRx n dom ⟨p1, cl, ac, va, p2, idt, st, sd⟩)) = u)
    (h : u.announceRx n dom ⟨p1, cl, ac, va, p2, idt, st, sd⟩ = t) :
    exec (.announce dt n dom p1 cl ac va p2 idt (AnnWay.mk st sd)) s = .next t :=
  (exec_announce ..).trans (next_of_afterEv (f := fun s => s.announceRx n dom ⟨p1, cl, ac, va, p2, idt, st, sd⟩) hu h)

/-- An Announce that the port takes is noted with its sender's time. -/
theorem announce_noted
    (hu : s.clock dt ((s.advance dt).lockEvs (fun s => s.announceRx n dom ⟨p1, cl, ac, va, p2, idt, st, sd⟩)) = u)
    (ht : u.takesPtp n dom = true) (hv : u.received n false (ptpLen 11) = v)
    (hq : v.qualified n ⟨p1, cl, ac, va, p2, idt, st, sd⟩ = false)
    (hn : v.modPtp n (fun p => { p with heard := (sd, v.now) :: p.heard.filter (fun e => e.1 ≠ sd) }) = t) :
    exec (.announce dt n dom p1 cl ac va p2 idt (AnnWay.mk st sd)) s = .next t := by
  subst hn
  refine announce_of hu ((ptpRx_taken ht hv).trans ?_)
  rw [hq]
  rfl

/-- One that takes part in the selection is kept or not, and the selection runs. -/
theorem announce_selected
    (hu : s.clock dt ((s.advance dt).lockEvs (fun s => s.announceRx n dom ⟨p1, cl, ac, va, p2, idt, st, sd⟩)) = u)
    (ht : u.takesPtp n dom = true) (hv : u.received n false (ptpLen 11) = v)
    (hq : v.qualified n ⟨p1, cl, ac, va, p2, idt, st, sd⟩ = true)
    (hn : v.modPtp n (fun p => { p with heard := (sd, v.now) :: p.heard.filter (fun e => e.1 ≠ sd) }) = t)
    {k : Announced} (hk : keptOf v n ⟨p1, cl, ac, va, p2, idt, st, sd⟩ = k) :
    exec (.announce dt n dom p1 cl ac va p2 idt (AnnWay.mk st sd)) s =
      .next ((t.modPtp n (fun p => { p with best := some k, since := v.now })).selectMaster) := by
  subst hn hk
  have hbest : ((v.modPtp n (fun p => { p with heard := (sd, v.now) :: p.heard.filter (fun e => e.1 ≠ sd) })).ptpPort n).best =
      (v.ptpPort n).best := by rw [ptpPort_modPtp]
  refine announce_of hu ((ptpRx_taken ht hv).trans ?_)
  dsimp only
  rw [hq, if_neg (by decide), hbest]
  rfl

end

/-! ### What a port sends -/

theorem writesAs_txqPop_single {dt m n : Nat} {x : Word} {s u : State} (hu : s.toWrite dt m (Reg.TIM_PORTn_TXQ_POP n) x = u)
    (hn : n < 4) (ho : u.opens m true (Reg.TIM_PORTn_TXQ_POP n) = true) (hx : x &&& ~~~(1 : Word) = 0) :
    exec (.txqPop dt m n x) s = .next (u.txqPop n x) :=
  (exec_txqPop ..).trans ((writeAfter_eq_single hu).trans (congrArg _ ((writesAs_txqPop hn).single ho hx)))

/-- Settles O30: what an Announce does to the selection, and what a port sends and pops. -/
theorem ptpSelectionAndSending : Obligations.PtpSelectionAndSending := by
  refine ⟨fun dt n dom p1 cl ac va p2 idt st sd v t s u hu ht hv hq hb hn => announce_selected hu ht hv hq hn (keptOf_none hb),
    fun dt n dom p1 cl ac va p2 idt st sd b v t s u hu ht hv hq hb hnew hn =>
      announce_selected hu ht hv hq hn (keptOf_new hb hnew),
    fun dt n dom p1 cl ac va p2 idt st sd b v t s u hu ht hv hq hb hs hold hn =>
      announce_selected hu ht hv hq hn (keptOf_old hb hs hold),
    fun dt n dom p1 cl ac va p2 idt st sd v t s u hu ht hv hq hn => announce_noted hu ht hv hq hn,
    fun dt n q t s u hu hon hl hst hq ht => (exec_ptpMessageSend ..).trans (next_of_after hu ?_),
    fun dt n s u hu hst => (exec_ptpMessageSend ..).trans (next_of_after hu ?_),
    fun dt n q t s u hu hon hl hst hq hsince ht => (exec_ptpMessageSend ..).trans (next_of_after hu ?_),
    fun dt n q t s u hu hon hl hmode hq ht => (exec_ptpMessageSend ..).trans (next_of_after hu ?_),
    fun dt n q t s u hu hon hl hmode hst hq ht => (exec_ptpMessageSend ..).trans (next_of_after hu ?_),
    fun dt m n s u hu hn ho => writesAs_txqPop_single hu hn ho (by decide),
    fun dt m n s u hu hn ho => writesAs_txqPop_single hu hn ho (by decide)⟩
  · subst ht hq
    unfold State.ptpSend
    simp only [hon, hl, hst, Bool.not_true, Bool.or_self, Bool.false_eq_true, if_false, ne_eq, not_true]
    rfl
  · unfold State.ptpSend
    simp only [ne_eq, hst, not_false_eq_true, if_true, ite_self]
  · subst ht hq
    unfold State.ptpSend
    simp only [hon, hl, hst, Bool.not_true, Bool.or_self, Bool.false_eq_true, if_false, if_neg (Nat.not_le.mpr hsince), if_true]
    rfl
  · subst ht hq
    unfold State.ptpSend
    simp only [hon, hl, hmode, Bool.not_true, Bool.or_self, Bool.false_eq_true, if_false, if_true]
    rfl
  · subst ht hq
    have hmode2 : ¬ u.ptpMode n = 2 := by omega
    unfold State.ptpSend
    simp only [hon, hl, hmode2, hst, Bool.not_true, Bool.or_self, Bool.false_eq_true, if_false, if_true]
    rfl

/-! ### The messages that measure -/

theorem clampInt_eq {lo hi i : Int} (hlo : lo ≤ i) (hhi : i ≤ hi) : clampInt lo hi i = i := by
  unfold clampInt
  rw [if_neg (by omega), if_neg (by omega)]

/-- The registers that a measurement publishes. -/
def published (s : State) (ofs d : Int) : State :=
  (((((s.setReg Reg.TIM_MEAS_OFS (w32 (pattern 32 ofs))).setReg Reg.TIM_MEAS_DELAY (w32 (pattern 32 d))).countWrap
    Reg.TIM_MEAS_SEQ).setRegB Reg.TIM_STS 4 false).setRegB Reg.TIM_STS 2 (decide (ofs.natAbs ≤ 1000)))

theorem measured_eq (s : State) (ofs d : Int) (e : Nat) (hlo : -(2 ^ 31 - 1) ≤ ofs) (hhi : ofs ≤ 2 ^ 31 - 1) :
    s.measured ofs d e = { published s ofs d with servo :=
      { (published s ofs d).servo with meas := some ofs, lastSync := some (published s ofs d).now, every := e } } := by
  unfold State.measured published
  rw [clampInt_eq hlo hhi]

theorem published_now (s : State) (ofs d : Int) : (published s ofs d).now = s.now := by
  simp only [State.now, published, State.setRegB_ptp, State.countWrap_ptp, State.setReg_ptp]

theorem published_reg (s : State) (ofs d : Int) (a : Nat) :
    (published s ofs d).reg a =
      if a = Reg.TIM_STS then ((s.reg Reg.TIM_STS).setBit 4 false).setBit 2 (decide (ofs.natAbs ≤ 1000))
      else if a = Reg.TIM_MEAS_SEQ then s.reg Reg.TIM_MEAS_SEQ + 1
      else if a = Reg.TIM_MEAS_DELAY then w32 (pattern 32 d)
      else if a = Reg.TIM_MEAS_OFS then w32 (pattern 32 ofs) else s.reg a := by
  have hs : ∀ t : State, (t.countWrap Reg.TIM_MEAS_SEQ).reg Reg.TIM_STS = t.reg Reg.TIM_STS := fun t =>
    State.setReg_reg_ne _ (by decide) _
  unfold published
  simp only [setRegB_reg, if_true, hs]
  simp only [State.countWrap, State.setReg_reg]
  by_cases h : a = Reg.TIM_STS
  · simp [h, Reg.TIM_STS, Reg.TIM_MEAS_DELAY, Reg.TIM_MEAS_OFS]
  · simp only [if_neg h, show Reg.TIM_MEAS_SEQ ≠ Reg.TIM_MEAS_DELAY by decide, show Reg.TIM_MEAS_SEQ ≠ Reg.TIM_MEAS_OFS by decide, if_false]

/-- What a measurement publishes. -/
theorem measured_publishes (s : State) (ofs d : Int) (e : Nat) (hlo : -(2 ^ 31 - 1) ≤ ofs) (hhi : ofs ≤ 2 ^ 31 - 1) :
    (s.measured ofs d e).reg Reg.TIM_MEAS_OFS = w32 (pattern 32 ofs) ∧ (s.measured ofs d e).reg Reg.TIM_MEAS_DELAY = w32 (pattern 32 d) ∧
    (s.measured ofs d e).reg Reg.TIM_MEAS_SEQ = s.reg Reg.TIM_MEAS_SEQ + 1 ∧
    (s.measured ofs d e).reg Reg.TIM_STS = ((s.reg Reg.TIM_STS).setBit 4 false).setBit 2 (decide (ofs.natAbs ≤ 1000)) ∧
    (s.measured ofs d e).servo.meas = some ofs ∧ (s.measured ofs d e).servo.lastSync = some s.now ∧
    SameRegs s (s.measured ofs d e) (fun a => a == Reg.TIM_MEAS_OFS || a == Reg.TIM_MEAS_DELAY || a == Reg.TIM_MEAS_SEQ ||
      a == Reg.TIM_STS) := by
  rw [measured_eq s ofs d e hlo hhi, published_now]
  have hreg := published_reg s ofs d
  generalize published s ofs d = p at *
  refine ⟨hreg _, hreg _, hreg _, hreg _, rfl, rfl, fun a ha => (hreg a).trans ?_⟩
  simp only [Bool.or_eq_false_iff, beq_eq_false_iff_ne] at ha
  obtain ⟨⟨⟨h1, h2⟩, h3⟩, h4⟩ := ha
  rw [if_neg h4, if_neg h3, if_neg h2, if_neg h1]

/-- Settles O29: what each PTP message does on a port that takes it. -/
theorem ptpMessages : Obligations.PtpMessages := by
  refine ⟨fun dt n q dom org corr v t s u hu ht hv hst hmode hn =>
      (exec_sync ..).trans (next_of_after hu ((ptpRx_taken ht hv).trans ?_)),
    fun dt n q dom org corr v s u hu ht hv hst hmode =>
      (exec_sync ..).trans (next_of_after hu ((ptpRx_taken ht hv).trans ?_)),
    fun dt n q dom t2 org corr v t s u hu ht hv hst hw hn =>
      (exec_followUp ..).trans (next_of_after hu ((ptpRx_taken ht hv).trans ?_)),
    fun s ofs d e => measured_publishes s ofs d e,
    fun dt n q dom x v s u hu ht hv hmode hst => (exec_delayReq ..).trans (next_of_after hu ((ptpRx_taken ht hv).trans ?_)),
    fun dt n q dom t3 rc corr t1 t2 v s u hu ht hv hmode hst hreq hlast =>
      (exec_delayResp ..).trans (next_of_after hu ((ptpRx_taken ht hv).trans ?_)),
    fun dt n q dom x v s u hu ht hv hmode => (exec_pdelayReq ..).trans (next_of_after hu ((ptpRx_taken ht hv).trans ?_)),
    fun dt n q dom x rc corr v s u hu ht hv hmode hreq =>
      (exec_pdelayResp ..).trans (next_of_after hu ((ptpRx_taken ht hv).trans ?_)),
    fun dt n q dom x t1 org corr t2 t4 v s u hu ht hv hmode hp hreq =>
      (exec_pdelayRespFollowUp ..).trans (next_of_after hu ((ptpRx_taken ht hv).trans ?_)),
    fun dt n dom ls la ld v s u hu ht hv h1 h2 h3 h4 h5 h6 =>
      (exec_signaling ..).trans (next_of_after hu ((ptpRx_taken ht hv).trans ?_)),
    fun dt n s u hu hp hl hr => (exec_managementMessage ..).trans (next_of_after hu ?_),
    fun dt n q dom f org corr s u hu hr => (exec_sync ..).trans (next_of_after hu (ptpRx_off hr))⟩
  · subst hn
    simp only [hst, hmode]
    rfl
  · simp only [hst, hmode]
    rfl
  · subst hn
    simp only [hw, hst]
    exact if_pos (by simp)
  · simp only [hmode, hst]
    rfl
  · simp only [hreq, hlast, hmode, hst]
    exact if_pos (by simp)
  · simp only [hmode]
    rfl
  · simp only [hreq, hmode]
    exact if_pos (by simp)
  · simp only [hp, hreq, hmode]
    exact if_pos (by simp)
  · simp only [askLog, h1, h2, h3, h4, h5, h6, if_false]
  · unfold State.managementRx
    simp only [hp, hl, hr, Bool.not_true, Bool.or_self, decide_false, Bool.false_eq_true, if_false]

end Sys2Proof.Proofs
end

section
/-!
PROOFS. Comparators (04 R87), and the course of a datum from segment to segment (05 R95 to R102).
-/
namespace Sys2Proof.Proofs
open Sys2Proof Sys2Proof.Machine

/-! ### Comparators -/

section
variable {u : State} {k : Nat}

theorem cmpFire_early (h : u.regB (Reg.TIM_CMPk_CFG k) 0 = false ∨ u.now < u.cmpTarget k) : u.cmpFire k = u := by
  unfold State.cmpFire
  refine if_pos ?_
  rcases h with h | h <;> simp [h]

/-- The instants that have passed since the target, of a comparator of period `per`. -/
def skipped (now t per : Nat) : Nat := if per = 0 || now < t + per then 0 else (now - (t + per)) / per + 1

theorem skipped_eq {now t per n : Nat} (h0 : 0 < per) (hlo : t + n * per ≤ now) (hhi : now < t + (n + 1) * per) :
    skipped now t per = n := by
  unfold skipped
  rw [Nat.succ_mul] at hhi
  cases n with
  | zero => rw [if_pos]; simp; omega
  | succ j =>
    rw [Nat.succ_mul] at hlo hhi
    rw [if_neg (by simp; omega), Nat.div_eq_of_lt_le (k := j)]
    · omega
    · rw [Nat.succ_mul]; omega

theorem cmpCfg_raise (u : State) (hk : k < 16) (i hi lo : Nat) :
    (u.raiseBit 18 i).regF (Reg.TIM_CMPk_CFG k) hi lo = u.regF (Reg.TIM_CMPk_CFG k) hi lo := by
  have hpba : Reg.TIM_CMPk_CFG k ≠ Reg.MSIX_PBA (18 / 32) := by unfold Reg.TIM_CMPk_CFG Reg.MSIX_PBA; omega
  have hirq : Reg.TIM_CMPk_CFG k ≠ (irqRegs 18).1 := by rw [irqRegs_tim]; unfold Reg.TIM_CMPk_CFG Reg.TIM_IRQ_STS; omega
  rw [regF_eq, raiseBit_reg u hpba, if_neg hirq]
  rfl

/-- A one-shot comparator without an action. -/
theorem cmpFire_oneShot (hk : k < 16) (hen : u.regB (Reg.TIM_CMPk_CFG k) 0 = true) (ht : u.cmpTarget k ≤ u.now)
    (hper : u.reg (Reg.TIM_CMPk_PERIOD k) = 0) (hown : u.regB (Reg.TIM_CMPk_CFG k) 1 = false)
    (hkind : u.regF (Reg.TIM_CMPk_CFG k) 5 4 = 0) :
    u.cmpFire k = (if u.regB (Reg.TIM_CMPk_CFG k) 2 then u.raiseBit 18 k else u).setRegB (Reg.TIM_CMPk_CFG k) 0 false := by
  have hact : ∀ t, (if u.regB (Reg.TIM_CMPk_CFG k) 2 then u.raiseBit 18 k else u).cmpAct k t =
      if u.regB (Reg.TIM_CMPk_CFG k) 2 then u.raiseBit 18 k else u := by
    intro t
    unfold State.cmpAct
    split
    · rw [cmpCfg_raise u hk, hkind]; rfl
    · rw [hkind]; rfl
  unfold State.cmpFire
  simp only [hen, hper, hown, Nat.not_lt.mpr ht, hact, Bool.not_true, decide_false, Bool.or_self, Bool.false_eq_true, if_false,
    Bool.false_and, Bool.not_false, Bool.true_or, if_true]
  rfl

/-- A periodic comparator that drives the tasks and is not held. -/
theorem cmpFire_tasks {n t0 per : Nat} (hen : u.regB (Reg.TIM_CMPk_CFG k) 0 = true) (ht : u.cmpTarget k = t0)
    (hper : (u.reg (Reg.TIM_CMPk_PERIOD k)).toNat = per) (h0 : 0 < per) (hlo : t0 + n * per ≤ u.now)
    (hhi : u.now < t0 + (n + 1) * per) (hold : u.regB (Reg.TIM_CMPk_CFG k) 1 = false ∨ u.shadows = false)
    (hirq : u.regB (Reg.TIM_CMPk_CFG k) 2 = false) (hkind : u.regF (Reg.TIM_CMPk_CFG k) 5 4 = 2) :
    u.cmpFire k = ((u.arriveMask (u.reg (Reg.TIM_CMPk_ACTION k))).setCmpTarget k (t0 + (n + 1) * per)).countF
      (Reg.TIM_CMPk_MISSED k) 15 0 n := by
  have hge : ¬ u.now < t0 := by
    have := Nat.le_add_right t0 (n * per)
    omega
  have hhold : (u.regB (Reg.TIM_CMPk_CFG k) 1 && u.shadows) = false := by rcases hold with h | h <;> simp [h]
  have hskip := skipped_eq h0 hlo hhi
  have hact : u.cmpAct k (t0 + n * per) = u.arriveMask (u.reg (Reg.TIM_CMPk_ACTION k)) := by
    unfold State.cmpAct; simp only [hkind]
  unfold skipped at hskip
  simp only [Nat.ne_of_gt h0, decide_false] at hskip
  unfold State.cmpFire
  simp only [ht, hper, hskip, hhold, hen, hirq, hge, hact, Nat.ne_of_gt h0, Bool.not_true, decide_false, Bool.or_self, Bool.false_eq_true,
    if_false, Bool.not_false, Bool.true_or, if_true]

/-- A held one notes what it would have released. -/
theorem cmpFire_held {t0 per : Nat} (hen : u.regB (Reg.TIM_CMPk_CFG k) 0 = true) (ht : u.cmpTarget k = t0)
    (hper : (u.reg (Reg.TIM_CMPk_PERIOD k)).toNat = per) (h0 : 0 < per) (hlo : t0 ≤ u.now) (hhi : u.now < t0 + per)
    (hown : u.regB (Reg.TIM_CMPk_CFG k) 1 = true) (hsh : u.shadows = true) (hirq : u.regB (Reg.TIM_CMPk_CFG k) 2 = false)
    (hkind : u.regF (Reg.TIM_CMPk_CFG k) 5 4 = 2) :
    u.cmpFire k = (u.firedHeld k t0).setCmpTarget k (t0 + per) := by
  have hge : ¬ u.now < t0 := by omega
  have hskip := skipped_eq (n := 0) h0 (by simpa using hlo) (by simpa using hhi)
  unfold skipped at hskip
  simp only [Nat.ne_of_gt h0, decide_false] at hskip
  unfold State.cmpFire
  simp only [ht, hper, hskip, hown, hsh, hen, hirq, hge, hkind, Nat.ne_of_gt h0, Bool.not_true, decide_false, Bool.or_self, Bool.false_eq_true,
    if_false, Bool.and_self, if_true, Nat.zero_add, Nat.one_mul, Nat.reduceEqDiff]

end

/-- Settles O31: what a comparator does before and at its target. -/
theorem comparatorsFire : Obligations.ComparatorsFire := by
  have hmod : ∀ {k : Nat}, k < 16 → k % 16 = k := Nat.mod_eq_of_lt
  refine ⟨fun dt k s u hu hk h => (exec_comparatorFire ..).trans (next_of_afterEv hu ?_),
    fun dt k s u hu hk hen ht hper hown hkind => (exec_comparatorFire ..).trans (next_of_afterEv hu ?_),
    fun dt k t0 n per t s u hu hk hen ht hper h0 hlo hhi hold hirq hkind hm =>
      (exec_comparatorFire ..).trans (next_of_afterEv hu ?_),
    fun dt k t0 per s u hu hk hen ht hper h0 hlo hhi hown hsh hirq hkind =>
      (exec_comparatorFire ..).trans (next_of_afterEv hu ?_)⟩
  · rw [hmod hk, cmpFire_early h]
  · rw [hmod hk, cmpFire_oneShot hk hen ht hper hown hkind]
  · rw [hmod hk, cmpFire_tasks hen ht hper h0 hlo hhi hold hirq hkind, hm]
  · rw [hmod hk, cmpFire_held hen ht hper h0 hlo hhi hown hsh hirq hkind]

/-! ### Segments -/

section
variable {u t : State} {d : Nat} {g h : Seg} {r : List Seg}

theorem datMod_eq (s t : State) (d : Nat) (h : t.cfgA = s.cfgA) : t.datMod d = s.datMod d := by
  unfold State.datMod State.cw
  rw [h]

theorem segmentEnd_early (hq : (u.dat d).queue = g :: r) (ht : u.ptp < g.fin * 2 ^ 32) : u.segmentEnd d = u := by
  unfold State.segmentEnd
  dsimp only
  rw [hq]
  split
  next heq => cases heq; exact if_pos ht
  next => rfl

theorem segmentEnd_abutting (hst : (u.dat d).st = .running) (hq : (u.dat d).queue = g :: h :: r) (hfin : g.fin * 2 ^ 32 ≤ u.ptp)
    (hh : h.t0 = g.fin)
    (ht : ((u.retain d g).modDat d (fun x => { x with queue := h :: r, ended := some g })).jump d h (g.ending (u.datMod d)).u = t) :
    u.segmentEnd d = (t.recordDat d).refreshHz d := by
  have hm : (u.retain d g).datMod d = u.datMod d := datMod_eq _ _ _ (State.retain_cfgA ..)
  subst ht
  unfold State.segmentEnd
  simp only [hst, hq, Nat.not_lt.mpr hfin, hh, hm, if_true, if_false]

theorem segmentEnd_starved (hst : (u.dat d).st = .running) (hq : (u.dat d).queue = g :: h :: r) (hfin : g.fin * 2 ^ 32 ≤ u.ptp)
    (hh : h.t0 ≠ g.fin)
    (ht : ((u.retain d g).modDat d (fun x => { x with queue := h :: r, ended := some g, st := .stopping, starved := true })).datIrq d
      0 = t) : u.segmentEnd d = (t.recordDat d).refreshHz d := by
  subst ht
  unfold State.segmentEnd
  simp only [hst, hq, Nat.not_lt.mpr hfin, hh, if_false]

theorem segmentEnd_last (hst : (u.dat d).st = .running) (hq : (u.dat d).queue = [g]) (hfin : g.fin * 2 ^ 32 ≤ u.ptp)
    (hramp : 0 < g.sd1 + g.sd2)
    (ht : ((u.retain d g).modDat d (fun x => { x with queue := [], ended := some g, st := .stopping, starved := true })).datIrq d
      0 = t) : u.segmentEnd d = (t.recordDat d).refreshHz d := by
  have hr : ¬ (g.sd1 = 0 ∧ g.sd2 = 0) := by omega
  subst ht
  unfold State.segmentEnd
  simp only [hst, hq, Nat.not_lt.mpr hfin, hr, if_false]

theorem segmentStart_stopping {e : Seg} (hst : (u.dat d).st = .stopping) (hq : (u.dat d).queue = g :: r)
    (he : (u.dat d).ended = some e) (h0 : g.t0 * 2 ^ 32 ≤ u.ptp)
    (ht : (u.jump d g (Datum.path (u.datMod d) { u.dat d with queue := [] } ((g.t0 : Int) * 2 ^ 32)).1.u).modDat d
      (fun x => { x with st := .running, starved := false }) = t) :
    u.segmentStart d = ((t.engageWaiting d g.t0).recordDat d).refreshHz d := by
  subst ht
  unfold State.segmentStart
  simp only [hst, hq, he, Nat.not_lt.mpr h0, if_false, Option.isSome_some, if_true]

/-- At the end of its ramp, with nothing queued, a datum stops where the ramp ends. -/
theorem datumStopped_ramp {p : Nat} {w : Int} (hst : (u.dat d).st = .stopping) (he : (u.dat d).ended = some g)
    (hq : (u.dat d).queue = []) (hr : g.rampEnd * 2 ^ 32 ≤ u.ptp)
    (hp : wrapPos (u.datMod d) (g.ramp (u.datMod d) (nsSec (g.sd1 + g.sd2))).u.floor = (p, w))
    (ht : ((u.modDat d (fun x => { x with st := .stopped, heldP := p, heldW := w, starved := false })).datIrq d 3).modDat d
      (fun x => { x with stopCmd := false, stopSlot := none, trunc := none }) = t) :
    u.datumStopped d = (((u.dat d).stopSlot.elim t (fun id => t.finishOk id [])).recordDat d).refreshHz d := by
  subst ht
  unfold State.datumStopped
  simp only [hst, he, hq, Nat.not_lt.mpr hr, if_false]
  unfold State.datStop
  simp only [he, hq, hp, if_true]
  cases (u.dat d).stopSlot <;> rfl

theorem datumStopped_early (he : (u.dat d).ended = some g) (ht : u.ptp < g.rampEnd * 2 ^ 32) : u.datumStopped d = u := by
  unfold State.datumStopped
  dsimp only
  rw [he]
  split
  next heq => cases heq; exact if_pos ht
  next => rfl

theorem refreshHz_raises (hc : u.hzCond d = true) (hs : (u.dat d).hzShort = false) :
    u.refreshHz d = (u.modDat d (fun x => { x with hzShort := true })).datIrq d 1 := by
  unfold State.refreshHz
  simp only [hc, hs, Bool.not_false, Bool.and_self, if_true]

theorem refreshHz_quiet (h : u.hzCond d = false ∨ (u.dat d).hzShort = true) :
    u.refreshHz d = u.modDat d (fun x => { x with hzShort := u.hzCond d }) := by
  have hquiet : (u.hzCond d && !(u.dat d).hzShort) = false := by rcases h with h | h <;> simp [h]
  unfold State.refreshHz
  simp only [hquiet, Bool.false_eq_true, if_false]

end

/-- Settles O32: the ends and starts of segments, the stop, and HZ_SHORT. -/
theorem segmentsFollowOneAnother : Obligations.SegmentsFollowOneAnother := by
  have hmod : ∀ {d : Nat}, d < 8 → d % 8 = d := Nat.mod_eq_of_lt
  refine ⟨fun dt d g h r t s u hu hd hst hq hfin hh ht => (exec_segmentEnd ..).trans (next_of_afterEv hu ?_),
    fun dt d g h r t s u hu hd hst hq hfin hh ht => (exec_segmentEnd ..).trans (next_of_afterEv hu ?_),
    fun dt d g t s u hu hd hst hq hfin hr ht => (exec_segmentEnd ..).trans (next_of_afterEv hu ?_),
    fun dt d g r s u hu hd hq ht => (exec_segmentEnd ..).trans (next_of_afterEv hu ?_),
    fun dt d g e r t s u hu hd hst hq he h0 ht => (exec_segmentStart ..).trans (next_of_afterEv hu ?_),
    fun dt d g p w t s u hu hd hst he hq hr hp ht => (exec_datumStopped ..).trans (next_of_afterEv hu ?_),
    fun dt d g s u hu hd he ht => (exec_datumStopped ..).trans (next_of_afterEv hu ?_),
    fun dt d s u hu hd hc hs => (exec_hzShort ..).trans (next_of_after hu ?_),
    fun dt d s u hu hd h => (exec_hzShort ..).trans (next_of_after hu ?_)⟩
  · rw [if_pos hd, segmentEnd_abutting hst hq hfin hh ht]
  · rw [if_pos hd, segmentEnd_starved hst hq hfin hh ht]
  · rw [if_pos hd, segmentEnd_last hst hq hfin hr ht]
  · rw [if_pos hd, segmentEnd_early hq ht]
  · rw [hmod hd, segmentStart_stopping hst hq he h0 ht]
  · rw [hmod hd, datumStopped_ramp hst he hq hr hp ht]
  · rw [hmod hd, datumStopped_early he ht]
  · rw [hmod hd, refreshHz_raises hc hs]
  · rw [hmod hd, refreshHz_quiet h]

end Sys2Proof.Proofs
end

section
/-!
PROOFS. What feeds a datum: host pushes, encoders, fits, upstream pairs, and the hand-over of segments (05 R99 to R110).
-/
namespace Sys2Proof.Proofs
open Sys2Proof Sys2Proof.Machine

/-! ### Host pushes -/

theorem datAppPush_single {dt m d : Nat} {x : Word} {s u : State} (hu : s.toWrite dt m (Reg.DAT_APP_CTL d) x = u) (hd : d < 8)
    (ho : u.opens m true (Reg.DAT_APP_CTL d) = true) (hx : x &&& ~~~(1 : Word) = 0) :
    exec (.datAppPush dt m d x) s = .next (if x.bit 0 then u.push d else u) :=
  (exec_datAppPush ..).trans ((writeAfter_eq_single hu).trans (congrArg _ ((writesAs_appCtl hd).single ho hx)))

/-! ### Encoders -/

section
variable {u t : State} {d te z : Nat} {a b : Bool}

theorem encoderEdge_unshown (h : (u.pinA d).level ≠ a ∨ (u.pinB d).level ≠ b) : u.encoderEdge d a b = u := by
  unfold State.encoderEdge
  refine if_pos ?_
  rcases h with h | h <;> simp [h]

/-- What a transition of A and B makes of the count, by the number of quarter turns. -/
def turned (v : State) (d te : Nat) (up : Int) : Nat → State
  | 0 => v
  | 1 => v.modEnc d (fun e => e.step (e.count + up) te)
  | 2 => (v.countF (Reg.DAT_ENC_ERR d) 15 0 1).datIrq d 2
  | _ => v.modEnc d (fun e => e.step (e.count - up) te)

/-- A transition that the fast inputs show counts by its direction. -/
theorem encoderEdge_shown (h2 : u.datSource d = 2) (hk : (u.encCfg d).fld 1 0 ≤ 1) (ha : (u.pinA d).level = a)
    (hb : (u.pinB d).level = b) (hte : max (u.pinA d).last (u.pinB d).last = te) {q : Nat}
    (hq : (quad a b + 4 - quad (u.dat d).enc.a (u.dat d).enc.b) % 4 = q) :
    u.encoderEdge d a b =
      turned (u.modEnc d (fun e => { e with a := a, b := b })) d te (if (u.encCfg d).bit 11 then -1 else 1) q := by
  subst hte ha hb
  unfold State.encoderEdge
  simp only [h2, hq, Nat.not_lt.mpr hk, ne_eq, not_true, decide_false, Bool.or_self, Bool.false_eq_true, if_false]
  match q with
  | 0 | 1 | 2 | _ + 3 => rfl

/-- What a rise of Z makes of an encoder that stood as `e`: it homes, then measures a revolution, then is checked. -/
def zSeen (t : State) (d z : Nat) (e : Encoder) : State :=
  match e.homed with
  | none => t.modEnc d (fun e => { e.step (signed 32 (t.cw 2 d 8).toNat) z with homed := some (signed 32 (t.cw 2 d 8).toNat) })
  | some h =>
    match e.perRev with
    | none => if e.count - h = 0 then t else t.modEnc d (fun x => { x with perRev := some (e.count - h).natAbs })
    | some n =>
      if 1 < (e.count - h) % (n : Int) && (e.count - h) % (n : Int) < (n : Int) - 1
        then (t.countF (Reg.DAT_ENC_ERR d) 31 16 1).datIrq d 2 else t

/-- A rise of Z that has not been seen yet. -/
theorem encoderZ_fresh (h2 : u.datSource d = 2) (hk : (u.encCfg d).fld 1 0 = 1) (hz : (u.encCfg d).bit 26 = true)
    (hl : (u.pinZ d).level = true) (hlast : (u.pinZ d).last = z) (hnew : (u.dat d).enc.zAt ≠ some z)
    (ht : u.modEnc d (fun e => { e with zAt := some z }) = t) : u.encoderZ d = zSeen t d z (u.dat d).enc := by
  subst hlast ht
  unfold State.encoderZ zSeen
  simp only [h2, hk, hz, hl, hnew, ne_eq, not_true, decide_false, Bool.not_true, Bool.or_self, Bool.false_eq_true, if_false] <;>
    cases (u.dat d).enc.homed <;> rfl

theorem zSeen_homes {e : Encoder} (h : e.homed = none) :
    zSeen t d z e = t.modEnc d (fun e => { e.step (signed 32 (t.cw 2 d 8).toNat) z with
      homed := some (signed 32 (t.cw 2 d 8).toNat) }) := by
  unfold zSeen; rw [h]

theorem zSeen_measures {e : Encoder} {c : Int} (h : e.homed = some c) (hr : e.perRev = none) (hc : e.count ≠ c) :
    zSeen t d z e = t.modEnc d (fun x => { x with perRev := some (e.count - c).natAbs }) := by
  unfold zSeen
  simp only [h, hr]
  exact if_neg (by omega)

/-- Within one count of a whole revolution no error is found. -/
theorem zSeen_whole {e : Encoder} {c : Int} {n : Nat} (h : e.homed = some c) (hr : e.perRev = some n)
    (hm : (e.count - c) % (n : Int) = 0 ∨ (e.count - c) % (n : Int) = 1 ∨ (e.count - c) % (n : Int) = (n : Int) - 1) :
    zSeen t d z e = t := by
  unfold zSeen
  simp only [h, hr]
  exact if_neg (by simp; omega)

end

/-! ### Upstream pairs and the hand-over -/

section
variable {u : State} {d : Nat}

theorem upTimeout_lost (h3 : u.datSource d = 3) (hl : (u.dat d).upLost = false) (ha : (u.cw 2 d 13).fld 31 24 ≤ (u.dat d).upAge) :
    u.upTimeout d = (u.modDat d (fun x => { x with upLost := true })).datIrq d 2 := by
  unfold State.upTimeout
  simp only [h3, hl, ha, decide_true, Bool.not_false, Bool.and_self, if_true]

theorem upTimeout_heard (ha : (u.dat d).upAge < (u.cw 2 d 13).fld 31 24) : u.upTimeout d = u := by
  unfold State.upTimeout
  refine if_neg ?_
  simp only [Bool.and_eq_true, decide_eq_true_eq]
  omega

theorem handSegments_idle (h : u.publishes = false) : u.handSegments d = u := by
  unfold State.handSegments
  rw [h]
  rfl

theorem modDat_queue {s : State} {d : Nat} {f : Seg → Seg} {q r : List Seg} (hq : (s.dat d).queue = q) (hr : q.map f = r) :
    s.modDat d (fun x => { x with queue := x.queue.map f }) = s.modDat d (fun x => { x with queue := r }) := by
  unfold State.modDat
  dsimp only
  rw [hq, hr]

/-- Segment `g` is due on port `n`: published there, not sent there yet, and within the horizon. -/
def dueOn (u : State) (d n : Nat) (g : Seg) : Bool :=
  decide (u.datPub d / 2 ^ n % 2 = 1) && decide (g.sent / 2 ^ n % 2 = 0) &&
    decide (g.t0 * 2 ^ 32 ≤ u.ptp + u.datHorizon d * 2 ^ 32)

/-- What a hand-over makes of the ports, for segments due as `due` says. -/
def handedPorts (due : Nat → Seg → Bool) (d : Nat) (q : List Seg) (ps : Sparse Port) : Sparse Port :=
  [0, 1, 2, 3].foldl (fun ps n =>
    let new := (q.filter (due n)).map (fun g => ({ stream := d, seg := g } : DueSeg))
    if new = [] then ps else smod {} ps n (fun p => p.hand d new)) ps

/-- A segment marked with the ports it is handed to. -/
def handedMark (due : Nat → Seg → Bool) (g : Seg) : Seg :=
  [0, 1, 2, 3].foldl (fun (g : Seg) n => if due n g then { g with sent := g.sent + 2 ^ n } else g) g

theorem handSegments_due (hp : u.publishes = true)
    (hany : (u.dat d).queue.any (fun g => dueOn u d 0 g || dueOn u d 1 g || dueOn u d 2 g || dueOn u d 3 g) = true) :
    u.handSegments d = (({ u with ports := handedPorts (dueOn u d) d (u.dat d).queue u.ports } : State).modDat d
      (fun x => { x with queue := x.queue.map (handedMark (dueOn u d)) })).recordDat d := by
  unfold State.handSegments
  rw [hp, if_neg (by decide)]
  exact if_pos hany

/-- Of one segment that is due on port 0 alone, port 0 takes it. -/
theorem handedPorts_first {due : Nat → Seg → Bool} {g : Seg} {ps : Sparse Port} (h0 : due 0 g = true) (h1 : due 1 g = false)
    (h2 : due 2 g = false) (h3 : due 3 g = false) :
    handedPorts due d [g] ps = smod {} ps 0 (fun p => p.hand d [{ stream := d, seg := g }]) := by
  simp [handedPorts, h0, h1, h2, h3]

/-- One segment, not sent yet, that comes within the horizon of a datum published on port 0 alone. -/
theorem handSegments_first {g : Seg} (hp : u.publishes = true) (hq : (u.dat d).queue = [g]) (hpub : u.datPub d = 1)
    (hs : g.sent = 0) (hle : g.t0 * 2 ^ 32 ≤ u.ptp + u.datHorizon d * 2 ^ 32) :
    u.handSegments d = (({ u with ports := smod {} u.ports 0 (fun p => p.hand d [{ stream := d, seg := g }]) } : State).modDat d
      (fun x => { x with queue := [{ g with sent := 1 }] })).recordDat d := by
  have h0 : ∀ x, dueOn u d 0 { g with sent := x } = decide (x % 2 = 0) := by
    intro x
    unfold dueOn
    rw [hpub, decide_eq_true hle, Nat.pow_zero, Nat.div_one, Nat.div_one, Bool.and_true]
    rfl
  have hne : ∀ n ∈ [1, 2, 3], ∀ x, dueOn u d n { g with sent := x } = false := by
    intro n hn x
    have hbit : ∀ n ∈ [1, 2, 3], decide (1 / 2 ^ n % 2 = 1) = false := by decide
    unfold dueOn
    rw [hpub, hbit n hn]
    rfl
  have hg : { g with sent := 0 } = g := by rw [← hs]
  have hg0 : dueOn u d 0 g = true := by rw [← hg, h0]; rfl
  have hg' : ∀ n ∈ [1, 2, 3], dueOn u d n g = false := fun n hn => by rw [← hg]; exact hne n hn 0
  have hmark : handedMark (dueOn u d) g = { g with sent := 1 } := by
    unfold handedMark
    simp [hg0, hs, hne]
  rw [handSegments_due hp (by rw [hq]; simp [hg0]), hq,
    handedPorts_first hg0 (hg' 1 (by decide)) (hg' 2 (by decide)) (hg' 3 (by decide))]
  refine congrArg (State.recordDat · d) (modDat_queue (s := { u with ports := _ }) (q := (u.dat d).queue) rfl ?_)
  rw [hq, List.map_singleton, hmark]

end

/-! ### Fits -/

section
variable {u w x : State} {d raw back tk n t : Nat} {e : Encoder} {p : Int × Nat} {vm m pos : Rat} {ofs : Int} {g : Seg}

/-- The encoder as a fit instant finds it: an SSI position read is taken first. -/
def readEncoder (u : State) (d raw back tk : Nat) : Encoder :=
  if (u.encCfg d).fld 1 0 < 2 then (u.dat d).enc
  else (u.dat d).enc.ssi ((u.encCfg d).fld 22 18 + 1) (if (u.encCfg d).fld 1 0 = 3
    then grayToBin ((u.encCfg d).fld 22 18 + 1) (raw % 2 ^ ((u.encCfg d).fld 22 18 + 1))
    else raw % 2 ^ ((u.encCfg d).fld 22 18 + 1)) (min tk (u.now - back))

/-- A fit at a new fit instant. -/
theorem encoderFit_new (h2 : u.datSource d = 2) (htk : u.fitInstant d = tk) (hnew : ∀ l, (u.dat d).enc.lastFit = some l → l < tk)
    (hn : (u.encCfg d).fld 17 15 + 1 = n) (ht : u.fitT d = t) (he : readEncoder u d raw back tk = e) (hp : e.at_ tk = p)
    (hvm : fitVm (pair64 (u.cw 2 d 9) (u.cw 2 d 10)) p e.hist[n - 1]? = vm)
    (hpos : ((u.datEval d ((tk : Int) * 2 ^ 32)).u : Rat) = pos)
    (hofs : (if e.realign && u.fitsNow then (pos - ((p.1 * (pair64 (u.cw 2 d 9) (u.cw 2 d 10) : Int) : Int) : Rat)).floor
      else e.offset) = ofs)
    (hm : ((p.1 * (pair64 (u.cw 2 d 9) (u.cw 2 d 10) : Int) : Int) : Rat) + ofs = m)
    (hw : u.modDat d (fun y => { y with fitValid := decide (n + 1 ≤ min 9 (e.fits + 1)), enc :=
      { e with hist := (p :: e.hist).take 9, fits := min 9 (e.fits + 1), lastFit := some tk, offset := ofs,
               realign := e.realign && !u.fitsNow, steps := e.steps.filter (fun q => decide (tk < q.2)) } }) = w)
    (hg : fitSeg (w.datMod d) (pair64 (w.cw 2 d 11) (w.cw 2 d 12)) (tk + w.fitLead d) t
      (m + vm * nsSec ((tk + w.fitLead d + t : Nat) - (p.2 : Int))) vm ((w.dat d).lastSeg.map (Seg.ending (w.datMod d))) = g)
    (hx : w.fitError d (nearTo (w.datMod d) (m + vm * nsSec ((tk : Int) - (p.2 : Int))) pos - pos) = x) :
    u.encoderFit d raw back =
      if n + 1 ≤ min 9 (e.fits + 1) ∧ w.fitsNow = true then
        (if x.fits d g ∧ (x.dat d).queue.length < 256 then x.append d g (((x.dat d).seq + 1) % 2 ^ 32) else x)
      else w := by
  have hwT : w.fitT d = t := by subst hw ht; rfl
  unfold readEncoder at he
  unfold State.encoderFit
  refine (if_neg ?_).trans ?_
  · rw [htk, h2]
    cases hl : (u.dat d).enc.lastFit with
    | none => simp
    | some l => simp [hnew l hl]
  simp only [htk, he, hp, hn, hvm, hpos, hofs, hm, hw, hwT, hg, hx]
  by_cases hfit : n + 1 ≤ min 9 (e.fits + 1)
  · by_cases hnow : w.fitsNow = true
    · simp [hfit, hnow]
    · simp [hfit, hnow]
  · simp [hfit]

end

/-- Settles O33: what the sources of a datum make of it. -/
theorem datumSources : Obligations.DatumSources := by
  have hmod : ∀ {d : Nat}, d < 8 → d % 8 = d := Nat.mod_eq_of_lt
  refine ⟨fun dt m d q t s u hu hd ho hr hf hq ht => ?_, fun dt m d s u hu hd ho hr => ?_, fun dt m d s u hu hd ho => ?_,
    fun dt d a b s u hu hd h => (exec_encoderEdge ..).trans (next_of_after hu ?_),
    fun dt d te a b s u hu hd h2 hk ha hb hte hq => (exec_encoderEdge ..).trans (next_of_after hu ?_),
    fun dt d te a b s u hu hd h2 hk ha hb hte hq => (exec_encoderEdge ..).trans (next_of_after hu ?_),
    fun dt d te a b s u hu hd h2 hk ha hb hte hq => (exec_encoderEdge ..).trans (next_of_after hu ?_),
    fun dt d te a b s u hu hd h2 hk ha hb hte hq => (exec_encoderEdge ..).trans (next_of_after hu ?_),
    fun dt d z c t s u hu hd h2 hk hz hl hlast hnew ht hc hh => (exec_encoderZEdge ..).trans (next_of_after hu ?_),
    fun dt d z c t s u hu hd h2 hk hz hl hlast hnew ht hh hr hc => (exec_encoderZEdge ..).trans (next_of_after hu ?_),
    fun dt d z n c t s u hu hd h2 hk hz hl hlast hnew ht hh hr hm => (exec_encoderZEdge ..).trans (next_of_after hu ?_),
    fun dt d raw back tk n t e p vm m pos ofs g s u w x hu hd h2 htk hnew hn ht he hp hvm hpos hofs hm hw hg hx =>
      (exec_encoderFit ..).trans (next_of_afterEv hu ?_),
    fun dt d s u hu hd h3 hl ha => (exec_upstreamTimeout ..).trans (next_of_afterEv hu ?_),
    fun dt d s u hu hd ha => (exec_upstreamTimeout ..).trans (next_of_afterEv hu ?_),
    fun dt d s u hu hd hp => (exec_segmentHandover ..).trans (next_of_afterEv hu ?_),
    fun dt d g s u hu hd hp hq hpub hs hle => (exec_segmentHandover ..).trans (next_of_afterEv hu ?_)⟩
  · subst hq ht
    rw [datAppPush_single hu hd ho (by decide), if_pos (by decide)]
    unfold State.push
    simp only [hr, hf, ne_eq, not_true, Bool.not_true, Bool.false_eq_true, if_false]
  · rw [datAppPush_single hu hd ho (by decide), if_pos (by decide)]
    unfold State.push
    simp only [hr, ne_eq, not_false_eq_true, if_true]
  · rw [datAppPush_single hu hd ho (by decide), if_neg (by decide)]
  · rw [hmod hd, encoderEdge_unshown h]
  · rw [hmod hd, encoderEdge_shown h2 hk ha hb hte hq]; rfl
  · rw [hmod hd, encoderEdge_shown h2 hk ha hb hte hq]; rfl
  · rw [hmod hd, encoderEdge_shown h2 hk ha hb hte hq]; rfl
  · rw [hmod hd, encoderEdge_shown h2 hk ha hb hte hq]; rfl
  · have hcw : t.cw 2 d 8 = u.cw 2 d 8 := by subst ht; rfl
    rw [hmod hd, encoderZ_fresh h2 hk hz hl hlast hnew ht, zSeen_homes hh, hcw, hc]
    rfl
  · rw [hmod hd, encoderZ_fresh h2 hk hz hl hlast hnew ht, zSeen_measures hh hr hc]
  · rw [hmod hd, encoderZ_fresh h2 hk hz hl hlast hnew ht, zSeen_whole hh hr hm]
  · rw [hmod hd]
    exact encoderFit_new h2 htk hnew hn ht he hp hvm hpos hofs hm hw hg hx
  · rw [hmod hd, upTimeout_lost h3 hl ha]
  · rw [hmod hd, upTimeout_heard ha]
  · rw [if_pos hd, handSegments_idle hp]
  · rw [if_pos hd, handSegments_first hp hq hpub hs hle]

end Sys2Proof.Proofs
end

section
/-!
PROOFS. The stake table (06 R118 to R128).
-/
namespace Sys2Proof.Proofs
open Sys2Proof Sys2Proof.Machine

/-! ### The host arms, disarms and reloads -/

section
variable {u : State} {e : Nat}

theorem armEntry_disarmed (h : (u.stake e).st = .disarmed) : u.armEntry e = u.hostStake e (u.armed e (u.stake e) none) := if_pos h
theorem armEntry_armed (h : (u.stake e).st ≠ .disarmed) : u.armEntry e = u := if_neg h
theorem disarmEntry_disarmed (h : (u.stake e).st = .disarmed) : u.disarmEntry e = u := if_pos h
theorem disarmEntry_armed (h : (u.stake e).st ≠ .disarmed) :
    u.disarmEntry e = u.hostStake e { u.stake e with st := .disarmed, ref := none, block := false } := if_neg h
theorem reloadEntry_disarmed (h : (u.stake e).st = .disarmed) :
    u.reloadEntry e = u.hostStake e { u.stake e with target := u.stkTarget e, count := u.stkCount e } := if_pos h
theorem reloadEntry_armed (h : (u.stake e).st ≠ .disarmed) : u.reloadEntry e = u.misused 128 0x50000 := if_neg h

end

section
variable {dt m j : Nat} {s u : State} (hj : j < 1024) (ho : u.opens m true (Reg.STK_W7 j) = true)
include hj ho

theorem arm_single (hu : s.toWrite dt m (Reg.STK_W7 j) 1 = u) : exec (.arm dt m j) s = .next (u.armEntry (u.windowEntry j)) :=
  (exec_arm ..).trans ((writeAfter_eq_single hu).trans (congrArg _ ((writesAs_stkW7 hj).single ho (by decide))))

theorem disarm_single (hu : s.toWrite dt m (Reg.STK_W7 j) 2 = u) :
    exec (.disarm dt m j) s = .next (u.disarmEntry (u.windowEntry j)) :=
  (exec_disarm ..).trans ((writeAfter_eq_single hu).trans (congrArg _ ((writesAs_stkW7 hj).single ho (by decide))))

theorem reload_single (hu : s.toWrite dt m (Reg.STK_W7 j) 4 = u) :
    exec (.reload dt m j) s = .next (u.reloadEntry (u.windowEntry j)) :=
  (exec_reload ..).trans ((writeAfter_eq_single hu).trans (congrArg _ ((writesAs_stkW7 hj).single ho (by decide))))

end

/-! ### The test of an entry -/

section
variable {u : State} {i d : Nat} {prev xt : Int} {tp : Nat}

theorem testStake_disarmed (h : (u.stake i).st = .disarmed) : u.testStake i = u := by
  unfold State.testStake
  exact if_pos (by simp [h])

theorem dispatches_roles (h : u.dispatches = true) : u.shadows = false ∧ u.role ≠ 0 ∧ u.role ≠ 6 := by
  simp only [State.dispatches, Bool.or_eq_true, decide_eq_true_eq] at h
  refine ⟨?_, by omega, by omega⟩
  simp only [State.shadows, Bool.or_eq_false_iff, decide_eq_false_iff_not]
  omega

/-- Without a crossing since the last sample the new reference is stored. -/
theorem testStake_quiet (hst : (u.stake i).st ≠ .disarmed) (h0 : u.role ≠ 0) (h6 : u.role ≠ 6) (h25 : u.cmpState 25 ≠ 5)
    (hbad : u.badEntry i = false) (hr : (u.stake i).ref = some (prev, tp)) (hb : (u.stake i).block = false)
    (hc : crossing (u.datMod (u.stkDatum i)) (u.stake i).target (u.stkDir i % 2 = 1) (u.stkDir i / 2 = 1) none prev
      (u.reference i).1 = none) : u.testStake i = u.setStake i { u.stake i with ref := some (u.reference i) } := by
  unfold State.testStake
  simp only [hst, h0, h6, h25, hbad, hr, hb, hc, decide_false, Bool.or_self, Bool.false_eq_true, if_false, Bool.false_and]

/-- A one-shot entry without a count is disarmed by its firing. -/
theorem firedEntry_oneShot (e : Stake) (hm : u.stkMode i = 0) : u.firedEntry i e xt = { e with st := .disarmed, ref := none } := by
  unfold State.firedEntry
  simp only [hm, decide_true, Bool.true_or, if_true]

/-- A crossing of a one-shot entry, on a path without a jump that is not predicted. -/
theorem testStake_oneShot {t : State} {a : Action} (hd : u.stkDatum i = d) (hst : (u.stake i).st = .armed)
    (hdis : u.dispatches = true) (h25 : u.cmpState 25 ≠ 5) (hbad : u.badEntry i = false)
    (hr : (u.stake i).ref = some (prev, tp)) (hb : (u.stake i).block = false) (hp : (u.stake i).prov = none) (hm : u.stkMode i = 0)
    (hc : crossing (u.datMod d) (u.stake i).target (u.stkDir i % 2 = 1) (u.stkDir i / 2 = 1) none prev (u.reference i).1 = some xt)
    (hj : jumpsIn (u.datMod d) (u.dat d) tp (u.reference i).2 = []) (hpred : predicted (u.dat d) (u.reference i).2 = false)
    (ha : ({ index := i, tf := (u.crossInstant d xt prev tp (u.reference i) : Int) - (u.stkLead i : Int),
             tcross := u.crossInstant d xt prev tp (u.reference i), kind := (u.cw 5 i 0).fld 15 12, operand := u.cw 5 i 5,
             dec := u.sclk } : Action) = a)
    (ht : u.setStake i { u.stake i with st := .disarmed, ref := none } = t) :
    u.testStake i = { t with stk := t.stk.wait a } := by
  subst hd ha ht
  obtain ⟨hsh, h0, h6⟩ := dispatches_roles hdis
  have hsh' : ∀ e, (u.setStake i e).shadows = false := fun _ => hsh
  unfold State.testStake
  simp only [hst, h0, h6, h25, hbad, hr, hb, hc, hj, hpred, hp, firedEntry_oneShot _ hm, reduceCtorEq, decide_false, Bool.or_self,
    Bool.false_eq_true, if_false, if_true, Bool.false_and, List.any_nil, State.decide_, hsh']
  rfl

end

/-- Settles O34: the commands of the table window, and the test of an entry. -/
theorem stakesAreArmedAndTested : Obligations.StakesAreArmedAndTested := by
  have hmod : ∀ {i : Nat}, i < 4096 → i % 4096 = i := Nat.mod_eq_of_lt
  refine ⟨fun dt m j e s u hu hj ho he hst => ?_, fun dt m j s u hu hj ho hst => ?_, fun dt m j e s u hu hj ho he hst => ?_,
    fun dt m j s u hu hj ho hst => ?_, fun dt m j e s u hu hj ho he hst => ?_, fun dt m j s u hu hj ho hst => ?_,
    fun dt i prev tp s u hu hi hst h0 h6 h25 hbad hr hb hc => (exec_stakeFire ..).trans (next_of_afterEv hu ?_),
    fun dt i d prev xt tp t a s u hu hi hd hst hdis h25 hbad hr hb hp hm hc hj hpred ha ht =>
      (exec_stakeFire ..).trans (next_of_afterEv hu ?_),
    fun d xt prev tp cur u h => if_pos (by simpa using h),
    fun dt i s u hu hi hst => (exec_stakeFire ..).trans (next_of_afterEv hu ?_)⟩
  · subst he
    rw [arm_single hj ho hu, armEntry_disarmed hst]
    rfl
  · rw [arm_single hj ho hu, armEntry_armed hst]
  · subst he
    rw [disarm_single hj ho hu, disarmEntry_armed hst]
    rfl
  · rw [disarm_single hj ho hu, disarmEntry_disarmed hst]
  · subst he
    rw [reload_single hj ho hu, reloadEntry_disarmed hst]
    rfl
  · rw [reload_single hj ho hu, reloadEntry_armed hst]
  · rw [hmod hi, testStake_quiet hst h0 h6 h25 hbad hr hb hc]
  · rw [hmod hi, testStake_oneShot hd hst hdis h25 hbad hr hb hp hm hc hj hpred ha ht]
  · rw [hmod hi, testStake_disarmed hst]

end Sys2Proof.Proofs
end

section
/-!
PROOFS. The dispatch of decided actions and what they do (06 R129 to R131).
-/
namespace Sys2Proof.Proofs
open Sys2Proof Sys2Proof.Machine

/-! ### The order of dispatch -/

/-- `a` goes before `b`, or is it: by instant, then by entry. -/
def Before (a b : Action) : Prop := a.tf < b.tf ∨ (a.tf = b.tf ∧ a.index ≤ b.index)

theorem Before.refl (a : Action) : Before a a := .inr ⟨rfl, Nat.le_refl _⟩

theorem Before.trans {a b c : Action} (h : Before a b) (k : Before b c) : Before a c := by
  unfold Before at *
  omega

theorem firstAction_before (a b : Action) : Before (firstAction a b) a ∧ Before (firstAction a b) b := by
  unfold firstAction Before
  split <;> omega

theorem firstAction_mem (a b : Action) : firstAction a b = a ∨ firstAction a b = b := by
  unfold firstAction
  split
  · exact .inr rfl
  · exact .inl rfl

/-- The first of a list goes before every other, and is of the list. -/
theorem foldl_firstAction (l : List Action) (a : Action) :
    l.foldl firstAction a ∈ a :: l ∧ ∀ b ∈ a :: l, Before (l.foldl firstAction a) b := by
  induction l generalizing a with
  | nil => simp [Before.refl]
  | cons b l ih =>
    obtain ⟨hmem, hbefore⟩ := ih (firstAction a b)
    obtain ⟨ha, hb⟩ := firstAction_before a b
    rw [List.foldl_cons]
    refine ⟨?_, fun c hc => ?_⟩
    · rcases List.mem_cons.mp hmem with h | h
      · rw [h]
        rcases firstAction_mem a b with h | h <;> simp [h]
      · simp [h]
    · have hfirst := hbefore _ (List.mem_cons_self ..)
      rcases List.mem_cons.mp hc with rfl | hc
      · exact hfirst.trans ha
      · rcases List.mem_cons.mp hc with rfl | hc
        · exact hfirst.trans hb
        · exact hbefore c (List.mem_cons_of_mem _ hc)

theorem nextAction_none_of_role {u : State} (h : u.dispatches = false) : u.nextAction = none := by
  unfold State.nextAction
  rw [h]
  rfl

/-- The next action is a due one, and goes before every other due one. -/
theorem nextAction_first {u : State} {a : Action} (h : u.nextAction = some a) :
    u.dispatches = true ∧ a ∈ u.stk.actions ∧ u.due a = true ∧
      ∀ b ∈ u.stk.actions, u.due b = true → Before a b := by
  have hdis : u.dispatches = true := by
    cases hd : u.dispatches with
    | true => rfl
    | false =>
      rw [nextAction_none_of_role hd] at h
      cases h
  unfold State.nextAction at h
  rw [hdis, if_neg (by decide)] at h
  cases hl : u.stk.actions.filter u.due with
  | nil => rw [hl] at h; cases h
  | cons b l =>
    rw [hl] at h
    cases h
    obtain ⟨hmem, hbefore⟩ := foldl_firstAction l b
    rw [← hl] at hmem hbefore
    obtain ⟨hin, hdue⟩ := List.mem_filter.mp hmem
    exact ⟨hdis, hin, hdue, fun c hc hd => hbefore c (List.mem_filter.mpr ⟨hc, hd⟩)⟩

/-- With a due action some action is next. -/
theorem nextAction_some {u : State} {b : Action} (hd : u.dispatches = true) (hb : b ∈ u.stk.actions) (hdue : u.due b = true) :
    u.nextAction ≠ none := by
  have hmem : b ∈ u.stk.actions.filter u.due := List.mem_filter.mpr ⟨hb, hdue⟩
  unfold State.nextAction
  rw [hd, if_neg (by decide)]
  cases hl : u.stk.actions.filter u.due with
  | nil => rw [hl] at hmem; cases hmem
  | cons c l => simp

/-! ### What the action does -/

section
variable {dt : Nat} {s u t : State} {a : Action}

/-- The next action, not delayed, leaves the queue and takes its effect. -/
theorem dispatch_acts (hu : s.clock dt (s.advance dt).dispatchEvs = u) (hn : u.nextAction = some a) (hr : u.rank a < 16)
    (ht : ({ u with stk := { u.stk with actions := u.stk.actions.erase a } } : State) = t) :
    exec (.stakeActionDispatch dt) s = .next (t.act a) := by
  subst ht
  refine (exec_stakeActionDispatch ..).trans (next_of_afterEv hu ?_)
  unfold State.dispatch
  simp only [hn, Nat.not_le.mpr hr, if_false]

theorem act_note (h : a.kind = 0) : t.act a = (t.setReg Reg.STK_NOTE_IDX (w32 a.index)).raiseBit 20 0 := by
  unfold State.act; simp only [h]

theorem act_edge (h : a.kind = 1) : t.act a = t.foEdge (a.operand.fld 2 0) (a.operand.fld 5 4) a.tf := by
  unfold State.act; simp only [h]

theorem act_release (h : a.kind = 2) : t.act a = t.arrive (a.operand.fld 4 0) := by
  unfold State.act; simp only [h]

theorem act_conv (h : a.kind = 3) : t.act a = t.convStartMask (a.operand.fld 1 0) := by
  unfold State.act; simp only [h]

theorem act_capture (h : a.kind = 4) : t.act a = t.capture (a.operand.fld 3 0) a.index a.tcross := by
  unfold State.act; simp only [h]

theorem act_event (h : a.kind = 5) : t.act a = t.queueEvent a.event a.tf (a.freed && decide (a.tf < (t.now : Int))) := by
  unfold State.act; simp only [h]

/-- A group that converts on a trigger, with no conversion running, starts one. -/
theorem convStart_idle {g : Nat} (hg : t.hasGroup g = true) (hd : t.domainOn 9 = true) (htr : t.triggered g = true)
    (hc : t.converting g = false) :
    t.convStart g = { t with grps := smod {} t.grps g (fun x =>
      { x with conv := (t.now + t.convT g, t.now + t.convT g + 60000) :: x.conv }) } := by
  unfold State.convStart
  simp only [hg, hd, htr, hc, Bool.not_true, Bool.or_self, Bool.false_eq_true, if_false]

/-- An event in time is queued for its port. -/
theorem queueEvent_inTime {e : StnEvent} {q : List StnEvent} {tf : Int} (hq : sget [] t.stk.events e.port = q) (h64 : q.length < 64)
    (hact : tf + 2 * (t.cycleNs e.port : Int) ≤ e.act) :
    t.queueEvent e tf false = { t with stk := { t.stk with events := sput [] t.stk.events e.port (q ++ [e]) } } := by
  have hcyc : ∀ x, ({ t with stk := x } : State).cycleNs e.port = t.cycleNs e.port := fun _ => rfl
  unfold State.queueEvent
  simp only [hq, Nat.not_le.mpr h64, hcyc, Int.not_lt.mpr hact, if_false, decide_false, Bool.or_self, Bool.false_eq_true]

/-- An edge of an output that stakes own, for an instant still to come. -/
theorem foEdge_ahead {k level : Nat} {tf : Int} (ho : t.foOwner k = 2) (htf : (t.now : Int) ≤ tf) (h8 : (t.edges k).length < 8) :
    t.foEdge k level tf = t.setEdges k (insertEdge ⟨tf, level⟩ (t.edges k)) := by
  unfold State.foEdge
  rw [if_neg (not_not_intro ho), if_neg (Int.not_lt.mpr htf), if_neg (Nat.not_le.mpr h8)]

/-- An edge whose instant has passed is placed at once, and counted. -/
theorem foEdge_late {k level : Nat} {tf : Int} (ho : t.foOwner k = 2) (htf : tf < (t.now : Int)) :
    t.foEdge k level tf = ((t.placeEdge k level t.now).count Reg.STK_FO_LATE).raiseBit 20 1 := by
  unfold State.foEdge
  rw [if_neg (not_not_intro ho), if_pos htf]

end

/-! ### Reads of a capture -/

section
variable {dt m k : Nat} {l c : Capture} {s u : State}

/-- The register that shows a capture and clears it. -/
theorem regAt_capInfo (hk : k < 16) : ∃ d, regAt (Reg.STK_CAPk_INFO k) = some (d, k, 0) ∧ d.tag = .STK_CAPk_INFO :=
  match k, hk with
  | 0, _ | 1, _ | 2, _ | 3, _ | 4, _ | 5, _ | 6, _ | 7, _ | 8, _ | 9, _ | 10, _ | 11, _ | 12, _ | 13, _ | 14, _ | 15, _ => ⟨_, rfl, rfl⟩
  | _ + 16, h => absurd h (by omega)

theorem readReg_capInfo {d : RegDesc} {j a : Nat} (hd : d.tag = .STK_CAPk_INFO) (hf : u.flipsAt a = (0, 0, 0)) :
    u.readReg m d k j a = u.readCapInfo m k := by
  obtain ⟨tag, _, _, _, _, _, _, _, _, _, _⟩ := d
  cases hd
  unfold State.readReg
  rw [vote_of_agree hf]

theorem capInfoRead_eq {w : Word} {t : State} (hu : s.toRead dt m (Reg.STK_CAPk_INFO k) = u) (hk : k < 16)
    (ho : u.opens m false (Reg.STK_CAPk_INFO k) = true) (hf : u.flipsAt (Reg.STK_CAPk_INFO k) = (0, 0, 0))
    (hr : u.readCapInfo m k = (w, t)) :
    exec (.stkCapInfoRead dt m k) s = .next (t.emit (.readData m (Reg.STK_CAPk_INFO k) w)) := by
  obtain ⟨d, hd, htag⟩ := regAt_capInfo hk
  refine (exec_stkCapInfoRead ..).trans ((readAfter_eq_single hu).trans (congrArg _ ((single_read ho hd).trans ?_)))
  rw [readReg_capInfo htag hf, hr]

theorem readCapInfo_same (hl : sget none u.stk.capLat (k * 256 + m) = some l) (hc : sget {} u.stk.caps k = c)
    (hst : l.stamp = c.stamp) :
    u.readCapInfo m k =
      (capInfo l l.ovr, u.setCap k { c with index := 0, valid := false, ovr := false, latched := false }) := by
  unfold State.readCapInfo
  simp only [hl, hc, hst, if_true]

theorem readCapInfo_newer (hl : sget none u.stk.capLat (k * 256 + m) = some l) (hc : sget {} u.stk.caps k = c)
    (hst : l.stamp ≠ c.stamp) (hev : u.evsNow.any (fun e => e.tag = .capture && e.a = k) = false) :
    u.readCapInfo m k = (capInfo l true, u) := by
  unfold State.readCapInfo
  simp only [hl, hc, hst, hev, if_false, Bool.and_false, Bool.false_eq_true]

theorem capInfo_over (l : Capture) : capInfo l true = w32 (l.index + 2 ^ 30 + 2 ^ 31 * ofBool l.valid) := by
  have hone : ofBool true = 1 := rfl
  unfold capInfo
  rw [hone, Nat.mul_one]

end

/-- Settles O35: the order of dispatch, each action's effect, the edges, and the reads of captures. -/
theorem stakeActions : Obligations.StakeActions := by
  have hmod : ∀ {k : Nat}, k < 8 → k % 8 = k := Nat.mod_eq_of_lt
  refine ⟨fun u a h => nextAction_first h, fun u b hd hb hdue => nextAction_some hd hb hdue,
    fun dt a t s u hu hn hr hk ht => (dispatch_acts hu hn hr ht).trans (congrArg _ (act_note hk)),
    fun dt a t s u hu hn hr hk ht => (dispatch_acts hu hn hr ht).trans (congrArg _ (act_release hk)),
    fun dt a t s u hu hn hr hk ho ht hg hd htr hc => (dispatch_acts hu hn hr ht).trans (congrArg _ ?_),
    fun dt a c t s u hu hn hr hk ht hc h0 => (dispatch_acts hu hn hr ht).trans (congrArg _ ?_),
    fun dt a e q t s u hu hn hr hk hp he ht hq h64 hact => (dispatch_acts hu hn hr ht).trans (congrArg _ ?_),
    fun dt a k t s u hu hn hr hk ho ht how htf h8 => (dispatch_acts hu hn hr ht).trans (congrArg _ ?_),
    fun dt a k t s u hu hn hr hk ho ht how htf => (dispatch_acts hu hn hr ht).trans (congrArg _ ?_),
    fun dt s u hu hd => (exec_stakeActionDispatch ..).trans (next_of_afterEv hu ?_),
    fun dt k e r s u hu hk he htf => (exec_foEdgeApply ..).trans (next_of_after hu ?_),
    fun dt k e r s u hu hk he htf => (exec_foEdgeApply ..).trans (next_of_after hu ?_),
    fun dt m k l c s u hu hk ho hf hl hc hst => capInfoRead_eq hu hk ho hf (readCapInfo_same hl hc hst),
    fun dt m k l c s u hu hk ho hf hl hc hst hev => ?_⟩
  · rw [act_conv hk, ho]
    exact convStart_idle hg hd htr hc
  · subst hc
    exact act_capture hk
  · subst he
    have hnow : t.now = u.now := by subst ht; rfl
    have hpassed : (a.freed && decide (a.tf < (t.now : Int))) = false := by
      rw [hnow]
      rcases hp with hp | hp
      · rw [hp]; rfl
      · rw [decide_eq_false (Int.not_lt.mpr hp), Bool.and_false]
    rw [act_event hk, hpassed]
    exact queueEvent_inTime hq h64 hact
  · rw [act_edge hk, ho, foEdge_ahead how htf h8]
  · rw [act_edge hk, ho, foEdge_late how htf]
  · unfold State.dispatch
    rw [nextAction_none_of_role hd]
  · rw [hmod hk]
    unfold State.applyEdge
    simp only [he, htf, if_true]
  · rw [hmod hk]
    unfold State.applyEdge
    simp only [he, Int.not_le.mpr htf, if_false]
  · rw [capInfoRead_eq hu hk ho hf (readCapInfo_newer hl hc hst hev), capInfo_over]

end Sys2Proof.Proofs
end

section
/-!
PROOFS. Frames of the Traverse ports: when they are taken, and what those of stations and of upstream pairs do (07 R146 to R168).
-/
namespace Sys2Proof.Proofs
open Sys2Proof Sys2Proof.Machine

/-! ### What the reception of a frame leaves -/

theorem port_modPort (s : State) (n : Nat) (f : Port → Port) : (s.modPort n f).port n = f (s.port n) :=
  sget_smod_self (α := Port) ..

theorem modPort_congr {s : State} {n : Nat} {f g : Port → Port} (h : f (s.port n) = g (s.port n)) : s.modPort n f = s.modPort n g :=
  congrArg (fun p => ({ s with ports := sput {} s.ports n p } : State)) h

theorem hearPort_ports (s : State) (n : Nat) : (s.hearPort n).ports = s.ports := by
  unfold State.hearPort
  split <;> rfl

theorem hearPort_cfgA (s : State) (n : Nat) : (s.hearPort n).cfgA = s.cfgA := by
  unfold State.hearPort
  split <;> rfl

/-- A word of a port's item depends on the active set and on the item kept through a swap. -/
theorem portW_congr {s t : State} {n w : Nat} (ho : (t.port n).oldItem = (s.port n).oldItem) (hc : t.cfgA = s.cfgA) :
    t.portW n w = s.portW n w := by
  unfold State.portW State.cw
  rw [ho, hc]

theorem received_portW (s : State) (n len w : Nat) (tagged : Bool) : (s.received n tagged len).portW n w = s.portW n w := by
  refine portW_congr ?_ (hearPort_cfgA ..)
  have hport : (s.received n tagged len).port n = _ := port_modPort _ n _
  rw [hport]
  unfold State.port
  rw [hearPort_ports]

theorem received_tagOk (s : State) (n len : Nat) (tagged : Bool) (h : Hdr) : (s.received n tagged len).tagOk n h = s.tagOk n h := by
  unfold State.tagOk
  rw [received_portW]

section
variable {u v w : State} {n : Nat} {h : Hdr} {b : Payload} {station good : Bool} {f : State → State}

/-- A frame that a port takes for this module does what its payload says, once received. -/
theorem rxFrame_taken (ht : u.takesFrame n h b station = true) (hv : u.received n h.vid.isSome (20 + paylen b) = v)
    (hg : good = true) : u.rxFrame n h b station good f = f v := by
  unfold State.takesFrame State.ownAddr State.epoch at ht
  simp only [Bool.and_eq_true, Bool.or_eq_true, decide_eq_true_eq, Bool.not_eq_true'] at ht
  obtain ⟨⟨⟨⟨⟨⟨⟨hport, hlink⟩, htype⟩, htag⟩, hver⟩, hlen⟩, hepoch⟩, hdst⟩ := ht
  have htype' : h.etype = v.regF Reg.TRV_SW_ETYPE 15 0 := by rw [← hv, received_regF]; exact htype
  have htag' : v.tagOk n h = true := by rw [← hv, received_tagOk]; exact htag
  have hown : v.ownAddr = u.regF Reg.TRV_SW_ADDR 15 0 := by rw [← hv]; exact received_regF ..
  have hep : v.epoch = (u.reg Reg.PAIR_EPOCH).toNat := by rw [← hv]; exact congrArg BitVec.toNat (received_reg ..)
  have hcheck : v.checkEpoch n h station = v := by
    unfold State.checkEpoch
    rw [hown, hep, hepoch]
    rfl
  unfold State.rxFrame
  rw [hport, hlink, if_neg (by decide)]
  dsimp only
  rw [hv, if_neg (not_not_intro htype'), htag', if_neg (by decide), if_neg (by simp [hver, hg]; omega), hcheck, hown]
  exact if_pos (by simpa using hdst)

/-- A frame of an upstream pair under its adopted epoch and slot is heard. -/
theorem upFrame_adopted (hup : v.fromUpstream n h = true) (hw : v.heardUp n h.src = w) : v.upFrame n h f = f w := by
  subst hw
  simp only [State.fromUpstream, Bool.and_eq_true, decide_eq_true_eq] at hup
  obtain ⟨⟨hsrc, h0⟩, hu⟩ := hup
  unfold State.upFrame
  simp only [hsrc, hu, h0, Nat.lt_irrefl, if_false, if_true, Bool.not_true, Bool.false_eq_true, decide_false, Bool.or_self]

/-- One of a lower epoch is counted old. -/
theorem upFrame_old (hup : v.isUpstream n h.src = true) (hlt : h.epoch < (sget {} (v.port n).upEpochs h.src : UpEpoch).epoch) :
    v.upFrame n h f = v.count (Reg.TRV_RX_OLD n) := by
  unfold State.upFrame
  simp only [hup, hlt, if_true, Bool.not_true, Bool.false_eq_true, if_false]

end

/-! ### Stations -/

/-- The status word of a station that has been heard. -/
def heardSts (behind : Bool) (st : Nat) (w : Word) : Word :=
  let w := (w.setFld 15 8 0).setBit 5 behind
  let w := if w.bit 4 then w.setBit 4 false else w
  if w.fld 2 0 = st % 8 then w else w.setFld 2 0 st

/-- After a frame of a station its misses are 0, it is not lost, its state and whether it is behind are known. -/
theorem heardSts_fields (behind : Bool) (st : Nat) (w : Word) :
    (heardSts behind st w).fld 15 8 = 0 ∧ (heardSts behind st w).fld 2 0 = st % 8 ∧ (heardSts behind st w).bit 5 = behind ∧
      (heardSts behind st w).bit 4 = false := by
  have hmiss : ∀ x : Word, ((x.setFld 15 8 0).setBit 5 behind).fld 15 8 = 0 := by
    intro x
    rw [fld_setBit_apart (by omega) _ _ (by omega), fld_setFld_self (by omega) (by omega), Nat.zero_mod]
  unfold heardSts
  dsimp only
  split <;> split
  all_goals
    refine ⟨?_, ?_, ?_, ?_⟩
  all_goals
    simp_all [fld_setFld_self, fld_setFld_apart, fld_setBit_apart, Word.bit_setBit, bit_setFld]

theorem commandStn_reg (s : State) (n k st a : Nat) : (s.commandStn n k st).reg a = s.reg a := by
  unfold State.commandStn
  split
  · rfl
  · dsimp only
    split <;> rfl

theorem stn_modStn (s : State) (n k : Nat) (f : Station → Station) : (s.modStn n k f).stn n k = f (s.stn n k) := by
  unfold State.stn State.modStn
  rw [port_modPort]
  exact sget_smod_self (α := Station) ..

theorem stn_of_ports {s t : State} (h : t.ports = s.ports) (n k : Nat) : t.stn n k = s.stn n k := by
  unfold State.stn State.port
  rw [h]

theorem queueTo_stn (s : State) (n k dmac : Nat) (h : Hdr) (b : Payload) : (s.queueTo n dmac h b).stn n k = s.stn n k := by
  unfold State.queueTo State.enqueueWire State.stn
  rw [port_modPort]

theorem commandStn_stn (s : State) (n k st : Nat) : (s.commandStn n k st).stn n k = s.stn n k := by
  unfold State.commandStn
  split
  · rfl
  · dsimp only
    split
    · exact queueTo_stn ..
    · exact queueTo_stn ..
    · exact queueTo_stn ..
    · rfl

theorem modPort_stn (s : State) (n k : Nat) (f : Port → Port) (hf : (f (s.port n)).stns = (s.port n).stns) :
    (s.modPort n f).stn n k = s.stn n k := by
  unfold State.stn
  rw [port_modPort, hf]

theorem settleAcks_reg (s : State) (n a : Nat) : (s.settleAcks n).reg a = s.reg a := rfl

/-- A station of which only some announced truncations are still kept. -/
def forgetSeen (p : Nat → Bool) (x : Station) : Station := { x with truncSeen := x.truncSeen.filter p }

theorem sget_map_forgetSeen (p : Nat → Bool) (m : Sparse Station) (k : Nat) :
    sget {} (m.map (fun e => (e.1, forgetSeen p e.2))) k = forgetSeen p (sget {} m k) :=
  sget_map ({} : Station) (forgetSeen p) m k

/-- The streams whose truncation every subscriber has seen. -/
def goneTruncs (s : State) (n : Nat) : List Nat :=
  ((s.port n).truncs.filter (fun t => (t.said || t.told ≠ 0) && (s.subscribers n t.stream).all (fun k => (s.stn n k).truncSeen.contains t.stream))).map
    (·.stream)

theorem settleAcks_stns (s : State) (n : Nat) : ((s.settleAcks n).port n).stns =
    (s.port n).stns.map (fun e => (e.1, forgetSeen (fun x => !(goneTruncs s n).contains x) e.2)) := by
  unfold State.settleAcks
  dsimp only
  rw [port_modPort]
  rfl

theorem settleAcks_stn (s : State) (n k : Nat) :
    ((s.settleAcks n).stn n k).heard = (s.stn n k).heard ∧ ((s.settleAcks n).stn n k).held = (s.stn n k).held := by
  unfold State.stn
  rw [settleAcks_stns, sget_map_forgetSeen]
  exact ⟨rfl, rfl⟩

/-- What an acknowledgement that an otherwise known station sends leaves of the port's settled frames. -/
theorem fullAck_stn (s : State) (n k j : Nat) : (s.fullAck n k).stn n j = s.stn n j := by
  unfold State.fullAck
  dsimp only
  split <;> rfl

theorem fullAck_sts (s : State) {n k : Nat} : ∃ w : Word, (s.fullAck n k).reg (Reg.STN_STS n k) = w ∧
    w.fld 15 8 = s.regF (Reg.STN_STS n k) 15 8 ∧ w.fld 2 0 = s.regF (Reg.STN_STS n k) 2 0 ∧
      w.bit 5 = s.regB (Reg.STN_STS n k) 5 ∧ w.bit 4 = s.regB (Reg.STN_STS n k) 4 := by
  unfold State.fullAck
  dsimp only
  split
  · refine ⟨_, (setRegB_reg ..).trans (if_pos rfl), ?_⟩
    simp [fld_setBit_apart, Word.bit_setBit, State.regF, State.regB]
  · exact ⟨_, rfl, rfl, rfl, rfl, rfl⟩

theorem countF_reg_ne (s : State) {a c : Nat} (h : c ≠ a) (hi lo n : Nat) : (s.countF a hi lo n).reg c = s.reg c := by
  unfold State.countF
  rw [setRegF_reg, if_neg h]

theorem trvIrq_stnSts (s : State) {n : Nat} (hn : n < 4) (k i : Nat) (hk : k < 256) : (s.trvIrq n i).reg (Reg.STN_STS n k) = s.reg (Reg.STN_STS n k) := by
  have hirq : (irqRegs (21 + n)).1 = Reg.TRV_IRQ_STS n := by
    match n, hn with
    | 0, _ | 1, _ | 2, _ | 3, _ => rfl
  refine (raiseBit_reg s ?_).trans (if_neg ?_)
  · unfold Reg.STN_STS Reg.MSIX_PBA; omega
  · rw [hirq]; unfold Reg.STN_STS Reg.TRV_IRQ_STS; omega

section
variable {s : State} {n k : Nat} (hn : n < 4) (hk : k < 256)
include hn hk

/-- What is heard of a station stands in its status word. -/
theorem heardStn_sts (st e : Nat) :
    (s.heardStn n k st e).reg (Reg.STN_STS n k) = heardSts (decide (e < s.epoch)) st (s.reg (Reg.STN_STS n k)) := by
  have hepoch : (s.modStn n k (fun x => { x with heard := true, heardAt := some s.sclk })).epoch = s.epoch := rfl
  have hcount : ∀ t : State, (t.count (Reg.TRV_RX_OLD n)).reg (Reg.STN_STS n k) = t.reg (Reg.STN_STS n k) := fun t =>
    count_reg_ne t (by unfold Reg.STN_STS Reg.TRV_RX_OLD; omega)
  unfold State.heardStn heardSts
  dsimp only
  rw [hepoch]
  simp only [apply_ite (fun t : State => t.reg (Reg.STN_STS n k)), commandStn_reg, trvIrq_stnSts _ hn _ _ hk, setRegF_reg, setRegB_reg, regB_eq, regF_eq,
    if_true, hcount, ite_self]
  rfl

end

theorem heardStn_heard (s : State) (n k st e : Nat) : ((s.heardStn n k st e).stn n k).heard = true := by
  have hstn : ∀ (t : State) (i : Nat), (t.trvIrq n i).stn n k = t.stn n k := fun t i => stn_of_ports (State.raiseBit_ports ..) n k
  have hset : ∀ (t : State) (a hi lo v : Nat), (t.setRegF a hi lo v).stn n k = t.stn n k := fun t a hi lo v => rfl
  have hbit : ∀ (t : State) (a i : Nat) (v : Bool), (t.setRegB a i v).stn n k = t.stn n k := fun t a i v => rfl
  have hcount : ∀ (t : State) (a : Nat), (t.count a).stn n k = t.stn n k := fun t a => rfl
  unfold State.heardStn
  dsimp only
  simp only [apply_ite (fun t : State => t.stn n k), commandStn_stn, hstn, hset, hbit, hcount, ite_self]
  rw [stn_modStn]

/-! ### Inputs of stations, images of pairs -/

section
variable {u v w : State} {n : Nat} {h : Hdr}

section
variable {b : InBlock} (ht : u.takesFrame n h (.input b) true = true) (hv : u.received n h.vid.isSome (20 + paylen (.input b)) = v)
  (hlen : b.bytes.length + 4 * b.words.length ≤ 1024)
include ht hv hlen

theorem stnImageRx_fits (hs : v.isStation n b.stn h = true) (hb : b.bytes.length = (v.stnW n b.stn 5).fld 31 16)
    (hw : b.words.length = (v.stnW n b.stn 6).fld 31 16) :
    u.stnImageRx n h b = (v.heardStn n b.stn b.state h.epoch).writeInputs n b := by
  refine (rxFrame_taken ht hv (decide_eq_true hlen)).trans ?_
  simp only [hs, ← hb, ← hw, ne_eq, not_true_eq_false, decide_false, Bool.or_self, Bool.not_true, Bool.false_eq_true, if_false]

theorem stnImageRx_bad (hs : v.isStation n b.stn h = true)
    (hb : b.bytes.length ≠ (v.stnW n b.stn 5).fld 31 16 ∨ b.words.length ≠ (v.stnW n b.stn 6).fld 31 16) :
    u.stnImageRx n h b = v.count (Reg.TRV_RX_BAD n) := by
  refine (rxFrame_taken ht hv (decide_eq_true hlen)).trans ?_
  have hcond : (decide (b.bytes.length ≠ (v.stnW n b.stn 5).fld 31 16) || decide (b.words.length ≠ (v.stnW n b.stn 6).fld 31 16)) = true := by
    simpa using hb
  simp only [hs, hcond, Bool.not_true, Bool.false_eq_true, if_false, if_true]

theorem stnImageRx_stranger (hs : v.isStation n b.stn h = false) : u.stnImageRx n h b = v := by
  refine (rxFrame_taken ht hv (decide_eq_true hlen)).trans ?_
  simp only [hs, Bool.not_false, if_true]

end

theorem pairImageRx_taken {t0 : Nat} {bs : List ImgBlock} (ht : u.takesFrame n h (.image t0 bs) false = true)
    (hv : u.received n h.vid.isSome (20 + paylen (.image t0 bs)) = v) (hlen : bs.length ≤ 255)
    (hall : ∀ b ∈ bs, b.bytes.length + 4 * b.words.length ≤ 1024) (hup : v.fromUpstream n h = true) (hw : v.heardUp n h.src = w) :
    u.pairImageRx n h t0 bs = w.leaveHolding n h.src :=
  (rxFrame_taken ht hv (by simp only [Bool.and_eq_true, decide_eq_true_eq, List.all_eq_true]; exact ⟨hlen, hall⟩)).trans
    (upFrame_adopted hup hw)

theorem heardStn_quiet (s : State) (n k st e : Nat) (h4 : s.regB (Reg.STN_STS n k) 4 = false)
    (hst : s.regF (Reg.STN_STS n k) 2 0 = st % 8) (he : s.epoch ≤ e) :
    s.heardStn n k st e = (((s.modStn n k (fun x => { x with heard := true, heardAt := some s.sclk })).setRegF
      (Reg.STN_STS n k) 15 8 0).setRegB (Reg.STN_STS n k) 5 false) := by
  have hbehind : decide (e < s.epoch) = false := decide_eq_false (Nat.not_lt.mpr he)
  have hepoch : (s.modStn n k (fun x => { x with heard := true, heardAt := some s.sclk })).epoch = s.epoch := rfl
  generalize hm : s.modStn n k (fun x => { x with heard := true, heardAt := some s.sclk }) = m at hepoch ⊢
  have hreg : m.reg (Reg.STN_STS n k) = s.reg (Reg.STN_STS n k) := by rw [← hm]; rfl
  generalize hx : ((m.setRegF (Reg.STN_STS n k) 15 8 0).setRegB (Reg.STN_STS n k) 5 false) = x
  have hword : x.reg (Reg.STN_STS n k) = ((s.reg (Reg.STN_STS n k)).setFld 15 8 0).setBit 5 false := by
    rw [← hx, setRegB_reg, if_pos rfl, setRegF_reg, if_pos rfl, hreg]
  have hx4 : x.regB (Reg.STN_STS n k) 4 = false := by
    rw [regB_eq] at h4 ⊢
    rw [hword]
    simpa [Word.bit_setBit, bit_setFld] using h4
  have hxst : x.regF (Reg.STN_STS n k) 2 0 = st % 8 := by
    rw [regF_eq, hword, fld_setBit_apart (by omega) _ _ (by omega), fld_setFld_apart (by omega) (by omega) _ _ (.inl (by omega))]
    exact hst
  unfold State.heardStn
  dsimp only
  rw [hm, hepoch, hbehind]
  simp only [Bool.false_eq_true, if_false, hx, hx4, hxst, if_true]

theorem leaveHolding_cases {s t : State} {n src : Nat} (hl : s.leaveHolding n src = t) :
    (s.upAddr n = src → (s.port n).asStn.state = 4 → t = s.modPort n (fun p => { p with asStn := { p.asStn with state := 3 } })) ∧
    (s.upAddr n ≠ src ∨ (s.port n).asStn.state ≠ 4 → t = s) := by
  subst hl
  unfold State.leaveHolding
  refine ⟨fun hs h4 => ?_, fun hn => ?_⟩
  · simp only [hs, h4, decide_true, Bool.and_self, if_true]
  · refine if_neg ?_
    rcases hn with hn | hn <;> simp [hn]

/-! ### The frames one by one -/

section
variable {k st : Nat} {ss : List AckStream} {es : List AckEvent} {x y : State}
  (ht : u.takesFrame n h (.ack k st ss es) true = true) (hv : u.received n h.vid.isSome (20 + paylen (.ack k st ss es)) = v)
  (hlen : 8 * ss.length + 16 * es.length ≤ 1472)
include ht hv hlen

theorem ackRx_station (hs : v.isStation n k h = true) (hx : v.heardStn n k st h.epoch = x)
    (hy : (((x.modStn n k (fun z => { z with
      held := ss.foldl (fun m e => sput none m e.stream (some e.heldSeq)) z.held,
      truncSeen := ss.foldl (fun l e => if e.truncSeen && (x.port n).truncs.any (fun t => t.stream = e.stream && (t.said || t.told ≠ 0)) && !l.contains e.stream then l ++ [e.stream] else l) z.truncSeen })).settleAcks n).fullAck n k) = y) :
    u.ackRx n h k st ss es = (y.modPort n (fun p => { p with dueEvts := p.dueEvts.filter (fun d => !es.any (fun e => e.evtId = d.evt.evtId)) })).countF
      (Reg.STN_EVT_LATE n k) 15 0 (es.filter (fun e => e.result = 2 || e.result = 3)).length := by
  refine (rxFrame_taken ht hv (decide_eq_true hlen)).trans ?_
  subst hx hy
  simp only [hs, Bool.not_true, Bool.false_eq_true, if_false]

theorem ackRx_stranger (hs : v.isStation n k h = false) : u.ackRx n h k st ss es = v := by
  refine (rxFrame_taken ht hv (decide_eq_true hlen)).trans ?_
  simp only [hs, Bool.not_false, if_true]

end

/-- What one acknowledged stream of a station leaves: the station is heard with its state, and its entry is stored. -/
theorem ackRx_one {k st x q : Nat} {f : Bool} (ht : u.takesFrame n h (.ack k st [⟨x, f, q⟩] []) true = true)
    (hv : u.received n h.vid.isSome (20 + paylen (.ack k st [⟨x, f, q⟩] [])) = v) (hs : v.isStation n k h = true) (hn : n < 4) {t : State}
    (hr : u.ackRx n h k st [⟨x, f, q⟩] [] = t) :
    (t.stn n k).heard = true ∧ sget none (t.stn n k).held x = some q ∧ t.regF (Reg.STN_STS n k) 15 8 = 0 ∧
      t.regF (Reg.STN_STS n k) 2 0 = st % 8 ∧ t.regB (Reg.STN_STS n k) 5 = decide (h.epoch < v.epoch) ∧
      t.regB (Reg.STN_STS n k) 4 = false := by
  have hk : k < 256 := by
    simp only [State.isStation, Bool.and_eq_true, decide_eq_true_eq] at hs
    omega
  have hheard := heardStn_heard v n k st h.epoch
  have hsts := heardStn_sts hn hk (s := v) st h.epoch
  obtain ⟨h158, h20, h5, h4⟩ := heardSts_fields (decide (h.epoch < v.epoch)) st (v.reg (Reg.STN_STS n k))
  rw [ackRx_station ht hv (by simp) hs rfl rfl] at hr
  generalize v.heardStn n k st h.epoch = y at hheard hsts hr
  subst hr
  generalize hm : y.modStn n k _ = m
  have hmstn : (m.stn n k).heard = true ∧ sget none (m.stn n k).held x = some q := by
    rw [← hm, stn_modStn]
    exact ⟨hheard, sget_sput_self (α := Option Nat) none (y.stn n k).held x (some q)⟩
  have hmreg : m.reg (Reg.STN_STS n k) = y.reg (Reg.STN_STS n k) := by rw [← hm]; rfl
  obtain ⟨hh, hd⟩ := settleAcks_stn m n k
  obtain ⟨w, hw, hw158, hw20, hw5, hw4⟩ := fullAck_sts (m.settleAcks n) (n := n) (k := k)
  rw [regF_eq, settleAcks_reg, hmreg, hsts] at hw158 hw20
  rw [regB_eq, settleAcks_reg, hmreg, hsts] at hw5 hw4
  generalize hz : ((m.settleAcks n).fullAck n k) = z at hw ⊢
  have hzstn : z.stn n k = (m.settleAcks n).stn n k := by rw [← hz]; exact fullAck_stn ..
  generalize hg : z.modPort n _ = g
  have hgstn : g.stn n k = z.stn n k := by rw [← hg]; exact modPort_stn _ _ _ _ rfl
  have hgreg : g.reg (Reg.STN_STS n k) = w := by rw [← hg]; exact hw
  have hreg : (g.countF (Reg.STN_EVT_LATE n k) 15 0 0).reg (Reg.STN_STS n k) = w :=
    (countF_reg_ne g (by unfold Reg.STN_STS Reg.STN_EVT_LATE; omega) ..).trans hgreg
  have hstn : (g.countF (Reg.STN_EVT_LATE n k) 15 0 0).stn n k = (m.settleAcks n).stn n k :=
    (stn_of_ports rfl n k).trans (hgstn.trans hzstn)
  simp only [List.filter_nil, List.length_nil, regF_eq, regB_eq, hreg, hstn, hh, hd, hmstn, hw158, hw20, hw5, hw4, h158, h20, h5, h4, and_self]

theorem beatRx_partner {ro x : Nat} (ht : u.takesFrame n h (.heartbeat (ro % 8) x) false = true)
    (hv : u.received n h.vid.isSome (20 + paylen (.heartbeat (ro % 8) x)) = v) (hsrc : h.src = v.ownAddr) (hslot : h.slot ≠ v.slotId) :
    u.beatRx n h ro x = (({ v with hbAt := some v.now } : State).setRegF Reg.TRV_SW_STS 2 0 n).heardRole (ro % 8) := by
  refine (rxFrame_taken (f := fun s => if h.src = s.ownAddr && h.slot ≠ s.slotId then (s.noteBeat n).heardRole (ro % 8) else s.upFrame n h (fun s => s))
    ht hv rfl).trans (if_pos ?_)
  simp only [hsrc, decide_true, Bool.true_and]
  exact decide_eq_true hslot

section
variable {es : List DatumEntry} (ht : u.takesFrame n h (.datum es) false = true)
  (hv : u.received n h.vid.isSome (20 + paylen (.datum es)) = v) (h1 : 1 ≤ es.length) (h8 : es.length ≤ 8)
include ht hv h1 h8

theorem datumRx_adopted (hup : v.fromUpstream n h = true) (hw : v.heardUp n h.src = w) : u.datumRx n h es = w.leaveHolding n h.src :=
  (rxFrame_taken ht hv (by simp [h1, h8])).trans (upFrame_adopted hup hw)

theorem datumRx_old (hup : v.isUpstream n h.src = true) (hlt : h.epoch < (sget {} (v.port n).upEpochs h.src : UpEpoch).epoch) :
    u.datumRx n h es = v.count (Reg.TRV_RX_OLD n) :=
  (rxFrame_taken ht hv (by simp [h1, h8])).trans (upFrame_old hup hlt)

end

section
variable {x d k : Nat} {ds : List Nat} {gs : List Seg} {y z : State} (hlen : gs.length ≤ 20) (hup : v.fromUpstream n h = true)
  (hw : v.heardUp n h.src = w) (hrole : w.runs = true ∨ w.role = 5)
include hlen hup hw hrole

theorem segmentRx_appends (ht : u.takesFrame n h (.segment x none gs) false = true)
    (hv : u.received n h.vid.isSome (20 + paylen (.segment x none gs)) = v)
    (hz : (if w.upAddr n ≠ h.src then w else w.modPort n (fun p => { p with asStn := { p.asStn with held := smod none p.asStn.held x (fun k => heldAfter k none gs), truncs := p.asStn.truncs.filter (· ≠ x) } })) = z)
    (hds : (z.follows n h.src).filter (fun d => (z.cw 2 d 13).fld 4 2 = x) = ds) :
    u.segmentRx n h x none gs = ds.foldl (fun s d => gs.foldl (fun s g => s.upSeg d g h.epoch) s) z := by
  have hr : (!(w.runs || decide (w.role = 5))) = false := by rcases hrole with h | h <;> simp [h]
  refine (rxFrame_taken ht hv (decide_eq_true hlen)).trans ((upFrame_adopted hup hw).trans ?_)
  simp only [hr, Bool.false_eq_true, if_false, Option.isSome_none, List.append_nil, hz, hds]

theorem segmentRx_truncates (ht : u.takesFrame n h (.segment x (some k) gs) false = true)
    (hv : u.received n h.vid.isSome (20 + paylen (.segment x (some k) gs)) = v)
    (hz : (if w.upAddr n ≠ h.src then w else w.modPort n (fun p => { p with asStn := { p.asStn with held := smod none p.asStn.held x (fun j => heldAfter j (some k) gs), truncs := p.asStn.truncs.filter (· ≠ x) ++ [x] } })) = z)
    (hds : (z.follows n h.src).filter (fun d => (z.cw 2 d 13).fld 4 2 = x) = [d]) (hy : gs.foldl (fun s g => s.upSeg d g h.epoch) z = y)
    (hlt : ((y.dat d).queue.filter (fun g => seqPast k g.seq)).length < (y.dat d).queue.length) :
    u.segmentRx n h x (some k) gs =
      (y.truncateAll 8 d ((y.dat d).queue.filter (fun g => seqPast k g.seq))).modDat d (fun q => { q with seq := k % 2 ^ 32 }) := by
  have hr : (!(w.runs || decide (w.role = 5))) = false := by rcases hrole with h | h <;> simp [h]
  refine (rxFrame_taken ht hv (decide_eq_true hlen)).trans ((upFrame_adopted hup hw).trans ?_)
  simp only [hr, Bool.false_eq_true, if_false, Option.isSome_some, if_true, hz, hds, List.foldl_cons, List.foldl_nil, hy, Nat.ne_of_lt hlt]

end

section
variable {k tg : Nat} (ht : u.takesFrame n h (.stateCmd k tg) false = true)
  (hv : u.received n h.vid.isSome (20 + paylen (.stateCmd k tg)) = v) (hup : v.fromUpstream n h = true) (hw : v.heardUp n h.src = w)
include ht hv hup hw

theorem stateCmdRx_set (hsrc : w.upAddr n = h.src) (hdst : h.dst = w.ownAddr) (hstn : w.upStn n = k)
    (hst : (tg = 2 ∧ (w.port n).asStn.state = 3) ∨ (tg = 3 ∧ ((w.port n).asStn.state = 2 ∨ (w.port n).asStn.state = 5))) :
    u.stateCmdRx n h k tg = w.modPort n (fun p => { p with asStn := { p.asStn with state := tg } }) := by
  refine (rxFrame_taken ht hv rfl).trans ((upFrame_adopted hup hw).trans (if_pos ?_))
  simp only [hsrc, hdst, hstn, decide_true, Bool.true_and, Bool.or_eq_true, Bool.and_eq_true, decide_eq_true_eq]
  exact hst

theorem stateCmdRx_other (h2 : tg ≠ 2) (h3 : tg ≠ 3) : u.stateCmdRx n h k tg = w := by
  refine (rxFrame_taken ht hv rfl).trans ((upFrame_adopted hup hw).trans (if_neg ?_))
  simp [h2, h3]

end

theorem configRx_set {ws : List Word} (ht : u.takesFrame n h (.config ws) false = true)
    (hv : u.received n h.vid.isSome (20 + paylen (.config ws)) = v) (hlen : ws.length = 11) (hup : v.fromUpstream n h = true)
    (hw : v.heardUp n h.src = w) (hsrc : w.upAddr n = h.src) (hdst : h.dst = w.ownAddr) (hstn : w.upStn n = (item ws 0).fld 9 2) :
    u.configRx n h ws = w.modPort n (fun p => { p with asStn := { p.asStn with
      dsub := (item ws 9).fld 7 0, axFirst := (item ws 10).fld 15 0, axCount := (item ws 10).fld 31 16,
      outOfs := (item ws 7).toNat, inOfs := (item ws 8).toNat,
      holdCyc := if (item ws 2).fld 23 16 = 0 then 2 else (item ws 2).fld 23 16,
      state := if p.asStn.state = 1 then 2 else p.asStn.state } }) := by
  refine (rxFrame_taken ht hv (decide_eq_true hlen)).trans ((upFrame_adopted hup hw).trans (if_pos ?_))
  simp only [hsrc, hdst, hstn, decide_true, Bool.and_self]

end

/-! ### Lost stations, segments and events that no station acknowledges -/

section
variable {u : State} {n : Nat}

theorem stationLost_eq {k : Nat} (hp : u.hasPort n = true) (h1 : 1 ≤ k) (h255 : k ≤ 255) (h0 : u.stnW n k 0 ≠ 0)
    (hm : u.missLimit n ≤ u.regF (Reg.STN_STS n k) 15 8) (h4 : u.regB (Reg.STN_STS n k) 4 = false) :
    u.stationLost n k = (u.setRegB (Reg.STN_STS n k) 4 true).trvIrq n 1 := by
  refine if_pos ?_
  simp only [hp, h1, h255, hm, h4, decide_true, Bool.and_true, Bool.true_and, Bool.not_false]
  exact decide_eq_true h0

theorem segNak_spent {g : DueSeg} {t : State} (hd : (u.port n).dueSegs = [g]) (hlt : u.segRepeat n + 1 < g.sent)
    (ht : u.modPort n (fun p => { p with dueSegs := p.dueSegs.filter (fun g => g.sent ≤ u.segRepeat n + 1) }) = t) :
    u.segNak n = (((((t.count (Reg.TRV_SEG_NAK n)).trvIrq n 4).subscribers n g.stream).filter (fun k =>
      !((t.count (Reg.TRV_SEG_NAK n)).trvIrq n 4).acked n k g.stream g.seg.seq)).foldl (fun s k =>
      (s.setRegB (Reg.STN_STS n k) 6 true).countF (Reg.STN_SEG_NAK n k) 15 0 1) ((t.count (Reg.TRV_SEG_NAK n)).trvIrq n 4)) := by
  unfold State.segNak
  dsimp only
  have hspent : [g].filter (fun g => decide (u.segRepeat n + 1 < g.sent)) = [g] := List.filter_cons_of_pos (decide_eq_true hlt)
  rw [ht, hd, hspent]
  rfl

theorem evtNak_none (hd : (u.port n).dueEvts = []) : u.evtNak n = u := by
  unfold State.evtNak
  dsimp only
  rw [hd]
  rfl

section
variable {e : DueEvt} (hd : (u.port n).dueEvts = [e]) (hact : e.evt.act ≤ (u.now : Int)) (hnak : e.nak = false)
include hd hact hnak

/-- The one event of a port that has passed its act time is told as not acknowledged. -/
theorem evtNak_one {l : List DueEvt} (hl : (if e.sent then [] else [{ e with nak := true }]) = l) :
    u.evtNak n = ((u.modPort n (fun p => { p with dueEvts := l })).countF (Reg.TRV_EVT_NAK n) 31 0 1).trvIrq n 5 := by
  have hmiss : (decide (e.evt.act ≤ (u.now : Int)) && !e.nak) = true := by simp [hact, hnak]
  unfold State.evtNak
  dsimp only
  simp only [hd, List.filter_cons, List.filter_nil, hmiss, if_true, List.length_cons, List.length_nil, Nat.zero_add, Nat.one_ne_zero, if_false]
  refine congrArg (fun p : State => (p.countF (Reg.TRV_EVT_NAK n) 31 0 1).trvIrq n 5) (modPort_congr ?_)
  rw [hd, ← hl]
  cases hs : e.sent <;> simp [hact, hnak, hs]

end
end

/-- Settles O37: each frame that a port takes does what the lemma of its reception says, after the clocks that pass until then. -/
theorem framesAreTaken : Obligations.FramesAreTaken := by
  refine ⟨?_, ?_, ?_, ?_, ?_, ?_, ?_, ?_, ?_, ?_, ?_, ?_, ?_, ?_, ?_, ?_, ?_, ?_, ?_, ?_, ?_, ?_⟩
  · exact fun dt n h b v s u hu ht hv hlen hs hb hw => (exec_imageFrame ..).trans (next_of_afterEv hu (stnImageRx_fits ht hv hlen hs hb hw))
  · exact fun dt n h b v s u hu ht hv hlen hs hb => (exec_imageFrame ..).trans (next_of_afterEv hu (stnImageRx_bad ht hv hlen hs hb))
  · exact fun dt n h b v s u hu ht hv hlen hs => (exec_imageFrame ..).trans (next_of_afterEv hu (stnImageRx_stranger ht hv hlen hs))
  · exact fun dt n t0 h bs v w s u hu ht hv hlen hall hup hw =>
      (exec_imageFrame ..).trans (next_of_afterEv hu (pairImageRx_taken ht hv hlen hall hup hw))
  · exact fun s n k st e h4 hst he => heardStn_quiet s n k st e h4 hst he
  · exact fun s t n src hl => leaveHolding_cases hl
  · exact fun dt n k st h ss es v x y s u hu ht hv hlen hs hx hy =>
      (exec_traverseAck ..).trans (next_of_afterEv hu (ackRx_station ht hv hlen hs hx hy))
  · exact fun dt n k st h ss es v s u hu ht hv hlen hs => (exec_traverseAck ..).trans (next_of_afterEv hu (ackRx_stranger ht hv hlen hs))
  · intro dt n k st x q f h s u v hu ht hv hs hn
    refine ⟨u.ackRx n h k st [⟨x, f, q⟩] [], (exec_traverseAck ..).trans (next_of_afterEv hu rfl), ?_⟩
    obtain ⟨hheard, hheld, h158, h20, h5, h4⟩ := ackRx_one ht hv hs hn rfl
    exact ⟨hheard, hheld, h158, h20, h5, h4, sameMemory_of_keep (State.ackRx_keep ..)⟩
  · exact fun dt n ro x h v s u hu ht hv hsrc hslot => (exec_heartbeat ..).trans (next_of_afterEv hu (beatRx_partner ht hv hsrc hslot))
  · exact fun dt n h es v w s u hu ht hv h1 h8 hup hw => (exec_datumFrame ..).trans (next_of_afterEv hu (datumRx_adopted ht hv h1 h8 hup hw))
  · exact fun dt n h es v s u hu ht hv h1 h8 hup hlt => (exec_datumFrame ..).trans (next_of_afterEv hu (datumRx_old ht hv h1 h8 hup hlt))
  · exact fun dt n x ds h gs v w z s u hu ht hv hlen hup hw hr hz hds =>
      (exec_segmentFrame ..).trans (next_of_afterEv (f := fun s => s.segmentRx ..) hu (segmentRx_appends hlen hup hw hr ht hv hz hds))
  · exact fun dt n x d k h gs v w z y s u hu ht hv hlen hup hw hr hz hds hy hlt =>
      (exec_segmentFrame ..).trans (next_of_afterEv (f := fun s => s.segmentRx ..) hu (segmentRx_truncates hlen hup hw hr ht hv hz hds hy hlt))
  · exact fun dt n k tg h v w s u hu ht hv hup hw hsrc hdst hstn hst =>
      (exec_stateCmd ..).trans (next_of_afterEv hu (stateCmdRx_set ht hv hup hw hsrc hdst hstn hst))
  · exact fun dt n k tg h v w s u hu ht hv hup hw h2 h3 =>
      (exec_stateCmd ..).trans (next_of_afterEv hu (stateCmdRx_other ht hv hup hw h2 h3))
  · exact fun dt n ws h v w s u hu ht hv hlen hup hw hsrc hdst hstn =>
      (exec_config ..).trans (next_of_afterEv hu (configRx_set ht hv hlen hup hw hsrc hdst hstn))
  · exact fun dt n k s u hu hp h1 h255 h0 hm h4 =>
      (exec_stationLost ..).trans (next_of_afterEv hu (stationLost_eq hp h1 h255 h0 hm h4))
  · exact fun dt n g t s u hu hd hlt ht => (exec_segNak ..).trans (next_of_after hu (segNak_spent hd hlt ht))
  · exact fun dt n e s u hu hd hact hnak hs =>
      (exec_evtNak ..).trans (next_of_after hu (evtNak_one hd hact hnak (if_pos hs)))
  · exact fun dt n e s u hu hd hact hnak hs =>
      (exec_evtNak ..).trans (next_of_after hu (evtNak_one hd hact hnak (if_neg (by simp [hs]))))
  · exact fun dt n s u hu hd => (exec_evtNak ..).trans (next_of_after hu (evtNak_none hd))

end Sys2Proof.Proofs
end

section
/-!
PROOFS. The Plumb engine: one instruction in its clocks, bit and flow instructions, and the instructions on words (08 R177 to R182, R188, R189).
-/
namespace Sys2Proof.Proofs
open Sys2Proof Sys2Proof.Machine

/-! ### One instruction -/

section
variable {s u : State} {e op clocks sp a : Nat} {r : Release} {spaces : List Nat} {body : State → Release → Except PlEnd PlStep} {t : PlStep}

theorem atOp_run (h : s.atOp e op clocks sp a r u) : r.phase = .run ∧ r.pc + 1 < bindLen r.binding := by
  obtain ⟨x, -, hrun, -, hpc, -, -, -, rfl, -⟩ := h
  exact ⟨hrun, hpc⟩

/-- A fetch that is answered without error. -/
theorem fetch_clean {x : Release} (hd : s.domainOn 8 = true) (he : s.eccAt x.codeAt = 0) : s.fetch x = (s, false) := by
  unfold State.fetch
  simp only [hd, he, Bool.not_true, Bool.false_eq_true, if_false]

/-- The clocks of an instruction pass, and it does what it says in the last. -/
theorem inClock_performs {x : Release} {f : State → Release → State} (hdom : s.domainOn 8 = true) (hecc : s.eccAt x.codeAt = 0)
    (htime : s.outOfTime x (x.due clocks) (decide (op = 0x2F)) = none) (hr : { x with clocks := x.clocks + clocks } = r)
    (hu : ((s.until_ (x.due clocks)).meet (plEvs op e a x)).setRel e r = u) : s.inClock op clocks e a x f = f u r := by
  subst hr hu
  unfold State.inClock
  simp only [htime, fetch_clean hdom hecc, Bool.false_eq_true, if_false]

/-- An engine that stands at an instruction is in its clocks. -/
theorem plumb_stands {x : Release} (hrel : (s.eng e).rel = some x) (hrun : x.phase = .run) (hword : s.codeWord x = plWord op sp a) :
    plumb op clocks spaces body e sp a s = .next (s.inClock op clocks e a x (fun s r => s.perform1 op spaces body e sp r)) := by
  unfold plumb
  simp only [hrel, hrun, hword, ne_eq, not_true_eq_false, decide_false, Bool.or_self, Bool.false_eq_true, if_false]

/-- An engine that stands at an instruction performs it in its last clock. -/
theorem plumb_atOp (h : s.atOp e op clocks sp a r u) : plumb op clocks spaces body e sp a s = .next (u.perform1 op spaces body e sp r) := by
  obtain ⟨x, hrel, hrun, hword, -, hdom, hecc, htime, hr, hu⟩ := h
  exact (plumb_stands hrel hrun hword).trans (congrArg Host.Outcome.next (inClock_performs hdom hecc htime hr hu))

/-- An instruction that goes on at the next index. -/
theorem plumb_goesOn (h : s.atOp e op clocks sp a r u) (hsp : spaces.contains sp = true) (hb : body u r = .ok t) (ht : t.target = none)
    (hr : t.rel.phase = .run) (hop : op ≠ 0x2F) : plumb op clocks spaces body e sp a s = .next (t.st.setRel e { t.rel with pc := r.pc + 1 }) := by
  obtain ⟨-, hpc⟩ := atOp_run h
  refine (plumb_atOp h).trans (congrArg Host.Outcome.next ?_)
  unfold State.perform1
  simp only [hsp, hb, ht, hr, hop, Option.getD_none, Nat.not_le.mpr hpc, Bool.not_true, Bool.false_eq_true, if_false, ne_eq, not_true_eq_false,
    decide_false, Bool.and_false, Bool.or_self]

/-- An instruction that jumps. -/
theorem plumb_jumps {n : Nat} (h : s.atOp e op clocks sp a r u) (hsp : spaces.contains sp = true) (hb : body u r = .ok t)
    (ht : t.target = some n) (hn : n < bindLen r.binding) (hr : t.rel.phase = .run) (hop : op ≠ 0x2F) :
    plumb op clocks spaces body e sp a s = .next (t.st.setRel e { t.rel with pc := n }) := by
  refine (plumb_atOp h).trans (congrArg Host.Outcome.next ?_)
  unfold State.perform1
  simp only [hsp, hb, ht, hr, hop, Option.getD_some, Nat.not_le.mpr hn, Bool.not_true, Bool.false_eq_true, if_false, ne_eq, not_true_eq_false,
    decide_false, Bool.and_false, Bool.or_self]

/-- An instruction after which the engine waits where it stands. -/
theorem plumb_waits (h : s.atOp e op clocks sp a r u) (hsp : spaces.contains sp = true) (hb : body u r = .ok t) (ht : t.target = none)
    (hr : t.rel.phase ≠ .run) : plumb op clocks spaces body e sp a s = .next (t.st.setRel e { t.rel with pc := r.pc }) := by
  obtain ⟨-, hpc⟩ := atOp_run h
  refine (plumb_atOp h).trans (congrArg Host.Outcome.next ?_)
  unfold State.perform1
  simp only [hsp, hb, ht, hr, Option.getD_none, Nat.not_le.mpr hpc, Bool.not_true, Bool.false_eq_true, if_false, ne_eq, not_false_eq_true,
    decide_true, decide_false, Bool.and_false, Bool.or_true, if_true]

/-- An instruction that is a fault where its next index lies within the code. -/
theorem plumb_faults {c : Nat} (h : s.atOp e op clocks sp a r u) (hsp : spaces.contains sp = true) (hb : body u r = .error (.fault c)) :
    plumb op clocks spaces body e sp a s = .next (u.endRelease e 2 c r.pc) := by
  obtain ⟨-, hpc⟩ := atOp_run h
  refine (plumb_atOp h).trans (congrArg Host.Outcome.next ?_)
  unfold State.perform1
  simp only [hsp, hb, Nat.not_le.mpr hpc, Bool.not_true, Bool.false_eq_true, if_false, decide_false, Bool.and_false]
  rfl

/-! ### The forms of instructions -/

theorem plReg_goesOn {g : Release → Release} (h : s.atOp e op clocks sp a r u) (hsp : sp = 0) (hg : (g r).phase = r.phase) (hop : op ≠ 0x2F) :
    plumb op clocks spNone (plReg g) e sp a s = .next (u.setRel e { g r with pc := r.pc + 1 }) :=
  plumb_goesOn (t := ⟨u, g r, none⟩) h (by rw [hsp]; rfl) rfl rfl (hg.trans (atOp_run h).1) hop

theorem plBit_goesOn {g : Release → Bool → Release} {b : Bool} (h : s.atOp e op clocks sp a r u) (hsp : spBit.contains sp = true)
    (hb : u.readBit r sp a = .ok b) (hg : (g r b).phase = r.phase) (hop : op ≠ 0x2F) :
    plumb op clocks spBit (plBit sp a g) e sp a s = .next (u.setRel e { g r b with pc := r.pc + 1 }) := by
  refine plumb_goesOn (t := ⟨u, g r b, none⟩) h hsp ?_ rfl (hg.trans (atOp_run h).1) hop
  unfold plBit
  rw [hb]; rfl

theorem plOnWord_goesOn {g : Release → Word → Release} {w : Word} (h : s.atOp e op clocks sp a r u) (hsp : spWord.contains sp = true)
    (hw : u.readWord e r sp a = .ok w) (hg : (g r w).phase = r.phase) (hop : op ≠ 0x2F) :
    plumb op clocks spWord (plOnWord e sp a g) e sp a s = .next (u.setRel e { g r w with pc := r.pc + 1 }) := by
  refine plumb_goesOn (t := ⟨u, g r w, none⟩) h hsp ?_ rfl (hg.trans (atOp_run h).1) hop
  unfold plOnWord
  rw [hw]; rfl

theorem plOnDouble_goesOn {g : Release → DWord → Release} {w : DWord} (h : s.atOp e op clocks sp a r u) (hsp : spWord.contains sp = true)
    (hw : u.readDouble e r sp a = .ok w) (hg : (g r w).phase = r.phase) (hop : op ≠ 0x2F) :
    plumb op clocks spWord (plOnDouble e sp a g) e sp a s = .next (u.setRel e { g r w with pc := r.pc + 1 }) := by
  refine plumb_goesOn (t := ⟨u, g r w, none⟩) h hsp ?_ rfl (hg.trans (atOp_run h).1) hop
  unfold plOnDouble
  rw [hw]; rfl

theorem plCount_goesOn {g : Release → Release} (h : s.atOp e op clocks sp a r u) (hsp : sp = 0) (ha : a ≤ 63) (hg : (g r).phase = r.phase)
    (hop : op ≠ 0x2F) : plumb op clocks spNone (plCount a g) e sp a s = .next (u.setRel e { g r with pc := r.pc + 1 }) :=
  plumb_goesOn (t := ⟨u, g r, none⟩) h (by rw [hsp]; rfl) (if_neg (Nat.not_lt.mpr ha)) rfl (hg.trans (atOp_run h).1) hop

theorem plCount_faults {g : Release → Release} (h : s.atOp e op clocks sp a r u) (hsp : sp = 0) (ha : 63 < a) :
    plumb op clocks spNone (plCount a g) e sp a s = .next (u.endRelease e 2 3 r.pc) :=
  plumb_faults h (by rw [hsp]; rfl) (if_pos ha)

theorem plStore_ok {f : State → Release → Except PlEnd Release} {r' : Release} (hf : f u r = .ok r') : plStore f u r = .ok ⟨u, r', none⟩ := by
  unfold plStore
  rw [hf]; rfl

section
variable {cond v : Release → Bool} (h : s.atOp e op clocks sp a r u) (hsp : spBitStore.contains sp = true) (ha : a < spaceBits sp) (hop : op ≠ 0x2F)
include h hsp ha hop

theorem plBitStore_goesOn {r' : Release} (hc : cond r = true) (hw : u.writeBit e r sp a (v r) = .ok r') (hr : r'.phase = .run) :
    plumb op clocks spBitStore (plBitStore e sp a cond v) e sp a s = .next (u.setRel e { r' with pc := r.pc + 1 }) := by
  refine plumb_goesOn (t := ⟨u, r', none⟩) h hsp ?_ rfl hr hop
  unfold plBitStore
  rw [if_neg (Nat.not_le.mpr ha), if_pos hc]
  exact plStore_ok hw

theorem plBitStore_skips (hc : cond r = false) :
    plumb op clocks spBitStore (plBitStore e sp a cond v) e sp a s = .next (u.setRel e { r with pc := r.pc + 1 }) := by
  refine plumb_goesOn (t := ⟨u, r, none⟩) h hsp ?_ rfl (atOp_run h).1 hop
  unfold plBitStore
  rw [if_neg (Nat.not_le.mpr ha), if_neg (by simp [hc])]

end

theorem plEdge_goesOn {f : Bool → Bool → Bool} {o : Bool} {r' : Release} (h : s.atOp e op clocks sp a r u) (hsp : sp = 6)
    (ho : u.readBit r 6 a = .ok o) (hw : u.writeBit e r 6 a r.acc = .ok r') (hr : r'.phase = .run) (hop : op ≠ 0x2F) :
    plumb op clocks spEdge (plEdge e a f) e sp a s = .next (u.setRel e { r' with acc := f r.acc o, pc := r.pc + 1 }) := by
  refine plumb_goesOn (t := ⟨u, { r' with acc := f r.acc o }, none⟩) h (by rw [hsp]; rfl) ?_ rfl hr hop
  unfold plEdge
  simp only [ho, hw, bind, Except.bind, pure, Except.pure]

section
variable {cond : Release → Bool} (h : s.atOp e op clocks sp a r u) (hsp : spWordStore.contains sp = true) (hop : op ≠ 0x2F)
include h hsp hop

theorem plWordStore_word {r' : Release} (ha : a + 1 ≤ spaceWords sp) (hc : cond r = true) (hw : u.writeWord e r sp a (r.wa.setWidth 32) = .ok r')
    (hr : r'.phase = .run) : plumb op clocks spWordStore (plWordStore e sp a 1 cond) e sp a s =
      .next (u.setRel e { r' with ov := r.ov || ovStore r.wa, pc := r.pc + 1 }) := by
  refine plumb_goesOn (t := ⟨u, { r' with ov := r.ov || ovStore r.wa }, none⟩) h hsp ?_ rfl hr hop
  unfold plWordStore State.storeWord
  rw [if_neg (Nat.not_lt.mpr ha), if_pos hc, if_pos rfl, hw]; rfl

theorem plWordStore_double {r1 r' : Release} (ha : a + 2 ≤ spaceWords sp) (hc : cond r = true)
    (h1 : u.writeWord e r sp a (r.wa.setWidth 32) = .ok r1) (h2 : u.writeWord e r1 sp (a + 1) ((r.wa >>> 32).setWidth 32) = .ok r')
    (hr : r'.phase = .run) : plumb op clocks spWordStore (plWordStore e sp a 2 cond) e sp a s = .next (u.setRel e { r' with pc := r.pc + 1 }) := by
  have hstore : u.storeDouble e r sp a = .ok r' := by
    unfold State.storeDouble
    rw [if_neg (by omega), h1]
    exact h2
  refine plumb_goesOn (t := ⟨u, r', none⟩) h hsp ?_ rfl hr hop
  unfold plWordStore
  rw [if_neg (Nat.not_lt.mpr ha), if_pos hc, if_neg (by decide)]
  exact plStore_ok hstore

theorem plWordStore_skips {n : Nat} (ha : a + n ≤ spaceWords sp) (hc : cond r = false) :
    plumb op clocks spWordStore (plWordStore e sp a n cond) e sp a s = .next (u.setRel e { r with pc := r.pc + 1 }) := by
  refine plumb_goesOn (t := ⟨u, r, none⟩) h hsp ?_ rfl (atOp_run h).1 hop
  unfold plWordStore
  rw [if_neg (Nat.not_lt.mpr ha), if_neg (by simp [hc])]

end

end

/-! ### Bit instructions -/

/-- Settles O38: each bit instruction is one of the forms above, with the function of its row in the table. -/
theorem plumbBitInstructions : Obligations.PlumbBitInstructions := by
  refine ⟨?_, ?_, ?_, ?_, ?_⟩
  · intro x hx e sp a b s u r h hsp hb
    simp only [List.mem_cons, List.not_mem_nil, or_false] at hx
    rcases hx with rfl | rfl | rfl | rfl | rfl | rfl | rfl | rfl
    all_goals exact plBit_goesOn h hsp hb rfl (by decide)
  · intro x hx e sp a s u r h hsp
    simp only [List.mem_cons, List.not_mem_nil, or_false] at hx
    rcases hx with rfl | rfl | rfl | rfl
    all_goals exact plReg_goesOn h hsp rfl (by decide)
  · intro x hx e sp a r' s u r h hsp ha hc hw hr
    simp only [List.mem_cons, List.not_mem_nil, or_false] at hx
    rcases hx with rfl | rfl | rfl | rfl
    all_goals exact plBitStore_goesOn h hsp ha (by decide) hc hw hr
  · intro x hx e sp a s u r h hsp ha hc
    simp only [List.mem_cons, List.not_mem_nil, or_false] at hx
    rcases hx with rfl | rfl
    all_goals exact plBitStore_skips h hsp ha (by decide) hc
  · intro x hx e sp a o r' s u r h hsp ho hw hr
    simp only [List.mem_cons, List.not_mem_nil, or_false] at hx
    rcases hx with rfl | rfl
    all_goals exact plEdge_goesOn h hsp ho hw hr (by decide)

/-! ### Stack, jumps and returns -/

section
variable {s u : State} {e op clocks sp a : Nat} {r : Release}

theorem plPush_goesOn {j : JoinOp} (h : s.atOp e op clocks sp a r u) (hsp : sp = 0) (hlen : r.stack.length < 32) (hop : op ≠ 0x2F) :
    plumb op clocks spNone (plPush j) e sp a s = .next (u.setRel e { r with stack := .logic j r.acc :: r.stack, pc := r.pc + 1 }) := by
  refine plumb_goesOn (t := ⟨u, { r with stack := .logic j r.acc :: r.stack }, none⟩) h (by rw [hsp]; rfl) ?_ rfl (atOp_run h).1 hop
  unfold plPush Release.push
  rw [if_neg (Nat.not_le.mpr hlen)]; rfl

theorem plPush_faults {j : JoinOp} (h : s.atOp e op clocks sp a r u) (hsp : sp = 0) (hlen : 32 ≤ r.stack.length) :
    plumb op clocks spNone (plPush j) e sp a s = .next (u.endRelease e 2 4 r.pc) := by
  refine plumb_faults h (by rw [hsp]; rfl) ?_
  unfold plPush Release.push
  rw [if_pos hlen]; rfl

theorem topLogic_of {j : JoinOp} {v : Bool} {q : List StackEntry} (hs : r.stack = .logic j v :: q) : r.topLogic = .ok (j, v, q) := by
  unfold Release.topLogic
  rw [hs]

theorem plReturn_of {n : Nat} {q : List StackEntry} (hs : r.stack = .ret n :: q) : plReturn u r = .ok ⟨u, { r with stack := q }, some n⟩ := by
  have htop : r.topReturn = .ok (n, q) := by
    unfold Release.topReturn
    rw [hs]
  unfold plReturn
  rw [htop]; rfl

theorem plJump_taken {cond : Release → Bool} (h : s.atOp e op clocks 0 a r u) (hn : a < bindLen r.binding) (hc : cond r = true) (hop : op ≠ 0x2F) :
    plumb op clocks spNone (plJump cond a) e 0 a s = .next (u.setRel e { r with pc := a }) :=
  plumb_jumps (t := ⟨u, r, some a⟩) h rfl (by unfold plJump; rw [if_pos hc]) rfl hn (atOp_run h).1 hop

theorem plJump_notTaken {cond : Release → Bool} (h : s.atOp e op clocks 0 a r u) (hc : cond r = false) (hop : op ≠ 0x2F) :
    plumb op clocks spNone (plJump cond a) e 0 a s = .next (u.setRel e { r with pc := r.pc + 1 }) :=
  plumb_goesOn (t := ⟨u, r, none⟩) h rfl (by unfold plJump; rw [if_neg (by simp [hc])]) rfl (atOp_run h).1 hop

end

/-- An instruction of no stake and no END is work of its engine only. -/
theorem plEvs_plain {op e a : Nat} {x : Release} (h2f : op ≠ 0x2F) (h80 : op ≠ 0x80) (h81 : op ≠ 0x81) (h82 : op ≠ 0x82) :
    plEvs op e a x = [⟨.plWork, e, 0⟩] := by
  unfold plEvs
  simp only [h2f, h80, h81, h82, decide_false, Bool.or_self, Bool.false_eq_true, if_false, ite_self]

/-- Settles O39: what each body gives on the stack it finds, and the three ends of a fetch. -/
theorem plumbFlowInstructions : Obligations.PlumbFlowInstructions := by
  refine ⟨?_, ?_, ?_, ?_, ?_, ?_, ?_, ?_, ?_, ?_, ?_, ?_, ?_, ?_, ?_, ?_, ?_, ?_, ?_⟩
  · intro x hx e sp a s u r h hsp hlen
    simp only [List.mem_cons, List.not_mem_nil, or_false] at hx
    rcases hx with rfl | rfl | rfl | rfl
    all_goals exact plPush_goesOn h hsp hlen (by decide)
  · intro x hx e sp a s u r h hsp hlen
    simp only [List.mem_cons, List.not_mem_nil, or_false] at hx
    rcases hx with rfl | rfl | rfl | rfl
    all_goals exact plPush_faults h hsp hlen
  · intro e a j v q s u r h hs
    refine (exec_plPop ..).trans (plumb_goesOn (t := ⟨u, { r with acc := join j v r.acc, stack := q }, none⟩) h rfl ?_ rfl (atOp_run h).1 (by decide))
    simp only [topLogic_of hs, bind, Except.bind, pure, Except.pure]
  · intro e a j v q s u r h hs
    refine (exec_plPeek ..).trans (plumb_goesOn (t := ⟨u, { r with acc := v }, none⟩) h rfl ?_ rfl (atOp_run h).1 (by decide))
    simp only [topLogic_of hs, bind, Except.bind, pure, Except.pure]
  · exact fun c v => ⟨rfl, rfl, rfl, rfl⟩
  · exact fun e a s u r h ha => (exec_plJmp ..).trans (plJump_taken h ha rfl (by decide))
  · exact fun e a s u r h ha hc => (exec_plJc ..).trans (plJump_taken h ha hc (by decide))
  · exact fun e a s u r h ha hc => (exec_plJcn ..).trans (plJump_taken h ha (by simp [hc]) (by decide))
  · exact fun e a s u r h hc => (exec_plJc ..).trans (plJump_notTaken h hc (by decide))
  · exact fun e a s u r h hc => (exec_plJcn ..).trans (plJump_notTaken h (by simp [hc]) (by decide))
  · intro e a s u r h ha hlen
    refine (exec_plCall ..).trans (plumb_jumps (t := ⟨u, { r with stack := .ret (r.pc + 1) :: r.stack }, some a⟩) h rfl ?_ rfl ha (atOp_run h).1 (by decide))
    unfold Release.push
    rw [if_neg (Nat.not_le.mpr hlen)]; rfl
  · exact fun e a n q s u r h hs hn => (exec_plRet ..).trans (plumb_jumps h rfl (plReturn_of hs) rfl hn (atOp_run h).1 (by decide))
  · exact fun e a n q s u r h hs hn hc =>
      (exec_plRetc ..).trans (plumb_jumps (t := ⟨u, { r with stack := q }, some n⟩) h rfl ((if_pos hc).trans (plReturn_of hs)) rfl hn (atOp_run h).1 (by decide))
  · exact fun e a s u r h hc =>
      (exec_plRetc ..).trans (plumb_goesOn (t := ⟨u, r, none⟩) h rfl (if_neg (by simp [hc])) rfl (atOp_run h).1 (by decide))
  · intro e a s u x r hrel hrun hword hdom hecc htime hr hu hs
    refine (exec_plEnd ..).trans ((plumb_stands hrel hrun hword).trans (congrArg Host.Outcome.next ((inClock_performs (op := 0x2F) (a := a) hdom hecc htime hr hu).trans ?_)))
    unfold State.perform1
    simp only [hs, if_true]
    rfl
  · exact fun e a s u r h hs => (exec_plEnd ..).trans (plumb_faults h rfl (if_neg hs))
  · intro e s u x r hrel hrun hdef hdom hecc htime hr hu
    refine (exec_undefinedOpcode ..).trans (congrArg Host.Outcome.next ?_)
    simp only [hrel, hrun, hdef, ne_eq, not_true_eq_false, decide_false, Bool.or_self, Bool.false_eq_true, if_false]
    refine (inClock_performs hdom hecc htime hr ?_).trans rfl
    rw [plEvs_plain (by decide) (by decide) (by decide) (by decide)]
    exact hu
  · intro e a s x hrel hrun hword hdom htime
    have hfetch : s.fetch x = (s, true) := if_pos (by simp [hdom])
    refine (exec_plNop ..).trans ((plumb_stands hrel hrun hword).trans (congrArg Host.Outcome.next ?_))
    unfold State.inClock
    simp only [show decide ((0x0 : Nat) = 0x2F) = false from rfl, htime, hfetch, if_true]
    rfl
  · intro e a k s x hrel hrun hword htime
    refine (exec_plNop ..).trans ((plumb_stands hrel hrun hword).trans (congrArg Host.Outcome.next ?_))
    unfold State.inClock
    simp only [show decide ((0x0 : Nat) = 0x2F) = false from rfl, htime]

/-! ### Words -/

/-- Settles O40: each word instruction is one of the forms above, with the function of its row in the table. -/
theorem plumbWordInstructions : Obligations.PlumbWordInstructions := by
  refine ⟨?_, ?_, ?_, ?_, ?_, ?_, ?_, ?_, ?_, ?_, ?_⟩
  · intro x hx e sp a w s u r h hsp hw
    simp only [List.mem_cons, List.not_mem_nil, or_false] at hx
    rcases hx with rfl | rfl | rfl | rfl | rfl | rfl | rfl | rfl | rfl | rfl | rfl | rfl | rfl | rfl | rfl | rfl
    all_goals exact plOnWord_goesOn h hsp hw rfl (by decide)
  · intro x hx e sp a w s u r h hsp hw
    simp only [List.mem_cons, List.not_mem_nil, or_false] at hx
    rcases hx with rfl | rfl | rfl | rfl | rfl | rfl | rfl | rfl
    all_goals exact plOnDouble_goesOn h hsp hw rfl (by decide)
  · intro x hx e sp a s u r h hsp
    simp only [List.mem_cons, List.not_mem_nil, or_false] at hx
    rcases hx with rfl | rfl | rfl | rfl | rfl
    all_goals exact plReg_goesOn h hsp rfl (by decide)
  · intro x hx e sp a s u r h hsp ha
    simp only [List.mem_cons, List.not_mem_nil, or_false] at hx
    rcases hx with rfl | rfl | rfl | rfl
    all_goals exact plCount_goesOn h hsp ha rfl (by decide)
  · intro x hx e sp a s u r h hsp ha
    simp only [List.mem_cons, List.not_mem_nil, or_false] at hx
    rcases hx with rfl | rfl | rfl | rfl
    all_goals exact plCount_faults h hsp ha
  · exact fun e sp a r' s u r h hsp ha hw hr => (exec_plSw ..).trans (plWordStore_word h hsp (by decide) ha rfl hw hr)
  · exact fun e sp a r' s u r h hsp ha hw hr hc => (exec_plSwc ..).trans (plWordStore_word h hsp (by decide) ha hc hw hr)
  · exact fun e sp a r1 r' s u r h hsp ha h1 h2 hr => (exec_plSwd ..).trans (plWordStore_double h hsp (by decide) ha rfl h1 h2 hr)
  · exact fun e sp a r1 r' s u r h hsp ha h1 h2 hr hc => (exec_plSwdc ..).trans (plWordStore_double h hsp (by decide) ha hc h1 h2 hr)
  · exact fun e sp a s u r h hsp ha hc => (exec_plSwdc ..).trans (plWordStore_skips h hsp (by decide) ha hc)
  · exact fun e sp a s u r h hsp ha hc => (exec_plSwc ..).trans (plWordStore_skips h hsp (by decide) ha hc)

end Sys2Proof.Proofs
end

section
/-!
PROOFS. The Plumb engine on units: timers, counters, datum windows, stakes and block calls (08 R183 to R187).
-/
namespace Sys2Proof.Proofs
open Sys2Proof Sys2Proof.Machine

/-! ### Timers and counters -/

section
variable {s u : State} {e op clocks sp a : Nat} {r : Release}

theorem plTimer_goesOn {type d : Nat} {f : Timer → Bool → Nat → Timer} {et pt st rf : Word} {y z : Timer} {r1 r2 r' : Release}
    (h : s.atOp e op clocks sp a r u) (hsp : sp = 4) (ha : a < 2048) (het : u.readWord e r 4 (4 * a) = .ok et)
    (hpt : u.readWord e r 4 (4 * a + 1) = .ok pt) (hst : u.readWord e r 4 (4 * a + 2) = .ok st) (hrf : u.readWord e r 4 (4 * a + 3) = .ok rf)
    (hz : (timerOf et pt st rf).scan type (r.startT / (1000 * 2 ^ 32) % 2 ^ 32) = (z, d)) (hy : f z r.acc d = y)
    (h1 : u.writeWord e r 4 (4 * a) (w32 y.et) = .ok r1) (h2 : u.writeWord e r1 4 (4 * a + 2) y.state = .ok r2)
    (h3 : u.writeWord e r2 4 (4 * a + 3) (w32 y.ref) = .ok r') (hr : r'.phase = .run) (hop : op ≠ 0x2F) :
    plumb op clocks spTimer (plTimer e a type f) e sp a s = .next (u.setRel e { r' with acc := y.q, pc := r.pc + 1 }) := by
  have hscan : (timerOf et pt st rf).scan type r.stamp = (z, d) := hz
  subst hy
  refine plumb_goesOn (t := ⟨u, { r' with acc := (f z r.acc d).q }, none⟩) h (by rw [hsp]; rfl) ?_ rfl hr hop
  unfold plTimer
  simp only [Nat.not_le.mpr ha, if_false, het, hpt, hst, hrf, hscan, h1, h2, h3, bind, Except.bind, pure, Except.pure]

theorem plCounter_goesOn {f : Word → Word → Word → Bool → Word × Word} {cv pv st cv' st' : Word} {r1 r' : Release}
    (h : s.atOp e op clocks sp a r u) (hsp : sp = 5) (ha : a < 2048) (hcv : u.readWord e r 5 (4 * a) = .ok cv)
    (hpv : u.readWord e r 5 (4 * a + 1) = .ok pv) (hst : u.readWord e r 5 (4 * a + 2) = .ok st) (hf : f cv pv st r.acc = (cv', st'))
    (h1 : u.writeWord e r 5 (4 * a) cv' = .ok r1) (h2 : u.writeWord e r1 5 (4 * a + 2) st' = .ok r') (hr : r'.phase = .run) (hop : op ≠ 0x2F) :
    plumb op clocks spCounter (plCounter e a f) e sp a s = .next (u.setRel e { r' with acc := st'.bit 2, pc := r.pc + 1 }) := by
  refine plumb_goesOn (t := ⟨u, { r' with acc := st'.bit 2 }, none⟩) h (by rw [hsp]; rfl) ?_ rfl hr hop
  unfold plCounter
  simp only [Nat.not_le.mpr ha, if_false, hcv, hpv, hst, hf, h1, h2, bind, Except.bind, pure, Except.pure]

end

/-- TON restarts without its input and runs up to PT with it. -/
theorem ton_cases (t : Timer) (d : Nat) : t.ton false d = { t with et := 0, running := false, q := false, prevIn := false } ∧
    (t.running = false → t.ton true d = { t with et := 0, running := true, q := decide (t.pt = 0), prevIn := true }) ∧
    (t.running = true → t.ton true d = { t with et := min (t.et + d) t.pt, q := decide (t.pt ≤ t.et + d), prevIn := true }) := by
  refine ⟨rfl, fun hr => ?_, fun hr => ?_⟩
  · simp [Timer.ton, hr]
  · have hq : (t.pt ≤ min (t.et + d) t.pt) ↔ t.pt ≤ t.et + d := by omega
    simp [Timer.ton, hr, hq]

theorem tof_cases (t : Timer) (d : Nat) : t.tof true d = { t with et := 0, running := false, q := true, prevIn := true } ∧
    (t.q = false → t.tof false d = { t with prevIn := false }) ∧
    (t.q = true → t.running = false → 0 < t.pt → t.tof false d = { t with et := 0, running := true, prevIn := false }) ∧
    (t.q = true → t.running = true → t.et + d < t.pt → t.tof false d = { t with et := t.et + d, prevIn := false }) ∧
    (t.q = true → t.running = true → t.pt ≤ t.et + d → t.tof false d = { t with et := t.pt, running := false, q := false, prevIn := false }) := by
  refine ⟨rfl, fun hq => ?_, fun hq hr hp => ?_, fun hq hr hlt => ?_, fun hq hr hle => ?_⟩
  · simp [Timer.tof, hq]
  · simp [Timer.tof, hq, hr, Nat.not_le.mpr hp]
  · simp [Timer.tof, hq, hr, Nat.min_eq_left (Nat.le_of_lt hlt), Nat.not_le.mpr hlt]
  · simp [Timer.tof, hq, hr, Nat.min_eq_right hle]

theorem tp_cases (t : Timer) (d : Nat) : (t.running = false → t.prevIn = false → 0 < t.pt →
      t.tp true d = { t with et := 0, running := true, q := true, prevIn := true }) ∧
    (∀ i, t.running = true → t.et + d < t.pt → t.tp i d = { t with et := t.et + d, prevIn := i }) ∧
    (∀ i, t.running = true → t.pt ≤ t.et + d → t.tp i d = { t with et := t.pt, running := false, q := false, prevIn := i }) ∧
    (t.running = false → t.tp false d = { t with prevIn := false }) := by
  refine ⟨fun hr hp h0 => ?_, fun i hr hlt => ?_, fun i hr hle => ?_, fun hr => ?_⟩
  · simp [Timer.tp, hr, hp, Nat.not_le.mpr h0]
  · simp [Timer.tp, hr, Nat.min_eq_left (Nat.le_of_lt hlt), Nat.not_le.mpr hlt]
  · simp [Timer.tp, hr, Nat.min_eq_right hle]
  · simp [Timer.tp, hr]

/-- A count up by one stops at the largest signed word. -/
theorem ofInt_succ_sat (w : Word) : BitVec.ofInt 32 (min (w.toInt + 1) (2 ^ 31 - 1)) = if w ≠ 0x7FFFFFFF then w + 1 else w := by
  by_cases hw : w = 0x7FFFFFFF
  · subst hw; decide
  · have hle : w.toInt + 1 ≤ 2 ^ 31 - 1 := by
      have hlt := w.toInt_lt
      have hne : w.toInt ≠ 2 ^ 31 - 1 := fun he => hw (BitVec.eq_of_toInt_eq he)
      omega
    rw [if_pos hw, Int.min_eq_left hle, BitVec.ofInt_add, BitVec.ofInt_toInt]; rfl

/-- A count down by one stops at the smallest. -/
theorem ofInt_pred_sat (w : Word) : BitVec.ofInt 32 (max (w.toInt - 1) (-(2 ^ 31))) = if w ≠ 0x80000000 then w - 1 else w := by
  by_cases hw : w = 0x80000000
  · subst hw; decide
  · have hle : -(2 ^ 31) ≤ w.toInt - 1 := by
      have hlt := w.le_toInt
      have hne : w.toInt ≠ -(2 ^ 31) := fun he => hw (BitVec.eq_of_toInt_eq he)
      omega
    rw [if_pos hw, Int.max_eq_left hle, Int.sub_eq_add_neg, BitVec.ofInt_add, BitVec.ofInt_toInt, BitVec.sub_eq_add_neg]; rfl

theorem count_cases (cv pv st : Word) (i : Bool) :
    (countUp cv pv st i).1 = (if i = true ∧ st.bit 0 = false ∧ cv ≠ 0x7FFFFFFF then cv + 1 else cv) ∧
    (countUp cv pv st i).2 = ((st.setBit 0 i).setBit 2 (decide (pv.toInt ≤ (countUp cv pv st i).1.toInt))) ∧
    (countDown cv st i).1 = (if i = true ∧ st.bit 1 = false ∧ cv ≠ 0x80000000 then cv - 1 else cv) ∧
    (countDown cv st i).2 = ((st.setBit 1 i).setBit 2 (decide ((countDown cv st i).1.toInt ≤ 0))) := by
  refine ⟨?_, rfl, ?_, rfl⟩
  · unfold countUp
    rw [ofInt_succ_sat]
    cases i <;> cases st.bit 0 <;> simp
  · unfold countDown
    rw [ofInt_pred_sat]
    cases i <;> cases st.bit 1 <;> simp

/-! ### Stakes and block calls -/

section
variable {u : State} {e a : Nat} {r : Release} {would : Stake → Bool} {f : State → State}

/-- A stake instruction that changes an entry the release has not touched yet keeps its live state. -/
theorem plStake_changes (ha : a < 4096) (hc : r.acc = true) (hu : u.unchecked e = false) (hw : would (u.stake a) = true)
    (hp : (u.stake a).prov = none) (hs : r.saved.any (fun p => p.1 = a) = false) (hlen : r.saved.length < 64) :
    plStake e a would f u r = .ok ⟨f u, { r with saved := r.saved ++ [(a, u.stake a)] }, none⟩ := by
  unfold plStake
  simp only [Nat.not_le.mpr ha, hc, hu, hw, hp, hs, Nat.not_le.mpr hlen, Option.isSome_none, Bool.not_true, Bool.false_and, Bool.false_eq_true, if_false]

theorem plStake_skips (ha : a < 4096) (hc : r.acc = false) : plStake e a would f u r = .ok ⟨u, r, none⟩ := by
  unfold plStake
  simp only [Nat.not_le.mpr ha, hc, Bool.not_false, if_false, if_true]

/-- A stake instruction with ACC = 0 does nothing. -/
theorem stake_skips {s : State} {op clocks : Nat} (h : s.atOp e op clocks 0 a r u) (ha : a < 4096) (hc : r.acc = false) (hop : op ≠ 0x2F)
    {body : State → Release → Except PlEnd PlStep} (hb : body u r = plStake e a would f u r) :
    plumb op clocks spNone body e 0 a s = .next (u.setRel e { r with pc := r.pc + 1 }) :=
  plumb_goesOn (t := ⟨u, r, none⟩) h rfl (hb.trans (plStake_skips ha hc)) rfl (atOp_run h).1 hop

/-- One that changes an entry the release has not touched yet keeps the live state of the entry with the release. -/
theorem stake_changes {s t : State} {op clocks : Nat} (h : s.atOp e op clocks 0 a r u) (ha : a < 4096) (hc : r.acc = true)
    (hu : u.unchecked e = false) (hp : (u.stake a).prov = none) (hs : r.saved.any (fun p => p.1 = a) = false) (hlen : r.saved.length < 64)
    (hw : would (u.stake a) = true) (ht : f u = t) (hop : op ≠ 0x2F) {body : State → Release → Except PlEnd PlStep}
    (hb : body u r = plStake e a would f u r) : plumb op clocks spNone body e 0 a s =
      .next (t.setRel e { r with saved := r.saved ++ [(a, u.stake a)], pc := r.pc + 1 }) := by
  subst ht
  exact plumb_goesOn (t := ⟨f u, { r with saved := r.saved ++ [(a, u.stake a)] }, none⟩) h rfl
    (hb.trans (plStake_changes ha hc hu hw hp hs hlen)) rfl (atOp_run h).1 hop

theorem plCall_calls {ws : List Word} (ha : a < 2048) (hc : r.acc = true) (hu : u.unchecked e = false) (hcall : u.callable e a = true)
    (hws : u.callIns e r (u.citem 6 a 9) = .ok ws) : plCall e a u r = .ok ⟨u, { r with phase := .call a }, none⟩ := by
  unfold plCall
  simp only [Nat.not_le.mpr ha, hc, hu, hcall, hws, Bool.not_true, Bool.or_self, Bool.false_eq_true, if_false, bind, Except.bind, pure, Except.pure]

theorem plCall_skips (ha : a < 2048) (hc : r.acc = false) : plCall e a u r = .ok ⟨u, r, none⟩ := by
  unfold plCall
  simp only [Nat.not_le.mpr ha, hc, Bool.not_false, if_false, if_true]

theorem plCall_notCallable (ha : a < 2048) (hc : r.acc = true) (hcall : u.callable e a = false) : plCall e a u r = .error (.fault 11) := by
  unfold plCall
  simp only [Nat.not_le.mpr ha, hc, hcall, Bool.not_true, Bool.not_false, Bool.or_true, Bool.false_eq_true, if_false, if_true]
  rfl

end

/-- Settles O41: what each body gives on the words, the window and the entry it finds. -/
theorem plumbUnitInstructions : Obligations.PlumbUnitInstructions := by
  refine ⟨?_, fun t ty now => rfl, ton_cases, tof_cases, tp_cases, ?_, ?_, ?_, count_cases, ?_, ?_, ?_, ?_, ?_, ?_, ?_, ?_, ?_, ?_, ?_, ?_, ?_⟩
  · intro x hx e sp a et pt st rf y z d r1 r2 r' s u r h hsp ha het hpt hst hrf hz hy h1 h2 h3 hr
    simp only [List.mem_cons, List.not_mem_nil, or_false] at hx
    rcases hx with rfl | rfl | rfl
    all_goals exact plTimer_goesOn h hsp ha het hpt hst hrf hz hy h1 h2 h3 hr (by decide)
  · intro e a r' s u r h ha hw hr
    exact (exec_plTpt ..).trans (plumb_goesOn (t := ⟨u, r', none⟩) h rfl ((if_neg (Nat.not_le.mpr ha)).trans (plStore_ok hw)) rfl hr (by decide))
  · intro e a r1 r' s u r h ha hc h1 h2 hr
    refine (exec_plTrs ..).trans (plumb_goesOn (t := ⟨u, r', none⟩) h rfl ?_ rfl hr (by decide))
    simp only [Nat.not_le.mpr ha, hc, h1, h2, Bool.not_true, Bool.false_eq_true, if_false, bind, Except.bind, pure, Except.pure]
  · intro x hx e sp a cv pv st cv' st' r1 r' s u r h hsp ha hcv hpv hst hf h1 h2 hr
    simp only [List.mem_cons, List.not_mem_nil, or_false] at hx
    rcases hx with rfl | rfl
    all_goals exact plCounter_goesOn h hsp ha hcv hpv hst hf h1 h2 hr (by decide)
  · intro e a r' s u r h ha hc hw hr
    refine (exec_plCrs ..).trans (plumb_goesOn (t := ⟨u, r', none⟩) h rfl ?_ rfl hr (by decide))
    exact (if_neg (Nat.not_le.mpr ha)).trans ((if_neg (by simp [hc])).trans (plStore_ok hw))
  · intro e a pv r' s u r h ha hc hpv hw hr
    refine (exec_plClp ..).trans (plumb_goesOn (t := ⟨u, r', none⟩) h rfl ?_ rfl hr (by decide))
    simp only [Nat.not_le.mpr ha, hc, hpv, hw, Bool.not_true, Bool.false_eq_true, if_false, bind, Except.bind, pure, Except.pure]
  · intro e a r' s u r h ha hw hr
    exact (exec_plCpv ..).trans (plumb_goesOn (t := ⟨u, r', none⟩) h rfl ((if_neg (Nat.not_le.mpr ha)).trans (plStore_ok hw)) rfl hr (by decide))
  · intro e d a lo hi p s u r hd h hlo hhi hlom hhim hp
    have hmod : d % 8 = d := Nat.mod_eq_of_lt hd
    refine (exec_plDwin ..).trans ?_
    unfold execPlDwin
    simp only [hmod]
    refine plumb_goesOn (t := ⟨u, { r with acc := inDwin lo hi p }, none⟩) h rfl ?_ rfl (atOp_run h).1 (by omega)
    simp only [hlo, hhi, Nat.not_le.mpr hlom, Nat.not_le.mpr hhim, decide_false, Bool.or_self, Bool.false_eq_true, if_false, bind, Except.bind, pure, Except.pure, hp]
  · intro e d a lo hi s u r hd h hlo hhi hm
    have hmod : d % 8 = d := Nat.mod_eq_of_lt hd
    refine (exec_plDwin ..).trans ?_
    unfold execPlDwin
    simp only [hmod]
    refine plumb_goesOn (t := ⟨{ u with free := u.free + 1 }, { r with acc := Config.freeValue 9 u.free % 2 = 1 }, none⟩) h rfl ?_ rfl (atOp_run h).1 (by omega)
    have hout : (decide (u.datMod d ≤ lo.toNat) || decide (u.datMod d ≤ hi.toNat)) = true := by simpa using hm
    simp only [hlo, hhi, hout, if_true, bind, Except.bind, pure, Except.pure]
    rfl
  · intro e a s u r h ha hc hu hp hs hlen hst
    exact (exec_plStarm ..).trans (stake_changes h ha hc hu hp hs hlen (would := fun x => x.st = .disarmed) (f := fun s => s.provArm e a)
      (decide_eq_true hst) (if_pos hst) (by decide) rfl)
  · intro e a s u r h ha hc hu hp hs hlen hst
    exact (exec_plStdis ..).trans (stake_changes h ha hc hu hp hs hlen (would := fun x => x.st ≠ .disarmed) (f := fun s => s.provDisarm e a)
      (decide_eq_true hst) (if_neg hst) (by decide) rfl)
  · intro e a s u r h ha hc hu hp hs hlen hst htg
    have ht : u.provTarget e a r.wa.toNat = u.setStake a { u.stake a with target := r.wa.toNat, prov := some e } := by
      unfold State.provTarget
      dsimp only
      rw [if_pos hst]
    exact (exec_plSttgt ..).trans (stake_changes h ha hc hu hp hs hlen (would := fun x => x.st ≠ .disarmed || x.target ≠ r.wa.toNat)
      (f := fun s => s.provTarget e a r.wa.toNat) (by simp [htg]) ht (by decide) rfl)
  · intro e a s u r h ha hc hu hp hs hlen hst htg
    exact (exec_plStrld ..).trans (stake_changes h ha hc hu hp hs hlen
      (would := fun x => x.st ≠ .disarmed || x.target ≠ u.stkTarget a || x.count ≠ u.stkCount a)
      (f := fun s => s.provReload e a) (by simp [htg]) (if_pos hst) (by decide) rfl)
  · intro x hx e a s u r h ha hc
    simp only [List.mem_cons, List.not_mem_nil, or_false] at hx
    rcases hx with rfl | rfl | rfl | rfl
    all_goals exact stake_skips h ha hc (by decide) rfl
  · exact fun e a ws s u r h ha hc hu hcall hws =>
      (exec_plCallb ..).trans (plumb_waits h rfl (plCall_calls ha hc hu hcall hws) rfl (by simp))
  · exact fun e a s u r h ha hc => (exec_plCallb ..).trans (plumb_goesOn h rfl (plCall_skips ha hc) rfl (atOp_run h).1 (by decide))
  · exact fun e a s u r h ha hc hcall => (exec_plCallb ..).trans (plumb_faults h rfl (plCall_notCallable ha hc hcall))

end Sys2Proof.Proofs
end

section
/-!
PROOFS. Cycles, mode requests and the request of task mode that the start-up makes (09 R204, R208 to R213, 17 R418).
-/
namespace Sys2Proof.Proofs
open Sys2Proof Sys2Proof.Machine

section
variable {u : State}

theorem fixedCycle_other (h : u.plm.mode ≠ .fixed ∨ u.runs = false) : u.fixedCycle = u := by
  unfold State.fixedCycle
  dsimp only
  refine if_pos ?_
  rcases h with h | h <;> simp [h]

/-- A module on which the cycles of the fixed mode pass. -/
theorem fixedCycle_cond {per : Nat} (hmode : u.plm.mode = .fixed) (hrun : u.runs = true) (hpos : 0 < per) :
    ¬((decide (u.plm.mode ≠ .fixed) || !u.runs || decide (per = 0)) = true) := by
  simp [hmode, hrun, Nat.ne_of_gt hpos]

theorem fixedCycle_starts {per c0 : Nat} {x : State} (hper : (u.reg Reg.PLM_FIXED_CFG).fld 16 0 * 1000 = per) (hmode : u.plm.mode = .fixed)
    (hrun : u.runs = true) (hpos : 0 < per) (hcyc : u.plm.cycle = none) (hc : u.now / per * per = c0) (hsince : u.plm.since < c0)
    (hnew : u.plm.cycT0 ≠ c0 ∨ u.plm.cycles = 0)
    (hx : ({ u.countWrap Reg.PLM_FIXED_CNT with plm := { u.plm with cycT0 := c0, late := false, period := per }, pair := { (u.pair.onGen u.pair.gen (fun g => { g with past := true })) with gen := nextGen u.pair.gen } } : State) = x) :
    u.fixedCycle = x.turnTo 0 := by
  have hcond : ¬((decide (c0 ≤ u.plm.since) || (decide (u.plm.cycT0 = c0) && decide (u.plm.cycles ≠ 0))) = true) := by
    rcases hnew with h | h <;> simp [h, hsince]
  unfold State.fixedCycle
  simp only [hper, hcyc, hc, if_neg (fixedCycle_cond hmode hrun hpos), if_neg hcond]
  rw [← hx]
  rfl

theorem fixedCycle_overruns {k : Nat} (hmode : u.plm.mode = .fixed) (hrun : u.runs = true) (hper : (u.reg Reg.PLM_FIXED_CFG).fld 16 0 ≠ 0)
    (hcyc : u.plm.cycle = some k) (hover : u.plm.cycT0 + u.plm.period ≤ u.now) (hlate : u.plm.late = false) :
    u.fixedCycle = (({ u with plm := { u.plm with late := true } } : State).count Reg.PLM_FIXED_OVR).raiseBit 25 4 := by
  unfold State.fixedCycle
  simp only [if_neg (fixedCycle_cond (per := (u.reg Reg.PLM_FIXED_CFG).fld 16 0 * 1000) hmode hrun (by omega)), hcyc, hover, hlate,
    decide_true, Bool.not_false, Bool.and_self, if_true]

/-- A first cycle that leaves the cycle's start where it was ends no start-up. -/
theorem firstCycle_same {y : State} (h : u.fixedCycle = y) (hy : y.plm.cycT0 = u.plm.cycT0) : u.firstCycle = y := by
  unfold State.firstCycle
  rw [h]
  simp only [hy, ne_eq, not_true_eq_false, decide_false, Bool.and_false, Bool.false_and, Bool.false_eq_true, if_false]

end

/-! ### Mode requests -/

section
variable {u : State} {v : Word}

theorem modeReq_task (h : u.plm.mode = .fixed) : u.modeReq true false = { u with plm := { u.plm with request := some .task } } := by
  unfold State.modeReq
  simp only [h, decide_true, Bool.and_false, Bool.and_self, Bool.false_eq_true, if_false, if_true]

theorem modeReq_fixed (h : u.plm.mode = .task) (hr : u.plm.request ≠ some .fixed) {x : State}
    (hx : ({ u with plm := { u.plm with request := some .fixed } } : State).dropPending = x) :
    u.modeReq false true = if x.running = 0 then x.setMode .fixed else x := by
  unfold State.modeReq
  refine (if_neg (by simp)).trans ((if_neg (by simp)).trans ((if_pos (by simp [h, hr])).trans ?_))
  dsimp only
  rw [hx]

theorem modeReq_task_other (h : u.plm.mode ≠ .fixed) : u.modeReq true false = u := by
  unfold State.modeReq
  simp [h]

theorem modeReq_fixed_other (h : u.plm.mode ≠ .task ∨ u.plm.request = some .fixed) : u.modeReq false true = u := by
  unfold State.modeReq
  rcases h with h | h <;> simp [h]

/-- A mode request is noted as one of the host. -/
theorem modeReq_write {dt m : Nat} {v : Word} {s t : State} {task fixed : Bool} (hu : s.toWrite dt m Reg.PLM_MODE_REQ v = u)
    (ho : u.opens m true Reg.PLM_MODE_REQ = true) (hv : v &&& ~~~(3 : Word) = 0) (h0 : v.bit 0 = task) (h1 : v.bit 1 = fixed)
    (ht : u.modeReq task fixed = t) :
    writeAfter dt m Reg.PLM_MODE_REQ v s = .next { t with pwr := { t.pwr with hostMode := t.pwr.hostMode || t.pwr.ready } } := by
  have hw : u.single m true Reg.PLM_MODE_REQ v = u.modeWrite v := writesAs_modeReq.single ho hv
  refine (writeAfter_eq_single hu).trans (congrArg Host.Outcome.next (hw.trans ?_))
  unfold State.modeWrite
  rw [h0, h1, ht]

end

theorem taskState_setTaskState (s : State) {n k : Nat} (v : Nat) : (s.setTaskState k v).taskState n = if k = n then v % 4 else s.taskState n := by
  unfold State.taskState State.setTaskState
  rw [regF_eq, setRegF_reg]
  by_cases hk : k = n
  · subst hk
    rw [if_pos rfl, if_pos rfl]
    exact fld_setFld_self (hi := 1) (lo := 0) (by omega) (by omega) _ v
  · have hne : Reg.PLM_TASKn_STS n ≠ Reg.PLM_TASKn_STS k := by unfold Reg.PLM_TASKn_STS; omega
    rw [if_neg hne, if_neg hk]
    rfl

/-- A task that is not pending any more: stopped, or running only. -/
def notPending (x : Nat) : Nat := if x = 1 then 0 else if x = 3 then 2 else x

/-- Discarding the pending releases leaves no task pending. -/
theorem dropPending_taskState (s : State) {n : Nat} (hn : n < 32) : s.dropPending.taskState n = notPending (s.taskState n) := by
  refine (foldl_once (fun s : State => s.taskState n) notPending _ n (List.range 32) (fun j _ t => ?_) List.nodup_range s).trans
    (if_pos (List.mem_range.mpr hn))
  split
  next h1 =>
    rw [taskState_setTaskState]
    split
    next hj => subst hj; rw [h1]; rfl
    next => rfl
  next h3 =>
    rw [taskState_setTaskState]
    split
    next hj => subst hj; rw [h3]; rfl
    next => rfl
  next h1 h3 =>
    split
    next hj => subst hj; unfold notPending; rw [if_neg h1, if_neg h3]
    next => rfl

/-- Settles O43: the fixed cycle, the requests of a mode as the register takes them, and the request of the start-up. -/
theorem cyclesAndModes : Obligations.CyclesAndModes := by
  refine ⟨?_, ?_, ?_, ?_, ?_, ?_, ?_, ?_, ?_, ?_, ?_, ?_, ?_⟩
  · intro dt per c0 x y s u hu hper hmode hrun hpos hcyc hc hsince hnew hx hy
    have hfix : u.fixedCycle = y := (fixedCycle_starts hper hmode hrun hpos hcyc hc hsince hnew hx).trans hy
    refine (exec_fixedCycleStart ..).trans (next_of_after hu ?_)
    unfold State.firstCycle
    rw [hfix]
  · intro dt k y s u hu hmode hrun hper hcyc hover hlate hy
    refine (exec_fixedCycleStart ..).trans (next_of_after hu (firstCycle_same ((fixedCycle_overruns hmode hrun hper hcyc hover hlate).trans hy) ?_))
    rw [← hy]
    simp
  · exact fun dt s u hu h => (exec_fixedCycleStart ..).trans (next_of_after hu (firstCycle_same (fixedCycle_other h) rfl))
  · intro s n k h
    unfold State.turnTo
    rw [h]
  · intro s n h
    unfold State.turnTo
    rw [h]
  · exact fun dt m t s u hu ho hm ht => (exec_modeReqTask ..).trans (modeReq_write hu ho (by decide) rfl rfl ((modeReq_task hm).trans ht))
  · exact fun dt m x t s u hu ho hm hr hx ht =>
      (exec_modeReqFixed ..).trans (modeReq_write hu ho (by decide) rfl rfl ((modeReq_fixed hm hr hx).trans ht))
  · exact fun dt m t s u hu ho hm ht => (exec_modeReqTask ..).trans (modeReq_write hu ho (by decide) rfl rfl ((modeReq_task_other hm).trans ht))
  · exact fun dt m t s u hu ho hm ht => (exec_modeReqFixed ..).trans (modeReq_write hu ho (by decide) rfl rfl ((modeReq_fixed_other hm).trans ht))
  · intro s hr h0
    unfold State.lastEnded
    simp only [hr, h0, decide_true, Bool.and_self, if_true]
  · intro s n hn
    rw [dropPending_taskState s hn]
    unfold notPending
    split
    · omega
    · split <;> omega
  · intro dt s u hu h0 hrun hmode hdone hhost hcyc
    have hdue : u.autoDue = true := by
      unfold State.autoDue
      simp [h0, hrun, hmode, hdone, hhost, hcyc, regF_eq]
    exact (exec_autoTaskRequest ..).trans (next_of_afterEv hu (if_pos hdue))
  · intro dt s u hu h
    have hdue : ¬ u.autoDue = true := by
      unfold State.autoDue
      rcases h with h | h | h | h
      · simp [h]
      · simp [h]
      · simp [h]
      · have hfew : decide (u.regF Reg.PWR_START_CFG 29 16 ≤ u.plm.cycles) = false := decide_eq_false (Nat.not_le.mpr h)
        rw [hfew, Bool.and_false]
        exact Bool.false_ne_true
    exact (exec_autoTaskRequest ..).trans (next_of_afterEv hu (if_neg hdue))

end Sys2Proof.Proofs
end

section
/-!
PROOFS. Block calls: their arrival, service, return and lateness, and the runs of self-running instances (10 R216 to R229).
-/
namespace Sys2Proof.Proofs
open Sys2Proof Sys2Proof.Machine

/-! ### Arrival and service -/

section
variable {u : State} {e i : Nat} {r : Release} {it ws : List Word}

section
variable (hrel : (u.eng e).rel = some r) (hcall : r.phase = .call i) (hdue : r.due 0 ≤ u.sclk)
  (hnew : u.blkWorks.any (fun w => w.caller = some e) = false) (hit : u.citem 6 i 9 = it) (hws : u.callIns e r it = .ok ws)
include hrel hcall hdue hnew hit hws

theorem callArrival_host (h18 : (item it 0).bit 18 = false) :
    u.callArrival e = u.queueWork (u.blkServer it) { inst := i, caller := some e, ins := ws, s := r.startT / (1000 * 2 ^ 32), datw := r.datw, arrival := u.ptp, clk := u.sclk, item := it } := by
  have hself : itemSelf it = false := h18
  unfold State.callArrival
  simp only [hrel, hcall, Nat.not_lt.mpr hdue, hnew, hit, hws, hself, decide_false, Bool.or_self, Bool.false_eq_true, if_false]
  rfl

theorem callArrival_self {ni no ns : Nat} {copy : List Word} (h18 : (item it 0).bit 18 = true) (hn : blkCounts ((item it 0).fld 2 0) = (ni, no, ns))
    (hcopy : u.instAt ((item it 1).fld 19 0) (8 + ni + no) = copy) :
    u.callArrival e = u.queueWork (u.blkServer it) { inst := i, caller := some e, ins := ws, s := r.startT / (1000 * 2 ^ 32), datw := r.datw, arrival := u.ptp, clk := u.sclk, item := it, held := some (copy.drop (8 + ni), (item copy 1).bit 0) } := by
  have hself : itemSelf it = true := h18
  have hat : u.instAt (itemBase it) (8 + ni + no) = copy := hcopy
  unfold State.callArrival
  simp only [hrel, hcall, Nat.not_lt.mpr hdue, hnew, hit, hws, hself, hn, hat, decide_false, Bool.or_self, Bool.false_eq_true, if_false, if_true]
  rfl

end

theorem callArrival_none (hrel : (u.eng e).rel = some r) (hphase : r.phase = .run ∨ r.phase = .done) : u.callArrival e = u := by
  unfold State.callArrival
  rcases hphase with h | h <;> simp only [hrel, h]

theorem serve_some {p : Nat} {w : BlkWork} (hfree : u.blkFree p = true) (hw : (u.blkPair p).queue.find? (fun w => !u.isLate w none) = some w) :
    u.serve p = u.setBlkPair p { queue := (u.blkPair p).queue.erase w, serving := some (w, u.blkResult p w, u.sclk) } := by
  unfold State.serve
  simp only [hfree, hw, Bool.not_true, Bool.false_eq_true, if_false]

theorem serve_none {p : Nat} (h : u.blkFree p = false ∨ (u.blkPair p).queue.find? (fun w => !u.isLate w none) = none) : u.serve p = u := by
  unfold State.serve
  rcases h with h | h
  · simp only [h, Bool.not_false, if_true]
  · simp only [h, ite_self]

end

/-! ### Return -/

theorem eng_setRel (s : State) (e : Nat) (x : Release) : (s.setRel e x).eng e = { s.eng e with rel := some x } :=
  sget_sput_self ({} : Engine) s.engs e { s.eng e with rel := some x }

/-- Of two releases set of one engine the later remains. -/
theorem setRel_setRel (s : State) (e : Nat) (x y : Release) : (s.setRel e x).setRel e y = s.setRel e y := by
  have hne : ∀ z : Release, ({ s.eng e with rel := some z } : Engine) ≠ {} := fun z h => by simp at h
  unfold State.setRel
  have heng : (s.setEng e { s.eng e with rel := some x }).eng e = { s.eng e with rel := some x } := eng_setRel s e x
  rw [heng]
  exact congrArg (fun m => ({ s with engs := m } : State)) (sput_sput_of_ne s.engs e (hne x) (hne y))

section
variable {u : State} {p e clk : Nat} {o : Option Nat} {w : BlkWork} {x : BlkResult}

section
variable (hs : (u.blkPair p).serving = some (w, x, clk)) (hc : w.caller = some e)
include hs hc

theorem blkReturn_late (hl : u.servedLate w x clk = true) :
    u.blkReturn p o = (u.setBlkPair p { u.blkPair p with serving := none }).lateWork w := by
  unfold State.blkReturn
  simp only [hs, hc, hl, if_true]

section
variable (hl : u.servedLate w x clk = false) (ht : clk + serviceClocks w x ≤ u.sclk)
include hl ht

theorem blkReturn_mismatch (hd : digestsAgree (blkDigest w x) o = false) : u.blkReturn p o = u.mismatch (cmpIndex p) 3 := by
  unfold State.blkReturn
  simp only [hs, hc, hl, Nat.not_lt.mpr ht, hd, Bool.not_false, Bool.false_eq_true, if_false, if_true]

theorem blkReturn_returns {v : State} {r r' : Release} (hd : digestsAgree (blkDigest w x) o = true)
    (hv : (u.setBlkPair p { u.blkPair p with serving := none }).countWork p w x = v) (hrel : (v.eng e).rel = some r)
    (hout : v.putOuts e r (itemOut w.item).1 (itemOut w.item).2 x.outs = .ok r') :
    u.blkReturn p o = v.setRel e { r' with insts := r'.insts ++ [heldWords w x], segs := r'.segs ++ x.segs, acc := x.eno, phase := .run, pc := r'.pc + 1, clocks := v.sclk - (r'.start + copyClocks r'.binding) } := by
  unfold State.blkReturn
  simp only [hs, hc, hl, Nat.not_lt.mpr ht, hd, hv, Bool.not_true, Bool.false_eq_true, if_false]
  unfold State.giveBack State.resume
  simp only [hrel, hout, eng_setRel]
  exact setRel_setRel ..

end
end

theorem blkReturn_idle (hs : (u.blkPair p).serving = none) : u.blkReturn p o = u := by
  unfold State.blkReturn
  simp only [hs]

theorem lateWork_resumes {r : Release} {t : State} (hc : w.caller = some e)
    (ht : (((u.modInst w.inst (fun x => { x with late := satAdd 0xFFFFFFFF x.late 1 })).count Reg.BLK_LATE).raiseBit 26 0) = t)
    (hrel : (t.eng e).rel = some r) :
    u.lateWork w = t.setRel e { r with acc := false, phase := .run, pc := r.pc + 1, clocks := t.sclk - (r.start + copyClocks r.binding) } := by
  unfold State.lateWork State.resume
  simp only [ht, hc, hrel]

/-! ### Deadlines -/

theorem expire_none {i : Nat} (h : u.blk.pairs = []) : u.expire i = u := by
  unfold State.expire
  rw [h]; rfl

theorem expire_one {i : Nat} {b : BlkPair} (h : u.blk.pairs = [(p, b)]) (hq : b.queue = [w]) (hb : b.serving = none) (hi : w.inst = i)
    (hl : u.isLate w none = true) : u.expire i = (u.setBlkPair p { b with queue := [] }).lateWork w := by
  have hpair : u.blkPair p = b := by
    unfold State.blkPair
    rw [h]
    exact if_pos rfl
  unfold State.expire
  rw [h]
  simp only [List.foldl_cons, List.foldl_nil, hpair, hq, hb, List.filter_cons, List.filter_nil, hi, hl, decide_true, Bool.and_self, Bool.not_true,
    Bool.false_eq_true, if_false, if_true]

/-! ### Self-runs -/

section
variable {i per due : Nat} {it : List Word} {t : State}

section
variable (hit : u.citem 6 i 9 = it) (hper : (item it 4).fld 16 0 * 1000 = per) (hdue : u.now / per * per = due) (hty : (item it 0).fld 2 0 ≠ 0)
  (h18 : (item it 0).bit 18 = true) (hpos : 0 < per) (hrun : u.runs = true) (hmode : u.plm.mode ≠ .idle) (hfrom : u.plm.selfFrom ≤ due)
  (hlast : (u.instStat i).lastDue ≠ due) (ht : u.modInst i (fun x => { x with lastDue := due }) = t)
include hit hper hdue hty h18 hpos hrun hmode hfrom hlast ht

theorem selfDue_eq : u.selfDue i = if t.blkWorks.any (fun w => w.inst = i && w.caller.isNone) then (t.count Reg.BLK_SKIP).raiseBit 26 2
    else t.queueWork (t.blkServer it) { inst := i, s := due / 1000, arrival := t.ptp, clk := t.sclk, item := it } := by
  have hself : itemSelf it = true := h18
  unfold State.selfDue
  simp only [hit, hper, hdue, ht]
  refine if_neg ?_
  simp [hty, hself, Nat.ne_of_gt hpos, hrun, hmode, Nat.not_lt.mpr hfrom, hlast]

end

theorem selfDue_idle (h : u.runs = false ∨ u.plm.mode = .idle) : u.selfDue i = u := by
  unfold State.selfDue
  dsimp only
  refine if_pos ?_
  rcases h with h | h <;> simp [h]

end

section
variable (hs : (u.blkPair p).serving = some (w, x, clk)) (hc : w.caller = none)
include hs hc

theorem selfEnd_late (hl : u.servedLate w x clk = true) :
    u.selfEnd p o = (u.setBlkPair p { u.blkPair p with serving := none }).lateWork w := by
  unfold State.selfEnd
  simp only [hs, hc, hl, if_true]

section
variable (hl : u.servedLate w x clk = false) (ht : clk + x.clocks ≤ u.sclk)
include hl ht

theorem selfEnd_eq : u.selfEnd p o = if digestsAgree (blkDigest w x) o then
    ((u.setBlkPair p { u.blkPair p with serving := none }).countWork p w x).selfLeaves w x else u.mismatch (cmpIndex p) 3 := by
  have hclk : serviceClocks w x = x.clocks := by
    unfold serviceClocks
    simp only [hc]
  unfold State.selfEnd
  simp only [hs, hc, hl, hclk, Nat.not_lt.mpr ht, Bool.false_eq_true, if_false]
  cases digestsAgree (blkDigest w x) o <;> rfl

end
end
end

theorem selfLeaves_noSegs {t v : State} {w : BlkWork} {x : BlkResult} {ni base : Nat} (hni : (blkCounts ((item w.item 0).fld 2 0)).1 = ni)
    (hbase : (item w.item 1).fld 19 0 = base) (hseg : x.segs = [])
    (hv : (t.putInst base 0 (x.words.take 8)).setInstWords (base + 8 + ni) (x.words.drop (8 + ni)) = v) :
    t.selfLeaves w x = v.record 0 [.inst base (v.instAt base 8), .inst (base + 8 + ni) (v.instAt (base + 8 + ni) (x.words.drop (8 + ni)).length)] := by
  have hb : itemBase w.item = base := hbase
  have happ : ∀ s : State, s.blkAppendAll w.inst w.item [] = s := fun s => if_pos (by simp)
  unfold State.selfLeaves
  simp only [hni, hb, hseg, hv, happ]

/-- Settles O44: what each function of a block pair does on the work it finds. -/
theorem blockCalls : Obligations.BlockCalls := by
  refine ⟨?_, ?_, ?_, ?_, ?_, ?_, ?_, ?_, ?_, ?_, ?_, ?_, ?_, ?_, ?_, ?_, ?_, ?_, ?_, ?_⟩
  · exact fun dt e i r it ws s u hu hrel hcall hdue hnew hit hws h18 =>
      (exec_blockCallArrival ..).trans (next_of_afterEv hu (callArrival_host hrel hcall hdue hnew hit hws h18))
  · exact fun dt e i ni no ns r it ws copy s u hu hrel hcall hdue hnew hit hws h18 hn hcopy =>
      (exec_blockCallArrival ..).trans (next_of_afterEv hu (callArrival_self hrel hcall hdue hnew hit hws h18 hn hcopy))
  · exact fun dt e r s u hu hrel hphase => (exec_blockCallArrival ..).trans (next_of_afterEv hu (callArrival_none hrel hphase))
  · exact fun dt p w s u hu hfree hw => (exec_blockServiceStart ..).trans (next_of_afterEv hu (serve_some hfree hw))
  · exact fun dt p s u hu h => (exec_blockServiceStart ..).trans (next_of_afterEv hu (serve_none h))
  · exact fun dt p e clk o w x v r r' s u hu hs hc hl ht hd hv hrel hout =>
      (exec_blockReturn ..).trans (next_of_after hu (blkReturn_returns hs hc hl ht hd hv hrel hout))
  · exact fun dt p e clk o w x s u hu hs hc hl ht hd => (exec_blockReturn ..).trans (next_of_after hu (blkReturn_mismatch hs hc hl ht hd))
  · exact fun dt p e clk o w x s u hu hs hc hl => (exec_blockReturn ..).trans (next_of_after hu (blkReturn_late hs hc hl))
  · exact fun dt p o s u hu hs => (exec_blockReturn ..).trans (next_of_after hu (blkReturn_idle hs))
  · intro w x e hc
    unfold serviceClocks
    simp only [hc]
  · exact fun s w e r t hc ht hrel => lateWork_resumes hc ht hrel
  · exact fun dt i s u hu h => (exec_blockDeadline ..).trans (next_of_after hu (expire_none h))
  · exact fun dt p i b w s u hu h hq hb hi hl => (exec_blockDeadline ..).trans (next_of_after hu (expire_one h hq hb hi hl))
  · intro dt i per due it t s u hu hit hper hdue hty h18 hpos hrun hmode hfrom hlast hw ht
    have htw : t.blkWorks = u.blkWorks := by rw [← ht]; rfl
    have hptp : t.ptp = u.ptp ∧ t.sclk = u.sclk := by rw [← ht]; exact ⟨rfl, rfl⟩
    refine (exec_selfRunDue ..).trans (next_of_afterEv hu
      ((selfDue_eq hit hper hdue hty h18 hpos hrun hmode hfrom hlast ht).trans ((if_neg ?_).trans ?_)))
    · rw [htw, hw]; exact Bool.false_ne_true
    · rw [hptp.1, hptp.2]
  · intro dt i per due it t s u hu hit hper hdue hty h18 hpos hrun hmode hfrom hlast hw ht
    have htw : t.blkWorks = u.blkWorks := by rw [← ht]; rfl
    exact (exec_selfRunDue ..).trans (next_of_afterEv hu
      ((selfDue_eq hit hper hdue hty h18 hpos hrun hmode hfrom hlast ht).trans (if_pos (by rw [htw]; exact hw))))
  · exact fun dt i s u hu h => (exec_selfRunDue ..).trans (next_of_afterEv hu (selfDue_idle h))
  · exact fun dt p clk o w x s u hu hs hc hl ht hd =>
      (exec_selfRunEnd ..).trans (next_of_afterEv hu ((selfEnd_eq hs hc hl ht).trans (if_pos hd)))
  · exact fun t v w x ni base hni hbase hseg hv => selfLeaves_noSegs hni hbase hseg hv
  · exact fun dt p clk o w x s u hu hs hc hl ht hd =>
      (exec_selfRunEnd ..).trans (next_of_afterEv hu ((selfEnd_eq hs hc hl ht).trans (if_neg (by simp [hd]))))
  · exact fun dt p clk o w x s u hu hs hc hl => (exec_selfRunEnd ..).trans (next_of_afterEv hu (selfEnd_late hs hc hl))

end Sys2Proof.Proofs
end

section
/-!
PROOFS. Compared pairs: mismatches and their classes, resynchronisation, agreement, checker tests, splits and joins (11 R243 to R262).
-/
namespace Sys2Proof.Proofs
open Sys2Proof Sys2Proof.Machine

/-! ### The class of a mismatch -/

/-- A mismatch less than 10 s ago. -/
def mismatchedLately (now : Nat) : Option Nat → Bool
  | some t => decide (now < t + 10000000000)
  | none => false

theorem mismatchedLately_first {now : Nat} {o : Option Nat} (h : o = none ∨ (∃ t, o = some t ∧ t + 10000000000 ≤ now)) :
    mismatchedLately now o = false := by
  rcases h with rfl | ⟨t, rfl, ht⟩
  · rfl
  · exact decide_eq_false (Nat.not_lt.mpr ht)

section
variable {u w z y v : State} {x : Nat}

theorem classify_core (hz : w.modChk x (fun c => { c with lastMis := some w.now, change := none }) = z)
    (hy : (w.chk x).change.elim z (fun p => z.finishErr p.2.1 stState) = y)
    (hv : ((y.countF (Reg.CMP_Px_MIS x) 15 0 1).tally 48 1).raiseBit 27 0 = v) :
    w.classify x 1 =
      if mismatchedLately w.now (w.chk x).lastMis = false then
        if x = 0 then ((v.cmpEvent x 1 false false).startResync x).mpRestart else (v.cmpEvent x 1 false false).startResync x
      else if 1 ≤ x ∧ x ≤ 24 then v.retirePair x 1
      else (((v.cmpEvent x 1 true false).modChk x (fun c => { c with withdrawn := true })).raiseBit 27 6).withdraw none := by
  subst hv
  have hmatch : w.classify x 1 = (fun t : State =>
      if !mismatchedLately w.now (w.chk x).lastMis then
        if x = 0 then ((t.cmpEvent x 1 false false).startResync x).mpRestart else (t.cmpEvent x 1 false false).startResync x
      else if decide (1 ≤ x) && decide (x ≤ 24) then t.retirePair x 1
      else (((t.cmpEvent x 1 true false).modChk x (fun c => { c with withdrawn := true })).raiseBit 27 6).withdraw none)
      (((y.countF (Reg.CMP_Px_MIS x) 15 0 1).tally 48 1).raiseBit 27 0) := by
    unfold State.classify
    dsimp only
    rw [hz]
    cases hc : (w.chk x).change with
    | none =>
      rw [hc] at hy
      subst hy
      rfl
    | some p =>
      rw [hc] at hy
      subst hy
      rfl
  rw [hmatch]
  dsimp only
  cases mismatchedLately w.now (w.chk x).lastMis <;> simp

end

/-! ### A mismatch of a pair that compares -/

section
variable {u w z y v : State} {x : Nat} {lead trail : PortOut}

section
variable (hcmp : u.comparing x = true) (hne : lead ≠ trail) (hw : u.withholdWork x = w)
  (hz : w.modChk x (fun c => { c with lastMis := some w.now, change := none }) = z)
  (hy : (w.chk x).change.elim z (fun p => z.finishErr p.2.1 stState) = y)
  (hv : ((y.countF (Reg.CMP_Px_MIS x) 15 0 1).tally 48 1).raiseBit 27 0 = v)
include hcmp hne hw hz hy hv

theorem coreMismatch_first (hfirst : mismatchedLately w.now (w.chk x).lastMis = false) : u.coreMismatch x lead trail =
    if x = 0 then ((v.cmpEvent x 1 false false).startResync x).mpRestart else (v.cmpEvent x 1 false false).startResync x := by
  refine (if_pos (by simp [hcmp, hne])).trans ?_
  unfold State.mismatch
  rw [hw, classify_core hz hy hv, if_pos hfirst]

theorem coreMismatch_again {t0 : Nat} (hlast : (w.chk x).lastMis = some t0) (ht : w.now < t0 + 10000000000) : u.coreMismatch x lead trail =
    if 1 ≤ x ∧ x ≤ 24 then v.retirePair x 1
    else (((v.cmpEvent x 1 true false).modChk x (fun c => { c with withdrawn := true })).raiseBit 27 6).withdraw none := by
  have hlately : mismatchedLately w.now (w.chk x).lastMis = true := by
    rw [hlast]
    exact decide_eq_true ht
  refine (if_pos (by simp [hcmp, hne])).trans ?_
  unfold State.mismatch
  rw [hw, classify_core hz hy hv, hlately, if_neg Bool.true_eq_false.mp]

end

theorem coreMismatch_none (h : u.comparing x = false ∨ lead = trail) : u.coreMismatch x lead trail = u := by
  refine if_neg ?_
  rcases h with h | h <;> simp [h]

theorem withholdWork_plumb (h1 : 1 ≤ x) (h18 : x ≤ 18) : u.withholdWork x = u.endRelease (cmpId x) 5 0 0 :=
  (if_neg (by omega)).trans (if_pos h18)

end

/-! ### Resynchronisation and warnings -/

section
variable {u v : State} {x : Nat}

theorem resyncDone_pair (h5 : u.cmpState x = 5) (h0 : x ≠ 0) (h25 : x ≠ 25) :
    u.resyncDone x = (u.setCmpState x (u.chk x).prior).modChk x (fun c => { c with resync := none }) := by
  unfold State.resyncDone
  simp only [h5, h0, h25, ne_eq, not_true_eq_false, decide_false, Bool.false_and, Bool.or_self, Bool.false_eq_true, if_false]

theorem resyncDone_stake {t0 : Nat} (h5 : u.cmpState 25 = 5) (ht0 : (u.chk 25).resync = some t0) (ht : t0 + 64 ≤ u.sclk)
    (hv : (u.setCmpState 25 (u.chk 25).prior).modChk 25 (fun c => { c with resync := none }) = v) (hs : v.stk.entries = []) :
    u.resyncDone 25 = v := by
  unfold State.resyncDone
  simp only [h5, ht0, Option.getD_some, Nat.not_lt.mpr ht, hv, hs, ne_eq, not_true_eq_false, decide_false, Bool.and_false, Bool.or_self,
    Bool.false_eq_true, if_false, if_true, List.foldl_nil, (show (25 : Nat) ≠ 0 by decide)]

theorem resyncDone_none (h : u.cmpState x ≠ 5 ∨ x = 0 ∨ (x = 25 ∧ u.sclk < (u.chk x).resync.getD 0 + 64)) : u.resyncDone x = u := by
  unfold State.resyncDone
  dsimp only
  refine if_pos ?_
  rcases h with h | h | ⟨h, ht⟩
  · simp [h]
  · simp [h]
  · subst h
    simp [ht]

theorem warnEnd_of {t0 : Nat} (h : (u.chk x).lastMis = some t0) :
    u.warnEnd x = if t0 + 10000000000 ≤ u.now then u.setRegB (Reg.CMP_Px_STS x) 3 false else u := by
  unfold State.warnEnd
  simp only [h]

end

/-! ### Agreement -/

section
variable {u v : State} {x k : Nat}

theorem disagree_mismatch (h : u.mismatchNow x = true) : u.disagree x k = u.count (Reg.CMP_Px_AGREE x) := if_pos h

/-- A difference is the n-th of consecutive clocks. -/
theorem disagree_counts {c n m : Nat} (hmis : u.mismatchNow x = false) (hcmp : u.comparing x = true)
    (hd : sget (0, 0) (u.chk x).disagree k = (c, n)) (hm : (if n ≠ 0 ∧ c + 1 = u.sclk then n + 1 else 1) = m)
    (hv : (u.count (Reg.CMP_Px_AGREE x)).modChk x (fun c => { c with disagree := sput (0, 0) c.disagree k (u.sclk, m) }) = v) :
    u.disagree x k = if m = 16 then (v.modChk x (fun c => { c with disagree := sput (0, 0) c.disagree k (0, 0) })).mismatch x 1 else v := by
  subst hv hm
  unfold State.disagree
  simp only [hmis, hcmp, hd, Bool.not_true, Bool.false_eq_true, if_false, Bool.and_eq_true, decide_eq_true_eq]

end

/-! ### Checker tests -/

section
variable {u v : State} {x r d : Nat} {same : Bool}

section
variable (hcmp : u.comparing x = true) (hdue : u.testDue x = some d) (hnew : (u.chk x).tested ≠ some d)
include hcmp hdue hnew

theorem checkerTest_due : u.checkerTest x r same =
    if railsMismatch r = false then (u.modChk x (fun c => { c with tested := some d })).checkerFault x
    else if same then (u.modChk x (fun c => { c with tested := some d })).testPassed x
    else ((u.modChk x (fun c => { c with tested := some d })).testPassed x).classify x 3 := by
  unfold State.checkerTest
  simp only [hcmp, hdue, hnew, Bool.not_true, reduceCtorEq, decide_false, Bool.or_self, Bool.false_eq_true, if_false]
  cases railsMismatch r <;> rfl

end

theorem checkerTest_none (h : u.comparing x = false ∨ u.testDue x = none ∨ (u.chk x).tested = u.testDue x) : u.checkerTest x r same = u := by
  refine if_pos ?_
  rcases h with h | h | h <;> simp [h]

end

/-! ### Splits and joins -/

section
variable {u v w : State} {x r slot at_ id : Nat}

theorem splitDone_splits (hc : (u.chk x).change = some (false, slot, at_)) (ht : u.now < at_ + 1000000) (hrel : (u.eng (cmpId x)).rel = none) :
    u.splitDone x = ((((((u.modChk x (fun c => { c with change := none })).setCmpState x 3).setRegB Reg.CMP_SPLIT_MAP x true).copyKonst
      (cmpId x) (cmpId x + 0x80)).raiseBit 27 5).finishOk slot []) := by
  unfold State.splitDone
  simp only [hc, ht, hrel, Option.isNone_none, decide_true, Bool.and_self, if_true]

theorem splitDone_late (hc : (u.chk x).change = some (false, slot, at_)) (ht : at_ + 1000000 ≤ u.now) :
    u.splitDone x = (u.modChk x (fun c => { c with change := none })).finishErr slot stState := by
  unfold State.splitDone
  simp only [hc, Nat.not_lt.mpr ht, ht, decide_false, Bool.false_and, Bool.false_eq_true, if_false, if_true]

theorem splitDone_none (hc : (u.chk x).change = none) : u.splitDone x = u := by
  unfold State.splitDone
  simp only [hc]

section
variable (hc : (u.chk x).change = some (true, slot, at_))
include hc

section
variable (ht : u.now < at_ + 1000000)
include ht

theorem joinDone_joins (hid : cmpId x = id) (h1 : (u.eng id).rel = none) (h2 : (u.eng (id + 0x80)).rel = none)
    (hw : (((u.passBanks (id + 0x80) id).passLocks (id + 0x80) 0).setRegF (Reg.CMP_Px_STS x) 23 16 (min 255 (u.locksOf (id + 0x80)).length)).modChk x (fun c => { c with change := none }) = w)
    (hv : ((w.setCmpState x 0).setRegB Reg.CMP_SPLIT_MAP x false).dropKonst (id + 0x80) = v) :
    u.joinDone x r = if railsMismatch r then ((v.testPassed x).raiseBit 27 5).finishOk slot [] else (v.checkerFault x).finishErr slot stState := by
  unfold State.joinDone
  simp only [hc, hid, ht, h1, h2, hw, hv, Option.isNone_none, decide_true, Bool.and_self, if_true]

theorem joinDone_waits (hrel : (u.eng (cmpId x)).rel.isSome = true ∨ (u.eng (cmpId x + 0x80)).rel.isSome = true) : u.joinDone x r = u := by
  have hrel' : ((u.eng (cmpId x)).rel.isNone && (u.eng (cmpId x + 0x80)).rel.isNone) = false := by
    rcases hrel with h | h <;> simp [Option.isNone_eq_false_iff.mpr h]
  unfold State.joinDone
  simp only [hc, Bool.and_assoc, hrel', Bool.and_false, Nat.not_le.mpr ht, Bool.false_eq_true, if_false]

end

theorem joinDone_late (ht : at_ + 1000000 ≤ u.now) :
    u.joinDone x r = ((u.modChk x (fun c => { c with change := none })).setCmpState x 3).finishErr slot stState := by
  unfold State.joinDone
  simp only [hc, Nat.not_lt.mpr ht, ht, decide_false, Bool.false_and, Bool.false_eq_true, if_false, if_true]

end
end

/-- Settles O45: the class of a mismatch, and what each function of a pair does in the state it finds. -/
theorem checkedPairs : Obligations.CheckedPairs := by
  refine ⟨?_, ?_, ?_, ?_, ?_, ?_, ?_, ?_, ?_, ?_, ?_, ?_, ?_, ?_, ?_, ?_, ?_, ?_, ?_, ?_, ?_, ?_, ?_, ?_, ?_, ?_, ?_, ?_⟩
  · exact fun dt x lead trail w z y v s u hu hcmp hne hw hz hy hv hlast h0 => (exec_coreMismatch ..).trans (next_of_afterEv hu
      ((coreMismatch_first hcmp hne hw hz hy hv (mismatchedLately_first hlast)).trans (if_neg h0)))
  · exact fun dt lead trail w z y v s u hu hcmp hne hw hz hy hv hlast => (exec_coreMismatch ..).trans (next_of_afterEv hu
      ((coreMismatch_first hcmp hne hw hz hy hv (mismatchedLately_first (.inl hlast))).trans (if_pos rfl)))
  · exact fun dt x t0 lead trail w z y v s u hu hcmp hne hw hz hy hv hlast ht h1 h24 => (exec_coreMismatch ..).trans (next_of_afterEv hu
      ((coreMismatch_again hcmp hne hw hz hy hv hlast ht).trans (if_pos ⟨h1, h24⟩)))
  · exact fun dt x t0 lead trail w z y v s u hu hcmp hne hw hz hy hv hlast ht hx => (exec_coreMismatch ..).trans (next_of_afterEv hu
      ((coreMismatch_again hcmp hne hw hz hy hv hlast ht).trans (if_neg (by omega))))
  · exact fun dt x lead trail s u hu h => (exec_coreMismatch ..).trans (next_of_afterEv hu (coreMismatch_none h))
  · exact fun s x h1 h18 => withholdWork_plumb h1 h18
  · exact fun s x => rfl
  · exact fun dt x s u hu h5 h0 h25 => (exec_tileResyncDone ..).trans (next_of_after hu (resyncDone_pair h5 h0 h25))
  · exact fun dt t0 v s u hu h5 ht0 ht hv hs => (exec_tileResyncDone ..).trans (next_of_after hu (resyncDone_stake h5 ht0 ht hv hs))
  · exact fun dt x s u hu h => (exec_tileResyncDone ..).trans (next_of_after hu (resyncDone_none h))
  · exact fun dt x t0 s u hu h ht => (exec_warnEnd ..).trans (next_of_after hu ((warnEnd_of h).trans (if_pos ht)))
  · exact fun dt x t0 s u hu h ht => (exec_warnEnd ..).trans (next_of_after hu ((warnEnd_of h).trans (if_neg (Nat.not_le.mpr ht))))
  · intro dt x k n s u hu hmis hcmp hd hpos hn h15
    refine (exec_agreementDisagree ..).trans (next_of_afterEv hu
      ((disagree_counts (m := n + 1) hmis hcmp hd (if_pos ⟨by omega, by omega⟩) rfl).trans (if_neg (by omega))))
  · intro dt x k s u hu hmis hcmp hd
    refine (exec_agreementDisagree ..).trans (next_of_afterEv hu
      ((disagree_counts (m := 1) hmis hcmp hd (if_neg (by simp)) rfl).trans (if_neg (by omega))))
  · intro dt x k v s u hu hmis hcmp hd hpos hv
    refine (exec_agreementDisagree ..).trans (next_of_afterEv hu
      ((disagree_counts (m := 16) hmis hcmp hd (if_pos ⟨by omega, by omega⟩) hv).trans (if_pos rfl)))
  · exact fun dt x k s u hu h => (exec_agreementDisagree ..).trans (next_of_afterEv hu (disagree_mismatch h))
  · intro dt x r d v s u hu hcmp hdue hnew hr hv
    refine (exec_checkerTest ..).trans (next_of_afterEv hu ((checkerTest_due hcmp hdue hnew).trans ((if_neg (by simp [hr])).trans ((if_pos rfl).trans ?_))))
    unfold State.testPassed
    dsimp only
    rw [hv]
    rfl
  · intro dt x r d v s u hu hcmp hdue hnew hr hv
    refine (exec_checkerTest ..).trans (next_of_afterEv hu
      ((checkerTest_due hcmp hdue hnew).trans ((if_neg (by simp [hr])).trans ((if_neg Bool.false_ne_true).trans ?_))))
    rw [hv]
  · exact fun dt x r d same s u hu hcmp hdue hnew hr =>
      (exec_checkerTest ..).trans (next_of_afterEv hu ((checkerTest_due hcmp hdue hnew).trans (if_pos hr)))
  · exact fun dt x r same s u hu h => (exec_checkerTest ..).trans (next_of_afterEv hu (checkerTest_none h))
  · exact fun s x h => if_neg (Nat.not_lt.mpr h)
  · exact fun dt x slot at_ s u hu hc ht hrel => (exec_splitComplete ..).trans (next_of_afterEv hu (splitDone_splits hc ht hrel))
  · exact fun dt x slot at_ s u hu hc ht => (exec_splitComplete ..).trans (next_of_afterEv hu (splitDone_late hc ht))
  · exact fun dt x s u hu hc => (exec_splitComplete ..).trans (next_of_afterEv hu (splitDone_none hc))
  · exact fun dt x r slot at_ id w v s u hu hc ht hid h1 h2 hw hv hr =>
      (exec_joinComplete ..).trans (next_of_afterEv hu ((joinDone_joins hc ht hid h1 h2 hw hv).trans (if_pos hr)))
  · exact fun dt x r slot at_ id w v s u hu hc ht hid h1 h2 hw hv hr =>
      (exec_joinComplete ..).trans (next_of_afterEv hu ((joinDone_joins hc ht hid h1 h2 hw hv).trans (if_neg (by simp [hr]))))
  · exact fun dt x r slot at_ s u hu hc ht => (exec_joinComplete ..).trans (next_of_afterEv hu (joinDone_late hc ht))
  · exact fun dt x r slot at_ s u hu hc ht hrel => (exec_joinComplete ..).trans (next_of_afterEv hu (joinDone_waits hc ht hrel))

end Sys2Proof.Proofs
end

section
/-!
PROOFS. The role decision, the frames of the pair link and its lanes (12 R263 to R283).
-/
namespace Sys2Proof.Proofs
open Sys2Proof Sys2Proof.Machine

/-! ### Commands of the pair and frames of its link -/

section
variable {dt : Nat} {s t u : State} {h : LinkHdr} (f : State → State)

theorem next_of_afterPair (hu : s.clock dt ((s.advance dt).pairEvs f) = u) (hf : f u = t) : afterPair dt s f = .next t :=
  next_of_afterEv hu hf

theorem next_of_plainFrame (hu : s.clock dt ((s.advance dt).linkEvs h (fun s => s.rxPlain h f)) = u) (hf : u.rxPlain h f = t) :
    plainFrame dt h s f = .next t :=
  next_of_afterEv (f := fun s => s.rxPlain h f) hu hf

theorem next_of_seqFrame {es : List Ev} (hu : s.clock dt (es ++ (s.advance dt).linkEvs h (fun s => s.rxSeqd h f)) = u) (hf : u.rxSeqd h f = t) :
    seqFrame dt h es s f = .next t :=
  next_of_afterEv (f := fun s => s.rxSeqd h f) hu hf

end

/-! ### The role decision -/

section
variable {u v : State} {same : Bool} {t0 t1 : Nat} {f : State → State}

/-- At step 5 of the start-up with no role yet, the decision that is due is made in step 6. -/
theorem roleDecision_decided (hrole : u.role = 0) (hstep : u.regF Reg.PWR_START_STS 3 0 = 5) (hat : u.pwr.roleAt = none)
    (hv : ({ u with pwr := { u.pwr with roleAt := some u.sclk } } : State).setRegF Reg.PWR_START_STS 3 0 6 = v)
    (hf : u.decision same = some f) : u.roleDecision same = f v := by
  unfold State.roleDecision
  simp only [hrole, hstep, hat, hf, hv, ne_eq, not_true_eq_false, decide_false, Bool.or_self, Option.isSome_none, Bool.false_eq_true, if_false]

theorem roleDecision_undecided (hf : u.decision same = none) : u.roleDecision same = u := by
  unfold State.roleDecision
  simp only [hf, ite_self]

theorem roleDecision_other (h : u.role ≠ 0 ∨ u.regF Reg.PWR_START_STS 3 0 ≠ 5 ∨ u.pwr.roleAt.isSome = true) : u.roleDecision same = u := by
  refine if_pos ?_
  rcases h with h | h | h <;> simp [h]

theorem decision_unheard (hlast : u.pair.lastLink = none) (hlisten : u.pwr.listenAt = some t0) (ht : t0 + 50 * msClk ≤ u.sclk) :
    u.decision same = some State.decideAlone := by
  unfold State.decision
  simp only [hlast, hlisten, ht, decide_true, if_true]

section
variable {c : Nat} (hlast : u.pair.lastLink = some c)
include hlast

theorem decision_running (hp : u.partner = 1 ∨ u.partner = 2) :
    u.decision same = some (if same then State.decideStandby else fun s => s.decideOut true) := by
  unfold State.decision
  rcases hp with hp | hp <;> simp only [hlast, hp]

theorem decision_alone (hp : u.partner = 6 ∨ (u.partner = 0 ∧ u.slotId = 0)) : u.decision same = some State.decideAlone := by
  unfold State.decision
  rcases hp with hp | ⟨hp, hs⟩
  · simp only [hlast, hp]
  · simp only [hlast, hp, hs, if_true]

theorem decision_slotB (hp : u.partner = 0) (hs : u.slotId ≠ 0) : u.decision false = some (fun s => s.decideOut true) := by
  unfold State.decision
  simp only [hlast, hp, hs, if_false, Bool.not_false, if_true]

theorem decision_slotB_late (hp : u.partner = 0) (hs : u.slotId ≠ 0) (hh : u.pair.heard = some t1) (ht : t1 + 5000 * msClk ≤ u.sclk) :
    u.decision true = some (fun s => s.decideOut false) := by
  unfold State.decision
  simp only [hlast, hp, hs, hh, ht, if_false, Bool.not_true, Bool.false_eq_true, decide_true, if_true]

theorem decision_standby_late (hp : u.partner = 3) (hs : u.pair.standby = some t1) (ht : t1 + 5000 * msClk ≤ u.sclk) :
    u.decision same = some State.decideAlone := by
  unfold State.decision
  simp only [hlast, hp, hs, ht, decide_true, if_true]

end
end

/-! ### Frames that are heard -/

section
variable {u v w x : State} {h : LinkHdr} {f : State → State}

theorem hearLink_known (he : h.epoch ≤ u.epoch) :
    u.hearLink h = { u with pair := { u.pair with lastLink := some u.sclk, lastAny := some u.sclk, silent := false, heardEpoch := some h.epoch } } :=
  if_neg (Nat.not_lt.mpr he)

theorem hearLink_fences (he : u.epoch < h.epoch) (hrun : u.runs = true)
    (hv : ({ u with pair := { u.pair with lastLink := some u.sclk, lastAny := some u.sclk, silent := false, heardEpoch := some h.epoch } } : State) = v) :
    u.hearLink h = (v.fence 1).setRegB Reg.TRV_SW_STS 3 false := by
  have hvrun : v.runs = true := by rw [← hv]; exact hrun
  unfold State.hearLink
  dsimp only
  rw [hv]
  refine (if_pos (by rw [← hv]; exact he)).trans (if_pos (by rw [hvrun]; rfl))

theorem rxPlain_up (hup : u.laneUp h.lane = true) (hv : u.hearLink h = v) : u.rxPlain h f = f v := by
  unfold State.rxPlain
  rw [if_pos hup, hv]

section
variable (hup : u.laneUp h.lane = true) (hv : u.hearLink h = v) (hst : v.takesStream = true)
include hup hv hst

theorem rxSeqd_next (hq : h.seq = v.pair.rxSeq + 1 ∨ v.pair.rxSeq = 0) (hw : v.acceptSeq h.seq = w) :
    u.rxSeqd h f = (f w).sendPlain (.ack h.seq) := by
  have hq' : (decide (h.seq = v.pair.rxSeq + 1) || decide (v.pair.rxSeq = 0)) = true := by simpa using hq
  refine (rxPlain_up hup hv).trans ?_
  simp only [hst, hq', hw, Bool.not_true, Bool.false_eq_true, if_false, if_true]

theorem rxSeqd_other (hq : h.seq ≠ v.pair.rxSeq + 1) (h0 : v.pair.rxSeq ≠ 0) : u.rxSeqd h f = v.sendPlain (.ack v.pair.rxSeq) := by
  refine (rxPlain_up hup hv).trans ?_
  simp only [hst, hq, h0, decide_false, Bool.or_self, Bool.not_true, Bool.false_eq_true, if_false]

end

/-- A partner that becomes a standby is noted with its instant. -/
theorem heardRole_standby (hp : u.partner ≠ 3) (hs : u.pair.standby = none)
    (hv : ({ (u.setRegF Reg.PAIR_ROLE 6 4 3) with pair := { u.pair with silent := false, heard := some u.sclk, standby := some u.sclk } } : State) = v)
    (hrole : v.role ≠ 3) : u.heardRole 3 = v := by
  have hnote : (u.setRegF Reg.PAIR_ROLE 6 4 3).noteHeard u.partner 3 = v := by
    rw [← hv]
    unfold State.noteHeard
    simp only [hp, State.setRegF_pair, hs, State.setRegF_sclk, if_false, if_true, (show (3 : Nat) ≠ 0 by decide)]
  unfold State.heardRole
  simp only [hnote, if_true, hrole, decide_false, Bool.false_and, Bool.false_eq_true, if_false]

/-- A partner that leaves the running roles is lost to its standby. -/
theorem heardRole_lost {r : Nat} (hrun : runningRole u.partner = true) (hr : runningRole r = false) (h3 : r ≠ 3) (h0 : r ≠ 0) (hne : u.partner ≠ r)
    (hv : ({ (u.setRegF Reg.PAIR_ROLE 6 4 r) with pair := { u.pair with silent := false, heard := some u.sclk, standby := none } } : State) = v)
    (hw : v.follow false = w) (hrole : w.role = 3) : u.heardRole r = w.declareLoss := by
  have hnote : (u.setRegF Reg.PAIR_ROLE 6 4 r).noteHeard u.partner r = v := by
    rw [← hv]
    unfold State.noteHeard
    simp only [hne, h3, h0, State.setRegF_pair, State.setRegF_sclk, if_false]
  unfold State.heardRole
  simp only [hnote, h3, if_false, hw, hrole, hrun, hr, decide_true, Bool.not_false, Bool.and_self, if_true]

theorem keepaliveRx_role {r c : Nat} {ready : Bool} (hw : v.heardRole r = w) (h : (w.runs || decide (w.role = 5)) = false ∨ r ≠ 3) :
    v.keepaliveRx r ready c = w := by
  unfold State.keepaliveRx
  simp only [hw]
  refine if_pos ?_
  rcases h with h | h <;> simp [h]

theorem keepaliveRx_standby {c : Nat} {ready : Bool} (hw : v.heardRole 3 = w) (hrun : (w.runs || decide (w.role = 5)) = true)
    (hx : (w.setReg Reg.PAIR_GEN_DONE (w32 c)).follow ready = x) :
    v.keepaliveRx 3 ready c = if x.pair.stream = false ∨ (ready = false ∧ w.regB Reg.PAIR_STS 0 = true) then x.startCopy else x := by
  unfold State.keepaliveRx
  simp only [hw, hrun, hx, Bool.not_true, ne_eq, not_true_eq_false, decide_false, Bool.or_self, Bool.false_eq_true, if_false, Bool.or_eq_true,
    Bool.and_eq_true, Bool.not_eq_true']

end

/-! ### Sending -/

section
variable {u v : State}

theorem emitLink_same (s : State) (f : LinkFrame) : (s.emitLink f).epoch = s.epoch ∧ (s.emitLink f).now = s.now := by
  unfold State.emitLink
  split
  · exact ⟨rfl, rfl⟩
  · exact ⟨rfl, rfl⟩

theorem keepalive_due (h : u.agoAtLeast u.pair.kaSent (10 * usClk) = true)
    (hv : ({ u with pair := { u.pair with kaSent := some u.sclk } } : State) = v) :
    u.keepalive = (v.emitLink ⟨⟨0, false, 0, v.epoch, 0⟩, .keepalive v.role (v.regB Reg.PAIR_STS 0) (v.reg Reg.PAIR_GEN_DONE).toNat⟩).emitLink ⟨⟨1, false, 0, v.epoch, 0⟩, .keepalive v.role (v.regB Reg.PAIR_STS 0) (v.reg Reg.PAIR_GEN_DONE).toNat⟩ := by
  unfold State.keepalive
  simp only [h, hv, Bool.not_true, Bool.false_eq_true, if_false, List.foldl_cons, List.foldl_nil, (emitLink_same v _).1]

theorem timeExchange_due (h : u.agoAtLeast u.pair.timeSent (1000 * usClk) = true)
    (hv : ({ u with pair := { u.pair with timeSent := some u.sclk } } : State) = v) :
    u.timeExchange = (v.emitLink ⟨⟨0, false, 0, v.epoch, 0⟩, .time false (v.now : Int) 0 0⟩).emitLink ⟨⟨1, false, 0, v.epoch, 0⟩, .time false (v.now : Int) 0 0⟩ := by
  unfold State.timeExchange
  simp only [h, hv, Bool.not_true, Bool.false_eq_true, if_false, List.foldl_cons, List.foldl_nil, emitLink_same v]

theorem timeRx_response {l : Nat} {t1 t2 t3 delay : Int} (h3 : v.regB Reg.TIM_CTL 3 = true) (hp : v.ptpRole ≠ 0)
    (hd : (((v.now : Int) - t1) - (t3 - t2)) / 2 = delay) :
    v.timeRx l true t1 t2 t3 = v.measured ((v.now : Int) - (t3 + delay)) delay 1000000 := by
  unfold State.timeRx
  simp only [Bool.not_true, Bool.false_eq_true, if_false, h3, hp, ne_eq, not_false_eq_true, decide_true, Bool.and_self, if_true, hd]

theorem timeRx_unused {l : Nat} {t1 t2 t3 : Int} (h : v.regB Reg.TIM_CTL 3 = false ∨ v.ptpRole = 0) : v.timeRx l true t1 t2 t3 = v := by
  refine if_neg ?_
  rcases h with h | h <;> simp [h]

theorem ackUpTo_of {n : Nat} {w : State} (hw : ({ v with pair := { v.pair with window := v.pair.window.filter (fun p => n < p.1.hdr.seq) } } : State) = w) :
    v.ackUpTo n = if w.windowBytes ≤ 2 * 2 ^ 20 then w.setRegB Reg.PAIR_STS 2 false else w := by
  unfold State.ackUpTo
  dsimp only
  rw [hw]

theorem retransmit_due {f : LinkFrame} {t0 : Nat} {r : List (LinkFrame × Nat)} (hw : u.pair.window = (f, t0) :: r) (ht : t0 + 20 * usClk ≤ u.sclk)
    (hc : u.carrying.isSome = true) : u.retransmit = (u.countF Reg.PAIR_RETX 31 0 (r.length + 1)).resend := by
  unfold State.retransmit
  simp only [hw, ht, hc, decide_true, Bool.and_self, if_true, List.length_cons]

theorem retransmit_early {f : LinkFrame} {t0 : Nat} {r : List (LinkFrame × Nat)} (hw : u.pair.window = (f, t0) :: r) (ht : u.sclk < t0 + 20 * usClk) :
    u.retransmit = u := by
  unfold State.retransmit
  simp only [hw, Nat.not_le.mpr ht, decide_false, Bool.false_and, Bool.false_eq_true, if_false]

end

/-! ### Lanes -/

section
variable {u v : State} {l : Nat}

theorem crcError_counted {a : Nat} {ts : List Nat} (hl : l ≤ 1) (hup : u.laneUp l = true)
    (ha : (if l = 0 then Reg.PAIR_LANE0_CRC else Reg.PAIR_LANE1_CRC) = a)
    (hts : (u.now :: (sget [] u.pair.crcTimes l).filter (fun t => u.now < t + 1000000000)).take 16 = ts)
    (hv : ({ u.countF a 31 0 1 with pair := { u.pair with crcTimes := sput [] u.pair.crcTimes l ts } } : State) = v) :
    u.crcError l = if ts.length < 16 then v else ((v.setLane l 4).noteRetired (.lane l)).moveTraffic := by
  subst ha hts hv
  exact if_neg (by simp [hup, Nat.not_lt.mpr hl])

theorem crcError_down (hup : u.laneUp l = false) : u.crcError l = u := if_pos (by simp [hup])

section
variable (hl : l ≤ 1)
include hl

theorem laneLink_down (h4 : u.lane l ≠ 4) : u.laneLink l false = (u.setLane l 0).moveTraffic :=
  (if_neg (by simp [h4, Nat.not_lt.mpr hl])).trans (if_pos rfl)

theorem laneLink_up (h2 : u.lane l < 2) :
    u.laneLink l true = (u.setLane l (if u.carrying.isNone && (l = 0 || u.lane 0 ≠ 1) then 2 else 3)).moveTraffic := by
  have h4 : u.lane l ≠ 4 := by omega
  exact (if_neg (by simp [h4, Nat.not_lt.mpr hl])).trans ((if_neg (by simp)).trans (if_neg (Nat.not_le.mpr h2)))

end

theorem laneLink_none {up : Bool} (h : u.lane l = 4 ∨ (up = true ∧ 2 ≤ u.lane l)) : u.laneLink l up = u := by
  unfold State.laneLink
  rcases h with h | ⟨rfl, h⟩
  · simp [h]
  · simp [h]

end

/-- Settles O46: what the module decides, hears, sends and does with its lanes. -/
theorem pairLinkAndRoles : Obligations.PairLinkAndRoles := by
  refine ⟨?_, ?_, ?_, ?_, ?_, ?_, ?_, ?_, ?_, ?_, ?_, ?_, ?_, ?_, ?_, ?_, ?_, ?_, ?_, ?_, ?_, ?_, ?_, ?_, ?_, ?_, ?_, ?_, ?_, ?_, ?_, ?_, ?_, ?_, ?_, ?_, ?_, ?_, ?_⟩
  · exact fun dt v same t0 s u hu hrole hstep hat hv hlast hlisten ht => (exec_roleDecision ..).trans (next_of_afterPair (fun s => s.roleDecision _) hu
      (roleDecision_decided hrole hstep hat hv (decision_unheard hlast hlisten ht)))
  · exact fun dt v t0 s u hu hrole hstep hat hv hlast hp => (exec_roleDecision ..).trans (next_of_afterPair (fun s => s.roleDecision _) hu
      (roleDecision_decided (f := State.decideStandby) hrole hstep hat hv (decision_running hlast hp)))
  · exact fun dt v t0 s u hu hrole hstep hat hv hlast hp => (exec_roleDecision ..).trans (next_of_afterPair (fun s => s.roleDecision _) hu
      (roleDecision_decided (f := fun s => s.decideOut true) hrole hstep hat hv (decision_running hlast hp)))
  · exact fun dt v same t0 s u hu hrole hstep hat hv hlast hp => (exec_roleDecision ..).trans (next_of_afterPair (fun s => s.roleDecision _) hu
      (roleDecision_decided hrole hstep hat hv (decision_alone hlast hp)))
  · exact fun dt v t0 s u hu hrole hstep hat hv hlast hp hs => (exec_roleDecision ..).trans (next_of_afterPair (fun s => s.roleDecision _) hu
      (roleDecision_decided (f := fun s => s.decideOut true) hrole hstep hat hv (decision_slotB hlast hp hs)))
  · exact fun dt v t0 t1 s u hu hrole hstep hat hv hlast hp hs hh ht => (exec_roleDecision ..).trans (next_of_afterPair (fun s => s.roleDecision _) hu
      (roleDecision_decided (f := fun s => s.decideOut false) hrole hstep hat hv (decision_slotB_late hlast hp hs hh ht)))
  · exact fun dt v same t0 t1 s u hu hrole hstep hat hv hlast hp hs ht => (exec_roleDecision ..).trans (next_of_afterPair (fun s => s.roleDecision _) hu
      (roleDecision_decided hrole hstep hat hv (decision_standby_late hlast hp hs ht)))
  · exact fun dt same s u hu hf => (exec_roleDecision ..).trans (next_of_afterPair (fun s => s.roleDecision _) hu (roleDecision_undecided hf))
  · exact fun dt same s u hu h => (exec_roleDecision ..).trans (next_of_afterPair (fun s => s.roleDecision _) hu (roleDecision_other h))
  · intro s e he
    unfold State.decideAlone
    rw [he]
    rfl
  · exact fun s h he => hearLink_known he
  · exact fun s v h he hrun hv => hearLink_fences he hrun hv
  · exact fun dt h v w r cause s u hu hup hv hst hq hw => (exec_pairRoleNotice ..).trans (next_of_seqFrame (fun s => s.heardRole r) hu
      (rxSeqd_next hup hv hst hq hw))
  · exact fun dt r cause h s u v hu hup hv hst hq h0 => (exec_pairRoleNotice ..).trans (next_of_seqFrame (fun s => s.heardRole r) hu (rxSeqd_other hup hv hst hq h0))
  · exact fun s v hp hs hv hrole => heardRole_standby hp hs hv hrole
  · exact fun s v w r hrun hr h3 h0 hne hv hw hrole => heardRole_lost hrun hr h3 h0 hne hv hw hrole
  · exact fun dt h v r complete ready w s u hu hup hv hw hr => (exec_pairKeepalive ..).trans (next_of_afterEv
      (f := fun s => s.rxPlain h (fun s => s.keepaliveRx r ready complete)) hu ((rxPlain_up hup hv).trans (keepaliveRx_role hw hr)))
  · intro dt h v complete ready w x s u hu hup hv hw hrun hx hstream hready
    refine (exec_pairKeepalive ..).trans (next_of_afterEv (f := fun s => s.rxPlain h (fun s => s.keepaliveRx 3 ready complete)) hu
      ((rxPlain_up hup hv).trans ((keepaliveRx_standby hw hrun hx).trans (if_neg ?_))))
    rcases hready with hr | hr <;> simp [hstream, hr]
  · intro dt h v complete ready w x s u hu hup hv hw hrun hx hcopy
    exact (exec_pairKeepalive ..).trans (next_of_afterEv (f := fun s => s.rxPlain h (fun s => s.keepaliveRx 3 ready complete)) hu
      ((rxPlain_up hup hv).trans ((keepaliveRx_standby hw hrun hx).trans (if_pos hcopy))))
  · exact fun dt v s u hu h hv => (exec_keepaliveSend ..).trans (next_of_after hu (keepalive_due h hv))
  · exact fun dt v s u hu h hv => (exec_timeExchange ..).trans (next_of_after hu (timeExchange_due h hv))
  · exact fun dt s u hu h => (exec_keepaliveSend ..).trans (next_of_after hu (if_pos (by simp [h])))
  · exact fun dt s u hu h => (exec_timeExchange ..).trans (next_of_after hu (if_pos (by simp [h])))
  · exact fun dt h v t1 t2 t3 s u hu hup hv => (exec_pairTime ..).trans (next_of_plainFrame
      (fun s => s.timeRx h.lane false t1 t2 t3) hu (rxPlain_up hup hv))
  · exact fun dt h v t1 t2 t3 delay s u hu hup hv h3 hp hd => (exec_pairTime ..).trans (next_of_plainFrame
      (fun s => s.timeRx h.lane true t1 t2 t3) hu ((rxPlain_up hup hv).trans (timeRx_response h3 hp hd)))
  · exact fun dt h v t1 t2 t3 s u hu hup hv hoff => (exec_pairTime ..).trans (next_of_plainFrame
      (fun s => s.timeRx h.lane true t1 t2 t3) hu ((rxPlain_up hup hv).trans (timeRx_unused hoff)))
  · exact fun dt h v n w s u hu hup hv hw hb => (exec_pairAck ..).trans (next_of_plainFrame
      (fun s => s.ackUpTo n) hu ((rxPlain_up hup hv).trans ((ackUpTo_of hw).trans (if_pos hb))))
  · exact fun dt h v n w s u hu hup hv hw hb => (exec_pairAck ..).trans (next_of_plainFrame
      (fun s => s.ackUpTo n) hu ((rxPlain_up hup hv).trans ((ackUpTo_of hw).trans (if_neg (Nat.not_le.mpr hb)))))
  · exact fun dt f t0 r s u hu hw ht hc => (exec_retransmit ..).trans (next_of_after hu (retransmit_due hw ht hc))
  · exact fun dt f t0 r s u hu hw ht => (exec_retransmit ..).trans (next_of_after hu (retransmit_early hw ht))
  · exact fun dt l a ts v s u hu hl hup ha hts hv => (exec_pairFrameCrcError ..).trans (next_of_afterEv hu (crcError_counted hl hup ha hts hv))
  · exact fun dt l s u hu hup => (exec_pairFrameCrcError ..).trans (next_of_afterEv hu (crcError_down hup))
  · exact fun dt l s u hu hl h4 => (exec_pairLaneLinkChange ..).trans (next_of_after hu (laneLink_down hl h4))
  · intro dt l s u hu hl h2 hc h0
    have hcarry : (u.carrying.isNone && (decide (l = 0) || decide (u.lane 0 ≠ 1))) = true := by
      rcases h0 with h | h <;> simp [hc, h]
    refine (exec_pairLaneLinkChange ..).trans (next_of_after hu ((laneLink_up hl h2).trans ?_))
    rw [if_pos hcarry]
  · intro dt s u hu h2 hc h0
    refine (exec_pairLaneLinkChange ..).trans (next_of_after hu ((laneLink_up (by omega) h2).trans ?_))
    rw [if_neg (by simp [h0])]
  · exact fun dt l up s u hu h => (exec_pairLaneLinkChange ..).trans (next_of_after hu (laneLink_none h))
  · intro dt l s u hu hl h2 hc
    refine (exec_pairLaneLinkChange ..).trans (next_of_after hu ((laneLink_up hl h2).trans ?_))
    rw [if_neg (by simp [Option.isNone_eq_false_iff.mpr hc])]
  · exact fun dt s u hu => (exec_partnerInsertion ..).trans (next_of_after hu rfl)
  · exact fun dt s u hu => (exec_partnerPresentLoss ..).trans (next_of_after hu rfl)

end Sys2Proof.Proofs
end

section
/-!
PROOFS. Checkpoints: the stream that a standby applies, its copies, and the generations of the module that runs the line (12 R284 to R296).
-/
namespace Sys2Proof.Proofs
open Sys2Proof Sys2Proof.Machine

/-! ### The stream at the standby -/

section
variable {w x y : State}

theorem deltaRx_apart {rs : List DeltaRec} (ha : w.appliesRecs = false) (gen : Nat) : w.deltaRx gen rs = w := if_pos (by simp [ha])

theorem deltaRx_noGen {rs : List DeltaRec} (ha : w.appliesRecs = true) {gen : Nat} (hg : gen = 0) : w.deltaRx gen rs = w.putRecs rs :=
  (if_neg (by simp [ha])).trans (if_pos hg)

/-- In a generation what the records overwrite is kept first. -/
theorem deltaRx_gen {rs : List DeltaRec} {gen : Nat} (ha : w.appliesRecs = true) (hg : gen ≠ 0) (hx : w.keepUndo gen (w.swapUndo rs) = x)
    (hy : (rs.foldl (State.genRec gen) x).putRecs (rs.filter (fun r => (activeItem r).isSome)) = y) :
    w.deltaRx gen rs = if 2 ^ 21 < y.undoBytes then y.unready else y := by
  unfold State.deltaRx
  simp only [ha, hg, hx, hy, Bool.not_true, Bool.false_eq_true, if_false]

/-- One image record in a generation. -/
theorem genRec_image {gen sp k n : Nat} {ws : List Word}
    (hx : (({ w with pair := w.pair.onGen gen (fun g => { g with undo := .image sp k n ((List.range ws.length).map (fun q => w.imgW sp k (n + q))) :: g.undo, recs := g.recs ++ [.image sp k n ws] }) } : State).setImgWords sp k n ws) = x) :
    (([.image sp k n ws] : List DeltaRec).foldl (State.genRec gen) (w.keepUndo gen (w.swapUndo [.image sp k n ws]))).putRecs
      (([.image sp k n ws] : List DeltaRec).filter (fun r => (activeItem r).isSome)) = x := by
  have hswap : w.swapUndo [.image sp k n ws] = [] := by
    simp [State.swapUndo, activeItem]
  have hkeep : w.keepUndo gen [] = w := if_pos rfl
  have hput : ∀ s : State, s.putRecs [] = s := fun s => by simp [State.putRecs]
  have hrec : State.genRec gen w (.image sp k n ws) = x := hx
  rw [hswap, hkeep, List.foldl_cons, List.foldl_nil, hrec]
  exact hput x

section
variable {g n digest : Nat} {rs : List DeltaRec}

theorem genCloseRx_apart (ha : w.appliesRecs = false) : w.genCloseRx g n digest = w := if_pos (by simp [ha])

/-- The records a standby holds of a generation. -/
theorem genCloseRx_of (ha : w.appliesRecs = true) (hrs : (w.pair.gens.find? (fun y => y.gen = g)).elim [] GenLog.recs = rs) :
    w.genCloseRx g n digest = if endsOf rs = n ∧ recDigest rs = digest ∧ (w.pair.gen = 0 ∨ g = nextGen w.pair.gen) then
      { w.setReg Reg.PAIR_GEN_DONE (w32 g) with pair := { w.pair with gens := w.pair.gens.filter (fun y => y.gen ≠ g), gen := g, joined := w.pair.copied } }
    else { w.unready with pair := { w.unready.pair with gen := 0 } } := by
  unfold State.genCloseRx
  cases hf : w.pair.gens.find? (fun y => y.gen = g) with
  | none =>
    rw [hf] at hrs
    change [] = rs at hrs
    subst hrs
    simp only [ha, Bool.not_true, Bool.false_eq_true, if_false, Bool.and_eq_true, Bool.or_eq_true, decide_eq_true_eq, and_assoc]
  | some l =>
    rw [hf] at hrs
    change l.recs = rs at hrs
    subst hrs
    simp only [ha, Bool.not_true, Bool.false_eq_true, if_false, Bool.and_eq_true, Bool.or_eq_true, decide_eq_true_eq, and_assoc]

end

section
variable {epoch addr : Nat} {bytes : List Byte} {rs : List DeltaRec}

theorem resyncRx_apart (hr : w.role ≠ 3) : w.resyncRx epoch addr bytes rs = w := if_pos hr

theorem resyncRx_copies (hr : w.role = 3) (hj : w.pair.joining = true) (hp : w.pair.progIn = []) (he : epoch ≤ w.epoch)
    (ha : inSram addr = true ∨ inLpd addr = true) : w.resyncRx epoch addr bytes rs = (w.dmaWrite addr bytes).putRecs rs := by
  have haddr : (inSram addr || inLpd addr) = true := by simpa using ha
  unfold State.resyncRx
  simp only [hr, hj, hp, Nat.not_lt.mpr he, haddr, ne_eq, not_true_eq_false, decide_false, Bool.not_true, Bool.or_self, Bool.false_eq_true, if_false, if_true]

theorem resyncRx_begins (hr : w.role = 3) (hj : w.pair.joining = false ∨ w.pair.progIn ≠ [] ∨ w.epoch < epoch) (hx : w.beginJoin epoch = x)
    (h1 : inSram addr = false) (h2 : inLpd addr = false) : w.resyncRx epoch addr bytes rs = x.putRecs rs := by
  have hbegin : (!w.pair.joining || decide (w.pair.progIn ≠ []) || decide (w.epoch < epoch)) = true := by
    rcases hj with h | h | h <;> simp [h]
  unfold State.resyncRx
  simp only [hr, hbegin, hx, h1, h2, ne_eq, not_true_eq_false, Bool.or_self, Bool.false_eq_true, if_false, if_true]

end

theorem programRx_apart {ofs : Nat} {bytes : List Byte} (hr : w.role ≠ 3) : w.programRx ofs bytes = w := if_pos hr

theorem programRx_stores {ofs : Nat} {bytes : List Byte} (hr : w.role = 3) : w.programRx ofs bytes =
    { w with pair := { w.pair with progIn := (List.range bytes.length).foldl (fun m k => sput 0 m (ofs + k) (bytes.getD k 0)) w.pair.progIn } } :=
  if_neg (not_not_intro hr)

end

/-! ### Copies and generations of the module -/

section
variable {u v t : State}

theorem copyEnd_of (h1 : u.regB Reg.PAIR_STS 1 = true) (hr : (u.runs || decide (u.role = 5) || decide (u.role = 3)) = true)
    (ht : (u.setRegB Reg.PAIR_STS 1 false).raiseBit 28 5 = t) :
    u.copyEnd = if t.role = 3 then { t with pair := { t.pair with copied := true, joined := false, joining := false } } else t := by
  subst ht
  exact if_neg (by simp [h1, hr])

theorem copyEnd_none (h1 : u.regB Reg.PAIR_STS 1 = false) : u.copyEnd = u := if_pos (by simp [h1])

theorem resyncReady_joined (hr : u.role = 3) (hc : u.pair.copied = true) (hj : u.pair.joined = true) :
    u.resyncReady = (u.keepApp.setRegB Reg.PAIR_STS 4 false).setReady true := if_pos (by simp [hr, hc, hj])

theorem resyncReady_none (h : u.role ≠ 3 ∨ u.pair.copied = false ∨ u.pair.joined = false) : u.resyncReady = u := by
  refine if_neg ?_
  rcases h with h | h | h <;> simp [h]

theorem genBoundary_opens {per k : Nat} (hper : u.regF Reg.PAIR_GEN_CFG 16 0 * 1000 = per) (hk : u.now / per = k) (hpos : 0 < per)
    (hrun : u.runs = true) (hm : u.plm.mode = .task) (hnew : k ≠ u.pair.genAt) :
    u.genBoundary = { u with pair := { (u.pair.onGen u.pair.gen (fun g => { g with past := true })) with gen := nextGen u.pair.gen, genAt := k } } := by
  unfold State.genBoundary
  simp only [hper, hk]
  exact if_neg (by simp [Nat.ne_of_gt hpos, hrun, hm, hnew])

theorem genBoundary_none (h : u.plm.mode ≠ .task ∨ (u.runs = false ∧ u.role ≠ 5) ∨ u.now / (u.regF Reg.PAIR_GEN_CFG 16 0 * 1000) = u.pair.genAt) :
    u.genBoundary = u := by
  refine if_pos ?_
  rcases h with h | ⟨h, h5⟩ | h
  · simp [h]
  · simp [h, h5]
  · simp [h]

theorem genCloseSend_closes {g : GenLog} {r : List GenLog} (hg : u.pair.gens = g :: r) (hrun : u.runs = true) (hp : g.past = true) (h0 : g.running = 0)
    (hv : ({ u with pair := { u.pair with gens := (g :: r).filter (fun x => x.gen ≠ g.gen) } } : State).setReg Reg.PAIR_GEN_SENT (w32 g.gen) = v) :
    u.genCloseSend = if v.streaming then v.sendSeq 0 (.genClose g.gen g.ended (recDigest g.recs)) else v := by
  unfold State.genCloseSend
  simp only [hg, hrun, hp, h0, Bool.true_or, decide_true, Bool.and_self, if_true]
  unfold State.closeGen
  simp only [hg, hv]

theorem genCloseSend_none (hg : u.pair.gens = []) : u.genCloseSend = u := by
  unfold State.genCloseSend
  simp only [hg]

theorem genCloseSend_waits {g : GenLog} {r : List GenLog} (hg : u.pair.gens = g :: r) (h : g.past = false ∨ g.running ≠ 0) : u.genCloseSend = u := by
  unfold State.genCloseSend
  simp only [hg]
  refine if_neg ?_
  rcases h with h | h <;> simp [h]

end

section
variable {u v w x : State} {h : LinkHdr} {f : State → State}

/-- A sequenced frame in order does what its body says, and is acknowledged. -/
theorem rxSeqd_does (hup : u.laneUp h.lane = true) (hv : u.hearLink h = v) (hst : v.takesStream = true)
    (hq : h.seq = v.pair.rxSeq + 1 ∨ v.pair.rxSeq = 0) (hw : v.acceptSeq h.seq = w) (hf : f w = x) :
    u.rxSeqd h f = x.sendPlain (.ack h.seq) := by
  rw [rxSeqd_next hup hv hst hq hw, hf]

end

/-- Settles O47: what each body of the stream does on a standby and on another module, and how generations pass. -/
theorem pairCheckpoint : Obligations.PairCheckpoint := by
  refine ⟨?_, ?_, ?_, ?_, ?_, ?_, ?_, ?_, ?_, ?_, ?_, ?_, ?_, ?_, ?_, ?_, ?_, ?_, ?_, ?_, ?_, ?_⟩
  · exact fun dt h v w rs s u hu hup hv hst hq hw ha hg => (exec_pairDelta ..).trans (next_of_seqFrame (fun s => s.deltaRx h.gen rs) hu
      (rxSeqd_does hup hv hst hq hw (deltaRx_noGen ha hg)))
  · exact fun dt h v w rs s u hu hup hv hst hq hw ha => (exec_pairDelta ..).trans (next_of_seqFrame (fun s => s.deltaRx h.gen rs) hu
      (rxSeqd_does hup hv hst hq hw (deltaRx_apart ha _)))
  · exact fun dt h v w sp k n ws x s u hu hup hv hst hq hw ha hg hx hb => (exec_pairDelta ..).trans (next_of_seqFrame (fun s => s.deltaRx h.gen _) hu
      (rxSeqd_does hup hv hst hq hw ((deltaRx_gen ha hg rfl (genRec_image hx)).trans (if_neg (Nat.not_lt.mpr hb)))))
  · exact fun dt h v w rs x y s u hu hup hv hst hq hw ha hg hx hy => (exec_pairDelta ..).trans (next_of_seqFrame (fun s => s.deltaRx h.gen rs) hu
      (rxSeqd_does hup hv hst hq hw (deltaRx_gen ha hg hx hy)))
  · exact fun dt h v w g n digest rs s u hu hup hv hst hq hw ha hrs hn hd hg => (exec_pairGenClose ..).trans
      (next_of_seqFrame (fun s => s.genCloseRx g n digest) hu (rxSeqd_does hup hv hst hq hw ((genCloseRx_of ha hrs).trans (if_pos ⟨hn, hd, hg⟩))))
  · intro dt h v w g n digest rs s u hu hup hv hst hq hw ha hrs hbad
    have hcond : ¬(endsOf rs = n ∧ recDigest rs = digest ∧ (w.pair.gen = 0 ∨ g = nextGen w.pair.gen)) := by
      rintro ⟨hn, hd, hg⟩
      rcases hbad with hb | hb | ⟨hb0, hb⟩
      · exact hb hn
      · exact hb hd
      · exact hg.elim hb0 hb
    exact (exec_pairGenClose ..).trans (next_of_seqFrame (fun s => s.genCloseRx g n digest) hu
      (rxSeqd_does hup hv hst hq hw ((genCloseRx_of ha hrs).trans (if_neg hcond))))
  · exact fun dt h v w g n digest s u hu hup hv hst hq hw ha => (exec_pairGenClose ..).trans
      (next_of_seqFrame (fun s => s.genCloseRx g n digest) hu (rxSeqd_does hup hv hst hq hw (genCloseRx_apart ha)))
  · exact fun dt h v w addr bytes rs s u hu hup hv hst hq hw hr hj hp he ha => (exec_pairResyncFrame ..).trans
      (next_of_seqFrame (fun s => s.resyncRx h.epoch addr bytes rs) hu (rxSeqd_does hup hv hst hq hw (resyncRx_copies hr hj hp he ha)))
  · exact fun dt h v w addr bytes rs x s u hu hup hv hst hq hw hr hj hx h1 h2 => (exec_pairResyncFrame ..).trans
      (next_of_seqFrame (fun s => s.resyncRx h.epoch addr bytes rs) hu (rxSeqd_does hup hv hst hq hw (resyncRx_begins hr hj hx h1 h2)))
  · exact fun dt h v w addr bytes rs s u hu hup hv hst hq hw hr => (exec_pairResyncFrame ..).trans
      (next_of_seqFrame (fun s => s.resyncRx h.epoch addr bytes rs) hu (rxSeqd_does hup hv hst hq hw (resyncRx_apart hr)))
  · exact fun dt h v w ofs bytes s u hu hup hv hst hq hw hr => (exec_pairProgram ..).trans
      (next_of_seqFrame (fun s => s.programRx ofs bytes) hu (rxSeqd_does hup hv hst hq hw (programRx_stores hr)))
  · exact fun dt h v w ofs bytes s u hu hup hv hst hq hw hr => (exec_pairProgram ..).trans
      (next_of_seqFrame (fun s => s.programRx ofs bytes) hu (rxSeqd_does hup hv hst hq hw (programRx_apart hr)))
  · exact fun dt t s u hu h1 hrun ht h3 => (exec_resyncCopyEnd ..).trans (next_of_after hu ((copyEnd_of h1 (by simp [hrun]) ht).trans (if_neg h3)))
  · exact fun dt t s u hu h1 hr ht h3 => (exec_resyncCopyEnd ..).trans (next_of_after hu ((copyEnd_of h1 (by simp [hr]) ht).trans (if_pos h3)))
  · exact fun dt s u hu h1 => (exec_resyncCopyEnd ..).trans (next_of_after hu (copyEnd_none h1))
  · exact fun dt s u hu hr hc hj => (exec_resyncReady ..).trans (next_of_after hu (resyncReady_joined hr hc hj))
  · exact fun dt s u hu h => (exec_resyncReady ..).trans (next_of_after hu (resyncReady_none h))
  · exact fun dt per k s u hu hper hk hpos hrun hm hnew => (exec_genBoundary ..).trans (next_of_after hu (genBoundary_opens hper hk hpos hrun hm hnew))
  · exact fun dt s u hu h => (exec_genBoundary ..).trans (next_of_after hu (genBoundary_none h))
  · exact fun dt g r v s u hu hg hrun hp h0 hv => (exec_genCloseSend ..).trans (next_of_after hu (genCloseSend_closes hg hrun hp h0 hv))
  · exact fun dt s u hu hg => (exec_genCloseSend ..).trans (next_of_after hu (genCloseSend_none hg))
  · exact fun dt g r s u hu hg h => (exec_genCloseSend ..).trans (next_of_after hu (genCloseSend_waits hg h))

end Sys2Proof.Proofs
end

section
/-!
PROOFS. Loss of the partner, take-over, and planned hand-overs (12 R270, R274 to R283, R297 to R310).
-/
namespace Sys2Proof.Proofs
open Sys2Proof Sys2Proof.Machine

/-! ### Loss and take-over -/

section
variable {u v w x : State}

theorem lossDeclared_silent (hr : u.role = 3) (hs : u.partnerSilent = true) (hn : u.pair.silent = false) : u.lossDeclared = u.declareLoss :=
  if_pos (by simp [hr, hs, hn])

theorem lossDeclared_none (h : u.role ≠ 3 ∨ u.partnerSilent = false ∨ u.pair.silent = true) : u.lossDeclared = u := by
  refine if_neg ?_
  rcases h with h | h | h <;> simp [h]

section
variable (hr : u.role = 3) (hv : ({ u with pair := { u.pair with silent := true } } : State).raiseBit 28 1 = v)
include hr hv

theorem declareLoss_takesOver (hready : v.regB Reg.PAIR_STS 0 = true) (hallow : v.regB Reg.PAIR_CTL 0 = true)
    (hw : (v.setRole 4).setEpoch (v.epoch + 1) = w) (hx : w.setReg64 Reg.PAIR_LOSS_T_LO Reg.PAIR_LOSS_T_HI w.now = x) :
    u.declareLoss = (({ x with pair := { x.pair with lossAt := some w.now } } : State).rollback.dropLoaded).setDrive 1 := by
  have hnote : u.noteLoss = v := hv
  have hbegin : v.beginTakeover = { x with pair := { x.pair with lossAt := some w.now } } := by
    unfold State.beginTakeover State.noteLossAt
    rw [hw, ← hx]
    rfl
  unfold State.declareLoss
  simp only [hr, ne_eq, not_true_eq_false, if_false, hnote, hready, hallow, Bool.and_self, if_true, hbegin]

theorem declareLoss_unready (h : v.regB Reg.PAIR_STS 0 = false ∨ v.regB Reg.PAIR_CTL 0 = false) :
    u.declareLoss = v.setRegB Reg.PAIR_STS 4 true := by
  have hnote : u.noteLoss = v := hv
  have hcond : (v.regB Reg.PAIR_STS 0 && v.regB Reg.PAIR_CTL 0) = false := by
    rcases h with h | h <;> simp [h]
  unfold State.declareLoss
  simp only [hr, ne_eq, not_true_eq_false, if_false, hnote, hcond, Bool.false_eq_true]

end

section
variable {l : Nat}

theorem resumeLoss_resumes (hl : u.pair.lossAt = some l) (hr : u.role = 4) (ht : l + 200000 ≤ u.now)
    (hv : (((((u.freshWork.setRole 1).setReady false).setReg Reg.PAIR_RESUME_US (w32 ((u.freshWork.now - l) / 1000))).countF Reg.PAIR_TAKEOVERS 15 0 1).tally 60 1).resumeMode = v)
    (hw : (v.resumeStakes l).resumeSwap = w) : u.resumeLoss = w.driveAll w.allOutputs := by
  unfold State.resumeLoss
  simp only [hl, hr, Nat.not_lt.mpr ht, ne_eq, not_true_eq_false, decide_false, Bool.or_self, Bool.false_eq_true, if_false, hv, hw]

theorem resumeLoss_waits (hl : u.pair.lossAt = some l) (h : u.now < l + 200000 ∨ u.role ≠ 4) : u.resumeLoss = u := by
  unfold State.resumeLoss
  simp only [hl]
  refine if_pos ?_
  rcases h with h | h <;> simp [h]

end

theorem resumeLoss_none (hl : u.pair.lossAt = none) : u.resumeLoss = u := by
  unfold State.resumeLoss
  simp only [hl]

theorem isolation_fences (hr : u.runs = true ∨ u.role = 5) (hp : u.regB Reg.SYS_SLOT 1 = true) (hs : u.allSilent = true) :
    u.isolation = (u.setRegB Reg.PAIR_STS 3 true).fence 1 := by
  refine if_pos ?_
  rcases hr with h | h <;> simp [h, hp, hs]

theorem isolation_none (h : u.allSilent = false ∨ u.regB Reg.SYS_SLOT 1 = false) : u.isolation = u := by
  refine if_neg ?_
  rcases h with h | h <;> simp [h]

theorem partnerSilence_alone (hr : u.runs = true) (hs : u.partnerSilent = true) (hn : u.pair.silent = false) (ha : u.allSilent = false)
    (hv : ({ u with pair := { u.pair with silent := true, stream := false, window := [] } } : State).raiseBit 28 1 = v) :
    u.partnerSilence = (v.setRegB Reg.PAIR_STS 1 false).follow false := by
  subst hv
  exact if_neg (by simp [hr, hs, hn, ha])

theorem partnerSilence_none (hs : u.partnerSilent = false) : u.partnerSilence = u := if_pos (by simp [hs])

end

/-! ### Planned hand-overs -/

section
variable {u v w : State} {a : HandOver}

theorem swapSend_sends {x evt mask : Nat} (ha : u.pair.hand = some a) (hr : u.role = 5) (hs : a.swap = none) (h0 : u.running = 0) (hv : u.closeAll = v)
    (hx : (v.now + 20000 + 999) / 1000 * 1000 = x) (hm : maskOf 32 (fun n => v.taskState n = 1 || v.taskState n = 3) = mask)
    (he : ([0, 1, 2, 3].map (fun n => (v.port n).evtId)).foldl max 0 = evt) :
    u.swapSend = (({ v with pair := { v.pair with hand := some { a with swap := some (v.epoch + 1, x) } } } : State).setReg64 Reg.PAIR_H_LO Reg.PAIR_H_HI x).sendSeq 0 (.swap (v.epoch + 1) x mask evt) := by
  unfold State.swapSend
  simp only [ha, hr, hs, h0, ne_eq, not_true_eq_false, decide_false, Option.isSome_none, Bool.or_self, Bool.false_eq_true, if_false, hv, hx, hm, he]

theorem swapSend_none (h : u.pair.hand = none ∨ u.role ≠ 5 ∨ u.running ≠ 0) : u.swapSend = u := by
  unfold State.swapSend
  cases hh : u.pair.hand with
  | none => rfl
  | some a =>
    refine if_pos ?_
    rcases h with h | h | h
    · simp [hh] at h
    · simp [h]
    · simp [h]

section
variable {e x mask evt : Nat}

theorem swapRx_ready (hr : w.role = 3) (h0 : w.regB Reg.PAIR_STS 0 = true) :
    w.swapRx e x mask evt = (((({ w with pair := { w.pair with swapIn := some (e, x, mask, evt) } } : State).setReg64 Reg.PAIR_H_LO Reg.PAIR_H_HI x).setRegF Reg.PAIR_ROLE 6 4 5).setRole 4) :=
  if_pos (by simp [hr, h0])

theorem swapRx_none (hr : w.role ≠ 3) : w.swapRx e x mask evt = w := if_neg (by simp [hr])

theorem handoverH_out (ha : u.pair.hand = some a) (hs : a.swap = some (e, x)) (hr : u.role = 5) (ht : x ≤ u.now) :
    u.handoverH = u.handedOver a e x := by
  unfold State.handoverH
  simp only [ha, hs, hr, ht, decide_true, Bool.and_self, if_true]

theorem handoverH_in (ha : u.pair.hand = none) (hs : u.pair.swapIn = some (e, x, mask, evt)) (hr : u.role = 4) (ht : x ≤ u.now) :
    u.handoverH = u.tookOver e x mask evt := by
  unfold State.handoverH
  simp only [ha, hs, hr, ht, decide_true, Bool.and_self, if_true]

end

theorem handoverH_none (ha : u.pair.hand = none) (hs : u.pair.swapIn = none) : u.handoverH = u := by
  unfold State.handoverH
  simp only [ha, hs]

theorem handTimeout_ends {n : Nat} (ha : u.pair.hand = some a) (hs : a.swap = none) (hr : u.role = 5) (h0 : u.running ≠ 0)
    (ht : a.at_ + 20000000 ≤ u.now) (hn : a.slot = some n) (hk : a.kind ≠ .activation) :
    u.handTimeout = (({ u with pair := { u.pair with hand := none } } : State).setRole a.former).finishErr n stCancelled := by
  unfold State.handTimeout
  simp only [ha, hs, hr, h0, Nat.not_lt.mpr ht, hn, hk, ne_eq, not_true_eq_false, decide_false, Option.isSome_none, Bool.or_self, Bool.false_eq_true, if_false]

theorem handTimeout_early (ha : u.pair.hand = some a) (ht : u.now < a.at_ + 20000000) : u.handTimeout = u := by
  unfold State.handTimeout
  simp only [ha]
  exact if_pos (by simp [ht])

section
variable {x : Nat} {b : Bool}

theorem outputSwitch_due (ho : u.pair.outputsAt = some (x, b)) (ht : x + 100000 ≤ u.now)
    (hv : ({ u with pair := { u.pair with outputsAt := none, outsAtH := [] } } : State) = v) :
    u.outputSwitch = if b then (if v.runs then v.driveAll u.pair.outsAtH else v) else v.releaseOutputs := by
  subst hv
  unfold State.outputSwitch
  simp only [ho, Nat.not_lt.mpr ht, if_false]

theorem outputSwitch_early (ho : u.pair.outputsAt = some (x, b)) (ht : u.now < x + 100000) : u.outputSwitch = u := by
  unfold State.outputSwitch
  simp only [ho, ht, if_true]

end

theorem removal_running (hon : u.isOn = true) (hr : u.runs = true ∨ u.role = 5) : u.removal = (u.fence 4).closeStretch 3 := by
  have hcond : (u.runs || decide (u.role = 5)) = true := by
    rcases hr with h | h <;> simp [h]
  unfold State.removal
  simp only [hon, hcond, Bool.not_true, Bool.false_eq_true, if_false, if_true]

theorem removal_other (hon : u.isOn = true) (hr : u.runs = false) (h5 : u.role ≠ 5) : u.removal = (u.sendSeq 0 (.role u.role 4)).closeStretch 3 := by
  unfold State.removal
  simp only [hon, hr, h5, Bool.not_true, decide_false, Bool.or_self, Bool.false_eq_true, if_false]

end

/-! ### The trigger of a datum -/

section
variable {u v : State} {d pos t0 x : Nat} {down : Bool} {last : Int} {a : ArmedHand}

theorem pairDatum_none (ha : u.pair.arm = none) : u.pairDatum d = u := by
  unfold State.pairDatum
  simp only [ha]

section
variable (ha : u.pair.arm = some a) (htr : a.trig = .datum d pos down last t0)
include ha htr

theorem pairDatum_watches (hc : u.crossedAt d pos down last t0 = none) :
    u.pairDatum d = { u with pair := { u.pair with arm := some { a with trig := .datum d pos down (u.watch d).1 (u.watch d).2 } } } := by
  unfold State.pairDatum
  simp only [ha, htr, hc, ne_eq, not_true_eq_false, if_false]
  rfl

section
variable (hc : u.crossedAt d pos down last t0 = some x) (hv : u.ahead (State.clocksTo 2 8 (x * 2 ^ 32) u) = v) (hva : v.pair.arm = some a)
  (hr : v.runs = true) (hk : a.kind ≠ .exchange)
include hc hv hva hr hk

theorem pairDatum_crossed : u.pairDatum d = if v.regB Reg.PAIR_STS 0 then v.startHand a.kind (some a.slot)
    else (({ v with pair := { v.pair with arm := none } } : State).setRegB Reg.PAIR_STS 7 false).finishErr a.slot stState := by
  have hasked : v.asked a.kind = v := if_neg hk
  unfold State.pairDatum
  simp only [ha, htr, hc, ne_eq, not_true_eq_false, if_false, hv]
  unfold State.pairTrigger
  simp only [hva, htr, hr, hasked, hk, Bool.not_true, Bool.or_self, Bool.false_eq_true, if_false, ne_eq, not_false_eq_true, decide_true, Bool.true_or,
    Bool.and_true]

end
end
end

/-- Settles O48: what each function of the pair unit does in the state it finds. -/
theorem pairLossAndHandOver : Obligations.PairLossAndHandOver := by
  refine ⟨?_, ?_, ?_, ?_, ?_, ?_, ?_, ?_, ?_, ?_, ?_, ?_, ?_, ?_, ?_, ?_, ?_, ?_, ?_, ?_, ?_, ?_, ?_, ?_, ?_, ?_, ?_, ?_, ?_⟩
  · exact fun dt s u hu hr hs hn => (exec_lossDeclared ..).trans (next_of_afterPair _ hu (lossDeclared_silent hr hs hn))
  · exact fun dt s u hu h => (exec_lossDeclared ..).trans (next_of_afterPair _ hu (lossDeclared_none h))
  · exact fun s v w x hr hv hready hallow hw hx => declareLoss_takesOver hr hv hready hallow hw hx
  · exact fun s v hr hv h => declareLoss_unready hr hv h
  · exact fun dt l v w s u hu hl hr ht hv hw => (exec_takeoverResume ..).trans (next_of_after hu (resumeLoss_resumes hl hr ht hv hw))
  · exact fun dt l s u hu hl h => (exec_takeoverResume ..).trans (next_of_after hu (resumeLoss_waits hl h))
  · exact fun dt s u hu hl => (exec_takeoverResume ..).trans (next_of_after hu (resumeLoss_none hl))
  · exact fun dt s u hu hr hp hs => (exec_isolationTimeout ..).trans (next_of_afterPair _ hu (isolation_fences hr hp hs))
  · exact fun dt s u hu h => (exec_isolationTimeout ..).trans (next_of_afterPair _ hu (isolation_none h))
  · exact fun dt v s u hu hr hs hn ha hv => (exec_partnerSilence ..).trans (next_of_after hu (partnerSilence_alone hr hs hn ha hv))
  · exact fun dt s u hu hs => (exec_partnerSilence ..).trans (next_of_after hu (partnerSilence_none hs))
  · exact fun dt a v x evt mask s u hu ha hr hs h0 hv hx hm he =>
      (exec_swapSend ..).trans (next_of_after hu (swapSend_sends ha hr hs h0 hv hx hm he))
  · exact fun dt s u hu h => (exec_swapSend ..).trans (next_of_after hu (swapSend_none h))
  · exact fun dt h v w e x mask evt s u hu hup hv hst hq hw hr h0 => (exec_pairSwap ..).trans
      (next_of_seqFrame (fun s => s.swapRx e x mask evt) hu (rxSeqd_does hup hv hst hq hw (swapRx_ready hr h0)))
  · exact fun dt h v w e x mask evt s u hu hup hv hst hq hw hr => (exec_pairSwap ..).trans
      (next_of_seqFrame (fun s => s.swapRx e x mask evt) hu (rxSeqd_does hup hv hst hq hw (swapRx_none hr)))
  · exact fun dt a e x s u hu ha hs hr ht => (exec_handoverH ..).trans (next_of_afterEv hu (handoverH_out ha hs hr ht))
  · exact fun dt e x mask evt s u hu ha hs hr ht => (exec_handoverH ..).trans (next_of_afterEv hu (handoverH_in ha hs hr ht))
  · exact fun dt s u hu ha hs => (exec_handoverH ..).trans (next_of_afterEv hu (handoverH_none ha hs))
  · exact fun dt a n s u hu ha hs hr h0 ht hn hk => (exec_handoverTimeout ..).trans (next_of_after hu (handTimeout_ends ha hs hr h0 ht hn hk))
  · exact fun dt a s u hu ha ht => (exec_handoverTimeout ..).trans (next_of_after hu (handTimeout_early ha ht))
  · exact fun dt x s u hu ho ht => (exec_handoverOutputSwitch ..).trans (next_of_after hu ((outputSwitch_due ho ht rfl).trans (if_neg Bool.false_ne_true)))
  · exact fun dt x s u hu ho ht hr =>
      (exec_handoverOutputSwitch ..).trans (next_of_after hu ((outputSwitch_due ho ht rfl).trans ((if_pos rfl).trans (if_pos hr))))
  · exact fun dt x b s u hu ho ht => (exec_handoverOutputSwitch ..).trans (next_of_after hu (outputSwitch_early ho ht))
  · exact fun dt s u hu hon hr => (exec_moduleRemoval ..).trans (next_of_afterEv hu (removal_running hon hr))
  · exact fun dt s u hu hon hr h5 => (exec_moduleRemoval ..).trans (next_of_afterEv hu (removal_other hon hr h5))
  · exact fun dt d pos t0 down last a s u hu ha htr hc => (exec_pairDatumTrigger ..).trans (next_of_afterEv hu (pairDatum_watches ha htr hc))
  · exact fun dt d pos t0 x down last a v s u hu ha htr hc hv hva hr h0 hk => (exec_pairDatumTrigger ..).trans
      (next_of_afterEv (f := fun s => s.pairDatum d) hu ((pairDatum_crossed ha htr hc hv hva hr hk).trans (if_pos h0)))
  · exact fun dt d pos t0 x down last a v s u hu ha htr hc hv hva hr h0 hk => (exec_pairDatumTrigger ..).trans
      (next_of_afterEv (f := fun s => s.pairDatum d) hu ((pairDatum_crossed ha htr hc hv hva hr hk).trans (if_neg (by simp [h0]))))
  · exact fun dt d s u hu ha => (exec_pairDatumTrigger ..).trans (next_of_afterEv (f := fun s => s.pairDatum d) hu (pairDatum_none ha))

end Sys2Proof.Proofs
end

section
/-!
PROOFS. The instants of the channel groups, conversions, levels and fast inputs (13 R302 to R308, R326 to R331).
-/
namespace Sys2Proof.Proofs
open Sys2Proof Sys2Proof.Machine

/-! ### The I/O instant -/

section
variable {u v w : State} {g at_ : Nat}

theorem ioInstant_takes {per : Nat} {vals : List (Nat × Int)} (hper : u.ioPeriod g = per) (hpos : 0 < per) (hat : u.now / per * per = at_)
    (hg : u.hasChan (16 * g) = true) (hnew : (u.grp g).lastIo ≠ at_) (hw : ((u.atInstant g at_).revived g).chMeasured g at_ vals = w) :
    u.ioInstant g vals = if w.dispatches then w.modGrp g (fun x => { x with outs := x.outs ++ [(at_, (w.readOutputs g).filter (fun o => w.mayStand o.1))], ins := x.ins ++ [(at_, (grpChans g).flatMap w.chanIns)] })
      else w := by
  unfold State.ioInstant
  simp only [hper, Nat.ne_of_gt hpos, hat, hg, hnew, hw, decide_false, Bool.not_true, Bool.or_self, Bool.false_eq_true, if_false]
  cases w.dispatches <;> rfl

theorem ioInstant_none {vals : List (Nat × Int)}
    (h : u.ioPeriod g = 0 ∨ u.hasChan (16 * g) = false ∨ (u.grp g).lastIo = u.now / u.ioPeriod g * u.ioPeriod g) : u.ioInstant g vals = u := by
  unfold State.ioInstant
  dsimp only
  refine if_pos ?_
  rcases h with h | h | h
  · simp [h]
  · simp [h]
  · by_cases h0 : u.ioPeriod g = 0
    · simp [h0]
    · simp [h0, h]

section
variable {xs : List (Nat × Nat × Word)} {r : List (Nat × List (Nat × Nat × Word))}

theorem inputWrite_due (hi : (u.grp g).ins = (at_, xs) :: r) (ht : at_ + 60000 ≤ u.now) (hv : u.modGrp g (fun x => { x with ins := r }) = v) :
    u.inputWrite g = if v.dispatches && v.domainOn 9 then xs.foldl State.writeIn v else v := by
  subst hv
  unfold State.inputWrite
  simp only [hi, Nat.not_lt.mpr ht, if_false]

theorem inputWrite_early (hi : (u.grp g).ins = (at_, xs) :: r) (ht : u.now < at_ + 60000) : u.inputWrite g = u := by
  unfold State.inputWrite
  simp only [hi, ht, if_true]

theorem inputWrite_none (hi : (u.grp g).ins = []) : u.inputWrite g = u := by
  unfold State.inputWrite
  simp only [hi]

end

section
variable {xs : List (Nat × Word)} {r : List (Nat × List (Nat × Word))}

theorem outputApply_due (ho : (u.grp g).outs = (at_, xs) :: r) (ht : at_ + 99000 ≤ u.now) (hv : u.modGrp g (fun x => { x with outs := r }) = v) :
    u.outputApply g = if v.domainOn 9 && decide (v.drive g = 2) then v.applyOutputs g xs else v := by
  subst hv
  unfold State.outputApply
  simp only [ho, Nat.not_lt.mpr ht, if_false]

theorem outputApply_early (ho : (u.grp g).outs = (at_, xs) :: r) (ht : u.now < at_ + 99000) : u.outputApply g = u := by
  unfold State.outputApply
  simp only [ho, ht, if_true]

theorem outputApply_none (ho : (u.grp g).outs = []) : u.outputApply g = u := by
  unfold State.outputApply
  simp only [ho]

end

theorem takeUp_value {n : Nat} {x c : Word} (hm : u.mayStand n = true) (hc : u.ctlRuns n = true) (ho : u.outCmd n x = (c, false)) :
    u.takeUp n x = (u.setRegB (Reg.CH_STS n) 10 false).modChan n (fun y =>
      { y with on := true, cmd := c, held := c, changed := if y.on && y.cmd = c then y.changed else u.sclk }) := by
  unfold State.takeUp
  simp only [hm, hc, ho, Bool.not_true, Bool.or_self, Bool.false_eq_true, if_false]
  rfl

theorem takeUp_none {n : Nat} {x : Word} (hm : u.mayStand n = false) : u.takeUp n x = u := if_pos (by simp [hm])

theorem outCmd_cases (u : State) (n : Nat) (x : Word) : (u.chMode n = 3 → u.outCmd n x = (x &&& 1, false)) ∧
    (u.chMode n ≠ 3 → x ≠ 0x80000000 → u.live420 n = true → u.outCmd n x = (valueWord (clampInt 3800000 20500000 x.toInt), false)) ∧
    (u.chMode n ≠ 3 → x ≠ 0x80000000 → u.live420 n = false → u.outCmd n x = (valueWord (clampInt 0 21500000 x.toInt), false)) ∧
    (u.chMode n ≠ 3 → x = 0x80000000 → u.outCmd n x = (u.alarmNa n, true)) := by
  unfold State.outCmd
  refine ⟨fun h3 => if_pos h3, fun h3 hx hl => ?_, fun h3 hx hl => ?_, fun h3 hx => ?_⟩
  · rw [if_neg h3, if_neg hx, if_pos hl]
  · rw [if_neg h3, if_neg hx, if_neg (by simp [hl])]
  · rw [if_neg h3, if_pos hx]

/-! ### Conversions, levels and reconfigurations -/

section
variable {e due : Nat} {vals : List (Nat × Int)}

theorem conversionDone_early (hc : (u.grp g).conv.getLast? = some (e, due)) (ht : u.now < due) : u.conversionDone g vals = u := by
  unfold State.conversionDone
  simp only [hc, ht, if_true]

theorem conversionDone_none (hc : (u.grp g).conv = []) : u.conversionDone g vals = u := by
  unfold State.conversionDone
  simp only [hc, List.getLast?_nil]

theorem conversionDone_writes (hc : (u.grp g).conv.getLast? = some (e, due)) (ht : due ≤ u.now)
    (hv : u.modGrp g (fun x => { x with conv := x.conv.dropLast }) = v) (hg : v.hasChan (16 * g) = true)
    (hw : v.chMeasured g e (vals.filter (fun x => decide (v.chMode x.1 = 4) || decide (v.chMode x.1 = 5))) = w) (hd : w.dispatches = true) :
    u.conversionDone g vals = (((grpChans g).filter (fun n => (decide (v.chMode n = 4) || decide (v.chMode n = 5)) && w.ctlRuns n && ((w.chan n).retired || (!w.notYet n && !(w.chan n).test)))).flatMap w.wordIn).foldl State.writeIn w := by
  unfold State.conversionDone
  simp only [hc, Nat.not_lt.mpr ht, if_false, hv, hg, hw, hd, Bool.not_true, Bool.false_eq_true]

end

theorem reconfigDone_of {n : Nat} : u.reconfigDone n =
    if (u.chan n).reconf then u.modChan n (fun c => { c with reconf := false, fresh := some u.sclk, changed := u.sclk }) else u := rfl

/-! ### Fast inputs -/

section
variable {k back : Nat} {b : Bool}

theorem fiEdge_none (h : (u.fi k).level = b ∨ 8 ≤ k ∨ u.domainOn 9 = false) : u.fiEdge k back b = u := by
  refine if_pos ?_
  rcases h with h | h | h <;> simp [h]

/-- An edge that the input takes: its level and history, its I bit, and its place in the queue. -/
theorem fiEdge_takes (hk : k < 8) (hd : u.domainOn 9 = true) (hl : (u.fi k).level ≠ b)
    (hv : u.setFi k { u.fi k with level := b, hist := ((u.now - back, b) :: (u.fi k).hist).take 16, goneUp := (((u.fi k).hist[15]?).filter (fun x => x.2)).elim (u.fi k).goneUp (fun x => x.1), goneDown := (((u.fi k).hist[15]?).filter (fun x => !x.2)).elim (u.fi k).goneDown (fun x => x.1) } = v)
    (hw : (if (u.fiCfg k).bit 15 && v.dispatches then v.writeIn (1, (u.fiCfg k).fld 14 0, w32 (ofBool b)) else v) = w) :
    u.fiEdge k back b = if (u.fiCfg k).bit 23 = false then w
      else if 64 ≤ (u.fi k).queue.length then (w.count (Reg.FIk_EV_DROP k)).raiseBit 29 9
      else if (u.fi k).queue = [] then (w.setFi k { w.fi k with queue := (u.fi k).queue ++ [(u.now - back, b)] }).raiseBit 29 8
      else w.setFi k { w.fi k with queue := (u.fi k).queue ++ [(u.now - back, b)] } := by
  subst hw hv
  refine (if_neg (by simp [Nat.not_le.mpr hk, hd, hl])).trans ?_
  cases (u.fiCfg k).bit 23 <;> rfl

theorem fiPop_of {x : Word} : u.fiPop k x = if x.bit 0 then u.setFi k { u.fi k with queue := (u.fi k).queue.tail } else u := rfl

/-- A write of the pop register of a fast input. -/
theorem fiPop_write {dt m : Nat} {x : Word} {s : State} (hu : s.toWrite dt m (Reg.FIk_EV_POP k) x = u) (hk : k < 8)
    (ho : u.opens m true (Reg.FIk_EV_POP k) = true) (hx : x &&& ~~~(1 : Word) = 0) :
    exec (.fiEvPop dt m k x) s = .next (u.fiPop k x) :=
  (exec_fiEvPop ..).trans ((writeAfter_eq_single hu).trans (congrArg Host.Outcome.next ((writesAs_fiPop hk).single ho hx)))

end
end

/-- Settles O49: what each instant does on what has been queued for it. -/
theorem channelInstants : Obligations.ChannelInstants := by
  refine ⟨?_, ?_, ?_, ?_, ?_, ?_, ?_, ?_, ?_, ?_, ?_, ?_, ?_, ?_, ?_, ?_, ?_, ?_, ?_, ?_, ?_, ?_, ?_, ?_, ?_, ?_, ?_⟩
  · exact fun dt g per at_ vals w s u hu hper hpos hat hg hnew hw hd =>
      (exec_ioInstant ..).trans (next_of_afterEv hu ((ioInstant_takes hper hpos hat hg hnew hw).trans (if_pos hd)))
  · exact fun dt g per at_ vals w s u hu hper hpos hat hg hnew hw hd =>
      (exec_ioInstant ..).trans (next_of_afterEv hu ((ioInstant_takes hper hpos hat hg hnew hw).trans (if_neg (by simp [hd]))))
  · exact fun dt g vals s u hu h => (exec_ioInstant ..).trans (next_of_afterEv hu (ioInstant_none h))
  · exact fun dt g at_ xs r v s u hu hi ht hv => (exec_inputWrite ..).trans (next_of_after hu (inputWrite_due hi ht hv))
  · exact fun dt g at_ xs r s u hu hi ht => (exec_inputWrite ..).trans (next_of_after hu (inputWrite_early hi ht))
  · exact fun dt g s u hu hi => (exec_inputWrite ..).trans (next_of_after hu (inputWrite_none hi))
  · exact fun s a v => ⟨rfl, rfl⟩
  · exact fun dt g at_ xs r v s u hu ho ht hv => (exec_outputApply ..).trans (next_of_afterEv hu (outputApply_due ho ht hv))
  · exact fun dt g at_ xs r s u hu ho ht => (exec_outputApply ..).trans (next_of_afterEv hu (outputApply_early ho ht))
  · exact fun dt g s u hu ho => (exec_outputApply ..).trans (next_of_afterEv hu (outputApply_none ho))
  · exact fun s n w c hm hc ho => takeUp_value hm hc ho
  · exact fun s n w hm => takeUp_none hm
  · exact fun s n w => outCmd_cases s n w
  · exact fun dt g e due vals s u hu hc ht => (exec_conversionDone ..).trans (next_of_after hu (conversionDone_early hc ht))
  · exact fun dt g e due vals v w s u hu hc ht hv hg hw hd =>
      (exec_conversionDone ..).trans (next_of_after hu (conversionDone_writes hc ht hv hg hw hd))
  · exact fun dt g vals s u hu hc => (exec_conversionDone ..).trans (next_of_after hu (conversionDone_none hc))
  · intro dt n b s u hu hn hc hm
    refine (exec_diLevelChange ..).trans (next_of_after hu (if_pos ?_))
    rcases hm with h | h <;> simp [hn, hc, h]
  · exact fun dt n b s u hu hc => (exec_diLevelChange ..).trans (next_of_after hu (if_neg (by simp [hc])))
  · exact fun dt n s u hu h => (exec_reconfigDone ..).trans (next_of_after hu (reconfigDone_of.trans (if_pos h)))
  · exact fun dt n s u hu h => (exec_reconfigDone ..).trans (next_of_after hu (reconfigDone_of.trans (if_neg (by simp [h]))))
  · exact fun dt k back b v w s u hu hk hd hl hv hw h23 =>
      (exec_fastInputEdge ..).trans (next_of_afterEv hu ((fiEdge_takes hk hd hl hv hw).trans (if_pos h23)))
  · exact fun dt k back b v w s u hu hk hd hl hv hw h23 hlen hne => (exec_fastInputEdge ..).trans (next_of_afterEv hu
      ((fiEdge_takes hk hd hl hv hw).trans ((if_neg (by simp [h23])).trans ((if_neg (Nat.not_le.mpr hlen)).trans (if_neg hne)))))
  · intro dt k back b v w s u hu hk hd hl hv hw h23 hq
    refine (exec_fastInputEdge ..).trans (next_of_afterEv hu
      ((fiEdge_takes hk hd hl hv hw).trans ((if_neg (by simp [h23])).trans ((if_neg (by simp [hq])).trans ((if_pos hq).trans ?_)))))
    rw [hq]
    rfl
  · exact fun dt k back b v w s u hu hk hd hl hv hw h23 hlen => (exec_fastInputEdge ..).trans (next_of_afterEv hu
      ((fiEdge_takes hk hd hl hv hw).trans ((if_neg (by simp [h23])).trans (if_pos hlen))))
  · exact fun dt k back b s u hu h => (exec_fastInputEdge ..).trans (next_of_afterEv hu (fiEdge_none h))
  · exact fun dt m k s u hu hk ho => (fiPop_write hu hk ho (by decide)).trans (congrArg Host.Outcome.next (fiPop_of.trans (if_pos rfl)))
  · exact fun dt m k s u hu hk ho => (fiPop_write hu hk ho (by decide)).trans (congrArg Host.Outcome.next (fiPop_of.trans (if_neg (by decide))))

end Sys2Proof.Proofs
end

section
/-!
PROOFS. Diagnostics and trips of channels, the field supply, controllers and fast outputs (13 R309 to R325, R332 to R336).
-/
namespace Sys2Proof.Proofs
open Sys2Proof Sys2Proof.Machine

/-! ### Diagnostics -/

section
variable {u v : State} {n f : Nat} {on : Bool} {temp : Int}

theorem diagnostic_of (hn : u.hasChan n = true) (hc : u.ctlRuns n = true) (hv : u.ctlTemp n temp = v) :
    u.diagnostic n f on temp = if v.chMode n = 0 || v.notYet n then v
      else if on then if !v.diagRuns n f then v
        else if f = 5 && (v.setFlag n f true).chMode n = 7 then (v.setFlag n f true).setFlag n 6 true else v.setFlag n f true
      else if v.diagClears n f then v.setFlag n f false else v := by
  subst hv
  exact if_neg (by simp [hn, hc])

theorem diagnostic_none (h : u.hasChan n = false ∨ u.ctlRuns n = false) : u.diagnostic n f on temp = u := by
  refine if_pos ?_
  rcases h with h | h <;> simp [h]

end

/-! ### Trips -/

section
variable {u v : State} {n : Nat} {hot : Bool}

theorem chTrip_counts (hc : u.canTrip n = true) (hs : u.supply (grpOf n) = 1)
    (hv : ((((u.setFlag n (if hot then 4 else 3) true).chEvt n 0).countF (Reg.CH_TRIPS n) 31 16 1).tally 64 1).stageOff n = v) :
    u.chTrip n hot = if 4 ≤ (u.tripWindow n).length then
      ((v.modChan n (fun c => { c with trips := u.sclk :: u.tripWindow n, seq := u.tripSeq n + 1, retired := true, retry := none, hot := false, test := false })).noteRetired (.channel n)).chEvt n 1
    else v.modChan n (fun c => { c with trips := u.sclk :: u.tripWindow n, seq := u.tripSeq n + 1, retry := some (v.sclk + (if u.tripSeq n + 1 ≤ 3 then 100 * msClk else 10000 * msClk)), hot := hot, test := false }) := by
  unfold State.chTrip retryAfter
  simp only [hc, hs, Bool.not_true, Bool.false_eq_true, if_false, ne_eq, not_true_eq_false, hv, List.length_cons, Nat.reduceLeDiff]

theorem chTrip_loose (hc : u.canTrip n = true) (hs : u.supply (grpOf n) ≠ 1)
    (hv : ((u.setFlag n (if hot then 4 else 3) true).chEvt n 0).stageOff n = v) :
    u.chTrip n hot = v.modChan n (fun c => { c with retry := some (v.sclk + (if u.tripSeq n + 1 ≤ 3 then 100 * msClk else 10000 * msClk)), hot := hot, test := false }) := by
  subst hv
  exact (if_neg (by simp [hc])).trans (if_pos hs)

theorem chTrip_none (hc : u.canTrip n = false) : u.chTrip n hot = u := if_pos (by simp [hc])

section
variable {at_ : Nat} {cool : Bool} (hr : (u.chan n).retry = some at_)
include hr

theorem tripRetry_due (ht : at_ ≤ u.sclk) (hd : u.domainOn 9 = true)
    (hv : u.modChan n (fun c => { c with retry := none, hot := false, changed := u.sclk }) = v) :
    u.tripRetry n true = if v.mayStand n then v.modChan n (fun c => { c with on := true }) else v := by
  unfold State.tripRetry
  simp only [hr, Nat.not_lt.mpr ht, hd, hv, decide_false, Bool.not_true, Bool.and_false, Bool.or_self, Bool.false_eq_true, if_false]

theorem tripRetry_early (ht : u.sclk < at_) : u.tripRetry n cool = u := by
  unfold State.tripRetry
  simp only [hr, ht, decide_true, Bool.true_or, if_true]

theorem tripRetry_hot (hh : (u.chan n).hot = true) : u.tripRetry n false = u := by
  unfold State.tripRetry
  simp only [hr, hh, Bool.not_false, Bool.and_self, Bool.or_true, Bool.true_or, if_true]

end
end

/-! ### The field supply -/

section
variable {u v : State} {g mv : Nat}

/-- A sample within the extremes seen so far moves LOW only. -/
theorem vfld_within (hv : (((u.setRegF (Reg.GRP_VFLD g) 15 0 (min 65535 mv)).extreme (24 + 4 * g) (min 65535 mv : Nat)).modGrp g (fun x =>
      { x with lowAt := if mv ≤ 18000 then some u.sclk else x.lowAt, okAt := if 16000 ≤ mv then some u.sclk else x.okAt })) = v)
    (hmin : v.regF (Reg.GRP_VFLD_MIN g) 15 0 ≤ mv) (hmax : mv ≤ v.regF (Reg.GRP_VFLD_MAX g) 15 0) :
    u.vfld g mv = if mv < 19200 && !v.regB (Reg.GRP_STS g) 2 then (v.setRegB (Reg.GRP_STS g) 2 true).raiseBit (29 + g) 1
      else if 19600 < mv then v.setRegB (Reg.GRP_STS g) 2 false else v := by
  have hfirst : u.vfld g mv = (fun s : State =>
      (fun s : State => (fun s : State => if mv < 19200 && !s.regB (Reg.GRP_STS g) 2 then (s.setRegB (Reg.GRP_STS g) 2 true).raiseBit (29 + g) 1
        else if 19600 < mv then s.setRegB (Reg.GRP_STS g) 2 false else s)
        (if s.regF (Reg.GRP_VFLD_MAX g) 15 0 < mv then s.setRegF (Reg.GRP_VFLD_MAX g) 15 0 (min 65535 mv) else s))
        (if mv < s.regF (Reg.GRP_VFLD_MIN g) 15 0 then s.setRegF (Reg.GRP_VFLD_MIN g) 15 0 mv else s)) v := by
    rw [← hv]
    rfl
  rw [hfirst]
  simp only [Nat.not_lt.mpr hmin, Nat.not_lt.mpr hmax, if_false]

theorem supplyLost_of (hg : u.hasChan (16 * g) = true) (hv : u.vfld g mv = v) :
    u.supplyLost g mv = if 16000 ≤ mv || !v.nthSample 22 (v.grp g).okAt || (v.supply g ≠ 1 && v.supply g ≠ 3) then v
      else (((v.setSupply g 2).countF (Reg.GRP_SAG_CNT g) 15 0 1).tally 66 1).raiseBit (29 + g) 2 := by
  subst hv
  exact if_neg (by simp [hg])

section
variable (hg : u.hasChan (16 * g) = true) (hv : u.vfld g mv = v)
include hg hv

theorem supplyBack_good (hmv : 18000 < mv) (hn : v.nthSample 101 (v.grp g).lowAt = true) :
    (v.supply g = 2 → u.supplyBack g mv = (v.setSupply g (if (v.grpW g 0).bit 0 then 3 else 1)).raiseBit (29 + g) 3) ∧
    (v.supply g = 0 → u.supplyBack g mv = v.setSupply g 1) := by
  unfold State.supplyBack
  refine ⟨fun h => ?_, fun h => ?_⟩
  · simp only [hg, hv, Nat.not_le.mpr hmv, hn, h, Bool.not_true, decide_false, Bool.or_self, Bool.false_eq_true, if_false]
  · simp only [hg, hv, Nat.not_le.mpr hmv, hn, h, Bool.not_true, decide_false, Bool.or_self, Bool.false_eq_true, if_false]

theorem supplyBack_none (h : mv ≤ 18000 ∨ v.nthSample 101 (v.grp g).lowAt = false ∨ v.supply g = 1 ∨ v.supply g = 3) : u.supplyBack g mv = v := by
  unfold State.supplyBack
  simp only [hg, hv, Bool.not_true, Bool.false_eq_true, if_false]
  rcases h with h | h | h | h
  · exact if_pos (by simp [h])
  · exact if_pos (by simp [h])
  · simp only [h, ite_self]
  · simp only [h, ite_self]

end

theorem restoreAck_one : u.restoreAck g 1 = if u.supply g = 3 then u.setSupply g 1 else u := by
  unfold State.restoreAck
  have hbit : (1 : Word).bit 0 = true := rfl
  simp only [hbit, Bool.true_and, decide_eq_true_eq]

/-- The writes of a group's acknowledge and enable registers. -/
theorem restoreAck_write {dt m : Nat} {s : State} (hu : s.toWrite dt m (Reg.GRP_ACK g) 1 = u) (hg : g < 2)
    (ho : u.opens m true (Reg.GRP_ACK g) = true) : exec (.restoreAck dt m g 1) s = .next (u.restoreAck g 1) :=
  (exec_restoreAck ..).trans ((writeAfter_eq_single hu).trans (congrArg Host.Outcome.next ((writesAs_grpAck hg).single ho (by decide))))

theorem outEn_write {dt m : Nat} {x : Word} {s : State} (hu : s.toWrite dt m (Reg.GRP_CTL g) x = u) (hg : g < 2)
    (ho : u.opens m true (Reg.GRP_CTL g) = true) (hx : x &&& ~~~(1 : Word) = 0) :
    exec (.outEn dt m g x) s = .next (u.grpEnables g x.toNat (u.reg (Reg.GRP_CHEN g)).toNat) :=
  (exec_outEn ..).trans ((writeAfter_eq_single hu).trans (congrArg Host.Outcome.next ((writesAs_grpCtl hg).single ho hx)))

end

/-! ### Enables -/

theorem foldl_of_fixed {α β : Type} {f : α → β → α} {a : α} (l : List β) (h : ∀ x ∈ l, f a x = a) : l.foldl f a = a := by
  induction l with
  | nil => rfl
  | cons x r ih =>
    rw [List.foldl_cons, h x (by simp)]
    exact ih (fun y hy => h y (List.mem_cons_of_mem _ hy))

/-- A stage that may not stand goes off. -/
def offUnlessStanding (s : State) (n : Nat) : State := if (s.chan n).on && !s.mayStand n then s.stageOff n else s

theorem grpEnables_eq (s : State) (g ctl chen : Nat) :
    s.grpEnables g ctl chen = ((grpChans g).foldl offUnlessStanding ((s.setReg (Reg.GRP_CTL g) (w32 (ctl % 2))).setReg (Reg.GRP_CHEN g) (w32 (chen % 2 ^ 16)))).dropOuts g :=
  rfl

theorem chan_modChan (s : State) (n k : Nat) (f : Chan → Chan) : (s.modChan k f).chan n = if n = k then f (s.chan k) else s.chan n :=
  sget_smod ({} : Chan) s.chans k n f

theorem mayStand_of_disabled {s : State} {n : Nat} (h : s.regB (Reg.GRP_CTL (grpOf n)) 0 = false) : s.mayStand n = false := by
  unfold State.mayStand
  simp [h]

theorem offUnlessStanding_reg (s : State) (n a : Nat) : (offUnlessStanding s n).reg a = s.reg a := by
  unfold offUnlessStanding
  split <;> rfl

theorem offUnlessStanding_on (s : State) (n k : Nat) :
    ((offUnlessStanding s k).chan n).on = if n = k ∧ s.mayStand k = false then false else (s.chan n).on := by
  unfold offUnlessStanding
  by_cases hk : n = k
  · subst hk
    cases hon : (s.chan n).on <;> cases hm : s.mayStand n <;> simp [hon, State.stageOff, chan_modChan]
  · have hoff : ((s.stageOff k).chan n).on = (s.chan n).on := by
      unfold State.stageOff
      rw [chan_modChan, if_neg hk]
    simp only [hk, false_and, if_false, apply_ite (fun t : State => (t.chan n).on), hoff, ite_self]

/-- With its group disabled no channel of it is on. -/
theorem foldl_offUnlessStanding_off {g n : Nat} (l : List Nat) (s : State) (hs : s.regB (Reg.GRP_CTL g) 0 = false) (hl : ∀ k ∈ l, grpOf k = g)
    (hn : n ∈ l ∨ (s.chan n).on = false) : ((l.foldl offUnlessStanding s).chan n).on = false := by
  induction l generalizing s with
  | nil => simpa using hn
  | cons k r ih =>
    have hk : s.mayStand k = false := mayStand_of_disabled (by rw [hl k (by simp)]; exact hs)
    have hstep := offUnlessStanding_on s n k
    rw [List.foldl_cons]
    refine ih _ ?_ (fun j hj => hl j (List.mem_cons_of_mem _ hj)) ?_
    · rw [regB_eq, offUnlessStanding_reg]
      exact hs
    · rw [hstep]
      rcases hn with hn | hn
      · rcases List.mem_cons.mp hn with rfl | hr
        · exact .inr (if_pos ⟨rfl, hk⟩)
        · exact .inl hr
      · exact .inr (by rw [hn, ite_self])

theorem grpEnables_off {s : State} {g ctl chen : Nat} (h : ∀ n ∈ grpChans g, (s.chan n).on = false) :
    s.grpEnables g ctl chen = ((s.setReg (Reg.GRP_CTL g) (w32 (ctl % 2))).setReg (Reg.GRP_CHEN g) (w32 (chen % 2 ^ 16))).dropOuts g := by
  rw [grpEnables_eq, foldl_of_fixed]
  intro n hn
  have hon : (((s.setReg (Reg.GRP_CTL g) (w32 (ctl % 2))).setReg (Reg.GRP_CHEN g) (w32 (chen % 2 ^ 16))).chan n).on = false := h n hn
  refine if_neg ?_
  rw [hon, Bool.false_and]
  exact Bool.false_ne_true

theorem grpEnables_disabled {s : State} {g chen n : Nat} (hn : n ∈ grpChans g) : ((s.grpEnables g 0 chen).chan n).on = false := by
  have hgrp : ∀ k ∈ grpChans g, grpOf k = g := by
    intro k hk
    unfold grpChans at hk
    obtain ⟨j, hj, rfl⟩ := List.mem_map.mp hk
    have := List.mem_range.mp hj
    unfold grpOf
    omega
  have hne : Reg.GRP_CTL g ≠ Reg.GRP_CHEN g := by unfold Reg.GRP_CTL Reg.GRP_CHEN; omega
  have hdrop : ∀ t : State, (t.dropOuts g).chan n = t.chan n := fun t => rfl
  rw [grpEnables_eq, hdrop]
  refine foldl_offUnlessStanding_off _ _ ?_ hgrp (.inl hn)
  rw [regB_eq, State.setReg_reg, if_neg hne, State.setReg_reg, if_pos rfl]
  rfl

/-! ### Controllers, benchmarks and fast outputs -/

section
variable {u v : State}

theorem silence_absent {c : Nat} (h0 : u.hasChan (2 * c) = false) (h1 : u.hasChan (2 * c + 1) = false) : u.silence c = u := by
  unfold State.silence
  simp only [List.foldl_cons, List.foldl_nil, h0, h1, Bool.not_false, if_true]

theorem silence_outputs {c : Nat} (h0 : u.hasChan (2 * c) = true) (h1 : u.hasChan (2 * c + 1) = true) (hb0 : (u.chW (2 * c) 0).bit 8 = false)
    (hb1 : (u.chW (2 * c + 1) 0).bit 8 = false) (hm0 : u.chMode (2 * c) = 3) (hm1 : u.chMode (2 * c + 1) = 3) :
    u.silence c = (u.stageOff (2 * c)).stageOff (2 * c + 1) := by
  have hsame : ∀ n k : Nat, (u.stageOff k).hasChan n = u.hasChan n ∧ (u.stageOff k).chW n 0 = u.chW n 0 ∧ (u.stageOff k).chMode n = u.chMode n :=
    fun n k => ⟨rfl, rfl, rfl⟩
  unfold State.silence
  simp only [List.foldl_cons, List.foldl_nil, h0, hb0, hm0, hsame, h1, hb1, hm1, Bool.not_true, Bool.false_eq_true, if_false, if_true]

section
variable {n : Nat} {dev : Int} {b : Bool}

theorem benchmark_none (h : u.chMode n = 0 ∨ u.notYet n = true ∨ u.ctlRuns n = false ∨ (u.chan n).test = true) : u.benchmark n dev b = u := by
  refine if_pos ?_
  rcases h with h | h | h | h <;> simp [h]

theorem benchmark_converting (ht : u.triggered (grpOf n) = true) (hc : u.converting (grpOf n) = true) : u.benchmark n dev false = u := by
  unfold State.benchmark
  simp only [ht, hc, Bool.false_eq_true, if_false, Bool.and_self, if_true, ite_self]

section
variable (hn : u.hasChan n = true) (hm : u.chMode n ≠ 0) (hy : u.notYet n = false) (hc : u.ctlRuns n = true) (ht : (u.chan n).test = false)
include hn hm hy hc ht

theorem benchmark_blocked : u.benchmark n dev true = if u.triggered (grpOf n) then u.setFlag n 14 true else u :=
  (if_neg (by simp [hn, hm, hy, hc, ht])).trans (if_pos rfl)

theorem benchmark_stores (hfree : u.triggered (grpOf n) = false ∨ u.converting (grpOf n) = false)
    (hv : (u.setRegF (Reg.CH_BENCH n) 15 0 (pattern 16 dev)).setFlag n 14 false = v) :
    u.benchmark n dev false = (v.modChan n (fun c => { c with bench := some v.now })).setFlag n 13 (decide (dev < -500) || decide (500 < dev)) := by
  subst hv
  have hbusy : (u.triggered (grpOf n) && u.converting (grpOf n)) = false := by
    rcases hfree with h | h <;> simp [h]
  exact (if_neg (by simp [hn, hm, hy, hc, ht])).trans ((if_neg Bool.false_ne_true).trans (if_neg (by simp [hbusy])))

end
end

section
variable {k at_ : Nat}

theorem foFault_stops (hk : k < 8) (hd : u.domainOn 9 = true) (hf : u.foDrives k = true) :
    u.foFault k = (({ u with fos := smod {} u.fos k (fun x => { x with fault := some u.sclk }) } : State).count Reg.FIO_FO_TRIPS).raiseBit 29 10 :=
  if_neg (by simp [hd, hf, Nat.not_le.mpr hk])

theorem foFault_none (hf : u.foDrives k = false) : u.foFault k = u := if_pos (by simp [hf])

theorem foRetry_of (hf : (u.fo k).fault = some at_) :
    u.foRetry k = if u.sclk < at_ + 100 * msClk then u else { u with fos := smod {} u.fos k (fun x => { x with fault := none }) } := by
  unfold State.foRetry
  simp only [hf]

end

section
variable {c : Nat} (hc : u.hasCtl c = true) (hd : u.domainOn 9 = true)
include hc hd

theorem ctlRestart_begins (hst : u.regF (Reg.CHN_CCc c) 18 16 = 1 ∨ u.regF (Reg.CHN_CCc c) 18 16 = 2) :
    u.ctlRestart c 0 = u.chainChange (fun s => s.setRegF (Reg.CHN_CCc c) 18 16 3) :=
  (if_neg (by simp [hc, hd])).trans (if_pos (by simpa using hst))

theorem ctlRestart_goesOn (hst : u.regF (Reg.CHN_CCc c) 18 16 = 3) :
    u.ctlRestart c 1 = u.silence c ∧ u.ctlRestart c 2 = u.chainChange (fun s => s.setRegF (Reg.CHN_CCc c) 18 16 1) :=
  ⟨(if_neg (by simp [hc, hd])).trans (if_pos hst), (if_neg (by simp [hc, hd])).trans (if_pos hst)⟩

end
end

/-- Settles O50: what each event of a channel, a group, a controller and a fast output does in the state it finds. -/
theorem channelFaults : Obligations.ChannelFaults := by
  refine ⟨?_, ?_, ?_, ?_, ?_, ?_, ?_, ?_, ?_, ?_, ?_, ?_, ?_, ?_, ?_, ?_, ?_, ?_, ?_, ?_, ?_, ?_, ?_, ?_, ?_, ?_, ?_, ?_, ?_, ?_, ?_, ?_, ?_, ?_, ?_, ?_, ?_, ?_, ?_, ?_⟩
  · intro dt n f temp v s u hu hn hc hv hm hy hr h5
    refine (exec_channelDiagnostic ..).trans (next_of_after hu ((diagnostic_of hn hc hv).trans
      ((if_neg (by simp [hm, hy])).trans ((if_pos rfl).trans ((if_neg (by simp [hr])).trans (if_neg ?_))))))
    rcases h5 with h | h <;> simp [h]
  · intro dt n temp v s u hu hn hc hv hm hy hr h7
    exact (exec_channelDiagnostic ..).trans (next_of_after hu ((diagnostic_of hn hc hv).trans
      ((if_neg (by simp [hm, hy])).trans ((if_pos rfl).trans ((if_neg (by simp [hr])).trans (if_pos (by simp [h7])))))))
  · intro dt n f temp v s u hu hn hc hv hm hy hr
    exact (exec_channelDiagnostic ..).trans (next_of_after hu ((diagnostic_of hn hc hv).trans
      ((if_neg (by simp [hm, hy])).trans ((if_neg Bool.false_ne_true).trans (if_pos hr)))))
  · intro dt n f on temp v s u hu hn hc hv h
    refine (exec_channelDiagnostic ..).trans (next_of_after hu ((diagnostic_of hn hc hv).trans ?_))
    rcases h with h | h | ⟨ho, h⟩ | ⟨ho, h⟩
    · exact if_pos (by simp [h])
    · exact if_pos (by simp [h])
    · simp only [ho, h, Bool.not_false, if_true, ite_self]
    · simp only [ho, h, Bool.false_eq_true, if_false, ite_self]
  · exact fun dt n f on temp s u hu h => (exec_channelDiagnostic ..).trans (next_of_after hu (diagnostic_none h))
  · exact fun dt n hot v s u hu hc hs hlen hv =>
      (exec_channelTrip ..).trans (next_of_afterEv hu ((chTrip_counts hc hs hv).trans (if_neg (Nat.not_le.mpr hlen))))
  · exact fun dt n hot v s u hu hc hs hlen hv => (exec_channelTrip ..).trans (next_of_afterEv hu ((chTrip_counts hc hs hv).trans (if_pos hlen)))
  · exact fun dt n hot v s u hu hc hs hv => (exec_channelTrip ..).trans (next_of_afterEv hu (chTrip_loose hc hs hv))
  · exact fun dt n hot s u hu hc => (exec_channelTrip ..).trans (next_of_afterEv hu (chTrip_none hc))
  · exact fun dt n at_ v s u hu hr ht hd hv => (exec_tripRetry ..).trans (next_of_afterEv hu (tripRetry_due hr ht hd hv))
  · exact fun dt n at_ cool s u hu hr ht => (exec_tripRetry ..).trans (next_of_afterEv hu (tripRetry_early hr ht))
  · exact fun dt n at_ s u hu hr hh => (exec_tripRetry ..).trans (next_of_afterEv hu (tripRetry_hot hr hh))
  · exact fun dt n s u hu h0 => (exec_tripSequenceEnd ..).trans (next_of_after hu (if_pos h0))
  · exact fun dt n s u hu h0 => (exec_tripSequenceEnd ..).trans (next_of_after hu (if_neg h0))
  · exact fun dt g mv s u hu hg => (exec_vfldLow ..).trans (next_of_after hu (if_pos hg))
  · intro s v g mv hv hmin hmax
    have hof := vfld_within hv hmin hmax
    refine ⟨fun hlt h2 => ?_, fun hlt => ?_, fun hge hle => ?_⟩
    · exact hof.trans (if_pos (by simp [hlt, h2]))
    · exact hof.trans ((if_neg (by simp; omega)).trans (if_pos hlt))
    · exact hof.trans ((if_neg (by simp; omega)).trans (if_neg (Nat.not_lt.mpr hle)))
  · intro dt g mv v s u hu hg hv hmv hn hs
    refine (exec_supplyLost ..).trans (next_of_afterEv hu ((supplyLost_of hg hv).trans (if_neg ?_)))
    rcases hs with h | h <;> simp [hn, h, hmv]
  · intro dt g mv v s u hu hg hv h
    refine (exec_supplyLost ..).trans (next_of_afterEv hu ((supplyLost_of hg hv).trans (if_pos ?_)))
    rcases h with h | h | h | h <;> simp [h]
  · exact fun dt g mv v s u hu hg hv hmv hn hs => (exec_supplyRecovery ..).trans (next_of_after hu ((supplyBack_good hg hv hmv hn).1 hs))
  · exact fun dt g mv v s u hu hg hv hmv hn hs => (exec_supplyRecovery ..).trans (next_of_after hu ((supplyBack_good hg hv hmv hn).2 hs))
  · exact fun dt g mv v s u hu hg hv h => (exec_supplyRecovery ..).trans (next_of_after hu (supplyBack_none hg hv h))
  · exact fun dt m g s u hu hg ho hs => (restoreAck_write hu hg ho).trans (congrArg Host.Outcome.next (restoreAck_one.trans (if_pos hs)))
  · exact fun dt m g s u hu hg ho hs => (restoreAck_write hu hg ho).trans (congrArg Host.Outcome.next (restoreAck_one.trans (if_neg hs)))
  · exact fun dt m g s u hu hg ho => outEn_write hu hg ho (by decide)
  · exact fun dt m g s u hu hg ho => outEn_write hu hg ho (by decide)
  · exact fun s g ctl chen h => grpEnables_off h
  · exact fun s g chen n _ hn => grpEnables_disabled hn
  · exact fun dt c s u hu h0 h1 => (exec_barrierLinkSilence ..).trans (next_of_after hu (silence_absent h0 h1))
  · exact fun dt c s u hu h0 h1 hb0 hb1 hm0 hm1 =>
      (exec_barrierLinkSilence ..).trans (next_of_after hu (silence_outputs h0 h1 hb0 hb1 hm0 hm1))
  · exact fun dt n dev v s u hu hn hm hy hc ht hfree hv =>
      (exec_benchmark ..).trans (next_of_afterEv hu (benchmark_stores hn hm hy hc ht hfree hv))
  · exact fun dt n dev s u hu hn hm hy hc ht => (exec_benchmark ..).trans (next_of_afterEv hu (benchmark_blocked hn hm hy hc ht))
  · exact fun dt n dev s u hu ht hc => (exec_benchmark ..).trans (next_of_afterEv hu (benchmark_converting ht hc))
  · exact fun dt n dev b s u hu h => (exec_benchmark ..).trans (next_of_afterEv hu (benchmark_none h))
  · exact fun dt k s u hu hk hd hf => (exec_foFault ..).trans (next_of_after hu (foFault_stops hk hd hf))
  · exact fun dt k s u hu hf => (exec_foFault ..).trans (next_of_after hu (foFault_none hf))
  · exact fun dt k at_ s u hu hf ht => (exec_foRetry ..).trans (next_of_after hu ((foRetry_of hf).trans (if_neg (Nat.not_lt.mpr ht))))
  · exact fun dt k at_ s u hu hf ht => (exec_foRetry ..).trans (next_of_after hu ((foRetry_of hf).trans (if_pos ht)))
  · exact fun dt c s u hu hc hd hst => (exec_controllerRestart ..).trans (next_of_after hu (ctlRestart_begins hc hd hst))
  · exact fun dt c s u hu hc hd hst => (exec_controllerRestart ..).trans (next_of_after hu (ctlRestart_goesOn hc hd hst).1)
  · exact fun dt c s u hu hc hd hst => (exec_controllerRestart ..).trans (next_of_after hu (ctlRestart_goesOn hc hd hst).2)

end Sys2Proof.Proofs
end

section
/-!
PROOFS. Feeds, the backup supply, rails, the watchdog and temperature (17 R400 to R411, R419).
-/
namespace Sys2Proof.Proofs
open Sys2Proof Sys2Proof.Machine

/-! ### Feeds -/

section
variable {u v w : State} {f mv p : Nat}

theorem feedLow_raised (hf : f ≤ 1) (hmv : mv < 19200) (hv : u.feedMv f mv = v) (hb : v.regB Reg.PWR_STS (2 + f) = false) :
    u.feedLow f mv = (v.setRegB Reg.PWR_STS (2 + f) true).raiseBit 17 1 := by
  subst hv
  exact if_neg (by simp [hb, Nat.not_lt.mpr hf, Nat.not_le.mpr hmv])

theorem feedLow_none (h : 1 < f ∨ 19200 ≤ mv ∨ (u.feedMv f mv).regB Reg.PWR_STS (2 + f) = true) :
    u.feedLow f mv = u.feedMv f mv := by
  refine if_pos ?_
  rcases h with h | h | h <;> simp [h]

theorem feedLowClear_above (hf : f ≤ 1) (hmv : 19600 < mv) :
    u.feedLowClear f mv = (u.feedMv f mv).setRegB Reg.PWR_STS (2 + f) false := if_pos (by simp [hf, hmv])

theorem feedLoss_counts (hf : f ≤ 1) (hmv : mv < 16000) (hv : u.feedMv f mv = v) (hb : v.regB Reg.PWR_STS f = true)
    (hw : ((v.setRegB Reg.PWR_STS f false).countF Reg.PWR_FEED_CNT (if f = 0 then 15 else 31) (if f = 0 then 0 else 16) 1).raiseBit 17 0 = w) :
    u.feedLoss f mv = if w.noFeed then w.powerFail else w := by
  subst hv hw
  exact if_neg (by simp [State.feedGoes, hf, hmv, hb])

theorem feedGood_of (hf : f ≤ 1) (hmv : 18000 < mv) (hb : (u.feedMv f mv).regB Reg.PWR_STS f = false)
    (hw : ((u.feedMv f mv).setRegB Reg.PWR_STS f true).raiseBit 17 0 = w) :
    u.feedGood f mv = match w.pwr.held, w.pwr.holdup with
      | some 2, some p => w.startUnder (if w.pwr.lostD0 then 1 else if w.sclk < p + 12 * msClk then 3 else 2)
      | _, _ => w := by
  subst hw
  exact if_neg (by simp [hb, Nat.not_lt.mpr hf, Nat.not_le.mpr hmv])

theorem feedGood_starts (hf : f ≤ 1) (hmv : 18000 < mv) (hb : (u.feedMv f mv).regB Reg.PWR_STS f = false)
    (hw : ((u.feedMv f mv).setRegB Reg.PWR_STS f true).raiseBit 17 0 = w) (hh : w.pwr.held = some 2) (hp : w.pwr.holdup = some p) :
    u.feedGood f mv = w.startUnder (if w.pwr.lostD0 then 1 else if w.sclk < p + 12 * msClk then 3 else 2) := by
  simp only [feedGood_of hf hmv hb hw, hh, hp]

theorem feedGood_on (hf : f ≤ 1) (hmv : 18000 < mv) (hb : (u.feedMv f mv).regB Reg.PWR_STS f = false)
    (hw : ((u.feedMv f mv).setRegB Reg.PWR_STS f true).raiseBit 17 0 = w) (hh : w.pwr.held = none) : u.feedGood f mv = w := by
  simp only [feedGood_of hf hmv hb hw, hh]

theorem holdUp_held (w : State) : w.holdUp.pwr.held = some 2 ∧ w.holdUp.pwr.ready = w.pwr.ready ∧ w.holdUp.role = w.role := ⟨rfl, rfl, rfl⟩

theorem shutDown_ready (t : State) : t.shutDown.pwr.ready = false := by rw [shutDown_pwr]

theorem shutDown_role (t : State) : t.shutDown.role = 0 := by
  have hreset : (regReset Reg.PAIR_ROLE).fld 2 0 = 0 := by decide +kernel
  have hrole := shutDown_reg t Reg.PAIR_ROLE (by decide +kernel) (by decide)
  rw [← hreset, ← hrole]
  rfl

/-- The sequence of Table 17.4 leaves the module held for want of a feed, not started, and without a role. -/
theorem powerFail_holds (s : State) : s.powerFail.pwr.held = some 2 ∧ s.powerFail.pwr.ready = false ∧ s.powerFail.role = 0 := by
  obtain ⟨hheld, hready, hrole⟩ := holdUp_held (s.lastSteps.endBurn 0).shutDown
  exact ⟨hheld, hready.trans (shutDown_ready _), hrole.trans (shutDown_role _)⟩

end

/-! ### Backup supply -/

section
variable {u v w : State} {mv bank est : Nat}

theorem vbak_above (hmv : 2500 < mv) (hv : (u.setRegF Reg.PWR_VBAK 15 0 (min 65535 mv)).extreme 32 (min 65535 mv : Nat) = v) :
    u.vbak mv = v.setRegB Reg.PWR_STS 4 true := by
  subst hv
  exact if_pos hmv

theorem vbak_falls (hmv : mv < 2500) (hv : (u.setRegF Reg.PWR_VBAK 15 0 (min 65535 mv)).extreme 32 (min 65535 mv : Nat) = v)
    (hb : v.regB Reg.PWR_STS 4 = true) (hw : v.setRegB Reg.PWR_STS 4 false = w) (hn : w.noFeed = false) :
    u.vbak mv = w.raiseBit 17 2 := by
  subst hv hw
  exact (if_neg (Nat.not_lt.mpr (Nat.le_of_lt hmv))).trans ((if_pos hmv).trans (if_pos (by simp only [hb, hn, Bool.not_false, Bool.and_self])))

theorem vbakLoss_losesD0 (hmv : mv < 2000) (hv : u.vbak mv = v) (hn : v.noFeed = true) :
    u.vbakLoss mv = { v with bkp := {}, recd := { v.recd with seq := 0 }, pwr := { v.pwr with lostD0 := true } } := by
  subst hv
  exact if_neg (by simp [hn, Nat.not_le.mpr hmv])

theorem vbakLoss_keeps (h : 2000 ≤ mv ∨ (u.vbak mv).noFeed = false) : u.vbakLoss mv = u.vbak mv := by
  refine if_pos ?_
  rcases h with h | h <;> simp [h]

theorem holdupMeasure_shows (ha : u.regB Reg.PWR_STS 0 = true) (hb : u.regB Reg.PWR_STS 1 = true) (h6 : u.regB Reg.PWR_STS 6 = false)
    (hv : u.setReg Reg.PWR_HOLDUP (w32 (min 65535 bank + min 65535 est * 2 ^ 16)) = v) :
    u.holdupMeasure bank est = if est < 1000 then (v.setRegB Reg.PWR_STS 6 true).raiseBit 17 4 else v.setRegB Reg.PWR_STS 6 false := by
  subst hv
  refine (if_neg (by simp [ha, hb])).trans ?_
  by_cases he : est < 1000 <;> simp [he, h6]

theorem holdupMeasure_none (h : u.regB Reg.PWR_STS 0 = false ∨ u.regB Reg.PWR_STS 1 = false) : u.holdupMeasure bank est = u := by
  refine if_pos ?_
  rcases h with h | h <;> simp [h]

end

/-! ### Rails, watchdog and temperature -/

section
variable {u v w : State} {rail mv : Nat} {die board : Int}

theorem brownout_resets (hr : rail ≤ 3) (hv : u.railMv rail mv = v) (hout : mv < (railWindow rail).1 ∨ (railWindow rail).2 < mv)
    (hon : v.isOn = true) (hd : v.regB Reg.PWR_DOM_STS 1 = true) (hn : v.noFeed = false) : u.brownout rail mv = v.moduleReset 6 := by
  subst hv
  refine (if_neg (Nat.not_lt.mpr hr)).trans ((if_neg ?_).trans (if_pos (by simp [hon, hd, hn])))
  rcases hout with h | h <;> simp [Nat.not_le.mpr h]

theorem brownout_within (hr : rail ≤ 3) (hlo : (railWindow rail).1 ≤ mv) (hhi : mv ≤ (railWindow rail).2) :
    u.brownout rail mv = u.railMv rail mv :=
  (if_neg (Nat.not_lt.mpr hr)).trans (if_pos (by simp [hlo, hhi]))

theorem watchdog_resets (hon : u.isOn = true) (hb : u.pwr.booted = true) (hn : u.noFeed = false) : u.watchdog = u.moduleReset 5 :=
  if_pos (by simp [hon, hb, hn])

theorem watchdog_none (h : u.isOn = false ∨ u.pwr.booted = false ∨ u.noFeed = true) : u.watchdog = u := by
  refine if_neg ?_
  rcases h with h | h | h <;> simp [h]

theorem thermal_holds (hd : 12500 ≤ die) (hv : u.temps die board = v) (hon : v.isOn = true) (hn : v.noFeed = false) (hw : v.shutDown = w) :
    u.thermal die board = { w with pwr := { w.pwr with held := some 7 } } := by
  subst hv hw
  exact if_neg (by simp [hon, hn, Int.not_lt.mpr hd])

theorem thermal_below (hd : die < 12500) : u.thermal die board = u.temps die board := if_pos (by simp [hd])

theorem thermalRelease_starts (hd : die < 10000) (hv : u.temps die board = v) (hh : v.pwr.held = some 7) (hn : v.noFeed = false) :
    u.thermalRelease die board = v.startUnder 7 := by
  subst hv
  exact if_pos (by simp [hd, hh, hn])

theorem thermalRelease_none (h : 10000 ≤ die ∨ (u.temps die board).pwr.held ≠ some 7) : u.thermalRelease die board = u.temps die board := by
  refine if_neg ?_
  rcases h with h | h
  · simp [Int.not_lt.mpr h]
  · simp [h]

end

/-- Settles O57: a feed, the backup supply, a rail, the watchdog and the die each move their flag past their limits, and
only their loss on a module that is on holds or resets it. -/
theorem suppliesAndTemperature : Obligations.SuppliesAndTemperature := by
  refine ⟨?_, ?_, ?_, ?_, ?_, ?_, ?_, ?_, ?_, ?_, ?_, ?_, ?_, ?_, ?_, ?_, ?_, ?_, ?_, ?_, ?_, ?_, ?_⟩
  · exact fun dt f mv v s u hu hf hmv hv hb => (exec_feedLow ..).trans (next_of_after hu (feedLow_raised hf hmv hv hb))
  · exact fun dt f mv s u hu h => (exec_feedLow ..).trans (next_of_after hu (feedLow_none h))
  · exact fun dt f mv s u hu hf hmv => (exec_feedLowClear ..).trans (next_of_after hu (feedLowClear_above hf hmv))
  · exact fun dt f mv v w s u hu hf hmv hv hb hw =>
      (exec_feedLoss ..).trans (next_of_afterEv hu (feedLoss_counts hf hmv hv hb hw))
  · exact shutDown_reg
  · exact powerFail_holds
  · intro dt f mv p v w s u hu hf hmv hv hb hw hh hp
    subst hv
    exact (exec_feedGood ..).trans (next_of_after hu (feedGood_starts hf hmv hb hw hh hp))
  · exact fun dt f mv v s u hu hf hmv hb hv hh => (exec_feedGood ..).trans (next_of_after hu (feedGood_on hf hmv hb hv hh))
  · exact fun dt mv v s u hu hmv hv => (exec_vbakLow ..).trans (next_of_after hu (vbak_above hmv hv))
  · exact fun dt mv v w s u hu hmv hv hb hw hn => (exec_vbakLow ..).trans (next_of_after hu (vbak_falls hmv hv hb hw hn))
  · exact fun dt mv v s u hu hmv hv hn => (exec_vbakLoss ..).trans (next_of_after hu (vbakLoss_losesD0 hmv hv hn))
  · exact fun dt mv s u hu h => (exec_vbakLoss ..).trans (next_of_after hu (vbakLoss_keeps h))
  · exact fun dt bank est v s u hu ha hb h6 hv =>
      (exec_holdupMeasure ..).trans (next_of_after hu (holdupMeasure_shows ha hb h6 hv))
  · exact fun dt bank est s u hu h => (exec_holdupMeasure ..).trans (next_of_after hu (holdupMeasure_none h))
  · exact fun dt rail mv v s u hu hr hv hout hon hd hn =>
      (exec_brownout ..).trans (next_of_after hu (brownout_resets hr hv hout hon hd hn))
  · exact fun dt rail mv s u hu hr hlo hhi => (exec_brownout ..).trans (next_of_after hu (brownout_within hr hlo hhi))
  · exact fun dt s u hu hon hb hn => (exec_watchdog ..).trans (next_of_after hu (watchdog_resets hon hb hn))
  · exact fun dt s u hu h => (exec_watchdog ..).trans (next_of_after hu (watchdog_none h))
  · intro dt die board m v w s u hu hv hm hw
    subst hv hm hw
    exact (exec_hot ..).trans (next_of_after hu rfl)
  · exact fun dt die board v w s u hu hd hv hon hn hw =>
      (exec_thermal ..).trans (next_of_after hu (thermal_holds hd hv hon hn hw))
  · exact fun dt die board s u hu hd => (exec_thermal ..).trans (next_of_after hu (thermal_below hd))
  · exact fun dt die board v s u hu hd hv hh hn =>
      (exec_thermalResetRelease ..).trans (next_of_after hu (thermalRelease_starts hd hv hh hn))
  · exact fun dt die board s u hu h => (exec_thermalResetRelease ..).trans (next_of_after hu (thermalRelease_none h))

end Sys2Proof.Proofs
end

section
/-!
PROOFS. Requested resets, the switching of domains and start-up (17 R402, R405, R411 to R418; 18 R424 to R428).
-/
namespace Sys2Proof.Proofs
open Sys2Proof Sys2Proof.Machine

/-! ### Requested resets -/

section
variable {u v : State} {x : Word} {c : Nat}

theorem rstReq_asks (hn : u.noFeed = false) (hr : u.pwr.request = none) (hv : u.closeStretch 4 = v) :
    u.rstReq 0x5A5A0001 = let w := if (v.runs || decide (v.role = 5)) = true then v.fence 2 else v
      { w with pwr := { w.pwr with request := some 4 } } := by
  subst hv
  have hkey : (0x5A5A0001 : Word).fld 31 16 = 0x5A5A := by decide
  have hgo : (0x5A5A0001 : Word).bit 0 = true := by decide
  exact if_neg (by rw [hkey, hgo, hn, hr]; decide)

theorem rstReq_ignored (h : x.fld 31 16 ≠ 0x5A5A ∨ x.bit 0 = false) : u.rstReq x = u := by
  refine if_pos ?_
  rcases h with h | h <;> simp [h]

theorem requestedReset_some (h : u.pwr.request = some c) : u.requestedReset = u.recordsOut.moduleReset c := by
  simp only [State.requestedReset, h]

theorem requestedReset_none (h : u.pwr.request = none) : u.requestedReset = u := by simp only [State.requestedReset, h]

theorem rstReq_write {dt m : Nat} {s : State} (hu : s.toWrite dt m Reg.SYS_RST_REQ x = u)
    (ho : u.opens m true Reg.SYS_RST_REQ = true) (hx : x &&& ~~~(0xFFFF0001 : Word) = 0) :
    exec (.moduleResetRequest dt m x) s = .next (u.rstReq x) :=
  (exec_moduleResetRequest ..).trans ((writeAfter_eq_single hu).trans (congrArg Host.Outcome.next (writesAs_rstReq.single ho hx)))

end

/-! ### Domains -/

section
variable {u v : State} {x : Word}

/-- A write of reserved bits, or one that names no domain, is the misuse of R405; no other is. -/
theorem domReq_of (hx : x &&& ~~~(0x1021C : Word) = 0) (hm : (x &&& 0x21C).toNat ≠ 0) :
    u.domReq x = if u.role ≠ 6 || (x.bit 3 && u.order ≠ Order.f) then u.setRegB Reg.PWR_DOM_STS 16 true
      else { (u.setRegB Reg.PWR_DOM_STS 16 false) with pwr := { u.pwr with domReq := some ((x &&& 0x21C).toNat, x.bit 16) } } := by
  refine if_neg ?_
  rw [hx]
  generalize (x &&& 0x21C).toNat = mask at hm
  simp [hm]

theorem domReq_taken (hx : x &&& ~~~(0x1021C : Word) = 0) (hm : (x &&& 0x21C).toNat ≠ 0) (hr : u.role = 6)
    (hf : x.bit 3 = false ∨ u.order = Order.f) :
    u.domReq x = { (u.setRegB Reg.PWR_DOM_STS 16 false) with pwr := { u.pwr with domReq := some ((x &&& 0x21C).toNat, x.bit 16) } } := by
  refine (domReq_of hx hm).trans (if_neg ?_)
  rcases hf with hf | hf <;> simp [hr, hf]

theorem domReq_refused (hx : x &&& ~~~(0x1021C : Word) = 0) (hm : (x &&& 0x21C).toNat ≠ 0)
    (hr : u.role ≠ 6 ∨ (x.bit 3 = true ∧ u.order ≠ Order.f)) : u.domReq x = u.setRegB Reg.PWR_DOM_STS 16 true := by
  refine (domReq_of hx hm).trans (if_pos ?_)
  rcases hr with hr | ⟨h3, hf⟩
  · simp [hr]
  · simp [h3, hf]

theorem domReq_write {dt m : Nat} {s : State} (hu : s.toWrite dt m Reg.PWR_DOM_REQ x = u)
    (ho : u.opens m true Reg.PWR_DOM_REQ = true) (hx : x &&& ~~~(0x1021C : Word) = 0) :
    exec (.pwrDomReq dt m x) s = .next (u.domReq x) :=
  (exec_pwrDomReq ..).trans ((writeAfter_eq_single hu).trans (congrArg Host.Outcome.next (writesAs_domReq.single ho hx)))

theorem domDone_none (h : u.pwr.domReq = none) : u.domDone = u := by simp only [State.domDone, h]

/-- A request that switches off domain `d` alone, which is on. -/
theorem domDone_off {d : Nat} (h : u.pwr.domReq = some (2 ^ d, false)) (hd : d ∈ [2, 3, 4, 9]) (hon : u.domainOn d = true)
    (hv : ({ u with pwr := { u.pwr with domReq := none } } : State).setRegB Reg.PWR_DOM_STS d false = v) :
    u.domDone = (v.domainOff d).raiseBit 17 5 := by
  subst hv
  have hds : [2, 3, 4, 9].filter (fun e => 2 ^ d / 2 ^ e % 2 = 1 && u.domainOn e ≠ false) = [d] := by
    simp only [List.mem_cons, List.not_mem_nil, or_false] at hd
    rcases hd with rfl | rfl | rfl | rfl <;> simp [hon]
  simp only [State.domDone, h, hds, List.foldl_cons, List.foldl_nil, Bool.false_eq_true, if_false]

end

/-! ### Start-up -/

section
variable {u v w x : State} {k : Nat}

theorem trySlot_good (hst : (v.slot k).st = 2 ∨ (v.slot k).st = 3 ∨ (v.slot k).st = 5) (ha : v.accepts_ k = true) :
    v.trySlot k = (v, true) :=
  (if_neg (not_not_intro hst)).trans (if_pos ha)

section
variable (hv : ({ (u.setRegB Reg.PWR_DOM_STS 1 true) with pwr := { u.pwr with lampAt := some u.sclk } } : State) = v)
  (hk : u.upd.select = k)
include hv hk

theorem boot_selected (ht : v.trySlot k = (w, true)) : u.boot = w.runSlot k k := by
  subst hv hk
  simp only [State.boot, ht, if_true]

theorem boot_other (ht : v.trySlot k = (w, false)) (ht' : w.trySlot (1 - k) = (x, true)) : u.boot = x.runSlot (1 - k) k := by
  subst hv hk
  simp only [State.boot, ht, ht', Bool.false_eq_true, if_false, if_true]

theorem boot_recovery (ht : v.trySlot k = (w, false)) (ht' : w.trySlot (1 - k) = (x, false)) :
    u.boot = { (x.setRegF Reg.PWR_DOM_STS 9 0 0x43) with pwr := { x.pwr with recovery := true } } := by
  subst hv hk
  simp only [State.boot, ht, ht', Bool.false_eq_true, if_false]

end

theorem powerOn_booted (hon : u.isOn = true) (hn : u.noFeed = false) (hr : u.pwr.recovery = false) (hat : u.pwr.startAt ≤ u.sclk)
    (hs : u.regF Reg.PWR_START_STS 3 0 ≤ 2) (hb : u.pwr.booted = true) : u.powerOn = u.initialise := by
  refine (if_neg (by simp [hon, hn, hr, hat, hs])).trans ?_
  simp only [hb, if_true]

theorem powerOn_none (h : u.isOn = false ∨ u.noFeed = true ∨ u.pwr.recovery = true ∨ u.sclk < u.pwr.startAt ∨
    2 < u.regF Reg.PWR_START_STS 3 0) : u.powerOn = u := by
  refine if_pos ?_
  rcases h with h | h | h | h | h <;> simp [h]

/-- The clock starts from the backup clock where that is valid, and from 0 where not. -/
theorem startClock_backup (s : State) : s.startClock.bkp.valid = s.bkp.valid ∧ (s.bkp.valid = false → s.startClock.ptp = 0) := by
  unfold State.startClock
  by_cases hb : s.bkp.valid = true
  · rw [if_pos hb, hb]
    exact ⟨rfl, fun h => absurd h (by decide)⟩
  · rw [if_neg hb, Bool.eq_false_iff.mpr hb]
    exact ⟨rfl, fun _ => rfl⟩

theorem timeSettle_settles (hs : u.pwr.settled = false) (hr : u.pwr.roleAt ≠ none) (ht : (u.timeLocked || u.timeWaited) = true) :
    u.timeSettle = u.timeNoted.timeFollow := by
  refine if_neg ?_
  rw [ht, hs]
  simpa using hr

theorem timeSettle_none (h : u.pwr.settled = true ∨ u.pwr.roleAt = none ∨ (u.timeLocked || u.timeWaited) = false) : u.timeSettle = u := by
  refine if_pos ?_
  rcases h with h | h | h
  · simp [h]
  · simp [h]
  · rw [h]; simp

end

/-- Settles O58: a reset follows its request, a domain its switch, and start-up the slot that is accepted first. -/
theorem resetsAndStartUp : Obligations.ResetsAndStartUp := by
  refine ⟨?_, ?_, ?_, ?_, ?_, ?_, ?_, ?_, ?_, ?_, ?_, ?_, ?_, ?_, ?_, ?_, ?_, ?_, ?_, ?_⟩
  · intro dt m v s u hu ho hn hr hv hc
    refine (rstReq_write hu ho (by decide)).trans (congrArg Host.Outcome.next ((rstReq_asks hn hr hv).trans ?_))
    simp only [hc, if_true]
  · intro dt m v s u hu ho hn hr hv hc
    refine (rstReq_write hu ho (by decide)).trans (congrArg Host.Outcome.next ((rstReq_asks hn hr hv).trans ?_))
    simp only [hc, Bool.false_eq_true, if_false]
  · exact fun dt m v s u hu ho hv h => (rstReq_write hu ho hv).trans (congrArg Host.Outcome.next (rstReq_ignored h))
  · exact fun dt c s u hu h => (exec_moduleReset ..).trans (next_of_after hu (requestedReset_some h))
  · exact fun dt s u hu h => (exec_moduleReset ..).trans (next_of_after hu (requestedReset_none h))
  · intro s v c hv
    subst hv
    rfl
  · exact fun dt m v s u hu ho hx hm hr hf => (domReq_write hu ho hx).trans (congrArg Host.Outcome.next (domReq_taken hx hm hr hf))
  · exact fun dt m v s u hu ho hx hm hr => (domReq_write hu ho hx).trans (congrArg Host.Outcome.next (domReq_refused hx hm hr))
  · exact fun dt s u hu h => (exec_domainSwitchDone ..).trans (next_of_after hu (domDone_none h))
  · exact fun dt v s u hu h hon hv => (exec_domainSwitchDone ..).trans (next_of_after hu (domDone_off (d := 4) h (by decide) hon hv))
  · exact fun dt v s u hu h hon hv => (exec_domainSwitchDone ..).trans (next_of_after hu (domDone_off (d := 9) h (by decide) hon hv))
  · exact fun dt s u hu h => (exec_boot ..).trans (next_of_after hu (if_neg (by simp [h])))
  · exact fun dt k v s u hu hi hk hv hst ha =>
      (exec_boot ..).trans (next_of_after hu ((if_pos hi).trans (boot_selected hv hk (trySlot_good hst ha))))
  · exact fun dt k v w s u hu hi hk hv ht hst ha =>
      (exec_boot ..).trans (next_of_after hu ((if_pos hi).trans (boot_other hv hk ht (trySlot_good hst ha))))
  · exact fun dt k v w x s u hu hi hk hv ht ht' =>
      (exec_boot ..).trans (next_of_after hu ((if_pos hi).trans (boot_recovery hv hk ht ht')))
  · exact fun dt s u hu hon hn hr hat hs hb => (exec_powerOnReset ..).trans (next_of_after hu (powerOn_booted hon hn hr hat hs hb))
  · exact fun dt s u hu h => (exec_powerOnReset ..).trans (next_of_after hu (powerOn_none h))
  · exact startClock_backup
  · exact fun dt s u hu hs hr ht => (exec_timeSettle ..).trans (next_of_afterEv hu (timeSettle_settles hs hr ht))
  · exact fun dt s u hu h => (exec_timeSettle ..).trans (next_of_afterEv hu (timeSettle_none h))

end Sys2Proof.Proofs
end

section
/-!
PROOFS. Retirement records and stretches (16 R387 to R398), and the transfer, activation and floor of firmware (18 R426 to
R438).
-/
namespace Sys2Proof.Proofs
open Sys2Proof Sys2Proof.Machine

/-! ### The recorder -/

section
variable {u v : State} {b c m : Nat} {x : Word}

theorem writeRetirement_none (h : u.mram.waiting = []) : u.writeRetirement = u := by simp only [State.writeRetirement, h]

theorem writeRetirement_cons {r : Retired} {l : List Retired} (h : u.mram.waiting = r :: l) :
    u.writeRetirement = { u with mram := { retired := u.mram.retired ++ [r], waiting := l } } := by
  simp only [State.writeRetirement, h]

theorem periodEnd_of (h : u.recd.began = some b) : u.periodEnd =
    if u.regF Reg.REC_PERIOD 10 0 = 0 || u.sclk < b + u.regF Reg.REC_PERIOD 10 0 * minuteClk then u else u.closeStretch 1 := by
  simp only [State.periodEnd, h]

theorem periodEnd_none (h : u.recd.began = none ∨ u.regF Reg.REC_PERIOD 10 0 = 0) : u.periodEnd = u := by
  rcases hb : u.recd.began with _ | b
  · simp only [State.periodEnd, hb]
  · have hp : u.regF Reg.REC_PERIOD 10 0 = 0 := h.resolve_left (by simp [hb])
    exact (periodEnd_of hb).trans (if_pos (by simp [hp]))

theorem closeStretch_open (hb : u.recd.began = some b) (ht : u.recd.todo = [] ∨ (c ≠ 2 ∧ c ≠ 3))
    (hm : min 0xFFFF ((u.sclk - b) / minuteClk) = m) (hv : (if c = 2 then (u.lifeAdd 104 m).lifeAdd 100 1 else u.lifeAdd 104 m) = v) :
    u.closeStretch c = ({ v with recd := { v.recd with
      todo := v.recd.todo ++ v.closing c m, next := if v.recd.todo = [] then v.sclk else v.recd.next } } : State).beginStretch := by
  subst hm hv
  simp only [State.closeStretch, hb]
  refine if_neg ?_
  rcases ht with ht | ⟨h2, h3⟩
  · simp [ht]
  · simp [h2, h3]

section
variable (hx : x.toNat < 4096)
include hx

theorem recSel_none (hs : u.slotWords (x.fld 11 11) (x.fld 10 0) = none) :
    u.recSel x = (List.range 32).foldl (fun s i => s.setReg (Reg.REC_WINi i) (item [] i)) ((u.setReg Reg.REC_SEL x).setReg Reg.REC_WIN_STS 4) := by
  have hself : x &&& 0xFFF = x := and_eq_self_of_lt (mask := 0xFFF) (k := 12) (by decide) hx
  simp only [State.recSel, hself, hs, Option.getD_none]

theorem recSel_some {l : List Word} (hs : u.slotWords (x.fld 11 11) (x.fld 10 0) = some l) :
    u.recSel x = (List.range 32).foldl (fun s i => s.setReg (Reg.REC_WINi i) (item l i))
      ((u.setReg Reg.REC_SEL x).setReg Reg.REC_WIN_STS (if recGood l then 1 else if item l 31 = recMark then 2 else 0)) := by
  have hself : x &&& 0xFFF = x := and_eq_self_of_lt (mask := 0xFFF) (k := 12) (by decide) hx
  simp only [State.recSel, hself, hs, Option.getD_some]

end

theorem recSel_write {dt n : Nat} {s : State} (hu : s.toWrite dt n Reg.REC_SEL x = u) (ho : u.opens n true Reg.REC_SEL = true)
    (hx : x.toNat < 4096) : exec (.recSel dt n x) s = .next (u.recSel x) :=
  (exec_recSel ..).trans ((writeAfter_eq_single hu).trans (congrArg Host.Outcome.next
    (writesAs_recSel.single ho (and_not_eq_zero_of_lt (mask := 0xFFF) (k := 12) (by decide) hx))))

end

/-! ### Frames of the transfer -/

section
variable {u v w : State} {dst et slot tag mac len crc ix part : Nat} {bs : List Byte} {f : State → State}

theorem onSvc_taken (h : u.svcTakes dst et = true) : u.onSvc dst et f = f u := if_pos h

theorem onSvc_dropped (h : u.svcTakes dst et = false) : u.onSvc dst et f = u := if_neg (by simp [h])

/-! OPEN -/

section
variable (hs : slot ≤ 1)
include hs

theorem updOpen_disabled (he : u.regB Reg.UPD_CTL 0 = false) : u.updOpen slot tag mac len crc = u.updAnswer 0x20 slot tag mac xfDisabled 0 :=
  (if_neg (Nat.not_lt.mpr hs)).trans (if_pos (by simp [he]))

variable (he : u.regB Reg.UPD_CTL 0 = true)
include he

theorem updOpen_enabled : u.updOpen slot tag mac len crc =
    if u.slotBusy slot || u.otherSession mac then u.updAnswer 0x20 slot tag mac xfBusy 0
    else if imgMax < len || len % 4096 ≠ 0 then u.updAnswer 0x20 slot tag mac xfRange 0
    else (u.setSlot slot { st := 1, len := len }).setSession (some { slot := slot, mac := mac, len := len, crc := crc, tag := tag, last := u.sclk }) :=
  (if_neg (Nat.not_lt.mpr hs)).trans (if_neg (by simp [he]))

theorem updOpen_busy (hb : u.slotBusy slot = true) : u.updOpen slot tag mac len crc = u.updAnswer 0x20 slot tag mac xfBusy 0 :=
  (updOpen_enabled hs he).trans (if_pos (by simp [hb]))

variable (hb : u.slotBusy slot = false) (ho : u.otherSession mac = false)
include hb ho

theorem updOpen_opens (hl : len ≤ imgMax) (hm : len % 4096 = 0) : u.updOpen slot tag mac len crc =
    (u.setSlot slot { st := 1, len := len }).setSession (some { slot := slot, mac := mac, len := len, crc := crc, tag := tag, last := u.sclk }) :=
  (updOpen_enabled hs he).trans ((if_neg (by simp [hb, ho])).trans (if_neg (by simp [hl, hm])))

theorem updOpen_range (h : imgMax < len ∨ len % 4096 ≠ 0) : u.updOpen slot tag mac len crc = u.updAnswer 0x20 slot tag mac xfRange 0 := by
  refine (updOpen_enabled hs he).trans ((if_neg (by simp [hb, ho])).trans (if_pos ?_))
  rcases h with h | h <;> simp [h]

end

theorem otherSession_none (h : ∀ x, u.upd.session = some x → x.mac = mac) : u.otherSession mac = false := by
  unfold State.otherSession
  rcases hx : u.upd.session with _ | x
  · rfl
  · exact decide_eq_false (not_not_intro (h x hx))

theorem eraseDone_erasing {x : XferSession} (h : u.upd.session = some x) (he : x.erasing = true) :
    u.eraseDone = (u.setSession (some { x with erasing := false })).updAnswer 0x20 x.slot x.tag x.mac xfOk 0 := by
  simp only [State.eraseDone, h, he, if_true]

theorem eraseDone_none (h : ∀ x, u.upd.session = some x → x.erasing = false) : u.eraseDone = u := by
  rcases hx : u.upd.session with _ | x
  · simp only [State.eraseDone, hx]
  · simp only [State.eraseDone, hx, h x hx, Bool.false_eq_true, if_false]

/-! BLOCK -/

theorem updBlock_disabled (he : u.regB Reg.UPD_CTL 0 = false) :
    u.updBlock slot tag mac ix part crc bs = u.updAnswer 0x21 slot tag mac xfDisabled 0 := if_pos (by simp [he])

section
variable (he : u.regB Reg.UPD_CTL 0 = true)
include he

theorem updBlock_noSession (hx : u.sessionOf slot mac = none) :
    u.updBlock slot tag mac ix part crc bs = u.updAnswer 0x21 slot tag mac xfNoSession 0 := by
  refine (if_neg (by simp [he])).trans ?_
  simp only [hx]

variable {x y : XferSession} (hx : u.sessionOf slot mac = some x) (hy : { x with last := u.sclk } = y) (hv : u.setSession (some y) = v)
include hx hy hv

theorem updBlock_session : u.updBlock slot tag mac ix part crc bs =
    if 3 < part then v.misused 428 0x120000
    else if x.len / 4096 ≤ ix then v.updAnswer 0x21 slot tag mac xfRange 0
    else if bs.length ≠ 1024 then v
    else match x.parts.find? (fun b => b.index = ix) with
      | none => if 16 ≤ x.parts.length then v else v.joinPart y ⟨ix, crc, []⟩ part tag bs
      | some b => if b.crc ≠ crc then v.misused 428 0x120000 else v.joinPart y b part tag bs := by
  subst hv hy
  refine (if_neg (by simp [he])).trans ?_
  simp only [hx] <;> rfl

theorem updBlock_badPart (hp : 3 < part) : u.updBlock slot tag mac ix part crc bs = v.misused 428 0x120000 :=
  (updBlock_session he hx hy hv).trans (if_pos hp)

variable (hp : part ≤ 3)
include hp

theorem updBlock_range (hi : x.len / 4096 ≤ ix) : u.updBlock slot tag mac ix part crc bs = v.updAnswer 0x21 slot tag mac xfRange 0 :=
  (updBlock_session he hx hy hv).trans ((if_neg (Nat.not_lt.mpr hp)).trans (if_pos hi))

variable (hi : ix < x.len / 4096) (hl : bs.length = 1024)
include hi hl

theorem updBlock_first (hf : x.parts.find? (fun b => b.index = ix) = none) (h16 : x.parts.length < 16) :
    u.updBlock slot tag mac ix part crc bs = v.joinPart y ⟨ix, crc, []⟩ part tag bs := by
  refine (updBlock_session he hx hy hv).trans ((if_neg (Nat.not_lt.mpr hp)).trans ((if_neg (Nat.not_le.mpr hi)).trans ((if_neg (not_not_intro hl)).trans ?_)))
  simp only [hf, Nat.not_le.mpr h16, if_false]

theorem updBlock_later {b : PartBlock} (hf : x.parts.find? (fun b => b.index = ix) = some b) :
    u.updBlock slot tag mac ix part crc bs = if b.crc ≠ crc then v.misused 428 0x120000 else v.joinPart y b part tag bs := by
  refine (updBlock_session he hx hy hv).trans ((if_neg (Nat.not_lt.mpr hp)).trans ((if_neg (Nat.not_le.mpr hi)).trans ((if_neg (not_not_intro hl)).trans ?_)))
  simp only [hf]

end

/-! A part of a block -/

section
variable {x : XferSession} {b c : PartBlock} {data old : List Byte}
  (hc : { b with parts := (b.parts.filter (fun q => q.1 ≠ part)) ++ [(part, bs)] } = c)
include hc

theorem joinPart_waits (hw : c.whole = none) :
    u.joinPart x b part tag bs = u.setSession (some { x with parts := x.parts.filter (fun y => y.index ≠ b.index) ++ [c] }) := by
  simp only [State.joinPart, hc, hw]

variable (hw : c.whole = some data) (hv : u.setSession (some { x with parts := x.parts.filter (fun y => y.index ≠ b.index) }) = v)
include hw hv

theorem joinPart_whole : u.joinPart x b part tag bs = v.blockCheck x c data tag := by
  subst hv
  simp only [State.joinPart, hc, hw]

theorem joinPart_stores (ho : sget [] (v.slot x.slot).blocks b.index = [])
    (hu : v.setSlot x.slot { v.slot x.slot with blocks := sput [] (v.slot x.slot).blocks b.index data } = w)
    (hg : crc32 (data.map (fun y => y.toNat)) = b.crc) :
    u.joinPart x b part tag bs = w.updAnswer 0x21 x.slot tag x.mac xfOk (w.stored x.slot) := by
  refine (joinPart_whole hc hw hv).trans ?_
  subst hc hu
  exact (if_neg (not_not_intro ho)).trans ((if_pos hg).trans rfl)

theorem joinPart_badCrc (ho : sget [] (v.slot x.slot).blocks b.index = []) (hg : crc32 (data.map (fun y => y.toNat)) ≠ b.crc) :
    u.joinPart x b part tag bs = (v.countF Reg.UPD_XFER_ERR 15 0 1).updAnswer 0x21 x.slot tag x.mac xfCrc 0 := by
  refine (joinPart_whole hc hw hv).trans ?_
  subst hc
  exact (if_neg (not_not_intro ho)).trans ((if_neg hg).trans rfl)

theorem joinPart_again (ho : sget [] (v.slot x.slot).blocks b.index = old) (hn : old ≠ []) :
    u.joinPart x b part tag bs = if crc32 (old.map (fun y => y.toNat)) = b.crc then v.updAnswer 0x21 x.slot tag x.mac xfOk (v.stored x.slot)
      else v.updAnswer 0x21 x.slot tag x.mac xfDup 0 := by
  refine (joinPart_whole hc hw hv).trans ?_
  subst hc ho
  refine (if_pos hn).trans ?_
  by_cases hg : crc32 ((sget [] (v.slot x.slot).blocks b.index).map (fun y => y.toNat)) = b.crc
  · simp only [hg, if_true]
  · simp only [hg, if_false]
    rfl

end

/-! CLOSE and ABORT -/

section
variable (he : u.regB Reg.UPD_CTL 0 = true) {x : XferSession}
include he

theorem updAbort_session (hx : u.sessionOf slot mac = some x) :
    u.updAbort slot tag mac = (u.updAnswer 0x23 slot tag mac xfOk (u.stored slot)).setSession none := by
  refine (if_neg (by simp [he])).trans ?_
  simp only [hx]

theorem updAbort_noSession (hx : u.sessionOf slot mac = none) : u.updAbort slot tag mac = u.updAnswer 0x23 slot tag mac xfNoSession 0 := by
  refine (if_neg (by simp [he])).trans ?_
  simp only [hx]

variable (hx : u.sessionOf slot mac = some x) (hv : u.setSession (some { x with last := u.sclk }) = v)
include hx hv

theorem updClose_incomplete {i : Nat} (hm : v.firstMissing x = some i) :
    u.updClose slot tag mac = (v.updAnswer 0x22 slot tag mac xfIncomplete i).raiseBit 35 1 := by
  subst hv
  refine (if_neg (by simp [he])).trans ?_
  simp only [hx, hm]

variable (hm : v.firstMissing x = none)
include hm

theorem updClose_image (h : crc32 ((v.slot slot).bytes.map (fun y => y.toNat)) ≠ x.crc ∨ v.suits (imgHdr (v.slot slot).bytes x.len) = false) :
    u.updClose slot tag mac = (v.updAnswer 0x22 slot tag mac xfImage 0).raiseBit 35 1 := by
  subst hv
  refine (if_neg (by simp [he])).trans ?_
  simp only [hx, hm]
  refine if_neg ?_
  rcases h with h | h <;> simp [h]

theorem updClose_completes (hg : crc32 ((v.slot slot).bytes.map (fun y => y.toNat)) = x.crc)
    (hs : v.suits (imgHdr (v.slot slot).bytes x.len) = true) (hr : u.pwr.recovery = false)
    (hw : (v.setSlot slot { v.slot slot with st := 2, hdr := some (imgHdr (v.slot slot).bytes x.len) }).setSession none = w) :
    u.updClose slot tag mac = (w.updAnswer 0x22 slot tag mac xfOk (w.stored slot)).raiseBit 35 0 := by
  have hrec : ((w.updAnswer 0x22 slot tag mac xfOk (w.stored slot)).raiseBit 35 0).pwr.recovery = false := by
    rw [State.raiseBit_pwr, ← hr, ← hw, ← hv]
    rfl
  subst hv
  refine (if_neg (by simp [he])).trans ?_
  simp only [hx, hm]
  refine (if_pos (by simp [hg, hs])).trans ?_
  simp only [hw, hrec, Bool.false_eq_true, if_false]

end

/-! The session's end and the announcement -/

theorem sessionTimeout_of {x : XferSession} (h : u.upd.session = some x) :
    u.sessionTimeout = if x.last + 60000 * msClk ≤ u.sclk then u.setSession none else u := by
  simp only [State.sessionTimeout, h]

theorem sessionTimeout_none (h : ∀ x, u.upd.session = some x → u.sclk < x.last + 60000 * msClk) : u.sessionTimeout = u := by
  rcases hx : u.upd.session with _ | x
  · simp only [State.sessionTimeout, hx]
  · exact (sessionTimeout_of hx).trans (if_neg (Nat.not_le.mpr (h x hx)))

theorem announceDue_of (h : ∀ x, u.upd.announced = some x → x + 1000 * msClk ≤ u.sclk) : u.announceDue = true := by
  unfold State.announceDue
  rcases hx : u.upd.announced with _ | x
  · rfl
  · exact decide_eq_true (h x hx)

theorem recoveryAnnounce_due (hr : u.pwr.recovery = true) (hd : u.announceDue = true)
    (hv : ({ u with upd := { u.upd with announced := some u.sclk } } : State) = v) :
    u.recoveryAnnounce = v.emit (.serviceResponse (2 ^ 48 - 1) (leBytes 4 0x2F ++ leBytes 4 v.sysId.toNat ++ leBytes 8 (v.reg64 Reg.SYS_SERIAL_LO Reg.SYS_SERIAL_HI))) := by
  subst hv
  exact if_neg (by simp [hr, hd])

theorem recoveryAnnounce_none (hr : u.pwr.recovery = false) : u.recoveryAnnounce = u := if_pos (by simp [hr])

end

/-! ### Activation and the floor -/

section
variable {u v : State} {x : Word} {n b : Nat}

theorem activation_none (h : u.regB Reg.UPD_ACT_EXT 17 = false ∨ u.now < u.actTime) : u.activation = u := by
  refine if_pos ?_
  rcases h with h | h <;> simp [h]

section
variable (ha : u.regB Reg.UPD_ACT_EXT 17 = true) (ht : u.actTime ≤ u.now) (hn : u.noFeed = false)
include ha ht hn

theorem activation_now (hr : u.role = 0 ∨ u.role = 3 ∨ u.role = 6) (hv : u.disarm = v) :
    u.activation = ({ v with upd := { v.upd with select := u.actSlot, chain := some u.actSlot } } : State).rstReq 0x5A5A0001 := by
  subst hv
  refine (if_neg (by simp [ha, ht, hn])).trans ((if_pos ?_).trans rfl)
  rcases hr with hr | hr | hr <;> simp [hr]

theorem activation_deferred (hr : u.role = 1) (hh : u.pair.hand = none) (hd : u.upd.deferred = false) :
    u.activation = ({ u with upd := { u.upd with deferred := true } } : State).raiseBit 35 2 := by
  refine (if_neg (by simp [ha, ht, hn])).trans ((if_neg (by simp [hr])).trans ((if_neg (by simp [hr])).trans ?_))
  simp only [hh]
  exact if_neg (by simp [hd])

end

theorem floorReq_burns (hk : x.fld 31 16 = 0xA5C3) (hf : u.upd.floor < x.fld 7 0) (hs : x.fld 7 0 ≤ u.runSecver) (hb : u.upd.burn = none) :
    u.floorReq x = { u with upd := { u.upd with burn := some (x.fld 7 0, u.sclk), refused := false } } :=
  if_pos (by simp [hk, hf, hs, hb])

theorem floorReq_refused (h : x.fld 31 16 ≠ 0xA5C3 ∨ x.fld 7 0 ≤ u.upd.floor ∨ u.runSecver < x.fld 7 0 ∨ u.upd.burn ≠ none) :
    u.floorReq x = { u with upd := { u.upd with refused := true } } := by
  refine if_neg ?_
  rcases h with h | h | h | h
  · simp [h]
  · simp [Nat.not_lt.mpr h]
  · simp [Nat.not_le.mpr h]
  · simp [h]

theorem floorReq_write {dt m : Nat} {s : State} (hu : s.toWrite dt m Reg.UPD_FLOOR_REQ x = u)
    (ho : u.opens m true Reg.UPD_FLOOR_REQ = true) (hx : x &&& 0x0000FF00 = 0) :
    exec (.floorRequest dt m x) s = .next (u.floorReq x) :=
  (exec_floorRequest ..).trans ((writeAfter_eq_single hu).trans (congrArg Host.Outcome.next (writesAs_floorReq.single ho hx)))

theorem burnDone_ends (h : u.upd.burn = some (n, b)) (ht : b + (n - u.upd.floor) * msClk ≤ u.sclk) :
    u.burnDone = ({ u with upd := { u.upd with floor := n, burn := none } } : State).raiseBit 35 3 := by
  simp only [State.burnDone, h, ht, if_true]

theorem burnDone_none (h : u.upd.burn = none) : u.burnDone = u := by simp only [State.burnDone, h]

end

/-- Settles O56: the recorder writes what waits and closes what has lasted its period; a transfer frame is answered by the
state of its session; an activation acts by role, and a burn ends with its last fuse. -/
theorem recorderAndUpdate : Obligations.RecorderAndUpdate := by
  refine ⟨?_, ?_, ?_, ?_, ?_, ?_, ?_, ?_, ?_, ?_, ?_, ?_, ?_, ?_, ?_, ?_, ?_, ?_, ?_, ?_, ?_, ?_, ?_, ?_, ?_, ?_, ?_, ?_, ?_, ?_,
    ?_, ?_, ?_, ?_, ?_, ?_, ?_, ?_, ?_, ?_, ?_⟩
  · exact fun dt s u hu h => (exec_retirementRecord ..).trans (next_of_after hu (writeRetirement_none h))
  · exact fun dt r l s u hu h => (exec_retirementRecord ..).trans (next_of_after hu (writeRetirement_cons h))
  · exact fun dt b s u hu h hp ht =>
      (exec_periodEnd ..).trans (next_of_afterEv hu ((periodEnd_of h).trans (if_neg (by simp [hp, ht]))))
  · exact fun dt s u hu h => (exec_periodEnd ..).trans (next_of_afterEv hu (periodEnd_none h))
  · exact fun dt b s u hu h ht => (exec_periodEnd ..).trans (next_of_afterEv hu ((periodEnd_of h).trans (if_pos (by simp [ht]))))
  · exact fun s v b c m hb ht hm hv => closeStretch_open hb ht hm hv
  · exact fun dt m v s u hu ho hv hs => (recSel_write hu ho hv).trans (congrArg Host.Outcome.next (recSel_none hv hs))
  · exact fun dt m v l s u hu ho hv hs => (recSel_write hu ho hv).trans (congrArg Host.Outcome.next (recSel_some hv hs))
  · exact fun dt dst et slot tag mac len crc s u hu ht hs he hb hx hl hm =>
      (exec_updOpen ..).trans (next_of_afterEv hu ((onSvc_taken ht).trans (updOpen_opens hs he hb (otherSession_none hx) hl hm)))
  · exact fun dt dst et slot tag mac len crc s u hu ht hs he =>
      (exec_updOpen ..).trans (next_of_afterEv hu ((onSvc_taken ht).trans (updOpen_disabled hs he)))
  · exact fun dt dst et slot tag mac len crc s u hu ht hs he hb =>
      (exec_updOpen ..).trans (next_of_afterEv hu ((onSvc_taken ht).trans (updOpen_busy hs he hb)))
  · exact fun dt dst et slot tag mac len crc s u hu ht hs he hb hx h =>
      (exec_updOpen ..).trans (next_of_afterEv hu ((onSvc_taken ht).trans
        (updOpen_range hs he hb (otherSession_none (by simp [hx])) h)))
  · exact fun dt dst et slot tag mac len crc s u hu ht => (exec_updOpen ..).trans (next_of_afterEv hu (onSvc_dropped ht))
  · exact fun dt x s u hu h he => (exec_slotEraseDone ..).trans (next_of_after hu (eraseDone_erasing h he))
  · exact fun dt s u hu h => (exec_slotEraseDone ..).trans (next_of_after hu (eraseDone_none h))
  · exact fun dt dst et slot tag mac ix part crc bs s u hu ht he =>
      (exec_updBlock ..).trans (next_of_afterEv hu ((onSvc_taken ht).trans (updBlock_disabled he)))
  · exact fun dt dst et slot tag mac ix part crc bs s u hu ht he hx =>
      (exec_updBlock ..).trans (next_of_afterEv hu ((onSvc_taken ht).trans (updBlock_noSession he hx)))
  · exact fun dt dst et slot tag mac ix part crc bs x v s u hu ht he hx hv hp hi =>
      (exec_updBlock ..).trans (next_of_afterEv hu ((onSvc_taken ht).trans (updBlock_range he hx rfl hv hp hi)))
  · exact fun dt dst et slot tag mac ix part crc bs x y v s u hu ht he hx hy hv hp hi hl hf h16 =>
      (exec_updBlock ..).trans (next_of_afterEv hu ((onSvc_taken ht).trans (updBlock_first he hx hy hv hp hi hl hf h16)))
  · exact fun dt dst et slot tag mac ix part crc bs x y b v s u hu ht he hx hy hv hp hi hl hf hc =>
      (exec_updBlock ..).trans (next_of_afterEv hu ((onSvc_taken ht).trans
        ((updBlock_later he hx hy hv hp hi hl hf).trans (if_neg (not_not_intro hc)))))
  · exact fun dt dst et slot tag mac ix part crc bs x v s u hu ht he hx hv hp =>
      (exec_updBlock ..).trans (next_of_afterEv hu ((onSvc_taken ht).trans (updBlock_badPart he hx rfl hv hp)))
  · exact fun dt dst et slot tag mac ix part crc bs x y b v s u hu ht he hx hy hv hp hi hl hf hc =>
      (exec_updBlock ..).trans (next_of_afterEv hu ((onSvc_taken ht).trans
        ((updBlock_later he hx hy hv hp hi hl hf).trans (if_pos hc))))
  · exact fun s x b c part tag bs hc hw => joinPart_waits hc hw
  · exact fun s v x b c part tag bs data hc hw hv ho =>
      ⟨fun w hu hg => joinPart_stores hc hw hv ho hu hg, fun hg => joinPart_badCrc hc hw hv ho hg⟩
  · exact fun s v x b c part tag bs data old hc hw hv ho hn => joinPart_again hc hw hv ho hn
  · exact fun dt dst et slot tag mac x i v s u hu ht he hx hv hm =>
      (exec_updClose ..).trans (next_of_after hu ((onSvc_taken ht).trans (updClose_incomplete he hx hv hm)))
  · exact fun dt dst et slot tag mac x v w s u hu ht he hx hv hm hg hs hr hw =>
      (exec_updClose ..).trans (next_of_after hu ((onSvc_taken ht).trans (updClose_completes he hx hv hm hg hs hr hw)))
  · exact fun dt dst et slot tag mac x v s u hu ht he hx hv hm h =>
      (exec_updClose ..).trans (next_of_after hu ((onSvc_taken ht).trans (updClose_image he hx hv hm h)))
  · exact fun dt dst et slot tag mac x s u hu ht he hx =>
      (exec_updAbort ..).trans (next_of_after hu ((onSvc_taken ht).trans (updAbort_session he hx)))
  · exact fun dt dst et slot tag mac s u hu ht he hx =>
      (exec_updAbort ..).trans (next_of_after hu ((onSvc_taken ht).trans (updAbort_noSession he hx)))
  · exact fun dt x s u hu h ht => (exec_sessionTimeout ..).trans (next_of_afterEv hu ((sessionTimeout_of h).trans (if_pos ht)))
  · exact fun dt s u hu h => (exec_sessionTimeout ..).trans (next_of_afterEv hu (sessionTimeout_none h))
  · exact fun dt v s u hu hr hd hv => (exec_recoveryAnnounce ..).trans (next_of_after hu (recoveryAnnounce_due hr (announceDue_of hd) hv))
  · exact fun dt s u hu hr => (exec_recoveryAnnounce ..).trans (next_of_after hu (recoveryAnnounce_none hr))
  · exact fun dt v s u hu ha ht hn hr hv => (exec_activation ..).trans (next_of_afterEv hu (activation_now ha ht hn hr hv))
  · exact fun dt s u hu ha ht hn hr hh hd => (exec_activation ..).trans (next_of_afterEv hu (activation_deferred ha ht hn hr hh hd))
  · exact fun dt s u hu h => (exec_activation ..).trans (next_of_afterEv hu (activation_none h))
  · exact fun dt m v s u hu ho hx hk hf hs hb =>
      (floorReq_write hu ho hx).trans (congrArg Host.Outcome.next (floorReq_burns hk hf hs hb))
  · exact fun dt m v s u hu ho hx h => (floorReq_write hu ho hx).trans (congrArg Host.Outcome.next (floorReq_refused h))
  · exact fun dt n b s u hu h ht => (exec_floorBurnDone ..).trans (next_of_after hu (burnDone_ends h ht))
  · exact fun dt s u hu h => (exec_floorBurnDone ..).trans (next_of_after hu (burnDone_none h))

end Sys2Proof.Proofs
end

section
/-!
PROOFS. Modes, sending, receiving and the bus state of the CAN FD controllers (14 R339 to R353).
-/
namespace Sys2Proof.Proofs
open Sys2Proof Sys2Proof.Machine

/-! ### Modes (R341, R342) -/

section
variable {u w v : State} {n t m : Nat} {x : Word} {forced : Bool}

section
variable (hx : x.toNat < 16)
include hx

theorem canCtl_of (hw : u.setReg (Reg.CANn_CTL n) x = w) : u.canCtl n x =
    if x.fld 1 0 = 3 then w.misused 341 (Reg.CANn_CTL n)
    else if x.fld 1 0 ≠ 0 && w.badTiming n then w.misused 339 (Reg.CANn_CTL n)
    else if w.canProg n = u.canProg n then w
    else w.canLater n (u.canMode n) (u.forcedRo n) := by
  have hself : x &&& 0xF = x := and_eq_self_of_lt (mask := 0xF) (k := 4) (by decide) hx
  subst hw
  unfold State.canCtl
  rw [hself]

theorem canCtl_checked (h3 : x.fld 1 0 ≠ 3) (hw : u.setReg (Reg.CANn_CTL n) x = w) (hb : x.fld 1 0 = 0 ∨ w.badTiming n = false) :
    u.canCtl n x = if w.canProg n = u.canProg n then w else w.canLater n (u.canMode n) (u.forcedRo n) := by
  refine (canCtl_of hx hw).trans ((if_neg h3).trans (if_neg ?_))
  rcases hb with hb | hb <;> simp [hb]

theorem canCtl_write {dt k : Nat} {s : State} (hu : s.toWrite dt k (Reg.CANn_CTL n) x = u) (hn : n < 2)
    (ho : u.opens k true (Reg.CANn_CTL n) = true) : exec (.canModeWrite dt k n x) s = .next (u.canCtl n x) :=
  (exec_canModeWrite ..).trans ((writeAfter_eq_single hu).trans (congrArg Host.Outcome.next
    ((writesAs_canCtl hn).single ho (and_not_eq_zero_of_lt (mask := 0xF) (k := 4) (by decide) hx))))

end

theorem canBoundary_of (hp : (u.can n).pend = some (t, m, forced)) (hv : u.setCan n { u.can n with pend := none, since := t } = v) :
    u.canBoundary n = if u.sclk < t then u
      else if u.canProg n = 0 then ((v.setRegB (Reg.CANn_STS n) 2 false).setCanBus n 0).setCounts n 0 0
      else if m = 0 then v.setRegB (Reg.CANn_STS n) 2 false
      else v := by
  subst hv
  simp only [State.canBoundary, hp]
  rfl

theorem canSync_on (hc : u.hasCan n = true) (hm : u.canMode n ≠ 0) : u.canSync n = u.setRegB (Reg.CANn_STS n) 2 true :=
  if_pos (by simp [hc, hm])

theorem canSync_off (h : u.hasCan n = false ∨ u.canMode n = 0) : u.canSync n = u := by
  refine if_neg ?_
  rcases h with h | h <;> simp [h]

end

/-! ### Queueing a frame (R343) -/

/-- The frame that the transmit registers of controller `n` stage. -/
def staged (u : State) (n : Nat) : CanEntry :=
  { id := u.reg (Reg.CANn_TX_ID n), ctl := u.reg (Reg.CANn_TX_CTL n), data := (List.range 16).map (fun i => u.reg (Reg.CANn_TX_DATAi n i)) }

/-- The staged frame is not one of the standard's: a remote frame in CAN FD, or a bit rate switch or a DLC above 8 without
it. -/
def stagedBad (u : State) (n : Nat) : Bool :=
  (u.reg (Reg.CANn_TX_ID n)).bit 30 && (u.reg (Reg.CANn_TX_CTL n)).bit 4 ||
  (u.reg (Reg.CANn_TX_CTL n)).bit 5 && !(u.reg (Reg.CANn_TX_CTL n)).bit 4 ||
  decide (8 < (u.reg (Reg.CANn_TX_CTL n)).fld 3 0) && !(u.reg (Reg.CANn_TX_CTL n)).bit 4

section
variable {u w : State} {n : Nat} {x : Word}

theorem canPush_of {full : Bool} (h0 : x.bit 0 = true)
    (hf : (if x.bit 1 then (u.can n).urgent.isSome else decide (32 ≤ (u.can n).fifo.length)) = full)
    (hw : u.setReg (Reg.CANn_TX_STS n) (if full then 1 else if stagedBad u n then 2 else 0) = w) :
    u.canPush n x = if full || stagedBad u n then w
      else w.setCan n (if x.bit 1 then { u.can n with urgent := some (staged u n), urgentAt := w.sclk }
        else { u.can n with fifo := (u.can n).fifo ++ [staged u n] }) := by
  subst hf hw
  exact if_neg (by simp [h0])

theorem canPush_full (h0 : x.bit 0 = true)
    (hf : (if x.bit 1 then (u.can n).urgent.isSome else decide (32 ≤ (u.can n).fifo.length)) = true) :
    u.canPush n x = u.setReg (Reg.CANn_TX_STS n) 1 :=
  (canPush_of h0 hf rfl).trans (if_pos rfl)

theorem canPush_bad (h0 : x.bit 0 = true)
    (hf : (if x.bit 1 then (u.can n).urgent.isSome else decide (32 ≤ (u.can n).fifo.length)) = false) (hb : stagedBad u n = true) :
    u.canPush n x = u.setReg (Reg.CANn_TX_STS n) 2 := by
  refine (canPush_of h0 hf rfl).trans ((if_pos (by simp [hb])).trans ?_)
  simp only [hb, Bool.false_eq_true, if_false, if_true]

theorem canPush_queues (h0 : x.bit 0 = true)
    (hf : (if x.bit 1 then (u.can n).urgent.isSome else decide (32 ≤ (u.can n).fifo.length)) = false) (hb : stagedBad u n = false)
    (hw : u.setReg (Reg.CANn_TX_STS n) 0 = w) :
    u.canPush n x = w.setCan n (if x.bit 1 then { u.can n with urgent := some (staged u n), urgentAt := w.sclk }
      else { u.can n with fifo := (u.can n).fifo ++ [staged u n] }) := by
  refine (canPush_of h0 hf ?_).trans (if_neg (by simp [hb]))
  rw [hb]
  exact hw

theorem canPush_write {dt k : Nat} {s : State} (hu : s.toWrite dt k (Reg.CANn_TX_PUSH n) x = u) (hn : n < 2)
    (ho : u.opens k true (Reg.CANn_TX_PUSH n) = true) (hx : x &&& ~~~(3 : Word) = 0) :
    exec (.canTxPush dt k n x) s = .next (u.canPush n x) :=
  (exec_canTxPush ..).trans ((writeAfter_eq_single hu).trans (congrArg Host.Outcome.next ((writesAs_canPush hn).single ho hx)))

end

/-! ### Entries that leave their queue (R344 to R348) -/

section
variable {u w : State} {n back st : Nat} {b : Bool} {e : CanEntry} {ts : Word}

theorem frameSent_sends (ho : u.canOffered n b = some e) (hb : u.canBegan n b back = true)
    (hw : (u.setCan n ((u.can n).setHead b none)).canEvent n e 1 b (w32 (u.sclk / 10 - back)) = w) :
    u.frameSent n b back = w.setCounts n (w.regF (Reg.CANn_ERR n) 7 0 - 1) (w.canRec n) := by
  subst hw
  simp only [State.frameSent, ho, hb, Bool.not_true, Bool.false_eq_true, if_false]
  rfl

theorem frameSent_none (h : u.canOffered n b = none ∨ u.canBegan n b back = false) : u.frameSent n b back = u := by
  rcases ho : u.canOffered n b with _ | e
  · simp only [State.frameSent, ho]
  · have hb : u.canBegan n b back = false := h.resolve_left (by simp [ho])
    simp only [State.frameSent, ho, hb, Bool.not_false, if_true]

theorem canEvent_appends (hl : (u.can n).events.length < 16) (hne : (u.can n).events ≠ []) :
    u.canEvent n e st b ts = u.setCan n { u.can n with events := (u.can n).events ++ [⟨e.ctl.fld 31 16, st, b, ts⟩] } :=
  (if_neg (Nat.not_le.mpr hl)).trans (if_neg hne)

theorem idCollision_of {h : Nat} (ho : u.canOffered n b = some e) (hh : e.hits + 1 = h)
    (hw : (u.count (Reg.CANn_IDCOL_CNT n)).setCan n ((u.can n).setHead b (some { e with hits := h })) = w) :
    u.idCollision n b = (if e.hits = 2 then w.raiseBit (31 + n) 4 else w).canError n 4 8 0 := by
  subst hh hw
  simp only [State.idCollision, ho]

theorem idCollision_none (ho : u.canOffered n b = none) : u.idCollision n b = u := by simp only [State.idCollision, ho]

theorem canRelease_held (h : (u.can n).heldHead = some (b, e)) : u.canRelease n =
    u.setCan n { (u.can n).setHead b (some { e with hits := 0 }) with urgentAt := if b then u.sclk else ((u.can n).setHead b (some { e with hits := 0 })).urgentAt } := by
  simp only [State.canRelease, h]

theorem canRelease_none (h : (u.can n).heldHead = none) : u.canRelease n = u := by simp only [State.canRelease, h]

theorem canDiscard_held (h : (u.can n).heldHead = some (b, e)) :
    u.canDiscard n = (u.setCan n ((u.can n).setHead b none)).canEvent n e 2 b 0 := by
  simp only [State.canDiscard, h]

theorem canDiscard_none (h : (u.can n).heldHead = none) : u.canDiscard n = u := by simp only [State.canDiscard, h]

theorem canFlush_of : u.canFlush n = if u.canTx n false
    then ((u.can n).fifo.drop 1).foldl (fun s e => s.canEvent n e 3 false 0) (u.setCan n { u.can n with fifo := (u.can n).fifo.take 1 })
    else (u.can n).fifo.foldl (fun s e => s.canEvent n e 3 false 0) (u.setCan n { u.can n with fifo := [] }) := by
  unfold State.canFlush
  cases u.canTx n false <;> rfl

end

/-! ### Commands and captures -/

section
variable {u : State} {n k dt : Nat} {x : Word} {s : State}

theorem canCmd_release : u.canCmd n 1 = u.canRelease n := by
  have h : (1 : Word).fld 3 0 = 1 := by decide
  simp only [State.canCmd, h]

theorem canCmd_discard : u.canCmd n 2 = u.canDiscard n := by
  have h : (2 : Word).fld 3 0 = 2 := by decide
  simp only [State.canCmd, h]

theorem canCmd_flush : u.canCmd n 4 = u.canFlush n := by
  have h : (4 : Word).fld 3 0 = 4 := by decide
  simp only [State.canCmd, h]

theorem canCmd_recover : u.canCmd n 8 = u.canRecover n := by
  have h : (8 : Word).fld 3 0 = 8 := by decide
  simp only [State.canCmd, h]

theorem canCmd_write (hu : s.toWrite dt k (Reg.CANn_CMD n) x = u) (hn : n < 2) (ho : u.opens k true (Reg.CANn_CMD n) = true)
    (hx : x &&& ~~~(0xF : Word) = 0) : writeAfter dt k (Reg.CANn_CMD n) x s = .next (u.canCmd n x) :=
  (writeAfter_eq_single hu).trans (congrArg Host.Outcome.next ((writesAs_canCmd hn).single ho hx))

theorem txePop_write (hu : s.toWrite dt k (Reg.CANn_TXE_POP n) x = u) (hn : n < 2) (ho : u.opens k true (Reg.CANn_TXE_POP n) = true)
    (hx : x &&& ~~~(1 : Word) = 0) : exec (.txePop dt k n x) s = .next (u.txePop n x) :=
  (exec_txePop ..).trans ((writeAfter_eq_single hu).trans (congrArg Host.Outcome.next ((writesAs_txePop hn).single ho hx)))

theorem tscCap_one : u.tscCap n 1 = u.canCapture n := if_pos (by decide)

theorem tscCap_write (hu : s.toWrite dt k (Reg.CANn_TSC_CAP n) x = u) (hn : n < 2) (ho : u.opens k true (Reg.CANn_TSC_CAP n) = true)
    (hx : x &&& ~~~(1 : Word) = 0) : exec (.canTscCap dt k n x) s = .next (u.tscCap n x) :=
  (exec_canTscCap ..).trans ((writeAfter_eq_single hu).trans (congrArg Host.Outcome.next ((writesAs_tscCap hn).single ho hx)))

end

/-- Settles O51: a mode changes at its boundary, a push queues what may be queued, and an entry leaves its queue by its end
on the bus or by a command. -/
theorem canSending : Obligations.CanSending := by
  refine ⟨?_, ?_, ?_, ?_, ?_, ?_, ?_, ?_, ?_, ?_, ?_, ?_, ?_, ?_, ?_, ?_, ?_, ?_, ?_, ?_, ?_, ?_, ?_, ?_, ?_, ?_, ?_, ?_⟩
  · exact fun dt m n v w s u hu hn ho hv h3 hw hb hp =>
      (canCtl_write hv hu hn ho).trans (congrArg Host.Outcome.next ((canCtl_checked hv h3 hw hb).trans (if_pos hp)))
  · exact fun dt m n v w s u hu hn ho hv h3 hw hb hp =>
      (canCtl_write hv hu hn ho).trans (congrArg Host.Outcome.next ((canCtl_checked hv h3 hw hb).trans (if_neg hp)))
  · exact fun dt m n v s u hu hn ho hv h3 =>
      (canCtl_write hv hu hn ho).trans (congrArg Host.Outcome.next ((canCtl_of hv rfl).trans (if_pos h3)))
  · intro s v n t m f hp hv
    have hof := canBoundary_of hp hv
    exact ⟨fun h => hof.trans (if_pos h), fun h h0 => hof.trans ((if_neg (Nat.not_lt.mpr h)).trans (if_pos h0)),
      fun h h0 hm => hof.trans ((if_neg (Nat.not_lt.mpr h)).trans ((if_neg h0).trans (if_pos hm))),
      fun h h0 hm => hof.trans ((if_neg (Nat.not_lt.mpr h)).trans ((if_neg h0).trans (if_neg hm)))⟩
  · exact fun dt n s u hu hc hm => (exec_canSync ..).trans (next_of_after hu (canSync_on hc hm))
  · exact fun dt n s u hu h => (exec_canSync ..).trans (next_of_after hu (canSync_off h))
  · intro dt m n e w s u hu hn ho hl hb he hw
    subst he
    exact (canPush_write hu hn ho (by decide)).trans (congrArg Host.Outcome.next
      (canPush_queues (by decide) (decide_eq_false (Nat.not_le.mpr hl)) hb hw))
  · intro dt m n e w s u hu hn ho hl hb he hw
    subst he
    exact (canPush_write hu hn ho (by decide)).trans (congrArg Host.Outcome.next
      (canPush_queues (by decide) (congrArg Option.isSome hl) hb hw))
  · exact fun dt m n s u hu hn ho hl =>
      (canPush_write hu hn ho (by decide)).trans (congrArg Host.Outcome.next (canPush_full (by decide) (decide_eq_true hl)))
  · exact fun dt m n s u hu hn ho hl =>
      (canPush_write hu hn ho (by decide)).trans (congrArg Host.Outcome.next (canPush_full (by decide) hl))
  · exact fun dt m n s u hu hn ho hl hb =>
      (canPush_write hu hn ho (by decide)).trans (congrArg Host.Outcome.next (canPush_bad (by decide) (decide_eq_false (Nat.not_le.mpr hl)) hb))
  · exact fun dt n back b e w s u hu ho hb hw => (exec_canFrameSent ..).trans (next_of_afterEv hu (frameSent_sends ho hb hw))
  · exact fun dt n back b s u hu h => (exec_canFrameSent ..).trans (next_of_afterEv hu (frameSent_none h))
  · exact fun s n st e b ts hl hne => canEvent_appends hl hne
  · intro dt n b e w s u hu ho hh hw
    refine (exec_idCollision ..).trans (next_of_afterEv hu ((idCollision_of ho rfl hw).trans ?_))
    rw [if_neg hh]
  · intro dt n b e w s u hu ho hh hw
    refine (exec_idCollision ..).trans (next_of_afterEv hu ((idCollision_of ho (congrArg (· + 1) hh) hw).trans ?_))
    rw [if_pos hh]
  · exact fun dt n b s u hu ho => (exec_idCollision ..).trans (next_of_afterEv hu (idCollision_none ho))
  · exact fun dt m n b e s u hu hn ho h => (exec_canRelease ..).trans ((canCmd_write hu hn ho (by decide)).trans
      (congrArg Host.Outcome.next (canCmd_release.trans (canRelease_held h))))
  · exact fun dt m n b e s u hu hn ho h => (exec_canDiscard ..).trans ((canCmd_write hu hn ho (by decide)).trans
      (congrArg Host.Outcome.next (canCmd_discard.trans (canDiscard_held h))))
  · exact fun dt m n s u hu hn ho h => (exec_canRelease ..).trans ((canCmd_write hu hn ho (by decide)).trans
      (congrArg Host.Outcome.next (canCmd_release.trans (canRelease_none h))))
  · exact fun dt m n s u hu hn ho h => (exec_canDiscard ..).trans ((canCmd_write hu hn ho (by decide)).trans
      (congrArg Host.Outcome.next (canCmd_discard.trans (canDiscard_none h))))
  · exact fun dt m n s u hu hn ho h => (exec_canRecover ..).trans ((canCmd_write hu hn ho (by decide)).trans
      (congrArg Host.Outcome.next (canCmd_recover.trans (if_pos h))))
  · exact fun dt m n s u hu hn ho h => (exec_canRecover ..).trans ((canCmd_write hu hn ho (by decide)).trans
      (congrArg Host.Outcome.next (canCmd_recover.trans (if_neg h))))
  · exact fun dt m n s u hu hn ho h => (exec_canFlush ..).trans ((canCmd_write hu hn ho (by decide)).trans
      (congrArg Host.Outcome.next (canCmd_flush.trans (canFlush_of.trans (if_neg (by simp [h]))))))
  · exact fun dt m n s u hu hn ho h => (exec_canFlush ..).trans ((canCmd_write hu hn ho (by decide)).trans
      (congrArg Host.Outcome.next (canCmd_flush.trans (canFlush_of.trans (if_pos h)))))
  · exact fun dt m n s u hu hn ho => (txePop_write hu hn ho (by decide)).trans (congrArg Host.Outcome.next (if_pos (by decide)))
  · exact fun dt m n s u hu hn ho => (txePop_write hu hn ho (by decide)).trans (congrArg Host.Outcome.next (if_neg (by decide)))
  · exact fun dt m n s u hu hn ho => (tscCap_write hu hn ho (by decide)).trans (congrArg Host.Outcome.next (tscCap_one.trans rfl))

end Sys2Proof.Proofs
end

section
/-!
PROOFS. Frames that a CAN FD controller receives, and its bus state (14 R349 to R353).
-/
namespace Sys2Proof.Proofs
open Sys2Proof Sys2Proof.Machine

/-! ### Receiving (R349, R350) -/

theorem canWords_length (bytes : List Byte) (len : Nat) : (canWords bytes len).length = 16 := by simp [canWords]

/-- Past the length of the frame the words are zero. -/
theorem canWords_beyond (bytes : List Byte) {len k : Nat} (hk : k < 16) (hl : len ≤ 4 * k) : (canWords bytes len).getD k 0 = 0 := by
  have h0 : ¬ 4 * k < len := by omega
  have h1 : ¬ 4 * k + 1 < len := by omega
  have h2 : ¬ 4 * k + 2 < len := by omega
  have h3 : ¬ 4 * k + 3 < len := by omega
  simp [canWords, List.getD, hk, h0, h1, h2, h3, w32]

section
variable {u v w y : State} {n back k : Nat} {id info : Word} {bytes : List Byte}

theorem frameRx_ignored (h : u.canOn n = false ∨ (info.bit 4 = true ∧ u.regB (Reg.CANn_CTL n) 3 = false) ∨ u.sclk < (u.can n).since + 10 * back) :
    u.frameRx n id info back bytes = u := by
  refine if_pos ?_
  rcases h with h | ⟨h4, h3⟩ | h
  · simp [h]
  · simp [h4, h3]
  · simp [h]

section
variable (hc : u.canOn n = true) (hf : info.bit 4 = false ∨ u.regB (Reg.CANn_CTL n) 3 = true) (hs : (u.can n).since + 10 * back ≤ u.sclk)
  (hr : u.canRec n < 128)
  (hv : ({ u with free := u.free + 1 } : State).setCounts n (u.regF (Reg.CANn_ERR n) 7 0) (u.canRec n - 1) = v)
include hc hf hs hr hv

theorem frameRx_unmatched (ho : v.rxObj n (id.fld 29 0) = none) :
    u.frameRx n id info back bytes = v.count (Reg.CANn_RX_UNMATCHED n) := by
  have hguard : (!u.canOn n || (info.bit 4 && !u.regB (Reg.CANn_CTL n) 3) || decide (u.sclk < (u.can n).since + 10 * back)) = false := by
    rcases hf with hf | hf <;> simp [hc, hf, hs]
  unfold State.frameRx
  simp only [hguard, Nat.not_le.mpr hr, hv, ho, Bool.false_eq_true, if_false]

/-- What a frame leaves in the object that takes it. -/
theorem frameRx_taken {l : Nat} {lost : Bool} (ho : v.rxObj n (id.fld 29 0) = some k)
    (hl : (if info.bit 7 then 0 else canLen (info.bit 4) (info.fld 3 0)) = l)
    (hlost : ((sget {} (v.can n).objs k).lost || (sget {} (v.can n).objs k).fresh) = lost)
    (hw : v.setCan n { v.can n with objs := sput {} (v.can n).objs k { info := info &&& 0xFF, id := w32 (id.fld 29 0), ts := w32 (v.sclk / 10 - back), data := canWords bytes l, fresh := true, lost := lost } } = w)
    (hy : (if (sget {} (v.can n).objs k).fresh then (w.count (Reg.CANn_RX_LOSTCNT n)).raiseBit (31 + n) 1 else w) = y) :
    u.frameRx n id info back bytes = if y.regB (Reg.CANn_OBJk_CFG n k) 1 then y.raiseBit (31 + n) 0 else y := by
  have hguard : (!u.canOn n || (info.bit 4 && !u.regB (Reg.CANn_CTL n) 3) || decide (u.sclk < (u.can n).since + 10 * back)) = false := by
    rcases hf with hf | hf <;> simp [hc, hf, hs]
  unfold State.frameRx
  simp only [hguard, Nat.not_le.mpr hr, hv, ho, hl, hlost, hw, hy, Bool.false_eq_true, if_false]

end

theorem rxSel_of {x : CanObj} {a : Word} (ha : a.toNat < 64) (hk : a.toNat = k) (hx : sget {} (u.can n).objs k = x)
    (hw : ((((u.setReg (Reg.CANn_RX_SEL n) (w32 k)).setReg (Reg.CANn_RX_INFO n) ((x.info.setBit 8 x.fresh).setBit 9 x.lost)).setReg (Reg.CANn_RX_ID n) x.id).setReg (Reg.CANn_RX_TS n) x.ts) = w) :
    u.rxSel n a = ((List.range 16).foldl (fun s i => s.setReg (Reg.CANn_RX_DATAi n i) (item x.data i)) w).setCan n { u.can n with objs := sput {} (u.can n).objs k { x with fresh := false, lost := false } } := by
  have hself : a.fld 5 0 = k := (fld_low_of_lt ha).trans hk
  subst hw hx
  simp only [State.rxSel, hself]

theorem rxSel_write {dt m : Nat} {a : Word} {s : State} (hu : s.toWrite dt m (Reg.CANn_RX_SEL n) a = u) (hn : n < 2)
    (ho : u.opens m true (Reg.CANn_RX_SEL n) = true) (ha : a.toNat < 64) : exec (.canRxSel dt m n a) s = .next (u.rxSel n a) :=
  (exec_canRxSel ..).trans ((writeAfter_eq_single hu).trans (congrArg Host.Outcome.next
    ((writesAs_rxSel hn).single ho (and_not_eq_zero_of_lt (mask := 0x3F) (k := 6) (by decide) ha))))

end

/-! ### Bus state (R353) -/

section
variable {u w t : State} {n lec tec rc : Nat}

theorem busOff_enters (hc : u.hasCan n = true) (hm : u.canMode n ≠ 0) (hb : u.canBus n < 2) : u.busOff n = u.enterBusOff n :=
  if_neg (by simp [hc, hm, hb])

theorem busOff_none (h : u.hasCan n = false ∨ u.canMode n = 0 ∨ 2 ≤ u.canBus n) : u.busOff n = u := by
  refine if_pos ?_
  rcases h with h | h | h <;> simp [h]

theorem enterBusOff_of (hw : ((u.countF (Reg.CANn_ERRCNT n) 31 16 1).setRegF (Reg.CANn_ERR n) 7 0 255).setCanBus n 2 = w) :
    u.enterBusOff n = if w.regB (Reg.CANn_CTL n) 2 then w.setCanBus n 3 else w := by
  subst hw
  rfl

theorem busBack_recovers (hc : u.hasCan n = true) (hb : u.canBus n = 3) : u.busBack n = (u.setCanBus n 0).setCounts n 0 0 :=
  if_pos (by simp [hc, hb])

theorem busBack_none (hb : u.canBus n ≠ 3) : u.busBack n = u := if_neg (by simp [hb])

theorem busError_counts (hc : u.canOn n = true) (h1 : 1 ≤ lec) (h6 : lec ≤ 6)
    (hw : (u.countF (Reg.CANn_ERRCNT n) 15 0 1).setRegF (Reg.CANn_ERR n) 18 16 lec = w) :
    u.busError_ n lec tec rc = w.setCounts n (w.regF (Reg.CANn_ERR n) 7 0 + tec) (w.canRec n + rc) := by
  subst hw
  exact if_pos (by simp [hc, h1, h6])

theorem busError_off (hc : u.canOn n = false) : u.busError_ n lec tec rc = u := if_neg (by simp [hc])

theorem setCounts_of (ht : u.setReg (Reg.CANn_ERR n) ((((u.reg (Reg.CANn_ERR n)).setFld 7 0 (min 255 tec)).setFld 14 8 (min 127 rc)).setBit 15 (decide (128 ≤ rc))) = t) :
    u.setCounts n tec rc = if 2 ≤ t.canBus n then t else if 256 ≤ tec then t.enterBusOff n
      else t.setCanBus n (if 128 ≤ tec ∨ 128 ≤ rc then 1 else 0) := by
  subst ht
  unfold State.setCounts
  simp only [Bool.or_eq_true, decide_eq_true_eq]

end

/-- Settles O52: a frame goes to the object of its identifier, the window shows an object, and errors and bus-off move the
counters and the state. -/
theorem canReceiving : Obligations.CanReceiving := by
  refine ⟨?_, ?_, ?_, ?_, ?_, ?_, ?_, ?_, ?_, ?_, ?_, ?_, ?_, ?_⟩
  · exact fun dt n back id info bytes v s u hu hc hf hs hr hv ho =>
      (exec_canFrameRx ..).trans (next_of_afterEv (f := fun s => s.frameRx n id info back bytes) hu (frameRx_unmatched hc hf hs hr hv ho))
  · intro dt n back k id info bytes v w s u hu hc hf hs hr hv ho h7 hfresh hw hcfg
    refine (exec_canFrameRx ..).trans (next_of_afterEv (f := fun s => s.frameRx n id info back bytes) hu
      ((frameRx_taken hc hf hs hr hv ho (if_neg (by simp [h7])) (by rw [hfresh, Bool.or_false]) hw ?_).trans (if_neg (by simp [hcfg]))))
    exact if_neg (by rw [hfresh]; exact Bool.false_ne_true)
  · intro dt n back k id info bytes v w y s u hu hc hf hs hr hv ho h7 hfresh hw hy hcfg
    refine (exec_canFrameRx ..).trans (next_of_afterEv (f := fun s => s.frameRx n id info back bytes) hu
      ((frameRx_taken hc hf hs hr hv ho (if_neg (by simp [h7])) (by rw [hfresh, Bool.or_true]) hw ?_).trans (if_pos hcfg)))
    exact (if_pos hfresh).trans hy
  · exact fun dt n back id info bytes s u hu h =>
      (exec_canFrameRx ..).trans (next_of_afterEv (f := fun s => s.frameRx n id info back bytes) hu (frameRx_ignored h))
  · exact fun bytes len => ⟨canWords_length bytes len, fun k hk hl => canWords_beyond bytes hk hl⟩
  · exact fun dt m n k v x w s u hu hn ho hv hk hx hw =>
      (rxSel_write hu hn ho hv).trans (congrArg Host.Outcome.next (rxSel_of hv hk hx hw))
  · exact fun dt n s u hu hc hm hb => (exec_busOff ..).trans (next_of_after hu (busOff_enters hc hm hb))
  · exact fun s w n hw => enterBusOff_of hw
  · exact fun dt n s u hu h => (exec_busOff ..).trans (next_of_after hu (busOff_none h))
  · exact fun dt n s u hu hc hb => (exec_busOffRecovered ..).trans (next_of_after hu (busBack_recovers hc hb))
  · exact fun dt n s u hu hb => (exec_busOffRecovered ..).trans (next_of_after hu (busBack_none hb))
  · exact fun dt n lec tec rc w s u hu hc h1 h6 hw => (exec_canBusError ..).trans (next_of_after hu (busError_counts hc h1 h6 hw))
  · exact fun dt n lec tec rc s u hu hc => (exec_canBusError ..).trans (next_of_after hu (busError_off hc))
  · intro s t n tec rc ht
    have hof := setCounts_of ht
    exact ⟨fun hb hl => hof.trans ((if_neg (Nat.not_le.mpr hb)).trans (if_neg (by omega))),
      fun hb hl => hof.trans ((if_neg (Nat.not_le.mpr hb)).trans (if_pos hl)), fun hb => hof.trans (if_pos hb)⟩

end Sys2Proof.Proofs
end

section
/-!
PROOFS. What an access to the memories answers (15 R356 to R363) and how a refused posted write is told (R375 to R379).
-/
namespace Sys2Proof.Proofs
open Sys2Proof Sys2Proof.Machine

/-! ### The words of a span -/

theorem spanWords_one {addr len : Nat} (hl : 0 < len) (h : addr / 8 = (addr + len - 1) / 8) : spanWords addr len = [addr / 8 * 8] := by
  have hone : (addr + len + 7) / 8 - addr / 8 = 1 := by omega
  simp [spanWords, hone]

theorem spanWords_cons {addr len : Nat} (hl : 0 < len) : ∃ ws, spanWords addr len = addr / 8 * 8 :: ws := by
  obtain ⟨k, hk⟩ : ∃ k, (addr + len + 7) / 8 - addr / 8 = k + 1 := ⟨(addr + len + 7) / 8 - addr / 8 - 1, by omega⟩
  rw [spanWords, hk, List.range_succ_eq_map, List.map_cons, Nat.add_zero]
  exact ⟨_, rfl⟩

theorem spanPart_within {addr len : Nat} (hl : 0 < len) (h : addr / 8 = (addr + len - 1) / 8) :
    spanPart addr len (addr / 8 * 8) = (0, len) := by
  unfold spanPart
  exact Prod.ext (by dsimp only; omega) (by dsimp only; omega)

theorem pos_of_goodSpan {addr len : Nat} (h : goodSpan addr len = true) : 0 < len := by
  simp only [goodSpan, Bool.or_eq_true, Bool.and_eq_true, decide_eq_true_eq] at h
  omega

/-- A read of words without an error corrects and reports nothing. -/
theorem readWords_clean {u : State} {ws : List Nat} (h : ∀ w ∈ ws, u.eccAt w = 0) : u.readWords ws = (u, none) := by
  induction ws with
  | nil => rfl
  | cons w ws ih =>
    have hw : u.eccAt w = 0 := h w (List.mem_cons_self ..)
    unfold State.readWords
    simp only [hw]
    exact ih (fun x hx => h x (List.mem_cons_of_mem _ hx))

/-- A read stops at a first word that cannot be corrected. -/
theorem readWords_bad {u : State} {w : Nat} {ws : List Nat} (h : 2 ≤ u.eccAt w) : u.readWords (w :: ws) = (u.uncorrectable w, some w) := by
  obtain ⟨k, hk⟩ : ∃ k, u.eccAt w = k + 2 := ⟨u.eccAt w - 2, by omega⟩
  unfold State.readWords
  simp only [hk]

/-! ### Accesses that the checks pass -/

section
variable {u v : State} {m addr len : Nat} {w : Bool} {data : List Byte} {hits : List (Nat × Nat)}

theorem padded_self {n : Nat} (h : data.length = n) : (data ++ List.replicate n (0 : Byte)).take n = data := by
  subst h
  simp

theorem sramAccess_silent (h : u.issues m = false) : u.sramAccess m w addr len data hits = u := if_pos (by simp [h])

theorem sramAccess_badSpan (hi : u.issues m = true) (hg : goodSpan addr len = false) (hv : u.memViolation m w addr len = none) :
    u.sramAccess m w addr len data hits = u.misusedMemory 362 :=
  (if_neg (by simp [hi])).trans (if_pos (by simp [hg, hv]))

/-- The size of an access is no misuse where it is one of R361 and R362 or a check refuses the access first. -/
theorem span_used (hg : goodSpan addr len = true ∨ u.memViolation m w addr len ≠ none) :
    (!goodSpan addr len && decide (u.memViolation m w addr len = none)) = false := by
  rcases hg with hg | hg <;> simp [hg]

theorem sramAccess_data {t : State} {bs : List Byte} (hi : u.issues m = true) (hg : goodSpan addr len = true)
    (hx : u.memAccess m w addr len data = (t, .data bs)) :
    u.sramAccess m w addr len data [] = if w then t else t.emit (.memData m addr bs) := by
  unfold State.sramAccess
  simp only [hi, span_used (.inl hg), State.strike, List.foldl_nil, hx, Bool.not_true, Bool.false_eq_true, if_false]

theorem sramAccess_error {t : State} {x : MemAnswer} (hi : u.issues m = true)
    (hg : goodSpan addr len = true ∨ u.memViolation m w addr len ≠ none) (hx : u.memAccess m w addr len data = (t, x))
    (hno : ∀ bs, x ≠ .data bs) :
    u.sramAccess m w addr len data [] = if t.mem.notices = u.mem.notices then t.errorAnswer m addr w else t := by
  unfold State.sramAccess
  simp only [hi, span_used hg, State.strike, List.foldl_nil, hx, Bool.not_true, Bool.false_eq_true, if_false]

/-! Reads -/

theorem memAccess_read {t : State} {bs : List Byte} (h : u.memRead m addr len = (t, .data bs)) :
    u.memAccess m false addr len data = (t, .data bs) := by
  simp only [State.memAccess, Bool.false_eq_true, if_false, h]

theorem memRead_clean (hv : u.memViolation m false addr len = none) (he : ∀ x ∈ spanWords addr len, u.eccAt x = 0) :
    u.memRead m addr len = (u, .data (u.bytesAt addr len)) := by
  simp only [State.memRead, hv, readWords_clean he]

theorem sramAccess_read (hi : u.issues m = true) (hg : goodSpan addr len = true) (hv : u.memViolation m false addr len = none)
    (he : ∀ x ∈ spanWords addr len, u.eccAt x = 0) :
    u.sramAccess m false addr len data [] = u.emit (.memData m addr (u.bytesAt addr len)) :=
  (sramAccess_data hi hg (memAccess_read (memRead_clean hv he))).trans (if_neg Bool.false_ne_true)

theorem sramAccess_readBad (hi : u.issues m = true) (hg : goodSpan addr len = true) (hv : u.memViolation m false addr len = none)
    (he : 2 ≤ u.eccAt (addr / 8 * 8)) :
    u.sramAccess m false addr len data [] = (u.uncorrectable (addr / 8 * 8)).errorAnswer m addr false := by
  obtain ⟨ws, hws⟩ := spanWords_cons (addr := addr) (pos_of_goodSpan hg)
  have hread : u.memRead m addr len = (u.uncorrectable (addr / 8 * 8), .error (addr / 8 * 8)) := by
    simp only [State.memRead, hv, hws, readWords_bad he]
  have hacc : u.memAccess m false addr len data = (u.uncorrectable (addr / 8 * 8), .error (addr / 8 * 8)) := by
    simp only [State.memAccess, Bool.false_eq_true, if_false, hread, Bool.false_and]
  exact (sramAccess_error hi (.inl hg) hacc (fun _ => by simp)).trans (if_pos (by rw [State.uncorrectable_mem]))

/-! Writes inside one word of a bank that is awake -/

section
variable (hi : u.issues m = true) (hl : 0 < data.length) (hs : addr / 8 = (addr + data.length - 1) / 8)
  (hg : goodSpan addr data.length = true) (hv : u.memViolation m true addr data.length = none) (hw : u.wakeFor addr = u)
  (he : data.length = 8 ∨ u.eccAt (addr / 8 * 8) < 2)
include hi hl hs hg hv hw he

theorem sramAccess_write : u.sramAccess m true addr data.length data [] = (u.memWord addr data (addr / 8 * 8)).snoop addr data := by
  have hwords : u.writeWords addr data [addr / 8 * 8] = (u.memWord addr data (addr / 8 * 8), none) := by
    have hnone : [addr / 8 * 8].find? (fun x => decide ((spanPart addr data.length x).2 ≠ 8) && decide (2 ≤ u.eccAt x)) = none := by
      rw [List.find?_singleton, spanPart_within hl hs]
      refine if_neg ?_
      rcases he with he | he
      · simp [he]
      · simp [Nat.not_le.mpr he]
    simp only [State.writeWords, hnone, List.foldl_cons, List.foldl_nil]
  have hwrite : u.memWrite m addr data = ((u.memWord addr data (addr / 8 * 8)).snoop addr data, .data []) := by
    simp only [State.memWrite, hv, hw, spanWords_one hl hs, hwords]
  have hacc : u.memAccess m true addr data.length data = ((u.memWord addr data (addr / 8 * 8)).snoop addr data, .data []) := by
    simp only [State.memAccess, padded_self rfl, if_true, hwrite]
  exact (sramAccess_data hi hg hacc).trans (if_pos rfl)

end

theorem memWord_of (hl : 0 < data.length) (hs : addr / 8 = (addr + data.length - 1) / 8) : u.memWord addr data (addr / 8 * 8) =
    if data.length = 8 then ({ u with mem := u.mem.setBytes addr data } : State).setEcc (addr / 8 * 8) 0
    else if u.eccAt (addr / 8 * 8) = 0 then { u with mem := u.mem.setBytes addr data }
    else ({ u.corrected (addr / 8 * 8) with mem := (u.corrected (addr / 8 * 8)).mem.setBytes addr data } : State).setEcc (addr / 8 * 8) 0 := by
  unfold State.memWord
  simp only [spanPart_within hl hs, Nat.add_zero, List.drop_zero, List.take_length]

/-! ### Accesses that a check refuses -/

theorem memAccess_refused {k a : Nat} {p : Bool} (hv : u.memViolation m w addr len = some (k, a))
    (hp : p = (w && decide (k ≠ 1) && u.posted m addr len))
    (hu : (if p then { u with mem := { u.mem with notices := u.mem.notices ++ [⟨m, k, a, sizeCode len⟩] } } else u.violation m k w (sizeCode len) a) = v) :
    u.memAccess m w addr len data = (v, .violation k a) := by
  have hpad : ((data ++ List.replicate len (0 : Byte)).take len).length = len := length_padded data len
  have hstop : (if w = true then u.memWrite m addr ((data ++ List.replicate len (0 : Byte)).take len) else u.memRead m addr len) = (u, .violation k a) := by
    cases w
    · simp only [Bool.false_eq_true, if_false, State.memRead, hv]
    · simp only [if_true, State.memWrite, hpad, hv]
  subst hu hp
  simp only [State.memAccess, hstop]
  split <;> rfl

theorem sramAccess_refused {k a : Nat} {p : Bool} (hi : u.issues m = true) (hv : u.memViolation m w addr len = some (k, a))
    (hp : p = (w && decide (k ≠ 1) && u.posted m addr len))
    (hu : (if p then { u with mem := { u.mem with notices := u.mem.notices ++ [⟨m, k, a, sizeCode len⟩] } } else u.violation m k w (sizeCode len) a) = v) :
    u.sramAccess m w addr len data [] = if p then v else v.errorAnswer m addr w := by
  refine (sramAccess_error hi (.inr (by simp [hv])) (memAccess_refused hv hp hu) (fun _ => by simp)).trans ?_
  subst hu
  cases p
  · exact if_pos (by rw [if_neg Bool.false_ne_true, State.violation_mem])
  · exact if_neg (by simp)

end

/-! ### Imprecise notices (R379) -/

section
variable {u v w : State} {x : Notice} {l : List Notice}

theorem imprecise_none (h : u.mem.notices = []) : u.imprecise = u := by simp only [State.imprecise, h]

theorem imprecise_cons (h : u.mem.notices = x :: l)
    (hv : (if x.kind = 0 then ({ u with mem := { u.mem with notices := l } } : State) else ({ u with mem := { u.mem with notices := l } } : State).violation x.master x.kind true x.size x.addr) = v)
    (hw : (if (v.count Reg.MPU_IMP_CNT).regB Reg.MPU_IMP_STS 0 then (v.count Reg.MPU_IMP_CNT).setRegB Reg.MPU_IMP_STS 1 true else ((v.count Reg.MPU_IMP_CNT).setReg Reg.MPU_IMP_STS (w32 (1 + x.master % 256 * 2 ^ 8 + x.kind * 2 ^ 16))).setReg64 Reg.MPU_IMP_ADDR_LO Reg.MPU_IMP_ADDR_HI x.addr) = w) :
    u.imprecise = (w.raiseBit 33 4).busError x.master := by
  subst hv hw
  simp only [State.imprecise, h]

theorem answerNotices_none {p : Notice → Bool} (h : u.mem.notices = []) : u.answerNotices p = u := by
  calc u.answerNotices p = { u with mem := { u.mem with notices := [] } } := by simp [State.answerNotices, h]
    _ = u := by rw [← h]

/-- The read of MPU_SYNC answers the notices of its master first, and shows the generation. -/
theorem mpuSync_read {dt m : Nat} {s : State} (hu : s.toRead dt m Reg.MPU_SYNC = u) (ho : u.opens m false Reg.MPU_SYNC = true)
    (hf : u.flipsAt Reg.MPU_SYNC = (0, 0, 0)) (hn : u.mem.notices = []) :
    exec (.mpuSync dt m) s = .next (u.emit (.readData m Reg.MPU_SYNC (w32 u.mp.gen))) := by
  obtain ⟨d, hd, htag, hlive⟩ : ∃ d, regAt Reg.MPU_SYNC = some (d, 0, 0) ∧ d.tag = .MPU_SYNC ∧ d.live = 0xFFFFFFFF :=
    ⟨_, rfl, rfl, rfl⟩
  have hread : u.readReg m d 0 0 Reg.MPU_SYNC = (w32 u.mp.gen, u) := by
    obtain ⟨tag, _, _, _, _, _, _, _, _, live, _⟩ := d
    cases htag
    cases hlive
    unfold State.readReg
    rw [vote_of_agree hf]
    dsimp only
    rw [answerNotices_none hn]
    exact Prod.ext (and_eq_self_of_lt (mask := 0xFFFFFFFF) (k := 32) (by decide) (w32 u.mp.gen).isLt) rfl
  refine (exec_mpuSync ..).trans ((readAfter_eq_single hu).trans (congrArg _ ((single_read ho hd).trans ?_)))
  rw [hread]

end

/-- Settles O53: an access that the checks pass reads or stores the bytes of its span, and one that a check refuses
performs nothing and is answered or told. -/
theorem memoryAccesses : Obligations.MemoryAccesses := by
  refine ⟨?_, ?_, ?_, ?_, ?_, ?_, ?_, ?_, ?_, ?_⟩
  · exact fun dt m addr len s u hu hi hg hv he =>
      (exec_sramAccess ..).trans (next_of_afterEv hu (sramAccess_read hi hg hv he))
  · intro dt m addr data s u v hu hi ha hl hv hw ht
    have hword : addr / 8 * 8 = addr := by omega
    have hone : addr / 8 = (addr + data.length - 1) / 8 := by omega
    have hpos : 0 < data.length := by omega
    rw [← hl] at hu hv ⊢
    refine (exec_sramAccess ..).trans (next_of_afterEv hu ((sramAccess_write hi hpos hone (by simp [goodSpan, hl]) hv hw (.inl hl)).trans ?_))
    rw [memWord_of hpos hone, if_pos hl, hword, ht]
  · intro dt m addr data s u hu hi hl hone hv hw he
    have hpos : 0 < data.length := by omega
    have h8 : data.length ≠ 8 := by omega
    have hg : goodSpan addr data.length = true := by rcases hl with hl | hl | hl <;> simp [goodSpan, hl]
    refine (exec_sramAccess ..).trans (next_of_afterEv hu ((sramAccess_write hi hpos hone hg hv hw (.inr (by omega))).trans ?_))
    rw [memWord_of hpos hone, if_neg h8, if_pos he]
  · exact fun dt m addr len s u hu hi hg hv he =>
      (exec_sramAccess ..).trans (next_of_afterEv hu (sramAccess_readBad hi hg hv he))
  · exact fun dt m addr len k a w p data s u v hu hi hv _ hp ht =>
      (exec_sramAccess ..).trans (next_of_afterEv hu (sramAccess_refused hi hv hp ht))
  · exact fun dt m addr len w data hits s u hu hi hg hv =>
      (exec_sramAccess ..).trans (next_of_afterEv hu (sramAccess_badSpan hi hg hv))
  · exact fun dt m addr len w data hits s u hu hi => (exec_sramAccess ..).trans (next_of_afterEv hu (sramAccess_silent hi))
  · exact fun dt s u hu h => (exec_impreciseNotice ..).trans (next_of_after hu (imprecise_none h))
  · exact fun dt x l v w s u hu h hv hw => (exec_impreciseNotice ..).trans (next_of_after hu (imprecise_cons h hv hw))
  · exact fun dt m s u hu ho hf hn => mpuSync_read hu ho hf hn

end Sys2Proof.Proofs
end

section
/-!
PROOFS. Owners, retention, scrubbing and testing of banks (15 R357 to R368, R371) and locks (R369, R370).
-/
namespace Sys2Proof.Proofs
open Sys2Proof Sys2Proof.Machine

/-! ### Owners (R358) -/

section
variable {u : State} {dt m n : Nat} {x : Word} {s : State}

theorem ownWrite_taken (hb : u.bankState n ≠ 3) (h : u.owner n = m ∨ m = 1 ∨ (u.owner n = 0 ∧ x.fld 7 0 = m)) :
    u.ownWrite m n x = some (u.setOwner n (x.fld 7 0)) := by
  refine if_neg ?_
  rcases h with h | h | ⟨h0, hm⟩
  · simp [hb, h]
  · simp [hb, h]
  · simp [hb, h0, hm]

theorem ownWrite_refused (h : u.bankState n = 3 ∨ (u.owner n ≠ m ∧ m ≠ 1 ∧ (u.owner n ≠ 0 ∨ x.fld 7 0 ≠ m))) : u.ownWrite m n x = none := by
  refine if_pos ?_
  rcases h with h | ⟨ho, h1, h0 | h0⟩
  · simp [h]
  · simp [ho, h1, h0]
  · simp [ho, h1, h0]

theorem writeOwner_good (hn : u.mem.notices = []) (hg : u.goodOwner (x.fld 7 0) = true) (ho : u.ownWrite m n x = some (u.setOwner n (x.fld 7 0))) :
    u.writeOwner m n (Reg.BNK_OWN n) x = u.setOwner n (x.fld 7 0) := by
  unfold State.writeOwner
  simp only [hg, answerNotices_none hn, ho, Bool.not_true, Bool.false_eq_true, if_false, Option.getD_some]

theorem writeOwner_bad (hg : u.goodOwner (x.fld 7 0) = false) : u.writeOwner m n (Reg.BNK_OWN n) x = u.misused 358 (Reg.BNK_OWN n) :=
  if_pos (by simp [hg])

section
variable (hu : s.toWrite dt m (Reg.BNK_OWN n) x = u) (hn : n < 24) (ho : u.opens m true (Reg.BNK_OWN n) = true)
include hu hn ho

theorem bnkOwn_write {t : State} (hx : x.toNat < 256) (ht : u.ownWrite m n x = some t) :
    exec (.bnkOwnWrite dt m n x) s = .next (u.writeOwner m n (Reg.BNK_OWN n) x) :=
  (exec_bnkOwnWrite ..).trans ((writeAfter_eq_single hu).trans (congrArg Host.Outcome.next
    ((writesAs_bnkOwn hn).single_of_granted ho (if_neg (by simp [ht])) (and_not_eq_zero_of_lt (mask := 0xFF) (k := 8) (by decide) hx))))

theorem bnkOwn_refused (ht : u.ownWrite m n x = none) :
    exec (.bnkOwnWrite dt m n x) s =
      .next (if m = 0x42 then { u with mem := { u.mem with notices := u.mem.notices ++ [⟨m, 2, Reg.BNK_OWN n, 2⟩] } }
        else (u.violation m 2 true 2 (Reg.BNK_OWN n)).errorAnswer m (Reg.BNK_OWN n) true) := by
  have hrefused := (writesAs_bnkOwn hn).access_refused ho (k := 2) (v := x) (if_pos (by simp [ht]))
  refine (exec_bnkOwnWrite ..).trans ((writeAfter_eq_single hu).trans (congrArg Host.Outcome.next ?_))
  unfold State.single
  rw [hrefused]
  by_cases hm : m = 0x42
  · simp [hm, State.refuse, hm ▸ issues_of_opens ho]
  · simp [hm, State.refuse, issues_of_opens ho]

end

/-! ### Retention and wake (R368) -/

theorem bankCtl_sleeps {w : State} (hm : m = 1 ∨ (u.owner n = m ∧ m ≠ 0)) (hb : u.bankState n ≠ 3) (hw : u.setReg (Reg.BNK_CTL n) 7 = w) :
    u.bankCtl m n 7 = some ((w.setRegF (Reg.BNK_BSTS n) 1 0 1).setRegB Reg.BNK_RET_MAP n true) := by
  have hbit : (7 : Word).bit 0 = true := by decide
  have hmask : (7 : Word) &&& 7 = 7 := by decide
  subst hw
  unfold State.bankCtl
  refine (if_neg ?_).trans ?_
  · rcases hm with hm | ⟨hm, h0⟩
    · simp [hm]
    · simp [hm, h0]
  · simp only [hb, if_false, hmask, hbit, if_true]

theorem bankCtl_wakes {w : State} (hm : m = 1 ∨ (u.owner n = m ∧ m ≠ 0)) (hb : u.bankState n = 1) (hw : u.setReg (Reg.BNK_CTL n) 6 = w) :
    u.bankCtl m n 6 = some (w.wakeBank n) := by
  have hbit : (6 : Word).bit 0 = false := by decide
  have hmask : (6 : Word) &&& 7 = 6 := by decide
  have h3 : (1 : Nat) ≠ 3 := by decide
  subst hw
  unfold State.bankCtl
  refine (if_neg ?_).trans ?_
  · rcases hm with hm | ⟨hm, h0⟩
    · simp [hm]
    · simp [hm, h0]
  · simp only [hb, h3, if_false, hmask, hbit, Bool.false_eq_true, if_true]

theorem bankCtl_write {t : State} (hu : s.toWrite dt m (Reg.BNK_CTL n) x = u) (hn : n < 24) (ho : u.opens m true (Reg.BNK_CTL n) = true)
    (hx : x &&& ~~~(7 : Word) = 0) (ht : u.bankCtl m n x = some t) : writeAfter dt m (Reg.BNK_CTL n) x s = .next t :=
  (writeAfter_eq_single hu).trans (congrArg Host.Outcome.next
    (((writesAs_bnkCtl hn).single_of_granted ho (if_neg (by simp [ht])) hx).trans (by rw [ht]; rfl)))

theorem wakeDone_due {t : Nat} (hb : u.bankState n = 2) (hw : sget none u.mem.wake n = some t) (ht : t ≤ u.sclk) :
    u.wakeDone n = ((({ u with mem := { u.mem with wake := sput none u.mem.wake n none } } : State).setRegF (Reg.BNK_BSTS n) 1 0 0).setRegB Reg.BNK_RET_MAP n false).raiseBit 33 3 := by
  simp only [State.wakeDone, hb, hw, ht, if_true]

theorem wakeDone_none (h : u.bankState n ≠ 2 ∨ sget none u.mem.wake n = none) : u.wakeDone n = u := by
  unfold State.wakeDone
  split
  · rename_i t hb hw
    rcases h with h | h
    · exact absurd hb h
    · rw [h] at hw
      cases hw
  · rfl

end

/-! ### Scrubber, background test and patrol (R364 to R367, R371) -/

section
variable {u v w : State} {n k a : Nat} {b : Bool}

theorem scrubWord_none (h : u.bankState n ≠ 0 ∨ u.regB (Reg.BNK_CTL n) 2 = false ∨ u.domainOn 7 = false) : u.scrubWord n = u := by
  refine if_pos ?_
  rcases h with h | h | h <;> simp [h]

theorem scrubRead_of : u.scrubRead n a = if u.eccAt a = 0 then u else if u.eccAt a = 1 then u.corrected a
    else u.scrubFinding n ((a - (sramBase + n * 2 ^ 21)) / 1024) := by
  unfold State.scrubRead
  rcases he : u.eccAt a with _ | _ | e
  · rfl
  · rfl
  · simp

section
variable (hb : u.bankState n = 0) (hc : u.regB (Reg.BNK_CTL n) 2 = true) (hd : u.domainOn 7 = true)
include hb hc hd

theorem scrubWord_of (hk : sget 0 u.mem.scrub n = k)
    (hv : ({ u with mem := { u.mem with scrub := sput 0 u.mem.scrub n ((k + 1) % 262144) } } : State) = v) :
    u.scrubWord n = if k + 1 < 262144 then v.scrubRead n (sramBase + n * 2 ^ 21 + 8 * k)
      else (v.scrubRead n (sramBase + n * 2 ^ 21 + 8 * k)).scrubPassed n := by
  subst hk hv
  exact if_neg (by simp [hb, hc, hd])

theorem scrubWord_within (hk : sget 0 u.mem.scrub n = k) (hlt : k + 1 < 262144)
    (hv : ({ u with mem := { u.mem with scrub := sput 0 u.mem.scrub n (k + 1) } } : State) = v) :
    u.scrubWord n = v.scrubRead n (sramBase + n * 2 ^ 21 + 8 * k) := by
  refine (scrubWord_of hb hc hd hk ?_).trans (if_pos hlt)
  rw [Nat.mod_eq_of_lt hlt]
  exact hv

theorem scrubWord_last (hk : sget 0 u.mem.scrub n = 262143)
    (hv : ({ u with mem := { u.mem with scrub := sput 0 u.mem.scrub n 0 } } : State).scrubRead n (sramBase + n * 2 ^ 21 + 8 * 262143) = v) :
    u.scrubWord n = v.scrubPassed n := by
  subst hv
  exact (scrubWord_of hb hc hd hk rfl).trans (if_neg (by decide))

end

theorem finding_again {row src : Nat} (hf : u.regB (Reg.BNK_BSTS n) 2 = true) (hr : u.regF (Reg.BNK_FIND n) 10 0 = row) :
    u.finding n row src = u.retireBank n := if_pos (by simp [hf, hr])

theorem testRegion_none (h : u.bankState n ≠ 0 ∨ u.regB (Reg.BNK_CTL n) 1 = false ∨ u.domainOn 7 = false) : u.testRegion n b = u := by
  refine if_pos ?_
  rcases h with h | h | h <;> simp [h]

theorem testRegion_of {g : Nat} (hb : u.bankState n = 0) (hc : u.regB (Reg.BNK_CTL n) 1 = true) (hd : u.domainOn 7 = true)
    (hg : u.regF (Reg.BNK_BGT n) 14 0 = g)
    (hw : (u.readRegion (sramBase + n * 2 ^ 21 + 64 * g)).setRegF (Reg.BNK_BGT n) 14 0 ((g + 1) % 32768) = w)
    (hv : (if g + 1 < 32768 then w else w.setRegF (Reg.BNK_BGT n) 31 16 ((w.regF (Reg.BNK_BGT n) 31 16 + 1) % 65536)) = v) :
    u.testRegion n b = if b then v.finding n (g / 16) 2 else v := by
  subst hg hw hv
  exact if_neg (by simp [hb, hc, hd])

theorem patrolBurst_none (h : u.regB Reg.BNK_LPD_STS 1 = false ∨ u.domainOn 8 = false) : u.patrolBurst = u := by
  refine if_pos ?_
  rcases h with h | h <;> simp [h]

/-- A burst without an error moves the patrol on. -/
theorem patrolBurst_clean {p : Nat} (hs : u.regB Reg.BNK_LPD_STS 1 = true) (hd : u.domainOn 8 = true) (hp : u.mem.patrol = p)
    (he : ∀ k < 8, u.eccAt (lpdBase + p * 64 + k * 8) = 0) :
    u.patrolBurst = { u with mem := { u.mem with patrol := (p + 1) % 2 ^ 27 } } := by
  subst hp
  refine (if_neg (by simp [hs, hd])).trans (foldl_of_fixed _ fun k hk => ?_)
  have hk' : ({ u with mem := { u.mem with patrol := (u.mem.patrol + 1) % 2 ^ 27 } } : State).eccAt (lpdBase + u.mem.patrol * 64 + k * 8) = 0 :=
    he k (List.mem_range.mp hk)
  simp only [hk']

end

/-! ### Locks (R369, R370) -/

section
variable {u t : State} {dt m i : Nat} {x y : Word} {s : State}

theorem lockRead_free (h : u.regF (Reg.LCK_i i) 7 0 = 0) : u.lockRead m i = (w32 (m + 2 ^ 30), u.setReg (Reg.LCK_i i) (w32 m)) := if_pos h

theorem lockRead_held (h : u.regF (Reg.LCK_i i) 7 0 = m) (h0 : m ≠ 0) : u.lockRead m i = (w32 (m + 3 * 2 ^ 30), u) := by
  subst h
  exact (if_neg h0).trans (if_pos rfl)

theorem lockRead_other (h : u.regF (Reg.LCK_i i) 7 0 ≠ m) (h0 : u.regF (Reg.LCK_i i) 7 0 ≠ 0) :
    u.lockRead m i = (w32 (u.regF (Reg.LCK_i i) 7 0 + 2 * 2 ^ 30), u) :=
  (if_neg h0).trans (if_neg h)

theorem lckRead_eq (hu : s.toRead dt m (Reg.LCK_i i) = u) (hi : i < 64) (ho : u.opens m false (Reg.LCK_i i) = true)
    (hf : u.flipsAt (Reg.LCK_i i) = (0, 0, 0)) (hr : u.lockRead m i = (y, t)) :
    exec (.lckRead dt m i) s = .next (t.emit (.readData m (Reg.LCK_i i) y)) := by
  have hread : u.readReg m lockRow i 0 (Reg.LCK_i i) = (y, t) := by
    unfold State.readReg
    rw [vote_of_agree hf]
    exact hr
  refine (exec_lckRead ..).trans ((readAfter_eq_single hu).trans (congrArg _ ((single_read ho (regAt_lock i hi)).trans ?_)))
  rw [hread]

theorem lockWrite_release (h : u.regF (Reg.LCK_i i) 7 0 = m) (h0 : m ≠ 0) : u.lockWrite m i 1 = u.setReg (Reg.LCK_i i) 0 := by
  have hbit : (1 : Word).bit 0 = true := by decide
  refine if_pos ?_
  rw [hbit, h]
  simp [h0]

theorem lockWrite_notHolder (h : u.regF (Reg.LCK_i i) 7 0 ≠ m ∨ m = 0) : u.lockWrite m i 1 = u.count Reg.BNK_LCK_BADREL := by
  have hbit : (1 : Word).bit 1 = false := by decide
  refine if_neg ?_
  rw [hbit]
  rcases h with h | h
  · simp [h]
  · simp +contextual [h]

theorem lockWrite_force : u.lockWrite 1 i 2 = u.setReg (Reg.LCK_i i) 0 := by
  have hbit : (2 : Word).bit 1 = true := by decide
  unfold State.lockWrite
  simp only [hbit, Bool.true_and, decide_true, Bool.or_true, if_true]

theorem lockWrite_noForce (h : m ≠ 1) : u.lockWrite m i 2 = u.count Reg.BNK_LCK_BADREL := by
  have hbit : (2 : Word).bit 0 = false := by decide
  refine if_neg ?_
  rw [hbit]
  simp [h]

theorem lock_write (hu : s.toWrite dt m (Reg.LCK_i i) x = u) (hi : i < 64) (ho : u.opens m true (Reg.LCK_i i) = true)
    (hx : x &&& ~~~(0xC00000FF : Word) = 0) : writeAfter dt m (Reg.LCK_i i) x s = .next (u.lockWrite m i x) :=
  (writeAfter_eq_single hu).trans (congrArg Host.Outcome.next ((writesAs_lock hi).single ho hx))

end

/-- Settles O54: a bank changes its owner, sleeps and wakes by a write of its owner or the MP, its scrubber and tester take
the next word and region, and a lock is given to the first that reads it. -/
theorem banksAndLocks : Obligations.BanksAndLocks := by
  refine ⟨?_, ?_, ?_, ?_, ?_, ?_, ?_, ?_, ?_, ?_, ?_, ?_, ?_, ?_, ?_, ?_, ?_, ?_, ?_, ?_, ?_, ?_, ?_⟩
  · exact fun dt m n v s u hu hn ho hv hno hb h hg => (bnkOwn_write hu hn ho hv (ownWrite_taken hb h)).trans
      (congrArg Host.Outcome.next (writeOwner_good hno hg (ownWrite_taken hb h)))
  · exact fun dt m n v s u hu hn ho hv ⟨hb, h⟩ hg => (bnkOwn_write hu hn ho hv (ownWrite_taken hb h)).trans
      (congrArg Host.Outcome.next (writeOwner_bad hg))
  · exact fun dt m n v s u hu hn ho h => bnkOwn_refused hu hn ho (ownWrite_refused h)
  · exact fun dt m n w s u hu hn ho hm hb hw =>
      (exec_bankRetention ..).trans (bankCtl_write hu hn ho (by decide) (bankCtl_sleeps hm hb hw))
  · intro dt m n w v s u hu hn ho hm hb hw hv
    subst hv
    exact (exec_bankWake ..).trans (bankCtl_write hu hn ho (by decide) (bankCtl_wakes hm hb hw))
  · intro dt n t s u hu hn hb hw ht
    rw [exec_wakeDone, execWakeDone, Nat.mod_eq_of_lt hn]
    exact next_of_after (f := fun s => s.wakeDone n) hu (wakeDone_due hb hw ht)
  · intro dt n s u hu hn h
    rw [exec_wakeDone, execWakeDone, Nat.mod_eq_of_lt hn]
    exact next_of_after (f := fun s => s.wakeDone n) hu (wakeDone_none h)
  · intro dt n hits v s u hu hn hv h
    rw [exec_scrub, execScrub]
    rw [Nat.mod_eq_of_lt hn] at hu ⊢
    exact next_of_afterEv (f := fun s => (s.strike hits).scrubWord n) hu (hv ▸ scrubWord_none (hv ▸ h))
  · intro dt n w hits x v s u hu hn hx hb hc hd hw hlt hv
    have hrow : (sramBase + n * 2 ^ 21 + 8 * w - (sramBase + n * 2 ^ 21)) / 1024 = w * 8 / 1024 := by
      rw [Nat.add_sub_cancel_left, Nat.mul_comm]
    rw [exec_scrub, execScrub]
    rw [Nat.mod_eq_of_lt hn] at hu ⊢
    refine next_of_afterEv (f := fun s => (s.strike hits).scrubWord n) hu ?_
    rw [hx, scrubWord_within hb hc hd hw hlt hv, scrubRead_of, hrow]
  · intro dt n hits x v s u hu hn hx hb hc hd hw hv
    rw [exec_scrub, execScrub]
    rw [Nat.mod_eq_of_lt hn] at hu ⊢
    refine next_of_afterEv (f := fun s => (s.strike hits).scrubWord n) hu ?_
    rw [hx, scrubWord_last hb hc hd hw hv]
  · exact fun s n row src hf hr => finding_again hf hr
  · intro dt n b s u hu hn h
    rw [exec_backgroundTest, execBackgroundTest]
    rw [Nat.mod_eq_of_lt hn] at hu ⊢
    exact next_of_afterEv (f := fun s => s.testRegion n b) hu (testRegion_none h)
  · intro dt n g b w v s u hu hn hb hc hd hg hw hlt hv
    have hg1 : g + 1 < 32768 := by omega
    rw [exec_backgroundTest, execBackgroundTest]
    rw [Nat.mod_eq_of_lt hn] at hu ⊢
    refine next_of_afterEv (f := fun s => s.testRegion n b) hu (testRegion_of hb hc hd hg ?_ (if_pos hg1))
    rw [hw, Nat.mod_eq_of_lt hg1, hv]
  · intro dt n b x w v s u hu hn hb hc hd hg hx hw hv
    rw [exec_backgroundTest, execBackgroundTest]
    rw [Nat.mod_eq_of_lt hn] at hu ⊢
    refine next_of_afterEv (f := fun s => s.testRegion n b) hu (testRegion_of hb hc hd hg ?_ ((if_neg (by decide)).trans hv))
    rw [hx]
    exact hw
  · exact fun dt hits v s u hu hv h =>
      (exec_lpdPatrol ..).trans (next_of_after (f := fun s => (s.strike hits).patrolBurst) hu (hv ▸ patrolBurst_none (hv ▸ h)))
  · intro dt hits p v s u hu hv hs hd hp he
    refine (exec_lpdPatrol ..).trans (next_of_after (f := fun s => (s.strike hits).patrolBurst) hu ?_)
    dsimp only
    rw [hv, patrolBurst_clean hs hd hp he]
  · exact fun dt m i s u hu hi ho hf h => lckRead_eq hu hi ho hf (lockRead_free h)
  · exact fun dt m i s u hu hi ho hf ⟨h, h0⟩ => lckRead_eq hu hi ho hf (lockRead_held h h0)
  · exact fun dt m i s u hu hi ho hf ⟨h, h0⟩ => lckRead_eq hu hi ho hf (lockRead_other h h0)
  · exact fun dt m n s u hu hn ho h h0 => (exec_lockRelease ..).trans ((lock_write hu hn ho (by decide)).trans
      (congrArg Host.Outcome.next (lockWrite_release h h0)))
  · exact fun dt m n s u hu hn ho h => (exec_lockRelease ..).trans ((lock_write hu hn ho (by decide)).trans
      (congrArg Host.Outcome.next (lockWrite_notHolder h)))
  · intro dt m n s u hu hn ho hm
    subst hm
    exact (exec_lockForce ..).trans ((lock_write hu hn ho (by decide)).trans (congrArg Host.Outcome.next lockWrite_force))
  · exact fun dt m n s u hu hn ho hm => (exec_lockForce ..).trans ((lock_write hu hn ho (by decide)).trans
      (congrArg Host.Outcome.next (lockWrite_noForce hm)))

end Sys2Proof.Proofs
end

section
/-!
PROOFS. The majority vote of triplicated fields (02 R36, R37).
-/
namespace Sys2Proof.Proofs
open Sys2Proof Sys2Proof.Machine

/-! ### The registers that are triplicated -/

theorem findIn_mem {l : List RegDesc} {a : Nat} {d : RegDesc} {i j : Nat} (h : findIn l a = some (d, i, j)) : d ∈ l := by
  induction l with
  | nil => cases h
  | cons r l ih =>
    unfold findIn at h
    split at h
    · cases h
      exact List.mem_cons_self ..
    · exact List.mem_cons_of_mem _ (ih h)

theorem findReg_of_regAt {a : Nat} {x : RegDesc × Nat × Nat} (h : regAt a = some x) : findReg a = some x := by
  unfold regAt at h
  split at h
  · rename_i d i j hfind
    rw [hfind]
    split at h <;> simp_all
  · cases h

/-- The rows of a block are rows of the map, and the blocks end below the fields that no register shows. -/
theorem blockRows_spec {a : Nat} {d : RegDesc} (h : d ∈ blockRows a) : a < 0x200000 ∧ d ∈ regMap := by
  unfold blockRows at h
  split at h
  case h_20 => cases h
  all_goals exact ⟨by omega, by simp only [regMap, List.mem_append, h, true_or, or_true]⟩

theorem regMap_voted : ∀ d ∈ regMap, votedBits d.tag ≠ 0 → d.rc = 0 := by decide +kernel

section
variable {a i j : Nat} {d : RegDesc} (hd : regAt a = some (d, i, j))
include hd

theorem regAt_lt : a < 0x200000 := (blockRows_spec (findIn_mem (findReg_of_regAt hd))).1

theorem votedField_of_regAt : votedField a = some (votedBits d.tag, votedKey d.tag i j) := by
  unfold votedField
  rw [if_neg (Nat.not_le.mpr (regAt_lt hd)), hd]

variable (hb : votedBits d.tag ≠ 0)
include hb

theorem rc_of_voted : d.rc = 0 := regMap_voted d (blockRows_spec (findIn_mem (findReg_of_regAt hd))).2 hb

/-- A register whose row is not triplicated is not the triplicated one. -/
theorem ne_of_voted {c : Nat} {e : RegDesc} {k l : Nat} (hc : regAt c = some (e, k, l)) (he : votedBits e.tag = 0) : a ≠ c := by
  rintro rfl
  rw [hd] at hc
  cases hc
  exact hb he

end

/-- What a triplicated register shows depends on its value, on the active set, and for PAIR_ROLE on the slot. -/
theorem view_congr_voted {s t : State} {d : RegDesc} {i j a : Nat} (hb : votedBits d.tag ≠ 0) (hreg : t.reg a = s.reg a)
    (hset : t.cfgA = s.cfgA) (hrole : t.pairRole = s.pairRole) : t.view d i j a = s.view d i j a := by
  have hcw : ∀ cat item w, t.cw cat item w = s.cw cat item w := fun cat item w => congrArg (sget 0 · (cfgKey cat item w)) hset
  obtain ⟨tag, _, _, _, _, _, _, _, _, _, _⟩ := d
  unfold votedBits at hb
  unfold State.view
  dsimp only at hb ⊢
  refine congrArg (· &&& _) ?_
  split at hb
  case h_19 => exact absurd rfl hb
  all_goals split <;> first | exact hreg | exact hrole | exact hcw _ _ _

/-! ### A vote -/

/-- What an event does to the copies of the fields: it makes those of some fields agree. -/
def Agrees (s t : State) : Prop :=
  ∀ p : Sparse (Word × Word × Word) → Prop, (∀ m a, p m → p (sput (0, 0, 0) m a (0, 0, 0))) → p s.flips → p t.flips

theorem Agrees.trans {s t u : State} (h : Agrees s t) (h' : Agrees t u) : Agrees s u := fun p hp hs => h' p hp (h p hp hs)

theorem agrees_of_flips {s t : State} (h : t.flips = s.flips) : Agrees s t := fun _ _ hs => h ▸ hs

theorem agrees_setReg (s : State) (a : Nat) (w : Word) : Agrees s (s.setReg a w) := fun _ hp hs => hp _ _ hs

theorem agrees_signal (s : State) (v : Nat) : Agrees s (s.signal v) := by
  unfold State.signal
  split
  · exact agrees_of_flips rfl
  · exact agrees_setReg _ _ _

theorem agrees_raiseBit (s : State) (v i : Nat) : Agrees s (s.raiseBit v i) := by
  unfold State.raiseBit State.raise State.irqChange
  dsimp only
  split
  · exact (agrees_setReg _ _ _).trans (agrees_signal _ _)
  · exact agrees_setReg _ _ _

theorem Agrees.flips_nil {s t : State} (h : Agrees s t) (hs : s.flips = []) : t.flips = [] := by
  refine h (· = []) (fun m a hm => ?_) hs
  subst hm
  rfl

theorem Agrees.flipsAt {s t : State} (h : Agrees s t) {b : Nat} (hs : s.flipsAt b = (0, 0, 0)) : t.flipsAt b = (0, 0, 0) := by
  refine h (fun m => sget (0, 0, 0) m b = (0, 0, 0)) (fun m a hm => ?_) hs
  rw [sget_sput, hm, ite_self]

/-- The state after copies have been rewritten: the disagreement is counted, located at `w` and signalled. -/
def voted (s : State) (w : Word) : State := (((s.count Reg.SYS_TMR_CNT).setReg Reg.SYS_TMR_LAST w).tally 54 1).raiseBit 0 1

theorem agrees_voted (s : State) (w : Word) : Agrees s (voted s w) := by
  have hcount : Agrees s (s.count Reg.SYS_TMR_CNT) := agrees_setReg s Reg.SYS_TMR_CNT _
  have hlast := agrees_setReg (s.count Reg.SYS_TMR_CNT) Reg.SYS_TMR_LAST w
  have htally := agrees_of_flips (State.tally_flips ((s.count Reg.SYS_TMR_CNT).setReg Reg.SYS_TMR_LAST w) 54 1)
  exact ((hcount.trans hlast).trans htally).trans (agrees_raiseBit _ 0 1)

theorem voted_reg {s : State} {w : Word} {c : Nat} (hc : c ≠ Reg.SYS_TMR_CNT) (hl : c ≠ Reg.SYS_TMR_LAST) (hi : c ≠ Reg.SYS_IRQ_STS)
    (hp : c ≠ Reg.MSIX_PBA 0) : (voted s w).reg c = s.reg c := by
  unfold voted
  rw [raiseBit_reg _ hp, if_neg (show c ≠ (irqRegs 0).1 from hi), tally_reg, State.setReg_reg_ne _ hl, count_reg_ne _ hc]

theorem voted_last (s : State) (w : Word) : (voted s w).reg Reg.SYS_TMR_LAST = w := by
  unfold voted
  rw [raiseBit_reg _ (by decide), if_neg (by decide), tally_reg, State.setReg_reg, if_pos rfl]

theorem voted_count (s : State) (w : Word) :
    ((voted s w).reg Reg.SYS_TMR_CNT).toNat = satAdd 0xFFFFFFFF (s.reg Reg.SYS_TMR_CNT).toNat 1 := by
  unfold voted
  rw [raiseBit_reg _ (by decide), if_neg (by decide), tally_reg, State.setReg_reg_ne _ (by decide), count_reg_self]

theorem voted_irq (s : State) (w : Word) : (voted s w).regB Reg.SYS_IRQ_STS 1 = true := raiseBit_regB_self _ (by decide) (by decide)

theorem voted_cfgA (s : State) (w : Word) : (voted s w).cfgA = s.cfgA := by
  unfold voted
  rw [State.raiseBit_cfgA, State.tally_cfgA]
  rfl

theorem voted_rlat (s : State) (w : Word) : (voted s w).rlat = s.rlat := by
  unfold voted
  rw [State.raiseBit_rlat]
  rfl

/-- A vote makes the copies of its field agree, and no copies differ that agreed before. -/
theorem vote_flipsAt (s : State) (a b : Nat) (h : b = a ∨ s.flipsAt b = (0, 0, 0)) : (s.vote a).flipsAt b = (0, 0, 0) := by
  unfold State.vote
  split
  · rename_i hz
    rcases h with rfl | h
    · exact hz
    · exact h
  · have hclear : ({ s with flips := sput (0, 0, 0) s.flips a (0, 0, 0) } : State).flipsAt b = (0, 0, 0) := by
      refine (sget_sput (0, 0, 0) s.flips a b (0, 0, 0)).trans ?_
      rcases h with h | h
      · rw [if_pos h]
      · exact ite_eq_left_iff.mpr fun _ => h
    generalize ({ s with flips := sput (0, 0, 0) s.flips a (0, 0, 0) } : State) = c at hclear
    have hfield : (c.fieldAddr a).2.flipsAt b = (0, 0, 0) := by
      unfold State.fieldAddr
      split
      · exact hclear
      · exact hclear
    exact (agrees_voted _ _).flipsAt hfield

/-- Votes of a list of fields leave the copies of each of them in agreement. -/
theorem foldl_vote_flipsAt (l : List Nat) (s : State) (b : Nat) (h : b ∈ l ∨ s.flipsAt b = (0, 0, 0)) :
    (l.foldl State.vote s).flipsAt b = (0, 0, 0) := by
  induction l generalizing s with
  | nil => exact h.resolve_left (List.not_mem_nil)
  | cons a l ih =>
    refine ih _ ?_
    rcases h with h | h
    · rcases List.mem_cons.mp h with h | h
      · exact .inr (vote_flipsAt s a b (.inl h))
      · exact .inl h
    · exact .inr (vote_flipsAt s a b (.inr h))

theorem scrubVotes_flipsAt (s : State) (b : Nat) : s.scrubVotes.flipsAt b = (0, 0, 0) := by
  refine foldl_vote_flipsAt _ s b ?_
  by_cases hb : b ∈ s.flips.map (·.1)
  · exact .inl hb
  · exact .inr (sget_absent _ _ _ fun e he hx => hb (hx ▸ List.mem_map_of_mem he))

/-! ### An upset of one copy -/

section
variable {u : State} {a i j : Nat} {d : RegDesc} {x : Word} (hd : regAt a = some (d, i, j)) (hx : x &&& votedBits d.tag ≠ 0)
  (hf : u.flips = [])
include hd hx hf

/-- An upset of one copy changes no value, and is kept as what the copy differs in. -/
theorem upset_one : u.upset a x 0 0 = { u with flips := [(a, x &&& votedBits d.tag, 0, 0)] } := by
  have hnone : u.flipsAt a = (0, 0, 0) := by
    unfold State.flipsAt
    rw [hf]
    rfl
  have hne : ((x &&& votedBits d.tag, 0, 0) : Word × Word × Word) ≠ (0, 0, 0) := fun h => hx (congrArg Prod.fst h)
  have hand : ∀ k : Word, 0 &&& k = 0 := fun _ => BitVec.zero_and
  have hand' : ∀ k : Word, k &&& 0 = 0 := fun _ => BitVec.and_zero
  have hxor : ∀ k : Word, 0 ^^^ k = k := fun _ => BitVec.zero_xor
  have hxor' : ∀ k : Word, k ^^^ 0 = k := fun _ => BitVec.xor_zero
  have hor : (0 : Word) ||| 0 = 0 := rfl
  unfold State.upset
  simp only [votedField_of_regAt hd, hnone, hf, majority, hand, hand', hxor, hxor', hor, if_true, sput, hne, if_false, sins]

/-- The vote that follows undoes it, and counts it. -/
theorem vote_upset : (u.upset a x 0 0).vote a = voted u (w32 a) := by
  have hflip : ({ u with flips := [(a, x &&& votedBits d.tag, 0, 0)] } : State).flipsAt a ≠ (0, 0, 0) := by
    have hself : ({ u with flips := [(a, x &&& votedBits d.tag, 0, 0)] } : State).flipsAt a = (x &&& votedBits d.tag, 0, 0) := if_pos rfl
    rw [hself]
    exact fun h => hx (congrArg Prod.fst h)
  have hback : ({ u with flips := sput (0, 0, 0) [(a, x &&& votedBits d.tag, 0, 0)] a (0, 0, 0) } : State) = u := by
    have hdel : sput (0, 0, 0) [(a, x &&& votedBits d.tag, 0, 0)] a (0, 0, 0) = u.flips := by simp [sput, sdel, hf]
    rw [hdel]
  rw [upset_one hd hx hf]
  refine (if_neg hflip).trans ?_
  dsimp only
  rw [hback]
  unfold State.fieldAddr
  rw [if_pos (regAt_lt hd)]
  rfl

/-- What the vote of a triplicated register leaves as it was. -/
theorem voted_keeps (w : Word) : (voted u w).flips = [] ∧ (voted u w).reg a = u.reg a ∧ (voted u w).view d i j a = u.view d i j a := by
  have hb : votedBits d.tag ≠ 0 := fun h => hx (by rw [h]; exact BitVec.and_zero)
  have hreg : (voted u w).reg a = u.reg a :=
    voted_reg (ne_of_voted hd hb (c := Reg.SYS_TMR_CNT) rfl rfl) (ne_of_voted hd hb (c := Reg.SYS_TMR_LAST) rfl rfl)
      (ne_of_voted hd hb (c := Reg.SYS_IRQ_STS) rfl rfl) (ne_of_voted hd hb (c := Reg.MSIX_PBA 0) rfl rfl)
  have hrole : (voted u w).pairRole = u.pairRole := by
    unfold State.pairRole State.slotId State.regF
    rw [voted_reg (by decide) (by decide) (by decide) (by decide), voted_reg (by decide) (by decide) (by decide) (by decide)]
  exact ⟨(agrees_voted u w).flips_nil hf, hreg, view_congr_voted hb hreg (voted_cfgA u w) hrole⟩

end

/-- Whether an access gets through does not turn on the copies of fields. -/
theorem opens_flips (u : State) (f : Sparse (Word × Word × Word)) (m a : Nat) (w : Bool) : ({ u with flips := f } : State).opens m w a = u.opens m w a := rfl

/-- A latch is no copy of a field. -/
theorem latch_flips (s : State) (m : Nat) (as : List Nat) : (s.latch m as).flips = s.flips := by rw [latch_eq_rlat]

theorem latch_cfgA (s : State) (m : Nat) (as : List Nat) : (s.latch m as).cfgA = s.cfgA := by rw [latch_eq_rlat]

theorem latch_reg (s : State) (m : Nat) (as : List Nat) (c : Nat) : (s.latch m as).reg c = s.reg c := by rw [latch_eq_rlat]; rfl

/-- Settles O7: the copies that agree outvote the upset one, whose register is rewritten and the disagreement counted; a
scrub votes every field that differs. -/
theorem voteMasksOneCopy : Obligations.VoteMasksOneCopy := by
  refine ⟨?_, ?_, ?_⟩
  · intro dt m a x s u d i j hu hd hx hact hf ho
    have hb : votedBits d.tag ≠ 0 := fun h => hx (by rw [h]; exact BitVec.and_zero)
    have hup := upset_one hd hx hf
    have hread : exec (.votedRead dt m a x 0 0) s = .next ((u.upset a x 0 0).single m false a 0) := by
      subst hu
      rfl
    have ho' : (u.upset a x 0 0).opens m false a = true := by rw [hup, opens_flips, ho]
    rw [single_read ho' hd, readReg_plain hact, if_pos (rc_of_voted hd hb), vote_upset hd hx hf] at hread
    obtain ⟨hflips, hreg, hview⟩ := voted_keeps hd hx hf (w32 a)
    refine ⟨_, hread, ?_, ?_, ?_, ?_, ?_, ?_, ?_⟩
    · rw [voted_rlat, hview]
      rfl
    · rw [State.emit_flips, latch_flips, hflips]
    · rw [emit_reg, latch_reg, hreg]
    · rw [State.emit_cfgA, latch_cfgA, voted_cfgA]
    · rw [emit_reg, latch_reg, voted_last]
    · rw [emit_reg, latch_reg, voted_count]
    · rw [regB_eq, emit_reg, latch_reg, ← regB_eq, voted_irq]
  · intro dt a x s u d i j hu hd hx hf
    have hone : ([(a, x, 0, 0)] : List (Nat × Word × Word × Word)).foldl (fun (s : State) y => s.upset y.1 y.2.1 y.2.2.1 y.2.2.2) u = u.upset a x 0 0 := rfl
    have hscrub : (u.upset a x 0 0).scrubVotes = voted u (w32 a) := by
      refine Eq.trans ?_ (vote_upset hd hx hf)
      unfold State.scrubVotes
      rw [upset_one hd hx hf]
      rfl
    have hexec : exec (.tmrScrub dt [(a, x, 0, 0)]) s = .next (voted u (w32 a)) :=
      (exec_tmrScrub ..).trans (next_of_after hu ((congrArg State.scrubVotes hone).trans hscrub))
    obtain ⟨hflips, hreg, -⟩ := voted_keeps hd hx hf (w32 a)
    exact ⟨_, hexec, hflips, hreg, voted_cfgA .., voted_last .., voted_count .., voted_irq ..⟩
  · intro dt l s u v hu hv
    exact ⟨v.scrubVotes, (exec_tmrScrub ..).trans (next_of_after hu (congrArg State.scrubVotes hv)), rfl, scrubVotes_flipsAt v⟩

end Sys2Proof.Proofs
end
